-- ==== Sys2Proof/Word.lean ====
section
/-!
DEFINITION. The word types of the device. Every register is 32 bits wide and bits are numbered from 0 at the least
significant bit (R8); bytes stand in memory, in the window and in FCP payloads in little-endian order (R8).
-/
namespace Sys2Proof

/-- One byte. -/
abbrev Byte := BitVec 8

/-- One register or context word: 32 bits (R8). -/
abbrev Word := BitVec 32

end Sys2Proof
end

