-- ==== Sys2Proof/Syntax.lean ====
section
/-!
DEFINITION. The commands the block takes, and the types of their operands. Unit numbers are typed by the number of
units the manual gives (R14, Table 00.4).
-/
namespace Sys2Proof

/-- What a debug reset request asks for (R478). Blocks are numbered by Table 18.4. -/
inductive DbgReset where
  | system
  | supervisor
  | block (b : Fin 16)
  deriving DecidableEq, Repr

/-- Who asks for a Block reset (R485). -/
inductive BlockSrc where
  | fencen
  | debug
  | hlpWdt
  deriving DecidableEq, Repr

/-- Where a memory error that ECC or parity cannot correct is found (R124, R352, Table 18.8). -/
inductive MemSite where
  /-- Context RAM, byte offset in the RAM of context ctx. -/
  | cleRam (ctx : Fin 63) (off : Fin 256)
  /-- Coefficient memory. -/
  | coef (bankB : Bool) (tile : Fin 64)
  | hlpProg
  | hlpVar
  | svp
  /-- A buffer of the acquisition stream in LPDDR. -/
  | lpddrStream
  /-- Sample i of a trace channel's copy in LPDDR. -/
  | lpddrTrace (ch : Fin 8) (i : Nat)
  /-- Record n of the recorder ring. -/
  | lpddrRec (n : Nat)
  | pwmCfg
  | aon
  | island
  deriving DecidableEq, Repr

/-- The three PLLs (R460). -/
inductive Pll where
  | m
  | l
  | n
  deriving DecidableEq, Repr

/-- Sources that wake the device from Paddock (R474). -/
inductive WakeSrc where
  | pin
  | qspi
  | can0
  | can1
  | di (n : Fin 16)
  | alarm
  deriving DecidableEq, Repr

/-- Processors that debug can halt (R523). -/
inductive DbgCpu where
  | svp
  | cle
  | hlp
  deriving DecidableEq, Repr

/-- Tiled stores the scrubber checks, in the order of the store codes of EV_TILE_CRC (R498). -/
inductive TileStore where
  | bankA
  | bankB
  | hlp
  | sdProf
  | safety
  | config
  deriving DecidableEq, Repr

/-- Access paths to the Direct Register Window (R502). -/
inductive Path where
  | qspi
  | debug
  deriving DecidableEq, Repr

/-- Registers whose read latches a high word: PWM_PNUM_LO, TB_NS, REC_NEXT_LO and EVB_NEXT_LO (R509). -/
inductive HighLatch where
  | pnum
  | tb
  | record
  | block
  deriving DecidableEq, Repr

/-- The port section of a mirror record (Table 09.6). Values in pu are FP32 patterns. -/
structure MirrorPort where
  port : Fin 12
  state : Nat
  abort : Nat
  /-- Its legs switch. -/
  switching : Bool
  /-- theta in 2^-64 turn and omega in 2^-60 pu (R54). -/
  theta : Nat
  omega : Nat
  e : Word
  pf : Word
  qf : Word
  dP : Word
  dV : Word
  /-- RG0 periods of T_bump that remain. -/
  bumpLeft : Nat
  /-- Run-time values of the governor: D, R_v, X_v (R127). -/
  rtv : List Word
  /-- The governor's running ramp: fine steps that have passed and that remain, values at its start and targets. -/
  govRamp : Option (Nat × Nat × List Word × List Word)
  /-- RG0 periods in CURLIM, of the quiet time T_exit counts, and of the exit ramp while it runs. -/
  clPeriods : Nat
  quiet : Nat
  exitRamp : Option Nat
  run : Nat
  target : List Word
  slewed : List Word
  /-- The outer loop's integrator of a DC port: two words. -/
  integ : List Word
  deriving DecidableEq, Repr

/-- The context section of a mirror record (Table 09.6): ID, history counters and the words of its states. -/
structure MirrorCtx where
  ctx : Fin 63
  hist : List Nat
  words : List Word
  deriving DecidableEq, Repr

/-- What the SGR self-test of R304 reads back: direct-pin gate outputs that followed the test pattern at their internal points, lanes whose
symbol monitor saw the all-OFF HALT, and the GDEN pins while they are driven high and once they are low again. -/
structure SelfTest where
  gates : BitVec 48
  lanes : BitVec 6
  high : BitVec 6
  low : BitVec 6
  deriving DecidableEq, Repr

/-- The scheduled change a mirror header announces (R281). -/
inductive PairChange where
  /-- A new PERIOD, if there is one, and the divisors. -/
  | rate (period : Option Nat) (n1 n2 n3 : Nat)
  | swap
  /-- GDEN of these lanes goes low, or high again when `raise` is set. -/
  | gdClear (lanes : BitVec 6) (raise : Bool)
  deriving DecidableEq, Repr

/-- A verified mirror record (R289, Table 09.6). -/
structure MirrorRecord where
  /-- Pair period number of the RG0 boundary that ended its RG1 period. -/
  pnum : Nat
  gait : Nat
  period : Nat
  div : List Nat
  fmt : Nat
  cfgDigest : Word
  /-- The scheduled changes, each with its pair period number. -/
  changes : List (PairChange × Nat)
  handover : Option Nat
  /-- Index of the HLP slice, 0 to 63. -/
  slice : Nat
  hlpCycle : Nat
  /-- RETAIN_ID of the snapshot's program. -/
  retainId : Nat
  ports : List MirrorPort
  ctxs : List MirrorCtx
  /-- TB1 of the active unit at that boundary, and TB0, TB2 and TB3 minus TB1, in 2^-16 ns. -/
  tb1 : Nat
  tb0 : Int
  tb2 : Int
  tb3 : Int
  locked : Bool
  /-- Codes of active alarms. -/
  alarms : List Nat
  /-- 128 bytes of the retained-variable snapshot. -/
  hlp : List Byte
  deriving DecidableEq, Repr

/-- What the standby's status block carries (R287). -/
structure PeerStatus where
  state : Nat
  /-- NR bits, NR_HLP in bit 0 to NR_MIRROR in bit 7. -/
  nr : Byte
  gait : Nat
  cfgDigest : Word
  skew : Int
  deriving DecidableEq, Repr

/-- What a HELLO block carries (R286, Table 09.4). -/
structure Hello where
  fmtMajor : Nat
  unitId : Nat
  prio : Bool
  cfgDigest : Word
  deriving DecidableEq, Repr

/-- What a received Ethernet frame is, as far as Table 15.2 asks. -/
inductive RxKind where
  /-- A UDP datagram over IPv4, or a fragment of one (R387). -/
  | udp (src : BitVec 32) (srcPort dstPort : BitVec 16) (payload : List Byte) (fragment : Bool)
  /-- EtherType 0x88F7, and the PTP message behind it. -/
  | ptp (msg : List Byte)
  | arp
  /-- ICMP echo to the MAC's address. -/
  | echo
  | other
  deriving DecidableEq, Repr

/-- A received Ethernet frame (R418, R421): its length in bytes, the MAC address it is sent to, what it is, and whether the buffer of its
destination has room for it. -/
structure RxFrame where
  len : Nat
  dst : BitVec 48
  kind : RxKind
  room : Bool
  deriving DecidableEq, Repr

/-- What an event of a window comparator carries (R171): the upper or the lower comparator, and V_diff in nV. -/
structure CmpEvent where
  upper : Bool
  nv : Int
  deriving DecidableEq, Repr


/-- The commands of spec/opcode_table.json, one constructor for each row, with the operands the rule of the
row gives it. The rows carry no bits: a command has no word. -/
inductive Instr where
  /-- VIN_POWER_ON (R478): VIN rises at power-up and asserts a Cold reset until VIN has stayed above 2.65 V for 1
  ms. -/
  | vinPowerOn
  /-- VIN_BROWN_OUT (R478): VIN stays below 2.55 V for at least 2 µs and asserts a Cold reset. -/
  | vinBrownOut
  /-- RST_N_PIN (R479): The RST_N pin is recognised low and asserts a System reset, or a Cold reset when
  OPT_RSTN_COLD = 1. -/
  | rstNPin
  /-- DEBUG_RESET_REQUEST (R478): The open debug access port requests a System, Supervisor or Block reset. -/
  | debugResetRequest (what : DbgReset)
  /-- RESET_RELEASE (R482): The last overlapping reset source releases; RST_CAUSE is fixed and the blocks are
  released on CLK_OK. -/
  | resetRelease (strap : List Nat)
  /-- FORCED_RELEASE (R484): With TEST_EN = 1, the debug port forces a release before CLK_OK and marks the block
  UNCLEAN. -/
  | forcedRelease (block : Fin 16)
  /-- BLOCK_RESET (R485): A Block reset requests idle, waits up to t_idle, asserts reset for 1 µs and releases the
  block. -/
  | blockReset (src : BlockSrc) (block : Fin 16)
  /-- BLOCK_IDLE_TIMEOUT (R485): t_idle expires without idle acknowledgement, so the reset proceeds with IDLE_OK =
  0. -/
  | blockIdleTimeout (src : BlockSrc) (block : Fin 16)
  /-- BOOT_STEP_COMPLETE (R489): One step of the boot chain completes and the next begins, up to Stalled. -/
  | bootStepComplete (selfTest : Bool)
  /-- SUPERVISOR_WATCHDOG_EXPIRY (R480): Fencen has not serviced the watchdog for 500 ms; an unplanned restart
  begins, or SVP_ESC escalates to a System reset. -/
  | supervisorWatchdogExpiry
  /-- SUPERVISOR_RESTART_REOPEN (R393): Fencen runs again; FCP_EPOCH increments, credits are recomputed and the
  mailboxes reopen. -/
  | supervisorRestartReopen
  /-- MEMORY_ERROR (R499): An uncorrectable or parity error is detected and handled by the memory's row of Table
  18.8. -/
  | memoryError (site : MemSite)
  /-- DEFERRED_SYSTEM_RESET (R499): 100 µs after an error that calls for it, the deferred System reset asserts. -/
  | deferredSystemReset
  /-- REFCLK_LOSS (R458): No REFCLK edge for 200 ns clears REF_OK and stops all three PLLs. -/
  | refclkLoss
  /-- REFCLK_RESTORED (R458): After 1 000 consecutive REFCLK edges REF_OK sets again. -/
  | refclkRestored
  /-- PLL_LOSS_OF_LOCK (R462): A PLL's phase error exceeds ±2 ns on 4 cycles; it posts EV_CLK_LOSS and starts a
  relock. -/
  | pllLossOfLock (p : Pll)
  /-- PLL_LOCK (R462): A PLL's phase error stays within ±1 ns for 64 cycles and it signals lock, releasing its
  dividers together. -/
  | pllLock (p : Pll)
  /-- PLL_HOP_TIMEOUT (R467): A stored-band hop has not locked within 20 µs; the slot is invalidated and a full
  search runs. -/
  | pllHopTimeout (p : Pll)
  /-- BAND_SEARCH_COMPLETE (R467): A full band search ends; the band is stored in a slot, or WAKE_FAIL is set and a
  retry scheduled. -/
  | bandSearchComplete (p : Pll) (band : Option (Fin 64)) (temp : Byte)
  /-- BAND_SEARCH_RETRY (R467): After a failed search, the whole lock attempt is retried every 10 ms. -/
  | bandSearchRetry (p : Pll) (temp : Byte)
  /-- CLK_OK_CHANGE (R468): A 1 µs frequency window ends and a domain's CLK_OK sets or clears, gating its clock. -/
  | clkOkChange (dom : Fin 8) (ok : Bool)
  /-- DLL_TAP_UPDATE (R470): Once every 1 µs the DLL moves its tap to track the unit's own PWM clock. -/
  | dllTapUpdate (tap : Fin 64) (errPs : Int)
  /-- PAIRCLK_OK_CHANGE (R470): PAIRCLK is judged in or out of ±0.5 % of 250 MHz over 1 µs windows. -/
  | pairclkOkChange (ok : Bool)
  /-- SYNC_IN_EDGE (R464): A rising SYNC_IN edge places the sync grid, or sets SYNC_ERR when it falls off the grid. -/
  | syncInEdge (refPhase : Fin 25)
  /-- WAKE_SOURCE (R474): An enabled wake source is latched in WAKE_STAT and starts a wake from Paddock. -/
  | wakeSource (src : WakeSrc)
  /-- WAKE_COMPLETE (R475): The wake completes; Walk's first RG0 period begins and EV_WAKE is posted. -/
  | wakeComplete
  /-- WAKE_FAIL (R475): A PLL has not locked within 440 µs of the wake; the device stays in Paddock and retries. -/
  | wakeFail
  /-- GAIT_CHANGE_EFFECT (R37): A pending gait change takes effect at the first RG0 boundary at least 20 µs after
  acceptance. -/
  | gaitChangeEffect
  /-- GAIT_THERMAL (R39): An AV4896-H in Gallop reaches 115 °C junction; it stays, sets THERM_HOLD and posts
  EV_GAIT_THERMAL. -/
  | gaitThermal (temp : Int)
  /-- RG0_BOUNDARY (R195): The timebase wraps to 0: a reload, the sample instant, and every boundary-timed change of
  the device. -/
  | rg0Boundary
  /-- SNAPSHOT_COMPLETE (R512): The snapshot of period k completes 200 ns after the boundary. -/
  | snapshotComplete
  /-- RG0_PHASE_START (R27): A phase of RG0 work starts after conversion and runs its contexts in schedule order. -/
  | rg0PhaseStart (phase : Fin 2)
  /-- RATE_GROUP_INSTANCE_RUN (R105): RG1 to RG3 contexts run in the CTL cycles RG0 does not use. -/
  | rateGroupInstanceRun (rg : Fin 3)
  /-- TRACE_COPY_COMPLETE (R123): The copy of a trace buffer into LPDDR ends and the channel returns to IDLE. -/
  | traceCopyComplete (ch : Fin 8)
  /-- CLE_DEADLINE_MISS (R30): A port's RG0 work is not complete by its deadline; compares and envelope repeat and
  DEADLINE_MISS counts. -/
  | cleDeadlineMiss (ports : BitVec 12)
  /-- RG_INSTANCE_OVERRUN (R107): An RG1 to RG3 instance misses its deadline; the release is skipped and counted. -/
  | rgInstanceOverrun (rg : Fin 3)
  /-- FOLLOWING_ERROR_EXPIRY (R115): FE_TIMER reaches FE_TIME; FE_LATCH sets and the action of FE_ACT is taken once. -/
  | followingErrorExpiry (ctx : Fin 63)
  /-- FOLLOWING_ERROR_CLEAR (R115): While latched, FE_TIMER reaches FE_TIME below the limit and FE_LATCH clears. -/
  | followingErrorClear (ctx : Fin 63)
  /-- DL_CALIBRATION (R198): Every 16 µs calibration compares the delay line with a PWM clock and moves DL_CODE by
  one step. -/
  | dlCalibration (equal : Fin 1024)
  /-- CARRIER_EVENT (R230): A leg's event source instant passes its prescaler to ADC, HLP, capture or event queue. -/
  | carrierEvent (leg : Fin 48)
  /-- COMPARATOR_CROSSING (R171): A window comparator output rises against its threshold. -/
  | comparatorCrossing (ain : Fin 48) (e : CmpEvent)
  /-- TRIP_PIN_ACTIVE (R224): A TRIP pin reaches its active level and is latched asynchronously into its groups. -/
  | tripPinActive (pin : Fin 8)
  /-- TRIP_GROUP_TRIP (R227): An unmasked source stays active for FILT + 1 clocks; the group trips and its legs go
  off. -/
  | tripGroupTrip (grp : Fin 8)
  /-- BLANKING_CLOSE (R226): A blanking window ends, and any source still active acts at the close. -/
  | blankingClose (wt : Fin 8)
  /-- DEBUG_HALT (R523): The debug port halts the SVP, the CLE or the HLP and posts EV_DBG_HALT. -/
  | debugHalt (cpu : DbgCpu)
  /-- DEBUG_RESUME (R523): The debug port resumes a halted processor and posts EV_DBG_HALT. -/
  | debugResume (cpu : DbgCpu)
  /-- EXTEST (R522): Boundary-scan EXTEST drives pins while the Tack Table is unlocked. -/
  | extest (pins : BitVec 48)
  /-- HOLD_EDGE (R152): A timed sequence instant arrives and the core captures its input. -/
  | holdEdge (core : Fin 24) (entry : Fin 8) (nv : Int)
  /-- CONVERSION_COMPLETE (R152): A conversion delivers its code t_conv after the hold edge to the CLE and result
  registers. -/
  | conversionComplete (core : Fin 24) (nv : Int)
  /-- URGENT_HOLD_EDGE (R163): Four conversion clocks after acceptance the urgent conversion holds its input. -/
  | urgentHoldEdge (core : Fin 24) (nv : Int)
  /-- REF_FAULT (R149): ADC_REFIN stays outside 2.400 to 2.600 V for 10 µs; REF_FAULT sets and the Steward is told. -/
  | refFault
  /-- REF_FAULT_CLEAR (R149): ADC_REFIN is back within 2.450 to 2.550 V for 10 µs and REF_FAULT clears. -/
  | refFaultClear
  /-- OFFSET_CALIBRATION_DONE (R151): Every core finishes offset calibration and CAL_DONE sets. -/
  | offsetCalibrationDone
  /-- SD_CLOCK_LOSS (R178): A modulator clock group loses its edges or its readback and CLK_LOSS is set. -/
  | sdClockLoss (grp : Fin 8)
  /-- SD_CLOCK_FREQ (R178): The mean received clock period is off by more than 2 % and CLK_FREQ is set. -/
  | sdClockFreq (grp : Fin 8)
  /-- SD_CLOCK_CLEAR (R191): CLK_LOSS and CLK_FREQ both clear and the group's inputs restart. -/
  | sdClockClear (grp : Fin 8)
  /-- DECIMATED_OUTPUT (R180): A sinc filter closes a block of M bits and produces an output. -/
  | decimatedOutput (inp : Fin 32) (bits : List Bool)
  /-- SDSYNC_ACCEPT (R189): SDSYNC is high for 2 edges and is honoured or ignored by port states and PIN_FORCE. -/
  | sdsyncAccept
  /-- RESAMPLE_DELIVERY (R186): The resampled value reaches the CLE and SD_RES at t_s + t_conv. -/
  | resampleDelivery (inp : Fin 32)
  /-- PROFILE_TILE_REWRITE (R185): Fencen recomputes and rewrites a failed sigma-delta profile tile, ending
  UNSETTLED. -/
  | profileTileRewrite (prof : Fin 4)
  /-- OBS_UPDATE (R133): Every 200 ms the observer publishes a bin set and reduction, valid or with INVAL_WHY. -/
  | obsUpdate (port : Fin 4)
  /-- T_CLOSE_EXPIRY (R61): BKR_FB has not been 1 within T_close; the port returns to ARMED with CLOSE_TIMEOUT. -/
  | tCloseExpiry (port : Fin 4)
  /-- PRESYNC_TIMEOUT (R69): T_pre expires in PRESYNC; the port returns to ARMED. -/
  | presyncTimeout (port : Fin 4)
  /-- PRESYNC_WINDOW_END (R69): A window of N_pre cycles ends; lock criteria are tested and MATCH entered or a new
  window started. -/
  | presyncWindowEnd (port : Fin 4)
  /-- BLACKSTART_RAMP_COMPLETE (R65): The black-start ramp completes with voltage in band and the port enters RUN. -/
  | blackstartRampComplete (port : Fin 4)
  /-- BLACKSTART_TRACK_FAULT (R67): The capacitor voltage stays outside E_bs ± V_bs for T_bs and the port faults. -/
  | blackstartTrackFault (port : Fin 4) (high : Bool)
  /-- BKR_FB_SEEN (R71): BKR_FB = 1 is first seen; the rotor is freed, bumpless offsets set and RUN entered. -/
  | bkrFbSeen (port : Fin 4)
  /-- ENVELOPE_RUN_LIMIT (R77): The run of hit periods reaches N_env; CURLIM is entered or EV_ENV_PERSIST posted. -/
  | envelopeRunLimit (port : Fin 12)
  /-- CURLIM_EXIT_START (R79): T_exit passes with no hit and low current; the impedance ramp back begins. -/
  | curlimExitStart (port : Fin 4)
  /-- CURLIM_RAMP_COMPLETE (R79): The impedance return ramp completes and the port enters RUN. -/
  | curlimRampComplete (port : Fin 4)
  /-- CURLIM_TIMEOUT (R80): The port stays in CURLIM longer than T_cl_max and acts by CL_TMO_ACT. -/
  | curlimTimeout (port : Fin 4)
  /-- PULL_WINDOW_END (R83): T_reclose expires and the phase pull term ends. -/
  | pullWindowEnd (port : Fin 4)
  /-- DC_RANGE_FAULT (R85): V_dc is outside its window for longer than 1 ms and the DC port faults. -/
  | dcRangeFault (port : Fin 12)
  /-- STOP_RAMP_COMPLETE (R61): A ramp after host STOP completes; switching stops and the port returns to ARMED. -/
  | stopRampComplete (port : Fin 12)
  /-- SRS_RAMP_COMPLETE (R310): An SRS ramp reaches s = 0; the port goes to OFF and the Steward carries out SGR. -/
  | srsRampComplete (port : Fin 12)
  /-- SETPOINT_TAKES_EFFECT (R403): A setpoint takes effect at the next boundary and its command completes. -/
  | setpointTakesEffect (tag : Fin 128)
  /-- COMMIT_TAKES_EFFECT (R401): A committed configuration takes effect at the first boundary at least 20 µs after
  validation. -/
  | commitTakesEffect
  /-- PRESET_TAKES_EFFECT (R113): A context preset writes its states at the next boundary and clears HIST_COLD of
  the named groups. -/
  | presetTakesEffect (tag : Fin 128)
  /-- RATE_CHANGE_EFFECT (R196): A new PERIOD takes effect at a reload and the rate command completes. -/
  | rateChangeEffect
  /-- SWAP_VERIFY_COMPLETE (R109): Verification of the inactive bank ends with FS_TILE_CRC or INACT_VERIFIED. -/
  | swapVerifyComplete
  /-- SWAP_TAKES_EFFECT (R109): The bank swap takes effect at a common release boundary and EV_COEF_SWAP is posted. -/
  | swapTakesEffect
  /-- SCRUB_TILE_CHECK (R498): The scrubber verifies a tile of a store and acts on a failure by that store's rule. -/
  | scrubTileCheck (store : TileStore) (tile : Fin 64) (upset : Bool)
  /-- CONFIG_TILE_REWRITE (R498): Fencen rewrites a failed committed-configuration tile from its LPDDR copy. -/
  | configTileRewrite (tile : Fin 16)
  /-- HLP_TILE_REWRITE (R346): Fencen rewrites a failed HLP tile, which takes effect at the next cycle boundary. -/
  | hlpTileRewrite (tile : Fin 64)
  /-- FRAME_SLOT_OPEN (R26): A Gate Link transmit slot opens and the frame for the next period is sent. -/
  | frameSlotOpen (lane : Fin 6)
  /-- PING_SEND (R257): One PING is sent per inter-frame gap. -/
  | pingSend (lane : Fin 8)
  /-- ECHO_RECEIVED (R258): An ECHO arrives and a link latency L is computed into L_MEAS. -/
  | echoReceived (lane : Fin 8) (seq : Byte) (rtt : Nat)
  /-- ECHO_LOST (R258): No ECHO 1 200 ns after the PING and it counts as lost. -/
  | echoLost (lane : Fin 8)
  /-- PARAM_SEND (R260): The unit sends a PARAM writing one gate-driver parameter of its own port's set. -/
  | paramSend (lane : Fin 6) (addr : Fin 26)
  /-- STATUS_FRAME_RECEIVED (R262): A valid status frame updates GL_LEG_STAT; a FAULT bit faults the leg. -/
  | statusFrameReceived (lane : Fin 6) (bytes : List Byte)
  /-- ALERT_RECEIVED (R262): An ALERT sets the leg fault, posts EV_GL_ALERT and faults a switching port. -/
  | alertReceived (lane : Fin 6) (mask : Byte) (check : Byte)
  /-- LOS_CHANGE (R239): The loss-of-signal detector sets or clears. -/
  | losChange (lane : Fin 8) (on : Bool)
  /-- LOL_CHANGE (R239): The loss-of-lock detector sets or clears. -/
  | lolChange (lane : Fin 8) (on : Bool)
  /-- COMMA_RECEIVED (R240): A K28.5 comma arrives, setting COMMA_SEEN and COMMA_POS, and ALIGNED after 16 at offset
  0. -/
  | commaReceived (lane : Fin 8) (pos : Fin 10)
  /-- ALIGNMENT_LOSS (R240): Eight code or disparity errors within 256 symbols clear ALIGNED. -/
  | alignmentLoss (lane : Fin 8)
  /-- LANE_STATE_CHANGE (R266): A lane moves between DOWN, ACQUIRE, ALIGN, MEASURE, UP and LOST. -/
  | laneStateChange (lane : Fin 8)
  /-- LANE_STATUS_TIMEOUT (R266): No valid status frame for HOLD_N + 2 periods puts the lane in LOST. -/
  | laneStatusTimeout (lane : Fin 6)
  /-- LANE_LOST_TIMEOUT (R266): A LOST lane returns to ACQUIRE after 100 µs. -/
  | laneLostTimeout (lane : Fin 8)
  /-- GDEN_READBACK_SAMPLE (R265): Every 1 µs each GDEN pin is sampled; two mismatches set RB_ERR and tell the
  Steward. -/
  | gdenReadbackSample (pins : BitVec 6)
  /-- GDEN_LOW_END (R264): GDEN_LOW expires in a gate-driver clear and GDEN is driven high again. -/
  | gdenLowEnd (lane : Fin 6)
  /-- GD_CLEAR_STATUS_WAIT_END (R264): A clean status frame arrives or 100 µs pass and the clear completes. -/
  | gdClearStatusWaitEnd (lane : Fin 6)
  /-- PARTNER_ACT_CHANGE (R272): PARTNER_ACT holds a new level for 0.5 µs and counts as that level. -/
  | partnerActChange (level : Bool)
  /-- ACT_OUT_READBACK_MISMATCH (R272): ACT_OUT reads back differently from its driven level for 1 µs. -/
  | actOutReadbackMismatch (on : Bool)
  /-- MISSING_RG0_BOUNDARY (R274): No RG0 boundary arrives within 1 µs after it was due and ACT_OUT falls. -/
  | missingRg0Boundary
  /-- SGR_IN_CHANGE (R277): SGR_IN held high for 1 µs makes the partner's Steward carry out SGR. -/
  | sgrInChange (level : Bool)
  /-- REMOTE_SGR_END (R315): SGR_IN has been low for 10 µs and a remote SGR ends. -/
  | remoteSgrEnd
  /-- TAKEOVER (R292): A ready standby raises ACT_OUT at the first allowed boundary and becomes ACTIVE. -/
  | takeover
  /-- HANDOVER_RELEASE (R295): The active unit releases ACT_OUT at t_n + L_max + 1 µs of the named period. -/
  | handoverRelease
  /-- SCHEDULED_PAIR_CHANGE (R281): A rate, divisor, swap or GDEN clear takes effect on both units at pair period n. -/
  | scheduledPairChange
  /-- STANDBY_GDEN_DROP (R282): A standby drops its GDEN commands after PARTNER_ACT has been low for 10 µs + 2
  T_RG0. -/
  | standbyGdenDrop
  /-- MIRROR_RECORD_SEND (R31): After RG1 work the active unit sends the mirror record if credits suffice. -/
  | mirrorRecordSend
  /-- MIRROR_BLOCK_RECEIVED (R287): A mirror block arrives and is verified by its CRC. -/
  | mirrorBlockReceived (lane : Fin 2) (bytes : List Byte) (sof : Int)
  /-- MIRROR_RECORD_APPLY (R291): The standby applies a verified record at the next boundary before its contexts
  run. -/
  | mirrorRecordApply (rec : MirrorRecord)
  /-- CREDIT_RECEIVED (R288): A CREDIT ordered set returns credits to the active unit's pool. -/
  | creditReceived (lane : Fin 2) (n : Byte) (check : Byte)
  /-- STANDBY_STATUS_SEND (R287): The standby sends one status block per RG1 period. -/
  | standbyStatusSend
  /-- STANDBY_STATUS_RECEIVED (R279): The active unit receives the partner's status block and updates PARTNER_READY. -/
  | standbyStatusReceived (st : PeerStatus)
  /-- HELLO_RECEIVED (R286): A HELLO block is checked and the mirror lane goes to UP or stays in HELLO. -/
  | helloReceived (lane : Fin 2) (h : Hello)
  /-- MIRROR_LANE_LOST (R286): A mirror lane loses signal or sees no verified block for 4 RG1 periods. -/
  | mirrorLaneLost (lane : Fin 2)
  /-- GDEN_PULSE_TEST (R326): Once per second a paired unit pulses its GDEN pins low for 2 µs and checks the
  readback. -/
  | gdenPulseTest (pins : BitVec 6)
  /-- SDIN_DEMAND (R321): An SDIN channel reads low for 0.5 µs outside its test slot, a demand of its pair. -/
  | sdinDemand (ch : Fin 4)
  /-- SDIN_DISCREPANCY (R322): One SDIN channel returns high and the other does not follow within SD_DISC. -/
  | sdinDiscrepancy (pair : Fin 2)
  /-- TEST_PULSE_SLOT (R323): A TP output drops low for TP_T in its slot. -/
  | testPulseSlot (tp : Fin 4)
  /-- TEST_PULSE_CHECK (R323): The assigned inputs are judged healthy, faulty or in demand at the slot's deadlines. -/
  | testPulseCheck (tp : Fin 4) (after : Bool) (low : BitVec 20)
  /-- SAFETY_DI_DEMAND (R324): A safety DI reads low for SI_FILT outside its test slot. -/
  | safetyDiDemand (di : Fin 16)
  /-- OUTPUT_OFF_PULSE (R325): The Steward switches a safety output off for OP_T and checks the readback. -/
  | outputOffPulse (out : Fin 8) (ending : Bool) (pins : BitVec 8)
  /-- PDU_COPY_RECEIVED (R330): A safety PDU copy arrives and is validated. -/
  | pduCopyReceived (net : Fin 2) (conn : Fin 4) (bytes : List Byte)
  /-- PDU_WATCHDOG_EXPIRY (R332): A per-network watchdog runs past PDU_WD and raises cause 0x06. -/
  | pduWatchdogExpiry (conn : Fin 4) (net : Fin 2)
  /-- PDU_SEND (R423): A send connection launches both copies at its scheduled TB1 instant. -/
  | pduSend (conn : Fin 2)
  /-- MONITOR_ADC_WINDOW (R333): A monitor channel stays outside its window for XCHK_T and raises cause 0x09. -/
  | monitorAdcWindow (ch : Fin 4) (on : Bool)
  /-- MONITOR_CROSS_CHECK (R333): A monitor channel differs from its AINn beyond XCHK_TOL for XCHK_T. -/
  | monitorCrossCheck (ch : Fin 4) (on : Bool)
  /-- JUNCTION_OVERTEMP (R334): The island sensor reads 125 °C for 10 ms and raises cause 0x17. -/
  | junctionOvertemp (on : Bool)
  /-- CLOCK_CROSS_CHECK (R300): SAF and REFCLK counts differ by over 3 % in 100 µs and cause 0x18 is raised. -/
  | clockCrossCheck (on : Bool)
  /-- ISLAND_SUPPLY_FAULT (R319): The island supply monitor leaves its window and the hardware enters FATAL. -/
  | islandSupplyFault
  /-- LOCKSTEP_MISMATCH (R319): The Steward cores disagree and the hardware enters FATAL. -/
  | lockstepMismatch
  /-- CONSECUTIVE_MISS_LIMIT (R307): STW_MISS_N consecutive deadline misses raise cause 0x10. -/
  | consecutiveMissLimit
  /-- TIMEBASE_WATCH_EXPIRY (R307): No RG0 boundary within STW_TB_T after it was due raises cause 0x11. -/
  | timebaseWatchExpiry
  /-- OFF_PATH_READBACK_FAULT (R307): A trip or truncation not seen executed 100 ns after its bound raises cause
  0x12. -/
  | offPathReadbackFault (on : Bool)
  /-- SRS_REQUEST (R309): The CLE or Fencen requests SRS and the Steward issues the demand to the ports. -/
  | srsRequest
  /-- SRS_TIME_LIMIT (R312): A port not OFF by T_srs + 10 ms raises cause 0x0A. -/
  | srsTimeLimit (port : Fin 12)
  /-- SGR_COMPLETE (R314): All SGR readbacks confirm and SGR_DONE sets. -/
  | sgrComplete
  /-- SGR_READBACK_TIMEOUT (R314): A readback has not confirmed 4 µs after the decision; SGR_RB_ERR is set. -/
  | sgrReadbackTimeout (unconfirmed : BitVec 3)
  /-- HLP_CYCLE_START (R347): A cycle starts; the input phase takes the snapshot and fills the input image. -/
  | hlpCycleStart
  /-- HLP_EXECUTION_END (R347): END of CYCLIC is reached; the output phase applies outputs and commits the retained
  area. -/
  | hlpExecutionEnd (execUs : Nat)
  /-- HLP_OVERRUN (R348): The execution deadline passes; in NORMAL the HLP halts, otherwise a warning is counted. -/
  | hlpOverrun
  /-- HLP_HARD_LIMIT (R349): Execution has not ended by 8 T_cyc and the HLP halts with HALT_WHY = 0x2. -/
  | hlpHardLimit
  /-- HLP_INIT_LIMIT (R351): INIT lasts longer than 100 ms and the HLP halts with HALT_WHY = 0x4. -/
  | hlpInitLimit
  /-- HLP_FETCH_PARITY (R346): A program word fails parity at fetch and the HLP halts with HALT_WHY = 0x3. -/
  | hlpFetchParity
  /-- NOP (R342): HLP instruction doing nothing. -/
  | hlpNop
  /-- LD (R342): HLP instruction loading a bit into A. -/
  | hlpLd (b : BitVec 20)
  /-- LDN (R342): HLP instruction loading the inverse of a bit into A. -/
  | hlpLdn (b : BitVec 20)
  /-- AND (R342): HLP instruction ANDing a bit into A. -/
  | hlpAnd (b : BitVec 20)
  /-- ANDN (R342): HLP instruction ANDing the inverse of a bit into A. -/
  | hlpAndn (b : BitVec 20)
  /-- OR (R342): HLP instruction ORing a bit into A. -/
  | hlpOr (b : BitVec 20)
  /-- ORN (R342): HLP instruction ORing the inverse of a bit into A. -/
  | hlpOrn (b : BitVec 20)
  /-- XOR (R342): HLP instruction XORing a bit into A. -/
  | hlpXor (b : BitVec 20)
  /-- PUSH (R342): HLP instruction pushing A onto the bit stack. -/
  | hlpPush
  /-- ANDP (R342): HLP instruction ANDing A with a popped value. -/
  | hlpAndp
  /-- ORP (R342): HLP instruction ORing A with a popped value. -/
  | hlpOrp
  /-- NOT (R342): HLP instruction inverting A. -/
  | hlpNot
  /-- EDGE (R342): HLP instruction detecting a rising A against a memory bit. -/
  | hlpEdge (b : BitVec 20)
  /-- ST (R342): HLP instruction storing A into a bit. -/
  | hlpSt (b : BitVec 20)
  /-- STN (R342): HLP instruction storing the inverse of A into a bit. -/
  | hlpStn (b : BitVec 20)
  /-- SET (R342): HLP instruction setting a bit when A is 1. -/
  | hlpSet (b : BitVec 20)
  /-- RST (R342): HLP instruction clearing a bit when A is 1. -/
  | hlpRst (b : BitVec 20)
  /-- TON (R343): HLP on-delay timer instruction. -/
  | hlpTon (w : BitVec 24)
  /-- TOF (R343): HLP off-delay timer instruction. -/
  | hlpTof (w : BitVec 24)
  /-- TP (R343): HLP pulse timer instruction. -/
  | hlpTp (w : BitVec 24)
  /-- CTU (R343): HLP up-counter instruction. -/
  | hlpCtu (w : BitVec 24)
  /-- CTD (R343): HLP down-counter instruction. -/
  | hlpCtd (w : BitVec 24)
  /-- CRS (R342): HLP instruction resetting a counter when A is 1. -/
  | hlpCrs (w : BitVec 24)
  /-- LW (R342): HLP instruction loading a word into W. -/
  | hlpLw (w : BitVec 24)
  /-- LK (R342): HLP instruction loading a constant into W. -/
  | hlpLk (k : BitVec 12)
  /-- SW (R342): HLP instruction storing W into a word. -/
  | hlpSw (w : BitVec 24)
  /-- MOV (R342): HLP instruction storing W into a word when A is 1. -/
  | hlpMov (w : BitVec 24)
  /-- ADD (R342): HLP instruction adding a word to W with saturation. -/
  | hlpAdd (w : BitVec 24)
  /-- SUB (R342): HLP instruction subtracting a word from W with saturation. -/
  | hlpSub (w : BitVec 24)
  /-- CEQ (R342): HLP signed compare for equality ANDed into A. -/
  | hlpCeq (w : BitVec 24)
  /-- CNE (R342): HLP signed compare for inequality ANDed into A. -/
  | hlpCne (w : BitVec 24)
  /-- CLT (R342): HLP signed less-than compare ANDed into A. -/
  | hlpClt (w : BitVec 24)
  /-- CLE (R342): HLP signed less-or-equal compare ANDed into A. -/
  | hlpCle (w : BitVec 24)
  /-- CGT (R342): HLP signed greater-than compare ANDed into A. -/
  | hlpCgt (w : BitVec 24)
  /-- CGE (R342): HLP signed greater-or-equal compare ANDed into A. -/
  | hlpCge (w : BitVec 24)
  /-- FLT (R342): HLP FP32 less-than compare ANDed into A. -/
  | hlpFlt (w : BitVec 24)
  /-- FGT (R342): HLP FP32 greater-than compare ANDed into A. -/
  | hlpFgt (w : BitVec 24)
  /-- JMP (R342): HLP unconditional jump. -/
  | hlpJmp (i : BitVec 16)
  /-- JC (R342): HLP jump if A is 1. -/
  | hlpJc (i : BitVec 16)
  /-- JNC (R342): HLP jump if A is 0. -/
  | hlpJnc (i : BitVec 16)
  /-- END (R342): HLP instruction ending a section. -/
  | hlpEnd
  /-- ADCR (R342): HLP instruction issuing an urgent ADC request when A is 1. -/
  | hlpAdcr (req : BitVec 13)
  /-- REMOTE_FRAME_RECEIVED (R357): A remote module frame replaces its buffered block or is discarded. -/
  | remoteFrameReceived (rm : Fin 32) (bytes : List Byte)
  /-- REMOTE_TIMEOUT (R357): No valid frame within the module's timeout; FRESH clears and EV_RIO_TIMEOUT is posted. -/
  | remoteTimeout (rm : Fin 32)
  /-- REMOTE_OUTPUT_SEND (R356): Once per exchange period a remote output block is sent whole. -/
  | remoteOutputSend (rm : Fin 32)
  /-- DI_SAMPLE (R359): Every 50 µs the inputs are sampled in a 5 µs window. -/
  | diSample (mv : List Int)
  /-- DO_OVERLOAD (R364): An output's current limit acts for 1 ms or it overheats; OVL latches. -/
  | doOverload (out : Fin 8)
  /-- BANK_REFRESH (R366): The HLP block refreshes the field bank's DO commands. -/
  | bankRefresh (pins : BitVec 8)
  /-- SILENCE_TIMEOUT (R366): No refresh for FIO_TMO sets SILENT and applies FIO_SAFE. -/
  | silenceTimeout
  /-- VFIELD_UV_CHANGE (R370): VF_UV sets or clears after 1 ms beyond its threshold. -/
  | vfieldUvChange (on : Bool)
  /-- VFIELD_OV_CHANGE (R370): VF_OV sets or clears after 1 ms beyond its threshold. -/
  | vfieldOvChange (on : Bool)
  /-- TP_OVERLOAD (R369): A TP output's current limit acts and TP_OVL sets. -/
  | tpOverload (tp : Fin 4)
  /-- QSPI_READ (R382): A quad-SPI READ latches words of the window, applying their read side effects. -/
  | qspiRead (addr : BitVec 16) (count : Nat)
  /-- QSPI_WRITE (R382): A quad-SPI WRITE writes whole aligned words or mailbox RAM bytes. -/
  | qspiWrite (addr : BitVec 16) (bytes : List Byte)
  /-- QSPI_STATUS (R381): A quad-SPI STATUS instruction returns READY, IRQ and RESTARTING. -/
  | qspiStatus
  /-- MB_DOORBELL (R385): A write of 1 submits the command window for admission. -/
  | mbDoorbell (mb : Fin 4) (value : Word)
  /-- MB_CPL_HEAD_WRITE (R386): A write to MB_CPL_HEAD consumes completions and returns credits. -/
  | mbCplHeadWrite (mb : Fin 4) (value : Word)
  /-- CMD (R389): A CMD transport message arrives and is admitted, re-acknowledged or refused by CSEQ. -/
  | cmd (mb : Fin 4) (bytes : List Byte)
  /-- CPL_ACK (R390): A CPL_ACK consumes one completion and frees its slot and tag. -/
  | cplAck (mb : Fin 4) (bytes : List Byte)
  /-- PROBE (R390): A PROBE is answered with a NOTICE. -/
  | probe (mb : Fin 4)
  /-- CPL_RESEND (R390): CPL_RETRY expires without a CPL_ACK and the CPL is sent again. -/
  | cplResend (tag : Fin 128)
  /-- CAN_SEGMENT (R392): A CAN FD segment arrives and is assembled or discards the message. -/
  | canSegment (can : Fin 2) (fd : Bool) (bytes : List Byte)
  /-- CAN_SEGMENT_GAP (R392): More than 100 ms between segments discards the incomplete message. -/
  | canSegmentGap (can : Fin 2)
  /-- ETHERNET_FRAME_RECEIVED (R421): A received frame is classified to its destination or dropped. -/
  | ethernetFrameReceived (mac : Fin 3) (f : RxFrame)
  /-- SCHEDULED_LAUNCH (R422): A scheduled frame leaves at its launch time after the guard. -/
  | scheduledLaunch (mac : Fin 3) (ptp : Option (Fin 4))
  /-- LINK_CHANGE (R418): A MAC's link goes up or down and EV_LINK is posted. -/
  | linkChange (mac : Fin 3) (up : Bool) (speed : Fin 3)
  /-- TX_TIMESTAMP (R431): A transmit timestamp enters its queue, or is dropped when full. -/
  | txTimestamp (mac : Fin 3) (id : BitVec 16) (type : Fin 16) (oneStep : Bool)
  /-- TIMESTAMP_DRAIN (R430): Fencen drains a transmit timestamp entry and matches it to its message. -/
  | timestampDrain (mac : Fin 3)
  /-- PTP_SERVO_UPDATE (R435): A servo update steps or trims TB0. -/
  | ptpServoUpdate
  /-- HOLD_MAX_EXPIRY (R436): HOLD_MAX passes without a servo update and LOCKED clears. -/
  | holdMaxExpiry
  /-- DATAGRAM_CLOSE (R443): A stream datagram closes at 178 records or 100 µs and is sent. -/
  | datagramClose
  /-- FLUSH_COMPLETE (R445): The FIFO drains after a stop and CAP_STOP completes. -/
  | flushComplete
  /-- FLUSH_TIMEOUT (R445): The FIFO has not drained 100 ms after a stop; records are discarded. -/
  | flushTimeout
  /-- EVENT_DRAIN (R454): Fencen drains an event from the queue into the recorder ring. -/
  | eventDrain
  /-- ISLAND_RECORD_WRITE (R454): The Steward island writes a record directly to the recorder ring. -/
  | islandRecordWrite
  /-- ATT_REPORT_BUILT (R417): The attestation report is built and signed within 3 s. -/
  | attReportBuilt
  /-- SPUR_SESSION_START (R517): At the boundary after EN the Spur session starts and LEFT loads. -/
  | spurSessionStart
  /-- SPUR_SESSION_STOP (R518): A Spur condition fails; delays and back-pressure clear and EV_SPUR_STOP is posted. -/
  | spurSessionStop
  /-- ADC_URG_WRITE (R162): A host write of ADC_URG issues an urgent request. -/
  | adcUrgWrite (path : Path) (value : Word)
  /-- PWM_COMMIT_WRITE (R205): A write of 1 commits the manual bundle, or is rejected with MAN_REJ. -/
  | pwmCommitWrite (path : Path) (value : Word)
  /-- CMP_STATIC_WRITE (R172): A static threshold write takes effect at the next boundary or sets WR_REJ. -/
  | cmpStaticWrite (path : Path) (value : Word)
  /-- CROSSFIRE_CLEAR (R223): A W1C write clears CROSSFIRE only while the leg is not switching. -/
  | crossfireClear (path : Path) (value : Word)
  /-- TRIPPED_CLEAR (R227): A W1C write clears TRIPPED only while no source is active; legs release at the next
  reload. -/
  | trippedClear (path : Path) (value : Word)
  /-- DL_CTRL_WRITE (R199): A write sets CAL_HOLD, bounds or TRIM_CODE, handing the delay code to host or
  calibration. -/
  | dlCtrlWrite (path : Path) (value : Word)
  /-- LANE_SLIP_WRITE (R240): A write of 1 moves the lane's word boundary one bit later. -/
  | laneSlipWrite (path : Path) (value : Word)
  /-- WSEL_WRITE (R505): A write of WSEL selects the unit shown in the selected region for that path. -/
  | wselWrite (path : Path) (value : Word)
  /-- RES_STAT_READ (R118): A read of RES_STAT returns RDCNT, increments it and latches RES0 to RES3. -/
  | resStatRead (path : Path)
  /-- SNAP_PNUM_LO_READ (R512): A read replaces the path's snapshot view with the newest complete snapshot. -/
  | snapPnumLoRead (path : Path)
  /-- OBS_BIN_SEL_WRITE (R133): A write of BIN latches that bin of the published set into the bin registers. -/
  | obsBinSelWrite (path : Path) (value : Word)
  /-- HIGH_WORD_LATCH_READ (R502): A read of PWM_PNUM_LO, TB_NS, REC_NEXT_LO or EVB_NEXT_LO latches its high words
  for the path. -/
  | highWordLatchRead (path : Path) (which : HighLatch)
  /-- SPUR_CTRL_WRITE (R517): A write of SPUR_CTRL requests or ends a Spur session. -/
  | spurCtrlWrite (path : Path) (value : Word)
  /-- SPUR_INJ_GO (R521): A write of GO = 1 requests an error injection. -/
  | spurInjGo (path : Path) (value : Word)
  /-- REGISTER_WRITE (R11): A write to a register without its own row acts by its access codes. -/
  | registerWrite (path : Path) (addr : BitVec 16) (value : Word)
  /-- CFG_STAGE (R400): Configuration records are staged in the mailbox's staging area. -/
  | cfgStage (tag : Fin 128)
  /-- CFG_COMMIT (R401): Staged records are applied and validated as a whole, or dry-run. -/
  | cfgCommit (tag : Fin 128)
  /-- CFG_DISCARD (R401): The mailbox's staging area is emptied. -/
  | cfgDiscard (tag : Fin 128)
  /-- COEF_WRITE (R401): One quarter of a tile is written to the inactive bank with its CRC. -/
  | coefWrite (tag : Fin 128)
  /-- COEF_COPY (R111): The inactive bank is filled from the active bank and verified. -/
  | coefCopy (tag : Fin 128)
  /-- COEF_SWAP (R109): A bank swap is requested, locking and verifying the inactive bank. -/
  | coefSwap (tag : Fin 128)
  /-- CTX_PRESET (R114): A context state preset is accepted for the next boundary or refused. -/
  | ctxPreset (tag : Fin 128)
  /-- SD_SYNC (R189): The sync command restarts all enabled sigma-delta inputs at the next boundary. -/
  | sdSync (tag : Fin 128)
  /-- RUN_GO (R399): Fencen moves from Stalled to Running. -/
  | runGo (tag : Fin 128)
  /-- RUN_STALL (R399): Fencen moves from Running to Stalled while every port is OFF. -/
  | runStall (tag : Fin 128)
  /-- GAIT (R36): A gait request is checked and becomes pending or is refused. -/
  | gait (tag : Fin 128)
  /-- RATE (R196): A new PERIOD and divisors are checked and scheduled. -/
  | rate (tag : Fin 128)
  /-- PORT_ARM (R402): A port is armed from OFF after its checks. -/
  | portArm (tag : Fin 128)
  /-- PORT_DISARM (R61): An ARMED port returns to OFF. -/
  | portDisarm (tag : Fin 128)
  /-- PORT_START (R61): A port starts by mode BLACK, LIVE or AUTO and the bus state. -/
  | portStart (tag : Fin 128)
  /-- PORT_STOP (R61): A switching port enters RAMPDOWN over T_stop. -/
  | portStop (tag : Fin 128)
  /-- PORT_CLEAR (R61): A FAULT port returns to OFF when no latch remains. -/
  | portClear (tag : Fin 128)
  /-- RECLOSE_PREP (R83): A pull window of T_reclose starts on a port in RUN. -/
  | reclosePrep (tag : Fin 128)
  /-- RECLOSE_END (R83): The host ends the pull window. -/
  | recloseEnd (tag : Fin 128)
  /-- GD_CLEAR (R264): The gate-driver clear drives GDEN low for GDEN_LOW to clear driver latches. -/
  | gdClear (tag : Fin 128)
  /-- SP_AC (R403): AC port setpoints are set for the next boundary. -/
  | spAc (tag : Fin 128)
  /-- SP_DC (R403): DC port setpoints and V_dc window are set for the next boundary. -/
  | spDc (tag : Fin 128)
  /-- SP_SLEW (R60): Slew rates of an AC port's setpoints are set. -/
  | spSlew (tag : Fin 128)
  /-- Q_RESULT (R120): Returns RES_STAT and RES0 to RES3 of a context without changing RDCNT. -/
  | qResult (tag : Fin 128)
  /-- Q_CTX (R404): Returns the context RAM image as before the last boundary. -/
  | qCtx (tag : Fin 128)
  /-- Q_PORT (R404): Returns a port's status, setpoints, rotor state and observer status. -/
  | qPort (tag : Fin 128)
  /-- Q_OBS (R404): Returns one published observer bin set and reduction. -/
  | qObs (tag : Fin 128)
  /-- Q_REG (R404): Returns register values, clearing RC fields only with CLEAR. -/
  | qReg (tag : Fin 128)
  /-- Q_EVENTS (R456): Returns whole recorder records from a number onward. -/
  | qEvents (tag : Fin 128)
  /-- TR_ARM (R405): Configures and arms a trace channel. -/
  | trArm (tag : Fin 128)
  /-- TR_TRIG (R122): Triggers an armed channel with TRIG_SRC 0x0. -/
  | trTrig (tag : Fin 128)
  /-- TR_STOP (R405): Stops a trace channel. -/
  | trStop (tag : Fin 128)
  /-- TR_READ (R123): Reads trace samples, starting the LPDDR copy of a DONE or stopped channel. -/
  | trRead (tag : Fin 128)
  /-- CAP_CFG (R447): Configures the capture stream, admitted only within the byte-rate budget. -/
  | capCfg (tag : Fin 128)
  /-- CAP_START (R445): Starts a capture run at the next boundary, or rearms the trigger. -/
  | capStart (tag : Fin 128)
  /-- CAP_STOP (R445): Ends capture production and flushes the FIFO. -/
  | capStop (tag : Fin 128)
  /-- CAP_HIST_CFG (R450): Clears and configures a histogram unit. -/
  | capHistCfg (tag : Fin 128)
  /-- CAP_HIST_READ (R452): Reads histogram bins consistent to one boundary. -/
  | capHistRead (tag : Fin 128)
  /-- CAP_PMAP_CFG (R451): Configures and clears the persistence map. -/
  | capPmapCfg (tag : Fin 128)
  /-- CAP_PMAP_READ (R452): Reads persistence-map rows consistent to one boundary. -/
  | capPmapRead (tag : Fin 128)
  /-- UPD_BEGIN (R409): Erases a slot and opens the image write session. -/
  | updBegin (tag : Fin 128) (nvm : Bool)
  /-- UPD_WRITE (R409): Writes the next 1 024 bytes of the image. -/
  | updWrite (tag : Fin 128) (nvm : Bool)
  /-- UPD_VERIFY (R409): Closes the session and verifies the image, setting the slot VALID or INVALID. -/
  | updVerify (tag : Fin 128)
  /-- UPD_ACTIVATE (R410): Sets the boot slot, and with RESET = 1 makes a System reset. -/
  | updActivate (tag : Fin 128) (nvm : Bool)
  /-- UPD_RESTART (R410): Makes a planned hitless supervisor restart into a slot's Fencen. -/
  | updRestart (tag : Fin 128)
  /-- UPD_SVN (R411): Burns the anti-rollback counter up to the running SVN. -/
  | updSvn (tag : Fin 128)
  /-- UPD_INFO (R409): Returns a slot's state, version and SVN. -/
  | updInfo (tag : Fin 128)
  /-- SAF_ARM (R304): Prepares the Steward arm, confirmed by SAF_CONFIRM. -/
  | safArm (tag : Fin 128)
  /-- SAF_DISARM (R305): Prepares the Steward disarm. -/
  | safDisarm (tag : Fin 128)
  /-- SAF_RESET (R317): Prepares a Steward reset from INHIBIT or SAFE. -/
  | safReset (tag : Fin 128)
  /-- SAF_CFG_STAGE (R412): Writes a quarter of the staging copy of the safety configuration. -/
  | safCfgStage (tag : Fin 128)
  /-- SAF_CFG_COMMIT (R306): Prepares the commit of the staged safety configuration tile. -/
  | safCfgCommit (tag : Fin 128)
  /-- SAF_CFG_READ (R412): Reads a quarter of the safety configuration in force or staged. -/
  | safCfgRead (tag : Fin 128)
  /-- SAF_CONFIRM (R413): Confirms a prepared SAFETY action, which is then carried out. -/
  | safConfirm (tag : Fin 128) (test : SelfTest)
  /-- SAF_CONFIRM_TIMEOUT (R413): A prepared SAFETY action is discarded 10 s after its step-1 completion. -/
  | safConfirmTimeout
  /-- PAIR_ACTIVATE (R278): Activates a unit in LINKING or SYNCING when PARTNER_ACT is low. -/
  | pairActivate (tag : Fin 128)
  /-- PAIR_HANDOVER (R295): Schedules a planned handover at pair period n. -/
  | pairHandover (tag : Fin 128)
  /-- HLP_LOAD (R346): Writes a quarter tile of the HLP load buffer. -/
  | hlpLoad (tag : Fin 128)
  /-- HLP_LOAD_DONE (R346): Checks and verifies the loaded program and sets PROG_OK. -/
  | hlpLoadDone (tag : Fin 128)
  /-- HLP_START (R353): Starts the HLP warm or cold, in STARTUP or RECOVERY. -/
  | hlpStart (tag : Fin 128)
  /-- HLP_STOP (R351): Stops the HLP at the next cycle boundary. -/
  | hlpStop (tag : Fin 128)
  /-- HLP_MODE (R350): Changes the HLP mode at a cycle boundary. -/
  | hlpMode (tag : Fin 128)
  /-- HLP_OLC (R354): Applies online-change items at one cycle boundary. -/
  | hlpOlc (tag : Fin 128)
  /-- TB_READ (R424): Returns TB0 to TB3 sampled at one NET clock edge and the lock word. -/
  | tbRead (tag : Fin 128)
  /-- TB_SET (R425): Sets TB3, or TB0 while PTP is disabled. -/
  | tbSet (tag : Fin 128)
  /-- TB_ADJ (R425): Adjusts the frequency or steps a host-owned time base. -/
  | tbAdj (tag : Fin 128)
  /-- PTP_CFG (R433): Applies a PTP profile and restarts the instance. -/
  | ptpCfg (tag : Fin 128)
  /-- ATT_REPORT (R417): Starts building a signed attestation report over a nonce. -/
  | attReport (tag : Fin 128)
  /-- ATT_READ (R417): Returns 1 024 bytes of the report. -/
  | attRead (tag : Fin 128)
  /-- ATT_IDENTITY (R416): Returns 1 024 bytes of the identity statement. -/
  | attIdentity (tag : Fin 128)
  /-- COMPARATOR_OUTPUT_FALL (R171): A window comparator output falls once V_diff passes back through its threshold
  less the hysteresis. -/
  | comparatorOutputFall (ain : Fin 48) (e : CmpEvent)
  /-- TRIP_PIN_INACTIVE (R224): A TRIP pin returns to its inactive level, ending that source's activity in its
  groups. -/
  | tripPinInactive (pin : Fin 8)
  /-- SDIN_RETURN_HIGH (R322): An SDIN channel returns high, starting the SD_DISC discrepancy window and clearing
  the pair once both are high. -/
  | sdinReturnHigh (ch : Fin 4)
  /-- BANK_PRESENCE_CHANGE (R530): VIOA or VIOB crosses its presence monitor level, floating the bank's outputs or
  reapplying its levels within 20 µs. -/
  | bankPresenceChange (bankB : Bool) (present : Bool)
  /-- BUS_OFF (R485): A CAN controller enters bus-off and Fencen makes a Block reset of that channel. -/
  | busOff (can : Fin 2)
  /-- OPTION_SECTOR_WRITE (R487): The debug access port writes the option sector in NOR while the Tack Table is
  unlocked; the write takes effect at the next Cold reset. -/
  | optionSectorWrite (bytes : List Byte)
  /-- REVOCATION_BURN (R495): The debug access port burns a key-slot revocation bit, refused for the last unrevoked
  slot of either algorithm. -/
  | revocationBurn (slhDsa : Bool) (slot : Fin 2)
  /-- DELIVERED_EDGE (R225): A channel of a leg changes level within the period, opening blanking for TRIG 0b10 and
  ending a bottom on-time for a bootstrap refresh. -/
  | deliveredEdge (leg : Fin 48) (top : Bool) (on : Bool) (instant : Nat)
  /-- PORT_RELOAD (R250): At t_k + L_port a Gate Link port's envelope DACs swap and its truncation latches clear. -/
  | portReload (port : Fin 12)
  /-- ANNOUNCE_RECEIPT_TIMEOUT (R432): The PTP announce receipt timer of a port expires and the best master
  algorithm changes the port state. -/
  | announceReceiptTimeout (mac : Fin 3)
  /-- SINGLE_BIT_ERROR (R499): A single-bit error in a SECDED memory is corrected in place and counted in CORR_CNT. -/
  | singleBitError (mem : Fin 9)
  deriving DecidableEq, Repr

end Sys2Proof
end

