-- ==== Sys2Proof/Decode.lean ====
section
/-!
DEFINITION. No row of the command table carries bits: a command arrives over a bus, a pin or a queue and has no word. So no
word spells a command.
-/
namespace Sys2Proof

/-- The command a word spells by the bits of its table row: the table gives no row bits, so none. -/
def decodeTableWord (_nbits _w : Nat) : Option Instr := none

end Sys2Proof
end

