-- ==== Sys2Proof/Config.lean ====
section
/-!
DEFINITION. What one implementation fixes and what the manual leaves open, as constants without a body: no proof can see a
value of them, so a statement holds whatever they are. Each is named in the assumption log.
-/
namespace Sys2Proof.Config

/-- Free values, one for each index the state's counter `fresh` has passed through. -/
opaque freeWord : Nat → Word

/-- The neutral-point control of a three-level port, whose law and gains the manual does not state: the offset of R58 from its
integrator and the two half-link voltages, and the integrator's next value. -/
opaque npOffset : Word → Word → Word → Word
opaque npNext : Word → Word → Word → Word

/-- The command of the fourth leg, which holds the zero-sequence capacitor voltage at zero (R51, R58), from the three phase commands and
that voltage in pu; its law is not stated. -/
opaque fourthLeg : Word → Word → Word → Word → Word

/-- The balancing PI of parallel bridges (R51), whose gains are not stated: the trim of one bridge's phase from its integrator and the phase's currents over all bridges,
and the integrator's next value; bridge and phase come first. -/
opaque balTrim : Nat → Nat → Word → List Word → Word
opaque balNext : Nat → Nat → Word → List Word → Word

/-- What the unit gives for sin of an angle, an unsigned 64-bit fraction of a turn, where that lies within the error of Table 03.1. -/
opaque sinTurn : Nat → Word

/-- What the unit gives for cos of an angle where that lies within the error of Table 03.1. -/
opaque cosTurn : Nat → Word

/-- The angle in turns of a vector that has none: both parts zero, or one not finite. -/
opaque angleTurn : Word → Word → Word

/-- Where the over-range threshold of an input's detector of one polarity lies above 2.525 V, in nV, before it is brought
into the 50 mV band (R166). -/
opaque ovrThr : Nat → Bool → Nat

/-- OVR of an input exactly at the threshold of one polarity, which R166 leaves undefined. -/
opaque ovrAtEq : Nat → Bool → Bool

/-- Fixed phase of the ADC clock's edges, in fine steps, in Limp and otherwise, before it is brought into one clock (R162). -/
opaque adcPhase : Bool → Nat

/-- How far the rising (true) or falling threshold of field input n lies above its nominal value, in mV, before it is brought
into the tolerance of Table 12.1. -/
opaque diThr : Nat → Bool → Int

/-- The MAC address of NET-A in OTP; those of NET-B and NET-C follow it (R418). -/
opaque otpMac : BitVec 48

/-- Key hashes in OTP (R495): RSA slots 0 and 1, SLH-DSA slots 2 and 3; none where a slot is not programmed. -/
opaque otpHash : Nat → Option (List Byte)

/-- Signatures of the device's own keys over a message (R417, R497). -/
opaque rsaSign : List Byte → List Byte
opaque slhSign : List Byte → List Byte

/-- Bytes 16 and up of the identity statement written at manufacture (R416), by offset. -/
opaque identity : Nat → Byte

/-- Words of the Tack block inside a stage-2 component: its place and layout there are not given (R491, R492). Words 0 to 3 are
TACK_CTRL, PWM_POL0, PWM_POL1 and TRIP_POL; words 4 + 3i to 6 + 3i are base, limit and rights of region i. -/
opaque tackWord : List Byte → Nat → Word

/-- The image a new unit holds in slot A: build number, SVN, MIRROR_FMT, versions of components 3 (Steward) and 4 (CLE), SHA-384
of component t, and its two key slots. -/
opaque factoryBuild : BitVec 16
opaque factorySvn : Fin 64
opaque factoryMirrorFmt : Byte
opaque factoryVer : Nat → Word
opaque factoryHash : Nat → List Byte
opaque factoryKey : Bool → Fin 2

/-- CFG_DIGEST over the configuration in force (R279): the manual does not give its serialisation. -/
opaque cfgDigest : List Byte → Word

/-- The payload of a mirror record by byte, and of a status block with its block count (R287): the manual gives their content and sizes, and
no place of a value in them. -/
opaque recordByte : MirrorRecord → Nat → Byte
opaque statusByte : PeerStatus → Nat → Byte
opaque statusCount : Byte

/-- D_RX and T_TA of a unit that answers a PING on a mirror lane at rate r, in fine steps; their values are not given (R258, R285). -/
opaque mirrorRx : Nat → BitVec 16
opaque mirrorTurn : Nat → BitVec 16

/-- CODE and DATA of the recorder's record of a rise (true) or fall of ACT_OUT (R296, R454), which Table 19.10 does not list. -/
opaque actOutCode : Bool → BitVec 16
opaque actOutData : Bool → BitVec 64

end Sys2Proof.Config
end

