-- ==== Sys2Proof/Machine/Mem.lean ====
section
/-!
DEFINITION. Addressed stores of the block (register file, context RAM, coefficient banks, HLP memories, mailbox RAM, image
slots, histograms …) as plain data: lists of (address, value) pairs in one canonical form. Addresses rise strictly and no
entry equals what an unlisted address reads as, so that equal contents are equal lists. `d` names what an unlisted address
reads as.
-/
namespace Sys2Proof.Machine

/-- An addressed store: the listed (address, value) pairs. With bytes as values it is a list of Host.Cell. -/
abbrev Memory (α : Type) := List (Nat × α)

/-- The value at address k; an unlisted address reads as d k. -/
def Memory.get {α : Type} (d : Nat → α) : Memory α → Nat → α
  | [], k => d k
  | (a, v) :: m, k => if a = k then v else if k < a then d k else Memory.get d m k

/-- Write v at address k and keep the canonical form: writing what an unlisted address reads as removes the entry. -/
def Memory.set {α : Type} [DecidableEq α] (d : Nat → α) : Memory α → Nat → α → Memory α
  | [], k, v => if v = d k then [] else [(k, v)]
  | (a, w) :: m, k, v =>
    if k < a then (if v = d k then (a, w) :: m else (k, v) :: (a, w) :: m)
    else if k = a then (if v = d k then m else (k, v) :: m)
    else (a, w) :: Memory.set d m k v

/-- Canonical above address lo: addresses are at least lo, rise strictly, and no entry equals its default. -/
def Memory.wfFrom {α : Type} [DecidableEq α] (d : Nat → α) : Nat → Memory α → Bool
  | _, [] => true
  | lo, (a, v) :: m => decide (lo ≤ a) && decide (v ≠ d a) && Memory.wfFrom d (a + 1) m

/-- The canonical form holds. -/
def Memory.wf {α : Type} [DecidableEq α] (d : Nat → α) (m : Memory α) : Bool := Memory.wfFrom d 0 m

/-- Write the values vs at consecutive addresses from k. -/
def Memory.setMany {α : Type} [DecidableEq α] (d : Nat → α) (m : Memory α) (k : Nat) (vs : List α) : Memory α :=
  match vs with
  | [] => m
  | v :: r => Memory.setMany d (Memory.set d m k v) (k + 1) r

/-- The n values at consecutive addresses from k. -/
def Memory.getMany {α : Type} (d : Nat → α) (m : Memory α) (k n : Nat) : List α :=
  (List.range n).map fun i => Memory.get d m (k + i)

/-- Unit i of n like units; the type's default value for a number that names no unit. -/
def vget {α : Type} [Inhabited α] {n : Nat} (v : Vector α n) (i : Nat) : α := v.toList.getD i default

/-- Replace unit i of n like units by its image; a number that names no unit changes nothing. -/
def vmod {α : Type} {n : Nat} (v : Vector α n) (i : Nat) (f : α → α) : Vector α n :=
  if h : i < n then v.set i (f v[i]) h else v

/-- Bit i of a number as a Bool. -/
def bitOf (n i : Nat) : Bool := n.testBit i

/-- A Bool as a number. -/
def b2n (b : Bool) : Nat := if b then 1 else 0

/-- Saturating addition at max (R13). -/
def satAdd (n k max : Nat) : Nat := if n + k > max then max else n + k

/-- The number a list of bytes spells, least significant byte first (R8). -/
def leNat : List Byte → Nat
  | [] => 0
  | b :: r => b.toNat + 256 * leNat r

/-- n bytes of a number, least significant byte first (R8). -/
def leBytes : Nat → Nat → List Byte
  | 0, _ => []
  | n + 1, v => BitVec.ofNat 8 v :: leBytes n (v / 256)

/-- n bytes of a list from offset o; bytes beyond the end are 0. -/
def slice (l : List Byte) (o n : Nat) : List Byte :=
  (List.range n).map fun i => l.getD (o + i) 0#8

/-- The little-endian number in n bytes of a list from offset o. -/
def leAt (l : List Byte) (o n : Nat) : Nat := leNat (slice l o n)

/-- The two's complement value of an n-bit number. -/
def signed (n v : Nat) : Int := if v % 2 ^ n < 2 ^ (n - 1) then (v % 2 ^ n : Nat) else (v % 2 ^ n : Nat) - (2 ^ n : Nat)

/-- The n-bit two's complement pattern of an integer. -/
def unsigned (n : Nat) (v : Int) : Nat := (v % (2 ^ n : Nat)).toNat

/-- Clamp an integer between two bounds. -/
def clampInt (lo hi v : Int) : Int := if v < lo then lo else if v > hi then hi else v

end Sys2Proof.Machine
end

