-- ==== Sys2Proof/Machine/Codes.lean ====
section
/-!
DEFINITION. Named codes of the manual: FS_ status codes (Tables 13.5, 14.2), admission refusal codes (Table 13.2), EV_ event
codes (Tables 19.10, 20.5), port states (Table 02.3), abort codes (Table 02.8) and gaits (Table 01.8).
-/
namespace Sys2Proof.Machine

namespace FS

/-- Table 13.5: Carried out. -/
def FS_OK : Nat := 0x0000
/-- Table 13.5: Reserved class or code. -/
def FS_OPCODE : Nat := 0x0010
/-- Table 13.5: PLEN or ARGS wrong for the opcode. -/
def FS_LEN : Nat := 0x0011
/-- Table 13.5: Not carried out, because of a planned supervisor restart (R393). -/
def FS_RESTART : Nat := 0x0012
/-- Table 13.5: Interrupted by an unplanned supervisor restart; the effect may or may not have taken place. -/
def FS_RESTART_UNK : Nat := 0x0013
/-- Table 14.2: Argument out of range, reserved field set, or wrong sequence value. -/
def FS_PARAM : Nat := 0x0020
/-- Table 14.2: A conflicting operation is pending. -/
def FS_BUSY : Nat := 0x0021
/-- Table 14.2: The device is not in the required run state (R399). -/
def FS_DEV_STATE : Nat := 0x0022
/-- Table 14.2: Port, binding or sequencer rule broken. -/
def FS_PORT_CFG : Nat := 0x0030
/-- Table 14.2: A port is in the wrong state. -/
def FS_PORT_STATE : Nat := 0x0031
/-- Table 14.2: BLACK start on a live bus. -/
def FS_BUS_LIVE : Nat := 0x0032
/-- Table 14.2: LIVE start on a dead bus. -/
def FS_BUS_DEAD : Nat := 0x0033
/-- Table 14.2: A lane needed by the port is not UP. -/
def FS_LANE_DOWN : Nat := 0x0034
/-- Table 14.2: The gate driver still reports a fault after the clear. -/
def FS_GD_FAULT : Nat := 0x0035
/-- Table 14.2: Context configuration rule broken. -/
def FS_CTX_CFG : Nat := 0x0040
/-- Table 14.2: The context is in the wrong state. -/
def FS_CTX_STATE : Nat := 0x0041
/-- Table 14.2: Schedule or budget rule broken. -/
def FS_SCHED : Nat := 0x0042
/-- Table 14.2: Limp requested. -/
def FS_GAIT_LIMP : Nat := 0x0050
/-- Table 14.2: Gallop refused for temperature. -/
def FS_GAIT_TEMP : Nat := 0x0051
/-- Table 14.2: Paddock refused for port or ACT state. -/
def FS_GAIT_STATE : Nat := 0x0052
/-- Table 14.2: Rate or schedule does not fit the target gait. -/
def FS_GAIT_RATE : Nat := 0x0053
/-- Table 14.2: A tile failed its CRC-32C. -/
def FS_TILE_CRC : Nat := 0x0060
/-- Table 14.2: Swap aborted by the scrubber. -/
def FS_SWAP_ABORT : Nat := 0x0061
/-- Table 14.2: Refused in the unit's pair role. -/
def FS_PAIR_ROLE : Nat := 0x0070
/-- Table 14.2: No ready standby. -/
def FS_PAIR_NOT_READY : Nat := 0x0071
/-- Table 14.2: The Steward is in the wrong state, or arm or reset conditions fail. -/
def FS_STW_STATE : Nat := 0x0080
/-- Table 14.2: Prepared; awaits confirmation (R412). -/
def FS_CONF_REQ : Nat := 0x0081
/-- Table 14.2: Confirmation refused; the prepared action is discarded. -/
def FS_CONF : Nat := 0x0082
/-- Table 14.2: HLP program missing or invalid. -/
def FS_HLP_PROG : Nat := 0x0090
/-- Table 14.2: HLP in the wrong state or mode. -/
def FS_HLP_STATE : Nat := 0x0091
/-- Table 14.2: No valid retained image. -/
def FS_HLP_RETAIN : Nat := 0x0092
/-- Table 14.2: Retained layout differs from the program's. -/
def FS_HLP_LAYOUT : Nat := 0x0093
/-- Table 14.2: A signature or key check failed. -/
def FS_SIG : Nat := 0x00A0
/-- Table 14.2: Security version below the anti-rollback counter. -/
def FS_ROLLBACK : Nat := 0x00A1
/-- Table 14.2: Image format, length, hash or content rule broken. -/
def FS_IMAGE : Nat := 0x00A2
/-- Table 14.2: Slot in the wrong state for the command. -/
def FS_SLOT : Nat := 0x00A3
/-- Table 14.2: Capture byte rate exceeds its reserved share. -/
def FS_CAP_BUDGET : Nat := 0x00B0
/-- Table 14.2: Time base not settable by the host. -/
def FS_TB_OWNED : Nat := 0x00C0
/-- Table 14.2: NVM erase or program failed. -/
def FS_NVM : Nat := 0x00D0

end FS

namespace EV

/-- Table 19.10. -/
def EV_GAIT_CHANGE : Nat := 0x0001
/-- Table 19.10. -/
def EV_GAIT_THERMAL : Nat := 0x0002
/-- Table 19.10. -/
def EV_LIMP_ENTER : Nat := 0x0003
/-- Table 19.10. -/
def EV_CLE_DEADLINE : Nat := 0x0004
/-- Table 19.10. -/
def EV_CLE_NUMERR : Nat := 0x0005
/-- Table 19.10. -/
def EV_CLE_RG_SKIP : Nat := 0x0006
/-- Table 19.10. -/
def EV_CLE_FE : Nat := 0x0007
/-- Table 19.10. -/
def EV_CLE_FE_CLEAR : Nat := 0x0008
/-- Table 19.10. -/
def EV_CLE_PARITY : Nat := 0x0009
/-- Table 19.10. -/
def EV_COEF_SWAP : Nat := 0x000A
/-- Table 19.10. -/
def EV_COEF_SWAP_ABORT : Nat := 0x000B
/-- Table 19.10. -/
def EV_TILE_CRC : Nat := 0x000C
/-- Table 19.10. -/
def EV_TRACE_DONE : Nat := 0x000D
/-- Table 19.10. -/
def EV_PORT_STATE : Nat := 0x0100
/-- Table 19.10. -/
def EV_ENV_PERSIST : Nat := 0x0101
/-- Table 19.10. -/
def EV_CURLIM_ENTER : Nat := 0x0102
/-- Table 19.10. -/
def EV_CURLIM_EXIT : Nat := 0x0103
/-- Table 19.10. -/
def EV_CURLIM_TIMEOUT : Nat := 0x0104
/-- Table 19.10. -/
def EV_OBS_VALID : Nat := 0x0105
/-- Table 19.10. -/
def EV_GOV_SAT : Nat := 0x0106
/-- Table 19.10. -/
def EV_STAB_ALERT : Nat := 0x0107
/-- Table 19.10. -/
def EV_GOV_CL_DEMAND : Nat := 0x0108
/-- Table 19.10. -/
def EV_ADC_REF : Nat := 0x0200
/-- Table 19.10. -/
def EV_ADC_SEQ_MISS : Nat := 0x0201
/-- Table 19.10. -/
def EV_SD_CLK : Nat := 0x0202
/-- Table 19.10. -/
def EV_SD_SYNC_IGN : Nat := 0x0203
/-- Table 19.10. -/
def EV_PWM_PDSKEW : Nat := 0x0300
/-- Table 19.10. -/
def EV_PWM_CROSSFIRE : Nat := 0x0301
/-- Table 19.10. -/
def EV_PWM_TRIP : Nat := 0x0302
/-- Table 19.10. -/
def EV_PWM_TICK : Nat := 0x0303
/-- Table 19.10. -/
def EV_DL_UNLOCK : Nat := 0x0304
/-- Table 19.10. -/
def EV_LANE_STATE : Nat := 0x0400
/-- Table 19.10. -/
def EV_GL_ALERT : Nat := 0x0401
/-- Table 19.10. -/
def EV_GL_ABANDON : Nat := 0x0402
/-- Table 19.10. -/
def EV_GDEN_RB : Nat := 0x0403
/-- Table 19.10. -/
def EV_PAIR_STATE : Nat := 0x0404
/-- Table 19.10. -/
def EV_TAKEOVER : Nat := 0x0405
/-- Table 19.10. -/
def EV_HANDOVER : Nat := 0x0406
/-- Table 19.10. -/
def EV_BRIDLE_CONFLICT : Nat := 0x0407
/-- Table 19.10. -/
def EV_MIRROR_STALE : Nat := 0x0408
/-- Table 19.10. -/
def EV_MIRROR_LANE : Nat := 0x0409
/-- Table 19.10. -/
def EV_STW_STATE : Nat := 0x0500
/-- Table 19.10. -/
def EV_STW_CAUSE : Nat := 0x0501
/-- Table 19.10. -/
def EV_SGR_READBACK : Nat := 0x0502
/-- Table 19.10. -/
def EV_HLP_STATE : Nat := 0x0600
/-- Table 19.10. -/
def EV_HLP_OVERRUN : Nat := 0x0601
/-- Table 19.10. -/
def EV_RIO_TIMEOUT : Nat := 0x0602
/-- Table 19.10. -/
def EV_FIO_SILENT : Nat := 0x0603
/-- Table 19.10. -/
def EV_FIO_OVL : Nat := 0x0604
/-- Table 19.10. -/
def EV_VFIELD : Nat := 0x0605
/-- Table 19.10. -/
def EV_FCP_RESTART : Nat := 0x0700
/-- Table 19.10. -/
def EV_TB_LOCK : Nat := 0x0701
/-- Table 19.10. -/
def EV_TB_STEP : Nat := 0x0702
/-- Table 19.10. -/
def EV_TSQ_DROP : Nat := 0x0703
/-- Table 19.10. -/
def EV_LINK : Nat := 0x0704
/-- Table 19.10. -/
def EV_CAP_GAP : Nat := 0x0800
/-- Table 19.10. -/
def EV_REC_INIT : Nat := 0x0801
/-- Table 19.10. -/
def EV_REC_RESUME : Nat := 0x0802
/-- Table 19.10. -/
def EV_CLK_LOSS : Nat := 0x0900
/-- Table 19.10. -/
def EV_SYNC_ERR : Nat := 0x0901
/-- Table 19.10. -/
def EV_WAKE : Nat := 0x0902
/-- Table 19.10. -/
def EV_BLOCK_RESET : Nat := 0x0903
/-- Table 19.10. -/
def EV_MEM_ERR : Nat := 0x0904
/-- Table 19.10. -/
def EV_BOOT_FALLBACK : Nat := 0x0905
/-- Table 20.5. -/
def EV_SPUR_START : Nat := 0x0A00
/-- Table 20.5. -/
def EV_SPUR_STOP : Nat := 0x0A01
/-- Table 20.5. -/
def EV_SPUR_INJECT : Nat := 0x0A02
/-- Table 20.5. -/
def EV_SPUR_REJECT : Nat := 0x0A03
/-- Table 20.5. -/
def EV_DBG_HALT : Nat := 0x0A04

end EV

namespace Refuse
/-- Table 13.2. -/
def noCredit : Nat := 1
/-- Table 13.2. -/
def hdrCrc : Nat := 2
/-- Table 13.2. -/
def len : Nat := 3
/-- Table 13.2. -/
def tag : Nat := 4
/-- Table 13.2. -/
def closed : Nat := 5
/-- Table 13.2. -/
def seq : Nat := 6
/-- Table 13.2. -/
def epoch : Nat := 7
end Refuse

namespace PS
/-- Table 02.3. -/
def off : Nat := 0
/-- Table 02.3. -/
def armed : Nat := 1
/-- Table 02.3. -/
def blackstart : Nat := 2
/-- Table 02.3. -/
def presync : Nat := 3
/-- Table 02.3. -/
def matching : Nat := 4
/-- Table 02.3. -/
def run : Nat := 5
/-- Table 02.3. -/
def curlim : Nat := 6
/-- Table 02.3. -/
def rampdown : Nat := 7
/-- Table 02.3. -/
def fault : Nat := 8
end PS

namespace Gait
/-- Table 01.8. -/
def paddock : Nat := 0
/-- Table 01.8. -/
def walk : Nat := 1
/-- Table 01.8. -/
def trot : Nat := 2
/-- Table 01.8. -/
def canter : Nat := 3
/-- Table 01.8. -/
def gallop : Nat := 4
/-- Table 01.8. -/
def limp : Nat := 5
end Gait

end Sys2Proof.Machine
end

