-- ==== Sys2Proof/Machine/Fields.lean ====
section
/-!
DEFINITION. The registers of the Direct Register Window (19, Tables 19.2 to 19.8, 20.1) and their fields: for each
register its class and offset, for each field its bits (written NAME[hi:lo], R8), the access masks of R11, the reset
word of Tables 19.4 and 19.5, and the reading and writing of one field. The names are the manual's.
-/
namespace Sys2Proof.Machine

/-- Where a register stands: the WSEL class (0 for a register that needs no selection) and the window offset (R500, R509). -/
structure Reg where
  cls : Nat
  off : Nat
  deriving DecidableEq, Repr

/-- A field of a register: class, offset, most and least significant bit (R8). -/
structure Fld where
  cls : Nat
  off : Nat
  hi : Nat
  lo : Nat
  deriving DecidableEq, Repr

/-- The k-th of like registers at consecutive offsets (SD_GRP0 to SD_GRP7 and so on). -/
def Fld.nth (f : Fld) (k : Nat) : Fld := { f with off := f.off + 4 * k }

/-- The k-th of like registers at consecutive offsets. -/
def Reg.nth (r : Reg) (k : Nat) : Reg := { r with off := r.off + 4 * k }

/-- The key of a register of unit idx in the register file. -/
def regKey (cls idx off : Nat) : Nat := (cls * 256 + idx) * 65536 + off

/-- The bits of field f as a number. -/
def fieldOf (w : Word) (hi lo : Nat) : Nat := (w.toNat >>> lo) % 2 ^ (hi + 1 - lo)

/-- The word w with bits hi..lo replaced by v (v modulo the field's width). -/
def putField (w : Word) (hi lo v : Nat) : Word :=
  BitVec.ofNat 32 (w.toNat % 2 ^ lo + (v % 2 ^ (hi + 1 - lo)) * 2 ^ lo + (w.toNat >>> (hi + 1)) * 2 ^ (hi + 1))

/-- The mask of bits hi..lo. -/
def maskOf (hi lo : Nat) : Nat := (2 ^ (hi + 1 - lo) - 1) * 2 ^ lo

namespace R

def GAIT_STATUS : Reg := ⟨0x0, 0x200⟩
def PERIOD_MON : Reg := ⟨0x0, 0x204⟩
def COEF_STATUS : Reg := ⟨0x0, 0x208⟩
def RG_MON : Reg := ⟨0x0, 0x20c⟩
def ADC_STATUS : Reg := ⟨0x0, 0x210⟩
def ADC_URG : Reg := ⟨0x0, 0x214⟩
def SD_CTRL : Reg := ⟨0x0, 0x218⟩
def SD_GRP : Reg := ⟨0x0, 0x220⟩
def SD_PROF : Reg := ⟨0x0, 0x240⟩
def PWM_CTRL : Reg := ⟨0x0, 0x250⟩
def PWM_GSTAT : Reg := ⟨0x0, 0x254⟩
def PWM_PERIOD : Reg := ⟨0x0, 0x258⟩
def PWM_PERIOD_SH : Reg := ⟨0x0, 0x25c⟩
def PWM_COMMIT : Reg := ⟨0x0, 0x260⟩
def PWM_PNUM_LO : Reg := ⟨0x0, 0x264⟩
def PWM_PNUM_HI : Reg := ⟨0x0, 0x268⟩
def PWM_POL0 : Reg := ⟨0x0, 0x26c⟩
def PWM_POL1 : Reg := ⟨0x0, 0x270⟩
def TRIP_POL : Reg := ⟨0x0, 0x274⟩
def DL_CTRL : Reg := ⟨0x0, 0x278⟩
def DL_STAT : Reg := ⟨0x0, 0x27c⟩
def WT_CFG : Reg := ⟨0x0, 0x280⟩
def GL_GDEN : Reg := ⟨0x0, 0x2a0⟩
def PAIR_CFG : Reg := ⟨0x0, 0x2a4⟩
def PAIR_STATUS : Reg := ⟨0x0, 0x2a8⟩
def MIRROR_STAT : Reg := ⟨0x0, 0x2ac⟩
def PAIR_SKEW : Reg := ⟨0x0, 0x2b0⟩
def PAIR_CNT : Reg := ⟨0x0, 0x2b4⟩
def STW_STATUS : Reg := ⟨0x0, 0x2b8⟩
def STW_CAUSE : Reg := ⟨0x0, 0x2bc⟩
def STW_IO : Reg := ⟨0x0, 0x2c0⟩
def STW_CNT : Reg := ⟨0x0, 0x2c4⟩
def PDU_STAT : Reg := ⟨0x0, 0x2c8⟩
def HLP_STATUS : Reg := ⟨0x0, 0x2e0⟩
def HLP_TIME : Reg := ⟨0x0, 0x2e4⟩
def HLP_CNT : Reg := ⟨0x0, 0x2e8⟩
def HLP_CYCNUM : Reg := ⟨0x0, 0x2ec⟩
def FIO_CFG : Reg := ⟨0x0, 0x2f0⟩
def FIO_FILT : Reg := ⟨0x0, 0x2f4⟩
def FIO_DI : Reg := ⟨0x0, 0x2f8⟩
def FIO_DO : Reg := ⟨0x0, 0x2fc⟩
def FIO_STAT : Reg := ⟨0x0, 0x300⟩
def FCP_EPOCH : Reg := ⟨0x0, 0x304⟩
def CAP_STAT : Reg := ⟨0x0, 0x308⟩
def CAP_DEST_IP : Reg := ⟨0x0, 0x30c⟩
def CAP_DEST_PORT : Reg := ⟨0x0, 0x310⟩
def CAP_LEVEL : Reg := ⟨0x0, 0x314⟩
def CAP_RATE : Reg := ⟨0x0, 0x318⟩
def HIST_OUT : Reg := ⟨0x0, 0x31c⟩
def REC_NEXT_LO : Reg := ⟨0x0, 0x32c⟩
def REC_NEXT_HI : Reg := ⟨0x0, 0x330⟩
def CLK_CFG : Reg := ⟨0x0, 0x334⟩
def CLK_STAT : Reg := ⟨0x0, 0x338⟩
def DLL_STAT : Reg := ⟨0x0, 0x33c⟩
def CLK_CNT : Reg := ⟨0x0, 0x340⟩
def PLL_SLOT : Reg := ⟨0x0, 0x344⟩
def WAKE_CFG : Reg := ⟨0x0, 0x364⟩
def WAKE_ALARM : Reg := ⟨0x0, 0x368⟩
def WAKE_STAT : Reg := ⟨0x0, 0x36c⟩
def RST_CAUSE : Reg := ⟨0x0, 0x370⟩
def RST_STAT : Reg := ⟨0x0, 0x374⟩
def OPT_STAT : Reg := ⟨0x0, 0x378⟩
def BOOT_STAT : Reg := ⟨0x0, 0x37c⟩
def TACK_CTRL : Reg := ⟨0x0, 0x380⟩
def ECC_STAT : Reg := ⟨0x0, 0x384⟩
def DRW_STAT : Reg := ⟨0x0, 0x388⟩
def LEG_CFG : Reg := ⟨0x1, 0x3c0⟩
def LEG_DT : Reg := ⟨0x1, 0x3c4⟩
def LEG_PULSE : Reg := ⟨0x1, 0x3c8⟩
def LEG_TRIM : Reg := ⟨0x1, 0x3cc⟩
def LEG_CMP : Reg := ⟨0x1, 0x3d0⟩
def LEG_CMP_ACT : Reg := ⟨0x1, 0x3d4⟩
def LEG_STAT : Reg := ⟨0x1, 0x3d8⟩
def LEG_CNT : Reg := ⟨0x1, 0x3dc⟩
def LEG_EVT : Reg := ⟨0x1, 0x3e0⟩
def GL_LEG_STAT : Reg := ⟨0x1, 0x3e4⟩
def TG_CFG : Reg := ⟨0x2, 0x3c0⟩
def TG_AIN_LO : Reg := ⟨0x2, 0x3c4⟩
def TG_AIN_HI : Reg := ⟨0x2, 0x3c8⟩
def TG_LEGS_LO : Reg := ⟨0x2, 0x3cc⟩
def TG_LEGS_HI : Reg := ⟨0x2, 0x3d0⟩
def TG_STAT : Reg := ⟨0x2, 0x3d4⟩
def CTX_CFG : Reg := ⟨0x3, 0x3c0⟩
def CTX_STATUS : Reg := ⟨0x3, 0x3c4⟩
def RES_STAT : Reg := ⟨0x3, 0x3c8⟩
def TRACE_CFG : Reg := ⟨0x4, 0x3c0⟩
def TRACE_CTL : Reg := ⟨0x4, 0x3c4⟩
def TRACE_LEVEL : Reg := ⟨0x4, 0x3c8⟩
def PORT_STATUS : Reg := ⟨0x5, 0x3c0⟩
def PORT_ENV : Reg := ⟨0x5, 0x3c4⟩
def OBS_STATUS : Reg := ⟨0x5, 0x3c8⟩
def GOV_STATUS : Reg := ⟨0x5, 0x3cc⟩
def OBS_BIN_SEL : Reg := ⟨0x5, 0x3d0⟩
def OBS_BIN_RE : Reg := ⟨0x5, 0x3d4⟩
def OBS_BIN_IM : Reg := ⟨0x5, 0x3d8⟩
def OBS_BIN_COH : Reg := ⟨0x5, 0x3dc⟩
def OBS_XG : Reg := ⟨0x5, 0x3e0⟩
def OBS_RG : Reg := ⟨0x5, 0x3e4⟩
def OBS_RHO : Reg := ⟨0x5, 0x3e8⟩
def OBS_ZETA : Reg := ⟨0x5, 0x3ec⟩
def ADC_CORE_CFG : Reg := ⟨0x6, 0x3c0⟩
def ADC_CORE_STAT : Reg := ⟨0x6, 0x3c4⟩
def ADC_SEQ : Reg := ⟨0x6, 0x3c8⟩
def AIN_SAMP : Reg := ⟨0x7, 0x3c0⟩
def AIN_LAST : Reg := ⟨0x7, 0x3c4⟩
def CMP_CFG : Reg := ⟨0x7, 0x3c8⟩
def CMP_STATIC : Reg := ⟨0x7, 0x3cc⟩
def CMP_STAT : Reg := ⟨0x7, 0x3d0⟩
def CMP_CNT : Reg := ⟨0x7, 0x3d4⟩
def SD_CFG : Reg := ⟨0x8, 0x3c0⟩
def SD_RES : Reg := ⟨0x8, 0x3c4⟩
def SD_STAT : Reg := ⟨0x8, 0x3c8⟩
def LANE_CFG : Reg := ⟨0x9, 0x3c0⟩
def LANE_STAT : Reg := ⟨0x9, 0x3c4⟩
def LANE_CNT : Reg := ⟨0x9, 0x3c8⟩
def LANE_SLIP : Reg := ⟨0x9, 0x3cc⟩
def GL_DELAY : Reg := ⟨0x9, 0x3d0⟩
def TB_STAT : Reg := ⟨0xa, 0x3c0⟩
def TB_NS : Reg := ⟨0xa, 0x3c4⟩
def TB_SEC_LO : Reg := ⟨0xa, 0x3c8⟩
def TB_SEC_HI : Reg := ⟨0xa, 0x3cc⟩
def TB_FRAC : Reg := ⟨0xa, 0x3d0⟩
def TB_FREQ : Reg := ⟨0xa, 0x3d4⟩
def TB0_OFS : Reg := ⟨0xa, 0x3d8⟩
def MAC_STAT : Reg := ⟨0xb, 0x3c0⟩
def TSQ_STAT : Reg := ⟨0xb, 0x3c4⟩
def MB_STAT : Reg := ⟨0xc, 0x3c0⟩
def RIO_STAT : Reg := ⟨0xd, 0x3c0⟩
def WSEL : Reg := ⟨0x0, 0x100⟩
def SPUR_CTRL : Reg := ⟨0x0, 0x8000⟩
def SPUR_STAT : Reg := ⟨0x0, 0x8004⟩
def SPUR_CLE : Reg := ⟨0x0, 0x8010⟩
def SPUR_ADC : Reg := ⟨0x0, 0x8014⟩
def SPUR_GL : Reg := ⟨0x0, 0x8018⟩
def SPUR_BP : Reg := ⟨0x0, 0x801c⟩
def SPUR_SHIFT : Reg := ⟨0x0, 0x8020⟩
def SPUR_INJ : Reg := ⟨0x0, 0x8024⟩
def IDENT_ID : Reg := ⟨0x0, 0x0⟩
def IDENT_FW : Reg := ⟨0x0, 0x4⟩
def IDENT_FCP : Reg := ⟨0x0, 0x8⟩
def IDENT_STATE : Reg := ⟨0x0, 0xc⟩
def IDENT_SERIAL_LO : Reg := ⟨0x0, 0x10⟩
def IDENT_SERIAL_HI : Reg := ⟨0x0, 0x14⟩
def IDENT_CLE_VER : Reg := ⟨0x0, 0x18⟩
def IDENT_STW_VER : Reg := ⟨0x0, 0x1c⟩
def IDENT_HLP_VER : Reg := ⟨0x0, 0x20⟩
def IDENT_CFG_DIGEST : Reg := ⟨0x0, 0x24⟩
def IDENT_BOOT : Reg := ⟨0x0, 0x28⟩
def IDENT_LAYOUT : Reg := ⟨0x0, 0x2c⟩
def EVQ_STAT : Reg := ⟨0x0, 0x808⟩

end R

namespace F

/-- Table 01.8, RO: 1 while Walk powers down a core configured for continuous conversion. -/
def GAIT_STATUS_CONT_OVERRIDDEN : Fld := ⟨0x0, 0x200, 19, 19⟩
/-- Table 01.8, RO: 1 on AV4896-H while in Gallop with junction temperature at or above 115 °C. -/
def GAIT_STATUS_THERM_HOLD : Fld := ⟨0x0, 0x200, 18, 18⟩
/-- Table 01.8, RO: 1 while any leg is assigned to the Gate Link. -/
def GAIT_STATUS_GL_PRESENT : Fld := ⟨0x0, 0x200, 17, 17⟩
/-- Table 01.8, RO: 1 on AV4896-H, 0 on AV4896-E. -/
def GAIT_STATUS_VARIANT_H : Fld := ⟨0x0, 0x200, 16, 16⟩
/-- Table 01.8, RO: 1 while a gait change is pending. -/
def GAIT_STATUS_PEND_VALID : Fld := ⟨0x0, 0x200, 7, 7⟩
/-- Table 01.8, RO: Target gait while PEND_VALID = 1; encoded as GAIT. -/
def GAIT_STATUS_GAIT_PEND : Fld := ⟨0x0, 0x200, 6, 4⟩
/-- Table 01.8, RO: Gait in force: 0b000 Paddock, 0b001 Walk, 0b010 Trot, 0b011 Canter, 0b100 Gallop, 0b101 Limp; 0b110 and 0b111 are reserved. -/
def GAIT_STATUS_GAIT : Fld := ⟨0x0, 0x200, 2, 0⟩
/-- Table 01.9, RC: Number of RG0 periods in which some port's work missed its deadline; saturates at 0xFFFF. -/
def PERIOD_MON_DEADLINE_MISS : Fld := ⟨0x0, 0x204, 31, 16⟩
/-- Table 01.9, RO: For the last completed RG0 period, the smallest slack in CTL cycles between completion and deadline across the ports; 0 if a deadline was missed. -/
def PERIOD_MON_SLACK_LAST : Fld := ⟨0x0, 0x204, 15, 0⟩
/-- Table 02.6, RO: Port state, encoded as in Table 02.3. -/
def PORT_STATUS_STATE : Fld := ⟨0x5, 0x3c0, 31, 28⟩
/-- Table 02.6, RO: 1 if the last black start, or the pull window in progress, used time assistance. -/
def PORT_STATUS_TIME_ASSIST : Fld := ⟨0x5, 0x3c0, 27, 27⟩
/-- Table 02.6, RO: 1 while TB0 meets R82. -/
def PORT_STATUS_TIME_OK : Fld := ⟨0x5, 0x3c0, 26, 26⟩
/-- Table 02.6, RO: 1 from ARM until seeding, while any family state carries HIST_COLD; the observer and the bus-side SRF-PLL are not counted (R64). -/
def PORT_STATUS_HIST_COLD : Fld := ⟨0x5, 0x3c0, 25, 25⟩
/-- Table 02.6, RO: Breaker close request to the HLP. -/
def PORT_STATUS_REQ_CLOSE : Fld := ⟨0x5, 0x3c0, 24, 24⟩
/-- Table 02.6, RO: Breaker open request to the HLP. -/
def PORT_STATUS_REQ_OPEN : Fld := ⟨0x5, 0x3c0, 23, 23⟩
/-- Table 02.6, RO: Breaker-closed feedback as the port last saw it. -/
def PORT_STATUS_BKR_FB : Fld := ⟨0x5, 0x3c0, 22, 22⟩
/-- Table 02.6, RO: 1 in MATCH while the match windows hold. -/
def PORT_STATUS_SYNC_OK : Fld := ⟨0x5, 0x3c0, 21, 21⟩
/-- Table 02.6, RO: 1 while the envelope is computed; 0 while the static ceiling applies. -/
def PORT_STATUS_ENV_ACTIVE : Fld := ⟨0x5, 0x3c0, 20, 20⟩
/-- Table 02.6, RO: 1 while the voltage-loop output is limited to I_lim. -/
def PORT_STATUS_ILIM_ACT : Fld := ⟨0x5, 0x3c0, 19, 19⟩
/-- Table 02.6, RO: 1 while ω is at ω_min or ω_max. -/
def PORT_STATUS_FREQ_LIM : Fld := ⟨0x5, 0x3c0, 18, 18⟩
/-- Table 02.6, RO: 1 while any leg's duty is clamped. -/
def PORT_STATUS_OVERMOD : Fld := ⟨0x5, 0x3c0, 17, 17⟩
/-- Table 02.6, RO: 1 in CURLIM while the impedance returns over T_vz. -/
def PORT_STATUS_CL_RAMP : Fld := ⟨0x5, 0x3c0, 16, 16⟩
/-- Table 02.6, RO: Reason for the last abort, by Table 02.8; cleared at ARM. -/
def PORT_STATUS_ABORT_CODE : Fld := ⟨0x5, 0x3c0, 15, 8⟩
/-- Table 02.6, RO: 0x0 none, 0x1 two-level three-wire, 0x2 two-level four-wire, 0x3 three-level three-wire, 0x4 three-level four-wire, 0x5 interleaved parallel AC, 0x6 interleaved buck-boost DC; 0x7 to 0xF reserved. -/
def PORT_STATUS_TOPOLOGY : Fld := ⟨0x5, 0x3c0, 3, 0⟩
/-- Table 02.7, RO: Length of the current run of hit periods; saturates at 0xFF. -/
def PORT_ENV_RUN_LEN : Fld := ⟨0x5, 0x3c4, 31, 24⟩
/-- Table 02.7, RC: Entries into CURLIM; saturates at 0xFF. -/
def PORT_ENV_CL_ENTRIES : Fld := ⟨0x5, 0x3c4, 23, 16⟩
/-- Table 02.7, RC: Counted periods with at least one crossing; saturates at 0xFFFF. -/
def PORT_ENV_HIT_CNT : Fld := ⟨0x5, 0x3c4, 15, 0⟩
/-- Table 03.5, RO: Context type, by Table 03.3; set by CONFIG. -/
def CTX_CFG_TYPE : Fld := ⟨0x3, 0x3c0, 31, 24⟩
/-- Table 03.5, RO: Rate group, RG0 to RG3. -/
def CTX_CFG_RG : Fld := ⟨0x3, 0x3c0, 23, 22⟩
/-- Table 03.5, RO: Position in the group's schedule, 0 to 63. -/
def CTX_CFG_ORDER : Fld := ⟨0x3, 0x3c0, 21, 16⟩
/-- Table 03.5, RO: Port: 0x0–0x3 ACP0–ACP3, 0x4–0xB DCP0–DCP7, 0xF none; 0xC–0xE reserved. -/
def CTX_CFG_PORT : Fld := ⟨0x3, 0x3c0, 15, 12⟩
/-- Table 03.5, RO: 1: the context's integrators are mirrored to the standby. -/
def CTX_CFG_MIRROR : Fld := ⟨0x3, 0x3c0, 11, 11⟩
/-- Table 03.5, RO: SS only: 1 holds the state update while any output is clamped. -/
def CTX_CFG_AW_HOLD : Fld := ⟨0x3, 0x3c0, 10, 10⟩
/-- Table 03.5, RO: Following-error action, by R116. -/
def CTX_CFG_FE_ACT : Fld := ⟨0x3, 0x3c0, 9, 8⟩
/-- Table 03.5, RO: n of Table 03.3; 0 for types without n. -/
def CTX_CFG_DIM_N : Fld := ⟨0x3, 0x3c0, 7, 4⟩
/-- Table 03.5, RO: SS input count minus 1. -/
def CTX_CFG_DIM_M : Fld := ⟨0x3, 0x3c0, 3, 2⟩
/-- Table 03.5, RO: SS output count minus 1. -/
def CTX_CFG_DIM_P : Fld := ⟨0x3, 0x3c0, 1, 0⟩
/-- Table 03.6, RO: 1 while the context is enabled. -/
def CTX_STATUS_EN : Fld := ⟨0x3, 0x3c4, 31, 31⟩
/-- Table 03.6, RO: 1 while any state group carries HIST_COLD. -/
def CTX_STATUS_HCOLD : Fld := ⟨0x3, 0x3c4, 30, 30⟩
/-- Table 03.6, RO: Upper clamp acted in the last computation. -/
def CTX_STATUS_SAT_HI : Fld := ⟨0x3, 0x3c4, 29, 29⟩
/-- Table 03.6, RO: Lower clamp acted in the last computation. -/
def CTX_STATUS_SAT_LO : Fld := ⟨0x3, 0x3c4, 28, 28⟩
/-- Table 03.6, RO: A state was held by R103 in the last computation. -/
def CTX_STATUS_HOLD : Fld := ⟨0x3, 0x3c4, 27, 27⟩
/-- Table 03.6, RO: An input carried OVR, UNSETTLED or INQ in the last computation. -/
def CTX_STATUS_INQ : Fld := ⟨0x3, 0x3c4, 26, 26⟩
/-- Table 03.6, W1C: A computation was discarded by R90. -/
def CTX_STATUS_NUMERR : Fld := ⟨0x3, 0x3c4, 25, 25⟩
/-- Table 03.6, RO: |e| > FE_LIMIT in the last computation. -/
def CTX_STATUS_FE_RUN : Fld := ⟨0x3, 0x3c4, 24, 24⟩
/-- Table 03.6, RO: Following error expired and not yet cleared by R115. -/
def CTX_STATUS_FE_LATCH : Fld := ⟨0x3, 0x3c4, 23, 23⟩
/-- Table 03.6, RO: Parity error in this context's RAM; cleared by reset only. -/
def CTX_STATUS_PERR : Fld := ⟨0x3, 0x3c4, 22, 22⟩
/-- Table 03.6, RO: FE_TIMER by R115. -/
def CTX_STATUS_FE_TIMER : Fld := ⟨0x3, 0x3c4, 15, 0⟩
/-- Table 03.7, RO: 1 once the result of the current release is published. -/
def RES_STAT_READY : Fld := ⟨0x3, 0x3c8, 31, 31⟩
/-- Table 03.7, RO: Computed while a state group was cold. -/
def RES_STAT_HCOLD : Fld := ⟨0x3, 0x3c8, 30, 30⟩
/-- Table 03.7, RO: SAT_HI or SAT_LO was set. -/
def RES_STAT_SAT : Fld := ⟨0x3, 0x3c8, 29, 29⟩
/-- Table 03.7, RO: Input quality flag, by R97. -/
def RES_STAT_INQ : Fld := ⟨0x3, 0x3c8, 28, 28⟩
/-- Table 03.7, RO: The values are those kept by R90. -/
def RES_STAT_NUMERR : Fld := ⟨0x3, 0x3c8, 27, 27⟩
/-- Table 03.7, RO: FE_LATCH was set at publication. -/
def RES_STAT_FE : Fld := ⟨0x3, 0x3c8, 26, 26⟩
/-- Table 03.7, RO: Earlier reads of this result, by R118; saturates at 3. -/
def RES_STAT_RDCNT : Fld := ⟨0x3, 0x3c8, 25, 24⟩
/-- Table 03.7, RO: Result sequence number, modulo 256. -/
def RES_STAT_SEQ : Fld := ⟨0x3, 0x3c8, 23, 16⟩
/-- Table 03.7, RO: Low 16 bits of the RG0 period number of the sample instant used. -/
def RES_STAT_PERIOD : Fld := ⟨0x3, 0x3c8, 15, 0⟩
/-- Table 03.8, RO: Active bank: 0 A, 1 B. -/
def COEF_STATUS_ACTIVE_B : Fld := ⟨0x0, 0x208, 31, 31⟩
/-- Table 03.8, RO: A swap is being verified or awaits its boundary. -/
def COEF_STATUS_SWAP_PEND : Fld := ⟨0x0, 0x208, 30, 30⟩
/-- Table 03.8, RO: The inactive bank passed verification and has not changed or failed a check since (R109, R111); 1 at the end of boot. -/
def COEF_STATUS_INACT_VERIFIED : Fld := ⟨0x0, 0x208, 29, 29⟩
/-- Table 03.8, W1C: The scrubber found an error in the active bank. -/
def COEF_STATUS_ACT_ERR : Fld := ⟨0x0, 0x208, 28, 28⟩
/-- Table 03.8, W1C: The scrubber found an error in the inactive bank. -/
def COEF_STATUS_INACT_ERR : Fld := ⟨0x0, 0x208, 27, 27⟩
/-- Table 03.8, RC: Swaps taken effect; saturates at 0xFF. -/
def COEF_STATUS_SWAP_CNT : Fld := ⟨0x0, 0x208, 23, 16⟩
/-- Table 03.8, W1C: Bit t: tile t failed a check in either bank. -/
def COEF_STATUS_TILE_ERR : Fld := ⟨0x0, 0x208, 15, 0⟩
/-- Table 03.9, RC: RG1 releases skipped; saturates at 0xFF. -/
def RG_MON_RG1_SKIP : Fld := ⟨0x0, 0x20c, 31, 24⟩
/-- Table 03.9, RC: RG2 releases skipped; saturates at 0xFF. -/
def RG_MON_RG2_SKIP : Fld := ⟨0x0, 0x20c, 23, 16⟩
/-- Table 03.9, RC: RG3 releases skipped; saturates at 0xFF. -/
def RG_MON_RG3_SKIP : Fld := ⟨0x0, 0x20c, 15, 8⟩
/-- Table 03.9, RC: Computations discarded by R90; saturates at 0xFF. -/
def RG_MON_NUMERR_CNT : Fld := ⟨0x0, 0x20c, 7, 0⟩
/-- Table 03.10, RW: Context traced; 63 switches the channel off. -/
def TRACE_CFG_CTX : Fld := ⟨0x4, 0x3c0, 31, 26⟩
/-- Table 03.10, RW: Word offset in context RAM, 0 to 63. -/
def TRACE_CFG_WORD : Fld := ⟨0x4, 0x3c0, 25, 20⟩
/-- Table 03.10, RW: Sample every DECIM + 1 executions. -/
def TRACE_CFG_DECIM : Fld := ⟨0x4, 0x3c0, 15, 0⟩
/-- Table 03.11, RO: 0b00 IDLE, 0b01 ARMED, 0b10 TRIGGERED, 0b11 DONE. -/
def TRACE_CTL_STATE : Fld := ⟨0x4, 0x3c4, 31, 30⟩
/-- Table 03.11, RW: 0b00 single, 0b01 ring; 0b10 and 0b11 reserved. -/
def TRACE_CTL_MODE : Fld := ⟨0x4, 0x3c4, 29, 28⟩
/-- Table 03.11, RW: Trigger, by R122; 0x6 to 0xF reserved. -/
def TRACE_CTL_TRIG_SRC : Fld := ⟨0x4, 0x3c4, 27, 24⟩
/-- Table 03.11, RW: Pre-trigger samples, 0 to 16 383. -/
def TRACE_CTL_PRE : Fld := ⟨0x4, 0x3c4, 13, 0⟩
/-- Table 04.3, RO: Update count, modulo 256 (R133). -/
def OBS_STATUS_UPD_SEQ : Fld := ⟨0x5, 0x3c8, 31, 24⟩
/-- Table 04.3, RO: 1 if the last update gave a valid estimate. -/
def OBS_STATUS_EST_VALID : Fld := ⟨0x5, 0x3c8, 23, 23⟩
/-- Table 04.3, RO: 1 while injection runs. -/
def OBS_STATUS_INJ_ON : Fld := ⟨0x5, 0x3c8, 22, 22⟩
/-- Table 04.3, RO: Cause by R134; 0b000 when valid; 0b110 and 0b111 reserved. -/
def OBS_STATUS_INVAL_WHY : Fld := ⟨0x5, 0x3c8, 21, 19⟩
/-- Table 04.3, RO: Valid bins in the last update, 0 to 64. -/
def OBS_STATUS_VALID_BINS : Fld := ⟨0x5, 0x3c8, 14, 8⟩
/-- Table 04.3, RO: Bin of ρ; 0xFF if no estimate. -/
def OBS_STATUS_RES_BIN : Fld := ⟨0x5, 0x3c8, 7, 0⟩
/-- Table 04.4, RO: 0b00 BOUNDED, 0b01 PINNED, 0b10 ADVISORY; 0b11 reserved. -/
def GOV_STATUS_MODE : Fld := ⟨0x5, 0x3cc, 31, 30⟩
/-- Table 04.4, RO: A ramp of R139 runs. -/
def GOV_STATUS_RAMPING : Fld := ⟨0x5, 0x3cc, 29, 29⟩
/-- Table 04.4, RO: Values frozen in CURLIM (R145). -/
def GOV_STATUS_FROZEN : Fld := ⟨0x5, 0x3cc, 28, 28⟩
/-- Table 04.4, RO: By R140. -/
def GOV_STATUS_STABILITY_ALERT : Fld := ⟨0x5, 0x3cc, 27, 27⟩
/-- Table 04.4, RO: OR of SAT_D, SAT_R and SAT_X. -/
def GOV_STATUS_GOV_SAT : Fld := ⟨0x5, 0x3cc, 26, 26⟩
/-- Table 04.4, W1C: The governor issued a current-limiting demand. -/
def GOV_STATUS_CL_DEM : Fld := ⟨0x5, 0x3cc, 25, 25⟩
/-- Table 04.4, RO: By R142. -/
def GOV_STATUS_LOWZETA : Fld := ⟨0x5, 0x3cc, 24, 24⟩
/-- Table 04.4, RO: D held at a bound. -/
def GOV_STATUS_SAT_D : Fld := ⟨0x5, 0x3cc, 18, 18⟩
/-- Table 04.4, RO: R_v held at a bound. -/
def GOV_STATUS_SAT_R : Fld := ⟨0x5, 0x3cc, 17, 17⟩
/-- Table 04.4, RO: X_v held at a bound. -/
def GOV_STATUS_SAT_X : Fld := ⟨0x5, 0x3cc, 16, 16⟩
/-- Table 04.4, RO: Cause of R140. -/
def GOV_STATUS_ALERT_D : Fld := ⟨0x5, 0x3cc, 10, 10⟩
/-- Table 04.4, RO: Cause of R140. -/
def GOV_STATUS_ALERT_X : Fld := ⟨0x5, 0x3cc, 9, 9⟩
/-- Table 04.4, RO: Cause of R140. -/
def GOV_STATUS_ALERT_RES : Fld := ⟨0x5, 0x3cc, 8, 8⟩
/-- Table 04.4, RC: Rising edges of STABILITY_ALERT; saturates at 0xFF. -/
def GOV_STATUS_ALERT_CNT : Fld := ⟨0x5, 0x3cc, 7, 0⟩
/-- Table 04.5, RO: UPD_SEQ of the set the latched bin came from. -/
def OBS_BIN_SEL_SET_SEQ : Fld := ⟨0x5, 0x3d0, 15, 8⟩
/-- Table 04.5, RO: The latched bin was valid by R132. -/
def OBS_BIN_SEL_BIN_VALID : Fld := ⟨0x5, 0x3d0, 7, 7⟩
/-- Table 04.5, RW: Writing latches bin BIN of the published set into OBS_BIN_RE, OBS_BIN_IM and OBS_BIN_COH. -/
def OBS_BIN_SEL_BIN : Fld := ⟨0x5, 0x3d0, 5, 0⟩
/-- Table 04.6, RO: Re(Z_i) of the latched bin, pu. -/
def OBS_BIN_RE_ALL : Fld := ⟨0x5, 0x3d4, 31, 0⟩
/-- Table 04.6, RO: Im(Z_i) of the latched bin, pu. -/
def OBS_BIN_IM_ALL : Fld := ⟨0x5, 0x3d8, 31, 0⟩
/-- Table 04.6, RO: γ²_i of the latched bin. -/
def OBS_BIN_COH_ALL : Fld := ⟨0x5, 0x3dc, 31, 0⟩
/-- Table 04.6, RO: X_g, pu. -/
def OBS_XG_ALL : Fld := ⟨0x5, 0x3e0, 31, 0⟩
/-- Table 04.6, RO: R_g, pu. -/
def OBS_RG_ALL : Fld := ⟨0x5, 0x3e4, 31, 0⟩
/-- Table 04.6, RO: ρ. -/
def OBS_RHO_ALL : Fld := ⟨0x5, 0x3e8, 31, 0⟩
/-- Table 04.6, RO: ζ by R142. -/
def OBS_ZETA_ALL : Fld := ⟨0x5, 0x3ec, 31, 0⟩
/-- Table 05.5, RO: 1 while ADC_REFIN is the reference. -/
def ADC_STATUS_REF_EXT : Fld := ⟨0x0, 0x210, 31, 31⟩
/-- Table 05.5, RO: By R149. -/
def ADC_STATUS_REF_FAULT : Fld := ⟨0x0, 0x210, 30, 30⟩
/-- Table 05.5, RO: Offset calibration complete on every core. -/
def ADC_STATUS_CAL_DONE : Fld := ⟨0x0, 0x210, 29, 29⟩
/-- Table 05.6, WO: Core 0 to 23; 24 to 31 are ignored. -/
def ADC_URG_CORE : Fld := ⟨0x0, 0x214, 12, 8⟩
/-- Table 05.6, WO: Internal channel when INPUT = 0b10. -/
def ADC_URG_INT : Fld := ⟨0x0, 0x214, 7, 4⟩
/-- Table 05.6, WO: 0b00 first, 0b01 second, 0b10 internal (C23 only); 0b11 reserved. A write issues the request. -/
def ADC_URG_INPUT : Fld := ⟨0x0, 0x214, 1, 0⟩
/-- Table 05.7, RO: 1 requests continuous conversion; honoured by Table 05.2; set by CONFIG. -/
def ADC_CORE_CFG_CONT : Fld := ⟨0x6, 0x3c0, 31, 31⟩
/-- Table 05.7, RO: Input of free-running conversions: 0 first, 1 second. -/
def ADC_CORE_CFG_CONT_IN : Fld := ⟨0x6, 0x3c0, 30, 30⟩
/-- Table 05.8, RO: Core powered. -/
def ADC_CORE_STAT_POWERED : Fld := ⟨0x6, 0x3c4, 31, 31⟩
/-- Table 05.8, RO: A conversion is running. -/
def ADC_CORE_STAT_BUSY : Fld := ⟨0x6, 0x3c4, 30, 30⟩
/-- Table 05.8, RO: Core converting continuously. -/
def ADC_CORE_STAT_CONT_ACT : Fld := ⟨0x6, 0x3c4, 29, 29⟩
/-- Table 05.8, RC: Entries skipped by R161; saturates at 0xFF. -/
def ADC_CORE_STAT_SEQ_MISS : Fld := ⟨0x6, 0x3c4, 23, 16⟩
/-- Table 05.8, RC: Urgent requests dropped; saturates at 0xFFFF. -/
def ADC_CORE_STAT_URG_DROP : Fld := ⟨0x6, 0x3c4, 15, 0⟩
/-- Table 05.9, RO: Entry enabled; set by CONFIG or by Fencen. -/
def ADC_SEQ_EN : Fld := ⟨0x6, 0x3c8, 31, 31⟩
/-- Table 05.9, RO: 1: CLE entry, writes AIN_SAMP, converts every RG0 period. -/
def ADC_SEQ_CLE : Fld := ⟨0x6, 0x3c8, 30, 30⟩
/-- Table 05.9, RO: 0: t_k + OFFSET; 1: t_k + L_port + OFFSET. -/
def ADC_SEQ_TRIG : Fld := ⟨0x6, 0x3c8, 29, 29⟩
/-- Table 05.9, RO: Rate group of a host entry. -/
def ADC_SEQ_RG : Fld := ⟨0x6, 0x3c8, 28, 27⟩
/-- Table 05.9, RO: 0b00 first, 0b01 second, 0b10 internal; 0b11 reserved. -/
def ADC_SEQ_INPUT : Fld := ⟨0x6, 0x3c8, 26, 25⟩
/-- Table 05.9, RO: Internal channel when INPUT = 0b10. -/
def ADC_SEQ_INT : Fld := ⟨0x6, 0x3c8, 24, 21⟩
/-- Table 05.9, RO: Port for TRIG = 1: 0x0–0xB; 0xF none. -/
def ADC_SEQ_PORT : Fld := ⟨0x6, 0x3c8, 20, 17⟩
/-- Table 05.9, RO: Offset in PWM clocks. -/
def ADC_SEQ_OFFSET : Fld := ⟨0x6, 0x3c8, 15, 0⟩
/-- Table 05.10, RO: By R166. -/
def AIN_SAMP_OVR : Fld := ⟨0x7, 0x3c0, 31, 31⟩
/-- Table 05.10, RO: The conversion carried the Walk start-up delay. -/
def AIN_SAMP_STARTUP : Fld := ⟨0x7, 0x3c0, 30, 30⟩
/-- Table 05.10, RO: By R161. -/
def AIN_SAMP_MISSED : Fld := ⟨0x7, 0x3c0, 29, 29⟩
/-- Table 05.10, RO: By R168. -/
def AIN_SAMP_EMPTY : Fld := ⟨0x7, 0x3c0, 28, 28⟩
/-- Table 05.10, RO: Low 8 bits of the RG0 period number of the hold edge. -/
def AIN_SAMP_PERIOD : Fld := ⟨0x7, 0x3c0, 23, 16⟩
/-- Table 05.10, RO: Signed code by R148. -/
def AIN_SAMP_CODE : Fld := ⟨0x7, 0x3c0, 15, 0⟩
/-- Table 05.11, RO: By R166. -/
def AIN_LAST_OVR : Fld := ⟨0x7, 0x3c4, 31, 31⟩
/-- Table 05.11, RO: As in AIN_SAMP. -/
def AIN_LAST_STARTUP : Fld := ⟨0x7, 0x3c4, 30, 30⟩
/-- Table 05.11, RO: 0b00 sequence, 0b01 urgent, 0b10 free-running; 0b11 reserved. -/
def AIN_LAST_SRC : Fld := ⟨0x7, 0x3c4, 29, 28⟩
/-- Table 05.11, RO: Conversions written, modulo 16; an exception to R13. -/
def AIN_LAST_CNT : Fld := ⟨0x7, 0x3c4, 27, 24⟩
/-- Table 05.11, RO: As in AIN_SAMP. -/
def AIN_LAST_PERIOD : Fld := ⟨0x7, 0x3c4, 23, 16⟩
/-- Table 05.11, RO: Signed code by R148. -/
def AIN_LAST_CODE : Fld := ⟨0x7, 0x3c4, 15, 0⟩
/-- Table 05.12, RO: By R172. -/
def CMP_CFG_SRC : Fld := ⟨0x7, 0x3c8, 31, 31⟩
/-- Table 05.12, RO: Hysteresis by Table 05.4; set by CONFIG. -/
def CMP_CFG_HYST : Fld := ⟨0x7, 0x3c8, 30, 29⟩
/-- Table 05.12, RO: Comparators enabled; set by CONFIG. -/
def CMP_CFG_EN : Fld := ⟨0x7, 0x3c8, 28, 28⟩
/-- Table 05.12, RO: Port of the binding ENV context; 0xF none. -/
def CMP_CFG_PORT : Fld := ⟨0x7, 0x3c8, 27, 24⟩
/-- Table 05.12, RO: Upper ceiling code. -/
def CMP_CFG_CEIL_HI : Fld := ⟨0x7, 0x3c8, 23, 12⟩
/-- Table 05.12, RO: Lower ceiling code. -/
def CMP_CFG_CEIL_LO : Fld := ⟨0x7, 0x3c8, 11, 0⟩
/-- Table 05.13, RW: Static upper code. -/
def CMP_STATIC_HI : Fld := ⟨0x7, 0x3cc, 27, 16⟩
/-- Table 05.13, RW: Static lower code. -/
def CMP_STATIC_LO : Fld := ⟨0x7, 0x3cc, 11, 0⟩
/-- Table 05.14, RO: Upper output, live. -/
def CMP_STAT_OUT_HI : Fld := ⟨0x7, 0x3d0, 31, 31⟩
/-- Table 05.14, RO: Lower output, live. -/
def CMP_STAT_OUT_LO : Fld := ⟨0x7, 0x3d0, 30, 30⟩
/-- Table 05.14, W1C: An upper crossing occurred. -/
def CMP_STAT_LAT_HI : Fld := ⟨0x7, 0x3d0, 29, 29⟩
/-- Table 05.14, W1C: A lower crossing occurred. -/
def CMP_STAT_LAT_LO : Fld := ⟨0x7, 0x3d0, 28, 28⟩
/-- Table 05.14, W1C: A CMP_STATIC write was ignored by R172. -/
def CMP_STAT_WR_REJ : Fld := ⟨0x7, 0x3d0, 27, 27⟩
/-- Table 05.14, W1C: An inverted pair was loaded by R174. -/
def CMP_STAT_INV : Fld := ⟨0x7, 0x3d0, 26, 26⟩
/-- Table 05.14, RO: Upper code in force. -/
def CMP_STAT_THR_HI : Fld := ⟨0x7, 0x3d0, 23, 12⟩
/-- Table 05.14, RO: Lower code in force. -/
def CMP_STAT_THR_LO : Fld := ⟨0x7, 0x3d0, 11, 0⟩
/-- Table 05.15, RC: Upper crossings; saturates at 0xFFFF. -/
def CMP_CNT_HI_CNT : Fld := ⟨0x7, 0x3d4, 31, 16⟩
/-- Table 05.15, RC: Lower crossings; saturates at 0xFFFF. -/
def CMP_CNT_LO_CNT : Fld := ⟨0x7, 0x3d4, 15, 0⟩
/-- Table 06.4, RO: 0 receive, 1 drive (R178). -/
def SD_GRP_MODE : Fld := ⟨0x0, 0x220, 31, 31⟩
/-- Table 06.4, RO: Data sampled on 0 rising, 1 falling edge. -/
def SD_GRP_EDGE : Fld := ⟨0x0, 0x220, 30, 30⟩
/-- Table 06.4, RO: f_mod = 500 MHz / DIV2, 20 to 100. -/
def SD_GRP_DIV2 : Fld := ⟨0x0, 0x220, 6, 0⟩
/-- Table 06.5, RO: N − 1: 0b00 sinc1 to 0b11 sinc4. -/
def SD_PROF_ORDER : Fld := ⟨0x0, 0x240, 31, 30⟩
/-- Table 06.5, RO: Horizon by R182, computed by Fencen; 0b11 reserved. -/
def SD_PROF_J : Fld := ⟨0x0, 0x240, 29, 28⟩
/-- Table 06.5, RO: M, 4 to 1 024. -/
def SD_PROF_DECIM : Fld := ⟨0x0, 0x240, 26, 16⟩
/-- Table 06.5, RO: Run length by R192; 0 disables, 1 to 15 reserved. -/
def SD_PROF_OVR_RUN : Fld := ⟨0x0, 0x240, 15, 8⟩
/-- Table 06.5, RO: Step threshold in units of 256 codes (R190); 0 disables. -/
def SD_PROF_STEP_THR : Fld := ⟨0x0, 0x240, 7, 0⟩
/-- Table 06.6, RO: Input enabled. -/
def SD_CFG_EN : Fld := ⟨0x8, 0x3c0, 31, 31⟩
/-- Table 06.6, RO: Clock group, 0 to 7. -/
def SD_CFG_GRP : Fld := ⟨0x8, 0x3c0, 30, 28⟩
/-- Table 06.6, RO: Profile, 0 to 3. -/
def SD_CFG_PROF : Fld := ⟨0x8, 0x3c0, 27, 26⟩
/-- Table 06.7, RO: By R192. -/
def SD_RES_OVR : Fld := ⟨0x8, 0x3c4, 31, 31⟩
/-- Table 06.7, RO: By R185 and R190. -/
def SD_RES_UNSETTLED : Fld := ⟨0x8, 0x3c4, 30, 30⟩
/-- Table 06.7, RO: By R191. -/
def SD_RES_CLKERR : Fld := ⟨0x8, 0x3c4, 29, 29⟩
/-- Table 06.7, RO: By R193. -/
def SD_RES_EMPTY : Fld := ⟨0x8, 0x3c4, 28, 28⟩
/-- Table 06.7, RO: Low 8 bits of the RG0 period number of t_s. -/
def SD_RES_PERIOD : Fld := ⟨0x8, 0x3c4, 23, 16⟩
/-- Table 06.7, RO: Signed code by R183. -/
def SD_RES_CODE : Fld := ⟨0x8, 0x3c4, 15, 0⟩
/-- Table 06.8, RO: By R178, live. -/
def SD_STAT_CLK_LOSS : Fld := ⟨0x8, 0x3c8, 31, 31⟩
/-- Table 06.8, RO: By R178, live. -/
def SD_STAT_CLK_FREQ : Fld := ⟨0x8, 0x3c8, 30, 30⟩
/-- Table 06.8, RC: Restarts of this input; saturates at 0xFF. -/
def SD_STAT_RESTART_CNT : Fld := ⟨0x8, 0x3c8, 23, 16⟩
/-- Table 06.8, RC: Steps detected; saturates at 0xFFFF. -/
def SD_STAT_STEP_CNT : Fld := ⟨0x8, 0x3c8, 15, 0⟩
/-- Table 06.9, RC: Pin syncs ignored by R189; saturates at 0xFF. -/
def SD_CTRL_SYNC_IGN : Fld := ⟨0x0, 0x218, 15, 8⟩
/-- Table 06.9, RO: 1: SDSYNC is always honoured. -/
def SD_CTRL_PIN_FORCE : Fld := ⟨0x0, 0x218, 0, 0⟩
/-- Table 07.8, RW: 1 holds a period change that lacks compares (R208). -/
def PWM_CTRL_HOLD_PERIOD : Fld := ⟨0x0, 0x250, 31, 31⟩
/-- Table 07.8, RW: Freeze on CLE debug halt (R232); writes ignored while debug access is closed. -/
def PWM_CTRL_DBG_FREEZE : Fld := ⟨0x0, 0x250, 30, 30⟩
/-- Table 07.9, W1C: By R207. -/
def PWM_GSTAT_PDSKEW : Fld := ⟨0x0, 0x254, 31, 31⟩
/-- Table 07.9, RO: A period change is held (R208). -/
def PWM_GSTAT_HELD : Fld := ⟨0x0, 0x254, 30, 30⟩
/-- Table 07.9, W1C: A manual write or commit was ignored (R205). -/
def PWM_GSTAT_MAN_REJ : Fld := ⟨0x0, 0x254, 29, 29⟩
/-- Table 07.9, RO: The generator is frozen (R232). -/
def PWM_GSTAT_FROZEN : Fld := ⟨0x0, 0x254, 28, 28⟩
/-- Table 07.9, RC: Period changes that lacked compares; saturates at 0xFF. -/
def PWM_GSTAT_PDSKEW_CNT : Fld := ⟨0x0, 0x254, 23, 16⟩
/-- Table 07.10, RO: PERIOD in force; bits 31:20 reserved. -/
def PWM_PERIOD_ALL : Fld := ⟨0x0, 0x258, 19, 0⟩
/-- Table 07.10, RW: Manual PERIOD shadow (R205); bits 31:20 reserved. -/
def PWM_PERIOD_SH_ALL : Fld := ⟨0x0, 0x25c, 19, 0⟩
/-- Table 07.10, WO: Writing 1 commits the manual bundle; bits 31:1 reserved. -/
def PWM_COMMIT_ALL : Fld := ⟨0x0, 0x260, 0, 0⟩
/-- Table 07.10, RO: PWM_PNUM bits 31:0; reading latches bits 63:32. -/
def PWM_PNUM_LO_ALL : Fld := ⟨0x0, 0x264, 31, 0⟩
/-- Table 07.10, RO: PWM_PNUM bits 63:32 as latched. -/
def PWM_PNUM_HI_ALL : Fld := ⟨0x0, 0x268, 31, 0⟩
/-- Table 07.10, RWL: Bit g: GC(g) active-low, GC0–GC31. -/
def PWM_POL0_ALL : Fld := ⟨0x0, 0x26c, 31, 0⟩
/-- Table 07.10, RWL: Bit g: GC(32 + g) active-low, GC32–GC47; bits 31:16 reserved. -/
def PWM_POL1_ALL : Fld := ⟨0x0, 0x270, 15, 0⟩
/-- Table 07.10, RWL: Bit p: TRIPp active-low; bits 31:8 reserved. -/
def TRIP_POL_ALL : Fld := ⟨0x0, 0x274, 7, 0⟩
/-- Table 07.11, RO: 0 direct pins, 1 Gate Link; legs L24–L47 only 1; set by CONFIG. -/
def LEG_CFG_GL : Fld := ⟨0x1, 0x3c0, 31, 31⟩
/-- Table 07.11, RO: Lane SL0–SL5 when GL = 1; 0b110 and 0b111 reserved. -/
def LEG_CFG_LANE : Fld := ⟨0x1, 0x3c0, 30, 28⟩
/-- Table 07.11, RO: Leg position 0–7 in the lane's frame. -/
def LEG_CFG_SLOT : Fld := ⟨0x1, 0x3c0, 27, 25⟩
/-- Table 07.11, RO: Carrier by R201. -/
def LEG_CFG_MODE : Fld := ⟨0x1, 0x3c0, 24, 23⟩
/-- Table 07.11, RO: Policy by R214. -/
def LEG_CFG_MINP_POL : Fld := ⟨0x1, 0x3c0, 22, 21⟩
/-- Table 07.11, RO: Bootstrap refresh enabled (R218). -/
def LEG_CFG_BOOTSTRAP : Fld := ⟨0x1, 0x3c0, 20, 20⟩
/-- Table 07.11, RW: Leg switches under manual access (R205). -/
def LEG_CFG_MAN_EN : Fld := ⟨0x1, 0x3c0, 19, 19⟩
/-- Table 07.11, RO: Phase, fraction of a turn (R202). -/
def LEG_CFG_PHASE : Fld := ⟨0x1, 0x3c0, 15, 0⟩
/-- Table 07.12, RO: Top dead time in fine steps, 0 to 16 400 (reset 100 ns). -/
def LEG_DT_DT_TOP : Fld := ⟨0x1, 0x3c4, 30, 16⟩
/-- Table 07.12, RO: Bottom dead time in fine steps, 0 to 16 400 (reset 100 ns). -/
def LEG_DT_DT_BOT : Fld := ⟨0x1, 0x3c4, 14, 0⟩
/-- Table 07.13, RO: t_refresh in PWM clocks, 25 to 500 (reset 500 ns). -/
def LEG_PULSE_REF_T : Fld := ⟨0x1, 0x3c8, 31, 23⟩
/-- Table 07.13, RO: K − 1 (reset K = 8). -/
def LEG_PULSE_REF_K : Fld := ⟨0x1, 0x3c8, 22, 17⟩
/-- Table 07.13, RO: Minimum pulse in fine steps, 0 to 8 000. -/
def LEG_PULSE_MINP : Fld := ⟨0x1, 0x3c8, 12, 0⟩
/-- Table 07.14, RO: Top skew in fine steps, two's complement, −8 to +7. -/
def LEG_TRIM_SKEW_TOP : Fld := ⟨0x1, 0x3cc, 7, 4⟩
/-- Table 07.14, RO: Bottom skew in fine steps, two's complement, −8 to +7. -/
def LEG_TRIM_SKEW_BOT : Fld := ⟨0x1, 0x3cc, 3, 0⟩
/-- Table 07.15, RW: Manual W shadow in fine steps; bits 31:25 reserved. -/
def LEG_CMP_ALL : Fld := ⟨0x1, 0x3d0, 24, 0⟩
/-- Table 07.15, RO: W in force after stage 3; bits 31:25 reserved. -/
def LEG_CMP_ACT_ALL : Fld := ⟨0x1, 0x3d4, 24, 0⟩
/-- Table 07.16, W1C: By R223; clear accepted only while the leg is not switching. -/
def LEG_STAT_CROSSFIRE : Fld := ⟨0x1, 0x3d8, 31, 31⟩
/-- Table 07.16, W1C: A bundle of the leg's port was late (R204). -/
def LEG_STAT_LATE : Fld := ⟨0x1, 0x3d8, 30, 30⟩
/-- Table 07.16, W1C: W was clamped to P (R209, R210). -/
def LEG_STAT_MISMATCH : Fld := ⟨0x1, 0x3d8, 29, 29⟩
/-- Table 07.16, RO: A pulse of the leg was truncated in the last period. -/
def LEG_STAT_TRUNC : Fld := ⟨0x1, 0x3d8, 28, 28⟩
/-- Table 07.16, RO: Held off by a trip group. -/
def LEG_STAT_TRIPPED : Fld := ⟨0x1, 0x3d8, 27, 27⟩
/-- Table 07.16, RO: The last period was forced by R218. -/
def LEG_STAT_REF_FORCED : Fld := ⟨0x1, 0x3d8, 26, 26⟩
/-- Table 07.16, RO: The leg is switching (R207). -/
def LEG_STAT_SWITCHING : Fld := ⟨0x1, 0x3d8, 25, 25⟩
/-- Table 07.16, RC: Crossfires; saturates at 0xFF. -/
def LEG_STAT_XF_CNT : Fld := ⟨0x1, 0x3d8, 23, 16⟩
/-- Table 07.16, RC: Pulses dropped or widened by R214; saturates at 0xFF. -/
def LEG_STAT_MINP_CNT : Fld := ⟨0x1, 0x3d8, 15, 8⟩
/-- Table 07.16, RC: Start pulses removed by R213, in both its delayed-start cases; saturates at 0xFF. -/
def LEG_STAT_BND_CNT : Fld := ⟨0x1, 0x3d8, 7, 0⟩
/-- Table 07.17, RC: Late bundles; saturates at 0xFFFF. -/
def LEG_CNT_LATE_CNT : Fld := ⟨0x1, 0x3dc, 31, 16⟩
/-- Table 07.17, RC: Periods with a truncation; saturates at 0xFFFF. -/
def LEG_CNT_TRUNC_CNT : Fld := ⟨0x1, 0x3dc, 15, 0⟩
/-- Table 07.18, RO: Source by R230. -/
def LEG_EVT_SRC : Fld := ⟨0x1, 0x3e0, 31, 30⟩
/-- Table 07.18, RO: Every PRESC + 1-th event passes. -/
def LEG_EVT_PRESC : Fld := ⟨0x1, 0x3e0, 29, 26⟩
/-- Table 07.18, RO: Post EV_PWM_TICK. -/
def LEG_EVT_D_EVQ : Fld := ⟨0x1, 0x3e0, 25, 25⟩
/-- Table 07.18, RO: To an HLP event input. -/
def LEG_EVT_D_HLP : Fld := ⟨0x1, 0x3e0, 24, 24⟩
/-- Table 07.18, RO: Urgent ADC request. -/
def LEG_EVT_D_ADC : Fld := ⟨0x1, 0x3e0, 23, 23⟩
/-- Table 07.18, RO: Capture trigger. -/
def LEG_EVT_D_CAP : Fld := ⟨0x1, 0x3e0, 22, 22⟩
/-- Table 07.18, RO: Core 0 to 23; 24 to 31 reserved. -/
def LEG_EVT_ADC_CORE : Fld := ⟨0x1, 0x3e0, 21, 17⟩
/-- Table 07.18, RO: 0b00 first, 0b01 second, 0b10 internal (C23 only); 0b11 reserved. -/
def LEG_EVT_ADC_INPUT : Fld := ⟨0x1, 0x3e0, 16, 15⟩
/-- Table 07.18, RO: Internal channel when ADC_INPUT = 0b10. -/
def LEG_EVT_ADC_INT : Fld := ⟨0x1, 0x3e0, 14, 11⟩
/-- Table 07.19, RO: Group enabled; set by CONFIG. -/
def TG_CFG_EN : Fld := ⟨0x2, 0x3c0, 31, 31⟩
/-- Table 07.19, RO: Window timer WT0–WT7. -/
def TG_CFG_WT_SEL : Fld := ⟨0x2, 0x3c0, 30, 28⟩
/-- Table 07.19, RO: Upper comparators of the group's inputs feed the group. -/
def TG_CFG_UP_EN : Fld := ⟨0x2, 0x3c0, 27, 27⟩
/-- Table 07.19, RO: Lower comparators of the group's inputs feed the group. -/
def TG_CFG_LO_EN : Fld := ⟨0x2, 0x3c0, 26, 26⟩
/-- Table 07.19, RO: Bit p: TRIPp feeds the group. -/
def TG_CFG_PIN_MASK : Fld := ⟨0x2, 0x3c0, 7, 0⟩
/-- Table 07.20, RO: Bit n: AINn feeds the group, AIN0–AIN31. -/
def TG_AIN_LO_ALL : Fld := ⟨0x2, 0x3c4, 31, 0⟩
/-- Table 07.20, RO: Bit n: AIN(32 + n) feeds the group; bits 31:16 reserved. -/
def TG_AIN_HI_ALL : Fld := ⟨0x2, 0x3c8, 15, 0⟩
/-- Table 07.20, RO: Bit n: leg Ln is tripped by the group, L0–L31. -/
def TG_LEGS_LO_ALL : Fld := ⟨0x2, 0x3cc, 31, 0⟩
/-- Table 07.20, RO: Bit n: leg L(32 + n) is tripped; bits 31:16 reserved. -/
def TG_LEGS_HI_ALL : Fld := ⟨0x2, 0x3d0, 15, 0⟩
/-- Table 07.21, W1C: By R227; clear accepted only while no source is active. -/
def TG_STAT_TRIPPED : Fld := ⟨0x2, 0x3d4, 31, 31⟩
/-- Table 07.21, RO: An unmasked source is active. -/
def TG_STAT_ACTIVE : Fld := ⟨0x2, 0x3d4, 30, 30⟩
/-- Table 07.21, RC: Trips; saturates at 0xFF. -/
def TG_STAT_TRIP_CNT : Fld := ⟨0x2, 0x3d4, 23, 16⟩
/-- Table 07.21, RO: 0x00–0x2F AIN0–AIN47; 0x40–0x47 TRIP0–TRIP7; 0xFF none; other values reserved. -/
def TG_STAT_FIRST_SRC : Fld := ⟨0x2, 0x3d4, 15, 8⟩
/-- Table 07.22, RO: Blanking trigger by R225. -/
def WT_CFG_TRIG : Fld := ⟨0x0, 0x280, 31, 30⟩
/-- Table 07.22, RO: Leg 0 to 47 for TRIG = 0b10; 48 to 63 reserved. -/
def WT_CFG_LEG : Fld := ⟨0x0, 0x280, 29, 24⟩
/-- Table 07.22, RO: Blanking length in PWM clocks, 0 to 255. -/
def WT_CFG_BLANK : Fld := ⟨0x0, 0x280, 23, 16⟩
/-- Table 07.22, RO: Filter window in PWM clocks (R227). -/
def WT_CFG_FILT : Fld := ⟨0x0, 0x280, 15, 0⟩
/-- Table 07.23, RW: 1 applies TRIM_CODE and stops calibration from moving the code (R199). -/
def DL_CTRL_CAL_HOLD : Fld := ⟨0x0, 0x278, 31, 31⟩
/-- Table 07.23, RW: Upper bound for calibration. -/
def DL_CTRL_CODE_HI : Fld := ⟨0x0, 0x278, 29, 20⟩
/-- Table 07.23, RW: Lower bound for calibration. -/
def DL_CTRL_CODE_LO : Fld := ⟨0x0, 0x278, 19, 10⟩
/-- Table 07.23, RW: Host delay code. -/
def DL_CTRL_TRIM_CODE : Fld := ⟨0x0, 0x278, 9, 0⟩
/-- Table 07.24, RO: By R198. -/
def DL_STAT_LOCK : Fld := ⟨0x0, 0x27c, 31, 31⟩
/-- Table 07.24, RO: Calibration held at a bound (R199). -/
def DL_STAT_CAL_SAT : Fld := ⟨0x0, 0x27c, 30, 30⟩
/-- Table 07.24, RO: Code that calibration chooses or would choose. -/
def DL_STAT_CAL_CODE : Fld := ⟨0x0, 0x27c, 19, 10⟩
/-- Table 07.24, RO: Code in force. -/
def DL_STAT_DL_CODE : Fld := ⟨0x0, 0x27c, 9, 0⟩
/-- Table 08.10, RO: Lane enabled; set by CONFIG. -/
def LANE_CFG_EN : Fld := ⟨0x9, 0x3c0, 31, 31⟩
/-- Table 08.10, RO: 0b00 1.25 Gb/s, 0b01 2.5 Gb/s, 0b10 5.0 Gb/s; 0b11 reserved. -/
def LANE_CFG_RATE : Fld := ⟨0x9, 0x3c0, 30, 29⟩
/-- Table 08.10, RO: Equaliser boost by R238. -/
def LANE_CFG_EQ_PEAK : Fld := ⟨0x9, 0x3c0, 28, 25⟩
/-- Table 08.10, RO: Transmit amplitude code; levels in the Electrical Characteristics and Package chapter. -/
def LANE_CFG_TX_AMP : Fld := ⟨0x9, 0x3c0, 24, 23⟩
/-- Table 08.10, RO: Invert the transmit pair. -/
def LANE_CFG_TX_INV : Fld := ⟨0x9, 0x3c0, 22, 22⟩
/-- Table 08.10, RO: Invert the receive pair. -/
def LANE_CFG_RX_INV : Fld := ⟨0x9, 0x3c0, 21, 21⟩
/-- Table 08.10, RO: UNIT_ID sent in frames. -/
def LANE_CFG_UNIT_ID : Fld := ⟨0x9, 0x3c0, 20, 19⟩
/-- Table 08.11, RO: State by Table 08.8; 0b110 and 0b111 reserved. -/
def LANE_STAT_STATE : Fld := ⟨0x9, 0x3c4, 31, 29⟩
/-- Table 08.11, RO: By R239, live. -/
def LANE_STAT_LOS : Fld := ⟨0x9, 0x3c4, 28, 28⟩
/-- Table 08.11, RO: By R239, live. -/
def LANE_STAT_LOL : Fld := ⟨0x9, 0x3c4, 27, 27⟩
/-- Table 08.11, RO: By R240. -/
def LANE_STAT_ALIGNED : Fld := ⟨0x9, 0x3c4, 26, 26⟩
/-- Table 08.11, W1C: A comma arrived. -/
def LANE_STAT_COMMA_SEEN : Fld := ⟨0x9, 0x3c4, 25, 25⟩
/-- Table 08.11, RO: Offset of the last comma, 0 to 9. -/
def LANE_STAT_COMMA_POS : Fld := ⟨0x9, 0x3c4, 24, 21⟩
/-- Table 08.11, RO: By R259 or Table 08.8. -/
def LANE_STAT_L_RANGE : Fld := ⟨0x9, 0x3c4, 20, 20⟩
/-- Table 08.11, RO: The driver's identity failed Table 08.8. -/
def LANE_STAT_ID_ERR : Fld := ⟨0x9, 0x3c4, 19, 19⟩
/-- Table 08.11, RO: A writable echo differs from the value written. -/
def LANE_STAT_PARAM_ERR : Fld := ⟨0x9, 0x3c4, 18, 18⟩
/-- Table 08.11, RO: OBEY of the last valid status frame. -/
def LANE_STAT_DRV_OBEY : Fld := ⟨0x9, 0x3c4, 17, 17⟩
/-- Table 08.11, RO: No valid status frame in the last RG0 period. -/
def LANE_STAT_STAT_STALE : Fld := ⟨0x9, 0x3c4, 16, 16⟩
/-- Table 08.12, RC: Code and disparity errors; saturates at 0xFFFF. -/
def LANE_CNT_CODE_ERR : Fld := ⟨0x9, 0x3c8, 31, 16⟩
/-- Table 08.12, RC: Status frames rejected; saturates at 0xFF. -/
def LANE_CNT_CRC_ERR : Fld := ⟨0x9, 0x3c8, 15, 8⟩
/-- Table 08.12, RC: Frames abandoned by R254; saturates at 0xFF. -/
def LANE_CNT_ABANDON : Fld := ⟨0x9, 0x3c8, 7, 0⟩
/-- Table 08.13, WO: Writing 1 slips the word boundary by one bit (R240); bits 31:1 reserved. -/
def LANE_SLIP_ALL : Fld := ⟨0x9, 0x3cc, 0, 0⟩
/-- Table 08.13, RO: L_MEAS in fine steps (R258). -/
def GL_DELAY_L_MEAS : Fld := ⟨0x9, 0x3d0, 31, 16⟩
/-- Table 08.13, RO: L_ACT in fine steps (R259). -/
def GL_DELAY_L_ACT : Fld := ⟨0x9, 0x3d0, 15, 0⟩
/-- Table 08.14, W1C: Bit g: readback mismatch on GDENg (R265). -/
def GL_GDEN_RB_ERR : Fld := ⟨0x0, 0x2a0, 29, 24⟩
/-- Table 08.14, RO: Bit g: the Steward holds GDENg low. -/
def GL_GDEN_STEW_LOW : Fld := ⟨0x0, 0x2a0, 21, 16⟩
/-- Table 08.14, RO: Bit g: level read back from GDENg. -/
def GL_GDEN_PIN : Fld := ⟨0x0, 0x2a0, 13, 8⟩
/-- Table 08.14, RO: Bit g: Fencen's command for GDENg. -/
def GL_GDEN_CMD : Fld := ⟨0x0, 0x2a0, 5, 0⟩
/-- Table 08.15, RO: The driver reports a latched fault; cleared by R264. -/
def GL_LEG_STAT_FAULT : Fld := ⟨0x1, 0x3e4, 31, 31⟩
/-- Table 08.15, RO: SC of the last valid status frame. -/
def GL_LEG_STAT_SC : Fld := ⟨0x1, 0x3e4, 30, 30⟩
/-- Table 08.15, RO: UV of the last valid status frame. -/
def GL_LEG_STAT_UV : Fld := ⟨0x1, 0x3e4, 29, 29⟩
/-- Table 08.15, RO: By R262. -/
def GL_LEG_STAT_STALE : Fld := ⟨0x1, 0x3e4, 28, 28⟩
/-- Table 08.15, RO: °C + 55. -/
def GL_LEG_STAT_TEMP : Fld := ⟨0x1, 0x3e4, 23, 16⟩
/-- Table 08.15, RO: Signed sense-cell current, in the driver's scale. -/
def GL_LEG_STAT_I_SENSE : Fld := ⟨0x1, 0x3e4, 11, 0⟩
/-- Table 09.10, RO: Pair operation; set by CONFIG (Table 09.3). -/
def PAIR_CFG_PAIR_EN : Fld := ⟨0x0, 0x2a4, 31, 31⟩
/-- Table 09.10, RO: Automatic takeover (R292); set by CONFIG. -/
def PAIR_CFG_TAKEOVER_EN : Fld := ⟨0x0, 0x2a4, 30, 30⟩
/-- Table 09.10, RO: OPT_PAIR_PRIO: 0 primary, 1 secondary (R275). -/
def PAIR_CFG_PRIO : Fld := ⟨0x0, 0x2a4, 29, 29⟩
/-- Table 09.10, RO: Blocks per mirror record, 1 to 16 (R290); 0 in SOLO. -/
def PAIR_CFG_RECORD_BLKS : Fld := ⟨0x0, 0x2a4, 4, 0⟩
/-- Table 09.11, RO: Pair state by Table 09.3. -/
def PAIR_STATUS_STATE : Fld := ⟨0x0, 0x2a8, 31, 28⟩
/-- Table 09.11, RO: Level read back at the ACT_OUT ball. -/
def PAIR_STATUS_ACT_OUT : Fld := ⟨0x0, 0x2a8, 27, 27⟩
/-- Table 09.11, RO: Filtered level of PARTNER_ACT (R272). -/
def PAIR_STATUS_PARTNER_ACT : Fld := ⟨0x0, 0x2a8, 26, 26⟩
/-- Table 09.11, RO: By R279. -/
def PAIR_STATUS_PARTNER_READY : Fld := ⟨0x0, 0x2a8, 25, 25⟩
/-- Table 09.11, RO: Level of SGR_IN. -/
def PAIR_STATUS_SGR_IN : Fld := ⟨0x0, 0x2a8, 24, 24⟩
/-- Table 09.11, RO: Mirror running on one lane (R286). -/
def PAIR_STATUS_ONE_LANE : Fld := ⟨0x0, 0x2a8, 23, 23⟩
/-- Table 09.11, RO: Partner's pair state from its last status or record; codes as STATE. -/
def PAIR_STATUS_PEER_STATE : Fld := ⟨0x0, 0x2a8, 22, 20⟩
/-- Table 09.11, RO: By Table 09.5. -/
def PAIR_STATUS_NR_MIRROR : Fld := ⟨0x0, 0x2a8, 15, 15⟩
/-- Table 09.11, RO: By Table 09.5. -/
def PAIR_STATUS_NR_FMT : Fld := ⟨0x0, 0x2a8, 14, 14⟩
/-- Table 09.11, RO: By Table 09.5. -/
def PAIR_STATUS_NR_GAIT : Fld := ⟨0x0, 0x2a8, 13, 13⟩
/-- Table 09.11, RO: By Table 09.5. -/
def PAIR_STATUS_NR_CFG : Fld := ⟨0x0, 0x2a8, 12, 12⟩
/-- Table 09.11, RO: By Table 09.5. -/
def PAIR_STATUS_NR_LANES : Fld := ⟨0x0, 0x2a8, 11, 11⟩
/-- Table 09.11, RO: By Table 09.5. -/
def PAIR_STATUS_NR_TIME : Fld := ⟨0x0, 0x2a8, 10, 10⟩
/-- Table 09.11, RO: By Table 09.5. -/
def PAIR_STATUS_NR_HEALTH : Fld := ⟨0x0, 0x2a8, 9, 9⟩
/-- Table 09.11, RO: By Table 09.5. -/
def PAIR_STATUS_NR_HLP : Fld := ⟨0x0, 0x2a8, 8, 8⟩
/-- Table 09.12, RO: Low 16 bits of the pair period number of the last record sent (active) or applied (standby). -/
def MIRROR_STAT_LAST_PNUM : Fld := ⟨0x0, 0x2ac, 31, 16⟩
/-- Table 09.12, RC: Records not sent by R288, or not applied; saturates at 0xFF. -/
def MIRROR_STAT_MIRROR_MISS : Fld := ⟨0x0, 0x2ac, 15, 8⟩
/-- Table 09.12, RC: Blocks failing their CRC; saturates at 0xFF. -/
def MIRROR_STAT_BLK_ERR : Fld := ⟨0x0, 0x2ac, 7, 0⟩
/-- Table 09.13, RO: Low 16 bits of PNUM_OFS (R284). -/
def PAIR_SKEW_PNUM_OFS : Fld := ⟨0x0, 0x2b0, 31, 16⟩
/-- Table 09.13, RO: Own RG0 boundary minus the partner's, in fine steps, two's complement (R285). -/
def PAIR_SKEW_SKEW : Fld := ⟨0x0, 0x2b0, 15, 0⟩
/-- Table 09.14, RC: Takeovers by R292; saturates at 0xFF. -/
def PAIR_CNT_TAKEOVERS : Fld := ⟨0x0, 0x2b4, 31, 24⟩
/-- Table 09.14, RC: Planned releases by R295; saturates at 0xFF. -/
def PAIR_CNT_HANDOVERS : Fld := ⟨0x0, 0x2b4, 23, 16⟩
/-- Table 09.14, RC: Bridle conflicts by R275; saturates at 0xFF. -/
def PAIR_CNT_CONFLICTS : Fld := ⟨0x0, 0x2b4, 15, 8⟩
/-- Table 10.11, RO: State by Table 10.2. -/
def STW_STATUS_STATE : Fld := ⟨0x0, 0x2b8, 31, 29⟩
/-- Table 10.11, RO: An SRS is running. -/
def STW_STATUS_SRS_RUN : Fld := ⟨0x0, 0x2b8, 28, 28⟩
/-- Table 10.11, RO: SGR complete (R314). -/
def STW_STATUS_SGR_DONE : Fld := ⟨0x0, 0x2b8, 27, 27⟩
/-- Table 10.11, RO: SGR readback failed (R314). -/
def STW_STATUS_SGR_RB_ERR : Fld := ⟨0x0, 0x2b8, 26, 26⟩
/-- Table 10.11, RO: SGR held by SGR_IN (R315). -/
def STW_STATUS_REMOTE_SGR : Fld := ⟨0x0, 0x2b8, 25, 25⟩
/-- Table 10.11, W1C: Configuration tile error (R306). -/
def STW_STATUS_CFG_ERR : Fld := ⟨0x0, 0x2b8, 24, 24⟩
/-- Table 10.11, RO: 0x0 none, or the failing condition 1 to 6 of R304; 0x7 to 0xF reserved. -/
def STW_STATUS_ARM_WHY : Fld := ⟨0x0, 0x2b8, 23, 20⟩
/-- Table 10.11, RO: Ports ramping: bits 0–3 ACP0–ACP3, bits 4–11 DCP0–DCP7. -/
def STW_STATUS_SRS_PORTS : Fld := ⟨0x0, 0x2b8, 19, 8⟩
/-- Table 10.12, RO: First cause by R307; 0x00 none. -/
def STW_CAUSE_FIRST : Fld := ⟨0x0, 0x2bc, 31, 24⟩
/-- Table 10.12, RO: Latest cause. -/
def STW_CAUSE_LAST : Fld := ⟨0x0, 0x2bc, 23, 16⟩
/-- Table 10.12, RO: Low 16 bits of PWM_PNUM at FIRST. -/
def STW_CAUSE_PNUM : Fld := ⟨0x0, 0x2bc, 15, 0⟩
/-- Table 10.13, RO: Bit n: level of SDINn. -/
def STW_IO_SDIN : Fld := ⟨0x0, 0x2c0, 31, 28⟩
/-- Table 10.13, W1C: Bit n: a test on TPn failed. -/
def STW_IO_TP_FAULT : Fld := ⟨0x0, 0x2c0, 27, 24⟩
/-- Table 10.13, W1C: Bit m: DOm latched off by R325. -/
def STW_IO_SO_FAIL : Fld := ⟨0x0, 0x2c0, 23, 16⟩
/-- Table 10.13, RO: Bit n: DIn is a safety input in demand. -/
def STW_IO_SI_DEM : Fld := ⟨0x0, 0x2c0, 15, 0⟩
/-- Table 10.14, RO: Connection enabled; 0 to 3 receive, 4 to 5 send. -/
def PDU_STAT_EN : Fld := ⟨0x0, 0x2c8, 31, 31⟩
/-- Table 10.14, RO: NET-A watchdog expired. -/
def PDU_STAT_WD_A : Fld := ⟨0x0, 0x2c8, 30, 30⟩
/-- Table 10.14, RO: NET-B watchdog expired. -/
def PDU_STAT_WD_B : Fld := ⟨0x0, 0x2c8, 29, 29⟩
/-- Table 10.14, W1C: Cause 0x05 raised. -/
def PDU_STAT_MISMATCH : Fld := ⟨0x0, 0x2c8, 28, 28⟩
/-- Table 10.14, RC: Invalid copies; saturates at 0xFF. -/
def PDU_STAT_BAD_CNT : Fld := ⟨0x0, 0x2c8, 23, 16⟩
/-- Table 10.14, RO: Low 16 bits of the last accepted or sent SEQ. -/
def PDU_STAT_SEQ_LO : Fld := ⟨0x0, 0x2c8, 15, 0⟩
/-- Table 10.15, RC: SGRs carried out; saturates at 0xFF. -/
def STW_CNT_SGR_CNT : Fld := ⟨0x0, 0x2c4, 31, 24⟩
/-- Table 10.15, RC: SRSs started; saturates at 0xFF. -/
def STW_CNT_SRS_CNT : Fld := ⟨0x0, 0x2c4, 23, 16⟩
/-- Table 10.15, RC: Causes raised; saturates at 0xFF. -/
def STW_CNT_CAUSE_CNT : Fld := ⟨0x0, 0x2c4, 15, 8⟩
/-- Table 10.15, RC: Local inhibits; saturates at 0xFF. -/
def STW_CNT_INH_CNT : Fld := ⟨0x0, 0x2c4, 7, 0⟩
/-- Table 11.8, RO: State by Table 11.7. -/
def HLP_STATUS_STATE : Fld := ⟨0x0, 0x2e0, 31, 29⟩
/-- Table 11.8, RO: Mode by Table 11.5. -/
def HLP_STATUS_MODE : Fld := ⟨0x0, 0x2e0, 28, 27⟩
/-- Table 11.8, RO: A verified program is loaded. -/
def HLP_STATUS_PROG_OK : Fld := ⟨0x0, 0x2e0, 26, 26⟩
/-- Table 11.8, RO: By R352; survives all but a Cold reset. -/
def HLP_STATUS_RETAIN_VALID : Fld := ⟨0x0, 0x2e0, 25, 25⟩
/-- Table 11.8, RO: The standby view applies (R349). -/
def HLP_STATUS_SBY : Fld := ⟨0x0, 0x2e0, 24, 24⟩
/-- Table 11.8, RO: 0x0 none, 0x1 overrun in NORMAL, 0x2 hard limit, 0x3 fetch parity, 0x4 INIT limit; 0x5 to 0xF reserved. Kept, with STATE, through the Block reset of R348. -/
def HLP_STATUS_HALT_WHY : Fld := ⟨0x0, 0x2e0, 23, 20⟩
/-- Table 11.9, RO: Execution time of the last completed cycle, µs; saturates at 0xFFFF. -/
def HLP_TIME_EXEC_LAST : Fld := ⟨0x0, 0x2e4, 31, 16⟩
/-- Table 11.9, RC: Longest execution time since the last read, µs; saturates at 0xFFFF. -/
def HLP_TIME_EXEC_MAX : Fld := ⟨0x0, 0x2e4, 15, 0⟩
/-- Table 11.10, RC: Overruns by R349; saturates at 0xFF. -/
def HLP_CNT_OVR_CNT : Fld := ⟨0x0, 0x2e8, 31, 24⟩
/-- Table 11.10, RC: Cycle starts skipped; saturates at 0xFF. -/
def HLP_CNT_SKIP_CNT : Fld := ⟨0x0, 0x2e8, 23, 16⟩
/-- Table 11.10, RC: Online-change commands applied; saturates at 0xFF. -/
def HLP_CNT_OLC_CNT : Fld := ⟨0x0, 0x2e8, 15, 8⟩
/-- Table 11.10, RC: Tiles rewritten by R346; saturates at 0xFF. -/
def HLP_CNT_TILE_FIX : Fld := ⟨0x0, 0x2e8, 7, 0⟩
/-- Table 11.11, RO: Number of the cycle in progress; wraps, an exception to R13. -/
def HLP_CYCNUM_CYCNUM : Fld := ⟨0x0, 0x2ec, 31, 0⟩
/-- Table 11.12, RO: Module configured. -/
def RIO_STAT_EN : Fld := ⟨0xd, 0x3c0, 31, 31⟩
/-- Table 11.12, RO: A valid frame arrived within the timeout. -/
def RIO_STAT_FRESH : Fld := ⟨0xd, 0x3c0, 30, 30⟩
/-- Table 11.12, RO: 0b00 CAN0, 0b01 CAN1, 0b10 NET-A, 0b11 NET-B. -/
def RIO_STAT_TRANSPORT : Fld := ⟨0xd, 0x3c0, 29, 28⟩
/-- Table 11.12, RO: SEQ of the last valid frame. -/
def RIO_STAT_RX_SEQ : Fld := ⟨0xd, 0x3c0, 23, 16⟩
/-- Table 11.12, RC: Timeouts; saturates at 0xFF. -/
def RIO_STAT_TMO_CNT : Fld := ⟨0xd, 0x3c0, 15, 8⟩
/-- Table 11.12, RC: Frames discarded by R357; saturates at 0xFF. -/
def RIO_STAT_ERR_CNT : Fld := ⟨0xd, 0x3c0, 7, 0⟩
/-- Table 12.3, RO: Bit n: DIn thresholds, 0 Type 1, 1 Type 3; set by CONFIG. -/
def FIO_CFG_DI_TYPE : Fld := ⟨0x0, 0x2f0, 31, 16⟩
/-- Table 12.3, RO: Safe pattern of DO0–DO7 (R367). -/
def FIO_CFG_FIO_SAFE : Fld := ⟨0x0, 0x2f0, 15, 8⟩
/-- Table 12.3, RO: Silence timeout in 10 ms units, 1 to 100; set by CONFIG. -/
def FIO_CFG_FIO_TMO : Fld := ⟨0x0, 0x2f0, 6, 0⟩
/-- Table 12.4, RO: N for DI12–DI15, 1 to 255; set by CONFIG. -/
def FIO_FILT_N3 : Fld := ⟨0x0, 0x2f4, 31, 24⟩
/-- Table 12.4, RO: N for DI8–DI11. -/
def FIO_FILT_N2 : Fld := ⟨0x0, 0x2f4, 23, 16⟩
/-- Table 12.4, RO: N for DI4–DI7. -/
def FIO_FILT_N1 : Fld := ⟨0x0, 0x2f4, 15, 8⟩
/-- Table 12.4, RO: N for DI0–DI3. -/
def FIO_FILT_N0 : Fld := ⟨0x0, 0x2f4, 7, 0⟩
/-- Table 12.5, RO: Bit n: last raw sample of DIn. -/
def FIO_DI_RAW : Fld := ⟨0x0, 0x2f8, 31, 16⟩
/-- Table 12.5, RO: Bit n: filtered level of DIn (R361). -/
def FIO_DI_FILT : Fld := ⟨0x0, 0x2f8, 15, 0⟩
/-- Table 12.6, RO: Bit m: readback of DOm. -/
def FIO_DO_PIN : Fld := ⟨0x0, 0x2fc, 23, 16⟩
/-- Table 12.6, RO: Bit m: Steward enable of DOm. -/
def FIO_DO_STW_EN : Fld := ⟨0x0, 0x2fc, 15, 8⟩
/-- Table 12.6, RO: Bit m: applied command of DOm (R366). -/
def FIO_DO_APPLIED : Fld := ⟨0x0, 0x2fc, 7, 0⟩
/-- Table 12.7, RO: By R370. -/
def FIO_STAT_VF_UV : Fld := ⟨0x0, 0x300, 31, 31⟩
/-- Table 12.7, RO: By R370. -/
def FIO_STAT_VF_OV : Fld := ⟨0x0, 0x300, 30, 30⟩
/-- Table 12.7, RO: By R366. -/
def FIO_STAT_SILENT : Fld := ⟨0x0, 0x300, 29, 29⟩
/-- Table 12.7, W1C: Bit n: TPn current limit acted (R369). -/
def FIO_STAT_TP_OVL : Fld := ⟨0x0, 0x300, 27, 24⟩
/-- Table 12.7, RO: Bit m: DOm latched off (R364). -/
def FIO_STAT_OVL : Fld := ⟨0x0, 0x300, 23, 16⟩
/-- Table 12.7, RC: Silence timeouts; saturates at 0xFF. -/
def FIO_STAT_SILENT_CNT : Fld := ⟨0x0, 0x300, 15, 8⟩
/-- Table 12.7, RC: Output overload latches; saturates at 0xFF. -/
def FIO_STAT_OVL_CNT : Fld := ⟨0x0, 0x300, 7, 0⟩
/-- Table 13.14, RC: Refusals by R374, and MB_CPL_HEAD writes ignored by R386; saturates at 0xFF. -/
def MB_STAT_REFUSE_CNT : Fld := ⟨0xc, 0x3c0, 31, 24⟩
/-- Table 13.14, RC: CMD messages refused with SEQ (R389); saturates at 0xFF. -/
def MB_STAT_SEQ_CNT : Fld := ⟨0xc, 0x3c0, 23, 16⟩
/-- Table 13.14, RC: Datagrams or frames dropped by R387, R391 or R392; saturates at 0xFF. -/
def MB_STAT_SRC_CNT : Fld := ⟨0xc, 0x3c0, 15, 8⟩
/-- Table 13.14, RC: CPL messages sent again (R390); saturates at 0xFF. -/
def MB_STAT_RESEND_CNT : Fld := ⟨0xc, 0x3c0, 7, 0⟩
/-- Table 13.15, RO: Incremented at each supervisor restart; wraps, an exception to R13; 0 after Cold or System reset; bits 31:16 reserved. -/
def FCP_EPOCH_ALL : Fld := ⟨0x0, 0x304, 15, 0⟩
/-- Table 15.9, RO: Link up. -/
def MAC_STAT_LINK : Fld := ⟨0xb, 0x3c0, 31, 31⟩
/-- Table 15.9, RO: 0b00 10 Mb/s, 0b01 100 Mb/s, 0b10 1000 Mb/s, 0b11 no link. -/
def MAC_STAT_SPEED : Fld := ⟨0xb, 0x3c0, 30, 29⟩
/-- Table 15.9, RO: 0 RGMII, 1 SGMII. -/
def MAC_STAT_IFACE : Fld := ⟨0xb, 0x3c0, 28, 28⟩
/-- Table 15.9, RO: By R429. -/
def MAC_STAT_TS_POINT : Fld := ⟨0xb, 0x3c0, 27, 27⟩
/-- Table 15.9, RC: Scheduled frames discarded by R422; saturates at 0xFF. -/
def MAC_STAT_SCHED_DROP : Fld := ⟨0xb, 0x3c0, 23, 16⟩
/-- Table 15.9, RC: Frames discarded by R418 or R421; saturates at 0xFFFF. -/
def MAC_STAT_RX_DROP : Fld := ⟨0xb, 0x3c0, 15, 0⟩
/-- Table 15.10, RO: Entries held, 0 to 16. -/
def TSQ_STAT_DEPTH : Fld := ⟨0xb, 0x3c4, 20, 16⟩
/-- Table 15.10, RC: Stamps dropped by R431; saturates at 0xFFFF. -/
def TSQ_STAT_DROP_CNT : Fld := ⟨0xb, 0x3c4, 15, 0⟩
/-- Table 15.11, RO: TB0 only, by R436 and R435; 0 on TB1 to TB3. -/
def TB_STAT_LOCKED : Fld := ⟨0xa, 0x3c0, 31, 31⟩
/-- Table 15.11, RO: TB0 only: no servo update for more than twice the Sync interval. -/
def TB_STAT_HOLD : Fld := ⟨0xa, 0x3c0, 30, 30⟩
/-- Table 15.11, RO: The host may set or adjust this time base now (Table 15.3). -/
def TB_STAT_HOST_OWNED : Fld := ⟨0xa, 0x3c0, 29, 29⟩
/-- Table 15.11, W1C: The time base was stepped. -/
def TB_STAT_STEPPED : Fld := ⟨0xa, 0x3c0, 28, 28⟩
/-- Table 15.11, RO: TB0 only: 0x0 INITIALIZING, 0x1 FAULTY, 0x2 DISABLED, 0x3 LISTENING, 0x4 PRE_MASTER, 0x5 MASTER, 0x6 PASSIVE, 0x7 UNCALIBRATED, 0x8 SLAVE; 0x9 to 0xF reserved. For a boundary clock, the state of the port nearest the grandmaster. -/
def TB_STAT_PTP_STATE : Fld := ⟨0xa, 0x3c0, 27, 24⟩
/-- Table 15.11, RO: TB0 only: this unit is grandmaster. -/
def TB_STAT_GM : Fld := ⟨0xa, 0x3c0, 23, 23⟩
/-- Table 15.11, RO: The time base is being carried by the AON count (R427). -/
def TB_STAT_AON_CARRIED : Fld := ⟨0xa, 0x3c0, 22, 22⟩
/-- Table 15.12, RO: Nanoseconds; a read latches TB_SEC_LO, TB_SEC_HI and TB_FRAC at the same NET clock edge. -/
def TB_NS_ALL : Fld := ⟨0xa, 0x3c4, 31, 0⟩
/-- Table 15.12, RO: Seconds bits 31:0 as latched. -/
def TB_SEC_LO_ALL : Fld := ⟨0xa, 0x3c8, 31, 0⟩
/-- Table 15.12, RO: Seconds bits 63:32 as latched. -/
def TB_SEC_HI_ALL : Fld := ⟨0xa, 0x3cc, 31, 0⟩
/-- Table 15.12, RO: Fraction as latched; bits 31:16 reserved. -/
def TB_FRAC_ALL : Fld := ⟨0xa, 0x3d0, 15, 0⟩
/-- Table 15.12, RO: Frequency offset in force, parts per 10^12, two's complement. -/
def TB_FREQ_ALL : Fld := ⟨0xa, 0x3d4, 31, 0⟩
/-- Table 15.12, RO: OFS_EST by R437, ns; reads 0xFFFF_FFFF until the first servo update; index 0 only, 0 elsewhere. -/
def TB0_OFS_ALL : Fld := ⟨0xa, 0x3d8, 31, 0⟩
/-- Table 16.3, RO: 0b00 STOPPED, 0b01 RUNNING, 0b10 FLUSHING; 0b11 reserved. -/
def CAP_STAT_STATE : Fld := ⟨0x0, 0x308, 31, 30⟩
/-- Table 16.3, RO: The trigger is armed (R446). -/
def CAP_STAT_ARMED : Fld := ⟨0x0, 0x308, 29, 29⟩
/-- Table 16.3, RO: Single mode. -/
def CAP_STAT_SINGLE : Fld := ⟨0x0, 0x308, 28, 28⟩
/-- Table 16.3, RC: Trigger marks placed; saturates at 0xFF. -/
def CAP_STAT_MARK_CNT : Fld := ⟨0x0, 0x308, 23, 16⟩
/-- Table 16.3, RC: Records discarded by R445 or R449; saturates at 0xFFFF. -/
def CAP_STAT_CAP_LOST : Fld := ⟨0x0, 0x308, 15, 0⟩
/-- Table 16.4, RO: Destination IPv4 address; set by CONFIG. -/
def CAP_DEST_IP_ALL : Fld := ⟨0x0, 0x30c, 31, 0⟩
/-- Table 16.4, RO: Destination UDP port; set by CONFIG; bits 31:16 reserved. -/
def CAP_DEST_PORT_ALL : Fld := ⟨0x0, 0x310, 15, 0⟩
/-- Table 16.4, RO: Records in the FIFO, 0 to 8 192; bits 31:14 reserved. -/
def CAP_LEVEL_ALL : Fld := ⟨0x0, 0x314, 13, 0⟩
/-- Table 16.4, RO: B of the configuration in force, bytes/s (R447). -/
def CAP_RATE_ALL : Fld := ⟨0x0, 0x318, 31, 0⟩
/-- Table 16.4, RC: Clamped values of unit 0–3; saturates. -/
def HIST_OUT_ALL : Fld := ⟨0x0, 0x31c, 31, 0⟩
/-- Table 16.4, RO: Next record number, bits 31:0; a read latches bits 63:32. -/
def REC_NEXT_LO_ALL : Fld := ⟨0x0, 0x32c, 31, 0⟩
/-- Table 16.4, RO: Next record number, bits 63:32, as latched. -/
def REC_NEXT_HI_ALL : Fld := ⟨0x0, 0x330, 31, 0⟩
/-- Table 17.6, RO: Limp permitted (R470); set by CONFIG. -/
def CLK_CFG_LIMP_EN : Fld := ⟨0x0, 0x334, 31, 31⟩
/-- Table 17.6, RO: Grid placed by SYNC_IN (R464); set by CONFIG. -/
def CLK_CFG_SYNC_EN : Fld := ⟨0x0, 0x334, 30, 30⟩
/-- Table 17.6, RO: 1 external clock, 0 crystal (R457). -/
def CLK_CFG_REF_EXT : Fld := ⟨0x0, 0x334, 29, 29⟩
/-- Table 17.7, RO: By R458. -/
def CLK_STAT_REF_OK : Fld := ⟨0x0, 0x338, 31, 31⟩
/-- Table 17.7, RO: PLL-M locked (R462). -/
def CLK_STAT_PLLM_LOCK : Fld := ⟨0x0, 0x338, 30, 30⟩
/-- Table 17.7, RO: PLL-L locked. -/
def CLK_STAT_PLLL_LOCK : Fld := ⟨0x0, 0x338, 29, 29⟩
/-- Table 17.7, RO: PLL-N locked. -/
def CLK_STAT_PLLN_LOCK : Fld := ⟨0x0, 0x338, 28, 28⟩
/-- Table 17.7, RO: By R470. -/
def CLK_STAT_DLL_LOCK : Fld := ⟨0x0, 0x338, 27, 27⟩
/-- Table 17.7, RO: By R470. -/
def CLK_STAT_PAIRCLK_OK : Fld := ⟨0x0, 0x338, 26, 26⟩
/-- Table 17.7, RO: SYS, CTL, PWM and ADC run from the DLL. -/
def CLK_STAT_LIMP : Fld := ⟨0x0, 0x338, 25, 25⟩
/-- Table 17.7, RO: AON runs from the RC oscillator. -/
def CLK_STAT_AON_RC : Fld := ⟨0x0, 0x338, 24, 24⟩
/-- Table 17.7, W1C: By R465. -/
def CLK_STAT_SYNC_ERR : Fld := ⟨0x0, 0x338, 23, 23⟩
/-- Table 17.7, RO: By R475. -/
def CLK_STAT_WAKE_FAIL : Fld := ⟨0x0, 0x338, 22, 22⟩
/-- Table 17.7, RO: Bit per domain: 0 AON, 1 SAF, 2 SYS, 3 CTL, 4 PWM, 5 ADC, 6 LNK, 7 NET (R468). -/
def CLK_STAT_CLK_OK : Fld := ⟨0x0, 0x338, 7, 0⟩
/-- Table 17.8, RO: Tap frozen in Limp (R471). -/
def DLL_STAT_FROZEN : Fld := ⟨0x0, 0x33c, 31, 31⟩
/-- Table 17.8, RO: Tap in force, 0 to 63. -/
def DLL_STAT_TAP : Fld := ⟨0x0, 0x33c, 21, 16⟩
/-- Table 17.9, RO: The slot holds a band; kept through all but a Cold reset. -/
def PLL_SLOT_VALID : Fld := ⟨0x0, 0x344, 31, 31⟩
/-- Table 17.9, RO: 0b00 PLL-M (slots 0–3), 0b01 PLL-L (4–5), 0b10 PLL-N (6–7); 0b11 reserved. -/
def PLL_SLOT_PLL : Fld := ⟨0x0, 0x344, 30, 29⟩
/-- Table 17.9, RO: Band, 0 to 63. -/
def PLL_SLOT_BAND : Fld := ⟨0x0, 0x344, 21, 16⟩
/-- Table 17.9, RO: Temperature at the search, °C + 55. -/
def PLL_SLOT_TEMP : Fld := ⟨0x0, 0x344, 7, 0⟩
/-- Table 17.10, RC: PLL-M losses of lock; saturates at 0xFF. -/
def CLK_CNT_PLLM_LOSS : Fld := ⟨0x0, 0x340, 31, 24⟩
/-- Table 17.10, RC: PLL-L losses of lock; saturates at 0xFF. -/
def CLK_CNT_PLLL_LOSS : Fld := ⟨0x0, 0x340, 23, 16⟩
/-- Table 17.10, RC: PLL-N losses of lock; saturates at 0xFF. -/
def CLK_CNT_PLLN_LOSS : Fld := ⟨0x0, 0x340, 15, 8⟩
/-- Table 17.10, RC: Full band searches; saturates at 0xFF. -/
def CLK_CNT_SEARCH_CNT : Fld := ⟨0x0, 0x340, 7, 0⟩
/-- Table 17.11, RO: WAKE_N wakes; set by CONFIG. -/
def WAKE_CFG_EN_PIN : Fld := ⟨0x0, 0x364, 31, 31⟩
/-- Table 17.11, RO: QSPI_CS_N wakes. -/
def WAKE_CFG_EN_QSPI : Fld := ⟨0x0, 0x364, 30, 30⟩
/-- Table 17.11, RO: CAN0_RX wakes. -/
def WAKE_CFG_EN_CAN0 : Fld := ⟨0x0, 0x364, 29, 29⟩
/-- Table 17.11, RO: CAN1_RX wakes. -/
def WAKE_CFG_EN_CAN1 : Fld := ⟨0x0, 0x364, 28, 28⟩
/-- Table 17.11, RO: Inputs in DI_MASK wake. -/
def WAKE_CFG_EN_DI : Fld := ⟨0x0, 0x364, 27, 27⟩
/-- Table 17.11, RO: WAKE_ALARM wakes. -/
def WAKE_CFG_EN_ALARM : Fld := ⟨0x0, 0x364, 26, 26⟩
/-- Table 17.11, RO: Bit n: DIn is a wake source. -/
def WAKE_CFG_DI_MASK : Fld := ⟨0x0, 0x364, 15, 0⟩
/-- Table 17.12, RO: Low 32 bits of the TB1 seconds for the alarm; set by CONFIG. -/
def WAKE_ALARM_ALL : Fld := ⟨0x0, 0x368, 31, 0⟩
/-- Table 17.12, W1C: Latched sources, in the order of WAKE_CFG bits 31:26. -/
def WAKE_STAT_LATCHED : Fld := ⟨0x0, 0x36c, 31, 26⟩
/-- Table 17.12, RC: Wakes completed; saturates at 0xFF. -/
def WAKE_STAT_WAKE_CNT : Fld := ⟨0x0, 0x36c, 15, 8⟩
/-- Table 18.9, RO: Reach of the last reset: 0b00 Cold, 0b01 System, 0b10 Supervisor, 0b11 Block. -/
def RST_CAUSE_REACH : Fld := ⟨0x0, 0x370, 31, 30⟩
/-- Table 18.9, RO: Code of the last Block reset, by Table 18.4. -/
def RST_CAUSE_BLOCK : Fld := ⟨0x0, 0x370, 27, 24⟩
/-- Table 18.9, W1C: Sources by Table 18.2, accumulated by R482. -/
def RST_CAUSE_SRC : Fld := ⟨0x0, 0x370, 10, 0⟩
/-- Table 18.10, RO: Bit per block code: the block is UNCLEAN (R484). -/
def RST_STAT_UNCLEAN : Fld := ⟨0x0, 0x374, 31, 16⟩
/-- Table 18.10, RO: A release waits for CLK_OK (R483). -/
def RST_STAT_WAIT_CLK : Fld := ⟨0x0, 0x374, 15, 15⟩
/-- Table 18.10, RO: The last Block reset reached idle (R485). -/
def RST_STAT_IDLE_OK : Fld := ⟨0x0, 0x374, 14, 14⟩
/-- Table 18.10, RC: Block resets taken without idle; saturates at 0xFF. -/
def RST_STAT_IDLE_TMO_CNT : Fld := ⟨0x0, 0x374, 7, 0⟩
/-- Table 18.11, RO: The option sector failed its CRC (R487). -/
def OPT_STAT_OPT_ERR : Fld := ⟨0x0, 0x378, 31, 31⟩
/-- Table 18.11, RO: The MODE_STRAP reading was not valid (R488). -/
def OPT_STAT_STRAP_ERR : Fld := ⟨0x0, 0x378, 30, 30⟩
/-- Table 18.11, RO: MODE_STRAP governs. -/
def OPT_STAT_STRAP_GOV : Fld := ⟨0x0, 0x378, 29, 29⟩
/-- Table 18.11, RO: Band read, when valid. -/
def OPT_STAT_BAND : Fld := ⟨0x0, 0x378, 27, 24⟩
/-- Table 18.11, RO: In force: bit 0 STRAP_EN, 1 REF_MODE, 2 ADC_REFEXT, 3 PAIR_PRIO, 4 BOOT_ALT, 5 RSTN_COLD. -/
def OPT_STAT_OPTIONS : Fld := ⟨0x0, 0x378, 5, 0⟩
/-- Table 18.12, RO: 0b000 boot ROM, 0b001 stage-2, 0b010 Fencen loading, 0b011 complete, 0b111 FAIL (R491); 0b100 to 0b110 reserved. -/
def BOOT_STAT_STAGE : Fld := ⟨0x0, 0x37c, 31, 29⟩
/-- Table 18.12, RO: Slot booted: 0 A, 1 B. -/
def BOOT_STAT_SLOT : Fld := ⟨0x0, 0x37c, 28, 28⟩
/-- Table 18.12, RO: The slot booted is not the selected one (R490). -/
def BOOT_STAT_FALLBACK : Fld := ⟨0x0, 0x37c, 27, 27⟩
/-- Table 18.12, RO: Slot B: bits 0–3 the checks of R408, bit 4 image or hash, bit 5 rollback. -/
def BOOT_STAT_FAIL_B : Fld := ⟨0x0, 0x37c, 13, 8⟩
/-- Table 18.12, RO: Slot A, coded as FAIL_B. -/
def BOOT_STAT_FAIL_A : Fld := ⟨0x0, 0x37c, 5, 0⟩
/-- Table 18.13, RWL: Writing 1 locks the Tack Table (R492). -/
def TACK_CTRL_LOCK : Fld := ⟨0x0, 0x380, 31, 31⟩
/-- Table 18.13, RWL: Test mode (R494). -/
def TACK_CTRL_TEST_EN : Fld := ⟨0x0, 0x380, 30, 30⟩
/-- Table 18.13, RWL: The debug access port stays open after lock. -/
def TACK_CTRL_DBG_OPEN : Fld := ⟨0x0, 0x380, 29, 29⟩
/-- Table 18.13, RWL: Fencen may burn the anti-rollback counter (R496). -/
def TACK_CTRL_SVN_BURN : Fld := ⟨0x0, 0x380, 28, 28⟩
/-- Table 18.14, RC: Corrected single-bit errors; saturates at 0xFFFF. -/
def ECC_STAT_CORR_CNT : Fld := ⟨0x0, 0x384, 31, 16⟩
/-- Table 18.14, RC: Uncorrectable and parity errors; saturates at 0xFF. -/
def ECC_STAT_UNCORR_CNT : Fld := ⟨0x0, 0x384, 15, 8⟩
/-- Table 18.14, RO: Code of Table 18.8 for the last uncorrectable error; 0xF none. -/
def ECC_STAT_LAST_MEM : Fld := ⟨0x0, 0x384, 7, 4⟩
/-- Table 19.3a, RO: 1 when CLASS is listed in Table 19.3b and INDEX lies in its range. -/
def WSEL_VALID : Fld := ⟨0x0, 0x100, 31, 31⟩
/-- Table 19.3a, RW: Class code. -/
def WSEL_CLASS : Fld := ⟨0x0, 0x100, 15, 8⟩
/-- Table 19.3a, RW: Unit within the class. -/
def WSEL_INDEX : Fld := ⟨0x0, 0x100, 7, 0⟩
/-- Table 19.4a, RC: Accesses denied by R501, on any path; saturates at 0xFFFF. -/
def DRW_STAT_DENY_CNT : Fld := ⟨0x0, 0x388, 15, 0⟩
/-- Table 20.1, RW. -/
def SPUR_CTRL_EN : Fld := ⟨0x0, 0x8000, 31, 31⟩
/-- Table 20.1, RO. -/
def SPUR_CTRL_ACTIVE : Fld := ⟨0x0, 0x8000, 30, 30⟩
/-- Table 20.1, RO. -/
def SPUR_CTRL_WHY : Fld := ⟨0x0, 0x8000, 29, 28⟩
/-- Table 20.1, RW. -/
def SPUR_CTRL_PERIODS : Fld := ⟨0x0, 0x8000, 15, 0⟩
/-- Table 20.1, RO. -/
def SPUR_STAT_LEFT : Fld := ⟨0x0, 0x8004, 31, 16⟩
/-- Table 20.1, RC. -/
def SPUR_STAT_INJ_CNT : Fld := ⟨0x0, 0x8004, 15, 8⟩
/-- Table 20.1, RC. -/
def SPUR_STAT_REJ_CNT : Fld := ⟨0x0, 0x8004, 7, 0⟩
/-- Table 20.1, RW. -/
def SPUR_CLE_DLY : Fld := ⟨0x0, 0x8010, 15, 0⟩
/-- Table 20.1, RW. -/
def SPUR_ADC_DLY : Fld := ⟨0x0, 0x8014, 31, 24⟩
/-- Table 20.1, RW. -/
def SPUR_ADC_CORE_MASK : Fld := ⟨0x0, 0x8014, 23, 0⟩
/-- Table 20.1, RW. -/
def SPUR_GL_LANE_MASK : Fld := ⟨0x0, 0x8018, 29, 24⟩
/-- Table 20.1, RW. -/
def SPUR_GL_DLY : Fld := ⟨0x0, 0x8018, 7, 0⟩
/-- Table 20.1, RW. -/
def SPUR_BP_MB_MASK : Fld := ⟨0x0, 0x801c, 31, 24⟩
/-- Table 20.1, RW. -/
def SPUR_BP_MIRROR : Fld := ⟨0x0, 0x801c, 23, 23⟩
/-- Table 20.1, RW. -/
def SPUR_SHIFT_SAMP : Fld := ⟨0x0, 0x8020, 27, 16⟩
/-- Table 20.1, RW. -/
def SPUR_SHIFT_RELOAD : Fld := ⟨0x0, 0x8020, 11, 0⟩
/-- Table 20.1, WO. -/
def SPUR_INJ_GO : Fld := ⟨0x0, 0x8024, 31, 31⟩
/-- Table 20.1, RW. -/
def SPUR_INJ_KIND : Fld := ⟨0x0, 0x8024, 30, 30⟩
/-- Table 20.1, RW. -/
def SPUR_INJ_TARGET : Fld := ⟨0x0, 0x8024, 29, 26⟩
/-- Table 20.1, RW. -/
def SPUR_INJ_TILE : Fld := ⟨0x0, 0x8024, 25, 20⟩
/-- Table 20.1, RW. -/
def SPUR_INJ_OFFSET : Fld := ⟨0x0, 0x8024, 19, 0⟩
/-- Table 19.2, RO. -/
def IDENT_ID_REV : Fld := ⟨0x0, 0x0, 31, 24⟩
/-- Table 19.2, RO. -/
def IDENT_ID_VARIANT_H : Fld := ⟨0x0, 0x0, 16, 16⟩
/-- Table 19.2, RO. -/
def IDENT_ID_PART : Fld := ⟨0x0, 0x0, 15, 0⟩
/-- Table 19.2, RO. -/
def IDENT_FW_FW_MAJ : Fld := ⟨0x0, 0x4, 31, 24⟩
/-- Table 19.2, RO. -/
def IDENT_FW_FW_MIN : Fld := ⟨0x0, 0x4, 23, 16⟩
/-- Table 19.2, RO. -/
def IDENT_FW_FW_BUILD : Fld := ⟨0x0, 0x4, 15, 0⟩
/-- Table 19.2, RO. -/
def IDENT_FCP_FCP_MAJ : Fld := ⟨0x0, 0x8, 15, 8⟩
/-- Table 19.2, RO. -/
def IDENT_FCP_FCP_MIN : Fld := ⟨0x0, 0x8, 7, 0⟩
/-- Table 19.2, RO. -/
def IDENT_STATE_DEV_STATE : Fld := ⟨0x0, 0xc, 1, 0⟩
/-- Table 19.2, RO. -/
def IDENT_SERIAL_LO_ALL : Fld := ⟨0x0, 0x10, 31, 0⟩
/-- Table 19.2, RO. -/
def IDENT_SERIAL_HI_ALL : Fld := ⟨0x0, 0x14, 31, 0⟩
/-- Table 19.2, RO. -/
def IDENT_CLE_VER_ALL : Fld := ⟨0x0, 0x18, 31, 0⟩
/-- Table 19.2, RO. -/
def IDENT_STW_VER_ALL : Fld := ⟨0x0, 0x1c, 31, 0⟩
/-- Table 19.2, RO. -/
def IDENT_HLP_VER_ALL : Fld := ⟨0x0, 0x20, 31, 0⟩
/-- Table 19.2, RO. -/
def IDENT_CFG_DIGEST_ALL : Fld := ⟨0x0, 0x24, 31, 0⟩
/-- Table 19.2, RO. -/
def IDENT_BOOT_MIRROR_FMT : Fld := ⟨0x0, 0x28, 31, 24⟩
/-- Table 19.2, RO. -/
def IDENT_BOOT_FALLBACK : Fld := ⟨0x0, 0x28, 17, 17⟩
/-- Table 19.2, RO. -/
def IDENT_BOOT_SLOT : Fld := ⟨0x0, 0x28, 16, 16⟩
/-- Table 19.2, RO. -/
def IDENT_BOOT_ARB_CNT : Fld := ⟨0x0, 0x28, 15, 8⟩
/-- Table 19.2, RO. -/
def IDENT_BOOT_SVN : Fld := ⟨0x0, 0x28, 7, 0⟩
/-- Table 19.2, RO. -/
def IDENT_LAYOUT_ALL : Fld := ⟨0x0, 0x2c, 31, 0⟩
/-- Table 19.8, RC. -/
def EVQ_STAT_DROP_CNT : Fld := ⟨0x0, 0x808, 31, 16⟩
/-- Table 19.8, RO. -/
def EVQ_STAT_DEPTH : Fld := ⟨0x0, 0x808, 6, 0⟩

end F

/-- One register's row: where it stands (cnt like registers, 4 bytes apart), its reset word, and the masks of the bits
that software writes (RW), clears with 1 (W1C), clears by reading (RC), writes until the Tack Table is locked (RWL), and
sets or triggers but reads as 0 (WO). -/
structure RegRow where
  cls : Nat
  off : Nat
  cnt : Nat
  reset : Nat
  rw : Nat
  w1c : Nat
  rc : Nat
  rwl : Nat
  wo : Nat
  deriving DecidableEq, Repr

/-- Rows of the register table, part 0. -/
def regRows0 : List RegRow := [
  ⟨0x0, 0x200, 1, 0x1, 0x0, 0x0, 0x0, 0x0, 0x0⟩,
  ⟨0x0, 0x204, 1, 0x0, 0x0, 0x0, 0xffff0000, 0x0, 0x0⟩,
  ⟨0x0, 0x208, 1, 0x0, 0x0, 0x1800ffff, 0xff0000, 0x0, 0x0⟩,
  ⟨0x0, 0x20c, 1, 0x0, 0x0, 0x0, 0xffffffff, 0x0, 0x0⟩,
  ⟨0x0, 0x210, 1, 0x0, 0x0, 0x0, 0x0, 0x0, 0x0⟩,
  ⟨0x0, 0x214, 1, 0x0, 0x0, 0x0, 0x0, 0x0, 0x1ff3⟩,
  ⟨0x0, 0x218, 1, 0x0, 0x0, 0x0, 0xff00, 0x0, 0x0⟩,
  ⟨0x0, 0x220, 8, 0x32, 0x0, 0x0, 0x0, 0x0, 0x0⟩,
  ⟨0x0, 0x240, 4, 0x80400000, 0x0, 0x0, 0x0, 0x0, 0x0⟩,
  ⟨0x0, 0x250, 1, 0x0, 0xc0000000, 0x0, 0x0, 0x0, 0x0⟩,
  ⟨0x0, 0x254, 1, 0x0, 0x0, 0xa0000000, 0xff0000, 0x0, 0x0⟩,
  ⟨0x0, 0x258, 1, 0x30d4, 0x0, 0x0, 0x0, 0x0, 0x0⟩,
  ⟨0x0, 0x25c, 1, 0x30d4, 0xfffff, 0x0, 0x0, 0x0, 0x0⟩,
  ⟨0x0, 0x260, 1, 0x0, 0x0, 0x0, 0x0, 0x0, 0x1⟩,
  ⟨0x0, 0x264, 1, 0x0, 0x0, 0x0, 0x0, 0x0, 0x0⟩,
  ⟨0x0, 0x268, 1, 0x0, 0x0, 0x0, 0x0, 0x0, 0x0⟩,
  ⟨0x0, 0x26c, 1, 0x0, 0x0, 0x0, 0x0, 0xffffffff, 0x0⟩,
  ⟨0x0, 0x270, 1, 0x0, 0x0, 0x0, 0x0, 0xffff, 0x0⟩,
  ⟨0x0, 0x274, 1, 0x0, 0x0, 0x0, 0x0, 0xff, 0x0⟩,
  ⟨0x0, 0x278, 1, 0x3ff00200, 0xbfffffff, 0x0, 0x0, 0x0, 0x0⟩,
  ⟨0x0, 0x27c, 1, 0x80200, 0x0, 0x0, 0x0, 0x0, 0x0⟩,
  ⟨0x0, 0x280, 8, 0x0, 0x0, 0x0, 0x0, 0x0, 0x0⟩,
  ⟨0x0, 0x2a0, 1, 0x3f0000, 0x0, 0x3f000000, 0x0, 0x0, 0x0⟩,
  ⟨0x0, 0x2a4, 1, 0x0, 0x0, 0x0, 0x0, 0x0, 0x0⟩]

/-- Rows of the register table, part 1. -/
def regRows1 : List RegRow := [
  ⟨0x0, 0x2a8, 1, 0x0, 0x0, 0x0, 0x0, 0x0, 0x0⟩,
  ⟨0x0, 0x2ac, 1, 0x0, 0x0, 0x0, 0xffff, 0x0, 0x0⟩,
  ⟨0x0, 0x2b0, 1, 0x0, 0x0, 0x0, 0x0, 0x0, 0x0⟩,
  ⟨0x0, 0x2b4, 1, 0x0, 0x0, 0x0, 0xffffff00, 0x0, 0x0⟩,
  ⟨0x0, 0x2b8, 1, 0x0, 0x0, 0x1000000, 0x0, 0x0, 0x0⟩,
  ⟨0x0, 0x2bc, 1, 0x0, 0x0, 0x0, 0x0, 0x0, 0x0⟩,
  ⟨0x0, 0x2c0, 1, 0x0, 0x0, 0xfff0000, 0x0, 0x0, 0x0⟩,
  ⟨0x0, 0x2c4, 1, 0x0, 0x0, 0x0, 0xffffffff, 0x0, 0x0⟩,
  ⟨0x0, 0x2c8, 6, 0x0, 0x0, 0x10000000, 0xff0000, 0x0, 0x0⟩,
  ⟨0x0, 0x2e0, 1, 0x0, 0x0, 0x0, 0x0, 0x0, 0x0⟩,
  ⟨0x0, 0x2e4, 1, 0x0, 0x0, 0x0, 0xffff, 0x0, 0x0⟩,
  ⟨0x0, 0x2e8, 1, 0x0, 0x0, 0x0, 0xffffffff, 0x0, 0x0⟩,
  ⟨0x0, 0x2ec, 1, 0x0, 0x0, 0x0, 0x0, 0x0, 0x0⟩,
  ⟨0x0, 0x2f0, 1, 0xa, 0x0, 0x0, 0x0, 0x0, 0x0⟩,
  ⟨0x0, 0x2f4, 1, 0x14141414, 0x0, 0x0, 0x0, 0x0, 0x0⟩,
  ⟨0x0, 0x2f8, 1, 0x0, 0x0, 0x0, 0x0, 0x0, 0x0⟩,
  ⟨0x0, 0x2fc, 1, 0x0, 0x0, 0x0, 0x0, 0x0, 0x0⟩,
  ⟨0x0, 0x300, 1, 0x0, 0x0, 0xf000000, 0xffff, 0x0, 0x0⟩,
  ⟨0x0, 0x304, 1, 0x0, 0x0, 0x0, 0x0, 0x0, 0x0⟩,
  ⟨0x0, 0x308, 1, 0x0, 0x0, 0x0, 0xffffff, 0x0, 0x0⟩,
  ⟨0x0, 0x30c, 1, 0x0, 0x0, 0x0, 0x0, 0x0, 0x0⟩,
  ⟨0x0, 0x310, 1, 0x0, 0x0, 0x0, 0x0, 0x0, 0x0⟩,
  ⟨0x0, 0x314, 1, 0x0, 0x0, 0x0, 0x0, 0x0, 0x0⟩,
  ⟨0x0, 0x318, 1, 0x0, 0x0, 0x0, 0x0, 0x0, 0x0⟩]

/-- Rows of the register table, part 2. -/
def regRows2 : List RegRow := [
  ⟨0x0, 0x31c, 4, 0x0, 0x0, 0x0, 0xffffffff, 0x0, 0x0⟩,
  ⟨0x0, 0x32c, 1, 0x0, 0x0, 0x0, 0x0, 0x0, 0x0⟩,
  ⟨0x0, 0x330, 1, 0x0, 0x0, 0x0, 0x0, 0x0, 0x0⟩,
  ⟨0x0, 0x334, 1, 0x0, 0x0, 0x0, 0x0, 0x0, 0x0⟩,
  ⟨0x0, 0x338, 1, 0x1000003, 0x0, 0x800000, 0x0, 0x0, 0x0⟩,
  ⟨0x0, 0x33c, 1, 0x0, 0x0, 0x0, 0x0, 0x0, 0x0⟩,
  ⟨0x0, 0x340, 1, 0x0, 0x0, 0x0, 0xffffffff, 0x0, 0x0⟩,
  ⟨0x0, 0x344, 8, 0x0, 0x0, 0x0, 0x0, 0x0, 0x0⟩,
  ⟨0x0, 0x364, 1, 0xc0000000, 0x0, 0x0, 0x0, 0x0, 0x0⟩,
  ⟨0x0, 0x368, 1, 0x0, 0x0, 0x0, 0x0, 0x0, 0x0⟩,
  ⟨0x0, 0x36c, 1, 0x0, 0x0, 0xfc000000, 0xff00, 0x0, 0x0⟩,
  ⟨0x0, 0x370, 1, 0x1, 0x0, 0x7ff, 0x0, 0x0, 0x0⟩,
  ⟨0x0, 0x374, 1, 0x0, 0x0, 0x0, 0xff, 0x0, 0x0⟩,
  ⟨0x0, 0x378, 1, 0x0, 0x0, 0x0, 0x0, 0x0, 0x0⟩,
  ⟨0x0, 0x37c, 1, 0x0, 0x0, 0x0, 0x0, 0x0, 0x0⟩,
  ⟨0x0, 0x380, 1, 0x0, 0x0, 0x0, 0x0, 0xf0000000, 0x0⟩,
  ⟨0x0, 0x384, 1, 0xf0, 0x0, 0x0, 0xffffff00, 0x0, 0x0⟩,
  ⟨0x0, 0x388, 1, 0x0, 0x0, 0x0, 0xffff, 0x0, 0x0⟩,
  ⟨0x1, 0x3c0, 1, 0x1000000, 0x80000, 0x0, 0x0, 0x0, 0x0⟩,
  ⟨0x1, 0x3c4, 1, 0x3200320, 0x0, 0x0, 0x0, 0x0, 0x0⟩,
  ⟨0x1, 0x3c8, 1, 0x3e8e0000, 0x0, 0x0, 0x0, 0x0, 0x0⟩,
  ⟨0x1, 0x3cc, 1, 0x0, 0x0, 0x0, 0x0, 0x0, 0x0⟩,
  ⟨0x1, 0x3d0, 1, 0x0, 0x1ffffff, 0x0, 0x0, 0x0, 0x0⟩,
  ⟨0x1, 0x3d4, 1, 0x0, 0x0, 0x0, 0x0, 0x0, 0x0⟩]

/-- Rows of the register table, part 3. -/
def regRows3 : List RegRow := [
  ⟨0x1, 0x3d8, 1, 0x0, 0x0, 0xe0000000, 0xffffff, 0x0, 0x0⟩,
  ⟨0x1, 0x3dc, 1, 0x0, 0x0, 0x0, 0xffffffff, 0x0, 0x0⟩,
  ⟨0x1, 0x3e0, 1, 0x0, 0x0, 0x0, 0x0, 0x0, 0x0⟩,
  ⟨0x1, 0x3e4, 1, 0x10000000, 0x0, 0x0, 0x0, 0x0, 0x0⟩,
  ⟨0x2, 0x3c0, 1, 0x0, 0x0, 0x0, 0x0, 0x0, 0x0⟩,
  ⟨0x2, 0x3c4, 1, 0x0, 0x0, 0x0, 0x0, 0x0, 0x0⟩,
  ⟨0x2, 0x3c8, 1, 0x0, 0x0, 0x0, 0x0, 0x0, 0x0⟩,
  ⟨0x2, 0x3cc, 1, 0x0, 0x0, 0x0, 0x0, 0x0, 0x0⟩,
  ⟨0x2, 0x3d0, 1, 0x0, 0x0, 0x0, 0x0, 0x0, 0x0⟩,
  ⟨0x2, 0x3d4, 1, 0xff00, 0x0, 0x80000000, 0xff0000, 0x0, 0x0⟩,
  ⟨0x3, 0x3c0, 1, 0xf000, 0x0, 0x0, 0x0, 0x0, 0x0⟩,
  ⟨0x3, 0x3c4, 1, 0x0, 0x0, 0x2000000, 0x0, 0x0, 0x0⟩,
  ⟨0x3, 0x3c8, 1, 0x0, 0x0, 0x0, 0x0, 0x0, 0x0⟩,
  ⟨0x4, 0x3c0, 1, 0xfc000000, 0xfff0ffff, 0x0, 0x0, 0x0, 0x0⟩,
  ⟨0x4, 0x3c4, 1, 0x0, 0x3f003fff, 0x0, 0x0, 0x0, 0x0⟩,
  ⟨0x4, 0x3c8, 1, 0x0, 0xffffffff, 0x0, 0x0, 0x0, 0x0⟩,
  ⟨0x5, 0x3c0, 1, 0x0, 0x0, 0x0, 0x0, 0x0, 0x0⟩,
  ⟨0x5, 0x3c4, 1, 0x0, 0x0, 0x0, 0xffffff, 0x0, 0x0⟩,
  ⟨0x5, 0x3c8, 1, 0x2000ff, 0x0, 0x0, 0x0, 0x0, 0x0⟩,
  ⟨0x5, 0x3cc, 1, 0x80000000, 0x0, 0x2000000, 0xff, 0x0, 0x0⟩,
  ⟨0x5, 0x3d0, 1, 0x0, 0x3f, 0x0, 0x0, 0x0, 0x0⟩,
  ⟨0x5, 0x3d4, 1, 0x0, 0x0, 0x0, 0x0, 0x0, 0x0⟩,
  ⟨0x5, 0x3d8, 1, 0x0, 0x0, 0x0, 0x0, 0x0, 0x0⟩,
  ⟨0x5, 0x3dc, 1, 0x0, 0x0, 0x0, 0x0, 0x0, 0x0⟩]

/-- Rows of the register table, part 4. -/
def regRows4 : List RegRow := [
  ⟨0x5, 0x3e0, 1, 0x0, 0x0, 0x0, 0x0, 0x0, 0x0⟩,
  ⟨0x5, 0x3e4, 1, 0x0, 0x0, 0x0, 0x0, 0x0, 0x0⟩,
  ⟨0x5, 0x3e8, 1, 0x0, 0x0, 0x0, 0x0, 0x0, 0x0⟩,
  ⟨0x5, 0x3ec, 1, 0x0, 0x0, 0x0, 0x0, 0x0, 0x0⟩,
  ⟨0x6, 0x3c0, 1, 0x0, 0x0, 0x0, 0x0, 0x0, 0x0⟩,
  ⟨0x6, 0x3c4, 1, 0x0, 0x0, 0x0, 0xffffff, 0x0, 0x0⟩,
  ⟨0x6, 0x3c8, 8, 0x1e0000, 0x0, 0x0, 0x0, 0x0, 0x0⟩,
  ⟨0x7, 0x3c0, 1, 0x10000000, 0x0, 0x0, 0x0, 0x0, 0x0⟩,
  ⟨0x7, 0x3c4, 1, 0x0, 0x0, 0x0, 0x0, 0x0, 0x0⟩,
  ⟨0x7, 0x3c8, 1, 0xffff000, 0x0, 0x0, 0x0, 0x0, 0x0⟩,
  ⟨0x7, 0x3cc, 1, 0xfff0000, 0xfff0fff, 0x0, 0x0, 0x0, 0x0⟩,
  ⟨0x7, 0x3d0, 1, 0xfff000, 0x0, 0x3c000000, 0x0, 0x0, 0x0⟩,
  ⟨0x7, 0x3d4, 1, 0x0, 0x0, 0x0, 0xffffffff, 0x0, 0x0⟩,
  ⟨0x8, 0x3c0, 1, 0x0, 0x0, 0x0, 0x0, 0x0, 0x0⟩,
  ⟨0x8, 0x3c4, 1, 0x10000000, 0x0, 0x0, 0x0, 0x0, 0x0⟩,
  ⟨0x8, 0x3c8, 1, 0x0, 0x0, 0x0, 0xffffff, 0x0, 0x0⟩,
  ⟨0x9, 0x3c0, 1, 0x49000000, 0x0, 0x0, 0x0, 0x0, 0x0⟩,
  ⟨0x9, 0x3c4, 1, 0x18010000, 0x0, 0x2000000, 0x0, 0x0, 0x0⟩,
  ⟨0x9, 0x3c8, 1, 0x0, 0x0, 0x0, 0xffffffff, 0x0, 0x0⟩,
  ⟨0x9, 0x3cc, 1, 0x0, 0x0, 0x0, 0x0, 0x0, 0x1⟩,
  ⟨0x9, 0x3d0, 1, 0x0, 0x0, 0x0, 0x0, 0x0, 0x0⟩,
  ⟨0xa, 0x3c0, 1, 0x2000000, 0x0, 0x10000000, 0x0, 0x0, 0x0⟩,
  ⟨0xa, 0x3c4, 1, 0x0, 0x0, 0x0, 0x0, 0x0, 0x0⟩,
  ⟨0xa, 0x3c8, 1, 0x0, 0x0, 0x0, 0x0, 0x0, 0x0⟩]

/-- Rows of the register table, part 5. -/
def regRows5 : List RegRow := [
  ⟨0xa, 0x3cc, 1, 0x0, 0x0, 0x0, 0x0, 0x0, 0x0⟩,
  ⟨0xa, 0x3d0, 1, 0x0, 0x0, 0x0, 0x0, 0x0, 0x0⟩,
  ⟨0xa, 0x3d4, 1, 0x0, 0x0, 0x0, 0x0, 0x0, 0x0⟩,
  ⟨0xa, 0x3d8, 1, 0xffffffff, 0x0, 0x0, 0x0, 0x0, 0x0⟩,
  ⟨0xb, 0x3c0, 1, 0x60000000, 0x0, 0x0, 0xffffff, 0x0, 0x0⟩,
  ⟨0xb, 0x3c4, 1, 0x0, 0x0, 0x0, 0xffff, 0x0, 0x0⟩,
  ⟨0xc, 0x3c0, 1, 0x0, 0x0, 0x0, 0xffffffff, 0x0, 0x0⟩,
  ⟨0xd, 0x3c0, 1, 0x0, 0x0, 0x0, 0xffff, 0x0, 0x0⟩,
  ⟨0x0, 0x100, 1, 0x0, 0xffff, 0x0, 0x0, 0x0, 0x0⟩,
  ⟨0x0, 0x8000, 1, 0x0, 0x8000ffff, 0x0, 0x0, 0x0, 0x0⟩,
  ⟨0x0, 0x8004, 1, 0x0, 0x0, 0x0, 0xffff, 0x0, 0x0⟩,
  ⟨0x0, 0x8010, 1, 0x0, 0xffff, 0x0, 0x0, 0x0, 0x0⟩,
  ⟨0x0, 0x8014, 1, 0x0, 0xffffffff, 0x0, 0x0, 0x0, 0x0⟩,
  ⟨0x0, 0x8018, 1, 0x0, 0x3f0000ff, 0x0, 0x0, 0x0, 0x0⟩,
  ⟨0x0, 0x801c, 1, 0x0, 0xff800000, 0x0, 0x0, 0x0, 0x0⟩,
  ⟨0x0, 0x8020, 1, 0x0, 0xfff0fff, 0x0, 0x0, 0x0, 0x0⟩,
  ⟨0x0, 0x8024, 1, 0x0, 0x7fffffff, 0x0, 0x0, 0x0, 0x80000000⟩,
  ⟨0x0, 0x0, 1, 0x43004896, 0x0, 0x0, 0x0, 0x0, 0x0⟩,
  ⟨0x0, 0x4, 1, 0x0, 0x0, 0x0, 0x0, 0x0, 0x0⟩,
  ⟨0x0, 0x8, 1, 0x0, 0x0, 0x0, 0x0, 0x0, 0x0⟩,
  ⟨0x0, 0xc, 1, 0x0, 0x0, 0x0, 0x0, 0x0, 0x0⟩,
  ⟨0x0, 0x10, 1, 0x0, 0x0, 0x0, 0x0, 0x0, 0x0⟩,
  ⟨0x0, 0x14, 1, 0x0, 0x0, 0x0, 0x0, 0x0, 0x0⟩,
  ⟨0x0, 0x18, 1, 0x0, 0x0, 0x0, 0x0, 0x0, 0x0⟩]

/-- Rows of the register table, part 6. -/
def regRows6 : List RegRow := [
  ⟨0x0, 0x1c, 1, 0x0, 0x0, 0x0, 0x0, 0x0, 0x0⟩,
  ⟨0x0, 0x20, 1, 0x0, 0x0, 0x0, 0x0, 0x0, 0x0⟩,
  ⟨0x0, 0x24, 1, 0x0, 0x0, 0x0, 0x0, 0x0, 0x0⟩,
  ⟨0x0, 0x28, 1, 0x0, 0x0, 0x0, 0x0, 0x0, 0x0⟩,
  ⟨0x0, 0x2c, 1, 0x10000, 0x0, 0x0, 0x0, 0x0, 0x0⟩,
  ⟨0x0, 0x808, 1, 0x0, 0x0, 0x0, 0xffff0000, 0x0, 0x0⟩]

/-- Every register the window shows (Tables 19.2, 19.4, 19.5, 20.1). -/
def regRows : List RegRow := regRows0 ++ regRows1 ++ regRows2 ++ regRows3 ++ regRows4 ++ regRows5 ++ regRows6

/-- The row of the register at a class and offset, if there is one (R501: other offsets are reserved). -/
def regRow? (cls off : Nat) : Option RegRow :=
  regRows.find? fun r => r.cls == cls && r.off ≤ off && off < r.off + 4 * r.cnt && off % 4 == 0

/-- The reset word of the register with key k (Tables 19.4 and 19.5; the PLL slots by Table 17.9, TB_STAT and TB0_OFS by unit). -/
def resetWord (k : Nat) : Word :=
  let off := k % 65536
  let idx := k / 65536 % 256
  let cls := k / 16777216
  if cls == 0 && (off == 0x354 || off == 0x358) then 0x20000000#32
  else if cls == 0 && (off == 0x35C || off == 0x360) then 0x40000000#32
  else if cls == 0xA && idx != 0 then 0#32
  else if cls == 5 && decide (4 ≤ idx) && (off == 0x3C8 || off == 0x3CC) then 0#32
  else match regRow? cls off with
    | some r => BitVec.ofNat 32 r.reset
    | none => 0#32

end Sys2Proof.Machine
end

