-- ==== Sys2Proof/Machine/Fp.lean ====
section
/-!
DEFINITION. FP32 arithmetic of the Control Law Engine and of the host-visible real quantities (R90, R397): IEEE 754 binary32
values as 32-bit patterns, round to nearest even, subnormal operands and results flushed to a zero of the same sign. Each
function is computed exactly on integers and narrowed once at the end.
-/
namespace Sys2Proof.Machine

/-- An FP32 pattern. -/
abbrev F32 := Word

/-- A finite value (-1)^neg * man * 2^exp. -/
structure Dec where
  neg : Bool
  man : Nat
  exp : Int
  deriving DecidableEq, Repr

/-- Biased exponent. -/
def fExp (x : F32) : Nat := (x.toNat >>> 23) % 256

/-- Fraction bits. -/
def fFrac (x : F32) : Nat := x.toNat % 2 ^ 23

/-- Sign bit. -/
def fNeg (x : F32) : Bool := x.toNat ≥ 2 ^ 31

/-- A NaN. -/
def fIsNan (x : F32) : Bool := fExp x == 255 && fFrac x != 0

/-- An infinity. -/
def fIsInf (x : F32) : Bool := fExp x == 255 && fFrac x == 0

/-- Neither a NaN nor an infinity. -/
def fFinite (x : F32) : Bool := fExp x != 255

/-- Zero after flushing: a subnormal reads as zero (R90). -/
def fIsZero (x : F32) : Bool := fExp x == 0

/-- Zero of a sign. -/
def fZero (neg : Bool) : F32 := if neg then 0x80000000#32 else 0#32

/-- Infinity of a sign. -/
def fInf (neg : Bool) : F32 := if neg then 0xFF800000#32 else 0x7F800000#32

/-- The NaN that arithmetic makes. -/
def fNan : F32 := 0x7FC00000#32

/-- The finite value of a pattern. -/
def fDec (x : F32) : Dec :=
  if fExp x = 0 then ⟨fNeg x, 0, 0⟩ else ⟨fNeg x, 2 ^ 23 + fFrac x, (fExp x : Int) - 150⟩

/-- Round man * 2^exp to nearest even with 24 significant bits and pack; overflow gives infinity, a result below the normal
range is flushed to zero (R90). -/
def fRound (neg : Bool) (man : Nat) (exp : Int) : F32 :=
  if man = 0 then fZero neg else
  let n := Nat.log2 man + 1
  let q0 := if n ≤ 24 then man * 2 ^ (24 - n) else
    let sh := n - 24
    let q := man / 2 ^ sh
    let r := man % 2 ^ sh
    if r > 2 ^ (sh - 1) || (r == 2 ^ (sh - 1) && q % 2 == 1) then q + 1 else q
  let q := if q0 = 2 ^ 24 then 2 ^ 23 else q0
  let e := exp + (n : Int) - 24 + 150 + (if q0 = 2 ^ 24 then 1 else 0)
  if e ≥ 255 then fInf neg
  else if e ≤ 0 then fZero neg
  else BitVec.ofNat 32 ((if neg then 2 ^ 31 else 0) + e.toNat * 2 ^ 23 + (q - 2 ^ 23))

/-- Negation. -/
def fNegate (x : F32) : F32 := x ^^^ 0x80000000#32

/-- Absolute value. -/
def fAbs (x : F32) : F32 := x &&& 0x7FFFFFFF#32

/-- A pattern as arithmetic reads it: a subnormal is flushed to a zero of its sign (R90). -/
def fFlush (x : F32) : F32 := if fIsZero x then fZero (fNeg x) else x

/-- Sum. -/
def fAdd (x y : F32) : F32 :=
  if fIsNan x || fIsNan y then fNan
  else if fIsInf x then (if fIsInf y && fNeg x != fNeg y then fNan else x)
  else if fIsInf y then y
  else
    let a := fDec x
    let b := fDec y
    if a.man = 0 then (if b.man = 0 then fZero (a.neg && b.neg) else y)
    else if b.man = 0 then x
    else
      let e := min a.exp b.exp
      let va : Int := (a.man * 2 ^ (a.exp - e).toNat : Nat)
      let vb : Int := (b.man * 2 ^ (b.exp - e).toNat : Nat)
      let v := (if a.neg then -va else va) + (if b.neg then -vb else vb)
      if v = 0 then 0#32 else fRound (decide (v < 0)) v.natAbs e

/-- Difference. -/
def fSub (x y : F32) : F32 := fAdd x (fNegate y)

/-- Product. -/
def fMul (x y : F32) : F32 :=
  let s := fNeg x != fNeg y
  if fIsNan x || fIsNan y then fNan
  else if fIsInf x || fIsInf y then (if fIsZero x || fIsZero y then fNan else fInf s)
  else
    let a := fDec x
    let b := fDec y
    if a.man * b.man = 0 then fZero s else fRound s (a.man * b.man) (a.exp + b.exp)

/-- Quotient; a zero divisor gives an infinity, 0/0 a NaN. -/
def fDiv (x y : F32) : F32 :=
  let s := fNeg x != fNeg y
  if fIsNan x || fIsNan y then fNan
  else if fIsInf x then (if fIsInf y then fNan else fInf s)
  else if fIsInf y then fZero s
  else if fIsZero y then (if fIsZero x then fNan else fInf s)
  else if fIsZero x then fZero s
  else
    let a := fDec x
    let b := fDec y
    let n := a.man * 2 ^ 40
    fRound s (2 * (n / b.man) + (if n % b.man = 0 then 0 else 1)) (a.exp - b.exp - 41)

/-- Bits of an integer square root, from bit i down. -/
def isqrtFrom (n : Nat) : Nat → Nat → Nat
  | 0, r => r
  | i + 1, r => if (r + 2 ^ i) * (r + 2 ^ i) ≤ n then isqrtFrom n i (r + 2 ^ i) else isqrtFrom n i r

/-- Integer square root of a number below 2^80. -/
def isqrt (n : Nat) : Nat := isqrtFrom n 40 0

/-- Square root; a negative operand gives a NaN. -/
def fSqrt (x : F32) : F32 :=
  if fIsNan x then fNan
  else if fIsZero x then fZero (fNeg x)
  else if fNeg x then fNan
  else if fIsInf x then x
  else
    let a := fDec x
    let odd := a.exp % 2 = 1
    let m := if odd then a.man * 2 ^ 31 else a.man * 2 ^ 32
    let e := if odd then a.exp - 31 else a.exp - 32
    let r := isqrt m
    fRound false (2 * r + (if r * r = m then 0 else 1)) (e / 2 - 1)

/-- A key that orders finite values and infinities. -/
def fKey (x : F32) : Int :=
  if fIsZero x then 0 else if fNeg x then -((x.toNat - 2 ^ 31 : Nat) : Int) else (x.toNat : Int)

/-- x < y; false when either is a NaN. -/
def fLt (x y : F32) : Bool := !fIsNan x && !fIsNan y && decide (fKey x < fKey y)

/-- x ≤ y; false when either is a NaN. -/
def fLe (x y : F32) : Bool := !fIsNan x && !fIsNan y && decide (fKey x ≤ fKey y)

/-- Equal values. -/
def fEq (x y : F32) : Bool := !fIsNan x && !fIsNan y && decide (fKey x = fKey y)

/-- The greater. -/
def fMax (x y : F32) : F32 := fFlush (if fLt x y then y else x)

/-- The smaller. -/
def fMin (x y : F32) : F32 := fFlush (if fLt y x then y else x)

/-- x clamped to lo..hi. -/
def fClamp (lo hi x : F32) : F32 := fFlush (if fLt x lo then lo else if fLt hi x then hi else x)

/-- The FP32 value nearest an integer times 2^e. -/
def fOfIntExp (v : Int) (e : Int) : F32 := if v = 0 then 0#32 else fRound (decide (v < 0)) v.natAbs e

/-- The FP32 value nearest an integer. -/
def fOfInt (v : Int) : F32 := fOfIntExp v 0

/-- The FP32 value nearest the ratio n / d of integers, d > 0. -/
def fOfRat (n : Int) (d : Nat) : F32 :=
  if n = 0 then 0#32 else
  let m := n.natAbs * 2 ^ 64
  fRound (decide (n < 0)) (2 * (m / d) + (if m % d = 0 then 0 else 1)) (-65)

/-- The value times 2^k rounded to an integer, halves away from zero; `lo..hi` bounds it, and a NaN gives 0. -/
def fToInt (x : F32) (k : Int) (lo hi : Int) : Int :=
  if fIsNan x then 0
  else if fIsInf x then (if fNeg x then lo else hi)
  else
    let a := fDec x
    let e := a.exp + k
    let m : Int := if e ≥ 0 then (if e > 200 then (if a.man = 0 then 0 else (2 ^ 200 : Nat)) else (a.man * 2 ^ e.toNat : Nat))
      else if e < -80 then 0 else ((2 * a.man + 2 ^ (-e).toNat) / (2 * 2 ^ (-e).toNat) : Nat)
    clampInt lo hi (if a.neg then -m else m)

/-- The value times 2^k rounded to an integer, halves to even. -/
def fToIntEven (x : F32) (k : Int) (lo hi : Int) : Int :=
  if fIsNan x then 0
  else if fIsInf x then (if fNeg x then lo else hi)
  else
    let a := fDec x
    let e := a.exp + k
    let m : Int := if e ≥ 0 then (if e > 200 then (if a.man = 0 then 0 else (2 ^ 200 : Nat)) else (a.man * 2 ^ e.toNat : Nat))
      else if e < -80 then 0 else
        let d := 2 ^ (-e).toNat
        let q := a.man / d
        let r := 2 * (a.man % d)
        ((if r > d || (r == d && q % 2 == 1) then q + 1 else q : Nat) : Int)
    clampInt lo hi (if a.neg then -m else m)

/-- The value times 2^k rounded towards minus infinity. -/
def fFloor (x : F32) (k : Int) (lo hi : Int) : Int :=
  if fIsNan x then 0
  else if fIsInf x then (if fNeg x then lo else hi)
  else
    let a := fDec x
    let e := a.exp + k
    let v : Int := if a.neg then -(a.man : Int) else (a.man : Int)
    let m : Int := if e ≥ 0 then (if e > 200 then v * (2 ^ 200 : Nat) else v * (2 ^ e.toNat : Nat))
      else if e < -80 then (if v < 0 then -1 else 0) else v / (2 ^ (-e).toNat : Nat)
    clampInt lo hi m

/-- 1.0 -/
def f1 : F32 := 0x3F800000#32
/-- 0.5 -/
def fHalf : F32 := 0x3F000000#32
/-- 2.0 -/
def f2 : F32 := 0x40000000#32

/-! ### Sine, cosine and the angle of a vector

Computed in fixed point with 60 fraction bits, far finer than FP32. -/

/-- π/2 with 60 fraction bits. -/
def halfPi60 : Nat := 1811004864519280711

/-- Sum of a power series by its terms' ratios: each next term is the last times -z / (k (k + 1)), with 60 fraction bits. -/
def trigSeries (z : Int) : Nat → Int → Nat → Int
  | 0, term, _ => term
  | n + 1, term, k => term + trigSeries z n (-(term * z / 2 ^ 60) / (k * (k + 1) : Nat)) (k + 2)

/-- sin of an angle in turns / 2^64, with 60 fraction bits. -/
def sin60 (th : Nat) : Int :=
  let x : Int := (th % 2 ^ 62 * halfPi60 / 2 ^ 62 : Nat)
  let z := x * x / 2 ^ 60
  let q := th / 2 ^ 62 % 4
  let v := if q % 2 = 0 then trigSeries z 12 x 2 else trigSeries z 12 (2 ^ 60) 1
  if q < 2 then v else -v

/-- A value within 2^-22 of v (60 fraction bits): the guess where it is one, else v rounded (Table 03.1). -/
def near60 (guess : F32) (v : Int) : F32 :=
  if fFinite guess && fExp guess != 0 && decide ((fToInt guess 60 (-(2 ^ 70)) (2 ^ 70) - v).natAbs ≤ 2 ^ 38) then guess
  else fOfIntExp v (-60)

/-- sin of an unsigned 64-bit fraction of a turn: free within the error of Table 03.1. -/
def sinT (th : Nat) : F32 := near60 (Config.sinTurn th) (sin60 th)

/-- cos of an unsigned 64-bit fraction of a turn: free within the error of Table 03.1. -/
def cosT (th : Nat) : F32 := near60 (Config.cosTurn th) (sin60 (th + 2 ^ 62))

/-- Arctangent series from the power p = ±z^k. -/
def atanSeries (z2 : Int) : Nat → Int → Nat → Int
  | 0, p, k => p / k
  | n + 1, p, k => p / k + atanSeries z2 n (-(p * z2 / 2 ^ 60)) (k + 2)

/-- atan of a / b in radians with 60 fraction bits, 0 ≤ a ≤ b, 0 < b; above 1/2 through π/4 + atan ((a - b) / (a + b)). -/
def atan60 (a b : Nat) : Int :=
  let s (z : Int) : Int := atanSeries (z * z / 2 ^ 60) 30 z 1
  if 2 * a ≤ b then s ((a * 2 ^ 60 / b : Nat) : Int) else (halfPi60 / 2 : Nat) - s (((b - a) * 2 ^ 60 / (a + b) : Nat) : Int)

/-- The angle of the vector (x, y) in turns, -0.5 to 0.5, rounded to FP32; a vector without an angle gives a free value. -/
def vecAngle (x y : F32) : F32 :=
  if !fFinite x || !fFinite y || (fIsZero x && fIsZero y) then Config.angleTurn x y
  else
    let a := fDec x
    let b := fDec y
    let e := min a.exp b.exp
    let ax := a.man * 2 ^ (a.exp - e).toNat
    let ay := b.man * 2 ^ (b.exp - e).toNat
    let r : Int := if ay ≤ ax then atan60 ay ax else halfPi60 - atan60 ax ay
    let q : Int := if a.neg && a.man != 0 then 2 * halfPi60 - r else r
    -- radians to turns: divide by 2 pi
    let v := q * 2 ^ 60 / (4 * halfPi60)
    fOfIntExp (if b.neg then -v else v) (-60)

end Sys2Proof.Machine
end

