-- ==== Sys2Proof/Machine/State.lean ====
section
/-!
DEFINITION. The state of the block: every register, store, buffer, queue, counter, mode and pin the manual names, as plain
data, and the queue of waiting commands. Registers of the Direct Register Window stand in one register file (`regs`);
what the manual names beside its registers stands in one structure for each chapter.
-/
namespace Sys2Proof.Machine

/-- Why the machine stops. -/
inductive Fault where
  /-- An operand names a unit the block does not have. No meaning answers with it: operands are typed by the number of
  units (R14), so it cannot arise; safe. -/
  | noSuchUnit
  deriving DecidableEq, Repr

/-- Why a command has no meaning. -/
inductive Refusal where
  /-- The command of the named row has no meaning yet. Raised by an arm of `exec` only; safe. -/
  | notModelled (mnemonic : String)
  deriving DecidableEq, Repr

/-! ### Control Law Engine (03) -/

/-- What a context does in its port's family (R53, R85, R100, R550); `host` for a context the host configures. -/
inductive Role where
  | host
  | pll
  | pq
  | droop
  | rotor
  | angle
  | vz
  | vloop
  | cloop
  /-- Modulation of legs first to first + n - 1 of the port, in LEGS order. -/
  | mod (first : Nat)
  /-- Envelope of current sensors first to first + n - 1, in sensor order. -/
  | env (first : Nat)
  /-- Outer loop of a DC port. -/
  | dcOuter
  /-- Current loop of leg i of a DC port. -/
  | dcLeg (i : Nat)
  deriving DecidableEq, Repr, Inhabited

/-- What a context holds beside its 256 bytes of context RAM. -/
structure CtxSt where
  /-- Its place in a port's family (R550). -/
  role : Role := .host
  /-- Executions counted towards the N_hist of each state group while it is cold (R113). -/
  hist : List Nat := [0, 0, 0, 0]
  /-- State groups that carry HIST_COLD. -/
  cold : List Bool := [false, false, false, false]
  /-- The period-end latch carries INQ (R97, R98). -/
  latchInq : Bool := false
  /-- Bits 30:27 of RES_STAT as the period-end latch holds them (R441). -/
  latchStat : Nat := 0
  /-- Period-end latch of the 64-bit angle (R98). -/
  latchAngle : Nat := 0
  /-- Released and not yet completed (R117). -/
  due : Bool := false
  /-- Executions of the context, counted for trace decimation (R121). -/
  execs : Nat := 0
  /-- The following error of the last computation exceeded FE_LIMIT, and |e| itself. -/
  feErr : Word := 0
  deriving DecidableEq, Repr, Inhabited

/-- A set of staged PWM writes committed together (R203): one per port, unit 12 for the CLE's PERIOD, unit 13 for a manual commit
(R205). -/
structure Bundle where
  /-- Port 0 to 11, or 12 or 13. -/
  unit : Nat
  /-- RG0 period number in which its computation started. -/
  stamp : Nat
  /-- (leg, W in fine steps). -/
  ws : List (Nat × Nat)
  /-- (AIN, upper code, lower code). -/
  env : List (Nat × Nat × Nat)
  /-- New PERIOD. -/
  period : Option Nat
  /-- It completed after its deadline (R204). -/
  late : Bool
  /-- Its edges go to Gate Link frames. -/
  gl : Bool
  /-- Its envelope was computed by R72, not the static ceiling (R77). -/
  comp : Bool := false
  /-- Average leg voltages it applies, V (R72). -/
  us : List Word := []
  deriving DecidableEq, Repr, Inhabited

/-- The Control Law Engine (03). -/
structure CleSt where
  /-- Context RAM: word w of context i at key 64 i + w (R94). -/
  ram : Memory Word := []
  /-- Context RAM as it stood just before the last boundary (Q_CTX, Table 14.7). -/
  ramPrev : Memory Word := []
  /-- The 63 contexts. -/
  ctx : Vector CtxSt 63 := Vector.replicate 63 {}
  /-- The schedule is halted by a context RAM parity error (R124). -/
  halted : Bool := false
  /-- The CLE is halted by debug (R523). -/
  dbgHalted : Bool := false
  /-- Rate groups whose released instance has not completed. -/
  rgDue : Vector Bool 4 := Vector.replicate 4 false
  /-- Rate groups whose release fell due while the last instance still ran (R107). -/
  rgSkip : Vector Bool 4 := Vector.replicate 4 false
  /-- An RG1 instance completed in the RG1 period that ended last, so a mirror record is due (R31, R107). -/
  rg1Done : Bool := false
  /-- Period number of the boundary that ended the RG1 period whose instance still ran there: its record is built when that work
  completes (R31, R107). -/
  rg1Late : Option Nat := none
  /-- Divisors N1, N2, N3 (R104). -/
  div : List Nat := [1, 10, 100, 1000]
  /-- T of each rate group in fine steps, as it stood at the group's last release (R108). -/
  rgT : List Nat := [400000, 4000000, 40000000, 400000000]
  /-- Reported period number and instant of each rate group's last release, for the sample instants of traces (R121). -/
  rgAt : List (Nat × Nat) := [(0, 0), (0, 0), (0, 0), (0, 0)]
  /-- Divisors commanded and not yet in force. -/
  divNew : Option (List Nat) := none
  /-- A PERIOD commanded through Fencen that the CLE has not yet committed into a bundle (R196). -/
  periodNew : Option Nat := none
  /-- Ports that missed their deadline in the current period, bit p (R30). -/
  missed : Nat := 0
  /-- Consecutive RG0 periods with a miss. -/
  missRun : Nat := 0
  /-- The phases of R27 already run in the current period. -/
  phases : List Bool := [false, false]
  deriving DecidableEq, Repr, Inhabited

/-! ### Coefficient memory (03) -/

/-- The double-banked coefficient memory and what the scrubber knows of every tiled store (R109 to R112, R498). -/
structure CoefSt where
  /-- Banks A and B, keyed by word index 0 to 16 383. -/
  bank : Vector (Memory Word) 2 := Vector.replicate 2 []
  /-- Tile directories of banks A and B: CRC-32C of tile t at key t. -/
  dir : Vector (Memory Word) 2 := Vector.replicate 2 []
  /-- Verification marks of banks A and B (R109). -/
  verified : Vector Bool 2 := Vector.replicate 2 false
  /-- Instant at which the incoming bank passed verification, while a swap awaits its boundary. -/
  swapAt : Option Nat := none
  /-- Tiles whose content differs from what was written: (store code of EV_TILE_CRC, tile) (R498, R521). -/
  badTiles : List (Nat × Nat) := []
  /-- Tiles the scrubber has found in error and Fencen has not yet rewritten (R498). -/
  found : List (Nat × Nat) := []
  deriving DecidableEq, Repr, Inhabited

/-- One trace channel beside its registers (R121 to R123). -/
structure TraceCh where
  /-- Samples kept, oldest first; at most 16 384. -/
  buf : List Word := []
  /-- The last sample since arming, kept or not (R122). -/
  last : Option Word := none
  /-- Executions of the traced context since the last sample fell due. -/
  skip : Nat := 0
  /-- Samples dropped from the front since arming, in ring mode or before the trigger. -/
  dropped : Nat := 0
  /-- Index of the trigger among the samples since arming. -/
  trigAt : Option Nat := none
  /-- RG0 period number and TB1 time (units of 2^-16 ns) of the first sample since arming. -/
  pnum0 : Nat := 0
  time0 : Nat := 0
  /-- Sample interval in RG0 periods, and in units of 2^-16 ns. -/
  stepP : Nat := 1
  stepT : Nat := 0
  /-- Stopped by the host with its samples kept. -/
  stopped : Bool := false
  /-- The copy into LPDDR is in progress, and its content once made (R123). -/
  copying : Bool := false
  copy : Option (List Word) := none
  /-- The copy's header: number and time of its first sample, trigger index, interval. -/
  copyP : Nat := 0
  copyT : Nat := 0
  copyTrig : Nat := 0
  deriving DecidableEq, Repr, Inhabited

/-! ### Ports (02) -/

/-- A condition of Table 02.4 that has arisen and is resolved at the next RG0 boundary (R61, R63). -/
inductive PortCond where
  | trip
  | crossfire
  | gdFault
  | sgr
  | srsDemand
  | feDemand
  | envRun
  | closeExpiry
  | presyncExpiry
  | rampDone
  | srsRampDone
  | stopRampDone
  | trackLow
  | trackHigh
  | dcRange
  | bkrSeen
  | presyncOk
  | curlimDone
  deriving DecidableEq, Repr, Inhabited

/-- The configuration of a port as its PORT record gives it (R47 to R51, Table 14.3). -/
structure PortCfg where
  /-- A PORT record is committed for the port. -/
  configured : Bool := false
  /-- TOPOLOGY. -/
  topology : Nat := 0
  /-- k of parallel bridges or n of DC legs. -/
  count : Nat := 0
  /-- BASE topology of parallel bridges. -/
  base : Nat := 0
  /-- FLAGS. -/
  flags : Nat := 0
  /-- Extra resonators. -/
  nres : Nat := 0
  /-- COEF_BASE. -/
  coefBase : Nat := 0
  /-- Legs in LEGS order. -/
  legs : List Nat := []
  /-- Sensor binding words in sensor order. -/
  sensors : List Word := []
  /-- Family contexts: (role, context ID) in schedule order. -/
  members : List (Role × Nat) := []
  deriving DecidableEq, Repr, Inhabited

/-- What a port holds beside PORT_STATUS and PORT_ENV (02). -/
structure PortSt where
  cfg : PortCfg := {}
  /-- Conditions that have arisen since the last boundary. -/
  conds : List PortCond := []
  /-- P_set, Q_set, omega_set, V_set: targets (FP32, pu), or REF, I_CHG_MAX, I_DIS_MAX of a DC port in pu. -/
  target : List Word := [0, 0, 0, 0]
  /-- The slewed values. -/
  slewed : List Word := [0, 0, 0, 0]
  /-- Slew rates of P_set and Q_set, of omega_set and of V_set, in pu/s. -/
  slew : List Word := [0x3F800000, 0x3C23D70A, 0x3DCCCCCD]
  /-- omega_set' of R83. -/
  wPrime : Word := 0x3F800000
  /-- V_dc window of a DC port: VDC_LO and VDC_HI in V, once set (R85). -/
  window : Option (Word × Word) := none
  /-- Legs switch (Table 02.3; in BLACKSTART only after BKR_FB = 1, R65). -/
  switching : Bool := false
  /-- RG0 periods since switching started. -/
  swPeriods : Nat := 0
  /-- The rotor is slaved to the bus (R70). -/
  slaved : Bool := false
  /-- Start time t_s of a START in fine steps of TB0 nanoseconds, if it is honoured (R68): TB0 nanoseconds. -/
  tStart : Option Nat := none
  /-- Bumpless offsets Delta P_b and Delta V_b at closure, and RG0 periods since (R71). -/
  dP0 : Word := 0
  dV0 : Word := 0
  bumpPeriods : Nat := 0
  /-- RG0 periods since the start of the EMF ramp, while it runs (R65). -/
  rampPeriods : Option Nat := none
  /-- BKR_FB as the HLP last gave it; the port takes it at the next boundary (R341). -/
  hlpBkr : Bool := false
  /-- The last black start used time assistance (Table 02.6). -/
  bsAssist : Bool := false
  /-- RG0 periods of the running pull window (R83). -/
  pull : Option Nat := none
  /-- RG0 periods in CURLIM, and of the impedance return ramp while it runs (R79). -/
  clPeriods : Nat := 0
  clRamp : Option Nat := none
  /-- RAMPDOWN: RG0 periods so far, the ramp time in fine steps, and whether the Steward demanded it (R310). -/
  rdPeriods : Nat := 0
  rdTotal : Nat := 0
  rdSrs : Bool := false
  /-- Abort code the SRS ramp ends with (R87). -/
  rdCode : Nat := 8
  /-- s(t) of R310, FP32. -/
  scale : Word := 0x3F800000
  /-- A crossing on a sensor of the port in the current period (R77). -/
  hit : Bool := false
  /-- The envelope of the current period was computed, not carried over (R77). -/
  counted : Bool := false
  /-- EV_ENV_PERSIST was posted for the current run (R77). -/
  persistPosted : Bool := false
  /-- RG0 periods for which the bus voltage has stayed below V_dead (R62). -/
  deadPeriods : Nat := 0
  /-- Pre-sync window: least and greatest omega_pll and RG0 periods in it (R69). -/
  wLow : Word := 0x7F7FFFFF
  wHigh : Word := 0
  winPeriods : Nat := 0
  /-- Angles between capacitor and bus voltage, turns, newest first, over one cycle at f_n (R70). -/
  angles : List Word := []
  /-- Average leg voltages applied in this period and computed for the next, V (R72). -/
  uNow : List Word := []
  uNext : List Word := []
  /-- Duties computed for the next period. -/
  duty : List Word := []
  /-- Bus amplitudes the PLL has measured over the pre-sync window, summed (R64). -/
  wAmp : Word := 0
  /-- RG0 periods for which the capacitor voltage has stayed below and above the band of E_bs (R67). -/
  trkLow : Nat := 0
  trkHigh : Nat := 0
  /-- RG0 periods in CURLIM without a hit and with |i*| below 0.9 I_lim (R79). -/
  quiet : Nat := 0
  /-- The envelope of the period that begins at the Gate Link port's own reload was computed (R75, R77, R250). -/
  countedNext : Bool := false
  /-- Neutral-point integrator, and balancing integrators by 3 bridge + phase (R64). -/
  np : Word := 0
  bal : List Word := []
  /-- Magnitude of i* of the last computation, pu (R79). -/
  iStar : Word := 0
  /-- Host port commands accepted by a row and waiting for the boundary: their tags (R402). -/
  waits : List Nat := []
  deriving DecidableEq, Repr, Inhabited

/-- An AC port after reset and at the commit that creates it: P_set = Q_set = 0, omega_set = V_set = 1 pu (R60). -/
def acPort : PortSt := { target := [0, 0, 0x3F800000, 0x3F800000], slewed := [0, 0, 0x3F800000, 0x3F800000] }
/-! ### Observer and governor (04) -/

/-- What the observer records at one RG0 sample instant (R131). -/
structure ObsSample where
  /-- The injection chip value r. -/
  chip : Bool
  /-- v_cd. -/
  v : Word
  /-- i_od. -/
  i : Word
  /-- The period carried ILIM_ACT or an envelope crossing on the port (R134). -/
  bad : Bool
  /-- Instant of the period's boundary, in fine steps. -/
  tk : Nat
  deriving DecidableEq, Repr, Inhabited

/-- One observer and governor (R125). -/
structure ObsSt where
  /-- The 15-bit LFSR. -/
  lfsr : Nat := 1
  /-- RG0 periods of the chip in progress. -/
  chip : Nat := 0
  /-- Instant of the boundary at which injection started, in fine steps (R133, R134). -/
  started : Nat := 0
  /-- Samples of the last 400 ms, newest first (R131). -/
  samples : List ObsSample := []
  /-- The published set: Re, Im and coherence of each bin, and whether it was valid (R132, R133). -/
  bins : List (Word × Word × Word × Bool) := []
  /-- UPD_SEQ of the published set (Table 04.5). -/
  setSeq : Nat := 0
  /-- A valid estimate has been published since injection started. -/
  seenValid : Bool := false
  /-- The last valid update had LOWZETA set (R144). -/
  lastLow : Bool := false
  /-- Values of D, R_v, X_v at the start of the running ramp and its targets (R139). -/
  from0 : List Word := [0, 0, 0]
  target : List Word := [0, 0, 0]
  /-- The running ramp: the instants, in fine steps, at which it is at `from0` and at which it reaches its targets (R139). -/
  ramp : Option (Nat × Nat) := none
  /-- A ramp to the nominal values is owed: CURLIM cut it or kept it from starting (R142, R145). -/
  owed : Bool := false
  /-- A crossing on a sensor of the port since the last RG0 boundary (R134). -/
  crossed : Bool := false
  /-- OBS_AMP, OBS_DIV, OBS_SEED, OBS_COH as injection last used them (R134). -/
  params : List Word := []
  deriving DecidableEq, Repr, Inhabited

/-! ### SAR conversion (05) -/

/-- A running conversion of a core: what it converts and what its hold edge captured (R152). -/
structure Conv where
  /-- 0 first input, 1 second, 2 internal. -/
  input : Nat
  /-- Internal channel. -/
  int : Nat
  /-- AIN_LAST.SRC: 0 sequence, 1 urgent, 2 free-running. -/
  src : Nat
  /-- A CLE entry: it writes AIN_SAMP. -/
  cle : Bool
  /-- The code by R148. -/
  code : Int
  ovr : Bool
  /-- It carries the Walk start-up delay (R155). -/
  startup : Bool
  /-- RG0 period number of the hold edge, and its offset from the boundary in fine steps. -/
  pnum : Nat
  ofs : Nat := 0
  /-- Instant at which the result is delivered, t_conv after the hold edge (R152). -/
  ends : Nat := 0
  deriving DecidableEq, Repr, Inhabited

/-- An accepted urgent request that waits for its hold edge. -/
structure Urgent where
  /-- ADC_URG.INPUT and INT as requested (R162). -/
  input : Nat
  int : Nat
  /-- Its source in the order of R164: 0 PWM event, 1 HLP, 2 host. -/
  src : Nat
  /-- t_r, the ADC clock edge that recognises it (R162). -/
  tr : Nat
  deriving DecidableEq, Repr, Inhabited

/-- A SAR core. -/
structure CoreSt where
  conv : Option Conv := none
  /-- The accepted urgent request. -/
  urg : Option Urgent := none
  deriving DecidableEq, Repr, Inhabited

/-- The SAR cores C0 to C23 (05). -/
structure AdcSt where
  cores : Vector CoreSt 24 := Vector.replicate 24 {}
  /-- Hold-edge offset from t_k of the conversion in AIN_SAMP n, in fine steps; internal channels from key 48. -/
  ofs : Memory Nat := []
  /-- V_diff of input n in nV as it was last told; 0 V before (R171). -/
  vin : Memory Int := []
  /-- Inputs whose CMP_STATIC has been written since the last boundary (R172, R174). -/
  statics : List Nat := []
  /-- Inputs whose comparators have taken a new threshold in this clock and are to be evaluated afresh (R171). -/
  reeval : List Nat := []
  deriving DecidableEq, Repr, Inhabited

/-! ### Sigma-delta inputs (06) -/

/-- One sigma-delta input's chain. -/
structure SdIn where
  /-- Decimated outputs since the restart, newest first, at most 40: numerators y_n * M^N. -/
  outs : List Int := []
  /-- Outputs since the restart. -/
  n : Nat := 0
  /-- Index e of the latest event (R190): 0 for a restart, d for a step at output d. -/
  e : Nat := 0
  /-- The last N(M-1) bits before the newest block, newest first (R180). -/
  bits : List Bool := []
  /-- Longest run of identical bits among those each output is formed from, as `outs` (R180, R192). -/
  runs : List Nat := []
  /-- Instants of the closing edges of those outputs, fine steps, as `outs`. -/
  close : List Nat := []
  /-- t_0 of the latest restart, in fine steps (R188). -/
  t0 : Option Nat := none
  deriving DecidableEq, Repr, Inhabited

/-- The sigma-delta chain (06). -/
structure SdSt where
  /-- Coefficient tiles of the profiles: tap j of phase p is word 16 p + j; empty before a commit puts one to use (R184). -/
  tiles : Vector (List Word) 4 := Vector.replicate 4 []
  /-- CRC-32C of each tile in the directory (R184). -/
  dirs : Vector Word 4 := Vector.replicate 4 0#32
  /-- Instant at which the clock divider of each driven group last restarted (R188). -/
  divAt : Vector Nat 8 := Vector.replicate 8 0
  /-- The 32 inputs (R175). -/
  inp : Vector SdIn 32 := Vector.replicate 32 {}
  /-- Profiles whose coefficient tile is in error and not yet rewritten, bit p (R185). -/
  badProf : Nat := 0
  deriving DecidableEq, Repr, Inhabited

/-! ### PWM generator (07) -/

/-- A channel's program for a period: level at its start and at most two (instant, level) edges, in fine steps. -/
structure Program where
  start : Bool := false
  edges : List (Nat × Bool) := []
  deriving DecidableEq, Repr, Inhabited

/-- What a leg holds beside its registers. -/
structure LegSt where
  /-- W of the newest applied bundle, in fine steps. -/
  w : Nat := 0
  /-- Programs of the period in progress, top and bottom, after stage 7. -/
  top : Program := {}
  bot : Program := {}
  /-- It is driven and not latched off in the period: a truncated channel's partner turns on (R74). -/
  run : Bool := false
  /-- Levels at stage 8 now. -/
  topOn : Bool := false
  botOn : Bool := false
  /-- Instants, in fine steps, of the last turn-off of each channel; none before the first. -/
  topOff : Option Nat := none
  botOff : Option Nat := none
  /-- The instant since which the bottom has been on without a break. -/
  botSince : Nat := 0
  /-- Instant at which the period of its programs starts: t_k, or t_k + L_port on a leg of a Gate Link port (R225, R250). -/
  at0 : Nat := 0
  /-- The programs' edges have been taken up to this many fine steps into the period. -/
  done : Nat := 0
  /-- Periods since the last bootstrap refresh (R218). -/
  refCount : Nat := 0
  /-- The period in progress is forced; a refresh has been credited in it. -/
  forced : Bool := false
  refreshed : Bool := false
  /-- Edges of the two channels that their skew has moved past the end of the period (R200). -/
  spillTop : List (Nat × Bool) := []
  spillBot : List (Nat × Bool) := []
  /-- Truncation latches of the period: top and bottom (R74). -/
  truncTop : Bool := false
  truncBot : Bool := false
  /-- Instant of the truncation. -/
  truncAt : Option Nat := none
  /-- Levels of the channels as their delivered edges have shown them (R225). -/
  seenTop : Bool := false
  seenBot : Bool := false
  /-- The leg switches under manual access (R205). -/
  manual : Bool := false
  /-- Prescaler count of the event generator (R231). -/
  presc : Nat := 0
  /-- Event input of the HLP latched since its last input phase (R231, Table 11.2). -/
  evLatch : Bool := false
  /-- The TRIPPED latch of its group has been cleared, and the leg waits for the next reload (R227). -/
  relPend : Bool := false
  deriving DecidableEq, Repr, Inhabited

/-- The PWM generator (07). -/
structure PwmSt where
  /-- PWM_PNUM, 64 bits. -/
  pnum : Nat := 0
  /-- RG0 boundaries passed since the device's release. -/
  bnd : Nat := 0
  /-- One of them since the block's own release, so that PWM_PNUM counts on. -/
  ran : Bool := false
  /-- Instant of the last RG0 boundary, fine steps. -/
  tk : Nat := 0
  /-- The timebase starts anew at the next boundary: the first after the block's release or after a wake (R195, R475). -/
  first : Bool := true
  /-- Complete bundles not yet applied, oldest first. -/
  bundles : List Bundle := []
  /-- Bundles held back with their PERIOD (R208). -/
  held : List Bundle := []
  /-- Envelope codes of Gate Link ports that wait for t_k + L_port: (port, AIN, upper, lower) (R34, R250). -/
  envNext : List (Nat × Nat × Nat × Nat) := []
  /-- L0 to L47. -/
  legs : Vector LegSt 48 := Vector.replicate 48 {}
  /-- Trip pins at their active level, bit p. -/
  pins : Nat := 0
  /-- Trip pins with the instant at which each last became active: latched until the PWM clocks that capture them have passed (R224). -/
  caught : List (Nat × Nat) := []
  /-- Blanking windows open, bit w (R225). -/
  blank : Nat := 0
  /-- Active unmasked sources of each trip group, in the order in which they became active (R227). -/
  srcs : Vector (List Nat) 8 := Vector.replicate 8 []
  /-- Consecutive calibration measurements within and outside one code of equality (R198). -/
  calIn : Nat := 0
  calOut : Nat := 0
  /-- LOCK has been set since the PWM block's release (R200). -/
  everLocked : Bool := false
  /-- Direct pins as EXTEST drives them, while it does: bits GC0-GC47 (R522). -/
  extest : Option Nat := none
  /-- Instant of the first carrier event routed to the capture engine since the last boundary (R231, R446). -/
  capTrig : Option Nat := none
  /-- Legs whose LEG_CMP, and whether PWM_PERIOD_SH, has been written since the last manual commit (R203, R205). -/
  manSet : List Nat := []
  manPeriod : Bool := false
  /-- The PERIOD change commanded last took effect with PDSKEW (R196). -/
  skew : Bool := false
  /-- Instant at which a debug halt of the CLE froze the generator or its clock stopped (R232, R233). -/
  frozenAt : Option Nat := none
  deriving DecidableEq, Repr, Inhabited

/-! ### Serial lanes and the Gate Link (08) -/

/-- A HALT ordered set of a lane: its bytes C0, C1, TAG and CHK (R251). -/
structure Halt where
  lane : Nat
  bytes : List Byte
  deriving DecidableEq, Repr, Inhabited

/-- A HALT on its way out of a lane (R254). -/
structure HaltTx where
  /-- Instant at which its first symbol starts to leave. -/
  start : Nat
  /-- PWM clock of its last request. -/
  clk : Nat
  /-- Its TAG (R251). -/
  tag : Nat
  /-- Codes of slots 0 to 7, two bits each: 1 top, 2 bottom, 3 both channels off. -/
  codes : Nat
  deriving DecidableEq, Repr, Inhabited

/-- A serial lane beside its registers (08). -/
structure LaneSt where
  /-- SEQ of the next PING, and of the PING whose ECHO is awaited (R257). -/
  pingSeq : Nat := 0
  pingOut : Option Nat := none
  /-- The last valid round-trip times in fine steps, newest first, at most 64 (R258). -/
  rtts : List Nat := []
  /-- Valid ECHOs since the lane entered MEASURE. -/
  echoes : Nat := 0
  /-- Value last written to each parameter, and value last echoed, by address (R260, R261). -/
  written : List (Nat × Nat) := []
  echoed : List (Nat × Nat) := []
  /-- A DELTA has been written and waits for a frame with APPLY = 1 (R259, R260). -/
  apply : Bool := false
  /-- L_ACT has followed L_MEAS at an RG0 boundary since the lane went UP (R259). -/
  settled : Bool := false
  /-- A valid status frame has arrived since the last RG0 boundary; RG0 periods without one. -/
  fresh : Bool := false
  missing : Nat := 0
  /-- The last valid status frame: no slot had FAULT or LINK_LOSS; GDEN level. -/
  clean : Bool := false
  gden : Bool := false
  /-- The lane is wired to port B of its driver, as the last valid status frame said (R261). -/
  portB : Bool := false
  /-- The frame being sent: HALT ordered sets inserted into it, and the instant at which it ends (R254). -/
  inFrame : Option (Nat × Nat) := none
  /-- The HALT being sent, and the one that follows it (R254). -/
  halt : Option HaltTx := none
  haltQ : Option HaltTx := none
  /-- The PING or PARAM being sent: the instant at which it ends, and the parameter's address; none for a PING (R254). -/
  sending : Option (Nat × Option Nat) := none
  /-- The last PARAM sent: ADDR, VL, VH, CHK (R260). -/
  param : List Byte := []
  /-- Addresses whose value has changed since it was written, or whose PARAM was cut off: they are written again (R254, R260). -/
  due : List Nat := []
  /-- The last frame sent: its 109 bytes. -/
  frame : List Byte := []
  /-- Consecutive samples of the GDEN pin that differ from its driven level (R265). -/
  rbBad : Nat := 0
  /-- A gate-driver clear: GDEN is being held low (1), or the clean status frame is awaited (2) (R264). -/
  clear : Nat := 0
  deriving DecidableEq, Repr, Inhabited

/-- The lanes beside their registers (08). -/
structure GlSt where
  /-- SL0 to SL7. -/
  lanes : Vector LaneSt 8 := Vector.replicate 8 {}
  /-- HALT ordered sets requested in the period in progress, oldest first. -/
  halts : List Halt := []
  /-- Consecutive commas at offset 0 on each lane (R240). -/
  commas : Vector Nat 8 := Vector.replicate 8 0
  deriving DecidableEq, Repr, Inhabited

/-! ### Redundant pair (09) -/

/-- A change that takes effect on both units at one pair period number (R281). -/
structure PairSched where
  /-- The pair period number. -/
  n : Nat
  /-- 0 rate and divisors, 1 coefficient swap, 2 gate-driver clear, 3 end of a gate-driver clear. -/
  kind : Nat
  /-- PERIOD and the divisors of a rate change. -/
  period : Option Nat
  div : Option (List Nat)
  /-- Lanes of a gate-driver clear. -/
  lanes : Nat := 0
  deriving DecidableEq, Repr, Inhabited

/-- The pair logic beside its registers (09). -/
structure PairSt where
  /-- Pair period number minus PWM_PNUM, on a paired unit (R284). -/
  off : Int := 0
  /-- ACT_OUT has fallen since the last boundary, where the pair state follows (Table 09.3). -/
  actFall : Bool := false
  /-- Changes that wait for their pair period number (R281). -/
  sched : List PairSched := []
  /-- A scheduled coefficient swap failed verification on this unit (NR_CFG, R281). -/
  swapFail : Bool := false
  /-- Instant since which PARTNER_ACT has counted as low without a break, in fine steps; none while it counts as high (R272). -/
  lowSince : Option Nat := some 0
  /-- Instant at which ACT_OUT last rose. -/
  roseAt : Option Nat := none
  /-- ACT_OUT is to rise at the next boundary that R272 allows: host activation or ARM of a Gate Link port (R273), takeover (R292). -/
  wantAct : Bool := false
  takeDue : Bool := false
  /-- R282 holds the GDEN commands of a standby low. -/
  gdenDrop : Bool := false
  /-- A planned handover: pair period n (R295), on the unit that releases and on the one that takes over. -/
  handover : Option Nat := none
  /-- PNUM_OFS has been fixed from a mirror header (R284). -/
  offFixed : Bool := false
  /-- What the partner's last status block or record said: gait, CFG_DIGEST; RG0 boundaries passed when the last status
  block arrived. -/
  peerGait : Nat := 0
  peerDigest : Word := 0
  peerAt : Option Nat := none
  /-- Mirror lanes SL6 and SL7: RG0 boundaries passed at the last verified block; the HELLO check failed. -/
  blockAt : List Nat := [0, 0]
  helloBad : List Bool := [false, false]
  /-- The HELLO block last sent on each mirror lane (R286). -/
  sentHello : List (Option Hello) := [none, none]
  /-- UNIT_ID of the partner, as its HELLO gave it (R269), and RETAIN_ID of its retained variables (NR_HLP). -/
  peerId : Option Nat := none
  peerRetain : Option Nat := none
  /-- Credits the active unit holds (R288). -/
  credits : Nat := 32
  /-- Blocks of the record being received: 16-bit period number, block count, and the blocks verified. -/
  rxNum : Nat := 0
  rxCount : Nat := 0
  rxBlocks : List (Nat × List Byte) := []
  /-- A record has verified and waits for the next boundary (R291): its 16-bit number and block count. -/
  rxDone : Option (Nat × Nat) := none
  /-- RG0 boundaries passed when that record verified: it is applied once another has passed (R31). -/
  rxAt : Nat := 0
  /-- PWM_PNUM of the own boundary nearest to the active unit's that block 0 of the newest record follows, and the instant of the active unit's
  (R284, R285). -/
  rx0 : Option Nat := none
  rx0At : Int := 0
  /-- Skew of the own boundary still to be removed, in fine steps (R285). -/
  skewLeft : Int := 0
  /-- Pair period number of the boundary that ended the last RG1 period, while its record is due (R31). -/
  recDue : Option Nat := none
  /-- Credits to return while no mirror lane can carry them: buffer slots freed. -/
  freed : Nat := 0
  /-- CREDIT ordered sets sent in the period in progress, oldest first: lane, and N with its complement (R287, R288). -/
  sentCredits : List (Nat × List Byte) := []
  /-- RG0 boundaries passed when the last record was applied. -/
  appliedAt : Option Nat := none
  /-- The last record and the last status block sent. -/
  sentRec : Option MirrorRecord := none
  sentStatus : Option PeerStatus := none
  /-- Their blocks, after SOF: 136 bytes each (R287). -/
  sentBlocks : List (List Byte) := []
  sentStatusBlock : List Byte := []
  /-- No status block has left in the RG1 period in progress (R287). -/
  statusDue : Bool := false
  /-- Active alarm codes as the last record gave them (R289). -/
  alarms : List Nat := []
  deriving DecidableEq, Repr, Inhabited

/-! ### Steward (10) -/

/-- A Safe Ramp Stop the Steward runs on one port (R310, R311). -/
structure SrsRec where
  port : Nat
  /-- Demanded by R80: the ramp ends with code CL_TIMEOUT. -/
  cl : Bool
  /-- V_mag in the period of the decision, V. -/
  v0 : Word
  deriving DecidableEq, Repr, Inhabited

/-- A receive connection of the Steward (R327 to R332). -/
structure PduRx where
  /-- Newest valid copy not yet matched on NET-A and NET-B: its 44 bytes. -/
  copyA : Option (List Byte) := none
  copyB : Option (List Byte) := none
  /-- SEQ and TSTAMP (in 2^-16 ns) of the last accepted pair. -/
  last : Option (Nat × Nat) := none
  /-- SAFE_DATA of the last accepted pair, 16 bytes. -/
  data : List Byte := []
  /-- A pair has been accepted since the last cause arose or ended (R317). -/
  since : Bool := false
  /-- Instant at which the last pair was accepted (R304). -/
  acc : Option Nat := none
  deriving DecidableEq, Repr, Inhabited

/-- A send connection of the Steward (R327, R332). -/
structure PduTx where
  /-- SEQ of the next PDU. -/
  seq : Nat := 0
  /-- The next PDU is the first after an arm or a reset (FLAGS bit 0). -/
  init : Bool := true
  /-- The two copies last built, NET-A and NET-B, and their launch time on TB1 in 2^-16 ns (R423). -/
  sentA : List Byte := []
  sentB : List Byte := []
  at1 : Option Nat := none
  deriving DecidableEq, Repr, Inhabited

/-- The Steward beside its registers (10). -/
structure StwSt where
  /-- SGR is held by the unit's own decision: both paths are removed and SGR_OUT is high (R313). -/
  sgr : Bool := false
  /-- The direct-pin gate is closed and GDEN held low by a local inhibit or FATAL (R316, R319). -/
  inhibit : Bool := false
  /-- Ports whose SRS runs. -/
  srs : List SrsRec := []
  /-- The state of each port and its ramp factor s(t) in the period that ended at the last boundary, as the Steward's own snapshot
  holds them (R21). -/
  view : List (Nat × Word) := []
  /-- Causes of Table 10.3 whose condition holds now. -/
  active : List Nat := []
  /-- The safety configuration tile in force and its staging copy, 4 KiB each, by byte offset (Table 14.14, R306). -/
  cfg : Memory Byte := []
  staged : Memory Byte := []
  /-- CRC-32C of the configuration tile, as its directory holds it; at reset that of 4 096 zero bytes. -/
  cfgCrc : Word := 0x98F94189#32
  /-- A tile has been committed: until then there is none to verify (R304, R335). -/
  cfgSet : Bool := false
  /-- SAF clock in which STW_CAUSE latched its first cause (R307). -/
  firstAt : Option Nat := none
  /-- Monitor channels outside their window, and those that fail their cross-check (R333). -/
  monOut : List Nat := []
  monBad : List Nat := []
  /-- Consecutive samples since the gates were removed at which every GDEN pin read low, at most 2 (R314). -/
  gdenLow : Nat := 0
  /-- Instant at which the SGR self-test last drove the GDEN pins high, which lasts 20 us (R304). -/
  test : Option Nat := none
  /-- Safety inputs that read low: SDIN0-SDIN3 are 0 to 3, DI0-DI15 are 4 to 19. -/
  low : List Nat := []
  /-- SDIN pairs in demand (0, 1), and pairs held by a discrepancy until reset: SDIN pairs 0 and 1, DI pair m as 2 + m. -/
  dem : List Nat := []
  disc : List Nat := []
  /-- DI pairs of which one channel has returned high, with the instant (R324). -/
  diRet : List (Nat × Nat) := []
  /-- Safety inputs that have completed a full test-pulse cycle without a fault, and those whose last test failed (R323). -/
  tested : List Nat := []
  faulty : List Nat := []
  /-- The TP output whose test pulse runs. -/
  slot : Option Nat := none
  /-- Safety PDU connections (R327). -/
  rx : Vector PduRx 4 := Vector.replicate 4 {}
  tx : Vector PduTx 2 := Vector.replicate 2 {}
  deriving DecidableEq, Repr, Inhabited

/-! ### Harness Logic Processor and remote I/O (11) -/

/-- One buffer of the retained store (R352). -/
structure RetBuf where
  /-- Bytes 0x0000 to 0x1FFF. -/
  area : Memory Byte
  /-- Number of the cycle it holds. -/
  cycle : Nat
  retainId : Nat
  /-- CRC-32C over all three. -/
  crc : Word
  deriving DecidableEq, Repr, Inhabited

/-- A program: tiles of 4 KiB with their directory (R345). -/
structure HlpProg where
  /-- Byte o of tile t at key 4096 t + o. -/
  bytes : Memory Byte := []
  /-- CRC-32C of tile t at key t. -/
  dir : Memory Word := []
  /-- Tiles. -/
  count : Nat := 0
  deriving DecidableEq, Repr, Inhabited

/-- A remote module (R356, R357). -/
structure RmodSt where
  /-- Lengths of the input and output blocks. -/
  inLen : Nat := 0
  outLen : Nat := 0
  /-- CAN identifier or peer IPv4 address, and UDP port. -/
  ident : Nat := 0
  udp : Nat := 0
  /-- Exchange period and timeout in ms. -/
  period : Nat := 0
  timeout : Nat := 0
  /-- A valid frame has been received, so RX_SEQ is the last SEQ. -/
  seen : Bool := false
  /-- The newest complete input block. -/
  input : List Byte := []
  /-- SEQ of the next output frame, and the last frame sent. -/
  seq : Nat := 0
  sent : List Byte := []
  deriving DecidableEq, Repr, Inhabited

/-- The HLP beside its registers (11). -/
structure HlpSt where
  /-- Accumulators, bit stack (top first) and instruction index. -/
  a : Bool := false
  w : Word := 0
  stack : List Bool := []
  pc : Nat := 0
  /-- A section is being executed: 0 COLD, 1 WARM, 2 CYCLIC. -/
  section_ : Option Nat := none
  /-- END of COLD or WARM has been reached (Table 11.7). -/
  initDone : Bool := false
  /-- A cycle is in progress: its output phase has not ended. -/
  busy : Bool := false
  /-- The cycle in progress has passed its deadline (R349); cycle starts it has skipped. -/
  overran : Bool := false
  skips : Nat := 0
  /-- V, I and Q by byte address (Table 11.1). -/
  mem : Memory Byte := []
  /-- Timer blocks executed since the last restart, and those whose input has fallen and not risen since (R343). -/
  seen : List Nat := []
  fell : List Nat := []
  /-- The program in use, the load buffer and Fencen's copy in NVM (R345, R346, R415). -/
  prog : HlpProg := {}
  buf : HlpProg := {}
  nvm : HlpProg := {}
  /-- Rewritten tiles that wait for the next cycle boundary (R346). -/
  fix : List Nat := []
  /-- The retained store on the AON supply (R352). -/
  store : Vector (Option RetBuf) 2 := Vector.replicate 2 none
  /-- The buffer of the store written first of the two: the next commit goes to it (R352). -/
  oldest : Nat := 0
  /-- TB1 at the start of the cycle in progress, in 2^-16 ns, and the microseconds since the start before it (R343). -/
  tStart : Option Nat := none
  dt : Nat := 0
  /-- The next cycle is the first after a cold (1) or warm (2) restart. -/
  first : Nat := 0
  /-- The previous cycle overran. -/
  ovrLast : Bool := false
  /-- GO_NORMAL of the last output phase (Table 11.3). -/
  go : Bool := false
  /-- DO command of the last output phase, and Q as it stood then (R341, R357). -/
  doCmd : Nat := 0
  qOut : Memory Byte := []
  /-- An output phase has completed, so remote output blocks are ready for sending. -/
  ready : Bool := false
  /-- Words of the input image that come from the snapshot of R21, keyed by image offset (Table 11.2). -/
  view : Memory Word := []
  /-- HLP binding table (R339): an unused entry is 0. -/
  binds : Vector Word 64 := Vector.replicate 64 0
  /-- Retained snapshot being sent over the mirror link: area, cycle number, next slice (R291, R353). -/
  snap : Memory Byte := []
  snapCycle : Nat := 0
  slice : Nat := 64
  /-- Slices received by a standby: (slice index, bytes), and the cycle number of their snapshot. -/
  got : List (Nat × List Byte) := []
  gotCycle : Nat := 0
  /-- A standby has applied a complete snapshot (NR_HLP). -/
  applied : Bool := false
  /-- Paddock has been entered: the HLP stops at its next cycle boundary (R351). -/
  padStop : Bool := false
  /-- The HLP watchdog asks for a Block reset of the HLP (R348). -/
  wdtReq : Bool := false
  /-- Halted by debug (R523). -/
  dbgHalted : Bool := false
  /-- RM0 to RM31. -/
  rmod : Vector RmodSt 32 := Vector.replicate 32 {}
  deriving DecidableEq, Repr, Inhabited

/-! ### Field bank (12) -/

/-- The field bank beside its registers (12). -/
structure FioSt where
  /-- Counters of DI0-DI15 (R361). -/
  cnt : Vector Nat 16 := Vector.replicate 16 0
  /-- The silence timer is held until the first refresh (R368). -/
  held : Bool := true
  /-- Safety output the Steward's off-pulse has off (R325, R363). -/
  pulse : Option Nat := none
  /-- Outputs that were on at the last switch, bit m, the instant at which each turned on, and those whose pin has been read since (R325). -/
  on : Nat := 0
  onAt : Vector Nat 8 := Vector.replicate 8 0
  read : Nat := 0
  deriving DecidableEq, Repr, Inhabited

/-! ### Events and the window (19) -/

/-- An event with its number and the content of its record (Table 19.9). -/
structure EvRec where
  /-- Number given at posting (R514). -/
  num : Nat
  /-- CODE. -/
  code : Nat
  /-- UNIT; 0xFF when none. -/
  unit : Nat
  /-- FLAGS: bit 0 ISLAND, bit 1 NOT_ACTIVE. -/
  flags : Nat
  /-- TB1 seconds, bits 31:0. -/
  sec : Nat
  /-- TB1 nanoseconds. -/
  ns : Nat
  /-- Bits 31:0 of the RG0 period number, or of the pair period number. -/
  pnum : Nat
  /-- The 8 DATA bytes as a little-endian number. -/
  data : Nat
  deriving DecidableEq, Repr, Inhabited

/-- The event queue and the event block (Table 01.10, R514). -/
structure EvqSt where
  /-- Events not yet drained, oldest first; at most 64. -/
  queue : List EvRec := []
  /-- The number the next event takes. -/
  next : Nat := 0
  /-- One more than the number of the newest event in the event block (EVB_NEXT). -/
  blockNext : Nat := 0
  /-- Codes of the events posted since the last RG0 boundary, with their instants (R122, R446). -/
  codes : List (Nat × Nat) := []
  /-- The 32 slots of the event block. -/
  slots : Vector (Option EvRec) 32 := Vector.replicate 32 none
  deriving DecidableEq, Repr, Inhabited

/-- What one access path to the window holds of its own (R502). -/
structure PathSt where
  /-- WSEL.CLASS. -/
  cls : Nat := 0
  /-- WSEL.INDEX. -/
  idx : Nat := 0
  /-- The result latch of RES0 to RES3 (R118). -/
  res : List Word := [0, 0, 0, 0]
  /-- The snapshot view, keyed by byte offset in the window (R512). -/
  view : Memory Word := []
  /-- Latched PWM_PNUM bits 63:32. -/
  pnumHi : Word := 0
  /-- Latched TB_SEC_LO, TB_SEC_HI and TB_FRAC. -/
  secLo : Word := 0
  secHi : Word := 0
  frac : Word := 0
  /-- Latched REC_NEXT_HI and EVB_NEXT_HI. -/
  recHi : Word := 0
  evbHi : Word := 0
  /-- The words the last read returned, first word first. -/
  last : List Word := []
  deriving DecidableEq, Repr, Inhabited

/-- The Direct Register Window's own state (19, 13). -/
structure WinSt where
  /-- The quad-SPI path. -/
  qspi : PathSt := {}
  /-- The debug path. -/
  dbg : PathSt := {}
  /-- Fencen's own path, through which Q_REG reads. -/
  fen : PathSt := {}
  /-- The newest complete snapshot, keyed by byte offset (R512). -/
  snap : Memory Word := []
  /-- The snapshot taken at the last boundary and not yet complete. -/
  snapNew : Option (Memory Word) := none
  /-- What the newest complete snapshot holds of each port for Fencen, as Q_PORT returns it (R21, Table 14.7), and the same of the
  snapshot taken at the last boundary. -/
  ports : List (List Byte) := []
  portsNew : List (List Byte) := []
  /-- SNAP_SEQ: snapshots taken since the last Cold or System reset, modulo 2^32. -/
  snapSeq : Nat := 0
  /-- The bytes of the last quad-SPI READ or STATUS, as shifted out. -/
  shifted : List Byte := []
  /-- READY of R382. -/
  ready : Bool := false
  deriving DecidableEq, Repr, Inhabited

/-! ### Mailboxes and commands in flight (13, 14) -/

/-- A command between its admission and its completion (R373, Table 13.3). -/
structure Entry where
  /-- Mailbox 0 to 7 (Table 13.1). -/
  mb : Nat
  /-- TAG, 0 to 127. -/
  tag : Nat
  /-- OPCODE: class in bits 15:8, code in bits 7:0. -/
  op : Nat
  /-- FLAGS bit 0 (R380). -/
  fence : Bool
  /-- Reserved header bits are all 0 (R397). -/
  clean : Bool
  /-- CONF, header bytes 8 to 11. -/
  conf : Nat
  /-- ARGS, header bytes 16 to 59. -/
  args : List Byte
  /-- The PLEN payload bytes. -/
  payload : List Byte
  /-- Carried out in part: it waits for its boundary or for a later event. -/
  started : Bool
  /-- The instant at which it was accepted, in fine steps, and the RG0 boundaries passed then; 0 before. -/
  at0 : Nat
  b0 : Nat := 0
  deriving DecidableEq, Repr, Inhabited

/-- A completion posted and not consumed (R378, R386): its tag, header and payload. -/
structure Posted where
  /-- The tag of the command it completes. -/
  tag : Nat
  /-- The completion ring entry it stands in, 0 to 15. -/
  slot : Nat
  /-- The 64 bytes of Table 13.4. -/
  header : List Byte
  /-- The payload bytes. -/
  payload : List Byte
  deriving DecidableEq, Repr, Inhabited

/-- One mailbox (R372 to R392). -/
structure Mailbox where
  /-- OPEN: the mailbox admits commands. -/
  isOpen : Bool := false
  /-- RESTARTING: a supervisor restart is in progress. -/
  restarting : Bool := false
  /-- RST_SEEN: a restart has completed since the last clear. -/
  rstSeen : Bool := false
  /-- REFUSE: the outcome of the last doorbell. -/
  refuse : Nat := 0
  /-- CPL_TAIL, 0 to 15. -/
  tail : Nat := 0
  /-- HEAD, 0 to 15. -/
  head : Nat := 0
  /-- MB_IRQ.EN. -/
  irqEn : Bool := false
  /-- Completions posted and not consumed, oldest first; at most 16. -/
  posted : List Posted := []
  /-- MB4-MB7: the CSEQ expected next (R389). -/
  cseq : Nat := 0
  /-- MB4-MB7: refusal code and credits of the ADMIT sent for each of the last 16 CSEQ values, newest first (R389). -/
  admits : List (Nat × Nat) := []
  /-- MB6, MB7: bytes of the incomplete message, its next segment index and its segment count (R392). -/
  segBytes : List Byte := []
  /-- MB6, MB7: index of the next segment expected. -/
  segNext : Nat := 0
  /-- MB6, MB7: segment count of the incomplete message; 0 with none. -/
  segCount : Nat := 0
  /-- MB4-MB7: what has been sent, oldest first: transport messages in UDP datagrams, or the CAN FD frames that carry them (R388, R392). -/
  sent : List (List Byte) := []
  deriving DecidableEq, Repr, Inhabited

/-- A prepared SAFETY action that waits for its confirmation (R412, R413). -/
structure Prepared where
  /-- Mailbox of step 1. -/
  mb : Nat
  /-- Opcode of step 1. -/
  op : Nat
  /-- TOKEN. -/
  token : Nat
  /-- DIGEST. -/
  digest : Nat
  /-- ARGS of step 1. -/
  args : List Byte
  /-- Instant of the step-1 completion, in fine steps. -/
  at0 : Nat
  deriving DecidableEq, Repr, Inhabited

/-- Fencen's command service (13, 14). -/
structure FcpSt where
  /-- MB0 to MB7. -/
  boxes : Vector Mailbox 8 := Vector.replicate 8 {}
  /-- Commands admitted and not completed, in admission order. -/
  inflight : List Entry := []
  /-- Command windows and completion rings of MB0-MB3, keyed by window address (R384). -/
  ram : Memory Byte := []
  /-- Bytes of an incomplete aligned word being written to a mailbox register: none is kept; see R382. Staging area of
  each mailbox: the staged records, at most 16 KiB (R400). -/
  staging : Vector (List Byte) 8 := Vector.replicate 8 []
  /-- Records of a validated commit that waits for its boundary (R401). -/
  cfgPend : List Byte := []
  /-- `fresh` as the validation of that commit found it: what Fencen chose then takes effect at the boundary. -/
  cfgSeed : Nat := 0
  /-- The HOSTSRC record of MB4 to MB7, 24 bytes; none before one is committed (R387, R391). -/
  hostSrc : Vector (List Byte) 4 := Vector.replicate 4 []
  /-- The prepared SAFETY action, if one is pending (R413). -/
  prep : Option Prepared := none
  /-- WIN_BUSY of MB0 to MB3: a doorbell waits while the SVP is halted (R385, R523). -/
  busy : Vector Bool 4 := Vector.replicate 4 false
  /-- The slot a planned supervisor restart takes Fencen from, while the restart is in progress (R393, R410). -/
  restartSlot : Option Nat := none
  /-- A supervisor restart in progress is a planned one. -/
  planned : Bool := false
  /-- DEV_STATE as it stood when the restart began. -/
  devWas : Nat := 0
  /-- Completions held back while the SVP is halted: tag, status, PNUM, RESULT, payload (R523). -/
  deferred : List (Nat × Nat × Nat × List Byte × List Byte) := []
  /-- The SVP is halted by debug (R523): nothing is admitted or posted. -/
  svpHalted : Bool := false
  deriving DecidableEq, Repr, Inhabited

/-! ### Time bases (15) -/

/-- One time base: the time since its epoch (R424). -/
structure TimeBase where
  /-- Time in units of 2^-16 ns. -/
  ticks : Nat := 0
  /-- The 24 bits of the fraction that are not visible. -/
  sub : Nat := 0
  /-- Frequency offset in force, parts per 10^12. -/
  freq : Int := 0
  /-- A frequency offset and a step in units of 2^-16 ns that act at the next nanosecond rollover. -/
  adj : Option (Int × Int) := none
  /-- What the time base was stepped by in the NET clock in progress, in units of 2^-16 ns (R438). -/
  jumped : Int := 0
  deriving DecidableEq, Repr, Inhabited

/-! ### Networks and PTP (15) -/

/-- An entry of a transmit timestamp queue (R430). -/
structure TsEntry where
  id : Nat
  type : Nat
  /-- TB0 at the stamp point, and TB1 when it was made, in 2^-16 ns. -/
  time : Nat
  at1 : Nat
  deriving DecidableEq, Repr, Inhabited

/-- A frame in a buffer of the scheduled path: its launch time on TB1 in 2^-16 ns, and its length in bytes from the destination address to the
frame check (R422). -/
structure SchedFrame where
  at1 : Nat
  len : Nat
  deriving DecidableEq, Repr, Inhabited

/-- A MAC beside its registers. -/
structure MacSt where
  /-- The 44 bytes of its NETIF record; none before one is committed. -/
  netif : List Byte := []
  /-- Transmit timestamps, oldest first; at most 16. -/
  tsq : List TsEntry := []
  /-- A stamp has been dropped since the queue was last empty (R431). -/
  dropped : Bool := false
  /-- Safety PDUs in the buffers of the scheduled path (R422, R423). -/
  sched : List SchedFrame := []
  /-- Instant at which the last scheduled frame left, and when the inter-frame gap behind it ends, in fine steps (R422). -/
  launch : Option Nat := none
  freeAt : Nat := 0
  /-- FCP messages that wait on the ordinary path until no launch is near (R422). -/
  held : List (List Byte) := []
  /-- The receive timestamp that went with the last frame to the SVP, in 2^-16 ns of TB0; none with a frame that is no PTP event message
  (R421, R429). -/
  rxStamp : Option Nat := none
  /-- Row of Table 15.2 that took the last received frame; 0 when it was dropped. -/
  dest : Nat := 0
  /-- The last timestamp sent in a PTP message: 48-bit seconds and nanoseconds (R426). -/
  ptpSent : Option (Nat × Nat) := none
  deriving DecidableEq, Repr, Inhabited

/-- What an Announce message says, and the port it arrived on (R432, IEEE 1588-2019): the grandmaster's data, stepsRemoved, and the clock
identity and port number of its sender. -/
structure Announce where
  prio1 : Nat
  cls : Nat
  acc : Nat
  var : Nat
  prio2 : Nat
  gm : Nat
  steps : Nat
  clock : Nat
  number : Nat
  port : Nat
  deriving DecidableEq, Repr, Inhabited

/-- An exchange of Delay_Req or Pdelay_Req: its sequenceId, and in 2^-16 ns of TB0 the time it left, the time that comes back for it, and the
time the peer took between the two (0 with E2E); `peer` is the peer's receipt time until its Follow_Up. -/
structure DelaySt where
  seq : Nat
  left : Option Int := none
  back : Option Int := none
  peer : Option Int := none
  mid : Option Int := none
  deriving DecidableEq, Repr, Inhabited

/-- One PTP port (R430 to R432, R435). -/
structure PtpLink where
  /-- The best Announce heard. -/
  best : Option Announce := none
  /-- The Sync in progress: sequenceId, receive timestamp, and its transmit time once known. -/
  sync : Option (Nat × Int × Option Int) := none
  /-- Receive minus transmit time of the last complete Sync; no servo update has used it. -/
  diff : Option Int := none
  due : Bool := false
  /-- The delay exchange in progress, and the path delay measured last, in 2^-16 ns. -/
  req : Option DelaySt := none
  delay : Option Int := none
  /-- Next sequenceId of Sync, Delay_Req and Pdelay_Req; that of a Pdelay_Req to be answered. -/
  seqs : Vector Nat 3 := Vector.replicate 3 0
  owes : Option Nat := none
  /-- Event messages sent whose timestamp has not been taken: ID and TYPE (R430). -/
  sent : List (Nat × Nat) := []
  deriving DecidableEq, Repr, Inhabited

/-- The PTP instance and the servo of TB0 (R432 to R437). -/
structure PtpSt where
  /-- The PTP_CFG payload in force; at reset the defaults of Table 15.6. -/
  cfg : List Byte := [0, 0, 0, 128, 128, 248, 0xFE, 0, 0xFF, 0xFF, 0, 1, 0, 3, 0, 0,
    0xE8, 0x03, 0, 0, 0x40, 0x42, 0x0F, 0, 0xE8, 0x03, 0, 0, 0xA0, 0x0F, 0, 0]
  /-- State of the PTP port on each MAC (TB_STAT.PTP_STATE). -/
  port : Vector Nat 3 := Vector.replicate 3 2
  /-- Consecutive servo updates within LOCK_THR, and outside it. -/
  good : Nat := 0
  bad : Nat := 0
  /-- OFS_BASE in ns and TB1 in ns of the last servo update (R437). -/
  base : Nat := 0
  updAt : Option Nat := none
  /-- The lock is the active unit's, taken from a mirror record (R428). -/
  fromPeer : Bool := false
  /-- The PTP ports by MAC. -/
  links : Vector PtpLink 3 := Vector.replicate 3 {}
  /-- Senders of Announce messages: MAC, port identity, TB1 in ns of the last one. -/
  heard : List (Nat × Nat × Nat) := []
  /-- clockIdentity of the grandmaster (R436). -/
  gm : Option Nat := none
  /-- TB0 as latched at the last RG0 boundary, in 2^-16 ns (R438). -/
  latch : Nat := 0
  deriving DecidableEq, Repr, Inhabited

/-! ### Capture engine and recorder (16) -/

/-- A capture source (R406, R441). -/
structure CapSrc where
  /-- 1 analog input, 2 sigma-delta input, 3 context result, 6 internal channel. -/
  kind : Nat := 1
  idx : Nat := 0
  elem : Nat := 0
  /-- Decimation D. -/
  dec : Nat := 0
  deriving DecidableEq, Repr, Inhabited

/-- A record of the stream's FIFO: the full period number it belongs to and its 8 bytes (Table 16.2). -/
structure CapRec where
  pnum : Nat
  bytes : List Byte
  deriving DecidableEq, Repr, Inhabited

/-- A histogram unit (R450). -/
structure HistSt where
  src : CapSrc := {}
  /-- It has been configured; RG0 boundaries passed when it was. -/
  on : Bool := false
  b0 : Nat := 0
  /-- Values since configuration, for the decimation. -/
  count : Nat := 0
  lo : Word := 0
  hi : Word := 0
  /-- Bins 0 to 4 095. -/
  bins : Memory Nat := []
  deriving DecidableEq, Repr, Inhabited

/-- The capture engine (16). -/
structure CapSt where
  /-- The configuration in force: single mode, TRIG_SRC, level, sources. -/
  single : Bool := false
  trig : Nat := 0
  level : Word := 0
  srcs : List CapSrc := []
  /-- Values of each source since the start of the run. -/
  counts : List Nat := []
  /-- The last passed value of source 0, FP32. -/
  prev : Option Word := none
  /-- A start or a stop that waits for the next boundary, with the boundaries passed at its acceptance. -/
  startAt : Option Nat := none
  stopAt : Option Nat := none
  /-- The run's first boundary has just passed (TRIG_SRC 0x0). -/
  fresh0 : Bool := false
  /-- Period number of the boundary at which the last stop took effect (R378). -/
  stopN : Nat := 0
  /-- Instant of the first port state change since the last boundary (TRIG_SRC 0x5). -/
  portAt : Option Nat := none
  /-- No datagram of the run has left yet (FIRST). -/
  opening : Bool := true
  /-- A free-running sample of source 0 has triggered in the current period: its offset in units of 16 PWM clocks. -/
  hit : Option Nat := none
  /-- Run number. -/
  run : Nat := 0
  /-- Sequence number of the next datagram. -/
  seq : Nat := 0
  /-- Number of the next trigger mark. -/
  mark : Nat := 0
  /-- Records in the FIFO, oldest first; at most 8 192. -/
  fifo : List CapRec := []
  /-- Records discarded since the last one that fitted. -/
  gap : Nat := 0
  /-- The last datagram's header and records. -/
  sent : List Byte := []
  hist : Vector HistSt 4 := Vector.replicate 4 {}
  /-- The persistence map: its X and Y sources and edges; cells 256 y + x. -/
  px : CapSrc := {}
  py : CapSrc := {}
  pOn : Bool := false
  pB0 : Nat := 0
  pCount : Nat := 0
  pEdges : List Word := []
  cells : Memory Nat := []
  deriving DecidableEq, Repr, Inhabited

/-- A record of the ring: its number and its event record (R453). -/
structure RecRec where
  num : Nat
  ev : EvRec
  deriving DecidableEq, Repr, Inhabited

/-- The event and fault recorder (R453 to R455). -/
structure RecSt where
  /-- Records held, oldest first; at most 2 097 152. -/
  ring : List RecRec := []
  /-- The next record number. -/
  next : Nat := 0
  /-- The LPDDR is in service. -/
  on : Bool := false
  /-- Island records not yet written, oldest first (R454, R455). -/
  island : List EvRec := []
  /-- Records with an uncorrectable error (Table 18.8). -/
  bad : List Nat := []
  /-- Depth of the event queue latched at the last System reset (R455). -/
  lost : Nat := 0
  /-- Reach in bits 7:0 and RST_CAUSE.SRC from bit 8 as they stood at the release of the reset (R455). -/
  cause : Nat := 0
  deriving DecidableEq, Repr, Inhabited

/-! ### Clocks and reset (17, 18) -/

/-- A PLL's lock attempt (R467): none, a hop on a stored slot, a full band search, a search that has found its band, a search that
found none. -/
inductive Attempt where
  | idle
  | hop (slot : Nat)
  | search
  | found
  | failed
  deriving DecidableEq, Repr, Inhabited

/-- Clocks and the controller die beside their registers (17, 01). -/
structure ClkSt where
  /-- Controller-die junction temperature in degrees Celsius as its sensor last reported it (R36, R39). -/
  tj : Int := 25
  /-- REFCLK phase, 0 to 24, of the points of the sync grid once it is placed (R464). -/
  grid : Option Nat := none
  /-- An edge of SYNC_IN has placed it. -/
  gridSync : Bool := false
  /-- Lock attempts of PLL-M, PLL-L and PLL-N. -/
  attempt : List Attempt := [.idle, .idle, .idle]
  /-- VIOA and VIOB lie above the level of their presence monitors (R530). -/
  bankA : Bool := true
  bankB : Bool := true
  /-- SYS, CTL, PWM and ADC have moved to the DLL: GAIT reads Limp from the next boundary (R471). -/
  limpDue : Bool := false
  /-- A wake from Paddock is in progress (R474). -/
  wake : Bool := false
  /-- A source latched after a Paddock request was accepted (R474). -/
  wakeEarly : Bool := false
  deriving DecidableEq, Repr, Inhabited


/-! ### Spur and the Tack Table (20, 18) -/

/-- A region entry of the Tack Table: base, limit, and the 2-bit rights of SVP, HLP, debug access port and quad-SPI (R491). -/
structure Region where
  base : Nat
  limit : Nat
  rights : List Nat
  deriving DecidableEq, Repr, Inhabited

/-- Spur beside its registers (20). -/
structure SpurSt where
  /-- A session requested by a write of EN, with the RG0 boundaries passed then (R517). -/
  req : Option Nat := none
  /-- Sample-instant shift in force, PWM clocks (Table 20.2). -/
  samp : Int := 0
  /-- Parity or check-bit errors injected: (memory code, byte offset) (R521). -/
  bad : List (Nat × Nat) := []
  deriving DecidableEq, Repr, Inhabited

/-- An image slot in NOR (R409, R490). -/
structure SlotSt where
  /-- 0 EMPTY, 1 WRITING, 2 INVALID, 3 VALID (Table 14.12). -/
  st : Nat := 0
  /-- Image version and SVN. -/
  version : Nat := 0
  svn : Nat := 0
  /-- Image length and bytes written, by offset. -/
  len : Nat := 0
  bytes : Memory Byte := []
  deriving DecidableEq, Repr, Inhabited

/-- Reset, boot and security beside their registers (18, 14). -/
structure BootSt where
  /-- Slots A and B. At reset A holds the factory image, VALID, and B is EMPTY. -/
  slots : Vector SlotSt 2 := #v[{ st := 3 }, {}]
  /-- Slots whose image is the factory's, bit n: its content is not given. -/
  factory : Nat := 1
  /-- The slot the boot record names. -/
  boot : Nat := 0
  /-- The open write session: slot and next offset. -/
  session : Option (Nat × Nat) := none
  /-- The option sector in NOR. -/
  options : List Byte := List.replicate 32 0xFF#8
  /-- Anti-rollback counter in OTP. -/
  counter : Nat := 0
  /-- Revoked key slots: RSA 0, 1 and SLH-DSA 2, 3. -/
  revoked : List Nat := []
  /-- Reach of the Cold or System reset in progress: 0 Cold, 1 System. -/
  reach : Option Nat := none
  /-- Sources asserted in the reset in progress (Table 18.2). -/
  srcs : List Nat := []
  /-- Steps of Table 18.6 completed since the last Cold or System reset. -/
  step : Nat := 0
  /-- The boot in progress follows a Cold reset. -/
  cold : Bool := true
  /-- Boot has stopped with STAGE = FAIL. -/
  failed : Bool := false
  /-- The boot that follows tries only the slot other than this one (R490). -/
  skip : Option Nat := none
  /-- SHA-384 of the Tack block as applied, kept beside the locked Tack Table (R492). -/
  tackKept : List Byte := []
  /-- The slot Fencen runs from. -/
  runSlot : Nat := 0
  /-- A deferred System reset is pending (R499). -/
  deferred : Bool := false
  /-- Instants at which unplanned supervisor restarts began (R480). -/
  restarts : List Nat := []
  /-- The attestation report: its nonce while it is built, and its bytes once built (R417). -/
  attNonce : Option (List Byte) := none
  attReport : Option (List Byte) := none
  /-- Blocks in reset until CLK_OK of their domain sets (R483): block code, and whether a Block reset put it there. -/
  held : List (Nat × Bool) := (List.range 16).map fun b => (b, false)
  deriving DecidableEq, Repr, Inhabited

/-! ### The whole state -/

/-- The state of the block. -/
structure State where
  /-- Commands that are waiting, first in, first out. -/
  pending : List Instr := []
  /-- Time since power-up in fine steps of 125 ps. -/
  now : Nat := 0
  /-- The model's own counter from which free values are taken; no statement rests on its value. -/
  fresh : Nat := 0
  /-- The register file of the window, by `regKey`; an unlisted register reads its reset word (Tables 19.4, 19.5). -/
  regs : Memory Word := []
  fcp : FcpSt := {}
  evq : EvqSt := {}
  win : WinSt := {}
  cle : CleSt := {}
  ports : Vector PortSt 12 := Vector.replicate 4 acPort ++ Vector.replicate 8 ({} : PortSt)
  pwm : PwmSt := {}
  coef : CoefSt := {}
  /-- Trace channels 0 to 7 (03). -/
  trace : Vector TraceCh 8 := Vector.replicate 8 {}
  /-- Observers and governors of ACP0 to ACP3 (04). -/
  obs : Vector ObsSt 4 := Vector.replicate 4 {}
  adc : AdcSt := {}
  sd : SdSt := {}
  gl : GlSt := {}
  pair : PairSt := {}
  stw : StwSt := {}
  hlp : HlpSt := {}
  fio : FioSt := {}
  /-- TB0 to TB3 (15). -/
  tb : Vector TimeBase 4 := Vector.replicate 4 {}
  /-- NET-A, NET-B, NET-C (15). -/
  macs : Vector MacSt 3 := Vector.replicate 3 {}
  ptp : PtpSt := {}
  cap : CapSt := {}
  recd : RecSt := {}
  clk : ClkSt := {}
  spur : SpurSt := {}
  /-- Region entries of the Tack Table, once it is locked. -/
  tack : List Region := []
  boot : BootSt := {}
  deriving DecidableEq, Repr

/-- The machine right after reset: the values Tables 19.4 and 19.5 give each register (an empty register file reads them)
and, for what the manual gives no reset value, the values the assumption log names. -/
def State.reset : State := {}

end Sys2Proof.Machine
end

