-- ==== Sys2Proof/Machine/Operands.lean ====
section
/-!
DEFINITION. The operand forms of the commands: CRCs over bytes (R329, R377), the FCP header (Table 13.3), the layout of
ARGS and payload of each opcode (14), and the reading of bytes, words, times and FP32 values from them (R397).
-/
namespace Sys2Proof.Machine

/-- One bit of a reflected CRC of width w with reflected polynomial p. -/
def crcBit {w : Nat} (p c : BitVec w) : BitVec w := if c.getLsbD 0 then (c >>> 1) ^^^ p else c >>> 1

/-- One byte of a reflected CRC. -/
def crcByte {w : Nat} (p c : BitVec w) (b : Byte) : BitVec w :=
  let x := c ^^^ b.setWidth w
  crcBit p (crcBit p (crcBit p (crcBit p (crcBit p (crcBit p (crcBit p (crcBit p x)))))))

/-- CRC-32C: polynomial 0x1EDC6F41 reflected, start and final XOR all ones (R329, NET-A row). -/
def crc32c (l : List Byte) : BitVec 32 := l.foldl (crcByte 0x82F63B78#32) 0xFFFFFFFF#32 ^^^ 0xFFFFFFFF#32

/-- Byte n of ARGS ("A n"). -/
def Entry.a (e : Entry) (n : Nat) : Nat := leAt e.args n 1

/-- The 16-bit value at ARGS bytes n and n + 1. -/
def Entry.a16 (e : Entry) (n : Nat) : Nat := leAt e.args n 2

/-- The 32-bit value at ARGS bytes n to n + 3. -/
def Entry.a32 (e : Entry) (n : Nat) : Nat := leAt e.args n 4

/-- The FP32 pattern at ARGS bytes n to n + 3. -/
def Entry.af (e : Entry) (n : Nat) : F32 := BitVec.ofNat 32 (leAt e.args n 4)

/-- The CONTEXT number that names none: 63 as a source, and all contexts as a broadcast target (R14, Table 00.4). -/
def noContext : Nat := 63

/-- A time of 14 bytes at offset n, in units of 2^-16 ns, in the one format of the device: seconds:64, ns:32, frac:16 (R14, R397). -/
def timeAt (l : List Byte) (n : Nat) : Nat :=
  (leAt l n 8 * 1000000000 + leAt l (n + 8) 4) * 65536 + leAt l (n + 12) 2

/-- The 14 bytes of a time in units of 2^-16 ns: seconds:64, ns:32, frac:16 (R14). -/
def timeBytes (t : Nat) : List Byte :=
  leBytes 8 (t / (65536 * 1000000000)) ++ leBytes 4 (t / 65536 % 1000000000) ++ leBytes 2 (t % 65536)

/-- The bytes of words. -/
def wordBytes (l : List Word) : List Byte := l.flatMap fun w => leBytes 4 w.toNat

/-- The signed time of 14 bytes at offset n, in units of 2^-16 ns (TB_ADJ). The seconds are two's complement. -/
def signedTimeAt (l : List Byte) (n : Nat) : Int :=
  (signed 64 (leAt l n 8) * 1000000000 + (leAt l (n + 8) 4 : Nat)) * 65536 + (leAt l (n + 12) 2 : Nat)

/-- The layout of a command's operands: ARGS bytes it names, as (offset, size), and the payload lengths it allows. -/
structure Shape where
  /-- Named ARGS bytes. -/
  used : List (Nat × Nat)
  /-- Least and greatest payload length and the unit the length is a multiple of. -/
  lo : Nat
  hi : Nat
  unit : Nat
  deriving DecidableEq, Repr

/-- Payload rule: exactly n bytes. -/
def Shape.fixed (used : List (Nat × Nat)) (n : Nat) : Shape := ⟨used, n, n, 1⟩

/-- Operand layouts of CONFIG, RUN, SETPOINT and QUERY (Tables 14.4 to 14.7). -/
def shapesA : List (Nat × Shape) := [
  (0x0101, ⟨[], 4, 1024, 4⟩), (0x0102, .fixed [(0, 1)] 0), (0x0103, .fixed [] 0), (0x0104, .fixed [(0, 2), (4, 4)] 1024),
  (0x0105, .fixed [] 0), (0x0106, .fixed [] 0), (0x0107, ⟨[(0, 4)], 4, 128, 4⟩), (0x0108, .fixed [] 0),
  (0x0201, .fixed [] 0), (0x0202, .fixed [] 0), (0x0203, .fixed [(0, 1)] 0), (0x0204, .fixed [(0, 10)] 0),
  (0x0205, .fixed [(0, 1)] 0), (0x0206, .fixed [(0, 1)] 0), (0x0207, .fixed [(0, 16)] 0),
  (0x0208, .fixed [(0, 1), (4, 4)] 0), (0x0209, .fixed [(0, 1)] 0), (0x020A, .fixed [(0, 1)] 0),
  (0x020B, .fixed [(0, 1)] 0), (0x020C, .fixed [(0, 1), (2, 2)] 0),
  (0x0301, .fixed [(0, 2), (4, 16)] 0), (0x0302, .fixed [(0, 2), (4, 20)] 0), (0x0303, .fixed [(0, 1), (4, 12)] 0),
  (0x0401, .fixed [(0, 1)] 0), (0x0402, .fixed [(0, 1)] 0), (0x0403, .fixed [(0, 1)] 0), (0x0404, .fixed [(0, 1)] 0),
  (0x0405, ⟨[(0, 2)], 0, 1024, 4⟩), (0x0406, .fixed [(0, 8)] 0)]

/-- Operand layouts of TRACE, CAPTURE, UPDATE and SAFETY (Tables 14.8, 14.9, 14.12, 14.13). -/
def shapesB : List (Nat × Shape) := [
  (0x0501, .fixed [(0, 1), (4, 12)] 0), (0x0502, .fixed [(0, 1)] 0), (0x0503, .fixed [(0, 1)] 0),
  (0x0504, .fixed [(0, 1), (4, 6)] 0),
  (0x0601, ⟨[(0, 2), (4, 5)], 0, 1024, 8⟩), (0x0602, .fixed [] 0), (0x0603, .fixed [] 0),
  (0x0604, .fixed [(0, 1), (4, 16)] 0), (0x0605, .fixed [(0, 1), (2, 4)] 0), (0x0606, .fixed [(4, 32)] 0),
  (0x0607, .fixed [(0, 2)] 0),
  (0x0701, .fixed [(0, 1), (4, 4)] 0), (0x0702, .fixed [(0, 4)] 1024), (0x0703, .fixed [] 0),
  (0x0704, .fixed [(0, 2)] 0), (0x0705, .fixed [(0, 1)] 0), (0x0706, .fixed [(0, 1)] 0), (0x0707, .fixed [(0, 1)] 0),
  (0x0801, .fixed [] 0), (0x0802, .fixed [] 0), (0x0803, .fixed [] 0), (0x0804, .fixed [(0, 1)] 1024),
  (0x0805, .fixed [(0, 4)] 0), (0x0806, .fixed [(0, 2)] 0), (0x0810, .fixed [(0, 2), (4, 4)] 0)]

/-- Operand layouts of PAIR, HLP, TIME and ATTEST (Tables 14.15, 14.16). -/
def shapesC : List (Nat × Shape) := [
  (0x0901, .fixed [] 0), (0x0902, .fixed [] 0),
  (0x0A01, .fixed [(0, 2), (4, 4)] 1024), (0x0A02, .fixed [(0, 1)] 0), (0x0A03, .fixed [(0, 2)] 0),
  (0x0A04, .fixed [] 0), (0x0A05, .fixed [(0, 1)] 0), (0x0A06, ⟨[(0, 1)], 0, 1024, 16⟩),
  (0x0B01, .fixed [] 0), (0x0B02, .fixed [(0, 1), (4, 14)] 0), (0x0B03, .fixed [(0, 1), (4, 18)] 0),
  (0x0B04, .fixed [] 32),
  (0x0C01, .fixed [(0, 32)] 0), (0x0C02, .fixed [(0, 4)] 0), (0x0C03, .fixed [(0, 4)] 0)]

/-- The operand layout of an opcode; none for an opcode the manual does not list (R396). -/
def shapeOf (op : Nat) : Option Shape :=
  ((shapesA ++ shapesB ++ shapesC).find? fun x => x.1 == op).map (·.2)

/-- Every ARGS byte outside the named ranges is 0 (R397). -/
def Shape.argsClean (sh : Shape) (args : List Byte) : Bool :=
  (List.range 44).all fun i => sh.used.any (fun u => u.1 ≤ i && i < u.1 + u.2) || args.getD i 0#8 == 0#8

/-- FS_LEN and the reserved-bits part of FS_PARAM, in the order of R398; none when the operands have the layout. -/
def shapeStatus (e : Entry) : Option Nat :=
  match shapeOf e.op with
  | none => some 0x0010
  | some sh =>
    let n := e.payload.length
    if n < sh.lo || n > sh.hi || n % sh.unit != 0 then some 0x0011
    else if !sh.argsClean e.args || !e.clean || (e.conf != 0 && e.op != 0x0810) then some 0x0020
    else none

/-- The entry a header and payload spell for mailbox mb (Table 13.3). -/
def parseCommand (mb : Nat) (hdr payload : List Byte) : Entry :=
  { mb := mb
    tag := leAt hdr 2 1 % 128
    op := leAt hdr 0 2
    fence := leAt hdr 3 1 % 2 == 1
    clean := leAt hdr 2 1 < 128 && leAt hdr 3 1 < 2 && leAt hdr 6 2 == 0 && leAt hdr 12 4 == 0
    conf := leAt hdr 8 4
    args := slice hdr 16 44
    payload := payload
    started := false
    at0 := 0 }

/-- The header CRC verifies over bytes 0 to 59 and the payload (R377). -/
def headerCrcOk (hdr payload : List Byte) : Bool :=
  leAt hdr 60 4 == (crc32c (slice hdr 0 60 ++ payload)).toNat

end Sys2Proof.Machine
end

