-- ==== Sys2Proof/Machine/Ops.lean ====
section
/-!
DEFINITION. The named operations of the block over its state: registers and their fields, counters (R13), time, posting an
event (R514), completing a command (R375, R378, R386), the order of commands (R380), and the port queries every family uses.
-/
namespace Sys2Proof.Machine

/-! ### Registers -/

/-- The word of register r of unit i. -/
def State.reg (s : State) (r : Reg) (i : Nat) : Word := Memory.get resetWord s.regs (regKey r.cls i r.off)

/-- Write the whole word of register r of unit i. -/
def State.setReg (s : State) (r : Reg) (i : Nat) (w : Word) : State :=
  { s with regs := Memory.set resetWord s.regs (regKey r.cls i r.off) w }

/-- Field f of unit i, as a number. -/
def State.fld (s : State) (f : Fld) (i : Nat) : Nat :=
  fieldOf (Memory.get resetWord s.regs (regKey f.cls i f.off)) f.hi f.lo

/-- Write field f of unit i. -/
def State.setFld (s : State) (f : Fld) (i v : Nat) : State :=
  let k := regKey f.cls i f.off
  { s with regs := Memory.set resetWord s.regs k (putField (Memory.get resetWord s.regs k) f.hi f.lo v) }

/-- One-bit field f of unit i. -/
def State.flag (s : State) (f : Fld) (i : Nat) : Bool := s.fld f i != 0

/-- Write a one-bit field. -/
def State.setFlag (s : State) (f : Fld) (i : Nat) (b : Bool) : State := s.setFld f i (b2n b)

/-- Add k to a counter field; it saturates at its maximum (R13). -/
def State.countN (s : State) (f : Fld) (i k : Nat) : State :=
  s.setFld f i (satAdd (s.fld f i) k (2 ^ (f.hi + 1 - f.lo) - 1))

/-- Count one (R13). -/
def State.count (s : State) (f : Fld) (i : Nat) : State := s.countN f i 1

/-- Fold a function over the units 0 to n - 1. -/
def State.forUnits (s : State) (n : Nat) (f : State → Nat → State) : State := (List.range n).foldl f s

/-- Apply f when b holds. -/
def State.cond (s : State) (b : Bool) (f : State → State) : State := if b then f s else s

/-! ### Time -/

/-- PERIOD in force, in PWM clocks (R195). -/
def State.period (s : State) : Nat := s.fld F.PWM_PERIOD_ALL 0

/-- P, the period in fine steps. -/
def State.fineP (s : State) : Nat := 32 * s.period

/-- The gait in force (Table 01.8). -/
def State.gait (s : State) : Nat := s.fld F.GAIT_STATUS_GAIT 0

/-- CLK_OK of domain d. -/
def State.clkOk (s : State) (d : Nat) : Bool := bitOf (s.fld F.CLK_STAT_CLK_OK 0) d

/-- The SVP executes: debug has not halted it (R523), Paddock has not stopped it (R473), and it has its clock (R469). -/
def State.svpClock (s : State) : Bool := !s.fcp.svpHalted && s.gait != Gait.paddock && s.clkOk 2

/-- The MACs run: NET is clocked and the device is not in Paddock (R418, R469). -/
def State.netRuns (s : State) : Bool := s.clkOk 7 && s.gait != Gait.paddock

/-- Fencen serves commands: the SVP executes and no supervisor restart is in progress (R393). -/
def State.svpRuns (s : State) : Bool := s.svpClock && s.fcp.restartSlot.isNone

/-- Fencen runs: it has booted and serves. -/
def State.fencenRuns (s : State) : Bool := s.fld F.IDENT_STATE_DEV_STATE 0 != 0 && s.svpRuns

/-- Nanoseconds of a number of fine steps, rounded down. -/
def nsOf (fine : Nat) : Nat := fine / 8

/-- TB1 seconds. -/
def TimeBase.sec (t : TimeBase) : Nat := t.ticks / (65536 * 1000000000)

/-- TB1 nanoseconds within the second. -/
def TimeBase.ns (t : TimeBase) : Nat := t.ticks / 65536 % 1000000000

/-- One time base after n NET clocks of 8 ns each, trimmed, in units of 2^-40 ns (R424). DESIGN CHOICE: what one clock adds is rounded down
to that unit (log entry 92). -/
def TimeBase.count (t : TimeBase) (n : Nat) : TimeBase :=
  let v := t.sub + n * (8796093022208 * (1000000000000 + t.freq) / 1000000000000).toNat
  { t with ticks := t.ticks + v / 2 ^ 24, sub := v % 2 ^ 24 }

/-- One time base stepped by d units of 2^-16 ns; its seconds are 64 bits. -/
def TimeBase.step (t : TimeBase) (d : Int) : TimeBase :=
  { t with ticks := (((t.ticks : Int) + d) % (2 ^ 64 * (1000000000 * 65536) : Nat)).toNat }

/-- One time base after n NET clocks. A change of TB_ADJ or the servo acts at the next nanosecond rollover: the first of these clocks, at which
the nanoseconds advance (R424; DEDUCED, log entry 92). -/
def TimeBase.clocks (t : TimeBase) (n : Nat) : TimeBase :=
  if n = 0 then t
  else match t.adj with
    | none => { t.count n with jumped := 0 }
    | some (f, d) => { { (t.count 1).step d with freq := f, adj := none }.count (n - 1) with jumped := if n = 1 then d else 0 }

/-- One time base after n AON periods of 1/32 768 s (R427). -/
def TimeBase.aon (t : TimeBase) (n : Nat) : TimeBase := { t with ticks := t.ticks + n * 2000000000, jumped := 0 }

/-- TB0 as the timebase latches it now: a step of the NET clock in progress is not seen (R438). -/
def TimeBase.latched (t : TimeBase) : Nat := ((t.ticks : Int) - t.jumped).toNat

/-- Time base b while d fine steps pass: it counts NET clock edges while that clock runs, or is carried by the AON count, or stands
still (R424, R427). -/
def State.tbAfter (s : State) (d b : Nat) : TimeBase :=
  if s.flag F.TB_STAT_AON_CARRIED b then
    (vget s.tb b).aon ((s.now + d) * 32768 / 8000000000 - s.now * 32768 / 8000000000)
  else if bitOf (s.fld F.CLK_STAT_CLK_OK 0) 7 then (vget s.tb b).clocks ((s.now + d) / 64 - s.now / 64)
  else vget s.tb b

/-- Let d fine steps pass: the instant moves, and the time bases with it. -/
def State.elapse (s : State) (d : Nat) : State :=
  { s with now := s.now + d, tb := #v[s.tbAfter d 0, s.tbAfter d 1, s.tbAfter d 2, s.tbAfter d 3] }

/-- The RG0 period number commands and events report: PWM_PNUM, or the pair period number on a paired unit (R284). -/
def State.pnumOut (s : State) : Nat := ((s.pwm.pnum : Int) + s.pair.off).toNat

/-- Take a fresh index for a free value. -/
def State.bump (s : State) : State := { s with fresh := s.fresh + 1 }

/-! ### Trace triggers by events (R122) -/

/-- Trace channel c. -/
def State.tr (s : State) (c : Nat) : TraceCh := vget s.trace c

/-- Change trace channel c. -/
def State.modTr (s : State) (c : Nat) (f : TraceCh → TraceCh) : State := { s with trace := vmod s.trace c f }

/-- TRACE_CTL.STATE of channel c: 0 IDLE, 1 ARMED, 2 TRIGGERED, 3 DONE. -/
def State.trState (s : State) (c : Nat) : Nat := s.fld F.TRACE_CTL_STATE c

/-- Samples since arming. -/
def TraceCh.total (t : TraceCh) : Nat := t.dropped + t.buf.length

/-- The trigger of an armed channel falls before the next sample (R122). -/
def State.trTrigger (s : State) (c : Nat) : State :=
  if s.trState c = 1 then (s.setFld F.TRACE_CTL_STATE c 2).modTr c fun t => { t with trigAt := some t.total } else s

/-- The trigger of source `src` falls now on every armed channel that selects it and whose level fits `ok`. -/
def State.trFire (s : State) (src : Nat) (ok : Nat → Bool) : State :=
  s.forUnits 8 fun t c => if t.fld F.TRACE_CTL_TRIG_SRC c == src && ok (t.reg R.TRACE_LEVEL c).toNat then t.trTrigger c else t

/-- A port changes its state: it triggers trace channels of TRIG_SRC 5 (R122), and is the first such change since the last boundary for
the capture engine (R446). -/
def State.portMoved (s : State) : State :=
  let t := s.trFire 5 fun _ => true
  { t with cap := { t.cap with portAt := if t.cap.portAt.isNone then some t.now else t.cap.portAt } }

/-! ### Events (R43, R513, R514) -/

/-- The unit is paired and not ACTIVE (FLAGS bit 1 of Table 19.9): PAIR_STATUS.STATE names neither SOLO nor ACTIVE. -/
def State.notActive (s : State) : Bool :=
  s.fld F.PAIR_STATUS_STATE 0 != 0 && s.fld F.PAIR_STATUS_STATE 0 != 4

/-- Events the Steward island writes to the recorder itself: its states and causes, ACT_OUT changes and pair states (R454). -/
def islandEvent (code : Nat) : Bool :=
  code == EV.EV_STW_STATE || code == EV.EV_STW_CAUSE || code == EV.EV_PAIR_STATE || code == EV.EV_TAKEOVER || code == EV.EV_HANDOVER

/-- Post an event: it takes the next number and enters the queue; a full queue drops its oldest entry (Table 01.10). An island
event is also offered to the recorder's write port (R454). Trace channels of TRIG_SRC 3 that wait for its code trigger (R122). -/
def State.postAs (s : State) (island : Bool) (code unit data : Nat) : State :=
  let r : EvRec := {
    num := s.evq.next, code := code, unit := unit, flags := (if s.notActive then 2 else 0) + b2n island
    sec := (vget s.tb 1).sec % 2 ^ 32, ns := (vget s.tb 1).ns, pnum := s.pnumOut % 2 ^ 32, data := data % 2 ^ 64 }
  let full := decide (s.evq.queue.length ≥ 64)
  let q := (if full then s.evq.queue.drop 1 else s.evq.queue) ++ [r]
  let s1 := { s with evq := { s.evq with queue := q, next := s.evq.next + 1, codes := s.evq.codes ++ [(code, s.now)] } }
  let s2 := s1.cond island fun t => { t with recd := { t.recd with island := t.recd.island ++ [r] } }
  ((s2.cond full fun t => t.count F.EVQ_STAT_DROP_CNT 0).setFld F.EVQ_STAT_DEPTH 0 q.length).trFire 3 fun l => l % 65536 == code

/-- Post event `code` (R513); the island's events are written to the recorder ring by the island itself (R454). -/
def State.post (s : State) (code unit data : Nat) : State := s.postAs (islandEvent code) code unit data

/-- The island writes a change of ACT_OUT to the recorder ring (R296, R454); like its other events it also reaches the event queue. -/
def State.postAct (s : State) (up : Bool) : State :=
  s.postAs true (Config.actOutCode up).toNat 0xFF (Config.actOutData up).toNat

/-- UNIT of an event that names none. -/
def noUnit : Nat := 0xFF

/-! ### Mailboxes and completions -/

/-- Change mailbox m. -/
def State.box (s : State) (m : Nat) (f : Mailbox → Mailbox) : State :=
  { s with fcp := { s.fcp with boxes := vmod s.fcp.boxes m f } }

/-- Commands of mailbox m admitted and not completed. -/
def State.inflightOf (s : State) (m : Nat) : Nat := (s.fcp.inflight.filter fun e => e.mb == m).length

/-- CREDITS of mailbox m (R373); 0 while it is closed (Table 13.10). -/
def State.credits (s : State) (m : Nat) : Nat :=
  let b := vget s.fcp.boxes m
  if b.isOpen then 16 - s.inflightOf m - b.posted.length else 0

/-- A tag is busy from admission until its completion is consumed (R374). -/
def State.tagBusy (s : State) (t : Nat) : Bool :=
  s.fcp.inflight.any (fun e => e.tag == t) || (vget s.fcp.boxes (t / 16)).posted.any (fun p => p.tag == t)

/-- The 64-byte completion header with its CRC (Table 13.4, R377). -/
def completionHeader (op tag status pnum time epoch : Nat) (res pay : List Byte) : List Byte :=
  let h := leBytes 2 op ++ leBytes 1 tag ++ [0#8] ++ leBytes 2 pay.length ++ leBytes 2 status ++ leBytes 8 pnum
    ++ timeBytes time ++ leBytes 2 epoch ++ slice res 0 28
  h ++ leBytes 4 (crc32c (h ++ pay)).toNat

/-- An 8-byte transport header followed by its message (Table 13.9). -/
def transport (type mb epoch cseq credits code : Nat) (msg : List Byte) : List Byte :=
  leBytes 1 type ++ leBytes 1 mb ++ leBytes 2 epoch ++ leBytes 2 cseq ++ leBytes 1 credits ++ leBytes 1 code ++ msg

/-- The smallest CAN FD length that holds n bytes. -/
def canLength (n : Nat) : Nat :=
  if n ≤ 8 then n else if n ≤ 12 then 12 else if n ≤ 16 then 16 else if n ≤ 20 then 20 else if n ≤ 24 then 24 else if n ≤ 32 then 32
  else if n ≤ 48 then 48 else 64

/-- The CAN FD frames of a transport message: segments of at most 62 bytes behind their index and count (R392). DESIGN CHOICE: the padding
of the last frame is 0 (log entry 143). -/
def canFrames (msg : List Byte) : List (List Byte) :=
  let n := (msg.length + 61) / 62
  (List.range n).map fun i =>
    let d := leBytes 1 i ++ leBytes 1 n ++ (msg.drop (62 * i)).take 62
    d ++ List.replicate (canLength d.length - d.length) 0#8

/-- Wire time of a byte at the link speed of MAC m, in ns (R422). -/
def State.byteNs (s : State) (m : Nat) : Nat := match s.fld F.MAC_STAT_SPEED m with
  | 0 => 800
  | 1 => 80
  | _ => 8

/-- The ordinary path of MAC m starts no frame: a scheduled frame launches within t_guard, the wire time of 1 542 bytes (R422). -/
def State.txHeld (s : State) (m : Nat) : Bool :=
  (vget s.macs m).sched.any fun f => f.at1 ≤ (vget s.tb 1).ticks + 65536 * (1542 * s.byteNs m)

/-- FCP messages leave on the ordinary path of MAC m behind those that wait there, or wait with them (R388, R422). -/
def State.ordinary (s : State) (m : Nat) (l : List (List Byte)) : State :=
  let all := (vget s.macs m).held ++ l
  let hold := s.txHeld m
  let s1 := { s with macs := vmod s.macs m fun x => { x with held := if hold then all else [] } }
  s1.box (4 + m) fun b => { b with sent := if hold then b.sent else b.sent ++ all }

/-- A transport message leaves on mailbox m: in one UDP datagram, or in CAN FD frames on MB6 and MB7 (R388, R392). -/
def State.emit (s : State) (m : Nat) (msg : List Byte) : State :=
  if m < 6 then s.ordinary (m - 4) [msg] else s.box m fun b => { b with sent := b.sent ++ canFrames msg }

/-- Place a completion in its mailbox: the ring entry at CPL_TAIL on MB0-MB3 (R386), a CPL message on MB4-MB7 (R390). -/
def State.place (s : State) (e : Entry) (h pay : List Byte) : State :=
  let b := vget s.fcp.boxes e.mb
  let s1 := s.box e.mb fun b => { b with
    posted := b.posted ++ [⟨e.tag, b.tail, h, pay⟩], tail := (b.tail + 1) % 16 }
  if e.mb < 4 then
    { s1 with fcp := { s1.fcp with
        ram := Memory.setMany (fun _ => 0#8) s1.fcp.ram (0x1000 + e.mb * 0x1C00 + 0x480 + 64 * b.tail) h } }
  else s1.emit e.mb (transport 3 e.mb (s1.fld F.FCP_EPOCH_ALL 0) e.tag (s1.credits e.mb) 0 (h ++ pay))

/-- Command y, admitted after x in the same mailbox, may start while x is in flight (R380): neither is a fence, and either
their classes differ or both are setpoints and x has been taken (a later setpoint replaces an earlier one). -/
def mayPass (x y : Entry) : Bool :=
  !x.fence && !y.fence && (x.op / 256 != y.op / 256 || (x.op / 256 == 3 && x.started))

/-- What of its class a command acts on (R380): the port, context, channel, unit, time base or slot it names, its mailbox's own staging area,
a lane, the coefficient banks, or 0 where the class has one thing. DEDUCED: R380 lists no targets (log entry 144). -/
def Entry.unit (e : Entry) : Nat :=
  if e.op == 0x0101 || e.op == 0x0103 then 0x200 + e.mb
  else if e.op == 0x0104 || e.op == 0x0105 || e.op == 0x0106 then 0x300
  else if e.op == 0x020C then 0x100 + e.a 0
  else if e.op == 0x0107 || e.op / 256 == 3 || e.op / 256 == 5 || e.op == 0x0604 || e.op == 0x0605 || e.op == 0x0B02 || e.op == 0x0B03
    || (decide (0x0205 ≤ e.op) && decide (e.op ≤ 0x020B)) then e.a 0 + 1
  else 0

/-- Two commands act on the same target (R380): neither only reads (QUERY, ATTEST), their class is one, and so is what they name. -/
def sameTarget (x y : Entry) : Bool := x.op / 256 == y.op / 256 && x.op / 256 != 4 && x.op / 256 != 12 && x.unit == y.unit

/-- Command y, admitted after x in another mailbox, may start while x is in flight (R380): their targets differ, or both are setpoints and x
has been taken. -/
def mayCross (x y : Entry) : Bool := !sameTarget x y || (x.op / 256 == 3 && x.started)

/-- The commands admitted before e let it start (R380). -/
def State.permits (s : State) (e : Entry) : Bool :=
  (s.fcp.inflight.takeWhile fun x => x.tag != e.tag).all fun x => if x.mb == e.mb then mayPass x e else mayCross x e

/-- Post the completion of command e: it leaves the ring of commands (R375, R378). -/
def State.completeEntry (s : State) (e : Entry) (status pnum : Nat) (res pay : List Byte) : State :=
  let s1 := { s with fcp := { s.fcp with inflight := s.fcp.inflight.filter fun x => x.tag != e.tag } }
  s1.place e (completionHeader e.op e.tag status pnum (vget s.tb 1).ticks (s.fld F.FCP_EPOCH_ALL 0) res pay) pay

/-- Commands whose opcode the manual does not list complete with FS_OPCODE as soon as their order allows (R396, R398). -/
def State.settle : Nat → State → State
  | 0, s => s
  | n + 1, s =>
    match s.fcp.inflight.find? fun e => (shapeOf e.op).isNone && s.permits e with
    | none => s
    | some e => State.settle n (s.completeEntry e FS.FS_OPCODE 0 [] [])

/-- Complete the command with this tag (R375). While the SVP does not execute the completion is held back (R469, R473, R523); in a supervisor
restart nothing completes before the mailboxes reopen (Table 13.10). -/
def State.complete (s : State) (tag status pnum : Nat) (res pay : List Byte) : State :=
  match s.fcp.inflight.find? fun e => e.tag == tag with
  | none => s
  | some e =>
    if s.fcp.restartSlot.isSome then s
    else if !s.svpClock then
      { s with fcp := { s.fcp with deferred := s.fcp.deferred ++ [(tag, status, pnum, res, pay)] } }
    else State.settle s.fcp.inflight.length (s.completeEntry e status pnum res pay)

/-- Complete with a status alone. -/
def State.done (s : State) (tag status : Nat) : State := s.complete tag status 0 [] []

/-- Complete at the boundary in force, with its period number. -/
def State.doneAt (s : State) (tag status : Nat) : State := s.complete tag status s.pnumOut [] []

/-- The command with this tag and opcode when Fencen may start it now (R380). -/
def State.ready (s : State) (op tag : Nat) : Option Entry :=
  if !s.svpRuns then none else
  match s.fcp.inflight.find? fun e => e.tag == tag with
  | none => none
  | some e => if e.op == op && !e.started && s.permits e then some e else none

/-- The command with this tag and opcode once it has been started and waits; none in a supervisor restart. -/
def State.waiting (s : State) (op tag : Nat) : Option Entry :=
  if s.fcp.restartSlot.isSome then none else s.fcp.inflight.find? fun e => e.tag == tag && e.op == op && e.started

/-- A boundary has passed since the command with this entry was taken. -/
def State.atBoundary (s : State) (e : Entry) : Bool := decide (e.b0 < s.pwm.bnd)

/-- The boundary in force lies at least 20 us after the command was taken (R37, R401). -/
def State.atBoundary20 (s : State) (e : Entry) : Bool := s.atBoundary e && decide (e.at0 + 160000 ≤ s.pwm.tk)

/-- The first command in flight with this opcode that has been started and waits. -/
def State.waitingOp (s : State) (op : Nat) : Option Entry :=
  if s.fcp.restartSlot.isSome then none else s.fcp.inflight.find? fun e => e.op == op && e.started

/-- Mark the command with this tag as taken: it now waits for its boundary or event. -/
def State.start (s : State) (tag : Nat) : State :=
  { s with fcp := { s.fcp with inflight := s.fcp.inflight.map fun e =>
      if e.tag == tag then { e with started := true, at0 := s.now, b0 := s.pwm.bnd } else e } }

/-- Fencen serves the command with this opcode and tag: FS_LEN and FS_PARAM of its layout first (R397, R398), then its own
meaning. A tag with no such command waiting its turn changes nothing. -/
def serve (op tag : Nat) (s : State) (k : Entry → State) : Host.Outcome State Fault Refusal :=
  match s.ready op tag with
  | none => .next s
  | some e => .next (match shapeStatus e with
    | some st => s.done tag st
    | none => k e)

/-! ### Ports -/

/-- State of port p (Table 02.3). -/
def State.pstate (s : State) (p : Nat) : Nat := s.fld F.PORT_STATUS_STATE p

/-- Port p. -/
def State.port (s : State) (p : Nat) : PortSt := vget s.ports p

/-- Change port p. -/
def State.modPort (s : State) (p : Nat) (f : PortSt → PortSt) : State := { s with ports := vmod s.ports p f }

/-- A switching state of Table 02.3 (BLACKSTART, MATCH, RUN, CURLIM, RAMPDOWN). -/
def switchingState (st : Nat) : Bool := st == 2 || st == 4 || st == 5 || st == 6 || st == 7

/-- Every port is OFF. -/
def State.allOff (s : State) : Bool := (List.range 12).all fun p => s.pstate p == PS.off

/-- Ports of leg n: the port whose configuration lists it. -/
def State.portOfLeg (s : State) (n : Nat) : Option Nat :=
  (List.range 12).find? fun p => (s.port p).cfg.legs.contains n

/-- Record a condition of port p for the next boundary (R61, R63). -/
def State.raise (s : State) (p : Nat) (c : PortCond) : State :=
  s.modPort p fun q => { q with conds := q.conds ++ [c] }

/-- Record a priority-1 condition on the port of leg n, when it is switching. -/
def State.raiseLeg (s : State) (n : Nat) (c : PortCond) : State :=
  match s.portOfLeg n with
  | some p => if switchingState (s.pstate p) then s.raise p c else s
  | none => s

/-- Legs of port p. -/
def State.legsOf (s : State) (p : Nat) : List Nat := (s.port p).cfg.legs

/-- The port's legs are on the Gate Link (R49). -/
def State.glPort (s : State) (p : Nat) : Bool := (s.legsOf p).any fun n => s.flag F.LEG_CFG_GL n

/-- Any leg is assigned to the Gate Link (GAIT_STATUS.GL_PRESENT). -/
def State.anyGl (s : State) : Bool := (List.range 48).any fun n => s.flag F.LEG_CFG_GL n

/-- L_port in fine steps: the largest L_ACT among the lanes of the port's legs; 0 on direct pins (R23, R50). -/
def State.lPort (s : State) (p : Nat) : Nat :=
  (s.legsOf p).foldl (fun m n =>
    if s.flag F.LEG_CFG_GL n then max m (s.fld F.GL_DELAY_L_ACT (s.fld F.LEG_CFG_LANE n)) else m) 0

/-! ### Spur -/

/-- The conditions of R517 beside SPUR_CTRL.ACTIVE itself. -/
def State.spurMay (s : State) : Bool :=
  s.flag F.TACK_CTRL_TEST_EN 0 && s.flag F.SPUR_CTRL_EN 0 && s.fld F.STW_STATUS_STATE 0 == 1 &&
    (s.fld F.SPUR_STAT_LEFT 0 != 0 || s.fld F.SPUR_CTRL_PERIODS 0 == 0)

/-- Perturbations act: a session has started and every condition of R517 holds. -/
def State.spurOn (s : State) : Bool := s.flag F.SPUR_CTRL_ACTIVE 0 && s.spurMay

/-- Change the pair logic's own record. -/
def State.modPair (s : State) (f : PairSt → PairSt) : State := { s with pair := f s.pair }

/-! ### Serial lanes -/

/-- Lane l. -/
def State.lane (s : State) (l : Nat) : LaneSt := vget s.gl.lanes l

/-- Change lane l. -/
def State.modLane (s : State) (l : Nat) (f : LaneSt → LaneSt) : State := { s with gl := { s.gl with lanes := vmod s.gl.lanes l f } }

/-- One symbol of lane l in fine steps: 8, 4 or 2 ns by LANE_CFG.RATE (R236). -/
def State.symbol (s : State) (l : Nat) : Nat :=
  let r := s.fld F.LANE_CFG_RATE l
  if r = 0 then 64 else if r = 1 then 32 else 16

/-- The first symbol boundary of lane l after now; boundaries count from the RG0 boundary. -/
def State.symbolEdge (s : State) (l : Nat) : Nat :=
  let b := s.symbol l
  s.now + b - (s.now - s.pwm.tk) % b

/-- The bytes of a HALT: C0 holds slots 0 to 3, C1 slots 4 to 7, CHK = C0 XOR C1 XOR TAG XOR 0xA5 (R251). -/
def haltBytes (tag codes : Nat) : List Byte :=
  let c0 := BitVec.ofNat 8 codes
  let c1 := BitVec.ofNat 8 (codes / 256)
  let t := BitVec.ofNat 8 (tag % 16)
  [c0, c1, t, c0 ^^^ c1 ^^^ t ^^^ 0xA5#8]

/-- Every code that is not NONE is OFF. -/
def onlyOff (codes : Nat) : Bool := (List.range 8).all fun k => codes / 4 ^ k % 4 == 0 || codes / 4 ^ k % 4 == 3

/-- The HALT that leaves a lane now and the one behind it: five symbols of b fine steps each. -/
def LaneSt.halting (x : LaneSt) (now b : Nat) : Option HaltTx × Option HaltTx := match x.halt with
  | none => (none, none)
  | some h =>
    if now < h.start + 5 * b then (some h, x.haltQ)
    else match x.haltQ with
      | some q => if now < h.start + 10 * b then (some { q with start := h.start + 5 * b }, none) else (none, none)
      | none => (none, none)

/-- A HALT enters lane l: it cuts off a PING or a PARAM in progress, whose PARAM is sent again; the third inserted into one frame
abandons it (R254). A frame is in progress until its 110 symbols and the five of each HALT in it have left. -/
def State.haltStarts (s : State) (l tag codes start : Nat) : State :=
  let cut := fun (x : LaneSt) => match x.sending with
    | none => x
    | some (e, p) =>
      if e ≤ s.now then { x with sending := none }
      else match p with
        | none => { x with sending := none, pingOut := none }
        | some a => { x with sending := none, due := a :: x.due.filter (· != a), written := x.written.filter (·.1 != a) }
  let sent : State := { s with gl := { s.gl with halts := s.gl.halts ++ [⟨l, haltBytes tag codes⟩] } }
  let s1 := sent.modLane l cut
  match (s.lane l).inFrame with
  | none => s1
  | some (n, e) =>
    if e ≤ start then s1
    else if n < 2 then s1.modLane l fun x => { x with inFrame := some (n + 1, e + 5 * s.symbol l) }
    else ((s1.modLane l fun x => { x with inFrame := none }).count F.LANE_CNT_ABANDON l).post EV.EV_GL_ABANDON l 0

/-- The last element equal to `old` replaced by `new`. -/
def replaceLast (old new : Halt) : List Halt → List Halt
  | [] => []
  | x :: r => if x = old ∧ !r.contains old then new :: r else x :: replaceLast old new r

/-- Codes are merged into a HALT that has not left: OFF wins, and TOP with BOT gives OFF (R254). -/
def State.haltMerges (s : State) (l : Nat) (h : HaltTx) (codes : Nat) : State :=
  let old : Halt := ⟨l, haltBytes h.tag h.codes⟩
  let new : Halt := ⟨l, haltBytes h.tag (h.codes ||| codes)⟩
  { s with gl := { s.gl with halts := replaceLast old new s.gl.halts } }

/-- A HALT request reaches the transmitter of lane l (R254): merged into a HALT of the same PWM clock, or into one in progress whose C1 has
not started to leave when the request has OFF codes alone or the same TAG; else into the one that follows. -/
def State.haltLane (s : State) (l tag codes : Nat) : State :=
  let clk := s.now / 32
  let b := s.symbol l
  let h := (s.lane l).halting s.now b
  let put := fun (t : State) a q => t.modLane l fun x => { x with halt := a, haltQ := q }
  match h.1 with
  | none => put (s.haltStarts l tag codes (s.symbolEdge l)) (some ⟨s.symbolEdge l, clk, tag, codes⟩) none
  | some c =>
    if c.clk = clk ∨ (s.now < c.start + 2 * b ∧ (onlyOff codes ∨ tag = c.tag)) then
      put (s.haltMerges l c codes) (some { c with codes := c.codes ||| codes, clk := clk }) h.2
    else match h.2 with
      | some q => put (s.haltMerges l q codes) (some c) (some { q with codes := q.codes ||| codes, clk := clk })
      | none => put (s.haltStarts l tag codes (c.start + 5 * b)) (some c) (some ⟨0, clk, tag, codes⟩)

/-- The Steward's gate removal sends an all-OFF HALT on every lane that is not DOWN (R255, R313). -/
def State.haltAll (s : State) : State := s.forUnits 6 fun t l =>
  if t.fld F.LANE_STAT_STATE l = 0 then t
  else t.haltLane l (t.pnumOut % 16) 0xFFFF

/-! ### Coefficients -/

/-- Pattern of an unset coefficient word (R547). -/
def unsetWord : Word := 0x7FC00000#32

end Sys2Proof.Machine
end

