-- ==== Sys2Proof/Machine/ResetOps.lean ====
section
/-!
DEFINITION. Reach and sources of a reset (R477, R481), and the write port of the recorder ring (R453, R455).
-/
namespace Sys2Proof.Machine

/-- Change the reset and boot record. -/
def State.modBoot (s : State) (f : BootSt → BootSt) : State := { s with boot := f s.boot }

/-- Registers that hold part attributes (Table 19.2) and stay through every reset. -/
def partRegs : List Nat := [regKey 0 0 0x10, regKey 0 0 0x14]

/-- Registers in the AON region that a System reset keeps (Table 18.1): RST_CAUSE, options, PLL slots, the Tack Table. -/
def aonRegs : List Nat := [R.RST_CAUSE, R.OPT_STAT, R.TACK_CTRL, R.PWM_POL0, R.PWM_POL1, R.TRIP_POL].map (fun r => regKey r.cls 0 r.off) ++
  (List.range 8).map fun k => regKey 0 0 (R.PLL_SLOT.off + 4 * k)

/-- The register file after a reset that keeps the registers with these keys. -/
def State.keepRegs (s : State) (keys : List Nat) : Memory Word :=
  keys.foldl (fun m k => Memory.set resetWord m k (Memory.get resetWord s.regs k)) []

/-- What of the boot record stands in NOR and OTP. -/
def BootSt.kept (b : BootSt) : BootSt := {
  slots := b.slots, factory := b.factory, boot := b.boot, options := b.options, counter := b.counter, revoked := b.revoked }

/-- A Cold reset: everything, AON included (Table 18.1). What stands in NOR and OTP, part attributes and the levels of input
pins are no state a reset reaches. -/
def State.coldReset (s : State) : State :=
  let f : State := { ({} : State) with
    pending := s.pending, now := s.now, fresh := s.fresh, regs := s.keepRegs partRegs,
    pwm := { ({} : PwmSt) with pins := s.pwm.pins }, stw := { ({} : StwSt) with low := s.stw.low },
    pair := { ({} : PairSt) with lowSince := s.pair.lowSince }, clk := { ({} : ClkSt) with tj := s.clk.tj, bankA := s.clk.bankA, bankB := s.clk.bankB },
    boot := s.boot.kept }
  (f.setFlag F.IDENT_ID_VARIANT_H 0 (s.flag F.IDENT_ID_VARIANT_H 0)).setFlag F.GAIT_STATUS_VARIANT_H 0
    (s.flag F.GAIT_STATUS_VARIANT_H 0)

/-- A System reset: everything except AON and the LPDDR (Table 18.1). The ring and its numbering stay (R455), TB1 is carried
(Table 15.4), the sync grid goes on (R464). -/
def State.systemReset (s : State) : State :=
  let f := s.coldReset
  let tb1 := vget s.tb 1
  let g : State := { f with
    regs := s.keepRegs (partRegs ++ aonRegs),
    tb := vmod f.tb 1 (fun _ => tb1),
    recd := { s.recd with on := false, lost := s.evq.queue.length },
    hlp := { f.hlp with store := s.hlp.store, oldest := s.hlp.oldest },
    tack := s.tack, clk := { f.clk with grid := s.clk.grid, gridSync := s.clk.gridSync },
    trace := s.trace.map fun t => { ({} : TraceCh) with copy := t.copy, copyP := t.copyP, copyT := t.copyT, copyTrig := t.copyTrig,
                                                        stepP := t.stepP, stepT := t.stepT },
    boot := { f.boot with cold := false, tackKept := s.boot.tackKept, skip := s.boot.skip } }
  let copy := fun (t : State) (q : Fld) => t.setFld q 0 (s.fld q 0)
  [F.IDENT_ID_VARIANT_H, F.GAIT_STATUS_VARIANT_H, F.CLK_STAT_REF_OK, F.CLK_STAT_AON_RC, F.PAIR_CFG_PRIO, F.CLK_CFG_REF_EXT,
    F.ADC_STATUS_REF_EXT, F.BOOT_STAT_FAIL_A, F.BOOT_STAT_FAIL_B, F.HLP_STATUS_RETAIN_VALID].foldl copy
    (g.setFlag F.TB_STAT_AON_CARRIED 1 true)

/-- A Spur session stops (R518): every delay 0, back-pressure released, shifts and requests discarded, EV_SPUR_STOP with its reason
(0 EN cleared, 1 periods done, 2 Steward left UNARMED, 3 reset). -/
def State.spurStop (s : State) (reason : Nat) : State :=
  if s.flag F.SPUR_CTRL_ACTIVE 0 then
    let zero := fun (t : State) (f : Fld) => t.setFld f 0 0
    let s1 := [F.SPUR_CTRL_ACTIVE, F.SPUR_CLE_DLY, F.SPUR_ADC_DLY, F.SPUR_GL_DLY, F.SPUR_BP_MB_MASK, F.SPUR_BP_MIRROR,
      F.SPUR_SHIFT_SAMP, F.SPUR_SHIFT_RELOAD].foldl zero { s with spur := { s.spur with req := none } }
    s1.post EV.EV_SPUR_STOP noUnit reason
  else s

/-- A source that asserts while a reset is in progress is recorded (R481, R482). -/
def State.noteSrc (s : State) (src : Nat) : State :=
  s.modBoot fun b => { b with srcs := if b.srcs.contains src then b.srcs else b.srcs ++ [src] }

/-- What a System reset ends of the state before it is recorded like every change (R296, R303, R454): ACT_OUT falls, the Steward is in BOOT, the
pair state is SOLO. -/
def State.islandFalls (s was : State) : State :=
  let st := was.fld F.STW_STATUS_STATE 0
  let p := was.fld F.PAIR_STATUS_STATE 0
  let s1 := s.cond (was.flag F.PAIR_STATUS_ACT_OUT 0) fun t => t.postAct false
  let s2 := s1.cond (st != 0) fun t => t.post EV.EV_STW_STATE noUnit st
  s2.cond (p != 0) fun t => t.post EV.EV_PAIR_STATE noUnit (p + 65536 * ((was.reg R.PAIR_STATUS 0).toNat / 256 % 256))

/-- A source of Cold (0) or System (1) reach asserts (R481): the widest reach governs, and every source is recorded. -/
def State.assertReset (s0 : State) (reach src : Nat) : State :=
  let s := s0.spurStop 3
  let add := fun (t : State) (r : Nat) => (t.modBoot fun b => { b with reach := some r, srcs := s.boot.srcs }).noteSrc src
  match s.boot.reach with
  | none => (if reach = 0 then s.coldReset else s.systemReset.islandFalls s).modBoot fun b => { b with reach := some reach, srcs := [src] }
  | some r => if reach < r then add s.coldReset 0 else add s r

/-! ### Block resets (R483, R485) -/

/-- Debug access is open: the Tack Table is unlocked, or was locked with DBG_OPEN = 1 (R522). -/
def State.dbgOpen (s : State) : Bool := !s.flag F.TACK_CTRL_LOCK 0 || s.flag F.TACK_CTRL_DBG_OPEN 0

/-- Rights the region entries that cover offset `off` leave path p (0 quad-SPI, 1 debug, 2 Fencen's): the least of their 2-bit codes, 2 where no
entry covers it (R491, R492). -/
def State.rights (s : State) (p off : Nat) : Nat :=
  (s.tack.filter fun r => r.base ≤ off && off ≤ r.limit).foldl (fun m r => min m (r.rights.getD (if p = 0 then 3 else if p = 1 then 2 else 0) 0)) 2

/-- What becomes of an access of path p to offset `off`: 0 taken, 1 without effect and uncounted, 2 denied (R382, R501, R519,
R522). -/
def State.access (s : State) (p off : Nat) (wr : Bool) : Nat :=
  if p = 0 && !s.win.ready then 1
  else if p = 1 && !s.dbgOpen then (if !wr && (off == 0x37C || off == 0x380) then 0 else 1)
  else if decide (0x1000 ≤ off) && decide (off < 0x8000) && !s.win.ready then 1
  else if decide (0x8000 ≤ off) && !s.flag F.TACK_CTRL_TEST_EN 0 then 2
  else if s.flag F.TACK_CTRL_LOCK 0 && decide (s.rights p off < (if wr then 2 else 1)) then 2
  else 0

/-- An access that is taken acts; one that region rights deny is counted (R501). -/
def State.guarded (s : State) (p off : Nat) (wr : Bool) (f : State → State) : State :=
  match s.access p off wr with
  | 0 => f s
  | 1 => s
  | _ => s.count F.DRW_STAT_DENY_CNT 0

/-- Clock domain of a block, as its bit of CLK_OK (Tables 17.1, 18.4). -/
def blockDomain (b : Nat) : Nat := if b = 1 then 4 else if 2 ≤ b ∧ b ≤ 9 then 6 else if 10 ≤ b ∧ b ≤ 12 then 7 else 2

/-- UNCLEAN of block b (R484). -/
def State.setUnclean (s : State) (b : Nat) (on : Bool) : State :=
  let u := s.fld F.RST_STAT_UNCLEAN 0
  s.setFld F.RST_STAT_UNCLEAN 0 (if bitOf u b then (if on then u else u - 2 ^ b) else if on then u + 2 ^ b else u)

/-- WAIT_CLK shows whether a release waits for CLK_OK (R483). -/
def State.waitClk (s : State) : State := s.setFlag F.RST_STAT_WAIT_CLK 0 (!s.boot.held.isEmpty)

/-- Block b is released under R483; a Block reset posts EV_BLOCK_RESET with IDLE_OK (R485). -/
def State.releaseBlock (s : State) (b : Nat) (ev : Bool) : State :=
  (s.setUnclean b false).cond ev fun t => t.post EV.EV_BLOCK_RESET b (t.fld F.RST_STAT_IDLE_OK 0)

/-- The reset of block b asserts and, once CLK_OK of its domain is 1, releases (R485): RST_CAUSE, IDLE_OK, IDLE_TMO_CNT. -/
def State.blockDone (s : State) (b : Nat) (idle : Bool) (src : Option Nat) : State :=
  let s1 := ((s.setFld F.RST_CAUSE_REACH 0 3).setFld F.RST_CAUSE_BLOCK 0 b).setFlag F.RST_STAT_IDLE_OK 0 idle
  let s2 := s1.setFld F.RST_CAUSE_SRC 0 ((src.map fun k => 2 ^ k).getD 0)
  let s3 := s2.cond (!idle) fun t => t.count F.RST_STAT_IDLE_TMO_CNT 0
  if bitOf (s3.fld F.CLK_STAT_CLK_OK 0) (blockDomain b) then s3.releaseBlock b true
  else (s3.modBoot fun x => { x with held := x.held ++ [(b, true)] }).waitClk

/-- An uncorrectable or parity error of memory m is counted and posted (R499). -/
def State.memErr (s : State) (m : Nat) : State :=
  ((s.count F.ECC_STAT_UNCORR_CNT 0).setFld F.ECC_STAT_LAST_MEM 0 m).post EV.EV_MEM_ERR m 0

/-- The write port accepts a record (R453): it takes the next number; a full ring overwrites its oldest. -/
def State.ringPut (s : State) (r : EvRec) : State :=
  let l := s.recd.ring ++ [⟨s.recd.next, r⟩]
  { s with recd := { s.recd with ring := l.drop (l.length - 2097152), next := s.recd.next + 1 } }

/-- A record the write port or Fencen writes itself, with the time and period number of now (Table 19.9). -/
def State.selfRecord (s : State) (code data : Nat) : EvRec := {
  num := 0, code := code, unit := noUnit, flags := if s.notActive then 2 else 0, sec := (vget s.tb 1).sec % 2 ^ 32
  ns := (vget s.tb 1).ns, pnum := s.pnumOut % 2 ^ 32, data := data }

/-- Data of EV_REC_RESUME: reach and RST_CAUSE.SRC as at the release, latched queue depth (R455). -/
def State.resumeData (s : State) : Nat :=
  s.recd.cause + 2 ^ 24 * min 255 s.recd.lost

/-- The ring comes into service: its own record comes first (R455). -/
def State.ringOn (s : State) (cold : Bool) : State :=
  let s1 := { s with recd := { s.recd with on := true } }
  s1.ringPut (s1.selfRecord (if cold then EV.EV_REC_INIT else EV.EV_REC_RESUME) (if cold then 0 else s1.resumeData))

/-- A deferred System reset is due 100 us later. -/
def State.deferReset (s : State) : State := s.modBoot fun b => { b with deferred := true }

end Sys2Proof.Machine
end

