-- ==== Sys2Proof/Machine/ClkOps.lean ====
section
/-!
DEFINITION. Shared operations on clocks (17): PLLs, their band slots and lock attempts (R466, R467), CLK_OK and the clock in use, the
start of a wake (R474).
-/
namespace Sys2Proof.Machine

/-- Change the clocks' record. -/
def State.modClk (s : State) (f : ClkSt → ClkSt) : State := { s with clk := f s.clk }

/-- PLL-M, PLL-L and PLL-N as 0, 1 and 2. -/
def pllNo : Pll → Nat
  | .m => 0
  | .l => 1
  | .n => 2

/-- Lock flag of PLL p. -/
def lockFld (p : Nat) : Fld := if p = 0 then F.CLK_STAT_PLLM_LOCK else if p = 1 then F.CLK_STAT_PLLL_LOCK else F.CLK_STAT_PLLN_LOCK

/-- Count of losses of lock of PLL p. -/
def lossFld (p : Nat) : Fld := if p = 0 then F.CLK_CNT_PLLM_LOSS else if p = 1 then F.CLK_CNT_PLLL_LOSS else F.CLK_CNT_PLLN_LOSS

/-- PLL p is locked. -/
def State.locked (s : State) (p : Nat) : Bool := s.flag (lockFld p) 0

/-- Slots of PLL p (R466). -/
def slotsOf (p : Nat) : List Nat := if p = 0 then [0, 1, 2, 3] else if p = 1 then [4, 5] else [6, 7]

/-- Field f of PLL_SLOT k. -/
def slotFld (f : Fld) (k : Nat) : Fld := { f with off := f.off + 4 * k }

/-- Slot k holds a band. -/
def State.slotValid (s : State) (k : Nat) : Bool := s.flag (slotFld F.PLL_SLOT_VALID k) 0

/-- How far the temperature recorded in slot k lies from temp (both as °C + 55). -/
def State.slotGap (s : State) (k temp : Nat) : Nat :=
  ((s.fld (slotFld F.PLL_SLOT_TEMP k) 0 : Int) - (temp : Int)).natAbs

/-- Of a list of slots, the one whose temperature lies nearest; the first of several. -/
def State.nearest (s : State) (temp : Nat) : List Nat → Option Nat
  | [] => none
  | k :: ks => match s.nearest temp ks with
    | some j => if s.slotGap j temp < s.slotGap k temp then some j else some k
    | none => some k

/-- The present temperature as slots hold it. -/
def State.tempNow (s : State) : Nat := (clampInt 0 255 (s.clk.tj + 55)).toNat

/-- Attempt of PLL p. -/
def State.attempt (s : State) (p : Nat) : Attempt := s.clk.attempt.getD p .idle

/-- Set PLL p's attempt. -/
def State.setAttempt (s : State) (p : Nat) (a : Attempt) : State := s.modClk fun c => { c with attempt := c.attempt.set p a }

/-- A lock attempt starts: a hop on the valid slot nearest in temperature within 15 degrees, or a full search (R467). -/
def State.startAttempt (s : State) (p temp : Nat) : State :=
  match s.nearest temp ((slotsOf p).filter fun k => s.slotValid k && decide (s.slotGap k temp ≤ 15)) with
  | some k => s.setAttempt p (.hop k)
  | none => s.setAttempt p .search

/-- Every PLL that is not locked starts an attempt. -/
def State.startPlls (s : State) : State := s.forUnits 3 fun t p => if t.locked p then t else t.startAttempt p t.tempNow

/-- A wake from Paddock starts (R474, R475): the PLLs start once there is a reference. -/
def State.startWake (s : State) : State :=
  (s.modClk fun c => { c with wake := true, wakeEarly := false }).cond (s.flag F.CLK_STAT_REF_OK 0) fun t => t.startPlls

/-- Every PLL stops (R458, R473). -/
def State.stopPlls (s : State) : State :=
  (s.forUnits 3 fun t p => t.setFlag (lockFld p) 0 false).modClk fun c => { c with attempt := [.idle, .idle, .idle] }

/-- Set or clear bit d of CLK_OK (R468). -/
def State.clkBit (s : State) (d : Nat) (on : Bool) : State :=
  let w := s.fld F.CLK_STAT_CLK_OK 0
  s.setFld F.CLK_STAT_CLK_OK 0 (if bitOf w d == on then w else if on then w + 2 ^ d else w - 2 ^ d)

/-- The PWM generator counts nothing: debug has frozen it, or it has no clock (R232, R233). -/
def State.genHeld (s : State) : Bool := s.flag F.PWM_GSTAT_FROZEN 0 || !s.clkOk 4

/-- The gait whose clock rates SYS, CTL, PWM and ADC run at: Limp's as long as their source is the DLL (R459, R471), which may be before GAIT
reads Limp. -/
def State.rateGait (s : State) : Nat := if s.flag F.CLK_STAT_LIMP 0 then Gait.limp else s.gait

/-- PAIRCLK_OUT carries the PWM clock (R299); otherwise it is idle. -/
def State.pairClkOut (s : State) : Bool := s.locked 0 && !s.flag F.CLK_STAT_LIMP 0

/-- SYS, CTL, PWM and ADC return from the DLL to PLL-M, and the DLL tracks again (R472). -/
def State.leaveLimp (s : State) : State := (s.setFlag F.CLK_STAT_LIMP 0 false).setFlag F.DLL_STAT_FROZEN 0 false

end Sys2Proof.Machine
end

