-- ==== Sys2Proof/Machine/ClePrim.lean ====
section
/-!
DEFINITION. The equations of the CLE's context types as functions of inputs, coefficients, states and T (03). Each FP32
operation rounds by itself, in the order the equations are written (R90); integrators and angles are fixed point (R54, R101).
-/
namespace Sys2Proof.Machine

/-- What a computation gives: state-area words written, results, flags, |e|, and whether every FP32 value is finite. -/
structure LawOut where
  /-- (word index in the 128-byte state area, value). -/
  st : List (Nat × Word)
  /-- RES0 to RES3. -/
  res : List F32
  /-- A clamp acted (R101). -/
  hi : Bool
  lo : Bool
  /-- A state was held (R103). -/
  hold : Bool
  /-- Magnitude of the following error, for a type that has one. -/
  err : Option F32
  /-- No state and no result became a NaN or an infinity (R90). -/
  fin : Bool
  deriving DecidableEq, Repr

/-- A state-area word, or its fill value while the group is cold (R113). -/
abbrev StArea := Nat → Word

/-- The 64-bit two's complement value in two words, low word first. -/
def pair64 (lo hi : Word) : Int := signed 64 (lo.toNat + hi.toNat * 2 ^ 32)

/-- Two words of a 64-bit value at state word w. -/
def put64 (w : Nat) (v : Int) : List (Nat × Word) :=
  let n := unsigned 64 v
  [(w, BitVec.ofNat 32 n), (w + 1, BitVec.ofNat 32 (n / 2 ^ 32))]

/-- Bounds of a signed 64-bit value. -/
def i64lo : Int := -(2 ^ 63 : Nat)
/-- Bounds of a signed 64-bit value. -/
def i64hi : Int := (2 ^ 63 : Nat) - 1

/-- FP32 to 16.48 fixed point, rounded to nearest (R101). -/
def toX (x : F32) : Int := fToIntEven x 48 i64lo i64hi
/-- 16.48 fixed point to FP32. -/
def ofX (v : Int) : F32 := fOfIntExp v (-48)
/-- FP32 to 4.60 fixed point (R54). -/
def toW (x : F32) : Int := fToIntEven x 60 i64lo i64hi
/-- 4.60 fixed point to FP32 (R54). -/
def ofW (v : Int) : F32 := fOfIntExp v (-60)
/-- Turns as FP32 to an increment of the 64-bit turn fraction. -/
def toTurn (x : F32) : Int := fToIntEven x 64 (-(2 ^ 90 : Nat)) (2 ^ 90 : Nat)
/-- f_n omega T in units of 2^-64 turn, for omega in 4.60 fixed point and T in fine steps, to the nearest unit (R54): the
fixed-point units hold omega and theta, and the product is not narrowed. -/
def turnInc (fn : F32) (w : Int) (fine : Nat) : Int :=
  let d := fDec fn
  let n : Int := w * (d.man * fine * 16 * 2 ^ d.exp.toNat : Nat)
  let m : Nat := 8000000000 * 2 ^ (-d.exp).toNat
  (2 * (if d.neg then -n else n) + m) / (2 * m : Nat)
/-- The 64-bit turn fraction as FP32 turns. -/
def ofTurn (v : Nat) : F32 := fOfIntExp (v : Int) (-64)
/-- A turn fraction plus an increment; it wraps without loss (R54). -/
def addTurn (v : Nat) (d : Int) : Nat := unsigned 64 ((v : Int) + d)

/-- A quantity an equation reads: an FP32 value, or a 64-bit angle of KIND 4, which no conversion narrows before the equation's own
operation (R95, R98). -/
inductive Num where
  | fp (x : F32)
  | angle (n : Nat)
  deriving DecidableEq, Repr

/-- The FP32 value nearest a quantity. -/
def Num.val : Num → F32
  | .fp x => x
  | .angle n => ofTurn n

/-- A finite quantity exactly: an integer and the power of 2 it counts. -/
def Num.exact : Num → Int × Int
  | .fp x => let d := fDec x; (if d.neg then -(d.man : Int) else (d.man : Int), d.exp)
  | .angle n => ((n : Int), -64)

/-- The operation `f` on FP32 values; with an angle among the operands, `g` on their exact values in one unit 2^e, rounded once. -/
def numOp (f : F32 → F32 → F32) (g : Int → Int → Int) (a b : Num) : F32 := match a, b with
  | .fp x, .fp y => f x y
  | _, _ =>
    if !fFinite a.val || !fFinite b.val then f a.val b.val
    else
      let x := a.exact
      let y := b.exact
      let e := min x.2 y.2
      fOfIntExp (g (x.1 * 2 ^ (x.2 - e).toNat) (y.1 * 2 ^ (y.2 - e).toNat)) e

/-- Sum of two quantities, rounded once. -/
def nAdd (a b : Num) : F32 := numOp fAdd (· + ·) a b

/-- Difference of two quantities, rounded once. -/
def nSub (a b : Num) : F32 := numOp fSub (· - ·) a b

/-- FP32 value times a quantity, rounded once. -/
def nMul (c : F32) (a : Num) : F32 := match a with
  | .fp x => fMul c x
  | .angle n =>
    if !fFinite c then fMul c a.val
    else let d := (Num.fp c).exact; fOfIntExp (d.1 * (n : Int)) (d.2 - 64)

/-- x lies below the quantity a. -/
def nAbove (x : F32) (a : Num) : Bool := match a with
  | .fp y => fLt x y
  | .angle _ => fLt x a.val || (fEq x a.val && fLt 0#32 (nSub a (.fp x)))

/-- The quantity a lies below x. -/
def nBelow (x : F32) (a : Num) : Bool := match a with
  | .fp y => fLt y x
  | .angle _ => fLt a.val x || (fEq x a.val && fLt (nSub a (.fp x)) 0#32)

/-- Clamp by optional limits (R101, R548). -/
def clampO (lo hi : Option F32) (x : F32) : F32 :=
  let y := match lo with
    | some l => if fLt x l then l else x
    | none => x
  fFlush (match hi with
    | some h => if fLt h y then h else y
    | none => y)

/-- x lies above an optional limit. -/
def aboveO (hi : Option F32) (x : F32) : Bool := match hi with
  | some h => fLt h x
  | none => false

/-- x lies below an optional limit. -/
def belowO (lo : Option F32) (x : F32) : Bool := match lo with
  | some l => fLt x l
  | none => false

/-- An integrator limit: its own word, else the output limit on its side, else the format's (R101, R548). -/
def xLim (own out : Option F32) (fmt : Int) : Int := match own, out with
  | some x, _ => toX x
  | none, some y => toX y
  | none, none => fmt

/-- SAT_HI and SAT_LO of the context named by SAT_CTX in its last completed computation. -/
structure BoundSat where
  hi : Bool
  lo : Bool
  deriving DecidableEq, Repr

/-- R103 for PI and SRF_PLL: no further move towards the clamp that acts. -/
def dirHold (b : BoundSat) (above below : Bool) (d : F32) : Bool :=
  ((above || b.hi) && fLt 0#32 d) || ((below || b.lo) && fLt d 0#32)

/-- Coefficients of PI. -/
structure PiC where
  kp : F32
  ki : F32
  yMin : Option F32
  yMax : Option F32
  xMin : Option F32
  xMax : Option F32
  deriving DecidableEq, Repr

/-- PI: e = r - y_m, u = K_p e + x[k-1] + f, out = clamp(u), x[k] = x[k-1] + K_i T e (03, "PI"). -/
def lawPi (c : PiC) (T : F32) (r ym f : Num) (b : BoundSat) (st : StArea) : LawOut :=
  let x := pair64 (st 0) (st 1)
  let e := nSub r ym
  let u := nAdd (.fp (fAdd (fMul c.kp e) (ofX x))) f
  let out := clampO c.yMin c.yMax u
  let d := fMul (fMul c.ki T) e
  let above := aboveO c.yMax u
  let below := belowO c.yMin u
  let hold := dirHold b above below d
  let x1 := if hold then x else clampInt (xLim c.xMin c.yMin i64lo) (xLim c.xMax c.yMax i64hi) (x + toX d)
  ⟨put64 0 x1, [out, e, 0, 0], above, below, hold, some (fAbs e),
    fFinite out && fFinite e && (hold || !fIsNan d)⟩

/-- Coefficients of DQPI. -/
structure DqC where
  kp : F32
  ki : F32
  kf : F32
  x : F32
  uLim : Option F32
  yMin : Option F32
  yMax : Option F32
  xMin : Option F32
  xMax : Option F32
  deriving DecidableEq, Repr

/-- Magnitude of a vector. -/
def fMag (a b : F32) : F32 := fSqrt (fAdd (fMul a a) (fMul b b))

/-- DQPI with decoupling and magnitude limit (03, "DQPI"); while the limit, a clamp or the bound saturation acts, every
integrator is held whole (R103). -/
def lawDqpi (c : DqC) (T : F32) (rd rq yd yq fd fq w : Num) (b : BoundSat) (st : StArea) : LawOut :=
  let xd := pair64 (st 0) (st 1)
  let xq := pair64 (st 2) (st 3)
  let ed := nSub rd yd
  let eq := nSub rq yq
  let xw := nMul c.x w
  let ud := fAdd (fAdd (fSub (nMul c.kf fd) (nMul xw yq)) (fMul c.kp ed)) (ofX xd)
  let uq := fAdd (fAdd (fAdd (nMul c.kf fq) (nMul xw yd)) (fMul c.kp eq)) (ofX xq)
  let m := fMag ud uq
  let lim := aboveO c.uLim m
  let k := match c.uLim with
    | some u => fDiv u m
    | none => f1
  let vd := if lim then fMul ud k else ud
  let vq := if lim then fMul uq k else uq
  let od := clampO c.yMin c.yMax vd
  let oq := clampO c.yMin c.yMax vq
  let above := lim || aboveO c.yMax vd || aboveO c.yMax vq
  let below := belowO c.yMin vd || belowO c.yMin vq
  let hold := above || below || b.hi || b.lo
  let kt := fMul c.ki T
  let dd := fMul kt ed
  let dq := fMul kt eq
  let lo := xLim c.xMin c.yMin i64lo
  let hi := xLim c.xMax c.yMax i64hi
  let xd1 := if hold then xd else clampInt lo hi (xd + toX dd)
  let xq1 := if hold then xq else clampInt lo hi (xq + toX dq)
  let em := fMag ed eq
  ⟨put64 0 xd1 ++ put64 2 xq1, [od, oq, em, 0], above, below, hold, some em,
    [od, oq, em].all fFinite && (hold || (!fIsNan dd && !fIsNan dq))⟩

/-- Coefficients of PR. -/
structure PrC where
  kp : F32
  wc : F32
  fn : F32
  yMin : Option F32
  yMax : Option F32
  /-- (order h, gain K_r) of each resonator. -/
  reson : List (F32 × F32)
  deriving DecidableEq, Repr

/-- 2 pi as FP32. -/
def f2pi : F32 := 0x40C90FDB#32

/-- One resonator's coefficients b0, b2, a1, a2: bilinear transform prewarped at omega_h = h omega_base omega (03, "PR"). -/
def prCoef (fn wc h kr T : F32) (w : Num) : F32 × F32 × F32 × F32 :=
  let wh := nMul (fMul h (fMul f2pi fn)) w
  let half := toTurn (fMul fHalf (fMul (nMul (fMul h fn) w) T))
  let c := fMul wh (fDiv (cosT (unsigned 64 half)) (sinT (unsigned 64 half)))
  let c2 := fMul c c
  let h2 := fMul wh wh
  let m := fMul (fMul f2 wc) c
  let a0 := fAdd (fAdd c2 m) h2
  let b0 := fDiv (fMul (fMul (fMul f2 kr) wc) c) a0
  (b0, fNegate b0, fDiv (fMul f2 (fSub h2 c2)) a0, fDiv (fAdd (fSub c2 m) h2) a0)

/-- One resonator on one axis in transposed direct form II: (g, s1, s2). -/
def prStep (k : F32 × F32 × F32 × F32) (e s1 s2 : F32) : F32 × F32 × F32 :=
  let (b0, b2, a1, a2) := k
  let g := fAdd (fMul b0 e) s1
  (g, fSub s2 (fMul a1 g), fSub (fMul b2 e) (fMul a2 g))

/-- The resonators from number j on: sums of g on both axes, state words, finiteness. -/
def prSum (c : PrC) (T : F32) (w : Num) (ea eb : F32) (st : StArea) : Nat → List (F32 × F32) → F32 × F32 × List (Nat × Word)
  | _, [] => (0, 0, [])
  | j, (h, kr) :: r =>
    let k := prCoef c.fn c.wc (if j = 0 then f1 else h) kr T w
    let a := prStep k ea (st (4 * j)) (st (4 * j + 1))
    let b := prStep k eb (st (4 * j + 2)) (st (4 * j + 3))
    let rest := prSum c T w ea eb st (j + 1) r
    (fAdd a.1 rest.1, fAdd b.1 rest.2.1,
      [(4 * j, a.2.1), (4 * j + 1, a.2.2), (4 * j + 2, b.2.1), (4 * j + 3, b.2.2)] ++ rest.2.2)

/-- PR: u = f + K_p e + sum of G_h(e) on alpha and beta (03, "PR"). While a clamp or the bound saturation acts, every
resonator state is held whole (R103). -/
def lawPr (c : PrC) (T : F32) (ra rb ya yb fa fb w : Num) (b : BoundSat) (st : StArea) : LawOut :=
  let ea := nSub ra ya
  let eb := nSub rb yb
  let g := prSum c T w ea eb st 0 c.reson
  let ua := fAdd (nAdd fa (.fp (fMul c.kp ea))) g.1
  let ub := fAdd (nAdd fb (.fp (fMul c.kp eb))) g.2.1
  let oa := clampO c.yMin c.yMax ua
  let ob := clampO c.yMin c.yMax ub
  let above := aboveO c.yMax ua || aboveO c.yMax ub
  let below := belowO c.yMin ua || belowO c.yMin ub
  let hold := above || below || b.hi || b.lo
  let em := fMag ea eb
  let n := 4 * c.reson.length
  ⟨if hold then (List.range n).map fun i => (i, st i) else g.2.2, [oa, ob, em, 0], above, below, hold, some em,
    [oa, ob, em].all fFinite && (hold || g.2.2.all fun x => fFinite x.2)⟩

/-- A row of a matrix times a vector, summed in ascending column order. -/
def dot (m : Nat → F32) (v : List F32) : F32 :=
  (v.zipIdx.map fun x => fMul (m x.2) x.1).foldl fAdd 0#32

/-- A row of a matrix times a vector of inputs, summed in ascending column order. -/
def dotN (m : Nat → F32) (v : List Num) : F32 :=
  (v.zipIdx.map fun x => nMul (m x.2) x.1).foldl fAdd 0#32

/-- SS: x[k+1] = A x + B u, y = C x + D u, with AW_HOLD (03, "SS"). a, b, c, d read the row-major matrices. -/
def lawSs (n m p : Nat) (a b c d : Nat → F32) (yMin yMax : Option F32) (awHold : Bool) (u : List Num) (st : StArea) : LawOut :=
  let x := (List.range n).map st
  let x1 := (List.range n).map fun i => fAdd (dot (fun j => a (i * n + j)) x) (dotN (fun j => b (i * m + j)) u)
  let y := (List.range p).map fun i => fAdd (dot (fun j => c (i * n + j)) x) (dotN (fun j => d (i * m + j)) u)
  let above := y.any (aboveO yMax)
  let below := y.any (belowO yMin)
  let hold := awHold && (above || below)
  let new := if hold then x else x1
  let out := y.map (clampO yMin yMax)
  ⟨new.zipIdx.map fun v => (v.2, v.1), (out ++ [0, 0, 0, 0]).take 4, above, below, hold, none, (new ++ out).all fFinite⟩

/-- Amplitude-invariant Clarke transform (R52): 2/3 and 1/sqrt 3 as FP32. -/
def clarke (a b c : F32) : F32 × F32 :=
  (fMul 0x3F2AAAAB#32 (fSub (fSub a (fMul fHalf b)) (fMul fHalf c)), fMul 0x3F13CD3A#32 (fSub b c))

/-- The same transform of three quantities. -/
def clarkeN (a b c : Num) : F32 × F32 :=
  (fMul 0x3F2AAAAB#32 (nSub (.fp (nSub a (.fp (nMul fHalf b)))) (.fp (nMul fHalf c))), fMul 0x3F13CD3A#32 (nSub b c))

/-- Stationary to rotor frame at angle theta. -/
def park (v : F32 × F32) (theta : Nat) : F32 × F32 :=
  let s := sinT theta
  let c := cosT theta
  (fAdd (fMul v.1 c) (fMul v.2 s), fSub (fMul v.2 c) (fMul v.1 s))

/-- Rotor to stationary frame at angle theta. -/
def unpark (v : F32 × F32) (theta : Nat) : F32 × F32 :=
  let s := sinT theta
  let c := cosT theta
  (fSub (fMul v.1 c) (fMul v.2 s), fAdd (fMul v.1 s) (fMul v.2 c))

/-- Coefficients of SRF_PLL. -/
structure PllC where
  kpp : F32
  kip : F32
  fn : F32
  vfl : F32
  wff : F32
  wlo : F32
  whi : F32
  xMin : Option F32
  xMax : Option F32
  deriving DecidableEq, Repr

/-- SRF_PLL (03). State words: theta 0-1, omega 2-3, x_p 4-5. RES2 is the angle carried from the last execution, as R101 has the output
of an integrating type (log entry 141). -/
def lawPll (c : PllC) (fine : Nat) (T : F32) (a b cc : Num) (bs : BoundSat) (st : StArea) : LawOut :=
  let th := (st 0).toNat + (st 1).toNat * 2 ^ 32
  let xp := pair64 (st 4) (st 5)
  let v := clarkeN a b cc
  let s := sinT th
  let co := cosT th
  let vq := fAdd (fNegate (fMul v.1 s)) (fMul v.2 co)
  let m := fMag v.1 v.2
  let eq := fDiv vq (fMax m c.vfl)
  let u := fAdd (fAdd c.wff (fMul c.kpp eq)) (ofX xp)
  let w := fClamp c.wlo c.whi u
  let d := fMul (fMul c.kip T) eq
  let above := fLt c.whi u
  let below := fLt u c.wlo
  let hold := dirHold bs above below d
  let lo := toX (c.xMin.getD (fSub c.wlo c.wff))
  let hi := toX (c.xMax.getD (fSub c.whi c.wff))
  let xp1 := if hold then xp else clampInt lo hi (xp + toX d)
  let th1 := addTurn th (turnInc c.fn (toW w) fine)
  ⟨put64 0 (th1 : Int) ++ put64 2 (toW w) ++ put64 4 xp1, [w, m, ofTurn th, eq], above, below, hold, some (fAbs eq),
    [w, m, eq, c.fn].all fFinite && (hold || !fIsNan d)⟩

/-- LEADLAG (03): y = b0 u + b1 u[k-1] - a1 y[k-1]. State words: u[k-1] 0, y[k-1] 1. -/
def lawLeadlag (k tld tlg : F32) (yMin yMax : Option F32) (T : F32) (u : Num) (cold : Bool) (st : StArea) : LawOut :=
  let u1 := if cold then u else .fp (st 0)
  let y1 := if cold then nMul k u else st 1
  let den := fAdd T (fMul f2 tlg)
  let a1 := fDiv (fSub T (fMul f2 tlg)) den
  let b0 := fDiv (fMul k (fAdd T (fMul f2 tld))) den
  let b1 := fDiv (fMul k (fSub T (fMul f2 tld))) den
  let y := fSub (fAdd (nMul b0 u) (nMul b1 u1)) (fMul a1 y1)
  let out := clampO yMin yMax y
  ⟨[(0, fFlush u.val), (1, out)], [out, 0, 0, 0], aboveO yMax y, belowO yMin y, false, none, fFinite u.val && fFinite out⟩

/-- RAMP (03): a rate-limited follower. State word 0: y[k-1]. -/
def lawRamp (sup sdn : F32) (yMin yMax : Option F32) (T : F32) (r : Num) (y1 : F32) : LawOut :=
  let y := fAdd y1 (fClamp (fNegate (fMul sdn T)) (fMul sup T) (nSub r (.fp y1)))
  let out := clampO yMin yMax y
  let e := nSub r (.fp out)
  ⟨[(0, out)], [out, 0, 0, 0], aboveO yMax y, belowO yMin y, false, some (fAbs e), fFinite out⟩

/-- LIMIT (03): clamp with optional rate limit. State word 0: y[k-1]. -/
def lawLimit (lo hi : Option F32) (sl T : F32) (u : Num) (y1 : F32) : LawOut :=
  let c := clampO lo hi u.val
  let hiHit := match hi with
    | some h => nAbove h u
    | none => false
  let loHit := match lo with
    | some l => nBelow l u
    | none => false
  let st := fMul sl T
  let y := if fLt 0#32 sl then fClamp (fSub y1 st) (fAdd y1 st) c else fFlush c
  ⟨[(0, y)], [y, 0, 0, 0], fLt y c || (hiHit && fEq y c), fLt c y || (loHit && fEq y c), false, none,
    fFinite y⟩

end Sys2Proof.Machine
end

