-- ==== Sys2Proof/Machine/StwOps.lean ====
section
/-!
DEFINITION. The Steward's shared operations (10): causes and reactions (Tables 10.3, 10.4), Safe Gate Removal, Safe Ramp
Stop, local inhibit, release of ACT_OUT.
-/
namespace Sys2Proof.Machine

namespace Cause

/-- Table 10.3. -/
def sdin0 : Nat := 0x01
/-- Table 10.3. -/
def fieldIn : Nat := 0x03
/-- Table 10.3. -/
def pduDemand : Nat := 0x04
/-- Table 10.3. -/
def pduMismatch : Nat := 0x05
/-- Table 10.3. -/
def pduWatchdog : Nat := 0x06
/-- Table 10.3. -/
def inputTest : Nat := 0x07
/-- Table 10.3. -/
def outputReadback : Nat := 0x08
/-- Table 10.3. -/
def monitorWindow : Nat := 0x09
/-- Table 10.3. -/
def srsEnvelope : Nat := 0x0A
/-- Table 10.3. -/
def srsRequest : Nat := 0x0B
/-- Table 10.3. -/
def missLimit : Nat := 0x10
/-- Table 10.3. -/
def noBoundary : Nat := 0x11
/-- Table 10.3. -/
def notExecuted : Nat := 0x12
/-- Table 10.3. -/
def gdenReadback : Nat := 0x13
/-- Table 10.3. -/
def actReadback : Nat := 0x14
/-- Table 10.3. -/
def analogRef : Nat := 0x15
/-- Table 10.3. -/
def crossCheck : Nat := 0x16
/-- Table 10.3. -/
def junction : Nat := 0x17
/-- Table 10.3. -/
def clockCheck : Nat := 0x18
/-- Table 10.3. -/
def islandSupply : Nat := 0x20
/-- Table 10.3. -/
def lockstep : Nat := 0x21
/-- Table 10.3. -/
def crossfire : Nat := 0x30

end Cause

/-- Steward state (Table 10.2): 0 BOOT, 1 UNARMED, 2 ARMED, 3 INHIBIT, 4 SAFE, 5 FATAL. -/
def State.stwState (s : State) : Nat := s.fld F.STW_STATUS_STATE 0

/-- Change the Steward's own record. -/
def State.modStw (s : State) (f : StwSt → StwSt) : State := { s with stw := f s.stw }

/-- The Steward releases the gates: ARMED, and no remote SGR held (R303, R315). -/
def State.released (s : State) : Bool := s.stwState == 2 && !s.flag F.STW_STATUS_REMOTE_SGR 0

/-- GL_GDEN.STEW_LOW follows the release (R303). -/
def State.applyRelease (s : State) : State := s.setFld F.GL_GDEN_STEW_LOW 0 (if s.released then 0 else 0x3F)

/-- Move the Steward to state n; a change posts EV_STW_STATE (R303). It leaves UNARMED only after a Spur session has stopped
(R518). -/
def State.toStw (s : State) (n : Nat) : State :=
  let old := s.stwState
  if old = n then s
  else (((s.cond (old == 1) fun t => t.spurStop 2).setFld F.STW_STATUS_STATE 0 n).post EV.EV_STW_STATE noUnit (old + 256 * n)).applyRelease

/-- ACT_OUT falls (R274): its readback goes low, and the pair state follows at the next boundary (Table 09.3). -/
def State.releaseAct (s : State) : State :=
  if s.flag F.PAIR_STATUS_ACT_OUT 0 then
    (({ s with pair := { s.pair with actFall := true } }).setFlag F.PAIR_STATUS_ACT_OUT 0 false).postAct false
  else s

/-- The unit is ACTIVE (Table 09.3). -/
def State.isActive (s : State) : Bool := s.fld F.PAIR_STATUS_STATE 0 == 4

/-- The unit is paired and not ACTIVE. -/
def State.otherPaired (s : State) : Bool := s.flag F.PAIR_CFG_PAIR_EN 0 && !s.isActive

/-- ACTIVE with a ready partner (R308). -/
def State.withPartner (s : State) : Bool := s.isActive && s.flag F.PAIR_STATUS_PARTNER_READY 0

/-- Every switching port meets a condition of priority 1 (R61, R313). -/
def State.raiseAll (s : State) (c : PortCond) : State :=
  s.forUnits 12 fun t p => if switchingState (t.pstate p) then t.raise p c else t

/-- SRS_RUN and SRS_PORTS show the ports that ramp (Table 10.11). -/
def State.srsRegs (s : State) : State :=
  (s.setFlag F.STW_STATUS_SRS_RUN 0 (!s.stw.srs.isEmpty)).setFld F.STW_STATUS_SRS_PORTS 0
    ((s.stw.srs.map fun r => 2 ^ r.port).sum)

/-- Both paths of SGR: GDEN falls with the release, an all-OFF HALT leaves every lane, and the ports that switch will enter FAULT
with code SGR (R313); any SRS ends (R309); SGR_DONE waits for its readbacks. -/
def State.removeGates (s : State) : State :=
  ((((s.modStw fun w => { w with srs := [], gdenLow := 0 }).srsRegs).raiseAll .sgr).haltAll).setFlag F.STW_STATUS_SGR_DONE 0 false

/-- Safe Gate Removal by the unit's own decision (R313). -/
def State.sgr (s : State) : State :=
  if s.stw.sgr then s
  else (((s.modStw fun w => { w with sgr := true }).count F.STW_CNT_SGR_CNT 0).toStw 4).removeGates

/-- Local inhibit (R316): GDEN low, direct-pin gate closed; no HALT, no SGR_OUT. -/
def State.localInhibit (s : State) : State :=
  ((s.modStw fun w => { w with inhibit := true }).count F.STW_CNT_INH_CNT 0).toStw 3

/-- The safety configuration's n bytes at offset o. -/
def State.saf (s : State) (o n : Nat) : Nat := leNat (Memory.getMany (fun _ => 0#8) s.stw.cfg o n)

/-- Code c of input n (AIN n, or 48 + SDD) by the scaling copy of the Steward's own tile (R311). -/
def State.srsScaled (s : State) (n c : Nat) : F32 :=
  fAdd (fMul (BitVec.ofNat 32 (s.saf (0x2C0 + 8 * n) 4)) (fOfInt (signed 16 c))) (BitVec.ofNat 32 (s.saf (0x2C4 + 8 * n) 4))

/-- V_mag of port p: the magnitude of the capacitor-voltage space vector (R311). -/
def State.srsVmag (s : State) (p : Nat) : F32 :=
  let v := fun k => let n := s.saf (0x80 + 48 * p + 28 + k) 1; s.srsScaled n (s.fld F.AIN_SAMP_CODE n)
  let c := clarke (v 0) (v 1) (v 2)
  fMag c.1 c.2

/-- Port states from which an SRS demand leads to RAMPDOWN (Table 02.4). -/
def rampable (st : Nat) : Bool := st == 2 || st == 4 || st == 5 || st == 6

/-- The state of port p as the Steward reads it: that of its snapshot (R21). -/
def State.stwPort (s : State) (p : Nat) : Nat := (s.stw.view.getD p (0, 0)).1

/-- Start an SRS of the masked ports, or add them to the one that runs (R309); with no port to ramp, SGR at once. -/
def State.srsStart (s : State) (mask : Nat) (cl : Bool) : State :=
  let new := (List.range 12).filter fun p =>
    bitOf mask p && (rampable (s.stwPort p) || s.stwPort p == PS.rampdown) && !s.stw.srs.any fun r => r.port == p
  let s1 := new.foldl (fun t p => (t.raise p .srsDemand).modPort p fun q => { q with rdCode := if cl then 9 else 8 }) s
  if new.isEmpty then (if s.stw.srs.isEmpty then s.sgr else s)
  else ((s1.modStw fun w => { w with srs := w.srs ++ new.map fun p => ⟨p, cl, s.srsVmag p⟩ }).count F.STW_CNT_SRS_CNT 0).srsRegs

/-- A reaction of Table 10.4, by its code in EV_STW_CAUSE: 0 record, 1 local inhibit, 2 release and inhibit, 3 SRS, 4 SGR,
5 FATAL. -/
def State.react (s : State) (r mask : Nat) (cl : Bool) : State :=
  match r with
  | 1 => s.localInhibit
  | 2 => s.releaseAct.localInhibit
  | 3 => s.srsStart mask cl
  | 4 => s.sgr
  | 5 => (((s.releaseAct.modStw fun w => { w with inhibit := true }).toStw 5).assertReset 1 6)
  | _ => s

/-- Class of a cause (Table 10.3): 0 P, 1 S, 2 U, 3 U*, 4 F, 5 A, 6 SGR always. -/
def causeClass (c : Nat) : Nat :=
  if c = 0x0A then 6 else if c = 0x0B then 1 else if c < 0x0B then 0
  else if c = 0x10 ∨ c = 0x11 ∨ c = 0x12 ∨ c = 0x18 then 3
  else if c < 0x20 then 2 else if c < 0x30 then 4 else 5

/-- The reaction to a cause by its class and the unit's role (Table 10.4). `srs` is the action of a process demand. -/
def State.reactionOf (s : State) (c : Nat) (srs : Bool) : Nat :=
  let k := causeClass c
  if k = 6 then 4
  else if k = 0 then (if !srs then 4 else if s.otherPaired then 0 else 3)
  else if k = 1 then (if s.otherPaired then 0 else 3)
  else if s.withPartner then 2
  else if s.otherPaired then 1
  else if k = 2 then 3 else 4

/-- The reaction that governs (R309): class F in every state, SGR and SRS in ARMED and over a local inhibit, an inhibit only where neither an
inhibit nor a Safe Ramp Stop, which outranks it, is in force; everything else is recorded (Table 10.2). DEDUCED: Table 10.2 lists no way from
INHIBIT to SAFE, R309 has the more restrictive reaction govern (log entry 147). -/
def State.reaction (s : State) (c : Nat) (srs : Bool) : Nat :=
  let k := causeClass c
  let r := s.reactionOf c srs
  if k = 4 then 5
  else if k = 5 || !(s.stwState == 2 || s.stwState == 3) then 0
  else if (r = 1 ∨ r = 2) ∧ (s.stwState = 3 ∨ s.stw.srs ≠ []) then 0
  else r

/-- Every receive connection must accept a pair anew before a reset (R317). -/
def State.needPairs (s : State) : State :=
  s.modStw fun w => { w with rx := (List.range 4).foldl (fun v r => vmod v r fun x => { x with since := false }) w.rx }

/-- The SAF clock of now; DESIGN CHOICE: its edges lie at the multiples of 10 ns of the model's time (log entry 72). -/
def State.safClock (s : State) : Nat := s.now / 80

/-- Raise a cause (R307): latch it as the first, or as the lowest of those of one SAF clock, count it, post EV_STW_CAUSE and react. A reaction of
class U runs an SRS of every switching port. -/
def State.causeWith (s : State) (c : Nat) (srs : Bool) (mask : Nat) (cl : Bool) : State :=
  let f := s.fld F.STW_CAUSE_FIRST 0
  let first := f == 0 || (s.stw.firstAt == some s.safClock && decide (c < f))
  let s1 := s.cond first fun t =>
    ((t.setFld F.STW_CAUSE_FIRST 0 c).setFld F.STW_CAUSE_PNUM 0 (t.pwm.pnum % 65536)).modStw fun w => { w with firstAt := some t.safClock }
  let s2 := ((s1.setFld F.STW_CAUSE_LAST 0 c).count F.STW_CNT_CAUSE_CNT 0).needPairs
  let r := s.reaction c srs
  (s2.post EV.EV_STW_CAUSE noUnit (c + 256 * r)).react r (if causeClass c = 2 then 0xFFF else mask) cl

/-- A cause whose reaction names no ports. -/
def State.cause (s : State) (c : Nat) : State := s.causeWith c false 0xFFF false

/-- Mark a cause's condition as holding, or as ended (R304, R317). -/
def State.setActive (s : State) (c : Nat) (b : Bool) : State :=
  if s.stw.active.contains c == b then s
  else (s.modStw fun w => { w with active := if b then w.active ++ [c] else w.active.filter (· != c) }).needPairs

/-- A cause whose condition begins (`on`) or ends: it is raised at its beginning and active until its end (R304, R307, R317). -/
def State.causeOn (s : State) (c : Nat) (on : Bool) : State := if on then (s.cause c).setActive c true else s.setActive c false

/-- A Safe Ramp Stop request of class S from the CLE or Fencen (R309). -/
def State.srsRequest (s : State) (mask : Nat) (cl : Bool) : State := s.causeWith Cause.srsRequest true mask cl

/-- Legs can leave their off level at all: the Steward's gate is open (R303, R313, R316). -/
def State.gateOpen (s : State) : Bool := s.released && !s.stw.sgr && !s.stw.inhibit

end Sys2Proof.Machine
end

