-- ==== Sys2Proof/Machine/Adc.lean ====
section
/-!
DEFINITION. SAR conversion (05): codes and over-range, timed sequences, urgent requests, free-running conversion, the reference
watch, and the threshold DACs of the window comparators.
-/
namespace Sys2Proof.Machine

/-- One ADC clock in fine steps: 10 ns, or 16 ns from the DLL (R162, R459, R471). -/
def State.adcClock (s : State) : Nat := if s.rateGait = Gait.limp then 128 else 80

/-- t_conv in fine steps: 20 clocks of the ADC, and the start-up delay while Walk is in force (Table 05.2, R155). -/
def State.tConv (s : State) : Nat := 20 * s.adcClock + (if s.gait = Gait.walk then 9600 else 0)

/-- Round n / d to the nearest integer, ties to even. -/
def roundEven (n : Int) (d : Nat) : Int :=
  let q := n / (d : Int)
  let r := n % (d : Int)
  if 2 * r < d then q else if 2 * r > d then q + 1 else if q % 2 = 0 then q else q + 1

/-- The code of one d-th of a voltage in nV, taken at V_FS = 2.5 V (R148). -/
def codeDiv (d : Nat) (nv : Int) : Int := clampInt (-32768) 32767 (roundEven (nv * 32768) (d * 2500000000))

/-- The code of V_diff in nV, taken at V_FS = 2.5 V (R148). DESIGN CHOICE: Table 05.4 lets a converter miss the ideal transfer by an
offset, a gain error, non-linearity and noise within limits; this one has none of them (log 111). -/
def codeOf (nv : Int) : Int := codeDiv 1 nv

/-- The code of an internal channel (R150, Table 05.1). x is the supply's voltage in nV, or for the die temperature T in millionths of a
thousandth of a degree Celsius; the reference, the short and the test level do not ask for it. -/
def internalCode (int : Nat) (x : Int) : Int := match int with
  | 0 => clampInt (-32768) 32767 (8192 + roundEven (64 * (x - 25000000000)) 1000000000)
  | 1 => codeOf 1250000000
  | 2 => codeDiv 2 x
  | 3 => codeDiv 4 x
  | 4 => codeDiv 16 x
  | 5 => codeDiv 2 x
  | 6 => codeDiv 2 x
  | 7 => codeOf 0
  | 8 => codeOf 2000000000
  | _ => codeOf x

/-- OVR of input n at V_diff in nV: beyond the detector threshold of its polarity, which lies from 2.525 V to 2.575 V and is
fixed for the module; never set up to 2.525 V, always from 2.575 V on, and between them open at equality (R166). -/
def ovrOf (n : Nat) (nv : Int) : Bool :=
  let neg := decide (nv < 0)
  let thr := 2525000000 + Config.ovrThr n neg % 50000001
  if nv.natAbs ≤ 2525000000 then false
  else if 2575000000 ≤ nv.natAbs then true
  else if nv.natAbs = thr then Config.ovrAtEq n neg else decide (thr < nv.natAbs)

/-- Input number of a core's input: AIN 0 to 47, or 48 + internal channel. -/
def ainOf (core input int : Nat) : Nat := if input = 2 then 48 + int else 2 * core + input

/-- Core c. -/
def State.core (s : State) (c : Nat) : CoreSt := vget s.adc.cores c

/-- Change core c. -/
def State.modCore (s : State) (c : Nat) (f : CoreSt → CoreSt) : State :=
  { s with adc := { s.adc with cores := vmod s.adc.cores c f } }

/-- BUSY, POWERED and CONT_ACT of a core by its conversion, the gait and CONT (Tables 05.2, 05.8). -/
def State.coreStat (s : State) (c : Nat) : State :=
  let busy := (s.core c).conv.isSome
  let g := s.gait
  let cont := g == Gait.gallop || ((g == Gait.trot || g == Gait.canter || g == Gait.limp) && s.flag F.ADC_CORE_CFG_CONT c)
  ((s.setFlag F.ADC_CORE_STAT_BUSY c busy).setFlag F.ADC_CORE_STAT_POWERED c
    (busy || (g != Gait.paddock && g != Gait.walk))).setFlag F.ADC_CORE_STAT_CONT_ACT c cont

/-- The field f of sequence entry e of core c (ADC_SEQ0 to ADC_SEQ7). -/
def State.seq (s : State) (f : Fld) (c e : Nat) : Nat := s.fld (f.nth e) c

/-- Instant of sequence entry e of core c in fine steps after t_k (R159), moved by a Spur shift (Table 20.2). -/
def State.seqAt (s : State) (c e : Nat) : Int :=
  (32 * s.seq F.ADC_SEQ_OFFSET c e + (if s.seq F.ADC_SEQ_TRIG c e = 1 then s.lPort (s.seq F.ADC_SEQ_PORT c e) else 0) : Nat)
    + 32 * s.spur.samp

/-- That instant as a number; 0 where a shift takes it before t_k. -/
def State.seqInstant (s : State) (c e : Nat) : Nat := (s.seqAt c e).toNat

/-- Entry e of core c converts in the period k after the one in progress: a CLE entry in every period, a host entry when its rate group
releases (R158). -/
def State.seqDueIn (s : State) (k c e : Nat) : Bool :=
  s.seq F.ADC_SEQ_EN c e == 1 && (s.seq F.ADC_SEQ_CLE c e == 1
    || (s.pnumOut + k) % (s.cle.div.getD (s.seq F.ADC_SEQ_RG c e) 1) == 0)

/-- Entry e of core c converts in the period in progress. -/
def State.seqDue (s : State) (c e : Nat) : Bool := s.seqDueIn 0 c e

/-- RELOAD of SPUR_SHIFT in fine steps, while perturbations act. -/
def State.reloadShift (s : State) : Int := if s.spurOn then 32 * signed 12 (s.fld F.SPUR_SHIFT_RELOAD 0) else 0

/-- A sequence instant of core c lies from now to hi - 1 fine steps after now: in this period, or in the next, whose boundary the PERIOD in
force fixes with a pending reload shift (R156, R162). -/
def State.seqWithin (s : State) (c hi : Nat) : Bool :=
  let inside := fun (a : Int) => decide ((s.now : Int) ≤ a) && decide (a < (s.now + hi : Nat))
  (List.range 8).any fun e =>
    let a := (s.pwm.tk : Int) + s.seqInstant c e
    (s.seqDueIn 0 c e && inside a) || (s.seqDueIn 1 c e && inside (a + s.fineP + s.reloadShift))

/-- V_diff of input n as it was last told. -/
def State.vin (s : State) (n : Nat) : Int := Memory.get (fun _ => 0) s.adc.vin n

/-- V_diff of input n is told. -/
def State.setVin (s : State) (n : Nat) (nv : Int) : State :=
  { s with adc := { s.adc with vin := Memory.set (fun _ => 0) s.adc.vin n nv } }

/-- Start a conversion: its hold edge captures nv. -/
def State.hold (s : State) (c input int src : Nat) (cle : Bool) (nv : Int) : State :=
  let s1 := s.cond (input != 2) fun t => t.setVin (ainOf c input int) nv
  (s1.modCore c fun k => { k with conv := some {
    input := input, int := int, src := src, cle := cle, code := if input = 2 then internalCode int nv else codeOf nv
    ovr := input != 2 && ovrOf (ainOf c input int) nv
    startup := s.gait == Gait.walk, pnum := s.pwm.pnum, ofs := s.now - s.pwm.tk, ends := s.now + s.tConv } }).coreStat c

/-- R161: the entry is skipped, counted and posted; a CLE entry's AIN_SAMP shows MISSED. -/
def State.seqMiss (s : State) (c e : Nat) : State :=
  let s1 := (s.count F.ADC_CORE_STAT_SEQ_MISS c).post EV.EV_ADC_SEQ_MISS c e
  s1.cond (s.seq F.ADC_SEQ_CLE c e == 1) fun t =>
    t.setFlag F.AIN_SAMP_MISSED (ainOf c (s.seq F.ADC_SEQ_INPUT c e) (s.seq F.ADC_SEQ_INT c e)) true

/-- HOLD_EDGE (R152, R158, R161): a timed sequence instant arrives; the core captures V_diff, in nV at V_FS = 2.5 V, or the quantity of an
internal channel. A core converts nothing before its offset is calibrated (R151), and no instant comes while the generator counts nothing or
the ADC clock is stopped (R232, R233, R469). -/
def execHoldEdge (core : Fin 24) (entry : Fin 8) (nv : Int) (s : State) : Host.Outcome State Fault Refusal :=
  let c := core.val
  let e := entry.val
  .next (
    if s.gait = Gait.paddock || !s.seqDue c e || s.genHeld || !s.clkOk 5 || !s.flag F.ADC_STATUS_CAL_DONE 0 then s
    else if (s.core c).conv.isSome || decide (s.seqAt c e < 0) || decide ((s.fineP : Int) ≤ s.seqAt c e) then s.seqMiss c e
    else s.hold c (s.seq F.ADC_SEQ_INPUT c e) (s.seq F.ADC_SEQ_INT c e) 0 (s.seq F.ADC_SEQ_CLE c e == 1) nv)

/-- The result registers take a delivered conversion (R152, R167): AIN_LAST always, AIN_SAMP for a CLE entry. -/
def State.deliver (s : State) (c : Nat) (v : Conv) : State :=
  let n := ainOf c v.input v.int
  let code := unsigned 16 v.code
  let s1 := (((((s.setFlag F.AIN_LAST_OVR n v.ovr).setFlag F.AIN_LAST_STARTUP n v.startup).setFld F.AIN_LAST_SRC n v.src).setFld
    F.AIN_LAST_CNT n (s.fld F.AIN_LAST_CNT n + 1)).setFld F.AIN_LAST_PERIOD n v.pnum).setFld F.AIN_LAST_CODE n code
  s1.cond v.cle fun t =>
    (((((t.setFlag F.AIN_SAMP_OVR n v.ovr).setFlag F.AIN_SAMP_STARTUP n v.startup).setFlag F.AIN_SAMP_MISSED n false).setFlag
      F.AIN_SAMP_EMPTY n false).setFld F.AIN_SAMP_PERIOD n v.pnum).setFld F.AIN_SAMP_CODE n code |> fun u =>
        { u with adc := { u.adc with ofs := Memory.set (fun _ => 0) u.adc.ofs n v.ofs } }

/-- R156: a core that converts continuously starts a free-running conversion, unless a sequence instant would block it. -/
def State.freeRun (s : State) (c : Nat) (nv : Int) : State :=
  if s.flag F.ADC_CORE_STAT_CONT_ACT c && s.clkOk 5 && s.flag F.ADC_STATUS_CAL_DONE 0 && !s.seqWithin c s.tConv && (s.core c).urg.isNone then
    s.hold c (s.fld F.ADC_CORE_CFG_CONT_IN c) 0 2 false nv
  else s

/-- The core can convert what the request names (R165). -/
def urgentOk (c input int : Nat) : Bool := input < 2 || (input == 2 && c == 23 && int < 9)

/-- t_r of a request that arrives now: the first ADC clock edge strictly after it (R162). -/
def State.urgentEdge (s : State) : Nat :=
  let clk := s.adcClock
  s.now + clk - (s.now + clk - Config.adcPhase (s.rateGait == Gait.limp) % clk) % clk

/-- R162: an urgent request that reaches core c now is accepted. At t_r no conversion runs: one in progress has delivered by then and no
free-running one has followed it, no sequence instant lies from now to t_r, and none in (t_r, t_r + t_acq + t_conv]. -/
def State.urgentTaken (s : State) (c : Nat) : Bool :=
  let tr := s.urgentEdge
  let idle := match (s.core c).conv with
    | none => true
    | some v => decide (v.ends ≤ tr) && !s.flag F.ADC_CORE_STAT_CONT_ACT c
  s.gait != Gait.paddock && s.clkOk 5 && s.flag F.ADC_STATUS_CAL_DONE 0 && idle && !s.seqWithin c (tr - s.now + 4 * s.adcClock + s.tConv + 1)

/-- An urgent request of source src, in the order PWM event, HLP, host (R162, R164, R165): accepted, or dropped and counted; a core from 24
to 31 is ignored. Of the requests of one ADC clock the first in that order is taken, and one it displaces is dropped. -/
def State.urgent (s : State) (c input int src : Nat) : State :=
  if c ≥ 24 then s
  else
    let drop := fun (t : State) => t.count F.ADC_CORE_STAT_URG_DROP c
    let take := fun (t : State) => t.modCore c fun k => { k with urg := some ⟨input, int, src, s.urgentEdge⟩ }
    if !urgentOk c input int then drop s
    else match (s.core c).urg with
    | some u => if u.tr = s.urgentEdge ∧ src < u.src then drop (take s) else drop s
    | none => if s.urgentTaken c then take s else drop s

/-- URGENT_HOLD_EDGE (R163): four conversion clocks after it was recognised, the accepted request holds its input. -/
def execUrgentHoldEdge (core : Fin 24) (nv : Int) (s : State) : Host.Outcome State Fault Refusal :=
  .next (match (s.core core).urg with
    | none => s
    | some u =>
      if (s.core core).conv.isSome || !s.clkOk 5 then s
      else (s.modCore core fun k => { k with urg := none }).hold core u.input u.int 1 false nv)

/-- REF_FAULT (R149): while ADC_REFIN is the reference. -/
def execRefFault (s : State) : Host.Outcome State Fault Refusal :=
  .next (if s.flag F.ADC_STATUS_REF_EXT 0 && !s.flag F.ADC_STATUS_REF_FAULT 0 then
      (((s.setFlag F.ADC_STATUS_REF_FAULT 0 true).post EV.EV_ADC_REF noUnit 0).setActive Cause.analogRef true).cause
        Cause.analogRef
    else s)

/-- REF_FAULT_CLEAR (R149). -/
def execRefFaultClear (s : State) : Host.Outcome State Fault Refusal :=
  .next ((s.setFlag F.ADC_STATUS_REF_FAULT 0 false).setActive Cause.analogRef false)

/-- OFFSET_CALIBRATION_DONE (R151). -/
def execOffsetCalibrationDone (s : State) : Host.Outcome State Fault Refusal :=
  .next (s.setFlag F.ADC_STATUS_CAL_DONE 0 true)

/-! ### Window comparators -/

/-- V_thr of a DAC code, in nV times 2 048 (R170). -/
def thrOf (c : Int) : Int := (c - 2048) * 2500000000

/-- h of CMP_CFG.HYST in DAC LSB (Table 05.4). -/
def State.hyst (s : State) (n : Nat) : Nat := [0, 4, 8, 16].getD (s.fld F.CMP_CFG_HYST n) 0

/-- V_diff lies beyond the threshold of one comparator of input n: above the upper, below the lower (R171). DESIGN CHOICE: Table 05.4 lets
a threshold lie 2 DAC LSB off; this one does not (log 111). -/
def State.beyond (s : State) (n : Nat) (upper : Bool) (nv : Int) : Bool :=
  if upper then decide (thrOf (s.fld F.CMP_STAT_THR_HI n) < nv * 2048) else decide (nv * 2048 < thrOf (s.fld F.CMP_STAT_THR_LO n))

/-- V_diff has passed back through the threshold less the hysteresis (R171). -/
def State.passedBack (s : State) (n : Nat) (upper : Bool) (nv : Int) : Bool :=
  if upper then decide (nv * 2048 < thrOf ((s.fld F.CMP_STAT_THR_HI n : Int) - s.hyst n))
  else decide (thrOf ((s.fld F.CMP_STAT_THR_LO n : Int) + s.hyst n) < nv * 2048)

/-- The comparators of input n are to be evaluated afresh. -/
def State.markFresh (s : State) (n : Nat) : State :=
  { s with adc := { s.adc with reeval := s.adc.reeval.filter (· != n) ++ [n] } }

/-- Load the pair of codes into the threshold DACs of input n (R173, R174): an inverted pair loads lower = upper. Each output
is evaluated afresh in the same clock (R171). -/
def State.loadThr (s : State) (n hi lo : Nat) : State :=
  let inv := decide (hi < lo)
  let s1 := (s.setFld F.CMP_STAT_THR_HI n hi).setFld F.CMP_STAT_THR_LO n (if inv then hi else lo)
  (((s1.cond inv fun t => t.setFlag F.CMP_STAT_INV n true).setFlag F.CMP_STAT_OUT_HI n false).setFlag F.CMP_STAT_OUT_LO n false).markFresh n

/-- Load the ceiling codes of input n (R73, R172). -/
def State.loadCeiling (s : State) (n : Nat) : State :=
  s.loadThr n (s.fld F.CMP_CFG_CEIL_HI n) (s.fld F.CMP_CFG_CEIL_LO n)

/-- DAC code of a threshold i in input units with the scaling pair g, o: upper rounds up, lower rounds down (R170). -/
def dacCode (g o i : F32) (upper : Bool) : Nat :=
  let c := fDiv (fDiv (fSub i o) g) 0x41800000#32
  let v := if upper then -(fFloor (fNegate c) 0 (-100000) 100000) else fFloor c 0 (-100000) 100000
  (clampInt 0 4095 (v + 2048)).toNat

end Sys2Proof.Machine
end

