-- ==== Sys2Proof/Machine/PortCoef.lean ====
section
/-!
DEFINITION. Port coefficient blocks (R545 to R547, Tables 02.2, 02.9, 02.10, 04.2): reading a word of the active bank with
its default, and checking a block by its rules.
-/
namespace Sys2Proof.Machine

/-- One row of a block: word, default (the unset pattern for a required word), least and greatest value, integer. -/
structure CoefRow where
  word : Nat
  dflt : Word
  lo : F32
  hi : F32
  int : Bool
  deriving DecidableEq, Repr

/-- Rows of Table 02.9 with a range, part 0. The bounds of the governor default to the nominal words, see `acWord`. -/
def acRows0 : List CoefRow := [
  ⟨2, 0x42480000, 0x42340000, 0x42820000, false⟩,
  ⟨3, 0x40000000, 0x3D4CCCCD, 0x41A00000, false⟩,
  ⟨4, 0x42200000, 0x00000000, 0x43FA0000, false⟩,
  ⟨5, 0x3CF5C28F, 0x3A83126F, 0x3DCCCCCD, false⟩,
  ⟨6, 0x3D4CCCCD, 0x00000000, 0x3E4CCCCD, false⟩,
  ⟨7, 0x3CA3D70A, 0x3A83126F, 0x3E4CCCCD, false⟩,
  ⟨8, 0x3F70A3D7, 0x3F59999A, 0x3F800000, false⟩,
  ⟨9, 0x3F87AE14, 0x3F800000, 0x3F933333, false⟩,
  ⟨10, 0x3F000000, 0x00000000, 0x3F800000, false⟩,
  ⟨11, 0x3F933333, 0x3F800000, 0x3FA66666, false⟩,
  ⟨12, 0x3CA3D70A, 0x00000000, 0x3F000000, false⟩,
  ⟨13, 0x3DCCCCCD, 0x00000000, 0x3F800000, false⟩,
  ⟨14, 0x7FC00000, 0x3C23D70A, 0x3F000000, false⟩,
  ⟨15, 0x7FC00000, 0x00000000, 0x3F000000, false⟩,
  ⟨16, 0x7FC00000, 0x358637BD, 0x3C23D70A, false⟩,
  ⟨17, 0x7FC00000, 0x00000000, 0x41A00000, false⟩,
  ⟨18, 0x7FC00000, 0x00000000, 0x459C4000, false⟩,
  ⟨19, 0x3F800000, 0x00000000, 0x3F800000, false⟩,
  ⟨20, 0x7FC00000, 0x00000000, 0x40A00000, false⟩,
  ⟨21, 0x7FC00000, 0x00000000, 0x44FA0000, false⟩,
  ⟨22, 0x3F99999A, 0x3F000000, 0x40400000, false⟩,
  ⟨23, 0x3DCCCCCD, 0x00000000, 0x3F800000, false⟩]

/-- Rows of Table 02.9 with a range, part 1. The bounds of the governor default to the nominal words, see `acWord`. -/
def acRows1 : List CoefRow := [
  ⟨24, 0x3F000000, 0x00000000, 0x40000000, false⟩,
  ⟨25, 0x3CA3D70A, 0x3A83126F, 0x3DCCCCCD, false⟩,
  ⟨26, 0x3E19999A, 0x3CA3D70A, 0x3F800000, false⟩,
  ⟨27, 0x3DCCCCCD, 0x00000000, 0x3F000000, false⟩,
  ⟨28, 0x40000000, 0x3F000000, 0x40800000, false⟩,
  ⟨29, 0x41000000, 0x3F800000, 0x437F0000, true⟩,
  ⟨30, 0x3D4CCCCD, 0x3A83126F, 0x3F800000, false⟩,
  ⟨31, 0x3E4CCCCD, 0x3C23D70A, 0x40A00000, false⟩,
  ⟨33, 0x3F000000, 0x3C23D70A, 0x41200000, false⟩,
  ⟨34, 0x3DCCCCCD, 0x3CA3D70A, 0x3E99999A, false⟩,
  ⟨35, 0x3DCCCCCD, 0x3CA3D70A, 0x3E99999A, false⟩,
  ⟨36, 0x3CA3D70A, 0x3A83126F, 0x3E4CCCCD, false⟩,
  ⟨37, 0x40A00000, 0x40400000, 0x42480000, true⟩,
  ⟨38, 0x40A00000, 0x3DCCCCCD, 0x41F00000, false⟩,
  ⟨39, 0x3D4CCCCD, 0x3C23D70A, 0x3DCCCCCD, false⟩,
  ⟨40, 0x3B03126F, 0x3A03126F, 0x3C23D70A, false⟩,
  ⟨41, 0x40A00000, 0x3F800000, 0x41A00000, false⟩,
  ⟨42, 0x3F000000, 0x3CA3D70A, 0x40000000, false⟩,
  ⟨43, 0x40000000, 0x00000000, 0x41200000, false⟩,
  ⟨44, 0x3727C5AC, 0x358637BD, 0x38D1B717, false⟩,
  ⟨45, 0x3C23D70A, 0x3A83126F, 0x3DCCCCCD, false⟩,
  ⟨46, 0x3B03126F, 0x3A03126F, 0x3BA3D70A, false⟩]

/-- Rows of Table 02.9 with a range, part 2. The bounds of the governor default to the nominal words, see `acWord`. -/
def acRows2 : List CoefRow := [
  ⟨47, 0x41200000, 0x3F800000, 0x42700000, false⟩,
  ⟨49, 0x7FC00000, 0x00000000, 0x41200000, false⟩,
  ⟨50, 0x7FC00000, 0x00000000, 0x447A0000, false⟩,
  ⟨51, 0x3D4CCCCD, 0x3C23D70A, 0x3F000000, false⟩,
  ⟨52, 0x3F4CCCCD, 0x3F000000, 0x3F800000, false⟩,
  ⟨53, 0x3F99999A, 0x3F800000, 0x3FC00000, false⟩,
  ⟨54, 0x7FC00000, 0x3DCCCCCD, 0x42C80000, false⟩,
  ⟨55, 0x7FC00000, 0x00000000, 0x447A0000, false⟩,
  ⟨56, 0x7FC00000, 0x40000000, 0x41C80000, true⟩,
  ⟨57, 0x7FC00000, 0x00000000, 0x447A0000, false⟩,
  ⟨58, 0x7FC00000, 0x40000000, 0x41C80000, true⟩,
  ⟨59, 0x7FC00000, 0x00000000, 0x447A0000, false⟩,
  ⟨60, 0x7FC00000, 0x40000000, 0x41C80000, true⟩,
  ⟨61, 0x7FC00000, 0x00000000, 0x447A0000, false⟩,
  ⟨62, 0x7FC00000, 0x40000000, 0x41C80000, true⟩,
  ⟨63, 0x7FC00000, 0x00000000, 0x447A0000, false⟩,
  ⟨64, 0x7FC00000, 0x40000000, 0x41C80000, true⟩,
  ⟨65, 0x7FC00000, 0x00000000, 0x447A0000, false⟩,
  ⟨66, 0x7FC00000, 0x40000000, 0x41C80000, true⟩,
  ⟨67, 0x7FC00000, 0x00000000, 0x447A0000, false⟩,
  ⟨68, 0x00000000, 0x00000000, 0x3F800000, true⟩,
  ⟨69, 0x3BA3D70A, 0x3B03126F, 0x3CA3D70A, false⟩]

/-- Rows of Table 02.9 with a range, part 3. The bounds of the governor default to the nominal words, see `acWord`. -/
def acRows3 : List CoefRow := [
  ⟨70, 0x3F800000, 0x3F800000, 0x46FFFE00, true⟩,
  ⟨71, 0x3F800000, 0x3F800000, 0x41800000, true⟩,
  ⟨72, 0x3F19999A, 0x3DCCCCCD, 0x3F7D70A4, false⟩,
  ⟨73, 0x40000000, 0x00000000, 0x40000000, true⟩,
  ⟨74, 0x42200000, 0x00000000, 0x43FA0000, false⟩,
  ⟨75, 0x42200000, 0x00000000, 0x43FA0000, false⟩,
  ⟨76, 0x3CA3D70A, 0x00000000, 0x3F000000, false⟩,
  ⟨77, 0x3CA3D70A, 0x00000000, 0x3F000000, false⟩,
  ⟨78, 0x3DCCCCCD, 0x00000000, 0x3F800000, false⟩,
  ⟨79, 0x3DCCCCCD, 0x00000000, 0x3F800000, false⟩,
  ⟨80, 0x3F000000, 0x3DCCCCCD, 0x3FC00000, false⟩,
  ⟨81, 0x3E4CCCCD, 0x3D4CCCCD, 0x3F800000, false⟩,
  ⟨82, 0x3D4CCCCD, 0x3C23D70A, 0x3E4CCCCD, false⟩,
  ⟨83, 0x3E19999A, 0x00000000, 0x3FC00000, false⟩,
  ⟨84, 0x40000000, 0x3FC00000, 0x41200000, false⟩,
  ⟨85, 0x3DCCCCCD, 0x3C23D70A, 0x3F800000, false⟩,
  ⟨86, 0x00000000, 0x00000000, 0x3F800000, true⟩]

/-- Rows of Table 02.9 with a range. -/
def acRows : List CoefRow := acRows0 ++ acRows1 ++ acRows2 ++ acRows3

/-- Rows of Table 02.10 with a range. -/
def dcRows : List CoefRow := [
  ⟨2, 0x7FC00000, 0x358637BD, 0x3C23D70A, false⟩,
  ⟨3, 0x7FC00000, 0x00000000, 0x40A00000, false⟩,
  ⟨4, 0x7FC00000, 0x00000000, 0x44FA0000, false⟩,
  ⟨5, 0x7FC00000, 0x00000000, 0x41A00000, false⟩,
  ⟨6, 0x7FC00000, 0x00000000, 0x459C4000, false⟩,
  ⟨7, 0x3E19999A, 0x3CA3D70A, 0x3F800000, false⟩,
  ⟨8, 0x3DCCCCCD, 0x00000000, 0x3F000000, false⟩,
  ⟨9, 0x40000000, 0x3F000000, 0x40800000, false⟩,
  ⟨10, 0x41000000, 0x3F800000, 0x437F0000, true⟩]

/-- The active bank: 0 A, 1 B. -/
def State.bankNo (s : State) : Nat := s.fld F.COEF_STATUS_ACTIVE_B 0

/-- The word at a byte offset of a bank; no word stands beyond the bank or off a word boundary. -/
def State.bankWord (s : State) (b off : Nat) : Word :=
  if off % 4 = 0 ∧ off + 4 ≤ 65536 then Memory.get (fun _ => 0#32) (vget s.coef.bank b) (off / 4) else 0#32

/-- The word at a byte offset of the active bank. -/
def State.cw (s : State) (off : Nat) : Word := s.bankWord s.bankNo off

/-- Word w of the block of port p in bank b, as it stands. -/
def State.blockRaw (s : State) (b p w : Nat) : Word := s.bankWord b ((s.port p).cfg.coefBase + 4 * w)

/-- The default of word w of an AC block; the unset pattern for a required word. The governor's bounds default to the
nominal words, which the caller reads. -/
def acDefault (w : Nat) : Word :=
  if w = 32 ∨ w = 48 then 0#32 else match acRows.find? fun r => r.word == w with
    | some r => r.dflt
    | none => unsetWord

/-- The default of word w of a DC block. -/
def dcDefault (w : Nat) : Word := match dcRows.find? fun r => r.word == w with
  | some r => r.dflt
  | none => unsetWord

/-- The nominal word that a governor bound defaults to (Table 04.2). -/
def nominalOf (w : Nat) : Nat := if w < 76 then 4 else if w < 78 then 12 else 13

/-- Word w of the block of port p in bank b, with its default (R547). -/
def State.blockWord (s : State) (b p w : Nat) : Word :=
  let x := s.blockRaw b p w
  if x != unsetWord then x
  else if p ≥ 4 then dcDefault w
  else if 74 ≤ w ∧ w ≤ 79 then
    let n := s.blockRaw b p (nominalOf w)
    if n != unsetWord then n else acDefault (nominalOf w)
  else acDefault w

/-- Word w of the block of port p in the active bank, with its default. -/
def State.pw (s : State) (p w : Nat) : Word := s.blockWord s.bankNo p w

/-- Sensors of port p. -/
def State.sensN (s : State) (p : Nat) : Nat := (s.port p).cfg.sensors.length

/-- First scaling word of the block of port p. -/
def scaleBase (p : Nat) : Nat := if p < 4 then 96 else 16

/-- CL_TYPE of port p: 1 PR. -/
def State.clPr (s : State) (p : Nat) : Bool := bitOf (s.port p).cfg.flags 1

/-- Words of port p's block whose unset pattern leaves the port unable to be armed (R547). -/
def State.requiredWords (s : State) (p : Nat) : List Nat :=
  let c := (s.port p).cfg
  let sens := (List.range (2 * c.sensors.length)).map fun i => scaleBase p + i
  if p < 4 then
    [0, 1, 14, 15, 16, 17, 18, 20, 21, 49, 50] ++ (if s.clPr p then [54, 55] else [])
      ++ (List.range (2 * c.nres)).map (fun i => 56 + i) ++ sens
  else [0, 1, 2, 3, 4, 5, 6] ++ sens

/-- A required word of the block of port p in bank b is unset. -/
def State.blockUnset (s : State) (b p : Nat) : Bool :=
  (s.requiredWords p).any fun w => s.blockRaw b p w == unsetWord

/-- A set word lies outside its row's range, or is not finite, or not an integer where it must be (R547). -/
def rowBad (r : CoefRow) (x : Word) : Bool :=
  x != unsetWord && (!fFinite x || fLt x r.lo || fLt r.hi x || (r.int && !fEq x (fOfInt (fToInt x 0 (-65536) 65536))))

/-- R59, R136, R547: the block of port p in bank b breaks its rules. -/
def State.blockBad (s : State) (b p : Nat) : Bool :=
  let raw := s.blockRaw b p
  let w := s.blockWord b p
  let base := [0, 1].any fun i => raw i != unsetWord && (!fFinite (raw i) || !fLt 0#32 (raw i))
  let sens := (List.range (2 * s.sensN p)).any fun i =>
    raw (scaleBase p + i) != unsetWord && !fFinite (raw (scaleBase p + i))
  let tmax := raw 32 != unsetWord &&
    (!fFinite (raw 32) || !(fEq (raw 32) 0#32 || (fLe 0x3DCCCCCD#32 (raw 32) && fLe (raw 32) 0x42700000#32)))
  let th0 := raw 48 != unsetWord && (!fFinite (raw 48) || fLt (raw 48) 0#32 || !fLt (raw 48) f1)
  let bounds := fLt (w 4) (w 74) || fLt (w 75) (w 4) || fLt (w 12) (w 76) || fLt (w 77) (w 12) || fLt (w 13) (w 78)
    || fLt (w 79) (w 13) || !fLt (w 82) (w 81) || fLt (w 80) (w 81)
  base || sens || (if p < 4 then tmax || th0 || bounds || acRows.any (fun r => rowBad r (raw r.word))
    else dcRows.any fun r => rowBad r (raw r.word))

/-- Length in bytes of the block of port p (R545, R546). -/
def State.blockLen (s : State) (p : Nat) : Nat := (if p < 4 then 384 else 64) + 8 * s.sensN p

/-- Bridges of an AC port, legs of a DC port. -/
def State.units (s : State) (p : Nat) : Nat :=
  let c := (s.port p).cfg
  if c.topology = 5 then c.count else if p < 4 then 1 else c.count

/-- Base topology 1 to 4 of an AC port. -/
def State.baseTop (s : State) (p : Nat) : Nat :=
  let c := (s.port p).cfg
  if c.topology = 5 then c.base else c.topology

/-- Current sensors: three for each bridge, or one for each DC leg (R51). -/
def State.nCur (s : State) (p : Nat) : Nat := if p < 4 then 3 * s.units p else s.units p

/-- DC-link sensors: two on a three-level port. -/
def State.nLink (s : State) (p : Nat) : Nat := if p < 4 ∧ 3 ≤ s.baseTop p then 2 else 1

/-- The port has bus-side voltage sensors (R51, Table 14.3's sensor order). -/
def State.hasBus (s : State) (p : Nat) : Bool := decide (p < 4) && s.sensN p == s.nCur p + 3 + s.nLink p + 3

/-- Legs of one bridge by topology (Table 02.1). -/
def bridgeLegs (top : Nat) : Nat := if top = 1 then 3 else if top = 2 then 4 else if top = 3 then 6 else 8

end Sys2Proof.Machine
end

