-- ==== Sys2Proof/Machine/SigmaDelta.lean ====
section
/-!
DEFINITION. Sigma-delta inputs (06): sinc decimation, the fractional resampler, restarts and UNSETTLED.
-/
namespace Sys2Proof.Machine

/-- Input i. -/
def State.sdIn (s : State) (i : Nat) : SdIn := vget s.sd.inp i

/-- Change input i. -/
def State.modSd (s : State) (i : Nat) (f : SdIn → SdIn) : State := { s with sd := { s.sd with inp := vmod s.sd.inp i f } }

/-- Running sums of a list. -/
def cumSum : Int → List Int → List Int
  | _, [] => []
  | a, x :: r => (a + x) :: cumSum (a + x) r

/-- Multiply a polynomial by 1 + z^-1 + … + z^-(m-1). -/
def boxMul (m : Nat) (l : List Int) : List Int :=
  let z := List.replicate m 0
  (cumSum 0 (List.zipWith (· - ·) (l ++ z) (z ++ l))).take (l.length + m - 1)

/-- Coefficients of (1 + z^-1 + … + z^-(m-1))^n (R180). -/
def sincCoef (m : Nat) : Nat → List Int
  | 0 => [1]
  | n + 1 => boxMul m (sincCoef m n)

/-- y_n times M^N for bits newest first; bits before a restart count as 0 (R180). -/
def sincOut (m n : Nat) (bits : List Bool) : Int :=
  (List.zipWith (fun c b => if b then c else -c) (sincCoef m n) bits).sum

/-- The longest run of identical bits. -/
def maxRun (l : List Bool) : Nat :=
  (l.foldl (fun (a : Nat × Nat × Option Bool) b =>
    let r := if a.2.2 == some b then a.2.1 + 1 else 1
    (max a.1 r, r, some b)) (0, 0, none)).1

/-- Profile and group of input i, and the profile's M, N, J. -/
def State.sdProf (s : State) (i : Nat) : Nat := s.fld F.SD_CFG_PROF i
/-- M of input i's profile. -/
def State.sdM (s : State) (i : Nat) : Nat := s.fld (F.SD_PROF_DECIM.nth (s.sdProf i)) 0
/-- N of input i's profile. -/
def State.sdN (s : State) (i : Nat) : Nat := s.fld (F.SD_PROF_ORDER.nth (s.sdProf i)) 0 + 1
/-- DIV2 of group g. -/
def State.sdDiv (s : State) (g : Nat) : Nat := s.fld (F.SD_GRP_DIV2.nth g) 0

/-- (A^T A)^-1 of R184 times 6 348 888. -/
def lsq : List (List Int) := [[4113018, 1972425, 253890, 9555], [1972425, 1464535, 222525, 9149],
  [253890, 222525, 36549, 1575], [9555, 9149, 1575, 70]]

/-- Tap j of phase p with horizon J (R184), rounded to FP32: v(J + p/64) (A^T A)^-1 times row j of A. -/
def tap (jh p j : Nat) : F32 :=
  let e : Int := 64 * jh + p
  let v : List Int := [64 * 64 * 64, 64 * 64 * e, 64 * e * e, e * e * e]
  let x : Int := -(j : Int)
  let a : List Int := [1, x, x * x, x * x * x]
  let num := ((List.zipWith (fun vi row => vi * (List.zipWith (· * ·) row a).sum) v lsq)).sum
  fOfRat num (6348888 * 64 * 64 * 64)

/-- The coefficient tile of a profile of horizon J (R184): 64 phases of 16 taps. -/
def profTile (jh : Nat) : List Word := (List.range 1024).map fun k => tap jh (k / 16) (k % 16)

/-- CRC-32C of a profile tile. -/
def profCrc (l : List Word) : Word := crc32c (l.flatMap fun w => leBytes 4 w.toNat)

/-- The tile of profile k agrees with the directory. -/
def State.profOk (s : State) (k : Nat) : Bool := (vget s.sd.tiles k).isEmpty || profCrc (vget s.sd.tiles k) == vget s.sd.dirs k

/-- Fencen computes the tile of profile k from its horizon, and its CRC (R184, R185). -/
def State.makeProf (s : State) (k : Nat) : State :=
  let l := profTile (s.fld (F.SD_PROF_J.nth k) 0)
  { s with sd := { s.sd with tiles := vmod s.sd.tiles k fun _ => l, dirs := vmod s.sd.dirs k fun _ => profCrc l } }

/-- Tap j of phase p of profile k. -/
def State.profTap (s : State) (k p j : Nat) : F32 := (vget s.sd.tiles k).getD (16 * p + j) 0#32

/-- Restart input i at the instant t0 (R188): taps and accumulators clear, block 1 begins, and the divider of a driven group restarts.
Events of one PWM clock are one restart. -/
def State.sdRestart (s : State) (t0 i : Nat) : State :=
  let g := s.fld F.SD_CFG_GRP i
  let again := match (s.sdIn i).t0 with
    | some t => decide (t0 < t + 32)
    | none => false
  let s1 := (s.modSd i fun _ => { t0 := some t0 }).cond (s.fld (F.SD_GRP_MODE.nth g) 0 == 1) fun t =>
    { t with sd := { t.sd with divAt := vmod t.sd.divAt g fun _ => t0 } }
  s1.cond (!again) fun t => t.count F.SD_STAT_RESTART_CNT i

/-- Restart every enabled input at the instant t0. -/
def State.sdRestartAll (s : State) (t0 : Nat) : State :=
  s.forUnits 32 fun t i => if t.flag F.SD_CFG_EN i then t.sdRestart t0 i else t

/-- CLK_LOSS or CLK_FREQ of input i is set. -/
def State.sdClkErr (s : State) (i : Nat) : Bool := s.flag F.SD_STAT_CLK_LOSS i || s.flag F.SD_STAT_CLK_FREQ i

/-- Set a clock flag on every input of group g; its rising edge posts EV_SD_CLK (R191). -/
def State.sdClkFlag (s : State) (f : Fld) (g bits : Nat) : State :=
  let ins := (List.range 32).filter fun i => s.flag F.SD_CFG_EN i && s.fld F.SD_CFG_GRP i == g
  if ins.any fun i => !s.flag f i then
    (ins.foldl (fun t i => t.setFlag f i true) s).post EV.EV_SD_CLK g bits
  else s

/-- SD_CLOCK_LOSS (R178, R191). -/
def execSdClockLoss (grp : Fin 8) (s : State) : Host.Outcome State Fault Refusal :=
  let freq := (List.range 32).any fun i => s.fld F.SD_CFG_GRP i == grp.val && s.flag F.SD_STAT_CLK_FREQ i
  .next (if s.gait == Gait.paddock then s else s.sdClkFlag F.SD_STAT_CLK_LOSS grp (1 + 2 * b2n freq))

/-- SD_CLOCK_FREQ (R178, R191): a received clock only. -/
def execSdClockFreq (grp : Fin 8) (s : State) : Host.Outcome State Fault Refusal :=
  let loss := (List.range 32).any fun i => s.fld F.SD_CFG_GRP i == grp.val && s.flag F.SD_STAT_CLK_LOSS i
  .next (if s.fld (F.SD_GRP_MODE.nth grp) 0 = 1 || s.gait == Gait.paddock then s
    else s.sdClkFlag F.SD_STAT_CLK_FREQ grp (2 + b2n loss))

/-- First rising or falling edge of the driven clock of group g that samples data, after a restart of its divider (R178): the pin rises 2 ns
after the restart and falls half a period later. DESIGN CHOICE: with an odd DIV2 the high half is the shorter one by 2 ns (log 120). -/
def State.sdFirst (s : State) (g : Nat) : Nat :=
  vget s.sd.divAt g + 16 + (if s.fld (F.SD_GRP_EDGE.nth g) 0 = 1 then 16 * (s.sdDiv g / 2) else 0)

/-- The first sampling edge of group g after now, where the device drives its clock; a received clock's next edge is not told, and now
stands for it (log 120). -/
def State.sdNext (s : State) (g : Nat) : Nat :=
  if s.fld (F.SD_GRP_MODE.nth g) 0 = 1 then
    let base := s.sdFirst g
    let clk := max 1 (16 * s.sdDiv g)
    if s.now < base then base else base + ((s.now - base) / clk + 1) * clk
  else s.now

/-- SD_CLOCK_CLEAR (R191): both flags clear, and the group's inputs that carried one restart at the first sampling edge after (Table 06.1). -/
def execSdClockClear (grp : Fin 8) (s : State) : Host.Outcome State Fault Refusal :=
  .next (if s.gait == Gait.paddock then s else s.forUnits 32 fun t i =>
    if t.flag F.SD_CFG_EN i && t.fld F.SD_CFG_GRP i == grp.val && t.sdClkErr i then
      (((t.setFlag F.SD_STAT_CLK_LOSS i false).setFlag F.SD_STAT_CLK_FREQ i false)).sdRestart (s.sdNext grp) i
    else t)

/-- A step at output d: |y_d - y_(d-1)| 32 768 > 256 STEP_THR (R190). -/
def isStep (thr mn : Nat) (a b : Int) : Bool := thr != 0 && decide (256 * thr * mn < (a - b).natAbs * 32768)

/-- Instant of the sampling edge of input i that has just come (R181, R183): in drive mode from the divider count, whose pin rises 2 ns after
the restart and falls half a period later; in receive mode the edge's timestamp, in whole PWM clocks. -/
def State.sdEdge (s : State) (i : Nat) : Nat :=
  let g := s.fld F.SD_CFG_GRP i
  let d := s.sdDiv g
  if s.fld (F.SD_GRP_MODE.nth g) 0 = 1 then
    let base := s.sdFirst g
    if s.now < base then s.now else base + (s.now - base) / max 1 (16 * d) * (16 * d)
  else s.now - (s.now - s.pwm.tk) % 32

/-- DECIMATED_OUTPUT (R180, R190): a block of M bits, oldest first, closes now. -/
def execDecimatedOutput (inp : Fin 32) (bits : List Bool) (s : State) : Host.Outcome State Fault Refusal :=
  let i := inp.val
  let m := s.sdM i
  let n := s.sdN i
  let d := s.sdIn i
  .next (
    if !s.flag F.SD_CFG_EN i || s.gait == Gait.paddock || s.sdClkErr i || bits.length != m then s
    else
      let all := bits.reverse ++ d.bits
      let y := sincOut m n all
      let k := d.n + 1
      let step := isStep (s.fld (F.SD_PROF_STEP_THR.nth (s.sdProf i)) 0) (m ^ n) y (d.outs.headD 0)
      let used := all.take (n * (m - 1) + 1)
      let edge := s.sdEdge i
      let s1 := s.modSd i fun d => { d with
        outs := (y :: d.outs).take 40, n := k, e := if step then k else d.e, bits := used
        runs := (maxRun used :: d.runs).take 40, close := (edge :: d.close).take 40 }
      s1.cond step fun t => t.count F.SD_STAT_STEP_CNT i)

/-- Word w of context i's RAM (R94). -/
def State.ramWord (s : State) (i w : Nat) : Word := Memory.get (fun k => if k % 64 = 0 then 0xF000#32 else 0#32) s.cle.ram (64 * i + w)

/-- Enabled contexts that bind sigma-delta input i (R95). -/
def State.sdContexts (s : State) (i : Nat) : List Nat :=
  (List.range 63).filter fun c => bitOf (s.ramWord c 12).toNat 31 && (List.range 8).any fun b =>
    fieldOf (s.ramWord c (1 + b)) 31 28 == 2 && fieldOf (s.ramWord c (1 + b)) 27 20 == i

/-- Ports whose bindings read sigma-delta input i: a sensor of the PORT record, or an enabled context of the port; 15 for a context of
no port. -/
def State.sdReaders (s : State) (i : Nat) : List Nat :=
  let own := s.sdContexts i |>.map fun c => fieldOf (s.ramWord c 0) 15 12
  ((List.range 12).filter fun p => own.contains p || (s.port p).cfg.sensors.any fun w =>
    fieldOf w 31 28 == 2 && fieldOf w 27 20 == i) ++ (if own.contains 15 then [15] else [])

/-- Sample instant of input i in the period in progress, moved by a Spur shift (Table 20.2). -/
def State.sdInstant (s : State) (i : Nat) : Nat :=
  let l := match s.sdReaders i with
    | p :: _ => if p < 12 then s.lPort p else 0
    | [] => 0
  ((s.pwm.tk + l : Nat) + 32 * s.spur.samp).toNat

/-- Index in `outs` of n*: the newest output whose reference instant is at most t_s - J T_d (R183). All in fine steps. -/
def selectOut (close : List Nat) (ts tau td jh : Nat) : Option Nat :=
  close.findIdx? fun c => c + jh * td ≤ ts + tau

/-- Delivery of input i (R183, R186, R190 to R192). Where n* lies before output 1 its taps are the 0 they were cleared to (R188). -/
def State.sdDeliver (s : State) (i : Nat) : State :=
  let d := s.sdIn i
  let m := s.sdM i
  let n := s.sdN i
  let prof := s.sdProf i
  let clk := 16 * s.sdDiv (s.fld F.SD_CFG_GRP i)
  let td := m * clk
  let tau := n * (m - 1) * clk / 2
  let jh := s.fld (F.SD_PROF_J.nth prof) 0
  let ts := s.sdInstant i
  let idx := (selectOut d.close ts tau td jh).getD d.n
  let nstar := d.n - idx
  let tn := d.close.getD idx 0
  let off := ts + tau - (tn + jh * td)
  let p := min 63 (roundEven ((64 * off : Nat) : Int) (max td 1)).toNat
  let y := (List.range 16).foldl (fun acc j =>
    fAdd acc (fMul (s.profTap prof p j) (fOfRat (d.outs.getD (idx + j) 0) (m ^ n)))) 0#32
  let raw := fToIntEven y 15 (-(2 ^ 40 : Nat)) (2 ^ 40 : Nat)
  let code := clampInt (-32768) 32767 raw
  let run := s.fld (F.SD_PROF_OVR_RUN.nth prof) 0
  let ovr := decide (code ≠ raw) || (run != 0 && decide (run ≤ d.runs.getD idx 0))
  let uns := decide (nstar < d.e + n + 15) || bitOf s.sd.badProf prof || s.sdClkErr i
  (((((s.setFlag F.SD_RES_OVR i ovr).setFlag F.SD_RES_UNSETTLED i uns).setFlag F.SD_RES_CLKERR i (s.sdClkErr i)).setFlag
    F.SD_RES_EMPTY i false).setFld F.SD_RES_PERIOD i s.pwm.pnum).setFld F.SD_RES_CODE i (unsigned 16 code)

/-- RESAMPLE_DELIVERY (R186). -/
def execResampleDelivery (inp : Fin 32) (s : State) : Host.Outcome State Fault Refusal :=
  .next (if s.flag F.SD_CFG_EN inp && s.gait != Gait.paddock then s.sdDeliver inp else s)

/-- A port whose bindings read an enabled input is in a switching state (R189). -/
def State.sdInUse (s : State) : Bool :=
  (List.range 32).any fun i => s.flag F.SD_CFG_EN i && (s.sdReaders i).any fun p => decide (p < 12) && switchingState (s.pstate p)

/-- SDSYNC_ACCEPT (R188, R189). -/
def execSdsyncAccept (s : State) : Host.Outcome State Fault Refusal :=
  .next (if s.gait == Gait.paddock then s
    else if s.sdInUse && !s.flag F.SD_CTRL_PIN_FORCE 0 then
      (s.count F.SD_CTRL_SYNC_IGN 0).post EV.EV_SD_SYNC_IGN noUnit 0
    else s.sdRestartAll s.now)

/-- PROFILE_TILE_REWRITE (R185): Fencen recomputes and rewrites the tile; it verifies again and UNSETTLED ends. -/
def execProfileTileRewrite (prof : Fin 4) (s : State) : Host.Outcome State Fault Refusal :=
  let s := s.cond (!(vget s.sd.tiles prof).isEmpty) fun t => t.makeProf prof
  .next { s with
    sd := { s.sd with badProf := s.sd.badProf - (if bitOf s.sd.badProf prof then 2 ^ prof.val else 0) }
    coef := { s.coef with badTiles := s.coef.badTiles.filter fun x => x != (3, prof.val) } }

/-- SD_SYNC (R189): the restart comes at the first RG0 boundary after acceptance, where the command completes. -/
def execSdSync (tag : Fin 128) (s : State) : Host.Outcome State Fault Refusal :=
  serve 0x0108 tag s fun _ => if s.sdInUse then s.done tag FS.FS_PORT_STATE else s.start tag

/-- The boundary at which a waiting SD_SYNC restarts every enabled input. -/
def State.sdSyncBoundary (s : State) : State :=
  match s.waitingOp 0x0108 with
  | none => s
  | some e => if s.atBoundary e then (s.sdRestartAll s.pwm.tk).doneAt e.tag FS.FS_OK else s

end Sys2Proof.Machine
end

