-- ==== Sys2Proof/Machine/PwmCore.lean ====
section
/-!
DEFINITION. The PWM generator's shared operations (07): programs of a leg from its width W (Table 07.2), the edges delivered in
a period, truncation, trip groups, and the reload that applies bundles.
-/
namespace Sys2Proof.Machine

/-- Leg n. -/
def State.leg (s : State) (n : Nat) : LegSt := vget s.pwm.legs n

/-- Change leg n. -/
def State.modLeg (s : State) (n : Nat) (f : LegSt → LegSt) : State :=
  { s with pwm := { s.pwm with legs := vmod s.pwm.legs n f } }

/-- Change the generator's own record. -/
def State.modPwm (s : State) (f : PwmSt → PwmSt) : State := { s with pwm := f s.pwm }

/-! ### From W to the two channels' programs -/

/-- A leg's settings in a period, in fine steps. -/
structure LegIn where
  P : Nat
  W : Nat
  mode : Nat
  phase : Nat
  dtTop : Nat
  dtBot : Nat
  minp : Nat
  pol : Nat
  forced : Bool
  deriving DecidableEq, Repr

/-- The program of a channel on for `width` steps of the circle from `start` (R212). -/
def chanProg (P start width : Nat) : Program :=
  if width = 0 then {}
  else if P ≤ width then { start := true, edges := [] }
  else if P < start + width then { start := true, edges := [(start + width - P, false), (start, true)] }
  else
    let off := if start + width < P then [(start + width, false)] else []
    if start = 0 then { start := true, edges := off } else { start := false, edges := (start, true) :: off }

/-- Ideal switch S before phase: (turn-on a, width), by the carrier mode (R201). -/
def placeS (P W mode : Nat) : Nat :=
  if mode = 0 then 0 else if mode = 1 then P - W else (P - W) / 2

/-- S after the phase and after EXTEND (R202, R214): start, width, and whether a pulse was widened. -/
def shapeS (i : LegIn) : Nat × Nat × Bool :=
  let W := min i.W i.P
  let a := placeS i.P W i.mode + i.phase * i.P / 65536
  if i.pol = 1 ∧ 0 < i.minp then
    if 0 < W ∧ W < i.dtTop + i.minp then (a % i.P, i.dtTop + i.minp, true)
    else if W < i.P ∧ i.P < W + i.dtBot + i.minp then
      let w := i.P - i.dtBot - i.minp
      ((a + W - w) % i.P, w, true)
    else (a % i.P, W, false)
  else (a % i.P, W, false)

/-- Stages 4 and 5 without the boundary rule: top program, bottom program, pulses dropped or widened (R212, R214). -/
def shapeLeg (i : LegIn) : Program × Program × Nat :=
  let (as, w, ext) := shapeS i
  let wt := if i.P ≤ w then i.P else w - i.dtTop
  let wb := if w = 0 then i.P else i.P - w - i.dtBot
  let dropT := i.pol = 0 ∧ 0 < wt ∧ wt < i.minp
  let dropB := i.pol = 0 ∧ 0 < wb ∧ wb < i.minp ∧ ¬i.forced
  (if dropT then {} else chanProg i.P ((as + i.dtTop) % i.P) wt,
   if dropB then {} else chanProg i.P ((as + w + i.dtBot) % i.P) wb,
   (if dropT then 1 else 0) + (if dropB then 1 else 0) + b2n ext)

/-- The boundary rule for one channel (R213): `since` is the time from the partner's last turn-off to the reload (0 while it was
on at the end of the period), none when the partner has not been on. The flag tells that a start pulse was removed. A start that is delayed
to the end of the period or beyond has no edge in it (R244). -/
def boundaryRule (P : Nat) (g : Program) (dt : Nat) (since : Option Nat) : Program × Bool :=
  match since with
  | none => (g, false)
  | some t =>
    if g.start = false ∨ dt ≤ t then (g, false)
    else
      let d := dt - t
      match g.edges with
      | [] => ({ start := false, edges := if d < P then [(d, true)] else [] }, false)
      | (e, _) :: [] => if e ≤ d then ({ start := false, edges := [] }, true)
          else ({ start := false, edges := [(d, true), (e, false)] }, false)
      | _ :: on :: _ => ({ start := false, edges := [on] }, true)

/-- A program whose edges at the reload itself give its level at the start. -/
def Program.atStart (start : Bool) (edges : List (Nat × Bool)) : Program :=
  { start := (((edges.filter fun e => e.1 == 0).getLast?).map (·.2)).getD start, edges := edges.filter fun e => decide (0 < e.1) }

/-- A program after the skew of its channel (stage 6, R200). -/
structure Skewed where
  prog : Program
  /-- Fine steps by which the change of level at the reload comes before it. -/
  early : Nat := 0
  /-- Edges the skew moves past the end of the period, from the next reload on. -/
  spill : List (Nat × Bool) := []
  deriving DecidableEq, Repr

/-- Shift the edges of a direct-pin channel by its skew (stage 6), a change of level at the reload among them: `was` is the level before the
reload and `carry` the edges that the period before has moved past it. A trim is the same for every edge, also where it crosses a reload. -/
def skewProg (P : Nat) (k : Int) (was : Bool) (carry : List (Nat × Bool)) (g : Program) : Skewed :=
  let lvl := ((carry.getLast?).map (·.2)).getD was
  let edges : List (Int × Bool) := (if g.start == lvl then g.edges else (0, g.start) :: g.edges).map fun e => ((e.1 : Int) + k, e.2)
  let first := edges.filter fun e => decide (e.1 ≤ 0)
  let keep := (edges.filter fun e => decide (0 < e.1) && decide (e.1 ≤ (P : Int))).map fun e => (e.1.toNat, e.2)
  let past := (edges.filter fun e => decide ((P : Int) < e.1)).map fun e => ((e.1 - (P : Int)).toNat, e.2)
  let start := ((first.getLast?).map (·.2)).getD was
  { prog := .atStart start (carry ++ keep), early := ((first.getLast?).map fun e => (-e.1).toNat).getD 0, spill := past }

/-- Whole PWM clocks only (R200). -/
def coarseProg (g : Program) : Program := .atStart g.start (g.edges.map fun e => (e.1 / 32 * 32, e.2))

/-- The intervals in which a channel is on. -/
def onIntervals (P : Nat) : Nat → Bool → List (Nat × Bool) → List (Nat × Nat)
  | from0, lvl, [] => if lvl && from0 < P then [(from0, P)] else []
  | from0, lvl, (t, b) :: r =>
    (if lvl && from0 < t then [(from0, t)] else []) ++ onIntervals P t b r

/-- The on-intervals of a program. -/
def Program.on (P : Nat) (g : Program) : List (Nat × Nat) := onIntervals P 0 g.start g.edges

/-- The first fine step in which both channels are on, if any (R221). -/
def firstOverlap (P : Nat) (t b : Program) : Option Nat :=
  ((t.on P).flatMap fun x => (b.on P).filterMap fun y =>
    let lo := max x.1 y.1
    if lo < min x.2 y.2 then some lo else none).min?

/-- A program cut off from instant c on. -/
def cutProg (c : Nat) (g : Program) : Program :=
  let kept := g.edges.takeWhile fun e => e.1 < c
  let lvl := (kept.getLast?.map (·.2)).getD g.start
  if c = 0 then {} else { g with edges := kept ++ (if lvl then [(c, false)] else []) }

/-! ### Edges delivered within a period -/

/-- The partner of a channel truncated at `cut` turns on one dead time after the channel turned off, and not before the truncation (R74), when
it is not truncated itself; `trunc` stands only on a leg that runs. -/
def partnerOn (trunc other on : Bool) (off cut : Option Nat) (dt upto : Nat) : Option Nat :=
  let t := max (cut.getD 0) ((off.map (· + dt)).getD 0)
  if trunc && !other && !on && decide (t ≤ upto) then some t else none

/-- A leg takes one top edge at an absolute instant. -/
def LegSt.topEdge (l : LegSt) (t : Nat) (on : Bool) : LegSt :=
  if on then (if l.truncTop then l else { l with topOn := true })
  else if l.truncBot then l
  else if l.topOn then { l with topOn := false, topOff := some t } else l

/-- A leg takes one bottom edge at an absolute instant; an on-time of at least t_refresh is credited (R218). -/
def LegSt.botEdge (l : LegSt) (ref t : Nat) (on : Bool) : LegSt :=
  if on then (if l.truncBot || l.botOn then l else { l with botOn := true, botSince := t })
  else if l.truncTop then l
  else if l.botOn then
    { l with botOn := false, botOff := some t, refreshed := l.refreshed || decide (l.botSince + ref ≤ t) }
  else l

/-- A leg takes its edges up to `upto` fine steps into its period (R211, R74). -/
def LegSt.take (l : LegSt) (dtTop dtBot ref upto : Nat) : LegSt :=
  let tk := l.at0
  let due := fun (g : Program) => g.edges.filter fun e => l.done < e.1 && e.1 ≤ upto
  let l1 := (due l.top).foldl (fun l e => l.topEdge (tk + e.1) e.2) l
  let l2 := (due l.bot).foldl (fun l e => l.botEdge ref (tk + e.1) e.2) l1
  let l3 := match partnerOn (l2.run && l2.truncTop) l2.truncBot l2.botOn l2.topOff l2.truncAt dtBot (tk + upto) with
    | some t => { l2 with botOn := true, botSince := t }
    | none => l2
  let l4 := match partnerOn (l3.run && l3.truncBot) l3.truncTop l3.topOn l3.botOff l3.truncAt dtTop (tk + upto) with
    | some _ => { l3 with topOn := true }
    | none => l3
  { l4 with done := max l.done upto }

/-- Fine steps of leg n's period that the generator has counted: none while it is frozen or has no clock (R232, R233). -/
def State.legClock (s : State) (n : Nat) : Nat := s.pwm.frozenAt.getD s.now - (s.leg n).at0

/-- Leg n takes its edges up to `upto` fine steps into its period. -/
def State.takeEdges (s : State) (n upto : Nat) : State :=
  s.modLeg n fun l => l.take (s.fld F.LEG_DT_DT_TOP n) (s.fld F.LEG_DT_DT_BOT n) (32 * s.fld F.LEG_PULSE_REF_T n) upto

/-- Both channels of a leg go off now, for the rest of the period (trip, crossfire, gate removal). -/
def LegSt.cut (l : LegSt) (ref now : Nat) : LegSt :=
  let l1 := { l with truncTop := false, truncBot := false }
  let l2 := (l1.topEdge now false).botEdge ref now false
  { l2 with top := {}, bot := {}, run := false, spillTop := [], spillBot := [] }

/-- Drive both channels of leg n off. -/
def State.legOff (s : State) (n : Nat) : State := s.modLeg n fun l => l.cut (32 * s.fld F.LEG_PULSE_REF_T n) s.now

/-! ### HALT -/

/-- TAG of a HALT of leg n: the low four bits of its port's period number; until t_k + L_port the port is in the period before
(R250, R251). -/
def State.haltTag (s : State) (n : Nat) : Nat :=
  let l := match s.portOfLeg n with
    | some p => s.lPort p
    | none => 0
  (if s.now < s.pwm.tk + l then s.pnumOut - 1 else s.pnumOut) % 16

/-- Halt the channels of the Gate Link legs among `legs` (R251 to R254): code 1 the top, 2 the bottom, 3 both. A paired unit that
does not drive ACT_OUT high sends none (R276), and a lane that is DOWN is idle (Table 08.8). -/
def State.haltLegs (s : State) (legs : List Nat) (code : Nat → Nat) : State :=
  if s.flag F.PAIR_CFG_PAIR_EN 0 && !s.flag F.PAIR_STATUS_ACT_OUT 0 then s
  else s.forUnits 6 fun t l =>
    let on := legs.filter fun n => s.flag F.LEG_CFG_GL n && s.fld F.LEG_CFG_LANE n == l && s.fld F.LANE_STAT_STATE l != 0
    (on.map s.haltTag).eraseDups.foldl (fun u tag =>
      u.haltLane l tag (((on.filter fun n => s.haltTag n == tag).map fun n => code n * 4 ^ s.fld F.LEG_CFG_SLOT n).foldl (· ||| ·) 0)) t

/-! ### Comparators, trip pins and trip groups -/

/-- Input n feeds trip group g (R224). -/
def State.ainInGroup (s : State) (g n : Nat) : Bool :=
  s.flag F.TG_CFG_EN g && bitOf (s.fld F.TG_AIN_LO_ALL g + 2 ^ 32 * s.fld F.TG_AIN_HI_ALL g) n

/-- Legs of trip group g. -/
def State.groupLegs (s : State) (g : Nat) : List Nat :=
  (List.range 48).filter fun n => bitOf (s.fld F.TG_LEGS_LO_ALL g + 2 ^ 32 * s.fld F.TG_LEGS_HI_ALL g) n

/-- Blanking of group g is open (R225, R226). -/
def State.blanked (s : State) (g : Nat) : Bool := bitOf s.pwm.blank (s.fld F.TG_CFG_WT_SEL g)

/-- One comparator of input n is masked: blanking of the group it is a source of is open (R224, R226). -/
def State.masked (s : State) (n : Nat) (upper : Bool) : Bool := (List.range 8).any fun g =>
  s.ainInGroup g n && s.flag (if upper then F.TG_CFG_UP_EN else F.TG_CFG_LO_EN) g && s.blanked g

/-- Active sources of group g (R224), comparators among them unless they are blanked: AIN n as n, TRIPp as 0x40 + p. -/
def State.groupSources (s : State) (g : Nat) (blank : Bool) : List Nat :=
  if !s.flag F.TG_CFG_EN g then [] else
  let ains := if blank then [] else (List.range 48).filter fun n => s.ainInGroup g n
    && ((s.flag F.TG_CFG_UP_EN g && s.flag F.CMP_STAT_OUT_HI n) || (s.flag F.TG_CFG_LO_EN g && s.flag F.CMP_STAT_OUT_LO n))
  ains ++ ((List.range 8).filter fun p => bitOf s.pwm.pins p && bitOf (s.fld F.TG_CFG_PIN_MASK g) p).map (0x40 + ·)

/-- Active unmasked sources of group g (R226). -/
def State.groupActive (s : State) (g : Nat) : List Nat := s.groupSources g (s.blanked g)

/-- Recompute the active sources of every group, keeping the order in which they became active (R227). -/
def State.refreshGroups (s : State) : State :=
  s.forUnits 8 fun t g =>
    let act := t.groupActive g
    let old := (vget t.pwm.srcs g).filter act.contains
    let new := old ++ act.filter fun x => !old.contains x
    (t.modPwm fun w => { w with srcs := vmod w.srcs g fun _ => new }).setFlag F.TG_STAT_ACTIVE g (!new.isEmpty)

/-- Legs whose pulses a crossing on input n cuts: the legs of the port's current sensor that reads it (R74). A three-level phase
has two legs. -/
def State.legsOfAin (s : State) (n : Nat) : List Nat :=
  (List.range 12).flatMap fun p =>
    let c := (s.port p).cfg
    let per := if p < 4 then bridgeLegs (s.baseTop p) else 1
    let wide := if p < 4 ∧ 3 ≤ s.baseTop p then 2 else 1
    (List.range (s.nCur p)).flatMap fun j =>
      let w := c.sensors.getD j 0
      if fieldOf w 31 28 == 1 && fieldOf w 27 20 == n then
        let at0 := if p < 4 then (j / 3) * per + (j % 3) * wide else j
        (c.legs.drop at0).take wide
      else []

/-- Truncate the top (upper crossing) or the bottom (lower crossing) of leg n for the rest of the period (R74). A leg that is not driven, or
that a latch holds off, has no pulse to end and stays off (R211, R227). -/
def State.truncLeg (s : State) (n : Nat) (upper : Bool) : State :=
  if !(s.leg n).run then s else
  let s1 := s.takeEdges n (s.legClock n)
  let ref := 32 * s.fld F.LEG_PULSE_REF_T n
  s1.modLeg n fun l =>
    let cut := some (l.truncAt.getD s.now)
    if upper then
      if l.truncBot then { l.cut ref s.now with truncTop := true, truncBot := true, truncAt := cut }
      else { l.topEdge s.now false with truncTop := true, truncAt := cut }
    else
      if l.truncTop then { l.cut ref s.now with truncTop := true, truncBot := true, truncAt := cut }
      else { l.botEdge ref s.now false with truncBot := true, truncAt := cut }

/-- HALT code of leg n after a crossing (R253): both channels once the leg has been truncated on both sides in the period. -/
def State.crossCode (s : State) (upper : Bool) (n : Nat) : Nat :=
  if (s.leg n).truncTop && (s.leg n).truncBot then 3 else if upper then 1 else 2

/-- The observer of port p sees an envelope crossing in the RG0 period in progress (R134). -/
def State.obsCrossed (s : State) (p : Nat) : State := { s with obs := vmod s.obs p fun o => { o with crossed := true } }

/-- A crossing on a sensor of port p (R77, R79): the first of a counted period makes it a hit, and restarts CURLIM at full R_cl and
X_cl. The observer sees each (R134). -/
def State.portHit (s0 : State) (p : Nat) : State :=
  let q := s0.port p
  let s := s0.cond q.switching fun t => t.obsCrossed p
  if q.hit || !q.switching then s
  else (s.modPort p fun q => { q with hit := true }).cond q.counted fun t =>
    ((t.count F.PORT_ENV_HIT_CNT p).count F.PORT_ENV_RUN_LEN p).cond (t.pstate p == PS.curlim) fun u =>
      (u.modPort p fun q => { q with clRamp := none, quiet := 0 }).setFlag F.PORT_STATUS_CL_RAMP p false

/-- An unmasked crossing on input n acts (R74, R77): truncation of the bound legs of an envelope-bound input, and a hit. Without the PWM
clock none passes through the generator (R233). -/
def State.crossingActs (s : State) (n : Nat) (upper : Bool) : State :=
  if !s.flag F.CMP_CFG_SRC n || !s.clkOk 4 then s else
  let legs := s.legsOfAin n
  let s1 := legs.foldl (fun t m => t.truncLeg m upper) s
  (s1.haltLegs (legs.filter fun m => (s.leg m).run) (s1.crossCode upper)).portHit (s.fld F.CMP_CFG_PORT n)

/-- Comparator outputs exist for the input: enabled, and not in Paddock (R169, R175). -/
def State.cmpLive (s : State) (n : Nat) : Bool := s.flag F.CMP_CFG_EN n && s.gait != Gait.paddock

/-- The output of one comparator of an input. -/
def outOf (upper : Bool) : Fld := if upper then F.CMP_STAT_OUT_HI else F.CMP_STAT_OUT_LO

/-- An output of input n rises (R171, R74, R175): it is latched and counted, and unless it is masked it truncates and counts as a hit; the
trip group of the input sees it. -/
def State.cmpRise (s : State) (n : Nat) (upper : Bool) : State :=
  let lat := if upper then F.CMP_STAT_LAT_HI else F.CMP_STAT_LAT_LO
  let cnt := if upper then F.CMP_CNT_HI_CNT else F.CMP_CNT_LO_CNT
  let s1 := ((s.setFlag (outOf upper) n true).setFlag lat n true).count cnt n
  (if s1.masked n upper then s1 else s1.crossingActs n upper).refreshGroups

/-- The outputs of input n evaluated against a new threshold, without hysteresis (R171). -/
def State.cmpNow (s : State) (n : Nat) : State :=
  if !s.cmpLive n then s
  else
    let t := s.cond (s.beyond n true (s.vin n)) fun u => u.cmpRise n true
    t.cond (t.beyond n false (t.vin n)) fun u => u.cmpRise n false

/-- Every input whose thresholds have changed in this clock is evaluated afresh (R171, R75). -/
def State.cmpAfresh (s : State) : State :=
  (s.adc.reeval.foldl State.cmpNow { s with adc := { s.adc with reeval := [] } }).refreshGroups

/-- Open the blanking windows of the timers that satisfy f (R225): masked comparator sources stop being active. -/
def State.openBlanking (s : State) (f : Nat → Bool) : State :=
  let m := ((List.range 8).filter f).foldl (fun b w => if bitOf b w then b else b + 2 ^ w) s.pwm.blank
  (s.modPwm fun w => { w with blank := m }).refreshGroups

/-- A leg is held off by a latch: a tripped group, a crossfire or a gate-driver fault (R223, R227, R262). -/
def State.latched (s : State) (n : Nat) : Bool :=
  s.flag F.LEG_STAT_CROSSFIRE n || s.flag F.LEG_STAT_TRIPPED n || s.flag F.GL_LEG_STAT_FAULT n

/-- The crossfire latch of leg n (R223). -/
def State.crossfire (s : State) (n : Nat) : State :=
  ((((s.setFlag F.LEG_STAT_CROSSFIRE n true).count F.LEG_STAT_XF_CNT n).post EV.EV_PWM_CROSSFIRE n 0).cause
    Cause.crossfire).raiseLeg n .crossfire

/-! ### Reload -/

/-- A Gate Link leg switches only while its lane is UP (R266). -/
def State.legUp (s : State) (n : Nat) : Bool := !s.flag F.LEG_CFG_GL n || s.fld F.LANE_STAT_STATE (s.fld F.LEG_CFG_LANE n) == 4

/-- Leg n switches: its port is in a switching state, or it is under manual access (R207), and its lane allows it. -/
def State.legSwitching (s : State) (n : Nat) : Bool :=
  s.legUp n && ((match s.portOfLeg n with
    | some p => switchingState (s.pstate p)
    | none => false) || (s.leg n).manual)

/-- Leg n may leave its off level: its port has started to switch, or it is under manual access, and its lane allows it. -/
def State.legDriven (s : State) (n : Nat) : Bool :=
  s.legUp n && ((match s.portOfLeg n with
    | some p => switchingState (s.pstate p) && (s.port p).switching
    | none => false) || (s.leg n).manual)

/-- Settings of leg n for a period of P fine steps and width W. -/
def State.legIn (s : State) (n P W : Nat) (forced : Bool) : LegIn := {
  P := P, W := W, mode := s.fld F.LEG_CFG_MODE n, phase := s.fld F.LEG_CFG_PHASE n
  dtTop := s.fld F.LEG_DT_DT_TOP n, dtBot := s.fld F.LEG_DT_DT_BOT n
  minp := s.fld F.LEG_PULSE_MINP n, pol := s.fld F.LEG_CFG_MINP_POL n, forced := forced }

/-- W of a forced period (R218, stage 3). -/
def forcedW (W P ref dtBot : Nat) : Nat := min W (P - ref - dtBot)

/-- Time from a channel's last turn-off to the reload at instant t: 0 while it is on. -/
def sinceOff (on : Bool) (off : Option Nat) (t : Nat) : Option Nat :=
  if on then some 0 else off.map fun o => t - o

/-- Leg n follows the reload of its Gate Link port (R225, R250). -/
def State.ownReload (s : State) (n : Nat) : Bool := s.flag F.LEG_CFG_GL n && (s.portOfLeg n).isSome

/-- Instant at which leg n's period starts when the RG0 period starts at t: on a Gate Link port L_port later (R225, R250). -/
def State.legStart (s : State) (n t : Nat) : Nat := match s.portOfLeg n with
  | some p => if s.flag F.LEG_CFG_GL n then t + s.lPort p else t
  | none => t

/-- Counts that fall due when leg n's period ends at t: a refresh, or one more period without (R218); a truncated period (R74). -/
def State.endPeriodLeg (s : State) (n t : Nat) : State :=
  let ref := 32 * s.fld F.LEG_PULSE_REF_T n
  let s1 := s.takeEdges n (t - (s.leg n).at0)
  let l := s1.leg n
  let tr := l.truncTop || l.truncBot
  let fresh := l.refreshed || (l.botOn && decide (l.botSince + ref ≤ t))
  let s2 := s1.modLeg n fun l => { l with refCount := if fresh then 0 else l.refCount + 1, refreshed := false }
  ((s2.cond tr fun u => u.count F.LEG_CNT_TRUNC_CNT n).setFlag F.LEG_STAT_TRUNC n tr).setFlag F.LEG_STAT_REF_FORCED n l.forced

/-- Stage 7 for leg n (R221, R222): direct-pin channels are cut from the clock of an overlap, a Gate Link program with overlap is
sent with both channels off. -/
def guardProgs (gl : Bool) (P : Nat) (t b : Program) : Program × Program × Bool :=
  match firstOverlap P t b with
  | none => (t, b, false)
  | some x => if gl then ({}, {}, true) else (cutProg (x / 32 * 32) t, cutProg (x / 32 * 32) b, true)

/-- Form the programs of leg n for the period that starts at t with W (Table 07.2, stages 2 to 8). -/
def State.formLeg (s : State) (n t W : Nat) : State :=
  let P := s.fineP
  let l := s.leg n
  let ref := 32 * s.fld F.LEG_PULSE_REF_T n
  let dtT := s.fld F.LEG_DT_DT_TOP n
  let dtB := s.fld F.LEG_DT_DT_BOT n
  let forced := s.flag F.LEG_CFG_BOOTSTRAP n && decide (s.fld F.LEG_PULSE_REF_K n ≤ l.refCount)
  let w := if forced then forcedW (min W P) P ref dtB else min W P
  let gl := s.flag F.LEG_CFG_GL n
  let run := s.legDriven n && !s.latched n
  let (t0, b0, mp) := shapeLeg (s.legIn n P w forced)
  let (t1, bt) := boundaryRule P t0 dtT (sinceOff l.botOn l.botOff t)
  let (b1, bb) := boundaryRule P b0 dtB (sinceOff l.topOn l.topOff t)
  let fine := fun g => if s.pwm.everLocked then g else coarseProg g
  let skT := if gl then { prog := t1 } else skewProg P (signed 4 (s.fld F.LEG_TRIM_SKEW_TOP n)) l.topOn l.spillTop t1
  let skB := if gl then { prog := b1 } else skewProg P (signed 4 (s.fld F.LEG_TRIM_SKEW_BOT n)) l.botOn l.spillBot b1
  let (t3, b3, xf) := guardProgs gl P (fine skT.prog) (fine skB.prog)
  let top := if run then t3 else {}
  let bot := if run then b3 else {}
  let l0 := { l with truncTop := false, truncBot := false }
  let l1 := l0.topEdge (if run then t - skT.early else t) top.start
  let l2 := l1.botEdge ref (if run then t - skB.early else t) bot.start
  let s1 := s.modLeg n fun _ => { l2 with
    spillTop := if run then skT.spill else [], spillBot := if run then skB.spill else []
    w := W, run := run, top := top, bot := bot, forced := run && forced, done := 0, at0 := t, truncAt := none }
  let s2 := (s1.setFld F.LEG_CMP_ACT_ALL n w).setFlag F.LEG_STAT_SWITCHING n (s.legSwitching n)
  let s3 := s2.cond run fun u => (u.countN F.LEG_STAT_MINP_CNT n mp).countN F.LEG_STAT_BND_CNT n (b2n bt + b2n bb)
  s3.cond (run && xf) fun u => u.crossfire n

/-- A bundle that may be applied at the boundary that starts period number k: complete on time by the boundary before it, or
late and one boundary older (R204). -/
def Bundle.ready (k : Nat) (b : Bundle) : Bool := decide (b.stamp + (if b.late then 2 else 1) ≤ k)

/-- The newest ready bundle of each unit, in the order of their commits (R203). -/
def newestBundles (k : Nat) (l : List Bundle) : List Bundle :=
  (l.filter fun b => b.ready k).foldl (fun acc b => (acc.filter fun x => x.unit != b.unit) ++ [b]) []

/-- The PERIOD bundles carry: the newest commit that has one (R196, R203). -/
def bundlesPeriod (l : List Bundle) : Option Nat := (l.filterMap (·.period)).getLast?

/-- LATE of legs (R204). -/
def State.lateLegs (s : State) (l : List Nat) : State :=
  l.foldl (fun t n => (t.setFlag F.LEG_STAT_LATE n true).count F.LEG_CNT_LATE_CNT n) s

/-- Envelope codes of the applied bundles load now, or wait for t_k + L_port (R34). -/
def State.applyEnv (s : State) (b : Bundle) : State :=
  if b.gl then s.modPwm fun w => { w with
    envNext := (w.envNext.filter fun x => x.1 != b.unit) ++ b.env.map fun e => (b.unit, e.1, e.2.1, e.2.2) }
  else b.env.foldl (fun t e => t.loadThr e.1 e.2.1 e.2.2) s

/-- What an applied bundle settles beside its values: the average voltages applied from now on (R72), and whether the port's envelope of
the period was computed (R77); on a Gate Link port that period begins at its own reload (R250). -/
def State.noteBundle (s : State) (b : Bundle) : State :=
  if b.unit < 12 then { s with ports := vmod s.ports b.unit fun q => { q with
    counted := if b.gl then q.counted else b.comp, countedNext := b.comp, uNow := b.us } }
  else s

/-- Apply bundles: PERIOD, then each leg's W with its clamp to P (R209, R210), then the envelope codes. -/
def State.applyBundles (s : State) (bs : List Bundle) : State :=
  let s1 := match bundlesPeriod bs with
    | none => s
    | some p => s.setFld F.PWM_PERIOD_ALL 0 p
  let ws := bs.flatMap (·.ws)
  let s2 := ws.foldl (fun t x => t.modLeg x.1 fun l => { l with w := x.2 }) s1
  let s3 := s2.forUnits 48 fun t n =>
    if t.fineP < (t.leg n).w then (t.modLeg n fun l => { l with w := t.fineP }).setFlag F.LEG_STAT_MISMATCH n true else t
  bs.foldl State.noteBundle (bs.foldl State.applyEnv s3)

/-- The bundles in force at the reload of period k (R203, R207, R208), with HELD and PDSKEW. After a held period a port's newer bundle replaces
its held one; of the host's manual commits the newest W of each leg and the newest PERIOD hold, whichever commit they stand in. -/
def State.reloadBundles (s : State) (k : Nat) : State :=
  let new := newestBundles k s.pwm.bundles
  let keep := s.pwm.bundles.filter fun b => !b.ready k
  let s1 := s.modPwm fun w => { w with bundles := keep }
  if !s.pwm.held.isEmpty then
    let merged := (s.pwm.held.filter fun b => !new.any fun x => x.unit == b.unit && b.unit < 12) ++ new
    ((s1.modPwm fun w => { w with held := [] }).setFlag F.PWM_GSTAT_HELD 0 false).applyBundles merged
  else match bundlesPeriod new with
    | none => s1.applyBundles new
    | some p =>
      let skew := p != s.period && (List.range 48).any fun n => s.legSwitching n && !(new.flatMap (·.ws)).any fun x => x.1 == n
      let hold := skew && s.flag F.PWM_CTRL_HOLD_PERIOD 0
      let s2 := s1.cond skew fun t => ((t.setFlag F.PWM_GSTAT_PDSKEW 0 true).count F.PWM_GSTAT_PDSKEW_CNT 0).post
        EV.EV_PWM_PDSKEW noUnit (p + 2 ^ 32 * b2n hold)
      let s2 := s2.modPwm fun w => { w with skew := w.skew || skew }
      if hold then (s2.modPwm fun w => { w with held := new }).setFlag F.PWM_GSTAT_HELD 0 true
      else s2.applyBundles new

/-- Legs whose TRIPPED latch was cleared are released at the reload (R227). -/
def State.releaseLegs (s : State) : State :=
  s.forUnits 48 fun t n => if (t.leg n).relPend then
    (t.setFlag F.LEG_STAT_TRIPPED n false).modLeg n fun l => { l with relPend := false } else t

/-- The delay code in force changes only at a reload (R198, R199). -/
def State.reloadDelayCode (s : State) : State :=
  s.setFld F.DL_STAT_DL_CODE 0
    (if s.flag F.DL_CTRL_CAL_HOLD 0 then s.fld F.DL_CTRL_TRIM_CODE 0 else s.fld F.DL_STAT_CAL_CODE 0)

/-- Codes of port p that wait for t_k + L_port load (R34, R250). -/
def State.loadEnvOf (s : State) (p : Nat) : State :=
  let mine := s.pwm.envNext.filter fun x => x.1 == p
  let s1 := s.modPwm fun w => { w with envNext := w.envNext.filter fun x => x.1 != p }
  mine.foldl (fun t x => t.loadThr x.2.1 x.2.2.1 x.2.2.2) s1

/-- Thresholds of CMP_STATIC take effect on inputs with SRC = 0 (R172). A pair in force does not arrive again, but one written anew with its
codes inverted sets INV (R174). -/
def State.staticThr (s : State) (n : Nat) : State :=
  let hi := s.fld F.CMP_STATIC_HI n
  let lo := s.fld F.CMP_STATIC_LO n
  if s.flag F.CMP_CFG_SRC n || (s.fld F.CMP_STAT_THR_HI n == hi && s.fld F.CMP_STAT_THR_LO n == min hi lo
    && !(decide (hi < lo) && s.adc.statics.contains n)) then s
  else s.loadThr n hi lo

/-- The static ceiling in a non-switching state of the input's port (R73): at the boundary, or at the port's own reload. -/
def State.ceilingThr (s : State) (n : Nat) : State :=
  let p := s.fld F.CMP_CFG_PORT n
  let hi := s.fld F.CMP_CFG_CEIL_HI n
  let lo := s.fld F.CMP_CFG_CEIL_LO n
  if !s.flag F.CMP_CFG_SRC n || decide (12 ≤ p) || switchingState (s.pstate p)
    || (s.fld F.CMP_STAT_THR_HI n == hi && s.fld F.CMP_STAT_THR_LO n == lo) then s
  else if s.glPort p then s.modPwm fun w => { w with envNext := (w.envNext.filter fun x => x.2.1 != n) ++ [(p, n, hi, lo)] }
  else s.loadCeiling n

/-- The period of every leg that follows the RG0 boundary ends at t. -/
def State.endLegs (s : State) (t : Nat) : State := s.forUnits 48 fun u n => if u.ownReload n then u else u.endPeriodLeg n t

/-- Form the programs of every leg that follows the RG0 boundary for the period that starts at t, with the W in force (Table 07.2). -/
def State.formLegs (s : State) (t : Nat) : State :=
  s.forUnits 48 fun u n => if u.ownReload n then u else u.formLeg n t (u.leg n).w

/-! ### Clock of the generator (R232, R233) -/

/-- An instant of the generator's past, once the span from t to now lies outside its period: what happened in the span happened at its end. -/
def pastSpan (t now i : Nat) : Nat := min i t + (now - t)

/-- The generator stops counting: it is frozen, or its clock has stopped. -/
def State.genStop (s : State) : State := s.modPwm fun w => { w with frozenAt := some (w.frozenAt.getD s.now) }

/-- The generator counts on from the clock at which it stopped, once it is neither frozen nor without a clock: the span lies outside its
period. -/
def State.genGo (s : State) : State := match s.pwm.frozenAt with
  | none => s
  | some t =>
    if s.genHeld then s
    else (s.forUnits 48 fun u n => u.modLeg n fun l => { l with
      at0 := l.at0 + (s.now - t), topOff := l.topOff.map (pastSpan t s.now), botOff := l.botOff.map (pastSpan t s.now)
      truncAt := l.truncAt.map (pastSpan t s.now), botSince := pastSpan t s.now l.botSince }).modPwm fun w => { w with
      frozenAt := none, tk := w.tk + (s.now - t) }

/-- With DBG_FREEZE = 1 a halt of the CLE freezes the generator (R232). -/
def State.freeze (s : State) : State :=
  if s.flag F.PWM_CTRL_DBG_FREEZE 0 && s.cle.dbgHalted then (s.setFlag F.PWM_GSTAT_FROZEN 0 true).genStop else s

/-- On resume the generator counts on from the frozen clock: the frozen span lies outside its period (R232). -/
def State.unfreeze (s : State) : State := (s.setFlag F.PWM_GSTAT_FROZEN 0 false).genGo

/-! ### The next reload (R195, R285) -/

/-- A change of PERIOD is committed and not yet in force. -/
def State.periodAhead (s : State) : Bool := s.pwm.bundles.any (fun b => b.period.isSome) || !s.pwm.held.isEmpty

/-- Fine steps by which the next boundary is moved to remove skew: at most 4 ns (R285). A positive skew is a late boundary. -/
def State.steer (s : State) : Int :=
  if s.flag F.PAIR_CFG_PAIR_EN 0 && !s.isActive && !s.periodAhead then -(clampInt (-32) 32 s.pair.skewLeft) else 0

/-- Fine steps from t_k to the next reload: a period, moved by a standby's steering and by Spur's shift (R195, R285, Table 20.2). -/
def State.reloadSpan (s : State) : Nat := ((s.fineP : Int) + s.steer + s.reloadShift).toNat

/-! ### Outputs (stage 9 of Table 07.2, R234) -/

/-- Level of a channel of leg n at the output of stage 9, before polarity: a direct pin passes the Steward's gate (R211, R225). -/
def State.outLevel (s : State) (n : Nat) (top : Bool) : Bool :=
  (if top then (s.leg n).topOn else (s.leg n).botOn)
    && (s.flag F.LEG_CFG_GL n || (s.gateOpen && s.flag F.TACK_CTRL_LOCK 0))

/-- PWM_POL of GC g: it is active-low. -/
def State.polOf (s : State) (g : Nat) : Bool := bitOf (s.fld F.PWM_POL0_ALL 0 + 2 ^ 32 * s.fld F.PWM_POL1_ALL 0) g

/-- Level of direct pin GC g: high-impedance until the Tack Table is locked unless EXTEST drives it, then its channel's level in the pin's
polarity, and the off level while its leg does not switch (R211, R234). -/
def State.pinLevel (s : State) (g : Nat) : Option Bool :=
  if s.flag F.TACK_CTRL_LOCK 0 then
    some ((!s.flag F.LEG_CFG_GL (g / 2) && s.outLevel (g / 2) (g % 2 == 0)) != s.polOf g)
  else s.pwm.extest.map fun w => bitOf w g

end Sys2Proof.Machine
end

