-- ==== Sys2Proof/Machine/Trace0.lean ====
section
/-!
DEFINITION. Recording of trace samples and triggers (R121, R122).
-/
namespace Sys2Proof.Machine

/-- Ring mode. -/
def State.trRing (s : State) (c : Nat) : Bool := s.fld F.TRACE_CTL_MODE c == 1

/-- Drop samples from the front so that at most k remain. -/
def TraceCh.trim (t : TraceCh) (k : Nat) : TraceCh :=
  let d := t.buf.length - k
  { t with buf := t.buf.drop d, dropped := t.dropped + d }

/-- Sample w on channel c rises or falls through TRACE_LEVEL (TRIG_SRC 1 and 2). -/
def State.trCrosses (s : State) (c : Nat) (w : Word) : Bool :=
  let lvl := s.reg R.TRACE_LEVEL c
  match (s.tr c).last with
  | none => false
  | some p =>
    (s.fld F.TRACE_CTL_TRIG_SRC c == 1 && fLt p lvl && fLe lvl w) || (s.fld F.TRACE_CTL_TRIG_SRC c == 2 && fLt lvl p && fLe w lvl)

/-- Time base b at instant t, in units of 2^-16 ns, reckoned from its value now at its rate. -/
def State.tbAt (s : State) (b t : Nat) : Nat :=
  let x := vget s.tb b
  ((x.ticks : Int) + (((t / 64 : Nat) : Int) - ((s.now / 64 : Nat) : Int)) * 524288 * (1000000000000 + x.freq) / 1000000000000).toNat

/-- Channel c takes a sample of the sample instant `inst`: its period number and its instant (R121, R122). -/
def State.trSample (s : State) (c : Nat) (w : Word) (stepP : Nat) (inst : Nat × Nat) : State :=
  let st := s.trState c
  if st = 1 ∨ st = 2 then
    let s1 := s.cond (s.trCrosses c w) fun t => t.trTrigger c
    let t0 := s1.tr c
    let t1 := if t0.total = 0 then { t0 with
      pnum0 := inst.1, time0 := s.tbAt 1 inst.2, stepP := stepP, stepT := stepP * s.fineP * 8192 } else t0
    let t2 := { t1 with buf := t1.buf ++ [w], last := some w }
    let pre := s.fld F.TRACE_CTL_PRE c
    let keep := if s.trRing c then 16384 else match t2.trigAt with
      | none => pre
      | some _ => 16384
    let t3 := t2.trim keep
    let full := !s.trRing c && (match t3.trigAt with
      | none => false
      | some a => decide (16384 - pre ≤ t3.total - a))
    let s2 := s1.modTr c fun _ => t3
    s2.cond full fun u => (u.setFld F.TRACE_CTL_STATE c 3).post EV.EV_TRACE_DONE c 0
  else s

/-- The marker of R121. -/
def traceMarker : Word := 0x7FC00001#32

/-- An execution of context i fell due: each channel that traces it takes its sample on every (DECIM + 1)-th, w being what it
reads (the marker when the execution did not run) at the sample instant `inst`. DESIGN CHOICE: a word of a 64-bit state
is recorded as it stands, although it may hold the pattern of a NaN or of the marker; R90 and the trace section do not say (log entry 139). -/
def State.trExec (s : State) (i : Nat) (ran : Bool) (stepP : Nat) (inst : Nat × Nat) : State :=
  s.forUnits 8 fun t c =>
    if t.fld F.TRACE_CFG_CTX c == i && (t.trState c == 1 || t.trState c == 2) then
      let dec := t.fld F.TRACE_CFG_DECIM c
      let k := (t.tr c).skip
      if k < dec then t.modTr c fun x => { x with skip := k + 1 }
      else
        let w := if ran then Memory.get (fun k => if k % 64 = 0 then 0xF000#32 else 0#32) t.cle.ram (64 * i + t.fld F.TRACE_CFG_WORD c)
          else traceMarker
        (t.modTr c fun x => { x with skip := 0 }).trSample c w (stepP * (dec + 1)) inst
    else t

/-- A capture trigger mark placed at the boundary triggers channels of TRIG_SRC 4 (R122, R446). -/
def State.trEvents (s : State) (capMark : Bool) : State := s.cond capMark fun t => t.trFire 4 fun _ => true

end Sys2Proof.Machine
end

