-- ==== Sys2Proof/Machine/CleRead.lean ====
section
/-!
DEFINITION. What a context reads (03): its RAM words and register fields, its inputs by binding (R95 to R98), its coefficients
(R548), the sensors of a port (R51, R550) and the period T of its rate group.
-/
namespace Sys2Proof.Machine

/-- What an unwritten word of context RAM reads as: CTX_CFG's reset word at word 0, else 0. -/
def ctxDflt (k : Nat) : Word := if k % 64 = 0 then 0xF000#32 else 0#32

/-- Word w of context i's RAM (R94). -/
def State.cword (s : State) (i w : Nat) : Word := Memory.get ctxDflt s.cle.ram (64 * i + w)

/-- Write word w of context i's RAM. -/
def State.setCword (s : State) (i w : Nat) (v : Word) : State :=
  { s with cle := { s.cle with ram := Memory.set ctxDflt s.cle.ram (64 * i + w) v } }

/-- Write consecutive words of context i's RAM. -/
def State.setCwords (s : State) (i w : Nat) (vs : List Word) : State :=
  { s with cle := { s.cle with ram := Memory.setMany ctxDflt s.cle.ram (64 * i + w) vs } }

/-- The RAM word in which a context register stands: CTX_CFG, CTX_STATUS, RES_STAT (Tables 03.2, 19.5). -/
def ctxRegWord (off : Nat) : Nat := if off = 0x3C0 then 0 else if off = 0x3C4 then 12 else 48

/-- Field f of context i. -/
def State.cf (s : State) (f : Fld) (i : Nat) : Nat := fieldOf (s.cword i (ctxRegWord f.off)) f.hi f.lo

/-- One-bit field f of context i. -/
def State.cflag (s : State) (f : Fld) (i : Nat) : Bool := s.cf f i != 0

/-- Write field f of context i. -/
def State.setCf (s : State) (f : Fld) (i v : Nat) : State :=
  let w := ctxRegWord f.off
  s.setCword i w (putField (s.cword i w) f.hi f.lo v)

/-- Write a one-bit field of context i. -/
def State.setCflag (s : State) (f : Fld) (i : Nat) (b : Bool) : State := s.setCf f i (b2n b)

/-- Words w to w + n - 1 of context i's RAM are written, so their parity is right again (R94). -/
def State.healCtx (s : State) (i w n : Nat) : State :=
  { s with spur := { s.spur with
    bad := s.spur.bad.filter fun x => !(x.1 == 0 && decide (256 * i + 4 * w ≤ x.2 ∧ x.2 < 256 * i + 4 * (w + n))) } }

/-- Change the CLE's own record. -/
def State.modCle (s : State) (f : CleSt → CleSt) : State := { s with cle := f s.cle }

/-- What context i holds beside its RAM. -/
def State.ctx (s : State) (i : Nat) : CtxSt := vget s.cle.ctx i

/-- Change it. -/
def State.modCtx (s : State) (i : Nat) (f : CtxSt → CtxSt) : State := s.modCle fun c => { c with ctx := vmod c.ctx i f }

/-- Context i is enabled. -/
def State.ctxEn (s : State) (i : Nat) : Bool := s.cflag F.CTX_STATUS_EN i

/-- Divisor of rate group g. -/
def State.divOf (s : State) (g : Nat) : Nat := s.cle.div.getD g 1

/-- T of rate group g in seconds, FP32, as it stood at the group's last release (R108). -/
def State.periodT (s : State) (g : Nat) : F32 := fOfRat (s.cle.rgT.getD g 0 : Nat) 8000000000

/-- T of context i. -/
def State.ctxT (s : State) (i : Nat) : F32 := s.periodT (s.cf F.CTX_CFG_RG i)

/-- That period in fine steps. -/
def State.ctxFine (s : State) (i : Nat) : Nat := s.cle.rgT.getD (s.cf F.CTX_CFG_RG i) 0

/-- Context i carries HIST_COLD. -/
def State.isCold (s : State) (i : Nat) : Bool := (s.ctx i).cold.any id

/-- Byte offset of the coefficient block of context i (COEF_PTR). -/
def State.coefAt (s : State) (i : Nat) : Nat := fieldOf (s.cword i 9) 15 0

/-- Word w of context i's own block: none when unset, 0 for any other pattern that is not finite (R548). -/
def State.ownWord (s : State) (i w : Nat) : Option F32 :=
  let x := s.cw (s.coefAt i + 4 * w)
  if x = unsetWord then none else some (if fFinite x then x else 0#32)

/-- Word w of context i's own block, 0 when unset. -/
def State.own (s : State) (i w : Nat) : F32 := (s.ownWord i w).getD 0#32

/-- Bytes of a type's coefficient words (Table 03.12). -/
def State.coefF (s : State) (i : Nat) : Nat :=
  let n := s.cf F.CTX_CFG_DIM_N i
  let m := s.cf F.CTX_CFG_DIM_M i + 1
  let p := s.cf F.CTX_CFG_DIM_P i + 1
  match s.cf F.CTX_CFG_TYPE i with
  | 1 => 24
  | 2 => 20 + 8 * n
  | 3 => 8 + 4 * (n * n + n * m + p * n + p * m)
  | 4 => 36
  | 9 => 36
  | 10 => 20
  | 11 => 16
  | 12 => 12
  | _ => 0

/-- A signed 16-bit code as FP32. -/
def codeF (c : Nat) : F32 := fOfInt (signed 16 c)

/-- Code and quality of a sensor binding of KIND 1, 2 or 6 (R95, R97, R168, R193). -/
def State.sensorCode (s : State) (w : Word) : F32 × Bool :=
  let n := fieldOf w 27 20
  match fieldOf w 31 28 with
  | 1 => (codeF (s.fld F.AIN_SAMP_CODE n), s.flag F.AIN_SAMP_OVR n || s.flag F.AIN_SAMP_EMPTY n)
  | 2 => (codeF (s.fld F.SD_RES_CODE n), s.flag F.SD_RES_OVR n || s.flag F.SD_RES_UNSETTLED n || s.flag F.SD_RES_EMPTY n)
  | 6 => (codeF (s.fld F.AIN_SAMP_CODE (48 + n)), s.flag F.AIN_SAMP_OVR (48 + n) || s.flag F.AIN_SAMP_EMPTY (48 + n))
  | _ => (0#32, false)

/-- Context j carries INQ in the result consumer i reads (R97, R98). -/
def State.inqOf (s : State) (i j : Nat) : Bool :=
  if s.cf F.CTX_CFG_RG i = s.cf F.CTX_CFG_RG j then s.cflag F.RES_STAT_INQ j else (s.ctx j).latchInq

/-- Result word e of producer j as consumer i reads it (R98): its latch when their rate groups differ. -/
def State.resultOf (s : State) (i j e : Nat) : F32 × Bool :=
  if noContext ≤ j then (0#32, false)
  else (s.cword j ((if s.cf F.CTX_CFG_RG i = s.cf F.CTX_CFG_RG j then 49 else 60) + e % 4), s.inqOf i j)

/-- State words 0 and 1 of context j as one 64-bit value. -/
def State.state64 (s : State) (j : Nat) : Nat := (s.cword j 16).toNat + (s.cword j 17).toNat * 2 ^ 32

/-- The 64-bit angle of an ANGLE or SRF_PLL context j as consumer i reads it (R98): the state word itself within a rate group, the
period-end latch across groups, at full precision. -/
def State.angleOf (s : State) (i j : Nat) : Nat :=
  if s.cf F.CTX_CFG_RG i = s.cf F.CTX_CFG_RG j then s.state64 j else (s.ctx j).latchAngle

/-- A port setpoint by ELEM (R95, KIND 5). -/
def State.setpointOf (s : State) (p e : Nat) : F32 :=
  let q := s.port p
  if p < 4 then (if e = 2 then q.wPrime else q.slewed.getD e 0#32) else if e < 3 then q.slewed.getD e 0#32 else 0#32

/-- Input b of context i by its binding word, and whether it carries a quality flag (R95 to R98); an angle of KIND 4 keeps its 64 bits. -/
def State.input (s : State) (i b : Nat) : Num × Bool :=
  let fp := fun (x : F32 × Bool) => (Num.fp x.1, x.2)
  let w := s.cword i (1 + b)
  let n := fieldOf w 27 20
  let e := fieldOf w 19 16
  match fieldOf w 31 28 with
  | 3 => fp (s.resultOf i n e)
  | 4 => if noContext ≤ n then (.fp 0#32, false) else (.angle (s.angleOf i n), s.inqOf i n)
  | 5 => (.fp (s.setpointOf n e), false)
  | 0 => (.fp 0#32, false)
  | _ =>
    let c := s.sensorCode w
    let k := s.coefF i / 4 + 2 * fieldOf w 15 8
    (.fp (fAdd (fMul (s.own i k) c.1) (s.own i (k + 1))), c.2)

/-- The bindings a host context's TYPE reads (Table 03.12, 03 "Equations"). RAMP and LIMIT read BIND1 for their fill while they are cold
and it is bound (Table 03.4). -/
def State.readBinds (s : State) (i : Nat) : List Nat :=
  let fill := if s.isCold i && fieldOf (s.cword i 2) 31 28 != 0 then [1] else []
  match s.cf F.CTX_CFG_TYPE i with
  | 1 => [0, 1, 2]
  | 2 => List.range 7
  | 3 => List.range (s.cf F.CTX_CFG_DIM_M i + 1)
  | 4 => [0, 1, 2]
  | 9 => List.range 7
  | 10 => [0]
  | 11 => 0 :: fill
  | 12 => 0 :: fill
  | _ => []

/-- SAT_HI and SAT_LO of the context named by SAT_CTX; 63 means none (R14, R103). -/
def State.boundSat (s : State) (i : Nat) : BoundSat :=
  let j := fieldOf (s.cword i 11) 21 16
  if noContext ≤ j then ⟨false, false⟩ else ⟨s.cflag F.CTX_STATUS_SAT_HI j, s.cflag F.CTX_STATUS_SAT_LO j⟩

/-! ### Sensors of a port -/

/-- Sensor j of port p in A or V, and its quality flag (R545, R546). -/
def State.sensor (s : State) (p j : Nat) : F32 × Bool :=
  let c := s.sensorCode ((s.port p).cfg.sensors.getD j 0#32)
  let b := scaleBase p + 2 * j
  (fAdd (fMul (s.pw p b) c.1) (s.pw p (b + 1)), c.2)

/-- V_base and I_base. -/
def State.vBase (s : State) (p : Nat) : F32 := s.pw p 0
/-- V_base and I_base. -/
def State.iBase (s : State) (p : Nat) : F32 := s.pw p 1

/-- First capacitor-voltage sensor (AC), or the DC-link sensor (DC). -/
def State.capAt (s : State) (p : Nat) : Nat := s.nCur p

/-- V_dc in V: the sum of the half-links on a three-level port (R58). -/
def State.vDc (s : State) (p : Nat) : F32 :=
  let a := s.nCur p + (if p < 4 then 3 else 0)
  if s.nLink p = 2 then fAdd (s.sensor p a).1 (s.sensor p (a + 1)).1 else (s.sensor p a).1

/-- Three phase sensors from j as an alpha-beta vector in pu of b. -/
def State.phases (s : State) (p j : Nat) (b : F32) : F32 × F32 :=
  let v := fun k => fDiv (s.sensor p (j + k)).1 b
  clarke (v 0) (v 1) (v 2)

/-- Capacitor voltage in pu. -/
def State.vCap (s : State) (p : Nat) : F32 × F32 := s.phases p (s.capAt p) (s.vBase p)

/-- First bus-side sensor; the capacitor voltages where the port has none (R62). -/
def State.busAt (s : State) (p : Nat) : Nat := if s.hasBus p then s.capAt p + 3 + s.nLink p else s.capAt p

/-- Bus voltage in pu. -/
def State.vBus (s : State) (p : Nat) : F32 × F32 := s.phases p (s.busAt p) (s.vBase p)

/-- Output current in pu: the sum over parallel bridges (R51). -/
def State.iOut (s : State) (p : Nat) : F32 × F32 :=
  (List.range (s.units p)).foldl (fun acc b =>
    let v := s.phases p (3 * b) (s.iBase p)
    (fAdd acc.1 v.1, fAdd acc.2 v.2)) (0#32, 0#32)

/-- The family context of port p in role r, if the port has one. -/
def State.member (s : State) (p : Nat) (r : Role) : Option Nat :=
  ((s.port p).cfg.members.find? fun m => m.1 == r).map (·.2)

/-- Result word e of the port's context in role r as context i reads it. -/
def State.famRes (s : State) (i p : Nat) (r : Role) (e : Nat) : F32 × Bool :=
  match s.member p r with
  | some j => s.resultOf i j e
  | none => (0#32, false)

/-- The port's context in role r carries HIST_COLD. -/
def State.famCold (s : State) (p : Nat) (r : Role) : Bool :=
  match s.member p r with
  | some j => s.isCold j
  | none => false

/-- State words 0 and 1 of context j, and their period-end latch, take a 64-bit value written from outside its computation. -/
def State.put64At (s : State) (j : Nat) (v : Int) : State :=
  (s.setCwords j 16 ((put64 0 v).map (·.2))).modCtx j fun c => { c with latchAngle := unsigned 64 v }

/-- The latest rotor speed of port p in 4.60 fixed point. -/
def State.rotorW (s : State) (p : Nat) : Int :=
  match s.member p .rotor with
  | some j => pair64 (s.cword j 16) (s.cword j 17)
  | none => 0

/-- The rotor speed of port p as family context i reads it (R98, R550): the period-end latch when the rotor runs in another rate group. -/
def State.rotorOf (s : State) (i p : Nat) : Int :=
  match s.member p .rotor with
  | some j => signed 64 (s.angleOf i j)
  | none => 0

/-- theta of port p. -/
def State.theta (s : State) (p : Nat) : Nat :=
  match s.member p .angle with
  | some j => s.state64 j
  | none => 0

/-- An FP32 value brought to a finite one. -/
def finOr0 (x : F32) : F32 := if fFinite x then fFlush x else 0#32

end Sys2Proof.Machine
end

