-- ==== Sys2Proof/Machine/CleFam.lean ====
section
/-!
DEFINITION. The family contexts of a port (02, R53 to R58, R72, R85): power measurement, droop, rotor, angle, virtual impedance,
loops, modulation, envelope.
-/
namespace Sys2Proof.Machine

/-- RG0 period in seconds. -/
def State.T0 (s : State) : F32 := s.periodT 0

/-- k RG0 periods in seconds. -/
def State.seconds (s : State) (k : Nat) : F32 := fOfRat (s.fineP * k : Nat) 8000000000

/-- The fraction of a ramp of length w seconds after k RG0 periods, 0 to 1; a ramp of no length is complete. -/
def State.rampFrac (s : State) (k : Nat) (w : F32) : F32 := if fLe w 0#32 then f1 else fMin f1 (fDiv (s.seconds k) w)

/-- What is left of the bumpless offsets (R71). -/
def State.bumpLeft (s : State) (p : Nat) : F32 := fSub f1 (s.rampFrac (s.port p).bumpPeriods (s.pw p 43))

/-- Delta P_b now (R71). -/
def State.dPb (s : State) (p : Nat) : F32 := fMul (s.port p).dP0 (s.bumpLeft p)

/-- Delta V_b now (R71). -/
def State.dVb (s : State) (p : Nat) : F32 := fMul (s.port p).dV0 (s.bumpLeft p)

/-- A law without limits, holds or following error. -/
def plain (st : List (Nat × Word)) (res : List F32) : LawOut :=
  ⟨st, res, false, false, false, none, (res ++ st.map (·.2)).all fFinite⟩

/-- PQ: power measurement and filter (R52). -/
def State.famPq (s : State) (i p : Nat) (st : StArea) : LawOut :=
  let v := s.vCap p
  let c := s.iOut p
  let pw := fAdd (fMul v.1 c.1) (fMul v.2 c.2)
  let q := fSub (fMul v.2 c.1) (fMul v.1 c.2)
  let T := s.ctxT i
  let k := fDiv T (fAdd (s.pw p 7) T)
  let pf := fAdd (st 0) (fMul k (fSub pw (st 0)))
  let qf := fAdd (st 1) (fMul k (fSub q (st 1)))
  plain [(0, pf), (1, qf)] [pf, qf, pw, q]

/-- DROOP: E of the Q-V droop in RES0, the droop power P_set + (w' - w)/m_p + dP_b in RES1 (02, R71); E is 0 while it is cold
(R113, Table 02.5). -/
def State.famDroop (s : State) (i p : Nat) : LawOut :=
  let qf := (s.famRes i p .pq 1).1
  let sp := s.port p
  let e := fAdd (fAdd (sp.slewed.getD 3 0#32) (fMul (s.pw p 6) (fSub (sp.slewed.getD 1 0#32) qf))) (s.dVb p)
  let E := if s.famCold p .droop then 0#32 else fClamp (s.pw p 10) (s.pw p 11) e
  let d := fAdd (fAdd (sp.slewed.getD 0 0#32) (fDiv (fSub sp.wPrime (ofW (s.rotorOf i p))) (s.pw p 5))) (s.dPb p)
  { plain [(0, s.dPb p), (1, s.dVb p)] [E, d, 0, 0] with hi := fLt (s.pw p 11) e, lo := fLt e (s.pw p 10) }

/-- ROTOR: the virtual rotor (02, R55, R70, R78). State words 0-1: omega in 4.60 fixed point. -/
def State.famRotor (s : State) (i p : Nat) (st : StArea) : LawOut :=
  let w := pair64 (st 0) (st 1)
  let wf := ofW w
  let wg := if s.famCold p .pll then wf else (s.famRes i p .pll 0).1
  let damp := fMul (s.cword i 14) (fSub wf wg)
  let a0 := fDiv (fSub (fSub (s.famRes i p .droop 1).1 (s.famRes i p .pq 0).1) damp) (fMul f2 (s.pw p 3))
  let acl := s.pw p 25
  let a := if s.pstate p = PS.curlim then fClamp (fNegate acl) acl a0 else a0
  let lo := toW (s.pw p 8)
  let hi := toW (s.pw p 9)
  let raw := w + toW (fMul (s.ctxT i) a)
  let w1 := clampInt lo hi raw
  let w2 := if (s.port p).slaved then (match s.member p .pll with
    | some j => pair64 (s.cword j 18) (s.cword j 19)
    | none => w1) else w1
  { plain (put64 0 w2) [ofW w2, a, 0, 0] with
    hi := decide (hi ≤ w2), lo := decide (w2 ≤ lo), hold := decide (w1 ≠ raw), fin := fFinite a }

/-- ANGLE: theta advances by f_n omega T_RG0 turns (R54, R70). State words 0-1: theta. -/
def State.famAngle (s : State) (i p : Nat) (st : StArea) : LawOut :=
  let th := (st 0).toNat + (st 1).toNat * 2 ^ 32
  let inc := turnInc (s.pw p 2) (s.rotorOf i p) (s.cle.rgT.getD 0 0)
  let t1 := if (s.port p).slaved then (match s.member p .pll with
    | some j => (s.cword j 16).toNat + (s.cword j 17).toNat * 2 ^ 32
    | none => th) else addTurn th inc
  { plain (put64 0 (t1 : Int)) [ofTurn t1, 0, 0, 0] with fin := fFinite (s.pw p 2) }

/-- The EMF magnitude in force: the bus amplitude in MATCH (R70), the black-start ramp (R65), the ramp of R310. -/
def State.emf (s : State) (i p : Nat) : F32 :=
  let E := (s.famRes i p .droop 0).1
  let q := s.port p
  if s.pstate p = PS.matching then (s.famRes i p .pll 1).1
  else
    let e1 := match q.rampPeriods with
      | some k => fMul (s.rampFrac k (s.pw p 33)) E
      | none => E
    if s.pstate p = PS.rampdown then fMul q.scale e1 else e1

/-- R_v or X_v in force: the running value w of the governor, R_cl or X_cl in CURLIM, and the return ramp (R78, R79). -/
def State.impedance (s : State) (p : Nat) (run cl : F32) : F32 :=
  if s.pstate p = PS.curlim then
    match (s.port p).clRamp with
    | none => cl
    | some k => fAdd cl (fMul (fSub run cl) (s.rampFrac k (s.pw p 31)))
  else run

/-- VZ: virtual stator impedance (02), with the injection of R128 on the d axis. RES0, RES1 hold v*_d, v*_q; RES2 omega; RES3 E. -/
def State.famVz (s : State) (i p : Nat) : LawOut :=
  let th := s.theta p
  let w := ofW (s.rotorOf i p)
  let io := park (s.iOut p) th
  let E := s.emf i p
  let r := s.impedance p (s.cword i 14) (s.pw p 23)
  let x := fMul (s.impedance p (s.cword i 15) (s.pw p 24)) w
  let v := fAdd (fSub E (fMul r io.1)) (fMul x io.2)
  let inj := if (vget s.obs p).lfsr.testBit 14 then s.pw p 69 else fNegate (s.pw p 69)
  plain [] [if s.flag F.OBS_STATUS_INJ_ON p then fAdd v inj else v, fSub (fNegate (fMul r io.2)) (fMul x io.1), w, E]

/-- The inner voltage loop: a DQPI (02, R56). I_lim scales by s(t) in RAMPDOWN (R310). -/
def State.famVloop (s : State) (i p : Nat) (st : StArea) : LawOut :=
  let th := s.theta p
  let io := park (s.iOut p) th
  let vc := park (s.vCap p) th
  let lim := if s.pstate p = PS.rampdown then fMul (s.port p).scale (s.pw p 22) else s.pw p 22
  lawDqpi ⟨s.pw p 17, s.pw p 18, s.pw p 19, s.pw p 15, some lim, none, none, none, none⟩ (s.ctxT i)
    (.fp (s.famRes i p .vz 0).1) (.fp (s.famRes i p .vz 1).1) (.fp vc.1) (.fp vc.2) (.fp io.1) (.fp io.2) (.fp (s.famRes i p .vz 2).1) ⟨false, false⟩ st

/-- SAT_HI or SAT_LO of any MOD context of port p in its last computation (R57). -/
def State.modSat (s : State) (p : Nat) : BoundSat :=
  let m := (s.port p).cfg.members.filter fun x => match x.1 with
    | .mod _ => true
    | _ => false
  ⟨m.any fun x => s.cflag F.CTX_STATUS_SAT_HI x.2, m.any fun x => s.cflag F.CTX_STATUS_SAT_LO x.2⟩

/-- The inner current loop: a DQPI with f = v_c, K_f = 1, X = x_f, or a PR in the stationary frame (02, R57). -/
def State.famCloop (s : State) (i p : Nat) (st : StArea) : LawOut :=
  let th := s.theta p
  let w := ofW (s.rotorOf i p)
  let id := (s.famRes i p .vloop 0).1
  let iq := (s.famRes i p .vloop 1).1
  if s.clPr p then
    let r := unpark (id, iq) th
    let y := s.iOut p
    let f := s.vCap p
    let reson := (f1, s.pw p 55) :: (List.range (s.port p).cfg.nres).map fun j => (s.pw p (56 + 2 * j), s.pw p (57 + 2 * j))
    lawPr ⟨s.pw p 20, s.pw p 54, s.pw p 2, none, none, reson⟩ (s.ctxT i) (.fp r.1) (.fp r.2) (.fp y.1) (.fp y.2) (.fp f.1) (.fp f.2) (.fp w) (s.modSat p) st
  else
    let y := park (s.iOut p) th
    let f := park (s.vCap p) th
    lawDqpi ⟨s.pw p 20, s.pw p 21, f1, s.pw p 14, none, none, none, none, none⟩ (s.ctxT i)
      (.fp id) (.fp iq) (.fp y.1) (.fp y.2) (.fp f.1) (.fp f.2) (.fp w) (s.modSat p) st

/-- Battery voltage in V of a DC port: the last sensor (R51). -/
def State.vBatt (s : State) (p : Nat) : F32 := (s.sensor p (s.nCur p + 1)).1

/-- Battery current in pu of I_BASE: the sum of the leg currents. -/
def State.iBatt (s : State) (p : Nat) : F32 :=
  fDiv ((List.range (s.nCur p)).foldl (fun a j => fAdd a (s.sensor p j).1) 0#32) (s.iBase p)

/-- DC_MODE. -/
def State.dcMode (s : State) (p : Nat) : Nat := (s.port p).cfg.flags / 32 % 4

/-- Outer loop of a DC port: one PI with its clamps, scaled by s(t) in RAMPDOWN (R85, R310). -/
def State.famDcOuter (s : State) (i p : Nat) (st : StArea) : LawOut :=
  let sp := (s.port p).slewed
  let sc := fun x => if s.pstate p = PS.rampdown then fMul (s.port p).scale x else x
  let vb := fDiv (s.vBatt p) (s.vBase p)
  let y := match s.dcMode p with
    | 0 => fDiv (s.vDc p) (s.vBase p)
    | 1 => s.iBatt p
    | _ => fMul vb (s.iBatt p)
  lawPi ⟨s.pw p 5, s.pw p 6, some (fNegate (sc (sp.getD 1 0#32))), some (sc (sp.getD 2 0#32)), none, none⟩ (s.ctxT i)
    (.fp (sc (sp.getD 0 0#32))) (.fp y) (.fp 0#32) ⟨false, false⟩ st

/-- Current loop of leg j of a DC port: a PI with the battery voltage as feedforward, clamped to 0 and V_dc (R85, R86). -/
def State.famDcLeg (s : State) (i p j : Nat) (st : StArea) : LawOut :=
  let n := fOfInt (s.nCur p : Nat)
  let y := fDiv (s.sensor p j).1 (fDiv (s.iBase p) n)
  lawPi ⟨s.pw p 3, s.pw p 4, some 0#32, some (fDiv (s.vDc p) (s.vBase p)), none, none⟩ (s.ctxT i)
    (.fp (s.famRes i p .dcOuter 0).1) (.fp y) (.fp (fDiv (s.vBatt p) (s.vBase p))) ⟨false, false⟩ st

/-! ### Modulation -/

/-- The two half-link voltages of port p. -/
def State.halfLinks (s : State) (p : Nat) : F32 × F32 :=
  let a := s.nCur p + 3
  ((s.sensor p a).1, (s.sensor p (a + 1)).1)

/-- The currents of phase k over the parallel bridges of port p. -/
def State.phaseCurrents (s : State) (p k : Nat) : List F32 := (List.range (s.units p)).map fun b => (s.sensor p (3 * b + k)).1

/-- The zero-sequence capacitor voltage of port p in pu. -/
def State.zeroSeq (s : State) (p : Nat) : F32 :=
  let v := fun k => fDiv (s.sensor p (s.capAt p + k)).1 (s.vBase p)
  fDiv (fAdd (fAdd (v 0) (v 1)) (v 2)) 0x40400000#32

/-- The balancing trim of phase k of bridge b; 0 on a single bridge. -/
def State.trimOf (s : State) (p b k : Nat) : F32 :=
  if s.units p = 1 then 0#32
  else finOr0 (Config.balTrim b k ((s.port p).bal.getD (3 * b + k) 0#32) (s.phaseCurrents p k))

/-- The neutral-point and balancing integrators of an AC port after the period's outputs (R64, R101). -/
def State.balance (s : State) (p : Nat) : State :=
  if 4 ≤ p then s
  else
    let h := s.halfLinks p
    s.modPort p fun q => { q with
      np := if 3 ≤ s.baseTop p then finOr0 (Config.npNext q.np h.1 h.2) else q.np
      bal := if s.units p = 1 then q.bal else (List.range (3 * s.units p)).map fun j =>
        finOr0 (Config.balNext (j / 3) (j % 3) (q.bal.getD j 0#32) (s.phaseCurrents p (j % 3))) }

/-- Phase commands a, b, c in pu with the zero-sequence term of the topology (R58), and the fourth leg's command. The manual states no
law for the neutral-point offset and the fourth leg's command: free functions of what they read. -/
def State.phaseCmd (s : State) (i p : Nat) : List F32 × F32 :=
  let adv := turnInc (s.pw p 2) (3 * s.rotorOf i p) (s.cle.rgT.getD 0 0) / 2
  let u := ((s.famRes i p .cloop 0).1, (s.famRes i p .cloop 1).1)
  let v := if s.clPr p then unpark u (unsigned 64 adv) else unpark u (addTurn (s.theta p) adv)
  let hb := fMul 0x3F5DB3D7#32 v.2
  let a := v.1
  let b := fAdd (fNegate (fMul fHalf v.1)) hb
  let c := fSub (fNegate (fMul fHalf v.1)) hb
  let top := s.baseTop p
  let mm := if top = 1 ∨ top = 3 then fNegate (fMul fHalf (fAdd (fMax a (fMax b c)) (fMin a (fMin b c)))) else 0#32
  let h := s.halfLinks p
  let np := if 3 ≤ top then finOr0 (Config.npOffset (s.port p).np h.1 h.2) else 0#32
  let z := fAdd mm np
  ([fAdd a z, fAdd b z, fAdd c z], if top = 2 ∨ top = 4 then finOr0 (Config.fourthLeg a b c (s.zeroSeq p)) else 0#32)

/-- Duties of one phase's legs before the clamp, and the phase's average voltage from the DC midpoint: one leg at two levels;
outer then inner leg at three, where V_dc/2 replaces V_dc within the active half (R58). DESIGN CHOICE: the rule does not say how a
three-level command is split on the outer and the inner leg. The model takes d = u V_base / (V_dc/2) without the 0.5 of the
two-level equation: for d at or above 0 the inner leg is on and the outer leg has duty d, below 0 the outer leg is off and the
inner leg has duty 1 + d (log entry 105). -/
def legDuties (three : Bool) (u vb vdc : F32) : List F32 × F32 :=
  if three then
    let d := fDiv (fMul u vb) (fMul fHalf vdc)
    let o := if fNeg d then 0#32 else d
    let n := if fNeg d then fAdd f1 d else f1
    ([o, n], fMul (fSub (fAdd (fClamp 0#32 f1 o) (fClamp 0#32 f1 n)) f1) (fMul fHalf vdc))
  else
    let d := fAdd fHalf (fDiv (fMul u vb) vdc)
    ([d], fMul (fSub (fClamp 0#32 f1 d) fHalf) vdc)

/-- Every leg's duty before the clamp in LEGS order, and every current sensor's average leg voltage (R58, R85). A bridge of
several carries a balancing trim, whose law the manual does not state. -/
def State.allDuties (s : State) (i p : Nat) : List F32 × List F32 :=
  let vdc := s.vDc p
  let vb := s.vBase p
  if p < 4 then
    let (ph, n4) := s.phaseCmd i p
    let three := decide (3 ≤ s.baseTop p)
    let br := (List.range (s.units p)).map fun b =>
      let one := (List.range 3).map fun k => legDuties three (fAdd (ph.getD k 0#32) (s.trimOf p b k)) vb vdc
      let four := if bridgeLegs (s.baseTop p) % 2 = 0 ∧ s.baseTop p ≠ 3 then (legDuties three n4 vb vdc).1 else []
      (one.flatMap (·.1) ++ four, one.map (·.2))
    (br.flatMap (·.1), br.flatMap (·.2))
  else
    let d := (List.range (s.nCur p)).map fun j => fDiv (fMul (s.famRes i p (.dcLeg j) 0).1 vb) vdc
    (d, d.map fun x => fMul (fClamp 0#32 f1 x) vdc)

/-- MOD for n legs from `first` of the port (R58, R100). -/
def State.famMod (s : State) (i p first n : Nat) : LawOut :=
  let d := ((s.allDuties i p).1.drop first).take n
  let c := d.map (fClamp 0#32 f1)
  ⟨[], (c ++ [0, 0, 0, 0]).take 4, d.any fun x => fLt f1 x, d.any fun x => fLt x 0#32, false, none, c.all fFinite⟩

/-! ### Envelope -/

/-- Legs of parallel bridges that share the input of current sensor j of port p (R72). -/
def State.sharedBy (s : State) (p j : Nat) : Nat :=
  let b := fun k => fieldOf ((s.port p).cfg.sensors.getD k 0#32) 31 20
  ((List.range (s.nCur p)).filter fun k => decide (p < 4) && k % 3 == j % 3 && b k == b j).length

/-- The threshold codes of sensor j for period k+1 (R72), or the static ceiling's (R73): (AIN, upper, lower). An input shared by parallel
legs counts per leg, and its thresholds are scaled by their number. Sensors that are no analog inputs have no comparator. -/
def State.envCodes (s : State) (p j : Nat) (ceil : Bool) : Option (Nat × Nat × Nat) :=
  let w := (s.port p).cfg.sensors.getD j 0#32
  if fieldOf w 31 28 != 1 then none
  else
    let n := fieldOf w 27 20
    if ceil then some (n, s.fld F.CMP_CFG_CEIL_HI n, s.fld F.CMP_CFG_CEIL_LO n)
    else
      let ac := decide (p < 4)
      let T := s.T0
      let L := s.pw p (if ac then 16 else 2)
      let ib := if ac then s.iBase p else fDiv (s.iBase p) (fOfInt (s.nCur p : Nat))
      let vdc := s.vDc p
      let vg := if ac then (s.sensor p (s.capAt p + j % 3)).1 else s.vBatt p
      let uk := (s.port p).uNow.getD j 0#32
      let u1 := (s.port p).uNext.getD j 0#32
      let three := ac && decide (3 ≤ s.baseTop p)
      let k := if three then fMul fHalf vdc else vdc
      let d := if three then fAbs (fDiv u1 k) else if ac then fAdd fHalf (fDiv u1 vdc) else fDiv u1 vdc
      let n_ := s.sharedBy p j
      let i0 := if n_ ≤ 1 then (s.sensor p j).1 else fDiv (s.sensor p j).1 (fOfInt (n_ : Nat))
      let ic := fAdd (fAdd i0 (fMul (fDiv T L) (fSub uk vg))) (fMul (fDiv T (fMul f2 L)) (fSub u1 vg))
      let rip := fDiv (fMul (fMul (fMul k T) d) (fSub f1 d)) (fMul f2 L)
      let mw := if ac then 26 else 7
      let m := fMax (fMul (s.pw p mw) ib) (fMul (s.pw p (mw + 1)) (fAbs ic))
      let top := fMul (s.pw p (mw + 2)) ib
      let hi := fMin (fAdd (fAdd ic rip) m) top
      let lo := fMax (fSub (fSub ic rip) m) (fNegate top)
      let g := s.pw p (scaleBase p + 2 * j)
      let o := s.pw p (scaleBase p + 2 * j + 1)
      let sc := fun x => if n_ ≤ 1 then x else fMul (fOfInt (n_ : Nat)) x
      if [ic, hi, lo].all fFinite then some (n, dacCode g o (sc hi) true, dacCode g o (sc lo) false) else none

/-- The static ceiling applies (R73): the port does not switch, or one of its first two periods of switching is computed for. -/
def State.envStatic (s : State) (i p : Nat) : Bool :=
  !(s.port p).switching || decide ((s.port p).swPeriods < 1) || s.isCold i

/-- ENV for n current sensors from `first` (R72, R100). State words: the average leg voltages. -/
def State.famEnv (s : State) (p first n : Nat) : LawOut :=
  plain ((List.range n).map fun j => (j, (s.port p).uNext.getD (first + j) 0#32)) [0, 0, 0, 0]

/-- The bus-side SRF_PLL of a port (R55). -/
def State.famPll (s : State) (i p : Nat) (st : StArea) : LawOut :=
  let b := s.busAt p
  let v := fun k => Num.fp (fDiv (s.sensor p (b + k)).1 (s.vBase p))
  lawPll ⟨s.pw p 49, s.pw p 50, s.pw p 2, s.pw p 51, f1, s.pw p 52, s.pw p 53, none, none⟩ (s.ctxFine i) (s.ctxT i) (v 0) (v 1)
    (v 2) ⟨false, false⟩ st

/-- Computation of a family context by its role. -/
def State.famLaw (s : State) (i p : Nat) (r : Role) (st : StArea) : LawOut :=
  match r with
  | .host => plain [] [0, 0, 0, 0]
  | .pll => s.famPll i p st
  | .pq => s.famPq i p st
  | .droop => s.famDroop i p
  | .rotor => s.famRotor i p st
  | .angle => s.famAngle i p st
  | .vz => s.famVz i p
  | .vloop => s.famVloop i p st
  | .cloop => s.famCloop i p st
  | .mod f => s.famMod i p f (s.cf F.CTX_CFG_DIM_N i)
  | .env f => s.famEnv p f (s.cf F.CTX_CFG_DIM_N i)
  | .dcOuter => s.famDcOuter i p st
  | .dcLeg j => s.famDcLeg i p j st

/-- What the family links of role r read (R550): sensors, by number, and contexts of the family. -/
def State.famLinks (s : State) (p : Nat) (r : Role) : List Nat × List Role :=
  let cur := List.range (s.nCur p)
  let at_ := fun (a n : Nat) => (List.range n).map (a + ·)
  let c := s.capAt p
  let cap := at_ c 3
  let link := if p < 4 then at_ (c + 3) (s.nLink p) else [c]
  match r with
  | .host => ([], [])
  | .pll => (at_ (s.busAt p) 3, [])
  | .pq => (cur ++ cap, [])
  | .droop => ([], [.pq, .rotor])
  | .rotor => ([], [.droop, .pq] ++ (if s.famCold p .pll && !(s.port p).slaved then [] else [.pll]))
  | .angle => ([], if (s.port p).slaved then [.rotor, .pll] else [.rotor])
  | .vz => (cur, if s.pstate p = PS.matching then [.droop, .rotor, .pll] else [.droop, .rotor])
  | .vloop => (cur ++ cap, [.vz, .rotor])
  | .cloop => (cur ++ cap, [.vloop, .rotor])
  | .mod _ => (link, if p < 4 then [.cloop, .rotor] else cur.map Role.dcLeg)
  | .env f => (at_ f (min 8 (s.nCur p - f)) ++ link ++ (if p < 4 then cap else [c + 1]), [])
  | .dcOuter => ((match s.dcMode p with
      | 0 => link
      | 1 => cur
      | _ => cur ++ [c + 1]), [])
  | .dcLeg j => ([j, c, c + 1], [.dcOuter])

/-- Input quality of context i of a family (R97, R550): a sensor its links read, or a result they read, carries a flag. -/
def State.famInq (s : State) (i p : Nat) (r : Role) : Bool :=
  let l := s.famLinks p r
  (l.1.any fun j => (s.sensor p j).2) || l.2.any fun m => (s.famRes i p m 0).2

end Sys2Proof.Machine
end

