-- ==== Sys2Proof/Machine/Sched.lean ====
section
/-!
DEFINITION. The schedule rules Fencen checks (R27 to R29, R99, R104 to R106): costs of contexts, conditions of the two phases, the
limits of each gait, the sequencer rule (R160), and the slack of a period.
-/
namespace Sys2Proof.Machine

/-- Cycles of a context by type and dimensions (Table 03.3): n = DIM_N, m = DIM_M + 1, p = DIM_P + 1. -/
def typeCost (type n m p : Nat) : Nat :=
  match type with
  | 1 => 22
  | 2 => 24 + 18 * n
  | 3 => 14 + ((n + p) * (n + m) + 3) / 4
  | 4 => 32
  | 5 => 24
  | 6 => 12
  | 7 => 20
  | 8 => 24
  | 9 => 40
  | 10 => 14
  | 11 => 12
  | 12 => 10
  | 13 => 20
  | 14 => 18 + 6 * n
  | 15 => 12 + 6 * n
  | _ => 0

/-- Cost of context i. -/
def State.ctxCost (s : State) (i : Nat) : Nat :=
  typeCost (s.cf F.CTX_CFG_TYPE i) (s.cf F.CTX_CFG_DIM_N i) (s.cf F.CTX_CFG_DIM_M i + 1) (s.cf F.CTX_CFG_DIM_P i + 1)

/-- Context i is bound to a Gate Link port (R27). -/
def State.ctxGl (s : State) (i : Nat) : Bool :=
  let p := s.cf F.CTX_CFG_PORT i
  decide (p < 12) && s.glPort p

/-- Enabled contexts of rate group g. -/
def State.inGroup (s : State) (g : Nat) : List Nat :=
  (List.range 63).filter fun i => s.ctxEn i && s.cf F.CTX_CFG_RG i == g

/-- Cost of a list of contexts. -/
def State.costOf (s : State) (l : List Nat) : Nat := (l.map s.ctxCost).sum

/-- f_CTL of a gait in MHz (Table 01.5). -/
def ctlMHz (gait : Nat) : Nat := if gait = Gait.walk then 150 else if gait = Gait.limp then 250 else 600

/-- t_conv of a gait in fine steps (Table 05.2). -/
def convOf (gait : Nat) : Nat := if gait = Gait.walk then 11200 else if gait = Gait.limp then 2560 else 1600

/-- Least T_RG0 of a gait in fine steps (Table 01.5), with the Gate Link limit of R28. -/
def minPeriod (gait : Nat) (gl : Bool) : Nat :=
  let d := if gait = Gait.walk then 400000 else if gait = Gait.trot then 80000 else if gait = Gait.canter then 32000
    else if gait = Gait.limp then 160000 else 8000
  if gl then max d 16000 else d

/-- Lanes that carry legs. -/
def State.lanesUsed (s : State) : List Nat :=
  (List.range 6).filter fun l => (List.range 48).any fun n => s.flag F.LEG_CFG_GL n && s.fld F.LEG_CFG_LANE n == l

/-- L_max (R27) in fine steps. DESIGN CHOICE: a lane in use whose latency has not been measured counts with GL_DELAY.L_ACT as it stands, 0
before the first measurement; R27 does not say (log entry 104). -/
def State.lMax (s : State) : Nat := s.lanesUsed.foldl (fun m l => max m (s.fld F.GL_DELAY_L_ACT l)) 0

/-- t_frame in fine steps by LANE_CFG.RATE (R26). -/
def frameOf (rate : Nat) : Nat := if rate = 0 then 7040 else if rate = 1 then 3520 else 1760

/-- The t_frame of R27's second condition: that of the slowest lane in use. DESIGN CHOICE: R27 takes L_max over the lanes in use and
names one t_frame; with lanes of different rates the model takes the greatest (log entry 104). -/
def State.tFrame (s : State) : Nat := s.lanesUsed.foldl (fun m l => max m (frameOf (s.fld F.LANE_CFG_RATE l))) 0

/-- C_D and C_G (R27). -/
def State.phaseCost (s : State) : Nat × Nat :=
  let l := s.inGroup 0
  (s.costOf (l.filter fun i => !s.ctxGl i), s.costOf (l.filter fun i => s.ctxGl i))

/-- Instants of R27 scaled by the CTL rate: 8 000 units are one CTL cycle. Slack of the direct phase and of the Gate Link phase. -/
def State.slacks (s : State) (gait P : Nat) : Int × Int :=
  let f := ctlMHz gait
  let c := s.phaseCost
  let e1 := convOf gait * f + c.1 * 8000
  let e2 := max e1 ((s.lMax + convOf gait) * f) + c.2 * 8000
  (((P : Int) - 64) * (f : Int) - (e1 : Int), ((P : Int) - (s.tFrame : Int)) * (f : Int) - (e2 : Int))

/-- R27 and the limits of Table 01.5 and R28 for a period of P fine steps in a gait. -/
def State.rateFits (s : State) (gait P : Nat) : Bool :=
  let k := s.slacks gait P
  decide (minPeriod gait s.anyGl ≤ P) && decide (0 ≤ k.1) && (s.lanesUsed.isEmpty || decide (0 ≤ k.2))

/-- Rate group g is in use (R104). -/
def State.groupUsed (s : State) (g : Nat) : Bool :=
  !(s.inGroup g).isEmpty || (List.range 24).any fun c => (List.range 8).any fun e =>
    s.seq F.ADC_SEQ_EN c e == 1 && s.seq F.ADC_SEQ_CLE c e == 0 && s.seq F.ADC_SEQ_RG c e == g

/-- R104 for divisors `div` (index 0 is 1). -/
def State.divOk (s : State) (div : List Nat) : Bool :=
  let u := [1, 2, 3].filter s.groupUsed
  u.all fun a => u.all fun b => decide (b ≤ a) || decide (div.getD b 1 % div.getD a 1 = 0)

/-- R106 for a gait, a period and divisors. -/
def State.budgetOk (s : State) (gait P : Nat) (div : List Nat) : Bool :=
  let c := s.phaseCost
  let free : Int := ((P * ctlMHz gait / 8000 : Nat) : Int) - (c.1 + c.2 : Nat) - 32
  let u := [1, 2, 3].filter s.groupUsed
  u.all fun n =>
    let need := ((u.filter (· ≤ n)).map fun m => s.costOf (s.inGroup m) * (div.getD n 1 / div.getD m 1)).sum
    decide ((need : Int) ≤ (div.getD n 1 : Int) * free)

/-- Every schedule rule for a gait, a period of P fine steps and divisors (R27, R104, R106). -/
def State.schedOk (s : State) (gait P : Nat) (div : List Nat) : Bool :=
  s.rateFits gait P && s.divOk div && s.budgetOk gait P div

/-- Enabled sequence entries of core c. -/
def State.seqEntries (s : State) (c : Nat) : List Nat := (List.range 8).filter fun e => s.seq F.ADC_SEQ_EN c e == 1

/-- Instant of entry e of core c after t_k in fine steps (R159). -/
def State.seqInst (s : State) (c e : Nat) : Nat :=
  32 * s.seq F.ADC_SEQ_OFFSET c e + (if s.seq F.ADC_SEQ_TRIG c e = 1 then s.lPort (s.seq F.ADC_SEQ_PORT c e) else 0)

/-- Points 1 to 3 and 5 of R160 for core c: instants below T, spaced by t_conv around the period, internal channels on C23. -/
def State.coreSeqOk (s : State) (conv P c : Nat) : Bool :=
  let l := s.seqEntries c
  l.all (fun a => decide (s.seqInst c a < P) && decide (conv ≤ P) && (s.seq F.ADC_SEQ_INPUT c a != 2 || c == 23)
    && l.all fun b => decide (b ≤ a) ||
      (let d := max (s.seqInst c a) (s.seqInst c b) - min (s.seqInst c a) (s.seqInst c b)
       decide (conv ≤ d) && decide (d + conv ≤ P)))

/-- Inputs of the enabled CLE entries, as `ainOf` numbers them. -/
def State.cleInputs (s : State) : List Nat :=
  (List.range 24).flatMap fun c => ((s.seqEntries c).filter fun e => s.seq F.ADC_SEQ_CLE c e == 1).map fun e =>
    ainOf c (s.seq F.ADC_SEQ_INPUT c e) (s.seq F.ADC_SEQ_INT c e)

/-- R160 for a gait and a period of P fine steps. -/
def State.seqOk (s : State) (gait P : Nat) : Bool :=
  (List.range 24).all (s.coreSeqOk (convOf gait) P) && decide s.cleInputs.Nodup

/-- Leg n has EXTEND and a period of P fine steps is too short for it (R215). -/
def State.extendShort (s : State) (P n : Nat) : Bool :=
  s.fld F.LEG_CFG_MINP_POL n == 1 && decide (P < s.fld F.LEG_DT_DT_TOP n + s.fld F.LEG_DT_DT_BOT n + 2 * s.fld F.LEG_PULSE_MINP n)

/-! ### Resonators (R102) -/

/-- h * f_n * omega_max exceeds 0.4 times the rate of group g at a period of P fine steps and divisors `div` (R102). DESIGN CHOICE: the
rates the schedule permits are those it is given: the one in force and each one commanded; a RATE that would break the rule for an
enabled PR context is refused (log entry 106). -/
def resTooHigh (P : Nat) (div : List Nat) (g : Nat) (h fn wmax : F32) : Bool :=
  fLt (fMul 0x3ECCCCCD#32 (fOfRat 8000000000 (max 1 (P * div.getD g 1)))) (fMul (fMul h fn) wmax)

/-- R102 for a host PR context: orders and f_n from its own block, omega_max of its port. DESIGN CHOICE: a context
that names no AC port has no omega_max in the manual; the model takes 1.06 pu, the default of W_MAX (log entry 140). -/
def State.ownPrBad (t : State) (P : Nat) (div : List Nat) (i : Nat) : Bool :=
  let p := t.cf F.CTX_CFG_PORT i
  let wmax := if p < 4 then t.pw p 9 else 0x3F87AE14#32
  t.cf F.CTX_CFG_TYPE i == 2 && (List.range (t.cf F.CTX_CFG_DIM_N i)).any fun j =>
    resTooHigh P div (t.cf F.CTX_CFG_RG i) (if j = 0 then f1 else t.own i (5 + 2 * j)) (t.own i 2) wmax

/-- R102 for the PR current loop of port p. -/
def State.famPrBad (t : State) (P : Nat) (div : List Nat) (p : Nat) : Bool :=
  decide (p < 4) && t.clPr p && (List.range (1 + (t.port p).cfg.nres)).any fun j =>
    resTooHigh P div 0 (if j = 0 then f1 else t.pw p (54 + 2 * j)) (t.pw p 2) (t.pw p 9)

/-- A PR context in use breaks R102 at a period of P fine steps and divisors `div`. -/
def State.prTooHigh (s : State) (P : Nat) (div : List Nat) : Bool :=
  ((List.range 63).any fun i => s.ctxEn i && (s.ctx i).role == .host && s.ownPrBad P div i)
    || (List.range 4).any fun p => (s.port p).cfg.configured && s.famPrBad P div p

/-- Smallest slack in CTL cycles, rounded down, of the period in force (Table 01.9). -/
def State.slackNow (s : State) : Nat :=
  let k := s.slacks s.rateGait s.fineP
  let v := if s.lanesUsed.isEmpty then k.1 else min k.1 k.2
  (v / 8000).toNat

/-- Bounds of PERIOD in PWM clocks by gait (R195): the gait's greatest RG0 rate and the register's 20 bits. -/
def periodLo (gait : Nat) (gl : Bool) : Nat := minPeriod gait gl / 32

end Sys2Proof.Machine
end

