-- ==== Sys2Proof/Machine/Cle.lean ====
section
/-!
DEFINITION. Execution of contexts and the CLE's commands (03, 01): phases of RG0 work, RG1 to RG3 instances, deadlines, history,
publication, following error.
-/
namespace Sys2Proof.Machine

/-- What context i computes: its place in a family, or for a host context of a family type that role of the port it names (R548),
results only. -/
def State.ctxRole (s : State) (i : Nat) : Role :=
  let r := (s.ctx i).role
  if r ≠ .host then r
  else match s.cf F.CTX_CFG_TYPE i with
    | 5 => .rotor
    | 6 => .angle
    | 7 => .droop
    | 8 => .vz
    | 13 => .pq
    | 14 => .mod 0
    | 15 => .env 0
    | _ => .host

/-- Port of context i; 15 none. -/
def State.ctxPort (s : State) (i : Nat) : Nat := s.cf F.CTX_CFG_PORT i

/-! ### Host contexts (Table 03.12) -/

/-- Resonators of a host PR context. -/
def State.ownReson (s : State) (i : Nat) : List (F32 × F32) :=
  (List.range (s.cf F.CTX_CFG_DIM_N i)).map fun j => (s.own i (5 + 2 * j), s.own i (6 + 2 * j))

/-- Fill value of RAMP and LIMIT: BIND1 if bound, otherwise the input (Table 03.4). -/
def State.followFill (s : State) (i : Nat) : F32 :=
  if fieldOf (s.cword i 2) 31 28 = 0 then (s.input i 0).1.val else (s.input i 1).1.val

/-- Coefficients of a host SRF_PLL. -/
def State.ownPll (s : State) (i : Nat) : PllC :=
  ⟨s.own i 0, s.own i 1, s.own i 2, (s.ownWord i 3).getD 0x3D4CCCCD#32, (s.ownWord i 4).getD f1,
    (s.ownWord i 5).getD 0x3F4CCCCD#32, (s.ownWord i 6).getD 0x3F99999A#32, s.ownWord i 7, s.ownWord i 8⟩

/-- Computation of a host context by its type. -/
def State.hostLaw (s : State) (i : Nat) (cold : Bool) (st : StArea) : LawOut :=
  let T := s.ctxT i
  let u := fun b => (s.input i b).1
  let o := s.own i
  let w := s.ownWord i
  let n := s.cf F.CTX_CFG_DIM_N i
  let m := s.cf F.CTX_CFG_DIM_M i + 1
  let p := s.cf F.CTX_CFG_DIM_P i + 1
  let b := s.boundSat i
  match s.cf F.CTX_CFG_TYPE i with
  | 1 => lawPi ⟨o 0, o 1, w 2, w 3, w 4, w 5⟩ T (u 0) (u 1) (u 2) b st
  | 2 => lawPr ⟨o 0, o 1, o 2, w 3, w 4, s.ownReson i⟩ T (u 0) (u 1) (u 2) (u 3) (u 4) (u 5) (u 6) b st
  | 3 => lawSs n m p (fun k => o (2 + k)) (fun k => o (2 + n * n + k)) (fun k => o (2 + n * n + n * m + k))
      (fun k => o (2 + n * n + n * m + p * n + k)) (w 0) (w 1) (s.cflag F.CTX_CFG_AW_HOLD i) ((List.range m).map u) st
  | 4 => lawPll (s.ownPll i) (s.ctxFine i) T (u 0) (u 1) (u 2) b st
  | 9 => lawDqpi ⟨o 0, o 1, o 2, o 3, some (o 4), w 5, w 6, w 7, w 8⟩ T (u 0) (u 1) (u 2) (u 3) (u 4) (u 5) (u 6) b st
  | 10 => lawLeadlag (o 0) (o 1) (o 2) (w 3) (w 4) T (u 0) cold st
  | 11 => lawRamp (o 0) (o 1) (w 2) (w 3) T (u 0) (if cold then s.followFill i else st 0)
  | 12 => lawLimit (w 0) (w 1) (o 2) T (u 0) (if cold then s.followFill i else st 0)
  | _ => plain [] [0, 0, 0, 0]

/-- An input host context i reads carries a quality flag (R97). -/
def State.hostInq (s : State) (i : Nat) : Bool := (s.readBinds i).any fun b => (s.input i b).2

/-! ### History (R113, Table 03.4) -/

/-- The type holds history. -/
def State.hasHistory (s : State) (i : Nat) : Bool := match s.ctxRole i with
  | .vz => false
  | .mod _ => false
  | _ => s.cf F.CTX_CFG_TYPE i != 0

/-- ⌈cycles / (f_n T)⌉ for T of `fine` steps; none when f_n is not positive. -/
def ceilCycles (cycles : Nat) (fn : F32) (fine : Nat) : Option Nat :=
  let d := fDec fn
  if d.neg || d.man == 0 || !fFinite fn || fine == 0 then none
  else
    let num := 8000000000 * cycles * 2 ^ (-d.exp).toNat
    let den := d.man * 2 ^ d.exp.toNat * fine
    some ((num + den - 1) / den)

/-- N_hist of context i; none when it clears only by seeding. -/
def State.nHist (s : State) (i : Nat) : Option Nat :=
  let p := s.ctxPort i
  let T := s.cle.rgT.getD (s.cf F.CTX_CFG_RG i) 0
  match s.ctxRole i with
  | .pll => ceilCycles 2 (s.pw p 2) T
  | .cloop => if s.clPr p then ceilCycles 1 (s.pw p 2) T else some 1
  | .vloop => some 1
  | .dcOuter => some 1
  | .dcLeg _ => some 1
  | .env _ => some 2
  | .host => match s.cf F.CTX_CFG_TYPE i with
    | 2 => ceilCycles 1 (s.own i 2) T
    | 3 => some (s.cf F.CTX_CFG_DIM_N i)
    | 4 => ceilCycles 2 (s.own i 2) T
    | _ => some 1
  | _ => none

/-- The fill values while the states are cold: ω of a PLL is ω_ff, every other state 0 (Table 03.4). -/
def State.fillWord (s : State) (i : Nat) : StArea := fun w =>
  let pll := fun (wff : F32) => if w = 2 then BitVec.ofNat 32 (unsigned 64 (toW wff))
    else if w = 3 then BitVec.ofNat 32 (unsigned 64 (toW wff) / 2 ^ 32) else 0#32
  match s.ctxRole i with
  | .pll => pll f1
  | .host => if s.cf F.CTX_CFG_TYPE i = 4 then pll (s.ownPll i).wff else 0#32
  | _ => 0#32

/-- History counter of group 0 as word 13 shows it. -/
def State.showHist (s : State) (i : Nat) : State :=
  s.setCword i 13 (BitVec.ofNat 32 (leNat (((s.ctx i).hist.take 4).map fun n => BitVec.ofNat 8 (min n 255))))

/-- Set HIST_COLD on every state of context i (R93, R113). -/
def State.recold (s : State) (i : Nat) : State :=
  let h := s.hasHistory i
  ((s.modCtx i fun c => { c with hist := [0, 0, 0, 0], cold := [h, false, false, false] }).setCflag F.CTX_STATUS_HCOLD i
    h).showHist i

/-- Clear HIST_COLD of context i: its states hold defined values. -/
def State.warm (s : State) (i : Nat) : State :=
  (s.modCtx i fun c => { c with cold := [false, false, false, false] }).setCflag F.CTX_STATUS_HCOLD i false

/-- Count one execution towards N_hist (R113). -/
def State.countHist (s : State) (i : Nat) : State :=
  if s.isCold i then
    let n := (s.ctx i).hist.getD 0 0 + 1
    let s1 := (s.modCtx i fun c => { c with hist := c.hist.set 0 n }).showHist i
    match s.nHist i with
    | some k => if k ≤ n then s1.warm i else s1
    | none => s1
  else s

/-! ### Following error and publication -/

/-- FE_LIMIT and FE_TIME of context i. -/
def State.feLimit (s : State) (i : Nat) : F32 := s.cword i 10
/-- FE_LIMIT and FE_TIME of context i. -/
def State.feTime (s : State) (i : Nat) : Nat := fieldOf (s.cword i 11) 15 0

/-- R115 in one execution with following error e: FE_RUN and FE_TIMER, which is held at 0 while the context is cold or its port
does not switch. -/
def State.feCount (s : State) (i : Nat) (e : F32) (cold : Bool) : State :=
  if fLt 0#32 (s.feLimit i) && s.feTime i != 0 then
    let above := fLt (s.feLimit i) e
    let p := s.ctxPort i
    let held := cold || (decide (p < 12) && !(s.port p).switching)
    let t := if held || above == s.cflag F.CTX_STATUS_FE_LATCH i then 0 else min (s.feTime i) (s.cf F.CTX_STATUS_FE_TIMER i + 1)
    (s.setCflag F.CTX_STATUS_FE_RUN i above).setCf F.CTX_STATUS_FE_TIMER i t
  else s

/-- RES_STAT as a word (Table 03.7). -/
def resStat (ready hcold sat inq num fe : Bool) (rd seq per : Nat) : Word :=
  BitVec.ofNat 32 (b2n ready * 2 ^ 31 + b2n hcold * 2 ^ 30 + b2n sat * 2 ^ 29 + b2n inq * 2 ^ 28 + b2n num * 2 ^ 27
    + b2n fe * 2 ^ 26 + rd % 4 * 2 ^ 24 + seq % 256 * 2 ^ 16 + per % 65536)

/-- R90: a computation with a NaN or an infinity keeps states and results; else states and results are written. -/
def State.store (s : State) (i : Nat) (o : LawOut) : State :=
  if o.fin then (o.st.foldl (fun t x => t.setCword i (16 + x.1) x.2) s).setCwords i 49 (((o.res ++ [0, 0, 0, 0]).take 4).map fFlush)
  else ((s.setCflag F.CTX_STATUS_NUMERR i true).count F.RG_MON_NUMERR_CNT 0).post EV.EV_CLE_NUMERR i 0

/-- Flags of the computation and the publication of R117. -/
def State.publish (s : State) (i : Nat) (o : LawOut) (inq cold : Bool) : State :=
  let s1 := (((s.setCflag F.CTX_STATUS_SAT_HI i o.hi).setCflag F.CTX_STATUS_SAT_LO i o.lo).setCflag F.CTX_STATUS_HOLD i
    o.hold).setCflag F.CTX_STATUS_INQ i inq
  let s2 := match o.err with
    | some e => if o.fin then s1.feCount i e cold else s1
    | none => s1
  let s3 := s2.countHist i
  s3.setCword i 48 (resStat true cold (o.hi || o.lo) inq (!o.fin) (s3.cflag F.CTX_STATUS_FE_LATCH i) 0
    (s.cf F.RES_STAT_SEQ i + 1) s.pwm.pnum)

/-- While the rotor of port p is slaved to the bus, omega is the PLL's at every RG0 period, whatever rate the rotor runs at (R70): the
period's ANGLE execution brings it to the rotor's state, result and latch. -/
def State.slaveRotor (s : State) (p : Nat) : State := match s.member p .rotor, s.member p .pll with
  | some j, some k =>
    if !(s.port p).slaved then s
    else
      let w := [s.cword k 18, s.cword k 19]
      let r := ofW (pair64 (s.cword k 18) (s.cword k 19))
      (((s.setCwords j 16 w).setCword j 49 r).setCword j 60 r).modCtx j fun c => { c with latchAngle := (s.cword k 18).toNat + (s.cword k 19).toNat * 2 ^ 32 }
  | _, _ => s

/-- What the port takes from a context that has computed: duties and average leg voltages from MOD, |i*| from the voltage loop. -/
def State.toPort (s : State) (i : Nat) (o : LawOut) : State :=
  let p := s.ctxPort i
  if !o.fin then s else match (s.ctx i).role with
  | .mod _ =>
    let d := s.allDuties i p
    let c := d.1.map (fClamp 0#32 f1)
    if (c ++ d.2).all fFinite then s.modPort p fun q => { q with duty := c, uNext := d.2 } else s
  | .vloop => s.modPort p fun q => { q with iStar := fMag (o.res.getD 0 0) (o.res.getD 1 0) }
  | .dcOuter => s.modPort p fun q => { q with iStar := fAbs (o.res.getD 0 0) }
  | .angle => s.slaveRotor p
  | _ => s

/-- Period number and sample instant of context i's execution (R96, R121): those of its group's release, with L_port on a port. -/
def State.ctxInst (s : State) (i : Nat) : Nat × Nat :=
  let g := s.cf F.CTX_CFG_RG i
  let a := if g = 0 then (s.pnumOut, s.pwm.tk) else s.cle.rgAt.getD g (0, 0)
  (a.1, a.2 + (if s.ctxPort i < 12 then s.lPort (s.ctxPort i) else 0))

/-- Execute context i: compute, publish, sample its traces (R101, R117, R121). -/
def State.execCtx (s : State) (i : Nat) : State :=
  let cold := s.isCold i
  let st : StArea := fun w => if cold then s.fillWord i w else s.cword i (16 + w)
  let r := s.ctxRole i
  let p := s.ctxPort i
  let o := if r = .host then s.hostLaw i cold st else s.famLaw i p r st
  let inq := if r = .host then s.hostInq i else s.famInq i p r
  let s1 := ((s.store i o).publish i o inq cold).toPort i o
  (s1.modCtx i fun c => { c with due := false, execs := c.execs + 1 }).trExec i true (s.divOf (s.cf F.CTX_CFG_RG i)) (s.ctxInst i)

/-! ### Parity of context RAM (R94, R124) -/

/-- A parity error at byte off of context i's RAM: it is counted and posted, a deferred System reset follows (R499), and an enabled
context halts the schedule (R124). -/
def State.cleParity (s : State) (i off : Nat) : State :=
  let t := (s.memErr 0).deferReset
  if t.ctxEn i then ((t.setCflag F.CTX_STATUS_PERR i true).modCle fun c => { c with halted := true }).post EV.EV_CLE_PARITY i off
  else t

/-- Contexts whose results, angles or saturation flags an execution of context i reads. -/
def State.ctxSources (s : State) (i : Nat) : List Nat :=
  let sat := fieldOf (s.cword i 11) 21 16
  sat :: (if s.ctxRole i = .host then
      (s.readBinds i).filterMap fun b =>
        let w := s.cword i (1 + b)
        if fieldOf w 31 28 == 3 || fieldOf w 31 28 == 4 then some (fieldOf w 27 20) else none
    else (s.famLinks (s.ctxPort i) (s.ctxRole i)).2.filterMap (s.member (s.ctxPort i)))

/-- The first byte with wrong parity among those an execution of context i reads: its own RAM, and the flags, angle, results and latch
of the contexts it reads (R94). -/
def State.badRead (s : State) (i : Nat) : Option Nat :=
  let src := s.ctxSources i
  let shared := fun (o : Nat) => decide (0xC0 ≤ o) || decide (0x30 ≤ o ∧ o < 0x34) || decide (0x40 ≤ o ∧ o < 0x48)
  (s.spur.bad.find? fun x => x.1 == 0 && (x.2 / 256 == i || (src.contains (x.2 / 256) && shared (x.2 % 256)))).map (·.2)

/-- Run context i, if the schedule is not halted: a byte read with wrong parity is handled first, and halts it when its context is
enabled (R94, R124). -/
def State.runCtx (s : State) (i : Nat) : State :=
  if s.cle.halted then s
  else match s.badRead i with
    | none => s.execCtx i
    | some b =>
      let t := (s.healCtx (b / 256) (b % 256 / 4) 1).cleParity (b / 256) (b % 256)
      if t.cle.halted then t else t.execCtx i

/-- Insert a context by its place in schedule order. -/
def insertKey (key : Nat → Nat) (x : Nat) : List Nat → List Nat
  | [] => [x]
  | y :: l => if key x < key y then x :: y :: l else y :: insertKey key x l

/-- Contexts in ascending ORDER, ties in ascending ID (R105). -/
def State.scheduled (s : State) (l : List Nat) : List Nat :=
  l.foldl (fun acc i => insertKey (fun j => s.cf F.CTX_CFG_ORDER j * 64 + j) i acc) []

/-! ### Bundles -/

/-- P of the period the bundles of this period act in: the PERIOD committed in this period, else the one in force. -/
def State.nextP (s : State) : Nat :=
  32 * (bundlesPeriod (s.pwm.bundles.filter fun b => b.stamp == s.pwm.pnum)).getD (s.cle.periodNew.getD s.period)

/-- W of a duty: d P rounded to the nearest fine step. -/
def dutySteps (d : F32) (P : Nat) : Nat :=
  let a := fDec d
  if a.neg then 0
  else if 0 ≤ a.exp then min P (a.man * 2 ^ a.exp.toNat * P)
  else
    let n := 2 ^ (-a.exp).toNat
    min P ((2 * a.man * P + n) / (2 * n))

/-- The envelope of port p is the static ceiling in the bundle now computed (R73). -/
def State.portStatic (s : State) (p : Nat) : Bool :=
  match (s.port p).cfg.members.find? fun m => (match m.1 with
      | .env _ => true
      | _ => false) with
  | some m => s.envStatic m.2 p
  | none => true

/-- The bundle of port p (R203): W of every leg, the envelope codes of every current sensor on an analog input. -/
def State.portBundle (s : State) (p : Nat) : Bundle :=
  let q := s.port p
  let P := s.nextP
  let c := s.portStatic p
  { unit := p, stamp := s.pwm.pnum, ws := (q.cfg.legs.zip q.duty).map fun x => (x.1, dutySteps x.2 P)
    env := (List.range (s.nCur p)).filterMap fun j => s.envCodes p j c
    period := none, late := bitOf s.cle.missed p, gl := s.glPort p, comp := !c, us := q.uNext }

/-- LATE of every leg of port p (R204). -/
def State.markLate (s : State) (p : Nat) : State := s.lateLegs (s.legsOf p)

/-- The ports' work is not complete by their deadlines (R30): the first miss of a period counts, and a bundle of the period that is
complete already is late (R204). -/
def State.missPorts (s : State) (new : List Nat) : State :=
  if new.isEmpty then s
  else
    let m := (new.map (2 ^ ·)).sum
    let s1 := s.cond (s.cle.missed == 0) fun t => t.count F.PERIOD_MON_DEADLINE_MISS 0
    let s2 := (s1.modCle fun c => { c with missed := c.missed + m }).post EV.EV_CLE_DEADLINE noUnit m
    new.foldl (fun t p =>
      let there := t.pwm.bundles.any fun b => b.unit == p && b.stamp == t.pwm.pnum
      (t.modPwm fun w => { w with bundles := w.bundles.map fun b =>
        if b.unit == p && b.stamp == w.pnum then { b with late := true } else b }).cond there fun u => u.markLate p) s2

/-- t_frame of the slowest lane that carries legs of port p, in fine steps (R26). -/
def State.portFrame (s : State) (p : Nat) : Nat :=
  (s.legsOf p).foldl (fun m n => if s.flag F.LEG_CFG_GL n then max m (frameOf (s.fld F.LANE_CFG_RATE (s.fld F.LEG_CFG_LANE n))) else m) 0

/-- Deadline of port p's bundle after t_k in fine steps: 8 ns before the reload, or the opening of its frame's slot (R25, R204). -/
def State.bundleLimit (s : State) (p : Nat) : Nat := s.reloadSpan - (if s.glPort p then s.portFrame p else 64)

/-- Work of `cost` CTL cycles started now ends later than `limit` fine steps after t_k. -/
def State.tooLate (s : State) (cost limit : Nat) : Bool :=
  decide ((s.pwm.tk + limit) * ctlMHz s.rateGait < s.now * ctlMHz s.rateGait + cost * 8000)

/-- CTL cycles of the schedule l up to the end of port p's last context (R99, R105). -/
def State.costTo (s : State) (l : List Nat) (p : Nat) : Nat := s.costOf (l.reverse.dropWhile fun i => s.cf F.CTX_CFG_PORT i != p)

/-- Port flags that follow the computation (Table 02.6). -/
def State.portFlags (s : State) (p : Nat) : State :=
  let sw := (s.port p).switching
  let sat := fun r => match s.member p r with
    | some j => s.cflag F.CTX_STATUS_SAT_HI j || s.cflag F.CTX_STATUS_SAT_LO j
    | none => false
  let m := s.modSat p
  (((s.setFlag F.PORT_STATUS_ILIM_ACT p (sw && sat .vloop)).setFlag F.PORT_STATUS_FREQ_LIM p (sw && sat .rotor)).setFlag
    F.PORT_STATUS_OVERMOD p (sw && (m.hi || m.lo))).setFlag F.PORT_STATUS_ENV_ACTIVE p (sw && !s.portStatic p)

/-- Port p commits its bundle. -/
def State.commitPort (s : State) (p : Nat) : State :=
  let b := s.portBundle p
  let s1 := ((s.modPwm fun w => { w with bundles := w.bundles ++ [b] }).portFlags p).balance p
  s1.cond b.late fun t => t.markLate p

/-- PERIOD's bundle, when a rate change is commanded (R196, R203); `late` when the phase ends less than 8 ns before the reload (R204). -/
def State.commitPeriod (s : State) (late : Bool) : State := match s.cle.periodNew with
  | none => s
  | some n => (s.modPwm fun w => { w with bundles := w.bundles ++ [{
      unit := 12, stamp := s.pwm.pnum, ws := [], env := [], period := some n, late := late, gl := false }] }).modCle
        fun c => { c with periodNew := none }

/-- The CLE runs: not halted by a parity error or by debug, and RG0 exists. -/
def State.cleRuns (s : State) : Bool :=
  !s.cle.halted && !s.cle.dbgHalted && s.gait != Gait.paddock && s.pwm.ran

/-- RG0_PHASE_START (R27, R105, R203, R204): phase 0 runs the contexts of no Gate Link port, phase 1 those of Gate Link ports, each once
in a period and in that order; then the ports of the phase commit their bundles. A bundle is complete when the cycles of the
phase up to its port's last context have run. A context RAM word read with wrong parity halts the schedule there (R124). -/
def execRg0PhaseStart (phase : Fin 2) (s : State) : Host.Outcome State Fault Refusal :=
  let gl := phase.val == 1
  let ran := s.cle.phases.getD phase.val true || (gl && !s.cle.phases.getD 0 false)
  .next (
    if !s.cleRuns || ran then s
    else
      let s1 := s.modCle fun c => { c with phases := c.phases.set phase.val true }
      let l := s1.scheduled ((s1.inGroup 0).filter fun i => s1.ctxGl i == gl)
      let s2 := l.foldl State.runCtx s1
      let ports := (List.range 12).filter fun p => (s.port p).cfg.configured && s.glPort p == gl
      if s2.cle.halted then s2
      else
        let s3 := s2.missPorts (ports.filter fun p => !bitOf s.cle.missed p && s1.tooLate (s1.costTo l p) (s1.bundleLimit p))
        let s4 := ports.foldl State.commitPort s3
        if gl then s4 else s4.commitPeriod (s1.tooLate (s1.costOf l) (s1.reloadSpan - 64)))

/-- The work of an RG1 instance is complete: the mirror record of its period is due at the boundary that ends the period, or at once
where that boundary has passed (R31, R107). -/
def State.rg1Complete (s : State) : State := match s.cle.rg1Late with
  | some n => (s.modCle fun c => { c with rg1Late := none }).modPair fun p => { p with recDue := some n }
  | none => s.modCle fun c => { c with rg1Done := true }

/-- RATE_GROUP_INSTANCE_RUN (R105, R107): the released instance of the rate group runs its contexts in schedule order, once no higher
group has one to run. -/
def execRateGroupInstanceRun (rg : Fin 3) (s : State) : Host.Outcome State Fault Refusal :=
  let g := rg.val + 1
  .next (
    if !s.cleRuns || !vget s.cle.rgDue g || ((List.range g).drop 1).any fun h => vget s.cle.rgDue h then s
    else
      let s1 := (s.scheduled ((s.inGroup g).filter fun i => (s.ctx i).due)).foldl State.runCtx s
      if s1.cle.halted then s1
      else
        let s2 := s1.modCle fun c => { c with rgDue := vmod c.rgDue g fun _ => false }
        if g = 1 then s2.rg1Complete else s2)

/-- CLE_DEADLINE_MISS (R30, R204): the named ports' work is not complete by their deadlines. A bundle of theirs that is complete
or completes later in the period is late. -/
def execCleDeadlineMiss (ports : BitVec 12) (s : State) : Host.Outcome State Fault Refusal :=
  let new := (List.range 12).filter fun p => bitOf ports.toNat p && !bitOf s.cle.missed p && (s.port p).cfg.configured
  .next (
    if s.pwm.ran then s.missPorts new else s)

/-- The skip counter of rate group g, 1 to 3. -/
def skipCnt (g : Nat) : Fld := if g = 1 then F.RG_MON_RG1_SKIP else if g = 2 then F.RG_MON_RG2_SKIP else F.RG_MON_RG3_SKIP

/-- RG_INSTANCE_OVERRUN (R107): the release of the group fell due while its instance still ran; it is skipped and counted. -/
def execRgInstanceOverrun (rg : Fin 3) (s : State) : Host.Outcome State Fault Refusal :=
  let g := rg.val + 1
  .next (
    if !vget s.cle.rgSkip g then s
    else ((s.modCle fun c => { c with rgSkip := vmod c.rgSkip g fun _ => false }).count (skipCnt g) 0).post
      EV.EV_CLE_RG_SKIP g 0)

/-- CL_EN of port p (Table 14.3). -/
def State.clEn (s : State) (p : Nat) : Bool := bitOf (s.port p).cfg.flags 2

/-- The action of FE_ACT (R116). -/
def State.feAction (s : State) (i : Nat) : State :=
  let p := s.ctxPort i
  match s.cf F.CTX_CFG_FE_ACT i with
  | 2 => if p < 4 ∧ s.pstate p = PS.run ∧ s.clEn p then s.raise p .feDemand else s
  | 3 => s.srsRequest (if p < 12 then 2 ^ p else 0xFFF) false
  | _ => s

/-- FE_TIMER of an enabled context has reached FE_TIME. -/
def State.feExpired (s : State) (i : Nat) : Bool :=
  s.ctxEn i && s.feTime i != 0 && decide (s.feTime i ≤ s.cf F.CTX_STATUS_FE_TIMER i)

/-- FOLLOWING_ERROR_EXPIRY (R115, R116). -/
def execFollowingErrorExpiry (ctx : Fin 63) (s : State) : Host.Outcome State Fault Refusal :=
  .next (
    if !s.feExpired ctx || s.cflag F.CTX_STATUS_FE_LATCH ctx then s
    else (((s.setCflag F.CTX_STATUS_FE_LATCH ctx true).setCf F.CTX_STATUS_FE_TIMER ctx 0).post EV.EV_CLE_FE ctx
      (s.cf F.CTX_CFG_FE_ACT ctx)).feAction ctx)

/-- FOLLOWING_ERROR_CLEAR (R115). -/
def execFollowingErrorClear (ctx : Fin 63) (s : State) : Host.Outcome State Fault Refusal :=
  .next (
    if !s.feExpired ctx || !s.cflag F.CTX_STATUS_FE_LATCH ctx then s
    else ((s.setCflag F.CTX_STATUS_FE_LATCH ctx false).setCf F.CTX_STATUS_FE_TIMER ctx 0).post EV.EV_CLE_FE_CLEAR ctx 0)

end Sys2Proof.Machine
end

