-- ==== Sys2Proof/Machine/TimeOps.lean ====
section
/-!
DEFINITION. Shared operations on time bases and the PTP servo (15): lock and offset estimate of TB0 (R436, R437), ownership
(Table 15.3), steps, and the reference angle (R439).
-/
namespace Sys2Proof.Machine

/-- Change time base b. -/
def State.modTb (s : State) (b : Nat) (f : TimeBase → TimeBase) : State := { s with tb := vmod s.tb b f }

/-- Change MAC m. -/
def State.modMac (s : State) (m : Nat) (f : MacSt → MacSt) : State := { s with macs := vmod s.macs m f }

/-- n bytes at offset o of the NETIF record of MAC m (Table 15.1). -/
def State.netif (s : State) (m o n : Nat) : Nat := leAt (vget s.macs m).netif o n

/-- The address of MAC m: that of its NETIF record where it gives one, else its own of the three in OTP (R418, Table 15.1). The record's bytes
stand in the order of the wire. -/
def State.macAddr (s : State) (m : Nat) : Nat :=
  if bitOf (s.netif m 5 1) 4 then ((List.range 6).map fun i => s.netif m (8 + i) 1 * 256 ^ (5 - i)).sum else (Config.otpMac.toNat + m) % 2 ^ 48

/-- Change the PTP instance. -/
def State.modPtp (s : State) (f : PtpSt → PtpSt) : State := { s with ptp := f s.ptp }

/-- n bytes at offset o of the PTP_CFG payload in force (Table 15.6). -/
def State.ptpCfg (s : State) (o n : Nat) : Nat := leAt s.ptp.cfg o n

/-- ENABLE of the PTP instance. -/
def State.ptpOn (s : State) : Bool := s.ptpCfg 0 1 % 2 == 1

/-- TB1 in ns. -/
def State.tb1Ns (s : State) : Nat := (vget s.tb 1).ticks / 65536

/-- Set LOCKED of TB0; a change posts EV_TB_LOCK (R436). -/
def State.setTbLock (s : State) (on : Bool) : State :=
  if s.flag F.TB_STAT_LOCKED 0 == on then s
  else (s.setFlag F.TB_STAT_LOCKED 0 on).post EV.EV_TB_LOCK 0 (b2n on)

/-- LOCKED clears by a cause of R436 or Table 15.4. The lock of the active unit shows again with the next record (R428). -/
def State.dropLock (s : State) : State := (s.modPtp fun p => { p with good := 0, bad := 0 }).setTbLock false

/-- OFS_EST (R437), plus 2 ns while TB0 follows the active unit (R428); 0 on a grandmaster (R435). -/
def State.ofsEst (s : State) : Nat :=
  if s.flag F.TB_STAT_GM 0 then 0
  else match s.ptp.updAt with
    | none => 0xFFFFFFFF
    | some t => min 0xFFFFFFFF (s.ptp.base + s.ptpCfg 24 4 * (s.tb1Ns - t) / 1000000000 + (if s.ptp.fromPeer then 2 else 0))

/-- logSyncInterval of n as nanoseconds: 2^n s. -/
def logNs (n : Int) : Nat := 1000000000 * 2 ^ n.toNat / 2 ^ (-n).toNat

/-- HOLD (Table 15.11): no servo update for more than twice the Sync interval. -/
def State.tbHold (s : State) : Bool := s.ptpOn && (match s.ptp.updAt with
  | some t => decide (2 * logNs (signed 8 (s.ptpCfg 10 1)) < s.tb1Ns - t)
  | none => false)

/-- The host may set or adjust time base b now (Table 15.3). -/
def State.hostOwned (s : State) (b : Nat) : Bool :=
  (b == 0 && !s.ptpOn) || (b == 3 && !s.notActive)

/-- TB_STAT of time base b (Table 15.11). -/
def State.tbStat (s : State) (b : Nat) : Word :=
  ((s.setFlag F.TB_STAT_HOLD b (decide (b = 0) && s.tbHold)).setFlag F.TB_STAT_HOST_OWNED b (s.hostOwned b)).reg R.TB_STAT b

/-- A step of time base b by d units of 2^-16 ns shows: STEPPED and EV_TB_STEP. -/
def State.showStep (s : State) (b : Nat) (d : Int) : State :=
  (s.setFlag F.TB_STAT_STEPPED b true).post EV.EV_TB_STEP b (unsigned 64 (d / 65536))

/-- Time base b is set at once, by d units of 2^-16 ns; a step that waited is gone. -/
def State.stepTb (s : State) (b : Nat) (d : Int) : State :=
  (s.modTb b fun t => { t.step d with sub := 0, jumped := t.jumped + d, adj := t.adj.map fun a => (a.1, 0) }).showStep b d

/-- Time base b takes frequency offset f and a step of d units of 2^-16 ns at the next nanosecond rollover (R424). -/
def State.adjTb (s : State) (b : Nat) (f d : Int) : State :=
  (s.modTb b fun t => { t with adj := some (f, d + ((t.adj.map (·.2)).getD 0)) }).cond (decide (d ≠ 0)) fun t => t.showStep b d

/-- The 48-bit seconds of PTP of a time in units of 2^-16 ns: the low 48 bits of its seconds field (R426). -/
def ptpSeconds (t : Nat) : Nat := t / (65536 * 1000000000) % 2 ^ 48

/-- The timestamp a PTP message carries for a time in units of 2^-16 ns: 48-bit seconds and nanoseconds (R426). -/
def ptpStamp (t : Nat) : Nat × Nat := (ptpSeconds t, t / 65536 % 1000000000)

/-- The 64-bit seconds a 48-bit value v of PTP stands for while TB0 holds `sec` seconds: the high 16 bits extend it, one more when v lies
more than 2^47 s below the low 48 bits, one less when it lies more than 2^47 s above them (R426). -/
def extendPtp (sec v : Nat) : Nat :=
  let low := sec % 2 ^ 48
  let high : Int := (sec / 2 ^ 48 : Nat)
  let h : Int := if v + 2 ^ 47 < low then high + 1 else if low + 2 ^ 47 < v then high - 1 else high
  unsigned 16 h * 2 ^ 48 + v

/-- The time of TB0 that the servo steps to for an offset of `off` ns: the master's 48-bit seconds, extended (R426). -/
def State.ptpTarget (s : State) (off : Int) : Nat :=
  let t0 := (vget s.tb 0).ticks
  let m := (((t0 : Int) - off * 65536) % (2 ^ 48 * (65536 * 1000000000) : Nat)).toNat
  extendPtp (t0 / (65536 * 1000000000)) (ptpSeconds m) * (65536 * 1000000000) + m % (65536 * 1000000000)

/-- The state TB_STAT shows for the instance: its port, or of several the one nearest the grandmaster (Table 15.11). -/
def State.showPtp (s : State) : State :=
  let l := ((List.range 3).filter fun m => bitOf (s.ptpCfg 1 1) m).map fun m => vget s.ptp.port m
  let v := if !s.ptpOn then 2 else if l.contains 8 then 8 else if l.contains 7 then 7 else l.headD 2
  s.setFld F.TB_STAT_PTP_STATE 0 v

/-- A port of the instance is in state n. -/
def State.ptpPort (s : State) (n : Nat) : Bool :=
  (List.range 3).any fun m => bitOf (s.ptpCfg 1 1) m && vget s.ptp.port m == n

/-- round(f_n w 2^32) to the nearest integer, ties to even, of two positive FP32 values (R439). -/
def turnRate (fn w : F32) : Nat :=
  let a := fDec fn
  let b := fDec w
  let e := a.exp + b.exp + 32
  let m := a.man * b.man
  if 0 ≤ e then m * 2 ^ e.toNat
  else
    let d := 2 ^ (-e).toNat
    let q := m / d
    let r := m % d
    if d < 2 * r ∨ (2 * r = d ∧ q % 2 = 1) then q + 1 else q

/-- The reference angle of R81 as a 64-bit fraction of a turn, at t in units of 2^-16 ns of TB0 (R439). -/
def thetaRef (fn w : F32) (t : Nat) : Nat :=
  let f := turnRate fn w
  let sec := t / (65536 * 1000000000)
  let ns := t / 65536 % 1000000000
  (f * sec * 2 ^ 32 + f * ns * 2 ^ 32 / 1000000000) % 2 ^ 64

end Sys2Proof.Machine
end

