-- ==== Sys2Proof/Machine/Port.lean ====
section
/-!
DEFINITION. Ports (02): bus state, black start, pre-sync and match, CURLIM, ramps, setpoint slewing, and the transition each port
makes at an RG0 boundary (R61, R63). The event commands record the condition the next boundary resolves.
-/
namespace Sys2Proof.Machine

/-! ### Times and angles -/

/-- x ≤ n / d, exactly. -/
def leRat (x : F32) (n d : Nat) : Bool :=
  let a := fDec x
  if a.neg then true
  else if fIsNan x || fIsInf x then false
  else if 0 ≤ a.exp then decide (a.man * 2 ^ a.exp.toNat * d ≤ n) else decide (a.man * d ≤ n * 2 ^ (-a.exp).toNat)

/-- k RG0 periods last at least x seconds. -/
def State.lasts (s : State) (k : Nat) (x : F32) : Bool := leRat x (k * s.fineP) 8000000000

/-- TIME_OK of port p (R82): TB0 is locked and its offset estimate is at most TA_TOL. -/
def State.timeOk (s : State) (p : Nat) : Bool :=
  let tol := fDec (s.pw p 44)
  let ofs := s.ofsEst
  s.flag F.TB_STAT_LOCKED 0 && !tol.neg &&
    (if 0 ≤ tol.exp then decide (ofs ≤ tol.man * 2 ^ tol.exp.toNat * 1000000000)
     else decide (ofs * 2 ^ (-tol.exp).toNat ≤ tol.man * 1000000000))

/-- TA_EN of port p. -/
def State.taEn (s : State) (p : Nat) : Bool := bitOf (s.port p).cfg.flags 3

/-- Time assistance is in use on port p. -/
def State.timed (s : State) (p : Nat) : Bool := s.timeOk p && s.taEn p

/-! ### Measured quantities -/

/-- Amplitude of the bus-side voltage in pu (R62). -/
def State.busAmp (s : State) (p : Nat) : F32 := let v := s.vBus p; fMag v.1 v.2

/-- Amplitude of the capacitor voltage in pu. -/
def State.capAmp (s : State) (p : Nat) : F32 := let v := s.vCap p; fMag v.1 v.2

/-- The bus is dead (R62): below V_dead for the last 3 cycles at f_n. -/
def State.busDead (s : State) (p : Nat) : Bool := match ceilCycles 3 (s.pw p 2) s.fineP with
  | some n => decide (n ≤ (s.port p).deadPeriods)
  | none => false

/-- The PLL context of port p: its frequency and amplitude. -/
def State.pllRes (s : State) (p e : Nat) : F32 := match s.member p .pll with
  | some j => s.cword j (49 + e)
  | none => 0#32

/-- Signed difference of turns in FP32, -0.5 to 0.5 (R83). -/
def wrapTurn (d : Int) : F32 := fOfIntExp (signed 64 (unsigned 64 d)) (-64)

/-- The angle from the bus to the capacitor voltage vector in turns, -0.5 to 0.5 (R70). -/
def State.matchAngle (s : State) (p : Nat) : F32 :=
  let c := s.vCap p
  let b := s.vBus p
  let x := fAdd (fMul c.1 b.1) (fMul c.2 b.2)
  let y := fSub (fMul c.2 b.1) (fMul c.1 b.2)
  vecAngle x y

/-- A full cycle at f_n of angles has been taken in MATCH, so that the slip of R70 exists. -/
def State.slipKnown (s : State) (p : Nat) : Bool := match ceilCycles 1 (s.pw p 2) s.fineP with
  | some n => decide (n < (s.port p).angles.length)
  | none => false

/-- The slip s of R70: the change of that angle over the last cycle at f_n. -/
def State.slip (s : State) (p : Nat) : F32 :=
  let a := (s.port p).angles
  let n := (ceilCycles 1 (s.pw p 2) s.fineP).getD 0
  let old := (a[n]?).getD (a.getLastD 0#32)
  let d := fSub (a.headD 0#32) old
  if fLt fHalf d then fSub d f1 else if fLt d (fNegate fHalf) then fAdd d f1 else d

/-- The match windows of R70 hold; before a full cycle in MATCH there is no slip and they do not. -/
def State.matchOk (s : State) (p : Nat) : Bool :=
  s.slipKnown p && fLe (fAbs (fSub (s.capAmp p) (s.busAmp p))) (s.pw p 39) && fLe (fAbs (s.slip p)) (s.pw p 40)
    && fLe (fAbs (fMul (s.matchAngle p) 0x43B40000#32)) (s.pw p 41)

/-- The black-start voltage E_bs(t) (R65). -/
def State.ebs (s : State) (p : Nat) : F32 := match s.member p .droop with
  | some j => fMul (s.rampFrac ((s.port p).rampPeriods.getD 0) (s.pw p 33)) (s.cword j 49)
  | none => 0#32

/-- V_dc lies within the window of DC port p (R85). -/
def State.vdcInside (s : State) (p : Nat) : Bool := match (s.port p).window with
  | some (lo, hi) => let v := s.vDc p; fLe lo v && fLe v hi
  | none => false

/-! ### State changes -/

/-- Enter state n: EV_PORT_STATE with the abort code (R61); switching stops in a state that does not switch, and a pull window ends with
its pull on leaving RUN (R83, R84). DESIGN CHOICE: in RAMPDOWN entered from MATCH the rotor stays slaved and REQ_CLOSE keeps its last level;
R70 speaks of MATCH alone (log entry 138). -/
def State.goPort (s : State) (p n : Nat) (code : Option Nat) : State :=
  let old := s.pstate p
  let s1 := match code with
    | some c => s.setFld F.PORT_STATUS_ABORT_CODE p c
    | none => s
  let s2 := ((s1.setFld F.PORT_STATUS_STATE p n).setFlag F.PORT_STATUS_SYNC_OK p false).setFlag F.PORT_STATUS_CL_RAMP p false
  let s3 := s2.cond (!switchingState n) fun t => t.modPort p fun q => { q with
    switching := false, slaved := false, rampPeriods := none, scale := f1, tStart := none }
  let s4 := s3.cond (n != PS.run && (s.port p).pull.isSome) fun t => (t.modPort p fun q => { q with
    pull := none, wPrime := q.slewed.getD 2 0#32 }).setFlag F.PORT_STATUS_TIME_ASSIST p (s.port p).bsAssist
  let s5 := s4.cond (n == PS.fault || (old == PS.rampdown && n == PS.armed)) fun t =>
    (t.setFlag F.PORT_STATUS_REQ_OPEN p true).setFlag F.PORT_STATUS_REQ_CLOSE p false
  let s6 := s5.modPort p fun q => { q with deadPeriods := 0, angles := [] }
  s6.portMoved.post EV.EV_PORT_STATE p (old + 256 * n + 65536 * s6.fld F.PORT_STATUS_ABORT_CODE p)

/-- Family contexts of port p. -/
def State.family (s : State) (p : Nat) : List (Role × Nat) := (s.port p).cfg.members

/-- Observer p. -/
def State.ob (s : State) (p : Nat) : ObsSt := vget s.obs p

/-- Change observer p. -/
def State.modObs (s : State) (p : Nat) (f : ObsSt → ObsSt) : State := { s with obs := vmod s.obs p f }

/-- Nominal values. -/
def State.govNominal (s : State) (p : Nat) : List F32 := [s.pw p 4, s.pw p 12, s.pw p 13]

/-- Write the run-time values (R127). -/
def State.govWrite (s : State) (p : Nat) (v : List F32) : State :=
  let s1 := match s.member p .rotor with
    | some j => s.setCword j 14 (v.getD 0 0#32)
    | none => s
  match s1.member p .vz with
  | some j => (s1.setCword j 14 (v.getD 1 0#32)).setCword j 15 (v.getD 2 0#32)
  | none => s1

/-- ARM and the start of switching: the governor's values are the nominal coefficients, and no ramp runs (R64, R135). -/
def State.govReset (s : State) (p : Nat) : State :=
  if 4 ≤ p then s
  else ((s.govWrite p (s.govNominal p)).modObs p fun o => { o with ramp := none, owed := false }).setFlag F.GOV_STATUS_RAMPING p false

/-- ARM (Table 02.4, R64): every history-bearing state of the family carries HIST_COLD; the governor's values are nominal (R135). -/
def State.armPort (s : State) (p : Nat) : State :=
  let s1 := (s.family p).foldl (fun t m => t.recold m.2) s
  let s3 := ((((s1.govReset p).setFld F.PORT_STATUS_ABORT_CODE p 0).setFlag F.PORT_STATUS_HIST_COLD p true).setFlag
    F.PORT_STATUS_REQ_OPEN p false).setFlag F.PORT_STATUS_REQ_CLOSE p false
  (s3.setFld F.PORT_ENV_RUN_LEN p 0).goPort p PS.armed none

/-- R64, R86, Table 02.5: every state of the family but the bus-side PLL takes a defined value, and switching starts. -/
def State.seedPort (s : State) (p theta : Nat) (omega : Int) : State :=
  let s1 := (s.family p).foldl (fun t m => match m.1 with
    | .pll => t
    | .angle => ((t.setCwords m.2 16 (List.replicate 32 0#32)).put64At m.2 (theta : Int)).warm m.2
    | .rotor => ((t.setCwords m.2 16 (List.replicate 32 0#32)).put64At m.2 omega).warm m.2
    | _ => (t.setCwords m.2 16 (List.replicate 32 0#32)).warm m.2) s
  ((s1.modPort p fun q => { q with
    switching := true, swPeriods := 0, dP0 := 0, dV0 := 0, counted := false, hit := false, persistPosted := false
    scale := f1, uNow := [], np := 0, bal := [] }).setFlag F.PORT_STATUS_HIST_COLD p false).setFld F.PORT_ENV_RUN_LEN p 0
    |>.govReset p

/-- E of port p takes a value (Table 02.5). -/
def State.seedE (s : State) (p : Nat) (e : F32) : State := match s.member p .droop with
  | some j => s.setCword j 49 e
  | none => s

/-- Black start, step 2 (R65, R66): seed from theta_0 and omega_set, and start the EMF ramp. -/
def State.startBlack (s : State) (p : Nat) : State :=
  let w := (s.port p).slewed.getD 2 0#32
  let timed := s.timed p
  let th := if timed then thetaRef (s.pw p 2) w s.ptp.latch else unsigned 64 (toTurn (s.pw p 48))
  let s1 := (s.seedPort p th (toW w)).seedE p 0#32
  (s1.modPort p fun q => { q with rampPeriods := some 0, tStart := none, bsAssist := timed }).setFlag
    F.PORT_STATUS_TIME_ASSIST p timed

/-- Words 2 w and 2 w + 1 of the state area of the PLL of port p as a 64-bit number. -/
def State.pllState (s : State) (p w : Nat) : Nat := match s.member p .pll with
  | some j => (s.cword j (16 + w)).toNat + (s.cword j (17 + w)).toNat * 2 ^ 32
  | none => 0

/-- The bus amplitude measured over the pre-sync window (Table 02.5). DESIGN CHOICE: the mean of what the PLL measured in its RG0
periods (log entry 107). -/
def State.windowAmp (s : State) (p : Nat) : F32 :=
  finOr0 (fDiv (s.port p).wAmp (fOfInt (((s.port p).winPeriods : Nat) : Int)))

/-- MATCH entry (R64, R69, R70): seed from the PLL and the pre-sync window; the rotor is slaved. -/
def State.enterMatch (s : State) (p : Nat) : State :=
  let s1 := s.goPort p PS.matching none
  ((s1.seedPort p (s1.pllState p 0) (signed 64 (s1.pllState p 2))).seedE p (s1.windowAmp p)).modPort p fun q => { q with
    slaved := true, angles := [] }

/-- Breaker closure in MATCH (R71): the rotor is freed and the bumpless offsets are set. -/
def State.closeBreaker (s : State) (p : Nat) : State :=
  let q := s.port p
  let pf := match s.member p .pq with
    | some j => (s.cword j 49, s.cword j 50)
    | none => (0#32, 0#32)
  let w := ofW (s.rotorW p)
  let g := fun k => q.slewed.getD k 0#32
  let dP := fSub (fSub pf.1 (g 0)) (fDiv (fSub (g 2) w) (s.pw p 5))
  let dV := fSub (fSub (s.pllRes p 1) (g 3)) (fMul (s.pw p 6) (fSub (g 1) pf.2))
  (s.modPort p fun q => { q with
    slaved := false, dP0 := if fFinite dP then dP else 0#32, dV0 := if fFinite dV then dV else 0#32
    bumpPeriods := 0 }).goPort p PS.run none

/-- CURLIM entry (R77, R78). -/
def State.enterCurlim (s : State) (p : Nat) : State :=
  (((s.modPort p fun q => { q with clPeriods := 0, clRamp := none, quiet := 0 }).count F.PORT_ENV_CL_ENTRIES p).goPort p PS.curlim
    none).post EV.EV_CURLIM_ENTER p 0

/-- SRS_T of port p in fine steps; 0 stands for 1 s (R335). -/
def State.srsT (s : State) (p : Nat) : Nat :=
  let ms := s.saf (0x80 + 48 * p) 4
  (if ms = 0 then 1000 else ms) * 8000000

/-- RAMPDOWN entry over `fine` fine steps (R310). -/
def State.enterRamp (s : State) (p fine : Nat) (srs : Bool) : State :=
  (s.modPort p fun q => { q with rdPeriods := 0, rdTotal := fine, rdSrs := srs, scale := f1 }).goPort p PS.rampdown none

/-- A trip, crossfire or gate-driver fault stands latched on a leg of port p (Table 02.4). -/
def State.portLatched (s : State) (p : Nat) : Bool := (s.legsOf p).any fun n =>
  s.latched n || (List.range 8).any fun g => s.flag F.TG_STAT_TRIPPED g && (s.groupLegs g).contains n

/-- End of a port's SRS ramp: OFF with its code; the SGR follows when no other port ramps (R310). -/
def State.endSrs (s : State) (p : Nat) : State :=
  let s1 := s.goPort p PS.off (some (s.port p).rdCode)
  let s2 := (s1.modStw fun w => { w with srs := w.srs.filter fun r => r.port != p }).srsRegs
  if s2.stw.srs.isEmpty then s2.sgr else s2

/-! ### Host port commands at the boundary (R63 rank 7, R402) -/

/-- Ports and modes of PORT_START (Table 02.4, R61, R86): the state entered, or a status. DESIGN CHOICE: R51 asks for
bus-side sensors with LIVE and AUTO and names no status without them; the port then goes on with the capacitor voltages (log entry 136). -/
def State.startTo (s : State) (p mode : Nat) : Nat ⊕ Nat :=
  if p ≥ 4 then .inl PS.run
  else if mode = 0 then (if s.busDead p then .inl PS.blackstart else .inr FS.FS_BUS_LIVE)
  else if mode = 1 then (if s.busDead p then .inr FS.FS_BUS_DEAD else .inl PS.presync)
  else .inl (if s.busDead p then PS.blackstart else PS.presync)

/-- PORT_START takes effect. -/
def State.startPort (s : State) (p n : Nat) (t : Option Nat) : State :=
  if n = PS.run then (s.seedPort p 0 0).goPort p PS.run none
  else if n = PS.blackstart then
    ((s.goPort p PS.blackstart none).setFlag F.PORT_STATUS_REQ_CLOSE p true).modPort p fun q => { q with tStart := t }
  else (s.goPort p PS.presync none).modPort p fun q => { q with
    wLow := 0x7F7FFFFF#32, wHigh := 0#32, wAmp := 0#32, winPeriods := 0 }

/-- The start time of a PORT_START, when it gives one and the port honours it (R68). -/
def State.startTime (s : State) (e : Entry) : Option Nat :=
  let t := timeAt e.args 2
  if (slice e.args 2 14).all (· == 0#8) || !s.timed (e.a 0) then none else some t

/-- The port state in which a command acts, as R61 and Table 14.5 give it. -/
def hostFrom (op st : Nat) (p : Nat) : Bool :=
  if op = 0x0205 then st == PS.off
  else if op = 0x0206 ∨ op = 0x0207 then st == PS.armed
  else if op = 0x0208 then rampable st
  else if op = 0x0209 then st == PS.fault
  else st == PS.run && decide (p < 4)

/-- A waiting port command is evaluated at a boundary: it acts and completes, or completes with its status (R63, R402). -/
def State.hostPort (s : State) (e : Entry) : State :=
  let p := e.a 0
  let st := s.pstate p
  if !hostFrom e.op st p then s.doneAt e.tag FS.FS_PORT_STATE
  else match e.op with
    | 0x0205 => (s.armPort p).doneAt e.tag FS.FS_OK
    | 0x0206 => (s.goPort p PS.off none).doneAt e.tag FS.FS_OK
    | 0x0207 => match s.startTo p (e.a 1) with
      | .inl n => (s.startPort p n (s.startTime e)).doneAt e.tag FS.FS_OK
      | .inr f => s.doneAt e.tag f
    | 0x0208 => (s.enterRamp p (if e.a32 4 = 0 then s.srsT p else e.a32 4 * 8000000) false).doneAt e.tag FS.FS_OK
    | 0x0209 => if s.portLatched p then s.doneAt e.tag FS.FS_PORT_STATE else (s.goPort p PS.off none).doneAt e.tag FS.FS_OK
    | 0x020A => ((s.modPort p fun q => { q with pull := some 0 }).setFlag F.PORT_STATUS_TIME_ASSIST p (s.timed p)).doneAt
        e.tag FS.FS_OK
    | _ => ((s.modPort p fun q => { q with pull := none }).setFlag F.PORT_STATUS_TIME_ASSIST p (s.port p).bsAssist).doneAt
        e.tag FS.FS_OK

/-- The oldest host command that waits on port p is evaluated; the rest wait on. -/
def State.hostTurn (s : State) (p : Nat) : State :=
  match (s.port p).waits with
  | [] => s
  | t :: r =>
    let s1 := s.modPort p fun q => { q with waits := r }
    match s.fcp.inflight.find? fun e => e.tag == t with
    | some e => s1.hostPort e
    | none => s1

/-! ### The transition of a boundary (R63) -/

/-- Lowest code among the conditions of priority 1 (R87). -/
def rank1 (c : List PortCond) : Option Nat :=
  if c.contains .trip then some 1 else if c.contains .crossfire then some 2 else if c.contains .gdFault then some 3
  else if c.contains .sgr then some 4 else none

/-- The first condition of R63 that applies to port p in its state, ranks 1 to 6, carried out; none when none applies. -/
def State.portMoves (s : State) (p : Nat) : Option State :=
  let c := (s.port p).conds
  let st := s.pstate p
  let has := fun x => c.contains x
  if switchingState st && (rank1 c).isSome then some (s.goPort p PS.fault (rank1 c))
  else if has .srsDemand && rampable st then some (s.enterRamp p (s.srsT p) true)
  else if st = PS.run ∧ (has .feDemand || has .envRun) then some (s.enterCurlim p)
  else if has .closeExpiry && (st == PS.blackstart || st == PS.matching) && !s.flag F.PORT_STATUS_BKR_FB p then
    some ((s.setFlag F.PORT_STATUS_REQ_CLOSE p false).goPort p PS.armed (some 0x0B))
  else if has .presyncExpiry && st == PS.presync then some (s.goPort p PS.armed (some 0x0A))
  else if has .trackLow && st == PS.blackstart then some (s.goPort p PS.fault (some 0x05))
  else if has .trackHigh && st == PS.blackstart then some (s.goPort p PS.fault (some 0x06))
  else if has .dcRange && (st == PS.run || st == PS.rampdown) then some (s.goPort p PS.fault (some 0x07))
  else if has .rampDone && st == PS.blackstart then
    some ((s.modPort p fun q => { q with rampPeriods := none }).goPort p PS.run none)
  else if has .presyncOk && st == PS.presync then some (s.enterMatch p)
  else if has .bkrSeen && st == PS.matching then some (s.closeBreaker p)
  else if has .curlimDone && st == PS.curlim then some ((s.goPort p PS.run none).post EV.EV_CURLIM_EXIT p 0)
  else if st == PS.rampdown && (s.port p).rdSrs && has .srsRampDone then some (s.endSrs p)
  else if st == PS.rampdown && !(s.port p).rdSrs && has .stopRampDone then some (s.goPort p PS.armed none)
  else none

/-- A ramp after host STOP that an SRS then demands keeps its time and ends under SRS (R309). -/
def State.srsJoins (s : State) (p : Nat) : State :=
  if s.pstate p = PS.rampdown ∧ (s.port p).conds.contains .srsDemand then s.modPort p fun q => { q with rdSrs := true } else s

/-- BLACKSTART before switching: BKR_FB has been seen and the start time reached (R65, R68). -/
def State.blackReady (s : State) (p : Nat) : Bool :=
  s.pstate p == PS.blackstart && !(s.port p).switching && s.flag F.PORT_STATUS_BKR_FB p &&
    match (s.port p).tStart with
    | some t => decide (t ≤ (vget s.tb 0).ticks) || !s.timed p
    | none => true

/-- One port at an RG0 boundary: BKR_FB is taken (R341), then the first condition of R63 is carried out; a host command that loses waits
for the next boundary, and is evaluated there against the new state (R63, R402). A paired unit that is not ACTIVE makes no
transitions (R283). DESIGN CHOICE: R63 gives the start of switching in BLACKSTART no rank; it comes before a host command that waits, which
is evaluated at the next boundary (log entry 137). -/
def State.portTransition (s : State) (p : Nat) : State :=
  let s1 := (s.setFlag F.PORT_STATUS_BKR_FB p (s.port p).hlpBkr).srsJoins p
  let clear := fun (t : State) => t.modPort p fun q => { q with conds := [] }
  if s1.notActive then clear s1
  else match s1.portMoves p with
    | some t => clear t
    | none => if s1.blackReady p then clear (s1.startBlack p) else clear (s1.hostTurn p)

/-! ### Quantities that advance at each boundary -/

/-- x moves towards t by at most r T (R60). -/
def slewTo (r T x t : F32) : F32 := fAdd x (fClamp (fNegate (fMul r T)) (fMul r T) (fSub t x))

/-- Setpoints of an AC port approach their targets (R60). -/
def State.slewPort (s : State) (p : Nat) : State :=
  if p ≥ 4 then s else
  let T := s.T0
  s.modPort p fun q =>
    let r := fun k => q.slew.getD (if k < 2 then 0 else k - 1) 0#32
    { q with slewed := (List.range 4).map fun k =>
        let x := q.slewed.getD k 0#32
        let t := q.target.getD k 0#32
        if fEq x t then t else slewTo (r k) T x t }

/-- omega_set' of port p (R83, R84): with the phase pull while its window runs and time is valid. DESIGN CHOICE: while a window runs and it
and the last black start differ in using time, R84 and Table 02.6 can be read apart (0 if either ran without it, 1 if either used
it); TIME_ASSIST then shows the running window (log entry 108). -/
def State.pullPort (s : State) (p : Nat) : State :=
  if p ≥ 4 then s else
  let q := s.port p
  let w := q.slewed.getD 2 0#32
  match q.pull with
  | none => s.modPort p fun q => { q with wPrime := w }
  | some k =>
    let on := s.timed p
    let d := wrapTurn ((thetaRef (s.pw p 2) w s.ptp.latch : Int) - (s.theta p : Int))
    let lim := s.pw p 46
    let x := if on then fAdd w (fClamp (fNegate lim) lim (fMul (s.pw p 45) d)) else w
    (s.modPort p fun q => { q with wPrime := x, pull := some (k + 1) }).setFlag F.PORT_STATUS_TIME_ASSIST p on

/-- Counters of RG0 periods of port p (R62, R65, R67, R69, R70, R71, R79, R310). -/
def State.tickPort (s : State) (p : Nat) : State :=
  let st := s.pstate p
  let dead := p < 4 && st == PS.armed && fLt (s.busAmp p) (s.pw p 34)
  let wp := s.pllRes p 0
  let a := s.matchAngle p
  let n := (ceilCycles 1 (s.pw p 2) s.fineP).getD 0
  let trk := st == PS.blackstart && (s.port p).switching && (match ceilCycles 2 (s.pw p 2) s.fineP with
    | some k => decide (k ≤ (s.port p).swPeriods)
    | none => false)
  let low := trk && fLt (s.capAmp p) (fSub (s.ebs p) (s.pw p 35))
  let high := trk && fLt (fAdd (s.ebs p) (s.pw p 35)) (s.capAmp p)
  s.modPort p fun q =>
    let rd := q.rdPeriods + 1
    { q with
      deadPeriods := if dead then q.deadPeriods + 1 else 0
      swPeriods := if q.switching then q.swPeriods + 1 else 0
      rampPeriods := q.rampPeriods.map (· + 1)
      bumpPeriods := q.bumpPeriods + 1
      clPeriods := if st = PS.curlim then q.clPeriods + 1 else 0
      clRamp := q.clRamp.map (· + 1)
      rdPeriods := if st = PS.rampdown then rd else 0
      scale := if st = PS.rampdown ∧ 0 < q.rdTotal then
        (if rd * s.fineP ≥ q.rdTotal then 0#32 else fOfRat ((q.rdTotal - rd * s.fineP : Nat) : Int) q.rdTotal) else q.scale
      wLow := if st = PS.presync then fMin q.wLow wp else q.wLow
      wHigh := if st = PS.presync then fMax q.wHigh wp else q.wHigh
      winPeriods := if st = PS.presync then q.winPeriods + 1 else q.winPeriods
      wAmp := if st = PS.presync then fAdd q.wAmp (s.pllRes p 1) else q.wAmp
      trkLow := if low then q.trkLow + 1 else 0
      trkHigh := if high then q.trkHigh + 1 else 0
      angles := if st = PS.matching then (a :: q.angles).take (n + 1) else [] }

/-- REQ_CLOSE and SYNC_OK of a port in MATCH (R70), and TIME_OK (R82). -/
def State.matchPort (s : State) (p : Nat) : State :=
  let s1 := s.cond (p < 4) fun t => t.setFlag F.PORT_STATUS_TIME_OK p (t.timeOk p)
  if s1.pstate p = PS.matching ∧ !s1.notActive then
    let ok := s1.matchOk p
    (s1.setFlag F.PORT_STATUS_REQ_CLOSE p ok).setFlag F.PORT_STATUS_SYNC_OK p ok
  else s1

/-- Flags that stand only while the port switches. -/
def State.quietPort (s : State) (p : Nat) : State :=
  if (s.port p).switching then s else
  (((s.setFlag F.PORT_STATUS_ENV_ACTIVE p false).setFlag F.PORT_STATUS_ILIM_ACT p false).setFlag F.PORT_STATUS_FREQ_LIM p
    false).setFlag F.PORT_STATUS_OVERMOD p false

/-- The end of a period of port p: it counts towards T_exit of CURLIM when it held no hit and |i*| stayed below 0.9 I_lim (R79), and a
counted period without a crossing ends the run (R77). -/
def State.runPort (s : State) (p : Nat) : State :=
  let q := s.port p
  let calm := s.pstate p == PS.curlim && !(q.hit && q.counted) && fLt q.iStar (fMul 0x3F666666#32 (s.pw p 22))
  let s1 := s.modPort p fun q => { q with hit := false, quiet := if calm then q.quiet + 1 else 0 }
  if q.counted && !q.hit then (s1.setFld F.PORT_ENV_RUN_LEN p 0).modPort p fun q => { q with persistPosted := false } else s1

/-- I_mag of port p: the largest magnitude over its sensors (R311). -/
def State.srsImag (s : State) (p : Nat) : F32 :=
  let o := 0x80 + 48 * p
  let ain := s.saf (o + 16) 8
  let sdd := s.saf (o + 24) 4
  let a := ((List.range 48).filter (bitOf ain)).map fun n => fAbs (s.srsScaled n (s.fld F.AIN_SAMP_CODE n))
  let b := ((List.range 32).filter (bitOf sdd)).map fun n => fAbs (s.srsScaled (48 + n) (s.fld F.SD_RES_CODE n))
  (a ++ b).foldl fMax 0#32

/-- FP32 parameter at offset k of port p's block of the safety tile. -/
def State.srsPar (s : State) (p k : Nat) : F32 := BitVec.ofNat 32 (s.saf (0x80 + 48 * p + k) 4)

/-- The SRS envelope is violated on port r.port (R311). -/
def State.srsBad (s : State) (r : SrsRec) : Bool :=
  let p := r.port
  let sc := (s.stw.view.getD p (0, f1)).2
  let ib := s.srsPar p 32
  let vb := s.srsPar p 40
  let i := fLt (fAdd (fMul (fMul sc (s.srsPar p 36)) ib) (fMul (s.srsPar p 4) ib)) (s.srsImag p)
  let v := decide (p < 4) && s.saf (0x80 + 48 * p + 12) 1 % 2 == 1
    && fLt (fAdd (fMul sc r.v0) (fMul (s.srsPar p 8) vb)) (s.srsVmag p)
  i || v

/-- Every port that ramps under SRS in the Steward's snapshot is checked (R21, R311, R312); a port the snapshot shows in FAULT leads to
SGR at once. -/
def State.srsChecks (s : State) : State :=
  let bad := s.stw.srs.any fun r => s.stwPort r.port == PS.rampdown && s.srsBad r
  let fault := s.stw.srs.any fun r => s.stwPort r.port == PS.fault
  (s.cond bad fun t => t.cause Cause.srsEnvelope).cond fault fun t => t.sgr

/-! ### The commands -/

/-- T_CLOSE_EXPIRY (R61, Table 02.4): T_close has passed and BKR_FB is not 1. -/
def execTCloseExpiry (port : Fin 4) (s : State) : Host.Outcome State Fault Refusal :=
  let p := port.val
  .next (if ((s.pstate p == PS.blackstart && !(s.port p).switching) || s.pstate p == PS.matching) && !s.flag F.PORT_STATUS_BKR_FB p then
      s.raise p .closeExpiry
    else s)

/-- PRESYNC_TIMEOUT (R69): T_pre expires. -/
def execPresyncTimeout (port : Fin 4) (s : State) : Host.Outcome State Fault Refusal :=
  .next (if s.pstate port = PS.presync then s.raise port .presyncExpiry else s)

/-- The lock criteria of R69 hold. DESIGN CHOICE: R69 does not say whether omega_pll must lie between W_MIN and W_MAX at the window's end or
throughout the window; the model takes its least and its greatest value in the window (log entry 109). -/
def State.lockOk (s : State) (p : Nat) : Bool :=
  let q := s.port p
  let amp := s.pllRes p 1
  !s.famCold p .pll && (s.member p .pll).isSome && fLe (s.pw p 8) q.wLow && fLe q.wHigh (s.pw p 9)
    && fLe (fSub q.wHigh q.wLow) (s.pw p 40) && fLe (s.pw p 10) amp && fLe amp (s.pw p 11)

/-- N_pre of port p, in fundamental cycles: PS_CYCLES, 3 to 50 (R69). -/
def State.nPre (s : State) (p : Nat) : Nat := (fToInt (s.pw p 37) 0 3 50).toNat

/-- The pre-sync window of port p has lasted N_pre cycles at f_n (R69). -/
def State.windowFull (s : State) (p : Nat) : Bool := match ceilCycles (s.nPre p) (s.pw p 2) s.fineP with
  | some n => decide (n ≤ (s.port p).winPeriods)
  | none => false

/-- PRESYNC_WINDOW_END (R69): at the end of a window of N_pre cycles, MATCH follows when the lock criteria hold, else a new window starts. -/
def execPresyncWindowEnd (port : Fin 4) (s : State) : Host.Outcome State Fault Refusal :=
  let p := port.val
  .next (
    if s.pstate p != PS.presync || !s.windowFull p then s
    else if s.lockOk p then s.raise p .presyncOk
    else s.modPort p fun q => { q with wLow := 0x7F7FFFFF#32, wHigh := 0#32, wAmp := 0#32, winPeriods := 0 })

/-- The black-start ramp is complete and the capacitor voltage lies within V_bs of E (Table 02.4). -/
def State.blackDone (s : State) (p : Nat) : Bool :=
  s.pstate p == PS.blackstart && (s.port p).switching && s.lasts ((s.port p).rampPeriods.getD 0) (s.pw p 33)
    && fLe (fAbs (fSub (s.capAmp p) (s.ebs p))) (s.pw p 35)

/-- BLACKSTART_RAMP_COMPLETE (R65, Table 02.4). -/
def execBlackstartRampComplete (port : Fin 4) (s : State) : Host.Outcome State Fault Refusal :=
  .next (if s.blackDone port then s.raise port .rampDone else s)

/-- BLACKSTART_TRACK_FAULT (R67): from two cycles after switching started, the capacitor voltage's amplitude has stayed above E_bs + V_bs,
or below E_bs - V_bs, for T_bs. -/
def execBlackstartTrackFault (port : Fin 4) (high : Bool) (s : State) : Host.Outcome State Fault Refusal :=
  let q := s.port port
  let n := if high then q.trkHigh else q.trkLow
  .next (if s.pstate port = PS.blackstart ∧ q.switching ∧ 0 < n ∧ s.lasts n (s.pw port 36) then
      s.raise port (if high then .trackHigh else .trackLow)
    else s)

/-- BKR_FB_SEEN (R70, R71): the HLP reports the breaker closed; a port in MATCH enters RUN at the boundary that sees it. -/
def execBkrFbSeen (port : Fin 4) (s : State) : Host.Outcome State Fault Refusal :=
  .next (if s.pstate port = PS.matching ∧ (s.port port).hlpBkr then s.raise port .bkrSeen else s)

/-- N_env of port p in periods. -/
def State.envN (s : State) (p : Nat) : Nat := (fToInt (s.pw p (if p < 4 then 29 else 10)) 0 1 255).toNat

/-- ENVELOPE_RUN_LIMIT (R77, R85): the run of hit periods has reached N_env; a DC port counts in RAMPDOWN too. -/
def execEnvelopeRunLimit (port : Fin 12) (s : State) : Host.Outcome State Fault Refusal :=
  let p := port.val
  let run := s.fld F.PORT_ENV_RUN_LEN p
  .next (
    if !(s.pstate p == PS.run || (decide (4 ≤ p) && s.pstate p == PS.rampdown)) || decide (run < s.envN p) then s
    else if p < 4 ∧ s.clEn p then s.raise p .envRun
    else if (s.port p).persistPosted then s
    else (s.modPort p fun q => { q with persistPosted := true }).post EV.EV_ENV_PERSIST p run)

/-- CURLIM_EXIT_START (R79): T_exit has passed with no hit and |i*| below 0.9 I_lim throughout. -/
def execCurlimExitStart (port : Fin 4) (s : State) : Host.Outcome State Fault Refusal :=
  let p := port.val
  let q := s.port p
  .next (
    if s.pstate p = PS.curlim ∧ q.clRamp = none ∧ (q.hit && q.counted) = false ∧ s.lasts q.quiet (s.pw p 30) ∧
        fLt q.iStar (fMul 0x3F666666#32 (s.pw p 22)) then
      (s.modPort p fun q => { q with clRamp := some 0 }).setFlag F.PORT_STATUS_CL_RAMP p true
    else s)

/-- CURLIM_RAMP_COMPLETE (R79): the impedance has returned over T_vz. -/
def execCurlimRampComplete (port : Fin 4) (s : State) : Host.Outcome State Fault Refusal :=
  let p := port.val
  .next (match (s.port p).clRamp with
    | some k => if s.pstate p = PS.curlim ∧ s.lasts k (s.pw p 31) then s.raise p .curlimDone else s
    | none => s)

/-- CURLIM_TIMEOUT (R80): the port has stayed in CURLIM longer than a T_cl_max that is not zero. -/
def execCurlimTimeout (port : Fin 4) (s : State) : Host.Outcome State Fault Refusal :=
  let p := port.val
  let act := bitOf (s.port p).cfg.flags 4
  .next (
    if s.pstate p = PS.curlim ∧ fLt 0#32 (s.pw p 32) then
      (s.post EV.EV_CURLIM_TIMEOUT p (b2n act)).cond act fun t => t.srsRequest (2 ^ p) true
    else s)

/-- PULL_WINDOW_END (R83): T_reclose expires. -/
def execPullWindowEnd (port : Fin 4) (s : State) : Host.Outcome State Fault Refusal :=
  let p := port.val
  .next (
    if (s.port p).pull = none then s
    else (s.modPort p fun q => { q with pull := none, wPrime := q.slewed.getD 2 0#32 }).setFlag F.PORT_STATUS_TIME_ASSIST p
      (s.port p).bsAssist)

/-- DC_RANGE_FAULT (R85): V_dc has been outside the port's window for longer than 1 ms. -/
def execDcRangeFault (port : Fin 12) (s : State) : Host.Outcome State Fault Refusal :=
  let p := port.val
  .next (if 4 ≤ p ∧ (s.pstate p = PS.run ∨ s.pstate p = PS.rampdown) ∧ !s.vdcInside p then s.raise p .dcRange else s)

/-- STOP_RAMP_COMPLETE (R61): the ramp after a host STOP has reached s = 0. -/
def execStopRampComplete (port : Fin 12) (s : State) : Host.Outcome State Fault Refusal :=
  let p := port.val
  .next (if s.pstate p = PS.rampdown ∧ !(s.port p).rdSrs ∧ fIsZero (s.port p).scale then s.raise p .stopRampDone else s)

/-- SRS_RAMP_COMPLETE (R310): the ramp under SRS has reached s = 0. -/
def execSrsRampComplete (port : Fin 12) (s : State) : Host.Outcome State Fault Refusal :=
  let p := port.val
  .next (if s.pstate p = PS.rampdown ∧ (s.port p).rdSrs ∧ fIsZero (s.port p).scale then s.raise p .srsRampDone else s)

end Sys2Proof.Machine
end

