-- ==== Sys2Proof/Machine/Steward.lean ====
section
/-!
DEFINITION. The Steward's inputs, tests and watches (10): SDIN and field inputs, test pulses, safety outputs, monitor ADC, the
watches on the CLE and the timebase, Safe Ramp Stop requests and Safe Gate Removal readback.
-/
namespace Sys2Proof.Machine

/-! ### The safety configuration (Tables 10.5, 14.14) -/

/-- n bytes at offset o of the configuration tile, or the default d of Table 10.5 while no tile has been committed. -/
def State.safD (s : State) (o n d : Nat) : Nat := if s.saf 0 4 = 0x10000 then s.saf o n else d

/-- Safety input i is in use: SDIN0-SDIN3 (0 to 3) always, DI0-DI15 (4 to 19) when their pair is assigned (R324). -/
def State.siUsed (s : State) (i : Nat) : Bool := decide (i < 4) || bitOf (s.safD 0x24 1 0) ((i - 4) / 2)

/-- TP output that supplies input i, plus one; 0 with none (R323). -/
def State.siTp (s : State) (i : Nat) : Nat := if i < 4 then s.safD (0x0C + i) 1 0 else s.safD (0x10 + (i - 4)) 1 0

/-- Pair of input i: SDIN pairs 0 and 1, DI pair m as 2 + m. -/
def siPair (i : Nat) : Nat := if i < 4 then i / 2 else 2 + (i - 4) / 2

/-- The action of pair q is SRS. -/
def State.pairSrs (s : State) (q : Nat) : Bool := if q < 2 then bitOf (s.safD 4 1 0) q else bitOf (s.safD 0x25 1 0) (q - 2)

/-- Port mask of pair q. -/
def State.pairMask (s : State) (q : Nat) : Nat := s.safD (if q < 2 then 6 + 2 * q else 0x26 + 2 * (q - 2)) 2 0xFFF % 4096

/-- Raise cause c with the action of pair q. -/
def State.pairCause (s : State) (c q : Nat) : State := s.causeWith c (s.pairSrs q) (s.pairMask q) false

/-! ### Demands (R321, R322, R324) -/

/-- Some DI is in demand. -/
def State.anySi (s : State) : Bool := s.fld F.STW_IO_SI_DEM 0 != 0

/-- Active conditions of causes 0x01, 0x02, 0x03 and 0x07. -/
def State.inputActive (s : State) : State :=
  let s1 := (s.setActive 1 (s.stw.dem.contains 0)).setActive 2 (s.stw.dem.contains 1)
  (s1.setActive Cause.fieldIn s1.anySi).setActive Cause.inputTest (!s1.stw.disc.isEmpty || !s1.stw.faulty.isEmpty)

/-- Input i reads low. -/
def State.siLow (s : State) (i : Nat) : State :=
  let s1 := s.modStw fun w => { w with low := if w.low.contains i then w.low else w.low ++ [i] }
  s1.cond (decide (i < 4)) fun t => t.setFld F.STW_IO_SDIN 0 (t.fld F.STW_IO_SDIN 0 &&& (15 - 2 ^ i))

/-- Input i is a demand of its pair, unless its own test slot runs; one channel suffices. -/
def State.siDemand (s : State) (i : Nat) : State :=
  let q := siPair i
  let s1 := s.siLow i
  if i < 4 then
    if s1.stw.dem.contains q then s1
    else ((s1.modStw fun w => { w with dem := w.dem ++ [q] }).pairCause (1 + q) q).inputActive
  else
    let m := s1.fld F.STW_IO_SI_DEM 0
    let was := bitOf m (2 * (q - 2)) || bitOf m (2 * (q - 2) + 1)
    let s2 := s1.setFld F.STW_IO_SI_DEM 0 (m ||| 2 ^ (i - 4))
    (if was then s2 else s2.pairCause Cause.fieldIn q).inputActive

/-- Input i reads high again: its pair is clear once both channels are high and no discrepancy holds it. -/
def State.siHigh (s : State) (i : Nat) : State :=
  let q := siPair i
  let other := if i % 2 = 0 then i + 1 else i - 1
  let s1 := s.modStw fun w => { w with low := w.low.filter (· != i) }
  let s2 := s1.cond (decide (i < 4)) fun t => t.setFld F.STW_IO_SDIN 0 (t.fld F.STW_IO_SDIN 0 ||| 2 ^ i)
  let clear := !s2.stw.low.contains other && !s2.stw.disc.contains q
  if i < 4 then (s2.cond clear fun t => t.modStw fun w => { w with dem := w.dem.filter (· != q) }).inputActive
  else
    let m := s2.fld F.STW_IO_SI_DEM 0
    let pairBits := 3 * 4 ^ (q - 2)
    (if clear then (s2.setFld F.STW_IO_SI_DEM 0 (m &&& (0xFFFF - pairBits))).modStw fun w =>
        { w with diRet := w.diRet.filter fun x => x.1 != q - 2 }
      else if m &&& pairBits != 0 && !s2.stw.diRet.any (fun x => x.1 == q - 2) then
        s2.modStw fun w => { w with diRet := w.diRet ++ [(q - 2, s2.now)] }
      else s2).inputActive

/-- The pair stays in demand until reset: one channel is back and the other has not followed (R322). -/
def State.discrepancy (s : State) (q : Nat) : State :=
  if s.stw.disc.contains q then s
  else ((s.modStw fun w => { w with disc := w.disc ++ [q] }).pairCause Cause.inputTest q).inputActive

/-- DI pairs whose other channel has not followed within SI_DISC. -/
def State.diDiscrepancies (s : State) : State :=
  (s.stw.diRet.filter fun x => decide (x.2 + 8000000 * s.safD 0x38 2 20 ≤ s.now)).foldl
    (fun t x => (t.discrepancy (2 + x.1)).modStw fun w => { w with diRet := w.diRet.filter fun y => y.1 != x.1 }) s

/-- SDIN_DEMAND (R321): a channel has read low for 0.5 us. -/
def execSdinDemand (ch : Fin 4) (s : State) : Host.Outcome State Fault Refusal :=
  .next (if s.siTp ch != 0 && s.stw.slot == some (s.siTp ch - 1) then s.siLow ch else s.siDemand ch)

/-- SDIN_RETURN_HIGH (R322). -/
def execSdinReturnHigh (ch : Fin 4) (s : State) : Host.Outcome State Fault Refusal := .next (s.siHigh ch)

/-- SDIN_DISCREPANCY (R322): SD_DISC after one channel of the pair returned high, the other is still low. -/
def execSdinDiscrepancy (pair : Fin 2) (s : State) : Host.Outcome State Fault Refusal :=
  let a := s.stw.low.contains (2 * pair.val)
  let b := s.stw.low.contains (2 * pair.val + 1)
  .next (if s.stw.dem.contains pair.val && a != b then s.discrepancy pair else s)

/-- SAFETY_DI_DEMAND (R324): an assigned input has read low for SI_FILT. -/
def execSafetyDiDemand (di : Fin 16) (s : State) : Host.Outcome State Fault Refusal :=
  let i := di.val + 4
  .next (if !s.siUsed i then s
    else if s.siTp i != 0 && s.stw.slot == some (s.siTp i - 1) then s.siLow i else s.siDemand i)

/-! ### Test pulses (R323) -/

/-- TEST_PULSE_SLOT (R323): TP drops low. -/
def execTestPulseSlot (tp : Fin 4) (s : State) : Host.Outcome State Fault Refusal :=
  .next (s.modStw fun w => { w with slot := some tp })

/-- A test of input i on output tp failed. -/
def State.testFault (s : State) (tp i : Nat) : State :=
  let s1 := s.modStw fun w => { w with
    faulty := if w.faulty.contains i then w.faulty else w.faulty ++ [i], tested := w.tested.filter (· != i) }
  ((s1.setFld F.STW_IO_TP_FAULT 0 (s1.fld F.STW_IO_TP_FAULT 0 ||| 2 ^ tp)).pairCause Cause.inputTest (siPair i)).inputActive

/-- The check TP_T - 50 us after the slot opens: assigned inputs must read low, and no input of another TP may. -/
def State.pulseIn (s : State) (tp : Nat) (low : Nat) : State :=
  ((List.range 20).filter fun i => s.siUsed i && s.siTp i != 0).foldl (fun t i =>
    if s.siTp i = tp + 1 then
      (if bitOf low i then (t.modStw fun w => { w with faulty := w.faulty.filter (· != i) }).inputActive else t.testFault tp i)
    else if bitOf low i && !s.stw.low.contains i then t.testFault tp i
    else t) s

/-- The check 50 us after the slot ends: an assigned input still low is a demand; the others have completed a test cycle. -/
def State.pulseOut (s : State) (tp : Nat) (low : Nat) : State :=
  ((List.range 20).filter fun i => s.siUsed i && s.siTp i == tp + 1).foldl (fun t i =>
    if bitOf low i then t.siDemand i
    else if t.stw.faulty.contains i then t
    else t.modStw fun w => { w with tested := if w.tested.contains i then w.tested else w.tested ++ [i] })
    (s.modStw fun w => { w with slot := none })

/-- TEST_PULSE_CHECK (R323): bit i of `low` is input i (SDIN0-SDIN3, then DI0-DI15) reading low at the deadline. -/
def execTestPulseCheck (tp : Fin 4) (after : Bool) (low : BitVec 20) (s : State) : Host.Outcome State Fault Refusal :=
  .next (if s.stw.slot = some tp.val then
      (if after then s.pulseOut tp low.toNat else s.pulseIn tp low.toNat)
    else s)

/-! ### Safety outputs (R325) -/

/-- Output m is driven on (R363). -/
def State.doOn (s : State) (m : Nat) : Bool :=
  bitOf (s.fld F.FIO_DO_APPLIED 0) m && bitOf (s.fld F.FIO_DO_STW_EN 0) m && !bitOf (s.fld F.FIO_STAT_OVL 0) m
    && !s.flag F.FIO_STAT_VF_UV 0 && !s.flag F.FIO_STAT_VF_OV 0 && s.fio.pulse != some m

/-- Bits of the outputs that satisfy f. -/
def outBits (f : Nat → Bool) : Nat := (((List.range 8).filter f).map (2 ^ ·)).sum

/-- The outputs that have turned off since the last switch read back 0 (R365), and those that have turned on begin an on period. -/
def State.doNote (s : State) : State :=
  let on := outBits s.doOn
  let rose := fun m => bitOf on m && !bitOf s.fio.on m
  let s1 := s.setFld F.FIO_DO_PIN 0 (s.fld F.FIO_DO_PIN 0 &&& outBits fun m => !(bitOf s.fio.on m && !bitOf on m))
  { s1 with fio := { s.fio with
      on := on, read := s.fio.read &&& outBits (bitOf (on &&& s.fio.on))
      onAt := (List.range 8).foldl (fun v m => if rose m then vmod v m fun _ => s.now else v) s.fio.onAt } }

/-- FIO_DO.STW_EN: the Steward's enables, off in BOOT and for latched outputs of SO_MASK. -/
def State.stwEn (s : State) : State :=
  (s.setFld F.FIO_DO_STW_EN 0 (if s.stwState = 0 then 0 else 0xFF - (s.fld F.STW_IO_SO_FAIL 0 &&& s.safD 0x3A 1 0))).doNote

/-- SO_ACT of output m: 0 alarm, 1 SRS, 2 SGR. -/
def State.soAct (s : State) (m : Nat) : Nat := s.safD 0x3C 2 0xAAAA / 4 ^ m % 4

/-- Output m is latched off; cause 0x08 unless its action is alarm. -/
def State.soFail (s : State) (m : Nat) : State :=
  let s1 := (s.setFld F.STW_IO_SO_FAIL 0 (s.fld F.STW_IO_SO_FAIL 0 ||| 2 ^ m)).stwEn
  if s.soAct m = 0 then s1 else s1.causeWith Cause.outputReadback (s.soAct m == 1) 0xFFF false

/-- Output m is a safety output (R325). -/
def State.isSafeOut (s : State) (m : Nat) : Bool := bitOf (s.safD 0x3A 1 0) m

/-- An on period of safety output m that ends now has lasted at least 1 ms, and its readback is not high (R325). A pin that has not been read
since the output turned on shows nothing. -/
def State.shortedOut (s : State) (m : Nat) : Bool :=
  s.isSafeOut m && bitOf s.fio.read m && !bitOf (s.fld F.FIO_DO_PIN 0) m && decide (vget s.fio.onAt m + 8000000 ≤ s.now)

/-- Outputs follow their conditions (R363): the on periods that end are checked (R325). -/
def State.doSync (s : State) : State :=
  ((List.range 8).filter fun m => bitOf s.fio.on m && !s.doOn m && s.shortedOut m).foldl State.soFail s.doNote

/-- The readbacks of all outputs are taken. -/
def State.readPins (s : State) (pins : Nat) : State :=
  { s.setFld F.FIO_DO_PIN 0 pins with fio := { s.fio with read := s.fio.on } }

/-- The off-pulse of output m ends with these readbacks: its own must read low, and no other safety output that is on may (R325). -/
def State.pulseEnd (s : State) (m pins : Nat) : State :=
  let others := (List.range 8).filter fun k => k != m && s.isSafeOut k && s.doOn k && !bitOf pins k
  let bad := (if bitOf pins m || !others.isEmpty then [m] else []) ++ others
  let s1 := { s.readPins pins with fio := { (s.readPins pins).fio with pulse := none } }
  bad.foldl State.soFail s1.doNote

/-- OUTPUT_OFF_PULSE (R325): the off-pulse of a safety output that is on begins, or ends after OP_T; `pins` are the readbacks just before. -/
def execOutputOffPulse (out : Fin 8) (ending : Bool) (pins : BitVec 8) (s : State) : Host.Outcome State Fault Refusal :=
  .next (
    if ending then (if s.fio.pulse = some out.val then s.pulseEnd out pins.toNat else s)
    else if s.fio.pulse.isSome || !s.isSafeOut out || !s.doOn out then s
    else
      let t := s.readPins pins.toNat
      { t with fio := { t.fio with pulse := some out.val } }.doSync)

/-! ### Monitor ADC and temperature (R333, R334) -/

/-- Monitor channel c's n bytes at offset o of its record. -/
def State.mon (s : State) (c o n : Nat) : Nat := s.safD (0x540 + 24 * c + o) n 0

/-- Channel ch with or without this condition. -/
def withChan (l : List Nat) (ch : Nat) (on : Bool) : List Nat := if on then (if l.contains ch then l else l ++ [ch]) else l.filter (· != ch)

/-- MONITOR_ADC_WINDOW (R333): a channel has been outside its window for XCHK_T, which is cause 0x09 with the channel's action, or is inside
again. -/
def execMonitorAdcWindow (ch : Fin 4) (on : Bool) (s : State) : Host.Outcome State Fault Refusal :=
  let l := withChan s.stw.monOut ch on
  let s1 := s.modStw fun w => { w with monOut := l }
  .next (if bitOf (s.mon ch 13 1) 0 then
      (s1.cond on fun t => t.causeWith Cause.monitorWindow (s.mon ch 13 1 / 4 % 4 == 1) (s.mon ch 16 2 % 4096) false).setActive
        Cause.monitorWindow (!l.isEmpty)
    else s)

/-- MONITOR_CROSS_CHECK (R333): a channel has differed from its input for XCHK_T, which is cause 0x16, or agrees again. -/
def execMonitorCrossCheck (ch : Fin 4) (on : Bool) (s : State) : Host.Outcome State Fault Refusal :=
  let l := withChan s.stw.monBad ch on
  let s1 := s.modStw fun w => { w with monBad := l }
  .next (if bitOf (s.mon ch 13 1) 1 then (s1.cond on fun t => t.cause Cause.crossCheck).setActive Cause.crossCheck (!l.isEmpty) else s)

/-- JUNCTION_OVERTEMP (R334): the island's sensor has read 125 degrees for 10 ms, which is cause 0x17, or reads less again. -/
def execJunctionOvertemp (on : Bool) (s : State) : Host.Outcome State Fault Refusal := .next (s.causeOn Cause.junction on)

/-- CLOCK_CROSS_CHECK (R300): the counts differ, which is cause 0x18 and clears CLK_OK of SAF (R468), or agree again. -/
def execClockCrossCheck (on : Bool) (s : State) : Host.Outcome State Fault Refusal :=
  .next ((s.clkBit 1 (!on)).causeOn Cause.clockCheck on)

/-- ISLAND_SUPPLY_FAULT (R319): cause 0x20; the hardware enters FATAL and reports it to the reset controller. -/
def execIslandSupplyFault (s : State) : Host.Outcome State Fault Refusal := .next (s.cause Cause.islandSupply)

/-- LOCKSTEP_MISMATCH (R319): cause 0x21. -/
def execLockstepMismatch (s : State) : Host.Outcome State Fault Refusal := .next (s.cause Cause.lockstep)

/-! ### Watches (R307) -/

/-- CONSECUTIVE_MISS_LIMIT (R307): STW_MISS_N consecutive RG0 periods have had a missed deadline; a period without one ends it. -/
def execConsecutiveMissLimit (s : State) : Host.Outcome State Fault Refusal :=
  .next (if s.safD 0x42 1 2 ≤ s.cle.missRun then s.causeOn Cause.missLimit true else s)

/-- TIMEBASE_WATCH_EXPIRY (R307): no RG0 boundary within STW_TB_T after it was due; there is none in Paddock. The next boundary ends it. -/
def execTimebaseWatchExpiry (s : State) : Host.Outcome State Fault Refusal :=
  .next (if s.gait = Gait.paddock then s else s.causeOn Cause.noBoundary true)

/-- A boundary ends the conditions of causes 0x11 and, after a period without a missed deadline, 0x10. -/
def State.watchBoundary (s : State) : State :=
  (s.setActive Cause.noBoundary false).cond (s.cle.missRun == 0) fun t => t.setActive Cause.missLimit false

/-- OFF_PATH_READBACK_FAULT (R307): a trip or truncation has not been executed, or its pins and lanes are off after all. -/
def execOffPathReadbackFault (on : Bool) (s : State) : Host.Outcome State Fault Refusal := .next (s.causeOn Cause.notExecuted on)

/-! ### SRS and SGR (R309, R312, R314) -/

/-- SRS_REQUEST (R309): a request of class S that names every port. -/
def execSrsRequest (s : State) : Host.Outcome State Fault Refusal := .next (s.srsRequest 0xFFF false)

/-- SRS_TIME_LIMIT (R312): a port of a running SRS has not reached OFF by T_srs + 10 ms after entering RAMPDOWN. -/
def execSrsTimeLimit (port : Fin 12) (s : State) : Host.Outcome State Fault Refusal :=
  .next (if s.stw.srs.any (fun r => r.port == port.val) && s.stwPort port == PS.rampdown then s.cause Cause.srsEnvelope else s)

/-- An SGR is held, by the unit's own decision or by SGR_IN (R313, R315). -/
def State.sgrHeld (s : State) : Bool := s.stw.sgr || s.flag F.STW_STATUS_REMOTE_SGR 0

/-- SGR_OUT is driven high (R277, R313, R315): by an SGR of the unit's own decision. -/
def State.sgrOut (s : State) : Bool := s.stw.sgr

/-- The readbacks of R314 that the state shows: every GDEN pin low on 2 consecutive samples, and in a pair SGR_OUT. The direct-pin gate has been
closed and every lane's HALT has left by the second of those samples, 1 us after the first. -/
def State.sgrConfirmed (s : State) : Bool := decide (2 ≤ s.stw.gdenLow) && (!s.flag F.PAIR_CFG_PAIR_EN 0 || s.sgrOut)

/-- SGR_COMPLETE (R314). -/
def execSgrComplete (s : State) : Host.Outcome State Fault Refusal :=
  .next (if s.sgrHeld && s.sgrConfirmed then s.setFlag F.STW_STATUS_SGR_DONE 0 true else s)

/-- SGR_READBACK_TIMEOUT (R314): `unconfirmed` names GDEN, direct pins and lanes. -/
def execSgrReadbackTimeout (unconfirmed : BitVec 3) (s : State) : Host.Outcome State Fault Refusal :=
  .next (if s.sgrHeld && !s.flag F.STW_STATUS_SGR_DONE 0 && unconfirmed != 0#3 then
      (s.setFlag F.STW_STATUS_SGR_RB_ERR 0 true).post EV.EV_SGR_READBACK noUnit unconfirmed.toNat
    else s)

end Sys2Proof.Machine
end

