-- ==== Sys2Proof/Machine/SafetyPdu.lean ====
section
/-!
DEFINITION. Safety PDUs (10, 15): receive connections, their validation, pairing and watchdogs, and send connections.
-/
namespace Sys2Proof.Machine

/-- CRC of the NET-B copy: polynomial 0xF4ACFB13, reflected, start and final XOR all ones (R329). -/
def crcNetB (l : List Byte) : BitVec 32 := l.foldl (crcByte 0xC8DF352F#32) 0xFFFFFFFF#32 ^^^ 0xFFFFFFFF#32

/-- CRC of a copy on NET-A (0) or NET-B (1). -/
def pduCrc (net : Nat) (l : List Byte) : Nat := if net = 0 then (crc32c l).toNat else (crcNetB l).toNat

/-- Receive connection r's n bytes at offset o of its record (Table 14.14). -/
def State.rxCfg (s : State) (r o n : Nat) : Nat := s.safD (0x5A0 + 16 * r + o) n 0

/-- Send connection c's n bytes at offset o of its record. -/
def State.txCfg (s : State) (c o n : Nat) : Nat := s.safD (0x5E0 + 8 * c + o) n 0

/-- Receive connection r. -/
def State.rx (s : State) (r : Nat) : PduRx := vget s.stw.rx r

/-- Change receive connection r. -/
def State.modRx (s : State) (r : Nat) (f : PduRx → PduRx) : State := s.modStw fun w => { w with rx := vmod w.rx r f }

/-- A is newer than b, modulo 2^32 (R330). -/
def seqNewer (a b : Nat) : Bool := let d := (a + 2 ^ 32 - b % 2 ^ 32) % 2 ^ 32; decide (1 ≤ d ∧ d < 2 ^ 31)

/-- A copy is valid (R330). -/
def State.pduValid (s : State) (net r : Nat) (b : List Byte) : Bool :=
  b.length == 44 && leAt b 0 1 == 1 && leAt b 1 1 == 0x0A + net && leAt b 2 2 == s.rxCfg r 2 2
    && leAt b 40 4 == pduCrc net (slice b 0 40)
    && (match (s.rx r).last with
      | none => true
      | some l => seqNewer (leAt b 4 4) l.1)

/-- Raise a cause of connection r with its action, for these ports. -/
def State.pduCauseFor (s : State) (c r mask : Nat) : State := s.causeWith c (s.rxCfg r 1 1 == 1) mask false

/-- Raise a cause of connection r with its action and the ports of its configuration. -/
def State.pduCause (s : State) (c r : Nat) : State := s.pduCauseFor c r (s.rxCfg r 8 2 % 4096)

/-- Ports a demand in SAFE_DATA names: RUN_OK = 0 those of the PDU's own SRS mask (Table 10.9), PERMIT = 0 those of the connection. DEDUCED: R331
has both act with the connection's action (log entry 148). -/
def State.demandMask (s : State) (r : Nat) (data : List Byte) : Nat :=
  if leAt data 0 1 % 2 = 1 then leAt data 1 2 % 4096 else s.rxCfg r 8 2 % 4096

/-- Some connection's watchdog has run out. -/
def State.wdActive (s : State) : State :=
  s.setActive Cause.pduWatchdog ((List.range 4).any fun r => s.flag F.PDU_STAT_WD_A r || s.flag F.PDU_STAT_WD_B r)

/-- The last accepted pair of some enabled connection demands (R331). -/
def State.demandActive (s : State) : State :=
  s.setActive Cause.pduDemand ((List.range 4).any fun r =>
    s.flag F.PDU_STAT_EN r && (s.rx r).last.isSome && leAt (s.rx r).data 0 1 % 4 != 3)

/-- The pair is accepted and its SAFE_DATA takes effect (R331). -/
def State.pduAccept (s : State) (r : Nat) (b : List Byte) : State :=
  let s1 := s.modRx r fun _ => ⟨none, none, some (leAt b 4 4, timeAt b 8), slice b 24 16, true, some s.now⟩
  let s2 := s1.setFld F.PDU_STAT_SEQ_LO r (leAt b 4 2)
  let s3 := s2.cond (leAt b 24 1 % 4 != 3) fun t => t.pduCauseFor Cause.pduDemand r (s.demandMask r (slice b 24 16))
  (s3.setActive Cause.pduMismatch false).demandActive

/-- Both networks hold valid copies: with the same SEQ they are compared (R331). -/
def State.pduPair (s : State) (r : Nat) : State := match (s.rx r).copyA, (s.rx r).copyB with
  | some a, some b =>
    if leAt a 4 4 != leAt b 4 4 then s
    else if slice a 2 38 == slice b 2 38 && (match (s.rx r).last with
        | none => true
        | some l => decide (l.2 < timeAt a 8)) then s.pduAccept r a
    else ((((s.modRx r fun x => { x with copyA := none, copyB := none }).setFlag F.PDU_STAT_MISMATCH r true).pduCause
      Cause.pduMismatch r).setActive Cause.pduMismatch true)
  | _, _ => s

/-- PDU_COPY_RECEIVED (R330 to R332): an invalid copy is counted; a valid one restarts its watchdog and replaces an older copy. A MAC without
its clock or its link receives nothing (R418, R420, R469). -/
def execPduCopyReceived (net : Fin 2) (conn : Fin 4) (bytes : List Byte) (s : State) : Host.Outcome State Fault Refusal :=
  .next (if !s.flag F.PDU_STAT_EN conn || !s.netRuns || !s.flag F.MAC_STAT_LINK net then s
    else if !s.pduValid net conn bytes then s.count F.PDU_STAT_BAD_CNT conn
    else
      let older := fun (o : Option (List Byte)) => match o with
        | none => some bytes
        | some x => if seqNewer (leAt x 4 4) (leAt bytes 4 4) then some x else some bytes
      let s1 := s.modRx conn fun x => if net = 0 then { x with copyA := older x.copyA } else { x with copyB := older x.copyB }
      ((s1.setFlag (if net = 0 then F.PDU_STAT_WD_A else F.PDU_STAT_WD_B) conn false).wdActive).pduPair conn)

/-- PDU_WATCHDOG_EXPIRY (R332): cause 0x06. -/
def execPduWatchdogExpiry (conn : Fin 4) (net : Fin 2) (s : State) : Host.Outcome State Fault Refusal :=
  .next (if s.flag F.PDU_STAT_EN conn then
      ((s.setFlag (if net = 0 then F.PDU_STAT_WD_A else F.PDU_STAT_WD_B) conn true).pduCause Cause.pduWatchdog conn).wdActive
    else s)

/-- SAFE_DATA of a sent PDU (Table 10.9); a unit with the standby view sends no user data (R349). -/
def State.txData (s : State) (c : Nat) : List Byte :=
  let st := s.stwState
  let b0 := b2n (st == 2) + 2 * b2n (st == 3 || st == 4) + 4 * b2n (s.flag F.STW_STATUS_SRS_RUN 0)
  let ports := (((List.range 12).filter fun p => switchingState (s.stwPort p)).map (2 ^ ·)).sum
  let user := if s.notActive then List.replicate 13 0#8 else Memory.getMany (fun _ => 0#8) s.hlp.qOut (0x100 + 16 * c) 13
  leBytes 1 b0 ++ leBytes 2 ports ++ user

/-- The first launch time of send connection c on TB1 that is no earlier than t, in 2^-16 ns: m PDU_CYC + c PDU_CYC / 2 for an integer m
(R423). -/
def State.launchTime (s : State) (c t : Nat) : Nat :=
  let cyc := s.txCfg c 6 2 * (1000000 * 65536)
  let off := c * (cyc / 2)
  if t ≤ off then off else off + (t - off + cyc - 1) / cyc * cyc

/-- Bytes of a scheduled frame of MAC m around an IPv4 or Ethernet payload of n bytes: header, VLAN tag, frame check, at least 64 (R422,
Table 15.1). -/
def State.frameLen (s : State) (m n : Nat) : Nat := max 64 (18 + n + (if s.netif m 28 2 = 0 then 0 else 4))

/-- A scheduled frame of n bytes leaves MAC m at the first NET clock edge from now on, behind the inter-frame gap of the one before it; with the
link down it is discarded and counted (R422). -/
def State.launchOn (s : State) (m n : Nat) : State :=
  let t := (max s.now (vget s.macs m).freeAt + 63) / 64 * 64
  if s.flag F.MAC_STAT_LINK m then
    s.modMac m fun x => { x with launch := some t, freeAt := t + 8 * s.byteNs m * (n + 20) }
  else s.count F.MAC_STAT_SCHED_DROP m

/-- A copy goes to MAC m for the launch time t. -/
def State.handOver (s : State) (m t : Nat) : State :=
  s.modMac m fun x => { x with sched := x.sched ++ [⟨t, s.frameLen m 72⟩] }

/-- PDU_SEND (R332, R423): the Steward builds both copies, with the same SEQ, TSTAMP and SAFE_DATA, and hands them to both MACs for the
connection's next launch time that is at least 50 us away; each leaves by SCHEDULED_LAUNCH. One PDU goes for one launch time. -/
def execPduSend (conn : Fin 2) (s : State) : Host.Outcome State Fault Refusal :=
  let t := vget s.stw.tx conn
  let at1 := s.launchTime conn ((vget s.tb 1).ticks + 50000 * 65536)
  .next (if !s.flag F.PDU_STAT_EN (4 + conn.val) || !s.netRuns || t.at1 == some at1 then s
    else
      let rest := leBytes 2 (s.txCfg conn 2 2) ++ leBytes 4 t.seq ++ timeBytes (vget s.tb 1).ticks ++ leBytes 1 (b2n t.init)
        ++ [0#8] ++ s.txData conn
      let copy := fun net => let b := [1#8, BitVec.ofNat 8 (0x0A + net)] ++ rest; b ++ leBytes 4 (pduCrc net b)
      let s1 := s.modStw fun w => { w with tx := vmod w.tx conn fun _ => ⟨(t.seq + 1) % 2 ^ 32, false, copy 0, copy 1, some at1⟩ }
      ((s1.setFld F.PDU_STAT_SEQ_LO (4 + conn.val) (t.seq % 65536)).handOver 0 at1).handOver 1 at1)

end Sys2Proof.Machine
end

