-- ==== Sys2Proof/Machine/SafetyCmds.lean ====
section
/-!
DEFINITION. The SAFETY class (14): the two-step confirmation (R412, R413), arming, disarming and reset of the Steward (R304, R305,
R317) and the safety configuration tile (R306, R414).
-/
namespace Sys2Proof.Machine

/-! ### The configuration tile (R335, R414) -/

/-- n bytes at offset o of the staging copy. -/
def State.stg (s : State) (o n : Nat) : Nat := leNat (Memory.getMany (fun _ => 0#8) s.stw.staged o n)

/-- Ranges of the unsigned fields before the port records: (offset, size, least, greatest). -/
def tileRanges : List (Nat × Nat × Nat × Nat) :=
  [(0x00, 4, 0x10000, 0x10000), (0x04, 1, 0, 3), (0x05, 1, 0, 0), (0x06, 2, 0, 0xFFF), (0x08, 2, 0, 0xFFF), (0x0A, 2, 1, 500)]
  ++ (List.range 20).map (fun i => (0x0C + i, 1, 0, 4)) ++ [(0x20, 2, 100, 2000), (0x22, 2, 10, 1000), (0x24, 1, 0, 255), (0x25, 1, 0, 255)]
  ++ (List.range 8).map (fun m => (0x26 + 2 * m, 2, 0, 0xFFF)) ++ [(0x36, 1, 1, 100), (0x37, 1, 0, 0), (0x38, 2, 1, 500),
    (0x3A, 1, 0, 255), (0x3B, 1, 0, 0), (0x3E, 2, 100, 1000), (0x40, 2, 10, 10000), (0x42, 1, 1, 8), (0x43, 1, 2, 50), (0x44, 1, 0, 1)]

/-- Offsets of fields out of their range among those given. -/
def State.outOf (s : State) (l : List (Nat × Nat × Nat × Nat)) : List Nat :=
  (l.filter fun x => decide (s.stg x.1 x.2.1 < x.2.2.1 ∨ x.2.2.2 < s.stg x.1 x.2.1)).map (·.1)

/-- Reserved bytes from a to b - 1 that are not 0. -/
def State.reservedSet (s : State) (a b : Nat) : List Nat := ((List.range (b - a)).map (a + ·)).filter fun o => s.stg o 1 != 0

/-- An FP32 field lies between lo and hi. -/
def State.stgWithin (s : State) (o : Nat) (lo hi : F32) : Bool :=
  let x := BitVec.ofNat 32 (s.stg o 4); fLe lo x && fLe x hi

/-- Bad fields of port p's record: SRS_T (0 stands for 1 s), SRS_IM, SRS_VM, SRS_VCHK, the voltage inputs where they are checked (R311), and reserved bytes. -/
def State.badPort (s : State) (p : Nat) : List Nat :=
  let o := 0x80 + 48 * p
  let t := s.stg o 4
  (if t != 0 && (decide (t < 10) || decide (60000 < t)) then [o] else [])
    ++ (if s.stgWithin (o + 4) 0x3D4CCCCD#32 0x3F800000#32 then [] else [o + 4])
    ++ (if s.stgWithin (o + 8) 0x3D4CCCCD#32 0x3F000000#32 then [] else [o + 8])
    ++ s.outOf [(o + 12, 1, 0, 1)] ++ s.reservedSet (o + 13) (o + 16) ++ s.reservedSet (o + 22) (o + 24)
    ++ (if p < 4 ∧ s.stg (o + 12) 1 = 1 then s.outOf [(o + 28, 1, 0, 47), (o + 29, 1, 0, 47), (o + 30, 1, 0, 47)] else [])
    ++ s.reservedSet (o + 31) (o + 32)
    ++ s.reservedSet (o + 44) (o + 48)

/-- Bad fields of monitor channel c's record. -/
def State.badMon (s : State) (c : Nat) : List Nat :=
  let o := 0x540 + 24 * c
  let f := s.stg (o + 13) 1
  s.outOf [(o, 2, 0, 2500), (o + 2, 2, 0, 2500)] ++ (if f % 4 = 0 then [] else s.outOf [(o + 12, 1, 0, 47)])
    ++ (if f / 16 != 0 || (bitOf f 0 && f / 4 % 4 != 1 && f / 4 % 4 != 2) || f / 4 % 4 == 3 then [o + 13] else [])
    ++ (if bitOf f 1 then s.outOf [(o + 14, 1, 5, 100)] else []) ++ (if f % 4 != 0 then s.outOf [(o + 15, 1, 1, 100)] else [])
    ++ s.outOf [(o + 16, 2, 0, 0xFFF)] ++ s.reservedSet (o + 18) (o + 24)

/-- Bad fields of the connection records. -/
def State.badConn (s : State) : List Nat :=
  ((List.range 4).flatMap fun r => let o := 0x5A0 + 16 * r
    s.outOf [(o, 1, 0, 1)] ++ (if s.stg o 1 = 1 then s.outOf [(o + 1, 1, 1, 2), (o + 4, 2, 1, 65535), (o + 6, 2, 2, 500)] else [])
      ++ s.outOf [(o + 8, 2, 0, 0xFFF)] ++ s.reservedSet (o + 10) (o + 16))
  ++ ((List.range 2).flatMap fun c => let o := 0x5E0 + 8 * c
    s.outOf [(o, 1, 0, 1)] ++ s.reservedSet (o + 1) (o + 2)
      ++ (if s.stg o 1 = 1 then s.outOf [(o + 4, 2, 1, 65535), (o + 6, 2, 1, 100)] else []))

/-- Offset of the first bad field of the staging copy, if any. -/
def State.firstBad (s : State) : Option Nat :=
  let act := s.stg 0x3C 2
  let bad := s.outOf tileRanges ++ s.reservedSet 0x45 0x80
    ++ (if s.stg 0x22 2 * 1000 < 4 * (s.stg 0x20 2 + 100) then [0x22] else [])
    ++ (if (List.range 8).any fun m => act / 4 ^ m % 4 == 3 then [0x3C] else [])
    ++ (List.range 12).flatMap s.badPort ++ (List.range 4).flatMap s.badMon ++ s.badConn ++ s.reservedSet 0x5F0 0x1000
  bad.foldl (fun m o => match m with
    | none => some o
    | some x => some (min x o)) none

/-- The tile in force verifies against its CRC-32C (R304, R306); one that was never committed does not (R335). -/
def State.tileVerifies (s : State) : Bool :=
  s.stw.cfgSet && !s.coef.badTiles.contains (4, 0) && crc32c (Memory.getMany (fun _ => 0#8) s.stw.cfg 0 4096) == s.stw.cfgCrc

/-- PDU_STAT.EN and the outputs' enables follow the configuration. -/
def State.applyTile (s : State) : State :=
  let s1 := s.forUnits 4 fun t r => t.setFlag F.PDU_STAT_EN r (t.rxCfg r 0 1 == 1)
  (s1.forUnits 2 fun t c => t.setFlag F.PDU_STAT_EN (4 + c) (t.txCfg c 0 1 == 1)).stwEn

/-- SAF_CFG_STAGE (R412): at once, in UNARMED. -/
def execSafCfgStage (tag : Fin 128) (s : State) : Host.Outcome State Fault Refusal :=
  serve 0x0804 tag s fun e =>
    if 3 < e.a 0 then s.done e.tag FS.FS_PARAM
    else if s.stwState != 1 then s.done e.tag FS.FS_STW_STATE
    else (s.modStw fun w => { w with staged := Memory.setMany (fun _ => 0#8) w.staged (1024 * e.a 0) e.payload }).done e.tag FS.FS_OK

/-- SAF_CFG_READ (R412): 1 024 bytes of the tile in force or of the staging copy. -/
def execSafCfgRead (tag : Fin 128) (s : State) : Host.Outcome State Fault Refusal :=
  serve 0x0806 tag s fun e =>
    if 1 < e.a 0 ∨ 3 < e.a 1 then s.done e.tag FS.FS_PARAM
    else s.complete e.tag FS.FS_OK 0 [] (Memory.getMany (fun _ => 0#8) (if e.a 0 = 0 then s.stw.cfg else s.stw.staged) (1024 * e.a 1) 1024)

/-! ### The two steps (R412, R413) -/

/-- DIGEST of a step-1 command: CRC-32C over header bytes 0-1, 4-5 and 16-59 and the payload. -/
def Entry.digest (e : Entry) : Nat :=
  (crc32c (leBytes 2 e.op ++ leBytes 2 e.payload.length ++ slice e.args 0 44 ++ e.payload)).toNat

/-- Step 1: the Steward state the command names, then one prepared action per device; TOKEN is a free value other than 0. -/
def State.prepare (s : State) (e : Entry) (states : List Nat) : State :=
  if !states.contains s.stwState then s.done e.tag FS.FS_STW_STATE
  else if s.fcp.prep.isSome then s.done e.tag FS.FS_BUSY
  else
    let token := max 1 (Config.freeWord s.fresh).toNat
    let p : Prepared := ⟨e.mb, e.op, token, e.digest, e.args, s.now⟩
    ({ s with fcp := { s.fcp with prep := some p } }.bump).complete e.tag FS.FS_CONF_REQ 0 (leBytes 4 token ++ leBytes 4 e.digest) []

/-- SAF_ARM, step 1. -/
def execSafArm (tag : Fin 128) (s : State) : Host.Outcome State Fault Refusal := serve 0x0801 tag s fun e => s.prepare e [1]

/-- SAF_DISARM, step 1. -/
def execSafDisarm (tag : Fin 128) (s : State) : Host.Outcome State Fault Refusal := serve 0x0802 tag s fun e => s.prepare e [2]

/-- SAF_RESET, step 1. -/
def execSafReset (tag : Fin 128) (s : State) : Host.Outcome State Fault Refusal := serve 0x0803 tag s fun e => s.prepare e [3, 4]

/-- SAF_CFG_COMMIT, step 1. -/
def execSafCfgCommit (tag : Fin 128) (s : State) : Host.Outcome State Fault Refusal := serve 0x0805 tag s fun e => s.prepare e [1]

/-! ### Effects at confirmation -/

/-- A cause of Table 10.3 is active; SO_FAIL keeps cause 0x08 active for outputs whose action is not alarm. -/
def State.anyCause (s : State) : Bool :=
  !s.stw.active.isEmpty || (List.range 8).any fun m => bitOf (s.fld F.STW_IO_SO_FAIL 0) m && s.soAct m != 0

/-- Every tested safety input in use has completed one full test-pulse cycle without a fault (R304). -/
def State.inputsTested (s : State) : Bool := (List.range 20).all fun i =>
  !s.siUsed i || s.siTp i == 0 || (s.stw.tested.contains i && !s.stw.faulty.contains i)

/-- Receive connection r has accepted a pair within its watchdog time (R304, R332). -/
def State.rxAlive (s : State) (r : Nat) : Bool := match (s.rx r).acc with
  | some t => decide (s.now ≤ t + 8000000 * s.rxCfg r 6 2)
  | none => false

/-- Lanes that are not DOWN. -/
def State.liveLanes (s : State) : Nat := (((List.range 6).filter fun l => s.fld F.LANE_STAT_STATE l != 0).map (2 ^ ·)).sum

/-- The gate outputs and the lanes read back as the self-test drove them (R304). -/
def State.pathsPass (s : State) (t : SelfTest) : Bool := t.gates == BitVec.allOnes 48 && s.liveLanes &&& t.lanes.toNat == s.liveLanes

/-- The GDEN pins read back high and then low. -/
def gdenPass (t : SelfTest) : Bool := t.high == BitVec.allOnes 6 && t.low == 0#6

/-- The SGR self-test (R304): an all-OFF HALT on each lane that is not DOWN, and, where `gden` allows it, each GDEN pin high for 20 us. The gate
inputs take their test pattern behind the closed balls. -/
def State.runTest (s : State) (t : SelfTest) (gden : Bool) : State :=
  s.haltAll.cond gden fun u => (u.modStw fun w => { w with test := some u.now }).setFld F.GL_GDEN_PIN 0 t.low.toNat

/-- The first of conditions 1 to 4 of R304 that fails; 0 when they hold. -/
def State.armFirst (s : State) : Nat :=
  if !s.tileVerifies then 1 else if s.anyCause then 2 else if !s.inputsTested then 3
  else if (List.range 4).any (fun r => s.flag F.PDU_STAT_EN r && !s.rxAlive r) then 4 else 0

/-- The first failing condition of R304, in order; 0 when all hold. The self-test raises GDEN only while every port is OFF; otherwise its part
that leaves GDEN alone decides condition 5 (DEDUCED, log entry 147). -/
def State.armWhy (s : State) (t : SelfTest) : Nat :=
  if s.armFirst != 0 then s.armFirst
  else if !s.pathsPass t || (s.allOff && !gdenPass t) then 5 else if !s.allOff then 6 else 0

/-- ARMED: STW_CAUSE starts anew, and the next sent PDU carries INIT. -/
def State.toArmed (s : State) : State :=
  let s1 := ((s.setFld F.STW_CAUSE_FIRST 0 0).setFld F.STW_CAUSE_LAST 0 0).setFld F.STW_CAUSE_PNUM 0 0
  (s1.modStw fun w => { w with tx := vmod (vmod w.tx 0 fun t => { t with init := true }) 1 fun t => { t with init := true } }).toStw 2

/-- R304 at confirmation. -/
def State.armNow (s : State) (tag : Nat) (test : SelfTest) : State :=
  if s.stwState != 1 then s.done tag FS.FS_STW_STATE
  else
    let why := s.armWhy test
    let s0 := s.cond (s.armFirst == 0) fun t => t.runTest test t.allOff
    let s1 := s0.setFld F.STW_STATUS_ARM_WHY 0 why
    if why != 0 then s1.complete tag FS.FS_STW_STATE 0 (leBytes 1 why) []
    else s1.toArmed.done tag FS.FS_OK

/-- R305 at confirmation. -/
def State.disarmNow (s : State) (tag : Nat) : State :=
  if s.stwState != 2 then s.done tag FS.FS_STW_STATE
  else if !s.allOff || s.flag F.PAIR_STATUS_ACT_OUT 0 then s.done tag FS.FS_PORT_STATE
  else (s.toStw 1).done tag FS.FS_OK

/-- A discrepancy of a pair whose channels are both high ends with the reset (R322). -/
def State.endDiscrepancies (s : State) : State :=
  let well := fun q => !(if q < 2 then [2 * q, 2 * q + 1] else [2 * q, 2 * q + 1]).any s.stw.low.contains
  let gone := s.stw.disc.filter well
  let m := (gone.filter (2 ≤ ·)).foldl (fun m q => m &&& (0xFFFF - 3 * 4 ^ (q - 2))) (s.fld F.STW_IO_SI_DEM 0)
  ((s.modStw fun w => { w with disc := w.disc.filter fun q => !well q, dem := w.dem.filter fun q => !gone.contains q }).setFld
    F.STW_IO_SI_DEM 0 m).inputActive

/-- No port is in a switching state (R303). -/
def State.noneSwitching (s : State) : Bool := (List.range 12).all fun p => !switchingState (s.pstate p)

/-- R317 at confirmation: no cause active, every input healthy, every connection accepted a pair since; a discrepancy ends with a reset that is
carried out (R322). The self-test runs anew, and SGR_RB_ERR clears only when all of it has passed. -/
def State.resetNow (s : State) (tag : Nat) (test : SelfTest) : State :=
  if s.stwState != 3 && s.stwState != 4 then s.done tag FS.FS_STW_STATE
  else
    let s1 := s.endDiscrepancies
    if s1.anyCause || s1.stw.low.any s1.siUsed
        || (List.range 4).any (fun r => s1.flag F.PDU_STAT_EN r && !(s1.rx r).since) then s.done tag FS.FS_STW_STATE
    else
      let s2 := ((s1.runTest test s1.noneSwitching).modStw fun w => { w with sgr := false, inhibit := false }).setFlag
        F.STW_STATUS_SGR_DONE 0 false
      ((s2.cond (s1.noneSwitching && s1.pathsPass test && gdenPass test) fun t => t.setFlag F.STW_STATUS_SGR_RB_ERR 0 false).toArmed).done tag FS.FS_OK

/-- R306 at confirmation. -/
def State.commitTile (s : State) (tag crc : Nat) : State :=
  if s.stwState != 1 then s.done tag FS.FS_STW_STATE
  else if (crc32c (Memory.getMany (fun _ => 0#8) s.stw.staged 0 4096)).toNat != crc then s.done tag FS.FS_TILE_CRC
  else match s.firstBad with
    | some o => s.complete tag FS.FS_PARAM 0 (leBytes 2 o) []
    | none =>
      let s1 := s.modStw fun w => { w with cfg := w.staged, cfgCrc := BitVec.ofNat 32 crc, cfgSet := true }
      let c := { s1.coef with badTiles := s1.coef.badTiles.filter (· != (4, 0)), found := s1.coef.found.filter (· != (4, 0)) }
      ((({ s1 with coef := c }).setFlag F.STW_STATUS_CFG_ERR 0 false).applyTile).done tag FS.FS_OK

/-- Why a confirmation is not accepted: 1 mailbox, 2 time, 3 token, 4 opcode, 5 digest, 6 nothing pending; 0 when it is. -/
def State.confWhy (s : State) (e : Entry) : Nat := match s.fcp.prep with
  | none => 6
  | some p =>
    if e.mb != p.mb then 1 else if p.at0 + 80000000000 < s.now then 2 else if e.conf != p.token then 3
    else if e.a16 0 != p.op then 4 else if e.a32 4 != p.digest then 5 else 0

/-- SAF_CONFIRM (R413): the prepared action is carried out, or discarded with FS_CONF. -/
def execSafConfirm (tag : Fin 128) (test : SelfTest) (s : State) : Host.Outcome State Fault Refusal :=
  serve 0x0810 tag s fun e =>
    let s1 := { s with fcp := { s.fcp with prep := none } }
    let why := s.confWhy e
    if why != 0 then s1.complete e.tag FS.FS_CONF 0 (leBytes 1 why) []
    else if e.a16 0 = 0x0801 then s1.armNow e.tag test
    else if e.a16 0 = 0x0802 then s1.disarmNow e.tag
    else if e.a16 0 = 0x0803 then s1.resetNow e.tag test
    else s1.commitTile e.tag (match s.fcp.prep with
      | some p => leAt p.args 0 4
      | none => 0)

/-- SAF_CONFIRM_TIMEOUT (R413): the prepared action is discarded 10 s after its step-1 completion. -/
def execSafConfirmTimeout (s : State) : Host.Outcome State Fault Refusal :=
  .next { s with fcp := { s.fcp with prep := none } }

end Sys2Proof.Machine
end

