-- ==== Sys2Proof/Machine/FieldIo.lean ====
section
/-!
DEFINITION. The 24 V field bank (12): inputs and their counter filter, high-side outputs, silence, test-pulse supplies, VFIELD.
-/
namespace Sys2Proof.Machine

/-! ### Inputs (R359 to R362) -/

/-- Whether a voltage of v mV is at or above a threshold of nominal value t with tolerance tol, both in mV (Table 12.1). -/
def diAbove (n : Nat) (rising : Bool) (t tol v : Int) : Bool :=
  if t + tol ≤ v then true else if v < t - tol then false
  else decide (t + clampInt (-tol) tol (Config.diThr n rising) ≤ v)

/-- Raw sample of input n at v mV; between its thresholds it keeps its last raw level (R360). -/
def State.diRaw (s : State) (n : Nat) (v : Int) : Bool :=
  if s.flag F.FIO_STAT_VF_UV 0 || s.flag F.FIO_STAT_VF_OV 0 then false
  else
    let t3 := bitOf (s.fld F.FIO_CFG_DI_TYPE 0) n
    if bitOf (s.fld F.FIO_DI_RAW 0) n then diAbove n false (if t3 then 7000 else 9000) (if t3 then 500 else 600) v
    else diAbove n true (if t3 then 8500 else 11000) (if t3 then 500 else 600) v

/-- N of input n (R361). -/
def State.diN (s : State) (n : Nat) : Nat := (s.reg R.FIO_FILT 0).toNat / 256 ^ (n / 4) % 256

/-- One sample of input n: the counter moves, and the filtered level follows at its ends (R361). -/
def State.diCount (s : State) (n : Nat) (raw : Bool) : State :=
  let N := s.diN n
  let c0 := min (vget s.fio.cnt n) N
  let c := if raw then min (c0 + 1) N else c0 - 1
  let s1 := { s with fio := { s.fio with cnt := vmod s.fio.cnt n fun _ => c } }
  let f := s.fld F.FIO_DI_FILT 0
  let lvl := if c = N then true else if c = 0 then false else bitOf f n
  s1.setFld F.FIO_DI_FILT 0 ((f &&& (0xFFFF - 2 ^ n)) + (if lvl then 2 ^ n else 0))

/-- DI_SAMPLE (R359): the 16 inputs are sampled at these voltages in mV; the Steward sees the raw samples (R324). -/
def execDiSample (mv : List Int) (s : State) : Host.Outcome State Fault Refusal :=
  let raw := fun n => s.diRaw n (mv.getD n 0)
  let bits := ((List.range 16).map fun n => if raw n then 2 ^ n else 0).sum
  let s1 := (s.setFld F.FIO_DI_RAW 0 bits).forUnits 16 fun t n => t.diCount n (raw n)
  let s2 := s1.forUnits 16 fun t n => t.cond (raw n && t.stw.low.contains (n + 4)) fun u => u.siHigh (n + 4)
  .next s2.diDiscrepancies

/-! ### Outputs (R363, R364, R366) -/

/-- DO_SAFE of the program header; 0 without a program. -/
def State.doSafe (s : State) : Nat :=
  if s.flag F.HLP_STATUS_PROG_OK 0 then (Memory.get (fun _ => 0#8) s.hlp.prog.bytes 18).toNat else 0

/-- BANK_REFRESH (R366): the HLP block writes the command of its last output phase, DO_SAFE outside RUN; the first refresh after
silence ends it. A debug halt pauses the refresh (R523); in Paddock there is none. `pins` are the readbacks after it, where an output that turns off reads
0 (R365). -/
def execBankRefresh (pins : BitVec 8) (s : State) : Host.Outcome State Fault Refusal :=
  .next (if s.hlp.dbgHalted || s.gait == Gait.paddock then s
    else
      let c := if s.fld F.HLP_STATUS_STATE 0 = 2 then s.hlp.doCmd else s.doSafe
      let s1 := { s with fio := { s.fio with held := false } }
      let s2 := (s1.setFld F.FIO_DO_APPLIED 0 c).setFlag F.FIO_STAT_SILENT 0 false
      let s3 := (s2.setFld F.FIO_STAT_OVL 0 (s2.fld F.FIO_STAT_OVL 0 &&& c)).doSync
      s3.readPins (pins.toNat &&& outBits fun m => !(bitOf s.fio.on m && !bitOf s3.fio.on m)))

/-- SILENCE_TIMEOUT (R366): no refresh for FIO_TMO. -/
def execSilenceTimeout (s : State) : Host.Outcome State Fault Refusal :=
  .next (if s.fio.held || s.flag F.FIO_STAT_SILENT 0 then s
    else ((((s.setFlag F.FIO_STAT_SILENT 0 true).setFld F.FIO_DO_APPLIED 0 (s.fld F.FIO_CFG_FIO_SAFE 0)).doSync).count
      F.FIO_STAT_SILENT_CNT 0).post EV.EV_FIO_SILENT noUnit 0)

/-- DO_OVERLOAD (R364): the channel turns off and latches OVL. -/
def execDoOverload (out : Fin 8) (s : State) : Host.Outcome State Fault Refusal :=
  .next (if s.doOn out then
      ((s.setFld F.FIO_STAT_OVL 0 (s.fld F.FIO_STAT_OVL 0 ||| 2 ^ out.val)).doSync.count F.FIO_STAT_OVL_CNT 0).post EV.EV_FIO_OVL out 0
    else s)

/-- TP output t sources 24 V (R369, R370): while VF_UV and VF_OV are clear, but for its test pulse. -/
def State.tpOn (s : State) (t : Nat) : Bool := !s.flag F.FIO_STAT_VF_UV 0 && !s.flag F.FIO_STAT_VF_OV 0 && s.stw.slot != some t

/-- TP_OVERLOAD (R369): the limit of an output that sources acts. -/
def execTpOverload (tp : Fin 4) (s : State) : Host.Outcome State Fault Refusal :=
  .next (if !s.tpOn tp then s else s.setFld F.FIO_STAT_TP_OVL 0 (s.fld F.FIO_STAT_TP_OVL 0 ||| 2 ^ tp.val))

/-! ### VFIELD (R370) -/

/-- A change of VF_UV or VF_OV posts EV_VFIELD; the outputs follow (R363). -/
def State.vfield (s : State) (f : Fld) (on : Bool) : State :=
  if s.flag f 0 = on then s
  else
    let t := (s.setFlag f 0 on).doSync
    t.post EV.EV_VFIELD noUnit (b2n (t.flag F.FIO_STAT_VF_UV 0) + 2 * b2n (t.flag F.FIO_STAT_VF_OV 0))

/-- VFIELD_UV_CHANGE (R370). -/
def execVfieldUvChange (on : Bool) (s : State) : Host.Outcome State Fault Refusal := .next (s.vfield F.FIO_STAT_VF_UV on)

/-- VFIELD_OV_CHANGE (R370). -/
def execVfieldOvChange (on : Bool) (s : State) : Host.Outcome State Fault Refusal := .next (s.vfield F.FIO_STAT_VF_OV on)

end Sys2Proof.Machine
end

