-- ==== Sys2Proof/Machine/CapCore.lean ====
section
/-!
DEFINITION. The byte rate of the capture stream (R447) and the values of capture sources (R441).
-/
namespace Sys2Proof.Machine

/-- A free-running source (R441). -/
def CapSrc.free (c : CapSrc) : Bool := c.kind == 1 && c.elem == 1

/-- The layouts of R441 that name a source. -/
def CapSrc.ok (c : CapSrc) : Bool :=
  (c.kind == 1 && c.elem < 2 && c.idx < 48) || (c.kind == 2 && c.elem == 0 && c.idx < 32)
    || (c.kind == 3 && c.elem < 4 && c.idx < 63) || (c.kind == 6 && c.elem == 0 && c.idx < 9)

/-- The 8 bytes of a source at offset o (R406): the source, and whether its reserved bytes are 0. -/
def capSrcAt (l : List Byte) (o : Nat) : CapSrc × Bool :=
  (⟨leAt l o 1, leAt l (o + 1) 1, leAt l (o + 2) 1, leAt l (o + 4) 2⟩, leAt l (o + 3) 1 == 0 && leAt l (o + 6) 2 == 0)

/-- B of R447 in bytes per second for a period of P fine steps, rounded up. -/
def capBytes (srcs : List CapSrc) (P : Nat) : Nat :=
  let f : Rat := mkRat 8000000000 P
  let r : Rat := srcs.foldl (fun (a : Rat) c => a + (if c.free then mkRat 5000000 (c.dec + 1) else f / ((c.dec + 1 : Nat) : Rat))) f
  (-((-(8 * r + 86 * (r / 178 + 10000))).floor)).toNat

/-- The configuration in force would exceed the reserved share at a period of P fine steps (R447). -/
def State.capOver (s : State) (P : Nat) : Bool := !s.cap.srcs.isEmpty && decide (100000000 < capBytes s.cap.srcs P)

/-- CAP_RATE shows B of the configuration in force. -/
def State.capRate (s : State) : State :=
  s.setFld F.CAP_RATE_ALL 0 (if s.cap.srcs.isEmpty then 0 else capBytes s.cap.srcs s.fineP)

/-- A value a source yields: FP32, the signed code where there is one, bits 7:4 of byte 1 of its record, its offset from t_k in
units of 16 PWM clocks, and whether it carries EMPTY. -/
structure CapVal where
  x : F32
  code : Option Nat
  flags : Nat
  ofs : Nat
  empty : Bool
  deriving DecidableEq, Repr

/-- Change the capture engine. -/
def State.modCap (s : State) (f : CapSt → CapSt) : State := { s with cap := f s.cap }

/-- CAP_STAT.STATE: 0 STOPPED, 1 RUNNING, 2 FLUSHING. -/
def State.capState (s : State) : Nat := s.fld F.CAP_STAT_STATE 0

/-- CAP_LEVEL shows the records in the FIFO. -/
def State.capLevel (s : State) : State := s.setFld F.CAP_LEVEL_ALL 0 s.cap.fifo.length

/-- An 8-byte record of Table 16.2. -/
def capRec (b0 b1 pnum lo hi : Nat) : CapRec :=
  ⟨pnum, leBytes 1 b0 ++ leBytes 1 b1 ++ leBytes 2 pnum ++ leBytes 2 lo ++ leBytes 2 hi⟩

/-- A record enters the FIFO, or is discarded and counted when it meets a full one (R449). -/
def State.capPut (s : State) (r : CapRec) : State :=
  if s.cap.fifo.length < 8192 then s.modCap fun c => { c with fifo := c.fifo ++ [r] }
  else (s.modCap fun c => { c with gap := c.gap + 1 }).count F.CAP_STAT_CAP_LOST 0

/-- A record of production: after a gap, the gap mark enters first (R449). -/
def State.capPush (s : State) (r : CapRec) : State :=
  if s.cap.gap = 0 ∨ 8192 ≤ s.cap.fifo.length then s.capPut r
  else
    let g := min s.cap.gap 0xFFFFFFFF
    let s1 := (s.modCap fun c => { c with gap := 0 }).capPut (capRec 0x40 0 r.pnum (g % 65536) (g / 65536))
    (s1.post EV.EV_CAP_GAP noUnit g).capPut r

/-- The record of source i's value in period pnum. -/
def sampleRec (i pnum : Nat) (v : CapVal) : CapRec := match v.code with
  | some c => capRec i (16 * v.flags) pnum c v.ofs
  | none => capRec i (16 * v.flags) pnum (v.x.toNat % 65536) (v.x.toNat / 65536)

/-- Value x crosses the level in the direction of TRIG_SRC 1 (up) or 2 (down), compared as FP32 (R446). -/
def capCrosses (trig : Nat) (level : F32) (prev : Option F32) (x : F32) : Bool := match prev with
  | none => false
  | some p => (trig == 1 && fLt p level && fLe level x) || (trig == 2 && fLt level p && fLe x level)

/-- Source i yields value v of period pnum: every (D + 1)-th is passed and its record enters (R441, R444). A passed value of source 0
may trigger; the first trigger of the period is kept. DESIGN CHOICE: a free-running sample delivered after the boundary of its period triggers
in the period of its delivery, at offset 0; R446 does not say (log entry 142). -/
def State.capSample (s : State) (i pnum : Nat) (v : CapVal) : State :=
  let d := (s.cap.srcs.getD i {}).dec
  let k := s.cap.counts.getD i 0
  let s1 := s.modCap fun c => { c with counts := c.counts.set i ((k + 1) % (d + 1)) }
  if (k + 1) % (d + 1) != 0 then s1
  else
    let s2 := s1.capPush (sampleRec i pnum v)
    if i != 0 then s2
    else s2.modCap fun c => { c with
      prev := some v.x
      hit := if c.hit.isNone && capCrosses c.trig c.level c.prev v.x then some (if pnum = s.pnumOut then v.ofs else 0) else c.hit }

/-- A capture command with this opcode that waits completes with FS_OK and period number n. -/
def State.capAnswer (s : State) (op n : Nat) : State := match s.waitingOp op with
  | some e => s.complete e.tag FS.FS_OK n [] []
  | none => s

/-- Entry into Paddock stops a run without the flush: what the FIFO holds is discarded (R445). DESIGN CHOICE: a start that still waits for its
boundary starts nothing, and its command completes there too (log entry 142). -/
def State.capPaddock (s : State) : State :=
  let n := if s.capState = 2 then s.cap.stopN else s.pnumOut
  let s1 := (((s.countN F.CAP_STAT_CAP_LOST 0 s.cap.fifo.length).modCap fun c => { c with
    fifo := [], gap := 0, startAt := none, stopAt := none, hit := none }).setFld F.CAP_STAT_STATE 0 0).setFlag F.CAP_STAT_ARMED 0 false
  (s1.capLevel.capAnswer 0x0602 s.pnumOut).capAnswer 0x0603 n

end Sys2Proof.Machine
end

