-- ==== Sys2Proof/Machine/HlpOps.lean ====
section
/-!
DEFINITION. The HLP's memory, tiles and program checks (11): bit and word access to V, I, Q and K (R338), tiles and their
directory (R345, R346), and the checks a program must pass (R344).
-/
namespace Sys2Proof.Machine

/-- Change the HLP's record. -/
def State.modHlp (s : State) (f : HlpSt → HlpSt) : State := { s with hlp := f s.hlp }

/-! ### Memory (R338) -/

/-- Byte a of the HLP's address space. -/
def State.hb (s : State) (a : Nat) : Byte := Memory.get (fun _ => 0#8) s.hlp.mem a

/-- Bit b: bit b mod 8 of byte b / 8. -/
def State.hbit (s : State) (b : Nat) : Bool := (s.hb (b / 8)).getLsbD (b % 8)

/-- The little-endian word at byte address a. -/
def State.hword (s : State) (a : Nat) : Word := BitVec.ofNat 32 (leNat (Memory.getMany (fun _ => 0#8) s.hlp.mem a 4))

/-- Byte a may be written by a program: V or Q (Table 11.1). -/
def hlpWritable (a : Nat) : Bool := decide (a < 0x10000) || (decide (0x11000 ≤ a) && decide (a < 0x11800))

/-- Write byte a of V or Q. -/
def State.setHb (s : State) (a : Nat) (v : Byte) : State :=
  if hlpWritable a then s.modHlp fun h => { h with mem := Memory.set (fun _ => 0#8) h.mem a v } else s

/-- Write bit b of V or Q. -/
def State.setHbit (s : State) (b : Nat) (v : Bool) : State :=
  let m := 1#8 <<< (b % 8)
  s.setHb (b / 8) (if v then s.hb (b / 8) ||| m else s.hb (b / 8) &&& ~~~m)

/-- Write the word at byte address a of V or Q. -/
def State.setHword (s : State) (a : Nat) (w : Word) : State :=
  if hlpWritable a then s.modHlp fun h => { h with mem := Memory.setMany (fun _ => 0#8) h.mem a (leBytes 4 w.toNat) } else s

/-! ### Program and tiles (R345, R346) -/

/-- n bytes at offset o of the header (Table 11.6). -/
def HlpProg.hdr (p : HlpProg) (o n : Nat) : Nat := leNat (Memory.getMany (fun _ => 0#8) p.bytes o n)

/-- The 4 096 bytes of tile t. -/
def HlpProg.tile (p : HlpProg) (t : Nat) : List Byte := Memory.getMany (fun _ => 0#8) p.bytes (4096 * t) 4096

/-- Tile t verifies against its directory entry. -/
def HlpProg.tileOk (p : HlpProg) (t : Nat) : Bool := crc32c (p.tile t) == Memory.get (fun _ => 0#32) p.dir t

/-- CODE_TILES. -/
def HlpProg.code (p : HlpProg) : Nat := p.hdr 14 1

/-- K_TILES. -/
def HlpProg.consts (p : HlpProg) : Nat := p.hdr 15 1

/-- Byte address of constant i. -/
def HlpProg.constAt (p : HlpProg) (i : Nat) : Nat := 4096 * (1 + p.code) + 4 * i

/-- Constant i. -/
def HlpProg.const (p : HlpProg) (i : Nat) : Word := BitVec.ofNat 32 (p.hdr (p.constAt i) 4)

/-- Instruction i. -/
def HlpProg.insn (p : HlpProg) (i : Nat) : Nat := p.hdr (4096 + 4 * i) 4

/-- T_cyc in fine steps. -/
def HlpProg.cyc (p : HlpProg) : Nat := p.hdr 16 2 * 2000000

/-- Every tile in use verifies. -/
def State.hlpTilesOk (s : State) : Bool := (List.range s.hlp.prog.count).all fun t =>
  !s.coef.badTiles.contains (2, t) && s.hlp.prog.tileOk t

/-! ### Checks of a program (R344) -/

/-- A word operand in V, I or Q. -/
def wordOk (x : Nat) : Bool := x % 4 == 0 && decide (x + 4 ≤ 0x11800)

/-- A word operand in V or Q. -/
def wordWOk (x : Nat) : Bool := wordOk x && hlpWritable x

/-- An 8-byte block in V. -/
def blockOk (x : Nat) : Bool := x % 4 == 0 && decide (x + 8 ≤ 0x10000)

/-- An ADCR operand that R165 does not refuse. -/
def adcrOk (x : Nat) : Bool :=
  let c := x / 256 % 32
  let input := x % 4
  let int := x / 16 % 16
  decide (x < 8192) && decide (c < 24) && urgentOk c input int

/-- Opcode and operand of one instruction word, with k constants. -/
def insnOk (k w : Nat) : Bool :=
  let x := w % 2 ^ 24
  let op := w / 2 ^ 24
  if op = 0x00 ∨ op = 0x08 ∨ op = 0x09 ∨ op = 0x0A ∨ op = 0x0B ∨ op = 0x33 then x == 0
  else if op ≤ 0x07 then decide (x < 8 * 0x11800)
  else if op = 0x0C then decide (x < 8 * 0x10000)
  else if op ≤ 0x10 then decide (x < 8 * 0x11800) && hlpWritable (x / 8)
  else if 0x18 ≤ op ∧ op ≤ 0x1A ∨ 0x1C ≤ op ∧ op ≤ 0x1E then blockOk x
  else if op = 0x21 then decide (x < k)
  else if op = 0x22 ∨ op = 0x23 then wordWOk x
  else if op = 0x20 ∨ 0x24 ≤ op ∧ op ≤ 0x2D then wordOk x
  else if 0x30 ≤ op ∧ op ≤ 0x32 then decide (x < 65536)
  else if op = 0x34 then adcrOk x
  else false

/-- Walk a section from index i with stack depth d to its END: its last index, the jump targets and the indices at which the
stack is not empty; none when the section has no END or its stack breaks R344. A jump and its target stand at depth 0, so the
depth at an index is the same on every path. -/
def walkSection : List Nat → Nat → Nat → List Nat → List Nat → Option (Nat × List Nat × List Nat)
  | [], _, _, _, _ => none
  | w :: r, i, d, tg, nz =>
    let nz1 := if d = 0 then nz else i :: nz
    let op := w / 2 ^ 24
    if op = 0x33 then (if d = 0 then some (i, tg, nz1) else none)
    else if op = 0x08 then (if 15 < d then none else walkSection r (i + 1) (d + 1) tg nz1)
    else if op = 0x09 ∨ op = 0x0A then (if d = 0 then none else walkSection r (i + 1) (d - 1) tg nz1)
    else if 0x30 ≤ op ∧ op ≤ 0x32 then (if d = 0 then walkSection r (i + 1) 0 (w % 2 ^ 24 :: tg) nz1 else none)
    else walkSection r (i + 1) d tg nz1

/-- The section that starts at index e keeps R344: every jump stays in it and lands where the stack is empty. -/
def sectionOk (code : List Nat) (e : Nat) : Bool :=
  decide (e < code.length) && (match walkSection (code.drop e) e 0 [] [] with
    | none => false
    | some (last, tg, nz) => tg.all fun t => decide (e ≤ t ∧ t ≤ last) && !nz.contains t)

/-- The header is one of Table 11.6 and the image has the tiles it names. -/
def HlpProg.headerOk (p : HlpProg) : Bool :=
  p.hdr 0 4 == 0x10000 && decide (1 ≤ p.code ∧ p.code ≤ 59) && decide (1 ≤ p.consts ∧ p.consts ≤ 4)
    && decide (1 ≤ p.hdr 16 2 ∧ p.hdr 16 2 ≤ 400) && decide (p.hdr 20 1 ≤ 1) && p.hdr 21 1 == 0 && decide (p.hdr 22 2 < 4096)
    && (slice (p.tile 0) 28 4068).all (· == 0#8) && p.count == 1 + p.code + p.consts

/-- A program keeps every rule of R344. -/
def HlpProg.ok (p : HlpProg) : Bool :=
  let code := (List.range (1024 * p.code)).map p.insn
  p.headerOk && code.all (insnOk (1024 * p.consts)) && [8, 10, 12].all fun o => sectionOk code (p.hdr o 2)

end Sys2Proof.Machine
end

