-- ==== Sys2Proof/Machine/HlpInstr.lean ====
section
/-!
DEFINITION. The instructions of the Harness Logic Processor (R342, R343). The command's operands are the instruction fetched at
the instruction index; it runs while a section is being executed, the HLP is clocked and debug has not halted it.
-/
namespace Sys2Proof.Machine

/-- The HLP is clocked (R342, R469): by SYS, or on its way to the cycle boundary at which Paddock stops it (R351, R473). -/
def State.hlpClock (s : State) : Bool := s.clkOk 2 || s.hlp.padStop

/-- The HLP executes, and the program word at its instruction index has OP op and operand x (R342). -/
def State.fetches (s : State) (op x : Nat) : Bool :=
  s.hlp.section_.isSome && !s.hlp.dbgHalted && s.hlpClock && s.hlp.prog.insn s.hlp.pc == op * 2 ^ 24 + x

/-- Execute the fetched instruction, of OP op and operand x: the index moves to the next one, then the effect follows. -/
def State.insn (s : State) (op x : Nat) (f : State → State) : Host.Outcome State Fault Refusal :=
  .next (if s.fetches op x then f (s.modHlp fun h => { h with pc := h.pc + 1 }) else s)

/-- Set A. -/
def State.setA (s : State) (b : Bool) : State := s.modHlp fun h => { h with a := b }

/-- Set W. -/
def State.setW (s : State) (w : Word) : State := s.modHlp fun h => { h with w := w }

/-- Jump to instruction i. -/
def State.jump (s : State) (i : Nat) : State := s.modHlp fun h => { h with pc := i }

/-- An instruction that forms A from A and bit b. -/
def State.bitInsn (s : State) (op b : Nat) (f : Bool → Bool → Bool) : Host.Outcome State Fault Refusal :=
  s.insn op b fun t => t.setA (f t.hlp.a (t.hbit b))

/-- An instruction that forms A from A and the popped bit. A checked program never pops an empty stack (R344). -/
def State.popInsn (s : State) (op : Nat) (f : Bool → Bool → Bool) : Host.Outcome State Fault Refusal :=
  s.insn op 0 fun t => t.modHlp fun h => { h with a := f h.a (h.stack.headD false), stack := h.stack.tail }

/-- An instruction that ANDs a comparison of W with a word into A. -/
def State.cmpInsn (s : State) (op w : Nat) (f : Word → Word → Bool) : Host.Outcome State Fault Refusal :=
  s.insn op w fun t => t.setA (t.hlp.a && f t.hlp.w (t.hword w))

/-- A signed 32-bit value, saturated. -/
def satWord (v : Int) : Word := BitVec.ofInt 32 (clampInt (-2147483648) 2147483647 v)

/-- FP32 x < y, subnormal values included; false with a NaN. -/
def fpLt (x y : F32) : Bool :=
  let key := fun (z : F32) => if fNeg z then -((z.toNat - 2 ^ 31 : Nat) : Int) else (z.toNat : Int)
  !fIsNan x && !fIsNan y && decide (key x < key y)

/-- TON: its new ET and output, from PT, ET, the last input, a fall that no rise has followed, the input and the time to add (R343). -/
def tonNext (pt et : Nat) (_last _fell inp : Bool) (dt : Nat) : Nat × Bool :=
  let e := if inp then min (et + dt) pt else 0
  (e, inp && e == pt)

/-- TOF (R343): it times from a fall on; an ET above 0 with a last input of 0 is time since one. -/
def tofNext (pt et : Nat) (last fell inp : Bool) (dt : Nat) : Nat × Bool :=
  let e := if inp then 0 else if last || fell || decide (0 < et) then min (et + dt) pt else et
  (e, inp || decide (e < pt))

/-- TP (R343): it times from the execution with the rising input on. An ET of 0 with a last input of 1 is a pulse that has only begun: one that
has ended keeps ET = PT while the input is 1. -/
def tpNext (pt et : Nat) (last _fell inp : Bool) (dt : Nat) : Nat × Bool :=
  let runs := decide (0 < et ∧ et < pt) || (et == 0 && (last || inp))
  let e := if runs then min (et + dt) pt else et
  (if e = pt ∧ !inp then 0 else e, runs && decide (e < pt))

/-- Execute the timer block at byte address x with input A (R343): bit 31 of PT is not used. -/
def State.timer (s : State) (x : Nat) (f : Nat → Nat → Bool → Bool → Bool → Nat → Nat × Bool) : State :=
  let pt := (s.hword x).toNat % 2 ^ 31
  let z := (s.hword (x + 4)).toNat
  let last := decide (2 ^ 31 ≤ z)
  let dt := if s.hlp.seen.contains x then s.hlp.dt else 0
  let r := f pt (min (z % 2 ^ 31) pt) last (s.hlp.fell.contains x) s.hlp.a dt
  let s1 := s.setHword (x + 4) (BitVec.ofNat 32 (r.1 + (if s.hlp.a then 2 ^ 31 else 0)))
  s1.modHlp fun h => { h with
    a := r.2, seen := if h.seen.contains x then h.seen else x :: h.seen
    fell := if h.a then h.fell.filter (· != x) else if last && !h.fell.contains x then x :: h.fell else h.fell }

/-- Execute the counter block at byte address x: CV moves by d when A is set, and A takes f PV CV (R343). -/
def State.counter (s : State) (x : Nat) (d : Int) (f : Int → Int → Bool) : State :=
  let cv := (s.hword (x + 4)).toInt
  let new := satWord (if s.hlp.a then cv + d else cv)
  (s.setHword (x + 4) new).setA (f (s.hword x).toInt new.toInt)

/-- NOP (R342): none. -/
def execHlpNop (s : State) : Host.Outcome State Fault Refusal := s.insn 0x00 0 id

/-- LD: A ← b (R342). -/
def execHlpLd (b : BitVec 20) (s : State) : Host.Outcome State Fault Refusal := s.bitInsn 0x01 b.toNat (fun _ v => v)

/-- LDN: A ← ¬b (R342). -/
def execHlpLdn (b : BitVec 20) (s : State) : Host.Outcome State Fault Refusal := s.bitInsn 0x02 b.toNat (fun _ v => !v)

/-- AND: A ← A ∧ b (R342). -/
def execHlpAnd (b : BitVec 20) (s : State) : Host.Outcome State Fault Refusal := s.bitInsn 0x03 b.toNat (fun a v => a && v)

/-- ANDN: A ← A ∧ ¬b (R342). -/
def execHlpAndn (b : BitVec 20) (s : State) : Host.Outcome State Fault Refusal := s.bitInsn 0x04 b.toNat (fun a v => a && !v)

/-- OR: A ← A ∨ b (R342). -/
def execHlpOr (b : BitVec 20) (s : State) : Host.Outcome State Fault Refusal := s.bitInsn 0x05 b.toNat (fun a v => a || v)

/-- ORN: A ← A ∨ ¬b (R342). -/
def execHlpOrn (b : BitVec 20) (s : State) : Host.Outcome State Fault Refusal := s.bitInsn 0x06 b.toNat (fun a v => a || !v)

/-- XOR: A ← A ⊕ b (R342). -/
def execHlpXor (b : BitVec 20) (s : State) : Host.Outcome State Fault Refusal := s.bitInsn 0x07 b.toNat (fun a v => a != v)

/-- PUSH: push A; A unchanged (R342). -/
def execHlpPush (s : State) : Host.Outcome State Fault Refusal := 
  s.insn 0x08 0 fun t => t.modHlp fun h => { h with stack := (h.a :: h.stack).take 16 }

/-- ANDP: A ← A ∧ pop (R342). -/
def execHlpAndp (s : State) : Host.Outcome State Fault Refusal := s.popInsn 0x09 fun a p => a && p

/-- ORP: A ← A ∨ pop (R342). -/
def execHlpOrp (s : State) : Host.Outcome State Fault Refusal := s.popInsn 0x0A fun a p => a || p

/-- NOT: A ← ¬A (R342). -/
def execHlpNot (s : State) : Host.Outcome State Fault Refusal := s.insn 0x0B 0 fun t => t.setA (!t.hlp.a)

/-- EDGE: A ← A ∧ ¬m, then m ← the A that entered (R342). -/
def execHlpEdge (b : BitVec 20) (s : State) : Host.Outcome State Fault Refusal := 
  s.insn 0x0C b.toNat fun t => (t.setHbit b.toNat t.hlp.a).setA (t.hlp.a && !t.hbit b.toNat)

/-- ST: b ← A (R342). -/
def execHlpSt (b : BitVec 20) (s : State) : Host.Outcome State Fault Refusal := s.insn 0x0D b.toNat fun t => t.setHbit b.toNat t.hlp.a

/-- STN: b ← ¬A (R342). -/
def execHlpStn (b : BitVec 20) (s : State) : Host.Outcome State Fault Refusal := s.insn 0x0E b.toNat fun t => t.setHbit b.toNat (!t.hlp.a)

/-- SET: if A, b ← 1 (R342). -/
def execHlpSet (b : BitVec 20) (s : State) : Host.Outcome State Fault Refusal := s.insn 0x0F b.toNat fun t => t.cond t.hlp.a fun u => u.setHbit b.toNat true

/-- RST: if A, b ← 0 (R342). -/
def execHlpRst (b : BitVec 20) (s : State) : Host.Outcome State Fault Refusal := s.insn 0x10 b.toNat fun t => t.cond t.hlp.a fun u => u.setHbit b.toNat false

/-- TON: on-delay (R343). -/
def execHlpTon (w : BitVec 24) (s : State) : Host.Outcome State Fault Refusal := s.insn 0x18 w.toNat fun t => t.timer w.toNat tonNext

/-- TOF: off-delay (R343). -/
def execHlpTof (w : BitVec 24) (s : State) : Host.Outcome State Fault Refusal := s.insn 0x19 w.toNat fun t => t.timer w.toNat tofNext

/-- TP: pulse (R343). -/
def execHlpTp (w : BitVec 24) (s : State) : Host.Outcome State Fault Refusal := s.insn 0x1A w.toNat fun t => t.timer w.toNat tpNext

/-- CTU: if A, CV ← CV + 1; then A ← CV ≥ PV (R342, R343). -/
def execHlpCtu (w : BitVec 24) (s : State) : Host.Outcome State Fault Refusal := 
  s.insn 0x1C w.toNat fun t => t.counter w.toNat 1 fun pv cv => decide (pv ≤ cv)

/-- CTD: if A, CV ← CV - 1; then A ← CV ≤ 0 (R342, R343). -/
def execHlpCtd (w : BitVec 24) (s : State) : Host.Outcome State Fault Refusal := 
  s.insn 0x1D w.toNat fun t => t.counter w.toNat (-1) fun _ cv => decide (cv ≤ 0)

/-- CRS: if A, CV ← 0; A unchanged (R342). -/
def execHlpCrs (w : BitVec 24) (s : State) : Host.Outcome State Fault Refusal := s.insn 0x1E w.toNat fun t => t.cond t.hlp.a fun u => u.setHword (w.toNat + 4) 0#32

/-- LW: W ← w (R342). -/
def execHlpLw (w : BitVec 24) (s : State) : Host.Outcome State Fault Refusal := s.insn 0x20 w.toNat fun t => t.setW (t.hword w.toNat)

/-- LK: W ← K[index] (R342). -/
def execHlpLk (k : BitVec 12) (s : State) : Host.Outcome State Fault Refusal := s.insn 0x21 k.toNat fun t => t.setW (t.hlp.prog.const k.toNat)

/-- SW: w ← W (R342). -/
def execHlpSw (w : BitVec 24) (s : State) : Host.Outcome State Fault Refusal := s.insn 0x22 w.toNat fun t => t.setHword w.toNat t.hlp.w

/-- MOV: if A, w ← W (R342). -/
def execHlpMov (w : BitVec 24) (s : State) : Host.Outcome State Fault Refusal := s.insn 0x23 w.toNat fun t => t.cond t.hlp.a fun u => u.setHword w.toNat u.hlp.w

/-- ADD: W ← W + w, signed, saturating (R342). -/
def execHlpAdd (w : BitVec 24) (s : State) : Host.Outcome State Fault Refusal := s.insn 0x24 w.toNat fun t => t.setW (satWord (t.hlp.w.toInt + (t.hword w.toNat).toInt))

/-- SUB: W ← W - w, signed, saturating (R342). -/
def execHlpSub (w : BitVec 24) (s : State) : Host.Outcome State Fault Refusal := s.insn 0x25 w.toNat fun t => t.setW (satWord (t.hlp.w.toInt - (t.hword w.toNat).toInt))

/-- CEQ: A ← A ∧ (W = w), signed (R342). -/
def execHlpCeq (w : BitVec 24) (s : State) : Host.Outcome State Fault Refusal := s.cmpInsn 0x26 w.toNat fun x y => decide (x.toInt = y.toInt)

/-- CNE: A ← A ∧ (W ≠ w), signed (R342). -/
def execHlpCne (w : BitVec 24) (s : State) : Host.Outcome State Fault Refusal := s.cmpInsn 0x27 w.toNat fun x y => decide (x.toInt ≠ y.toInt)

/-- CLT: A ← A ∧ (W < w), signed (R342). -/
def execHlpClt (w : BitVec 24) (s : State) : Host.Outcome State Fault Refusal := s.cmpInsn 0x28 w.toNat fun x y => decide (x.toInt < y.toInt)

/-- CLE: A ← A ∧ (W ≤ w), signed (R342). -/
def execHlpCle (w : BitVec 24) (s : State) : Host.Outcome State Fault Refusal := s.cmpInsn 0x29 w.toNat fun x y => decide (x.toInt ≤ y.toInt)

/-- CGT: A ← A ∧ (W > w), signed (R342). -/
def execHlpCgt (w : BitVec 24) (s : State) : Host.Outcome State Fault Refusal := s.cmpInsn 0x2A w.toNat fun x y => decide (y.toInt < x.toInt)

/-- CGE: A ← A ∧ (W ≥ w), signed (R342). -/
def execHlpCge (w : BitVec 24) (s : State) : Host.Outcome State Fault Refusal := s.cmpInsn 0x2B w.toNat fun x y => decide (y.toInt ≤ x.toInt)

/-- FLT: A ← A ∧ (W < w) as FP32; a NaN gives 0 (R342). -/
def execHlpFlt (w : BitVec 24) (s : State) : Host.Outcome State Fault Refusal := s.cmpInsn 0x2C w.toNat fun x y => fpLt x y

/-- FGT: A ← A ∧ (W > w) as FP32; a NaN gives 0 (R342). -/
def execHlpFgt (w : BitVec 24) (s : State) : Host.Outcome State Fault Refusal := s.cmpInsn 0x2D w.toNat fun x y => fpLt y x

/-- JMP (R342). -/
def execHlpJmp (i : BitVec 16) (s : State) : Host.Outcome State Fault Refusal := s.insn 0x30 i.toNat fun t => t.jump i.toNat

/-- JC: jump if A = 1 (R342). -/
def execHlpJc (i : BitVec 16) (s : State) : Host.Outcome State Fault Refusal := s.insn 0x31 i.toNat fun t => t.cond t.hlp.a fun u => u.jump i.toNat

/-- JNC: jump if A = 0 (R342). -/
def execHlpJnc (i : BitVec 16) (s : State) : Host.Outcome State Fault Refusal := s.insn 0x32 i.toNat fun t => t.cond (!t.hlp.a) fun u => u.jump i.toNat

/-- END: end of the section; END of COLD or WARM ends INIT at the next cycle instant (R342, Table 11.7). -/
def execHlpEnd (s : State) : Host.Outcome State Fault Refusal := 
  s.insn 0x33 0 fun t => t.modHlp fun h => { h with section_ := none, initDone := h.initDone || h.section_ != some 2 }

/-- ADCR: if A, an urgent request with operand bits as ADC_URG (R342, R162, R164). -/
def execHlpAdcr (req : BitVec 13) (s : State) : Host.Outcome State Fault Refusal := 
  s.insn 0x34 req.toNat fun t => t.cond t.hlp.a fun u => u.urgent (req.toNat / 256) (req.toNat % 4) (req.toNat / 16 % 16) 1

end Sys2Proof.Machine
end

