-- ==== Sys2Proof/Machine/HlpCycle.lean ====
section
/-!
DEFINITION. The HLP's cycle (11): restarts and the retained store (R352, R353), halts (R348), cycle boundaries (R355), the input
and output phases (R347, R341), overruns (R349), and rewritten tiles (R346).
-/
namespace Sys2Proof.Machine

/-! ### States and commands that wait -/

/-- Complete every command with this opcode that waits. -/
def State.endAll (s : State) (op status : Nat) : State :=
  ((s.fcp.inflight.filter fun e => e.op == op && e.started).map (·.tag)).foldl (fun t tag => t.done tag status) s

/-- Move the HLP to state n of Table 11.7 and post EV_HLP_STATE. -/
def State.toHlp (s : State) (n : Nat) : State :=
  (s.setFld F.HLP_STATUS_STATE 0 n).post EV.EV_HLP_STATE noUnit
    (s.fld F.HLP_STATUS_STATE 0 + 256 * n + 65536 * s.fld F.HLP_STATUS_HALT_WHY 0)

/-- Clear the execution state, the stack and the accumulators (R348). -/
def State.hlpClear (s : State) : State := s.modHlp fun h => { h with
  a := false, w := 0#32, stack := [], pc := 0, section_ := none, initDone := false, busy := false, overran := false, skips := 0
  seen := [], fell := [], go := false }

/-- Program p with tile t of program q. -/
def HlpProg.copyTile (p q : HlpProg) (t : Nat) : HlpProg := { p with
  bytes := Memory.setMany (fun _ => 0#8) p.bytes (4096 * t) (q.tile t)
  dir := Memory.set (fun _ => 0#32) p.dir t (Memory.get (fun _ => 0#32) q.dir t) }

/-- A rewritten tile takes effect (R346). -/
def State.hlpFix (s : State) (t : Nat) : State :=
  let s1 := s.modHlp fun h => { h with prog := h.prog.copyTile h.nvm t, fix := h.fix.filter (· != t) }
  ({ s1 with coef := { s1.coef with
    badTiles := s1.coef.badTiles.filter (· != (2, t)), found := s1.coef.found.filter (· != (2, t)) } }).count F.HLP_CNT_TILE_FIX 0

/-- Every rewritten tile that waits takes effect: at a cycle boundary, and as the HLP leaves RUN or INIT without one, after which no boundary
comes (DESIGN CHOICE, log 149). -/
def State.hlpFixes (s : State) : State := s.hlp.fix.foldl State.hlpFix s

/-- The HLP runs: INIT or RUN. -/
def State.hlpRuns (s : State) : Bool := s.fld F.HLP_STATUS_STATE 0 == 1 || s.fld F.HLP_STATUS_STATE 0 == 2

/-- HALT (R348): outputs take DO_SAFE, BKR_FB holds, commands that wait complete, Fencen asks for a Safe Ramp Stop of STOP_PORTS, and
the HLP watchdog asks for a Block reset. -/
def State.hlpHalt (s : State) (why : Nat) : State :=
  if !s.hlpRuns then s
  else
    let s1 := ((s.setFld F.HLP_STATUS_HALT_WHY 0 why).toHlp 3).hlpClear.hlpFixes
    let s2 := (s1.setFld F.FIO_DO_APPLIED 0 s1.doSafe).doSync
    let s3 := ((s2.endAll 0x0A06 FS.FS_HLP_STATE).endAll 0x0A05 FS.FS_HLP_STATE).endAll 0x0A04 FS.FS_OK
    let ports := s.hlp.prog.hdr 22 2
    let s4 := s3.cond (ports != 0) fun t => t.srsRequest ports false
    s4.modHlp fun h => { h with wdtReq := true }

/-- STOP (R351): outputs take DO_SAFE and the stop commands complete. What still waits for a cycle boundary, as at a Block reset between two, ends
as it does at a halt. -/
def State.hlpStop (s : State) : State :=
  let s1 := (s.toHlp 0).hlpClear.hlpFixes
  let s2 := (s1.setFld F.FIO_DO_APPLIED 0 s1.doSafe).doSync.modHlp fun h => { h with padStop := false }
  ((s2.endAll 0x0A06 FS.FS_HLP_STATE).endAll 0x0A05 FS.FS_HLP_STATE).endAll 0x0A04 FS.FS_OK

/-! ### Retained memory and restarts (R352, R353) -/

/-- CRC-32C of a buffer over its area, cycle number and RETAIN_ID. -/
def retCrc (area : Memory Byte) (cycle id : Nat) : Word :=
  crc32c (Memory.getMany (fun _ => 0#8) area 0 8192 ++ leBytes 4 cycle ++ leBytes 4 id)

/-- The newer of two buffers of the store, of those whose CRC verifies. -/
def newerBuf (a b : Option RetBuf) : Option RetBuf :=
  let ok := fun (x : Option RetBuf) => x.filter fun r => r.crc == retCrc r.area r.cycle r.retainId
  match ok a, ok b with
  | some x, some y => if x.cycle < y.cycle then some y else some x
  | some x, none => some x
  | none, y => y

/-- The retained image. -/
def State.retained (s : State) : Option RetBuf := newerBuf (vget s.hlp.store 0) (vget s.hlp.store 1)

/-- Bytes of a store below address n. -/
def below (m : Memory Byte) (n : Nat) : Memory Byte := m.filter fun x => x.1 < n

/-- Commit the working copy, with the number of the cycle, to the older buffer (R352). -/
def State.commitRetained (s : State) : State :=
  let area := below s.hlp.mem 0x2000
  let id := s.hlp.prog.hdr 4 4
  let n := s.fld F.HLP_CYCNUM_CYCNUM 0
  (s.modHlp fun h => { h with
    store := vmod h.store h.oldest fun _ => some ⟨area, n, id, retCrc area n id⟩, oldest := 1 - h.oldest }).setFlag
    F.HLP_STATUS_RETAIN_VALID 0 true

/-- A restart (R353): INIT begins with COLD or WARM; the mode is STARTUP, or RECOVERY when the start command names it. -/
def State.hlpRestart (s : State) (cold recovery : Bool) : State :=
  let mem := if cold then [] else match s.retained with
    | some b => b.area
    | none => []
  let sec := if cold then 0 else 1
  let s1 := s.hlpClear.modHlp fun h => { h with
    mem := mem, section_ := some sec, pc := h.prog.hdr (8 + 2 * sec) 2, first := sec + 1, ovrLast := false
    tStart := none, dt := 0, padStop := false }
  let s2 := { s1 with pwm := { s1.pwm with legs := s1.pwm.legs.map fun (l : LegSt) => { l with evLatch := false } } }
  let s3 := (s2.modHlp fun h => { h with doCmd := s2.doSafe }).setFld F.HLP_STATUS_HALT_WHY 0 0
  (s3.setFld F.HLP_STATUS_MODE 0 (if recovery then 3 else 0)).toHlp 1

/-- The warm restart's preconditions: FS_HLP_RETAIN, FS_HLP_LAYOUT, or none fails (R353). -/
def State.warmCheck (s : State) : Nat := match s.retained with
  | none => FS.FS_HLP_RETAIN
  | some b => if b.retainId = s.hlp.prog.hdr 4 4 then FS.FS_OK else FS.FS_HLP_LAYOUT

/-- AUTOSTART (R351): the tiles are verified; warm when a warm restart's preconditions hold, otherwise cold. -/
def State.hlpAuto (s : State) : State := s.cond s.hlpTilesOk fun t => t.hlpRestart (t.warmCheck != FS.FS_OK) false

/-- The warm restart that a wake makes (R351, R475), of an HLP in STOP or on its way there. Its preconditions are those of every start and of a
warm restart: PROG_OK, the tiles, the retained image (R346, R353); where one fails nothing changes. HALT is left by a start command alone
(Table 11.7, R348). -/
def State.hlpWake (s : State) : State :=
  s.cond (s.fld F.HLP_STATUS_STATE 0 != 3 && s.flag F.HLP_STATUS_PROG_OK 0 && s.hlpTilesOk && s.warmCheck == FS.FS_OK) fun t =>
    t.hlpRestart false false

/-! ### Cycle boundary (R355) -/

/-- Step 2: the active unit captures a retained snapshot once the one before it has been fully sent (R291). -/
def State.hlpCapture (s : State) : State :=
  if s.flag F.PAIR_CFG_PAIR_EN 0 && s.isActive && decide (64 ≤ s.hlp.slice) then
    s.modHlp fun h => { h with snap := below h.mem 0x2000, snapCycle := s.fld F.HLP_CYCNUM_CYCNUM 0, slice := 0 }
  else s

/-- Step 3: a standby whose 64 slices are complete writes them to its working copy (R291, R353). -/
def State.hlpApply (s : State) : State :=
  if s.otherPaired && s.hlp.got.length == 64 then
    s.modHlp fun h => { h with
      mem := h.got.foldl (fun m g => Memory.setMany (fun _ => 0#8) m (128 * g.1) (slice g.2 0 128)) h.mem, got := [], applied := true }
  else s

/-- Bytes o to o + n - 1 of item i of an online change (R415). -/
def olcItem (pay : List Byte) (i o n : Nat) : Nat := leAt pay (16 * i + o) n

/-- A constant takes a new value, and its tile's directory entry follows. -/
def HlpProg.setConst (p : HlpProg) (i v : Nat) : HlpProg :=
  let q := { p with bytes := Memory.setMany (fun _ => 0#8) p.bytes (p.constAt i) (leBytes 4 v) }
  let t := p.constAt i / 4096
  { q with dir := Memory.set (fun _ => 0#32) q.dir t (crc32c (q.tile t)) }

/-- One item of an online change takes effect (R354). -/
def State.olcApply (s : State) (pay : List Byte) (i : Nat) : State :=
  let x := olcItem pay i 4 4
  let v := olcItem pay i 8 4
  match olcItem pay i 0 1 with
  | 0 => s.setHbit (8 * x + olcItem pay i 1 1) (v % 2 == 1)
  | 1 => s.setHb x (BitVec.ofNat 8 v)
  | 2 => s.setHword x (BitVec.ofNat 32 v)
  | _ => s.modHlp fun h => { h with prog := h.prog.setConst x v }

/-- Every item of an online change takes effect; the command completes with the number of the first cycle that sees it. -/
def State.olcEnd (s : State) (e : Entry) : State :=
  let s1 := (s.forUnits (e.a 0) fun t i => t.olcApply e.payload i).count F.HLP_CNT_OLC_CNT 0
  s1.complete e.tag FS.FS_OK 0 (leBytes 4 (s1.fld F.HLP_CYCNUM_CYCNUM 0 + 1)) []

/-- Step 4. -/
def State.hlpOlc (s : State) : State := match s.waitingOp 0x0A06 with
  | some e => s.olcEnd e
  | none => s

/-- A mode command takes effect, or fails what it was accepted on (R350). -/
def State.modeEnd (s : State) (e : Entry) : State :=
  let m := e.a 0
  if m != 1 && s.fld F.HLP_STATUS_MODE 0 != 1 then s.done e.tag FS.FS_HLP_STATE
  else if m != 1 && !s.allOff then s.done e.tag FS.FS_PORT_STATE
  else (s.setFld F.HLP_STATUS_MODE 0 m).done e.tag FS.FS_OK

/-- Step 6: GO_NORMAL of the last output phase, then the mode commands. -/
def State.hlpModes (s : State) : State :=
  let m := s.fld F.HLP_STATUS_MODE 0
  let s1 := (s.cond (s.hlp.go && (m == 0 || m == 3)) fun t => t.setFld F.HLP_STATUS_MODE 0 1).modHlp fun h => { h with go := false }
  (s1.fcp.inflight.filter fun e => e.op == 0x0A05 && e.started).foldl State.modeEnd s1

/-- The standby view applies (R349). -/
def State.sby (s : State) : Bool := s.otherPaired

/-- Receive connection c is valid: a pair has been accepted and both its watchdogs run. -/
def State.rxValid (s : State) (c : Nat) : Bool :=
  s.flag F.PDU_STAT_EN c && (vget s.stw.rx c).last.isSome && !s.flag F.PDU_STAT_WD_A c && !s.flag F.PDU_STAT_WD_B c

/-- Step 7: the input phase fills the image (R339). -/
def State.hlpInput (s : State) : State :=
  let first := s.hlp.first
  let fl := b2n (first == 1) + 2 * b2n (first == 2) + 4 * b2n s.hlp.ovrLast + 8 * b2n s.sby + 16 * s.fld F.HLP_STATUS_MODE 0
  let lat := ((List.range 48).filter fun n => (vget s.pwm.legs n).evLatch).map (2 ^ ·)
  let put := fun (m : Memory Byte) (o : Nat) (l : List Byte) => Memory.setMany (fun _ => 0#8) m (0x10000 + o) l
  let m0 := s.hlp.mem.filter fun x => decide (x.1 < 0x10000 ∨ 0x11000 ≤ x.1)
  let m1 := put m0 0 (leBytes 4 (s.fld F.HLP_CYCNUM_CYCNUM 0) ++ timeBytes (vget s.tb 1).ticks ++ leBytes 1 fl)
  let m2 := put m1 0x20 (leBytes 2 (s.fld F.FIO_DI_FILT 0) ++ leBytes 2 (s.fld F.STW_IO_SI_DEM 0) ++ leBytes 1 (s.fld F.FIO_DO_PIN 0)
    ++ leBytes 1 (s.fld F.STW_IO_SO_FAIL 0))
  let m3 := put m2 0x40 (leBytes 8 lat.sum)
  let m4 := s.hlp.view.foldl (fun m x => put m x.1 (leBytes 4 x.2.toNat)) m3
  let m5 := (List.range 64).foldl (fun m n => put m (0x300 + 4 * n) (leBytes 4 (s.reg R.AIN_LAST n).toNat)) m4
  let m6 := (List.range 4).foldl (fun m c => put m (0x400 + 16 * c)
    (slice (vget s.stw.rx c).data 3 13 ++ [0#8, 0#8, BitVec.ofNat 8 (b2n (s.rxValid c))])) m5
  let m7 := (List.range 32).foldl (fun m r => put m (0x800 + 64 * r)
    (slice (vget s.hlp.rmod r).input 0 60 ++ leBytes 4 (s.reg R.RIO_STAT r).toNat)) m6
  let s1 := s.modHlp fun h => { h with mem := m7, first := 0, ovrLast := false }
  { s1 with pwm := { s1.pwm with legs := s1.pwm.legs.map fun (l : LegSt) => { l with evLatch := false } } }

/-- A cycle starts (R347): its number, the time since the cycle start before it, the input phase; CYCLIC begins at its entry. -/
def State.hlpCycle (s : State) : State :=
  let s1 := s.setFld F.HLP_CYCNUM_CYCNUM 0 (s.fld F.HLP_CYCNUM_CYCNUM 0 + 1)
  let now := (vget s1.tb 1).ticks
  let s2 := s1.modHlp fun h => { h with
    dt := match h.tStart with
      | some t => (now - t) / 65536000
      | none => 0
    tStart := some now }
  s2.hlpInput.modHlp fun h => { h with section_ := some 2, pc := h.prog.hdr 12 2, busy := true, overran := false, skips := 0 }

/-- A cycle boundary: the steps of R355 in order, the stop of R351 by command or by Paddock, then the next cycle. -/
def State.hlpBoundary (s : State) : State :=
  let s2 := s.hlpCapture.hlpApply.hlpOlc.hlpFixes.hlpModes
  if (s2.waitingOp 0x0A04).isSome || s2.hlp.padStop then s2.hlpStop
  else (s2.cond (s2.fld F.HLP_STATUS_STATE 0 == 1) fun t => t.toHlp 2).hlpCycle

/-- HLP_CYCLE_START (R347, R349, R351): a cycle instant. A start before the output phase has ended is skipped; in INIT there is no
cycle boundary before END of COLD or WARM. -/
def execHlpCycleStart (s : State) : Host.Outcome State Fault Refusal :=
  .next (
    if s.hlp.dbgHalted || !s.hlpRuns || !s.hlpClock then s
    else if s.fld F.HLP_STATUS_STATE 0 = 1 then (if s.hlp.initDone then s.hlpBoundary else s)
    else if s.hlp.busy then s.modHlp fun h => { h with skips := h.skips + 1 }
    else s.hlpBoundary)

/-! ### Output phase (R341, R347) -/

/-- DO command of the output phase; in the standby view outputs outside SBY_MASK take DO_SAFE (R349). -/
def State.hlpDo (s : State) : Nat :=
  let c := (s.hb 0x11004).toNat
  let k := s.hlp.prog.hdr 19 1
  if s.sby then (c &&& k) ||| (s.doSafe &&& (255 - k)) else c

/-- The output phase: outputs, BKR_FB, send data, remote blocks; the retained area is committed (R352). -/
def State.hlpOutput (s : State) : State :=
  let q := (s.hlp.mem.filter fun x => decide (0x11000 ≤ x.1)).map fun x => (x.1 - 0x11000, x.2)
  let s1 := s.modHlp fun h => { h with doCmd := s.hlpDo, qOut := q, ready := true, go := s.hbit (8 * 0x11000) }
  (s1.forUnits 12 fun t p => t.modPort p fun x => { x with hlpBkr := s.hbit (8 * (0x11010 + 4 * p)) }).commitRetained

/-- An overrun cycle has ended (R349). -/
def State.hlpOverEnd (s : State) : State :=
  ((s.countN F.HLP_CNT_SKIP_CNT 0 s.hlp.skips).post EV.EV_HLP_OVERRUN noUnit
    (s.fld F.HLP_CYCNUM_CYCNUM 0 + 2 ^ 32 * min 255 s.hlp.skips)).modHlp fun h => { h with ovrLast := true }

/-- A cycle is in progress in RUN, and the HLP is clocked. -/
def State.inCycle (s : State) : Bool := s.fld F.HLP_STATUS_STATE 0 == 2 && s.hlp.busy && !s.hlp.dbgHalted && s.hlpClock

/-- Execution has not reached END of CYCLIC. -/
def State.inCyclic (s : State) : Bool := s.inCycle && s.hlp.section_ == some 2

/-- HLP_EXECUTION_END (R347): END of CYCLIC has been reached after execUs microseconds; the output phase follows. -/
def execHlpExecutionEnd (execUs : Nat) (s : State) : Host.Outcome State Fault Refusal :=
  .next (if !s.inCycle then s
    else
      let t := min execUs 0xFFFF
      let s1 := (s.setFld F.HLP_TIME_EXEC_LAST 0 t).setFld F.HLP_TIME_EXEC_MAX 0 (max t (s.fld F.HLP_TIME_EXEC_MAX 0))
      let s2 := s1.hlpOutput.cond s1.hlp.overran fun t => t.hlpOverEnd
      s2.modHlp fun h => { h with section_ := none, busy := false, overran := false, skips := 0 })

/-! ### Watchdog and errors -/

/-- HLP_OVERRUN (R348, R349): the deadline passes before END. -/
def execHlpOverrun (s : State) : Host.Outcome State Fault Refusal :=
  .next (if !s.inCyclic || s.hlp.overran then s
    else if s.fld F.HLP_STATUS_MODE 0 = 1 then s.hlpHalt 1
    else (s.modHlp fun h => { h with overran := true }).count F.HLP_CNT_OVR_CNT 0)

/-- HLP_HARD_LIMIT (R349): 8 cycle times without END. -/
def execHlpHardLimit (s : State) : Host.Outcome State Fault Refusal := .next (if s.inCyclic then s.hlpHalt 2 else s)

/-- HLP_INIT_LIMIT (Table 11.7): INIT longer than 100 ms. -/
def execHlpInitLimit (s : State) : Host.Outcome State Fault Refusal :=
  .next (if s.fld F.HLP_STATUS_STATE 0 = 1 then s.hlpHalt 4 else s)

/-- HLP_FETCH_PARITY (R346, Table 18.8): memory 0x2 is counted and the HLP halts. -/
def execHlpFetchParity (s : State) : Host.Outcome State Fault Refusal :=
  .next (if s.hlp.section_.isSome && !s.hlp.dbgHalted && s.hlpClock then (s.memErr 2).hlpHalt 3 else s)

/-- HLP_TILE_REWRITE (R346): Fencen rewrites a failed tile from its copy in NVM; while the HLP runs it takes effect at the next cycle
boundary. -/
def execHlpTileRewrite (tile : Fin 64) (s : State) : Host.Outcome State Fault Refusal :=
  .next (if !s.coef.found.contains (2, tile.val) || s.hlp.fix.contains tile.val then s
    else if s.hlpRuns then s.modHlp fun h => { h with fix := h.fix ++ [tile.val] }
    else s.hlpFix tile)

end Sys2Proof.Machine
end

