-- ==== Sys2Proof/Machine/HlpCmds.lean ====
section
/-!
DEFINITION. Host commands of the HLP class (14, Table 14.15): load, start, stop, mode and online change.
-/
namespace Sys2Proof.Machine

/-- HLP_LOAD (R346, R415): one quarter of a tile of the load buffer, and the tile's directory entry. -/
def execHlpLoad (tag : Fin 128) (s : State) : Host.Outcome State Fault Refusal :=
  serve 0x0A01 tag s fun e =>
    if 63 < e.a 0 ∨ 3 < e.a 1 then s.done e.tag FS.FS_PARAM
    else if s.hlpRuns then s.done e.tag FS.FS_HLP_STATE
    else
      let b := s.hlp.buf
      let bytes := Memory.setMany (fun _ => 0#8) b.bytes (4096 * e.a 0 + 1024 * e.a 1) (slice e.payload 0 1024)
      let dir := Memory.set (fun _ => 0#32) b.dir (e.a 0) (BitVec.ofNat 32 (e.a32 4))
      (s.modHlp fun h => { h with buf := { b with bytes := bytes, dir := dir } }).done e.tag FS.FS_OK

/-- The field bank's silence time is at least two cycle times and 10 ms (R367). -/
def State.tmoOk (s : State) (p : HlpProg) : Bool := decide (500 * p.hdr 16 2 + 10000 ≤ 10000 * s.fld F.FIO_CFG_FIO_TMO 0)

/-- The status of loading program p: its tiles (R346), then its rules (R344, R367). -/
def State.loadCheck (s : State) (p : HlpProg) : Nat :=
  if !(List.range p.count).all p.tileOk then FS.FS_TILE_CRC
  else if !p.ok || !s.tmoOk p then FS.FS_HLP_PROG
  else FS.FS_OK

/-- Program p is put in use: PROG_OK, Fencen's copy, FIO_SAFE (R367) and HLP_VER. -/
def State.installProg (s : State) (p : HlpProg) : State :=
  let s1 := { s with coef := { s.coef with
    badTiles := s.coef.badTiles.filter (·.1 != 2), found := s.coef.found.filter (·.1 != 2) } }
  let s2 := (s1.modHlp fun h => { h with prog := p, nvm := p, fix := [] }).setFlag F.HLP_STATUS_PROG_OK 0 true
  (s2.setFld F.FIO_CFG_FIO_SAFE 0 (p.hdr 18 1)).setFld F.IDENT_HLP_VER_ALL 0 (p.hdr 24 4)

/-- HLP_LOAD_DONE (R344, R346): a failure leaves PROG_OK = 0. -/
def execHlpLoadDone (tag : Fin 128) (s : State) : Host.Outcome State Fault Refusal :=
  serve 0x0A02 tag s fun e =>
    let p := { s.hlp.buf with count := e.a 0 }
    if e.a 0 < 3 ∨ 64 < e.a 0 then s.done e.tag FS.FS_PARAM
    else if s.hlpRuns then s.done e.tag FS.FS_HLP_STATE
    else
      let st := s.loadCheck p
      if st = FS.FS_OK then (s.installProg p).done e.tag st
      else (s.setFlag F.HLP_STATUS_PROG_OK 0 false).done e.tag st

/-- HLP_START (R351, R353): the tiles are verified again before the first instruction. -/
def execHlpStart (tag : Fin 128) (s : State) : Host.Outcome State Fault Refusal :=
  serve 0x0A03 tag s fun e =>
    if 1 < e.a 0 ∨ 1 < e.a 1 then s.done e.tag FS.FS_PARAM
    else if s.hlpRuns then s.done e.tag FS.FS_HLP_STATE
    else if !s.flag F.HLP_STATUS_PROG_OK 0 || !s.hlpTilesOk then s.done e.tag FS.FS_HLP_PROG
    else if e.a 0 = 0 ∧ s.warmCheck ≠ FS.FS_OK then s.done e.tag s.warmCheck
    else (s.hlpRestart (e.a 0 == 1) (e.a 1 == 1)).done e.tag FS.FS_OK

/-- HLP_STOP (R351): at the next cycle boundary; with nothing to stop it completes at once. -/
def execHlpStop (tag : Fin 128) (s : State) : Host.Outcome State Fault Refusal :=
  serve 0x0A04 tag s fun e => if s.hlpRuns then s.start e.tag else s.done e.tag FS.FS_OK

/-- HLP_MODE (R350): accepted for the next cycle boundary. -/
def execHlpMode (tag : Fin 128) (s : State) : Host.Outcome State Fault Refusal :=
  serve 0x0A05 tag s fun e =>
    let m := e.a 0
    if m = 0 ∨ 3 < m then s.done e.tag FS.FS_PARAM
    else if !s.hlpRuns || (m != 1 && s.fld F.HLP_STATUS_MODE 0 != 1) then s.done e.tag FS.FS_HLP_STATE
    else if m ≠ 1 ∧ !s.allOff then s.done e.tag FS.FS_PORT_STATE
    else s.start e.tag

/-- Item i names a bit, byte or word of V, or a constant in the constant tiles (R354, R415). -/
def State.olcItemOk (s : State) (pay : List Byte) (i : Nat) : Bool :=
  let x := olcItem pay i 4 4
  olcItem pay i 2 2 == 0 && (match olcItem pay i 0 1 with
    | 0 => decide (olcItem pay i 1 1 < 8 ∧ x < 0x10000)
    | 1 => decide (x < 0x10000)
    | 2 => x % 4 == 0 && decide (x + 4 ≤ 0x10000)
    | 3 => s.flag F.HLP_STATUS_PROG_OK 0 && decide (x < 1024 * s.hlp.prog.consts)
    | _ => false)

/-- Each constant item's CRC matches its tile as the items up to it leave it (R354). -/
def olcCrcOk (pay : List Byte) : Nat → Nat → HlpProg → Bool
  | 0, _, _ => true
  | n + 1, i, p =>
    if olcItem pay i 0 1 = 3 then
      let x := olcItem pay i 4 4
      let q := p.setConst x (olcItem pay i 8 4)
      (Memory.get (fun _ => 0#32) q.dir (q.constAt x / 4096)).toNat == olcItem pay i 12 4 && olcCrcOk pay n (i + 1) q
    else olcCrcOk pay n (i + 1) p

/-- HLP_OLC (R354, R415): rejected as a whole, or taken for the next cycle boundary; at once in STOP and HALT. -/
def execHlpOlc (tag : Fin 128) (s : State) : Host.Outcome State Fault Refusal :=
  serve 0x0A06 tag s fun e =>
    let n := e.a 0
    if e.payload.length ≠ 16 * n then s.done e.tag FS.FS_LEN
    else if n = 0 ∨ 32 < n ∨ !(List.range n).all (s.olcItemOk e.payload) then s.done e.tag FS.FS_PARAM
    else if !olcCrcOk e.payload n 0 s.hlp.prog then s.done e.tag FS.FS_TILE_CRC
    else if (s.waitingOp 0x0A06).isSome then s.done e.tag FS.FS_BUSY
    else if s.hlpRuns then s.start e.tag
    else s.olcEnd e

end Sys2Proof.Machine
end

