-- ==== Sys2Proof/Machine/Mailbox.lean ====
section
/-!
DEFINITION. Host transports and mailboxes (13): admission by Table 13.2, the quad-SPI mailboxes, the UDP and CAN FD transport
messages, consumption of completions.
-/
namespace Sys2Proof.Machine

/-- Spur holds this mailbox under back-pressure (Table 20.2). -/
def State.backPressure (s : State) (m : Nat) : Bool :=
  s.spurOn && bitOf (s.fld F.SPUR_BP_MB_MASK 0) m

/-- Checks 4 to 7 of Table 13.2; 0 when all pass. -/
def State.admitCode (s : State) (m : Nat) (hdr payload : List Byte) : Nat :=
  let tag := leAt hdr 2 1 % 128
  if s.credits m < 1 || s.backPressure m then Refuse.noCredit
  else if !headerCrcOk hdr payload then Refuse.hdrCrc
  else if leAt hdr 4 2 > 1024 then Refuse.len
  else if tag / 16 != m || s.tagBusy tag then Refuse.tag
  else 0

/-- Admit a command: it takes its tag and its ring entry (R373); one with an opcode the manual does not list completes. -/
def State.takeCmd (s : State) (m : Nat) (hdr payload : List Byte) : State :=
  let s1 := { s with fcp := { s.fcp with inflight := s.fcp.inflight ++ [parseCommand m hdr payload] } }
  State.settle s1.fcp.inflight.length s1

/-- Window address of mailbox m (R384). -/
def mbBase (m : Nat) : Nat := 0x1000 + m * 0x1C00

/-- Bytes of mailbox RAM. -/
def State.mbBytes (s : State) (a n : Nat) : List Byte := Memory.getMany (fun _ => 0#8) s.fcp.ram a n

/-- R385: Fencen copies header and payload from the window, applies Table 13.2 and records the outcome. -/
def State.doorbell (s : State) (m : Nat) : State :=
  let hdr := s.mbBytes (mbBase m + 0x40) 64
  let payload := s.mbBytes (mbBase m + 0x80) (min 1024 (leAt hdr 4 2))
  let code := if (vget s.fcp.boxes m).isOpen then s.admitCode m hdr payload else Refuse.closed
  let s1 := s.box m fun b => { b with refuse := code }
  if code = 0 then s1.takeCmd m hdr payload else s1.count F.MB_STAT_REFUSE_CNT m

/-- A write to MB_DOORBELL (R385): a write of 1 submits the window and sets WIN_BUSY while Fencen has not served it; the SVP serves
nothing while it does not execute (R469, R523), and ignores the register while WIN_BUSY = 1. -/
def State.bell (s : State) (m value : Nat) : State :=
  if value % 2 == 0 || vget s.fcp.busy m then s
  else if !s.svpClock then { s with fcp := { s.fcp with busy := vmod s.fcp.busy m fun _ => true } }
  else s.doorbell m

/-- MB_DOORBELL (R374, R385): a write of 1 submits the command window. -/
def execMbDoorbell (mb : Fin 4) (value : Word) (s : State) : Host.Outcome State Fault Refusal :=
  .next (s.guarded 0 (mbBase mb) true fun t => t.bell mb value.toNat)

/-- R386: consume n = value - HEAD completions when 1 ≤ n ≤ CPL_PEND. -/
def State.headWrite (s : State) (m value : Nat) : State :=
  let b := vget s.fcp.boxes m
  let n := (value % 16 + 16 - b.head) % 16
  if n = 0 then s
  else if n ≤ b.posted.length then s.box m fun b => { b with head := value % 16, posted := b.posted.drop n }
  else s.count F.MB_STAT_REFUSE_CNT m

/-- MB_CPL_HEAD write (R386). -/
def execMbCplHeadWrite (mb : Fin 4) (value : Word) (s : State) : Host.Outcome State Fault Refusal :=
  .next (s.guarded 0 (mbBase mb + 8) true fun t => t.headWrite mb value.toNat)

/-- Completions held back while the SVP did not execute are posted, and waiting doorbells served, the lower mailbox first (R380, R385, R523). -/
def State.svpResume (s : State) : State :=
  if !s.svpClock then s
  else
    let l := s.fcp.deferred
    let b := s.fcp.busy
    let s1 := { s with fcp := { s.fcp with deferred := [], busy := Vector.replicate 4 false } }
    let s2 := l.foldl (fun (t : State) x => t.complete x.1 x.2.1 x.2.2.1 x.2.2.2.1 x.2.2.2.2) s1
    s2.forUnits 4 fun t m => if vget b m then t.doorbell m else t

/-- Send a transport message on mailbox m. -/
def State.send (s : State) (m type cseq credits code : Nat) (msg : List Byte) : State :=
  s.emit m (transport type m (s.fld F.FCP_EPOCH_ALL 0) cseq credits code msg)

/-- Answer a CMD with an ADMIT (R389). -/
def State.sendAdmit (s : State) (m cseq code : Nat) : State := s.send m 2 cseq (s.credits m) code []

/-- A CMD transport message on mailbox m (R374, R388, R389). -/
def State.cmdMessage (s : State) (m : Nat) (msg : List Byte) : State :=
  let b := vget s.fcp.boxes m
  let cseq := leAt msg 4 2
  let hdr := slice msg 8 64
  let payload := (msg.drop 72).take (leAt hdr 4 2)
  let back := (b.cseq + 65536 - cseq) % 65536
  if !b.isOpen then (s.count F.MB_STAT_REFUSE_CNT m).sendAdmit m cseq Refuse.closed
  else if leAt msg 2 2 != s.fld F.FCP_EPOCH_ALL 0 then
    (s.count F.MB_STAT_REFUSE_CNT m).sendAdmit m cseq Refuse.epoch
  else if back = 0 then
    let code := s.admitCode m hdr payload
    if code = 0 then
      let s1 := s.takeCmd m hdr payload
      let s2 := s1.box m fun b => { b with
        cseq := (b.cseq + 1) % 65536, admits := ((0, s1.credits m) :: b.admits).take 16 }
      s2.sendAdmit m cseq 0
    else (s.count F.MB_STAT_REFUSE_CNT m).sendAdmit m cseq code
  else match b.admits[back - 1]? with
    | some (code, credits) => s.send m 2 cseq credits code []
    | none =>
      ((s.count F.MB_STAT_REFUSE_CNT m).count F.MB_STAT_SEQ_CNT m).sendAdmit m cseq Refuse.seq

/-- A CPL_ACK: it consumes the one completion with its tag (R390). -/
def State.ackMessage (s : State) (m : Nat) (msg : List Byte) : State :=
  let tag := leAt msg 4 1
  s.box m fun b => { b with posted := b.posted.filter fun p => p.tag != tag, head := b.head }

/-- Answer a PROBE with a NOTICE that carries epoch, state and credits (R390). -/
def State.notice (s : State) (m : Nat) : State :=
  s.send m 5 0 (s.credits m) (b2n (vget s.fcp.boxes m).isOpen) []

/-- Mailbox m of MB4 to MB7 receives: the SVP executes, and the MACs of MB4 and MB5 have their clock (R418, R469, R473). -/
def State.mbHears (s : State) (m : Nat) : Bool := s.svpClock && (decide (6 ≤ m) || s.clkOk 7)

/-- A host is bound to mailbox m: its HOSTSRC record has been committed (R387, R391). -/
def State.hostBound (s : State) (m : Nat) : Bool := !(vget s.fcp.hostSrc (m - 4)).isEmpty

/-- A transport message of the host for mailbox m by its TYPE; reserved types and a wrong MB byte are dropped (Table 13.9). While the mailbox
does not hear, nothing is served; before a host is bound to it every source is another one, dropped and counted (R387). -/
def State.message (s : State) (m : Nat) (msg : List Byte) : State :=
  if !s.mbHears m then s
  else if !s.hostBound m then s.count F.MB_STAT_SRC_CNT m
  else if leAt msg 1 1 != m then s
  else match leAt msg 0 1 with
    | 1 => s.cmdMessage m msg
    | 4 => s.ackMessage m msg
    | 6 => s.notice m
    | _ => s

/-- CMD (R388, R389): a CMD message on MB4 to MB7. -/
def execCmd (mb : Fin 4) (bytes : List Byte) (s : State) : Host.Outcome State Fault Refusal :=
  .next (if leAt bytes 0 1 = 1 then s.message (4 + mb) bytes else s)

/-- CPL_ACK (R390): one completion is consumed and its slot and tag freed. -/
def execCplAck (mb : Fin 4) (bytes : List Byte) (s : State) : Host.Outcome State Fault Refusal :=
  .next (if leAt bytes 0 1 = 4 then s.message (4 + mb) bytes else s)

/-- PROBE (R390): answered with a NOTICE. -/
def execProbe (mb : Fin 4) (s : State) : Host.Outcome State Fault Refusal :=
  let m := 4 + mb.val
  .next (if !s.mbHears m then s else if !s.hostBound m then s.count F.MB_STAT_SRC_CNT m else s.notice m)

/-- Send the CPL of a posted completion again (R390). -/
def State.resend (s : State) (m : Nat) (p : Posted) : State :=
  (s.send m 3 p.tag (s.credits m) 0 (p.header ++ p.payload)).count F.MB_STAT_RESEND_CNT m

/-- CPL_RESEND (R390): CPL_RETRY expired without a CPL_ACK for the tag. -/
def execCplResend (tag : Fin 128) (s : State) : Host.Outcome State Fault Refusal :=
  let m := tag.val / 16
  .next (if m < 4 || !s.svpRuns then s
    else match (vget s.fcp.boxes m).posted.find? fun p => p.tag == tag.val with
      | some p => s.resend m p
      | none => s)

/-- Discard the incomplete message of mailbox m and count it (R392). -/
def State.segDrop (s : State) (m : Nat) : State :=
  (s.box m fun b => { b with segBytes := [], segNext := 0, segCount := 0 }).count F.MB_STAT_SRC_CNT m

/-- The length of a transport message by its header: with one whole FCP message behind a CMD (R388). -/
def messageLength (msg : List Byte) : Nat := if leAt msg 0 1 = 1 then 72 + leAt msg 12 2 else 8

/-- Accept a segment in its place: the last one completes the message. -/
def State.segTake (s : State) (m : Nat) (bytes : List Byte) : State :=
  let b := vget s.fcp.boxes m
  let all := b.segBytes ++ (bytes.drop 2).take 62
  if b.segNext + 1 = leAt bytes 1 1 then
    let s1 := s.box m fun b => { b with segBytes := [], segNext := 0, segCount := 0 }
    s1.message m (all.take (messageLength all))
  else s.box m fun b => { b with segBytes := all, segNext := b.segNext + 1, segCount := leAt bytes 1 1 }

/-- CAN_SEGMENT (R391, R392): a frame on the channel's FCP identifier. A classical frame is discarded and counted; segment
0 discards any incomplete message; an unexpected index or count discards the message. -/
def execCanSegment (can : Fin 2) (fd : Bool) (bytes : List Byte) (s : State) : Host.Outcome State Fault Refusal :=
  let m := 6 + can.val
  let i := leAt bytes 0 1
  let n := leAt bytes 1 1
  let b := vget s.fcp.boxes m
  .next (
    if !fd then s.count F.MB_STAT_SRC_CNT m
    else if i = 0 then
      let s1 := if b.segCount = 0 then s else s.segDrop m
      if n = 0 then s1.segDrop m else s1.segTake m bytes
    else if b.segCount = 0 || i != b.segNext || n != b.segCount then s.segDrop m
    else s.segTake m bytes)

/-- CAN_SEGMENT_GAP (R392): more than 100 ms between segments discards the message. -/
def execCanSegmentGap (can : Fin 2) (s : State) : Host.Outcome State Fault Refusal :=
  let m := 6 + can.val
  .next (if (vget s.fcp.boxes m).segCount = 0 then s else s.segDrop m)

end Sys2Proof.Machine
end

