-- ==== Sys2Proof/Machine/GateLink.lean ====
section
/-!
DEFINITION. Serial lanes and the Gate Link (08): lane states, frames, link delay, parameters, status and alerts, GDEN pins and the
gate-driver clear.
-/
namespace Sys2Proof.Machine

/-! ### Lanes -/

/-- State of lane l (Tables 08.8, 09.4). -/
def State.laneState (s : State) (l : Nat) : Nat := s.fld F.LANE_STAT_STATE l

/-- Leg in slot k of Gate Link lane l. -/
def State.slotLeg (s : State) (l k : Nat) : Option Nat := (List.range 48).find? fun n =>
  s.flag F.LEG_CFG_GL n && s.fld F.LEG_CFG_LANE n == l && s.fld F.LEG_CFG_SLOT n == k

/-- Slots of lane l that have a leg, as bits. -/
def State.slotMask (s : State) (l : Nat) : Nat := (((List.range 8).filter fun k => (s.slotLeg l k).isSome).map (2 ^ ·)).sum

/-- Pair states in which GL_GDEN.CMD may be high: STANDBY and ACTIVE (R281), and SOLO. -/
def State.gdenAllowed (s : State) : Bool :=
  let st := s.fld F.PAIR_STATUS_STATE 0
  st == 0 || st == 4 || (st == 3 && !s.pair.gdenDrop)

/-- Fencen's GDEN commands: high on a lane that is UP, in a pair state that allows it, outside a gate-driver clear (R264, R281,
R282); an unpaired unit commands it in MEASURE too, and raises it in any lane state at the end of a clear (R264). -/
def State.gdenCmd (s : State) : State :=
  let solo := s.fld F.PAIR_STATUS_STATE 0 == 0
  let on := (List.range 6).filter fun l => s.gdenAllowed && (s.lane l).clear != 1
    && (s.laneState l == 4 || (solo && (s.laneState l == 3 || (s.lane l).clear == 2)))
  s.setFld F.GL_GDEN_CMD 0 (on.map (2 ^ ·)).sum

/-- ONE_LANE: exactly one mirror lane is UP. -/
def State.oneLane (s : State) : State :=
  s.setFlag F.PAIR_STATUS_ONE_LANE 0 ((s.laneState 6 == 4) != (s.laneState 7 == 4))

/-- The own HELLO block of mirror lane l (R286). -/
def State.helloBlock (s : State) (l : Nat) : Hello :=
  ⟨s.fld F.IDENT_BOOT_MIRROR_FMT 0, s.fld F.LANE_CFG_UNIT_ID l, s.flag F.PAIR_CFG_PRIO 0, s.reg R.IDENT_CFG_DIGEST 0⟩

/-- A mirror lane in HELLO sends the own HELLO block. -/
def State.sayHello (s : State) (l : Nat) : State :=
  if s.laneState l = 3 then { s with pair := { s.pair with sentHello := s.pair.sentHello.set (l - 6) (some (s.helloBlock l)) } } else s

/-- What a new state of mirror lane l brings: ONE_LANE, in HELLO the own block and the start of the wait for the partner's, and no failed HELLO
check outside HELLO (R286, Table 09.4). -/
def State.mirrorLane (s : State) (l : Nat) : State :=
  if l < 6 then s
  else
    let s1 := s.oneLane
    if s1.laneState l = 3 then (s1.sayHello l).modPair fun p => { p with blockAt := p.blockAt.set (l - 6) s.pwm.bnd }
    else { s1 with pair := { s1.pair with helloBad := s1.pair.helloBad.set (l - 6) false } }

/-- Move lane l to state n and post EV_LANE_STATE (R266). -/
def State.toLane (s : State) (l n : Nat) : State :=
  (((s.setFld F.LANE_STAT_STATE l n).post EV.EV_LANE_STATE l (s.laneState l + 256 * n)).mirrorLane l).gdenCmd

/-- Gate-driver faults on the slots of a mask (R262): FAULT, EV_GL_ALERT, and abort code GD_FAULT at the next boundary. -/
def State.faultSlots (s : State) (l mask : Nat) : State :=
  let s1 := s.forUnits 8 fun t k => match t.slotLeg l k with
    | some n => if bitOf mask k then (t.setFlag F.GL_LEG_STAT_FAULT n true).raiseLeg n .gdFault else t
    | none => t
  s1.post EV.EV_GL_ALERT l mask

/-- A Gate Link lane enters LOST: its legs are treated as gate-driver faults (Table 08.8). -/
def State.loseLane (s : State) (l : Nat) : State :=
  let t := s.toLane l 5
  t.cond (t.slotMask l != 0) fun u => u.faultSlots l (u.slotMask l)

/-- LOS, LOL and loss of ALIGNED put a Gate Link lane in MEASURE or UP into LOST. -/
def State.checkLoss (s : State) (l : Nat) : State :=
  s.cond (decide (l < 6) && (s.laneState l == 3 || s.laneState l == 4)
    && (s.flag F.LANE_STAT_LOS l || s.flag F.LANE_STAT_LOL l || !s.flag F.LANE_STAT_ALIGNED l)) fun t => t.loseLane l

/-- A lane whose clock has stopped reports LOL and loses its link (R469, Tables 08.8, 09.4). -/
def State.laneStops (s : State) (l : Nat) : State :=
  let s1 := (s.setFlag F.LANE_STAT_LOL l true).checkLoss l
  if 6 ≤ l ∧ (s1.laneState l = 3 ∨ s1.laneState l = 4) then (s1.toLane l 5).post EV.EV_MIRROR_LANE l 0 else s1

/-- The lanes' clock LNK runs; without it a lane neither sends nor receives (R459, R469). -/
def State.lnkRuns (s : State) : Bool := s.clkOk 6

/-- LOS_CHANGE (R239). -/
def execLosChange (lane : Fin 8) (on : Bool) (s : State) : Host.Outcome State Fault Refusal :=
  .next ((s.setFlag F.LANE_STAT_LOS lane on).checkLoss lane)

/-- LOL_CHANGE (R239). A lane without its clock goes on reporting LOL (R469). -/
def execLolChange (lane : Fin 8) (on : Bool) (s : State) : Host.Outcome State Fault Refusal :=
  .next (if !on && !s.lnkRuns then s else (s.setFlag F.LANE_STAT_LOL lane on).checkLoss lane)

/-- COMMA_RECEIVED (R240): ALIGNED sets after 16 consecutive commas at offset 0. -/
def execCommaReceived (lane : Fin 8) (pos : Fin 10) (s : State) : Host.Outcome State Fault Refusal :=
  let n := if pos.val = 0 then min 16 (vget s.gl.commas lane + 1) else 0
  .next (if s.laneState lane = 0 || !s.lnkRuns then s
    else
      let s1 := { s with gl := { s.gl with commas := vmod s.gl.commas lane fun _ => n } }
      ((s1.setFlag F.LANE_STAT_COMMA_SEEN lane true).setFld F.LANE_STAT_COMMA_POS lane pos).cond (n == 16) fun t =>
        t.setFlag F.LANE_STAT_ALIGNED lane true)

/-- ALIGNMENT_LOSS (R240): 8 code or disparity errors within 256 symbols. -/
def execAlignmentLoss (lane : Fin 8) (s : State) : Host.Outcome State Fault Refusal :=
  let s1 := { s with gl := { s.gl with commas := vmod s.gl.commas lane fun _ => 0 } }
  .next (if s.laneState lane = 0 then s
    else ((s1.countN F.LANE_CNT_CODE_ERR lane 8).setFlag F.LANE_STAT_ALIGNED lane false).checkLoss lane)

/-! ### Link delay (R257 to R259) -/

/-- The value last echoed at a parameter address. -/
def LaneSt.echo (x : LaneSt) (a : Nat) : Option Nat := (x.echoed.find? fun e => e.1 == a).map (·.2)

/-- D_RX and T_TA that the driver declares for rate r. -/
def LaneSt.declared (x : LaneSt) (r : Nat) : Nat × Nat := ((x.echo (0x24 + 2 * r)).getD 0, (x.echo (0x25 + 2 * r)).getD 0)

/-- D_RX and T_TA of what answers on lane l: as the driver declares them, or those of the partner on a mirror lane (R285). -/
def State.answers (s : State) (l : Nat) : Nat × Nat :=
  let r := s.fld F.LANE_CFG_RATE l
  if l < 6 then (s.lane l).declared r else ((Config.mirrorRx r).toNat, (Config.mirrorTurn r).toNat)

/-- The latency of a lane: the mean of (RTT + D_RX - T_TA) / 2 over the valid round-trip times, rounded to the nearest fine step. -/
def LaneSt.meas (x : LaneSt) (d : Nat × Nat) : Nat :=
  let n := x.rtts.length
  if n = 0 then 0 else ((x.rtts.sum + n * d.1 - n * d.2) + n) / (2 * n)

/-- L_MEAS follows the round-trip times; beyond 500 ns, or more than 4 ns from L_ACT, an UP lane is lost (R259). -/
def State.measure (s : State) (l : Nat) : State :=
  let m := (s.lane l).meas (s.answers l)
  let a := s.fld F.GL_DELAY_L_ACT l
  let s1 := s.setFld F.GL_DELAY_L_MEAS l m
  let moved := (s.lane l).settled && (decide (a + 32 < m) || decide (m + 32 < a))
  s1.cond (decide (l < 6) && s.laneState l == 4 && (decide (4000 < m) || moved)) fun t =>
    (t.setFlag F.LANE_STAT_L_RANGE l true).loseLane l

/-- PING and PARAM leave in MEASURE and UP; on a mirror lane PING leaves in UP (Table 09.4). -/
def State.pings (s : State) (l : Nat) : Bool := (decide (l < 6) && s.laneState l == 3) || s.laneState l == 4

/-- Nothing is being sent on lane l and no slot is about to open (Table 08.1, R242): no frame, HALT, PING or PARAM is in progress, and on a
Gate Link lane at least 8 symbols lie before the slot opening. -/
def State.laneFree (s : State) (l : Nat) : Bool :=
  let x := s.lane l
  let b := s.symbol l
  let open_ := s.pwm.tk + s.reloadSpan - frameOf (s.fld F.LANE_CFG_RATE l)
  (match x.sending with
    | some (e, _) => decide (e ≤ s.now)
    | none => true) && (x.halting s.now b).1.isNone && (match x.inFrame with
    | some (_, e) => decide (e ≤ s.now)
    | none => true) && !(decide (l < 6) && decide (open_ < s.now + 8 * b) && decide (s.now < open_))

/-- PING_SEND (R241, R257, R285): between frames, where nothing else is being sent. -/
def execPingSend (lane : Fin 8) (s : State) : Host.Outcome State Fault Refusal :=
  .next (if s.pings lane && s.laneFree lane then s.modLane lane fun x => { x with
      pingOut := some x.pingSeq, pingSeq := (x.pingSeq + 1) % 256, sending := some (s.now + 2 * s.symbol lane, none) }
    else s)

/-- ECHO_RECEIVED (R258): `rtt` is t_e - t_p in fine steps; one later than 1 200 ns is lost. -/
def execEchoReceived (lane : Fin 8) (seq : Byte) (rtt : Nat) (s : State) : Host.Outcome State Fault Refusal :=
  .next (if s.pings lane && (s.lane lane).pingOut == some seq.toNat && decide (rtt ≤ 9600) then
      (s.modLane lane fun x => { x with pingOut := none, rtts := (rtt :: x.rtts).take 64, echoes := x.echoes + 1 }).measure lane
    else s)

/-- ECHO_LOST (R258). -/
def execEchoLost (lane : Fin 8) (s : State) : Host.Outcome State Fault Refusal :=
  .next (s.modLane lane fun x => { x with pingOut := none })

/-! ### Parameters (R260) -/

/-- HOLD_N at the RG0 rate in force: 3 + 6 us / T_RG0 rounded up, at most 15 (R256). -/
def State.holdN (s : State) : Nat := min 15 (3 + (48000 + s.fineP - 1) / max 1 s.fineP)

/-- DELTA of leg n on lane l: L_port - L of the lane (R249, R50). -/
def State.glDelta (s : State) (l n : Nat) : Nat := match s.portOfLeg n with
  | some p => s.lPort p - s.fld F.GL_DELAY_L_ACT l
  | none => 0

/-- The value the unit writes to parameter a of its own port's set on lane l (Table 08.5). A slot without a leg keeps the defaults;
the other unit's UNIT_ID field keeps its default. -/
def State.paramVal (s : State) (l a : Nat) : Nat :=
  let id := s.fld F.LANE_CFG_UNIT_ID l
  match s.slotLeg l (a % 8) with
  | some n =>
    if a < 8 then s.fld F.LEG_DT_DT_TOP n
    else if a < 16 then s.fld F.LEG_DT_DT_BOT n
    else if a < 24 then s.glDelta l n
    else if a = 24 then s.holdN
    else if (s.lane l).portB then 4 * id else id + 4
  | none =>
    if a < 16 then 800 else if a < 24 then 0 else if a = 24 then s.holdN
    else if (s.lane l).portB then 4 * id else id + 4

/-- The bytes of a PARAM: ADDR, VL, VH and CHK = ADDR XOR VL XOR VH XOR 0x5A (R260). -/
def paramBytes (a v : Nat) : List Byte :=
  let x := BitVec.ofNat 8 a
  let l := BitVec.ofNat 8 v
  let h := BitVec.ofNat 8 (v / 256)
  [x, l, h, x ^^^ l ^^^ h ^^^ 0x5A#8]

/-- Address a has been written with value v. -/
def LaneSt.write (x : LaneSt) (a v : Nat) : LaneSt :=
  { x with written := (a, v) :: x.written.filter (·.1 != a), due := x.due.filter (· != a), apply := true }

/-- PARAM_SEND (R241, R260): between frames; the value goes to the driver's shadow; the next frame makes it take its shadows into use. -/
def execParamSend (lane : Fin 6) (addr : Fin 26) (s : State) : Host.Outcome State Fault Refusal :=
  let v := s.paramVal lane addr
  .next (if s.pings lane && s.laneFree lane then
      s.modLane lane fun x => { x.write addr v with
        param := paramBytes addr v, sending := some (s.now + 5 * s.symbol lane, some addr.val) }
    else s)

/-- Parameters of lane l whose value is no longer the one written: each is to be written again (R260). -/
def State.markDue (s : State) (l : Nat) : State :=
  let new := (List.range 26).filter fun a => (s.lane l).written.any fun w => w.1 == a && w.2 != s.paramVal l a
  s.modLane l fun x => { x with due := x.due ++ new.filter fun a => !x.due.contains a }

/-! ### Frames (R243 to R246) -/

/-- CRC-16 of R245. -/
def crc16 (l : List Byte) : BitVec 16 := l.foldl (crcByte 0x8408#16) 0xFFFF#16

/-- The two 25-bit times of a program shifted by the leg's DELTA, as a number (R244, R249). -/
def Program.times (g : Program) (delta : Nat) : Nat :=
  let t := fun k => match g.edges.drop k with
    | e :: _ => e.1 + delta
    | [] => 0x1FFFFFF
  t 0 + 2 ^ 25 * t 1

/-- A 109-byte frame (Table 08.2): period number, PERIOD, ACT, APPLY, UNIT_ID, and the programs of channels 0 to 15 with their
DELTA. -/
def glFrame (pnum period : Nat) (act apply : Bool) (id : Nat) (ch : List (Program × Nat)) : List Byte :=
  let lv := ch.zipIdx.map fun x => if x.1.1.start then 2 ^ x.2 else 0
  let tm := ch.zipIdx.map fun x => x.1.1.times x.1.2 * 2 ^ (50 * x.2)
  let b := leBytes 2 pnum ++ leBytes 3 (period % 2 ^ 20 + 2 ^ 20 * b2n act + 2 ^ 21 * b2n apply + 2 ^ 22 * id) ++ leBytes 2 lv.sum
    ++ leBytes 100 tm.sum
  b ++ leBytes 2 (crc16 b).toNat

/-- The legs as they will stand after the next boundary's reload (R203, R227), with the L_ACT it takes (R259): the programs the frame of the
next period carries. -/
def State.nextPrograms (s : State) : State :=
  let t := s.pwm.tk + s.reloadSpan
  let s0 := s.forUnits 6 fun u l => u.setFld F.GL_DELAY_L_ACT l (u.fld F.GL_DELAY_L_MEAS l)
  let s1 := s0.forUnits 48 fun u n => u.endPeriodLeg n (u.legStart n t)
  ((s1.reloadBundles (s.pwm.pnum + 1)).releaseLegs).forUnits 48 fun u n => u.formLeg n (u.legStart n t) (u.leg n).w

/-- Slots of lane l whose DELTA will differ from the one written, with the new value: it travels with the frame (R259). -/
def State.newDeltas (s t : State) (l : Nat) : List (Nat × Nat) :=
  ((List.range 8).map fun k => (16 + k, t.paramVal l (16 + k))).filter fun x => (s.lane l).written.any fun w => w.1 == x.1 && w.2 != x.2

/-- Frames of lane l carry programs: the lane is UP and no gate removal is held (R246, R255, Table 08.8). -/
def State.frameLive (s : State) (l : Nat) : Bool := s.laneState l == 4 && !s.sgrHeld

/-- Channels of lane l in a frame that carries the programs of t. -/
def State.frameChans (s t : State) (l : Nat) : List (Program × Nat) :=
  (List.range 8).flatMap fun k => match s.slotLeg l k with
    | some n => if s.frameLive l then [((t.leg n).top, t.glDelta l n), ((t.leg n).bot, t.glDelta l n)] else [({}, 0), ({}, 0)]
    | none => [({}, 0), ({}, 0)]

/-- The crossfire guard on the legs of lane l as the programs of t are formed (R222, R223): a leg whose program overlaps latches CROSSFIRE
now. -/
def State.guardFrame (s t : State) (l : Nat) : State :=
  ((List.range 8).filterMap (s.slotLeg l)).foldl (fun u n =>
    if t.flag F.LEG_STAT_CROSSFIRE n && !s.flag F.LEG_STAT_CROSSFIRE n then u.crossfire n else u) s

/-- FRAME_SLOT_OPEN (R26, R243, R246, R259): the frame for the next period leaves in MEASURE, UP and LOST, with the new DELTA values. -/
def execFrameSlotOpen (lane : Fin 6) (s : State) : Host.Outcome State Fault Refusal :=
  let l := lane.val
  let st := s.laneState l
  .next (
    if !(st == 3 || st == 4 || st == 5) || !s.lnkRuns || s.gait == Gait.paddock || s.genHeld then s
    else
      let t := s.nextPrograms
      let d := s.newDeltas t l
      let f := glFrame (s.pnumOut + 1) t.period (s.flag F.PAIR_STATUS_ACT_OUT 0) ((s.lane l).apply || !d.isEmpty)
        (s.fld F.LANE_CFG_UNIT_ID l) (s.frameChans t l)
      (s.guardFrame t l).modLane l fun x => { (d.foldl (fun x w => x.write w.1 w.2) x) with
        frame := f, inFrame := some (0, s.now + 110 * s.symbol l), apply := false })

/-! ### Status and alerts (R261, R262) -/

/-- A status frame verifies: 33 bytes and the CRC over bytes 0 to 30. -/
def statusOk (b : List Byte) : Bool := b.length == 33 && leAt b 31 2 == (crc16 (slice b 0 31)).toNat

/-- Slots whose FAULT bit a status frame sets. -/
def statusFaults (b : List Byte) : Nat := (((List.range 8).filter fun k => bitOf (leAt b (7 + 3 * k) 2) 14).map (2 ^ ·)).sum

/-- Slot k's fields of a status frame enter its leg's GL_LEG_STAT. -/
def State.takeSlot (s : State) (l k : Nat) (b : List Byte) : State := match s.slotLeg l k with
  | none => s
  | some n =>
    let w := leAt b (7 + 3 * k) 2
    (((s.setFld F.GL_LEG_STAT_I_SENSE n (w % 4096)).setFlag F.GL_LEG_STAT_SC n (bitOf w 12)).setFlag F.GL_LEG_STAT_UV n
      (bitOf w 13)).setFld F.GL_LEG_STAT_TEMP n (leAt b (9 + 3 * k) 1)

/-- An echoed D_RX or T_TA of the lane's rate gives the link latency anew (R258). -/
def State.remeasure (s : State) (l a : Nat) : State :=
  let r := s.fld F.LANE_CFG_RATE l
  if (a == 0x24 + 2 * r || a == 0x25 + 2 * r) && !(s.lane l).rtts.isEmpty then s.measure l else s

/-- STATUS_FRAME_RECEIVED (R261, R262). -/
def execStatusFrameReceived (lane : Fin 6) (bytes : List Byte) (s : State) : Host.Outcome State Fault Refusal :=
  let l := lane.val
  let fl := leAt bytes 2 1
  let f := statusFaults bytes
  .next (
    if s.laneState l < 3 then s
    else if !statusOk bytes then s.count F.LANE_CNT_CRC_ERR l
    else
      let s1 := s.modLane l fun x => { x with
        fresh := true, missing := 0, portB := bitOf fl 0, gden := bitOf fl 6, clean := f == 0 && !bitOf fl 5
        echoed := (leAt bytes 3 1, leAt bytes 4 2) :: x.echoed.filter (·.1 != leAt bytes 3 1) }
      let s2 := (s1.setFlag F.LANE_STAT_DRV_OBEY l (bitOf fl 3)).forUnits 8 fun t k => t.takeSlot l k bytes
      let s3 := s2.remeasure l (leAt bytes 3 1)
      s3.cond (f &&& s3.slotMask l != 0) fun t => t.faultSlots l f)

/-- ALERT_RECEIVED (R262): an ALERT whose second byte is not the complement of its mask is discarded. -/
def execAlertReceived (lane : Fin 6) (mask : Byte) (check : Byte) (s : State) : Host.Outcome State Fault Refusal :=
  .next (if 3 ≤ s.laneState lane ∧ check = mask ^^^ 0xFF#8 then s.faultSlots lane mask.toNat else s)

/-! ### Lane states (R266) -/

/-- MEASURE is complete: 64 ECHOs, every address echoed, every writable parameter written. -/
def LaneSt.measured (x : LaneSt) : Bool :=
  decide (64 ≤ x.echoes) && (List.range 0x30).all (fun a => (x.echo a).isSome)
    && (List.range 26).all fun a => x.written.any fun w => w.1 == a

/-- A writable echo differs from the value written. -/
def LaneSt.paramBad (x : LaneSt) : Bool := x.written.any fun w => x.echo w.1 != some w.2

/-- The driver's protocol major version is not 1, or it does not support the lane's rate. -/
def LaneSt.idBad (x : LaneSt) (rate : Nat) : Bool := (x.echo 0x22).getD 0 / 256 != 1 || !bitOf ((x.echo 0x23).getD 0) rate

/-- MEASURE ends in UP, or shows why it does not; L_ACT, and the instants of R159 with it, follow at the next RG0 boundary (R259). -/
def State.endMeasure (s : State) (l : Nat) : State :=
  let x := s.lane l
  let m := s.fld F.GL_DELAY_L_MEAS l
  let id := x.idBad (s.fld F.LANE_CFG_RATE l)
  let s1 := ((s.setFlag F.LANE_STAT_L_RANGE l (decide (4000 < m))).setFlag F.LANE_STAT_ID_ERR l id).setFlag F.LANE_STAT_PARAM_ERR l
    x.paramBad
  if 4000 < m ∨ id ∨ x.paramBad then s1
  else (s1.modLane l fun y => { y with missing := 0, apply := true, settled := false }).toLane l 4

/-- A lane enters MEASURE or HELLO with nothing measured. -/
def State.beginMeasure (s : State) (l : Nat) : State :=
  let s1 := s.modLane l fun x => { x with pingOut := none, rtts := [], echoes := 0, written := [], echoed := [], missing := 0 }
  (((s1.setFlag F.LANE_STAT_L_RANGE l false).setFlag F.LANE_STAT_ID_ERR l false).setFlag F.LANE_STAT_PARAM_ERR l false).toLane l 3

/-- LANE_STATE_CHANGE (R266, R286): the next transition of Table 08.8 whose condition holds; beyond ACQUIRE a lane needs its clock. -/
def execLaneStateChange (lane : Fin 8) (s : State) : Host.Outcome State Fault Refusal :=
  let l := lane.val
  let en := s.flag F.LANE_CFG_EN l
  .next (match s.laneState l with
    | 0 => if en then s.toLane l 1 else s
    | st =>
      if !en then
        ((({ s with gl := { s.gl with commas := vmod s.gl.commas l fun _ => 0 } }).setFlag F.LANE_STAT_ALIGNED l false).toLane l 0)
      else if !s.lnkRuns then s
      else if st = 1 then (if s.flag F.LANE_STAT_LOS l || s.flag F.LANE_STAT_LOL l then s else s.toLane l 2)
      else if st = 2 then (if s.flag F.LANE_STAT_ALIGNED l then s.beginMeasure l else s)
      else if st = 3 ∧ l < 6 then (if (s.lane l).measured then s.endMeasure l else s)
      else s)

/-- LANE_STATUS_TIMEOUT (R266): no valid status frame for HOLD_N + 2 RG0 periods. -/
def execLaneStatusTimeout (lane : Fin 6) (s : State) : Host.Outcome State Fault Refusal :=
  .next (if s.pings lane && decide (s.holdN + 2 ≤ (s.lane lane).missing) then s.loseLane lane else s)

/-- LANE_LOST_TIMEOUT (Tables 08.8, 09.4): 100 us in LOST. -/
def execLaneLostTimeout (lane : Fin 8) (s : State) : Host.Outcome State Fault Refusal :=
  .next (if s.laneState lane = 5 then s.toLane lane 1 else s)

/-! ### GDEN (R264, R265) -/

/-- The SGR self-test drives the GDEN pins high: for 20 us from its start (R304). -/
def State.gdenTested (s : State) : Bool := match s.stw.test with
  | some t => decide (s.now < t + 160000)
  | none => false

/-- Levels the GDEN pins are driven to: Fencen's command and the Steward's release (R265), or high in the self-test (R303). -/
def State.gdenDriven (s : State) : Nat :=
  if s.gdenTested then 0x3F else s.fld F.GL_GDEN_CMD 0 &&& (0x3F - s.fld F.GL_GDEN_STEW_LOW 0)

/-- One sample of pin g. -/
def State.gdenSample (s : State) (pins g : Nat) : State :=
  let n := if bitOf pins g == bitOf s.gdenDriven g then 0 else (s.lane g).rbBad + 1
  let s1 := s.modLane g fun x => { x with rbBad := n }
  if n = 2 then
    let e := s1.fld F.GL_GDEN_RB_ERR 0
    let s2 := s1.setFld F.GL_GDEN_RB_ERR 0 (e ||| 2 ^ g)
    (s2.post EV.EV_GDEN_RB noUnit (e ||| 2 ^ g)).cause Cause.gdenReadback
  else s1

/-- GDEN_READBACK_SAMPLE (R265). -/
def execGdenReadbackSample (pins : BitVec 6) (s : State) : Host.Outcome State Fault Refusal :=
  let low := fun (w : StwSt) => { w with gdenLow := if pins = 0#6 then min 2 (w.gdenLow + 1) else 0 }
  let s1 := ((s.setFld F.GL_GDEN_PIN 0 pins.toNat).modStw low).forUnits 6 fun t g => t.gdenSample pins.toNat g
  .next (s1.setActive Cause.gdenReadback ((List.range 6).any fun g => decide (2 ≤ (s1.lane g).rbBad)))

/-- Drive GDEN low on lanes of a mask, or high again, for a gate-driver clear (R264). -/
def State.clearLanes (s : State) (mask phase : Nat) : State :=
  (s.forUnits 6 fun t l => if bitOf mask l then t.modLane l fun x => { x with clear := phase, clean := false } else t).gdenCmd

/-- A leg on the lane belongs to a port in a switching state. -/
def State.laneSwitching (s : State) (l : Nat) : Bool := (List.range 8).any fun k => match s.slotLeg l k with
  | some n => (match s.portOfLeg n with
    | some p => switchingState (s.pstate p)
    | none => false)
  | none => false

/-- The pair period number at which a change scheduled now takes effect on both units: at least 2 N1 + 2 ahead (R281). -/
def State.pairAhead (s : State) : Nat := s.pnumOut + 2 * s.divOf 1 + 2

/-- GD_CLEAR (R264, R280, R281): a paired unit schedules the clear. -/
def execGdClear (tag : Fin 128) (s : State) : Host.Outcome State Fault Refusal :=
  serve 0x020C tag s fun e =>
    let l := e.a 0
    let t := e.a16 2
    if 5 < l ∨ (t ≠ 0 ∧ (t < 10 ∨ 1000 < t)) then s.done e.tag FS.FS_PARAM
    else if s.notActive then s.done e.tag FS.FS_PAIR_ROLE
    else if s.laneSwitching l then s.done e.tag FS.FS_PORT_STATE
    else if (s.lane l).clear ≠ 0 ∨ s.pair.sched.any (fun x => 2 ≤ x.kind && bitOf x.lanes l) then s.done e.tag FS.FS_BUSY
    else
      let s1 := s.start e.tag
      if s.isActive then { s1 with pair := { s1.pair with sched := s1.pair.sched ++ [⟨s.pairAhead, 2, none, none, 2 ^ l⟩] } }
      else s1.clearLanes (2 ^ l) 1

/-- GDEN_LOW_END (R264, R281): GDEN_LOW ends. An ACTIVE unit, which counts from the first status frame with GDEN = 0, names the pair
period at which both units raise the pin; a standby waits for it. -/
def execGdenLowEnd (lane : Fin 6) (s : State) : Host.Outcome State Fault Refusal :=
  let l := lane.val
  .next (
    if (s.lane l).clear ≠ 1 ∨ s.notActive then s
    else if s.isActive then
      (if (s.lane l).gden || s.pair.sched.any (fun x => x.kind == 3 && bitOf x.lanes l) then s
       else { s with pair := { s.pair with sched := s.pair.sched ++ [⟨s.pairAhead, 3, none, none, 2 ^ l⟩] } })
    else s.clearLanes (2 ^ l) 2)

/-- GD_CLEAR_STATUS_WAIT_END (R264): a status frame without a fault has arrived, or 100 us have passed. -/
def execGdClearStatusWaitEnd (lane : Fin 6) (s : State) : Host.Outcome State Fault Refusal :=
  let l := lane.val
  let ok := (s.lane l).clean
  let end_ := fun (t : State) => match t.fcp.inflight.find? fun e => e.op == 0x020C && e.started && e.a 0 == l with
    | some e => t.done e.tag (if ok then FS.FS_OK else FS.FS_GD_FAULT)
    | none => t
  .next (
    if (s.lane l).clear ≠ 2 then s
    else
      let s1 := s.modLane l fun x => { x with clear := 0 }
      let s2 := if ok then s1.forUnits 8 fun t k => (match t.slotLeg l k with
        | some n => t.setFlag F.GL_LEG_STAT_FAULT n false
        | none => t) else s1
      end_ s2)

end Sys2Proof.Machine
end

