-- ==== Sys2Proof/Machine/Run.lean ====
section
/-!
DEFINITION. RUN and SETPOINT commands of the host (14, R399, R402, R403): run state, port commands, setpoints.
-/
namespace Sys2Proof.Machine

/-- The commands of R280 on a unit that is neither SOLO nor ACTIVE. -/
def State.roleBad (s : State) : Bool := s.notActive

/-- DEV_STATE (Table 19.3): 0 booting or restarting, 1 Stalled, 2 Running. -/
def State.devState (s : State) : Nat := s.fld F.IDENT_STATE_DEV_STATE 0

/-- RUN_GO (R399, R484), refused while a failed configuration tile awaits its rewrite (R498). -/
def execRunGo (tag : Fin 128) (s : State) : Host.Outcome State Fault Refusal :=
  serve 0x0201 tag s fun e =>
    if s.devState != 1 || s.fld F.RST_STAT_UNCLEAN 0 != 0 then s.done e.tag FS.FS_DEV_STATE
    else if s.coef.found.any fun x => x.1 == 5 then s.done e.tag FS.FS_TILE_CRC
    else (s.setFld F.IDENT_STATE_DEV_STATE 0 2).done e.tag FS.FS_OK

/-- RUN_STALL (R399): while every port is OFF. -/
def execRunStall (tag : Fin 128) (s : State) : Host.Outcome State Fault Refusal :=
  serve 0x0202 tag s fun e =>
    if s.devState != 2 then s.done e.tag FS.FS_DEV_STATE
    else if !s.allOff then s.done e.tag FS.FS_PORT_STATE
    else (s.setFld F.IDENT_STATE_DEV_STATE 0 1).done e.tag FS.FS_OK

/-! ### Port commands -/

/-- A port command passes its checks and waits for the next boundary (R402). -/
def State.waitPort (s : State) (e : Entry) : State :=
  (s.start e.tag).modPort (e.a 0) fun q => { q with waits := q.waits ++ [e.tag] }

/-- Checks common to the port commands: FS_PARAM, FS_PAIR_ROLE, FS_DEV_STATE, the port's state (R398, R402). -/
def State.portCheck (s : State) (e : Entry) (param needRun : Bool) : Option Nat :=
  if 12 ≤ e.a 0 || param then some FS.FS_PARAM
  else if s.roleBad then some FS.FS_PAIR_ROLE
  else if needRun && s.devState != 2 then some FS.FS_DEV_STATE
  else if !hostFrom e.op (s.pstate (e.a 0)) (e.a 0) || !(s.port (e.a 0)).cfg.configured then some FS.FS_PORT_STATE
  else none

/-- The order of checks of PORT_ARM after FS_PORT_STATE (R402). -/
def State.armCheck (s : State) (p : Nat) : Option Nat :=
  if !vget s.coef.verified s.bankNo || s.blockUnset s.bankNo p || s.blockBad s.bankNo p
    || (decide (4 ≤ p) && !s.vdcInside p) then some FS.FS_PORT_CFG
  else if s.stwState != 2 then some FS.FS_STW_STATE
  else if s.fld F.HLP_STATUS_STATE 0 != 2 || s.fld F.HLP_STATUS_MODE 0 != 1 then some FS.FS_HLP_STATE
  else if (s.legsOf p).any fun n => s.flag F.LEG_CFG_GL n && s.fld F.LANE_STAT_STATE (s.fld F.LEG_CFG_LANE n) != 4 then
    some FS.FS_LANE_DOWN
  else none

/-- Complete with the first failing status, or wait for the boundary. -/
def State.portGo (s : State) (e : Entry) (c : Option Nat) : State := match c with
  | some f => s.done e.tag f
  | none => s.waitPort e

/-- The first of two optional statuses. -/
def firstOf (a b : Option Nat) : Option Nat := match a with
  | some x => some x
  | none => b

/-- PORT_ARM (R402). -/
def execPortArm (tag : Fin 128) (s : State) : Host.Outcome State Fault Refusal :=
  serve 0x0205 tag s fun e => s.portGo e (firstOf (s.portCheck e false true) (s.armCheck (e.a 0)))

/-- PORT_DISARM (R61). -/
def execPortDisarm (tag : Fin 128) (s : State) : Host.Outcome State Fault Refusal :=
  serve 0x0206 tag s fun e => s.portGo e (s.portCheck e false false)

/-- PORT_START (R61, R68, R86): mode, start time and the bus rules. -/
def execPortStart (tag : Fin 128) (s : State) : Host.Outcome State Fault Refusal :=
  serve 0x0207 tag s fun e =>
    let p := e.a 0
    let far := match s.startTime e with
      | some t => decide ((vget s.tb 0).ticks + 60 * 1000000000 * 65536 < t)
      | none => false
    let bad := decide (2 < e.a 1) || (decide (4 ≤ p) && e.a 1 != 0) || far || decide (1000000000 ≤ leAt e.args 10 4)
    s.portGo e (firstOf (s.portCheck e bad true) (match s.startTo p (e.a 1) with
      | .inl _ => none
      | .inr f => some f))

/-- PORT_STOP (R61, R310): T_stop of 10 to 60 000 ms, or 0 for the port's SRS_T. -/
def execPortStop (tag : Fin 128) (s : State) : Host.Outcome State Fault Refusal :=
  serve 0x0208 tag s fun e =>
    let t := e.a32 4
    s.portGo e (s.portCheck e (t != 0 && (decide (t < 10) || decide (60000 < t))) false)

/-- PORT_CLEAR (R61): with no latch left on the port's legs. -/
def execPortClear (tag : Fin 128) (s : State) : Host.Outcome State Fault Refusal :=
  serve 0x0209 tag s fun e => s.portGo e (firstOf (s.portCheck e false false)
    (if s.portLatched (e.a 0) then some FS.FS_PORT_STATE else none))

/-- RECLOSE_PREP (R83, R84): an AC port in RUN. -/
def execReclosePrep (tag : Fin 128) (s : State) : Host.Outcome State Fault Refusal :=
  serve 0x020A tag s fun e => s.portGo e (s.portCheck e false false)

/-- RECLOSE_END (R83). -/
def execRecloseEnd (tag : Fin 128) (s : State) : Host.Outcome State Fault Refusal :=
  serve 0x020B tag s fun e => s.portGo e (s.portCheck e false false)

/-! ### Setpoints -/

/-- A finite value from lo to hi. -/
def within (lo hi x : F32) : Bool := fFinite x && fLe lo x && fLe x hi

/-- Masked values of SP_AC lie in their ranges (Table 14.6). -/
def State.spAcOk (s : State) (e : Entry) : Bool :=
  let p := e.a 0
  let m := e.a 1
  let x := fun k => e.af (4 + 4 * k)
  p < 4 && m < 16 && (List.range 4).all fun k => !bitOf m k ||
    (if k < 2 then within 0xC0000000#32 0x40000000#32 (x k)
     else if k = 2 then within (s.pw p 8) (s.pw p 9) (x 2) else within (s.pw p 10) (s.pw p 11) (x 3))

/-- SP_AC (R403): accepted in every port state, for the next boundary. -/
def execSpAc (tag : Fin 128) (s : State) : Host.Outcome State Fault Refusal :=
  serve 0x0301 tag s fun e =>
    if !s.spAcOk e then s.done e.tag FS.FS_PARAM
    else if s.roleBad then s.done e.tag FS.FS_PAIR_ROLE
    else s.start e.tag

/-- The base of REF by DC_MODE (R85). -/
def State.refBase (s : State) (p : Nat) : F32 :=
  match s.dcMode p with
  | 0 => s.vBase p
  | 1 => s.iBase p
  | _ => fMul (s.vBase p) (s.iBase p)

/-- REF, I_CHG_MAX, I_DIS_MAX in pu and the V_dc window that SP_DC would leave. -/
def State.spDcNew (s : State) (e : Entry) : List F32 × Option F32 × Option F32 :=
  let p := e.a 0
  let m := e.a 1
  let q := s.port p
  let v := fun k => e.af (4 + 4 * k)
  let new := fun k b => if bitOf m k then fDiv (v k) b else q.target.getD k 0#32
  ([new 0 (s.refBase p), new 1 (s.iBase p), new 2 (s.iBase p)],
    if bitOf m 3 then some (v 3) else q.window.map (·.1), if bitOf m 4 then some (v 4) else q.window.map (·.2))

/-- The values of SP_DC lie in their ranges: finite, currents at least 0, VDC_LO below VDC_HI, REF within the limits in force. -/
def State.spDcOk (s : State) (e : Entry) : Bool :=
  let p := e.a 0
  let m := e.a 1
  let v := fun k => e.af (4 + 4 * k)
  let n := s.spDcNew e
  let ref := n.1.getD 0 0#32
  4 ≤ p && p < 12 && m < 32 && ((List.range 5).all fun k => !bitOf m k || fFinite (v k))
    && (!bitOf m 1 || fLe 0#32 (v 1)) && (!bitOf m 2 || fLe 0#32 (v 2)) && n.1.all fFinite
    && (m < 8 || (match n.2.1, n.2.2 with
      | some lo, some hi => fLt lo hi
      | _, _ => false))
    && (!bitOf m 0 || (match s.dcMode p with
      | 0 => (match n.2.1, n.2.2 with
        | some lo, some hi => fLe lo (v 0) && fLe (v 0) hi
        | _, _ => true)
      | 1 => fLe (fNegate (n.1.getD 1 0#32)) ref && fLe ref (n.1.getD 2 0#32)
      | _ => true))

/-- SP_DC (R403, R85). -/
def execSpDc (tag : Fin 128) (s : State) : Host.Outcome State Fault Refusal :=
  serve 0x0302 tag s fun e =>
    if !s.spDcOk e then s.done e.tag FS.FS_PARAM
    else if s.roleBad then s.done e.tag FS.FS_PAIR_ROLE
    else s.start e.tag

/-- Slew rates lie in the ranges of R60. -/
def slewOk (e : Entry) : Bool :=
  e.a 0 < 4 && within 0x3A83126F#32 0x41200000#32 (e.af 4) && within 0x38D1B717#32 0x3DCCCCCD#32 (e.af 8)
    && within 0x3A83126F#32 0x3F800000#32 (e.af 12)

/-- SP_SLEW (R60). -/
def execSpSlew (tag : Fin 128) (s : State) : Host.Outcome State Fault Refusal :=
  serve 0x0303 tag s fun e =>
    if !slewOk e then s.done e.tag FS.FS_PARAM
    else if s.roleBad then s.done e.tag FS.FS_PAIR_ROLE
    else s.start e.tag

/-- A setpoint command takes effect (R60, R85, R403): AC values become targets, DC values apply whole. -/
def State.applySetpoint (s : State) (e : Entry) : State :=
  let p := e.a 0
  match e.op with
  | 0x0301 =>
    let new := fun (q : PortSt) (k : Nat) => if bitOf (e.a 1) k then e.af (4 + 4 * k) else q.target.getD k 0#32
    s.modPort p fun q => { q with target := (List.range 4).map (new q) }
  | 0x0302 =>
    let n := s.spDcNew e
    s.modPort p fun q => { q with
      target := n.1 ++ [0#32], slewed := n.1 ++ [0#32]
      window := match n.2.1, n.2.2 with
        | some lo, some hi => some (lo, hi)
        | _, _ => q.window }
  | _ => s.modPort p fun q => { q with slew := [e.af 4, e.af 8, e.af 12] }

/-- Setpoint e is the next of its target to take effect: those admitted before it have (R380). -/
def State.setpointTurn (s : State) (e : Entry) : Bool :=
  (s.fcp.inflight.takeWhile fun x => x.tag != e.tag).all fun x => !sameTarget x e

/-- SETPOINT_TAKES_EFFECT (R380, R403): at the first boundary after the command was taken, in the order of admission. -/
def execSetpointTakesEffect (tag : Fin 128) (s : State) : Host.Outcome State Fault Refusal :=
  .next (match s.fcp.inflight.find? fun e => e.tag == tag.val && e.op / 256 == 3 && e.started && s.fcp.restartSlot.isNone with
    | some e => if s.atBoundary e && s.setpointTurn e then (s.applySetpoint e).doneAt e.tag FS.FS_OK else s
    | none => s)

end Sys2Proof.Machine
end

