-- ==== Sys2Proof/Machine/Gaits.lean ====
section
/-!
DEFINITION. Gaits and the RG0 rate (01, 14): requests, their checks and their effect at a boundary (R36 to R39, R104, R108, R195,
R196), and entry into Paddock.
-/
namespace Sys2Proof.Machine

/-- A gait takes effect: GAIT_STATUS, the SAR cores and the override of continuous conversion (Table 01.8, R35). DESIGN CHOICE: R39
speaks of reaching 115 degrees in Gallop; a change to Gallop that takes effect with the junction there already sets THERM_HOLD and posts
nothing (log entry 135). -/
def State.setGait (s : State) (g : Nat) : State :=
  let s1 := s.setFld F.GAIT_STATUS_GAIT 0 g
  let s2 := s1.forUnits 24 fun t c => t.coreStat c
  let contOver := g == Gait.walk && (List.range 24).any fun c => s2.flag F.ADC_CORE_CFG_CONT c
  let hot := g == Gait.gallop && s2.flag F.GAIT_STATUS_VARIANT_H 0 && decide (115 ≤ s2.clk.tj)
  (s2.setFlag F.GAIT_STATUS_CONT_OVERRIDDEN 0 contOver).setFlag F.GAIT_STATUS_THERM_HOLD 0 hot

/-- Entry into Paddock: a conversion that runs completes (R157). DESIGN CHOICE: an urgent request that still waits for its hold edge is
discarded and not counted, and the comparator outputs keep the levels they had, in Paddock and after the wake, until V_diff is told or a
threshold loads; R162 and R169 do not say (log 112). RG0, conversion and switching end, the capture run stops (R445), the PLLs stop, so that the lanes report LOL and are lost (R469), and the time
bases are carried by the AON count (R427, R473), the field outputs take FIO_SAFE (R368), the HLP will stop at its next cycle boundary (R351), the mailboxes close (R382), the snapshot shows PADDOCK. -/
def State.enterPaddock (s : State) : State :=
  let s1 := s.capPaddock.setGait Gait.paddock
  let s2 := s1.forUnits 24 fun t c => (t.modCore c fun k => { k with urg := none }).coreStat c
  let s3 := s2.forUnits 8 fun t m => t.box m fun b => { b with isOpen := false }
  let st := s3.fld F.HLP_STATUS_STATE 0
  let fl := Memory.get (fun _ => 0#32) s3.win.snap 0x40C ||| 1#32
  let win := { s3.win with ready := false, snap := Memory.set (fun _ => 0#32) s3.win.snap 0x40C fl }
  let hlp := { s3.hlp with padStop := st == 1 || st == 2 }
  let s4 := { s3 with hlp := hlp, win := win, pwm := { s3.pwm with first := true, frozenAt := none } }
  let s5 := s4.stopPlls
  let s6 := (s5.setFlag F.CLK_STAT_DLL_LOCK 0 false).setFld F.CLK_STAT_CLK_OK 0 (s5.fld F.CLK_STAT_CLK_OK 0 % 4)
  let s7 := s6.forUnits 4 fun t b => t.setFlag F.TB_STAT_AON_CARRIED b true
  let s7 := (s7.setFld F.FIO_DO_APPLIED 0 (s7.fld F.FIO_CFG_FIO_SAFE 0)).doSync
  let s7 := { s7 with fio := { s7.fio with held := true } }
  let s8 := if s7.flag F.TB_STAT_LOCKED 0 then (s7.setFlag F.TB_STAT_LOCKED 0 false).post EV.EV_TB_LOCK 0 0 else s7
  let s9 := s8.forUnits 3 fun t m => if t.flag F.MAC_STAT_LINK m then
    ((t.setFlag F.MAC_STAT_LINK m false).setFld F.MAC_STAT_SPEED m 3).post EV.EV_LINK m 0x300 else t
  let s10 := s9.forUnits 8 State.laneStops
  s10.cond s10.clk.wakeEarly fun t => t.startWake

/-- GAIT_CHANGE_EFFECT (R37, R472): at the first boundary at least 20 us after acceptance; out of Limp only to a PLL-M that is locked. A change to
Paddock completes its command before the mailboxes close (Table 14.5). -/
def execGaitChangeEffect (s : State) : Host.Outcome State Fault Refusal :=
  let old := s.gait
  let g := s.fld F.GAIT_STATUS_GAIT_PEND 0
  .next (match s.waitingOp 0x0203 with
    | none => s
    | some e =>
      if !s.flag F.GAIT_STATUS_PEND_VALID 0 || !s.atBoundary20 e || (old == Gait.limp && !s.locked 0) then s
      else
        let s1 := (s.setFlag F.GAIT_STATUS_PEND_VALID 0 false).setFld F.GAIT_STATUS_GAIT_PEND 0 0
        let s2 := (s1.post EV.EV_GAIT_CHANGE noUnit (old + 256 * g)).doneAt e.tag FS.FS_OK
        let s3 := s2.cond (old == Gait.limp) fun t => t.leaveLimp
        if g = Gait.paddock then s3.enterPaddock else s3.setGait g)

/-- GAIT_THERMAL (R39): the controller-die sensor reports its temperature in degrees Celsius. -/
def execGaitThermal (temp : Int) (s : State) : Host.Outcome State Fault Refusal :=
  let hot := s.flag F.GAIT_STATUS_VARIANT_H 0 && s.gait == Gait.gallop && decide (115 ≤ temp)
  let was := s.flag F.GAIT_STATUS_THERM_HOLD 0
  let s1 := { s with clk := { s.clk with tj := temp } }
  .next ((s1.setFlag F.GAIT_STATUS_THERM_HOLD 0 hot).cond (hot && !was) fun t =>
    t.post EV.EV_GAIT_THERMAL noUnit (clampInt 0 255 (temp + 55)).toNat)

/-! ### Rate -/

/-- Divisors a RATE names; a field of 0 keeps the divisor in force (R104). -/
def State.rateDiv (s : State) (e : Entry) : List Nat :=
  1 :: [1, 2, 3].map fun k => let n := e.a16 (2 + 2 * k); if n = 0 then s.divOf k else n

/-- PERIOD and divisors lie in their ranges (R104, R195). -/
def rateParam (e : Entry) : Bool :=
  let p := e.a32 0
  let ok := fun n hi => n == 0 || (decide (2 ≤ n) && decide (n ≤ hi))
  (p == 0 || (decide (250 ≤ p) && decide (p ≤ 1048575))) && ok (e.a16 4) 256 && ok (e.a16 6) 65535 && ok (e.a16 8) 65535

/-- Schedule and sequences fit the gait in force and a pending one (R38, R106, R160). -/
def State.inGaits (s : State) (f : Nat → Bool) : Bool :=
  let g := s.fld F.GAIT_STATUS_GAIT_PEND 0
  f s.gait && (!s.flag F.GAIT_STATUS_PEND_VALID 0 || g == Gait.paddock || f g)

/-- Stage a PERIOD and divisors for the CLE's next bundle (R196, R108). -/
def State.stageRate (s : State) (period : Option Nat) (div : Option (List Nat)) : State :=
  (s.modCle fun c => { c with
    periodNew := if period.isSome then period else c.periodNew
    divNew := if div.isSome then div else c.divNew }).modPwm fun w => { w with skew := false }

/-- RATE_CHANGE_EFFECT (R196): the new period and divisors are in force; the command completes with PDSKEW of the change. -/
def execRateChangeEffect (s : State) : Host.Outcome State Fault Refusal :=
  .next (match s.waitingOp 0x0204 with
    | none => s
    | some e =>
      let p := e.a32 0
      if s.atBoundary e && (p == 0 || p == s.period) && s.cle.divNew.isNone && s.cle.div == s.rateDiv e then
        s.complete e.tag FS.FS_OK s.pnumOut [BitVec.ofNat 8 (b2n s.pwm.skew)] []
      else s)

end Sys2Proof.Machine
end

