-- ==== Sys2Proof/Machine/Observer.lean ====
section
/-!
DEFINITION. The bus impedance observer and the damping governor (04): injection, correlation, reduction, targets and ramps.
-/
namespace Sys2Proof.Machine

/-- f_i of bins 0 to 15 in Hz (R130), rounded to FP32. -/
def binFreqs0 : List F32 := [
  0x41200000, 0x4130967C, 0x4142E538, 0x415719D9, 0x416D66BE, 0x418301C0, 0x419096BE, 0x419F9435,
  0x41B01F84, 0x41C261EB, 0x41D688EE, 0x41ECC6CD, 0x4202A97D, 0x42103554, 0x421F28B2, 0x422FA8DC]

/-- f_i of bins 16 to 31 in Hz (R130), rounded to FP32. -/
def binFreqs1 : List F32 := [
  0x4241DEF5, 0x4255F865, 0x426C2748, 0x42825176, 0x428FD42D, 0x429EBD78, 0x42AF3284, 0x42C15C58,
  0x42D5683E, 0x42EB882E, 0x4301F9A9, 0x430F7346, 0x431E5285, 0x432EBC7B, 0x4340DA13, 0x4354D877]

/-- f_i of bins 32 to 47 in Hz (R130), rounded to FP32. -/
def binFreqs2 : List F32 := [
  0x436AE980, 0x4381A219, 0x438F12A1, 0x439DE7DB, 0x43AE46C2, 0x43C05826, 0x43D44911, 0x43EA4B3C,
  0x44014AC3, 0x440EB23D, 0x441D7D79, 0x442DD158, 0x443FD690, 0x4453BA0C, 0x4469AD63, 0x4480F3A7]

/-- f_i of bins 48 to 63 in Hz (R130), rounded to FP32. -/
def binFreqs3 : List F32 := [
  0x448E521A, 0x449D135F, 0x44AD5C3E, 0x44BF5551, 0x44D32B67, 0x44E90FF5, 0x45009CC7, 0x450DF238,
  0x451CA98C, 0x452CE772, 0x453ED46A, 0x45529D23, 0x456872F0, 0x45804621, 0x458D9296, 0x459C4000]

/-- f_i = 10 Hz x 500^(i/63) (R130). -/
def binFreq (i : Nat) : F32 := (binFreqs0 ++ binFreqs1 ++ binFreqs2 ++ binFreqs3).getD i 0#32

/-- An integer coefficient of port p. -/
def State.pwInt (s : State) (p w : Nat) : Nat := (fToInt (s.pw p w) 0 0 1000000).toNat

/-! ### Injection (R126 to R129) -/

/-- One shift of the LFSR with feedback x^15 + x^14 + 1 (R128). -/
def lfsrNext (n : Nat) : Nat := (n * 2 + b2n (n.testBit 14 != n.testBit 13)) % 32768

/-- OBS_AMP, OBS_SEED, OBS_DIV, OBS_COH as words. -/
def State.obsParams (s : State) (p : Nat) : List Word := [s.pw p 69, s.pw p 70, s.pw p 71, s.pw p 72]

/-- Injection starts: the LFSR is loaded with OBS_SEED. -/
def State.obsStart (s : State) (p : Nat) : State :=
  (s.modObs p fun _ => { (s.ob p) with
    lfsr := s.pwInt p 70, chip := 0, started := s.pwm.tk, samples := [], seenValid := false, params := s.obsParams p }).setFlag
      F.OBS_STATUS_INJ_ON p true

/-- The conditions of R126 but for the port's state. -/
def State.obsMay (s : State) (p : Nat) : Bool :=
  fEq (s.pw p 68) f1 && (s.flag F.PAIR_STATUS_ACT_OUT 0 || !s.flag F.PAIR_CFG_PAIR_EN 0)

/-- The conditions of R126 on port p. -/
def State.obsOn (s : State) (p : Nat) : Bool := s.pstate p == PS.run && s.obsMay p

/-- Injection starts or stops at an RG0 boundary (R128, R129). -/
def State.obsSwitch (s : State) (p : Nat) : State :=
  if s.obsOn p then (if s.flag F.OBS_STATUS_INJ_ON p then s else s.obsStart p)
  else s.setFlag F.OBS_STATUS_INJ_ON p false

/-- 200 ms in fine steps. -/
def halfWindow : Nat := 1600000000

/-- The sample of the period that ends, and the chip of the next (R128, R131, R134). -/
def State.obsTick (s : State) (p : Nat) : State :=
  if !s.flag F.OBS_STATUS_INJ_ON p then s.modObs p fun o => { o with crossed := false }
  else
    let th := s.theta p
    let v := (park (s.vCap p) th).1
    let i := (park (s.iOut p) th).1
    let bad := s.flag F.PORT_STATUS_ILIM_ACT p || (s.ob p).crossed
    let div := max 1 (s.pwInt p 71)
    let k := s.pwm.tk
    s.modObs p fun o => { o with
      crossed := false
      samples := ⟨o.lfsr.testBit 14, v, i, bad, k⟩ :: o.samples.filter fun x => decide (k < x.tk + 2 * halfWindow)
      chip := if o.chip + 1 < div then o.chip + 1 else 0
      lfsr := if o.chip + 1 < div then o.lfsr else lfsrNext o.lfsr }

/-! ### Correlation (R131, R132) -/

/-- A complex FP32 value. -/
abbrev Cx := F32 × F32

/-- Complex sum. -/
def cxAdd (a b : Cx) : Cx := (fAdd a.1 b.1, fAdd a.2 b.2)

/-- a times the conjugate of b. -/
def cxMulConj (a b : Cx) : Cx := (fAdd (fMul a.1 b.1) (fMul a.2 b.2), fSub (fMul a.2 b.1) (fMul a.1 b.2))

/-- Squared magnitude. -/
def cxSq (a : Cx) : F32 := fAdd (fMul a.1 a.1) (fMul a.2 a.2)

/-- a / b. -/
def cxDiv (a b : Cx) : Cx := let m := cxMulConj a b; let d := cxSq b; (fDiv m.1 d, fDiv m.2 d)

/-- A signal of a segment: each value with its instant, in fine steps from the start of the 400 ms window. -/
abbrev Signal := List (Nat × F32)

/-- A segment that starts at `t0` with a Hann window applied and then its mean removed (R131). DESIGN CHOICE: the rule names the window and
not its form; this one is 0.5 (1 - cos(2 pi x)) with x the part of the 200 ms that has passed at the sample (log 48). -/
def hann (t0 : Nat) (l : Signal) : Signal :=
  let w := l.map fun x => (x.1, fMul x.2 (fMul fHalf (fSub f1 (cosT ((x.1 - t0) * 2 ^ 64 / halfWindow % 2 ^ 64)))))
  let mean := fDiv ((w.map (·.2)).foldl fAdd 0#32) (fOfInt (l.length : Nat))
  w.map fun x => (x.1, fSub x.2 mean)

/-- Angle of frequency f at instant t, as a 64-bit fraction of a turn. -/
def dftAngle (f : F32) (t : Nat) : Nat := (fToInt f 20 0 (2 ^ 40)).toNat * t * 2 ^ 44 / 8000000000 % 2 ^ 64

/-- The transform of a segment at frequency f. -/
def dft (f : F32) (l : Signal) : Cx :=
  l.foldl (fun a x =>
    let th := dftAngle f x.1
    cxAdd a (fMul x.2 (cosT th), fNegate (fMul x.2 (sinT th)))) (0#32, 0#32)

/-- Three segments of 200 ms that overlap by half. -/
def segments (l : Signal) : List Signal :=
  [0, halfWindow / 2, halfWindow].map fun t0 => hann t0 (l.filter fun x => decide (t0 ≤ x.1) && decide (x.1 < t0 + halfWindow))

/-- Mean of three complex values. -/
def cxMean (l : List Cx) : Cx :=
  let t := l.foldl cxAdd (0#32, 0#32)
  (fDiv t.1 0x40400000#32, fDiv t.2 0x40400000#32)

/-- Z_i, the coherence and the validity of the bin of frequency f by OBS_COH (R131, R132). DESIGN CHOICE: the rules do not say what a bin
is whose Z_i is infinite or NaN, as where S_ri is 0; it is not valid, and so takes no part in the reduction (log 48). -/
def binOf (f : F32) (r v i : List Signal) (coh : F32) (inBand : Bool) : F32 × F32 × F32 × Bool :=
  let R := r.map (dft f)
  let V := v.map (dft f)
  let I := i.map (dft f)
  let srv := cxMean ((V.zip R).map fun x => cxMulConj x.1 x.2)
  let sri := cxMean ((I.zip R).map fun x => cxMulConj x.1 x.2)
  let srr := cxMean (R.map fun x => (cxSq x, 0#32))
  let sii := cxMean (I.map fun x => (cxSq x, 0#32))
  let z := cxDiv srv sri
  let g := fDiv (cxSq sri) (fMul srr.1 sii.1)
  (z.1, z.2, g, inBand && fLe coh g && fFinite z.1 && fFinite z.2)

/-- The samples of the last 400 ms before the boundary in force, in time order (R131). -/
def State.obsWindow (s : State) (p : Nat) : List ObsSample :=
  ((s.ob p).samples.filter fun x => decide (s.pwm.tk ≤ x.tk + 2 * halfWindow)).reverse

/-- The bin set of port p from its samples. -/
def State.obsBins (s : State) (p : Nat) : List (F32 × F32 × F32 × Bool) :=
  let l := (s.obsWindow p).map fun x => (x.tk + 2 * halfWindow - s.pwm.tk, x)
  let r := segments (l.map fun x => (x.1, if x.2.chip then f1 else fNegate f1))
  let v := segments (l.map fun x => (x.1, x.2.v))
  let i := segments (l.map fun x => (x.1, x.2.i))
  let T := s.T0
  let chip := fDiv f1 (fMul T (fOfInt (max 1 (s.pwInt p 71) : Nat)))
  (List.range 64).map fun k =>
    let f := binFreq k
    binOf f r v i (s.pw p 72) (fLe f (fMul 0x3ECCCCCD#32 chip))

/-! ### Reduction (R137) -/

/-- X_g, R_g, rho and the bin of rho. -/
structure Reduced where
  xg : F32
  rg : F32
  rho : F32
  bin : Nat
  deriving DecidableEq, Repr

/-- Sum of FP32 terms. -/
def fSum (l : List F32) : F32 := l.foldl fAdd 0#32

/-- The reduction of a bin set at f_n (R137). DESIGN CHOICE: where several bins share the maximum rho, RES_BIN is the lowest of them; the
rule does not say which (log 48). -/
def reduce (fn : F32) (b : List (F32 × F32 × F32 × Bool)) : Reduced :=
  let v := (b.zipIdx.filter fun x => x.1.2.2.2).map fun x => (x.2, x.1.1, x.1.2.1, x.1.2.2.1, fDiv (binFreq x.2) fn)
  let lowB := v.filter fun x => x.1 ≤ 30
  let xg := fMax 0x3A83126F#32 (fDiv (fSum (lowB.map fun x => fMul (fMul x.2.2.2.1 x.2.2.1) x.2.2.2.2))
    (fSum (lowB.map fun x => fMul x.2.2.2.1 (fMul x.2.2.2.2 x.2.2.2.2))))
  let rg := fDiv (fSum (lowB.map fun x => fMul x.2.2.2.1 x.2.1)) (fSum (lowB.map fun x => x.2.2.2.1))
  let q := v.map fun x => (x.1, fDiv (fMag x.2.1 x.2.2.1) (fMag rg (fMul xg x.2.2.2.2)))
  let m := q.foldl (fun a x => if fLt a.2 x.2 then x else a) (0xFF, 0#32)
  ⟨xg, rg, m.2, m.1⟩

/-- omega_m of the rotor mode for reactance x (R137). -/
def State.omegaM (s : State) (p : Nat) (xg x : F32) : F32 :=
  fSqrt (fDiv (fDiv (fMul f2pi (s.pw p 2)) (fAdd x xg)) (fMul f2 (s.pw p 3)))

/-- 4 H of port p. -/
def State.fourH (s : State) (p : Nat) : F32 := fMul 0x40800000#32 (s.pw p 3)

/-- 1 / m_p of port p. -/
def State.invMp (s : State) (p : Nat) : F32 := fDiv f1 (s.pw p 5)

/-- zeta(D, X_v) (R137). -/
def State.zeta (s : State) (p : Nat) (xg d x : F32) : F32 :=
  fDiv (fAdd d (s.invMp p)) (fMul (s.fourH p) (s.omegaM p xg x))

/-! ### Governor -/

/-- Values in force of D, R_v, X_v (R127). -/
def State.govNow (s : State) (p : Nat) : List F32 :=
  let d := match s.member p .rotor with
    | some j => s.cword j 14
    | none => 0#32
  match s.member p .vz with
  | some j => [d, s.cword j 14, s.cword j 15]
  | none => [d, 0#32, 0#32]

/-- Bounds of quantity k: D, R_v, X_v. -/
def State.govLo (s : State) (p k : Nat) : F32 := s.pw p (74 + 2 * k)
/-- Bounds of quantity k: D, R_v, X_v. -/
def State.govHi (s : State) (p k : Nat) : F32 := s.pw p (75 + 2 * k)

/-- Start a ramp of R139 to new targets. -/
def State.govRamp (s : State) (p : Nat) (target : List F32) : State :=
  (s.modObs p fun o => { o with
    from0 := s.govNow p, target := target, ramp := some (s.pwm.tk, s.pwm.tk + halfWindow), owed := false }).setFlag
      F.GOV_STATUS_RAMPING p true

/-- The ramp that runs goes on from the value in force to a target that a swap has moved, and ends when it would have ended (R143). -/
def State.govAim (s : State) (p : Nat) (moved : Bool) (target : List F32) : State :=
  match (s.ob p).ramp with
  | none => s
  | some (_, e) =>
    if !moved && target == (s.ob p).target then s
    else s.modObs p fun o => { o with from0 := s.govNow p, target := target, ramp := some (s.pwm.tk, e) }

/-- Part of the ramp from instant a to instant e that has passed at instant t. -/
def rampPart (a e t : Nat) : F32 := if e ≤ t then f1 else fDiv (fOfInt ((t - a : Nat) : Int)) (fOfInt ((e - a : Nat) : Int))

/-- GOV_MODE of port p: 0 BOUNDED, 1 PINNED, 2 ADVISORY. -/
def State.govMode (s : State) (p : Nat) : Nat := s.pwInt p 73

/-- One RG0 boundary of the governor (R139, R145): the ramp's interpolated value; frozen in CURLIM. -/
def State.govTick (s : State) (p : Nat) : State :=
  let cl := s.pstate p == PS.curlim
  let s1 := s.setFlag F.GOV_STATUS_FROZEN p cl
  if cl then (s1.modObs p fun o => { o with
    ramp := none, owed := o.owed || (o.ramp.isSome && s1.govMode p != 0) }).setFlag F.GOV_STATUS_RAMPING p false
  else match (s1.ob p).ramp with
  | none => s1
  | some (a, e) =>
    let fr := rampPart a e s1.pwm.tk
    let o := s1.ob p
    let v := (List.range 3).map fun j =>
      let a := o.from0.getD j 0#32
      let b := o.target.getD j 0#32
      let x := if fEq fr f1 then b else fAdd a (fMul (fSub b a) fr)
      fClamp (s1.govLo p j) (s1.govHi p j) x
    let done := fEq fr f1
    ((s1.govWrite p v).modObs p fun o => { o with ramp := if done then none else some (a, e) }).setFlag
      F.GOV_STATUS_RAMPING p (!done)

/-- Targets of BOUNDED before the step limit and which of D, R_v, X_v the clamp changed (R138). -/
def State.govBounded (s : State) (p : Nat) (r : Reduced) : List (F32 × Bool) :=
  let cl := fun k x => (fClamp (s.govLo p k) (s.govHi p k) x, fLt x (s.govLo p k) || fLt (s.govHi p k) x)
  let x := cl 2 (fMax (s.pw p 13) (fSub (s.pw p 83) r.xg))
  let d := cl 0 (fMax (fSub (fMul (fMul (s.fourH p) (s.omegaM p r.xg x.1)) (s.pw p 80)) (s.invMp p)) 0#32)
  let rv := cl 1 (fMul (s.pw p 12) (fMin (fMax (fDiv r.rho (s.pw p 84)) f1) 0x40800000#32))
  [d, rv, x]

/-- The step limit of R138. -/
def State.govStep (s : State) (p : Nat) (t : List (F32 × Bool)) : List F32 :=
  let now := s.govNow p
  t.zipIdx.map fun x =>
    let d := fMul (s.pw p 85) (fSub (s.govHi p x.2) (s.govLo p x.2))
    let a := now.getD x.2 0#32
    fClamp (fSub a d) (fAdd a d) x.1.1

/-- Set GOV_SAT and its parts; a rising GOV_SAT posts EV_GOV_SAT (R138). -/
def State.govSat (s : State) (p : Nat) (d r x : Bool) : State :=
  let was := s.flag F.GOV_STATUS_GOV_SAT p
  let now := d || r || x
  ((((s.setFlag F.GOV_STATUS_SAT_D p d).setFlag F.GOV_STATUS_SAT_R p r).setFlag F.GOV_STATUS_SAT_X p x).setFlag
    F.GOV_STATUS_GOV_SAT p now).cond (now && !was) fun t => t.post EV.EV_GOV_SAT p (b2n d + 2 * b2n r + 4 * b2n x)

/-- Set STABILITY_ALERT and its causes; a rising alert is counted and posted (R140). -/
def State.govAlert (s : State) (p : Nat) (d x r : Bool) : State :=
  let was := s.flag F.GOV_STATUS_STABILITY_ALERT p
  let now := d || r || x
  ((((s.setFlag F.GOV_STATUS_ALERT_D p d).setFlag F.GOV_STATUS_ALERT_X p x).setFlag F.GOV_STATUS_ALERT_RES p r).setFlag
    F.GOV_STATUS_STABILITY_ALERT p now).cond (now && !was) fun t =>
      (t.count F.GOV_STATUS_ALERT_CNT p).post EV.EV_STAB_ALERT p (b2n d + 2 * b2n x + 4 * b2n r)

/-- The governor enters the mode `new` from `old`: STABILITY_ALERT and GOV_SAT clear on entry to ADVISORY (R141). -/
def State.govEnter (s : State) (p old new : Nat) : State :=
  if new = 2 ∧ old ≠ 2 then (s.govSat p false false false).govAlert p false false false else s

/-- zeta published, LOWZETA, and the demand of R144 after two valid updates with LOWZETA. -/
def State.govZeta (s : State) (p : Nat) (z : F32) : State :=
  let lowZ := fLt z (s.pw p 82)
  let demand := lowZ && (s.ob p).lastLow && s.govMode p == 0 && fEq (s.pw p 86) f1 && s.clEn p
  let s1 := ((s.setReg R.OBS_ZETA p z).setFlag F.GOV_STATUS_LOWZETA p lowZ).modObs p fun o => { o with lastLow := lowZ }
  s1.cond demand fun t => ((t.setFlag F.GOV_STATUS_CL_DEM p true).post EV.EV_GOV_CL_DEMAND p 0).cond
    (t.pstate p == PS.run) fun u => u.raise p .feDemand

/-- PINNED and ADVISORY write the nominal values (R140, R141), by the ramp of R142 where one runs or is owed. DEDUCED: a ramp that CURLIM
cut or kept from starting begins at the next valid update, since R145 holds the frozen values until then (log 118). -/
def State.govHold (s : State) (p : Nat) : State :=
  if (s.ob p).ramp.isSome then s
  else if (s.ob p).owed then s.govRamp p (s.govNominal p) else s.govWrite p (s.govNominal p)

/-- zeta of the nominal values (R142). -/
def State.govNomZeta (s : State) (p : Nat) (r : Reduced) : F32 := s.zeta p r.xg (s.pw p 4) (s.pw p 13)

/-- The governor at a valid estimate (R138 to R142); `take` is false where it takes no new target, at the entry into CURLIM (R146). -/
def State.govUpdate (s : State) (p : Nat) (r : Reduced) (take : Bool) : State :=
  match s.govMode p with
  | 0 => if !take then s.govZeta p (s.zeta p r.xg ((s.govNow p).getD 0 0#32) ((s.govNow p).getD 2 0#32)) else
    let t := s.govBounded p r
    let g := s.govStep p t
    let sat := fun k => (t.getD k (0#32, false)).2
    ((s.govSat p (sat 0) (sat 1) (sat 2)).govRamp p g).govZeta p (s.zeta p r.xg (g.getD 0 0#32) (g.getD 2 0#32))
  | 1 =>
    let need := fSub (fMul (fMul (s.fourH p) (s.omegaM p r.xg (s.pw p 13))) (s.pw p 81)) (s.invMp p)
    let s1 := s.govAlert p (fLt (s.pw p 4) need) (fLt (s.pw p 13) (fSub (s.pw p 83) r.xg)) (fLt (s.pw p 84) r.rho)
    (s1.cond take fun t => t.govHold p).govZeta p (s.govNomZeta p r)
  | _ => (s.cond take fun t => t.govHold p).govZeta p (s.govNomZeta p r)

/-! ### Update (R133, R134, R146) -/

/-- More than 1 % of the window's periods carried ILIM_ACT or a crossing. -/
def manyBad (l : List ObsSample) : Bool := decide (l.length < 100 * (l.filter fun x => x.bad).length)

/-- The port entered CURLIM at the boundary in force (R146). -/
def State.justCurlim (s : State) (p : Nat) : Bool := s.pstate p == PS.curlim && (s.port p).clPeriods == 0

/-- INVAL_WHY before the bins are known (R134, orders 1 to 4); 0 for none. -/
def State.obsWhy (s : State) (p : Nat) : Nat :=
  let o := s.ob p
  if !fEq (s.pw p 68) f1 then 5
  else if !(s.obsMay p && (s.pstate p == PS.run || s.justCurlim p)) then 4
  else if s.pwm.tk < o.started + 2 * halfWindow then 1
  else if manyBad (s.obsWindow p) then 2 else 0

/-- An update without a valid estimate. -/
def State.obsInvalid (s : State) (p why : Nat) : State :=
  (((s.setFlag F.OBS_STATUS_EST_VALID p false).setFld F.OBS_STATUS_INVAL_WHY p why).setFld F.OBS_STATUS_RES_BIN p 0xFF).setFld
    F.OBS_STATUS_VALID_BINS p 0

/-- A valid update: the set and the reduction are published in one clock (R133). -/
def State.obsValid (s : State) (p : Nat) (b : List (F32 × F32 × F32 × Bool)) (r : Reduced) : State :=
  let first := !(s.ob p).seenValid
  let s1 := s.modObs p fun o => { o with
    bins := b, seenValid := true, setSeq := s.fld F.OBS_STATUS_UPD_SEQ p }
  let s2 := (((s1.setFlag F.OBS_STATUS_EST_VALID p true).setFld F.OBS_STATUS_INVAL_WHY p 0).setFld F.OBS_STATUS_RES_BIN p
    r.bin).setFld F.OBS_STATUS_VALID_BINS p (b.filter fun x => x.2.2.2).length
  let s3 := ((s2.setReg R.OBS_XG p r.xg).setReg R.OBS_RG p r.rg).setReg R.OBS_RHO p r.rho
  let s4 := s3.cond first fun t => t.post EV.EV_OBS_VALID p (t.fld F.OBS_STATUS_UPD_SEQ p)
  s4.govUpdate p r (s4.pstate p == PS.run)

/-- OBS_UPDATE (R133, R134, R146): the update that falls every 200 ms from the start of injection. -/
def execObsUpdate (port : Fin 4) (s : State) : Host.Outcome State Fault Refusal :=
  let p := port.val
  .next (
    if !(s.port p).cfg.configured then s
    else
      let s1 := s.setFld F.OBS_STATUS_UPD_SEQ p (s.fld F.OBS_STATUS_UPD_SEQ p + 1)
      let why := s1.obsWhy p
      if why != 0 then s1.obsInvalid p why
      else
        let b := s1.obsBins p
        let r := reduce (s1.pw p 2) b
        if ((b.take 31).filter fun x => x.2.2.2).length < 4 then s1.obsInvalid p 3
        else s1.obsValid p b r)

/-- The ramps of the governor of port p at a swap of its words (R142, R143); old is the mode before, and moved says that the swap clamped the
values in force. PINNED and ADVISORY hold the nominal values; CURLIM freezes them, so that there a change of mode owes its ramp. -/
def State.govSwap (s : State) (p old : Nat) (moved : Bool) (target : List F32) : State :=
  let frozen := s.pstate p == PS.curlim
  let o := s.ob p
  if s.govMode p = 0 then
    if old = 0 then s.govAim p moved target
    else (s.modObs p fun o => { o with ramp := none, owed := false }).setFlag F.GOV_STATUS_RAMPING p false
  else if frozen then s.modObs p fun o => { o with owed := o.owed || old == 0 }
  else if old = 0 then s.govRamp p (s.govNominal p)
  else if o.ramp.isSome then (if o.target == s.govNominal p then s.govAim p moved o.target else s.govRamp p (s.govNominal p))
  else if o.owed then s else s.govWrite p (s.govNominal p)

/-- A bank swap as the observer and governor of port p see it (R126, R129, R134, R142, R143): old is the mode before. -/
def State.obsSwap (s : State) (p old : Nat) : State :=
  let s0 := s.obsSwitch p
  let s1 := s0.cond (s0.flag F.OBS_STATUS_INJ_ON p && s0.obsParams p != (s0.ob p).params) fun t => t.obsStart p
  let new := s1.govMode p
  let clamp := fun (l : List F32) => l.zipIdx.map fun x => fClamp (s1.govLo p x.2) (s1.govHi p x.2) x.1
  let now := s1.govNow p
  let moved := clamp now != now
  let s2 := (s1.cond moved fun t => t.govWrite p (clamp now)).setFld F.GOV_STATUS_MODE p new
  (s2.govSwap p old moved (clamp (s2.ob p).target)).govEnter p old new

end Sys2Proof.Machine
end

