-- ==== Sys2Proof/Machine/Coef.lean ====
section
/-!
DEFINITION. Coefficient memory and tiles (03, 14, 18): writing, copying and swapping banks, the scrubber's checks and what the device
does on a tile failure, context presets.
-/
namespace Sys2Proof.Machine

/-- Change the coefficient memory's record. -/
def State.modCoef (s : State) (f : CoefSt → CoefSt) : State := { s with coef := f s.coef }

/-- The inactive bank: 0 A, 1 B. -/
def State.idle (s : State) : Nat := 1 - s.bankNo

/-- CRC-32C of 4 096 zero bytes, the directory entry of a tile never written. -/
def zeroTileCrc : Word := 0x98F94189#32

/-- The 4 096 bytes of tile t of bank b. -/
def State.tileBytes (s : State) (b t : Nat) : List Byte :=
  (Memory.getMany (fun _ => 0#32) (vget s.coef.bank b) (1024 * t) 1024).flatMap fun w => leBytes 4 w.toNat

/-- Tile t of bank b agrees with the bank's directory (R498). -/
def State.tileOk (s : State) (b t : Nat) : Bool :=
  !s.coef.badTiles.contains (b, t) && crc32c (s.tileBytes b t) == Memory.get (fun _ => zeroTileCrc) (vget s.coef.dir b) t

/-- Failing tiles of bank b as bits (R109). -/
def State.failing (s : State) (b : Nat) : Nat := (((List.range 16).filter fun t => !s.tileOk b t).map (2 ^ ·)).sum

/-- Set bits of COEF_STATUS.TILE_ERR. -/
def State.markTiles (s : State) (m : Nat) : State :=
  s.setFld F.COEF_STATUS_TILE_ERR 0 (s.fld F.COEF_STATUS_TILE_ERR 0 ||| m)

/-- INACT_VERIFIED shows the mark of the inactive bank (R109). -/
def State.showMark (s : State) : State := s.setFlag F.COEF_STATUS_INACT_VERIFIED 0 (vget s.coef.verified s.idle)

/-- Set or clear the verification mark of bank b. -/
def State.setMark (s : State) (b : Nat) (v : Bool) : State :=
  (s.modCoef fun c => { c with verified := vmod c.verified b fun _ => v }).showMark

/-- Unlock the inactive bank: no swap is pending. -/
def State.unlock (s : State) : State := (s.modCoef fun c => { c with swapAt := none }).setFlag F.COEF_STATUS_SWAP_PEND 0 false

/-- Complete the swap request, if a command made it, with RESULT bytes. -/
def State.endSwap (s : State) (status : Nat) (res : List Byte) : State := match s.waitingOp 0x0106 with
  | some e => s.complete e.tag status 0 res []
  | none => s

/-- Q 0-1: TILE_ERR. -/
def State.tileErrBytes (s : State) : List Byte := leBytes 2 (s.fld F.COEF_STATUS_TILE_ERR 0)

/-! ### Commands -/

/-- COEF_WRITE (R109, R110): one quarter of a tile of the inactive bank, and the tile's directory entry. -/
def execCoefWrite (tag : Fin 128) (s : State) : Host.Outcome State Fault Refusal :=
  serve 0x0104 tag s fun e =>
    let b := s.idle
    let words := (List.range 256).map fun i => BitVec.ofNat 32 (leAt e.payload (4 * i) 4)
    if 15 < e.a 0 ∨ 3 < e.a 1 then s.done e.tag FS.FS_PARAM
    else if s.flag F.COEF_STATUS_SWAP_PEND 0 then s.done e.tag FS.FS_BUSY
    else
      let s1 := s.modCoef fun c => { c with
        bank := vmod c.bank b fun m => Memory.setMany (fun _ => 0#32) m (1024 * e.a 0 + 256 * e.a 1) words
        dir := vmod c.dir b fun m => Memory.set (fun _ => zeroTileCrc) m (e.a 0) (BitVec.ofNat 32 (e.a32 4))
        badTiles := c.badTiles.filter fun x => x != (b, e.a 0) }
      (s1.setMark b false).done e.tag FS.FS_OK

/-- COEF_COPY (R111): the inactive bank takes the active bank's tiles and directory, and is verified. -/
def execCoefCopy (tag : Fin 128) (s : State) : Host.Outcome State Fault Refusal :=
  serve 0x0105 tag s fun e =>
    let a := s.bankNo
    let b := s.idle
    if s.flag F.COEF_STATUS_SWAP_PEND 0 then s.done e.tag FS.FS_BUSY
    else
      let s1 := s.modCoef fun c => { c with
        bank := vmod c.bank b fun _ => vget c.bank a, dir := vmod c.dir b fun _ => vget c.dir a
        badTiles := (c.badTiles.filter fun x => x.1 != b)
          ++ (c.badTiles.filter fun x => x.1 == a).map fun x => (b, x.2) }
      let m := s1.failing b
      if m = 0 then (s1.setMark b true).done e.tag FS.FS_OK
      else
        let s2 := (s1.setMark b false).markTiles m
        s2.complete e.tag FS.FS_TILE_CRC 0 s2.tileErrBytes []

/-- COEF_SWAP (R109, R110, R280): the inactive bank is locked and its verification starts. -/
def execCoefSwap (tag : Fin 128) (s : State) : Host.Outcome State Fault Refusal :=
  serve 0x0106 tag s fun e =>
    if s.roleBad then s.done e.tag FS.FS_PAIR_ROLE
    else if s.flag F.COEF_STATUS_SWAP_PEND 0 then s.done e.tag FS.FS_BUSY
    else (s.start e.tag).setFlag F.COEF_STATUS_SWAP_PEND 0 true

/-- The incoming bank b breaks the rules of R547 for a configured port. -/
def State.swapBlocksBad (s : State) (b : Nat) : Bool := (List.range 12).any fun p =>
  (s.port p).cfg.configured && (s.blockBad b p || (s.pstate p != PS.off && s.blockUnset b p))

/-- The least common multiple of the divisors of the rate groups in use. -/
def State.groupCycle (s : State) : Nat := ([1, 2, 3].filter s.groupUsed).foldl (fun m g => Nat.lcm m (s.divOf g)) 1

/-- The pair period number at which a swap verified now takes effect on both units (R281): at least the current one plus
2 N1 + 2 and 170 us ahead, at a common release. -/
def State.swapPeriod (s : State) : Nat :=
  let n := s.pnumOut + max (2 * s.divOf 1 + 2) (1360000 / (max 1 s.fineP) + 2)
  let c := max 1 s.groupCycle
  (n + c - 1) / c * c

/-- SWAP_VERIFY_COMPLETE (R109, R281, R547). A standby that verifies after an announcement keeps its bank and sets NR_CFG when it
fails. -/
def execSwapVerifyComplete (s : State) : Host.Outcome State Fault Refusal :=
  let b := s.idle
  let m := s.failing b
  .next (
    if !s.flag F.COEF_STATUS_SWAP_PEND 0 || s.coef.swapAt.isSome then s
    else
      let fail := fun (t : State) => if t.otherPaired then { t with pair := { t.pair with
        swapFail := true, sched := t.pair.sched.filter fun x => x.kind != 1 } } else t
      if m != 0 then
        let s1 := fail (((s.setMark b false).markTiles m).unlock)
        s1.endSwap FS.FS_TILE_CRC s1.tileErrBytes
      else if s.swapBlocksBad b then (fail s.unlock).endSwap FS.FS_PORT_CFG []
      else
        let s1 := (s.setMark b true).modCoef fun c => { c with swapAt := some s.now }
        if s1.isActive then { s1 with pair := { s1.pair with
          sched := s1.pair.sched ++ [⟨s1.swapPeriod, 1, none, none, 0⟩] } }
        else s1)

/-- The boundary in force may carry the swap (R109, R281): 20 us after verification, every rate group in use releasing, and on a
paired unit the pair period number named. -/
def State.swapDue (s : State) : Bool := match s.coef.swapAt with
  | none => false
  | some v => decide (v + 160000 ≤ s.pwm.tk) && s.pnumOut % (max 1 s.groupCycle) == 0
      && s.pair.sched.all fun x => x.kind != 1 || decide (x.n ≤ s.pnumOut)

/-- SWAP_TAKES_EFFECT (R109): every context reads the new bank; its governors and observers see their new words (R134, R142). -/
def execSwapTakesEffect (s : State) : Host.Outcome State Fault Refusal :=
  .next (
    if !s.swapDue then s
    else
      let modes := (List.range 4).map s.govMode
      let s1 := s.unlock.setFld F.COEF_STATUS_ACTIVE_B 0 s.idle
      let s2 := { s1.showMark with pair := { s1.pair with sched := s1.pair.sched.filter fun x => x.kind != 1 } }
      let s3 := ((s2.count F.COEF_STATUS_SWAP_CNT 0).post EV.EV_COEF_SWAP noUnit s2.bankNo)
      let s4 := s3.forUnits 4 fun t p => if (t.port p).cfg.configured then t.obsSwap p (modes.getD p 0) else t
      match s4.waitingOp 0x0106 with
      | some e => s4.doneAt e.tag FS.FS_OK
      | none => s4)

/-! ### Tile failures (R112, R185, R306, R346, R498) -/

/-- Store code of EV_TILE_CRC. -/
def storeCode : TileStore → Nat
  | .bankA => 0
  | .bankB => 1
  | .hlp => 2
  | .sdProf => 3
  | .safety => 4
  | .config => 5

/-- Tiles of a store (Table 18.7). -/
def storeTiles (c : Nat) : Nat := if c = 2 then 64 else if c = 3 then 4 else if c = 4 then 1 else 16

/-- A unit that acts on a fault by its role (R40, R112): release with a ready partner, SRS when active without one, nothing on a
standby. -/
def State.releaseOrSrs (s : State) : State :=
  if s.withPartner then s.releaseAct else if s.notActive then s else s.srsRequest 0xFFF false

/-- Abort a pending swap whose incoming bank fails (R110). -/
def State.abortSwap (s : State) : State :=
  if s.flag F.COEF_STATUS_SWAP_PEND 0 then
    let s1 := s.unlock.post EV.EV_COEF_SWAP_ABORT noUnit (s.fld F.COEF_STATUS_TILE_ERR 0)
    ({ s1 with pair := { s1.pair with
      sched := s1.pair.sched.filter fun x => x.kind != 1, swapFail := s1.pair.swapFail || s1.otherPaired } }).endSwap
        FS.FS_SWAP_ABORT []
  else s

/-- A tile of bank b fails a check of the scrubber (R112). -/
def State.bankFail (s : State) (b t : Nat) : State :=
  let s1 := (((s.setMark b false).markTiles (2 ^ t)).setFlag
    (if b = s.bankNo then F.COEF_STATUS_ACT_ERR else F.COEF_STATUS_INACT_ERR) 0 true).post EV.EV_TILE_CRC t b
  if b = s.bankNo then s1.releaseOrSrs else s1.abortSwap

/-- A tile of resampler profile k fails: EV_TILE_CRC, and the profile is out of use until it is rewritten (R184). -/
def State.profFail (s : State) (k : Nat) : State :=
  let s1 := s.post EV.EV_TILE_CRC k 3
  { s1 with sd := { s1.sd with badProf := if bitOf s1.sd.badProf k then s1.sd.badProf else s1.sd.badProf + 2 ^ k } }

/-- A tile of store c fails a check of the scrubber. -/
def State.tileFail (s : State) (c t : Nat) : State :=
  if c < 2 then s.bankFail c t
  else if c = 3 then s.profFail t
  else
    let s1 := s.post EV.EV_TILE_CRC t c
    match c with
    | 4 => s1.setFlag F.STW_STATUS_CFG_ERR 0 true
    | _ => s1.modCoef fun d => { d with found := if d.found.contains (c, t) then d.found else d.found ++ [(c, t)] }

/-- SCRUB_TILE_CHECK (R498): the scrubber reaches a tile; `upset` tells that its content has changed since it was written. The
safety tile acts while the Steward is ARMED (R306). -/
def execScrubTileCheck (store : TileStore) (tile : Fin 64) (upset : Bool) (s : State) : Host.Outcome State Fault Refusal :=
  let c := storeCode store
  let t := tile.val
  let s1 := if upset && !s.coef.badTiles.contains (c, t) then s.modCoef fun d => { d with badTiles := d.badTiles ++ [(c, t)] } else s
  let bad := if c < 2 then !s1.tileOk c t else (c == 3 && !s1.profOk t) || s1.coef.badTiles.contains (c, t) || (c == 2 && !s1.hlp.prog.tileOk t)
  .next (
    if storeTiles c ≤ t ∨ (c = 2 ∧ s.hlp.prog.count ≤ t) then s
    else if !bad || (c == 4 && s.stwState != 2) then s1 else s1.tileFail c t)

/-- CONFIG_TILE_REWRITE (R498): Fencen rewrites a failed tile of the committed configuration from its copy. -/
def execConfigTileRewrite (tile : Fin 16) (s : State) : Host.Outcome State Fault Refusal :=
  .next (if s.coef.found.contains (5, tile.val) then
      s.modCoef fun d => { d with
        found := d.found.filter fun x => x != (5, tile.val), badTiles := d.badTiles.filter fun x => x != (5, tile.val) }
    else s)

/-! ### Presets (R113, R114) -/

/-- Words of a type's state area that hold FP32 values: their number, from word 0. -/
def fpWords (type n : Nat) : Nat :=
  match type with
  | 2 => 4 * n
  | 3 => n
  | 7 => 2
  | 10 => 2
  | 11 => 1
  | 12 => 1
  | 13 => 2
  | 15 => n
  | _ => 0

/-- A preset would leave a NaN or an infinity in an FP32 state. -/
def State.presetBad (s : State) (e : Entry) : Bool :=
  let w0 := e.a16 2 / 4
  let k := fpWords (s.cf F.CTX_CFG_TYPE (e.a 0)) (s.cf F.CTX_CFG_DIM_N (e.a 0))
  (List.range (e.payload.length / 4)).any fun j =>
    decide (w0 + j < k) && !fFinite (BitVec.ofNat 32 (leAt e.payload (4 * j) 4))

/-- A preset is accepted in the context's state (R114). -/
def State.presetOpen (s : State) (i : Nat) : Bool :=
  let p := s.ctxPort i
  !s.ctxEn i || (decide (p < 12) && (s.pstate p == PS.off || s.pstate p == PS.armed))

/-- CTX_PRESET (R114): accepted for the next boundary, or refused. DESIGN CHOICE: R14 and R92 let a command that accepts a broadcast target
address all contexts with 63 and no table names such a command; the model has none, so context 63 is FS_PARAM (log entry 134). -/
def execCtxPreset (tag : Fin 128) (s : State) : Host.Outcome State Fault Refusal :=
  serve 0x0107 tag s fun e =>
    if 128 < e.a16 2 + e.payload.length then s.done e.tag FS.FS_LEN
    else if 62 < e.a 0 ∨ 15 < e.a 1 ∨ e.a16 2 % 4 ≠ 0 ∨ 124 < e.a16 2 ∨ s.presetBad e then s.done e.tag FS.FS_PARAM
    else if !s.presetOpen (e.a 0) then s.done e.tag FS.FS_CTX_STATE
    else s.start e.tag

/-- The preset writes its states and clears HIST_COLD of the groups it names (R113). -/
def State.preset (s : State) (e : Entry) : State :=
  let i := e.a 0
  let words := (List.range (e.payload.length / 4)).map fun j => BitVec.ofNat 32 (leAt e.payload (4 * j) 4)
  let s1 := (s.setCwords i (16 + e.a16 2 / 4) words).modCtx i fun c => { c with
    cold := c.cold.zipIdx.map fun x => x.1 && !bitOf (e.a 1) x.2 }
  s1.setCflag F.CTX_STATUS_HCOLD i ((s1.ctx i).cold.any id)

/-- PRESET_TAKES_EFFECT (R113, R114): at the next boundary. -/
def execPresetTakesEffect (tag : Fin 128) (s : State) : Host.Outcome State Fault Refusal :=
  .next (match s.waiting 0x0107 tag with
    | some e => if s.atBoundary e then (s.preset e).doneAt e.tag FS.FS_OK else s
    | none => s)

end Sys2Proof.Machine
end

