-- ==== Sys2Proof/Machine/Ptp.lean ====
section
/-!
DEFINITION. The PTP instance (R432, Table 15.5): the best master algorithm, Sync and delay exchanges, and the messages sent, with their
timestamps (R426, R429 to R431). The manual names IEEE 1588-2019 for it; message layouts, comparison of data sets and state decisions are that
standard's (PRESUMED, log entry 151).
-/
namespace Sys2Proof.Machine

/-- The PTP port on MAC m. -/
def State.link (s : State) (m : Nat) : PtpLink := vget s.ptp.links m

/-- Change the PTP port on MAC m. -/
def State.modLink (s : State) (m : Nat) (f : PtpLink → PtpLink) : State := s.modPtp fun p => { p with links := vmod p.links m f }

/-- MAC m is in the PTP port mask. -/
def State.ptpMask (s : State) (m : Nat) : Bool := bitOf (s.ptpCfg 1 1) m

/-- State of the PTP port on MAC m (Table 15.11). -/
def State.portIs (s : State) (m : Nat) : Nat := vget s.ptp.port m

/-- P2P: path delays are measured between peers. -/
def State.ptpP2p (s : State) : Bool := bitOf (s.ptpCfg 0 1) 4

/-- The clockIdentity: the address of NET-A as an EUI-64. -/
def State.clockId (s : State) : Nat := let a := s.macAddr 0; a / 2 ^ 24 * 2 ^ 40 + 0xFFFE * 2 ^ 24 + a % 2 ^ 24

/-! ### Timestamps (R429) -/

/-- Transmit latency of MAC m at its link speed, ns (Table 15.1). -/
def State.txLatency (s : State) (m : Nat) : Nat := s.netif m (32 + 4 * s.fld F.MAC_STAT_SPEED m) 2

/-- Receive latency. -/
def State.rxLatency (s : State) (m : Nat) : Nat := s.netif m (34 + 4 * s.fld F.MAC_STAT_SPEED m) 2

/-- TB0 at the stamp point of a transmitted event message: as the interrupt is taken, or at the medium boundary (R429). -/
def State.txStamp (s : State) (m : Nat) : Nat :=
  (vget s.tb 0).ticks + (if s.flag F.MAC_STAT_TS_POINT m then 65536 * s.txLatency m else 0)

/-- TB0 at the stamp point of a received event message. -/
def State.rxTime (s : State) (m : Nat) : Nat :=
  (vget s.tb 0).ticks - (if s.flag F.MAC_STAT_TS_POINT m then 65536 * s.rxLatency m else 0)

/-- A PTP message with the timestamp t leaves on MAC m (R426). -/
def State.ptpSend (s : State) (m t : Nat) : State := s.modMac m fun x => { x with ptpSent := some (ptpStamp t) }

/-! ### Best master (R432) -/

/-- x stands before y in dictionary order. -/
def before : List Nat → List Nat → Bool
  | x :: xs, y :: ys => decide (x < y) || (x == y && before xs ys)
  | _, _ => false

/-- Comparison of data set a with b by the clock `me` that received them: 2 a is better, 1 a is better by topology, 0 neither. -/
def rank (me : Nat) (a b : Announce) : Nat :=
  let key := fun (x : Announce) => [x.prio1, x.cls, x.acc, x.var, x.prio2, x.gm]
  if a.gm ≠ b.gm then (if before (key a) (key b) then 2 else 0)
  else if a.steps + 1 < b.steps then 2
  else if b.steps < a.steps then 0
  else if a.steps < b.steps then (if me < b.clock then 2 else if b.clock < me then 1 else 0)
  else if before [a.clock, a.number, a.port] [b.clock, b.number, b.port] then 1 else 0

/-- The data set of this clock (Table 15.6). -/
def State.ownData (s : State) : Announce := {
  prio1 := s.ptpCfg 3 1, cls := s.ptpCfg 5 1, acc := s.ptpCfg 6 1, var := s.ptpCfg 8 2, prio2 := s.ptpCfg 4 1, gm := s.clockId
  steps := 0, clock := s.clockId, number := 0, port := 0 }

/-- The best data set heard on any port. -/
def State.bestHeard (s : State) : Option Announce :=
  ((List.range 3).filterMap fun m => if s.ptpMask m then (s.link m).best else none).foldl (fun b a => match b with
    | none => some a
    | some b => if 1 ≤ rank s.clockId a b then some a else some b) none

/-- The own clock is at least as good as the best heard. -/
def State.ownBest (s : State) : Bool := match s.bestHeard with
  | none => true
  | some b => decide (1 ≤ rank s.clockId s.ownData b)

/-- The state the algorithm recommends for the port on MAC m: MASTER (5), SLAVE (8) or PASSIVE (6). -/
def State.recommended (s : State) (m : Nat) : Nat :=
  let here := (s.link m).best
  if 1 ≤ s.ptpCfg 5 1 ∧ s.ptpCfg 5 1 < 128 then (match here with
    | none => 5
    | some b => if 1 ≤ rank s.clockId s.ownData b then 5 else 6)
  else match s.bestHeard with
    | none => 5
    | some b =>
      if s.ownBest then 5
      else if b.port = m then 8
      else match here with
        | some h => if rank s.clockId b h = 1 then 6 else 5
        | none => 5

/-- The next state of the port on MAC m. A port that has heard no master stays in LISTENING until its announce receipt timer expires; a slave-only
clock is never a master; a new master takes the port to UNCALIBRATED. DESIGN CHOICE: PRE_MASTER is passed at once (log entry 151). -/
def State.nextPort (s : State) (expired : Option Nat) (m : Nat) : Nat :=
  let old := s.portIs m
  if (old = 0 ∨ old = 3) ∧ (s.link m).best.isNone ∧ expired ≠ some m then 3
  else match s.recommended m with
    | 5 => if s.ptpCfg 0 1 / 2 % 4 = 0 then 3 else 5
    | 8 => if old = 7 ∨ old = 8 then old else 7
    | n => n

/-- The best master algorithm runs after an Announce, or with the announce receipt timer of a port expired: port states, GM, and the grandmaster,
whose change clears LOCKED; a grandmaster's LOCKED is GM_LOCK (R432, R435, R436). -/
def State.bestMaster (s : State) (expired : Option Nat) : State :=
  let port := #v[if s.ptpMask 0 then s.nextPort expired 0 else 2, if s.ptpMask 1 then s.nextPort expired 1 else 2,
    if s.ptpMask 2 then s.nextPort expired 2 else 2]
  let on := (List.range 3).filter s.ptpMask
  let gm := s.ownBest && on.all fun m => vget port m == 5
  let id := if on.any fun m => vget port m == 7 || vget port m == 8 then s.bestHeard.map (·.gm) else some s.clockId
  let s1 := ((s.modPtp fun p => { p with port := port, gm := id }).setFlag F.TB_STAT_GM 0 gm).showPtp
  let s2 := s1.cond (id != s.ptp.gm) fun t => t.dropLock
  if gm then (s2.modPtp fun p => { p with fromPeer := false }).setTbLock (s.ptpCfg 14 1 % 2 == 1) else s2

/-! ### Messages received (R426, R432, R435) -/

/-- n bytes at offset o of a message, most significant first. -/
def msgAt (l : List Byte) (o n : Nat) : Nat := ((l.drop o).take n).foldl (fun v b => 256 * v + b.toNat) 0

/-- correctionField in 2^-16 ns. -/
def msgCorr (l : List Byte) : Int := signed 64 (msgAt l 8 8)

/-- The timestamp at offset 34 as a time of TB0 in 2^-16 ns: its seconds extended by those of TB0 (R426). -/
def State.msgTime (s : State) (l : List Byte) : Int :=
  ((extendPtp ((vget s.tb 0).ticks / (65536 * 1000000000)) (msgAt l 34 6) * 1000000000 + msgAt l 40 4) * 65536 : Nat)

/-- The message answers a request of the port on MAC m: requestingPortIdentity at offset 44. -/
def State.forMe (s : State) (m : Nat) (l : List Byte) : Bool := msgAt l 44 8 == s.clockId && msgAt l 52 2 == m + 1

/-- Once a delay exchange is complete it gives the path delay: half of what is left of both ways (E2E), or of the round trip without the peer's
own time (P2P). -/
def State.settleDelay (s : State) (m : Nat) : State :=
  s.modLink m fun x => match x.req with
    | none => x
    | some r =>
      let there := if s.ptpP2p then r.mid.map fun d => -d else x.diff
      match r.left, r.back, there with
      | some a, some b, some d => { x with delay := some ((d + (b - a)) / 2), req := none }
      | _, _, _ => x

/-- Change the delay exchange with this sequenceId of the port on MAC m. -/
def State.exchange (s : State) (m seq : Nat) (f : DelaySt → DelaySt) : State :=
  (s.modLink m fun x => { x with req := x.req.map fun r => if r.seq = seq then f r else r }).settleDelay m

/-- The Sync in progress on MAC m has its transmit time. -/
def State.syncDone (s : State) (m seq : Nat) (t1 : Int) : State :=
  s.modLink m fun x => match x.sync with
    | some (n, t2, none) => if n = seq then { x with sync := some (n, t2, some t1), diff := some (t2 - t1), due := true } else x
    | _ => x

/-- An Announce from a foreign master: from the second within four announce intervals on it counts. -/
def State.hearAnnounce (s : State) (m : Nat) (l : List Byte) : State :=
  let a : Announce := {
    prio1 := msgAt l 47 1, cls := msgAt l 48 1, acc := msgAt l 49 1, var := msgAt l 50 2, prio2 := msgAt l 52 1, gm := msgAt l 53 8
    steps := msgAt l 61 2, clock := msgAt l 20 8, number := msgAt l 28 2, port := m }
  let who := a.clock * 65536 + a.number
  let again := s.ptp.heard.any fun h => h.1 == m && h.2.1 == who && decide (s.tb1Ns ≤ h.2.2 + 4 * logNs (s.ptpCfg 11 1 : Nat))
  let s1 := s.modPtp fun p => { p with heard := (p.heard.filter fun h => !(h.1 == m && h.2.1 == who)) ++ [(m, who, s.tb1Ns)] }
  if !again || decide (255 ≤ a.steps) then s1
  else (s1.modLink m fun x => { x with best := match x.best with
      | none => some a
      | some b => if (b.clock = a.clock ∧ b.number = a.number) ∨ 1 ≤ rank s.clockId a b then some a else some b }).bestMaster none

/-- The message comes from the master heard best on MAC m, and the port follows it. -/
def State.fromMaster (s : State) (m : Nat) (l : List Byte) : Bool :=
  (s.portIs m == 7 || s.portIs m == 8) && (match (s.link m).best with
    | some b => b.clock == msgAt l 20 8 && b.number == msgAt l 28 2
    | none => false)

/-- Fencen handles a PTP message of its domain received on MAC m; of an event message `stamp` is the receive timestamp. Signaling and
management messages are ignored. -/
def State.ptpReceive (s : State) (m : Nat) (l : List Byte) (stamp : Option Nat) : State :=
  let seq := msgAt l 30 2
  let two := bitOf (leAt l 6 1) 1
  if !s.fencenRuns || !s.ptpOn || leAt l 1 1 % 16 != 2 || leAt l 4 1 != s.ptpCfg 2 1 || msgAt l 20 8 == s.clockId then s
  else match leAt l 0 1 % 16, stamp with
    | 0, some t =>
      if !s.fromMaster m l then s
      else
        let s1 := s.modLink m fun x => { x with sync := some (seq, (t : Int) - msgCorr l, none) }
        if two then s1 else s1.syncDone m seq (s.msgTime l)
    | 8, _ => if s.fromMaster m l then s.syncDone m seq (s.msgTime l + msgCorr l) else s
    | 1, some t => if s.portIs m = 5 ∧ !s.ptpP2p then s.ptpSend m t else s
    | 9, _ => if s.forMe m l && !s.ptpP2p then s.exchange m seq fun r => { r with back := some (s.msgTime l - msgCorr l) } else s
    | 2, some t => if s.ptpP2p then (s.modLink m fun x => { x with owes := some seq }).ptpSend m t else s
    | 3, some t =>
      if !s.forMe m l || !s.ptpP2p then s
      else s.exchange m seq fun r => { r with
        back := some (t : Int), peer := some (s.msgTime l - msgCorr l), mid := if two then none else some (msgCorr l) }
    | 10, _ =>
      if !s.forMe m l || !s.ptpP2p then s
      else s.exchange m seq fun r => { r with mid := r.peer.map fun t2 => s.msgTime l + msgCorr l - t2 }
    | 11, _ => s.hearAnnounce m l
    | _, _ => s

/-! ### Messages sent (R423, R430, R431) -/

/-- Fencen may send an event message of type k on MAC m: a Sync as master, a Delay_Req as slave (E2E), a Pdelay_Req, or the Pdelay_Resp it
owes (P2P). -/
def State.maySend (s : State) (m k : Nat) : Bool :=
  s.fencenRuns && s.ptpOn && s.ptpMask m && (match k with
    | 0 => s.portIs m == 5
    | 1 => !s.ptpP2p && (s.portIs m == 7 || s.portIs m == 8)
    | 2 => s.ptpP2p
    | _ => s.ptpP2p && (s.link m).owes.isSome)

/-- A PTP event message of type k is launched on MAC m (R422, R423): with the link up it is on its way, and a request begins an exchange. -/
def State.ptpLaunch (s : State) (m k : Nat) : State :=
  if !s.maySend m k then s
  else
    let s1 := s.launchOn m (s.frameLen m ((if bitOf (s.ptpCfg 0 1) 5 then 28 else 0) + (if k < 2 then 44 else 54)))
    let seq := if k = 3 then (s.link m).owes.getD 0 else vget (s.link m).seqs k
    if !s.flag F.MAC_STAT_LINK m then s1
    else s1.modLink m fun x => { x with
      sent := x.sent ++ [(s.ptpCfg 2 1 % 16 * 4096 + seq % 4096, k)]
      seqs := if k = 3 then x.seqs else vmod x.seqs k fun n => (n + 1) % 65536
      owes := if k = 3 then none else x.owes
      req := if k = 1 ∨ k = 2 then some { seq := seq } else x.req }

/-- The message with this ID and TYPE gets no stamp from a queue; without its stamp the exchange of a request is discarded (R431). -/
def State.ptpGone (s : State) (m id k : Nat) : State :=
  s.modLink m fun x => { x with
    sent := x.sent.erase (id, k)
    req := if (k = 1 ∨ k = 2) ∧ x.sent.contains (id, k) then x.req.filter fun r => r.seq % 4096 != id % 4096 else x.req }

/-- What Fencen does with a drained entry (R426, R430): it goes to its message by ID and TYPE. That of a Sync or a Pdelay_Resp leaves in the
follow-up message; that of a request is its transmit time. -/
def State.useStamp (s : State) (m : Nat) (e : TsEntry) : State :=
  let x := s.link m
  if !x.sent.contains (e.id, e.type) then s
  else
    let s1 := s.modLink m fun x => { x with sent := x.sent.erase (e.id, e.type) }
    if e.type = 0 ∨ e.type = 3 then (if s.netRuns then s1.ptpSend m e.time else s1)
    else match x.req with
      | some r => if r.seq % 4096 = e.id % 4096 then s1.exchange m r.seq fun r => { r with left := some (e.time : Int) } else s1
      | none => s1

/-! ### Servo updates (R435) -/

/-- The port that follows a master with a complete Sync and a path delay: its MAC and its offsetFromMaster in ns. -/
def State.servoPort (s : State) : Option (Nat × Int) :=
  (List.range 3).findSome? fun m =>
    if s.ptpMask m && (s.portIs m == 7 || s.portIs m == 8) && (s.link m).due then
      match (s.link m).diff, (s.link m).delay with
      | some d, some p => some (m, (d - p) / 65536)
      | _, _ => none
    else none

/-- The port on MAC m goes to SLAVE with an update that needs no step, and back to UNCALIBRATED with one. DESIGN CHOICE: IEEE 1588 leaves the
conditions to the implementation (log entry 151). -/
def State.calibrated (s : State) (m : Nat) (off : Int) : State :=
  (s.modPtp fun p => { p with port := vmod p.port m fun _ => if s.ptpCfg 20 4 < off.natAbs then 7 else 8 }).showPtp

end Sys2Proof.Machine
end

