-- ==== Sys2Proof/Machine/Network.lean ====
section
/-!
DEFINITION. Networks and time bases (15): receive classification, scheduled launches, links, transmit timestamps, the PTP servo and
its lock, and the TIME commands.
-/
namespace Sys2Proof.Machine

/-- Credits the active unit may use; Spur can hold the pool empty (Table 20.2). -/
def State.mirrorCredits (s : State) : Nat :=
  if s.spurOn && s.flag F.SPUR_BP_MIRROR 0 then 0 else s.pair.credits

/-- Store k of Table 01.10 has a drain pending that contends with a later one (R43): 2 a mirror record that may be sent, 3 a datagram that
is full or the flush, 4 a transmit timestamp. The drains of orders 1, 5 and 7 wait for no command: frames leave in fixed slots,
and completions and admissions take place in the command that causes them. -/
def State.drainPending (s : State) (k : Nat) : Bool :=
  match k with
  | 2 => s.pair.recDue.isSome && s.isActive && (s.fld F.LANE_STAT_STATE 6 == 4 || s.fld F.LANE_STAT_STATE 7 == 4)
      && decide (s.fld F.PAIR_CFG_RECORD_BLKS 0 ≤ s.mirrorCredits)
  | 3 => s.netRuns && s.flag F.MAC_STAT_LINK 2
      && (decide (178 ≤ s.cap.fifo.length) || (s.capState == 2 && !s.cap.fifo.isEmpty))
  | 4 => s.fencenRuns && (List.range 3).any fun m => !(vget s.macs m).tsq.isEmpty
  | _ => false

/-- No store before order k of Table 01.10 has a drain pending, so that the arbiter serves order k in this cycle (R43). -/
def State.serves (s : State) (k : Nat) : Bool := !(List.range k).any s.drainPending

/-! ### Receive (R418, R421) -/

/-- FCP_PORT of MAC m; 4896 by default (R387). -/
def State.fcpPort (s : State) (m : Nat) : Nat := if s.netif m 14 2 = 0 then 4896 else s.netif m 14 2

/-- A datagram comes from the host source of mailbox 4 + m. -/
def State.fromHost (s : State) (m src port : Nat) : Bool :=
  let h := vget s.fcp.hostSrc m
  !h.isEmpty && leAt h 6 2 == port && leAt h 8 4 == src

/-- A datagram belongs to an enabled remote module on MAC m. -/
def State.rioUdp (s : State) (m src port : Nat) : Bool := (List.range 32).any fun r =>
  let x := vget s.hlp.rmod r
  s.flag F.RIO_STAT_EN r && s.fld F.RIO_STAT_TRANSPORT r == 2 + m && x.ident == src && x.udp == port

/-- The row of Table 15.2 a frame to address `dst` matches; 0 for none, and for a fragment, which the device drops (R387). -/
def State.rxRow (s : State) (m : Nat) (k : RxKind) (dst : BitVec 48) : Nat :=
  let ptp := bitOf (s.ptpCfg 1 1) m
  match k with
  | .udp src srcPort dstPort _ fragment =>
    let d := dstPort.toNat
    if fragment then 0
    else if m < 2 ∧ (List.range 4).any (fun r => s.flag F.PDU_STAT_EN r && s.rxCfg r 4 2 == d) then 1
    else if ptp ∧ (d = 319 ∨ d = 320) then 2
    else if m < 2 ∧ d = s.fcpPort m ∧ s.fromHost m src.toNat srcPort.toNat then 3
    else if s.rioUdp m src.toNat d then 4
    else 0
  | .ptp _ => if ptp then 2 else 0
  | .arp => 5
  | .echo => if dst.toNat = s.macAddr m then 5 else 0
  | .other => 0

/-- A datagram to FCP_PORT from a source that is not the mailbox's (R387). -/
def State.foreign (s : State) (m : Nat) (k : RxKind) : Bool := match k with
  | .udp src srcPort dst _ fragment =>
    !fragment && decide (m < 2) && dst.toNat == s.fcpPort m && !s.fromHost m src.toNat srcPort.toNat
  | _ => false

/-- The PTP message of a frame of row 2, and whether it came to the event port or by EtherType, where event messages travel. -/
def ptpMsg : RxKind → Option (List Byte × Bool)
  | .udp _ _ dst msg _ => some (msg, dst.toNat == 319)
  | .ptp msg => some (msg, true)
  | _ => none

/-- A frame of row 2 is with the SVP: an event message, of type 0 to 3, with its receive timestamp, and Fencen handles it (R421, R429,
R432). -/
def State.ptpFrame (s : State) (m : Nat) (k : RxKind) : State := match ptpMsg k with
  | none => s
  | some (msg, event) =>
    let stamp := if event && decide (leAt msg 0 1 % 16 < 4) then some (s.rxTime m) else none
    (s.modMac m fun x => { x with rxStamp := stamp }).ptpReceive m msg stamp

/-- ETHERNET_FRAME_RECEIVED (R418, R421): the frame goes to its destination, where its content acts by a command of its own, or is
discarded and counted. -/
def execEthernetFrameReceived (mac : Fin 3) (f : RxFrame) (s : State) : Host.Outcome State Fault Refusal :=
  let row := s.rxRow mac f.kind f.dst
  .next (
    if !s.netRuns || !s.flag F.MAC_STAT_LINK mac then s
    else if 1522 < f.len ∨ row = 0 ∨ !f.room then
      ((s.modMac mac fun x => { x with dest := 0, rxStamp := none }).count F.MAC_STAT_RX_DROP mac).cond
        (decide (f.len ≤ 1522) && row == 0 && s.foreign mac f.kind) fun t => t.count F.MB_STAT_SRC_CNT (4 + mac.val)
    else (s.modMac mac fun x => { x with dest := row, rxStamp := none }).cond (row == 2) fun t => t.ptpFrame mac f.kind)

/-! ### Transmit and links (R418, R422, R430, R431) -/

/-- Of scheduled frames, the one with the earliest launch time, the first of several. -/
def earliest : List SchedFrame → Option SchedFrame
  | [] => none
  | f :: l => match earliest l with
    | some g => some (if g.at1 < f.at1 then g else f)
    | none => some f

/-- The earliest safety PDU of MAC m leaves once its launch time has come (R422). -/
def State.launchPdu (s : State) (m : Nat) : State := match earliest (vget s.macs m).sched with
  | some f =>
    if (vget s.tb 1).ticks < f.at1 then s else (s.modMac m fun x => { x with sched := x.sched.erase f }).launchOn m f.len
  | none => s

/-- SCHEDULED_LAUNCH (R422, R423): a scheduled frame leaves at the first NET clock edge at or after its launch time, or is discarded with
its link down; what the guard held back on the ordinary path follows once no other launch is near. `ptp` is the type of the PTP event message
that Fencen launches at this instant, if any: a safety PDU with the same launch time leaves before it. -/
def execScheduledLaunch (mac : Fin 3) (ptp : Option (Fin 4)) (s : State) : Host.Outcome State Fault Refusal :=
  .next (if !s.netRuns then s
    else
      let s1 := s.launchPdu mac
      let s2 := match ptp with
        | some k => s1.ptpLaunch mac k
        | none => s1
      if (vget s2.macs mac).held.isEmpty then s2 else s2.ordinary mac [])

/-- LINK_CHANGE (R418): EV_LINK with LINK and SPEED. -/
def execLinkChange (mac : Fin 3) (up : Bool) (speed : Fin 3) (s : State) : Host.Outcome State Fault Refusal :=
  let sp := if up then speed.val else 3
  .next (
    if !s.netRuns || (s.flag F.MAC_STAT_LINK mac == up && s.fld F.MAC_STAT_SPEED mac == sp) then s
    else ((s.setFlag F.MAC_STAT_LINK mac up).setFld F.MAC_STAT_SPEED mac sp).post EV.EV_LINK mac (b2n up + 256 * sp))

/-- TX_TIMESTAMP (R426, R430, R431): a one-step Sync or Pdelay_Resp gives no entry, its time travels in the message itself; a full queue
drops the new stamp, and Fencen goes without it. -/
def execTxTimestamp (mac : Fin 3) (id : BitVec 16) (type : Fin 16) (oneStep : Bool) (s : State) :
    Host.Outcome State Fault Refusal :=
  let x := vget s.macs mac
  .next (
    if !s.netRuns then s
    else if oneStep && (type.val == 0 || type.val == 3) then (s.ptpSend mac (s.txStamp mac)).ptpGone mac id.toNat type
    else if x.tsq.length < 16 then
      (s.modMac mac fun y => { y with tsq := y.tsq ++ [⟨id.toNat, type, s.txStamp mac, (vget s.tb 1).ticks⟩] }).setFld
        F.TSQ_STAT_DEPTH mac (x.tsq.length + 1)
    else (((s.modMac mac fun y => { y with dropped := true }).count F.TSQ_STAT_DROP_CNT mac).cond (!x.dropped) fun t =>
      t.post EV.EV_TSQ_DROP mac 0).ptpGone mac id.toNat type)

/-- TIMESTAMP_DRAIN (R43, R430): one arbitration cycle that may serve the queue of the MAC. Fencen takes the oldest entry; one older than
1 s is discarded. -/
def execTimestampDrain (mac : Fin 3) (s : State) : Host.Outcome State Fault Refusal :=
  .next (match s.fencenRuns && s.serves 4, (vget s.macs mac).tsq with
    | true, e :: q =>
      let s1 := (s.modMac mac fun x => { x with tsq := q, dropped := x.dropped && !q.isEmpty }).setFld F.TSQ_STAT_DEPTH mac q.length
      if e.at1 + 65536 * 1000000000 < (vget s.tb 1).ticks then s1.ptpGone mac e.id e.type else s1.useStamp mac e
    | _, _ => s)

/-! ### The servo of TB0 (R435 to R437) -/

/-- A frequency offset the servo chooses: its gains are not stated, so the value is free within +-500 ppm (R424). -/
def freeTrim (n : Nat) : Int := clampInt (-500000000) 500000000 (Config.freeWord n).toInt

/-- A servo update with an offset of `off` ns; a step takes TB0 to the master's time (R426, R435). -/
def State.servo (s : State) (off : Int) : State :=
  let thr := s.ptpCfg 16 4
  let a := off.natAbs
  let step := decide (s.ptpCfg 20 4 < a)
  let s1 := if step then (s.adjTb 0 (vget s.tb 0).freq ((s.ptpTarget off : Nat) - ((vget s.tb 0).ticks : Int))).setTbLock false
    else (s.adjTb 0 (freeTrim s.fresh) 0).bump
  let good := if a ≤ thr ∧ !step then min 16 (s.ptp.good + 1) else 0
  let bad := if thr < a then min 4 (s.ptp.bad + 1) else 0
  let s2 := s1.modPtp fun p => { p with base := a, updAt := some s.tb1Ns, good := good, bad := bad }
  if 4 * thr < a ∨ bad = 4 then s2.setTbLock false
  else if good = 16 ∧ s.ptpPort 8 then (s2.modPtp fun p => { p with fromPeer := false }).setTbLock true
  else s2

/-- PTP_SERVO_UPDATE (R435, R436, R437): a Sync is complete on the port in SLAVE or UNCALIBRATED and the path delay is known; a grandmaster
does not steer TB0. -/
def execPtpServoUpdate (s : State) : Host.Outcome State Fault Refusal :=
  .next (match s.fencenRuns && s.netRuns && s.ptpOn && !s.flag F.TB_STAT_GM 0, s.servoPort with
    | true, some (m, off) => (s.modLink m fun x => { x with due := false }).servo off |>.calibrated m off
    | _, _ => s)

/-- HOLD_MAX_EXPIRY (R436): no servo update for HOLD_MAX. -/
def execHoldMaxExpiry (s : State) : Host.Outcome State Fault Refusal :=
  .next (if s.ptpOn && !s.flag F.TB_STAT_GM 0 then s.dropLock else s)

/-- ANNOUNCE_RECEIPT_TIMEOUT (R432, R435, R436): the master heard on the port is gone, and the best master algorithm runs. -/
def execAnnounceReceiptTimeout (mac : Fin 3) (s : State) : Host.Outcome State Fault Refusal :=
  .next (
    if !s.fencenRuns || !s.netRuns || !s.ptpOn || !bitOf (s.ptpCfg 1 1) mac then s
    else (s.modLink mac fun x => { x with best := none, sync := none }).bestMaster (some mac))

/-! ### TIME commands (R424, R425, R433) -/

/-- TB_READ: the four time bases at one NET clock edge, then TB_STAT of TB0. -/
def execTbRead (tag : Fin 128) (s : State) : Host.Outcome State Fault Refusal :=
  serve 0x0B01 tag s fun e =>
    s.complete e.tag FS.FS_OK 0 [] ((List.range 4).flatMap (fun b => timeBytes (vget s.tb b).ticks) ++ leBytes 4 (s.tbStat 0).toNat)

/-- TB_SET (R425). -/
def execTbSet (tag : Fin 128) (s : State) : Host.Outcome State Fault Refusal :=
  serve 0x0B02 tag s fun e =>
    let b := e.a 0
    if 3 < b ∨ 1000000000 ≤ leAt e.args 12 4 then s.done e.tag FS.FS_PARAM
    else if !s.hostOwned b then s.done e.tag FS.FS_TB_OWNED
    else
      let s1 := s.stepTb b ((timeAt e.args 4 : Nat) - ((vget s.tb b).ticks : Int))
      (s1.cond (b == 0) fun t => t.dropLock).done e.tag FS.FS_OK

/-- TB_ADJ (R424, R425, R436): the rate, and a step where it is not zero, at the next nanosecond rollover. -/
def execTbAdj (tag : Fin 128) (s : State) : Host.Outcome State Fault Refusal :=
  serve 0x0B03 tag s fun e =>
    let b := e.a 0
    let f := signed 32 (e.a32 4)
    let d := signedTimeAt e.args 8
    if 3 < b ∨ 500000000 < f.natAbs ∨ 1000000000 ≤ leAt e.args 16 4 then s.done e.tag FS.FS_PARAM
    else if !s.hostOwned b then s.done e.tag FS.FS_TB_OWNED
    else
      ((s.adjTb b f d).cond (decide (d ≠ 0 ∧ b = 0)) fun u => u.dropLock).done e.tag FS.FS_OK

/-- Ranges of Table 15.6. -/
def ptpRanges (p : List Byte) : Bool :=
  let b := fun o => leAt p o 1
  let sg := fun o (lo hi : Int) => decide (lo ≤ signed 8 (b o) ∧ signed 8 (b o) ≤ hi)
  b 0 / 2 % 4 != 3 && b 0 / 64 != 3 && b 1 < 8 && b 2 < 128 && sg 10 (-7) 1 && b 11 < 5 && sg 12 (-7) 5
    && decide (2 ≤ b 13) && b 13 < 11 && b 14 < 2 && b 7 == 0 && b 15 == 0 && leAt p 30 2 == 0
    && decide (10 ≤ leAt p 16 4) && decide (leAt p 16 4 ≤ 100000) && decide (1000 ≤ leAt p 20 4)
    && decide (leAt p 20 4 ≤ 1000000000) && decide (10 ≤ leAt p 24 4) && decide (leAt p 24 4 ≤ 10000)
    && decide (1000 ≤ leAt p 28 2) && decide (leAt p 28 2 ≤ 60000)

/-- R434 for a payload. -/
def ptpProfile (p : List Byte) : Bool :=
  let b := fun o => leAt p o 1
  let p2p := bitOf (b 0) 4
  match b 0 / 64 with
  | 0 => !p2p
  | 1 => p2p
  | _ => p2p && !bitOf (b 0) 5 && b 2 == 0 && b 10 == 0 && b 11 == 0 && b 12 == 0 && b 13 == 3

/-- A payload keeps R433: ranges, the number of ports of its role, R434, and R429 for one-step operation. -/
def State.ptpOk (s : State) (p : List Byte) : Bool :=
  let m := leAt p 1 1
  let n := ((List.range 3).filter (bitOf m)).length
  ptpRanges p && ptpProfile p
    && (if leAt p 0 1 / 2 % 4 = 2 then decide (2 ≤ n) else n == 1)
    && (!bitOf (leAt p 0 1) 3 || (List.range 3).all fun k => !bitOf m k || s.flag F.MAC_STAT_TS_POINT k)

/-- PTP_CFG (R433): the instance restarts in INITIALIZING, or is disabled, and LOCKED clears. -/
def execPtpCfg (tag : Fin 128) (s : State) : Host.Outcome State Fault Refusal :=
  serve 0x0B04 tag s fun e =>
    let p := e.payload
    let on := leAt p 0 1 % 2 == 1
    if !s.ptpOk p then s.done e.tag FS.FS_PARAM
    else
      let s1 := s.modPtp fun x => { x with
        cfg := p, good := 0, bad := 0, fromPeer := false, links := Vector.replicate 3 {}, heard := [], gm := none
        port := (List.range 3).foldl (fun v m => vmod v m fun _ => if on && bitOf (leAt p 1 1) m then 0 else 2) x.port }
      ((s1.setFlag F.TB_STAT_GM 0 false).showPtp.setTbLock false).done e.tag FS.FS_OK

end Sys2Proof.Machine
end

