-- ==== Sys2Proof/Machine/PairLink.lean ====
section
/-!
DEFINITION. The redundant pair (09): the Bridle, pair states and readiness, scheduled changes, switch-over, and the commands of the
PAIR class.
-/
namespace Sys2Proof.Machine

/-- Pair state (Table 09.3). -/
def State.pairState (s : State) : Nat := s.fld F.PAIR_STATUS_STATE 0

/-- A mirror lane is UP. -/
def State.mirrorUp (s : State) : Bool := s.laneState 6 == 4 || s.laneState 7 == 4

/-- NR bits 15:8 of PAIR_STATUS. -/
def State.nrBits (s : State) : Nat := (s.reg R.PAIR_STATUS 0).toNat / 256 % 256

/-- Move to pair state n: EV_PAIR_STATE with the NR bits (R278), and the GDEN commands that follow (R281). -/
def State.toPair (s : State) (n : Nat) : State :=
  if s.pairState = n then s
  else
    let s1 := s.setFld F.PAIR_STATUS_STATE 0 n
    ((s1.setFlag F.HLP_STATUS_SBY 0 s1.otherPaired).post EV.EV_PAIR_STATE noUnit (s.pairState + 256 * n + 65536 * s.nrBits)).gdenCmd

/-! ### The Bridle (R272 to R277) -/

/-- R272 and R303 allow ACT_OUT to rise at the boundary in force: the Tack Table is locked, the Steward releases, SGR_IN is low, and
PARTNER_ACT has been low for 2 us. -/
def State.actMayRise (s : State) : Bool :=
  s.flag F.TACK_CTRL_LOCK 0 && s.gateOpen && !s.flag F.PAIR_STATUS_SGR_IN 0 && (match s.pair.lowSince with
    | some t => decide (t + 16000 ≤ s.pwm.tk)
    | none => false)

/-- ACT_OUT rises, which is recorded (R296); frames with ACT = 1 begin with APPLY = 1 (R292). -/
def State.raiseAct (s : State) : State :=
  let s1 := (s.setFlag F.PAIR_STATUS_ACT_OUT 0 true).modPair fun p => { p with roseAt := some s.now, wantAct := false, takeDue := false }
  let s2 := s1.forUnits 6 fun t l => t.modLane l fun x => { x with apply := true }
  if s.flag F.PAIR_STATUS_ACT_OUT 0 then s2 else s2.postAct true

/-- The unit becomes ACTIVE: it holds every mirror credit (R288) and its observers start their invalid window (R127). -/
def State.becomeActive (s : State) : State :=
  let s1 := (s.raiseAct.modPair fun p => { p with
    gdenDrop := false, credits := 32, freed := 0, rxDone := none, rxCount := 0, rxBlocks := [], handover := none }).modHlp
      fun h => { h with slice := 64, got := [] }
  let s1 := s1.modPtp fun p => { p with fromPeer := false, base := p.base + (if p.fromPeer then 2 else 0) }
  (s1.toPair 4).forUnits 4 fun t p => t.obsSwitch p

/-- A Bridle conflict by R275: the unit keeps ACT_OUT, counts and posts it. -/
def State.conflict (s : State) : State := (s.count F.PAIR_CNT_CONFLICTS 0).post EV.EV_BRIDLE_CONFLICT noUnit 0

/-- PARTNER_ACT_CHANGE (R272, R275, R282, R292): PARTNER_ACT counts as a new level. -/
def execPartnerActChange (level : Bool) (s : State) : Host.Outcome State Fault Refusal :=
  let s1 := s.setFlag F.PAIR_STATUS_PARTNER_ACT 0 level
  .next (
    if s.flag F.PAIR_STATUS_PARTNER_ACT 0 == level && s.pair.lowSince.isSome != level then s
    else if level then
      let s2 := (s1.modPair fun p => { p with lowSince := none, takeDue := false, gdenDrop := false }).gdenCmd
      if !s.flag F.PAIR_STATUS_ACT_OUT 0 then s2
      else match s.pair.roseAt with
        | some t => if s.now < t + 16000 then (if s.flag F.PAIR_CFG_PRIO 0 then s2.releaseAct else s2) else s2.conflict
        | none => s2.conflict
    else s1.modPair fun p => { p with
      lowSince := some s.now
      takeDue := decide (s.pairState = 3) && (s.flag F.PAIR_CFG_TAKEOVER_EN 0 || p.handover.isSome) })

/-- ACT_OUT_READBACK_MISMATCH (R272): ACT_OUT has read back other than driven for 1 us, which is cause 0x14, or reads back as driven again. -/
def execActOutReadbackMismatch (on : Bool) (s : State) : Host.Outcome State Fault Refusal := .next (s.causeOn Cause.actReadback on)

/-- MISSING_RG0_BOUNDARY (Table 09.2): no boundary within 1 us after it was due. -/
def execMissingRg0Boundary (s : State) : Host.Outcome State Fault Refusal :=
  .next (if s.gait = Gait.paddock then s else s.releaseAct)

/-- SGR_IN_CHANGE (R277, R315): SGR_IN high for 1 us holds a remote SGR; a low level is only shown here. -/
def execSgrInChange (level : Bool) (s : State) : Host.Outcome State Fault Refusal :=
  let s1 := s.setFlag F.PAIR_STATUS_SGR_IN 0 level
  .next (if level && !s.flag F.STW_STATUS_REMOTE_SGR 0 then (s1.setFlag F.STW_STATUS_REMOTE_SGR 0 true).removeGates.applyRelease
    else s1)

/-- REMOTE_SGR_END (R315): SGR_IN has been low for 10 us. -/
def execRemoteSgrEnd (s : State) : Host.Outcome State Fault Refusal :=
  .next (if s.flag F.STW_STATUS_REMOTE_SGR 0 && !s.flag F.PAIR_STATUS_SGR_IN 0 then
      ((s.setFlag F.STW_STATUS_REMOTE_SGR 0 false).cond (!s.stw.sgr) fun t => t.setFlag F.STW_STATUS_SGR_DONE 0 false).applyRelease
    else s)

/-! ### Readiness and pair states (R278, R279) -/

/-- RG0 periods of 2 RG1 periods. -/
def State.twoRg1 (s : State) : Nat := 2 * s.divOf 1

/-- NR_HEALTH: a latch on a port leg, a failed tile of the active bank, a Steward stopped by a fault (INHIBIT, SAFE, FATAL), or Limp. -/
def State.unhealthy (s : State) : Bool :=
  ((List.range 12).any fun p => (s.port p).cfg.configured && s.portLatched p) || s.flag F.COEF_STATUS_ACT_ERR 0 || decide (3 ≤ s.stwState)
    || s.gait == Gait.limp

/-- A Gate Link lane that a port uses is not UP. -/
def State.lanesBad (s : State) : Bool := (List.range 48).any fun n =>
  s.flag F.LEG_CFG_GL n && (s.portOfLeg n).isSome && s.laneState (s.fld F.LEG_CFG_LANE n) != 4

/-- NR_HLP: no complete snapshot applied, or the retained layout is not the partner's. -/
def State.hlpBad (s : State) : Bool := !s.hlp.applied || (match s.pair.peerRetain with
  | some r => r != s.hlp.prog.hdr 4 4
  | none => false)

/-- NR_MIRROR: no record applied within the last 2 RG1 periods. -/
def State.mirrorStale (s : State) : Bool := match s.pair.appliedAt with
  | some b => decide (b + s.twoRg1 < s.pwm.bnd)
  | none => true

/-- The conditions of Table 09.5, NR_HLP as bit 0 to NR_MIRROR as bit 7. -/
def State.notReady (s : State) : Nat :=
  let skew := signed 16 (s.fld F.PAIR_SKEW_SKEW 0)
  b2n s.hlpBad + 2 * b2n s.unhealthy + 4 * b2n (decide (16 < skew.natAbs) || !s.pair.offFixed) + 8 * b2n s.lanesBad
    + 16 * b2n (s.reg R.IDENT_CFG_DIGEST 0 != s.pair.peerDigest || s.pair.swapFail) + 32 * b2n (s.gait != s.pair.peerGait)
    + 64 * b2n (s.pair.helloBad.any id) + 128 * b2n s.mirrorStale

/-- PAIR_STATUS shows readiness in every state but SOLO; EV_MIRROR_STALE is posted when NR_MIRROR rises. -/
def State.showReady (s : State) : State :=
  if s.pairState = 0 then s
  else
    let w := (s.reg R.PAIR_STATUS 0).toNat
    let n := s.notReady
    let s1 := s.setReg R.PAIR_STATUS 0 (BitVec.ofNat 32 (w - w / 256 % 256 * 256 + n * 256))
    let fresh := match s.pair.peerAt with
      | some b => decide (s.pwm.bnd ≤ b + s.twoRg1)
      | none => false
    (s1.setFlag F.PAIR_STATUS_PARTNER_READY 0 (fresh && s1.fld F.PAIR_STATUS_PEER_STATE 0 == 3)).cond
      (!s.flag F.PAIR_STATUS_NR_MIRROR 0 && decide (128 ≤ n)) fun t => t.post EV.EV_MIRROR_STALE noUnit 0

/-- Move by Table 09.3 at a boundary: readiness, then the transition whose condition holds. -/
def State.pairTick (s : State) : State :=
  let t := s.showReady
  let up := t.mirrorUp
  let fell := t.pair.actFall
  let u := t.modPair fun p => { p with actFall := false }
  match t.pairState with
  | 1 => if up then u.toPair 2 else u
  | 2 => if !up then u.toPair 1 else if t.nrBits = 0 then u.toPair 3 else u
  | 3 => if !up then u.toPair 1 else if t.nrBits ≠ 0 then u.toPair 2 else u
  | 4 => if fell then u.toPair (if up then 2 else 1) else u
  | _ => u

/-! ### Activation, takeover and handover (R278, R292, R295) -/

/-- PAIR_ACTIVATE (R278, Table 09.3): ACT_OUT rises at the next boundary R272 allows. -/
def execPairActivate (tag : Fin 128) (s : State) : Host.Outcome State Fault Refusal :=
  let low := match s.pair.lowSince with
    | some t => decide (t + 16000 ≤ s.now)
    | none => false
  serve 0x0901 tag s fun e =>
    if !(s.pairState == 1 || s.pairState == 2) || !low then s.done e.tag FS.FS_PAIR_ROLE
    else (s.start e.tag).modPair fun p => { p with wantAct := true }

/-- A waiting activation at a boundary: it acts, fails when PARTNER_ACT no longer counts as low, or waits. -/
def State.activateTick (s : State) : State := match s.waitingOp 0x0901 with
  | none => s
  | some e =>
    if s.pair.lowSince.isNone || !(s.pairState == 1 || s.pairState == 2) then
      (s.modPair fun p => { p with wantAct := false }).doneAt e.tag FS.FS_PAIR_ROLE
    else if s.actMayRise then s.becomeActive.doneAt e.tag FS.FS_OK
    else s

/-- TAKEOVER (R292): a standby raises ACT_OUT at the first boundary R272 allows. -/
def execTakeover (s : State) : Host.Outcome State Fault Refusal :=
  .next (if s.pairState == 3 && s.pair.takeDue && s.actMayRise then
      (s.becomeActive.count F.PAIR_CNT_TAKEOVERS 0).post EV.EV_TAKEOVER noUnit 0
    else s)

/-- PAIR_HANDOVER (R295): the handover period is named in the mirror header. -/
def execPairHandover (tag : Fin 128) (s : State) : Host.Outcome State Fault Refusal :=
  serve 0x0902 tag s fun e =>
    if !s.isActive then s.done e.tag FS.FS_PAIR_ROLE
    else if !s.flag F.PAIR_STATUS_PARTNER_READY 0 then s.done e.tag FS.FS_PAIR_NOT_READY
    else if s.pair.handover.isSome then s.done e.tag FS.FS_BUSY
    else (s.start e.tag).modPair fun p => { p with handover := some s.pairAhead }

/-- HANDOVER_RELEASE (R295): ACT_OUT falls after the boundary of period n; the command waits until the partner reports ACTIVE. -/
def execHandoverRelease (s : State) : Host.Outcome State Fault Refusal :=
  .next (match s.pair.handover with
    | some n =>
      if s.isActive && decide (n ≤ s.pnumOut) && s.flag F.PAIR_STATUS_ACT_OUT 0 then
        (s.releaseAct.count F.PAIR_CNT_HANDOVERS 0).post EV.EV_HANDOVER noUnit (n % 2 ^ 32)
      else s
    | none => s)

/-- The partner reports ACTIVE: a handover command completes with its period (R295). -/
def State.handoverEnd (s : State) : State := match s.waitingOp 0x0902 with
  | some e =>
    if s.isActive then s
    else (s.modPair fun p => { p with handover := none }).complete e.tag FS.FS_OK (s.pair.handover.getD 0) [] []
  | none => s

/-- What the partner last said of its state (R279). -/
def State.peerSays (s : State) (st gait : Nat) (digest : Word) : State :=
  let s1 := (s.setFld F.PAIR_STATUS_PEER_STATE 0 st).modPair fun p => { p with peerGait := gait, peerDigest := digest }
  if st = 4 then s1.handoverEnd else s1

/-! ### Scheduled changes (R281) and the standby's GDEN (R282) -/

/-- A change takes effect on this unit. -/
def State.pairChange (s : State) (c : PairSched) : State :=
  match c.kind with
  | 0 => s.stageRate c.period c.div
  | 2 => s.clearLanes c.lanes 1
  | 3 => s.clearLanes c.lanes 2
  | _ => s

/-- The change is due: a rate travels in the bundle of the period before n, a gate-driver clear acts at n; a swap has a command of its
own. -/
def State.changeDue (s : State) (c : PairSched) : Bool :=
  if c.kind = 0 then decide (c.n ≤ s.pnumOut + 1) else c.kind != 1 && decide (c.n ≤ s.pnumOut)

/-- SCHEDULED_PAIR_CHANGE (R281). -/
def execScheduledPairChange (s : State) : Host.Outcome State Fault Refusal :=
  let due := s.pair.sched.filter s.changeDue
  .next (due.foldl State.pairChange (s.modPair fun p => { p with sched := p.sched.filter fun c => !s.changeDue c }))

/-- STANDBY_GDEN_DROP (R282): PARTNER_ACT has counted as low for 10 us + 2 T_RG0, and the unit has not raised ACT_OUT in that time. -/
def execStandbyGdenDrop (s : State) : Host.Outcome State Fault Refusal :=
  .next (match s.pair.lowSince with
    | some t =>
      let rose := match s.pair.roseAt with
        | some r => decide (t ≤ r)
        | none => false
      if s.pairState == 3 && decide (t + 80000 + 2 * s.fineP ≤ s.now) && !rose then (s.modPair fun p => { p with gdenDrop := true }).gdenCmd
      else s
    | none => s)

/-- The unit's GDEN pulse falls now (R326): the tile does not switch the test off, and TB2 is within the 2 us that begin 0.5 s into an even second
with PRIO = 0, into an odd one with PRIO = 1. -/
def State.pulseTime (s : State) : Bool :=
  let t := vget s.tb 2
  s.safD 0x44 1 1 == 1 && t.sec % 2 == b2n (s.flag F.PAIR_CFG_PRIO 0) && decide (500000000 ≤ t.ns) && decide (t.ns ≤ 500002000)

/-- GDEN_PULSE_TEST (R326): while the partner's report says it drives its GDEN pins, a driven pin that does not read low in its pulse is
cause 0x13. DEDUCED: the report gives the partner's state, and a unit in STANDBY or ACTIVE drives them (R281, R287; log entry 148). -/
def execGdenPulseTest (pins : BitVec 6) (s : State) : Host.Outcome State Fault Refusal :=
  let st := s.pairState
  let aligned := st == 3 || st == 4 || (st == 2 && s.pair.appliedAt.isSome)
  let peer := s.fld F.PAIR_STATUS_PEER_STATE 0
  .next (if s.pulseTime && aligned && (peer == 3 || peer == 4) && s.gdenDriven &&& pins.toNat != 0 then s.cause Cause.gdenReadback else s)

end Sys2Proof.Machine
end

