-- ==== Sys2Proof/Machine/Mirror.lean ====
section
/-!
DEFINITION. The mirror link (09): HELLO, blocks, credits, records sent and applied, status blocks and lost lanes.
-/
namespace Sys2Proof.Machine

/-! ### Records sent (R31, R288, R289) -/

/-- Words of a context's states in the record, by type (Table 09.6). -/
def mirrorWords (type n : Nat) : Nat :=
  match type with
  | 1 => 2
  | 2 => 4 * n
  | 3 => n
  | 4 => 6
  | 9 => 4
  | 10 => 2
  | 11 => 1
  | 12 => 1
  | _ => 0

/-- Words of context i's states in the record. -/
def State.mirrorLen (s : State) (i : Nat) : Nat := mirrorWords (s.cf F.CTX_CFG_TYPE i) (s.cf F.CTX_CFG_DIM_N i)

/-- Word w of member r of port p's family; 0 without one. -/
def State.famWord (s : State) (p : Nat) (r : Role) (w : Nat) : Word := match s.member p r with
  | some j => s.cword j w
  | none => 0#32

/-- RG0 periods that last x seconds, rounded up. -/
def State.ceilPeriods (s : State) (x : F32) : Nat :=
  let a := fDec x
  if a.neg || !fFinite x || s.fineP = 0 then 0
  else
    let num := 8000000000 * a.man * 2 ^ a.exp.toNat
    let den := s.fineP * 2 ^ (-a.exp).toNat
    (num + den - 1) / den

/-- The port section of port p. -/
def State.mirrorPort (s : State) (p : Fin 12) : MirrorPort :=
  let q := s.port p
  { port := p, state := s.pstate p, abort := s.fld F.PORT_STATUS_ABORT_CODE p, switching := q.switching
    theta := s.theta p, omega := unsigned 64 (s.rotorW p), e := s.famWord p .droop 49
    pf := s.famWord p .pq 49, qf := s.famWord p .pq 50, dP := q.dP0, dV := q.dV0
    bumpLeft := s.ceilPeriods (s.pw p 43) - q.bumpPeriods, rtv := s.govNow p
    govRamp := if p.val < 4 then (s.ob p).ramp.map fun k => (s.pwm.tk - k.1, k.2 - s.pwm.tk, (s.ob p).from0, (s.ob p).target)
      else none
    clPeriods := q.clPeriods, quiet := q.quiet, exitRamp := q.clRamp, run := s.fld F.PORT_ENV_RUN_LEN p
    target := q.target, slewed := q.slewed, integ := [s.famWord p .dcOuter 16, s.famWord p .dcOuter 17] }

/-- The context section of context i. -/
def State.mirrorCtx (s : State) (i : Fin 63) : MirrorCtx :=
  ⟨i, (s.ctx i).hist, (List.range (s.mirrorLen i)).map fun w => s.cword i (16 + w)⟩

/-- A scheduled change as a header announces it (R281). -/
def PairSched.announce (c : PairSched) : PairChange × Nat :=
  let k := match c.kind with
    | 0 => let d := c.div.getD []; PairChange.rate c.period (d.getD 1 1) (d.getD 2 1) (d.getD 3 1)
    | 1 => .swap
    | k => .gdClear (BitVec.ofNat 6 c.lanes) (k == 3)
  (k, c.n)

/-- Time base b minus TB1. -/
def State.tbOffset (s : State) (b : Nat) : Int := ((vget s.tb b).ticks : Int) - ((vget s.tb 1).ticks : Nat)

/-- The record of the RG1 period that ended with the boundary of pair period number n (Table 09.6). -/
def State.mirrorRecord (s : State) (n : Nat) : MirrorRecord := {
  pnum := n, gait := s.gait, period := s.period, div := s.cle.div, fmt := s.fld F.IDENT_BOOT_MIRROR_FMT 0
  cfgDigest := s.reg R.IDENT_CFG_DIGEST 0, changes := s.pair.sched.map PairSched.announce, handover := s.pair.handover
  slice := s.hlp.slice % 64, hlpCycle := s.hlp.snapCycle, retainId := s.hlp.prog.hdr 4 4
  ports := ((List.finRange 12).filter fun (p : Fin 12) => (s.port p).cfg.configured).map s.mirrorPort
  ctxs := ((List.finRange 63).filter fun (i : Fin 63) => s.ctxEn i && s.cflag F.CTX_CFG_MIRROR i).map s.mirrorCtx
  tb1 := (vget s.tb 1).ticks - 8192 * (s.now - s.pwm.tk), tb0 := s.tbOffset 0, tb2 := s.tbOffset 2, tb3 := s.tbOffset 3, locked := s.flag F.TB_STAT_LOCKED 0, alarms := s.stw.active
  hlp := if s.hlp.slice < 64 then Memory.getMany (fun _ => 0#8) s.hlp.snap (128 * s.hlp.slice) 128 else [] }

/-- A mirror block after SOF (R287): 16 bits of the pair period number, index, block count, 128 bytes of payload, CRC-32C. -/
def mirrorBlock (n i b : Nat) (payload : List Byte) : List Byte :=
  let body := leBytes 2 n ++ leBytes 1 i ++ leBytes 1 b ++ payload
  body ++ leBytes 4 (crc32c body).toNat

/-- The b blocks of a record. -/
def recordBlocks (r : MirrorRecord) (b : Nat) : List (List Byte) :=
  (List.range b).map fun i => mirrorBlock r.pnum i b ((List.range 128).map fun k => Config.recordByte r (128 * i + k))

/-- MIRROR_RECORD_SEND (R31, R288): the record of the RG1 period that has ended leaves when its credits are available. -/
def execMirrorRecordSend (s : State) : Host.Outcome State Fault Refusal :=
  let b := s.fld F.PAIR_CFG_RECORD_BLKS 0
  .next (match s.pair.recDue with
    | none => s
    | some n =>
      let s1 := s.modPair fun p => { p with recDue := none }
      if !s.isActive || !s.mirrorUp then s1
      else if b ≤ s.mirrorCredits then
        let r := s.mirrorRecord n
        ((s1.modPair fun p => { p with sentRec := some r, sentBlocks := recordBlocks r b, credits := p.credits - b }).modHlp fun h => { h with
          slice := min 64 (h.slice + 1) }).setFld F.MIRROR_STAT_LAST_PNUM 0 (n % 65536)
      else s1.count F.MIRROR_STAT_MIRROR_MISS 0)

/-- CREDIT_RECEIVED (R287, R288): a CREDIT set whose last symbol is the complement of N. -/
def execCreditReceived (lane : Fin 2) (n : Byte) (check : Byte) (s : State) : Host.Outcome State Fault Refusal :=
  .next (if s.isActive && s.laneState (6 + lane) == 4 && check == n ^^^ 0xFF#8 then
      s.modPair fun p => { p with credits := min 32 (p.credits + n.toNat) }
    else s)

/-! ### Blocks received (R286, R287) -/

/-- A block verifies: 136 bytes after the SOF, and the CRC-32C over bytes 0 to 131. -/
def mirrorOk (b : List Byte) : Bool := b.length == 136 && leAt b 132 4 == (crc32c (slice b 0 132)).toNat

/-- Credits to return leave as a CREDIT set on the first mirror lane that is UP (R287, R288). -/
def State.sendCredits (s : State) : State :=
  let n := s.pair.freed
  if n = 0 ∨ !s.mirrorUp then s
  else
    let l := if s.laneState 6 = 4 then 6 else 7
    let b := BitVec.ofNat 8 n
    s.modPair fun p => { p with freed := 0, sentCredits := p.sentCredits ++ [(l, [b, b ^^^ 0xFF#8])] }

/-- Free buffer slots: each returns a credit (R288). -/
def State.freeSlots (s : State) (n : Nat) : State := (s.modPair fun p => { p with freed := p.freed + n }).sendCredits

/-- A record is discarded (R288). -/
def State.missRecord (s : State) (n : Nat) : State := (s.freeSlots n).count F.MIRROR_STAT_MIRROR_MISS 0

/-- A block of another record ends the one being received; one that never completed is discarded. -/
def State.beginRecord (s : State) (num cnt : Nat) : State :=
  let p := s.pair
  if p.rxCount != 0 && p.rxNum == num then s
  else
    let s1 := if p.rxCount = 0 ∨ p.rxBlocks.length = p.rxCount then s else s.missRecord p.rxBlocks.length
    s1.modPair fun q => { q with rxNum := num, rxCount := cnt, rxBlocks := [] }

/-- The last own boundary minus the active unit's, from the arrival of block 0's SOF on a lane of latency L, `sof` fine steps after the own
boundary: it left 128 ns after the active unit's (R285). -/
def sinceTheirs (lat : Nat) (sof : Int) : Int := ((lat + 1024 : Nat) : Int) - sof

/-- The skew: that of the own boundary nearest to the active unit's. -/
def skewOf (lat T : Nat) (sof : Int) : Int :=
  let r := sinceTheirs lat sof % (max 1 T : Nat)
  if r + r < (T : Nat) then r else r - (T : Nat)

/-- How many periods that own boundary lies after the last one. -/
def nearestOf (lat T : Nat) (sof : Int) : Int := (skewOf lat T sof - sinceTheirs lat sof) / (max 1 T : Nat)

/-- The first verified copy of a block is kept; the last one completes the record. Block 0 gives the skew, the instant `theirs` of the active
unit's boundary and, as the boundary `near` periods after the last one, the own period number that goes with the record's (R284, R285). -/
def State.takeBlock (s : State) (b : List Byte) (skew near theirs : Int) : State :=
  let num := leAt b 0 2
  let i := leAt b 2 1
  let s1 := s.beginRecord num (leAt b 3 1)
  if i ≥ s1.pair.rxCount ∨ s1.pair.rxBlocks.any (fun x => x.1 == i) then s1
  else
    let s2 := s1.modPair fun p => { p with rxBlocks := p.rxBlocks ++ [(i, b)] }
    let s3 := s2.cond (i == 0) fun t => (t.setFld F.PAIR_SKEW_SKEW 0 (unsigned 16 (clampInt (-32768) 32767 skew))).modPair fun p =>
      { p with rx0 := some ((t.pwm.pnum : Int) + near).toNat, rx0At := theirs, skewLeft := skew }
    if s3.pair.rxBlocks.length = s3.pair.rxCount then
      let s4 := match s3.pair.rxDone with
        | some d => s3.missRecord d.2
        | none => s3
      s4.modPair fun p => { p with rxDone := some (p.rxNum, p.rxCount), rxAt := s.pwm.bnd }
    else s3

/-- MIRROR_BLOCK_RECEIVED (R285, R286, R287): the first copy of a block that verifies counts, from either lane; `sof` is the arrival of its
SOF after the own RG0 boundary, in fine steps. Index 0xFF is a status block, whose content acts by STANDBY_STATUS_RECEIVED. -/
def execMirrorBlockReceived (lane : Fin 2) (bytes : List Byte) (sof : Int) (s : State) : Host.Outcome State Fault Refusal :=
  let l := 6 + lane.val
  .next (
    if s.laneState l != 4 then s
    else if !mirrorOk bytes then s.count F.MIRROR_STAT_BLK_ERR 0
    else
      let s1 := s.modPair fun p => { p with blockAt := p.blockAt.set lane s.pwm.bnd }
      if leAt bytes 2 1 = 255 ∨ s.pairState = 0 ∨ s.isActive then s1
      else
        let lat := s.fld F.GL_DELAY_L_MEAS l
        s1.takeBlock bytes (skewOf lat s.fineP sof) (nearestOf lat s.fineP sof) ((s.pwm.tk : Int) - sinceTheirs lat sof))

/-! ### Records applied (R281, R284, R289, R291, R295, R428) -/

/-- Write words to the state area of member r of port p's family, its latch with them, and clear its HIST_COLD. -/
def State.putFam (s : State) (p : Nat) (r : Role) (l : List Word) : State := match s.member p r with
  | some j =>
    let t := s.setCwords j 16 l
    (t.modCtx j fun c => { c with latchAngle := t.state64 j }).warm j
  | none => s

/-- Words 2 k, 2 k + 1 of a 64-bit number. -/
def pairOf (v : Nat) : List Word := [BitVec.ofNat 32 v, BitVec.ofNat 32 (v / 2 ^ 32)]

/-- The port's state as the active unit gives it; a RAMPDOWN first seen here runs over the port's SRS_T. -/
def State.mirrorState (s : State) (r : MirrorPort) : State :=
  let p := r.port.val
  let ramp := r.state == PS.rampdown && s.pstate p != PS.rampdown
  let s1 := (s.setFld F.PORT_STATUS_STATE p r.state).setFld F.PORT_STATUS_ABORT_CODE p r.abort
  (s1.cond (r.state != s.pstate p) State.portMoved).modPort p fun q => { q with
    switching := r.switching, dP0 := r.dP, dV0 := r.dV, bumpPeriods := s.ceilPeriods (s.pw p 43) - r.bumpLeft
    clPeriods := r.clPeriods, quiet := r.quiet, clRamp := r.exitRamp, target := r.target, slewed := r.slewed
    slaved := r.state == PS.matching, rdPeriods := if ramp then 0 else q.rdPeriods
    rdTotal := if ramp then s.srsT p else q.rdTotal, scale := if r.state == PS.rampdown then q.scale else f1 }

/-- One port section, m RG0 periods after its boundary (R291): theta goes on at the record's frequency. -/
def State.applyPort (s : State) (m : Nat) (r : MirrorPort) : State :=
  let p := r.port.val
  let inc := turnInc (s.pw p 2) (signed 64 r.omega) (m * s.cle.rgT.getD 0 0)
  let s1 := (s.mirrorState r).setFld F.PORT_ENV_RUN_LEN p r.run
  let s2 := (s1.putFam p .angle (pairOf (addTurn r.theta inc))).putFam p .rotor (pairOf r.omega)
  let s3 := (s2.putFam p .pq [r.pf, r.qf]).putFam p .dcOuter (r.integ.take 2)
  let s4 := match s3.member p .droop with
    | some j => (s3.setCword j 49 r.e).warm j
    | none => s3
  let s5 := s4.govWrite p r.rtv
  s5.cond (decide (p < 4)) fun t => (t.modObs p fun o => { o with
    ramp := r.govRamp.map fun k => (t.pwm.tk - k.1, t.pwm.tk + k.2.1)
    from0 := (r.govRamp.map (·.2.2.1)).getD o.from0, target := (r.govRamp.map (·.2.2.2)).getD o.target }).setFlag
      F.GOV_STATUS_RAMPING p r.govRamp.isSome

/-- One context section. -/
def State.applyCtx (s : State) (r : MirrorCtx) : State :=
  let i := r.ctx.val
  if !s.ctxEn i then s
  else (((s.setCwords i 16 (r.words.take (s.mirrorLen i))).modCtx i fun c => { c with hist := r.hist }).warm i).showHist i

/-- A time base takes the active unit's value: its TB1 at its boundary that block 0 of the record followed, an offset from it, and the time since.
DEDUCED: R285 and R428 give the outcome, and Table 09.6 carries offsets from TB1 alone (log entry 152). -/
def State.steerTb (s : State) (r : MirrorRecord) (b : Nat) (d : Int) : State :=
  let v := (r.tb1 : Int) + d + 8192 * ((s.now : Int) - s.pair.rx0At)
  s.modTb b fun t => { t with ticks := v.toNat, sub := 0, jumped := t.jumped + (v - (t.ticks : Int)), adj := t.adj.map fun a => (a.1, 0) }

/-- The time section (R428). -/
def State.applyTime (s : State) (r : MirrorRecord) : State :=
  let s1 := (s.steerTb r 2 r.tb2).steerTb r 3 r.tb3
  if s.ptpPort 8 && s.flag F.TB_STAT_LOCKED 0 && !s.ptp.fromPeer then s1
  else ((s1.steerTb r 0 r.tb0).modPtp fun p => { p with fromPeer := true }).setTbLock r.locked

/-- A change a header announces (R281); an announced swap starts the verification of the own inactive bank. -/
def State.applyChange (s : State) (x : PairChange × Nat) : State :=
  let n := x.2
  let k : PairSched := match x.1 with
    | .rate p a b d => ⟨n, 0, p, some [1, a, b, d], 0⟩
    | .swap => ⟨n, 1, none, none, 0⟩
    | .gdClear l up => ⟨n, if up then 3 else 2, none, none, l.toNat⟩
  if s.pair.sched.any (fun y => y.n == n && y.kind == k.kind && y.lanes == k.lanes) || decide (n < s.pnumOut) then s
  else
    let s1 := s.modPair fun p => { p with sched := p.sched ++ [k] }
    if k.kind = 1 ∧ !s.flag F.COEF_STATUS_SWAP_PEND 0 then s1.setFlag F.COEF_STATUS_SWAP_PEND 0 true else s1

/-- One HLP slice (R291): slices of one snapshot are collected, and their layout is the partner's. -/
def State.applySlice (s : State) (r : MirrorRecord) : State :=
  let t := s.modPair fun p => { p with peerRetain := some r.retainId }
  if r.hlp.isEmpty then t
  else t.modHlp fun h =>
    let old := if h.gotCycle = r.hlpCycle then h.got else []
    { h with gotCycle := r.hlpCycle, got := (old.filter fun x => x.1 != r.slice) ++ [(r.slice, r.hlp)] }

/-- PNUM_OFS is fixed from the first verified header of a unit in SYNCING (R284). -/
def State.fixOffset (s : State) (r : MirrorRecord) : State := match s.pair.rx0 with
  | some k =>
    if s.pair.offFixed || s.pairState != 2 then s
    else
      let d : Int := (r.pnum : Int) - (k : Nat)
      (s.modPair fun p => { p with off := d, offFixed := true }).setFld F.PAIR_SKEW_PNUM_OFS 0 (unsigned 16 d)
  | none => s

/-- MIRROR_RECORD_APPLY (R31, R284, R289, R291): the record that waits is applied at the first boundary after it verified, before the
contexts run. -/
def execMirrorRecordApply (rec : MirrorRecord) (s : State) : Host.Outcome State Fault Refusal :=
  .next (match s.pair.rxDone with
    | none => s
    | some (num, b) =>
      if !(s.pairState == 2 || s.pairState == 3) || num != rec.pnum % 65536 || decide (s.pwm.bnd ≤ s.pair.rxAt) then s
      else
        let s1 := s.fixOffset rec
        let m := s1.pnumOut - rec.pnum
        let s2 := rec.ctxs.foldl State.applyCtx (rec.ports.foldl (fun t r => t.applyPort m r) s1)
        let s3 := (rec.changes.foldl State.applyChange (s2.applyTime rec)).applySlice rec
        let s4 := (s3.peerSays 4 rec.gait rec.cfgDigest).modPair fun p => { p with
          rxDone := none, appliedAt := some s.pwm.bnd, alarms := rec.alarms, handover := rec.handover }
        (s4.setFld F.MIRROR_STAT_LAST_PNUM 0 (rec.pnum % 65536)).freeSlots b)

/-! ### Status blocks, HELLO and lost lanes (R279, R286, R287) -/

/-- What the own status block says. -/
def State.statusBlock (s : State) : PeerStatus := {
  state := s.pairState, nr := BitVec.ofNat 8 s.nrBits, gait := s.gait, cfgDigest := s.reg R.IDENT_CFG_DIGEST 0
  skew := signed 16 (s.fld F.PAIR_SKEW_SKEW 0) }

/-- A status block after SOF: block index 0xFF, and the pair period number of the boundary that ended the last RG1 period (R287). -/
def statusBytes (x : PeerStatus) (n : Nat) : List Byte :=
  mirrorBlock n 0xFF Config.statusCount.toNat ((List.range 128).map (Config.statusByte x))

/-- STANDBY_STATUS_SEND (R287): one status block in an RG1 period. -/
def execStandbyStatusSend (s : State) : Host.Outcome State Fault Refusal :=
  .next (if (s.pairState == 2 || s.pairState == 3) && s.mirrorUp && s.pair.statusDue then
      s.modPair fun p => { p with
        sentStatus := some s.statusBlock, statusDue := false, sentStatusBlock := statusBytes s.statusBlock (s.cle.rgAt.getD 1 (0, 0)).1 }
    else s)

/-- STANDBY_STATUS_RECEIVED (R279). -/
def execStandbyStatusReceived (st : PeerStatus) (s : State) : Host.Outcome State Fault Refusal :=
  .next (if s.pairState = 0 ∨ !s.mirrorUp then s
    else
      let s1 := (s.peerSays (st.state % 8) st.gait st.cfgDigest).modPair fun p => { p with peerAt := some s.pwm.bnd }
      s1.setFlag F.PAIR_STATUS_PARTNER_READY 0 (decide (st.state = 3)))

/-- HELLO_RECEIVED (Table 09.4): the lane goes to UP when the major versions are equal and UNIT_ID and PRIO differ. -/
def execHelloReceived (lane : Fin 2) (h : Hello) (s : State) : Host.Outcome State Fault Refusal :=
  let l := 6 + lane.val
  let ok := h.fmtMajor == s.fld F.IDENT_BOOT_MIRROR_FMT 0 && h.unitId != s.fld F.LANE_CFG_UNIT_ID l
    && h.prio != s.flag F.PAIR_CFG_PRIO 0
  .next (
    if s.laneState l != 3 || s.pairState = 0 then s
    else
      let s1 := s.modPair fun p => { p with
        helloBad := p.helloBad.set lane (!ok), peerDigest := h.cfgDigest, peerId := some h.unitId, blockAt := p.blockAt.set lane s.pwm.bnd }
      if ok then (s1.toLane l 4).sendCredits else s1)

/-- MIRROR_LANE_LOST (R286, Table 09.4): LOS, LOL, loss of ALIGNED, or no verified block for 4 RG1 periods. -/
def execMirrorLaneLost (lane : Fin 2) (s : State) : Host.Outcome State Fault Refusal :=
  let l := 6 + lane.val
  let silent := decide (s.pair.blockAt.getD lane 0 + 4 * s.divOf 1 < s.pwm.bnd)
  let bad := s.flag F.LANE_STAT_LOS l || s.flag F.LANE_STAT_LOL l || !s.flag F.LANE_STAT_ALIGNED l
  .next (if (s.laneState l == 3 || s.laneState l == 4) && (bad || silent) then
      (s.toLane l 5).post EV.EV_MIRROR_LANE l 0
    else s)

end Sys2Proof.Machine
end

