-- ==== Sys2Proof/Machine/Clock.lean ====
section
/-!
DEFINITION. Clocks (17): the reference, loss and lock of the PLLs, band searches, CLK_OK, the DLL and Limp, SYNC_IN, wake from
Paddock, and bank supplies (21).
-/
namespace Sys2Proof.Machine

/-! ### CLK_OK (R468, R469) -/

/-- A MAC's link goes down with its clock. -/
def State.linkDown (s : State) (m : Nat) : State :=
  if s.flag F.MAC_STAT_LINK m then
    ((s.setFlag F.MAC_STAT_LINK m false).setFld F.MAC_STAT_SPEED m 3).post EV.EV_LINK m 0x300
  else s

/-- CLK_OK of domain d clears: its clock is gated off (R469). NET carries the time bases on AON (Table 15.4). -/
def State.clearClk (s : State) (d : Nat) : State :=
  if !s.clkOk d then s
  else
    let s1 := s.clkBit d false
    match d with
    | 4 => s1.genStop
    | 6 => s1.forUnits 8 fun t l => t.laneStops l
    | 7 => ((s1.forUnits 4 fun t b => t.setFlag F.TB_STAT_AON_CARRIED b true).dropLock).forUnits 3 fun t m => t.linkDown m
    | _ => s1

/-- CLK_OK of domain d sets: its clock returns and the blocks it held are released (R469, R483). -/
def State.setClk (s : State) (d : Nat) : State :=
  let s1 := s.clkBit d true
  let mine := s1.boot.held.filter fun b => blockDomain b.1 == d
  let s2 := s1.modBoot fun b => { b with held := b.held.filter fun x => blockDomain x.1 != d }
  let s3 := (mine.foldl (fun t b => t.releaseBlock b.1 b.2) s2).waitClk
  if d = 2 then s3.svpResume else if d = 4 then s3.genGo else if d = 7 then s3.forUnits 4 fun t b => t.setFlag F.TB_STAT_AON_CARRIED b false else s3

/-- The source of domain d is locked (R468). -/
def State.sourceOk (s : State) (d : Nat) : Bool :=
  if d < 2 then true
  else if d < 6 then (if s.flag F.CLK_STAT_LIMP 0 then s.flag F.CLK_STAT_PAIRCLK_OK 0 else s.locked 0)
  else s.locked (d - 5)

/-- CLK_OK_CHANGE (R468): a window ends. AON always has a source. -/
def execClkOkChange (dom : Fin 8) (ok : Bool) (s : State) : Host.Outcome State Fault Refusal :=
  .next (if ok then (if s.sourceOk dom && !s.clkOk dom then s.setClk dom else s)
    else if dom.val = 0 then s else s.clearClk dom)

/-! ### Loss and lock (R458, R462, R471) -/

/-- A pending gait change is discarded, and its command completes with FS_BUSY (R471). -/
def State.dropGait (s : State) : State := match s.waitingOp 0x0203 with
  | some e => (((s.setFlag F.GAIT_STATUS_PEND_VALID 0 false).setFld F.GAIT_STATUS_GAIT_PEND 0 0).modClk fun c =>
      { c with wakeEarly := false }).done e.tag FS.FS_BUSY
  | none => s

/-- PLL-M no longer drives its domains: Limp when it is available, else their clocks stop (R470, R471). In Limp its loss discards a pending
gait change, which would return to it (R471, R472). -/
def State.loseM (s : State) : State :=
  if s.flag F.CLK_STAT_LIMP 0 then s.dropGait
  else if s.flag F.CLK_CFG_LIMP_EN 0 && s.flag F.CLK_STAT_DLL_LOCK 0 then
    let s0 := ((s.setFlag F.CLK_STAT_LIMP 0 true).setFlag F.DLL_STAT_FROZEN 0 true).modClk fun c => { c with limpDue := true }
    (s0.sdRestartAll s0.now).dropGait
  else (((((s.setFlag F.CLK_STAT_DLL_LOCK 0 false).clearClk 2).clearClk 3).clearClk 4).clearClk 5)

/-- The domains PLL p drives lose their source. -/
def State.losePll (s : State) (p : Nat) : State := if p = 0 then s.loseM else s.clearClk (5 + p)

/-- REFCLK_LOSS (R458): every PLL stops. -/
def execRefclkLoss (s : State) : Host.Outcome State Fault Refusal :=
  .next (
    if !s.flag F.CLK_STAT_REF_OK 0 then s
    else
      let s1 := ((s.setFlag F.CLK_STAT_REF_OK 0 false).setFlag F.CLK_STAT_AON_RC 0 true).post EV.EV_CLK_LOSS 0 0
      let s2 := s1.stopPlls
      [0, 1, 2].foldl (fun (t : State) p => if s.locked p then t.losePll p else t) s2)

/-- REFCLK_RESTORED (R458): after 1 000 edges the PLLs start again, except in Paddock. -/
def execRefclkRestored (s : State) : Host.Outcome State Fault Refusal :=
  .next (
    if s.flag F.CLK_STAT_REF_OK 0 then s
    else
      let s1 := (s.setFlag F.CLK_STAT_REF_OK 0 true).setFlag F.CLK_STAT_AON_RC 0 false
      if (s.gait = Gait.paddock ∧ !s.clk.wake) ∨ s.boot.reach.isSome then s1 else s1.startPlls)

/-- PLL_LOSS_OF_LOCK (R462): posted, counted, and a relock starts. -/
def execPllLossOfLock (p : Pll) (s : State) : Host.Outcome State Fault Refusal :=
  let k := pllNo p
  .next (
    if !s.locked k then s
    else
      let s1 := ((s.setFlag (lockFld k) 0 false).post EV.EV_CLK_LOSS (1 + k) 0).count (lossFld k) 0
      (s1.startAttempt k s1.tempNow).losePll k)

/-- PLL_LOCK (R462 to R464): the dividers are released together; with SYNC_EN = 0 the first release of PLL-M's places the grid. -/
def execPllLock (p : Pll) (s : State) : Host.Outcome State Fault Refusal :=
  let k := pllNo p
  let a := s.attempt k
  .next (
    if s.locked k || a == .idle || a == .failed then s
    else
      let s1 := (s.setFlag (lockFld k) 0 true).setAttempt k (if a = .search then .search else .idle)
      if k = 0 ∧ !s.flag F.CLK_CFG_SYNC_EN 0 ∧ s.clk.grid.isNone then s1.modClk fun c => { c with grid := some ((s.now + 319) / 320 % 25) }
      else s1)

/-- PLL_HOP_TIMEOUT (R467): 20 us without lock invalidates the slot, and a full search runs. -/
def execPllHopTimeout (p : Pll) (s : State) : Host.Outcome State Fault Refusal :=
  let k := pllNo p
  .next (match s.attempt k with
    | .hop j => (s.setFlag (slotFld F.PLL_SLOT_VALID j) 0 false).setAttempt k .search
    | _ => s)

/-- Write a band into slot k. -/
def State.writeSlot (s : State) (k band temp : Nat) : State :=
  ((s.setFlag (slotFld F.PLL_SLOT_VALID k) 0 true).setFld (slotFld F.PLL_SLOT_BAND k) 0 band).setFld (slotFld F.PLL_SLOT_TEMP k) 0 temp

/-- BAND_SEARCH_COMPLETE (R467): the band goes into an invalid slot, else into the one nearest in temperature. -/
def execBandSearchComplete (p : Pll) (band : Option (Fin 64)) (temp : Byte) (s : State) : Host.Outcome State Fault Refusal :=
  let k := pllNo p
  let s1 := s.count F.CLK_CNT_SEARCH_CNT 0
  let slot := match (slotsOf k).find? fun j => !s.slotValid j with
    | some j => some j
    | none => s.nearest temp.toNat (slotsOf k)
  .next (
    if s.attempt k != .search then s
    else match band, slot with
      | some b, some j => (s1.writeSlot j b temp.toNat).setAttempt k (if s.locked k then .idle else .found)
      | _, _ => (s1.setAttempt k .failed).cond s.clk.wake fun t => t.setFlag F.CLK_STAT_WAKE_FAIL 0 true)

/-- BAND_SEARCH_RETRY (R467): 10 ms after a search without a band. -/
def execBandSearchRetry (p : Pll) (temp : Byte) (s : State) : Host.Outcome State Fault Refusal :=
  .next (if s.attempt (pllNo p) = .failed then s.startAttempt (pllNo p) temp.toNat else s)

/-! ### DLL, SYNC_IN (R464, R465, R470) -/

/-- DLL_TAP_UPDATE (R470): while PLL-M is locked and PAIRCLK is good the DLL tracks; DLL_LOCK within ±100 ps. -/
def execDllTapUpdate (tap : Fin 64) (errPs : Int) (s : State) : Host.Outcome State Fault Refusal :=
  .next (if s.locked 0 && s.flag F.CLK_STAT_PAIRCLK_OK 0 && !s.flag F.DLL_STAT_FROZEN 0 then
      (s.setFld F.DLL_STAT_TAP 0 tap).setFlag F.CLK_STAT_DLL_LOCK 0 (decide (errPs.natAbs ≤ 100))
    else s)

/-- PAIRCLK_OK_CHANGE (R470, R471): its loss in Limp stops the domains the DLL drives. -/
def execPairclkOkChange (ok : Bool) (s : State) : Host.Outcome State Fault Refusal :=
  let s1 := s.setFlag F.CLK_STAT_PAIRCLK_OK 0 ok
  .next (
    if ok then s1
    else
      let s2 := s1.setFlag F.CLK_STAT_DLL_LOCK 0 false
      if s.flag F.CLK_STAT_LIMP 0 then (((s2.clearClk 2).clearClk 3).clearClk 4).clearClk 5 else s2)

/-- SYNC_IN_EDGE (R464, R465): refPhase is the REFCLK edge that samples it, modulo 25. The first edge places the grid unless the PWM timebase
runs on it already; an edge off the grid after that is an error, and the grid stays. DEDUCED: R465 says that the grid never moves once the
timebase runs; the model does not move it for a later edge before that either (log entry 145). -/
def execSyncInEdge (refPhase : Fin 25) (s : State) : Host.Outcome State Fault Refusal :=
  .next (
    if !s.flag F.CLK_CFG_SYNC_EN 0 then s
    else if s.clk.grid.isNone || (!s.pwm.ran && !s.clk.gridSync) then s.modClk fun c => { c with grid := some refPhase.val, gridSync := true }
    else if s.clk.grid = some refPhase.val then s
    else (s.setFlag F.CLK_STAT_SYNC_ERR 0 true).post EV.EV_SYNC_ERR noUnit 0)

/-! ### Wake (R474, R475) -/

/-- A wake source's bit among WAKE_STAT bits 31:26, and whether WAKE_CFG enables it. -/
def State.wakeBit (s : State) : WakeSrc → Nat × Bool
  | .pin => (5, s.flag F.WAKE_CFG_EN_PIN 0)
  | .qspi => (4, s.flag F.WAKE_CFG_EN_QSPI 0)
  | .can0 => (3, s.flag F.WAKE_CFG_EN_CAN0 0)
  | .can1 => (2, s.flag F.WAKE_CFG_EN_CAN1 0)
  | .di _ => (1, s.flag F.WAKE_CFG_EN_DI 0)
  | .alarm => (0, s.flag F.WAKE_CFG_EN_ALARM 0)

/-- An input outside DI_MASK is no source; the alarm needs TB1 seconds at WAKE_ALARM or beyond (Table 17.4). -/
def State.wakeReal (s : State) : WakeSrc → Bool
  | .di n => bitOf (s.fld F.WAKE_CFG_DI_MASK 0) n
  | .alarm => decide (s.fld F.WAKE_ALARM_ALL 0 ≤ (vget s.tb 1).sec % 2 ^ 32)
  | _ => true

/-- WAKE_SOURCE (R474). -/
def execWakeSource (src : WakeSrc) (s : State) : Host.Outcome State Fault Refusal :=
  let b := s.wakeBit src
  let w := s.fld F.WAKE_STAT_LATCHED 0
  let s1 := s.setFld F.WAKE_STAT_LATCHED 0 (if bitOf w b.1 then w else w + 2 ^ b.1)
  let coming := s.flag F.GAIT_STATUS_PEND_VALID 0 && s.fld F.GAIT_STATUS_GAIT_PEND 0 == Gait.paddock
  .next (
    if !s.wakeReal src then s
    else if !b.2 then s1
    else if s.gait = Gait.paddock then (if s.clk.wake then s1 else s1.startWake)
    else if coming then s1.modClk fun c => { c with wakeEarly := true }
    else s1)

/-- Every PLL is locked. -/
def State.allLocked (s : State) : Bool := s.locked 0 && s.locked 1 && s.locked 2

/-- WAKE_COMPLETE (R37, R475): Walk, whose first RG0 boundary comes next; the sigma-delta chain restarts, AIN_SAMP reads EMPTY, the
HLP restarts, the mailboxes reopen. -/
def execWakeComplete (s : State) : Host.Outcome State Fault Refusal :=
  .next (
    if s.gait != Gait.paddock || !s.clk.wake || !s.allLocked || s.fld F.CLK_STAT_CLK_OK 0 != 0xFF then s
    else
      let s1 := (s.modClk fun c => { c with wake := false, wakeEarly := false }).setGait Gait.walk
      let s2 := (s1.post EV.EV_GAIT_CHANGE noUnit (Gait.paddock + 256 * Gait.walk)).post EV.EV_WAKE noUnit
        (s.fld F.WAKE_STAT_LATCHED 0)
      let s3 := (s2.setFlag F.CLK_STAT_WAKE_FAIL 0 false).count F.WAKE_STAT_WAKE_CNT 0
      let s4 := (s3.forUnits 64 fun t n => (t.setFlag F.AIN_SAMP_EMPTY n true).setFld F.AIN_SAMP_CODE n 0).sdRestartAll s3.now
      ({ s4 with win := { s4.win with ready := true } }.forUnits 8 fun t m => t.box m fun b =>
        { b with isOpen := !b.restarting }).svpResume.hlpWake)

/-- WAKE_FAIL (R475): a PLL has not locked within 440 us; the device stays in Paddock. -/
def execWakeFail (s : State) : Host.Outcome State Fault Refusal :=
  .next (if s.gait == Gait.paddock && s.clk.wake && !s.allLocked then s.setFlag F.CLK_STAT_WAKE_FAIL 0 true else s)

/-! ### Bank supplies (R530, R531) -/

/-- BANK_PRESENCE_CHANGE (R530, R531): an absent VIOA floats the GDEN balls to their pull-downs; its return applies the driven
levels. -/
def execBankPresenceChange (bankB present : Bool) (s : State) : Host.Outcome State Fault Refusal :=
  let driven := if s.fld F.GL_GDEN_STEW_LOW 0 = 0 then s.fld F.GL_GDEN_CMD 0 else 0
  .next (if bankB then s.modClk fun c => { c with bankB := present }
    else (s.modClk fun c => { c with bankA := present }).setFld F.GL_GDEN_PIN 0 (if present then driven else 0))

end Sys2Proof.Machine
end

