-- ==== Sys2Proof/Machine/Crypto.lean ====
section
/-!
DEFINITION. The functions that R408 and R417 name: SHA-384 with SHA-256 and SHA-512 beside it (FIPS 180-4), RSASSA-PSS (RFC 8017) and
SLH-DSA-SHA2-192s (FIPS 205). The manual names them and leaves their text to those standards (PRESUMED, log entry 150).
-/
namespace Sys2Proof.Machine

/-- The big-endian number of a byte string. -/
def beNat (l : List Byte) : Nat := l.foldl (fun n b => 256 * n + b.toNat) 0

/-- The n low bytes of v, most significant first. -/
def beBytes (n v : Nat) : List Byte := (List.range n).map fun i => BitVec.ofNat 8 (v / 256 ^ (n - 1 - i))

/-- Piece i of n bytes of a byte string. -/
def piece (n : Nat) (l : List Byte) (i : Nat) : List Byte := (l.drop (n * i)).take n

/-! ### SHA-2 (FIPS 180-4) -/

/-- A hash on words of w bits: initial value, round constants, three rotations each of Sigma0 and Sigma1, two rotations and a shift each of
sigma0 and sigma1. -/
structure Sha2 (w : Nat) where
  iv : List (BitVec w)
  k : List (BitVec w)
  up0 : Nat × Nat × Nat
  up1 : Nat × Nat × Nat
  lo0 : Nat × Nat × Nat
  lo1 : Nat × Nat × Nat

/-- Sigma0 and Sigma1. -/
def rotations {w : Nat} (r : Nat × Nat × Nat) (x : BitVec w) : BitVec w :=
  x.rotateRight r.1 ^^^ x.rotateRight r.2.1 ^^^ x.rotateRight r.2.2

/-- sigma0 and sigma1. -/
def rotationsShift {w : Nat} (r : Nat × Nat × Nat) (x : BitVec w) : BitVec w :=
  x.rotateRight r.1 ^^^ x.rotateRight r.2.1 ^^^ x >>> r.2.2

/-- One round: working variables a to h, and the 16 words of the schedule from this round's on. -/
def Sha2.round {w : Nat} (c : Sha2 w) (x : List (BitVec w) × List (BitVec w)) (k : BitVec w) : List (BitVec w) × List (BitVec w) :=
  match x.1 with
  | [a, b, d, e, f, g, h, i] =>
    let t1 := i + rotations c.up1 f + ((f &&& g) ^^^ (~~~f &&& h)) + k + x.2.headD 0
    let t2 := rotations c.up0 a + ((a &&& b) ^^^ (a &&& d) ^^^ (b &&& d))
    let new := rotationsShift c.lo1 (x.2.getD 14 0) + x.2.getD 9 0 + rotationsShift c.lo0 (x.2.getD 1 0) + x.2.headD 0
    ([t1 + t2, a, b, d, e + t1, f, g, h], x.2.tail ++ [new])
  | _ => x

/-- The next hash value from one block of 16 words. -/
def Sha2.block {w : Nat} (c : Sha2 w) (h : List (BitVec w)) (m : List Byte) : List (BitVec w) :=
  let words := (List.range 16).map fun i => BitVec.ofNat w (beNat (piece (w / 8) m i))
  h.zipWith (· + ·) (c.k.foldl c.round (h, words)).1

/-- A message with its padding: a 1 bit, zeros, and its length in bits in w / 4 bytes, to whole blocks of 2 w bytes. -/
def shaPad (w : Nat) (m : List Byte) : List Byte :=
  let z := (2 * w - (m.length + 1 + w / 4) % (2 * w)) % (2 * w)
  m ++ 0x80#8 :: List.replicate z 0#8 ++ beBytes (w / 4) (8 * m.length)

/-- The hash of a message. -/
def Sha2.hash {w : Nat} (c : Sha2 w) (m : List Byte) : List Byte :=
  let p := shaPad w m
  let h := (List.range (p.length / (2 * w))).foldl (fun h i => c.block h (piece (2 * w) p i)) c.iv
  h.flatMap fun x => beBytes (w / 8) x.toNat

/-- Round constants of SHA-384 and SHA-512. -/
def sha512K : List (BitVec 64) := [
  0x428A2F98D728AE22, 0x7137449123EF65CD, 0xB5C0FBCFEC4D3B2F, 0xE9B5DBA58189DBBC, 0x3956C25BF348B538, 0x59F111F1B605D019,
  0x923F82A4AF194F9B, 0xAB1C5ED5DA6D8118, 0xD807AA98A3030242, 0x12835B0145706FBE, 0x243185BE4EE4B28C, 0x550C7DC3D5FFB4E2,
  0x72BE5D74F27B896F, 0x80DEB1FE3B1696B1, 0x9BDC06A725C71235, 0xC19BF174CF692694, 0xE49B69C19EF14AD2, 0xEFBE4786384F25E3,
  0x0FC19DC68B8CD5B5, 0x240CA1CC77AC9C65, 0x2DE92C6F592B0275, 0x4A7484AA6EA6E483, 0x5CB0A9DCBD41FBD4, 0x76F988DA831153B5,
  0x983E5152EE66DFAB, 0xA831C66D2DB43210, 0xB00327C898FB213F, 0xBF597FC7BEEF0EE4, 0xC6E00BF33DA88FC2, 0xD5A79147930AA725,
  0x06CA6351E003826F, 0x142929670A0E6E70, 0x27B70A8546D22FFC, 0x2E1B21385C26C926, 0x4D2C6DFC5AC42AED, 0x53380D139D95B3DF,
  0x650A73548BAF63DE, 0x766A0ABB3C77B2A8, 0x81C2C92E47EDAEE6, 0x92722C851482353B] ++ [
  0xA2BFE8A14CF10364, 0xA81A664BBC423001, 0xC24B8B70D0F89791, 0xC76C51A30654BE30, 0xD192E819D6EF5218, 0xD69906245565A910,
  0xF40E35855771202A, 0x106AA07032BBD1B8, 0x19A4C116B8D2D0C8, 0x1E376C085141AB53, 0x2748774CDF8EEB99, 0x34B0BCB5E19B48A8,
  0x391C0CB3C5C95A63, 0x4ED8AA4AE3418ACB, 0x5B9CCA4F7763E373, 0x682E6FF3D6B2B8A3, 0x748F82EE5DEFB2FC, 0x78A5636F43172F60,
  0x84C87814A1F0AB72, 0x8CC702081A6439EC, 0x90BEFFFA23631E28, 0xA4506CEBDE82BDE9, 0xBEF9A3F7B2C67915, 0xC67178F2E372532B,
  0xCA273ECEEA26619C, 0xD186B8C721C0C207, 0xEADA7DD6CDE0EB1E, 0xF57D4F7FEE6ED178, 0x06F067AA72176FBA, 0x0A637DC5A2C898A6,
  0x113F9804BEF90DAE, 0x1B710B35131C471B, 0x28DB77F523047D84, 0x32CAAB7B40C72493, 0x3C9EBE0A15C9BEBC, 0x431D67C49C100D4C,
  0x4CC5D4BECB3E42B6, 0x597F299CFC657E2A, 0x5FCB6FAB3AD6FAEC, 0x6C44198C4A475817]

/-- Initial value of SHA-512. -/
def sha512Iv : List (BitVec 64) := [
  0x6A09E667F3BCC908, 0xBB67AE8584CAA73B, 0x3C6EF372FE94F82B, 0xA54FF53A5F1D36F1, 0x510E527FADE682D1, 0x9B05688C2B3E6C1F,
  0x1F83D9ABFB41BD6B, 0x5BE0CD19137E2179]

/-- Initial value of SHA-384. -/
def sha384Iv : List (BitVec 64) := [
  0xCBBB9D5DC1059ED8, 0x629A292A367CD507, 0x9159015A3070DD17, 0x152FECD8F70E5939, 0x67332667FFC00B31, 0x8EB44A8768581511,
  0xDB0C2E0D64F98FA7, 0x47B5481DBEFA4FA4]

/-- SHA-512 with an initial value. -/
def sha2Long (iv : List (BitVec 64)) : Sha2 64 := ⟨iv, sha512K, (28, 34, 39), (14, 18, 41), (1, 8, 7), (19, 61, 6)⟩

/-- SHA-256: its constants are the upper halves of those of SHA-512. -/
def sha2Short : Sha2 32 :=
  ⟨sha512Iv.map (·.extractLsb' 32 32), (sha512K.take 64).map (·.extractLsb' 32 32), (2, 13, 22), (6, 11, 25), (7, 18, 3), (17, 19, 10)⟩

/-- SHA-256, 32 bytes. -/
def sha256 (m : List Byte) : List Byte := sha2Short.hash m

/-- SHA-512, 64 bytes. -/
def sha512 (m : List Byte) : List Byte := (sha2Long sha512Iv).hash m

/-- SHA-384, 48 bytes. -/
def sha384 (m : List Byte) : List Byte := ((sha2Long sha384Iv).hash m).take 48

/-- MGF1 of a hash with h bytes: n bytes from a seed (RFC 8017, B.2.1). -/
def mgf1 (hash : List Byte → List Byte) (h : Nat) (seed : List Byte) (n : Nat) : List Byte :=
  ((List.range ((n + h - 1) / h)).flatMap fun i => hash (seed ++ beBytes 4 i)).take n

/-! ### RSASSA-PSS (RFC 8017, 8.1.2 and 9.1.2) -/

/-- x ^ e mod n over the bits of e, most significant first. -/
def modPow (n x : Nat) (bits : List Bool) : Nat :=
  bits.foldl (fun a b => let q := a * a % n; if b then q * x % n else q) (1 % n)

/-- The encoded message em of 384 bytes, of 3071 bits, is that of a message: SHA-384, MGF1 with SHA-384, a 48-byte salt. -/
def pssOk (m em : List Byte) : Bool :=
  let hh := (em.drop 335).take 48
  let db := ((em.take 335).zipWith (· ^^^ ·) (mgf1 sha384 48 hh 335)).mapIdx fun i b => if i = 0 then b &&& 0x7F#8 else b
  em.getD 383 0#8 == 0xBC#8 && (em.getD 0 0#8).toNat < 128 && (db.take 286).all (· == 0#8) && db.getD 286 0#8 == 1#8
    && sha384 (List.replicate 8 0#8 ++ sha384 m ++ db.drop 287) == hh

/-- RSASSA-PSS-VERIFY: key is the RSA-3072 modulus and its 4-byte exponent, both big-endian (Table 14.11). -/
def rsaVerify (key m sig : List Byte) : Bool :=
  let n := beNat (key.take 384)
  let e := beNat ((key.drop 384).take 4)
  let x := beNat sig
  decide (x < n) && pssOk m (beBytes 384 (modPow n x ((List.range 32).map fun i => e.testBit (31 - i))))

/-! ### SLH-DSA-SHA2-192s (FIPS 205): n = 24, h = 63, d = 7, h' = 9, a = 14, k = 17, lg w = 4, m = 39 -/

/-- A compressed address: layer, tree, type and the three words of the type. -/
def slhAdrs (layer tree type w1 w2 w3 : Nat) : List Byte :=
  beBytes 1 layer ++ beBytes 8 tree ++ beBytes 1 type ++ beBytes 4 w1 ++ beBytes 4 w2 ++ beBytes 4 w3

/-- F, with SHA-256. -/
def slhF (seed adrs m : List Byte) : List Byte := (sha256 (seed ++ List.replicate 40 0#8 ++ adrs ++ m)).take 24

/-- H and T, with SHA-512. -/
def slhH (seed adrs m : List Byte) : List Byte := (sha512 (seed ++ List.replicate 104 0#8 ++ adrs ++ m)).take 24

/-- base_2b: n numbers of b bits, from the most significant bit of a byte string on. -/
def base2b (l : List Byte) (b n : Nat) : List Nat :=
  (List.range n).map fun i => beNat l / 2 ^ (8 * l.length - b * (i + 1)) % 2 ^ b

/-- The root a leaf and its authentication path give: adrs takes the height and index of a node, idx is the leaf's index, and base the index of
the tree's first leaf. -/
def slhPath (seed : List Byte) (adrs : Nat → Nat → List Byte) (auth : List Byte) (height base idx : Nat) (leaf : List Byte) : List Byte :=
  (List.range height).foldl (fun node j =>
    let a := adrs (j + 1) ((base + idx) / 2 ^ (j + 1))
    let s := piece 24 auth j
    if idx / 2 ^ j % 2 = 0 then slhH seed a (node ++ s) else slhH seed a (s ++ node)) leaf

/-- fors_pkFromSig. -/
def forsKey (seed sig md : List Byte) (tree leaf : Nat) : List Byte :=
  let roots := ((base2b md 14 17).zipIdx.map fun x =>
    let s := piece 360 sig x.2
    let adrs := fun (height index : Nat) => slhAdrs 0 tree 3 leaf height index
    let base := 16384 * x.2
    slhPath seed adrs (s.drop 24) 14 base x.1 (slhF seed (adrs 0 (base + x.1)) (s.take 24))).flatten
  slhH seed (slhAdrs 0 tree 4 leaf 0 0) roots

/-- The 51 digits of a 24-byte message in base 16: 48 of its own and 3 of their checksum. -/
def wotsDigits (m : List Byte) : List Nat :=
  let d := base2b m 4 48
  let c := (d.map fun x => 15 - x).sum
  d ++ base2b (beBytes 2 (16 * c)) 4 3

/-- wots_pkFromSig. -/
def wotsKey (seed sig m : List Byte) (layer tree pair : Nat) : List Byte :=
  let ends := ((wotsDigits m).zipIdx.map fun x =>
    (List.range (15 - x.1)).foldl (fun t j => slhF seed (slhAdrs layer tree 0 pair x.2 (x.1 + j)) t) (piece 24 sig x.2)).flatten
  slhH seed (slhAdrs layer tree 1 pair 0 0) ends

/-- xmss_pkFromSig. -/
def xmssKey (seed sig m : List Byte) (layer tree idx : Nat) : List Byte :=
  slhPath seed (slhAdrs layer tree 2 0) (sig.drop 1224) 9 0 idx (wotsKey seed (sig.take 1224) m layer tree idx)

/-- ht_verify without its comparison: the root that seven layers give. -/
def hyperRoot (seed sig m : List Byte) (tree leaf : Nat) : List Byte :=
  let all := leaf + 512 * tree
  (List.range 7).foldl (fun node j => xmssKey seed (piece 1440 sig j) node j (all / 512 ^ (j + 1)) (all / 512 ^ j % 512)) m

/-- slh_verify in pure mode with an empty context string (R408): key is PK.seed and PK.root. -/
def slhVerify (key m sig : List Byte) : Bool :=
  let seed := key.take 24
  let root := (key.drop 24).take 24
  let r := sig.take 24
  let dig := mgf1 sha512 64 (r ++ seed ++ sha512 (r ++ seed ++ root ++ [0#8, 0#8] ++ m)) 39
  let tree := beNat ((dig.drop 30).take 7) % 2 ^ 54
  let leaf := beNat ((dig.drop 37).take 2) % 512
  sig.length == 16224 && hyperRoot seed (sig.drop 6144) (forsKey seed ((sig.drop 24).take 6120) (dig.take 30) tree leaf) tree leaf == root

end Sys2Proof.Machine
end

