-- ==== Sys2Proof/Machine/Update.lean ====
section
/-!
DEFINITION. Images and their slots (14, R407 to R411), the supervisor restart (R393), UPDATE and ATTEST commands (R410, R411, R416,
R417).
-/
namespace Sys2Proof.Machine

/-! ### Images (R407 to R409) -/

/-- The image bytes of a slot. -/
def SlotSt.image (x : SlotSt) : List Byte := Memory.getMany (fun _ => 0xFF#8) x.bytes 0 x.len

/-- Components of an image (Table 14.10): type, offset, length, version, SHA-384. -/
def imageComps (img : List Byte) : List (Nat × Nat × Nat × Nat × List Byte) :=
  (List.range (leAt img 14 1)).map fun i =>
    let o := 64 + 64 * i
    (leAt img o 1, leAt img (o + 4) 4, leAt img (o + 8) 4, leAt img (o + 12) 4, slice img (o + 16) 48)

/-- LENGTH of an image lies in its range (R407). -/
def imageLenOk (n : Nat) : Bool := n % 1024 == 0 && decide (20480 ≤ n) && decide (n ≤ 29360128)

/-- Two components do not share a byte. -/
def apart (a b : Nat × Nat × Nat × Nat × List Byte) : Bool :=
  decide (a.2.1 + a.2.2.1 ≤ b.2.1) || decide (b.2.1 + b.2.2.1 ≤ a.2.1)

/-- No two components overlap, and no type appears twice. -/
def compsApart : List (Nat × Nat × Nat × Nat × List Byte) → Bool
  | [] => true
  | c :: cs => cs.all (fun d => apart c d && c.1 != d.1) && compsApart cs

/-- Check 1 of R409: format, length and components. -/
def imageForm (img : List Byte) : Bool :=
  let cs := imageComps img
  let n := img.length
  imageLenOk n && leAt img 0 4 == 0x10000 && leAt img 4 4 == n && decide (4 ≤ leAt img 14 1) && decide (leAt img 14 1 ≤ 6)
    && cs.all (fun c => decide (1 ≤ c.1) && decide (c.1 ≤ 6) && c.2.1 % 1024 == 0 && decide (1024 ≤ c.2.1)
      && decide (c.2.1 + c.2.2.1 ≤ n - 17408))
    && compsApart cs && [1, 2, 3, 4].all (fun t => cs.any fun c => c.1 == t) && decide (leAt img 12 1 ≤ 63)

/-- Bytes of component t of an image; none when it has none. -/
def compOf (img : List Byte) (t : Nat) : Option (List Byte) :=
  ((imageComps img).find? fun c => c.1 == t).map fun c => slice img c.2.1 c.2.2.1

/-- Check 2 of R409: every component hash matches. -/
def imageHashes (img : List Byte) : Bool :=
  (imageComps img).all fun c => sha384 (slice img c.2.1 c.2.2.1) == c.2.2.2.2

/-- A key slot (RSA 0, 1; SLH-DSA 2, 3) is programmed with the hash of this key and not revoked (R495). -/
def State.keyOk (s : State) (slot : Nat) (key : List Byte) : Bool :=
  !s.boot.revoked.contains slot && Config.otpHash slot == some (sha384 key)

/-- Failures of R408 as bits. -/
def State.sigFails (s : State) (img : List Byte) : Nat :=
  let o := img.length - 17408
  let m := slice img 0 (o + 440)
  let rsa := slice img (o + 4) 388
  let slh := slice img (o + 392) 48
  let a := leAt img o 1
  let b := leAt img (o + 1) 1
  b2n (!(decide (a < 2) && s.keyOk a rsa)) + 2 * b2n (!(decide (b < 2) && s.keyOk (2 + b) slh))
    + 4 * b2n (!rsaVerify rsa m (slice img (o + 440) 384)) + 8 * b2n (!slhVerify slh m (slice img (o + 824) 16224))

/-- Slot k. -/
def State.slot (s : State) (k : Nat) : SlotSt := vget s.boot.slots k

/-- Slot k holds the image of a new unit. -/
def State.isFactory (s : State) (k : Nat) : Bool := bitOf s.boot.factory k

/-- VERSION of slot k's image: Fencen 3.2 and its build number in a new unit. -/
def State.slotVersion (s : State) (k : Nat) : Nat :=
  if s.isFactory k then 0x03020000 + Config.factoryBuild.toNat else (s.slot k).version

/-- SVN of slot k's image. -/
def State.slotSvn (s : State) (k : Nat) : Nat := if s.isFactory k then Config.factorySvn.val else (s.slot k).svn

/-- MIRROR_FMT of slot k's image. -/
def State.slotFmt (s : State) (k : Nat) : Nat :=
  if s.isFactory k then Config.factoryMirrorFmt.toNat else leAt (s.slot k).image 13 1

/-- SHA-384 of component t of slot k, as its header gives it; none when the image has none. -/
def State.compHash (s : State) (k t : Nat) : Option (List Byte) :=
  if s.isFactory k then (if t ≤ 4 then some (Config.factoryHash t) else none)
  else ((imageComps (s.slot k).image).find? fun c => c.1 == t).map fun c => c.2.2.2.2

/-- Version of component t of slot k. -/
def State.compVer (s : State) (k t : Nat) : Word :=
  if s.isFactory k then Config.factoryVer t
  else BitVec.ofNat 32 ((((imageComps (s.slot k).image).find? fun c => c.1 == t).map fun c => c.2.2.2.1).getD 0)

/-- The image of slot k lies below the anti-rollback counter (check 4 of R409). -/
def State.rollback (s : State) (k : Nat) : Bool := s.boot.counter != 0 && decide (s.slotSvn k < s.boot.counter)

/-- Change slot k. -/
def State.modSlot (s : State) (k : Nat) (f : SlotSt → SlotSt) : State := s.modBoot fun b => { b with slots := vmod b.slots k f }

/-! ### Supervisor restart (R393, R394, R480) -/

/-- IDENT as Fencen writes it (Table 19.2). -/
def State.showIdent (s : State) : State :=
  let k := s.boot.runSlot
  let s1 := (s.setFld F.IDENT_FW_FW_MAJ 0 (s.slotVersion k / 2 ^ 24)).setFld F.IDENT_FW_FW_MIN 0 (s.slotVersion k / 2 ^ 16 % 256)
  let s2 := ((s1.setFld F.IDENT_FW_FW_BUILD 0 (s.slotVersion k % 65536)).setFld F.IDENT_FCP_FCP_MAJ 0 3).setFld F.IDENT_FCP_FCP_MIN 0 2
  let s3 := (s2.setReg R.IDENT_CLE_VER 0 (s.compVer k 4)).setReg R.IDENT_STW_VER 0 (s.compVer k 3)
  let s4 := ((s3.setFld F.IDENT_BOOT_MIRROR_FMT 0 (s.slotFmt k)).setFld F.IDENT_BOOT_SLOT 0 k).setFld F.IDENT_BOOT_SVN 0 (s.slotSvn k)
  (s4.setFld F.IDENT_BOOT_ARB_CNT 0 s.boot.counter).setFlag F.IDENT_BOOT_FALLBACK 0 (s.flag F.BOOT_STAT_FALLBACK 0)

/-- What the commands in flight wait for is not carried out any more: port transitions, a pending gait or rate, a swap, an activation or a
handover, a capture start or stop, a validated configuration, and on an ACTIVE unit the pair changes it has scheduled, but for the end of a
gate-driver clear that has begun. -/
def State.dropPending (s : State) : State :=
  let s1 := s.forUnits 12 fun t p => t.modPort p fun q => { q with waits := [] }
  let s2 := (s1.setFlag F.GAIT_STATUS_PEND_VALID 0 false).setFld F.GAIT_STATUS_GAIT_PEND 0 0
  let keep := fun (c : PairSched) => !s.isActive || c.kind == 3
  let paired := s.flag F.PAIR_CFG_PAIR_EN 0
  { s2.unlock with
    cle := { s2.cle with periodNew := none, divNew := none }, cap := { s2.cap with startAt := none, stopAt := none }
    fcp := { s2.fcp with cfgPend := [] }
    pair := { s2.pair with
      sched := s2.pair.sched.filter keep, wantAct := s2.pair.wantAct && !paired
      handover := if s.isActive then none else s2.pair.handover } }

/-- A NOTICE leaves on MB4 to MB7. -/
def State.noticeAll (s : State) : State := [4, 5, 6, 7].foldl (fun (t : State) m => t.notice m) s

/-- Complete every command in flight with this status. -/
def State.flush (s : State) (status : Nat) : State := s.fcp.inflight.foldl (fun t e => t.completeEntry e status 0 [] []) s

/-- Fencen is being restarted: it takes no part until the mailboxes reopen (Table 13.10). -/
def State.restarting (s : State) : Bool := s.fcp.restartSlot.isSome

/-- A Supervisor source asserts in a boot that has not reached Fencen: the SVP starts again with the image selection (Tables 18.2, 18.6).
DESIGN CHOICE: neither says what becomes of the boot (log entry 146). -/
def State.bootAgain (s : State) (src : Nat) : State :=
  ((s.setFld F.RST_CAUSE_REACH 0 2).setFld F.RST_CAUSE_SRC 0 (2 ^ src)).modBoot fun b => { b with step := min 4 b.step, failed := false }

/-- A supervisor restart begins (Table 13.10): the mailboxes close; a planned one sends its NOTICE and completes every command. Path delays are
measured afresh after it (Table 15.7). A source that
asserts in a Cold or System reset is recorded there (R481, R482); one that asserts in a restart begins it anew (R480) and joins its sources. -/
def State.svpRestart (s : State) (planned : Bool) (src : Nat) (slot : Nat) : State :=
  if s.boot.reach.isSome then s.noteSrc src
  else if s.fld F.IDENT_STATE_DEV_STATE 0 = 0 ∧ !s.restarting then s.bootAgain src
  else
    let srcs := (if s.restarting then s.fld F.RST_CAUSE_SRC 0 else 0) ||| 2 ^ src
    let s1 := (s.setFld F.RST_CAUSE_REACH 0 2).setFld F.RST_CAUSE_SRC 0 srcs
    let s2 := (s1.forUnits 8 fun t m => t.box m fun b => { b with isOpen := false, restarting := true }).dropPending
    let s3 := { s2 with
      fcp := { s2.fcp with
        restartSlot := some slot, planned := planned, deferred := []
        devWas := if s.restarting then s.fcp.devWas else s.fld F.IDENT_STATE_DEV_STATE 0 }
      recd := { s2.recd with lost := s.evq.queue.length, cause := 2 + 256 * srcs }
      ptp := { s2.ptp with links := s2.ptp.links.map fun (x : PtpLink) => { x with sync := none, due := false, req := none, delay := none, sent := [] } }
      boot := { s2.boot with
        attNonce := none, restarts := if planned then s2.boot.restarts else s2.boot.restarts ++ [s.now] } }
    let s4 := s3.setFld F.IDENT_STATE_DEV_STATE 0 0
    if planned then s4.noticeAll.flush FS.FS_RESTART else s4

/-- Unplanned restarts that began within the last 600 s. -/
def State.recentRestarts (s : State) : Nat := (s.boot.restarts.filter fun t => decide (s.now ≤ t + 4800000000000)).length

/-- The supervisor watchdog runs: Fencen has booted, or is being restarted, and neither debug nor Paddock has stopped the SVP (R473, R480,
R523). -/
def State.svpWatched (s : State) : Bool :=
  (s.fld F.IDENT_STATE_DEV_STATE 0 != 0 || s.restarting) && !s.fcp.svpHalted && s.gait != Gait.paddock

/-- SUPERVISOR_WATCHDOG_EXPIRY (R480): the third within 600 s raises SVP_ESC. -/
def execSupervisorWatchdogExpiry (s : State) : Host.Outcome State Fault Refusal :=
  .next (
    if !s.svpWatched then s
    else if 2 ≤ s.recentRestarts then s.assertReset 1 4
    else s.svpRestart false 3 s.boot.runSlot)

/-- Completions that stood posted on MB4 to MB7 in s are sent again (R394). -/
def State.resendAll (s t : State) : State :=
  [4, 5, 6, 7].foldl (fun (t : State) m => (vget s.fcp.boxes m).posted.foldl (fun u p => u.resend m p) t) t

/-- SUPERVISOR_RESTART_REOPEN (R393, step 5; R394, R455): the epoch advances, the mailboxes reopen, commands still in flight complete, what was
posted before is sent again. -/
def execSupervisorRestartReopen (s : State) : Host.Outcome State Fault Refusal :=
  .next (match s.fcp.restartSlot with
    | none => s
    | some k =>
      if !s.svpClock then s
      else
        let ep := (s.fld F.FCP_EPOCH_ALL 0 + 1) % 65536
        let s1 := (s.setFld F.FCP_EPOCH_ALL 0 ep).modBoot fun b => { b with runSlot := k }
        let s2 := (s1.setFld F.IDENT_STATE_DEV_STATE 0 s.fcp.devWas).showIdent
        let s3 := { s2 with fcp := { s2.fcp with
          restartSlot := none, prep := none, staging := Vector.replicate 8 [], busy := Vector.replicate 4 false } }
        let s4 := s3.forUnits 8 fun t m => t.box m fun b => { b with
          isOpen := true, restarting := false, rstSeen := true, cseq := 0, admits := [] }
        let s5 := s.resendAll (s4.flush FS.FS_RESTART_UNK)
        let s6 := s5.noticeAll.post EV.EV_FCP_RESTART noUnit (ep + 65536 * b2n (!s.fcp.planned))
        s6.cond s6.recd.on fun t => t.ringPut (t.selfRecord EV.EV_REC_RESUME t.resumeData))

/-! ### UPDATE commands (Table 14.12) -/

/-- UPD_BEGIN (R409): the slot is erased. An erase that fails, `nvm` false, gives FS_NVM (Table 14.12). DESIGN CHOICE: it opens no session and
leaves the slot INVALID (log entry 153). -/
def execUpdBegin (tag : Fin 128) (nvm : Bool) (s : State) : Host.Outcome State Fault Refusal :=
  serve 0x0701 tag s fun e =>
    let k := e.a 0
    if 1 < k ∨ !imageLenOk (e.a32 4) then s.done e.tag FS.FS_PARAM
    else if s.boot.session.isSome then s.done e.tag FS.FS_BUSY
    else if k = s.boot.runSlot ∨ k = s.boot.boot then s.done e.tag FS.FS_SLOT
    else
      let s1 := s.modBoot fun b => { b with factory := if bitOf b.factory k then b.factory - 2 ^ k else b.factory }
      if !nvm then (s1.modSlot k fun x => { x with st := 2 }).done e.tag FS.FS_NVM
      else
        ((s1.modSlot k fun _ => { st := 1, len := e.a32 4 }).modBoot fun b => { b with session := some (k, 0) }).done e.tag FS.FS_OK

/-- UPD_WRITE (R409): the next 1 024 bytes. Programming that fails, `nvm` false, gives FS_NVM (Table 14.12). DESIGN CHOICE: the offset next
expected stays, so the host can write them again (log entry 153). -/
def execUpdWrite (tag : Fin 128) (nvm : Bool) (s : State) : Host.Outcome State Fault Refusal :=
  serve 0x0702 tag s fun e => match s.boot.session with
    | none => s.done e.tag FS.FS_SLOT
    | some (k, o) =>
      if e.a32 0 ≠ o ∨ (s.slot k).len ≤ o then s.done e.tag FS.FS_PARAM
      else if !nvm then s.done e.tag FS.FS_NVM
      else
        let s1 := s.modSlot k fun x => { x with bytes := Memory.setMany (fun _ => 0xFF#8) x.bytes o (slice e.payload 0 1024) }
        (s1.modBoot fun b => { b with session := some (k, o + 1024) }).done e.tag FS.FS_OK

/-- UPD_VERIFY (R408, R409): the session closes and the slot becomes VALID or INVALID. -/
def execUpdVerify (tag : Fin 128) (s : State) : Host.Outcome State Fault Refusal :=
  serve 0x0703 tag s fun e => match s.boot.session with
    | none => s.done e.tag FS.FS_SLOT
    | some (k, o) =>
      let img := (s.slot k).image
      let ver := leAt img 8 4
      let svn := leAt img 12 1
      let s1 := s.modBoot fun b => { b with session := none }
      let s2 := fun (st : Nat) => s1.modSlot k fun x => { x with st := st, version := ver, svn := svn }
      let res := fun (f : Nat) => leBytes 4 f ++ leBytes 4 ver ++ leBytes 1 svn
      if o < (s.slot k).len ∨ !imageForm img ∨ !imageHashes img then (s2 2).done e.tag FS.FS_IMAGE
      else
        let f := s.sigFails img
        if f ≠ 0 then (s2 2).complete e.tag FS.FS_SIG 0 (res f) []
        else if svn < s.boot.counter then (s2 2).complete e.tag FS.FS_ROLLBACK 0 (res 0) []
        else (s2 3).complete e.tag FS.FS_OK 0 (res 0) []

/-- UPD_ACTIVATE (R410): the boot slot; with RESET = 1 a System reset follows. Programming that fails, `nvm` false, gives FS_NVM (Table 14.12)
and changes nothing. -/
def execUpdActivate (tag : Fin 128) (nvm : Bool) (s : State) : Host.Outcome State Fault Refusal :=
  serve 0x0704 tag s fun e =>
    let k := e.a 0
    if 1 < k ∨ 1 < e.a 1 then s.done e.tag FS.FS_PARAM
    else if (s.slot k).st ≠ 3 then s.done e.tag FS.FS_SLOT
    else if e.a 1 = 1 ∧ (s.flag F.PAIR_STATUS_ACT_OUT 0 ∨ (s.fld F.PAIR_STATUS_STATE 0 = 0 ∧ !s.allOff)) then
      s.done e.tag FS.FS_PORT_STATE
    else if !nvm then s.done e.tag FS.FS_NVM
    else
      let s1 := (s.modBoot fun b => { b with boot := k }).done e.tag FS.FS_OK
      if e.a 1 = 1 then s1.assertReset 1 8 else s1

/-- The bytes of the HLP program in use. -/
def State.progBytes (s : State) : List Byte := Memory.getMany (fun _ => 0#8) s.hlp.prog.bytes 0 (4096 * s.hlp.prog.count)

/-- The directory of the active coefficient bank. -/
def State.dirBytes (s : State) : List Byte :=
  (Memory.getMany (fun _ => zeroTileCrc) (vget s.coef.dir s.bankNo) 0 16).flatMap fun w => leBytes 4 w.toNat

/-- SHA-384 of component t as it runs (R410): the HLP program and the coefficient bank with its directory as they stand, the others as the
running slot has them; none where nothing runs. -/
def State.runHash (s : State) (t : Nat) : Option (List Byte) :=
  if t = 5 then (if s.flag F.HLP_STATUS_PROG_OK 0 then some (sha384 s.progBytes) else none)
  else if t = 6 then
    some (sha384 ((Memory.getMany (fun _ => 0#32) (vget s.coef.bank s.bankNo) 0 16384).flatMap (fun w => leBytes 4 w.toNat) ++ s.dirBytes))
  else s.compHash s.boot.runSlot t

/-- Every component that slot k has but Fencen, and MIRROR_FMT, equal those running (R410). -/
def State.sameRest (s : State) (k : Nat) : Bool :=
  s.slotFmt k == s.slotFmt s.boot.runSlot && [1, 3, 4, 5, 6].all fun t => (s.compHash k t).isNone || s.compHash k t == s.runHash t

/-- UPD_RESTART (R393, R410): the planned restart follows the completion. -/
def execUpdRestart (tag : Fin 128) (s : State) : Host.Outcome State Fault Refusal :=
  serve 0x0705 tag s fun e =>
    let k := if e.a 0 = 0xFF then s.boot.runSlot else e.a 0
    if 1 < k then s.done e.tag FS.FS_PARAM
    else if (s.slot k).st ≠ 3 then s.done e.tag FS.FS_SLOT
    else if !s.sameRest k then s.done e.tag FS.FS_IMAGE
    else
      let s1 := if k = s.boot.runSlot then s else s.modBoot fun b => { b with boot := k }
      (s1.done e.tag FS.FS_OK).svpRestart true 8 k

/-- UPD_SVN (R411, R496): the counter rises to the running image's SVN; without SVN_BURN nothing can be burned. -/
def execUpdSvn (tag : Fin 128) (s : State) : Host.Outcome State Fault Refusal :=
  serve 0x0706 tag s fun e =>
    if e.a 0 ≠ s.slotSvn s.boot.runSlot then s.done e.tag FS.FS_PARAM
    else if e.a 0 ≤ s.boot.counter then s.done e.tag FS.FS_ROLLBACK
    else if !s.flag F.TACK_CTRL_SVN_BURN 0 then s.done e.tag FS.FS_NVM
    else ((s.modBoot fun b => { b with counter := e.a 0 }).setFld F.IDENT_BOOT_ARB_CNT 0 (e.a 0)).done e.tag FS.FS_OK

/-- UPD_INFO. -/
def execUpdInfo (tag : Fin 128) (s : State) : Host.Outcome State Fault Refusal :=
  serve 0x0707 tag s fun e =>
    let k := e.a 0
    if 1 < k then s.done e.tag FS.FS_PARAM
    else s.complete e.tag FS.FS_OK 0 (leBytes 1 (s.slot k).st
      ++ leBytes 1 (b2n (decide (k = s.boot.boot)) + 2 * b2n (decide (k = s.boot.runSlot))) ++ [0#8, 0#8]
      ++ leBytes 4 (s.slotVersion k) ++ leBytes 1 (s.slotSvn k) ++ leBytes 1 s.boot.counter) []

/-! ### ATTEST (R416, R417) -/

/-- The serial number, 8 bytes. -/
def State.serial (s : State) : List Byte := leBytes 4 (s.reg R.IDENT_SERIAL_LO 0).toNat ++ leBytes 4 (s.reg R.IDENT_SERIAL_HI 0).toNat

/-- Bytes 0 to 367 of a report over a nonce. -/
def State.reportBody (s : State) (nonce : List Byte) : List Byte :=
  let k := s.boot.runSlot
  let comp := fun (t : Nat) => slice ((s.compHash k t).getD []) 0 48
  let flags := b2n (s.flag F.TB_STAT_LOCKED 0) + 2 * b2n (s.flag F.TACK_CTRL_LOCK 0) + 4 * b2n (s.flag F.TACK_CTRL_TEST_EN 0)
  leBytes 4 0x10000 ++ leBytes 4 16976 ++ slice nonce 0 32 ++ timeBytes (vget s.tb 0).ticks ++ leBytes 2 flags ++ s.serial
    ++ leBytes 1 s.boot.boot ++ leBytes 1 s.boot.counter ++ leBytes 1 (s.fld F.PAIR_STATUS_STATE 0)
    ++ leBytes 1 (s.fld F.STW_STATUS_STATE 0) ++ leBytes 4 (s.slotVersion k)
    ++ comp 2 ++ comp 3 ++ comp 4 ++ sha384 s.progBytes ++ sha384 s.dirBytes
    ++ leBytes 4 (s.reg R.IDENT_CFG_DIGEST 0).toNat ++ leBytes 4 s.stw.cfgCrc.toNat ++ slice s.boot.tackKept 0 48

/-- ATT_REPORT: the report before it is gone, and a new one is being built. -/
def execAttReport (tag : Fin 128) (s : State) : Host.Outcome State Fault Refusal :=
  serve 0x0C01 tag s fun e =>
    if s.boot.attNonce.isSome then s.done e.tag FS.FS_BUSY
    else (s.modBoot fun b => { b with attNonce := some (slice e.args 0 32), attReport := none }).start e.tag

/-- ATT_REPORT_BUILT (R417): the report is signed and its command completes. -/
def execAttReportBuilt (s : State) : Host.Outcome State Fault Refusal :=
  .next (match s.boot.attNonce with
    | none => s
    | some n =>
      let b := s.reportBody n
      let rep := b ++ slice (Config.rsaSign b) 0 384 ++ slice (Config.slhSign b) 0 16224
      if !s.fencenRuns then s
      else
        let s1 := s.modBoot fun x => { x with attNonce := none, attReport := some rep }
        match s1.waitingOp 0x0C01 with
        | some e => s1.complete e.tag FS.FS_OK 0 (leBytes 4 16976) []
        | none => s1)

/-- Up to 1 024 bytes from offset o of a file of n bytes, as a completion. -/
def State.readFile (s : State) (e : Entry) (file : List Byte) : State :=
  let o := e.a32 0
  if o % 1024 != 0 || decide (file.length ≤ o) then s.done e.tag FS.FS_PARAM
  else s.complete e.tag FS.FS_OK 0 [] ((file.drop o).take 1024)

/-- ATT_READ. -/
def execAttRead (tag : Fin 128) (s : State) : Host.Outcome State Fault Refusal :=
  serve 0x0C02 tag s fun e => s.readFile e (s.boot.attReport.getD [])

/-- The identity statement (R416). -/
def State.statement (s : State) : List Byte :=
  leBytes 4 0x10000 ++ leBytes 4 17064 ++ s.serial ++ leBytes 1 (s.fld F.IDENT_ID_REV 0)
    ++ leBytes 1 (s.fld F.IDENT_ID_VARIANT_H 0) ++ [0#8, 0#8] ++ (List.range 17044).map fun i => Config.identity (20 + i)

/-- ATT_IDENTITY. -/
def execAttIdentity (tag : Fin 128) (s : State) : Host.Outcome State Fault Refusal :=
  serve 0x0C03 tag s fun e => s.readFile e s.statement

end Sys2Proof.Machine
end

