-- ==== Sys2Proof/Machine/Reset.lean ====
section
/-!
DEFINITION. Reset and boot (18): sources and release, Block resets, options, the boot chain, the Tack Table, memory errors, option
sector and key revocation.
-/
namespace Sys2Proof.Machine

/-! ### Sources (R478 to R481) -/

/-- VIN_POWER_ON. -/
def execVinPowerOn (s : State) : Host.Outcome State Fault Refusal := .next (s.assertReset 0 0)

/-- VIN_BROWN_OUT. -/
def execVinBrownOut (s : State) : Host.Outcome State Fault Refusal := .next (s.assertReset 0 1)

/-- RST_N_PIN (R479): Cold reach with OPT_RSTN_COLD = 1. -/
def execRstNPin (s : State) : Host.Outcome State Fault Refusal :=
  .next (s.assertReset (if bitOf (s.fld F.OPT_STAT_OPTIONS 0) 5 then 0 else 1) 2)

/-! ### Block resets (R485, Table 18.4) -/

/-- A register of the PWM generator that its Block reset clears: all but the polarities, which stand in the Tack Table. -/
def pwmReg (cls off : Nat) : Bool :=
  (cls == 0 && ((decide (0x250 ≤ off) && decide (off < 0x26C)) || (decide (0x278 ≤ off) && decide (off < 0x2A0))))
    || (cls == 1 && decide (off < 0x3E4)) || cls == 2

/-- Registers that satisfy f, given their class, unit and offset, return to their reset values. -/
def State.clearRegs (s : State) (f : Nat → Nat → Nat → Bool) : State :=
  { s with regs := s.regs.filter fun r => !f (r.1 / 16777216) (r.1 / 65536 % 256) (r.1 % 65536) }

/-- What the reset of a block clears. HALT has already cleared the HLP's execution state (R348); any other reset of the HLP stops it
(Table 11.7). A reset of the generator or of a Gate Link lane releases ACT_OUT. -/
def State.blockClear (s : State) (b : Nat) : State :=
  if b = 0 then (if s.hlp.wdtReq then s.modHlp fun h => { h with wdtReq := false } else s.hlpStop)
  else if b = 1 then (s.releaseAct.modPwm fun p => { ({} : PwmSt) with pins := p.pins, bnd := p.bnd }).clearRegs fun c _ o => pwmReg c o
  else if b ≤ 9 then
    let l := b - 2
    let s1 := (if l < 6 then s.releaseAct else s).laneStops l
    let s2 := (s1.cond (s1.laneState l != 0) fun t => t.toLane l 0).clearRegs fun c i _ => c == 9 && i == l
    ({ s2 with gl := { s2.gl with lanes := vmod s2.gl.lanes l fun _ => {}, commas := vmod s2.gl.commas l fun _ => 0 } }).gdenCmd
  else if b ≤ 12 then
    let m := b - 10
    ((s.linkDown m).modMac m fun x => { ({} : MacSt) with netif := x.netif }).clearRegs fun c i _ => c == 0xB && i == m
  else if b ≤ 14 then (let m := b - 7; if (vget s.fcp.boxes m).segCount = 0 then s else s.segDrop m)
  else ({ s with cap := {} }).clearRegs fun c _ o => c == 0 && decide (0x308 ≤ o) && decide (o < 0x32C)

/-- Table 18.4 lets this source reset block b now. -/
def State.mayReset (s : State) (src : BlockSrc) (b : Nat) : Bool :=
  s.boot.reach.isNone && !(s.boot.held.any fun x => x.1 == b) && match src with
    | .hlpWdt => b == 0 && s.hlp.wdtReq
    | .fencen => s.fencenRuns && decide (10 ≤ b) && decide (b ≤ 14)
    | .debug => s.dbgOpen && (b != 1 || s.allOff) && (b != 15 || s.fld F.CAP_STAT_STATE 0 == 0)

/-- SRC bit of Table 18.2 for who asks for a Block reset. -/
def blockSrcBit : BlockSrc → Option Nat
  | .hlpWdt => some 5
  | .debug => some 9
  | .fencen => none

/-- A Block reset by this source, with idle reached or not. A debug request during a Cold or System reset is only recorded (R481, R482); the
HLP and Fencen, which are in reset then, make none. -/
def State.blockReset (s : State) (src : BlockSrc) (b : Nat) (idle : Bool) : State :=
  if s.boot.reach.isSome then (match src, s.dbgOpen with
    | .debug, true => s.noteSrc 9
    | _, _ => s)
  else if s.mayReset src b then (s.blockClear b).blockDone b idle (blockSrcBit src) else s

/-- BLOCK_RESET (R485): idle was acknowledged. -/
def execBlockReset (src : BlockSrc) (block : Fin 16) (s : State) : Host.Outcome State Fault Refusal :=
  .next (s.blockReset src block true)

/-- BLOCK_IDLE_TIMEOUT (R485): t_idle has expired; IDLE_TMO_CNT counts. -/
def execBlockIdleTimeout (src : BlockSrc) (block : Fin 16) (s : State) : Host.Outcome State Fault Refusal :=
  .next (s.blockReset src block false)

/-- BUS_OFF (R485): Fencen resets the CAN channel. -/
def execBusOff (can : Fin 2) (s : State) : Host.Outcome State Fault Refusal := .next (s.blockReset .fencen (13 + can) true)

/-- DEBUG_RESET_REQUEST (Table 18.2): while debug access is open. -/
def execDebugResetRequest (what : DbgReset) (s : State) : Host.Outcome State Fault Refusal :=
  .next (if !s.dbgOpen then s
    else match what with
      | .system => s.assertReset 1 9
      | .supervisor => s.svpRestart false 9 s.boot.runSlot
      | .block b => s.blockReset .debug b true)

/-- FORCED_RELEASE (R484): with TEST_EN = 1 the debug port releases a held block before CLK_OK; it is UNCLEAN. -/
def execForcedRelease (block : Fin 16) (s : State) : Host.Outcome State Fault Refusal :=
  .next (match s.boot.held.find? fun x => x.1 == block.val with
    | none => s
    | some h =>
      if !s.dbgOpen || !s.flag F.TACK_CTRL_TEST_EN 0 || s.boot.reach.isSome then s
      else
        let s1 := (s.modBoot fun b => { b with held := b.held.filter fun x => x.1 != block.val }).waitClk
        (s1.releaseBlock block h.2).setUnclean block true)

/-! ### Release and options (R482, R487, R488) -/

/-- Band of a MODE_STRAP reading: every sample, in 1/1024 of V_VIOA, lies within 1/64 of one band's centre. -/
def strapBand (samples : List Nat) : Option Nat :=
  if samples.length != 8 then none
  else (List.range 16).find? fun b => samples.all fun x => decide (64 * b + 16 ≤ x) && decide (x ≤ 64 * b + 48)

/-- The options are read and latched (R487, R488). -/
def State.readOptions (s : State) (samples : List Nat) : State :=
  let o := s.boot.options
  let ok := (crc32c (slice o 0 28)).toNat == leAt o 28 4
  let byte := fun (n : Nat) => if ok then leAt o n 1 % 2 else 0
  let band := if s.clk.bankA then strapBand samples else none
  let gov := !ok || byte 0 == 1
  let opt := fun (n : Nat) (k : Nat) => match gov, band with
    | true, some b => b / 2 ^ k % 2
    | _, _ => byte n
  let v := byte 0 + 2 * opt 1 0 + 4 * opt 2 1 + 8 * opt 3 2 + 16 * opt 4 3 + 32 * byte 5
  let s1 := ((s.setFlag F.OPT_STAT_OPT_ERR 0 (!ok)).setFlag F.OPT_STAT_STRAP_ERR 0 band.isNone).setFlag F.OPT_STAT_STRAP_GOV 0 gov
  let s2 := (s1.setFld F.OPT_STAT_BAND 0 (band.getD 0)).setFld F.OPT_STAT_OPTIONS 0 v
  ((s2.setFld F.CLK_CFG_REF_EXT 0 (opt 1 0)).setFld F.ADC_STATUS_REF_EXT 0 (opt 2 1)).setFld F.PAIR_CFG_PRIO 0 (opt 3 2)

/-- RESET_RELEASE (R482, R483): RST_CAUSE is fixed, a Cold reset reads the options, and the PLLs start. Every block waits for its
CLK_OK. -/
def execResetRelease (strap : List Nat) (s : State) : Host.Outcome State Fault Refusal :=
  .next (match s.boot.reach with
    | none => s
    | some r =>
      let src := s.boot.srcs.foldl (fun m k => m ||| 2 ^ k) 0
      let s1 := (s.setFld F.RST_CAUSE_REACH 0 r).setFld F.RST_CAUSE_SRC 0 src
      let s2 := ({ s1 with recd := { s1.recd with cause := r + 256 * src } }.cond (r == 0) fun t => t.readOptions strap).modBoot fun b =>
        { b with reach := none, srcs := [], step := 0 }
      s2.waitClk.cond (s.flag F.CLK_STAT_REF_OK 0) fun t => t.startPlls)

/-! ### Boot chain (R489 to R493) -/

/-- FAIL bits of slot k (Table 18.12): the checks of R408, image or hash, rollback. -/
def State.slotFails (s : State) (k : Nat) : Nat :=
  let roll := 32 * b2n (s.rollback k)
  if s.isFactory k then
    (if s.boot.revoked.isEmpty then 0
      else b2n (s.boot.revoked.contains (Config.factoryKey false).val) + 2 * b2n (s.boot.revoked.contains (2 + (Config.factoryKey true).val)))
      + roll
  else
    let img := (s.slot k).image
    if (s.slot k).st != 3 || !imageForm img || !imageHashes img then 16 else s.sigFails img + roll

/-- The hash of component t of slot k matches. -/
def State.compOk (s : State) (k t : Nat) : Bool := s.isFactory k || match compOf (s.slot k).image t with
  | some b => s.compHash k t == some (sha384 b)
  | none => true

/-- FAIL field of slot k. -/
def failFld (k : Nat) : Fld := if k = 0 then F.BOOT_STAT_FAIL_A else F.BOOT_STAT_FAIL_B

/-- Boot stops with STAGE = FAIL (R491). -/
def State.bootFail (s : State) : State := (s.setFld F.BOOT_STAT_STAGE 0 7).modBoot fun b => { b with failed := true }

/-- Slots in the order the boot ROM tries them (R490). -/
def State.slotOrder (s : State) : List Nat := match s.boot.skip with
  | some k => [1 - k]
  | none =>
    let sel := if bitOf (s.fld F.OPT_STAT_OPTIONS 0) 4 then 1 - s.boot.boot else s.boot.boot
    [sel, 1 - sel]

/-- Try the slots in order: the first that passes is taken, and the failures of the others are recorded. -/
def State.trySlots (s : State) : List Nat → State
  | [] => s.bootFail
  | k :: ks =>
    let f := s.slotFails k
    let s1 := s.setFld (failFld k) 0 f
    if f = 0 then
      let sel := if bitOf (s.fld F.OPT_STAT_OPTIONS 0) 4 then 1 - s.boot.boot else s.boot.boot
      (((s1.setFld F.BOOT_STAT_STAGE 0 1).setFld F.BOOT_STAT_SLOT 0 k).setFlag F.BOOT_STAT_FALLBACK 0 (k != sel)).modBoot
        fun b => { b with runSlot := k, skip := none }
    else s1.trySlots ks

/-- A component's hash fails in the slot being booted: a System reset whose boot tries only the other slot (R490). -/
def State.hashFail (s : State) : State :=
  let k := s.boot.runSlot
  ((s.setFld (failFld k) 0 (s.fld (failFld k) 0 ||| 16)).assertReset 1 8).modBoot fun b => { b with skip := some k }

/-- Word i of the Tack block of the slot being booted: 0 in a new unit's image. -/
def State.tackBlk (s : State) (i : Nat) : Nat :=
  if s.isFactory s.boot.runSlot then 0
  else (Config.tackWord ((compOf (s.slot s.boot.runSlot).image 1).getD []) i).toNat

/-- SHA-384 of that Tack block. -/
def State.tackHash (s : State) : List Byte := sha384 ((List.range 52).flatMap fun i => leBytes 4 (s.tackBlk i))

/-- Stage-2 writes the Tack Table whole and locks it (R492). -/
def State.writeTack (s : State) : State :=
  let region := fun (i : Nat) => (⟨s.tackBlk (4 + 3 * i), s.tackBlk (5 + 3 * i),
    [0, 1, 2, 3].map fun m => s.tackBlk (6 + 3 * i) / 4 ^ m % 4⟩ : Region)
  let regs := if s.isFactory s.boot.runSlot then [] else (List.range 16).map region
  let s1 := s.setReg R.TACK_CTRL 0 (BitVec.ofNat 32 (2 ^ 31 + s.tackBlk 0 / 2 ^ 28 % 8 * 2 ^ 28))
  let s2 := ((s1.setFld F.PWM_POL0_ALL 0 (s.tackBlk 1)).setFld F.PWM_POL1_ALL 0 (s.tackBlk 2)).setFld F.TRIP_POL_ALL 0 (s.tackBlk 3)
  { s2 with tack := regs, boot := { s2.boot with tackKept := s.tackHash } }

/-- Step 6: the Tack Table is written and locked, or compared (R493); the Steward enters UNARMED. -/
def State.bootTack (s : State) : State :=
  if !s.flag F.TACK_CTRL_LOCK 0 then ((s.writeTack.modPwm fun p => { p with extest := none }).toStw 1).stwEn
  else if s.boot.tackKept == s.tackHash then (s.toStw 1).stwEn
  else s.assertReset 0 10

/-- Step 8: both coefficient banks from the image's component, or zero tiles; calibration and delay-line lock are complete. -/
def State.bootCoef (s : State) : State :=
  let comp := (if s.isFactory s.boot.runSlot then none else compOf (s.slot s.boot.runSlot).image 6).getD []
  let words := (List.range (min 16384 (comp.length / 4))).map fun i => BitVec.ofNat 32 (leAt comp (4 * i) 4)
  let bank := Memory.setMany (fun _ => 0#32) [] 0 words
  let dir := Memory.setMany (fun _ => zeroTileCrc) [] 0 (if comp.isEmpty then [] else (List.range 16).map fun t => crc32c (slice comp (4096 * t) 4096))
  let s1 := s.modCoef fun c => { c with
    bank := Vector.replicate 2 bank, dir := Vector.replicate 2 dir, verified := Vector.replicate 2 true }
  ((s1.showMark.setFlag F.ADC_STATUS_CAL_DONE 0 true).setFlag F.DL_STAT_LOCK 0 true).modPwm fun p => { p with everLocked := true }

/-- Step 9: the HLP program, started with AUTOSTART = 1 (R351). -/
def State.bootHlp (s : State) : State :=
  match if s.isFactory s.boot.runSlot then none else compOf (s.slot s.boot.runSlot).image 5 with
  | none => s
  | some b =>
    let n := b.length / 4096
    let p : HlpProg := {
      bytes := Memory.setMany (fun _ => 0#8) [] 0 b, count := n
      dir := Memory.setMany (fun _ => 0#32) [] 0 ((List.range n).map fun t => crc32c (slice b (4096 * t) 4096)) }
    if s.loadCheck p != FS.FS_OK then s
    else (s.installProg p).cond (p.hdr 20 1 == 1) fun t => t.hlpAuto

/-- Step 10: Stalled in Walk; the mailboxes open. -/
def State.bootDone (s : State) : State :=
  let s1 := ((s.setFld F.BOOT_STAT_STAGE 0 3).setFld F.IDENT_STATE_DEV_STATE 0 1).showIdent
  let s2 := { s1 with win := { s1.win with ready := true } }.forUnits 8 fun t m => t.box m fun b => { b with isOpen := true }
  s2.cond (s.flag F.BOOT_STAT_FALLBACK 0) fun t => t.post EV.EV_BOOT_FALLBACK noUnit
    (t.boot.runSlot + 256 * t.fld (failFld (1 - t.boot.runSlot)) 0)

/-- The next step of Table 18.6: steps 1, 3 and 4 belong to a Cold boot. -/
def State.nextStep (s : State) : Nat :=
  let n := s.boot.step
  if s.boot.cold then n + 1 else if n < 2 then 2 else if n < 5 then 5 else n + 1

/-- The event of boot step n. -/
def State.bootStep (s : State) (n : Nat) (selfTest : Bool) : State :=
  let k := s.boot.runSlot
  match n with
  | 2 => if s.boot.cold then s else s.ringOn false
  | 3 => if selfTest then s else s.bootFail
  | 4 => s.ringOn true
  | 5 => s.trySlots s.slotOrder
  | 6 => s.bootTack
  | 7 => if s.compOk k 2 && s.compOk k 3 then s.setFld F.BOOT_STAT_STAGE 0 2 else s.hashFail
  | 8 => if s.compOk k 4 && s.compOk k 6 then s.bootCoef else s.hashFail
  | 9 => if s.compOk k 5 then s.bootHlp else s.hashFail
  | 10 => s.bootDone
  | _ => s

/-- BOOT_STEP_COMPLETE (R489): the next step completes; step 2 needs CLK_OK of every domain. -/
def execBootStepComplete (selfTest : Bool) (s : State) : Host.Outcome State Fault Refusal :=
  let n := s.nextStep
  .next (
    if s.boot.reach.isSome || s.boot.failed || decide (10 < n) || (n == 2 && s.fld F.CLK_STAT_CLK_OK 0 != 0xFF) then s
    else (s.modBoot fun b => { b with step := n }).bootStep n selfTest)

/-! ### Memory errors (R499, Table 18.8) -/

/-- Where a Spur injection that this error reveals may stand: memory code and byte range. -/
def siteRange : MemSite → Nat × Nat × Nat
  | .cleRam i off => (0, 256 * i.val + off.val / 4 * 4, 256 * i.val + off.val / 4 * 4 + 4)
  | .coef b t => (1, 65536 * b2n b + 4096 * (t.val % 16), 65536 * b2n b + 4096 * (t.val % 16) + 4096)
  | .hlpProg => (2, 0, 2 ^ 20)
  | .hlpVar => (3, 0, 2 ^ 20)
  | .svp => (4, 0, 2 ^ 20)
  | .lpddrStream => (5, 0, 2 ^ 20)
  | .lpddrTrace _ _ => (5, 0, 2 ^ 20)
  | .lpddrRec _ => (5, 0, 2 ^ 20)
  | .pwmCfg => (6, 0, 2 ^ 20)
  | .aon => (7, 0, 2 ^ 20)
  | .island => (8, 0, 2 ^ 20)

/-- An injected error found and handled stands no longer (R518). -/
def State.found (s : State) (site : MemSite) : State :=
  let r := siteRange site
  { s with spur := { s.spur with bad := s.spur.bad.filter fun x => !(x.1 == r.1 && r.2.1 ≤ x.2 && x.2 < r.2.2) } }

/-- MEMORY_ERROR: an uncorrectable or parity error, by the memory's row. -/
def execMemoryError (site : MemSite) (s0 : State) : Host.Outcome State Fault Refusal :=
  let s := s0.found site
  .next (match site with
    | .cleRam i off => s.cleParity i off
    | .coef b t => if 16 ≤ t.val then s.memErr 1 else (s.memErr 1).bankFail (b2n b) t
    | .hlpProg => (s.memErr 2).hlpHalt 3
    | .hlpVar => (s.memErr 3).deferReset
    | .svp => (s.memErr 4).svpRestart false 7 s.boot.runSlot
    | .lpddrStream => ((s.memErr 5).count F.CAP_STAT_CAP_LOST 0).cond (!s.cap.fifo.isEmpty) fun t =>
        { t with cap := { t.cap with fifo := t.cap.fifo.drop 1 } }
    | .lpddrTrace ch i =>
      let t := s.memErr 5
      { t with trace := vmod t.trace ch fun x => { x with copy := x.copy.map fun l => l.set i traceMarker } }
    | .lpddrRec n => let t := s.memErr 5; { t with recd := { t.recd with bad := t.recd.bad ++ [n] } }
    | .pwmCfg => (s.memErr 6).deferReset
    | .aon => (s.memErr 7).assertReset 0 7
    | .island => (s.memErr 8).cause Cause.lockstep)

/-- DEFERRED_SYSTEM_RESET (R499). -/
def execDeferredSystemReset (s : State) : Host.Outcome State Fault Refusal :=
  .next (if s.boot.deferred then s.assertReset 1 7 else s)

/-- SINGLE_BIT_ERROR (R499): corrected in place and counted, in the memories with SECDED. -/
def execSingleBitError (mem : Fin 9) (s : State) : Host.Outcome State Fault Refusal :=
  .next (if [1, 3, 4, 5].contains mem.val then s.count F.ECC_STAT_CORR_CNT 0 else s)

/-! ### NOR and OTP operations of the debug port (R487, R495) -/

/-- Debug access is open and the Tack Table unlocked. -/
def State.dbgUnlocked (s : State) : Bool := !s.flag F.TACK_CTRL_LOCK 0

/-- OPTION_SECTOR_WRITE (R487): it takes effect at the next Cold reset. -/
def execOptionSectorWrite (bytes : List Byte) (s : State) : Host.Outcome State Fault Refusal :=
  .next (if s.dbgUnlocked then s.modBoot fun b => { b with options := slice bytes 0 32 } else s)

/-- REVOCATION_BURN (R495): refused for the last unrevoked slot of its algorithm. -/
def execRevocationBurn (slhDsa : Bool) (slot : Fin 2) (s : State) : Host.Outcome State Fault Refusal :=
  let base := if slhDsa then 2 else 0
  .next (if s.dbgUnlocked && !s.boot.revoked.contains (base + slot) && !s.boot.revoked.contains (base + (1 - slot.val)) then
      s.modBoot fun b => { b with revoked := b.revoked ++ [base + slot.val] }
    else s)

end Sys2Proof.Machine
end

