-- ==== Sys2Proof/Machine/Capture.lean ====
section
/-!
DEFINITION. Capture engine and event recorder (16): the stream, its trigger and its datagrams, histograms and the persistence map,
the event queue, the event block (19) and the recorder ring.
-/
namespace Sys2Proof.Machine

/-! ### Sources (R441) -/

/-- The value of a period source for the period that ends. -/
def State.capVal (s : State) (c : CapSrc) : CapVal :=
  if c.kind = 3 then
    let rg0 := s.cf F.CTX_CFG_RG c.idx == 0
    let x := s.cword c.idx ((if rg0 then 49 else 60) + c.elem)
    let st := if rg0 then fieldOf (s.cword c.idx 48) 30 27 else (s.ctx c.idx).latchStat
    ⟨x, none, st, 0, false⟩
  else if c.kind = 2 then
    let w := s.reg R.SD_RES c.idx
    let v := fieldOf w 15 0
    ⟨codeF v, some v, fieldOf w 31 28, (s.sdInstant c.idx - s.pwm.tk) / 512, s.flag F.SD_RES_EMPTY c.idx⟩
  else
    let n := if c.kind = 6 then 48 + c.idx else c.idx
    let w := s.reg R.AIN_SAMP n
    let v := fieldOf w 15 0
    ⟨codeF v, some v, fieldOf w 31 28, Memory.get (fun _ => 0) s.adc.ofs n / 512, s.flag F.AIN_SAMP_EMPTY n⟩

/-- A delivered free-running conversion v of AIN n enters for each source that names the input (R441, R444). -/
def State.capFree (s : State) (n : Nat) (v : Conv) : State :=
  if s.capState != 1 || v.src != 2 then s
  else
    let code := unsigned 16 v.code
    let x : CapVal := ⟨codeF code, some code, 8 * b2n v.ovr + 4 * b2n v.startup, v.ofs / 512, false⟩
    let s1 := s.forUnits s.cap.srcs.length fun t i =>
      let c := s.cap.srcs.getD i {}
      if c.free && c.idx == n then t.capSample i ((v.pnum : Int) + s.pair.off).toNat x else t
    s1.capLevel

/-- CONVERSION_COMPLETE (R152, R156, R167): the running conversion delivers its code; nv is the input at the hold edge of the
free-running conversion that may follow. On an idle core nothing is delivered and that conversion may start. -/
def execConversionComplete (core : Fin 24) (nv : Int) (s : State) : Host.Outcome State Fault Refusal :=
  .next (match (s.core core).conv with
    | none => s.freeRun core nv
    | some v => (((s.deliver core v).modCore core fun k => { k with conv := none }).coreStat core).freeRun core nv
      |>.capFree (ainOf core v.input v.int) v)

/-! ### Bins (R450, R451) -/

/-- The exact value of a finite pattern. -/
def fRat (x : F32) : Rat :=
  let d := fDec x
  let m : Rat := mkRat ((d.man * 2 ^ d.exp.toNat : Nat) : Int) (2 ^ (-d.exp).toNat)
  if d.neg then -m else m

/-- The bin of x among n between lo and hi, and whether x was clamped; none for a value that is no number. -/
def capBin (n : Nat) (lo hi x : F32) : Option (Nat × Bool) :=
  if fIsNan x then none
  else if fLt x lo then some (0, true)
  else if fLe hi x then some (n - 1, true)
  else
    let d := fRat hi - fRat lo
    some (min (n - 1) ((((n : Nat) : Rat) * (fRat x - fRat lo)) / d).floor.toNat, false)

/-- Unit u counts the value of the period that ends (R450). -/
def State.histCount (s : State) (u : Nat) : State :=
  let h := vget s.cap.hist u
  if !h.on || decide (s.pwm.bnd ≤ h.b0) then s
  else
    let put := fun (t : State) (f : HistSt → HistSt) => t.modCap fun c => { c with hist := vmod c.hist u f }
    let s1 := put s fun x => { x with count := (h.count + 1) % (h.src.dec + 1) }
    let v := s.capVal h.src
    if (h.count + 1) % (h.src.dec + 1) != 0 || v.empty then s1
    else match capBin 4096 h.lo h.hi v.x with
      | none => s1
      | some (b, clamped) =>
        let s2 := put s1 fun x => { x with
          bins := Memory.set (fun _ => 0) x.bins b (satAdd (Memory.get (fun _ => 0) x.bins b) 1 0xFFFFFFFF) }
        s2.cond clamped fun t => t.count (F.HIST_OUT_ALL.nth u) 0

/-- The persistence map takes its point for the period that ends (R451). -/
def State.pmapCount (s : State) : State :=
  let c := s.cap
  if !c.pOn || decide (s.pwm.bnd ≤ c.pB0) then s
  else
    let s1 := s.modCap fun c => { c with pCount := (c.pCount + 1) % (c.px.dec + 1) }
    let vx := s.capVal c.px
    let vy := s.capVal c.py
    let e := fun (i : Nat) => c.pEdges.getD i 0#32
    if (c.pCount + 1) % (c.px.dec + 1) != 0 || vx.empty || vy.empty then s1
    else match capBin 256 (e 0) (e 1) vx.x, capBin 256 (e 2) (e 3) vy.x with
      | some (x, _), some (y, _) => s1.modCap fun c => { c with
          cells := Memory.set (fun _ => 0) c.cells (256 * y + x) (satAdd (Memory.get (fun _ => 0) c.cells (256 * y + x)) 1 0xFFFF) }
      | _, _ => s1

/-! ### The boundary (R444 to R446) -/

/-- An instant as an offset from t_k in units of 16 PWM clocks. -/
def State.markOfs (s : State) (t : Nat) : Nat := (t - s.pwm.tk) / 512 % 65536

/-- The trigger of the period that ends and its offset (R446). -/
def State.capTrigger (s : State) : Option Nat :=
  let c := s.cap
  let event := fun (code : Nat) => (s.evq.codes.find? fun x => x.1 == code).map fun x => s.markOfs x.2
  match c.trig with
  | 0 => if c.fresh0 then some 0 else none
  | 3 => event (c.level.toNat % 65536)
  | 4 => s.pwm.capTrig.map s.markOfs
  | 5 => c.portAt.map s.markOfs
  | _ => c.hit

/-- A trigger source 1 or 2 on a period source: its passed sample is judged before the mark is placed. -/
def State.capEarly (s : State) : State :=
  let c := s.cap
  let src := c.srcs.getD 0 {}
  let v := s.capVal src
  if c.srcs.isEmpty || src.free || (c.counts.getD 0 0 + 1) % (src.dec + 1) != 0 then s
  else if c.hit.isNone && capCrosses c.trig c.level c.prev v.x then s.modCap fun c => { c with hit := some v.ofs } else s

/-- The mark of the period that ends enters before its samples; in single mode it disarms the trigger. -/
def State.capMark (s : State) (o : Nat) : State :=
  let s1 := s.capPush (capRec 0x20 s.cap.trig s.pnumOut o (s.cap.mark % 65536))
  ((s1.modCap fun c => { c with mark := c.mark + 1 }).count F.CAP_STAT_MARK_CNT 0).cond s.cap.single fun t =>
    t.setFlag F.CAP_STAT_ARMED 0 false

/-- A stop is due at this boundary. -/
def State.capStops (s : State) : Bool := s.cap.stopAt.isSome

/-- A mark is placed at this boundary (R446). -/
def State.capMarks (s : State) : Bool :=
  s.capState == 1 && s.flag F.CAP_STAT_ARMED 0 && !s.capStops && s.capEarly.capTrigger.isSome

/-- The stream at a boundary: the mark, then the samples of the period that ends in ascending index (R444). -/
def State.capStream (s : State) : State :=
  if s.capState != 1 then s
  else
    let t := s.capEarly
    let m := match s.capMarks, t.capTrigger with
      | true, some o => t.capMark o
      | _, _ => t
    let n := m.forUnits m.cap.srcs.length fun u i =>
      let c := m.cap.srcs.getD i {}
      if c.free then u else u.capSample i s.pnumOut (s.capVal c)
    (n.modCap fun c => { c with hit := none, fresh0 := false }).capLevel

/-- The capture engine at the end of a period (R444 to R446, R450, R451). Events that the boundary itself posts belong to the next period. -/
def State.capBoundary (s : State) : State :=
  let s1 := ((s.capStream.forUnits 4 fun t u => t.histCount u).pmapCount).modPwm fun w => { w with capTrig := none }
  { s1 with cap := { s1.cap with portAt := none }, evq := { s1.evq with codes := s1.evq.codes.drop s.evq.codes.length } }

/-- A stop that waits takes effect at the boundary just passed (R445). -/
def State.capStopNow (s : State) : State :=
  if s.capStops then
    ((s.modCap fun c => { c with stopAt := none, stopN := s.pnumOut }).setFld F.CAP_STAT_STATE 0 2).setFlag F.CAP_STAT_ARMED 0 false
  else s

/-- A start that waits takes effect there, and its command completes (R445). -/
def State.capStartNow (s : State) : State := match s.cap.startAt with
  | none => s
  | some _ =>
    (((s.modCap fun c => { c with
      startAt := none, counts := c.srcs.map fun _ => 0, prev := none, fresh0 := true, hit := none, run := (c.run + 1) % 65536
      seq := 0, opening := true, mark := 0, gap := 0, sent := [] }).setFld F.CAP_STAT_STATE 0 1).setFlag F.CAP_STAT_ARMED 0 true).capAnswer
        0x0602 s.pnumOut

/-! ### Datagrams and the flush (R443, R445) -/

/-- The header of the next datagram over these records (Table 16.1). -/
def State.capHeader (s : State) (l : List CapRec) (last : Bool) : List Byte :=
  let flags := b2n s.cap.opening + 2 * b2n last + 4 * b2n (s.flag F.CAP_STAT_SINGLE 0) + 8 * b2n (s.flag F.CAP_STAT_ARMED 0)
  leBytes 1 1 ++ leBytes 1 flags ++ leBytes 2 s.cap.seq ++ leBytes 8 ((l.headD ⟨0, []⟩).pnum) ++ leBytes 2 l.length
    ++ leBytes 2 s.cap.run

/-- DATAGRAM_CLOSE (R43, R443): at most 178 records leave on NET-C while its link is up. -/
def execDatagramClose (s : State) : Host.Outcome State Fault Refusal :=
  let l := s.cap.fifo.take 178
  let last := s.capState == 2 && decide (s.cap.fifo.length ≤ 178)
  .next (
    if l.isEmpty || !s.netRuns || !s.flag F.MAC_STAT_LINK 2 || s.txHeld 2 || !s.serves 3 then s
    else (s.modCap fun c => { c with
      fifo := c.fifo.drop 178, sent := s.capHeader l last ++ l.flatMap (·.bytes), seq := (c.seq + 1) % 65536, opening := false }).capLevel)

/-- The flush has ended: STOPPED, and the command completes with the period number of the stop (R378, R445). -/
def State.capEnd (s : State) : State := (s.setFld F.CAP_STAT_STATE 0 0).capAnswer 0x0603 s.cap.stopN

/-- FLUSH_COMPLETE (R445). -/
def execFlushComplete (s : State) : Host.Outcome State Fault Refusal :=
  .next (if s.capState == 2 && s.cap.fifo.isEmpty then s.capEnd else s)

/-- FLUSH_TIMEOUT (R445): what remains is discarded and counted. -/
def execFlushTimeout (s : State) : Host.Outcome State Fault Refusal :=
  .next (if s.capState != 2 then s
    else (((s.countN F.CAP_STAT_CAP_LOST 0 s.cap.fifo.length).modCap fun c => { c with fifo := [], gap := 0 }).capLevel).capEnd)

/-! ### CAPTURE commands (Table 14.9) -/

/-- The stream runs, or a start is pending (R406). -/
def State.capRuns (s : State) : Bool := s.capState != 0 || s.cap.startAt.isSome

/-- CAP_CFG (R406, R446, R447). -/
def execCapCfg (tag : Fin 128) (s : State) : Host.Outcome State Fault Refusal :=
  serve 0x0601 tag s fun e =>
    let n := e.a 8
    let l := (List.range n).map fun i => capSrcAt e.payload (8 * i)
    let srcs := l.map (·.1)
    if e.payload.length ≠ 8 * n then s.done e.tag FS.FS_LEN
    else if 1 < e.a 0 ∨ 5 < e.a 1 ∨ n = 0 ∨ 32 < n ∨ !l.all fun x => x.2 && x.1.ok then s.done e.tag FS.FS_PARAM
    else if s.capRuns then s.done e.tag FS.FS_BUSY
    else if 100000000 < capBytes srcs s.fineP then s.done e.tag FS.FS_CAP_BUDGET
    else
      let s1 := s.modCap fun c => { c with single := e.a 0 == 1, trig := e.a 1, level := e.af 4, srcs := srcs, counts := srcs.map fun _ => 0 }
      (s1.capRate.setFlag F.CAP_STAT_SINGLE 0 (e.a 0 == 1)).done e.tag FS.FS_OK

/-- CAP_START (R445, R446): a run starts at the next boundary; during a run the trigger is rearmed. -/
def execCapStart (tag : Fin 128) (s : State) : Host.Outcome State Fault Refusal :=
  serve 0x0602 tag s fun e =>
    if s.capState = 1 then (s.setFlag F.CAP_STAT_ARMED 0 true).done e.tag FS.FS_OK
    else if s.capRuns then s.done e.tag FS.FS_BUSY
    else (s.modCap fun c => { c with startAt := some s.pwm.bnd }).start e.tag

/-- CAP_STOP (R445): production ends at the next boundary; the command completes when the FIFO is empty. -/
def execCapStop (tag : Fin 128) (s : State) : Host.Outcome State Fault Refusal :=
  serve 0x0603 tag s fun e =>
    if s.capState = 0 then s.done e.tag FS.FS_OK
    else if s.capState = 2 ∨ s.capStops then s.done e.tag FS.FS_BUSY
    else (s.modCap fun c => { c with stopAt := some s.pwm.bnd }).start e.tag

/-- A period source in its place: legal, clean and not free-running. -/
def periodSrc (x : CapSrc × Bool) : Bool := x.2 && x.1.ok && !x.1.free

/-- Two edges of which the high one lies above the low one. -/
def edgesOk (lo hi : F32) : Bool := fFinite lo && fFinite hi && fLt lo hi

/-- CAP_HIST_CFG (R450). -/
def execCapHistCfg (tag : Fin 128) (s : State) : Host.Outcome State Fault Refusal :=
  serve 0x0604 tag s fun e =>
    let c := capSrcAt e.args 4
    if 3 < e.a 0 ∨ !periodSrc c ∨ !edgesOk (e.af 12) (e.af 16) then s.done e.tag FS.FS_PARAM
    else if s.capRuns then s.done e.tag FS.FS_BUSY
    else ((s.modCap fun x => { x with hist := vmod x.hist (e.a 0) fun _ =>
      { src := c.1, on := true, b0 := s.pwm.bnd, lo := e.af 12, hi := e.af 16 } }).setFld (F.HIST_OUT_ALL.nth (e.a 0)) 0 0).done e.tag FS.FS_OK

/-- CAP_HIST_READ (R452). -/
def execCapHistRead (tag : Fin 128) (s : State) : Host.Outcome State Fault Refusal :=
  serve 0x0605 tag s fun e =>
    let n := e.a16 4
    if 3 < e.a 0 ∨ n = 0 ∨ 256 < n ∨ 4096 < e.a16 2 + n then s.done e.tag FS.FS_PARAM
    else s.complete e.tag FS.FS_OK 0 []
      ((Memory.getMany (fun _ => 0) (vget s.cap.hist (e.a 0)).bins (e.a16 2) n).flatMap (leBytes 4))

/-- CAP_PMAP_CFG (R451). -/
def execCapPmapCfg (tag : Fin 128) (s : State) : Host.Outcome State Fault Refusal :=
  serve 0x0606 tag s fun e =>
    let x := capSrcAt e.args 4
    let y := capSrcAt e.args 12
    if !periodSrc x ∨ !periodSrc y ∨ !edgesOk (e.af 20) (e.af 24) ∨ !edgesOk (e.af 28) (e.af 32) then s.done e.tag FS.FS_PARAM
    else if s.capRuns then s.done e.tag FS.FS_BUSY
    else (s.modCap fun c => { c with
      px := x.1, py := y.1, pOn := true, pB0 := s.pwm.bnd, pCount := 0, cells := []
      pEdges := [e.af 20, e.af 24, e.af 28, e.af 32] }).done e.tag FS.FS_OK

/-- CAP_PMAP_READ (R451, R452). -/
def execCapPmapRead (tag : Fin 128) (s : State) : Host.Outcome State Fault Refusal :=
  serve 0x0607 tag s fun e =>
    let n := e.a 1
    if n = 0 ∨ 2 < n ∨ 256 < e.a 0 + n then s.done e.tag FS.FS_PARAM
    else s.complete e.tag FS.FS_OK 0 [] ((Memory.getMany (fun _ => 0) s.cap.cells (256 * e.a 0) (256 * n)).flatMap (leBytes 2))

/-! ### Event queue, event block and ring (R454, R456, R513, R514) -/

/-- The 24 bytes of an event record (Table 19.9). -/
def EvRec.bytes (r : EvRec) : List Byte :=
  leBytes 2 r.code ++ leBytes 1 r.unit ++ leBytes 1 r.flags ++ leBytes 4 r.sec ++ leBytes 4 r.ns ++ leBytes 4 r.pnum ++ leBytes 8 r.data

/-- EVENT_DRAIN (R43, R454, R514): one arbitration cycle that may serve the event queue. Fencen takes the oldest event of the queue to the event block and, unless the island has written it, to
the ring; where the island offers a record, the write port takes that one first (R454). -/
def execEventDrain (s : State) : Host.Outcome State Fault Refusal :=
  .next (match s.fencenRuns && s.serves 6 && (s.recd.island.isEmpty || !s.recd.on), s.evq.queue with
    | true, r :: rest =>
      let q := { s.evq with queue := rest, slots := vmod s.evq.slots (r.num % 32) fun _ => some r, blockNext := r.num + 1 }
      ({ s with evq := q }.setFld F.EVQ_STAT_DEPTH 0 rest.length).cond (s.recd.on && r.flags % 2 == 0) fun t => t.ringPut r
    | _, _ => s)

/-- ISLAND_RECORD_WRITE (R454, R455): the oldest record of the island's write buffer enters the ring while it is in service; in Paddock the
LPDDR is in self-refresh. -/
def execIslandRecordWrite (s : State) : Host.Outcome State Fault Refusal :=
  .next (match s.recd.on && s.gait != Gait.paddock, s.recd.island with
    | true, r :: rest => { s with recd := { s.recd with island := rest } }.ringPut r
    | _, _ => s)

end Sys2Proof.Machine
end

