-- ==== Sys2Proof/Machine/Trace.lean ====
section
/-!
DEFINITION. The TRACE commands (R121 to R123, R405, Table 14.8) and the copy of a buffer into LPDDR.
-/
namespace Sys2Proof.Machine

/-- Armed or triggered. -/
def State.trLive (s : State) (c : Nat) : Bool := s.trState c == 1 || s.trState c == 2

/-- TRACE_CFG and TRACE_CTL as TR_ARM gives them are free of reserved bits and values (Tables 03.10, 03.11). -/
def trArgsOk (cfg ctl : Word) : Bool :=
  fieldOf cfg 19 16 == 0 && fieldOf ctl 31 30 == 0 && fieldOf ctl 29 28 < 2 && fieldOf ctl 27 24 < 6 && fieldOf ctl 23 14 == 0

/-- TR_ARM (R122, R123): configures the channel and arms it, with its buffer empty. -/
def execTrArm (tag : Fin 128) (s : State) : Host.Outcome State Fault Refusal :=
  serve 0x0501 tag s fun e =>
    let c := e.a 0
    let cfg := e.af 4
    let ctl := e.af 8
    if 7 < c || !trArgsOk cfg ctl then s.done e.tag FS.FS_PARAM
    else if (s.tr c).copying || (s.trLive c && s.reg R.TRACE_CFG c != cfg) then s.done e.tag FS.FS_BUSY
    else
      let s1 := ((s.setReg R.TRACE_CFG c cfg).setReg R.TRACE_CTL c ctl).setReg R.TRACE_LEVEL c (e.af 12)
      ((s1.setFld F.TRACE_CTL_STATE c 1).modTr c fun _ => {}).done e.tag FS.FS_OK

/-- TR_TRIG (R122): the host's trigger. -/
def execTrTrig (tag : Fin 128) (s : State) : Host.Outcome State Fault Refusal :=
  serve 0x0502 tag s fun e =>
    let c := e.a 0
    if 7 < c then s.done e.tag FS.FS_PARAM
    else if s.trState c != 1 || s.fld F.TRACE_CTL_TRIG_SRC c != 0 then s.done e.tag FS.FS_BUSY
    else (s.trTrigger c).done e.tag FS.FS_OK

/-- TR_STOP (R122): recording ends and the samples stay. -/
def execTrStop (tag : Fin 128) (s : State) : Host.Outcome State Fault Refusal :=
  serve 0x0503 tag s fun e =>
    let c := e.a 0
    if 7 < c then s.done e.tag FS.FS_PARAM
    else (s.cond (s.trLive c) fun t => (t.setFld F.TRACE_CTL_STATE c 0).modTr c fun x => { x with stopped := true }).done
      e.tag FS.FS_OK

/-- Samples the channel offers: its copy, or the buffer a read would copy. -/
def State.trCount (s : State) (c : Nat) : Nat := match (s.tr c).copy with
  | some l => l.length
  | none => (s.tr c).buf.length

/-- The channel holds samples not yet copied: DONE, or stopped by the host. -/
def State.trHolds (s : State) (c : Nat) : Bool := s.trState c == 3 || (s.tr c).stopped

/-- The completion of a TR_READ from the copy (Table 14.8). -/
def State.trAnswer (s : State) (e : Entry) : State :=
  let t := s.tr (e.a 0)
  let l := (((t.copy.getD []).drop (e.a32 4)).take (e.a16 8)).flatMap fun w => leBytes 4 w.toNat
  s.complete e.tag FS.FS_OK 0 (leBytes 8 t.copyP ++ timeBytes t.copyT ++ leBytes 2 t.copyTrig) l

/-- TR_READ (R123, R405): from the copy; a DONE or stopped channel is copied first. -/
def execTrRead (tag : Fin 128) (s : State) : Host.Outcome State Fault Refusal :=
  serve 0x0504 tag s fun e =>
    let c := e.a 0
    let n := e.a16 8
    if 7 < c || n == 0 || decide (256 < n) then s.done e.tag FS.FS_PARAM
    else if s.trLive c then s.done e.tag FS.FS_BUSY
    else if s.trCount c < e.a32 4 + n then s.done e.tag FS.FS_PARAM
    else if (s.tr c).copying then s.start e.tag
    else if s.trHolds c then (s.start e.tag).modTr c fun t => { t with copying := true }
    else s.trAnswer e

/-- TRACE_COPY_COMPLETE (R123): the copy ends, the channel is IDLE, and the reads that wait complete. -/
def execTraceCopyComplete (ch : Fin 8) (s : State) : Host.Outcome State Fault Refusal :=
  let c := ch.val
  .next (
    if !(s.tr c).copying then s
    else
      let s1 := (s.setFld F.TRACE_CTL_STATE c 0).modTr c fun t => { t with
        copying := false, stopped := false, copy := some t.buf
        copyP := t.pnum0 + t.dropped * t.stepP, copyT := t.time0 + t.dropped * t.stepT
        copyTrig := match t.trigAt with
          | some a => a - t.dropped
          | none => 0xFFFF }
      (s1.fcp.inflight.filter fun e => e.op == 0x0504 && e.started && e.a 0 == c).foldl State.trAnswer s1)

end Sys2Proof.Machine
end

