-- ==== Sys2Proof/Machine/Flags.lean ====
section
/-!
DEFINITION. Status words and flags the device forms from its state as they are read: MB_FLOW and MB_IRQ.PEND (13), WSEL.VALID (19),
SPUR_CTRL (20). Flags an event sets or clears are written by the meaning of that event, each as one field of the register file.
-/
namespace Sys2Proof.Machine

/-- Units of a WSEL class (Table 19.3b). -/
def classUnits (c : Nat) : Nat := [0, 48, 8, 63, 8, 12, 24, 64, 32, 8, 4, 3, 8, 32].getD c 0

/-- WSEL.VALID (Table 19.3a). -/
def PathSt.valid (q : PathSt) : Bool := decide (q.idx < classUnits q.cls)

/-- PEND of MB_IRQ (Table 13.13). -/
def Mailbox.pend (b : Mailbox) : Bool := !b.posted.isEmpty || b.rstSeen

/-- MB_FLOW of mailbox m (Table 13.11). -/
def State.mbFlow (s : State) (m : Nat) : Nat :=
  let b := vget s.fcp.boxes m
  2 ^ 31 * b2n b.isOpen + 2 ^ 30 * b2n b.restarting + 2 ^ 29 * b2n b.rstSeen + 2 ^ 28 * b2n (vget s.fcp.busy m) + 2 ^ 25 * b.refuse
    + 2 ^ 16 * b.tail + 256 * b.posted.length + s.credits m

/-- SPUR_CTRL with ACTIVE and WHY (Table 20.1). -/
def State.spurView (s : State) : Word :=
  let w := putField (s.reg R.SPUR_CTRL 0) 30 30 (b2n s.spurOn)
  putField w 29 28 (if !s.flag F.TACK_CTRL_TEST_EN 0 then 1 else if s.stwState != 1 then 2 else 0)

end Sys2Proof.Machine
end

