-- ==== Sys2Proof/Machine/Spur.lean ====
section
/-!
DEFINITION. Spur and the debug port (20): sessions, error injection, halts, boundary scan.
-/
namespace Sys2Proof.Machine

/-! ### Sessions (R517, R518) -/

/-- SPUR_SESSION_START: at the boundary after a write of EN the session starts, when the other conditions of R517 hold. -/
def execSpurSessionStart (s : State) : Host.Outcome State Fault Refusal :=
  .next (match s.spur.req with
    | none => s
    | some b =>
      let s1 := { s with spur := { s.spur with req := none } }
      let n := s.fld F.SPUR_CTRL_PERIODS 0
      if s.pwm.bnd ≤ b then s
      else if s.flag F.TACK_CTRL_TEST_EN 0 && s.flag F.SPUR_CTRL_EN 0 && s.stwState == 1 then
        ((s1.setFlag F.SPUR_CTRL_ACTIVE 0 true).setFld F.SPUR_STAT_LEFT 0 n).post EV.EV_SPUR_START noUnit n
      else s1)

/-- The condition of R517 that fails, as the reason of EV_SPUR_STOP. -/
def State.spurReason (s : State) : Nat :=
  if !s.flag F.SPUR_CTRL_EN 0 then 0 else if s.stwState == 1 then 1 else 2

/-- SPUR_SESSION_STOP (R518). -/
def execSpurSessionStop (s : State) : Host.Outcome State Fault Refusal :=
  .next (if s.spurMay then s else s.spurStop s.spurReason)

/-- A write of SPUR_CTRL (R517): EN and PERIODS are stored; EN = 1 requests a session, EN = 0 ends one. -/
def State.spurCtrl (s : State) (v : Word) : State :=
  let en := bitOf v.toNat 31
  let s1 := (s.setFlag F.SPUR_CTRL_EN 0 en).setFld F.SPUR_CTRL_PERIODS 0 (v.toNat % 65536)
  if en then
    (if s.flag F.SPUR_CTRL_ACTIVE 0 || s.spur.req.isSome then s1 else { s1 with spur := { s1.spur with req := some s1.pwm.bnd } })
  else ({ s1 with spur := { s1.spur with req := none } }).spurStop 0

/-! ### Injection (R521) -/

/-- Bytes of a memory of Table 18.8 that has a stated size: context RAM, coefficient banks, HLP program, HLP variables. For the
others any OFFSET lies inside. -/
def memBytes (code : Nat) : Nat := [16128, 131072, 262144, 65536].getD code (2 ^ 20)

/-- The named tile and byte, or the named memory word, lie inside the target. -/
def State.injInside (s : State) (kind : Bool) (target tile off : Nat) : Bool :=
  if kind then decide (target < 8) && decide (off < memBytes target)
  else decide (off < 4096) && decide (target < 6)
    && decide (tile < [16, 16, s.hlp.prog.count, 4, 1, 16].getD target 0)

/-- Flip bit 0 of byte `off` of a tile, leaving its directory entry as it is. The content of stores 3 to 5 is kept with the
registers it configures; for them the tile is marked. -/
def State.flipByte (s : State) (target tile off : Nat) : State :=
  if target < 2 then
    let k := 1024 * tile + off / 4
    let flip := fun (b : Memory Word) => Memory.set (fun _ => 0#32) b k (Memory.get (fun _ => 0#32) b k ^^^ 1#32 <<< (8 * (off % 4)))
    s.modCoef fun c => { c with bank := vmod c.bank target flip }
  else if target = 2 then
    let k := 4096 * tile + off
    let flip := fun (b : Memory Byte) => Memory.set (fun _ => 0#8) b k (Memory.get (fun _ => 0#8) b k ^^^ 1#8)
    s.modHlp fun h => { h with prog := { h.prog with bytes := flip h.prog.bytes } }
  else if target = 3 ∧ !(vget s.sd.tiles tile).isEmpty then
    { s with sd := { s.sd with tiles := vmod s.sd.tiles tile fun l => l.modify (off / 4) fun w => w ^^^ 1#32 <<< (8 * (off % 4)) } }
  else if s.coef.badTiles.contains (target, tile) then s
  else s.modCoef fun c => { c with badTiles := c.badTiles ++ [(target, tile)] }

/-- A write of SPUR_INJ (R521): the fields are stored; GO = 1 injects one error or is refused and counted. -/
def State.spurInj (s : State) (v : Word) : State :=
  let kind := bitOf v.toNat 30
  let target := fieldOf v 29 26
  let tile := fieldOf v 25 20
  let off := fieldOf v 19 0
  let s1 := s.setReg R.SPUR_INJ 0 (v &&& 0x7FFFFFFF#32)
  if !bitOf v.toNat 31 then s1
  else if !s.spurOn || !s.injInside kind target tile off then
    (s1.count F.SPUR_STAT_REJ_CNT 0).post EV.EV_SPUR_REJECT target (b2n kind)
  else
    let s2 := if kind then { s1 with spur := { s1.spur with bad := s1.spur.bad ++ [(target, off)] } } else s1.flipByte target tile off
    (s2.count F.SPUR_STAT_INJ_CNT 0).post EV.EV_SPUR_INJECT target (b2n kind + 256 * tile + 65536 * off)

/-! ### Halts of the debug port (R523) -/

/-- UNIT of EV_DBG_HALT. -/
def dbgUnit : DbgCpu → Nat
  | .svp => 0
  | .cle => 1
  | .hlp => 2

/-- The processor is halted by debug. -/
def State.dbgIsHalted (s : State) : DbgCpu → Bool
  | .svp => s.fcp.svpHalted
  | .cle => s.cle.dbgHalted
  | .hlp => s.hlp.dbgHalted

/-- Halt or resume a processor. -/
def State.dbgSet (s : State) (cpu : DbgCpu) (on : Bool) : State :=
  match cpu with
  | .svp => { s with fcp := { s.fcp with svpHalted := on } }
  | .cle => s.modCle fun c => { c with dbgHalted := on }
  | .hlp => s.modHlp fun h => { h with dbgHalted := on }

/-- DEBUG_HALT. -/
def execDebugHalt (cpu : DbgCpu) (s : State) : Host.Outcome State Fault Refusal :=
  .next (if !s.dbgOpen || s.dbgIsHalted cpu then s
    else
      let s1 := (s.dbgSet cpu true).post EV.EV_DBG_HALT (dbgUnit cpu) 0
      if cpu = .cle then s1.freeze else s1)

/-- DEBUG_RESUME. -/
def execDebugResume (cpu : DbgCpu) (s : State) : Host.Outcome State Fault Refusal :=
  .next (if !s.dbgOpen || !s.dbgIsHalted cpu then s
    else
      let s1 := (s.dbgSet cpu false).post EV.EV_DBG_HALT (dbgUnit cpu) 1
      match cpu with
      | .svp => s1.svpResume
      | .cle => s1.unfreeze
      | .hlp => s1)

/-- EXTEST (R522): accepted only while the Tack Table is unlocked. It drives the direct pins; GDEN, ACT_OUT and SGR_OUT are
observe-only. -/
def execExtest (pins : BitVec 48) (s : State) : Host.Outcome State Fault Refusal :=
  .next (if s.flag F.TACK_CTRL_LOCK 0 then s else s.modPwm fun p => { p with extest := some pins.toNat })

end Sys2Proof.Machine
end

