-- ==== Sys2Proof/Machine/Window.lean ====
section
/-!
DEFINITION. The Direct Register Window (19, 13): what each path reads and writes, read side effects (R118, R502), the registers
whose writes act beyond their access codes, manual PWM access (R205), and the quad-SPI instructions (R381, R382).
-/
namespace Sys2Proof.Machine

/-! ### Access paths (R502) -/

/-- Path number: 0 quad-SPI, 1 debug; 2 is Fencen's own. -/
def pathNo : Path → Nat
  | .qspi => 0
  | .debug => 1

/-- What path p holds of its own. -/
def State.pathSt (s : State) (p : Nat) : PathSt := if p = 0 then s.win.qspi else if p = 1 then s.win.dbg else s.win.fen

/-- Change it. -/
def State.modPath (s : State) (p : Nat) (f : PathSt → PathSt) : State :=
  { s with win := if p = 0 then { s.win with qspi := f s.win.qspi } else if p = 1 then { s.win with dbg := f s.win.dbg }
                  else { s.win with fen := f s.win.fen } }

/-! ### Reads -/

/-- Low 32 bits of n. -/
def lo32 (n : Nat) : Word := BitVec.ofNat 32 n

/-- Bits 63:32 of n. -/
def hi32 (n : Nat) : Word := BitVec.ofNat 32 (n / 2 ^ 32)

/-- Byte r of mailbox m as it reads (Table 13.7). -/
def State.mbByte (s : State) (m r : Nat) : Byte :=
  let b := vget s.fcp.boxes m
  if r < 4 then 0
  else if r < 8 then (leBytes 4 (s.mbFlow m)).getD (r - 4) 0#8
  else if r < 12 then (leBytes 4 b.head).getD (r - 8) 0#8
  else if r < 16 then (leBytes 4 (2 ^ 31 * b2n b.irqEn + 2 ^ 30 * b2n b.pend)).getD (r - 12) 0#8
  else if decide (0x40 ≤ r) && decide (r < 0x880) then Memory.get (fun _ => 0#8) s.fcp.ram (mbBase m + r)
  else if decide (0x880 ≤ r) && decide (r < 0xC80) then (b.posted.head?.map fun p => p.payload.getD (r - 0x880) 0#8).getD 0#8
  else 0#8

/-- Mailbox RAM byte at window offset `off`. -/
def State.ramByte (s : State) (off : Nat) : Byte := s.mbByte ((off - 0x1000) / 0x1C00) ((off - 0x1000) % 0x1C00)

/-- Four bytes as a word. -/
def wordOf (l : List Byte) : Word := BitVec.ofNat 32 (leAt l 0 4)

/-- Slot word of the event block: 8 bytes number, 24 bytes record (Table 19.8). -/
def State.slotWord (s : State) (o : Nat) : Word := match vget s.evq.slots (o / 32) with
  | some r => wordOf (slice (leBytes 8 r.num ++ r.bytes) (o % 32) 4)
  | none => 0#32

/-- A register of class c, unit i, at offset `off` as path state q reads it, without side effects. -/
def State.regView (s : State) (q : PathSt) (c i off : Nat) : Word :=
  match c, off with
  | 0, 0x100 => BitVec.ofNat 32 (2 ^ 31 * b2n q.valid + 256 * q.cls + q.idx)
  | 0, 0x264 => lo32 s.pwm.pnum
  | 0, 0x268 => q.pnumHi
  | 0, 0x32C => lo32 s.recd.next
  | 0, 0x330 => q.recHi
  | 0, 0x800 => lo32 s.evq.blockNext
  | 0, 0x804 => q.evbHi
  | 0, 0x8000 => s.spurView
  | 1, 0x3E4 => if s.flag F.LEG_CFG_GL i then Memory.get resetWord s.regs (regKey 1 i 0x3E4) else 0#32
  | 9, 0x3C4 => Memory.get resetWord s.regs (regKey 9 i 0x3C4) &&& (if i < 6 then 0xFFFFFFFF#32 else 0xFFE0FFFF#32)
  | 9, 0x3C8 => Memory.get resetWord s.regs (regKey 9 i 0x3C8) &&& (if i < 6 then 0xFFFFFFFF#32 else 0xFFFF0000#32)
  | 3, 0x3C0 => s.cword i 0
  | 3, 0x3C4 => s.cword i 12
  | 3, 0x3C8 => s.cword i 48
  | 3, 0x3CC => q.res.getD 0 0
  | 3, 0x3D0 => q.res.getD 1 0
  | 3, 0x3D4 => q.res.getD 2 0
  | 3, 0x3D8 => q.res.getD 3 0
  | 0xA, 0x3C0 => s.tbStat i
  | 0xA, 0x3C4 => lo32 (vget s.tb i).ns
  | 0xA, 0x3C8 => q.secLo
  | 0xA, 0x3CC => q.secHi
  | 0xA, 0x3D0 => q.frac
  | 0xA, 0x3D4 => BitVec.ofInt 32 (vget s.tb i).freq
  | 0xA, 0x3D8 => if i = 0 then lo32 s.ofsEst else 0
  | _, _ =>
    if (regRow? c off).isSome then Memory.get resetWord s.regs (regKey c i off)
    else if c = 0 && decide (0x400 ≤ off) && decide (off < 0x800) then Memory.get (fun _ => 0#32) q.view off
    else if c = 0 && decide (0xC00 ≤ off) && decide (off < 0x1000) then s.slotWord (off - 0xC00)
    else 0#32

/-- Read side effects that fall on the register itself: its RC fields clear (R11, R524). -/
def State.readClear (s : State) (c i off : Nat) : State := match regRow? c off with
  | some r =>
    if r.rc = 0 then s
    else
      let k := regKey c i off
      { s with regs := Memory.set resetWord s.regs k (Memory.get resetWord s.regs k &&& ~~~(BitVec.ofNat 32 r.rc)) }
  | none => s

/-- Latches a read fills on its path: high words, the result latch of R118 and, with `count`, RDCNT (R118, R502). -/
def State.readLatch (s : State) (p c i off : Nat) (count : Bool) : State :=
  match c, off with
  | 0, 0x264 => s.modPath p fun q => { q with pnumHi := hi32 s.pwm.pnum }
  | 0, 0x32C => s.modPath p fun q => { q with recHi := hi32 s.recd.next }
  | 0, 0x800 => s.modPath p fun q => { q with evbHi := hi32 s.evq.blockNext }
  | 0xA, 0x3C4 =>
    let t := vget s.tb i
    s.modPath p fun q => { q with secLo := lo32 t.sec, secHi := hi32 t.sec, frac := lo32 (t.ticks % 65536) }
  | 3, 0x3C8 =>
    let s1 := s.modPath p fun q => { q with res := [s.cword i 49, s.cword i 50, s.cword i 51, s.cword i 52] }
    if count then s1.setCf F.RES_STAT_RDCNT i (satAdd (s1.cf F.RES_STAT_RDCNT i) 1 3) else s1
  | _, _ => s

/-- The word at window offset `off` (aligned) as path p shows it now. -/
def State.peek (s : State) (p off : Nat) : Word :=
  let q := s.pathSt p
  if decide (0x1000 ≤ off) && decide (off < 0x8000) then wordOf ((List.range 4).map fun k => s.ramByte (off + k))
  else if decide (0x3C0 ≤ off) && decide (off < 0x400) then (if q.valid then s.regView q q.cls q.idx off else 0#32)
  else s.regView q 0 0 off

/-- Unit a window offset addresses on path p: the selected one, or the global registers. -/
def State.unitAt (s : State) (p off : Nat) : Nat × Nat :=
  if decide (0x3C0 ≤ off) && decide (off < 0x400) then
    (let q := s.pathSt p; if q.valid then (q.cls, q.idx) else (0xFF, 0))
  else (0, 0)

/-- A read of the aligned word at `off` by path p, with its side effects (R382). -/
def State.hostRead (s : State) (p off : Nat) : Word × State :=
  match s.access p off false with
  | 0 =>
    let s0 := if off = 0x400 then s.modPath p fun q => { q with view := s.win.snap } else s
    let u := s0.unitAt p off
    (s0.peek p off, (s0.readLatch p u.1 u.2 off true).readClear u.1 u.2 off)
  | 1 => (0#32, s)
  | _ => (0#32, s.count F.DRW_STAT_DENY_CNT 0)

/-- A read row: the word it returns stands in `last`. -/
def State.readRow (s : State) (p off : Nat) : State :=
  let r := s.hostRead p off
  r.2.modPath p fun q => { q with last := [r.1] }

/-! ### Writes -/

/-- A write by the access codes of R11: RW and, until the Tack Table is locked, RWL bits take the value; W1C bits written 1 clear. -/
def State.writeMasked (s : State) (c i off : Nat) (v : Word) : State := match regRow? c off with
  | some r =>
    let k := regKey c i off
    let old := Memory.get resetWord s.regs k
    let m := BitVec.ofNat 32 (if s.flag F.TACK_CTRL_LOCK 0 then r.rw else r.rw ||| r.rwl)
    let new := ((old &&& ~~~m) ||| (v &&& m)) &&& ~~~(v &&& BitVec.ofNat 32 r.w1c)
    { s with regs := Memory.set resetWord s.regs k new }
  | none => s

/-- A manual write or commit while a port is out of OFF (R205). -/
def State.manRej (s : State) : State := s.setFlag F.PWM_GSTAT_MAN_REJ 0 true

/-- Legs of the manual bundle that go to frames, and t_frame of the slowest of their lanes (R204). -/
def State.manFrame (s : State) : Nat :=
  s.pwm.manSet.foldl (fun m n => if s.flag F.LEG_CFG_GL n then max m (frameOf (s.fld F.LANE_CFG_RATE (s.fld F.LEG_CFG_LANE n))) else m) 0

/-- A manual commit (R205): the staged values become a bundle; it is late by R204 past its deadline. -/
def State.manCommit (s : State) : State :=
  let P := s.fld F.PWM_PERIOD_SH_ALL 0
  if !s.allOff || decide (P < periodLo s.gait s.anyGl) then s.manRej
  else
    let b : Bundle := {
      unit := 13, stamp := s.pwm.pnum, ws := s.pwm.manSet.map fun n => (n, s.fld F.LEG_CMP_ALL n), env := []
      period := if s.pwm.manPeriod then some P else none
      late := decide (s.pwm.tk + s.reloadSpan < s.now + max 64 s.manFrame), gl := false }
    (s.modPwm fun w => { w with bundles := w.bundles ++ [b], manSet := [], manPeriod := false }).cond b.late fun t =>
      t.lateLegs s.pwm.manSet

/-- A write of CMP_STATIC of input n (R172). -/
def State.cmpStatic (s : State) (n : Nat) (v : Word) : State :=
  if s.flag F.CMP_CFG_SRC n then s.setFlag F.CMP_STAT_WR_REJ n true
  else
    let t := s.writeMasked 7 n 0x3CC v
    { t with adc := { t.adc with statics := n :: t.adc.statics.filter (· != n) } }

/-- A write of LEG_STAT (R223): CROSSFIRE clears only while the leg is not switching. -/
def State.legStat (s : State) (n : Nat) (v : Word) : State :=
  s.writeMasked 1 n 0x3D8 (if s.legSwitching n then v &&& 0x7FFFFFFF#32 else v)

/-- A write of TG_STAT (R227): TRIPPED clears only while no source of the group is active; legs held by no other tripped group
are released at the next reload. -/
def State.tgStat (s : State) (g : Nat) (v : Word) : State :=
  if !bitOf v.toNat 31 || !s.flag F.TG_STAT_TRIPPED g || !(s.groupSources g false).isEmpty then s
  else
    let s1 := s.setFlag F.TG_STAT_TRIPPED g false
    let others := ((List.range 8).filter fun h => s1.flag F.TG_STAT_TRIPPED h).flatMap s1.groupLegs
    ((s1.groupLegs g).filter fun n => !others.contains n).foldl (fun t n => t.modLeg n fun l => { l with relPend := true }) s1

/-- A write of DL_CTRL (R199): clearing CAL_HOLD hands the code in force back to calibration. -/
def State.dlCtrl (s : State) (v : Word) : State :=
  let back := s.flag F.DL_CTRL_CAL_HOLD 0 && !bitOf v.toNat 31
  (s.cond back fun t => t.setFld F.DL_STAT_CAL_CODE 0 (t.fld F.DL_STAT_DL_CODE 0)).writeMasked 0 0 0x278 v

/-- A write of OBS_BIN_SEL (Table 04.5): it latches a bin of the published set. -/
def State.obsBinSel (s : State) (p : Nat) (v : Word) : State :=
  let s1 := s.writeMasked 5 p 0x3D0 v
  if 4 ≤ p then s
  else match (s.ob p).bins[v.toNat % 64]? with
    | none => s1
    | some b =>
      let s2 := ((s1.setReg R.OBS_BIN_RE p b.1).setReg R.OBS_BIN_IM p b.2.1).setReg R.OBS_BIN_COH p b.2.2.1
      (s2.setFlag F.OBS_BIN_SEL_BIN_VALID p b.2.2.2).setFld F.OBS_BIN_SEL_SET_SEQ p (s.ob p).setSeq

/-- A write of LANE_SLIP (R240): the word boundary moves one bit later, so a comma stands one bit earlier against it. -/
def State.laneSlip (s : State) (l : Nat) (v : Word) : State :=
  if v.toNat % 2 = 0 then s
  else
    let s1 := s.setFld F.LANE_STAT_COMMA_POS l ((s.fld F.LANE_STAT_COMMA_POS l + 9) % 10)
    { s1 with gl := { s1.gl with commas := vmod s1.gl.commas l fun _ => 0 } }

/-- A write of PWM_CTRL (R232): DBG_FREEZE can be written only while debug access is open. With the CLE halted by debug it freezes the
generator, and cleared lets it run again under R30. -/
def State.pwmCtrl (s : State) (v : Word) : State :=
  let t := s.writeMasked 0 0 0x250
    (if s.dbgOpen then v else putField v F.PWM_CTRL_DBG_FREEZE.hi F.PWM_CTRL_DBG_FREEZE.lo (s.fld F.PWM_CTRL_DBG_FREEZE 0))
  if t.flag F.PWM_CTRL_DBG_FREEZE 0 then t.freeze else t.cond (t.flag F.PWM_GSTAT_FROZEN 0) State.unfreeze

/-- A write to a register of class c, unit i (R11). Registers with an effect of their own come first. -/
def State.writeReg (s : State) (p c i off : Nat) (v : Word) : State :=
  match c, off with
  | 0, 0x100 => s.modPath p fun q => { q with cls := fieldOf v 15 8, idx := fieldOf v 7 0 }
  | 0, 0x214 => s.urgent (fieldOf v 12 8) (fieldOf v 1 0) (fieldOf v 7 4) 2
  | 0, 0x250 => s.pwmCtrl v
  | 0, 0x25C => if s.allOff then (s.writeMasked 0 0 0x25C v).modPwm fun w => { w with manPeriod := true } else s.manRej
  | 0, 0x260 => if v.toNat % 2 = 1 then s.manCommit else s
  | 0, 0x278 => s.dlCtrl v
  | 0, 0x2C0 => (s.writeMasked 0 0 0x2C0 v).stwEn
  | 0, 0x380 => s
  | 0, 0x8000 => s.spurCtrl v
  | 0, 0x8024 => s.spurInj v
  | 1, 0x3D0 =>
    if s.allOff then (s.writeMasked 1 i 0x3D0 v).modPwm fun w =>
      { w with manSet := if w.manSet.contains i then w.manSet else w.manSet ++ [i] }
    else s.manRej
  | 1, 0x3D8 => s.legStat i v
  | 2, 0x3D4 => s.tgStat i v
  | 3, 0x3C4 => s.setCword i 12 (s.cword i 12 &&& ~~~(v &&& 0x2000000#32))
  | 4, 0x3C0 => if s.trLive i then s else s.writeMasked 4 i off v
  | 5, 0x3D0 => s.obsBinSel i v
  | 7, 0x3CC => s.cmpStatic i v
  | 9, 0x3CC => s.laneSlip i v
  | _, _ => s.writeMasked c i off v

/-- A byte written to mailbox RAM takes effect on its own (R382): registers (Tables 13.11 to 13.15), then the command window,
which is ignored while WIN_BUSY = 1 (R385). -/
def State.mbWrite (s : State) (m r : Nat) (b : Byte) : State :=
  if r = 0 then s.bell m b.toNat
  else if r = 7 then (if bitOf b.toNat 5 then s.box m fun x => { x with rstSeen := false } else s)
  else if r = 8 then s.headWrite m (b.toNat % 16)
  else if r = 15 then s.box m fun x => { x with irqEn := bitOf b.toNat 7 }
  else if decide (0x40 ≤ r) && decide (r < 0x480) && !vget s.fcp.busy m then
    { s with fcp := { s.fcp with ram := Memory.set (fun _ => 0#8) s.fcp.ram (mbBase m + r) b } }
  else s

/-- A byte written by path p at offset `off` of the mailbox RAM. -/
def State.ramWrite (s : State) (p off : Nat) (b : Byte) : State :=
  s.guarded p off true fun t => t.mbWrite ((off - 0x1000) / 0x1C00) ((off - 0x1000) % 0x1C00) b

/-- A write of the aligned word at `off` by path p. -/
def State.hostWrite (s : State) (p off : Nat) (v : Word) : State :=
  if decide (0x1000 ≤ off) && decide (off < 0x8000) then
    (List.range 4).foldl (fun t k => t.ramWrite p (off + k) ((leBytes 4 v.toNat).getD k 0#8)) s
  else s.guarded p off true fun t => let u := t.unitAt p off; t.writeReg p u.1 u.2 off v

/-- A write to a register of class c by the path's selected unit; with another class selected it is no write of that register. -/
def State.selWrite (s : State) (p : Path) (c off : Nat) (v : Word) : State :=
  if (s.pathSt (pathNo p)).cls = c then s.hostWrite (pathNo p) off v else s

/-! ### Rows -/

/-- ADC_URG_WRITE (R162). -/
def execAdcUrgWrite (path : Path) (value : Word) (s : State) : Host.Outcome State Fault Refusal :=
  .next (s.hostWrite (pathNo path) 0x214 value)

/-- PWM_COMMIT_WRITE (R205). -/
def execPwmCommitWrite (path : Path) (value : Word) (s : State) : Host.Outcome State Fault Refusal :=
  .next (s.hostWrite (pathNo path) 0x260 value)

/-- CMP_STATIC_WRITE (R172). -/
def execCmpStaticWrite (path : Path) (value : Word) (s : State) : Host.Outcome State Fault Refusal :=
  .next (s.selWrite path 7 0x3CC value)

/-- CROSSFIRE_CLEAR (R223). -/
def execCrossfireClear (path : Path) (value : Word) (s : State) : Host.Outcome State Fault Refusal :=
  .next (s.selWrite path 1 0x3D8 value)

/-- TRIPPED_CLEAR (R227). -/
def execTrippedClear (path : Path) (value : Word) (s : State) : Host.Outcome State Fault Refusal :=
  .next (s.selWrite path 2 0x3D4 value)

/-- DL_CTRL_WRITE (R199). -/
def execDlCtrlWrite (path : Path) (value : Word) (s : State) : Host.Outcome State Fault Refusal :=
  .next (s.hostWrite (pathNo path) 0x278 value)

/-- LANE_SLIP_WRITE (R240). -/
def execLaneSlipWrite (path : Path) (value : Word) (s : State) : Host.Outcome State Fault Refusal :=
  .next (s.selWrite path 9 0x3CC value)

/-- WSEL_WRITE (R505). -/
def execWselWrite (path : Path) (value : Word) (s : State) : Host.Outcome State Fault Refusal :=
  .next (s.hostWrite (pathNo path) 0x100 value)

/-- OBS_BIN_SEL_WRITE (R133). -/
def execObsBinSelWrite (path : Path) (value : Word) (s : State) : Host.Outcome State Fault Refusal :=
  .next (s.selWrite path 5 0x3D0 value)

/-- SPUR_CTRL_WRITE (R517). -/
def execSpurCtrlWrite (path : Path) (value : Word) (s : State) : Host.Outcome State Fault Refusal :=
  .next (s.hostWrite (pathNo path) 0x8000 value)

/-- SPUR_INJ_GO (R521). -/
def execSpurInjGo (path : Path) (value : Word) (s : State) : Host.Outcome State Fault Refusal :=
  .next (s.hostWrite (pathNo path) 0x8024 value)

/-- REGISTER_WRITE (R11): the aligned word that holds the address. -/
def execRegisterWrite (path : Path) (addr : BitVec 16) (value : Word) (s : State) : Host.Outcome State Fault Refusal :=
  .next (s.hostWrite (pathNo path) (addr.toNat / 4 * 4) value)

/-- RES_STAT_READ (R118). -/
def execResStatRead (path : Path) (s : State) : Host.Outcome State Fault Refusal :=
  .next (if (s.pathSt (pathNo path)).cls = 3 then s.readRow (pathNo path) 0x3C8 else s)

/-- SNAP_PNUM_LO_READ (R512). -/
def execSnapPnumLoRead (path : Path) (s : State) : Host.Outcome State Fault Refusal := .next (s.readRow (pathNo path) 0x400)

/-- Offset of a register whose read latches a high word. -/
def latchOff : HighLatch → Nat
  | .pnum => 0x264
  | .tb => 0x3C4
  | .record => 0x32C
  | .block => 0x800

/-- HIGH_WORD_LATCH_READ (R502); TB_NS needs a time base selected. -/
def execHighWordLatchRead (path : Path) (which : HighLatch) (s : State) : Host.Outcome State Fault Refusal :=
  .next (if which = .tb && (s.pathSt (pathNo path)).cls != 0xA then s else s.readRow (pathNo path) (latchOff which))

/-! ### Quad-SPI (R381, R382) -/

/-- A READ in progress: the machine, the word latched last, bytes shifted out and words latched, newest first. -/
structure Shift where
  st : State
  word : Word
  bytes : List Byte
  words : List Word

/-- Byte i of a READ from `addr`: the first byte of a word latches it. -/
def Shift.byte (addr : Nat) (x : Shift) (i : Nat) : Shift :=
  let off := (addr + i) % 65536
  let x1 := if i = 0 ∨ off % 4 = 0 then
      (let r := x.st.hostRead 0 (off / 4 * 4); { x with st := r.2, word := r.1, words := r.1 :: x.words })
    else x
  { x1 with bytes := (leBytes 4 x1.word.toNat).getD (off % 4) 0#8 :: x1.bytes }

/-- QSPI_READ. -/
def execQspiRead (addr : BitVec 16) (count : Nat) (s : State) : Host.Outcome State Fault Refusal :=
  let x := (List.range count).foldl (Shift.byte addr.toNat) ⟨s, 0#32, [], []⟩
  let t := x.st.modPath 0 fun q => { q with last := x.words.reverse }
  .next { t with win := { t.win with shifted := x.bytes.reverse } }

/-- Byte i of a WRITE: in mailbox RAM it acts on its own, elsewhere the fourth byte of an aligned word completes it. -/
def State.shiftIn (addr : Nat) (l : List Byte) (s : State) (i : Nat) : State :=
  let off := (addr + i) % 65536
  if decide (0x1000 ≤ off) && decide (off < 0x8000) then s.ramWrite 0 off (l.getD i 0#8)
  else if off % 4 = 3 ∧ 3 ≤ i then s.hostWrite 0 (off - 3) (wordOf (slice l (i - 3) 4))
  else s

/-- QSPI_WRITE. -/
def execQspiWrite (addr : BitVec 16) (bytes : List Byte) (s : State) : Host.Outcome State Fault Refusal :=
  .next ((List.range bytes.length).foldl (State.shiftIn addr.toNat bytes) s)

/-- HOST_IRQ_N is asserted (R386). -/
def State.hostIrq (s : State) : Bool := (List.range 4).any fun m => let b := vget s.fcp.boxes m; b.irqEn && b.pend

/-- QSPI_STATUS (Table 13.6). -/
def execQspiStatus (s : State) : Host.Outcome State Fault Refusal :=
  let b := b2n s.win.ready + 2 * b2n s.hostIrq + 4 * b2n ((List.range 4).any fun m => (vget s.fcp.boxes m).restarting)
  .next { s with win := { s.win with shifted := [BitVec.ofNat 8 b] } }

end Sys2Proof.Machine
end

