-- ==== Sys2Proof/Machine/Boundary.lean ====
section
/-!
DEFINITION. The RG0 boundary (01, 07): the end of a period, its snapshot (19), the reload, the releases of the rate groups, the ports, the
programs of the legs, and every other effect the manual places at a boundary; and the reload of a Gate Link port.
-/
namespace Sys2Proof.Machine

/-! ### When it falls (R195, R285, Table 20.2) -/

/-- The first point of the sync grid that has not passed (R464): its points lie 1 us apart on REFCLK edges, of which the grid holds the phase;
now where no grid has been placed. DESIGN CHOICE: REFCLK's rising edges lie at the multiples of 40 ns of the model's time (log entry 145). -/
def State.gridPoint (s : State) : Nat := match s.clk.grid with
  | some p => s.now + (320 * p + 8000 - s.now % 8000) % 8000
  | none => s.now

/-- Instant of the boundary: one period after the last, or the next point of the grid when the timebase starts (R464). -/
def State.nextTk (s : State) : Nat :=
  if s.pwm.first then s.gridPoint else s.pwm.tk + s.reloadSpan

/-- The generator's timebase runs: its clock and its block are in service, RG0 exists and debug has not frozen it (R195, R232). -/
def State.rg0Runs (s : State) : Bool :=
  s.gait != Gait.paddock && s.clkOk 4 && !(s.boot.held.any fun b => b.1 == 1) && !s.flag F.PWM_GSTAT_FROZEN 0

/-! ### The snapshot (R21, Tables 11.2 and 19.6) -/

/-- RES[e] of context i as a snapshot shows it: the current result in RG0, else the period-end latch (R512). -/
def State.snapRes (s : State) (i e : Nat) : Word := s.cword i ((if s.cf F.CTX_CFG_RG i = 0 then 49 else 60) + e)

/-- p_f and q_f of port p. -/
def State.snapPq (s : State) (p e : Nat) : Word := match s.member p .pq with
  | some j => s.snapRes j e
  | none => 0#32

/-- HLP binding j; an unused entry is 0 (R339). -/
def State.snapBind (s : State) (j : Nat) : Word :=
  let w := vget s.hlp.binds j
  let i := fieldOf w 27 20
  if fieldOf w 31 28 == 3 && decide (i < 63) then s.snapRes i (fieldOf w 19 16 % 4) else 0#32

/-- Words of a snapshot with their offsets (Table 19.6), for period number n. -/
def State.snapWords (s : State) (n : Nat) : List (Nat × Word) :=
  [(0x400, lo32 n), (0x404, hi32 n), (0x408, lo32 (s.win.snapSeq + 1)), (0x40C, lo32 (2 * b2n (s.gait == Gait.limp)))]
    ++ ((List.range 12).flatMap fun p => [(0x410 + 16 * p, s.reg R.PORT_STATUS p), (0x414 + 16 * p, s.reg R.PORT_ENV p),
      (0x418 + 16 * p, s.snapPq p 0), (0x41C + 16 * p, s.snapPq p 1)])
    ++ ((List.range 64).map fun n => (0x4D0 + 4 * n, s.reg R.AIN_SAMP n))
    ++ ((List.range 32).map fun n => (0x5D0 + 4 * n, s.reg R.SD_RES n))
    ++ (List.range 64).map fun j => (0x650 + 4 * j, s.snapBind j)

/-- What the HLP's next input phase takes from the snapshot: ports, bindings and status words by image offset (R339). -/
def State.hlpWords (s : State) : List (Nat × Word) :=
  ((List.range 12).flatMap fun p =>
    let ac := decide (p < 4)
    let dv := fAbs (fSub (s.capAmp p) (s.busAmp p))
    let v : List Word := [s.reg R.PORT_STATUS p, s.vDc p] ++
      (if ac then [dv, fMul (s.matchAngle p) 0x43B40000#32, s.slip p, s.snapPq p 0, s.snapPq p 1] else [])
    if (s.port p).cfg.configured then v.zipIdx.map fun x => (0x80 + 32 * p + 4 * x.2, x.1) else [(0x80 + 32 * p, s.reg R.PORT_STATUS p)])
    ++ ((List.range 64).map fun j => (0x200 + 4 * j, s.snapBind j))
    ++ [(0x440, s.reg R.STW_STATUS 0), (0x444, s.reg R.PAIR_STATUS 0), (0x448, s.reg R.GAIT_STATUS 0)]

/-- What the snapshot holds of port p for Fencen: the payload of Q_PORT (Table 14.7). -/
def State.portBytes (s : State) (p : Nat) : List Byte :=
  let q := s.port p
  let four := fun (l : List Word) => wordBytes ((List.range 4).map fun k => l.getD k 0#32)
  let head := wordBytes [s.reg R.PORT_STATUS p, s.reg R.PORT_ENV p]
  if p < 4 then
    head ++ four [q.slewed.getD 0 0#32, q.slewed.getD 1 0#32, q.wPrime, q.slewed.getD 3 0#32] ++ four q.target
      ++ leBytes 8 (s.theta p) ++ leBytes 8 (unsigned 64 (s.rotorW p)) ++ wordBytes [s.reg R.GOV_STATUS p, s.reg R.OBS_STATUS p]
  else head ++ four q.slewed ++ four q.target ++ List.replicate 24 0#8

/-- What the snapshot holds of each port for the Steward (R21). -/
def State.stwView (s : State) : List (Nat × Word) := (List.range 12).map fun p => (s.pstate p, (s.port p).scale)

/-- The snapshot of the period that ends is taken (R21, R512): for the window, for Fencen, for the HLP and for the Steward. -/
def State.takeSnap (s : State) : State :=
  let put := fun (m : Memory Word) (x : Nat × Word) => Memory.set (fun _ => 0#32) m x.1 x.2
  let snap := (s.snapWords s.pnumOut).foldl put []
  let view := s.hlpWords.foldl put []
  let s1 := { s with win := { s.win with
    snapNew := some snap, snapSeq := (s.win.snapSeq + 1) % 2 ^ 32, portsNew := (List.range 12).map s.portBytes } }
  (s1.modHlp fun h => { h with view := view }).modStw fun w => { w with view := s.stwView }

/-- SNAPSHOT_COMPLETE (R512): the copy is complete 200 ns after the boundary. -/
def execSnapshotComplete (s : State) : Host.Outcome State Fault Refusal :=
  .next (match s.win.snapNew with
    | some m => { s with win := { s.win with snap := m, snapNew := none, ports := s.win.portsNew } }
    | none => s)

/-! ### The end of a period -/

/-- SLACK_LAST of the period that ends (Table 01.9): 0 after a miss; Spur's delay lowers it. -/
def State.slackLast (s : State) : State :=
  let d := if s.spurOn then s.fld F.SPUR_CLE_DLY 0 else 0
  s.setFld F.PERIOD_MON_SLACK_LAST 0 (if s.cle.missed = 0 then min 0xFFFF (s.slackNow - d) else 0)

/-- The first byte with wrong parity among those the period-end latch of context i reads: its angle, RES_STAT and its results (R94). -/
def State.badLatch (s : State) (i : Nat) : Option Nat :=
  let read := fun (o : Nat) => decide (0xC0 ≤ o ∧ o < 0xD4) || decide (0x40 ≤ o ∧ o < 0x48)
  (s.spur.bad.find? fun x => x.1 == 0 && x.2 / 256 == i && read (x.2 % 256)).map (·.2 % 256)

/-- The period-end latch of context i loads (R98); a byte read with wrong parity is handled first (R94, R124). -/
def State.latchCtx (s0 : State) (i : Nat) : State :=
  let s := match s0.badLatch i with
    | none => s0
    | some o => (s0.healCtx i (o / 4) 1).cleParity i o
  let inq := s.cflag F.RES_STAT_INQ i
  let st := fieldOf (s.cword i 48) 30 27
  let th := s.state64 i
  ((s.setCwords i 60 ((List.range 4).map fun e => s.cword i (49 + e))).healCtx i 60 4).modCtx i fun c => { c with
    latchInq := inq, latchStat := st, latchAngle := th }

/-- Period-end latches of rate group g load. -/
def State.latchGroup (s : State) (g : Nat) : State := (s.inGroup g).foldl State.latchCtx s

/-- Contexts that a recording trace channel follows. -/
def State.traced (s : State) : List Nat :=
  (List.range 63).filter fun i => (List.range 8).any fun c => s.fld F.TRACE_CFG_CTX c == i && (s.trState c == 1 || s.trState c == 2)

/-- Executions of the contexts of rate group g that `miss` names fell due in the period in force and do not run: they are marked in the
traces (R121). -/
def State.traceMarks (s : State) (g : Nat) (miss : Nat → Bool) : State :=
  (s.traced.filter fun i => s.cf F.CTX_CFG_RG i == g && miss i).foldl (fun t i =>
    t.trExec i false (s.divOf g) (s.pnumOut, s.pwm.tk + (if s.ctxPort i < 12 then s.lPort (s.ctxPort i) else 0))) s

/-- Context i is disabled, or was released and has not run. -/
def State.unran (s : State) (i : Nat) : Bool := !s.ctxEn i || (s.ctx i).due

/-- The CLE has halted (R124): the released instance of rate group g never runs, so its executions are marked once (R121). -/
def State.dropInstance (s : State) (g : Nat) : State :=
  if !s.cle.halted then s
  else
    let t := (s.traced.filter fun i => s.cf F.CTX_CFG_RG i == g && s.ctxEn i && (s.ctx i).due).foldl (fun t i =>
      t.trExec i false (s.divOf g) (s.ctxInst i)) s
    (s.inGroup g).foldl (fun u i => u.modCtx i fun c => { c with due := false }) t

/-- Configured ports whose phase has not run in the period that ends, and that have not missed their deadline yet: they have (R30). -/
def State.unrun (s : State) : List Nat := (List.range 12).filter fun p =>
  (s.port p).cfg.configured && !bitOf s.cle.missed p && !s.cle.phases.getD (b2n (s.glPort p)) false

/-- Everything that belongs to the period that ends at t. -/
def State.endPeriod (s : State) (t : Nat) : State :=
  let s0 := ({ s with cle := { s.cle with ramPrev := s.cle.ram } }).missPorts s.unrun
  let s1 := (s0.forUnits 4 fun u p => u.obsTick p).endLegs t
  let s2 := ((s1.slackLast.traceMarks 0 s1.unran).latchGroup 0).takeSnap
  let mark := s2.capMarks
  (s2.capBoundary.trEvents mark).forUnits 12 fun u p => if u.glPort p then u else u.runPort p

/-! ### Number and instant of the new period -/

/-- PWM_PNUM and the instant of the boundary; the misses of the period that ended have been counted (R30). -/
def State.startPeriod (s : State) (t : Nat) : State :=
  let s1 := s.modPwm fun w => { w with
    pnum := if w.ran then w.pnum + 1 else 0, ran := true, bnd := w.bnd + 1, tk := t, first := false }
  let s2 := s1.modCle fun c => { c with
    missRun := if c.missed = 0 then 0 else c.missRun + 1, missed := 0, phases := [false, false] }
  let s3 := s2.forUnits 12 fun u p =>
    let gl := u.glPort p
    u.modPort p fun q => { q with counted := gl && q.counted, countedNext := false }
  let s4 := { s3 with ptp := { s3.ptp with latch := (vget s3.tb 0).latched } }
  s4.watchBoundary.cond s.pwm.first fun u => { u with evq := { u.evq with codes := [] }, cap := { u.cap with portAt := none } }

/-- LIMP_ACTION (R40, R471): at the first boundary after the switch to the DLL. -/
def State.limpEntry (s : State) : State :=
  if !s.clk.limpDue then s
  else
    let s1 := (s.modClk fun c => { c with limpDue := false }).setGait Gait.limp
    if s1.schedOk Gait.limp s1.fineP s1.cle.div then s1.post EV.EV_LIMP_ENTER noUnit 1
    else if s1.withPartner then (s1.post EV.EV_LIMP_ENTER noUnit 2).releaseAct
    else (s1.post EV.EV_LIMP_ENTER noUnit 3).srsRequest 0xFFF false

/-! ### The reload -/

/-- Commanded divisors come into force with the PERIOD commanded beside them (R108). -/
def State.divisors (s : State) : State := match s.cle.divNew with
  | none => s
  | some d => if s.cle.periodNew.isSome || s.periodAhead then s else s.modCle fun c => { c with div := d, divNew := none }

/-- The reload of the period that starts (R173, R196, R198, R203, R227). -/
def State.reload (s : State) : State :=
  let s1 := ((s.reloadBundles s.pwm.pnum).releaseLegs.reloadDelayCode).forUnits 48 fun u n => u.staticThr n
  { s1 with adc := { s1.adc with statics := [] } }.divisors

/-! ### Rate groups (R104, R107, R108, R117) -/

/-- READY clears at the release of the enabled contexts of rate group g; they are due. -/
def State.releaseCtxs (s : State) (g : Nat) : State :=
  (s.inGroup g).foldl (fun t i => (t.setCflag F.RES_STAT_READY i false).modCtx i fun c => { c with due := true }) s

/-- The record of the RG1 period that ended is due when its work completed (R31, R107). -/
def State.recordDue (s : State) : State :=
  if s.cle.rg1Done then
    (s.modCle fun c => { c with rg1Done := false }).modPair fun p => { p with recDue := some s.pnumOut }
  else s

/-- Rate group g, 1 to 3, at a boundary: nothing off its grid; a skip while its instance still runs; else a release. -/
def State.releaseGroup (s : State) (g : Nat) : State :=
  if s.pnumOut % max 1 (s.divOf g) != 0 then s
  else if vget s.cle.rgDue g then
    (s.dropInstance g).modCle (fun c => { c with
      rgSkip := vmod c.rgSkip g fun _ => true
      rg1Late := if g = 1 ∧ c.rg1Late.isNone then some s.pnumOut else c.rg1Late }) |>.traceMarks g fun _ => true
  else
    let s1 := (s.cond (g == 1) State.recordDue).latchGroup g
    let s2 := (s1.traceMarks g fun i => !s1.ctxEn i).releaseCtxs g
    let empty := (s2.inGroup g).isEmpty
    let T := s2.divOf g * s2.fineP
    s2.modCle fun c => { c with
      rgT := c.rgT.set g T, rgAt := c.rgAt.set g (s.pnumOut, s.pwm.tk), rgDue := vmod c.rgDue g fun _ => !empty, rg1Done := c.rg1Done || (g == 1 && empty) }

/-- Every rate group at a boundary. -/
def State.releases (s : State) : State :=
  let T := s.fineP
  let s1 := (s.modCle fun c => { c with rgT := c.rgT.set 0 T }).releaseCtxs 0
  let s2 := s1.cond (s.pnumOut % max 1 (s.divOf 1) == 0) fun u => u.modPair fun p => { p with statusDue := true }
  (((s2.releaseGroup 1).releaseGroup 2).releaseGroup 3).capRate

/-! ### Ports, legs and what follows them -/

/-- Every port at the boundary (R60 to R63, R83). -/
def State.portsAct (s : State) : State :=
  let was := (List.range 12).map fun p => s.pstate p
  let s1 := (s.forUnits 12 fun u p => u.slewPort p).forUnits 12 fun u p => u.tickPort p
  let s2 := ((s1.forUnits 12 fun u p => u.portTransition p).forUnits 12 fun u p => u.pullPort p).forUnits 12 fun u p =>
    (u.matchPort p).quietPort p
  let armed := (List.range 12).any fun p => s2.pstate p == PS.armed && was.getD p 0 != PS.armed && s2.glPort p
  (s2.forUnits 48 fun u n => u.ceilingThr n).cond (armed && !s2.flag F.PAIR_CFG_PAIR_EN 0) fun u =>
    u.modPair fun p => { p with wantAct := true }

/-- Legs that switch under manual access (R205, R207): MAN_EN = 1 while every port is OFF; a leg goes on until its own port leaves OFF. -/
def State.manualLegs (s : State) : State :=
  let idle := s.allOff
  s.forUnits 48 fun u n =>
    let off := match u.portOfLeg n with
      | some p => u.pstate p == PS.off
      | none => true
    let on := off && u.flag F.LEG_CFG_MAN_EN n && ((u.leg n).manual || idle)
    if (u.leg n).manual != on then u.modLeg n fun l => { l with manual := on } else u

/-- ACT_OUT of an unpaired unit rises at the first boundary after the ARM of a Gate Link port that R272 allows (R273). -/
def State.soloRise (s : State) : State :=
  if !s.flag F.PAIR_CFG_PAIR_EN 0 && s.pair.wantAct && s.actMayRise then s.raiseAct else s

/-- ACT_OUT of an unpaired unit falls at the boundary at which all its ports are OFF (R273). -/
def State.soloFall (s : State) : State :=
  if !s.flag F.PAIR_CFG_PAIR_EN 0 && s.allOff then (s.modPair fun p => { p with wantAct := false }).releaseAct else s

/-- The pair at a boundary: HELLO blocks, states, a waiting activation, and the skew removed (Table 09.3, R273, R285, R286). -/
def State.pairBoundary (s : State) (steered : Int) : State :=
  if !s.flag F.PAIR_CFG_PAIR_EN 0 then s
  else
    let s1 := s.modPair fun p => { p with skewLeft := p.skewLeft + steered, sentCredits := [] }
    ((s1.sayHello 6).sayHello 7).pairTick.activateTick

/-- Gate Link lane l at a boundary: frames heard in the period that ended (R262, R266), L_ACT (R259), parameters whose
value has changed (R260). -/
def State.laneBoundary (s : State) (l : Nat) : State :=
  let fresh := (s.lane l).fresh
  let legs := (List.range 48).filter fun n => s.flag F.LEG_CFG_GL n && s.fld F.LEG_CFG_LANE n == l
  let s1 := legs.foldl (fun u n => u.setFlag F.GL_LEG_STAT_STALE n !fresh) s
  let s2 := s1.modLane l fun x => { x with fresh := false, missing := if fresh then 0 else x.missing + 1, settled := true }
  let s3 := (s2.setFlag F.LANE_STAT_STAT_STALE l !fresh).setFld F.GL_DELAY_L_ACT l (s.fld F.GL_DELAY_L_MEAS l)
  s3.markDue l

/-- The lanes at a boundary; a gate removal that is held repeats its all-OFF HALT (R255). -/
def State.lanesBoundary (s : State) : State :=
  let s1 := ({ s with gl := { s.gl with halts := [] } }).forUnits 6 fun u l => u.laneBoundary l
  (s1.cond s1.sgrHeld State.haltAll).gdenCmd

/-- Spur at a boundary (R517, Table 20.2): LEFT counts down, a RELOAD shift has been applied, SAMP takes effect. -/
def State.spurBoundary (s : State) (shifted : Bool) : State :=
  let on := s.spurOn
  let n := s.fld F.SPUR_STAT_LEFT 0
  let s1 := (s.cond shifted fun u => u.setFld F.SPUR_SHIFT_RELOAD 0 0).cond on fun u => u.setFld F.SPUR_STAT_LEFT 0 (n - 1)
  let samp := if s1.spurOn then signed 12 (s1.fld F.SPUR_SHIFT_SAMP 0) else 0
  { s1 with spur := { s1.spur with samp := samp } }

/-- A Running device with a block released by force returns to Stalled once every port is OFF (R484). -/
def State.uncleanStall (s : State) : State :=
  if s.devState == 2 && s.fld F.RST_STAT_UNCLEAN 0 != 0 && s.allOff then s.setFld F.IDENT_STATE_DEV_STATE 0 1 else s

/-- What the new period's ports, legs and lanes do. -/
def State.actBoundary (s : State) (t : Nat) (steered : Int) : State :=
  let s1 := (s.soloRise.portsAct.soloFall.manualLegs.formLegs t).pairBoundary steered
  let s2 := ((s1.forUnits 4 fun u p => u.obsSwitch p).forUnits 4 fun u p => u.govTick p).srsChecks
  let s3 := (s2.lanesBoundary.sdSyncBoundary).uncleanStall
  let s4 := s3.setFlag F.HLP_STATUS_SBY 0 s3.sby
  (s4.openBlanking fun w => s4.fld (F.WT_CFG_TRIG.nth w) 0 == 1).cmpAfresh

/-- RG0_BOUNDARY (R195): the timebase wraps. The period that ends is accounted for, the reload applies what is ready, the rate groups
release, and every change the manual places at a boundary acts. -/
def execRg0Boundary (s : State) : Host.Outcome State Fault Refusal :=
  let t := s.nextTk
  let steered := if s.pwm.first then 0 else s.steer
  let shift := !s.pwm.first && s.spurOn
  .next (
    if !s.rg0Runs then s
    else
      let s0 := s.elapse (t - s.now)
      let s1 := if s.pwm.first then s0 else s0.endPeriod t
      let s2 := (s1.startPeriod t).capStopNow.capStartNow.limpEntry.manualLegs.reload.releases
      (s2.spurBoundary shift).actBoundary t steered)

/-- The period of Gate Link port p ends and the next begins, counted when its envelope was computed (R77, R250). -/
def State.turnPort (s : State) (p : Nat) : State :=
  (s.runPort p).modPort p fun q => { q with counted := q.countedNext }

/-- PORT_RELOAD (R34, R225, R250): the reload of a Gate Link port at t_k + L_port. The port's period ends, with its counts, its truncation
latches and the hits of its envelope; its legs follow the program of period k, and its envelope codes load (R75, R77, R173). -/
def execPortReload (port : Fin 12) (s : State) : Host.Outcome State Fault Refusal :=
  let t := s.pwm.tk + s.lPort port
  let legs := (s.legsOf port).filter s.ownReload
  .next (if s.glPort port && s.rg0Runs && s.pwm.ran && legs.any (fun n => (s.leg n).at0 != t) then
      let s1 := (legs.foldl (fun u n => u.endPeriodLeg n t) s).turnPort port
      ((legs.foldl (fun u n => u.formLeg n t (u.leg n).w) s1).loadEnvOf port).cmpAfresh
    else s)

end Sys2Proof.Machine
end

