-- ==== Sys2Proof/Machine/RemoteIo.lean ====
section
/-!
DEFINITION. Remote I/O of the HLP (R356 to R358): input frames, timeouts, output frames.
-/
namespace Sys2Proof.Machine

/-- Data bytes of the CAN FD frame that holds n bytes. -/
def canLen (n : Nat) : Nat :=
  if n ≤ 8 then n else if n ≤ 24 then (n + 3) / 4 * 4 else if n ≤ 32 then 32 else if n ≤ 48 then 48 else 64

/-- Length of a frame that carries n data bytes of module r: a CAN FD frame has one of the lengths of that format. -/
def State.rioLen (s : State) (r n : Nat) : Nat := if s.fld F.RIO_STAT_TRANSPORT r < 2 then canLen (4 + n) else 4 + n

/-- Change remote module r. -/
def State.modRmod (s : State) (r : Nat) (f : RmodSt → RmodSt) : State := s.modHlp fun h => { h with rmod := vmod h.rmod r f }

/-- REMOTE_FRAME_RECEIVED (R357): a frame of wrong length or with the last SEQ is discarded and counted; a valid one replaces the
module's block in one step. Fencen makes the exchange (R358). -/
def execRemoteFrameReceived (rm : Fin 32) (bytes : List Byte) (s : State) : Host.Outcome State Fault Refusal :=
  let m := vget s.hlp.rmod rm
  .next (
    if !s.flag F.RIO_STAT_EN rm || !s.fencenRuns then s
    else if bytes.length != s.rioLen rm m.inLen || leAt bytes 3 1 != m.inLen
        || (m.seen && leAt bytes 2 1 == s.fld F.RIO_STAT_RX_SEQ rm) then s.count F.RIO_STAT_ERR_CNT rm
    else
      let s1 := s.modRmod rm fun x => { x with seen := true, input := slice bytes 4 m.inLen }
      (s1.setFld F.RIO_STAT_RX_SEQ rm (leAt bytes 2 1)).setFlag F.RIO_STAT_FRESH rm true)

/-- REMOTE_TIMEOUT (R357): FRESH clears and the block keeps its content. -/
def execRemoteTimeout (rm : Fin 32) (s : State) : Host.Outcome State Fault Refusal :=
  .next (if s.flag F.RIO_STAT_EN rm && s.flag F.RIO_STAT_FRESH rm then
      ((s.setFlag F.RIO_STAT_FRESH rm false).count F.RIO_STAT_TMO_CNT rm).post EV.EV_RIO_TIMEOUT rm 0
    else s)

/-- REMOTE_OUTPUT_SEND (R356, R357): the block of the newest completed output phase behind its header; none in the standby view
(R349). -/
def execRemoteOutputSend (rm : Fin 32) (s : State) : Host.Outcome State Fault Refusal :=
  let m := vget s.hlp.rmod rm
  .next (if !s.flag F.RIO_STAT_EN rm || !s.fencenRuns || s.sby || !s.hlp.ready then s
    else s.modRmod rm fun x => { x with
      seq := (x.seq + 1) % 256
      sent := leBytes 2 rm.val ++ leBytes 1 m.seq ++ leBytes 1 m.outLen
        ++ Memory.getMany (fun _ => 0#8) s.hlp.qOut (0x400 + 32 * rm.val) m.outLen })

end Sys2Proof.Machine
end

