-- ==== Sys2Proof/Machine/CfgRec.lean ====
section
/-!
DEFINITION. Configuration records (14): the layouts of Table 14.3 and Table 15.1, the registers and fields marked "set by CONFIG"
(R506), the range of every field, and the staging area of a mailbox (R400).
-/
namespace Sys2Proof.Machine

/-- Byte o of a record. -/
def rb (r : List Byte) (o : Nat) : Nat := leAt r o 1

/-- The 16-bit value at byte o of a record. -/
def rh (r : List Byte) (o : Nat) : Nat := leAt r o 2

/-- The 32-bit value at byte o of a record. -/
def rw32 (r : List Byte) (o : Nat) : Nat := leAt r o 4

/-- n bytes of a record from o are 0. -/
def rz (r : List Byte) (o n : Nat) : Bool := (slice r o n).all (· == 0#8)

/-! ### Registers and fields set by CONFIG (R506) -/

/-- Bits of a register that needs no selection which a REG record writes. -/
def globalMask (off : Nat) : Nat :=
  if 0x220 ≤ off ∧ off ≤ 0x23C then 0xC000007F
  else if 0x240 ≤ off ∧ off ≤ 0x24C then 0xC7FFFFFF
  else if 0x280 ≤ off ∧ off ≤ 0x29C then 0xFFFFFFFF
  else match off with
    | 0x218 => 0x1
    | 0x2A4 => 0xC0000000
    | 0x2F0 => 0xFFFF007F
    | 0x2F4 => 0xFFFFFFFF
    | 0x30C => 0xFFFFFFFF
    | 0x310 => 0xFFFF
    | 0x334 => 0xC0000000
    | 0x364 => 0xFC00FFFF
    | 0x368 => 0xFFFFFFFF
    | _ => 0

/-- Bits of a leg register. -/
def legMask (off : Nat) : Nat := match off with
  | 0x3C0 => 0xFFF0FFFF
  | 0x3C4 => 0x7FFF7FFF
  | 0x3C8 => 0xFFFE1FFF
  | 0x3CC => 0xFF
  | 0x3E0 => 0xFFFFF800
  | _ => 0

/-- Bits of a trip-group register. -/
def groupMask (off : Nat) : Nat := match off with
  | 0x3C0 => 0xFC0000FF
  | 0x3C4 => 0xFFFFFFFF
  | 0x3C8 => 0xFFFF
  | 0x3CC => 0xFFFFFFFF
  | 0x3D0 => 0xFFFF
  | _ => 0

/-- Bits of register off of unit idx of class cls that a REG record writes; 0 for a register without such a field. -/
def cfgMask (cls idx off : Nat) : Nat :=
  if off % 4 ≠ 0 ∨ off < 0x200 ∨ 0x3FF < off then 0
  else if off < 0x3C0 then (if cls = 0 ∧ idx = 0 then globalMask off else 0)
  else match cls with
    | 1 => if idx < 48 then legMask off else 0
    | 2 => if idx < 8 then groupMask off else 0
    | 3 => if idx < 63 ∧ off = 0x3C0 then 0xFF000000 else 0
    | 6 => if idx < 24 then (if off = 0x3C0 then 0xC0000000 else if 0x3C8 ≤ off ∧ off ≤ 0x3E4 then 0xBFFEFFFF else 0) else 0
    | 7 => if idx < 48 ∧ off = 0x3C8 then 0x70000000 else 0
    | 8 => if idx < 32 ∧ off = 0x3C0 then 0xFC000000 else 0
    | 9 => if idx < 8 ∧ off = 0x3C0 then 0xFFF80000 else 0
    | _ => 0

/-- Bits hi..lo of v. -/
def bitsOf (v hi lo : Nat) : Nat := v / 2 ^ lo % 2 ^ (hi + 1 - lo)

/-- Ranges of the fields of a leg register (Tables 07.11, 07.13). Dead times and event requests are checked at the commit. -/
def legRange (idx off v : Nat) : Bool := match off with
  | 0x3C0 => decide (bitsOf v 30 28 < 6) && bitsOf v 24 23 != 3 && bitsOf v 22 21 != 3 && (decide (idx < 24) || bitOf v 31)
  | 0x3C8 => decide (25 ≤ bitsOf v 31 23) && decide (bitsOf v 31 23 ≤ 500) && decide (bitsOf v 12 0 ≤ 8000)
  | _ => true

/-- Ranges of the fields of a register that needs no selection (Tables 06.4, 07.22, 12.3, 12.4). -/
def globalRange (off v : Nat) : Bool :=
  if 0x240 ≤ off ∧ off ≤ 0x24C then
    decide (4 ≤ bitsOf v 26 16) && decide (bitsOf v 26 16 ≤ 1024) && (bitsOf v 15 8 == 0 || decide (16 ≤ bitsOf v 15 8))
  else if 0x280 ≤ off ∧ off ≤ 0x29C then bitsOf v 31 30 != 3 && decide (bitsOf v 29 24 < 48)
  else if off = 0x2F0 then decide (1 ≤ bitsOf v 6 0) && decide (bitsOf v 6 0 ≤ 100)
  else if off = 0x2F4 then (List.range 4).all fun k => bitsOf v (8 * k + 7) (8 * k) != 0
  else true

/-- The fields of a REG record's value lie in their ranges. -/
def regRange (cls idx off v : Nat) : Bool :=
  if off < 0x3C0 then globalRange off v
  else match cls with
    | 1 => legRange idx off v
    | 6 => off == 0x3C0 || (bitsOf v 26 25 != 3 && (decide (bitsOf v 20 17 < 12) || bitsOf v 20 17 == 15))
    | 9 => bitsOf v 30 29 != 3
    | _ => true

/-- A REG record keeps R506 and its ranges. -/
def regRecOk (r : List Byte) : Bool :=
  let m := cfgMask (rb r 4) (rb r 5) (rh r 6)
  let v := rw32 r 8
  m != 0 && v &&& m == v && regRange (rb r 4) (rb r 5) (rh r 6) v

/-! ### The other records -/

/-- A binding word has a KIND and an INDEX of R95, and its reserved bits are 0. -/
def bindOk (w : Nat) : Bool :=
  let n := bitsOf w 27 20
  let e := bitsOf w 19 16
  bitsOf w 7 0 == 0 && (match bitsOf w 31 28 with
    | 0 => true
    | 1 => decide (n < 48)
    | 2 => decide (n < 32)
    | 3 => decide (n < 64) && decide (e < 4)
    | 4 => decide (n < 63)
    | 5 => decide (n < 12) && decide (e < 4)
    | 6 => decide (n < 9)
    | _ => false)

/-- COUNT and BASE fit TOPOLOGY (Table 14.3). -/
def topologyOk (top count base : Nat) : Bool :=
  if top = 5 then decide (2 ≤ count ∧ count ≤ 4) && decide (1 ≤ base ∧ base ≤ 4)
  else if top = 6 then decide (1 ≤ count ∧ count ≤ 8) && base == 0
  else decide (1 ≤ top ∧ top ≤ 4) && count == 1 && base == 0

/-- A PORT record's fields. -/
def portRecOk (r : List Byte) : Bool :=
  decide (rb r 4 < 12) && topologyOk (rb r 5) (rb r 6) (rb r 7) && bitsOf (rb r 8) 6 5 != 3 && decide (rb r 9 ≤ 6)
    && rh r 10 % 4 == 0 && (List.range 24).all (fun k => decide (rb r (12 + k) < 48) || rb r (12 + k) == 0xFF)
    && rz r 37 3 && (List.range (rb r 36)).all fun i => bindOk (rw32 r (40 + 4 * i))

/-- A CTX record's fields. -/
def ctxRecOk (r : List Byte) : Bool :=
  let p := bitsOf (rw32 r 8) 15 12
  decide (rb r 4 < 64) && decide (rb r 5 < 2) && rz r 6 2 && (decide (p < 12) || p == 15)
    && (List.range 8).all (fun k => bindOk (rw32 r (12 + 4 * k))) && decide (rw32 r 52 < 2 ^ 22)

/-- An RMOD record's fields (R356). -/
def rmodRecOk (r : List Byte) : Bool :=
  decide (rb r 4 < 32) && decide (rb r 5 < 2) && decide (rb r 6 < 4) && decide (1 ≤ rb r 7 ∧ rb r 7 ≤ 60)
    && decide (1 ≤ rb r 8 ∧ rb r 8 ≤ 28) && rz r 9 3 && (decide (2 ≤ rb r 6) || decide (rw32 r 12 < 2 ^ 29))
    && decide (1 ≤ rh r 18 ∧ rh r 18 ≤ 1000) && decide (10 ≤ rh r 20 ∧ rh r 20 ≤ 1000) && rz r 22 2

/-- A HOSTSRC record's fields (R387 to R391). -/
def hostRecOk (r : List Byte) : Bool :=
  let can := decide (6 ≤ rb r 4)
  decide (4 ≤ rb r 4 ∧ rb r 4 ≤ 7) && decide (rb r 5 < 2) && decide (5 ≤ rh r 20 ∧ rh r 20 ≤ 1000) && rz r 22 2
    && (!can || (decide (rw32 r 8 < (if rb r 5 = 1 then 2 ^ 29 - 1 else 2047)) && decide (125000 ≤ rw32 r 12 ∧ rw32 r 12 ≤ 1000000)
      && decide (1000000 ≤ rw32 r 16 ∧ rw32 r 16 ≤ 5000000)))

/-- A NETIF record's fields (Table 15.1). -/
def netifRecOk (r : List Byte) : Bool :=
  decide (rb r 4 < 3) && decide (rb r 5 < 64) && decide (rb r 5 % 4 < 2) && decide (rb r 6 < 32) && decide (rb r 7 < 4)
    && bitOf (rb r 8) 1 && (rb r 4 != 2 || rh r 14 == 0) && rz r 30 2

/-- LEN of a record by its TYPE (Table 14.3); `n` is byte 36. -/
def recLen (type n : Nat) : Nat := match type with
  | 1 => 12
  | 2 => if 1 ≤ n ∧ n ≤ 32 then 40 + 4 * n else 0
  | 3 => 56
  | 4 => 12
  | 5 => 24
  | 6 => 24
  | 7 => 44
  | _ => 0

/-- A record of the right LEN keeps the ranges of its TYPE. -/
def recOk (r : List Byte) : Bool := rb r 1 == 0 && (match rb r 0 with
  | 1 => regRecOk r
  | 2 => portRecOk r
  | 3 => ctxRecOk r
  | 4 => decide (rb r 4 < 64) && rz r 5 3 && bitsOf (rw32 r 8) 31 28 == 3 && bindOk (rw32 r 8)
  | 5 => rmodRecOk r
  | 6 => hostRecOk r
  | 7 => netifRecOk r
  | _ => false)

/-- The records of a payload, or the offset of the first that breaks R400. -/
def splitRecs : Nat → Nat → List Byte → Nat ⊕ List (List Byte)
  | 0, _, _ => .inr []
  | _ + 1, _, [] => .inr []
  | n + 1, off, l =>
    let len := rh l 2
    let r := l.take len
    if len = 0 ∨ l.length < len ∨ len ≠ recLen (rb l 0) (rb l 36) ∨ !recOk r then .inl off
    else match splitRecs n (off + len) (l.drop len) with
      | .inl o => .inl o
      | .inr rs => .inr (r :: rs)

/-- The records of bytes that have been staged. -/
def recsOf (l : List Byte) : List (List Byte) := match splitRecs l.length 0 l with
  | .inl _ => []
  | .inr rs => rs

/-- What a record configures; none for a context Fencen is to allocate, which no later record replaces. -/
def recKey (r : List Byte) : Option (List Nat) :=
  if rb r 0 = 1 then some [1, rb r 4, rb r 5, rh r 6]
  else if rb r 0 = 3 ∧ rb r 4 = noContext then none
  else some [rb r 0, rb r 4]

/-- Stage one record: it replaces an earlier one for the same target (Table 14.3). -/
def stageRec (rs : List (List Byte)) (r : List Byte) : List (List Byte) :=
  (rs.filter fun x => (recKey x).isNone || recKey x != recKey r) ++ [r]

/-- Stage records one by one within 16 KiB; the index of the first that overflows the staging area. -/
def stageAll : List (List Byte) → List (List Byte) → Nat → Nat ⊕ List (List Byte)
  | rs, [], _ => .inr rs
  | rs, r :: l, off =>
    let rs1 := stageRec rs r
    if 16384 < (rs1.map List.length).sum then .inl off else stageAll rs1 l (off + r.length)

/-- Change the staging area of mailbox m. -/
def State.setStaging (s : State) (m : Nat) (l : List Byte) : State :=
  { s with fcp := { s.fcp with staging := vmod s.fcp.staging m fun _ => l } }

/-- CFG_STAGE (R400): every record is staged, or none, with the payload offset of the first offending record. -/
def execCfgStage (tag : Fin 128) (s : State) : Host.Outcome State Fault Refusal :=
  serve 0x0101 tag s fun e =>
    let bad := fun (off : Nat) => s.complete tag FS.FS_PARAM 0 (leBytes 2 off) []
    match splitRecs e.payload.length 0 e.payload with
    | .inl off => bad off
    | .inr new => match stageAll (recsOf (vget s.fcp.staging e.mb)) new 0 with
      | .inl off => bad off
      | .inr rs => (s.setStaging e.mb rs.flatten).done tag FS.FS_OK

/-- CFG_DISCARD (R400): the staging area of the mailbox empties. -/
def execCfgDiscard (tag : Fin 128) (s : State) : Host.Outcome State Fault Refusal :=
  serve 0x0103 tag s fun e => (s.setStaging e.mb []).done tag FS.FS_OK

end Sys2Proof.Machine
end

