-- ==== Sys2Proof/Machine/CfgApply.lean ====
section
/-!
DEFINITION. What a commit makes of the configuration (14, R401): registers, ports with their families (R53, R85, R100, R550), contexts,
CLE sequence entries (R158), comparator sources and ceilings (R172), filter horizons (R182), RECORD_BLKS (R290) and CFG_DIGEST (R279).
-/
namespace Sys2Proof.Machine

/-! ### Records that write registers or tables -/

/-- The configuration words of a context, its EN, and HIST_COLD with READY = 0 where it is enabled anew or changed (R93); a disabled
context keeps READY = 0 (R117). -/
def State.writeCtx (s : State) (i : Nat) (ws : List Word) (en : Bool) : State :=
  let fresh := en && (!s.ctxEn i || s.cword i 0 != ws.getD 0 0)
  let s1 := ((s.setCwords i 0 ws).healCtx i 0 ws.length).setCflag F.CTX_STATUS_EN i en
  (s1.cond fresh fun t => t.recold i).cond (fresh || !en) fun t => t.setCflag F.RES_STAT_READY i false

/-- A REG record for CTX_CFG of context i: TYPE is the field of it that CONFIG sets (Table 03.5, R506). -/
def State.setType (s : State) (i ty : Nat) : State :=
  s.writeCtx i (((s.cword i 0 &&& 0x00FFFFFF#32) ||| BitVec.ofNat 32 (ty * 2 ^ 24)) :: (List.range 11).map fun k => s.cword i (1 + k)) (s.ctxEn i)

/-- A REG record: the fields set by CONFIG take their value, the others stay; a host sequence entry replaces a CLE entry in its place. -/
def State.applyReg (s : State) (r : List Byte) : State :=
  if rb r 4 = 3 then s.setType (rb r 5) (rb r 11) else
  let seq := rb r 4 == 6 && decide (0x3C8 ≤ rh r 6)
  let m := if seq then 0xFFFFFFFF#32 else BitVec.ofNat 32 (cfgMask (rb r 4) (rb r 5) (rh r 6))
  let g : Reg := ⟨if rh r 6 < 0x3C0 then 0 else rb r 4, rh r 6⟩
  s.setReg g (rb r 5) ((s.reg g (rb r 5) &&& ~~~m) ||| BitVec.ofNat 32 (rw32 r 8))

/-- An HLPBIND record (R339). -/
def State.applyBind (s : State) (r : List Byte) : State :=
  s.modHlp fun h => { h with binds := vmod h.binds (rb r 4) fun _ => BitVec.ofNat 32 (rw32 r 8) }

/-- An RMOD record (R356): the module starts anew. -/
def State.applyRmod (s : State) (r : List Byte) : State :=
  let m := rb r 4
  let s1 := s.modRmod m fun _ => { inLen := rb r 7, outLen := rb r 8, ident := rw32 r 12, udp := rh r 16, period := rh r 18, timeout := rh r 20 }
  ((s1.setFlag F.RIO_STAT_EN m (rb r 5 == 1)).setFld F.RIO_STAT_TRANSPORT m (rb r 6)).setFlag F.RIO_STAT_FRESH m false

/-- A HOSTSRC record. -/
def State.applyHost (s : State) (r : List Byte) : State :=
  { s with fcp := { s.fcp with hostSrc := vmod s.fcp.hostSrc (rb r 4 - 4) fun _ => r } }

/-- A NETIF record: its fields, and a link that goes down when the record changes (R420). -/
def State.applyNetif (s : State) (r : List Byte) : State :=
  let m := rb r 4
  if (vget s.macs m).netif = r then s
  else
    let s1 := s.modMac m fun x => { x with netif := r }
    let s2 := (s1.setFld F.MAC_STAT_IFACE m (rb r 5 % 2)).setFlag F.MAC_STAT_TS_POINT m (bitOf (rb r 5) 5)
    if s2.flag F.MAC_STAT_LINK m then
      ((s2.setFlag F.MAC_STAT_LINK m false).setFld F.MAC_STAT_SPEED m 3).post EV.EV_LINK m 0x300
    else s2

/-! ### Contexts -/

/-- Context i is in use: enabled, typed, or of a port's family. -/
def State.ctxUsed (s : State) (i : Nat) : Bool :=
  s.ctxEn i || s.cf F.CTX_CFG_TYPE i != 0 || (List.range 12).any fun p => (s.port p).cfg.members.any fun m => m.2 == i

/-- A context ID Fencen chooses among those not in use and not in `named`; 63 when there is none. -/
def State.pickCtx (s : State) (named : List Nat) : Nat :=
  let l := (List.range 63).filter fun i => !s.ctxUsed i && !named.contains i
  l.getD ((Config.freeWord s.fresh).toNat % l.length) 63

/-- An empty, disabled context: READY = 0, and it keeps its last SEQ (R117). -/
def State.clearCtx (s : State) (i : Nat) : State :=
  let q := s.cf F.RES_STAT_SEQ i
  (((s.setCwords i 0 (0xF000#32 :: List.replicate 63 0#32)).setCf F.RES_STAT_SEQ i q).healCtx i 0 64).modCtx i fun _ => {}

/-- A CTX record for context i. -/
def State.putCtx (s : State) (r : List Byte) (i : Nat) : State :=
  if i < 63 then s.writeCtx i ((List.range 12).map fun k => BitVec.ofNat 32 (rw32 r (8 + 4 * k))) (rb r 5 == 1) else s

/-! ### Ports and their families -/

/-- Contexts of n units split eight to a context (R100). -/
def chunks (n : Nat) (role : Nat → Role) (type : Nat) : List (Role × Nat × Nat × Nat) :=
  (List.range ((n + 7) / 8)).map fun k => (role (8 * k), type, 0, min 8 (n - 8 * k))

/-- The family of a port in schedule order: role, TYPE, rate group, DIM_N (R53, R85, R100). -/
def State.familyOf (s : State) (p : Nat) : List (Role × Nat × Nat × Nat) :=
  let c := (s.port p).cfg
  let tail := chunks c.legs.length .mod 14 ++ chunks (s.nCur p) .env 15
  if p < 4 then
    let v := c.flags % 2
    [(.pll, 4, 0, 0), (.pq, 13, v, 0), (.droop, 7, v, 0), (.rotor, 5, v, 0), (.angle, 6, 0, 0), (.vz, 8, 0, 0), (.vloop, 9, 0, 0),
      (.cloop, if s.clPr p then 2 else 9, 0, if s.clPr p then 1 + c.nres else 0)] ++ tail
  else [(.dcOuter, 1, c.flags / 128, 0)] ++ (List.range c.count).map (fun i => (.dcLeg i, 1, 0, 0)) ++ tail

/-- Roles whose states the mirror record carries (R289). -/
def roleMirrored : Role → Bool
  | .pll => true
  | .vloop => true
  | .cloop => true
  | .dcLeg _ => true
  | _ => false

/-- CTX_CFG of a family context. -/
def famCfg (p order : Nat) (m : Role × Nat × Nat × Nat) : Word :=
  BitVec.ofNat 32 (m.2.1 * 2 ^ 24 + m.2.2.1 * 2 ^ 22 + order % 64 * 2 ^ 16 + p * 2 ^ 12 + b2n (roleMirrored m.1) * 2 ^ 11 + m.2.2.2 * 2 ^ 4)

/-- Allocate one family context: its words and its place in the family. -/
def State.addMember (s : State) (named : List Nat) (p base : Nat) (m : Role × Nat × Nat × Nat) : State :=
  let i := s.pickCtx named
  let n := (s.port p).cfg.members.length
  let ptr := BitVec.ofNat 32 ((s.port p).cfg.coefBase + s.blockLen p * 65536)
  let ws := famCfg p (base + n) m :: (List.replicate 8 0#32 ++ [ptr, 0#32, 0x3F0000#32])
  let s1 := (s.modPort p fun q => { q with cfg := { q.cfg with members := q.cfg.members ++ [(m.1, i)] } }).bump
  if i < 63 then (((s1.clearCtx i).modCtx i fun c => { c with role := m.1 }).writeCtx i ws true) else s1

/-- The current loop names the first modulation context as its SAT_CTX (R57, R103). -/
def State.linkSat (s : State) (p : Nat) : State := match s.member p .cloop, s.member p (.mod 0) with
  | some i, some j => if i < 63 then s.setCword i 11 (BitVec.ofNat 32 (j * 65536)) else s
  | _, _ => s

/-- The family of port p, its ORDER values consecutive from a place Fencen chooses, and its run-time values nominal (R127). -/
def State.addFamily (s : State) (named : List Nat) (p : Nat) : State :=
  let f := s.familyOf p
  let base := (Config.freeWord s.fresh).toNat % (65 - min 64 f.length)
  let s1 := (f.foldl (fun t m => t.addMember named p base m) s.bump).linkSat p
  if p < 4 then s1.govReset p else s1

/-- The port configuration a PORT record gives. -/
def portCfgOf (r : List Byte) : PortCfg := {
  configured := true, topology := rb r 5, count := rb r 6, base := rb r 7, flags := rb r 8, nres := rb r 9, coefBase := rh r 10
  legs := ((List.range 24).map fun k => rb r (12 + k)).filter (· != 0xFF)
  sensors := (List.range (rb r 36)).map fun i => BitVec.ofNat 32 (rw32 r (40 + 4 * i)) }

/-- A PORT record: a port it creates takes the setpoints of R60; its family is allocated, and its governor is in the mode of its block
(R141, R142). -/
def State.putPort (s : State) (named : List Nat) (r : List Byte) : State :=
  let p := rb r 4
  let new := !(s.port p).cfg.configured
  let s1 := s.modPort p fun q => { (if new then (if p < 4 then acPort else {}) else q) with cfg := portCfgOf r }
  let s2 := (s1.setFld F.PORT_STATUS_TOPOLOGY p (rb r 5)).addFamily named p
  s2.cond (p < 4) fun t => (t.setFld F.GOV_STATUS_MODE p (t.govMode p)).govEnter p (s.fld F.GOV_STATUS_MODE p) (t.govMode p)

/-- The family a PORT record replaces is released. -/
def State.dropFamily (s : State) (r : List Byte) : State :=
  if rb r 0 ≠ 2 then s
  else
    let p := rb r 4
    let s1 := (s.port p).cfg.members.foldl (fun t m => t.clearCtx m.2) s
    s1.modPort p fun q => { q with cfg := { q.cfg with members := [] } }

/-- One record over the configuration; the context IDs given to CTX records with ID 63 are collected. -/
def State.applyRec (named : List Nat) (x : State × List (Nat × Nat)) (r : List Byte) : State × List (Nat × Nat) :=
  let s := x.1
  match rb r 0 with
  | 1 => (s.applyReg r, x.2)
  | 2 => (s.putPort named r, x.2)
  | 3 =>
    if rb r 4 = noContext then
      let i := s.pickCtx named
      ((s.bump.clearCtx i).putCtx r i, x.2 ++ [(rb r 11, i)])
    else (s.putCtx r (rb r 4), x.2)
  | 4 => (s.applyBind r, x.2)
  | 5 => (s.applyRmod r, x.2)
  | 6 => (s.applyHost r, x.2)
  | _ => (s.applyNetif r, x.2)

/-! ### What follows from the records -/

/-- Analog inputs and internal channels (48 + INT) that enabled host contexts and port sensors read, each with the Gate Link port
whose sample instant it has; 15 for t_k (R96, R158). -/
def State.cleNeeds (s : State) : List (Nat × Nat) :=
  let one := fun (p : Nat) (w : Word) =>
    let k := fieldOf w 31 28
    let n := fieldOf w 27 20
    let q := if p < 12 && s.glPort p then p else 15
    if k = 1 then [(n, q)] else if k = 6 then [(48 + n, q)] else []
  let host := (List.range 63).flatMap fun i =>
    if s.ctxEn i && (s.ctx i).role == .host then (List.range 8).flatMap fun b => one (s.ctxPort i) (s.cword i (1 + b)) else []
  let ports := (List.range 12).flatMap fun p => (s.port p).cfg.sensors.flatMap (one p)
  (host ++ ports).eraseDups

/-- Sequence entry e of core c as the pair of `cleNeeds`, if it is an enabled CLE entry. -/
def State.cleEntry (s : State) (c e : Nat) : Option (Nat × Nat) :=
  if s.seq F.ADC_SEQ_EN c e = 1 ∧ s.seq F.ADC_SEQ_CLE c e = 1 then
    some (ainOf c (s.seq F.ADC_SEQ_INPUT c e) (s.seq F.ADC_SEQ_INT c e), if s.seq F.ADC_SEQ_TRIG c e = 1 then s.seq F.ADC_SEQ_PORT c e else 15)
  else none

/-- Core and INPUT of an analog input or internal channel (R153). -/
def coreOf (n : Nat) : Nat × Nat := if n < 48 then (n / 2, n % 2) else (23, 2)

/-- The word of a CLE entry. -/
def cleWord (n q : Nat) : Word :=
  BitVec.ofNat 32 (2 ^ 31 + 2 ^ 30 + b2n (q != 15) * 2 ^ 29 + (coreOf n).2 * 2 ^ 25 + (if n < 48 then 0 else n - 48) * 2 ^ 21 + q * 2 ^ 17)

/-- Free entries of core c. -/
def State.freeSeqs (s : State) (c : Nat) : List Nat := (List.range 8).filter fun e => s.seq F.ADC_SEQ_EN c e == 0

/-- Make one CLE entry in a free entry of the input's core that Fencen chooses; without one nothing is made. -/
def State.makeCle (s : State) (x : Nat × Nat) : State :=
  let c := (coreOf x.1).1
  let l := s.freeSeqs c
  match l[(Config.freeWord s.fresh).toNat % l.length]? with
  | some e => (s.setReg (R.ADC_SEQ.nth e) c (cleWord x.1 x.2)).bump
  | none => s

/-- CLE entries that no binding needs are removed, and each needed one that is missing is made (R158). -/
def State.placeCle (s : State) : State :=
  let need := s.cleNeeds
  let s1 := s.forUnits 24 fun t c => (List.range 8).foldl (fun u e => match u.cleEntry c e with
    | some x => if need.contains x then u else u.setReg (R.ADC_SEQ.nth e) c 0x001E0000#32
    | none => u) t
  let have_ := (List.range 24).flatMap fun c => (List.range 8).filterMap fun e => s1.cleEntry c e
  (need.filter fun x => !have_.contains x).foldl State.makeCle s1

/-- Every needed CLE entry is there. -/
def State.cleServed (s : State) : Bool :=
  let have_ := (List.range 24).flatMap fun c => (List.range 8).filterMap fun e => s.cleEntry c e
  s.cleNeeds.all have_.contains

/-- Current sensors on analog inputs: (AIN, port, sensor). -/
def State.envInputs (s : State) : List (Nat × Nat × Nat) :=
  (List.range 12).flatMap fun p => if (s.port p).cfg.configured then (List.range (s.nCur p)).filterMap fun j =>
      let w := (s.port p).cfg.sensors.getD j 0#32
      if fieldOf w 31 28 = 1 then some (fieldOf w 27 20, p, j) else none
    else []

/-- I_env_max * I_base of a port's current sensors in A; one n-th on a DC port (R85, R172). -/
def State.envMax (s : State) (p : Nat) : F32 :=
  if p < 4 then fMul (s.pw p 28) (s.iBase p) else fMul (s.pw p 9) (fDiv (s.iBase p) (fOfInt (s.units p : Nat)))

/-- SRC, PORT and the ceiling codes of the comparators (R172, R170); the ceiling codes are computed where the port is committed. -/
def State.bindCmp (s : State) (committed : List Nat) : State :=
  let l := s.envInputs
  s.forUnits 48 fun t n => match (l.filter fun x => x.1 == n).getLast? with
    | some (_, p, j) => if !committed.contains p then t else
      let g := t.pw p (scaleBase p + 2 * j)
      let o := t.pw p (scaleBase p + 2 * j + 1)
      let m := t.envMax p
      (((t.setFlag F.CMP_CFG_SRC n true).setFld F.CMP_CFG_PORT n p).setFld F.CMP_CFG_CEIL_HI n (dacCode g o m true)).setFld
        F.CMP_CFG_CEIL_LO n (dacCode g o (fNegate m) false)
    | none => (((t.setFlag F.CMP_CFG_SRC n false).setFld F.CMP_CFG_PORT n 15).setFld F.CMP_CFG_CEIL_HI n 0xFFF).setFld
        F.CMP_CFG_CEIL_LO n 0

/-- Enabled sigma-delta inputs that name profile k. -/
def State.profInputs (s : State) (k : Nat) : List Nat :=
  (List.range 32).filter fun i => s.flag F.SD_CFG_EN i && s.fld F.SD_CFG_PROF i == k

/-- SD_PROF.J of a profile that an enabled input names (R182). -/
def State.setHorizon (s : State) (k : Nat) : State := match s.profInputs k with
  | [] => s
  | i :: _ =>
    let clk := 16 * s.sdDiv (s.fld F.SD_CFG_GRP i)
    let m := s.fld (F.SD_PROF_DECIM.nth k) 0
    let n := s.fld (F.SD_PROF_ORDER.nth k) 0 + 1
    let tau2 := n * (m - 1) * clk
    let td := max 1 (m * clk)
    s.setFld (F.SD_PROF_J.nth k) 0 ((tau2 - 2368 + 2 * td - 1) / (2 * td))

/-- Blocks of the mirror record (R289, R290). -/
def State.recordBlks (s : State) : Nat :=
  let ports := ((List.range 12).filter fun p => (s.port p).cfg.configured).length
  let ctx := ((List.range 63).filter fun i => s.ctxEn i && s.cflag F.CTX_CFG_MIRROR i).map fun i => 8 + (4 * s.mirrorLen i + 7) / 8 * 8
  (304 + 96 * ports + ctx.sum + 127) / 128

/-- What CFG_DIGEST covers, as bytes (R279): ports, host contexts, legs, trip groups, sequencers, sigma-delta inputs, the HLP retained
layout, and the tile directory of the active bank. -/
def State.digestBytes (s : State) : List Byte :=
  let reg := fun (r : Reg) (i : Nat) => leBytes 4 (s.reg r i).toNat
  let ports := (List.range 12).flatMap fun p =>
    let c := (s.port p).cfg
    [c.topology, c.count, c.base, c.flags, c.nres, c.legs.length].flatMap (leBytes 1) ++ leBytes 2 c.coefBase ++ c.legs.flatMap (leBytes 1)
      ++ c.sensors.flatMap fun w => leBytes 4 w.toNat
  let ctxs := (List.range 63).flatMap fun i => if (s.ctx i).role = .host then
      leBytes 1 (b2n (s.ctxEn i)) ++ (List.range 12).flatMap fun k => leBytes 4 (s.cword i k).toNat else []
  let legs := (List.range 48).flatMap fun n => [R.LEG_CFG, R.LEG_DT, R.LEG_PULSE, R.LEG_TRIM, R.LEG_EVT].flatMap fun r => reg r n
  let groups := (List.range 8).flatMap fun n => [R.TG_CFG, R.TG_AIN_LO, R.TG_AIN_HI, R.TG_LEGS_LO, R.TG_LEGS_HI].flatMap fun r => reg r n
  let seqs := (List.range 24).flatMap fun c => reg R.ADC_CORE_CFG c ++ (List.range 8).flatMap fun e => reg (R.ADC_SEQ.nth e) c
  let sds := (List.range 32).flatMap (reg R.SD_CFG) ++ (List.range 8).flatMap (fun g => reg (R.SD_GRP.nth g) 0)
    ++ (List.range 4).flatMap fun g => reg (R.SD_PROF.nth g) 0
  let dir := (List.range 16).flatMap fun t => leBytes 4 (Memory.get (fun _ => 0#32) (vget s.coef.dir s.bankNo) t).toNat
  ports ++ ctxs ++ legs ++ groups ++ seqs ++ sds ++ leBytes 4 (s.hlp.prog.hdr 4 4) ++ dir

/-- The configuration after the records, with what follows from them, and the IDs of allocated CTX records. -/
def State.cfgApply (s : State) (rs : List (List Byte)) : State × List (Nat × Nat) :=
  let named := (rs.filter fun r => rb r 0 == 3).map (rb · 4) ++ (rs.filter fun r => rb r 0 == 1 && rb r 4 == 3).map (rb · 5)
  let x := rs.foldl (State.applyRec named) (rs.foldl State.dropFamily s, [])
  let ports := (rs.filter fun r => rb r 0 == 2).map fun r => rb r 4
  let t1 := (x.1.placeCle.bindCmp ports).forUnits 4 State.setHorizon
  let t2 := t1.setFlag F.GAIT_STATUS_GL_PRESENT 0 t1.anyGl
  let t3 := t2.setFld F.PAIR_CFG_RECORD_BLKS 0 (if t2.flag F.PAIR_CFG_PAIR_EN 0 then min 31 t2.recordBlks else 0)
  (t3.setReg R.IDENT_CFG_DIGEST 0 (Config.cfgDigest t3.digestBytes), x.2)

end Sys2Proof.Machine
end

