-- ==== Sys2Proof/Machine/Commit.lean ====
section
/-!
DEFINITION. CFG_COMMIT and COMMIT_TAKES_EFFECT (14, R401): every rule the manual states for a commit, in the order of its statuses, and
the effects of a committed configuration at its boundary.
-/
namespace Sys2Proof.Machine

/-! ### Rules of one unit. `t` is the configuration as it would be. -/

/-- Rates the schedule must hold at: the one in force, and that of a RATE command that waits (R38, R160). -/
def State.ratesAhead (t : State) : List (Nat × List Nat) :=
  (t.fineP, t.cle.div) :: (match t.waitingOp 0x0204 with
    | some e => [(if e.a32 0 = 0 then t.fineP else 32 * e.a32 0, t.rateDiv e)]
    | none => [])

/-- R212, R215, R165 for leg n. -/
def State.badLeg (t : State) (n : Nat) : Bool :=
  decide (16400 < t.fld F.LEG_DT_DT_TOP n) || decide (16400 < t.fld F.LEG_DT_DT_BOT n)
    || t.ratesAhead.any (fun x => t.extendShort x.1 n)
    || (t.flag F.LEG_EVT_D_ADC n && !urgentOk (t.fld F.LEG_EVT_ADC_CORE n) (t.fld F.LEG_EVT_ADC_INPUT n) (t.fld F.LEG_EVT_ADC_INT n))

/-- Leg count and port kind of a topology (R47). -/
def topologyFits (p : Nat) (c : PortCfg) : Bool :=
  let n := c.legs.length
  if c.topology = 6 then decide (4 ≤ p) && n == c.count
  else decide (p < 4) && decide (n ≤ 24) && n == (if c.topology = 5 then c.count * bridgeLegs c.base else bridgeLegs c.topology)

/-- R48, R49, and R269 on a paired unit, for the legs of port p. -/
def State.legsFit (t : State) (p : Nat) : Bool :=
  let l := t.legsOf p
  let gl := l.filter (t.flag F.LEG_CFG_GL)
  decide l.Nodup && l.all (fun n => (List.range 12).all fun q => q == p || !(t.legsOf q).contains n)
    && (gl.length == l.length || (gl.isEmpty && !t.flag F.PAIR_CFG_PAIR_EN 0 && l.all (· < 24)))

/-- R51 for the sensors of port p: analog or sigma-delta inputs, in a number its roles take. -/
def State.sensorsFit (t : State) (p : Nat) : Bool :=
  let l := (t.port p).cfg.sensors
  let n := l.length
  l.all (fun w => fieldOf w 31 28 == 1 || fieldOf w 31 28 == 2)
    && (if p < 4 then n == t.nCur p + 3 + t.nLink p || n == t.nCur p + 6 + t.nLink p else n == t.units p + 2)

/-- A binding word names sigma-delta input i (R95). -/
def bindsSd (i : Nat) (w : Word) : Bool := fieldOf w 31 28 == 2 && fieldOf w 27 20 == i

/-- Some binding names sigma-delta input i: of a context, enabled or not, or of a port. -/
def State.sdBound (t : State) (i : Nat) : Bool :=
  (List.range 63).any (fun c => (List.range 8).any fun b => bindsSd i (t.cword c (1 + b)))
    || (List.range 12).any fun p => (t.port p).cfg.sensors.any (bindsSd i)

/-- Sigma-delta input i is bound although it is disabled, or with two sample instants (R96, R187). -/
def State.badSd (t : State) (i : Nat) : Bool :=
  let l := ((t.sdReaders i).map fun p => if p < 12 && t.glPort p then p else 15).eraseDups
  (t.sdBound i && !t.flag F.SD_CFG_EN i) || decide (1 < l.length)

/-- The inputs that name profile k have different DIV2 (R179). -/
def State.badProf (t : State) (k : Nat) : Bool :=
  decide (1 < ((t.profInputs k).map fun i => t.sdDiv (t.fld F.SD_CFG_GRP i)).eraseDups.length)

/-- Analog inputs that trip group g takes (R224). -/
def State.groupAins (t : State) (g : Nat) : Nat := t.fld F.TG_AIN_LO_ALL g + 2 ^ 32 * t.fld F.TG_AIN_HI_ALL g

/-- Trip group g shares an input with another (R224). -/
def State.badGroup (t : State) (g : Nat) : Bool :=
  (List.range 8).any fun h => h != g && t.groupAins g &&& t.groupAins h != 0

/-- R160 for core c in every gait and at every rate it must hold for. -/
def State.badCore (t : State) (c : Nat) : Bool :=
  !t.inGaits fun g => t.ratesAhead.all fun x => t.coreSeqOk (convOf g) x.1 c

/-- Input n is needed at two sample instants, or its CLE entry found no place (R158, R160). -/
def badInput (needs have_ : List (Nat × Nat)) (n : Nat) : Bool :=
  let l := needs.filter fun x => x.1 == n
  decide (1 < l.length) || l.any fun x => !have_.contains x

/-- Enabled CLE entries as pairs of input and Gate Link port. -/
def State.cleEntries (t : State) : List (Nat × Nat) :=
  (List.range 24).flatMap fun c => (List.range 8).filterMap fun e => t.cleEntry c e

/-- The binding word w cannot be served (R96, R160, R187). -/
def State.badBind (t : State) (w : Word) : Bool :=
  let n := fieldOf w 27 20
  let at0 := fun m => badInput t.cleNeeds t.cleEntries m || t.badCore (coreOf m).1
  match fieldOf w 31 28 with
  | 1 => at0 n
  | 2 => t.badSd n
  | 6 => at0 (48 + n)
  | _ => false

/-- A sigma-delta group used by port p is driven by the device (R269). -/
def State.drivenSd (t : State) (p : Nat) : Bool := (t.port p).cfg.sensors.any fun w =>
  fieldOf w 31 28 == 2 && t.fld (F.SD_GRP_MODE.nth (t.fld F.SD_CFG_GRP (fieldOf w 27 20))) 0 == 1

/-- A configured port breaks R47, R48, R49, R51 or, on a paired unit, R269. -/
def State.portBroken (t : State) (p : Nat) : Bool :=
  (t.port p).cfg.configured && (!topologyFits p (t.port p).cfg || !t.legsFit p || !t.sensorsFit p
    || (t.flag F.PAIR_CFG_PAIR_EN 0 && t.drivenSd p))

/-- The block of port p breaks R59, R136 or R547, or does not fit the bank. -/
def State.badBlock (t : State) (p : Nat) : Bool :=
  t.blockBad t.bankNo p || decide (65536 < (t.port p).cfg.coefBase + t.blockLen p)

/-- FIO_TMO is shorter than R367 allows. -/
def State.fioShort (t : State) : Bool := decide (t.fld F.FIO_CFG_FIO_TMO 0 * 80000000 < 2 * t.hlp.prog.cyc + 80000000)

/-- The CAN identifiers of mailbox m collide with those of a remote module on its channel (R391). -/
def State.canClash (t : State) (m : Nat) : Bool :=
  let h := vget t.fcp.hostSrc (m - 4)
  !h.isEmpty && (List.range 32).any fun k => t.flag F.RIO_STAT_EN k && t.fld F.RIO_STAT_TRANSPORT k + 6 == m
    && (let d := (vget t.hlp.rmod k).ident; d == rw32 h 8 || d == rw32 h 8 + 1)

/-- The mirror record is too long (R290). -/
def State.recordLong (t : State) : Bool := t.flag F.PAIR_CFG_PAIR_EN 0 && decide (16 < t.recordBlks)

/-! ### Contexts -/

/-- TYPEs with a following error (Table 03.3). -/
def feTypes : List Nat := [1, 2, 4, 9, 11]

/-- TYPEs that may carry MIRROR (Table 09.6). -/
def mirrorTypes : List Nat := [1, 2, 3, 4, 9, 10, 11, 12]

/-- TYPEs that read the block of their port (R548). -/
def portTypes : List Nat := [5, 6, 7, 8, 13, 14, 15]

/-- A dimension outside its range (R99, Table 03.5): DIM_N of a TYPE with n, and 0 in every field of a TYPE without that dimension. -/
def dimBad (type n m p : Nat) : Bool :=
  (match type with
    | 2 => n == 0 || decide (7 < n)
    | 3 => n == 0 || decide (8 < n)
    | 14 => n == 0 || decide (8 < n)
    | 15 => n == 0 || decide (8 < n)
    | _ => n != 0) || (type != 3 && (m != 0 || p != 0))

/-- COEF_PTR of context i breaks R549. -/
def State.ptrBad (t : State) (i : Nat) : Bool :=
  let w := t.cword i 9
  let o := fieldOf w 15 0
  let len := fieldOf w 31 16
  let pairs := (List.range 8).foldl (fun m b =>
    let x := t.cword i (1 + b)
    let k := fieldOf x 31 28
    if k = 1 ∨ k = 2 ∨ k = 6 then max m (fieldOf x 15 8 + 1) else m) 0
  o % 4 != 0 || decide (65536 < o + len) || decide (len < t.coefF i + 8 * pairs)

/-- CTX_CFG and the words of R115 of host context i break a rule (R99, R115, R289, R548). -/
def State.ctxWordsBad (t : State) (i : Nat) : Bool :=
  let ty := t.cf F.CTX_CFG_TYPE i
  let act := t.cf F.CTX_CFG_FE_ACT i
  decide (15 < ty) || (ty == 0 && t.ctxEn i) || dimBad ty (t.cf F.CTX_CFG_DIM_N i) (t.cf F.CTX_CFG_DIM_M i) (t.cf F.CTX_CFG_DIM_P i) || (act != 0 && (!feTypes.contains ty
    || !fFinite (t.feLimit i) || !fLt 0#32 (t.feLimit i) || t.feTime i == 0)) || (portTypes.contains ty && decide (12 ≤ t.ctxPort i))
    || (t.cflag F.CTX_CFG_MIRROR i && !mirrorTypes.contains ty)

/-- Enabled host context i breaks R102 or R549. -/
def State.ctxRunBad (t : State) (i : Nat) : Bool :=
  t.ctxEn i && (t.ctx i).role == .host && (t.ptrBad i || t.ratesAhead.any fun x => t.ownPrBad x.1 x.2 i)

/-- A CTX record given context i breaks a rule: no context is free, the context belongs to a family, or its words are bad. -/
def State.ctxRecBad (t : State) (i : Nat) : Bool :=
  decide (63 ≤ i) || (t.ctx i).role != .host || t.ctxWordsBad i || t.ctxRunBad i

/-! ### The rules in the order of their statuses (R398, R401) -/

/-- The PAIR_CFG register. -/
def isPairCfg (r : List Byte) : Bool := rb r 0 == 1 && rh r 6 == 0x2A4

/-- FS_PARAM (R367, R391). -/
def State.recParam (t : State) (r : List Byte) : Bool := match rb r 0 with
  | 1 => rh r 6 == 0x2F0 && t.fioShort
  | 5 => rb r 5 == 1 && decide (rb r 6 < 2) && t.canClash (rb r 6 + 6)
  | 6 => decide (6 ≤ rb r 4) && t.canClash (rb r 4)
  | _ => false

/-- FS_PORT_CFG of a REG record. -/
def State.regPortCfg (t : State) (r : List Byte) : Bool :=
  let i := rb r 5
  let off := rh r 6
  if off < 0x3C0 then
    let g := (off - 0x220) / 4
    (isPairCfg r && (t.recordLong || (t.flag F.PAIR_CFG_PAIR_EN 0 && (List.range 12).any t.portBroken)))
      || (decide (0x220 ≤ off ∧ off ≤ 0x23C) && (decide (t.sdDiv g < 20) || decide (100 < t.sdDiv g)
        || (List.range 32).any fun k => t.flag F.SD_CFG_EN k && t.fld F.SD_CFG_GRP k == g && t.badProf (t.fld F.SD_CFG_PROF k)))
  else match rb r 4 with
    | 1 => t.badLeg i || (match t.portOfLeg i with
      | some p => t.portBroken p
      | none => false)
    | 2 => t.badGroup i
    | 6 => t.badCore i
    | 8 => t.badSd i || (t.flag F.SD_CFG_EN i && t.badProf (t.fld F.SD_CFG_PROF i))
    | 9 => t.flag F.PAIR_CFG_PAIR_EN 0 && off == 0x3C0 && t.pair.peerId == some (t.fld F.LANE_CFG_UNIT_ID i)
    | _ => false

/-- FS_PORT_CFG of a record; `i` is the context of a CTX record. -/
def State.recPortCfg (t : State) (r : List Byte) (i : Nat) : Bool := match rb r 0 with
  | 1 => t.regPortCfg r
  | 2 => t.portBroken (rb r 4) || t.badBlock (rb r 4) || (t.port (rb r 4)).cfg.sensors.any t.badBind
  | 3 => decide (i < 63) && (List.range 8).any fun b =>
    let w := t.cword i (1 + b)
    if t.ctxEn i then t.badBind w else fieldOf w 31 28 == 2 && t.badSd (fieldOf w 27 20)
  | _ => false

/-- FS_PORT_CFG in the whole. -/
def State.wholePortCfg (t : State) : Bool :=
  (List.range 48).any t.badLeg || (List.range 12).any t.portBroken || (List.range 8).any t.badGroup || (List.range 24).any t.badCore
    || (List.range 32).any t.badSd || (List.range 4).any t.badProf || !t.cleServed || !decide t.cleInputs.Nodup || t.recordLong

/-- FS_CTX_CFG of a record. -/
def State.recCtxCfg (t : State) (r : List Byte) (i : Nat) : Bool := match rb r 0 with
  | 1 => rb r 4 == 3 && t.ctxRecBad (rb r 5)
  | 2 => (t.port (rb r 4)).cfg.members.any (fun m => decide (63 ≤ m.2)) || t.ratesAhead.any fun x => t.famPrBad x.1 x.2 (rb r 4)
  | 3 => t.ctxRecBad i
  | _ => false

/-- FS_PORT_STATE of a record (R93, R206, R401, R420, Table 09.3). `s` is the state before the commit. -/
def State.recPortState (s t : State) (r : List Byte) : Bool :=
  let out := fun (o : Option Nat) => match o with
    | some p => s.pstate p != PS.off
    | none => false
  match rb r 0 with
  | 1 =>
    if isPairCfg r then t.flag F.PAIR_CFG_PAIR_EN 0 && !s.flag F.PAIR_CFG_PAIR_EN 0 && !s.allOff
    else rb r 4 == 1 && s.reg ⟨1, rh r 6⟩ (rb r 5) != t.reg ⟨1, rh r 6⟩ (rb r 5) && (out (s.portOfLeg (rb r 5)) || out (t.portOfLeg (rb r 5)))
  | 2 => s.pstate (rb r 4) != PS.off
  | 7 => decide (rb r 4 < 2) && (vget s.macs (rb r 4)).netif != r && !s.allOff
  | _ => false

/-- FS_CTX_STATE of a record (R93), by the context and its port as they stand before the commit. -/
def State.recCtxState (s t : State) (r : List Byte) : Bool :=
  let type := rb r 0 == 1 && rb r 4 == 3
  let i := if type then rb r 5 else rb r 4
  (rb r 0 == 3 || type) && decide (i < 63) && s.ctxEn i && s.cword i 0 != t.cword i 0
    && (decide (12 ≤ s.ctxPort i) || s.pstate (s.ctxPort i) != PS.off)

/-- A symbol on the slower mirror lane in fine steps (R235, R290). -/
def State.mirrorSymbol (t : State) : Nat :=
  [6, 7].foldl (fun m l => max m (let q := t.fld F.LANE_CFG_RATE l; if q = 0 then 64 else if q = 1 then 32 else 16)) 0

/-- FS_SCHED (R27, R28, R104, R106, R290). -/
def State.wholeSched (t : State) : Bool :=
  !t.inGaits (fun g => t.ratesAhead.all fun x => t.schedOk g x.1 x.2)
    || (t.flag F.PAIR_CFG_PAIR_EN 0 && t.ratesAhead.any fun x =>
      decide (x.1 * x.2.getD 1 1 < 137 * t.recordBlks * t.mirrorSymbol + 8000))

/-- FS_BUSY of a record (R420). -/
def State.recBusy (s : State) (r : List Byte) : Bool :=
  rb r 0 == 7 && rb r 4 == 2 && (vget s.macs 2).netif != r && s.capState != 0

/-- Records with the context each CTX record configures. -/
def withCtx : List (List Byte) → List (Nat × Nat) → List (List Byte × Nat)
  | [], _ => []
  | r :: rs, l =>
    if rb r 0 = 3 ∧ rb r 4 = noContext then match l with
      | x :: l1 => (r, x.2) :: withCtx rs l1
      | [] => (r, 63) :: withCtx rs []
    else (r, rb r 4) :: withCtx rs l

/-- One rule: the index of the first record it finds broken, 0xFFFF for a failure in the whole; none when it holds. -/
def ruleAt (rs : List (List Byte × Nat)) (f : List Byte × Nat → Bool) (whole : Bool) : Option Nat :=
  match rs.findIdx? f with
  | some i => some i
  | none => if whole then some 0xFFFF else none

/-- The first failing status and its record index. -/
def State.cfgVerdict (s t : State) (rs : List (List Byte × Nat)) : Option (Nat × Nat) :=
  let tag := fun (st : Nat) (o : Option Nat) => o.map fun i => (st, i)
  (tag FS.FS_PARAM (ruleAt rs (fun x => t.recParam x.1) false))
    <|> (tag FS.FS_PAIR_ROLE (ruleAt rs (fun x => isPairCfg x.1 && s.isActive && !t.flag F.PAIR_CFG_PAIR_EN 0) false))
    <|> (tag FS.FS_PORT_CFG (ruleAt rs (fun x => t.recPortCfg x.1 x.2) t.wholePortCfg))
    <|> (tag FS.FS_CTX_CFG (ruleAt rs (fun x => t.recCtxCfg x.1 x.2) ((List.range 63).any t.ctxRunBad)))
    <|> (tag FS.FS_PORT_STATE (ruleAt rs (fun x => s.recPortState t x.1) false))
    <|> (tag FS.FS_CTX_STATE (ruleAt rs (fun x => s.recCtxState t x.1) false))
    <|> (tag FS.FS_SCHED (ruleAt rs (fun _ => false) t.wholeSched))
    <|> (tag FS.FS_BUSY (ruleAt rs (fun x => s.recBusy x.1) (s.waitingOp 0x0102).isSome))

/-- CFG_COMMIT (R401): the staged records are applied over the configuration and the result is validated; on success they wait for
their boundary and the staging empties. A dry run only validates. -/
def execCfgCommit (tag : Fin 128) (s : State) : Host.Outcome State Fault Refusal :=
  serve 0x0102 tag s fun e =>
    let rs := recsOf (vget s.fcp.staging e.mb)
    let x := s.cfgApply rs
    if 1 < e.a 0 then s.done tag FS.FS_PARAM
    else match s.cfgVerdict x.1 (withCtx rs x.2) with
      | some (st, i) => s.complete tag st 0 (leBytes 2 i) []
      | none =>
        if e.a 0 = 1 then s.done tag FS.FS_OK
        else
          let s1 := (s.setStaging e.mb []).start tag
          { s1 with fcp := { s1.fcp with cfgPend := rs.flatten, cfgSeed := s.fresh } }

/-! ### Effects at the boundary -/

/-- A register of unit i of the named ones differs. -/
def State.regsDiffer (s t : State) (l : List Reg) (i : Nat) : Bool := l.any fun r => s.reg r i != t.reg r i

/-- Comparators whose source, port or ceiling changed take the thresholds of their source as at any boundary (R73, R172, R173); the outputs
of a disabled one are low (R175). -/
def State.cmpEffect (s t : State) : State :=
  t.forUnits 48 fun u n =>
    let u1 := if s.reg R.CMP_CFG n = u.reg R.CMP_CFG n then u else (u.staticThr n).ceilingThr n
    if u1.flag F.CMP_CFG_EN n then (if s.flag F.CMP_CFG_EN n then u1 else u1.markFresh n)
    else (u1.setFlag F.CMP_STAT_OUT_HI n false).setFlag F.CMP_STAT_OUT_LO n false

/-- Tiles of the profiles that enabled inputs name are computed where their horizon is new. A tile is put to use where it is computed or an
enabled input names it anew, and verified then (R184). -/
def State.profEffect (s t : State) : State :=
  t.forUnits 4 fun u k =>
    let f := F.SD_PROF_J.nth k
    let l := u.profInputs k
    let make := !l.isEmpty && ((vget u.sd.tiles k).isEmpty || s.fld f 0 != u.fld f 0)
    let use := make || l.any fun i => !(s.profInputs k).contains i
    let v := u.cond make fun x => x.makeProf k
    if use && !v.profOk k then v.profFail k else v

/-- The commit changes GRP, PROF or EN of input i, or the profile or the group it names (R188). -/
def State.sdChanged (s t : State) (i : Nat) : Bool :=
  s.reg R.SD_CFG i != t.reg R.SD_CFG i
    || s.reg (R.SD_PROF.nth (t.sdProf i)) 0 &&& 0xC7FFFFFF#32 != t.reg (R.SD_PROF.nth (t.sdProf i)) 0 &&& 0xC7FFFFFF#32
    || s.reg (R.SD_GRP.nth (t.fld F.SD_CFG_GRP i)) 0 != t.reg (R.SD_GRP.nth (t.fld F.SD_CFG_GRP i)) 0

/-- Sigma-delta inputs whose configuration, profile or group changed restart at the boundary, enabled or not (R188). -/
def State.sdEffect (s t : State) : State :=
  (s.profEffect t).forUnits 32 fun u i => if s.sdChanged t i then u.sdRestart u.pwm.tk i else u

/-- The prescaler of a leg whose configuration changed restarts (R231). -/
def State.legEffect (s t : State) : State :=
  t.forUnits 48 fun u n => if s.regsDiffer u [R.LEG_CFG, R.LEG_DT, R.LEG_PULSE, R.LEG_TRIM, R.LEG_EVT] n then
    u.modLeg n fun l => { l with presc := 0 } else u

/-- Input counters are clamped to a new N (R362). -/
def State.filtEffect (t : State) : State :=
  let n := fun k => fieldOf (t.reg R.FIO_FILT 0) (8 * k + 7) (8 * k)
  { t with fio := { t.fio with cnt := (List.range 16).foldl (fun v i => vmod v i fun c => min c (n (i / 4))) t.fio.cnt } }

/-- PAIR_EN has changed (Table 09.3): LINKING, or SOLO with every port set to OFF. -/
def State.pairEffect (s t : State) : State :=
  let was := s.flag F.PAIR_CFG_PAIR_EN 0
  let now := t.flag F.PAIR_CFG_PAIR_EN 0
  if was == now then t
  else if now then t.toPair 1
  else
    let t1 := t.forUnits 12 fun u p => if u.pstate p = PS.off then u else u.goPort p PS.off none
    let t2 := t1.toPair 0
    let w := (t2.reg R.PAIR_STATUS 0).toNat
    (((t2.setReg R.PAIR_STATUS 0 (BitVec.ofNat 32 (w - w / 256 % 256 * 256))).setFlag F.PAIR_STATUS_PARTNER_READY 0 false).setFld
      F.PAIR_SKEW_PNUM_OFS 0 0).modPair fun p => { lowSince := p.lowSince, roseAt := p.roseAt }

/-- Contexts the commit enables belong to the period that begins: those of a rate group that releases at this boundary are due. -/
def State.dueNew (s t : State) (i : Nat) : State :=
  let g := t.cf F.CTX_CFG_RG i
  if t.ctxEn i && !s.ctxEn i && t.pnumOut % max 1 (t.divOf g) == 0 then
    (t.modCtx i fun c => { c with due := true }).modCle fun c => { c with rgDue := if g = 0 then c.rgDue else vmod c.rgDue g fun _ => true }
  else t

/-- Everything a commit does beside the configuration itself. -/
def State.cfgEffect (s t : State) : State :=
  let t1 := s.pairEffect (s.legEffect (s.sdEffect (s.cmpEffect t)))
  let t2 := (t1.filtEffect.cmpAfresh).forUnits 24 fun u c => u.coreStat c
  let contOver := t2.gait == Gait.walk && (List.range 24).any fun c => t2.flag F.ADC_CORE_CFG_CONT c
  let t3 := (t2.setFlag F.GAIT_STATUS_CONT_OVERRIDDEN 0 contOver).forUnits 63 fun u i => State.dueNew s u i
  (t3.modCoef fun c => { c with badTiles := c.badTiles.filter fun b => b.1 != 5 }).gdenCmd

/-- The payload of R401: families of the ports committed, then the contexts allocated to CTX records with ID 63. -/
def State.cfgReport (t : State) (rs : List (List Byte)) (ids : List (Nat × Nat)) : List Byte :=
  let entry := fun (p : Nat) =>
    let m := (t.port p).cfg.members
    leBytes 1 p ++ leBytes 1 m.length ++ m.flatMap (fun x => leBytes 1 (t.cf F.CTX_CFG_TYPE x.2) ++ leBytes 1 x.2)
      ++ (if m.length % 2 = 0 then [0#8, 0#8] else [])
  (rs.filter fun r => rb r 0 == 2).flatMap (fun r => entry (rb r 4)) ++ ids.flatMap fun x => leBytes 1 x.1 ++ leBytes 1 x.2

/-- COMMIT_TAKES_EFFECT (R401): at the first boundary at least 20 us after validation the configuration is in force, and the command
completes with CFG_DIGEST and the contexts Fencen allocated; what Fencen chose at validation holds. -/
def execCommitTakesEffect (s : State) : Host.Outcome State Fault Refusal :=
  .next (match s.waitingOp 0x0102 with
    | none => s
    | some e =>
      if !s.atBoundary20 e then s
      else
        let rs := recsOf s.fcp.cfgPend
        let x := { s with fresh := s.fcp.cfgSeed }.cfgApply rs
        let t := s.cfgEffect { x.1 with fresh := max s.fresh x.1.fresh }
        let t1 := { t with fcp := { t.fcp with cfgPend := [] } }
        t1.complete e.tag FS.FS_OK t1.pnumOut (leBytes 4 (t1.reg R.IDENT_CFG_DIGEST 0).toNat) (t1.cfgReport rs x.2))

end Sys2Proof.Machine
end

