-- ==== Sys2Proof/Machine/GaitCmds.lean ====
section
/-!
DEFINITION. The GAIT and RATE commands (01, 14): their checks against the configuration and the rates that would be in force (R36, R38,
R104, R106, R160, R196).
-/
namespace Sys2Proof.Machine

/-- The configuration that is in force once a validated CFG_COMMIT has taken effect (R160, R401). -/
def State.cfgAhead (s : State) : State := if s.fcp.cfgPend.isEmpty then s else (s.cfgApply (recsOf s.fcp.cfgPend)).1

/-- Table 01.7 in its order; the schedule is that of the configuration and the rates that would be in force (R106, R160). -/
def State.gaitCheck (s : State) (g : Nat) : Nat :=
  if s.flag F.GAIT_STATUS_PEND_VALID 0 || (s.gait == Gait.limp && !s.flag F.CLK_STAT_PLLM_LOCK 0) then FS.FS_BUSY
  else if g = Gait.limp then FS.FS_GAIT_LIMP
  else if g = Gait.gallop ∧ s.flag F.GAIT_STATUS_VARIANT_H 0 ∧ 115 ≤ s.clk.tj then FS.FS_GAIT_TEMP
  else if g = Gait.paddock ∧ (!s.allOff ∨ s.flag F.PAIR_STATUS_ACT_OUT 0) then FS.FS_GAIT_STATE
  else if g ≠ Gait.paddock ∧ !(let t := s.cfgAhead; t.ratesAhead.all fun x => t.schedOk g x.1 x.2 && t.seqOk g x.1) then FS.FS_GAIT_RATE
  else FS.FS_OK

/-- GAIT (R36): the request becomes pending or is refused. -/
def execGait (tag : Fin 128) (s : State) : Host.Outcome State Fault Refusal :=
  serve 0x0203 tag s fun e =>
    let g := e.a 0
    if 5 < g then s.done e.tag FS.FS_PARAM
    else
      let f := s.gaitCheck g
      if f != FS.FS_OK then s.done e.tag f
      else (((s.setFlag F.GAIT_STATUS_PEND_VALID 0 true).setFld F.GAIT_STATUS_GAIT_PEND 0 g).modClk fun c => { c with wakeEarly := false }).start
        e.tag

/-- A rate is checked against the gait in force and a pending one (R38, R160), and against EXTEND legs (R215), in the configuration in force
and in one that waits for its boundary. -/
def State.rateOk (s : State) (P : Nat) (div : List Nat) : Bool :=
  [s, s.cfgAhead].all fun t =>
    t.inGaits (fun g => t.schedOk g P div && t.seqOk g P) && (List.range 48).all fun n => !t.extendShort P n

/-- RATE (R38, R102, R104, R196, R281, R447): on a paired ACTIVE unit the change waits for its pair period number. -/
def execRate (tag : Fin 128) (s : State) : Host.Outcome State Fault Refusal :=
  serve 0x0204 tag s fun e =>
    let p := e.a32 0
    let div := s.rateDiv e
    if !rateParam e then s.done e.tag FS.FS_PARAM
    else if s.roleBad then s.done e.tag FS.FS_PAIR_ROLE
    else if !s.rateOk (if p = 0 then s.fineP else 32 * p) div || s.capOver (if p = 0 then s.fineP else 32 * p)
        || s.prTooHigh (if p = 0 then s.fineP else 32 * p) div then
      s.done e.tag FS.FS_SCHED
    else if (s.waitingOp 0x0204).isSome then s.done e.tag FS.FS_BUSY
    else
      let per := if p = 0 then none else some p
      let s1 := s.start e.tag
      if s.isActive then { s1 with pair := { s1.pair with
        sched := s1.pair.sched ++ [⟨s.pnumOut + 2 * s.divOf 1 + 2, 0, per, some div, 0⟩] } }
      else s1.stageRate per (some div)

end Sys2Proof.Machine
end

