-- ==== Sys2Proof/Machine/Pwm.lean ====
section
/-!
DEFINITION. The commands of the PWM generator's own events (07): calibration, carrier events, comparator and trip pin edges, trips,
blanking, delivered edges.
-/
namespace Sys2Proof.Machine

/-- One step from the code toward the equality code, and whether a bound holds it (R198, R199): calibration that wants a code outside the
bounds holds it at the bound, also where the host has moved the bound past the code. -/
def calStep (code equal lo hi : Nat) : Nat × Bool :=
  let want := if code < equal then code + 1 else if equal < code then code - 1 else code
  if want < lo then (lo, true) else if hi < want then (hi, true) else (want, false)

/-- Value of a carrier counter in PWM clock c of a period of `period` clocks, with the phase of `ph` clocks (R202). -/
def carrierAt (mode period ph c : Nat) : Nat :=
  let d := (c + period - ph % period) % period
  if mode = 0 then d else if mode = 1 then period - 1 - d else if d ≤ period / 2 then d else period - d

/-- The carrier counter reaches x in PWM clock c. -/
def carrierReaches (mode period ph c x : Nat) : Bool :=
  carrierAt mode period ph c == x && carrierAt mode period ph (c + period - 1) != x

/-- The source instant of leg n's event generator falls in PWM clock c of the period (R230). -/
def State.eventAt (s : State) (n c : Nat) : Bool :=
  let P := s.fineP
  let mode := s.fld F.LEG_CFG_MODE n
  let w := min P (s.fld F.LEG_CMP_ACT_ALL n)
  let ph := s.fld F.LEG_CFG_PHASE n * P / 65536
  let a := placeS P w mode + ph
  match s.fld F.LEG_EVT_SRC n with
  | 0 => carrierReaches mode s.period (ph / 32) c 0
  | 1 => carrierReaches mode s.period (ph / 32) c (if mode ≤ 1 then s.period - 1 else s.period / 2)
  | 2 => w != 0 && w != P && a % P / 32 == c
  | _ => w != 0 && w != P && (a + w) % P / 32 == c

/-- DL_CALIBRATION (R198, R199): one measurement; `equal` is the code at which 32 stages equal a PWM clock. -/
def execDlCalibration (equal : Fin 1024) (s : State) : Host.Outcome State Fault Refusal :=
  let c := calStep (s.fld F.DL_STAT_CAL_CODE 0) equal (s.fld F.DL_CTRL_CODE_LO 0) (s.fld F.DL_CTRL_CODE_HI 0)
  let d := s.fld F.DL_STAT_DL_CODE 0
  let near := decide (d ≤ equal.val + 1 ∧ equal.val ≤ d + 1)
  let nIn := if near then min 16 (s.pwm.calIn + 1) else 0
  let nOut := if near then 0 else min 16 (s.pwm.calOut + 1)
  let was := s.flag F.DL_STAT_LOCK 0
  let now := if nIn = 16 then true else if nOut = 16 then false else was
  let s1 := ((s.setFld F.DL_STAT_CAL_CODE 0 c.1).setFlag F.DL_STAT_CAL_SAT 0 c.2).setFlag F.DL_STAT_LOCK 0 now
  let s2 := s1.modPwm fun w => { w with calIn := nIn, calOut := nOut, everLocked := w.everLocked || now }
  .next (if s.gait == Gait.paddock then s else s2.cond (was && !now) fun t => t.post EV.EV_DL_UNLOCK noUnit d)

/-- A passed carrier event goes to its destinations (R231). -/
def State.carrierPass (s : State) (n : Nat) : State :=
  let s1 := s.cond (s.flag F.LEG_EVT_D_ADC n) fun t =>
    t.urgent (t.fld F.LEG_EVT_ADC_CORE n) (t.fld F.LEG_EVT_ADC_INPUT n) (t.fld F.LEG_EVT_ADC_INT n) 0
  let s2 := s1.cond (s.flag F.LEG_EVT_D_HLP n) fun t => t.modLeg n fun l => { l with evLatch := true }
  let s3 := s2.cond (s.flag F.LEG_EVT_D_CAP n) fun t => t.modPwm fun w => { w with capTrig := some (w.capTrig.getD t.now) }
  s3.cond (s.flag F.LEG_EVT_D_EVQ n) fun t => t.post EV.EV_PWM_TICK n 0

/-- CARRIER_EVENT (R230, R231): the source instant of leg n's event generator, in the PWM clock that contains it. -/
def execCarrierEvent (leg : Fin 48) (s : State) : Host.Outcome State Fault Refusal :=
  let n := leg.val
  let c := (s.leg n).presc
  .next (
    if s.pwm.frozenAt.isSome || s.pwm.first || s.gait == Gait.paddock || !s.eventAt n ((s.now - s.pwm.tk) / 32) then s
    else if c < s.fld F.LEG_EVT_PRESC n then s.modLeg n fun l => { l with presc := c + 1 }
    else (s.modLeg n fun l => { l with presc := 0 }).carrierPass n)

/-- COMPARATOR_CROSSING (R171, R74, R175): V_diff of the input, in nV, has risen above the upper or fallen below the lower threshold; the
output rises. -/
def execComparatorCrossing (ain : Fin 48) (e : CmpEvent) (s : State) : Host.Outcome State Fault Refusal :=
  let t := s.setVin ain e.nv
  .next (if !t.cmpLive ain || !t.beyond ain e.upper e.nv || t.flag (outOf e.upper) ain then t else t.cmpRise ain e.upper)

/-- COMPARATOR_OUTPUT_FALL (R171): V_diff has passed back through the threshold less the hysteresis; the output falls. -/
def execComparatorOutputFall (ain : Fin 48) (e : CmpEvent) (s : State) : Host.Outcome State Fault Refusal :=
  let t := s.setVin ain e.nv
  .next (if !t.cmpLive ain || !t.passedBack ain e.upper e.nv then t else (t.setFlag (outOf e.upper) ain false).refreshGroups)

/-- TRIP_PIN_ACTIVE (R224): the pin is latched into the groups it feeds; blanking never masks it (R226). -/
def execTripPinActive (pin : Fin 8) (s : State) : Host.Outcome State Fault Refusal :=
  .next ((s.modPwm fun w => { w with
    pins := if bitOf w.pins pin then w.pins else w.pins + 2 ^ pin.val
    caught := w.caught.filter (·.1 != pin.val) ++ [(pin.val, s.now)] }).refreshGroups)

/-- TRIP_PIN_INACTIVE (R224): a short pulse stays latched until it has been captured. -/
def execTripPinInactive (pin : Fin 8) (s : State) : Host.Outcome State Fault Refusal :=
  .next ((s.modPwm fun w => { w with pins := if bitOf w.pins pin then w.pins - 2 ^ pin.val else w.pins }).refreshGroups)

/-- A trip of group g (R227): its legs go off at once, and stay off. -/
def State.trip (s : State) (g src : Nat) : State :=
  let legs := s.groupLegs g
  let s1 := ((s.setFlag F.TG_STAT_TRIPPED g true).setFld F.TG_STAT_FIRST_SRC g src).count F.TG_STAT_TRIP_CNT g
  let s2 := s1.post EV.EV_PWM_TRIP g src
  (legs.foldl (fun t n =>
    ((((t.takeEdges n (t.legClock n)).legOff n).modLeg n fun l => { l with relPend := false }).setFlag
      F.LEG_STAT_TRIPPED n true).raiseLeg n .trip) s2).haltLegs legs fun _ => 3

/-- Trip pins of group g that are latched and not yet captured (R224): within two PWM clocks of their edge, where the group has no filter. -/
def State.caughtPins (s : State) (g : Nat) : List Nat :=
  if s.flag F.TG_CFG_EN g && s.fld (F.WT_CFG_FILT.nth (s.fld F.TG_CFG_WT_SEL g)) 0 == 0 then
    (s.pwm.caught.filter fun x => bitOf (s.fld F.TG_CFG_PIN_MASK g) x.1 && decide (s.now ≤ x.2 + 64)).map fun x => 0x40 + x.1
  else []

/-- TRIP_GROUP_TRIP (R227): an unmasked source of the group has been active for FILT + 1 clocks. While TRIPPED is set the group
does not trip again; without the PWM clock none does (R233). -/
def execTripGroupTrip (grp : Fin 8) (s : State) : Host.Outcome State Fault Refusal :=
  .next (match vget s.pwm.srcs grp ++ s.caughtPins grp with
    | [] => s
    | src :: _ => if s.flag F.TG_STAT_TRIPPED grp || !s.clkOk 4 then s else s.trip grp src)

/-- BLANKING_CLOSE (R226): the window ends; a comparator still active acts at the close. -/
def execBlankingClose (wt : Fin 8) (s : State) : Host.Outcome State Fault Refusal :=
  let w := wt.val
  .next (
    if !bitOf s.pwm.blank w then s
    else
      let s1 := s.modPwm fun p => { p with blank := p.blank - 2 ^ w }
      let act := fun (t : State) n upper =>
        t.cond (s.masked n upper && !t.masked n upper && t.flag (outOf upper) n) fun u => u.crossingActs n upper
      (s1.forUnits 48 fun t n => act (act t n true) n false).refreshGroups)

/-- DELIVERED_EDGE (R225, R218): a channel of the leg changes level at this instant of the leg's period, by its program, a truncation, a trip or
the partner's turn-on after one, or a reload; it opens the blanking windows of the timers on the leg. A level that an edge has shown already
is no edge again. -/
def execDeliveredEdge (leg : Fin 48) (top : Bool) (on : Bool) (instant : Nat) (s : State) : Host.Outcome State Fault Refusal :=
  let n := leg.val
  let s1 := s.takeEdges n (if s.pwm.frozenAt.isSome then min instant (s.legClock n) else min instant s.fineP)
  .next (
    if !s.clkOk 4 || s1.outLevel n top != on || (if top then (s.leg n).seenTop else (s.leg n).seenBot) == on then s
    else (s1.modLeg n fun l => if top then { l with seenTop := on } else { l with seenBot := on }).openBlanking fun w =>
      s.fld (F.WT_CFG_TRIG.nth w) 0 == 2 && s.fld (F.WT_CFG_LEG.nth w) 0 == n)

end Sys2Proof.Machine
end

