-- ==== Sys2Proof/Machine/Query.lean ====
section
/-!
DEFINITION. QUERY (R120, R404, Table 14.7, R456): what each command returns. None has a side effect but Q_REG with CLEAR = 1.
-/
namespace Sys2Proof.Machine

/-- Complete with a result and a payload. -/
def State.answer (s : State) (tag : Nat) (res pay : List Byte) : State := s.complete tag FS.FS_OK 0 res pay

/-- Q_RESULT. -/
def execQResult (tag : Fin 128) (s : State) : Host.Outcome State Fault Refusal :=
  serve 0x0401 tag s fun e =>
    let i := e.a 0
    if 63 ≤ i then s.done tag FS.FS_PARAM
    else s.answer tag (wordBytes ((List.range 5).map fun k => s.cword i (48 + k))) []

/-- Q_CTX. -/
def execQCtx (tag : Fin 128) (s : State) : Host.Outcome State Fault Refusal :=
  serve 0x0402 tag s fun e =>
    let i := e.a 0
    if 63 ≤ i then s.done tag FS.FS_PARAM
    else s.answer tag [] (wordBytes ((List.range 64).map fun w => Memory.get ctxDflt s.cle.ramPrev (64 * i + w)))

/-- Q_PORT: Fencen reads the port from the newest complete snapshot (R21); before the first there is none, and it reads as 0. -/
def execQPort (tag : Fin 128) (s : State) : Host.Outcome State Fault Refusal :=
  serve 0x0403 tag s fun e =>
    if 12 ≤ e.a 0 then s.done tag FS.FS_PARAM else s.answer tag [] (s.win.ports.getD (e.a 0) (List.replicate 64 0#8))

/-- The payload of Q_OBS. -/
def State.obsBytes (s : State) (p : Nat) : List Byte :=
  let b := (List.range 64).flatMap fun i => match (s.ob p).bins[i]? with
    | some x => wordBytes [x.1, x.2.1, x.2.2.1]
    | none => wordBytes [0#32, 0#32, 0#32]
  leBytes 1 (s.fld F.OBS_STATUS_UPD_SEQ p) ++ leBytes 1 (s.fld F.OBS_STATUS_EST_VALID p) ++ leBytes 1 (s.fld F.OBS_STATUS_INVAL_WHY p)
    ++ leBytes 1 (s.fld F.OBS_STATUS_VALID_BINS p)
    ++ wordBytes [s.reg R.OBS_XG p, s.reg R.OBS_RG p, s.reg R.OBS_RHO p, s.reg R.OBS_ZETA p] ++ b

/-- Q_OBS. -/
def execQObs (tag : Fin 128) (s : State) : Host.Outcome State Fault Refusal :=
  serve 0x0404 tag s fun e =>
    if 4 ≤ e.a 0 then s.done tag FS.FS_PARAM else s.answer tag [] (s.obsBytes (e.a 0))

/-- A register read through Fencen's own path (R502): class, index and offset are the entry's. -/
def State.fencenRead (s : State) (clear : Bool) (c i off : Nat) : Word × State :=
  match s.access 2 off false with
  | 0 =>
    let s1 := s.modPath 2 fun q => { q with cls := c, idx := i, view := s.win.snap }
    let u := s1.unitAt 2 off
    let s2 := s1.readLatch 2 u.1 u.2 off false
    (s1.peek 2 off, if clear then s2.readClear u.1 u.2 off else s2)
  | _ => (0#32, s.count F.DRW_STAT_DENY_CNT 0)

/-- Q_REG. -/
def execQReg (tag : Fin 128) (s : State) : Host.Outcome State Fault Refusal :=
  serve 0x0405 tag s fun e =>
    let n := e.a 0
    let l := (List.range n).map fun k => (leAt e.payload (4 * k) 1, leAt e.payload (4 * k + 1) 1, leAt e.payload (4 * k + 2) 2)
    if e.payload.length != 4 * n then s.done tag FS.FS_LEN
    else if n = 0 || 64 < n || 1 < e.a 1 || l.any fun x => x.2.2 % 4 != 0 then s.done tag FS.FS_PARAM
    else
      let r := l.foldl (fun (a : List Word × State) x =>
        (let y := a.2.fencenRead (e.a 1 == 1) x.1 x.2.1 x.2.2; (a.1 ++ [y.1], y.2))) ([], s)
      r.2.answer tag [] (wordBytes r.1)

/-- Q_EVENTS (R456). -/
def execQEvents (tag : Fin 128) (s : State) : Host.Outcome State Fault Refusal :=
  serve 0x0406 tag s fun e =>
    let n := leAt e.args 0 8
    let oldest := (s.recd.ring.head?.map (·.num)).getD s.recd.next
    let l := (s.recd.ring.filter fun r => n ≤ r.num && !s.recd.bad.contains r.num).take 32
    let next := (l.getLast?.map fun r => r.num + 1).getD s.recd.next
    s.answer tag (leBytes 8 next ++ leBytes 4 (min (2 ^ 32 - 1) (oldest - n)))
      (l.flatMap fun r => leBytes 8 r.num ++ r.ev.bytes)

end Sys2Proof.Machine
end

