-- ==== Sys2Proof/Machine/Dispatch.lean ====
section
/-!
DEFINITION. What each command does: one arm for each constructor of Instr, a direct call of its meaning.
-/
namespace Sys2Proof.Machine

def exec (i : Instr) (s : State) : Host.Outcome State Fault Refusal :=
  match i with
  | .vinPowerOn => Sys2Proof.Machine.execVinPowerOn s
  | .vinBrownOut => Sys2Proof.Machine.execVinBrownOut s
  | .rstNPin => Sys2Proof.Machine.execRstNPin s
  | .debugResetRequest what => Sys2Proof.Machine.execDebugResetRequest what s
  | .resetRelease strap => Sys2Proof.Machine.execResetRelease strap s
  | .forcedRelease block => Sys2Proof.Machine.execForcedRelease block s
  | .blockReset src block => Sys2Proof.Machine.execBlockReset src block s
  | .blockIdleTimeout src block => Sys2Proof.Machine.execBlockIdleTimeout src block s
  | .bootStepComplete selfTest => Sys2Proof.Machine.execBootStepComplete selfTest s
  | .supervisorWatchdogExpiry => Sys2Proof.Machine.execSupervisorWatchdogExpiry s
  | .supervisorRestartReopen => Sys2Proof.Machine.execSupervisorRestartReopen s
  | .memoryError site => Sys2Proof.Machine.execMemoryError site s
  | .deferredSystemReset => Sys2Proof.Machine.execDeferredSystemReset s
  | .refclkLoss => Sys2Proof.Machine.execRefclkLoss s
  | .refclkRestored => Sys2Proof.Machine.execRefclkRestored s
  | .pllLossOfLock p => Sys2Proof.Machine.execPllLossOfLock p s
  | .pllLock p => Sys2Proof.Machine.execPllLock p s
  | .pllHopTimeout p => Sys2Proof.Machine.execPllHopTimeout p s
  | .bandSearchComplete p band temp => Sys2Proof.Machine.execBandSearchComplete p band temp s
  | .bandSearchRetry p temp => Sys2Proof.Machine.execBandSearchRetry p temp s
  | .clkOkChange dom ok => Sys2Proof.Machine.execClkOkChange dom ok s
  | .dllTapUpdate tap errPs => Sys2Proof.Machine.execDllTapUpdate tap errPs s
  | .pairclkOkChange ok => Sys2Proof.Machine.execPairclkOkChange ok s
  | .syncInEdge refPhase => Sys2Proof.Machine.execSyncInEdge refPhase s
  | .wakeSource src => Sys2Proof.Machine.execWakeSource src s
  | .wakeComplete => Sys2Proof.Machine.execWakeComplete s
  | .wakeFail => Sys2Proof.Machine.execWakeFail s
  | .gaitChangeEffect => Sys2Proof.Machine.execGaitChangeEffect s
  | .gaitThermal temp => Sys2Proof.Machine.execGaitThermal temp s
  | .rg0Boundary => Sys2Proof.Machine.execRg0Boundary s
  | .snapshotComplete => Sys2Proof.Machine.execSnapshotComplete s
  | .rg0PhaseStart phase => Sys2Proof.Machine.execRg0PhaseStart phase s
  | .rateGroupInstanceRun rg => Sys2Proof.Machine.execRateGroupInstanceRun rg s
  | .traceCopyComplete ch => Sys2Proof.Machine.execTraceCopyComplete ch s
  | .cleDeadlineMiss ports => Sys2Proof.Machine.execCleDeadlineMiss ports s
  | .rgInstanceOverrun rg => Sys2Proof.Machine.execRgInstanceOverrun rg s
  | .followingErrorExpiry ctx => Sys2Proof.Machine.execFollowingErrorExpiry ctx s
  | .followingErrorClear ctx => Sys2Proof.Machine.execFollowingErrorClear ctx s
  | .dlCalibration equal => Sys2Proof.Machine.execDlCalibration equal s
  | .carrierEvent leg => Sys2Proof.Machine.execCarrierEvent leg s
  | .comparatorCrossing ain e => Sys2Proof.Machine.execComparatorCrossing ain e s
  | .tripPinActive pin => Sys2Proof.Machine.execTripPinActive pin s
  | .tripGroupTrip grp => Sys2Proof.Machine.execTripGroupTrip grp s
  | .blankingClose wt => Sys2Proof.Machine.execBlankingClose wt s
  | .debugHalt cpu => Sys2Proof.Machine.execDebugHalt cpu s
  | .debugResume cpu => Sys2Proof.Machine.execDebugResume cpu s
  | .extest pins => Sys2Proof.Machine.execExtest pins s
  | .holdEdge core entry nv => Sys2Proof.Machine.execHoldEdge core entry nv s
  | .conversionComplete core nv => Sys2Proof.Machine.execConversionComplete core nv s
  | .urgentHoldEdge core nv => Sys2Proof.Machine.execUrgentHoldEdge core nv s
  | .refFault => Sys2Proof.Machine.execRefFault s
  | .refFaultClear => Sys2Proof.Machine.execRefFaultClear s
  | .offsetCalibrationDone => Sys2Proof.Machine.execOffsetCalibrationDone s
  | .sdClockLoss grp => Sys2Proof.Machine.execSdClockLoss grp s
  | .sdClockFreq grp => Sys2Proof.Machine.execSdClockFreq grp s
  | .sdClockClear grp => Sys2Proof.Machine.execSdClockClear grp s
  | .decimatedOutput inp bits => Sys2Proof.Machine.execDecimatedOutput inp bits s
  | .sdsyncAccept => Sys2Proof.Machine.execSdsyncAccept s
  | .resampleDelivery inp => Sys2Proof.Machine.execResampleDelivery inp s
  | .profileTileRewrite prof => Sys2Proof.Machine.execProfileTileRewrite prof s
  | .obsUpdate port => Sys2Proof.Machine.execObsUpdate port s
  | .tCloseExpiry port => Sys2Proof.Machine.execTCloseExpiry port s
  | .presyncTimeout port => Sys2Proof.Machine.execPresyncTimeout port s
  | .presyncWindowEnd port => Sys2Proof.Machine.execPresyncWindowEnd port s
  | .blackstartRampComplete port => Sys2Proof.Machine.execBlackstartRampComplete port s
  | .blackstartTrackFault port high => Sys2Proof.Machine.execBlackstartTrackFault port high s
  | .bkrFbSeen port => Sys2Proof.Machine.execBkrFbSeen port s
  | .envelopeRunLimit port => Sys2Proof.Machine.execEnvelopeRunLimit port s
  | .curlimExitStart port => Sys2Proof.Machine.execCurlimExitStart port s
  | .curlimRampComplete port => Sys2Proof.Machine.execCurlimRampComplete port s
  | .curlimTimeout port => Sys2Proof.Machine.execCurlimTimeout port s
  | .pullWindowEnd port => Sys2Proof.Machine.execPullWindowEnd port s
  | .dcRangeFault port => Sys2Proof.Machine.execDcRangeFault port s
  | .stopRampComplete port => Sys2Proof.Machine.execStopRampComplete port s
  | .srsRampComplete port => Sys2Proof.Machine.execSrsRampComplete port s
  | .setpointTakesEffect tag => Sys2Proof.Machine.execSetpointTakesEffect tag s
  | .commitTakesEffect => Sys2Proof.Machine.execCommitTakesEffect s
  | .presetTakesEffect tag => Sys2Proof.Machine.execPresetTakesEffect tag s
  | .rateChangeEffect => Sys2Proof.Machine.execRateChangeEffect s
  | .swapVerifyComplete => Sys2Proof.Machine.execSwapVerifyComplete s
  | .swapTakesEffect => Sys2Proof.Machine.execSwapTakesEffect s
  | .scrubTileCheck store tile upset => Sys2Proof.Machine.execScrubTileCheck store tile upset s
  | .configTileRewrite tile => Sys2Proof.Machine.execConfigTileRewrite tile s
  | .hlpTileRewrite tile => Sys2Proof.Machine.execHlpTileRewrite tile s
  | .frameSlotOpen lane => Sys2Proof.Machine.execFrameSlotOpen lane s
  | .pingSend lane => Sys2Proof.Machine.execPingSend lane s
  | .echoReceived lane seq rtt => Sys2Proof.Machine.execEchoReceived lane seq rtt s
  | .echoLost lane => Sys2Proof.Machine.execEchoLost lane s
  | .paramSend lane addr => Sys2Proof.Machine.execParamSend lane addr s
  | .statusFrameReceived lane bytes => Sys2Proof.Machine.execStatusFrameReceived lane bytes s
  | .alertReceived lane mask check => Sys2Proof.Machine.execAlertReceived lane mask check s
  | .losChange lane on => Sys2Proof.Machine.execLosChange lane on s
  | .lolChange lane on => Sys2Proof.Machine.execLolChange lane on s
  | .commaReceived lane pos => Sys2Proof.Machine.execCommaReceived lane pos s
  | .alignmentLoss lane => Sys2Proof.Machine.execAlignmentLoss lane s
  | .laneStateChange lane => Sys2Proof.Machine.execLaneStateChange lane s
  | .laneStatusTimeout lane => Sys2Proof.Machine.execLaneStatusTimeout lane s
  | .laneLostTimeout lane => Sys2Proof.Machine.execLaneLostTimeout lane s
  | .gdenReadbackSample pins => Sys2Proof.Machine.execGdenReadbackSample pins s
  | .gdenLowEnd lane => Sys2Proof.Machine.execGdenLowEnd lane s
  | .gdClearStatusWaitEnd lane => Sys2Proof.Machine.execGdClearStatusWaitEnd lane s
  | .partnerActChange level => Sys2Proof.Machine.execPartnerActChange level s
  | .actOutReadbackMismatch on => Sys2Proof.Machine.execActOutReadbackMismatch on s
  | .missingRg0Boundary => Sys2Proof.Machine.execMissingRg0Boundary s
  | .sgrInChange level => Sys2Proof.Machine.execSgrInChange level s
  | .remoteSgrEnd => Sys2Proof.Machine.execRemoteSgrEnd s
  | .takeover => Sys2Proof.Machine.execTakeover s
  | .handoverRelease => Sys2Proof.Machine.execHandoverRelease s
  | .scheduledPairChange => Sys2Proof.Machine.execScheduledPairChange s
  | .standbyGdenDrop => Sys2Proof.Machine.execStandbyGdenDrop s
  | .mirrorRecordSend => Sys2Proof.Machine.execMirrorRecordSend s
  | .mirrorBlockReceived lane bytes sof => Sys2Proof.Machine.execMirrorBlockReceived lane bytes sof s
  | .mirrorRecordApply rec => Sys2Proof.Machine.execMirrorRecordApply rec s
  | .creditReceived lane n check => Sys2Proof.Machine.execCreditReceived lane n check s
  | .standbyStatusSend => Sys2Proof.Machine.execStandbyStatusSend s
  | .standbyStatusReceived st => Sys2Proof.Machine.execStandbyStatusReceived st s
  | .helloReceived lane h => Sys2Proof.Machine.execHelloReceived lane h s
  | .mirrorLaneLost lane => Sys2Proof.Machine.execMirrorLaneLost lane s
  | .gdenPulseTest pins => Sys2Proof.Machine.execGdenPulseTest pins s
  | .sdinDemand ch => Sys2Proof.Machine.execSdinDemand ch s
  | .sdinDiscrepancy pair => Sys2Proof.Machine.execSdinDiscrepancy pair s
  | .testPulseSlot tp => Sys2Proof.Machine.execTestPulseSlot tp s
  | .testPulseCheck tp after low => Sys2Proof.Machine.execTestPulseCheck tp after low s
  | .safetyDiDemand di => Sys2Proof.Machine.execSafetyDiDemand di s
  | .outputOffPulse out ending pins => Sys2Proof.Machine.execOutputOffPulse out ending pins s
  | .pduCopyReceived net conn bytes => Sys2Proof.Machine.execPduCopyReceived net conn bytes s
  | .pduWatchdogExpiry conn net => Sys2Proof.Machine.execPduWatchdogExpiry conn net s
  | .pduSend conn => Sys2Proof.Machine.execPduSend conn s
  | .monitorAdcWindow ch on => Sys2Proof.Machine.execMonitorAdcWindow ch on s
  | .monitorCrossCheck ch on => Sys2Proof.Machine.execMonitorCrossCheck ch on s
  | .junctionOvertemp on => Sys2Proof.Machine.execJunctionOvertemp on s
  | .clockCrossCheck on => Sys2Proof.Machine.execClockCrossCheck on s
  | .islandSupplyFault => Sys2Proof.Machine.execIslandSupplyFault s
  | .lockstepMismatch => Sys2Proof.Machine.execLockstepMismatch s
  | .consecutiveMissLimit => Sys2Proof.Machine.execConsecutiveMissLimit s
  | .timebaseWatchExpiry => Sys2Proof.Machine.execTimebaseWatchExpiry s
  | .offPathReadbackFault on => Sys2Proof.Machine.execOffPathReadbackFault on s
  | .srsRequest => Sys2Proof.Machine.execSrsRequest s
  | .srsTimeLimit port => Sys2Proof.Machine.execSrsTimeLimit port s
  | .sgrComplete => Sys2Proof.Machine.execSgrComplete s
  | .sgrReadbackTimeout unconfirmed => Sys2Proof.Machine.execSgrReadbackTimeout unconfirmed s
  | .hlpCycleStart => Sys2Proof.Machine.execHlpCycleStart s
  | .hlpExecutionEnd execUs => Sys2Proof.Machine.execHlpExecutionEnd execUs s
  | .hlpOverrun => Sys2Proof.Machine.execHlpOverrun s
  | .hlpHardLimit => Sys2Proof.Machine.execHlpHardLimit s
  | .hlpInitLimit => Sys2Proof.Machine.execHlpInitLimit s
  | .hlpFetchParity => Sys2Proof.Machine.execHlpFetchParity s
  | .hlpNop => Sys2Proof.Machine.execHlpNop s
  | .hlpLd b => Sys2Proof.Machine.execHlpLd b s
  | .hlpLdn b => Sys2Proof.Machine.execHlpLdn b s
  | .hlpAnd b => Sys2Proof.Machine.execHlpAnd b s
  | .hlpAndn b => Sys2Proof.Machine.execHlpAndn b s
  | .hlpOr b => Sys2Proof.Machine.execHlpOr b s
  | .hlpOrn b => Sys2Proof.Machine.execHlpOrn b s
  | .hlpXor b => Sys2Proof.Machine.execHlpXor b s
  | .hlpPush => Sys2Proof.Machine.execHlpPush s
  | .hlpAndp => Sys2Proof.Machine.execHlpAndp s
  | .hlpOrp => Sys2Proof.Machine.execHlpOrp s
  | .hlpNot => Sys2Proof.Machine.execHlpNot s
  | .hlpEdge b => Sys2Proof.Machine.execHlpEdge b s
  | .hlpSt b => Sys2Proof.Machine.execHlpSt b s
  | .hlpStn b => Sys2Proof.Machine.execHlpStn b s
  | .hlpSet b => Sys2Proof.Machine.execHlpSet b s
  | .hlpRst b => Sys2Proof.Machine.execHlpRst b s
  | .hlpTon w => Sys2Proof.Machine.execHlpTon w s
  | .hlpTof w => Sys2Proof.Machine.execHlpTof w s
  | .hlpTp w => Sys2Proof.Machine.execHlpTp w s
  | .hlpCtu w => Sys2Proof.Machine.execHlpCtu w s
  | .hlpCtd w => Sys2Proof.Machine.execHlpCtd w s
  | .hlpCrs w => Sys2Proof.Machine.execHlpCrs w s
  | .hlpLw w => Sys2Proof.Machine.execHlpLw w s
  | .hlpLk k => Sys2Proof.Machine.execHlpLk k s
  | .hlpSw w => Sys2Proof.Machine.execHlpSw w s
  | .hlpMov w => Sys2Proof.Machine.execHlpMov w s
  | .hlpAdd w => Sys2Proof.Machine.execHlpAdd w s
  | .hlpSub w => Sys2Proof.Machine.execHlpSub w s
  | .hlpCeq w => Sys2Proof.Machine.execHlpCeq w s
  | .hlpCne w => Sys2Proof.Machine.execHlpCne w s
  | .hlpClt w => Sys2Proof.Machine.execHlpClt w s
  | .hlpCle w => Sys2Proof.Machine.execHlpCle w s
  | .hlpCgt w => Sys2Proof.Machine.execHlpCgt w s
  | .hlpCge w => Sys2Proof.Machine.execHlpCge w s
  | .hlpFlt w => Sys2Proof.Machine.execHlpFlt w s
  | .hlpFgt w => Sys2Proof.Machine.execHlpFgt w s
  | .hlpJmp dest => Sys2Proof.Machine.execHlpJmp dest s
  | .hlpJc dest => Sys2Proof.Machine.execHlpJc dest s
  | .hlpJnc dest => Sys2Proof.Machine.execHlpJnc dest s
  | .hlpEnd => Sys2Proof.Machine.execHlpEnd s
  | .hlpAdcr req => Sys2Proof.Machine.execHlpAdcr req s
  | .remoteFrameReceived rm bytes => Sys2Proof.Machine.execRemoteFrameReceived rm bytes s
  | .remoteTimeout rm => Sys2Proof.Machine.execRemoteTimeout rm s
  | .remoteOutputSend rm => Sys2Proof.Machine.execRemoteOutputSend rm s
  | .diSample mv => Sys2Proof.Machine.execDiSample mv s
  | .doOverload out => Sys2Proof.Machine.execDoOverload out s
  | .bankRefresh pins => Sys2Proof.Machine.execBankRefresh pins s
  | .silenceTimeout => Sys2Proof.Machine.execSilenceTimeout s
  | .vfieldUvChange on => Sys2Proof.Machine.execVfieldUvChange on s
  | .vfieldOvChange on => Sys2Proof.Machine.execVfieldOvChange on s
  | .tpOverload tp => Sys2Proof.Machine.execTpOverload tp s
  | .qspiRead addr count => Sys2Proof.Machine.execQspiRead addr count s
  | .qspiWrite addr bytes => Sys2Proof.Machine.execQspiWrite addr bytes s
  | .qspiStatus => Sys2Proof.Machine.execQspiStatus s
  | .mbDoorbell mb value => Sys2Proof.Machine.execMbDoorbell mb value s
  | .mbCplHeadWrite mb value => Sys2Proof.Machine.execMbCplHeadWrite mb value s
  | .cmd mb bytes => Sys2Proof.Machine.execCmd mb bytes s
  | .cplAck mb bytes => Sys2Proof.Machine.execCplAck mb bytes s
  | .probe mb => Sys2Proof.Machine.execProbe mb s
  | .cplResend tag => Sys2Proof.Machine.execCplResend tag s
  | .canSegment can fd bytes => Sys2Proof.Machine.execCanSegment can fd bytes s
  | .canSegmentGap can => Sys2Proof.Machine.execCanSegmentGap can s
  | .ethernetFrameReceived mac f => Sys2Proof.Machine.execEthernetFrameReceived mac f s
  | .scheduledLaunch mac ptp => Sys2Proof.Machine.execScheduledLaunch mac ptp s
  | .linkChange mac up speed => Sys2Proof.Machine.execLinkChange mac up speed s
  | .txTimestamp mac id type oneStep => Sys2Proof.Machine.execTxTimestamp mac id type oneStep s
  | .timestampDrain mac => Sys2Proof.Machine.execTimestampDrain mac s
  | .ptpServoUpdate => Sys2Proof.Machine.execPtpServoUpdate s
  | .holdMaxExpiry => Sys2Proof.Machine.execHoldMaxExpiry s
  | .datagramClose => Sys2Proof.Machine.execDatagramClose s
  | .flushComplete => Sys2Proof.Machine.execFlushComplete s
  | .flushTimeout => Sys2Proof.Machine.execFlushTimeout s
  | .eventDrain => Sys2Proof.Machine.execEventDrain s
  | .islandRecordWrite => Sys2Proof.Machine.execIslandRecordWrite s
  | .attReportBuilt => Sys2Proof.Machine.execAttReportBuilt s
  | .spurSessionStart => Sys2Proof.Machine.execSpurSessionStart s
  | .spurSessionStop => Sys2Proof.Machine.execSpurSessionStop s
  | .adcUrgWrite path value => Sys2Proof.Machine.execAdcUrgWrite path value s
  | .pwmCommitWrite path value => Sys2Proof.Machine.execPwmCommitWrite path value s
  | .cmpStaticWrite path value => Sys2Proof.Machine.execCmpStaticWrite path value s
  | .crossfireClear path value => Sys2Proof.Machine.execCrossfireClear path value s
  | .trippedClear path value => Sys2Proof.Machine.execTrippedClear path value s
  | .dlCtrlWrite path value => Sys2Proof.Machine.execDlCtrlWrite path value s
  | .laneSlipWrite path value => Sys2Proof.Machine.execLaneSlipWrite path value s
  | .wselWrite path value => Sys2Proof.Machine.execWselWrite path value s
  | .resStatRead path => Sys2Proof.Machine.execResStatRead path s
  | .snapPnumLoRead path => Sys2Proof.Machine.execSnapPnumLoRead path s
  | .obsBinSelWrite path value => Sys2Proof.Machine.execObsBinSelWrite path value s
  | .highWordLatchRead path which => Sys2Proof.Machine.execHighWordLatchRead path which s
  | .spurCtrlWrite path value => Sys2Proof.Machine.execSpurCtrlWrite path value s
  | .spurInjGo path value => Sys2Proof.Machine.execSpurInjGo path value s
  | .registerWrite path addr value => Sys2Proof.Machine.execRegisterWrite path addr value s
  | .cfgStage tag => Sys2Proof.Machine.execCfgStage tag s
  | .cfgCommit tag => Sys2Proof.Machine.execCfgCommit tag s
  | .cfgDiscard tag => Sys2Proof.Machine.execCfgDiscard tag s
  | .coefWrite tag => Sys2Proof.Machine.execCoefWrite tag s
  | .coefCopy tag => Sys2Proof.Machine.execCoefCopy tag s
  | .coefSwap tag => Sys2Proof.Machine.execCoefSwap tag s
  | .ctxPreset tag => Sys2Proof.Machine.execCtxPreset tag s
  | .sdSync tag => Sys2Proof.Machine.execSdSync tag s
  | .runGo tag => Sys2Proof.Machine.execRunGo tag s
  | .runStall tag => Sys2Proof.Machine.execRunStall tag s
  | .gait tag => Sys2Proof.Machine.execGait tag s
  | .rate tag => Sys2Proof.Machine.execRate tag s
  | .portArm tag => Sys2Proof.Machine.execPortArm tag s
  | .portDisarm tag => Sys2Proof.Machine.execPortDisarm tag s
  | .portStart tag => Sys2Proof.Machine.execPortStart tag s
  | .portStop tag => Sys2Proof.Machine.execPortStop tag s
  | .portClear tag => Sys2Proof.Machine.execPortClear tag s
  | .reclosePrep tag => Sys2Proof.Machine.execReclosePrep tag s
  | .recloseEnd tag => Sys2Proof.Machine.execRecloseEnd tag s
  | .gdClear tag => Sys2Proof.Machine.execGdClear tag s
  | .spAc tag => Sys2Proof.Machine.execSpAc tag s
  | .spDc tag => Sys2Proof.Machine.execSpDc tag s
  | .spSlew tag => Sys2Proof.Machine.execSpSlew tag s
  | .qResult tag => Sys2Proof.Machine.execQResult tag s
  | .qCtx tag => Sys2Proof.Machine.execQCtx tag s
  | .qPort tag => Sys2Proof.Machine.execQPort tag s
  | .qObs tag => Sys2Proof.Machine.execQObs tag s
  | .qReg tag => Sys2Proof.Machine.execQReg tag s
  | .qEvents tag => Sys2Proof.Machine.execQEvents tag s
  | .trArm tag => Sys2Proof.Machine.execTrArm tag s
  | .trTrig tag => Sys2Proof.Machine.execTrTrig tag s
  | .trStop tag => Sys2Proof.Machine.execTrStop tag s
  | .trRead tag => Sys2Proof.Machine.execTrRead tag s
  | .capCfg tag => Sys2Proof.Machine.execCapCfg tag s
  | .capStart tag => Sys2Proof.Machine.execCapStart tag s
  | .capStop tag => Sys2Proof.Machine.execCapStop tag s
  | .capHistCfg tag => Sys2Proof.Machine.execCapHistCfg tag s
  | .capHistRead tag => Sys2Proof.Machine.execCapHistRead tag s
  | .capPmapCfg tag => Sys2Proof.Machine.execCapPmapCfg tag s
  | .capPmapRead tag => Sys2Proof.Machine.execCapPmapRead tag s
  | .updBegin tag nvm => Sys2Proof.Machine.execUpdBegin tag nvm s
  | .updWrite tag nvm => Sys2Proof.Machine.execUpdWrite tag nvm s
  | .updVerify tag => Sys2Proof.Machine.execUpdVerify tag s
  | .updActivate tag nvm => Sys2Proof.Machine.execUpdActivate tag nvm s
  | .updRestart tag => Sys2Proof.Machine.execUpdRestart tag s
  | .updSvn tag => Sys2Proof.Machine.execUpdSvn tag s
  | .updInfo tag => Sys2Proof.Machine.execUpdInfo tag s
  | .safArm tag => Sys2Proof.Machine.execSafArm tag s
  | .safDisarm tag => Sys2Proof.Machine.execSafDisarm tag s
  | .safReset tag => Sys2Proof.Machine.execSafReset tag s
  | .safCfgStage tag => Sys2Proof.Machine.execSafCfgStage tag s
  | .safCfgCommit tag => Sys2Proof.Machine.execSafCfgCommit tag s
  | .safCfgRead tag => Sys2Proof.Machine.execSafCfgRead tag s
  | .safConfirm tag test => Sys2Proof.Machine.execSafConfirm tag test s
  | .safConfirmTimeout => Sys2Proof.Machine.execSafConfirmTimeout s
  | .pairActivate tag => Sys2Proof.Machine.execPairActivate tag s
  | .pairHandover tag => Sys2Proof.Machine.execPairHandover tag s
  | .hlpLoad tag => Sys2Proof.Machine.execHlpLoad tag s
  | .hlpLoadDone tag => Sys2Proof.Machine.execHlpLoadDone tag s
  | .hlpStart tag => Sys2Proof.Machine.execHlpStart tag s
  | .hlpStop tag => Sys2Proof.Machine.execHlpStop tag s
  | .hlpMode tag => Sys2Proof.Machine.execHlpMode tag s
  | .hlpOlc tag => Sys2Proof.Machine.execHlpOlc tag s
  | .tbRead tag => Sys2Proof.Machine.execTbRead tag s
  | .tbSet tag => Sys2Proof.Machine.execTbSet tag s
  | .tbAdj tag => Sys2Proof.Machine.execTbAdj tag s
  | .ptpCfg tag => Sys2Proof.Machine.execPtpCfg tag s
  | .attReport tag => Sys2Proof.Machine.execAttReport tag s
  | .attRead tag => Sys2Proof.Machine.execAttRead tag s
  | .attIdentity tag => Sys2Proof.Machine.execAttIdentity tag s
  | .comparatorOutputFall ain e => Sys2Proof.Machine.execComparatorOutputFall ain e s
  | .tripPinInactive pin => Sys2Proof.Machine.execTripPinInactive pin s
  | .sdinReturnHigh ch => Sys2Proof.Machine.execSdinReturnHigh ch s
  | .bankPresenceChange bankB present => Sys2Proof.Machine.execBankPresenceChange bankB present s
  | .busOff can => Sys2Proof.Machine.execBusOff can s
  | .optionSectorWrite bytes => Sys2Proof.Machine.execOptionSectorWrite bytes s
  | .revocationBurn slhDsa slot => Sys2Proof.Machine.execRevocationBurn slhDsa slot s
  | .deliveredEdge leg top on instant => Sys2Proof.Machine.execDeliveredEdge leg top on instant s
  | .portReload port => Sys2Proof.Machine.execPortReload port s
  | .announceReceiptTimeout mac => Sys2Proof.Machine.execAnnounceReceiptTimeout mac s
  | .singleBitError mem => Sys2Proof.Machine.execSingleBitError mem s

end Sys2Proof.Machine
end

