-- ==== Sys2Proof/Safety.lean ====
section
/-!
DEFINITION. What every state of the block keeps, in the terms the statements use: the register file and the addressed stores are in
canonical form, the event queue is no longer than it is deep, and no mailbox holds more commands and completions than it has entries.
-/
namespace Sys2Proof.Machine

/-- The register file is in canonical form. -/
def State.Canon (s : State) : Prop := Memory.wf resetWord s.regs = true

/-- The rings of the mailboxes (R372 to R375): a tag is held by one command at most and belongs to its mailbox; a mailbox's commands
in flight and its completions not yet consumed share its 16 entries; no two of those completions carry one tag, and none the tag of a
command in flight. -/
def FcpSt.Rings (f : FcpSt) : Prop :=
  (f.inflight.map (·.tag)).Nodup ∧ (∀ e ∈ f.inflight, e.tag / 16 = e.mb) ∧
    ∀ m, m < 8 → (f.inflight.filter fun e => e.mb == m).length + (vget f.boxes m).posted.length ≤ 16 ∧
      ((vget f.boxes m).posted.map (·.tag)).Nodup ∧
      ∀ p ∈ (vget f.boxes m).posted, p.tag / 16 = m ∧ ∀ e ∈ f.inflight, e.tag ≠ p.tag

/-- The stores that commands address byte by byte or word by word are in canonical form: the CLE's context RAM, the HLP's memory, the
mailboxes' RAM and both buffers of the HLP's retained store. -/
def State.Stores (s : State) : Prop :=
  Memory.wf ctxDflt s.cle.ram = true ∧ Memory.wf (fun _ => 0#8) s.hlp.mem = true ∧ Memory.wf (fun _ => 0#8) s.fcp.ram = true ∧
    ∀ k b, vget s.hlp.store k = some b → Memory.wf (fun _ => 0#8) b.area = true

/-- The invariant of the block. -/
structure State.Inv (s : State) : Prop where
  /-- The register file is in canonical form. -/
  regs : Memory.wf resetWord s.regs = true
  /-- At most 64 events are queued (R43). -/
  depth : s.evq.queue.length ≤ 64
  /-- The mailboxes' rings hold (R373). -/
  rings : s.fcp.Rings
  /-- The addressed stores are in canonical form. -/
  stores : s.Stores

/-- Fencen may take the command with this opcode and tag (R380), and its layout is right (R397, R398). -/
def State.Serves (s : State) (op : Nat) (tag : Fin 128) (e : Entry) : Prop :=
  s.Inv ∧ s.ready op tag.val = some e ∧ shapeStatus e = none

/-- No safety output that has been read while it is on has a low readback (R325). -/
def State.outputsWell (s : State) : Prop :=
  ∀ m, m < 8 → s.isSafeOut m = true → bitOf s.fio.read m = true → bitOf (s.fld F.FIO_DO_PIN 0) m = true

/-- Connection c is enabled and network n receives: NET has its clock and the link is up. -/
def State.hears (s : State) (n c : Nat) : Prop :=
  s.flag F.PDU_STAT_EN c = true ∧ s.netRuns = true ∧ s.flag F.MAC_STAT_LINK n = true

/-- The command with this opcode and tag has been taken and waits for its boundary or event (R380). -/
def State.Due (s : State) (op : Nat) (tag : Fin 128) (e : Entry) : Prop :=
  s.Inv ∧ s.svpClock = true ∧ s.waiting op tag.val = some e

/-- The completion of the command with this tag stands in its mailbox, with this status, RESULT and payload (Table 13.4), and no
command holds the tag any more (R375, R378). -/
def State.Answered (t : State) (tag : Fin 128) (status : Nat) (res pay : List Byte) : Prop :=
  (∃ p ∈ (vget t.fcp.boxes (tag.val / 16)).posted, p.tag = tag.val ∧ leAt p.header 6 2 = status ∧
    slice p.header 32 28 = slice res 0 28 ∧ p.payload = pay) ∧ ∀ e ∈ t.fcp.inflight, e.tag ≠ tag.val

/-- The command with this tag has been taken and waits in flight for its boundary or event. -/
def State.Waits (s t : State) (tag : Fin 128) : Prop :=
  ∃ e ∈ t.fcp.inflight, e.tag = tag.val ∧ e.started = true ∧ e.at0 = s.now ∧ e.b0 = s.pwm.bnd

/-- The port a command names exists and is configured, its state lets the host command it, and the device is Running (R402). -/
def State.PortOpen (s : State) (e : Entry) : Prop :=
  e.a 0 < 12 ∧ s.roleBad = false ∧ (s.port (e.a 0)).cfg.configured = true ∧ hostFrom e.op (s.pstate (e.a 0)) (e.a 0) = true ∧ s.devState = 2

/-- Between s and t the event with this code, unit and data entered the queue (R43, R514). -/
def State.Told (s t : State) (code unit data : Nat) : Prop :=
  ∃ r ∈ t.evq.queue, s.evq.next ≤ r.num ∧ r.code = code ∧ r.unit = unit ∧ r.data = data % 2 ^ 64

/-- Between s and t no bit of a register changed outside the fields listed with their units. -/
def State.RegsBut (s t : State) (l : List (Fld × Nat)) : Prop :=
  ∀ k b, (∀ x ∈ l, k = regKey x.1.cls x.2 x.1.off → b < x.1.lo ∨ x.1.hi < b) →
    (Memory.get resetWord t.regs k).getLsbD b = (Memory.get resetWord s.regs k).getLsbD b

/-- All of register r, as a field. -/
def Reg.whole (r : Reg) : Fld := ⟨r.cls, r.off, 31, 0⟩

/-- The fields an event queued changes (R43): the queue's, and the state of the trace channels it triggers (R122). -/
def evqFlds : List (Fld × Nat) :=
  [(F.EVQ_STAT_DEPTH, 0), (F.EVQ_STAT_DROP_CNT, 0)] ++ (List.range 8).map fun c => (F.TRACE_CTL_STATE, c)

/-! ### Frames -/

/-- The parts of the state, one for each of its components. -/
inductive Part where
  /-- The queue of commands. -/
  | pending
  /-- The instant. -/
  | now
  /-- The index of free values. -/
  | fresh
  /-- The register file. -/
  | regs
  /-- Mailboxes and commands in flight. -/
  | fcp
  /-- The event queue. -/
  | evq
  /-- The paths to the window. -/
  | win
  /-- Contexts and their schedule. -/
  | cle
  /-- The ports. -/
  | ports
  /-- The PWM bank. -/
  | pwm
  /-- Coefficient banks and presets. -/
  | coef
  /-- Trace channels. -/
  | trace
  /-- The observers. -/
  | obs
  /-- The ADC cores. -/
  | adc
  /-- The sigma-delta inputs. -/
  | sd
  /-- The Gate Link lanes. -/
  | gl
  /-- The pair. -/
  | pair
  /-- The Steward. -/
  | stw
  /-- The HLP. -/
  | hlp
  /-- Field I/O. -/
  | fio
  /-- The time bases. -/
  | tb
  /-- The MACs. -/
  | macs
  /-- PTP. -/
  | ptp
  /-- The capture block. -/
  | cap
  /-- The recorder. -/
  | recd
  /-- The clocks. -/
  | clk
  /-- Spur. -/
  | spur
  /-- The Tack Table. -/
  | tack
  /-- Boot, slots and option sectors. -/
  | boot
  deriving DecidableEq, Repr

/-- Part p of the two states is the same. -/
def Part.same (p : Part) (s t : State) : Prop :=
  match p with
  | .pending => t.pending = s.pending
  | .now => t.now = s.now
  | .fresh => t.fresh = s.fresh
  | .regs => t.regs = s.regs
  | .fcp => t.fcp = s.fcp
  | .evq => t.evq = s.evq
  | .win => t.win = s.win
  | .cle => t.cle = s.cle
  | .ports => t.ports = s.ports
  | .pwm => t.pwm = s.pwm
  | .coef => t.coef = s.coef
  | .trace => t.trace = s.trace
  | .obs => t.obs = s.obs
  | .adc => t.adc = s.adc
  | .sd => t.sd = s.sd
  | .gl => t.gl = s.gl
  | .pair => t.pair = s.pair
  | .stw => t.stw = s.stw
  | .hlp => t.hlp = s.hlp
  | .fio => t.fio = s.fio
  | .tb => t.tb = s.tb
  | .macs => t.macs = s.macs
  | .ptp => t.ptp = s.ptp
  | .cap => t.cap = s.cap
  | .recd => t.recd = s.recd
  | .clk => t.clk = s.clk
  | .spur => t.spur = s.spur
  | .tack => t.tack = s.tack
  | .boot => t.boot = s.boot

/-- Between s and t nothing changed outside the parts listed. -/
def State.Only (s t : State) (l : List Part) : Prop := ∀ p, p ∉ l → p.same s t

/-- Between s and t the command with this tag was taken and waits at port p for its boundary; nothing else changed than the ports and the
mailboxes (R402). -/
def State.PortWaits (s t : State) (tag : Fin 128) (p : Nat) : Prop :=
  s.Waits t tag ∧ (t.port p).waits = (s.port p).waits ++ [tag.val] ∧ s.Only t [.fcp, .ports]

/-- Every part a reset clears (R477): all but the queue of commands, the instant and the index of free values. -/
def Part.cleared : List Part := [.regs, .fcp, .evq, .win, .cle, .ports, .pwm, .coef, .trace, .obs, .adc, .sd, .gl, .pair, .stw, .hlp,
  .fio, .tb, .macs, .ptp, .cap, .recd, .clk, .spur, .tack, .boot]

/-- The parts of the state a command may change; every other part it leaves as it is. A command that can end in a reset, or raise a cause
of class F, may change all that a reset clears. -/
def reach : Instr → List Part
  | .vinPowerOn => Part.cleared
  | .vinBrownOut => Part.cleared
  | .rstNPin => Part.cleared
  | .debugResetRequest _ => Part.cleared
  | .resetRelease _ => [.regs, .recd, .clk, .boot]
  | .forcedRelease _ => [.regs, .evq, .trace, .recd, .boot]
  | .blockReset _ _ => [.regs, .fcp, .evq, .ports, .pwm, .coef, .trace, .gl, .pair, .stw, .hlp, .fio, .macs, .cap, .recd, .spur, .boot]
  | .blockIdleTimeout _ _ => [.regs, .fcp, .evq, .ports, .pwm, .coef, .trace, .gl, .pair, .stw, .hlp, .fio, .macs, .cap, .recd, .spur, .boot]
  | .bootStepComplete _ => Part.cleared
  | .supervisorWatchdogExpiry => Part.cleared
  | .supervisorRestartReopen => [.regs, .fcp, .evq, .trace, .macs, .recd, .boot]
  | .memoryError _ => Part.cleared
  | .deferredSystemReset => Part.cleared
  | .refclkLoss => [.regs, .fcp, .evq, .ports, .pwm, .trace, .sd, .pair, .macs, .ptp, .recd, .clk]
  | .refclkRestored => [.regs, .clk]
  | .pllLossOfLock _ => [.regs, .fcp, .evq, .ports, .pwm, .trace, .sd, .pair, .macs, .ptp, .recd, .clk]
  | .pllLock _ => [.regs, .clk]
  | .pllHopTimeout _ => [.regs, .clk]
  | .bandSearchComplete _ _ _ => [.regs, .clk]
  | .bandSearchRetry _ _ => [.clk]
  | .clkOkChange _ _ => [.regs, .fcp, .evq, .ports, .pwm, .trace, .pair, .macs, .ptp, .recd, .boot]
  | .dllTapUpdate _ _ => [.regs]
  | .pairclkOkChange _ => [.regs, .evq, .ports, .pwm, .trace, .pair, .ptp, .recd]
  | .syncInEdge _ => [.regs, .evq, .trace, .recd, .clk]
  | .wakeSource _ => [.regs, .clk]
  | .wakeComplete => [.regs, .fcp, .evq, .win, .pwm, .trace, .sd, .hlp, .macs, .recd, .clk]
  | .wakeFail => [.regs]
  | .gaitChangeEffect => [.regs, .fcp, .evq, .win, .ports, .pwm, .trace, .adc, .gl, .pair, .stw, .hlp, .fio, .macs, .cap, .recd, .clk, .spur]
  | .gaitThermal _ => [.regs, .evq, .trace, .recd, .clk]
  | .rg0Boundary => [.now, .regs, .fcp, .evq, .win, .cle, .ports, .pwm, .trace, .obs, .adc, .sd, .gl, .pair, .stw, .hlp, .tb, .macs, .ptp, .cap, .recd, .clk, .spur, .boot]
  | .snapshotComplete => [.win]
  | .rg0PhaseStart _ => [.regs, .evq, .cle, .ports, .pwm, .trace, .recd, .spur, .boot]
  | .rateGroupInstanceRun _ => [.regs, .evq, .cle, .ports, .trace, .pair, .recd, .spur, .boot]
  | .traceCopyComplete _ => [.regs, .fcp, .trace, .macs]
  | .cleDeadlineMiss _ => [.regs, .evq, .cle, .pwm, .trace, .recd]
  | .rgInstanceOverrun _ => [.regs, .evq, .cle, .trace, .recd]
  | .followingErrorExpiry _ => [.regs, .evq, .cle, .ports, .trace, .gl, .pair, .stw, .recd, .spur]
  | .followingErrorClear _ => [.regs, .evq, .cle, .trace, .recd]
  | .dlCalibration _ => [.regs, .evq, .pwm, .trace, .recd]
  | .carrierEvent _ => [.regs, .evq, .pwm, .trace, .adc, .recd]
  | .comparatorCrossing _ _ => [.regs, .evq, .ports, .pwm, .trace, .obs, .adc, .gl, .recd]
  | .tripPinActive _ => [.regs, .pwm]
  | .tripGroupTrip _ => [.regs, .evq, .ports, .pwm, .trace, .gl, .recd]
  | .blankingClose _ => [.regs, .evq, .ports, .pwm, .trace, .obs, .gl, .recd]
  | .debugHalt _ => [.regs, .fcp, .evq, .cle, .pwm, .trace, .hlp, .recd]
  | .debugResume _ => [.regs, .fcp, .evq, .cle, .pwm, .trace, .hlp, .macs, .recd]
  | .extest _ => [.pwm]
  | .holdEdge _ _ _ => [.regs, .evq, .trace, .adc, .recd]
  | .conversionComplete _ _ => [.regs, .evq, .trace, .adc, .cap, .recd]
  | .urgentHoldEdge _ _ => [.regs, .adc]
  | .refFault => [.regs, .evq, .ports, .trace, .gl, .pair, .stw, .recd, .spur]
  | .refFaultClear => [.regs, .stw]
  | .offsetCalibrationDone => [.regs]
  | .sdClockLoss _ => [.regs, .evq, .trace, .recd]
  | .sdClockFreq _ => [.regs, .evq, .trace, .recd]
  | .sdClockClear _ => [.regs, .sd]
  | .decimatedOutput _ _ => [.regs, .sd]
  | .sdsyncAccept => [.regs, .evq, .trace, .sd, .recd]
  | .resampleDelivery _ => [.regs]
  | .profileTileRewrite _ => [.coef, .sd]
  | .obsUpdate _ => [.regs, .evq, .cle, .ports, .trace, .obs, .recd]
  | .tCloseExpiry _ => [.ports]
  | .presyncTimeout _ => [.ports]
  | .presyncWindowEnd _ => [.ports]
  | .blackstartRampComplete _ => [.ports]
  | .blackstartTrackFault _ _ => [.ports]
  | .bkrFbSeen _ => [.ports]
  | .envelopeRunLimit _ => [.regs, .evq, .ports, .trace, .recd]
  | .curlimExitStart _ => [.regs, .ports]
  | .curlimRampComplete _ => [.ports]
  | .curlimTimeout _ => [.regs, .evq, .ports, .trace, .gl, .pair, .stw, .recd, .spur]
  | .pullWindowEnd _ => [.regs, .ports]
  | .dcRangeFault _ => [.ports]
  | .stopRampComplete _ => [.ports]
  | .srsRampComplete _ => [.ports]
  | .setpointTakesEffect _ => [.fcp, .ports, .macs]
  | .commitTakesEffect => [.fresh, .regs, .fcp, .evq, .cle, .ports, .pwm, .coef, .trace, .obs, .adc, .sd, .gl, .pair, .hlp, .fio, .macs, .cap, .recd, .spur]
  | .presetTakesEffect _ => [.fcp, .cle, .macs]
  | .rateChangeEffect => [.fcp, .macs]
  | .swapVerifyComplete => [.regs, .fcp, .coef, .pair, .macs]
  | .swapTakesEffect => [.regs, .fcp, .evq, .cle, .coef, .trace, .obs, .pair, .macs, .recd]
  | .scrubTileCheck _ _ _ => [.regs, .fcp, .evq, .ports, .coef, .trace, .sd, .gl, .pair, .stw, .macs, .recd, .spur]
  | .configTileRewrite _ => [.coef]
  | .hlpTileRewrite _ => [.regs, .coef, .hlp]
  | .frameSlotOpen _ => [.regs, .evq, .ports, .pwm, .trace, .adc, .gl, .pair, .stw, .recd, .spur]
  | .pingSend _ => [.gl]
  | .echoReceived _ _ _ => [.regs, .evq, .ports, .trace, .gl, .pair, .recd]
  | .echoLost _ => [.gl]
  | .paramSend _ _ => [.gl]
  | .statusFrameReceived _ _ => [.regs, .evq, .ports, .trace, .gl, .pair, .recd]
  | .alertReceived _ _ _ => [.regs, .evq, .ports, .trace, .recd]
  | .losChange _ _ => [.regs, .evq, .ports, .trace, .pair, .recd]
  | .lolChange _ _ => [.regs, .evq, .ports, .trace, .pair, .recd]
  | .commaReceived _ _ => [.regs, .gl]
  | .alignmentLoss _ => [.regs, .evq, .ports, .trace, .gl, .pair, .recd]
  | .laneStateChange _ => [.regs, .evq, .trace, .gl, .pair, .recd]
  | .laneStatusTimeout _ => [.regs, .evq, .ports, .trace, .pair, .recd]
  | .laneLostTimeout _ => [.regs, .evq, .trace, .pair, .recd]
  | .gdenReadbackSample _ => [.regs, .evq, .ports, .trace, .gl, .pair, .stw, .recd, .spur]
  | .gdenLowEnd _ => [.regs, .gl, .pair]
  | .gdClearStatusWaitEnd _ => [.regs, .fcp, .gl, .macs]
  | .partnerActChange _ => [.regs, .evq, .trace, .pair, .recd]
  | .actOutReadbackMismatch _ => [.regs, .evq, .ports, .trace, .gl, .pair, .stw, .recd, .spur]
  | .missingRg0Boundary => [.regs, .evq, .trace, .pair, .recd]
  | .sgrInChange _ => [.regs, .evq, .ports, .trace, .gl, .stw, .recd, .spur]
  | .remoteSgrEnd => [.regs]
  | .takeover => [.regs, .evq, .trace, .obs, .gl, .pair, .hlp, .ptp, .recd]
  | .handoverRelease => [.regs, .evq, .trace, .pair, .recd]
  | .scheduledPairChange => [.regs, .cle, .pwm, .gl, .pair]
  | .standbyGdenDrop => [.regs, .pair]
  | .mirrorRecordSend => [.regs, .pair, .hlp]
  | .mirrorBlockReceived _ _ _ => [.regs, .pair]
  | .mirrorRecordApply _ => [.regs, .fcp, .evq, .cle, .ports, .trace, .obs, .pair, .hlp, .tb, .macs, .ptp, .cap, .recd]
  | .creditReceived _ _ _ => [.pair]
  | .standbyStatusSend => [.pair]
  | .standbyStatusReceived _ => [.regs, .fcp, .pair, .macs]
  | .helloReceived _ _ => [.regs, .evq, .trace, .pair, .recd]
  | .mirrorLaneLost _ => [.regs, .evq, .trace, .pair, .recd]
  | .gdenPulseTest _ => [.regs, .evq, .ports, .trace, .gl, .pair, .stw, .recd, .spur]
  | .sdinDemand _ => [.regs, .evq, .ports, .trace, .gl, .pair, .stw, .recd, .spur]
  | .sdinDiscrepancy _ => [.regs, .evq, .ports, .trace, .gl, .pair, .stw, .recd, .spur]
  | .testPulseSlot _ => [.stw]
  | .testPulseCheck _ _ _ => [.regs, .evq, .ports, .trace, .gl, .pair, .stw, .recd, .spur]
  | .safetyDiDemand _ => [.regs, .evq, .ports, .trace, .gl, .pair, .stw, .recd, .spur]
  | .outputOffPulse _ _ _ => [.regs, .evq, .ports, .trace, .gl, .pair, .stw, .fio, .recd, .spur]
  | .pduCopyReceived _ _ _ => [.regs, .evq, .ports, .trace, .gl, .pair, .stw, .recd, .spur]
  | .pduWatchdogExpiry _ _ => [.regs, .evq, .ports, .trace, .gl, .pair, .stw, .recd, .spur]
  | .pduSend _ => [.regs, .stw, .macs]
  | .monitorAdcWindow _ _ => [.regs, .evq, .ports, .trace, .gl, .pair, .stw, .recd, .spur]
  | .monitorCrossCheck _ _ => [.regs, .evq, .ports, .trace, .gl, .pair, .stw, .recd, .spur]
  | .junctionOvertemp _ => [.regs, .evq, .ports, .trace, .gl, .pair, .stw, .recd, .spur]
  | .clockCrossCheck _ => [.regs, .evq, .ports, .trace, .gl, .pair, .stw, .recd, .spur]
  | .islandSupplyFault => Part.cleared
  | .lockstepMismatch => Part.cleared
  | .consecutiveMissLimit => [.regs, .evq, .ports, .trace, .gl, .pair, .stw, .recd, .spur]
  | .timebaseWatchExpiry => [.regs, .evq, .ports, .trace, .gl, .pair, .stw, .recd, .spur]
  | .offPathReadbackFault _ => [.regs, .evq, .ports, .trace, .gl, .pair, .stw, .recd, .spur]
  | .srsRequest => [.regs, .evq, .ports, .trace, .gl, .pair, .stw, .recd, .spur]
  | .srsTimeLimit _ => [.regs, .evq, .ports, .trace, .gl, .pair, .stw, .recd, .spur]
  | .sgrComplete => [.regs]
  | .sgrReadbackTimeout _ => [.regs, .evq, .trace, .recd]
  | .hlpCycleStart => [.regs, .fcp, .evq, .ports, .pwm, .coef, .trace, .gl, .pair, .stw, .hlp, .fio, .macs, .recd, .spur]
  | .hlpExecutionEnd _ => [.regs, .evq, .cle, .ports, .trace, .hlp, .recd]
  | .hlpOverrun => [.regs, .fcp, .evq, .ports, .coef, .trace, .gl, .pair, .stw, .hlp, .fio, .macs, .recd, .spur]
  | .hlpHardLimit => [.regs, .fcp, .evq, .ports, .coef, .trace, .gl, .pair, .stw, .hlp, .fio, .macs, .recd, .spur]
  | .hlpInitLimit => [.regs, .fcp, .evq, .ports, .coef, .trace, .gl, .pair, .stw, .hlp, .fio, .macs, .recd, .spur]
  | .hlpFetchParity => [.regs, .fcp, .evq, .ports, .coef, .trace, .gl, .pair, .stw, .hlp, .fio, .macs, .recd, .spur]
  | .hlpNop => [.hlp]
  | .hlpLd _ => [.hlp]
  | .hlpLdn _ => [.hlp]
  | .hlpAnd _ => [.hlp]
  | .hlpAndn _ => [.hlp]
  | .hlpOr _ => [.hlp]
  | .hlpOrn _ => [.hlp]
  | .hlpXor _ => [.hlp]
  | .hlpPush => [.hlp]
  | .hlpAndp => [.hlp]
  | .hlpOrp => [.hlp]
  | .hlpNot => [.hlp]
  | .hlpEdge _ => [.hlp]
  | .hlpSt _ => [.hlp]
  | .hlpStn _ => [.hlp]
  | .hlpSet _ => [.hlp]
  | .hlpRst _ => [.hlp]
  | .hlpTon _ => [.hlp]
  | .hlpTof _ => [.hlp]
  | .hlpTp _ => [.hlp]
  | .hlpCtu _ => [.hlp]
  | .hlpCtd _ => [.hlp]
  | .hlpCrs _ => [.hlp]
  | .hlpLw _ => [.hlp]
  | .hlpLk _ => [.hlp]
  | .hlpSw _ => [.hlp]
  | .hlpMov _ => [.hlp]
  | .hlpAdd _ => [.hlp]
  | .hlpSub _ => [.hlp]
  | .hlpCeq _ => [.hlp]
  | .hlpCne _ => [.hlp]
  | .hlpClt _ => [.hlp]
  | .hlpCle _ => [.hlp]
  | .hlpCgt _ => [.hlp]
  | .hlpCge _ => [.hlp]
  | .hlpFlt _ => [.hlp]
  | .hlpFgt _ => [.hlp]
  | .hlpJmp _ => [.hlp]
  | .hlpJc _ => [.hlp]
  | .hlpJnc _ => [.hlp]
  | .hlpEnd => [.hlp]
  | .hlpAdcr _ => [.regs, .adc, .hlp]
  | .remoteFrameReceived _ _ => [.regs, .hlp]
  | .remoteTimeout _ => [.regs, .evq, .trace, .recd]
  | .remoteOutputSend _ => [.hlp]
  | .diSample _ => [.regs, .evq, .ports, .trace, .gl, .pair, .stw, .fio, .recd, .spur]
  | .doOverload _ => [.regs, .evq, .ports, .trace, .gl, .pair, .stw, .fio, .recd, .spur]
  | .bankRefresh _ => [.regs, .evq, .ports, .trace, .gl, .pair, .stw, .fio, .recd, .spur]
  | .silenceTimeout => [.regs, .evq, .ports, .trace, .gl, .pair, .stw, .fio, .recd, .spur]
  | .vfieldUvChange _ => [.regs, .evq, .ports, .trace, .gl, .pair, .stw, .fio, .recd, .spur]
  | .vfieldOvChange _ => [.regs, .evq, .ports, .trace, .gl, .pair, .stw, .fio, .recd, .spur]
  | .tpOverload _ => [.regs]
  | .qspiRead _ _ => [.regs, .win, .cle]
  | .qspiWrite _ _ => [.regs, .fcp, .evq, .win, .cle, .pwm, .coef, .trace, .adc, .sd, .gl, .hlp, .fio, .macs, .recd, .spur]
  | .qspiStatus => [.win]
  | .mbDoorbell _ _ => [.regs, .fcp, .macs]
  | .mbCplHeadWrite _ _ => [.regs, .fcp]
  | .cmd _ _ => [.regs, .fcp, .macs]
  | .cplAck _ _ => [.regs, .fcp, .macs]
  | .probe _ => [.regs, .fcp, .macs]
  | .cplResend _ => [.regs, .fcp, .macs]
  | .canSegment _ _ _ => [.regs, .fcp, .macs]
  | .canSegmentGap _ => [.regs, .fcp]
  | .ethernetFrameReceived _ _ => [.regs, .evq, .trace, .macs, .ptp, .recd]
  | .scheduledLaunch _ _ => [.regs, .fcp, .macs, .ptp]
  | .linkChange _ _ _ => [.regs, .evq, .trace, .recd]
  | .txTimestamp _ _ _ _ => [.regs, .evq, .trace, .macs, .ptp, .recd]
  | .timestampDrain _ => [.regs, .macs, .ptp]
  | .ptpServoUpdate => [.fresh, .regs, .evq, .trace, .tb, .ptp, .recd]
  | .holdMaxExpiry => [.regs, .evq, .trace, .ptp, .recd]
  | .datagramClose => [.regs, .cap]
  | .flushComplete => [.regs, .fcp, .macs]
  | .flushTimeout => [.regs, .fcp, .macs, .cap]
  | .eventDrain => [.regs, .evq, .recd]
  | .islandRecordWrite => [.recd]
  | .attReportBuilt => [.fcp, .macs, .boot]
  | .spurSessionStart => [.regs, .evq, .trace, .recd, .spur]
  | .spurSessionStop => [.regs, .evq, .trace, .recd, .spur]
  | .adcUrgWrite _ _ => [.regs, .fcp, .evq, .win, .cle, .pwm, .coef, .trace, .adc, .sd, .gl, .hlp, .fio, .macs, .recd, .spur]
  | .pwmCommitWrite _ _ => [.regs, .fcp, .evq, .win, .cle, .pwm, .coef, .trace, .adc, .sd, .gl, .hlp, .fio, .macs, .recd, .spur]
  | .cmpStaticWrite _ _ => [.regs, .fcp, .evq, .win, .cle, .pwm, .coef, .trace, .adc, .sd, .gl, .hlp, .fio, .macs, .recd, .spur]
  | .crossfireClear _ _ => [.regs, .fcp, .evq, .win, .cle, .pwm, .coef, .trace, .adc, .sd, .gl, .hlp, .fio, .macs, .recd, .spur]
  | .trippedClear _ _ => [.regs, .fcp, .evq, .win, .cle, .pwm, .coef, .trace, .adc, .sd, .gl, .hlp, .fio, .macs, .recd, .spur]
  | .dlCtrlWrite _ _ => [.regs, .fcp, .evq, .win, .cle, .pwm, .coef, .trace, .adc, .sd, .gl, .hlp, .fio, .macs, .recd, .spur]
  | .laneSlipWrite _ _ => [.regs, .fcp, .evq, .win, .cle, .pwm, .coef, .trace, .adc, .sd, .gl, .hlp, .fio, .macs, .recd, .spur]
  | .wselWrite _ _ => [.regs, .fcp, .evq, .win, .cle, .pwm, .coef, .trace, .adc, .sd, .gl, .hlp, .fio, .macs, .recd, .spur]
  | .resStatRead _ => [.regs, .win, .cle]
  | .snapPnumLoRead _ => [.regs, .win, .cle]
  | .obsBinSelWrite _ _ => [.regs, .fcp, .evq, .win, .cle, .pwm, .coef, .trace, .adc, .sd, .gl, .hlp, .fio, .macs, .recd, .spur]
  | .highWordLatchRead _ _ => [.regs, .win, .cle]
  | .spurCtrlWrite _ _ => [.regs, .fcp, .evq, .win, .cle, .pwm, .coef, .trace, .adc, .sd, .gl, .hlp, .fio, .macs, .recd, .spur]
  | .spurInjGo _ _ => [.regs, .fcp, .evq, .win, .cle, .pwm, .coef, .trace, .adc, .sd, .gl, .hlp, .fio, .macs, .recd, .spur]
  | .registerWrite _ _ _ => [.regs, .fcp, .evq, .win, .cle, .pwm, .coef, .trace, .adc, .sd, .gl, .hlp, .fio, .macs, .recd, .spur]
  | .cfgStage _ => [.fcp, .macs]
  | .cfgCommit _ => [.fcp, .macs]
  | .cfgDiscard _ => [.fcp, .macs]
  | .coefWrite _ => [.regs, .fcp, .coef, .macs]
  | .coefCopy _ => [.regs, .fcp, .coef, .macs]
  | .coefSwap _ => [.regs, .fcp, .macs]
  | .ctxPreset _ => [.fcp, .macs]
  | .sdSync _ => [.fcp, .macs]
  | .runGo _ => [.regs, .fcp, .macs]
  | .runStall _ => [.regs, .fcp, .macs]
  | .gait _ => [.regs, .fcp, .macs, .clk]
  | .rate _ => [.fcp, .cle, .pwm, .pair, .macs]
  | .portArm _ => [.fcp, .ports, .macs]
  | .portDisarm _ => [.fcp, .ports, .macs]
  | .portStart _ => [.fcp, .ports, .macs]
  | .portStop _ => [.fcp, .ports, .macs]
  | .portClear _ => [.fcp, .ports, .macs]
  | .reclosePrep _ => [.fcp, .ports, .macs]
  | .recloseEnd _ => [.fcp, .ports, .macs]
  | .gdClear _ => [.regs, .fcp, .gl, .pair, .macs]
  | .spAc _ => [.fcp, .macs]
  | .spDc _ => [.fcp, .macs]
  | .spSlew _ => [.fcp, .macs]
  | .qResult _ => [.fcp, .macs]
  | .qCtx _ => [.fcp, .macs]
  | .qPort _ => [.fcp, .macs]
  | .qObs _ => [.fcp, .macs]
  | .qReg _ => [.regs, .fcp, .win, .cle, .macs]
  | .qEvents _ => [.fcp, .macs]
  | .trArm _ => [.regs, .fcp, .trace, .macs]
  | .trTrig _ => [.regs, .fcp, .trace, .macs]
  | .trStop _ => [.regs, .fcp, .trace, .macs]
  | .trRead _ => [.fcp, .trace, .macs]
  | .capCfg _ => [.regs, .fcp, .macs, .cap]
  | .capStart _ => [.regs, .fcp, .macs, .cap]
  | .capStop _ => [.fcp, .macs, .cap]
  | .capHistCfg _ => [.regs, .fcp, .macs, .cap]
  | .capHistRead _ => [.fcp, .macs]
  | .capPmapCfg _ => [.fcp, .macs, .cap]
  | .capPmapRead _ => [.fcp, .macs]
  | .updBegin _ _ => [.fcp, .macs, .boot]
  | .updWrite _ _ => [.fcp, .macs, .boot]
  | .updVerify _ => [.fcp, .macs, .boot]
  | .updActivate _ _ => Part.cleared
  | .updRestart _ => [.regs, .fcp, .cle, .ports, .coef, .pair, .macs, .ptp, .cap, .recd, .boot]
  | .updSvn _ => [.regs, .fcp, .macs, .boot]
  | .updInfo _ => [.fcp, .macs]
  | .safArm _ => [.fresh, .fcp, .macs]
  | .safDisarm _ => [.fresh, .fcp, .macs]
  | .safReset _ => [.fresh, .fcp, .macs]
  | .safCfgStage _ => [.fcp, .stw, .macs]
  | .safCfgCommit _ => [.fresh, .fcp, .macs]
  | .safCfgRead _ => [.fcp, .macs]
  | .safConfirm _ _ => [.regs, .fcp, .evq, .coef, .trace, .gl, .stw, .fio, .macs, .recd, .spur]
  | .safConfirmTimeout => [.fcp]
  | .pairActivate _ => [.fcp, .pair, .macs]
  | .pairHandover _ => [.fcp, .pair, .macs]
  | .hlpLoad _ => [.fcp, .hlp, .macs]
  | .hlpLoadDone _ => [.regs, .fcp, .coef, .hlp, .macs]
  | .hlpStart _ => [.regs, .fcp, .evq, .pwm, .trace, .hlp, .macs, .recd]
  | .hlpStop _ => [.fcp, .macs]
  | .hlpMode _ => [.fcp, .macs]
  | .hlpOlc _ => [.regs, .fcp, .hlp, .macs]
  | .tbRead _ => [.fcp, .macs]
  | .tbSet _ => [.regs, .fcp, .evq, .trace, .tb, .macs, .ptp, .recd]
  | .tbAdj _ => [.regs, .fcp, .evq, .trace, .tb, .macs, .ptp, .recd]
  | .ptpCfg _ => [.regs, .fcp, .evq, .trace, .macs, .ptp, .recd]
  | .attReport _ => [.fcp, .macs, .boot]
  | .attRead _ => [.fcp, .macs]
  | .attIdentity _ => [.fcp, .macs]
  | .comparatorOutputFall _ _ => [.regs, .pwm, .adc]
  | .tripPinInactive _ => [.regs, .pwm]
  | .sdinReturnHigh _ => [.regs, .stw]
  | .bankPresenceChange _ _ => [.regs, .clk]
  | .busOff _ => [.regs, .fcp, .evq, .ports, .pwm, .coef, .trace, .gl, .pair, .stw, .hlp, .fio, .macs, .cap, .recd, .spur, .boot]
  | .optionSectorWrite _ => [.boot]
  | .revocationBurn _ _ => [.boot]
  | .deliveredEdge _ _ _ _ => [.regs, .pwm]
  | .portReload _ => [.regs, .evq, .ports, .pwm, .trace, .obs, .adc, .gl, .pair, .stw, .recd, .spur]
  | .announceReceiptTimeout _ => [.regs, .evq, .trace, .ptp, .recd]
  | .singleBitError _ => [.regs]

end Sys2Proof.Machine
end

