-- ==== Sys2Proof/Certificates/Slice0/Obligations.lean ====
section
/-! DEFINITION. The statements about the block, one `def Obligations.<Name> : Prop` each.
A completion statement has the conclusion that exec answers a next state, for every state and operands that meet its hypotheses; `Only`
and `RegsBut` say what the command leaves as it was. -/

section Statements

open Sys2Proof Sys2Proof.Machine

/-- MB_DOORBELL (R385): with its mailbox idle, a command in the window that Table 13.2 admits is taken, and REFUSE reads 0. MB_CPL_HEAD
(R386): the n completions that HEAD passes leave their ring, for n from 1 to CPL_PEND. CMD (R389): a command with the expected CSEQ that
Table 13.2 admits, of a bound host (R387), is taken, CSEQ advances by 1 and an ADMIT is sent. From a source other than the bound host it is
dropped and counted; with its clock stopped a mailbox hears nothing (R469). CPL_ACK (R390): the completion with its tag leaves its ring. PROBE
(R390): a NOTICE with the epoch, the mailbox's state and its credits is sent. CPL_RESEND (R390): a posted completion is sent again and
counted. CAN_SEGMENT (R391, R392): a message of one segment is acted on; the first segment of more is kept, a segment in its turn is added
to it and the last one completes the message; one out of turn discards the message and is counted; a classical frame is counted.
CAN_SEGMENT_GAP (R392): an incomplete message is discarded and counted. -/
def Obligations.MailboxCommandsComplete : Prop :=
  (∀ (s : State) (mb : Fin 4) (value : Word), s.access 0 (mbBase mb) true = 0 → value.toNat % 2 = 1 → vget s.fcp.busy mb.val = false →
      s.svpClock = true → (vget s.fcp.boxes mb.val).isOpen = true →
      s.admitCode mb (s.mbBytes (mbBase mb + 0x40) 64) (s.mbBytes (mbBase mb + 0x80) (min 1024 (leAt (s.mbBytes (mbBase mb + 0x40) 64) 4 2))) = 0 →
      exec (.mbDoorbell mb value) s = .next ((s.box mb fun b => { b with refuse := 0 }).takeCmd mb (s.mbBytes (mbBase mb + 0x40) 64)
        (s.mbBytes (mbBase mb + 0x80) (min 1024 (leAt (s.mbBytes (mbBase mb + 0x40) 64) 4 2))))) ∧
  (∀ (s : State) (mb : Fin 4) (value : Word) (n : Nat), s.access 0 (mbBase mb + 8) true = 0 →
      n = (value.toNat % 16 + 16 - (vget s.fcp.boxes mb.val).head) % 16 → 1 ≤ n → n ≤ (vget s.fcp.boxes mb.val).posted.length →
      exec (.mbCplHeadWrite mb value) s = .next (s.box mb fun b => { b with
        head := value.toNat % 16, posted := b.posted.drop n })) ∧
  (∀ (s : State) (mb : Fin 4) (bytes : List Byte), leAt bytes 0 1 = 1 → leAt bytes 1 1 = 4 + mb.val → s.mbHears (4 + mb) = true →
      s.hostBound (4 + mb) = true → (vget s.fcp.boxes (4 + mb.val)).isOpen = true → leAt bytes 2 2 = s.fld F.FCP_EPOCH_ALL 0 → leAt bytes 4 2 < 65536 →
      (vget s.fcp.boxes (4 + mb.val)).cseq = leAt bytes 4 2 →
      s.admitCode (4 + mb) (slice bytes 8 64) ((bytes.drop 72).take (leAt (slice bytes 8 64) 4 2)) = 0 →
      ∃ t, t = s.takeCmd (4 + mb) (slice bytes 8 64) ((bytes.drop 72).take (leAt (slice bytes 8 64) 4 2)) ∧
        exec (.cmd mb bytes) s = .next ((t.box (4 + mb) fun b => { b with
          cseq := (b.cseq + 1) % 65536, admits := ((0, t.credits (4 + mb)) :: b.admits).take 16 }).sendAdmit (4 + mb) (leAt bytes 4 2) 0)) ∧
  (∀ (s : State) (mb : Fin 4) (bytes : List Byte), leAt bytes 0 1 = 4 → leAt bytes 1 1 = 4 + mb.val → s.mbHears (4 + mb) = true →
      s.hostBound (4 + mb) = true → exec (.cplAck mb bytes) s = .next (s.box (4 + mb) fun b => { b with posted := b.posted.filter fun p => p.tag != leAt bytes 4 1 })) ∧
  (∀ (s : State) (mb : Fin 4), s.mbHears (4 + mb) = true → s.hostBound (4 + mb) = true →
      exec (.probe mb) s = .next (s.emit (4 + mb)
        (transport 5 (4 + mb) (s.fld F.FCP_EPOCH_ALL 0) 0 (s.credits (4 + mb)) (b2n (vget s.fcp.boxes (4 + mb.val)).isOpen) []))) ∧
  (∀ (s : State) (tag : Fin 128) (p : Posted), 64 ≤ tag.val → s.svpRuns = true →
      (vget s.fcp.boxes (tag.val / 16)).posted.find? (fun x => x.tag == tag.val) = some p →
      exec (.cplResend tag) s = .next ((s.emit (tag / 16) (transport 3 (tag / 16) (s.fld F.FCP_EPOCH_ALL 0) p.tag (s.credits (tag / 16)) 0
        (p.header ++ p.payload))).count F.MB_STAT_RESEND_CNT (tag / 16))) ∧
  (∀ (s : State) (can : Fin 2) (bytes : List Byte), leAt bytes 0 1 = 0 → leAt bytes 1 1 = 1 → (vget s.fcp.boxes (6 + can.val)).segCount = 0 →
      (vget s.fcp.boxes (6 + can.val)).segNext = 0 → (vget s.fcp.boxes (6 + can.val)).segBytes = [] →
      exec (.canSegment can true bytes) s = .next ((s.box (6 + can) fun b => { b with segBytes := [], segNext := 0, segCount := 0 }).message
        (6 + can) (((bytes.drop 2).take 62).take (messageLength ((bytes.drop 2).take 62))))) ∧
  (∀ (s : State) (can : Fin 2), (vget s.fcp.boxes (6 + can.val)).segCount ≠ 0 →
      exec (.canSegmentGap can) s = .next ((s.box (6 + can) fun b => { b with segBytes := [], segNext := 0, segCount := 0 }).count
        F.MB_STAT_SRC_CNT (6 + can))) ∧
  (∀ (s : State) (can : Fin 2) (bytes : List Byte), leAt bytes 0 1 = 0 → 2 ≤ leAt bytes 1 1 → (vget s.fcp.boxes (6 + can.val)).segCount = 0 →
      (vget s.fcp.boxes (6 + can.val)).segNext = 0 → (vget s.fcp.boxes (6 + can.val)).segBytes = [] →
      exec (.canSegment can true bytes) s = .next (s.box (6 + can) fun b =>
        { b with segBytes := (bytes.drop 2).take 62, segNext := 1, segCount := leAt bytes 1 1 })) ∧
  (∀ (s : State) (can : Fin 2) (bytes : List Byte) (b : Mailbox), b = vget s.fcp.boxes (6 + can.val) → 0 < b.segNext →
      leAt bytes 0 1 = b.segNext → leAt bytes 1 1 = b.segCount → b.segCount ≠ 0 → b.segNext + 1 ≠ b.segCount →
      exec (.canSegment can true bytes) s = .next (s.box (6 + can) fun b =>
        { b with segBytes := b.segBytes ++ (bytes.drop 2).take 62, segNext := b.segNext + 1 })) ∧
  (∀ (s : State) (can : Fin 2) (bytes all : List Byte) (b : Mailbox), b = vget s.fcp.boxes (6 + can.val) → 0 < b.segNext →
      leAt bytes 0 1 = b.segNext → leAt bytes 1 1 = b.segCount → b.segCount ≠ 0 → b.segNext + 1 = b.segCount →
      all = b.segBytes ++ (bytes.drop 2).take 62 →
      exec (.canSegment can true bytes) s = .next ((s.box (6 + can) fun b => { b with segBytes := [], segNext := 0, segCount := 0 }).message
        (6 + can) (all.take (messageLength all)))) ∧
  (∀ (s : State) (can : Fin 2) (bytes : List Byte) (b : Mailbox), b = vget s.fcp.boxes (6 + can.val) → leAt bytes 0 1 ≠ 0 →
      b.segCount = 0 ∨ leAt bytes 0 1 ≠ b.segNext ∨ leAt bytes 1 1 ≠ b.segCount →
      exec (.canSegment can true bytes) s = .next ((s.box (6 + can) fun b => { b with segBytes := [], segNext := 0, segCount := 0 }).count
        F.MB_STAT_SRC_CNT (6 + can))) ∧
  (∀ (s : State) (can : Fin 2) (bytes : List Byte), exec (.canSegment can false bytes) s = .next (s.count F.MB_STAT_SRC_CNT (6 + can))) ∧
  (∀ (s : State) (mb : Fin 4) (bytes : List Byte), s.mbHears (4 + mb) = true → s.hostBound (4 + mb) = false →
      s.message (4 + mb) bytes = s.count F.MB_STAT_SRC_CNT (4 + mb)) ∧
  (∀ (s : State) (mb : Fin 4) (bytes : List Byte), s.mbHears (4 + mb) = false → s.message (4 + mb) bytes = s)

/-- TR_ARM (R122, R405): a channel whose copy is not being made, and which is not live or keeps its TRACE_CFG, is armed with the settings of
the command and an empty buffer. TR_TRIG: an armed channel with TRIG_SRC 0 is triggered. TR_STOP: a live channel becomes IDLE and keeps its
samples; one that is not live stays as it is. TR_READ: a channel that holds samples is copied first and the command waits, as it does while
the copy is being made; else it answers with the samples asked for. At the end of the copy the channel is IDLE and its samples are the copy
(R123). -/
def Obligations.TraceCommandsComplete : Prop :=
  (∀ (s : State) (tag : Fin 128) (e : Entry), s.Serves 0x0501 tag e → e.a 0 < 8 → trArgsOk (e.af 4) (e.af 8) = true →
      (s.tr (e.a 0)).copying = false → (s.trLive (e.a 0) = true → s.reg R.TRACE_CFG (e.a 0) = e.af 4) →
      ∃ t, exec (.trArm tag) s = .next t ∧ t.trState (e.a 0) = 1 ∧ t.reg R.TRACE_CFG (e.a 0) = e.af 4 ∧
        t.reg R.TRACE_LEVEL (e.a 0) = e.af 12 ∧ t.tr (e.a 0) = {} ∧ t.Answered tag FS.FS_OK [] []) ∧
  (∀ (s : State) (tag : Fin 128) (e : Entry), s.Serves 0x0502 tag e → e.a 0 < 8 → s.trState (e.a 0) = 1 →
      s.fld F.TRACE_CTL_TRIG_SRC (e.a 0) = 0 →
      ∃ t, exec (.trTrig tag) s = .next t ∧ t.trState (e.a 0) = 2 ∧ (t.tr (e.a 0)).trigAt = some (s.tr (e.a 0)).total ∧
        (t.tr (e.a 0)).buf = (s.tr (e.a 0)).buf ∧ s.RegsBut t [(F.TRACE_CTL_STATE, e.a 0)] ∧ t.Answered tag FS.FS_OK [] []) ∧
  (∀ (s : State) (tag : Fin 128) (e : Entry), s.Serves 0x0503 tag e → e.a 0 < 8 → s.trLive (e.a 0) = true →
      ∃ t, exec (.trStop tag) s = .next t ∧ t.trState (e.a 0) = 0 ∧ (t.tr (e.a 0)).buf = (s.tr (e.a 0)).buf ∧
        s.RegsBut t [(F.TRACE_CTL_STATE, e.a 0)] ∧ t.Answered tag FS.FS_OK [] []) ∧
  (∀ (s : State) (tag : Fin 128) (e : Entry), s.Serves 0x0504 tag e → e.a 0 < 8 → 1 ≤ e.a16 8 → e.a16 8 ≤ 256 → s.trLive (e.a 0) = false →
      e.a32 4 + e.a16 8 ≤ s.trCount (e.a 0) →
      ∃ t, exec (.trRead tag) s = .next t ∧
        ((s.tr (e.a 0)).copying = true → s.Waits t tag ∧ s.Only t [.fcp]) ∧
        ((s.tr (e.a 0)).copying = false → s.trHolds (e.a 0) = true → s.Waits t tag ∧ (t.tr (e.a 0)).copying = true) ∧
        ((s.tr (e.a 0)).copying = false → s.trHolds (e.a 0) = false → t.Answered tag FS.FS_OK
          (leBytes 8 (s.tr (e.a 0)).copyP ++ timeBytes (s.tr (e.a 0)).copyT ++ leBytes 2 (s.tr (e.a 0)).copyTrig)
          (((((s.tr (e.a 0)).copy.getD []).drop (e.a32 4)).take (e.a16 8)).flatMap fun w => leBytes 4 w.toNat))) ∧
  (∀ (s : State) (ch : Fin 8), s.Canon → (s.tr ch).copying = true →
      ∃ t, exec (.traceCopyComplete ch) s = .next t ∧ t.trState ch = 0 ∧ (t.tr ch).copy = some (s.tr ch).buf ∧
        (t.tr ch).copying = false ∧ s.RegsBut t [(F.TRACE_CTL_STATE, ch)]) ∧
  (∀ (s : State) (tag : Fin 128) (e : Entry), s.Serves 0x0503 tag e → e.a 0 < 8 → s.trLive (e.a 0) = false →
      ∃ t, exec (.trStop tag) s = .next t ∧ t.Answered tag FS.FS_OK [] [] ∧ s.Only t [.fcp, .macs])

/-- HOLD_EDGE (R151, R152, R158, R159, R161): on a core whose offset is calibrated, a due instant within the period starts the conversion of
its input; while the core converts, or with the instant outside the period, it is missed, counted and posted, and a CLE entry's AIN_SAMP
shows it. URGENT_HOLD_EDGE (R163): on a core that does not convert, the conversion of the accepted request starts. CONVERSION_COMPLETE
(R152, R156): the value is delivered, the core is free, and a free-running conversion follows where it may; on a core that does not convert,
only that one may start. REF_FAULT and REF_FAULT_CLEAR (R149): the fault of the external reference is shown, posted and raises cause 0x16,
and is over. OFFSET_CALIBRATION_DONE (R151): CAL_DONE is set. -/
def Obligations.AdcCommandsComplete : Prop :=
  (∀ (s : State) (core : Fin 24) (entry : Fin 8) (nv : Int) (i n : Nat), s.Canon → s.gait ≠ Gait.paddock → s.seqDue core entry = true →
      s.genHeld = false → s.clkOk 5 = true → s.flag F.ADC_STATUS_CAL_DONE 0 = true → (s.core core).conv = none → 0 ≤ s.seqAt core entry →
      s.seqAt core entry < s.fineP → i = s.seq F.ADC_SEQ_INPUT core entry → n = s.seq F.ADC_SEQ_INT core entry →
      ∃ t, exec (.holdEdge core entry nv) s = .next t ∧ (t.core core).conv = some {
        input := i, int := n, src := 0, cle := s.seq F.ADC_SEQ_CLE core entry == 1, code := if i = 2 then internalCode n nv else codeOf nv
        ovr := i != 2 && ovrOf (ainOf core i n) nv, startup := s.gait == Gait.walk, pnum := s.pwm.pnum
        ofs := s.now - s.pwm.tk, ends := s.now + s.tConv } ∧ t.flag F.ADC_CORE_STAT_BUSY core = true) ∧
  (∀ (s : State) (core : Fin 24) (entry : Fin 8) (nv : Int), s.Canon → s.gait ≠ Gait.paddock → s.seqDue core entry = true →
      s.genHeld = false → s.clkOk 5 = true → s.flag F.ADC_STATUS_CAL_DONE 0 = true →
      (s.core core).conv.isSome = true ∨ s.seqAt core entry < 0 ∨ s.fineP ≤ s.seqAt core entry →
      ∃ t, exec (.holdEdge core entry nv) s = .next t ∧ s.Told t EV.EV_ADC_SEQ_MISS core entry ∧ s.Only t [.regs, .evq, .trace, .recd] ∧
        t.fld F.ADC_CORE_STAT_SEQ_MISS core = satAdd (s.fld F.ADC_CORE_STAT_SEQ_MISS core) 1
          (2 ^ (F.ADC_CORE_STAT_SEQ_MISS.hi + 1 - F.ADC_CORE_STAT_SEQ_MISS.lo) - 1) ∧
        (s.seq F.ADC_SEQ_CLE core entry = 0 → s.RegsBut t ((F.ADC_CORE_STAT_SEQ_MISS, core.val) :: evqFlds)) ∧
        (s.seq F.ADC_SEQ_CLE core entry = 1 →
          t.flag F.AIN_SAMP_MISSED (ainOf core (s.seq F.ADC_SEQ_INPUT core entry) (s.seq F.ADC_SEQ_INT core entry)) = true)) ∧
  (∀ (s : State) (core : Fin 24) (nv : Int) (u : Urgent), (s.core core).urg = some u → (s.core core).conv = none →
      s.clkOk 5 = true →
      ∃ t, exec (.urgentHoldEdge core nv) s = .next t ∧ (t.core core).urg = none ∧ (t.core core).conv = some {
        input := u.input, int := u.int, src := 1, cle := false, code := if u.input = 2 then internalCode u.int nv else codeOf nv
        ovr := u.input != 2 && ovrOf (ainOf core u.input u.int) nv, startup := s.gait == Gait.walk, pnum := s.pwm.pnum
        ofs := s.now - s.pwm.tk, ends := s.now + s.tConv }) ∧
  (∀ (s : State), s.Canon → s.flag F.ADC_STATUS_REF_EXT 0 = true → s.flag F.ADC_STATUS_REF_FAULT 0 = false →
      exec .refFault s = .next ((((s.setFlag F.ADC_STATUS_REF_FAULT 0 true).post EV.EV_ADC_REF noUnit 0).setActive Cause.analogRef true).cause
        Cause.analogRef)) ∧
  (∀ s : State, exec .refFaultClear s = .next ((s.setFlag F.ADC_STATUS_REF_FAULT 0 false).setActive Cause.analogRef false)) ∧
  (∀ s : State, s.Canon → ∃ t, exec .offsetCalibrationDone s = .next t ∧ t.flag F.ADC_STATUS_CAL_DONE 0 = true ∧
      s.RegsBut t [(F.ADC_STATUS_CAL_DONE, 0)] ∧ s.Only t [.regs]) ∧
  (∀ (s : State) (core : Fin 24) (nv : Int) (v : Conv), (s.core core).conv = some v →
      exec (.conversionComplete core nv) s = .next (((((s.deliver core v).modCore core fun k => { k with conv := none }).coreStat core).freeRun
        core nv).capFree (ainOf core v.input v.int) v)) ∧
  (∀ (s : State) (core : Fin 24) (nv : Int), (s.core core).conv = none → exec (.conversionComplete core nv) s = .next (s.freeRun core nv))

/-- DL_CALIBRATION (R198, R199): CAL_CODE steps to the measurement within the bounds, CAL_SAT shows that a bound holds it, LOCK sets at the
sixteenth measurement within 1 of equality and clears, with its event, at the sixteenth outside. CARRIER_EVENT (R230, R231): in the PWM
clock of the source instant the prescaler counts, and at PRESC it starts again and the event goes to every destination enabled.
DELIVERED_EDGE (R225): an edge that the output shows and that has not been shown yet opens the blanking windows of the timers on the leg. -/
def Obligations.PwmEdgeCommandsComplete : Prop :=
  (∀ (s : State) (equal : Fin 1024) (c : Nat × Bool) (d : Nat), s.Canon → s.gait ≠ Gait.paddock → d = s.fld F.DL_STAT_DL_CODE 0 →
      c = calStep (s.fld F.DL_STAT_CAL_CODE 0) equal (s.fld F.DL_CTRL_CODE_LO 0) (s.fld F.DL_CTRL_CODE_HI 0) →
      ∃ t, exec (.dlCalibration equal) s = .next t ∧
        t.fld F.DL_STAT_CAL_CODE 0 = c.1 % 2 ^ (F.DL_STAT_CAL_CODE.hi + 1 - F.DL_STAT_CAL_CODE.lo) ∧ t.flag F.DL_STAT_CAL_SAT 0 = c.2 ∧
        (d ≤ equal.val + 1 → equal.val ≤ d + 1 → 15 ≤ s.pwm.calIn → t.flag F.DL_STAT_LOCK 0 = true) ∧
        (d ≤ equal.val + 1 → equal.val ≤ d + 1 → s.pwm.calIn < 15 → t.flag F.DL_STAT_LOCK 0 = s.flag F.DL_STAT_LOCK 0) ∧
        (equal.val + 1 < d ∨ d + 1 < equal.val → 15 ≤ s.pwm.calOut → t.flag F.DL_STAT_LOCK 0 = false) ∧
        (equal.val + 1 < d ∨ d + 1 < equal.val → s.pwm.calOut < 15 → t.flag F.DL_STAT_LOCK 0 = s.flag F.DL_STAT_LOCK 0) ∧
        (equal.val + 1 < d ∨ d + 1 < equal.val → 15 ≤ s.pwm.calOut → s.flag F.DL_STAT_LOCK 0 = true → s.Told t EV.EV_DL_UNLOCK noUnit d)) ∧
  (∀ (s : State) (leg : Fin 48), s.eventAt leg ((s.now - s.pwm.tk) / 32) = true → s.pwm.frozenAt = none → s.pwm.first = false →
      s.gait ≠ Gait.paddock → (s.leg leg).presc < s.fld F.LEG_EVT_PRESC leg →
      exec (.carrierEvent leg) s = .next (s.modLeg leg fun l => { l with presc := (s.leg leg).presc + 1 })) ∧
  (∀ (s : State) (leg : Fin 48), s.Canon → s.eventAt leg ((s.now - s.pwm.tk) / 32) = true → s.pwm.frozenAt = none → s.pwm.first = false →
      s.gait ≠ Gait.paddock → s.fld F.LEG_EVT_PRESC leg ≤ (s.leg leg).presc →
      ∃ t, exec (.carrierEvent leg) s = .next t ∧ (t.leg leg).presc = 0 ∧
        (s.flag F.LEG_EVT_D_ADC leg = true → t.adc = (s.urgent (s.fld F.LEG_EVT_ADC_CORE leg) (s.fld F.LEG_EVT_ADC_INPUT leg)
          (s.fld F.LEG_EVT_ADC_INT leg) 0).adc) ∧
        (s.flag F.LEG_EVT_D_HLP leg = true → (t.leg leg).evLatch = true) ∧ (s.flag F.LEG_EVT_D_CAP leg = true → t.pwm.capTrig.isSome = true) ∧
        (s.flag F.LEG_EVT_D_EVQ leg = true → s.Told t EV.EV_PWM_TICK leg 0) ∧
        (s.flag F.LEG_EVT_D_ADC leg = false → s.RegsBut t evqFlds)) ∧
  (∀ (s : State) (leg : Fin 48) (top on : Bool) (instant : Nat) (t : State), s.clkOk 4 = true → s.pwm.frozenAt = none →
      t = s.takeEdges leg (min instant s.fineP) → t.outLevel leg top = on → (if top then (s.leg leg).seenTop else (s.leg leg).seenBot) ≠ on →
      exec (.deliveredEdge leg top on instant) s = .next ((t.modLeg leg fun l =>
        if top then { l with seenTop := on } else { l with seenBot := on }).openBlanking fun w =>
          s.fld (F.WT_CFG_TRIG.nth w) 0 == 2 && s.fld (F.WT_CFG_LEG.nth w) 0 == leg.val))

/-- COMPARATOR_CROSSING (R171, R175): on a live comparator whose output is low, V_diff beyond the threshold raises the output, latches and
counts it, acts unless it is masked, and reaches the trip group. COMPARATOR_OUTPUT_FALL (R171): V_diff back through the threshold less the
hysteresis lowers the output. TRIP_PIN_ACTIVE and TRIP_PIN_INACTIVE (R224): the pin becomes a source of the groups it feeds, and is latched;
and ceases to be one. TRIP_GROUP_TRIP (R227): the first active source of a group that is not TRIPPED trips it. BLANKING_CLOSE (R226): the
window closes, and the comparator outputs that only it masked and that are still active act. -/
def Obligations.TripCommandsComplete : Prop :=
  (∀ (s : State) (ain : Fin 48) (upper : Bool) (nv : Int), (s.setVin ain nv).cmpLive ain = true → (s.setVin ain nv).beyond ain upper nv = true →
      (s.setVin ain nv).flag (outOf upper) ain = false →
      ∃ u, u = (((s.setVin ain nv).setFlag (outOf upper) ain true).setFlag
          (if upper then F.CMP_STAT_LAT_HI else F.CMP_STAT_LAT_LO) ain true).count (if upper then F.CMP_CNT_HI_CNT else F.CMP_CNT_LO_CNT) ain ∧
        exec (.comparatorCrossing ain ⟨upper, nv⟩) s = .next (if u.masked ain upper then u else u.crossingActs ain upper).refreshGroups) ∧
  (∀ (s : State) (ain : Fin 48) (upper : Bool) (nv : Int), (s.setVin ain nv).cmpLive ain = true →
      (s.setVin ain nv).passedBack ain upper nv = true →
      exec (.comparatorOutputFall ain ⟨upper, nv⟩) s = .next ((s.setVin ain nv).setFlag (outOf upper) ain false).refreshGroups) ∧
  (∀ (s : State) (pin : Fin 8), exec (.tripPinActive pin) s = .next (s.modPwm fun w => { w with
      pins := if bitOf s.pwm.pins pin then s.pwm.pins else s.pwm.pins + 2 ^ pin.val
      caught := w.caught.filter (·.1 != pin.val) ++ [(pin.val, s.now)] }).refreshGroups) ∧
  (∀ (s : State) (pin : Fin 8), bitOf s.pwm.pins pin = true →
      exec (.tripPinInactive pin) s = .next (s.modPwm fun w => { w with pins := s.pwm.pins - 2 ^ pin.val }).refreshGroups) ∧
  (∀ (s : State) (grp : Fin 8) (src : Nat) (l : List Nat), vget s.pwm.srcs grp.val ++ s.caughtPins grp = src :: l →
      s.flag F.TG_STAT_TRIPPED grp = false → s.clkOk 4 = true → exec (.tripGroupTrip grp) s = .next (s.trip grp src)) ∧
  (∀ (s : State) (wt : Fin 8), bitOf s.pwm.blank wt = true →
      exec (.blankingClose wt) s = .next ((s.modPwm fun p => { p with blank := p.blank - 2 ^ wt.val }).forUnits 48 fun t n =>
        [true, false].foldl (fun u upper => u.cond (s.masked n upper && !u.masked n upper && u.flag (outOf upper) n) fun v =>
          v.crossingActs n upper) t).refreshGroups)

/-- SD_CLOCK_LOSS and SD_CLOCK_FREQ (R178, R191): outside Paddock, a group whose clock is lost, or off its frequency in receive mode, has
the flag set on its enabled inputs and the event posted at the rising edge. SD_CLOCK_CLEAR (R191): the flags of its enabled inputs clear and
those inputs restart. DECIMATED_OUTPUT (R180, R190): a block of M bits of an enabled input gives the next output; a step is counted.
RESAMPLE_DELIVERY (R186): an enabled input delivers. SDSYNC_ACCEPT (R188, R189): every enabled input restarts, or, while an input is in use
and PIN_FORCE is 0, the edge is ignored, counted and posted. PROFILE_TILE_REWRITE (R185): the tile holds its profile again and is no longer
bad. SD_SYNC (R188, R189): the command waits for its boundary. -/
def Obligations.SigmaDeltaCommandsComplete : Prop :=
  (∀ (s : State) (grp : Fin 8) (i : Nat), s.Canon → s.gait ≠ Gait.paddock → i < 32 → s.flag F.SD_CFG_EN i = true → s.fld F.SD_CFG_GRP i = grp →
      s.flag F.SD_STAT_CLK_LOSS i = false →
      ∃ t n, exec (.sdClockLoss grp) s = .next t ∧ s.Told t EV.EV_SD_CLK grp n ∧ n % 2 = 1 ∧ t.flag F.SD_STAT_CLK_LOSS i = true) ∧
  (∀ (s : State) (grp : Fin 8) (i : Nat), s.Canon → s.gait ≠ Gait.paddock → i < 32 → s.flag F.SD_CFG_EN i = true → s.fld F.SD_CFG_GRP i = grp →
      s.flag F.SD_STAT_CLK_FREQ i = false → s.fld (F.SD_GRP_MODE.nth grp) 0 ≠ 1 →
      ∃ t n, exec (.sdClockFreq grp) s = .next t ∧ s.Told t EV.EV_SD_CLK grp n ∧ 2 ≤ n ∧ t.flag F.SD_STAT_CLK_FREQ i = true) ∧
  (∀ (s : State) (grp : Fin 8), s.gait ≠ Gait.paddock → exec (.sdClockClear grp) s = .next (s.forUnits 32 fun t i =>
      if t.flag F.SD_CFG_EN i && t.fld F.SD_CFG_GRP i == grp.val && t.sdClkErr i then
        ((t.setFlag F.SD_STAT_CLK_LOSS i false).setFlag F.SD_STAT_CLK_FREQ i false).sdRestart (s.sdNext grp) i else t)) ∧
  (∀ (s : State) (inp : Fin 32) (bits all : List Bool) (y : Int), s.Canon → s.flag F.SD_CFG_EN inp = true → s.gait ≠ Gait.paddock →
      s.sdClkErr inp = false → bits.length = s.sdM inp → all = bits.reverse ++ (s.sdIn inp).bits → y = sincOut (s.sdM inp) (s.sdN inp) all →
      ∃ t, exec (.decimatedOutput inp bits) s = .next t ∧ (t.sdIn inp).n = (s.sdIn inp).n + 1 ∧
        (t.sdIn inp).outs = (y :: (s.sdIn inp).outs).take 40 ∧ (t.sdIn inp).close = (s.sdEdge inp :: (s.sdIn inp).close).take 40 ∧
        (t.sdIn inp).bits = all.take (s.sdN inp * (s.sdM inp - 1) + 1) ∧
        (isStep (s.fld (F.SD_PROF_STEP_THR.nth (s.sdProf inp)) 0) (s.sdM inp ^ s.sdN inp) y ((s.sdIn inp).outs.headD 0) = true →
          (t.sdIn inp).e = (s.sdIn inp).n + 1 ∧ s.RegsBut t [(F.SD_STAT_STEP_CNT, inp)]) ∧
        (isStep (s.fld (F.SD_PROF_STEP_THR.nth (s.sdProf inp)) 0) (s.sdM inp ^ s.sdN inp) y ((s.sdIn inp).outs.headD 0) = false →
          (t.sdIn inp).e = (s.sdIn inp).e ∧ s.Only t [.sd])) ∧
  (∀ (s : State) (inp : Fin 32), s.Canon → s.flag F.SD_CFG_EN inp = true → s.gait ≠ Gait.paddock →
      ∃ t, exec (.resampleDelivery inp) s = .next t ∧ t.flag F.SD_RES_EMPTY inp = false ∧
        t.fld F.SD_RES_PERIOD inp = s.pwm.pnum % 2 ^ (F.SD_RES_PERIOD.hi + 1 - F.SD_RES_PERIOD.lo) ∧
        t.flag F.SD_RES_CLKERR inp = s.sdClkErr inp ∧ (s.sdClkErr inp = true → t.flag F.SD_RES_UNSETTLED inp = true) ∧ s.Only t [.regs]) ∧
  (∀ (s : State), s.gait ≠ Gait.paddock → s.sdInUse = false ∨ s.flag F.SD_CTRL_PIN_FORCE 0 = true →
      exec .sdsyncAccept s = .next (s.sdRestartAll s.now)) ∧
  (∀ (s : State), s.Canon → s.gait ≠ Gait.paddock → s.sdInUse = true → s.flag F.SD_CTRL_PIN_FORCE 0 = false →
      ∃ t, exec .sdsyncAccept s = .next t ∧ s.Told t EV.EV_SD_SYNC_IGN noUnit 0 ∧
        t.fld F.SD_CTRL_SYNC_IGN 0 = satAdd (s.fld F.SD_CTRL_SYNC_IGN 0) 1 (2 ^ (F.SD_CTRL_SYNC_IGN.hi + 1 - F.SD_CTRL_SYNC_IGN.lo) - 1) ∧
        s.RegsBut t ((F.SD_CTRL_SYNC_IGN, 0) :: evqFlds)) ∧
  (∀ (s : State) (prof : Fin 4), ∃ t, exec (.profileTileRewrite prof) s = .next t ∧ (3, prof.val) ∉ t.coef.badTiles ∧ s.Only t [.coef, .sd] ∧
      (bitOf s.sd.badProf prof = true → t.sd.badProf = s.sd.badProf - 2 ^ prof.val) ∧
      (bitOf s.sd.badProf prof = false → t.sd.badProf = s.sd.badProf) ∧
      (vget s.sd.tiles prof ≠ [] → vget t.sd.tiles prof = profTile (s.fld (F.SD_PROF_J.nth prof) 0))) ∧
  (∀ (s : State) (tag : Fin 128) (e : Entry), s.Serves 0x0108 tag e → s.sdInUse = false →
      ∃ t, exec (.sdSync tag) s = .next t ∧ s.Waits t tag ∧ s.Only t [.fcp])

/-- DATAGRAM_CLOSE (R443): with no earlier store's drain pending (R43), at most 178 records leave in a datagram. FLUSH_COMPLETE and
FLUSH_TIMEOUT (R445): the engine stops; at the time-out the records left are discarded and counted. CAP_CFG (R406): the engine takes its
sources, trigger and mode. CAP_START, CAP_STOP (R445, R446): a start of a stopped engine and a stop of a running one wait for their
boundary, a start of a running one arms it again, and a stop of a stopped one has no effect. CAP_HIST_CFG, CAP_HIST_READ, CAP_PMAP_CFG,
CAP_PMAP_READ (R450 to R452): a histogram and the persistence map are configured empty, and read. EVENT_DRAIN (R43, R454, R514): the oldest
event enters the event block, and the ring while it is in service unless the island writes it. ISLAND_RECORD_WRITE (R454, R455): the oldest
island record enters the ring while it is in service. -/
def Obligations.CaptureCommandsComplete : Prop :=
  (∀ (s : State), s.Canon → s.cap.fifo ≠ [] → s.netRuns = true → s.flag F.MAC_STAT_LINK 2 = true → s.serves 3 = true →
      s.txHeld 2 = false →
      ∃ t, exec .datagramClose s = .next t ∧ t.cap.fifo = s.cap.fifo.drop 178 ∧ t.cap.seq = (s.cap.seq + 1) % 65536 ∧
        t.cap.sent = s.capHeader (s.cap.fifo.take 178) (s.capState == 2 && decide (s.cap.fifo.length ≤ 178)) ++
          (s.cap.fifo.take 178).flatMap (·.bytes) ∧ s.RegsBut t [(F.CAP_LEVEL_ALL, 0)] ∧ s.Only t [.regs, .cap]) ∧
  (∀ (s : State), s.Canon → s.capState = 2 → s.cap.fifo = [] →
      ∃ t, exec .flushComplete s = .next t ∧ t.capState = 0 ∧ s.RegsBut t [(F.CAP_STAT_STATE, 0)]) ∧
  (∀ (s : State), s.Canon → s.capState = 2 →
      ∃ t, exec .flushTimeout s = .next t ∧ t.capState = 0 ∧ t.cap.fifo = [] ∧
        t.fld F.CAP_STAT_CAP_LOST 0 = satAdd (s.fld F.CAP_STAT_CAP_LOST 0) s.cap.fifo.length
          (2 ^ (F.CAP_STAT_CAP_LOST.hi + 1 - F.CAP_STAT_CAP_LOST.lo) - 1)) ∧
  (∀ (s : State) (tag : Fin 128) (e : Entry), s.Serves 0x0601 tag e → e.payload.length = 8 * e.a 8 → e.a 0 ≤ 1 → e.a 1 ≤ 5 → e.a 8 ≠ 0 →
      e.a 8 ≤ 32 → (∀ i < e.a 8, (capSrcAt e.payload (8 * i)).2 = true ∧ (capSrcAt e.payload (8 * i)).1.ok = true) → s.capRuns = false →
      capBytes ((List.range (e.a 8)).map fun i => (capSrcAt e.payload (8 * i)).1) s.fineP ≤ 100000000 →
      ∃ t, exec (.capCfg tag) s = .next t ∧ t.cap.srcs = (List.range (e.a 8)).map (fun i => (capSrcAt e.payload (8 * i)).1) ∧
        t.cap.trig = e.a 1 ∧ t.cap.level = e.af 4 ∧ t.flag F.CAP_STAT_SINGLE 0 = (e.a 0 == 1) ∧ t.Answered tag FS.FS_OK [] []) ∧
  (∀ (s : State) (tag : Fin 128) (e : Entry), s.Serves 0x0602 tag e → s.capState = 0 → s.cap.startAt = none →
      ∃ t, exec (.capStart tag) s = .next t ∧ t.cap.startAt = some s.pwm.bnd ∧ s.Waits t tag ∧ s.Only t [.fcp, .cap]) ∧
  (∀ (s : State) (tag : Fin 128) (e : Entry), s.Serves 0x0603 tag e → s.capState = 1 → s.cap.stopAt = none →
      ∃ t, exec (.capStop tag) s = .next t ∧ t.cap.stopAt = some s.pwm.bnd ∧ s.Waits t tag ∧ s.Only t [.fcp, .cap]) ∧
  (∀ (s : State) (tag : Fin 128) (e : Entry), s.Serves 0x0604 tag e → e.a 0 < 4 → periodSrc (capSrcAt e.args 4) = true →
      edgesOk (e.af 12) (e.af 16) = true → s.capRuns = false →
      ∃ t, exec (.capHistCfg tag) s = .next t ∧ vget t.cap.hist (e.a 0) =
        { src := (capSrcAt e.args 4).1, on := true, b0 := s.pwm.bnd, lo := e.af 12, hi := e.af 16 } ∧
        t.fld (F.HIST_OUT_ALL.nth (e.a 0)) 0 = 0 ∧ t.Answered tag FS.FS_OK [] []) ∧
  (∀ (s : State) (tag : Fin 128) (e : Entry), s.Serves 0x0605 tag e → e.a 0 < 4 → 1 ≤ e.a16 4 → e.a16 4 ≤ 256 → e.a16 2 + e.a16 4 ≤ 4096 →
      ∃ t, exec (.capHistRead tag) s = .next t ∧ t.Answered tag FS.FS_OK []
        ((Memory.getMany (fun _ => 0) (vget s.cap.hist (e.a 0)).bins (e.a16 2) (e.a16 4)).flatMap (leBytes 4)) ∧ s.Only t [.fcp, .macs]) ∧
  (∀ (s : State) (tag : Fin 128) (e : Entry), s.Serves 0x0606 tag e → periodSrc (capSrcAt e.args 4) = true →
      periodSrc (capSrcAt e.args 12) = true → edgesOk (e.af 20) (e.af 24) = true → edgesOk (e.af 28) (e.af 32) = true → s.capRuns = false →
      ∃ t, exec (.capPmapCfg tag) s = .next t ∧ t.cap.px = (capSrcAt e.args 4).1 ∧ t.cap.py = (capSrcAt e.args 12).1 ∧ t.cap.cells = [] ∧
        t.cap.pEdges = [e.af 20, e.af 24, e.af 28, e.af 32] ∧ t.Answered tag FS.FS_OK [] []) ∧
  (∀ (s : State) (tag : Fin 128) (e : Entry), s.Serves 0x0607 tag e → 1 ≤ e.a 1 → e.a 1 ≤ 2 → e.a 0 + e.a 1 ≤ 256 →
      ∃ t, exec (.capPmapRead tag) s = .next t ∧ t.Answered tag FS.FS_OK []
        ((Memory.getMany (fun _ => 0) s.cap.cells (256 * e.a 0) (256 * e.a 1)).flatMap (leBytes 2)) ∧ s.Only t [.fcp, .macs]) ∧
  (∀ (s : State) (r : EvRec) (rest : List EvRec), s.Canon → s.fencenRuns = true → s.serves 6 = true → s.evq.queue = r :: rest →
      s.recd.island = [] ∨ s.recd.on = false →
      ∃ t, exec .eventDrain s = .next t ∧ t.evq.queue = rest ∧ t.evq.blockNext = r.num + 1 ∧ vget t.evq.slots (r.num % 32) = some r ∧
        (s.recd.on = true → r.flags % 2 = 0 → t.recd = (s.ringPut r).recd) ∧ (s.recd.on = false ∨ r.flags % 2 = 1 → t.recd = s.recd)) ∧
  (∀ (s : State) (r : EvRec) (rest : List EvRec), s.recd.on = true → s.gait ≠ Gait.paddock → s.recd.island = r :: rest →
      exec .islandRecordWrite s = .next (State.ringPut { s with recd := { s.recd with island := rest } } r)) ∧
  (∀ (s : State) (tag : Fin 128) (e : Entry), s.Serves 0x0602 tag e → s.capState = 1 →
      ∃ t, exec (.capStart tag) s = .next t ∧ t.flag F.CAP_STAT_ARMED 0 = true ∧ t.Answered tag FS.FS_OK [] [] ∧
        s.RegsBut t [(F.CAP_STAT_ARMED, 0)] ∧ s.Only t [.regs, .fcp, .macs]) ∧
  (∀ (s : State) (tag : Fin 128) (e : Entry), s.Serves 0x0603 tag e → s.capState = 0 →
      ∃ t, exec (.capStop tag) s = .next t ∧ t.Answered tag FS.FS_OK [] [] ∧ s.Only t [.fcp, .macs])

/-- Each of these raises its condition on its port alone, for the next RG0 boundary to act on (R63). T_CLOSE_EXPIRY (R61): in BLACKSTART
before it switches, or in MATCH, with the breaker not seen closed. PRESYNC_TIMEOUT (R71): in PRESYNC. PRESYNC_WINDOW_END (R69): in PRESYNC,
at the end of a window of N_pre cycles, where the lock criteria hold; else the window starts again. BLACKSTART_RAMP_COMPLETE (R65): where black start is done.
BLACKSTART_TRACK_FAULT (R67): in BLACKSTART, where the amplitude has been out of its band on that side for the port's time. BKR_FB_SEEN
(R70): in MATCH with the breaker closed. ENVELOPE_RUN_LIMIT (R77, R85): in RUN with the run of hits at N_env, on an AC port with CURLIM; on
any other port, in RUN or a DC port's RAMPDOWN, EV_ENV_PERSIST is posted once instead. CURLIM_RAMP_COMPLETE (R79): in CURLIM after the
ramp's time. DC_RANGE_FAULT (R85): a DC port in RUN or RAMPDOWN with V_dc outside its window. STOP_RAMP_COMPLETE (R61) and SRS_RAMP_COMPLETE
(R310): in RAMPDOWN with the scale at 0. -/
def Obligations.PortConditionCommandsComplete : Prop :=
  (∀ (s : State) (p : Fin 4), (s.pstate p = PS.blackstart ∧ (s.port p).switching = false) ∨ s.pstate p = PS.matching →
      s.flag F.PORT_STATUS_BKR_FB p = false →
      ∃ t, exec (.tCloseExpiry p) s = .next t ∧ (t.port p).conds = (s.port p).conds ++ [.closeExpiry] ∧ s.Only t [.ports]) ∧
  (∀ (s : State) (p : Fin 4), s.pstate p = PS.presync →
      ∃ t, exec (.presyncTimeout p) s = .next t ∧ (t.port p).conds = (s.port p).conds ++ [.presyncExpiry] ∧ s.Only t [.ports]) ∧
  (∀ (s : State) (p : Fin 4), s.pstate p = PS.presync → s.windowFull p = true →
      ∃ t, exec (.presyncWindowEnd p) s = .next t ∧ s.Only t [.ports] ∧
        (s.lockOk p = true → (t.port p).conds = (s.port p).conds ++ [.presyncOk]) ∧
        (s.lockOk p = false → (t.port p).conds = (s.port p).conds ∧ (t.port p).winPeriods = 0)) ∧
  (∀ (s : State) (p : Fin 4), s.windowFull p = false → exec (.presyncWindowEnd p) s = .next s) ∧
  (∀ (s : State) (p : Fin 4), s.blackDone p = true →
      ∃ t, exec (.blackstartRampComplete p) s = .next t ∧ (t.port p).conds = (s.port p).conds ++ [.rampDone] ∧ s.Only t [.ports]) ∧
  (∀ (s : State) (p : Fin 4) (high : Bool), s.pstate p = PS.blackstart → (s.port p).switching = true →
      0 < (if high then (s.port p).trkHigh else (s.port p).trkLow) →
      s.lasts (if high then (s.port p).trkHigh else (s.port p).trkLow) (s.pw p 36) = true →
      ∃ t, exec (.blackstartTrackFault p high) s = .next t ∧
        (t.port p).conds = (s.port p).conds ++ [if high then .trackHigh else .trackLow] ∧ s.Only t [.ports]) ∧
  (∀ (s : State) (p : Fin 4), s.pstate p = PS.matching → (s.port p).hlpBkr = true →
      ∃ t, exec (.bkrFbSeen p) s = .next t ∧ (t.port p).conds = (s.port p).conds ++ [.bkrSeen] ∧ s.Only t [.ports]) ∧
  (∀ (s : State) (p : Fin 12), s.pstate p = PS.run → s.envN p ≤ s.fld F.PORT_ENV_RUN_LEN p → p.val < 4 → s.clEn p = true →
      ∃ t, exec (.envelopeRunLimit p) s = .next t ∧ (t.port p).conds = (s.port p).conds ++ [.envRun] ∧ s.Only t [.ports]) ∧
  (∀ (s : State) (p : Fin 12), s.pstate p = PS.run ∨ 4 ≤ p.val ∧ s.pstate p = PS.rampdown → s.envN p ≤ s.fld F.PORT_ENV_RUN_LEN p →
      4 ≤ p.val ∨ s.clEn p = false → (s.port p).persistPosted = false →
      ∃ t, exec (.envelopeRunLimit p) s = .next t ∧ (t.port p).persistPosted = true ∧
        s.Told t EV.EV_ENV_PERSIST p (s.fld F.PORT_ENV_RUN_LEN p)) ∧
  (∀ (s : State) (p : Fin 4) (k : Nat), s.pstate p = PS.curlim → (s.port p).clRamp = some k → s.lasts k (s.pw p 31) = true →
      ∃ t, exec (.curlimRampComplete p) s = .next t ∧ (t.port p).conds = (s.port p).conds ++ [.curlimDone] ∧ s.Only t [.ports]) ∧
  (∀ (s : State) (p : Fin 12), 4 ≤ p.val → s.pstate p = PS.run ∨ s.pstate p = PS.rampdown → s.vdcInside p = false →
      ∃ t, exec (.dcRangeFault p) s = .next t ∧ (t.port p).conds = (s.port p).conds ++ [.dcRange] ∧ s.Only t [.ports]) ∧
  (∀ (s : State) (p : Fin 12), s.pstate p = PS.rampdown → (s.port p).rdSrs = false → fIsZero (s.port p).scale = true →
      ∃ t, exec (.stopRampComplete p) s = .next t ∧ (t.port p).conds = (s.port p).conds ++ [.stopRampDone] ∧ s.Only t [.ports]) ∧
  (∀ (s : State) (p : Fin 12), s.pstate p = PS.rampdown → (s.port p).rdSrs = true → fIsZero (s.port p).scale = true →
      ∃ t, exec (.srsRampComplete p) s = .next t ∧ (t.port p).conds = (s.port p).conds ++ [.srsRampDone] ∧ s.Only t [.ports])

/-- CURLIM_EXIT_START (R79): in CURLIM, after T_exit without a hit and with the demanded current below 0.9 of its limit, the return of the
impedance begins and CL_RAMP shows it. CURLIM_TIMEOUT (R80): in CURLIM, its event is posted, and SRS is demanded where the port says so.
PULL_WINDOW_END (R83, R84): the window is over, the frequency is the setpoint's again and TIME_ASSIST that of the last black start. -/
def Obligations.CurlimAndPullCommandsComplete : Prop :=
  (∀ (s : State) (p : Fin 4), s.Canon → s.pstate p = PS.curlim → (s.port p).clRamp = none →
      ((s.port p).hit && (s.port p).counted) = false → s.lasts (s.port p).quiet (s.pw p 30) = true →
      fLt (s.port p).iStar (fMul 0x3F666666#32 (s.pw p 22)) = true →
      ∃ t, exec (.curlimExitStart p) s = .next t ∧ (t.port p).clRamp = some 0 ∧ t.flag F.PORT_STATUS_CL_RAMP p = true ∧
        s.RegsBut t [(F.PORT_STATUS_CL_RAMP, p)] ∧ s.Only t [.regs, .ports]) ∧
  (∀ (s : State) (p : Fin 4), s.Canon → s.pstate p = PS.curlim → fLt 0#32 (s.pw p 32) = true → bitOf (s.port p).cfg.flags 4 = false →
      ∃ t, exec (.curlimTimeout p) s = .next t ∧ s.Told t EV.EV_CURLIM_TIMEOUT p 0 ∧ s.RegsBut t evqFlds) ∧
  (∀ (s : State) (p : Fin 4), s.pstate p = PS.curlim → fLt 0#32 (s.pw p 32) = true → bitOf (s.port p).cfg.flags 4 = true →
      exec (.curlimTimeout p) s = .next ((s.post EV.EV_CURLIM_TIMEOUT p 1).srsRequest (2 ^ p.val) true)) ∧
  (∀ (s : State) (p : Fin 4) (k : Nat), s.Canon → (s.port p).pull = some k →
      ∃ t, exec (.pullWindowEnd p) s = .next t ∧ (t.port p).pull = none ∧ (t.port p).wPrime = (s.port p).slewed.getD 2 0#32 ∧
        t.flag F.PORT_STATUS_TIME_ASSIST p = (s.port p).bsAssist ∧ s.RegsBut t [(F.PORT_STATUS_TIME_ASSIST, p)] ∧ s.Only t [.regs, .ports])

/-- RUN_GO takes a Stalled device with no block UNCLEAN and no failed configuration tile to Running (R399, R484, R498); RUN_STALL takes a
Running one with every port OFF back (R399). PORT_ARM, PORT_DISARM, PORT_START, PORT_STOP, PORT_CLEAR, RECLOSE_PREP and RECLOSE_END, when
they pass their checks, are taken and wait at their port for the boundary at which they complete (R402). SP_AC, SP_DC and SP_SLEW with
values in their ranges are taken in every port state and wait for the next boundary (R60, R403); SETPOINT_TAKES_EFFECT: at the first
boundary after that, once those of its target admitted before it have (R380), the setpoint is in force and the command completes: SP_AC sets the targets its mask names, SP_DC its port's values whole
and its window, SP_SLEW the slew rates (R60, R85, R403). -/
def Obligations.RunPortAndSetpointCommandsComplete : Prop :=
  (∀ (s : State) (tag : Fin 128) (e : Entry), s.Serves 0x0201 tag e → s.devState = 1 → s.fld F.RST_STAT_UNCLEAN 0 = 0 →
      (s.coef.found.any fun x => x.1 == 5) = false →
      ∃ t, exec (.runGo tag) s = .next t ∧ t.devState = 2 ∧ t.Answered tag FS.FS_OK [] [] ∧ s.RegsBut t [(F.IDENT_STATE_DEV_STATE, 0)] ∧
        s.Only t [.regs, .fcp, .macs]) ∧
  (∀ (s : State) (tag : Fin 128) (e : Entry), s.Serves 0x0202 tag e → s.devState = 2 → s.allOff = true →
      ∃ t, exec (.runStall tag) s = .next t ∧ t.devState = 1 ∧ t.Answered tag FS.FS_OK [] [] ∧ s.RegsBut t [(F.IDENT_STATE_DEV_STATE, 0)] ∧
        s.Only t [.regs, .fcp, .macs]) ∧
  (∀ (s : State) (tag : Fin 128) (e : Entry), s.Serves 0x0205 tag e → s.PortOpen e → s.armCheck (e.a 0) = none →
      ∃ t, exec (.portArm tag) s = .next t ∧ s.PortWaits t tag (e.a 0)) ∧
  (∀ (s : State) (tag : Fin 128) (e : Entry), s.Serves 0x0206 tag e → s.PortOpen e →
      ∃ t, exec (.portDisarm tag) s = .next t ∧ s.PortWaits t tag (e.a 0)) ∧
  (∀ (s : State) (tag : Fin 128) (e : Entry) (n : Nat), s.Serves 0x0207 tag e → s.PortOpen e → e.a 1 ≤ 2 → e.a 0 < 4 ∨ e.a 1 = 0 →
      leAt e.args 10 4 < 1000000000 → (∀ x, s.startTime e = some x → x ≤ (vget s.tb 0).ticks + 60 * 1000000000 * 65536) →
      s.startTo (e.a 0) (e.a 1) = .inl n → ∃ t, exec (.portStart tag) s = .next t ∧ s.PortWaits t tag (e.a 0)) ∧
  (∀ (s : State) (tag : Fin 128) (e : Entry), s.Serves 0x0208 tag e → s.PortOpen e → e.a32 4 = 0 ∨ 10 ≤ e.a32 4 ∧ e.a32 4 ≤ 60000 →
      ∃ t, exec (.portStop tag) s = .next t ∧ s.PortWaits t tag (e.a 0)) ∧
  (∀ (s : State) (tag : Fin 128) (e : Entry), s.Serves 0x0209 tag e → s.PortOpen e → s.portLatched (e.a 0) = false →
      ∃ t, exec (.portClear tag) s = .next t ∧ s.PortWaits t tag (e.a 0)) ∧
  (∀ (s : State) (tag : Fin 128) (e : Entry), s.Serves 0x020A tag e → s.PortOpen e →
      ∃ t, exec (.reclosePrep tag) s = .next t ∧ s.PortWaits t tag (e.a 0)) ∧
  (∀ (s : State) (tag : Fin 128) (e : Entry), s.Serves 0x020B tag e → s.PortOpen e →
      ∃ t, exec (.recloseEnd tag) s = .next t ∧ s.PortWaits t tag (e.a 0)) ∧
  (∀ (s : State) (tag : Fin 128) (e : Entry), s.Serves 0x0301 tag e → s.spAcOk e = true → s.roleBad = false →
      ∃ t, exec (.spAc tag) s = .next t ∧ s.Waits t tag ∧ s.Only t [.fcp]) ∧
  (∀ (s : State) (tag : Fin 128) (e : Entry), s.Serves 0x0302 tag e → s.spDcOk e = true → s.roleBad = false →
      ∃ t, exec (.spDc tag) s = .next t ∧ s.Waits t tag ∧ s.Only t [.fcp]) ∧
  (∀ (s : State) (tag : Fin 128) (e : Entry), s.Serves 0x0303 tag e → slewOk e = true → s.roleBad = false →
      ∃ t, exec (.spSlew tag) s = .next t ∧ s.Waits t tag ∧ s.Only t [.fcp]) ∧
  (∀ (s : State) (tag : Fin 128) (e : Entry), s.Inv → s.svpRuns = true →
      (s.fcp.inflight.find? fun x => x.tag == tag.val && x.op / 256 == 3 && x.started) = some e → s.atBoundary e = true →
      s.setpointTurn e = true →
      ∃ t, exec (.setpointTakesEffect tag) s = .next t ∧ t.Answered tag FS.FS_OK [] [] ∧
        t.ports = (s.applySetpoint e).ports ∧ s.Only t [.fcp, .ports, .macs]) ∧
  (∀ (s : State) (e : Entry), e.op = 0x0301 → e.a 0 < 12 → ∀ k < 4, ((s.applySetpoint e).port (e.a 0)).target.getD k 0#32 =
      if bitOf (e.a 1) k then e.af (4 + 4 * k) else (s.port (e.a 0)).target.getD k 0#32) ∧
  (∀ (s : State) (e : Entry), e.op = 0x0302 → e.a 0 < 12 → ((s.applySetpoint e).port (e.a 0)).target = (s.spDcNew e).1 ++ [0#32] ∧
      ((s.applySetpoint e).port (e.a 0)).slewed = (s.spDcNew e).1 ++ [0#32]) ∧
  (∀ (s : State) (e : Entry), e.op = 0x0303 → e.a 0 < 12 → ((s.applySetpoint e).port (e.a 0)).slew = [e.af 4, e.af 8, e.af 12])

/-- Each source of Cold or System reach puts the device into reset and is recorded for RST_CAUSE (R478, R479, R481): VIN_POWER_ON and
VIN_BROWN_OUT by a Cold reset, RST_N by a Cold or a System reset as the option says, DEFERRED_SYSTEM_RESET and the debug port's system
request by a System reset. After a Cold reset the commands, the queued events, the ports, the recorder and the Tack Table are at reset; a
System reset keeps the recorder's ring, the Tack Table, the HLP's retained store and the trace copies in LPDDR (R477), and what it ends of
the Steward, the pair and ACT_OUT is posted (R296, R303). A debug request for the supervisor restarts it;
one for a block that Table 18.4 allows resets the block (R485). A source of Supervisor or Block reach that
asserts during a Cold or System reset is recorded with its sources (R481). RESET_RELEASE (R482): the reset is over and RST_CAUSE shows its
reach and its sources. -/
def Obligations.ResetSourceCommandsComplete : Prop :=
  (∀ s : State, ∃ t, exec .vinPowerOn s = .next t ∧ t.boot.reach = some 0 ∧ 0 ∈ t.boot.srcs ∧ t.pending = s.pending ∧
      (s.boot.reach ≠ some 0 → t.fcp = State.reset.fcp ∧ t.evq.queue = [] ∧ t.ports = State.reset.ports ∧
        t.recd = State.reset.recd ∧ t.tack = State.reset.tack ∧ t.devState = 0)) ∧
  (∀ s : State, ∃ t, exec .vinBrownOut s = .next t ∧ t.boot.reach = some 0 ∧ 1 ∈ t.boot.srcs ∧ t.pending = s.pending ∧
      (s.boot.reach ≠ some 0 → t.fcp = State.reset.fcp ∧ t.evq.queue = [] ∧ t.ports = State.reset.ports ∧
        t.recd = State.reset.recd ∧ t.tack = State.reset.tack ∧ t.devState = 0)) ∧
  (∀ s : State, bitOf (s.fld F.OPT_STAT_OPTIONS 0) 5 = true → ∃ t, exec .rstNPin s = .next t ∧ t.boot.reach = some 0 ∧ 2 ∈ t.boot.srcs) ∧
  (∀ s : State, s.Canon → bitOf (s.fld F.OPT_STAT_OPTIONS 0) 5 = false → s.boot.reach = none →
      ∃ t, exec .rstNPin s = .next t ∧ t.boot.reach = some 1 ∧ t.boot.srcs = [2] ∧ t.fcp = State.reset.fcp ∧
        (s.fld F.STW_STATUS_STATE 0 = 0 → s.fld F.PAIR_STATUS_STATE 0 = 0 → s.flag F.PAIR_STATUS_ACT_OUT 0 = false → t.evq.queue = []) ∧
        (s.fld F.STW_STATUS_STATE 0 ≠ 0 → ∃ r ∈ t.evq.queue, r.code = EV.EV_STW_STATE ∧ r.data = s.fld F.STW_STATUS_STATE 0) ∧
        t.ports = State.reset.ports ∧ t.recd.ring = s.recd.ring ∧ t.tack = s.tack ∧ t.hlp.store = s.hlp.store ∧ t.devState = 0 ∧
        ∀ c < 8, (t.tr c).copy = (s.tr c).copy) ∧
  (∀ (s : State) (r : Nat), s.boot.reach = some r → r ≤ 1 →
      ∃ t, exec .rstNPin s = .next t ∧ 2 ∈ t.boot.srcs ∧ (∀ k ∈ s.boot.srcs, k ∈ t.boot.srcs) ∧
        t.boot.reach = some (if bitOf (s.fld F.OPT_STAT_OPTIONS 0) 5 then 0 else r)) ∧
  (∀ s : State, s.boot.deferred = true → s.boot.reach = none →
      ∃ t, exec .deferredSystemReset s = .next t ∧ t.boot.reach = some 1 ∧ t.boot.srcs = [7] ∧ t.fcp = State.reset.fcp ∧
        t.ports = State.reset.ports ∧ t.recd.ring = s.recd.ring ∧ t.tack = s.tack) ∧
  (∀ s : State, s.dbgOpen = true → s.boot.reach = none →
      ∃ t, exec (.debugResetRequest .system) s = .next t ∧ t.boot.reach = some 1 ∧ t.boot.srcs = [9] ∧ t.fcp = State.reset.fcp ∧
        t.ports = State.reset.ports ∧ t.recd.ring = s.recd.ring ∧ t.tack = s.tack) ∧
  (∀ s : State, s.dbgOpen = true → exec (.debugResetRequest .supervisor) s = .next (s.svpRestart false 9 s.boot.runSlot)) ∧
  (∀ (s : State) (src slot : Nat) (planned : Bool), s.boot.reach.isSome = true →
      src ∈ (s.svpRestart planned src slot).boot.srcs ∧ (∀ k ∈ s.boot.srcs, k ∈ (s.svpRestart planned src slot).boot.srcs)) ∧
  (∀ (s : State) (b : Fin 16), s.dbgOpen = true → s.boot.reach.isSome = true →
      ∃ t, exec (.debugResetRequest (.block b)) s = .next t ∧ 9 ∈ t.boot.srcs ∧ (∀ k ∈ s.boot.srcs, k ∈ t.boot.srcs) ∧ s.Only t [.boot]) ∧
  (∀ (s : State) (b : Fin 16), s.Inv → s.dbgOpen = true → s.mayReset .debug b = true → ∃ t, exec (.debugResetRequest (.block b)) s = .next t ∧
      t.fld F.RST_CAUSE_REACH 0 = 3 ∧ t.fld F.RST_CAUSE_BLOCK 0 = b ∧ t.fld F.RST_CAUSE_SRC 0 = 2 ^ 9 ∧ t.flag F.RST_STAT_IDLE_OK 0 = true) ∧
  (∀ (s : State) (strap : List Nat) (r : Nat), s.Canon → s.boot.reach = some r → r < 4 →
      ∃ t, exec (.resetRelease strap) s = .next t ∧ t.boot.reach = none ∧ t.boot.step = 0 ∧ t.fld F.RST_CAUSE_REACH 0 = r ∧
        t.fld F.RST_CAUSE_SRC 0 = s.boot.srcs.foldl (fun m k => m ||| 2 ^ k) 0 % 2 ^ 11)

/-- BLOCK_RESET, BLOCK_IDLE_TIMEOUT and BUS_OFF (R485): a Block reset that Table 18.4 allows resets its block, shows itself in RST_CAUSE,
and IDLE_OK shows whether idle was reached or timed out. FORCED_RELEASE (R484): with TEST_EN = 1 the debug port releases a held block, which
is marked UNCLEAN. BOOT_STEP_COMPLETE (R489): the next step of Table 18.6 is taken, step 2 with every CLK_OK set: a failed self-test stops
the boot at step 3, at step 4 the recorder's ring comes into service, at step 5 the slot whose turn it is and that passes its checks is
taken (R490), step 7 shows the stage where the components' hashes match, and step 10 leaves the device Stalled with its window and its
mailboxes open. -/
def Obligations.BlockResetAndBootCommandsComplete : Prop :=
  (∀ (s : State) (src : BlockSrc) (b : Fin 16), s.Inv → s.mayReset src b = true → ∃ t, exec (.blockReset src b) s = .next t ∧
      t.fld F.RST_CAUSE_REACH 0 = 3 ∧ t.fld F.RST_CAUSE_BLOCK 0 = b ∧
      t.fld F.RST_CAUSE_SRC 0 = ((blockSrcBit src).map fun k => 2 ^ k).getD 0 ∧ t.flag F.RST_STAT_IDLE_OK 0 = true) ∧
  (∀ (s : State) (src : BlockSrc) (b : Fin 16), s.Inv → s.mayReset src b = true → ∃ t, exec (.blockIdleTimeout src b) s = .next t ∧
      t.fld F.RST_CAUSE_REACH 0 = 3 ∧ t.fld F.RST_CAUSE_BLOCK 0 = b ∧
      t.fld F.RST_CAUSE_SRC 0 = ((blockSrcBit src).map fun k => 2 ^ k).getD 0 ∧ t.flag F.RST_STAT_IDLE_OK 0 = false) ∧
  (∀ (s : State) (c : Fin 2), s.Inv → s.mayReset .fencen (13 + c) = true →
      ∃ t, exec (.busOff c) s = .next t ∧ t.fld F.RST_CAUSE_REACH 0 = 3 ∧ t.fld F.RST_CAUSE_BLOCK 0 = 13 + c ∧ t.fld F.RST_CAUSE_SRC 0 = 0 ∧
        (vget t.fcp.boxes (6 + c)).segCount = 0) ∧
  (∀ (s : State) (b : Fin 16) (h : Nat × Bool), s.Canon → (s.boot.held.find? fun x => x.1 == b.val) = some h → s.dbgOpen = true →
      s.flag F.TACK_CTRL_TEST_EN 0 = true → s.boot.reach = none →
      ∃ t, exec (.forcedRelease b) s = .next t ∧ t.boot.held = (s.boot.held.filter fun x => x.1 != b.val) ∧
        bitOf (t.fld F.RST_STAT_UNCLEAN 0) b = true) ∧
  (∀ (s : State) (ok : Bool), s.boot.reach = none → s.boot.failed = false → s.nextStep ≤ 10 →
    (s.nextStep = 2 → s.fld F.CLK_STAT_CLK_OK 0 = 0xFF) →
    ∃ t, exec (.bootStepComplete ok) s = .next t ∧ t = (s.modBoot fun b => { b with step := s.nextStep }).bootStep s.nextStep ok ∧
      (s.nextStep = 3 → ok = false → t.boot.failed = true ∧ (s.Canon → t.fld F.BOOT_STAT_STAGE 0 = 7)) ∧
      (s.nextStep = 4 → t.recd.on = true ∧ s.RegsBut t []) ∧
      (s.nextStep = 5 → ∀ a l, s.slotOrder = a :: l → s.slotFails a = 0 → a < 2 → t.boot.runSlot = a ∧ (s.Canon → t.fld F.BOOT_STAT_STAGE 0 = 1)) ∧
      (s.nextStep = 7 → s.compOk s.boot.runSlot 2 = true → s.compOk s.boot.runSlot 3 = true → s.Canon → t.fld F.BOOT_STAT_STAGE 0 = 2) ∧
      (s.nextStep = 10 → s.Canon → t.devState = 1 ∧ t.win.ready = true ∧ t.fld F.BOOT_STAT_STAGE 0 = 3 ∧
        ∀ m < 8, (vget t.fcp.boxes m).isOpen = true)) ∧
  (∀ (s : State) (src : BlockSrc) (b : Fin 16), s.mayReset src b = true →
      exec (.blockReset src b) s = .next ((s.blockClear b).blockDone b true (blockSrcBit src)) ∧
      exec (.blockIdleTimeout src b) s = .next ((s.blockClear b).blockDone b false (blockSrcBit src))) ∧
  (∀ s : State, (s.blockClear 1).pwm = { ({} : PwmSt) with pins := s.pwm.pins, bnd := s.pwm.bnd } ∧ (s.blockClear 15).cap = {} ∧
      ∀ m < 3, vget (s.blockClear (10 + m)).macs m = { ({} : MacSt) with netif := (vget s.macs m).netif })

/-- MEMORY_ERROR (R499, Table 18.8): an uncorrectable error of every memory is counted, named in LAST_MEM and posted, and then acts by its
memory's row; a Spur injection that it reveals stands no longer (R518). A coefficient error outside the tiles is counted alone.
SINGLE_BIT_ERROR (R499): in a memory with SECDED it is counted. OPTION_SECTOR_WRITE (R487) and REVOCATION_BURN (R495): with the Tack Table
unlocked the debug port writes the option sector, and burns a revocation unless the key is the last of its algorithm. -/
def Obligations.MemoryErrorAndBurnCommandsComplete : Prop :=
  (∀ s : State, s.Canon → ∃ t, exec (.memoryError .pwmCfg) s = .next t ∧ t.boot.deferred = true ∧ s.Told t EV.EV_MEM_ERR 6 0 ∧
      t.fld F.ECC_STAT_LAST_MEM 0 = 6) ∧
  (∀ s : State, s.Canon → ∃ t, exec (.memoryError .hlpVar) s = .next t ∧ t.boot.deferred = true ∧ s.Told t EV.EV_MEM_ERR 3 0 ∧
      t.fld F.ECC_STAT_LAST_MEM 0 = 3) ∧
  (∀ (s : State) n, s.Canon → ∃ t, exec (.memoryError (.lpddrRec n)) s = .next t ∧ t.recd.bad = s.recd.bad ++ [n] ∧ s.Told t EV.EV_MEM_ERR 5 0 ∧
      t.fld F.ECC_STAT_LAST_MEM 0 = 5) ∧
  (∀ s : State, s.boot.reach = none → ∃ t, exec (.memoryError .aon) s = .next t ∧ t.boot.reach = some 0 ∧ t.boot.srcs = [7]) ∧
  (∀ (s : State) (m : Fin 9), s.Canon → m.val = 1 ∨ m.val = 3 ∨ m.val = 4 ∨ m.val = 5 → ∃ t, exec (.singleBitError m) s = .next t ∧
      t.fld F.ECC_STAT_CORR_CNT 0 = satAdd (s.fld F.ECC_STAT_CORR_CNT 0) 1 (2 ^ (F.ECC_STAT_CORR_CNT.hi + 1 - F.ECC_STAT_CORR_CNT.lo) - 1) ∧
      s.RegsBut t [(F.ECC_STAT_CORR_CNT, 0)] ∧ s.Only t [.regs]) ∧
  (∀ (s : State) bytes, s.dbgUnlocked = true → ∃ t, exec (.optionSectorWrite bytes) s = .next t ∧ t.boot.options = slice bytes 0 32 ∧
      s.Only t [.boot]) ∧
  (∀ (s : State) (slh : Bool) (k : Fin 2), s.dbgUnlocked = true →
      (if slh then 2 else 0) + k.val ∉ s.boot.revoked → (if slh then 2 else 0) + (1 - k.val) ∉ s.boot.revoked →
      ∃ t, exec (.revocationBurn slh k) s = .next t ∧ t.boot.revoked = s.boot.revoked ++ [(if slh then 2 else 0) + k.val] ∧ s.Only t [.boot]) ∧
  (∀ (s : State) (m : Fin 9), s.Canon → s.Told (s.memErr m) EV.EV_MEM_ERR m 0 ∧ (s.memErr m).fld F.ECC_STAT_LAST_MEM 0 = m ∧
      (s.memErr m).fld F.ECC_STAT_UNCORR_CNT 0 = satAdd (s.fld F.ECC_STAT_UNCORR_CNT 0) 1
        (2 ^ (F.ECC_STAT_UNCORR_CNT.hi + 1 - F.ECC_STAT_UNCORR_CNT.lo) - 1)) ∧
  (∀ (s : State) (i : Fin 63) (o : Fin 256), ∃ u, u = s.found (.cleRam i o) ∧ exec (.memoryError (.cleRam i o)) s = .next (
      if u.ctxEn i then ((((u.memErr 0).deferReset).setCflag F.CTX_STATUS_PERR i true).modCle fun c =>
        { c with halted := true }).post EV.EV_CLE_PARITY i o else (u.memErr 0).deferReset)) ∧
  (∀ (s : State) (b : Bool) (k : Fin 64), exec (.memoryError (.coef b k)) s = .next (
      if k.val < 16 then ((s.found (.coef b k)).memErr 1).bankFail (b2n b) k else (s.found (.coef b k)).memErr 1)) ∧
  (∀ s : State, exec (.memoryError .hlpProg) s = .next (((s.found .hlpProg).memErr 2).hlpHalt 3)) ∧
  (∀ s : State, exec (.memoryError .hlpVar) s = .next ((s.found .hlpVar).memErr 3).deferReset) ∧
  (∀ s : State, exec (.memoryError .svp) s = .next (((s.found .svp).memErr 4).svpRestart false 7 s.boot.runSlot)) ∧
  (∀ s : State, s.Canon → ∃ t, exec (.memoryError .lpddrStream) s = .next t ∧ t.cap.fifo = s.cap.fifo.drop 1 ∧ s.Told t EV.EV_MEM_ERR 5 0 ∧
      t.fld F.CAP_STAT_CAP_LOST 0 = satAdd (s.fld F.CAP_STAT_CAP_LOST 0) 1
        (2 ^ (F.CAP_STAT_CAP_LOST.hi + 1 - F.CAP_STAT_CAP_LOST.lo) - 1)) ∧
  (∀ (s : State) (ch : Fin 8) (i : Nat), ∃ t, exec (.memoryError (.lpddrTrace ch i)) s = .next t ∧ s.Told t EV.EV_MEM_ERR 5 0 ∧
      (t.tr ch).copy = (s.tr ch).copy.map fun l => l.set i traceMarker) ∧
  (∀ s : State, exec (.memoryError .pwmCfg) s = .next ((s.found .pwmCfg).memErr 6).deferReset) ∧
  (∀ s : State, exec (.memoryError .aon) s = .next (((s.found .aon).memErr 7).assertReset 0 7)) ∧
  (∀ s : State, exec (.memoryError .island) s = .next (((s.found .island).memErr 8).cause Cause.lockstep))

/-- GAIT: one that passes Table 01.7 becomes pending (R36). GAIT_CHANGE_EFFECT: at a boundary at least 20 us later it takes effect with its
event and the command completes (R37), in Limp only while PLL-M is locked (R472); a change to Paddock ends in the entry of Paddock (R473). GAIT_THERMAL: the die temperature sets
THERM_HOLD by R39. RATE: one in range whose schedule, sequences, resonators and capture fit is taken and staged for the CLE's next bundle,
or, on an ACTIVE paired unit, for its pair period (R104, R196, R281). RATE_CHANGE_EFFECT: it completes with PDSKEW once its period and
divisors are in force. -/
def Obligations.GaitAndRateCommandsComplete : Prop :=
  (∀ (s : State) (tag : Fin 128) (e : Entry), s.Serves 0x0203 tag e → e.a 0 ≤ 5 → s.gaitCheck (e.a 0) = FS.FS_OK →
      ∃ t, exec (.gait tag) s = .next t ∧ s.Waits t tag ∧ t.flag F.GAIT_STATUS_PEND_VALID 0 = true ∧ t.fld F.GAIT_STATUS_GAIT_PEND 0 = e.a 0 ∧
        t.clk.wakeEarly = false ∧
        s.RegsBut t [(F.GAIT_STATUS_PEND_VALID, 0), (F.GAIT_STATUS_GAIT_PEND, 0)] ∧ s.Only t [.regs, .fcp, .clk]) ∧
  (∀ (s : State) (tag : Fin 128) (e : Entry), s.Inv → s.svpClock = true → s.gait ≠ Gait.limp ∨ s.locked 0 = true → s.waitingOp 0x0203 = some e → e.tag = tag.val →
      s.flag F.GAIT_STATUS_PEND_VALID 0 = true → s.atBoundary20 e = true → s.fld F.GAIT_STATUS_GAIT_PEND 0 ≠ Gait.paddock →
      ∃ t, exec .gaitChangeEffect s = .next t ∧ t.gait = s.fld F.GAIT_STATUS_GAIT_PEND 0 ∧ t.flag F.GAIT_STATUS_PEND_VALID 0 = false ∧
        s.Told t EV.EV_GAIT_CHANGE noUnit (s.gait + 256 * s.fld F.GAIT_STATUS_GAIT_PEND 0) ∧ t.Answered tag FS.FS_OK [] []) ∧
  (∀ (s : State) (e : Entry), s.waitingOp 0x0203 = some e → s.flag F.GAIT_STATUS_PEND_VALID 0 = true → s.atBoundary20 e = true →
      s.fld F.GAIT_STATUS_GAIT_PEND 0 = Gait.paddock → s.gait ≠ Gait.limp ∨ s.locked 0 = true →
      exec .gaitChangeEffect s = .next ((((((s.setFlag F.GAIT_STATUS_PEND_VALID 0 false).setFld F.GAIT_STATUS_GAIT_PEND 0 0).post
        EV.EV_GAIT_CHANGE noUnit (s.gait + 256 * Gait.paddock)).doneAt e.tag FS.FS_OK).cond (s.gait == Gait.limp) State.leaveLimp).enterPaddock)) ∧
  (∀ s : State, s.gait = Gait.limp → s.locked 0 = false → exec .gaitChangeEffect s = .next s) ∧
  (∀ (s : State) (temp : Int), s.Canon → ∃ t, exec (.gaitThermal temp) s = .next t ∧ t.clk.tj = temp ∧
      t.flag F.GAIT_STATUS_THERM_HOLD 0 = (s.flag F.GAIT_STATUS_VARIANT_H 0 && s.gait == Gait.gallop && decide (115 ≤ temp)) ∧
      (s.flag F.GAIT_STATUS_VARIANT_H 0 = true → s.gait = Gait.gallop → 115 ≤ temp → s.flag F.GAIT_STATUS_THERM_HOLD 0 = false →
        s.Told t EV.EV_GAIT_THERMAL noUnit (clampInt 0 255 (temp + 55)).toNat)) ∧
  (∀ (s : State) (tag : Fin 128) (e : Entry), s.Serves 0x0204 tag e → rateParam e = true → s.roleBad = false →
      s.rateOk (if e.a32 0 = 0 then s.fineP else 32 * e.a32 0) (s.rateDiv e) = true →
      s.capOver (if e.a32 0 = 0 then s.fineP else 32 * e.a32 0) = false →
      s.prTooHigh (if e.a32 0 = 0 then s.fineP else 32 * e.a32 0) (s.rateDiv e) = false → s.waitingOp 0x0204 = none → s.isActive = false →
      ∃ t, exec (.rate tag) s = .next t ∧ s.Waits t tag ∧ t.cle.divNew = some (s.rateDiv e) ∧
        t.cle.periodNew = (if e.a32 0 = 0 then s.cle.periodNew else some (e.a32 0)) ∧ s.Only t [.fcp, .cle, .pwm]) ∧
  (∀ (s : State) (tag : Fin 128) (e : Entry), s.Serves 0x0204 tag e → rateParam e = true → s.roleBad = false →
      s.rateOk (if e.a32 0 = 0 then s.fineP else 32 * e.a32 0) (s.rateDiv e) = true →
      s.capOver (if e.a32 0 = 0 then s.fineP else 32 * e.a32 0) = false →
      s.prTooHigh (if e.a32 0 = 0 then s.fineP else 32 * e.a32 0) (s.rateDiv e) = false → s.waitingOp 0x0204 = none → s.isActive = true →
      ∃ t, exec (.rate tag) s = .next t ∧ s.Waits t tag ∧ s.Only t [.fcp, .pair] ∧ t.pair.sched = s.pair.sched ++
        [⟨s.pnumOut + 2 * s.divOf 1 + 2, 0, if e.a32 0 = 0 then none else some (e.a32 0), some (s.rateDiv e), 0⟩]) ∧
  (∀ (s : State) (tag : Fin 128) (e : Entry), s.Inv → s.svpClock = true → s.waitingOp 0x0204 = some e → e.tag = tag.val →
      s.atBoundary e = true → e.a32 0 = 0 ∨ e.a32 0 = s.period → s.cle.divNew = none → s.cle.div = s.rateDiv e →
      ∃ t, exec .rateChangeEffect s = .next t ∧ t.Answered tag FS.FS_OK [BitVec.ofNat 8 (b2n s.pwm.skew)] [] ∧ s.Only t [.fcp, .macs])

/-- REFCLK_LOSS (R458): REF_OK clears, the event is posted, every PLL has lost its lock and its attempts, and the domains that each locked
PLL drove lose their source. REFCLK_RESTORED (R458): REF_OK sets, and, except in Paddock without a wake and in reset, every PLL that is not
locked starts an attempt. PLL_LOSS_OF_LOCK (R462): the loss is posted and counted, an attempt starts and the PLL's domains lose their
source. PLL_LOCK (R462, R464): a PLL in an attempt locks; the first lock of PLL-M places the sync grid with SYNC_EN = 0. PLL_HOP_TIMEOUT
(R467): the slot is invalid and a search runs. BAND_SEARCH_COMPLETE (R467): a band found goes with its temperature into an invalid slot of
the PLL, or into the one nearest in temperature; without one the attempt has failed, and during a wake WAKE_FAIL shows it. BAND_SEARCH_RETRY
(R467): a failed attempt starts again. -/
def Obligations.PllCommandsComplete : Prop :=
  (∀ s : State, s.Canon → s.flag F.CLK_STAT_REF_OK 0 = true →
      ∃ u, u = (((s.setFlag F.CLK_STAT_REF_OK 0 false).setFlag F.CLK_STAT_AON_RC 0 true).post EV.EV_CLK_LOSS 0 0).stopPlls ∧
        u.flag F.CLK_STAT_REF_OK 0 = false ∧ (∀ p < 3, u.locked p = false) ∧ u.clk.attempt = [.idle, .idle, .idle] ∧
        s.Told u EV.EV_CLK_LOSS 0 0 ∧
        exec .refclkLoss s = .next ([0, 1, 2].foldl (fun (t : State) p => if s.locked p then t.losePll p else t) u)) ∧
  (∀ s : State, s.Canon → s.flag F.CLK_STAT_REF_OK 0 = false → ∃ t, exec .refclkRestored s = .next t ∧
      t.flag F.CLK_STAT_REF_OK 0 = true ∧ t.flag F.CLK_STAT_AON_RC 0 = false ∧
      s.RegsBut t [(F.CLK_STAT_REF_OK, 0), (F.CLK_STAT_AON_RC, 0)] ∧ s.Only t [.regs, .clk] ∧
      (s.gait = Gait.paddock ∧ s.clk.wake = false ∨ s.boot.reach.isSome = true → t.clk = s.clk) ∧
      (s.gait ≠ Gait.paddock ∨ s.clk.wake = true → s.boot.reach = none → s.clk.attempt.length = 3 → ∀ p < 3, s.locked p = false →
        t.attempt p = .search ∨ ∃ k, t.attempt p = .hop k)) ∧
  (∀ (s : State) (p : Pll), s.locked (pllNo p) = true → exec (.pllLossOfLock p) s = .next (
      let s1 := ((s.setFlag (lockFld (pllNo p)) 0 false).post EV.EV_CLK_LOSS (1 + pllNo p) 0).count (lossFld (pllNo p)) 0
      (s1.startAttempt (pllNo p) s1.tempNow).losePll (pllNo p))) ∧
  (∀ (s : State) (p : Pll), s.Canon → s.locked (pllNo p) = false → s.attempt (pllNo p) ≠ .idle → s.attempt (pllNo p) ≠ .failed →
      ∃ t, exec (.pllLock p) s = .next t ∧ t.locked (pllNo p) = true ∧ s.RegsBut t [(lockFld (pllNo p), 0)] ∧ s.Only t [.regs, .clk] ∧
        (p = .m → s.flag F.CLK_CFG_SYNC_EN 0 = false → s.clk.grid = none → t.clk.grid = some ((s.now + 319) / 320 % 25))) ∧
  (∀ (s : State) (p : Pll) (k : Nat), s.Canon → s.attempt (pllNo p) = .hop k → k < 8 → pllNo p < s.clk.attempt.length →
      ∃ t, exec (.pllHopTimeout p) s = .next t ∧ t.slotValid k = false ∧ t.attempt (pllNo p) = .search ∧ s.Only t [.regs, .clk]) ∧
  (∀ (s : State) (p : Pll) (b : Fin 64) (temp : Byte) (k : Nat), s.Canon → s.attempt (pllNo p) = .search → k < 8 →
      ((slotsOf (pllNo p)).find? fun j => !s.slotValid j) = some k → pllNo p < s.clk.attempt.length →
      ∃ t, exec (.bandSearchComplete p (some b) temp) s = .next t ∧ t.slotValid k = true ∧ t.fld (slotFld F.PLL_SLOT_BAND k) 0 = b ∧
        t.fld (slotFld F.PLL_SLOT_TEMP k) 0 = temp.toNat ∧ s.Only t [.regs, .clk] ∧
        (s.locked (pllNo p) = false → t.attempt (pllNo p) = .found)) ∧
  (∀ (s : State) (p : Pll) (temp : Byte), s.attempt (pllNo p) = .search → pllNo p < s.clk.attempt.length →
      ∃ t, exec (.bandSearchComplete p none temp) s = .next t ∧ t.attempt (pllNo p) = .failed ∧ s.Only t [.regs, .clk]) ∧
  (∀ (s : State) (p : Pll) (temp : Byte), s.attempt (pllNo p) = .failed →
      exec (.bandSearchRetry p temp) s = .next (s.startAttempt (pllNo p) temp.toNat)) ∧
  (∀ (s : State) (p : Pll) (b : Fin 64) (temp : Byte) (k : Nat), s.Canon → s.attempt (pllNo p) = .search → k < 8 →
      (∀ j ∈ slotsOf (pllNo p), s.slotValid j = true) → s.nearest temp.toNat (slotsOf (pllNo p)) = some k →
      ∃ t, exec (.bandSearchComplete p (some b) temp) s = .next t ∧ t.slotValid k = true ∧ t.fld (slotFld F.PLL_SLOT_BAND k) 0 = b ∧
        t.fld (slotFld F.PLL_SLOT_TEMP k) 0 = temp.toNat ∧ s.Only t [.regs, .clk]) ∧
  (∀ (s : State) (p : Pll) (temp : Byte), s.Canon → s.attempt (pllNo p) = .search → s.clk.wake = true →
      ∃ t, exec (.bandSearchComplete p none temp) s = .next t ∧ t.flag F.CLK_STAT_WAKE_FAIL 0 = true)

/-- CLK_OK_CHANGE: CLK_OK of a domain sets while its source is locked and releases the blocks it held (R468, R483), and clears with the loss
of its clock (R469). DLL_TAP_UPDATE: the DLL tracks PAIRCLK while PLL-M is locked and PAIRCLK is good (R470). PAIRCLK_OK_CHANGE: PAIRCLK_OK
shows it, its loss clears DLL_LOCK, and in Limp stops the DLL's domains (R470, R471). SYNC_IN_EDGE: with SYNC_EN = 1 the first edge places the grid
unless the PWM timebase runs on it already, and a later edge off it is an error (R464, R465). WAKE_SOURCE: a source is latched, and in Paddock starts the
wake it is enabled for (R474). WAKE_COMPLETE: the device is in Walk with its window and mailboxes open, EV_WAKE is posted, AIN_SAMP reads
EMPTY, and the HLP makes its warm restart (R351, R475). WAKE_FAIL: WAKE_FAIL shows a PLL that has not locked (R475). BANK_PRESENCE_CHANGE: a bank's
supply is known, and bank A's shows at the GDEN balls (R530, R531). -/
def Obligations.ClockCommandsComplete : Prop :=
  (∀ (s : State) (d : Fin 8), s.Canon → s.sourceOk d = true → s.clkOk d = false →
      ∃ t, exec (.clkOkChange d true) s = .next t ∧ t.clkOk d = true ∧ t.boot.held = s.boot.held.filter fun x => blockDomain x.1 != d.val) ∧
  (∀ (s : State) (d : Fin 8), d.val ≠ 0 → exec (.clkOkChange d false) s = .next (s.clearClk d)) ∧
  (∀ (s : State) (tap : Fin 64) (err : Int), s.Canon → s.locked 0 = true → s.flag F.CLK_STAT_PAIRCLK_OK 0 = true →
      s.flag F.DLL_STAT_FROZEN 0 = false → ∃ t, exec (.dllTapUpdate tap err) s = .next t ∧ t.fld F.DLL_STAT_TAP 0 = tap ∧
      t.flag F.CLK_STAT_DLL_LOCK 0 = decide (err.natAbs ≤ 100) ∧ s.RegsBut t [(F.DLL_STAT_TAP, 0), (F.CLK_STAT_DLL_LOCK, 0)] ∧ s.Only t [.regs]) ∧
  (∀ s : State, s.Canon → ∃ t, exec (.pairclkOkChange true) s = .next t ∧ t.flag F.CLK_STAT_PAIRCLK_OK 0 = true ∧
      s.RegsBut t [(F.CLK_STAT_PAIRCLK_OK, 0)] ∧ s.Only t [.regs]) ∧
  (∀ s : State, s.Canon → s.flag F.CLK_STAT_LIMP 0 = false → ∃ t, exec (.pairclkOkChange false) s = .next t ∧
      t.flag F.CLK_STAT_PAIRCLK_OK 0 = false ∧ t.flag F.CLK_STAT_DLL_LOCK 0 = false ∧
      s.RegsBut t [(F.CLK_STAT_PAIRCLK_OK, 0), (F.CLK_STAT_DLL_LOCK, 0)] ∧ s.Only t [.regs]) ∧
  (∀ (s : State) (k : Fin 25), s.flag F.CLK_CFG_SYNC_EN 0 = true →
      s.clk.grid = none ∨ (s.pwm.ran = false ∧ s.clk.gridSync = false) →
      ∃ t, exec (.syncInEdge k) s = .next t ∧ t.clk.grid = some k.val ∧ t.clk.gridSync = true ∧ s.Only t [.clk]) ∧
  (∀ (s : State) (k : Fin 25) (g : Nat), s.Canon → s.flag F.CLK_CFG_SYNC_EN 0 = true → s.clk.grid = some g → g ≠ k.val →
      s.pwm.ran = true ∨ s.clk.gridSync = true →
      ∃ t, exec (.syncInEdge k) s = .next t ∧ t.flag F.CLK_STAT_SYNC_ERR 0 = true ∧ s.Told t EV.EV_SYNC_ERR noUnit 0 ∧
        s.RegsBut t ((F.CLK_STAT_SYNC_ERR, 0) :: evqFlds)) ∧
  (∀ (s : State) (src : WakeSrc), s.Canon → s.wakeReal src = true → ∃ t, exec (.wakeSource src) s = .next t ∧
      bitOf (t.fld F.WAKE_STAT_LATCHED 0) (s.wakeBit src).1 = true ∧
      ((s.wakeBit src).2 = true → s.gait = Gait.paddock → t.clk.wake = true)) ∧
  (∀ s : State, s.Canon → s.gait = Gait.paddock → s.clk.wake = true → s.allLocked = true → s.fld F.CLK_STAT_CLK_OK 0 = 0xFF →
      ∃ u, exec .wakeComplete s = .next u.hlpWake ∧ u.gait = Gait.walk ∧ u.clk.wake = false ∧ u.win.ready = true ∧
        s.Told u EV.EV_WAKE noUnit (s.fld F.WAKE_STAT_LATCHED 0) ∧ (∀ n < 64, u.flag F.AIN_SAMP_EMPTY n = true) ∧
        ∀ m < 8, (vget u.fcp.boxes m).isOpen = !(vget s.fcp.boxes m).restarting) ∧
  (∀ s : State, s.Canon → s.gait = Gait.paddock → s.clk.wake = true → s.allLocked = false →
      ∃ t, exec .wakeFail s = .next t ∧ t.flag F.CLK_STAT_WAKE_FAIL 0 = true ∧ s.RegsBut t [(F.CLK_STAT_WAKE_FAIL, 0)] ∧ s.Only t [.regs]) ∧
  (∀ (s : State) (present : Bool), s.Canon → ∃ t, exec (.bankPresenceChange false present) s = .next t ∧ t.clk.bankA = present ∧
      t.fld F.GL_GDEN_PIN 0 = (if present ∧ s.fld F.GL_GDEN_STEW_LOW 0 = 0 then s.fld F.GL_GDEN_CMD 0 else 0) % 2 ^ (F.GL_GDEN_PIN.hi + 1 - F.GL_GDEN_PIN.lo) ∧
      s.RegsBut t [(F.GL_GDEN_PIN, 0)] ∧ s.Only t [.regs, .clk]) ∧
  (∀ (s : State) (present : Bool), ∃ t, exec (.bankPresenceChange true present) s = .next t ∧ t.clk.bankB = present ∧ s.Only t [.clk]) ∧
  (∀ s : State, s.flag F.CLK_STAT_LIMP 0 = true → exec (.pairclkOkChange false) s = .next
      (((((((s.setFlag F.CLK_STAT_PAIRCLK_OK 0 false).setFlag F.CLK_STAT_DLL_LOCK 0 false).clearClk 2).clearClk 3).clearClk 4).clearClk 5))) ∧
  (∀ (s : State) (d : Fin 8), s.Canon → d.val ≠ 0 → s.clkOk d = true → (s.clkBit d false).clkOk d = false ∧ s.clearClk d = (
      let u := s.clkBit d false
      if d.val = 4 then u.genStop else if d.val = 6 then u.forUnits 8 fun t l => t.laneStops l
      else if d.val = 7 then ((u.forUnits 4 fun t b => t.setFlag F.TB_STAT_AON_CARRIED b true).dropLock).forUnits 3 fun t m => t.linkDown m else u))

/-- RG0_BOUNDARY (R195): outside Paddock with the generator in service, the boundary falls one PERIOD after the last where nothing steers or
shifts it, and the first one on a point of the sync grid (R464); the new period has the next number, and the end of the period, the start of the new one, the reload, the releases, Spur, and the
ports, legs and lanes act in that order. SNAPSHOT_COMPLETE (R21, R512): the snapshot taken replaces the old one. PORT_RELOAD (R34, R77,
R250): at its own instant the legs of a Gate Link port end their period and begin the next, the port's counted period turns, its envelope
codes load, and comparators with a new threshold are evaluated afresh (R171). -/
def Obligations.BoundaryCommandsComplete : Prop :=
  (∀ s : State, s.rg0Runs = true → s.pwm.first = false → exec .rg0Boundary s = .next (
      ((((((s.elapse (s.nextTk - s.now)).endPeriod s.nextTk).startPeriod s.nextTk).capStopNow.capStartNow.limpEntry.manualLegs.reload.releases).spurBoundary
        s.spurOn).actBoundary s.nextTk s.steer))) ∧
  (∀ s : State, s.rg0Runs = true → s.pwm.first = true → exec .rg0Boundary s = .next (
      ((((s.elapse (s.gridPoint - s.now)).startPeriod s.gridPoint).capStopNow.capStartNow.limpEntry.manualLegs.reload.releases).spurBoundary
        false).actBoundary s.gridPoint 0)) ∧
  (∀ (s : State) (p : Nat), s.clk.grid = some p → s.now ≤ s.gridPoint ∧ s.gridPoint < s.now + 8000 ∧ s.gridPoint % 8000 = 320 * p % 8000) ∧
  (∀ s : State, s.clk.grid = none → s.gridPoint = s.now) ∧
  (∀ s : State, s.pwm.first = false → s.flag F.PAIR_CFG_PAIR_EN 0 = false → s.spurOn = false → s.nextTk = s.pwm.tk + 32 * s.period) ∧
  (∀ (s : State) (t : Nat), (s.startPeriod t).pwm.bnd = s.pwm.bnd + 1 ∧ (s.startPeriod t).pwm.tk = t ∧ (s.startPeriod t).pwm.first = false ∧
      (s.startPeriod t).pwm.pnum = (if s.pwm.ran then s.pwm.pnum + 1 else 0) ∧ (s.startPeriod t).evq.queue = s.evq.queue) ∧
  (∀ (s : State) (m : Memory Word), s.win.snapNew = some m → ∃ t, exec .snapshotComplete s = .next t ∧ t.win.snap = m ∧ t.win.snapNew = none ∧
      t.win.ports = s.win.portsNew ∧ s.Only t [.win]) ∧
  (∀ (s : State) (p : Fin 12) (t : Nat) (legs : List Nat), s.glPort p = true → s.rg0Runs = true → s.pwm.ran = true → t = s.pwm.tk + s.lPort p →
      legs = (s.legsOf p).filter s.ownReload → (∃ n ∈ legs, (s.leg n).at0 ≠ t) →
      exec (.portReload p) s = .next (((legs.foldl (fun u n => u.formLeg n t (u.leg n).w)
        ((legs.foldl (fun u n => u.endPeriodLeg n t) s).turnPort p)).loadEnvOf p).cmpAfresh))

/-- SUPERVISOR_WATCHDOG_EXPIRY (R480): it makes the unplanned restart, with every mailbox closed, RST_CAUSE at SVP_WDT and the commands in
flight kept; in a restart already in progress it begins it anew and joins its sources; at the third unplanned restart within 600 s it
asserts SVP_ESC, a System reset.
SUPERVISOR_RESTART_REOPEN (R393, Table 13.10): Fencen runs from the slot named, the epoch advances by 1, no command is in flight any more,
every mailbox reads RST_SEEN and is open with CSEQ 0, and EV_FCP_RESTART is posted. -/
def Obligations.SupervisorCommandsComplete : Prop :=
  (∀ s : State, s.Canon → s.svpWatched = true → s.recentRestarts < 2 → s.boot.reach = none → ∃ t, exec .supervisorWatchdogExpiry s = .next t ∧
      t.fcp.restartSlot = some s.boot.runSlot ∧ t.boot.restarts = s.boot.restarts ++ [s.now] ∧ t.fcp.planned = false ∧
      t.fcp.inflight = s.fcp.inflight ∧ t.devState = 0 ∧ t.fld F.RST_CAUSE_REACH 0 = 2 ∧
      (s.restarting = false → t.fld F.RST_CAUSE_SRC 0 = 2 ^ 3) ∧
      (s.restarting = true → t.fld F.RST_CAUSE_SRC 0 = s.fld F.RST_CAUSE_SRC 0 ||| 2 ^ 3 ∧ t.fcp.devWas = s.fcp.devWas) ∧
      ∀ m < 8, (vget t.fcp.boxes m).isOpen = false ∧ (vget t.fcp.boxes m).restarting = true) ∧
  (∀ s : State, s.svpWatched = true → 2 ≤ s.recentRestarts → s.boot.reach = none → ∃ t, exec .supervisorWatchdogExpiry s = .next t ∧
      t.boot.reach = some 1 ∧ t.boot.srcs = [4] ∧ t.fcp = State.reset.fcp ∧ t.ports = State.reset.ports) ∧
  (∀ (s : State) (r : Nat), s.svpWatched = true → 2 ≤ s.recentRestarts → s.boot.reach = some r → r ≤ 1 →
      ∃ t, exec .supervisorWatchdogExpiry s = .next t ∧ t.boot.reach = some r ∧ 4 ∈ t.boot.srcs) ∧
  (∀ (s : State) (k : Nat), s.Canon → s.fcp.restartSlot = some k → s.svpClock = true →
      ∃ t, exec .supervisorRestartReopen s = .next t ∧ t.boot.runSlot = k ∧ t.fcp.restartSlot = none ∧ t.fcp.inflight = [] ∧
        t.fld F.FCP_EPOCH_ALL 0 = (s.fld F.FCP_EPOCH_ALL 0 + 1) % 65536 ∧
        s.Told t EV.EV_FCP_RESTART noUnit ((s.fld F.FCP_EPOCH_ALL 0 + 1) % 65536 + 65536 * b2n (!s.fcp.planned)) ∧
        ∀ m < 8, (vget t.fcp.boxes m).isOpen = true ∧ (vget t.fcp.boxes m).restarting = false ∧
          (vget t.fcp.boxes m).rstSeen = true ∧ (vget t.fcp.boxes m).cseq = 0)

/-- UPDATE commands (Table 14.12). UPD_BEGIN, UPD_WRITE, UPD_VERIFY (R409): a session opens on a slot that neither runs nor boots, takes the
image in order, and closes with the slot VALID or INVALID and the result that the image's form, hashes, signatures and SVN give.
UPD_ACTIVATE (R410): a VALID slot becomes the boot slot, with a System reset where it is asked for and allowed. UPD_RESTART (R393, R410):
the planned restart into a VALID slot whose other components, those it has, are those running follows its completion, and a slot other than the running one becomes
the boot slot. UPD_SVN (R411, R496): the counter rises to the running SVN where SVN_BURN allows it. UPD_INFO answers with the slot's state
and changes nothing else. An NVM that fails gives FS_NVM (Table 14.12). -/
def Obligations.UpdateCommandsComplete : Prop :=
  (∀ (s : State) (tag : Fin 128) (e : Entry), s.Serves 0x0701 tag e → e.a 0 ≤ 1 → imageLenOk (e.a32 4) = true → s.boot.session = none →
      e.a 0 ≠ s.boot.runSlot → e.a 0 ≠ s.boot.boot → ∃ t, exec (.updBegin tag true) s = .next t ∧ t.boot.session = some (e.a 0, 0) ∧
      (t.slot (e.a 0)).st = 1 ∧ (t.slot (e.a 0)).len = e.a32 4 ∧ (t.slot (1 - e.a 0)) = s.slot (1 - e.a 0) ∧
      t.Answered tag FS.FS_OK [] [] ∧ s.Only t [.fcp, .macs, .boot]) ∧
  (∀ (s : State) (tag : Fin 128) (e : Entry) (k o : Nat), s.Serves 0x0702 tag e → s.boot.session = some (k, o) → k < 2 → e.a32 0 = o →
      o < (s.slot k).len → ∃ t, exec (.updWrite tag true) s = .next t ∧ t.boot.session = some (k, o + 1024) ∧
      (t.slot k).bytes = Memory.setMany (fun _ => 0xFF#8) (s.slot k).bytes o (slice e.payload 0 1024) ∧ (t.slot (1 - k)) = s.slot (1 - k) ∧
      t.Answered tag FS.FS_OK [] [] ∧ s.Only t [.fcp, .macs, .boot]) ∧
  (∀ (s : State) (tag : Fin 128) (e : Entry) (k o f ver svn st : Nat), s.Serves 0x0703 tag e → s.boot.session = some (k, o) → k < 2 →
      f = s.sigFails (s.slot k).image → ver = leAt (s.slot k).image 8 4 → svn = leAt (s.slot k).image 12 1 →
      st = (if o < (s.slot k).len ∨ imageForm (s.slot k).image = false ∨ imageHashes (s.slot k).image = false then FS.FS_IMAGE
        else if f ≠ 0 then FS.FS_SIG else if svn < s.boot.counter then FS.FS_ROLLBACK else FS.FS_OK) →
      ∃ t, exec (.updVerify tag) s = .next t ∧ t.boot.session = none ∧ (t.slot k).st = (if st = FS.FS_OK then 3 else 2) ∧
        t.slot (1 - k) = s.slot (1 - k) ∧
        t.Answered tag st (if st = FS.FS_IMAGE then [] else leBytes 4 f ++ leBytes 4 ver ++ leBytes 1 svn) [] ∧ s.Only t [.fcp, .macs, .boot]) ∧
  (∀ (s : State) (tag : Fin 128) (e : Entry), s.Serves 0x0704 tag e → e.a 0 ≤ 1 → e.a 1 = 0 → (s.slot (e.a 0)).st = 3 →
      ∃ t, exec (.updActivate tag true) s = .next t ∧ t.boot.boot = e.a 0 ∧ t.Answered tag FS.FS_OK [] [] ∧ s.Only t [.fcp, .macs, .boot]) ∧
  (∀ (s : State) (tag : Fin 128) (e : Entry), s.Serves 0x0704 tag e → e.a 0 ≤ 1 → e.a 1 = 1 → (s.slot (e.a 0)).st = 3 →
      s.flag F.PAIR_STATUS_ACT_OUT 0 = false → s.fld F.PAIR_STATUS_STATE 0 ≠ 0 ∨ s.allOff = true →
      exec (.updActivate tag true) s = .next (((s.modBoot fun b => { b with boot := e.a 0 }).done tag FS.FS_OK).assertReset 1 8)) ∧
  (∀ (s : State) (tag : Fin 128) (e : Entry), s.Serves 0x0705 tag e → e.a 0 = 0xFF → s.boot.runSlot ≤ 1 → (s.slot s.boot.runSlot).st = 3 →
      exec (.updRestart tag) s = .next ((s.done tag FS.FS_OK).svpRestart true 8 s.boot.runSlot)) ∧
  (∀ (s : State) (tag : Fin 128) (e : Entry), s.Serves 0x0706 tag e → e.a 0 = s.slotSvn s.boot.runSlot → s.boot.counter < e.a 0 →
      s.flag F.TACK_CTRL_SVN_BURN 0 = true → ∃ t, exec (.updSvn tag) s = .next t ∧ t.boot.counter = e.a 0 ∧ t.Answered tag FS.FS_OK [] [] ∧
      s.RegsBut t [(F.IDENT_BOOT_ARB_CNT, 0)] ∧ s.Only t [.regs, .fcp, .macs, .boot]) ∧
  (∀ (s : State) (tag : Fin 128) (e : Entry), s.Serves 0x0707 tag e → e.a 0 ≤ 1 → ∃ t, exec (.updInfo tag) s = .next t ∧
      t.Answered tag FS.FS_OK (leBytes 1 (s.slot (e.a 0)).st ++ leBytes 1 (b2n (decide (e.a 0 = s.boot.boot)) + 2 * b2n (decide (e.a 0 = s.boot.runSlot)))
        ++ [0#8, 0#8] ++ leBytes 4 (s.slotVersion (e.a 0)) ++ leBytes 1 (s.slotSvn (e.a 0)) ++ leBytes 1 s.boot.counter) [] ∧ s.Only t [.fcp, .macs]) ∧
  (∀ (s : State) (tag : Fin 128) (e : Entry), s.Serves 0x0705 tag e → e.a 0 ≤ 1 → e.a 0 ≠ s.boot.runSlot → (s.slot (e.a 0)).st = 3 →
      s.sameRest (e.a 0) = true →
      exec (.updRestart tag) s = .next (((s.modBoot fun b => { b with boot := e.a 0 }).done tag FS.FS_OK).svpRestart true 8 (e.a 0))) ∧
  (∀ (s : State) (tag : Fin 128) (e : Entry), s.Serves 0x0701 tag e → e.a 0 ≤ 1 → imageLenOk (e.a32 4) = true → s.boot.session = none →
      e.a 0 ≠ s.boot.runSlot → e.a 0 ≠ s.boot.boot → ∃ t, exec (.updBegin tag false) s = .next t ∧ t.Answered tag FS.FS_NVM [] [] ∧
      s.Only t [.fcp, .macs, .boot]) ∧
  (∀ (s : State) (tag : Fin 128) (e : Entry) (k o : Nat), s.Serves 0x0702 tag e → s.boot.session = some (k, o) → k < 2 → e.a32 0 = o →
      o < (s.slot k).len → ∃ t, exec (.updWrite tag false) s = .next t ∧ t.Answered tag FS.FS_NVM [] [] ∧ s.Only t [.fcp, .macs]) ∧
  (∀ (s : State) (tag : Fin 128) (e : Entry), s.Serves 0x0704 tag e → e.a 0 ≤ 1 → e.a 1 = 0 → (s.slot (e.a 0)).st = 3 →
      ∃ t, exec (.updActivate tag false) s = .next t ∧ t.Answered tag FS.FS_NVM [] [] ∧ s.Only t [.fcp, .macs])

/-- ATT_REPORT: with no report being built, a report over the nonce is begun and the command waits (R417). ATT_REPORT_BUILT: while Fencen
runs, the report and its two signatures are kept and the command answers with LENGTH (R417). ATT_READ and ATT_IDENTITY answer with up to 1
024 bytes of the report and of the identity statement from an offset within them (R416, R417). -/
def Obligations.AttestCommandsComplete : Prop :=
  (∀ (s : State) (tag : Fin 128) (e : Entry), s.Serves 0x0C01 tag e → s.boot.attNonce = none → ∃ t, exec (.attReport tag) s = .next t ∧
      t.boot.attNonce = some (slice e.args 0 32) ∧ t.boot.attReport = none ∧ s.Waits t tag ∧ s.Only t [.fcp, .boot]) ∧
  (∀ (s : State) (tag : Fin 128) (e : Entry) (n : List Byte), s.Inv → s.boot.attNonce = some n → s.fencenRuns = true →
      s.waitingOp 0x0C01 = some e → e.tag = tag.val → ∃ t, exec .attReportBuilt s = .next t ∧ t.boot.attNonce = none ∧
      t.boot.attReport = some (s.reportBody n ++ slice (Config.rsaSign (s.reportBody n)) 0 384 ++ slice (Config.slhSign (s.reportBody n)) 0 16224) ∧
      t.Answered tag FS.FS_OK (leBytes 4 16976) [] ∧ s.Only t [.fcp, .macs, .boot]) ∧
  (∀ (s : State) (tag : Fin 128) (e : Entry) (f : List Byte), s.Serves 0x0C02 tag e → s.boot.attReport = some f → e.a32 0 % 1024 = 0 →
      e.a32 0 < f.length → ∃ t, exec (.attRead tag) s = .next t ∧ t.Answered tag FS.FS_OK [] ((f.drop (e.a32 0)).take 1024) ∧ s.Only t [.fcp, .macs]) ∧
  (∀ (s : State) (tag : Fin 128) (e : Entry), s.Serves 0x0C03 tag e → e.a32 0 % 1024 = 0 → e.a32 0 < s.statement.length →
      ∃ t, exec (.attIdentity tag) s = .next t ∧ t.Answered tag FS.FS_OK [] ((s.statement.drop (e.a32 0)).take 1024) ∧ s.Only t [.fcp, .macs])

/-- CONFIG (R400, R401). CFG_STAGE: well-formed records join those staged by the mailbox. CFG_DISCARD: none are staged any more. CFG_COMMIT:
the staged records are validated as one configuration; one that passes waits with its records for its boundary, or with VALIDATE alone
answers FS_OK and changes nothing; one that fails answers with the first failing check and its record. COMMIT_TAKES_EFFECT: at a boundary 20
us later or more the configuration is in force, with the choices of its validation, and the command completes with its digest and its
report. -/
def Obligations.ConfigCommandsComplete : Prop :=
  (∀ (s : State) (tag : Fin 128) (e : Entry) (new rs : List (List Byte)), s.Serves 0x0101 tag e → splitRecs e.payload.length 0 e.payload = .inr new →
      stageAll (recsOf (vget s.fcp.staging e.mb)) new 0 = .inr rs →
      ∃ t, exec (.cfgStage tag) s = .next t ∧ vget t.fcp.staging e.mb = rs.flatten ∧ t.Answered tag FS.FS_OK [] [] ∧ s.Only t [.fcp, .macs]) ∧
  (∀ (s : State) (tag : Fin 128) (e : Entry), s.Serves 0x0103 tag e →
      ∃ t, exec (.cfgDiscard tag) s = .next t ∧ vget t.fcp.staging e.mb = [] ∧ t.Answered tag FS.FS_OK [] [] ∧ s.Only t [.fcp, .macs]) ∧
  (∀ (s : State) (tag : Fin 128) (e : Entry), s.Serves 0x0102 tag e → e.a 0 = 0 →
      (let rs := recsOf (vget s.fcp.staging e.mb); s.cfgVerdict (s.cfgApply rs).1 (withCtx rs (s.cfgApply rs).2) = none) →
      ∃ t, exec (.cfgCommit tag) s = .next t ∧ vget t.fcp.staging e.mb = [] ∧ t.fcp.cfgPend = (recsOf (vget s.fcp.staging e.mb)).flatten ∧
        t.fcp.cfgSeed = s.fresh ∧ s.Waits t tag ∧ s.Only t [.fcp]) ∧
  (∀ (s : State) (tag : Fin 128) (e : Entry), s.Serves 0x0102 tag e → e.a 0 = 1 →
      (let rs := recsOf (vget s.fcp.staging e.mb); s.cfgVerdict (s.cfgApply rs).1 (withCtx rs (s.cfgApply rs).2) = none) →
      ∃ t, exec (.cfgCommit tag) s = .next t ∧ t.Answered tag FS.FS_OK [] [] ∧ s.Only t [.fcp, .macs]) ∧
  (∀ (s : State) (tag : Fin 128) (e : Entry) (st i : Nat), s.Serves 0x0102 tag e → e.a 0 ≤ 1 → st < 65536 →
      (let rs := recsOf (vget s.fcp.staging e.mb); s.cfgVerdict (s.cfgApply rs).1 (withCtx rs (s.cfgApply rs).2) = some (st, i)) →
      ∃ t, exec (.cfgCommit tag) s = .next t ∧ t.Answered tag st (leBytes 2 i) [] ∧ s.Only t [.fcp, .macs]) ∧
  (∀ (s : State) (e : Entry), s.waitingOp 0x0102 = some e → s.atBoundary20 e = true →
      exec .commitTakesEffect s = .next (
        let x := { s with fresh := s.fcp.cfgSeed }.cfgApply (recsOf s.fcp.cfgPend)
        let t := s.cfgEffect { x.1 with fresh := max s.fresh x.1.fresh }
        let t1 := { t with fcp := { t.fcp with cfgPend := [] } }
        t1.complete e.tag FS.FS_OK t1.pnumOut (leBytes 4 (t1.reg R.IDENT_CFG_DIGEST 0).toNat) (t1.cfgReport (recsOf s.fcp.cfgPend) x.2)))

/-- RG0_PHASE_START (R27, R105, R203, R204): the contexts of the phase run in schedule order, ports whose work ends too late have missed
their deadline, and the configured ports of the phase commit their bundles, in the first phase with the PERIOD that waits. A parity error
that halts the CLE ends the phase (R124). RATE_GROUP_INSTANCE_RUN (R105, R107): the released instance of RG1 to RG3 runs once no higher
group has one. CLE_DEADLINE_MISS (R30, R204): configured ports that have not missed yet are counted and posted as missing their deadline.
RG_INSTANCE_OVERRUN (R107): a skipped release is counted and posted. FOLLOWING_ERROR_EXPIRY and FOLLOWING_ERROR_CLEAR (R115, R116): at
FE_TIME the latch sets, with its event and its action, and clears, with its event. -/
def Obligations.CleCommandsComplete : Prop :=
  (∀ (s : State) (phase : Fin 2), s.cleRuns = true → s.cle.phases = [phase == 1, false] → ∃ (s1 s2 : State) (l ports : List Nat),
      s1 = s.modCle (fun c => { c with phases := c.phases.set phase.val true }) ∧
      l = s1.scheduled ((s1.inGroup 0).filter fun i => s1.ctxGl i == (phase == 1)) ∧ s2 = l.foldl State.runCtx s1 ∧
      ports = ((List.range 12).filter fun p => (s.port p).cfg.configured && s.glPort p == (phase == 1)) ∧
      (s2.cle.halted = true → exec (.rg0PhaseStart phase) s = .next s2) ∧
      (s2.cle.halted = false → ∃ s3, s3 = s2.missPorts (ports.filter fun p =>
          !bitOf s.cle.missed p && s1.tooLate (s1.costTo l p) (s1.bundleLimit p)) ∧
        (phase = 0 → exec (.rg0PhaseStart phase) s =
          .next ((ports.foldl State.commitPort s3).commitPeriod (s1.tooLate (s1.costOf l) (s1.reloadSpan - 64)))) ∧
        (phase = 1 → exec (.rg0PhaseStart phase) s = .next (ports.foldl State.commitPort s3)))) ∧
  (∀ (s s1 : State) (g : Fin 3), s.cleRuns = true → vget s.cle.rgDue (g + 1) = true → (∀ h, h ≤ g.val → 0 < h → vget s.cle.rgDue h = false) →
      s1 = (s.scheduled ((s.inGroup (g + 1)).filter fun i => (s.ctx i).due)).foldl State.runCtx s →
      ∃ t, exec (.rateGroupInstanceRun g) s = .next t ∧ (s1.cle.halted = true → t = s1) ∧
        (s1.cle.halted = false → vget t.cle.rgDue (g + 1) = false ∧ t.cle.ram = s1.cle.ram ∧
          (g.val = 0 → s1.cle.rg1Late = none → t.cle.rg1Done = true) ∧
          (∀ n, g.val = 0 → s1.cle.rg1Late = some n → t.pair.recDue = some n ∧ t.cle.rg1Late = none))) ∧
  (∀ (s : State) (ports : BitVec 12) (new : List Nat), s.Canon → s.pwm.ran = true →
      new = ((List.range 12).filter fun p => bitOf ports.toNat p && !bitOf s.cle.missed p && (s.port p).cfg.configured) → new ≠ [] →
      ∃ t, exec (.cleDeadlineMiss ports) s = .next t ∧ t.cle.missed = s.cle.missed + (new.map (2 ^ ·)).sum ∧
        s.Told t EV.EV_CLE_DEADLINE noUnit (new.map (2 ^ ·)).sum ∧ s.Only t [.regs, .evq, .cle, .pwm, .trace, .recd]) ∧
  (∀ (s : State) (g : Fin 3), s.Canon → vget s.cle.rgSkip (g + 1) = true → ∃ t, exec (.rgInstanceOverrun g) s = .next t ∧
      vget t.cle.rgSkip (g + 1) = false ∧ s.Told t EV.EV_CLE_RG_SKIP (g + 1) 0 ∧ s.RegsBut t ((skipCnt (g + 1), 0) :: evqFlds)) ∧
  (∀ (s : State) (i : Fin 63), s.feExpired i = true → s.cflag F.CTX_STATUS_FE_LATCH i = false →
      exec (.followingErrorExpiry i) s = .next ((((s.setCflag F.CTX_STATUS_FE_LATCH i true).setCf F.CTX_STATUS_FE_TIMER i 0).post EV.EV_CLE_FE i
        (s.cf F.CTX_CFG_FE_ACT i)).feAction i)) ∧
  (∀ (s : State) (i : Fin 63), s.feExpired i = true → s.cflag F.CTX_STATUS_FE_LATCH i = true →
      exec (.followingErrorClear i) s = .next (((s.setCflag F.CTX_STATUS_FE_LATCH i false).setCf F.CTX_STATUS_FE_TIMER i 0).post
        EV.EV_CLE_FE_CLEAR i 0))

/-- SPUR_SESSION_START (R517): at the boundary after its request, while the conditions hold, ACTIVE sets, LEFT loads and the event is
posted. SPUR_SESSION_STOP (R518): when a condition of R517 ends, ACTIVE and every delay clear, back-pressure and requests are gone and the
event is posted. DEBUG_HALT and DEBUG_RESUME (R523): while debug access is open a processor is halted and posted, with the PWM frozen where
DBG_FREEZE says so, and resumed and posted; the generator counts on from where it stopped (R232). EXTEST (R522): the pins are driven while
the Tack Table is unlocked. -/
def Obligations.SpurAndDebugCommandsComplete : Prop :=
  (∀ (s : State) (b : Nat), s.Canon → s.spur.req = some b → b < s.pwm.bnd → s.flag F.TACK_CTRL_TEST_EN 0 = true → s.flag F.SPUR_CTRL_EN 0 = true →
      s.stwState = 1 → ∃ t, exec .spurSessionStart s = .next t ∧ t.flag F.SPUR_CTRL_ACTIVE 0 = true ∧
      t.fld F.SPUR_STAT_LEFT 0 = s.fld F.SPUR_CTRL_PERIODS 0 % 2 ^ (F.SPUR_STAT_LEFT.hi + 1 - F.SPUR_STAT_LEFT.lo) ∧ t.spur.req = none ∧
      s.Told t EV.EV_SPUR_START noUnit (s.fld F.SPUR_CTRL_PERIODS 0)) ∧
  (∀ s : State, s.Canon → s.spurMay = false → s.flag F.SPUR_CTRL_ACTIVE 0 = true → ∃ t, exec .spurSessionStop s = .next t ∧
      t.flag F.SPUR_CTRL_ACTIVE 0 = false ∧ t.fld F.SPUR_CLE_DLY 0 = 0 ∧ t.fld F.SPUR_ADC_DLY 0 = 0 ∧ t.fld F.SPUR_GL_DLY 0 = 0 ∧
      t.fld F.SPUR_BP_MB_MASK 0 = 0 ∧ t.fld F.SPUR_BP_MIRROR 0 = 0 ∧ t.spur.req = none ∧ s.Told t EV.EV_SPUR_STOP noUnit s.spurReason) ∧
  (∀ (s : State) (cpu : DbgCpu), s.Canon → s.dbgOpen = true → s.dbgIsHalted cpu = false → ∃ t, exec (.debugHalt cpu) s = .next t ∧
      t.dbgIsHalted cpu = true ∧ s.Told t EV.EV_DBG_HALT (dbgUnit cpu) 0 ∧
      (cpu = .cle → s.flag F.PWM_CTRL_DBG_FREEZE 0 = true → t.flag F.PWM_GSTAT_FROZEN 0 = true ∧ t.pwm.frozenAt = some s.now)) ∧
  (∀ s : State, s.dbgOpen = true → s.fcp.svpHalted = true → exec (.debugResume .svp) s = .next ((
      ({ s with fcp := { s.fcp with svpHalted := false } }).post EV.EV_DBG_HALT 0 1).svpResume)) ∧
  (∀ s : State, s.Canon → s.dbgOpen = true → s.cle.dbgHalted = true → ∃ t, exec (.debugResume .cle) s = .next t ∧ t.cle.dbgHalted = false ∧
      s.Told t EV.EV_DBG_HALT 1 1 ∧ t.flag F.PWM_GSTAT_FROZEN 0 = false ∧
      (∀ a, s.pwm.frozenAt = some a → s.clkOk 4 = true → t.pwm.tk = s.pwm.tk + (s.now - a) ∧ t.pwm.frozenAt = none) ∧
      (s.pwm.frozenAt = none ∨ s.clkOk 4 = false → t.pwm = s.pwm)) ∧
  (∀ s : State, s.dbgOpen = true → s.hlp.dbgHalted = true → ∃ t, exec (.debugResume .hlp) s = .next t ∧ t.hlp.dbgHalted = false ∧
      s.Told t EV.EV_DBG_HALT 2 1) ∧
  (∀ (s : State) (pins : BitVec 48), s.flag F.TACK_CTRL_LOCK 0 = false → ∃ t, exec (.extest pins) s = .next t ∧
      t.pwm.extest = some pins.toNat ∧ s.Only t [.pwm])

/-- Each QUERY command answers with what it names (R404): Q_RESULT with a context's status and results, Q_CTX with its words of the last
period, Q_PORT with what the snapshot holds of a port (R21), Q_OBS with an observer's estimate, Q_REG with the registers named, read in
their order (R120), Q_EVENTS with the recorder's records from the one named on, less those marked bad (R456, R499). All but Q_REG, whose
reads act as reads do, change nothing but the mailbox. -/
def Obligations.QueryCommandsComplete : Prop :=
  (∀ (s : State) (tag : Fin 128) (e : Entry), s.Serves 0x0401 tag e → e.a 0 < 63 → ∃ t, exec (.qResult tag) s = .next t ∧
      t.Answered tag FS.FS_OK (wordBytes ((List.range 5).map fun k => s.cword (e.a 0) (48 + k))) [] ∧ s.Only t [.fcp, .macs]) ∧
  (∀ (s : State) (tag : Fin 128) (e : Entry), s.Serves 0x0402 tag e → e.a 0 < 63 → ∃ t, exec (.qCtx tag) s = .next t ∧
      t.Answered tag FS.FS_OK [] (wordBytes ((List.range 64).map fun w => Memory.get ctxDflt s.cle.ramPrev (64 * e.a 0 + w))) ∧ s.Only t [.fcp, .macs]) ∧
  (∀ (s : State) (tag : Fin 128) (e : Entry), s.Serves 0x0403 tag e → e.a 0 < 12 → ∃ t, exec (.qPort tag) s = .next t ∧
      t.Answered tag FS.FS_OK [] (s.win.ports.getD (e.a 0) (List.replicate 64 0#8)) ∧ s.Only t [.fcp, .macs]) ∧
  (∀ (s : State) (tag : Fin 128) (e : Entry), s.Serves 0x0404 tag e → e.a 0 < 4 → ∃ t, exec (.qObs tag) s = .next t ∧
      t.Answered tag FS.FS_OK [] (s.obsBytes (e.a 0)) ∧ s.Only t [.fcp, .macs]) ∧
  (∀ (s : State) (tag : Fin 128) (e : Entry), s.Serves 0x0405 tag e → 1 ≤ e.a 0 → e.a 0 ≤ 64 → e.payload.length = 4 * e.a 0 → e.a 1 ≤ 1 →
      (∀ k < e.a 0, leAt e.payload (4 * k + 2) 2 % 4 = 0) → exec (.qReg tag) s = .next (
        let rd := fun (t : State) (k : Nat) => t.fencenRead (e.a 1 == 1) (leAt e.payload (4 * k) 1) (leAt e.payload (4 * k + 1) 1) (leAt e.payload (4 * k + 2) 2)
        let r := (List.range (e.a 0)).foldl (fun (a : List Word × State) k => (a.1 ++ [(rd a.2 k).1], (rd a.2 k).2)) ([], s)
        r.2.answer tag [] (wordBytes r.1))) ∧
  (∀ (s : State) (tag : Fin 128) (e : Entry), s.Serves 0x0406 tag e → ∃ t, exec (.qEvents tag) s = .next t ∧ s.Only t [.fcp, .macs] ∧
      ∀ l, l = ((s.recd.ring.filter fun r => leAt e.args 0 8 ≤ r.num && !s.recd.bad.contains r.num).take 32) →
      t.Answered tag FS.FS_OK (leBytes 8 ((l.getLast?.map fun r => r.num + 1).getD s.recd.next) ++
        leBytes 4 (min (2 ^ 32 - 1) ((s.recd.ring.head?.map (·.num)).getD s.recd.next - leAt e.args 0 8)))
        (l.flatMap fun r => leBytes 8 r.num ++ r.ev.bytes))

/-- COEF_WRITE: a quarter of a tile of the inactive bank is written with the tile's CRC, and the bank loses its mark (R109). COEF_COPY: the
inactive bank is copied from the active one, and is verified where every tile is intact (R111). COEF_SWAP: the swap locks the inactive bank
and waits (R109). SWAP_VERIFY_COMPLETE: with every tile intact and every port's block in range the bank is verified, and an ACTIVE paired
unit schedules the swap (R109, R281, R547). SWAP_TAKES_EFFECT: at a boundary that fits, the banks change places, the swap is counted and
posted, every configured port's governor follows, and the command completes (R109, R142). -/
def Obligations.CoefficientCommandsComplete : Prop :=
  (∀ (s : State) (tag : Fin 128) (e : Entry), s.Serves 0x0104 tag e → e.a 0 ≤ 15 → e.a 1 ≤ 3 → s.flag F.COEF_STATUS_SWAP_PEND 0 = false →
      s.bankNo ≤ 1 → ∃ t, exec (.coefWrite tag) s = .next t ∧
      vget t.coef.bank s.idle = Memory.setMany (fun _ => 0#32) (vget s.coef.bank s.idle) (1024 * e.a 0 + 256 * e.a 1)
        ((List.range 256).map fun i => BitVec.ofNat 32 (leAt e.payload (4 * i) 4)) ∧
      vget t.coef.dir s.idle = Memory.set (fun _ => zeroTileCrc) (vget s.coef.dir s.idle) (e.a 0) (BitVec.ofNat 32 (e.a32 4)) ∧
      vget t.coef.bank s.bankNo = vget s.coef.bank s.bankNo ∧ vget t.coef.dir s.bankNo = vget s.coef.dir s.bankNo ∧
      vget t.coef.verified s.idle = false ∧ t.Answered tag FS.FS_OK [] [] ∧ s.RegsBut t [(F.COEF_STATUS_INACT_VERIFIED, 0)] ∧
      s.Only t [.regs, .fcp, .coef, .macs]) ∧
  (∀ (s : State) (tag : Fin 128) (e : Entry) (t1 : State), s.Serves 0x0105 tag e → s.flag F.COEF_STATUS_SWAP_PEND 0 = false → s.bankNo ≤ 1 →
      t1 = (s.modCoef fun c => { c with bank := vmod c.bank s.idle fun _ => vget c.bank s.bankNo, dir := vmod c.dir s.idle fun _ => vget c.dir s.bankNo, badTiles := (c.badTiles.filter fun x => x.1 != s.idle) ++ (c.badTiles.filter fun x => x.1 == s.bankNo).map fun x => (s.idle, x.2) }) →
      t1.failing s.idle = 0 → ∃ t, exec (.coefCopy tag) s = .next t ∧ vget t.coef.bank s.idle = vget s.coef.bank s.bankNo ∧
      vget t.coef.dir s.idle = vget s.coef.dir s.bankNo ∧ vget t.coef.verified s.idle = true ∧ t.Answered tag FS.FS_OK [] [] ∧
      s.RegsBut t [(F.COEF_STATUS_INACT_VERIFIED, 0)] ∧ s.Only t [.regs, .fcp, .coef, .macs]) ∧
  (∀ (s : State) (tag : Fin 128) (e : Entry), s.Serves 0x0106 tag e → s.roleBad = false → s.flag F.COEF_STATUS_SWAP_PEND 0 = false →
      ∃ t, exec (.coefSwap tag) s = .next t ∧ t.flag F.COEF_STATUS_SWAP_PEND 0 = true ∧ s.Waits t tag ∧
        s.RegsBut t [(F.COEF_STATUS_SWAP_PEND, 0)] ∧ s.Only t [.regs, .fcp]) ∧
  (∀ s : State, s.Canon → s.flag F.COEF_STATUS_SWAP_PEND 0 = true → s.coef.swapAt = none → s.failing s.idle = 0 → s.swapBlocksBad s.idle = false →
      s.bankNo ≤ 1 → s.isActive = false → ∃ t, exec .swapVerifyComplete s = .next t ∧ vget t.coef.verified s.idle = true ∧
        t.coef.swapAt = some s.now ∧ s.Only t [.regs, .coef]) ∧
  (∀ s : State, s.Canon → s.flag F.COEF_STATUS_SWAP_PEND 0 = true → s.coef.swapAt = none → s.failing s.idle = 0 → s.swapBlocksBad s.idle = false →
      s.isActive = true → exec .swapVerifyComplete s = .next (
        let s1 := (s.setMark s.idle true).modCoef fun c => { c with swapAt := some s.now }
        { s1 with pair := { s1.pair with sched := s1.pair.sched ++ [⟨s1.swapPeriod, 1, none, none, 0⟩] } })) ∧
  (∀ s s3 s4 : State, s.swapDue = true →
      s3 = (let s1 := s.unlock.setFld F.COEF_STATUS_ACTIVE_B 0 s.idle
        let s2 := { s1.showMark with pair := { s1.pair with sched := s1.pair.sched.filter fun x => x.kind != 1 } }
        (s2.count F.COEF_STATUS_SWAP_CNT 0).post EV.EV_COEF_SWAP noUnit s2.bankNo) →
      s4 = (s3.forUnits 4 fun t p => if (t.port p).cfg.configured then t.obsSwap p (((List.range 4).map s.govMode).getD p 0) else t) →
      (s4.waitingOp 0x0106 = none → exec .swapTakesEffect s = .next s4) ∧
      (∀ e, s4.waitingOp 0x0106 = some e → exec .swapTakesEffect s = .next (s4.doneAt e.tag FS.FS_OK)))

/-- SCRUB_TILE_CHECK (R112, R498): the scrubber reaches a tile of any store, after an upset where one is named: an intact one changes
nothing more, and a failing one acts by its store's row; a bank's tile by R112. CONFIG_TILE_REWRITE (R498): a configuration tile found bad
is intact again. CTX_PRESET waits for the next boundary, and PRESET_TAKES_EFFECT writes the context's states there and completes (R113,
R114). OBS_UPDATE (R133, R134, R137): the update is counted; without a usable window or with fewer than four valid bins its reason is shown
and no estimate is valid; otherwise the estimate is published. -/
def Obligations.TilePresetAndObserverCommandsComplete : Prop :=
  (∀ (s : State) (t : Fin 64), t.val < 16 → s.tileOk 0 t = true → exec (.scrubTileCheck .bankA t false) s = .next s) ∧
  (∀ (s : State) (t : Fin 64), t.val < 16 → s.tileOk 0 t = false → exec (.scrubTileCheck .bankA t false) s = .next (s.bankFail 0 t)) ∧
  (∀ (s : State) (t : Fin 64), t.val < 16 → (5, t.val) ∉ s.coef.badTiles → ∃ u, exec (.scrubTileCheck .config t true) s = .next u ∧
      (5, t.val) ∈ u.coef.found ∧ (5, t.val) ∈ u.coef.badTiles ∧ s.Told u EV.EV_TILE_CRC t 5) ∧
  (∀ (s : State) (t : Fin 16), (5, t.val) ∈ s.coef.found → ∃ u, exec (.configTileRewrite t) s = .next u ∧ (5, t.val) ∉ u.coef.found ∧
      (5, t.val) ∉ u.coef.badTiles ∧ s.Only u [.coef]) ∧
  (∀ (s : State) (tag : Fin 128) (e : Entry), s.Serves 0x0107 tag e → e.a 0 ≤ 62 → e.a 1 ≤ 15 → e.a16 2 % 4 = 0 → e.a16 2 ≤ 124 →
      e.a16 2 + e.payload.length ≤ 128 → s.presetBad e = false → s.presetOpen (e.a 0) = true →
      ∃ t, exec (.ctxPreset tag) s = .next t ∧ s.Waits t tag ∧ s.Only t [.fcp]) ∧
  (∀ (s : State) (tag : Fin 128) (e : Entry), s.Due 0x0107 tag e → s.atBoundary e = true →
      ∃ t, exec (.presetTakesEffect tag) s = .next t ∧ t.Answered tag FS.FS_OK [] [] ∧ t.cle = (s.preset e).cle ∧ s.Only t [.fcp, .cle, .macs]) ∧
  (∀ (s : State) (p : Fin 4) (s1 : State), s.Canon → (s.port p).cfg.configured = true →
      s1 = s.setFld F.OBS_STATUS_UPD_SEQ p (s.fld F.OBS_STATUS_UPD_SEQ p + 1) →
      s1.obsWhy p ≠ 0 ∨ (((s1.obsBins p).take 31).filter fun x => x.2.2.2).length < 4 →
      ∃ t, exec (.obsUpdate p) s = .next t ∧ t.flag F.OBS_STATUS_EST_VALID p = false ∧ t.fld F.OBS_STATUS_RES_BIN p = 0xFF ∧
        t.fld F.OBS_STATUS_VALID_BINS p = 0 ∧ t.fld F.OBS_STATUS_UPD_SEQ p = s1.fld F.OBS_STATUS_UPD_SEQ p ∧
        t.fld F.OBS_STATUS_INVAL_WHY p = (if s1.obsWhy p = 0 then 3 else s1.obsWhy p) %
          2 ^ (F.OBS_STATUS_INVAL_WHY.hi + 1 - F.OBS_STATUS_INVAL_WHY.lo) ∧ s.Only t [.regs]) ∧
  (∀ (s : State) (p : Fin 4) (s1 : State), (s.port p).cfg.configured = true →
      s1 = s.setFld F.OBS_STATUS_UPD_SEQ p (s.fld F.OBS_STATUS_UPD_SEQ p + 1) → s1.obsWhy p = 0 →
      exec (.obsUpdate p) s = .next (if (((s1.obsBins p).take 31).filter fun x => x.2.2.2).length < 4 then s1.obsInvalid p 3
        else s1.obsValid p (s1.obsBins p) (reduce (s1.pw p 2) (s1.obsBins p)))) ∧
  (∀ (s s1 : State) (store : TileStore) (t : Fin 64) (upset bad : Bool) (c : Nat), c = storeCode store → t.val < storeTiles c →
      (c = 2 → t.val < s.hlp.prog.count) →
      s1 = (if upset = true ∧ (c, t.val) ∉ s.coef.badTiles then s.modCoef fun d => { d with badTiles := d.badTiles ++ [(c, t.val)] } else s) →
      bad = (if c < 2 then !s1.tileOk c t
        else (c == 3 && !s1.profOk t) || s1.coef.badTiles.contains (c, t.val) || (c == 2 && !s1.hlp.prog.tileOk t)) →
      exec (.scrubTileCheck store t upset) s = .next (if bad = true ∧ (c = 4 → s.stwState = 2) then s1.tileFail c t else s1))

/-- LOS_CHANGE and LOL_CHANGE (R239): the flag shows the change, and a Gate Link lane in MEASURE or UP that has lost its light, its clock or
its alignment enters LOST. COMMA_RECEIVED (R240): a comma is shown with its place, and the sixteenth in a row at offset 0 sets ALIGNED.
ALIGNMENT_LOSS (R240): ALIGNED clears and 8 errors are counted; a Gate Link lane in MEASURE or UP enters LOST. LANE_STATE_CHANGE (R266,
R286, Table 08.8): a lane leaves OFF when it is enabled, SYNC when light and clock are there, ALIGN when it is aligned, and MEASURE, on a
Gate Link lane, when all was measured, echoed and written; a disabled lane goes to OFF. LANE_STATUS_TIMEOUT (R266): without a status frame
for HOLD_N + 2 periods a lane enters LOST. LANE_LOST_TIMEOUT (Tables 08.8, 09.4): it goes to SYNC. A new state is shown and posted (R266),
and a lane that enters LOST raises the faults of its legs (Table 08.8). -/
def Obligations.LaneCommandsComplete : Prop :=
  (∀ (s : State) (l : Fin 8) (on : Bool), s.Canon → ¬ (l.val < 6 ∧ (s.laneState l = 3 ∨ s.laneState l = 4)) →
      on = true ∨ s.lnkRuns = true → exec (.losChange l on) s = .next (s.setFlag F.LANE_STAT_LOS l on) ∧
      exec (.lolChange l on) s = .next (s.setFlag F.LANE_STAT_LOL l on)) ∧
  (∀ (s : State) (l : Fin 8), s.Canon → l.val < 6 → s.laneState l = 3 ∨ s.laneState l = 4 →
      exec (.losChange l true) s = .next ((s.setFlag F.LANE_STAT_LOS l true).loseLane l) ∧
      exec (.lolChange l true) s = .next ((s.setFlag F.LANE_STAT_LOL l true).loseLane l)) ∧
  (∀ (s : State) (l : Fin 8), s.Canon → s.laneState l ≠ 0 → s.lnkRuns = true → 15 ≤ vget s.gl.commas l → ∃ t, exec (.commaReceived l 0) s = .next t ∧
      t.flag F.LANE_STAT_ALIGNED l = true ∧ t.flag F.LANE_STAT_COMMA_SEEN l = true ∧ t.fld F.LANE_STAT_COMMA_POS l = 0 ∧
      vget t.gl.commas l = 16 ∧ s.RegsBut t [(F.LANE_STAT_ALIGNED, l), (F.LANE_STAT_COMMA_SEEN, l), (F.LANE_STAT_COMMA_POS, l)] ∧
      s.Only t [.regs, .gl]) ∧
  (∀ (s : State) (l : Fin 8) (k : Fin 10), s.Canon → s.laneState l ≠ 0 → s.lnkRuns = true → k.val ≠ 0 ∨ vget s.gl.commas l < 15 →
      ∃ t, exec (.commaReceived l k) s = .next t ∧ t.flag F.LANE_STAT_ALIGNED l = s.flag F.LANE_STAT_ALIGNED l ∧
      t.fld F.LANE_STAT_COMMA_POS l = k ∧ vget t.gl.commas l = (if k.val = 0 then vget s.gl.commas l + 1 else 0) ∧
      s.RegsBut t [(F.LANE_STAT_COMMA_SEEN, l), (F.LANE_STAT_COMMA_POS, l)] ∧ s.Only t [.regs, .gl]) ∧
  (∀ (s : State) (l : Fin 8), s.Canon → s.laneState l ≠ 0 → ¬ (l.val < 6 ∧ (s.laneState l = 3 ∨ s.laneState l = 4)) →
      ∃ t, exec (.alignmentLoss l) s = .next t ∧
      t.flag F.LANE_STAT_ALIGNED l = false ∧ t.fld F.LANE_CNT_CODE_ERR l = min 65535 (s.fld F.LANE_CNT_CODE_ERR l + 8) ∧
      vget t.gl.commas l = 0 ∧ s.RegsBut t [(F.LANE_STAT_ALIGNED, l), (F.LANE_CNT_CODE_ERR, l)] ∧ s.Only t [.regs, .gl]) ∧
  (∀ (s : State) (l : Fin 8), s.laneState l = 0 → s.flag F.LANE_CFG_EN l = true →
      exec (.laneStateChange l) s = .next (s.toLane l 1)) ∧
  (∀ (s : State) (l : Fin 8), s.laneState l = 1 → s.lnkRuns = true → s.flag F.LANE_CFG_EN l = true → s.flag F.LANE_STAT_LOS l = false →
      s.flag F.LANE_STAT_LOL l = false → exec (.laneStateChange l) s = .next (s.toLane l 2)) ∧
  (∀ (s : State) (l : Fin 8), s.laneState l = 2 → s.lnkRuns = true → s.flag F.LANE_CFG_EN l = true → s.flag F.LANE_STAT_ALIGNED l = true →
      exec (.laneStateChange l) s = .next (s.beginMeasure l)) ∧
  (∀ (s : State) (l : Fin 8), s.laneState l = 3 → l.val < 6 → s.lnkRuns = true → s.flag F.LANE_CFG_EN l = true → (s.lane l).measured = true →
      exec (.laneStateChange l) s = .next (s.endMeasure l)) ∧
  (∀ (s : State) (l : Fin 6), s.laneState l = 3 ∨ s.laneState l = 4 → s.holdN + 2 ≤ (s.lane l).missing →
      exec (.laneStatusTimeout l) s = .next (s.loseLane l)) ∧
  (∀ (s : State) (l : Fin 8), s.laneState l = 5 → exec (.laneLostTimeout l) s = .next (s.toLane l 1)) ∧
  (∀ (s : State) (l : Fin 8) (n : Nat), s.Canon → n < 8 → (s.toLane l n).laneState l = n ∧
      s.Told (s.toLane l n) EV.EV_LANE_STATE l (s.laneState l + 256 * n) ∧
      s.RegsBut (s.toLane l n) ((F.LANE_STAT_STATE, l.val) :: (F.GL_GDEN_CMD, 0) :: (F.PAIR_STATUS_ONE_LANE, 0) :: evqFlds)) ∧
  (∀ (s : State) (l : Fin 6), s.Canon → s.slotMask l = 0 → s.loseLane l = s.toLane l 5) ∧
  (∀ (s : State) (l : Fin 6), s.slotMask l ≠ 0 → (s.toLane l 5).slotMask l = s.slotMask l →
      s.loseLane l = (s.toLane l 5).faultSlots l (s.slotMask l)) ∧
  (∀ (s : State) (l : Fin 8), exec (.losChange l false) s = .next ((s.setFlag F.LANE_STAT_LOS l false).checkLoss l) ∧
      (s.lnkRuns = true → exec (.lolChange l false) s = .next ((s.setFlag F.LANE_STAT_LOL l false).checkLoss l)) ∧
      (s.lnkRuns = false → exec (.lolChange l false) s = .next s)) ∧
  (∀ (s : State) (l : Fin 8), s.Canon → l.val < 6 → s.laneState l = 3 ∨ s.laneState l = 4 →
      exec (.alignmentLoss l) s = .next ((({ s with gl := { s.gl with commas := vmod s.gl.commas l fun _ => 0 } }.countN
        F.LANE_CNT_CODE_ERR l 8).setFlag F.LANE_STAT_ALIGNED l false).loseLane l)) ∧
  (∀ (s : State) (l : Fin 8), s.laneState l ≠ 0 → s.flag F.LANE_CFG_EN l = false →
      exec (.laneStateChange l) s = .next (({ s with gl := { s.gl with commas := vmod s.gl.commas l fun _ => 0 } }.setFlag
        F.LANE_STAT_ALIGNED l false).toLane l 0))

/-- PING_SEND (R241, R257, R285): in MEASURE and UP a PING leaves, between frames and other ordered sets, with the next number. ECHO_RECEIVED (R258): an ECHO of the PING in time enters
the round trips, and the link latency is their mean by R258. ECHO_LOST (R258): the PING is no longer out. PARAM_SEND (R241, R260): at such a place the bytes of a
PARAM hand the value of Table 08.5 to the driver, and the next frame applies it. FRAME_SLOT_OPEN (R26, R243 to R246, R259): a frame carries
the programs of the next period, and the DELTA values that it changes; a violation that the guard finds in them is crossfire (R223). STATUS_FRAME_RECEIVED (R261, R262): a frame that does not verify is
counted; one that does is heard and its echo kept, its slots' fields are shown, and its faults act. ALERT_RECEIVED (R262): an alert whose
check byte is the complement of its mask acts, and another is discarded. -/
def Obligations.GateLinkTrafficCommandsComplete : Prop :=
  (∀ (s : State) (l : Fin 8), s.pings l = true → s.laneFree l = true → ∃ t, exec (.pingSend l) s = .next t ∧
      (t.lane l).pingOut = some (s.lane l).pingSeq ∧ (t.lane l).pingSeq = ((s.lane l).pingSeq + 1) % 256 ∧ (t.lane l).sending = some (s.now + 2 * s.symbol l, none) ∧ s.Only t [.gl]) ∧
  (∀ (s : State) (l : Fin 8) (q : Byte) (rtt : Nat), s.pings l = true → (s.lane l).pingOut = some q.toNat → rtt ≤ 9600 →
      exec (.echoReceived l q rtt) s = .next ((s.modLane l fun x => { x with pingOut := none, rtts := (rtt :: x.rtts).take 64, echoes := x.echoes + 1 }).measure l)) ∧
  (∀ (s : State) (l m a : Nat), s.Canon → l < 8 → m = (s.lane l).meas (s.answers l) → m < 65536 → a = s.fld F.GL_DELAY_L_ACT l →
      6 ≤ l ∨ s.laneState l ≠ 4 ∨ m ≤ 4000 ∧ ((s.lane l).settled = false ∨ m ≤ a + 32 ∧ a ≤ m + 32) →
      (s.measure l).fld F.GL_DELAY_L_MEAS l = m ∧ s.RegsBut (s.measure l) [(F.GL_DELAY_L_MEAS, l)] ∧ s.Only (s.measure l) [.regs]) ∧
  (∀ (s : State) (l : Fin 8), ∃ t, exec (.echoLost l) s = .next t ∧ (t.lane l).pingOut = none ∧ s.Only t [.gl]) ∧
  (∀ (s : State) (l : Fin 6) (a : Fin 26), s.pings l = true → s.laneFree l = true → ∃ t, exec (.paramSend l a) s = .next t ∧
      (a.val, s.paramVal l a) ∈ (t.lane l).written ∧ (t.lane l).param = paramBytes a (s.paramVal l a) ∧ a.val ∉ (t.lane l).due ∧
      (t.lane l).apply = true ∧ (t.lane l).sending = some (s.now + 5 * s.symbol l, some a.val) ∧ s.Only t [.gl]) ∧
  (∀ (s : State) (l : Fin 8), s.laneFree l = false → exec (.pingSend l) s = .next s) ∧
  (∀ (s : State) (l : Fin 6) (a : Fin 26), s.laneFree l = false → exec (.paramSend l a) s = .next s) ∧
  (∀ (s : State) (l : Fin 6), s.laneState l = 3 ∨ s.laneState l = 4 ∨ s.laneState l = 5 → s.gait ≠ Gait.paddock →
      s.lnkRuns = true → s.genHeld = false → ∃ t, exec (.frameSlotOpen l) s = .next t ∧ (t.lane l).frame =
        glFrame (s.pnumOut + 1) s.nextPrograms.period (s.flag F.PAIR_STATUS_ACT_OUT 0)
          ((s.lane l).apply || !(s.newDeltas s.nextPrograms l).isEmpty) (s.fld F.LANE_CFG_UNIT_ID l) (s.frameChans s.nextPrograms l) ∧
        (t.lane l).inFrame = some (0, s.now + 110 * s.symbol l) ∧ (t.lane l).apply = false ∧
        (∀ w ∈ s.newDeltas s.nextPrograms l, w ∈ (t.lane l).written) ∧ (s.guardFrame s.nextPrograms l = s → s.Only t [.gl])) ∧
  (∀ (s t : State) (l n : Nat), (List.range 8).filterMap (s.slotLeg l) = [n] → s.guardFrame t l =
      if t.flag F.LEG_STAT_CROSSFIRE n = true ∧ s.flag F.LEG_STAT_CROSSFIRE n = false then s.crossfire n else s) ∧
  (∀ (s : State) (l : Fin 6) (b : List Byte), s.Canon → 3 ≤ s.laneState l → statusOk b = false → ∃ t,
      exec (.statusFrameReceived l b) s = .next t ∧ t.fld F.LANE_CNT_CRC_ERR l = min 255 (s.fld F.LANE_CNT_CRC_ERR l + 1) ∧
      s.RegsBut t [(F.LANE_CNT_CRC_ERR, l)] ∧ s.Only t [.regs]) ∧
  (∀ (s : State) (l : Fin 6) (b : List Byte), 3 ≤ s.laneState l → statusOk b = true → statusFaults b = 0 → leAt b 3 1 < 0x24 →
      ∃ t, exec (.statusFrameReceived l b) s = .next t ∧ (t.lane l).fresh = true ∧ (t.lane l).missing = 0 ∧
      (t.lane l).gden = bitOf (leAt b 2 1) 6 ∧ (leAt b 3 1, leAt b 4 2) ∈ (t.lane l).echoed ∧ s.Only t [.regs, .gl]) ∧
  (∀ (s : State) (l : Fin 6) (m c : Byte), 3 ≤ s.laneState l → c = m ^^^ 0xFF#8 →
      exec (.alertReceived l m c) s = .next (s.faultSlots l m.toNat)) ∧
  (∀ (s : State) (l : Fin 6) (m c : Byte), c ≠ m ^^^ 0xFF#8 → exec (.alertReceived l m c) s = .next s) ∧
  (∀ (s s1 s2 s3 : State) (l : Fin 6) (b : List Byte), 3 ≤ s.laneState l → statusOk b = true →
      s1 = s.modLane l (fun x => { x with
        fresh := true, missing := 0, portB := bitOf (leAt b 2 1) 0, gden := bitOf (leAt b 2 1) 6,
        clean := statusFaults b == 0 && !bitOf (leAt b 2 1) 5,
        echoed := (leAt b 3 1, leAt b 4 2) :: x.echoed.filter (·.1 != leAt b 3 1) }) →
      s2 = ((s1.setFlag F.LANE_STAT_DRV_OBEY l (bitOf (leAt b 2 1) 3)).forUnits 8 fun t k => t.takeSlot l k b) →
      s3 = s2.remeasure l (leAt b 3 1) →
      (statusFaults b &&& s3.slotMask l = 0 → exec (.statusFrameReceived l b) s = .next s3) ∧
      (statusFaults b &&& s3.slotMask l ≠ 0 → exec (.statusFrameReceived l b) s = .next (s3.faultSlots l (statusFaults b))))

/-- GDEN_READBACK_SAMPLE (R265): each pin is sampled against its driven level; pins that read as driven show no error, and the second sample
in a row that does not sets RB_ERR, is posted and raises its cause. GD_CLEAR (R264, R280, R281): the clear of a lane whose legs do not
switch takes the pin low on a unit that is not ACTIVE in a pair, and names pair period n on an ACTIVE one. GDEN_LOW_END (R264, R281): the
pin rises; on an ACTIVE unit, after a status frame with GDEN = 0, at the pair period that it names. GD_CLEAR_STATUS_WAIT_END (R264): a
status frame without a fault clears the faults, and the command completes with FS_OK or, without one, with FS_GD_FAULT. -/
def Obligations.GateDriverCommandsComplete : Prop :=
  (∀ (s : State) (p : BitVec 6), s.Canon → p.toNat = s.gdenDriven → Cause.gdenReadback ∉ s.stw.active →
      exec (.gdenReadbackSample p) s = .next (((s.setFld F.GL_GDEN_PIN 0 p.toNat).modStw fun w =>
        { w with gdenLow := if p = 0#6 then min 2 (w.gdenLow + 1) else 0 }).forUnits 6 fun t g => t.modLane g fun x => { x with rbBad := 0 })) ∧
  (∀ (s : State) (tag : Fin 128) (e : Entry), s.Serves 0x020C tag e → e.a 0 ≤ 5 → e.a16 2 = 0 ∨ 10 ≤ e.a16 2 ∧ e.a16 2 ≤ 1000 →
      s.notActive = false → s.isActive = false → s.laneSwitching (e.a 0) = false → (s.lane (e.a 0)).clear = 0 →
      (∀ x ∈ s.pair.sched, 2 ≤ x.kind → bitOf x.lanes (e.a 0) = false) →
      exec (.gdClear tag) s = .next ((s.start tag).clearLanes (2 ^ e.a 0) 1)) ∧
  (∀ (s : State) (tag : Fin 128) (e : Entry), s.Serves 0x020C tag e → e.a 0 ≤ 5 → e.a16 2 = 0 ∨ 10 ≤ e.a16 2 ∧ e.a16 2 ≤ 1000 →
      s.notActive = false → s.isActive = true → s.laneSwitching (e.a 0) = false → (s.lane (e.a 0)).clear = 0 →
      (∀ x ∈ s.pair.sched, 2 ≤ x.kind → bitOf x.lanes (e.a 0) = false) →
      ∃ t, exec (.gdClear tag) s = .next t ∧ t.pair.sched = s.pair.sched ++ [⟨s.pairAhead, 2, none, none, 2 ^ e.a 0⟩] ∧
      s.Waits t tag ∧ s.Only t [.fcp, .pair]) ∧
  (∀ (s : State) (l : Nat), l < 6 → ((s.clearLanes (2 ^ l) 1).lane l).clear = 1 ∧ ((s.clearLanes (2 ^ l) 1).lane l).clean = false ∧
      s.Only (s.clearLanes (2 ^ l) 1) [.regs, .gl]) ∧
  (∀ (s : State) (l : Fin 6), (s.lane l).clear = 1 → s.notActive = false → s.isActive = false →
      exec (.gdenLowEnd l) s = .next (s.clearLanes (2 ^ l.val) 2)) ∧
  (∀ (s : State) (l : Fin 6), (s.lane l).clear = 1 → s.notActive = false → s.isActive = true → (s.lane l).gden = false →
      (∀ x ∈ s.pair.sched, x.kind = 3 → bitOf x.lanes l = false) →
      ∃ t, exec (.gdenLowEnd l) s = .next t ∧ t.pair.sched = s.pair.sched ++ [⟨s.pairAhead, 3, none, none, 2 ^ l.val⟩] ∧
      s.Only t [.pair]) ∧
  (∀ (s : State) (l : Fin 6) (tag : Fin 128) (e : Entry), s.Inv → s.svpRuns = true → (s.lane l).clear = 2 → (s.lane l).clean = true →
      (s.fcp.inflight.find? fun e => e.op == 0x020C && e.started && e.a 0 == l.val) = some e → e.tag = tag.val →
      ∃ t, exec (.gdClearStatusWaitEnd l) s = .next t ∧ (t.lane l).clear = 0 ∧ t.Answered tag FS.FS_OK [] [] ∧
      s.Only t [.regs, .fcp, .gl, .macs]) ∧
  (∀ (s : State) (l : Fin 6) (tag : Fin 128) (e : Entry), s.Inv → s.svpRuns = true → (s.lane l).clear = 2 → (s.lane l).clean = false →
      (s.fcp.inflight.find? fun e => e.op == 0x020C && e.started && e.a 0 == l.val) = some e → e.tag = tag.val →
      ∃ t, exec (.gdClearStatusWaitEnd l) s = .next t ∧ (t.lane l).clear = 0 ∧ t.Answered tag FS.FS_GD_FAULT [] [] ∧
      s.Only t [.fcp, .gl, .macs]) ∧
  (∀ (s s1 : State) (p : BitVec 6), s1 = (((s.setFld F.GL_GDEN_PIN 0 p.toNat).modStw fun w =>
        { w with gdenLow := if p = 0#6 then min 2 (w.gdenLow + 1) else 0 }).forUnits 6 fun t g => t.gdenSample p.toNat g) →
      exec (.gdenReadbackSample p) s = .next (s1.setActive Cause.gdenReadback ((List.range 6).any fun g => decide (2 ≤ (s1.lane g).rbBad)))) ∧
  (∀ (s : State) (p g : Nat), g < 6 → bitOf p g ≠ bitOf s.gdenDriven g → (s.lane g).rbBad = 1 → ∃ s1 e,
      s1 = s.modLane g (fun x => { x with rbBad := 2 }) ∧ e = s.fld F.GL_GDEN_RB_ERR 0 ||| 2 ^ g ∧
      s.gdenSample p g = (((s1.setFld F.GL_GDEN_RB_ERR 0 e).post EV.EV_GDEN_RB noUnit e).cause Cause.gdenReadback)) ∧
  (∀ (s : State) (l : Fin 6), (s.lane l).clear = 2 → (∀ e ∈ s.fcp.inflight, e.op ≠ 0x020C) →
      ∃ t, exec (.gdClearStatusWaitEnd l) s = .next t ∧ (t.lane l).clear = 0 ∧ s.Only t [.regs, .gl])

/-- PARTNER_ACT_CHANGE (R272, R275, R282): a level that counts as new is shown; a fall notes its instant and makes a takeover due on a
STANDBY unit with TAKEOVER_EN or a handover under way; a rise ends both, sets the GDEN pins anew, and on a unit with ACT_OUT = 1 is a
conflict, or within 2 us of its own rise lets ACT_OUT fall when PRIO is 1. ACT_OUT_READBACK_MISMATCH (R272): cause 0x14 begins or ends.
MISSING_RG0_BOUNDARY (R273): ACT_OUT falls, but not in Paddock. SGR_IN_CHANGE (R277, R315): a high level holds a remote SGR; a low one is
shown. REMOTE_SGR_END (R315): the remote SGR ends once SGR_IN is low. TAKEOVER (R292): a STANDBY unit with a takeover due becomes ACTIVE
where R272 lets ACT_OUT rise. PAIR_HANDOVER (R295): the handover's period is named and the command waits. HANDOVER_RELEASE (R295): at that
period ACT_OUT falls, counted and posted. STANDBY_GDEN_DROP (R282): the pins drop 10 us + 2 T_RG0 after PARTNER_ACT fell on a STANDBY unit
that has not raised ACT_OUT since. GDEN_PULSE_TEST (R326): in the unit's own even or odd TB2 second, with the test not switched off and the
partner's pins driven (the model's inference from its report, log entry 148), a driven pin that is not low is cause 0x13. PAIR_ACTIVATE (R278): waits for the
boundary that raises ACT_OUT. SCHEDULED_PAIR_CHANGE (R281): a rate change is staged in the period before its own, a gate-driver clear acts
at its own, and a change not due stays. -/
def Obligations.BridleAndPairCommandsComplete : Prop :=
  (∀ s : State, s.pair.lowSince = none → ∃ t, exec (.partnerActChange false) s = .next t ∧
      t.pair.lowSince = some s.now ∧ (t.pair.takeDue = true ↔ s.pairState = 3 ∧ (s.flag F.PAIR_CFG_TAKEOVER_EN 0 = true ∨
        s.pair.handover.isSome)) ∧ (s.Canon → t.flag F.PAIR_STATUS_PARTNER_ACT 0 = false ∧ s.RegsBut t [(F.PAIR_STATUS_PARTNER_ACT, 0)])) ∧
  (∀ (s : State) (k : Nat), s.pair.lowSince = some k → s.flag F.PAIR_STATUS_ACT_OUT 0 = false → s.Canon → ∃ t,
      exec (.partnerActChange true) s = .next t ∧ t.pair.lowSince = none ∧ t.pair.takeDue = false ∧ t.pair.gdenDrop = false ∧
      t.flag F.PAIR_STATUS_PARTNER_ACT 0 = true ∧ s.RegsBut t [(F.PAIR_STATUS_PARTNER_ACT, 0), (F.GL_GDEN_CMD, 0)] ∧ s.Only t [.regs, .pair]) ∧
  (∀ (s t : State) (k r : Nat), s.pair.lowSince = some k → s.flag F.PAIR_STATUS_ACT_OUT 0 = true → s.pair.roseAt = some r →
      t = (((s.setFlag F.PAIR_STATUS_PARTNER_ACT 0 true).modPair fun p => { p with lowSince := none, takeDue := false, gdenDrop := false }).gdenCmd) →
      (r + 16000 ≤ s.now → exec (.partnerActChange true) s = .next t.conflict) ∧
      (s.now < r + 16000 → s.flag F.PAIR_CFG_PRIO 0 = true → exec (.partnerActChange true) s = .next t.releaseAct) ∧
      (s.now < r + 16000 → s.flag F.PAIR_CFG_PRIO 0 = false → exec (.partnerActChange true) s = .next t)) ∧
  (∀ (s : State) (on : Bool), exec (.actOutReadbackMismatch on) s = .next (s.causeOn Cause.actReadback on)) ∧
  (∀ s : State, s.Canon → s.gait ≠ Gait.paddock → s.flag F.PAIR_STATUS_ACT_OUT 0 = true → ∃ t, exec .missingRg0Boundary s = .next t ∧
      t.flag F.PAIR_STATUS_ACT_OUT 0 = false ∧ t.pair.actFall = true) ∧
  (∀ s : State, s.gait = Gait.paddock ∨ s.flag F.PAIR_STATUS_ACT_OUT 0 = false → exec .missingRg0Boundary s = .next s) ∧
  (∀ s : State, s.flag F.STW_STATUS_REMOTE_SGR 0 = false → exec (.sgrInChange true) s = .next
      ((((s.setFlag F.PAIR_STATUS_SGR_IN 0 true).setFlag F.STW_STATUS_REMOTE_SGR 0 true).removeGates).applyRelease)) ∧
  (∀ s : State, s.flag F.STW_STATUS_REMOTE_SGR 0 = true → exec (.sgrInChange true) s = .next (s.setFlag F.PAIR_STATUS_SGR_IN 0 true)) ∧
  (∀ s : State, exec (.sgrInChange false) s = .next (s.setFlag F.PAIR_STATUS_SGR_IN 0 false)) ∧
  (∀ s : State, s.flag F.STW_STATUS_REMOTE_SGR 0 = true → s.flag F.PAIR_STATUS_SGR_IN 0 = false → s.stw.sgr = true →
      exec .remoteSgrEnd s = .next (s.setFlag F.STW_STATUS_REMOTE_SGR 0 false).applyRelease) ∧
  (∀ s : State, s.flag F.STW_STATUS_REMOTE_SGR 0 = true → s.flag F.PAIR_STATUS_SGR_IN 0 = false → s.stw.sgr = false →
      exec .remoteSgrEnd s = .next ((s.setFlag F.STW_STATUS_REMOTE_SGR 0 false).setFlag F.STW_STATUS_SGR_DONE 0 false).applyRelease) ∧
  (∀ s : State, s.pairState = 3 → s.pair.takeDue = true → s.actMayRise = true → exec .takeover s = .next
      ((s.becomeActive.count F.PAIR_CNT_TAKEOVERS 0).post EV.EV_TAKEOVER noUnit 0)) ∧
  (∀ (s : State) (n : Nat), s.pair.handover = some n → s.isActive = true → n ≤ s.pnumOut → s.flag F.PAIR_STATUS_ACT_OUT 0 = true →
      exec .handoverRelease s = .next ((s.releaseAct.count F.PAIR_CNT_HANDOVERS 0).post EV.EV_HANDOVER noUnit (n % 2 ^ 32))) ∧
  (∀ (s : State) (k : Nat), s.Canon → s.pair.lowSince = some k → s.pairState = 3 → k + 80000 + 2 * s.fineP ≤ s.now →
      (∀ r, s.pair.roseAt = some r → r < k) → ∃ t, exec .standbyGdenDrop s = .next t ∧ t.pair.gdenDrop = true ∧ s.Only t [.regs, .pair] ∧
      s.RegsBut t [(F.GL_GDEN_CMD, 0)]) ∧
  (∀ (s : State) (k r : Nat), s.pair.lowSince = some k → s.pair.roseAt = some r → k ≤ r → exec .standbyGdenDrop s = .next s) ∧
  (∀ (s : State) (p : BitVec 6), s.pairState = 3 ∨ s.pairState = 4 ∨ (s.pairState = 2 ∧ s.pair.appliedAt.isSome) →
      s.fld F.PAIR_STATUS_PEER_STATE 0 = 3 ∨ s.fld F.PAIR_STATUS_PEER_STATE 0 = 4 → s.safD 0x44 1 1 = 1 →
      (vget s.tb 2).sec % 2 = b2n (s.flag F.PAIR_CFG_PRIO 0) → 500000000 ≤ (vget s.tb 2).ns → (vget s.tb 2).ns ≤ 500002000 →
      s.gdenDriven &&& p.toNat ≠ 0 → exec (.gdenPulseTest p) s = .next (s.cause Cause.gdenReadback)) ∧
  (∀ (s : State) (p : BitVec 6), s.gdenDriven &&& p.toNat = 0 ∨ s.safD 0x44 1 1 ≠ 1 ∨ (vget s.tb 2).sec % 2 ≠ b2n (s.flag F.PAIR_CFG_PRIO 0) →
      exec (.gdenPulseTest p) s = .next s) ∧
  (∀ (s : State) (tag : Fin 128) (e : Entry) (k : Nat), s.Serves 0x0901 tag e → s.pairState = 1 ∨ s.pairState = 2 →
      s.pair.lowSince = some k → k + 16000 ≤ s.now → ∃ t, exec (.pairActivate tag) s = .next t ∧ t.pair.wantAct = true ∧ s.Waits t tag ∧
      s.Only t [.fcp, .pair]) ∧
  (∀ (s : State) (tag : Fin 128) (e : Entry), s.Serves 0x0902 tag e → s.isActive = true → s.flag F.PAIR_STATUS_PARTNER_READY 0 = true →
      s.pair.handover = none → ∃ t, exec (.pairHandover tag) s = .next t ∧ t.pair.handover = some s.pairAhead ∧ s.Waits t tag ∧
      s.Only t [.fcp, .pair]) ∧
  (∀ (s : State) (n : Nat) (p : Option Nat) (d : Option (List Nat)), s.pair.sched = [⟨n, 0, p, d, 0⟩] → n ≤ s.pnumOut + 1 →
      exec .scheduledPairChange s = .next ((s.modPair fun q => { q with sched := [] }).stageRate p d)) ∧
  (∀ (s : State) (n l k : Nat), k = 2 ∨ k = 3 → s.pair.sched = [⟨n, k, none, none, l⟩] → n ≤ s.pnumOut →
      exec .scheduledPairChange s = .next ((s.modPair fun q => { q with sched := [] }).clearLanes l (k - 1))) ∧
  (∀ (s : State), s.pair.sched.filter s.changeDue = [] → ∃ t, exec .scheduledPairChange s = .next t ∧
      t.pair.sched = s.pair.sched ∧ s.Only t [.pair])

/-- MIRROR_RECORD_SEND (R31, R288, R289): on an ACTIVE unit with a mirror lane UP the record that is due leaves in its blocks for its
credits, LAST_PNUM and the HLP slice advance; without the credits it counts as missed; else it is dropped. CREDIT_RECEIVED (R287, R288): a
set with its complement adds N credits, 32 at most; another one does nothing. MIRROR_BLOCK_RECEIVED (R285 to R287): a block that does not
verify is counted; one that does is kept by a paired unit that is not ACTIVE. MIRROR_RECORD_APPLY (R31, R289): in SYNCING and STANDBY the
record that waits is applied at the first boundary after it verified, and not before. STANDBY_STATUS_SEND (R287): the status block that is
due leaves. STANDBY_STATUS_RECEIVED (R279): the partner's state, gait and digest are kept. HELLO_RECEIVED (R286): a lane in HELLO goes UP
for the same format, another UNIT_ID and another PRIO, and stays for less. MIRROR_LANE_LOST (R286): a lane in HELLO or UP that has lost its
signal, its lock or its alignment, or has had no verified block for 4 RG1 periods, goes to LOST; another lane does not. -/
def Obligations.MirrorCommandsComplete : Prop :=
  (∀ (s : State) (n b : Nat), s.Canon → s.pair.recDue = some n → s.isActive = true → s.mirrorUp = true → b = s.fld F.PAIR_CFG_RECORD_BLKS 0 →
      b ≤ s.mirrorCredits → ∃ t, exec .mirrorRecordSend s = .next t ∧
      t.pair.sentRec = some (s.mirrorRecord n) ∧ t.pair.sentBlocks = recordBlocks (s.mirrorRecord n) b ∧
      t.pair.credits = s.pair.credits - b ∧ t.pair.recDue = none ∧
      t.fld F.MIRROR_STAT_LAST_PNUM 0 = n % 65536 ∧ t.hlp.slice = min 64 (s.hlp.slice + 1) ∧
      s.RegsBut t [(F.MIRROR_STAT_LAST_PNUM, 0)] ∧ s.Only t [.regs, .pair, .hlp]) ∧
  (∀ (s : State) (n : Nat), s.Canon → s.pair.recDue = some n → s.isActive = true → s.mirrorUp = true →
      s.mirrorCredits < s.fld F.PAIR_CFG_RECORD_BLKS 0 → ∃ t, exec .mirrorRecordSend s = .next t ∧ t.pair.recDue = none ∧
      t.pair.sentRec = s.pair.sentRec ∧ t.fld F.MIRROR_STAT_MIRROR_MISS 0 = min 255 (s.fld F.MIRROR_STAT_MIRROR_MISS 0 + 1) ∧
      s.RegsBut t [(F.MIRROR_STAT_MIRROR_MISS, 0)] ∧ s.Only t [.regs, .pair]) ∧
  (∀ s : State, s.isActive = false ∨ s.mirrorUp = false ∨ s.pair.recDue = none → ∃ t, exec .mirrorRecordSend s = .next t ∧
      t.pair.recDue = none ∧ t.pair.sentRec = s.pair.sentRec ∧ s.Only t [.pair]) ∧
  (∀ (s : State) (l : Fin 2) (n c : Byte), s.isActive = true → s.laneState (6 + l) = 4 → c = n ^^^ 0xFF#8 → ∃ t,
      exec (.creditReceived l n c) s = .next t ∧ t.pair.credits = min 32 (s.pair.credits + n.toNat) ∧ s.Only t [.pair]) ∧
  (∀ (s : State) (l : Fin 2) (n c : Byte), c ≠ n ^^^ 0xFF#8 ∨ s.isActive = false ∨ s.laneState (6 + l) ≠ 4 →
      exec (.creditReceived l n c) s = .next s) ∧
  (∀ (s : State) (l : Fin 2) (b : List Byte) (k : Int), s.Canon → s.laneState (6 + l.val) = 4 → mirrorOk b = false → ∃ t,
      exec (.mirrorBlockReceived l b k) s = .next t ∧ t.fld F.MIRROR_STAT_BLK_ERR 0 = min 255 (s.fld F.MIRROR_STAT_BLK_ERR 0 + 1) ∧
      s.RegsBut t [(F.MIRROR_STAT_BLK_ERR, 0)] ∧ s.Only t [.regs]) ∧
  (∀ (s : State) (l : Fin 2) (b : List Byte) (k : Int), s.laneState (6 + l.val) = 4 → mirrorOk b = true → leAt b 2 1 ≠ 255 →
      s.pairState ≠ 0 → s.isActive = false → exec (.mirrorBlockReceived l b k) s = .next
        ((s.modPair fun p => { p with blockAt := p.blockAt.set l s.pwm.bnd }).takeBlock b
          (skewOf (s.fld F.GL_DELAY_L_MEAS (6 + l.val)) s.fineP k) (nearestOf (s.fld F.GL_DELAY_L_MEAS (6 + l.val)) s.fineP k)
          ((s.pwm.tk : Int) - sinceTheirs (s.fld F.GL_DELAY_L_MEAS (6 + l.val)) k))) ∧
  (∀ (s : State) (l : Fin 2) (b : List Byte) (k : Int), s.laneState (6 + l.val) = 4 → mirrorOk b = true →
      leAt b 2 1 = 255 ∨ s.pairState = 0 ∨ s.isActive = true → exec (.mirrorBlockReceived l b k) s = .next
        (s.modPair fun p => { p with blockAt := p.blockAt.set l s.pwm.bnd })) ∧
  (∀ (s : State) (r : MirrorRecord) (b : Nat), s.pairState = 2 ∨ s.pairState = 3 → s.pair.rxDone = some (r.pnum % 65536, b) →
      s.pair.rxAt < s.pwm.bnd → ∃ t, exec (.mirrorRecordApply r) s = .next t ∧ t.pair.rxDone = none ∧ t.pair.appliedAt = some s.pwm.bnd ∧
      t.pair.alarms = r.alarms ∧ t.pair.handover = r.handover ∧ t.pair.peerGait = r.gait ∧ t.pair.peerDigest = r.cfgDigest) ∧
  (∀ (s : State) (r : MirrorRecord), s.pair.rxDone = none ∨ s.pwm.bnd ≤ s.pair.rxAt → exec (.mirrorRecordApply r) s = .next s) ∧
  (∀ s : State, s.pairState = 2 ∨ s.pairState = 3 → s.mirrorUp = true → s.pair.statusDue = true → ∃ t, exec .standbyStatusSend s = .next t ∧
      t.pair.sentStatus = some s.statusBlock ∧ t.pair.statusDue = false ∧
      t.pair.sentStatusBlock = statusBytes s.statusBlock (s.cle.rgAt.getD 1 (0, 0)).1 ∧ s.Only t [.pair]) ∧
  (∀ (s : State) (p : PeerStatus), s.Canon → s.pairState ≠ 0 → s.mirrorUp = true → p.state < 8 → p.state ≠ 4 → ∃ t,
      exec (.standbyStatusReceived p) s = .next t ∧ t.fld F.PAIR_STATUS_PEER_STATE 0 = p.state ∧ t.pair.peerGait = p.gait ∧
      t.pair.peerDigest = p.cfgDigest ∧ t.pair.peerAt = some s.pwm.bnd ∧ t.flag F.PAIR_STATUS_PARTNER_READY 0 = decide (p.state = 3) ∧
      s.RegsBut t [(F.PAIR_STATUS_PEER_STATE, 0), (F.PAIR_STATUS_PARTNER_READY, 0)] ∧ s.Only t [.regs, .pair]) ∧
  (∀ (s : State) (p : PeerStatus), s.Canon → s.pairState ≠ 0 → s.mirrorUp = true → p.state = 4 → ∃ t,
      exec (.standbyStatusReceived p) s = .next t ∧ t.fld F.PAIR_STATUS_PEER_STATE 0 = 4 ∧ t.pair.peerGait = p.gait ∧
      t.pair.peerDigest = p.cfgDigest ∧ t.pair.peerAt = some s.pwm.bnd ∧ t.flag F.PAIR_STATUS_PARTNER_READY 0 = false) ∧
  (∀ (s : State) (l : Fin 2) (h : Hello), s.pairState ≠ 0 → s.laneState (6 + l.val) = 3 →
      h.fmtMajor = s.fld F.IDENT_BOOT_MIRROR_FMT 0 → h.unitId ≠ s.fld F.LANE_CFG_UNIT_ID (6 + l.val) → h.prio ≠ s.flag F.PAIR_CFG_PRIO 0 →
      exec (.helloReceived l h) s = .next (((s.modPair fun p => { p with
        helloBad := p.helloBad.set l false, peerDigest := h.cfgDigest, peerId := some h.unitId,
        blockAt := p.blockAt.set l s.pwm.bnd }).toLane (6 + l.val) 4).sendCredits)) ∧
  (∀ (s : State) (l : Fin 2) (h : Hello), s.pairState ≠ 0 → s.laneState (6 + l.val) = 3 →
      h.fmtMajor ≠ s.fld F.IDENT_BOOT_MIRROR_FMT 0 ∨ h.unitId = s.fld F.LANE_CFG_UNIT_ID (6 + l.val) ∨ h.prio = s.flag F.PAIR_CFG_PRIO 0 →
      exec (.helloReceived l h) s = .next (s.modPair fun p => { p with
        helloBad := p.helloBad.set l true, peerDigest := h.cfgDigest, peerId := some h.unitId, blockAt := p.blockAt.set l s.pwm.bnd })) ∧
  (∀ (s : State) (l : Fin 2), s.laneState (6 + l.val) = 3 ∨ s.laneState (6 + l.val) = 4 → s.flag F.LANE_STAT_LOS (6 + l.val) = true ∨
      s.flag F.LANE_STAT_LOL (6 + l.val) = true ∨ s.flag F.LANE_STAT_ALIGNED (6 + l.val) = false ∨
      s.pair.blockAt.getD l 0 + 4 * s.divOf 1 < s.pwm.bnd →
      exec (.mirrorLaneLost l) s = .next ((s.toLane (6 + l.val) 5).post EV.EV_MIRROR_LANE (6 + l.val) 0)) ∧
  (∀ (s : State) (l : Fin 2), s.laneState (6 + l.val) ≠ 3 → s.laneState (6 + l.val) ≠ 4 → exec (.mirrorLaneLost l) s = .next s)

/-- SDIN_DEMAND (R321, R323): a low channel is a demand of its pair, outside its own test slot; in it, it only reads low. SDIN_RETURN_HIGH
(R322): the channel no longer reads low, and its pair is clear once the other is high too and no discrepancy holds it. SDIN_DISCREPANCY
(R322): a pair in demand of which one channel is still low is held, with cause 0x07. SAFETY_DI_DEMAND (R323, R324): the same for an assigned
field input; one not assigned does nothing. TEST_PULSE_SLOT (R323): the slot opens. TEST_PULSE_CHECK (R323): in its slot the inputs are
judged, and judged again after it. OUTPUT_OFF_PULSE (R325): the off-pulse of a safety output that is on begins; at its end the output that
reads high is latched off, and so are both when another that is on reads low; one that behaves, that is off or is none stays. An output whose
on period of at least 1 ms ends with a low readback is latched off too. -/
def Obligations.SafetyInputCommandsComplete : Prop :=
  (∀ (s : State) (c : Fin 4), s.siTp c = 0 ∨ s.stw.slot ≠ some (s.siTp c - 1) → exec (.sdinDemand c) s = .next (s.siDemand c)) ∧
  (∀ (s : State) (c : Fin 4), s.siTp c ≠ 0 → s.stw.slot = some (s.siTp c - 1) → exec (.sdinDemand c) s = .next (s.siLow c)) ∧
  (∀ (s : State) (i : Nat), i < 4 → s.Canon → (i ∈ (s.siLow i).stw.low) ∧
      (s.siLow i).fld F.STW_IO_SDIN 0 = s.fld F.STW_IO_SDIN 0 &&& (15 - 2 ^ i) ∧ s.RegsBut (s.siLow i) [(F.STW_IO_SDIN, 0)] ∧
      s.Only (s.siLow i) [.regs, .stw]) ∧
  (∀ (s : State) (i : Nat), i < 4 → siPair i ∉ s.stw.dem → s.siDemand i =
      (((s.siLow i).modStw fun w => { w with dem := w.dem ++ [siPair i] }).pairCause (1 + siPair i) (siPair i)).inputActive) ∧
  (∀ (s : State) (i m : Nat), 4 ≤ i → m = s.fld F.STW_IO_SI_DEM 0 → bitOf m (2 * (siPair i - 2)) = false →
      bitOf m (2 * (siPair i - 2) + 1) = false → s.siDemand i =
      (((s.siLow i).setFld F.STW_IO_SI_DEM 0 (m ||| 2 ^ (i - 4))).pairCause Cause.fieldIn (siPair i)).inputActive) ∧
  (∀ (s : State) (c : Fin 4), exec (.sdinReturnHigh c) s = .next (s.siHigh c)) ∧
  (∀ (s : State) (i : Nat), i < 4 → (i ∉ (s.siHigh i).stw.low) ∧
      ((if i % 2 = 0 then i + 1 else i - 1) ∉ s.stw.low → siPair i ∉ s.stw.disc → siPair i ∉ (s.siHigh i).stw.dem)) ∧
  (∀ (s : State) (q : Fin 2), q.val ∈ s.stw.dem → ((2 * q.val ∈ s.stw.low) ↔ (2 * q.val + 1 ∉ s.stw.low)) → q.val ∉ s.stw.disc →
      exec (.sdinDiscrepancy q) s =
      .next (((s.modStw fun w => { w with disc := w.disc ++ [q.val] }).pairCause Cause.inputTest q).inputActive)) ∧
  (∀ (s : State) (q : Fin 2), q.val ∉ s.stw.dem ∨ ((2 * q.val ∈ s.stw.low) ↔ (2 * q.val + 1 ∈ s.stw.low)) ∨ q.val ∈ s.stw.disc →
      exec (.sdinDiscrepancy q) s = .next s) ∧
  (∀ (s : State) (d : Fin 16), s.siUsed (d + 4) = true → s.siTp (d + 4) = 0 ∨ s.stw.slot ≠ some (s.siTp (d + 4) - 1) →
      exec (.safetyDiDemand d) s = .next (s.siDemand (d + 4))) ∧
  (∀ (s : State) (d : Fin 16), s.siUsed (d + 4) = true → s.siTp (d + 4) ≠ 0 → s.stw.slot = some (s.siTp (d + 4) - 1) →
      exec (.safetyDiDemand d) s = .next (s.siLow (d + 4))) ∧
  (∀ (s : State) (d : Fin 16), s.siUsed (d + 4) = false → exec (.safetyDiDemand d) s = .next s) ∧
  (∀ (s : State) (k : Fin 4), ∃ t, exec (.testPulseSlot k) s = .next t ∧ t.stw.slot = some k.val ∧ s.Only t [.stw]) ∧
  (∀ (s : State) (k : Fin 4) (l : BitVec 20), s.stw.slot = some k.val → exec (.testPulseCheck k false l) s = .next (s.pulseIn k l.toNat) ∧
      exec (.testPulseCheck k true l) s = .next (s.pulseOut k l.toNat)) ∧
  (∀ (s : State) (k : Fin 4) (a : Bool) (l : BitVec 20), s.stw.slot ≠ some k.val → exec (.testPulseCheck k a l) s = .next s) ∧
  (∀ (s : State) (m : Fin 8) (p : BitVec 8), s.fio.pulse = none → s.isSafeOut m = true → s.doOn m = true →
      exec (.outputOffPulse m false p) s =
        .next ({ s.readPins p.toNat with fio := { (s.readPins p.toNat).fio with pulse := some m.val } }.doSync)) ∧
  (∀ (s : State) (m : Fin 8) (p : BitVec 8), s.fio.pulse ≠ none ∨ s.isSafeOut m = false ∨ s.doOn m = false →
      exec (.outputOffPulse m false p) s = .next s) ∧
  (∀ (s : State) (m : Fin 8) (p : BitVec 8), s.fio.pulse = some m.val → p.getLsbD m = false →
      (∀ k, k < 8 → k ≠ m.val → s.isSafeOut k = true → s.doOn k = true → p.getLsbD k = true) →
      exec (.outputOffPulse m true p) s =
        .next ({ s.readPins p.toNat with fio := { (s.readPins p.toNat).fio with pulse := none } }.doNote)) ∧
  (∀ (s : State) (m : Fin 8) (p : BitVec 8), s.fio.pulse = some m.val → p.getLsbD m = true →
      (∀ k, k < 8 → k ≠ m.val → s.isSafeOut k = true → s.doOn k = true → p.getLsbD k = true) →
      exec (.outputOffPulse m true p) s =
        .next ({ s.readPins p.toNat with fio := { (s.readPins p.toNat).fio with pulse := none } }.doNote.soFail m)) ∧
  (∀ (s : State) (m : Fin 8) (p : BitVec 8) (k : Nat), s.fio.pulse = some m.val → k < 8 → k ≠ m.val → s.isSafeOut k = true →
      s.doOn k = true → p.getLsbD k = false → (∀ j, j < 8 → j ≠ m.val → j ≠ k → p.getLsbD j = true) →
      exec (.outputOffPulse m true p) s =
        .next (({ s.readPins p.toNat with fio := { (s.readPins p.toNat).fio with pulse := none } }.doNote.soFail m).soFail k)) ∧
  (∀ (s : State) (m : Fin 8) (p : BitVec 8), s.fio.pulse ≠ some m.val → exec (.outputOffPulse m true p) s = .next s) ∧
  (∀ (s : State) (m : Nat), m < 8 → (∀ k, k < 8 → k ≠ m → bitOf s.fio.on k = true → s.doOn k = true) →
      s.isSafeOut m = true → bitOf s.fio.on m = true → s.doOn m = false → bitOf s.fio.read m = true →
      bitOf (s.fld F.FIO_DO_PIN 0) m = false → vget s.fio.onAt m + 8000000 ≤ s.now → s.doSync = s.doNote.soFail m)

/-- The Steward's monitors and watches raise their causes of Table 10.3: MONITOR_ADC_WINDOW 0x09 and MONITOR_CROSS_CHECK 0x16 on a channel
that the configuration enables for it (R333), JUNCTION_OVERTEMP 0x17 (R334), CLOCK_CROSS_CHECK 0x18 (R300), ISLAND_SUPPLY_FAULT 0x20 and
LOCKSTEP_MISMATCH 0x21 (R319), CONSECUTIVE_MISS_LIMIT 0x10 after STW_MISS_N periods, TIMEBASE_WATCH_EXPIRY 0x11 outside Paddock and
OFF_PATH_READBACK_FAULT 0x12 (R307), SRS_REQUEST 0x0B with class S for every port (R309), SRS_TIME_LIMIT 0x0A for a port of a running SRS
still in RAMPDOWN (R312); where the condition is not met they do nothing. A condition that ends is active no longer (R304). SGR_COMPLETE
(R314): SGR_DONE while a removal is held, once every GDEN pin has read low on 2 consecutive samples and, in a pair, SGR_OUT is high.
SGR_READBACK_TIMEOUT (R314): SGR_RB_ERR and its event while a removal is held, not done and not confirmed. -/
def Obligations.StewardWatchCommandsComplete : Prop :=
  (∀ (s : State) (c : Fin 4), bitOf (s.mon c 13 1) 0 = true → exec (.monitorAdcWindow c true) s =
      .next (((s.modStw fun w => { w with monOut := withChan s.stw.monOut c true }).causeWith Cause.monitorWindow
        (s.mon c 13 1 / 4 % 4 == 1) (s.mon c 16 2 % 4096) false).setActive Cause.monitorWindow true)) ∧
  (∀ (s : State) (c : Fin 4), bitOf (s.mon c 13 1) 0 = true → exec (.monitorAdcWindow c false) s =
      .next ((s.modStw fun w => { w with monOut := s.stw.monOut.filter (· != c.val) }).setActive Cause.monitorWindow
        (!(s.stw.monOut.filter (· != c.val)).isEmpty))) ∧
  (∀ (s : State) (c : Fin 4) (on : Bool), bitOf (s.mon c 13 1) 0 = false → exec (.monitorAdcWindow c on) s = .next s) ∧
  (∀ (s : State) (c : Fin 4), bitOf (s.mon c 13 1) 1 = true → exec (.monitorCrossCheck c true) s =
      .next (((s.modStw fun w => { w with monBad := withChan s.stw.monBad c true }).cause 0x16).setActive 0x16 true)) ∧
  (∀ (s : State) (c : Fin 4), bitOf (s.mon c 13 1) 1 = true → exec (.monitorCrossCheck c false) s =
      .next ((s.modStw fun w => { w with monBad := s.stw.monBad.filter (· != c.val) }).setActive 0x16
        (!(s.stw.monBad.filter (· != c.val)).isEmpty))) ∧
  (∀ (s : State) (c : Fin 4) (on : Bool), bitOf (s.mon c 13 1) 1 = false → exec (.monitorCrossCheck c on) s = .next s) ∧
  (∀ (s : State) (on : Bool), exec (.junctionOvertemp on) s = .next (s.causeOn 0x17 on)) ∧
  (∀ (s : State) (on : Bool), exec (.clockCrossCheck on) s = .next ((s.clkBit 1 (!on)).causeOn 0x18 on)) ∧
  (∀ (s : State) (k : Nat), (s.causeOn k true).stw.active.contains k = true ∧ (s.causeOn k false).stw.active.contains k = false) ∧
  (∀ s : State, exec .islandSupplyFault s = .next (s.cause 0x20)) ∧
  (∀ s : State, exec .lockstepMismatch s = .next (s.cause 0x21)) ∧
  (∀ s : State, s.safD 0x42 1 2 ≤ s.cle.missRun → exec .consecutiveMissLimit s = .next (s.causeOn 0x10 true)) ∧
  (∀ s : State, s.cle.missRun < s.safD 0x42 1 2 → exec .consecutiveMissLimit s = .next s) ∧
  (∀ s : State, s.gait ≠ Gait.paddock → exec .timebaseWatchExpiry s = .next (s.causeOn 0x11 true)) ∧
  (∀ s : State, s.gait = Gait.paddock → exec .timebaseWatchExpiry s = .next s) ∧
  (∀ (s : State) (on : Bool), exec (.offPathReadbackFault on) s = .next (s.causeOn 0x12 on)) ∧
  (∀ s : State, exec .srsRequest s = .next (s.causeWith 0x0B true 0xFFF false)) ∧
  (∀ (s : State) (p : Fin 12), (s.stw.srs.any fun r => r.port == p.val) = true → s.stwPort p = PS.rampdown →
      exec (.srsTimeLimit p) s = .next (s.cause 0x0A)) ∧
  (∀ (s : State) (p : Fin 12), (s.stw.srs.any fun r => r.port == p.val) = false ∨ s.stwPort p ≠ PS.rampdown →
      exec (.srsTimeLimit p) s = .next s) ∧
  (∀ s : State, s.Canon → s.sgrHeld = true → s.sgrConfirmed = true → ∃ t, exec .sgrComplete s = .next t ∧ t.flag F.STW_STATUS_SGR_DONE 0 = true ∧
      s.RegsBut t [(F.STW_STATUS_SGR_DONE, 0)] ∧ s.Only t [.regs]) ∧
  (∀ s : State, s.sgrHeld = false ∨ s.stw.gdenLow < 2 ∨ (s.flag F.PAIR_CFG_PAIR_EN 0 = true ∧ s.stw.sgr = false) → exec .sgrComplete s = .next s) ∧
  (∀ (s : State) (u : BitVec 3), s.Canon → s.sgrHeld = true → s.flag F.STW_STATUS_SGR_DONE 0 = false → u ≠ 0#3 → ∃ t,
      exec (.sgrReadbackTimeout u) s = .next t ∧ t.flag F.STW_STATUS_SGR_RB_ERR 0 = true ∧ s.Told t EV.EV_SGR_READBACK noUnit u.toNat ∧
      s.RegsBut t ((F.STW_STATUS_SGR_RB_ERR, 0) :: evqFlds) ∧ s.Only t [.regs, .evq, .trace, .recd]) ∧
  (∀ (s : State) (u : BitVec 3), s.sgrHeld = false ∨ s.flag F.STW_STATUS_SGR_DONE 0 = true ∨ u = 0#3 →
      exec (.sgrReadbackTimeout u) s = .next s)

/-- PDU_COPY_RECEIVED (R330, R331, R332): on an enabled connection of a network that receives an invalid copy is counted; a valid one restarts
its network's watchdog, replaces an older copy and not a newer one, and pairs with the other network's: alone it waits, with an equal one and a
later TSTAMP the pair is accepted (with RUN_OK set and PERMIT clear, which the model reads as a demand for the connection's ports, log entry
148), and a pair that differs is a mismatch with cause 0x05. PDU_WATCHDOG_EXPIRY (R332): WD of that network and cause 0x06. PDU_SEND (R332,
R422, R423): the next SEQ without INIT, handed to both MACs for the first launch time m PDU_CYC + c PDU_CYC / 2 on TB1 at least 50 us away; a
scheduled frame leaves at the next NET clock edge behind the one before it, or counts in SCHED_DROP without a link. A connection that is not
enabled does nothing, and no launch time takes two. -/
def Obligations.SafetyPduCommandsComplete : Prop :=
  (∀ (s : State) (n : Fin 2) (c : Fin 4) (b : List Byte), s.hears n c → s.pduValid n c b = false →
      exec (.pduCopyReceived n c b) s = .next (s.count F.PDU_STAT_BAD_CNT c)) ∧
  (∀ (s : State) (c : Fin 4) (b : List Byte), s.hears 0 c → s.pduValid 0 c b = true →
      (∀ x, (s.rx c).copyA = some x → seqNewer (leAt x 4 4) (leAt b 4 4) = false) →
      exec (.pduCopyReceived 0 c b) s =
        .next ((((s.modRx c fun x => { x with copyA := some b }).setFlag F.PDU_STAT_WD_A c false).wdActive).pduPair c)) ∧
  (∀ (s : State) (c : Fin 4) (b : List Byte), s.hears 1 c → s.pduValid 1 c b = true →
      (∀ x, (s.rx c).copyB = some x → seqNewer (leAt x 4 4) (leAt b 4 4) = false) →
      exec (.pduCopyReceived 1 c b) s =
        .next ((((s.modRx c fun x => { x with copyB := some b }).setFlag F.PDU_STAT_WD_B c false).wdActive).pduPair c)) ∧
  (∀ (s : State) (c : Fin 4) (a b : List Byte), s.hears 0 c → s.pduValid 0 c b = true → (s.rx c).copyA = some a →
      seqNewer (leAt a 4 4) (leAt b 4 4) = true → exec (.pduCopyReceived 0 c b) s =
        .next (((s.setFlag F.PDU_STAT_WD_A c false).wdActive).pduPair c)) ∧
  (∀ (s : State) (n : Fin 2) (c : Fin 4) (b : List Byte), s.flag F.PDU_STAT_EN c = false ∨ s.netRuns = false ∨ s.flag F.MAC_STAT_LINK n = false →
      exec (.pduCopyReceived n c b) s = .next s) ∧
  (∀ (s : State) (c : Nat), (s.rx c).copyA = none ∨ (s.rx c).copyB = none → s.pduPair c = s) ∧
  (∀ (s : State) (c : Nat) (a b : List Byte), (s.rx c).copyA = some a → (s.rx c).copyB = some b → leAt a 4 4 = leAt b 4 4 →
      slice a 2 38 = slice b 2 38 → (∀ l, (s.rx c).last = some l → l.2 < timeAt a 8) → s.pduPair c = s.pduAccept c a) ∧
  (∀ (s : State) (c : Nat) (a b : List Byte), (s.rx c).copyA = some a → (s.rx c).copyB = some b → leAt a 4 4 = leAt b 4 4 →
      (slice a 2 38 ≠ slice b 2 38 ∨ ∃ l, (s.rx c).last = some l ∧ timeAt a 8 ≤ l.2) → s.pduPair c =
      ((((s.modRx c fun x => { x with copyA := none, copyB := none }).setFlag F.PDU_STAT_MISMATCH c true).pduCause 0x05 c).setActive 0x05 true)) ∧
  (∀ (s : State) (c : Fin 4), s.flag F.PDU_STAT_EN c = true →
      exec (.pduWatchdogExpiry c 0) s = .next (((s.setFlag F.PDU_STAT_WD_A c true).pduCause 0x06 c).wdActive) ∧
      exec (.pduWatchdogExpiry c 1) s = .next (((s.setFlag F.PDU_STAT_WD_B c true).pduCause 0x06 c).wdActive)) ∧
  (∀ (s : State) (c : Fin 4) (n : Fin 2), s.flag F.PDU_STAT_EN c = false → exec (.pduWatchdogExpiry c n) s = .next s) ∧
  (∀ (s : State) (c : Nat) (a b : List Byte), (s.rx c).copyA = some a → (s.rx c).copyB = some b → leAt a 4 4 = leAt b 4 4 →
      slice a 2 38 = slice b 2 38 → (∀ l, (s.rx c).last = some l → l.2 < timeAt a 8) → leAt a 24 1 % 4 = 2 →
      s.pduPair c = ((((((s.modRx c fun _ => ⟨none, none, some (leAt a 4 4, timeAt a 8), slice a 24 16, true, some s.now⟩).setFld
        F.PDU_STAT_SEQ_LO c (leAt a 4 2)).pduCauseFor Cause.pduDemand c (s.rxCfg c 8 2 % 4096))).setActive Cause.pduMismatch false).demandActive)) ∧
  (∀ (s : State) (c : Fin 2), s.Canon → s.flag F.PDU_STAT_EN (4 + c.val) = true → s.netRuns = true →
      (vget s.stw.tx c).at1 ≠ some (s.launchTime c ((vget s.tb 1).ticks + 50000 * 65536)) → ∃ t, exec (.pduSend c) s = .next t ∧
      (vget t.stw.tx c).seq = ((vget s.stw.tx c).seq + 1) % 2 ^ 32 ∧ (vget t.stw.tx c).init = false ∧
      (vget t.stw.tx c).at1 = some (s.launchTime c ((vget s.tb 1).ticks + 50000 * 65536)) ∧
      (∀ m, m < 2 → (vget t.macs m).sched = (vget s.macs m).sched ++
        [⟨s.launchTime c ((vget s.tb 1).ticks + 50000 * 65536), s.frameLen m 72⟩]) ∧
      t.fld F.PDU_STAT_SEQ_LO (4 + c.val) = (vget s.stw.tx c).seq % 65536 ∧ s.RegsBut t [(F.PDU_STAT_SEQ_LO, 4 + c.val)] ∧
      s.Only t [.regs, .stw, .macs]) ∧
  (∀ (s : State) (c : Fin 2), s.flag F.PDU_STAT_EN (4 + c.val) = false ∨ s.netRuns = false ∨
      (vget s.stw.tx c).at1 = some (s.launchTime c ((vget s.tb 1).ticks + 50000 * 65536)) → exec (.pduSend c) s = .next s) ∧
  (∀ (s : State) (c t : Nat), c < 2 → 0 < s.txCfg c 6 2 → t ≤ s.launchTime c t ∧
      s.launchTime c t % (s.txCfg c 6 2 * 65536000000) = c * (s.txCfg c 6 2 * 65536000000 / 2)) ∧
  (∀ (s : State) (m n : Nat), m < 2 → s.flag F.MAC_STAT_LINK m = true → ∃ k,
      k = (max s.now (vget s.macs m).freeAt + 63) / 64 * 64 ∧ (vget (s.launchOn m n).macs m).launch = some k ∧
      (vget (s.launchOn m n).macs m).freeAt = k + 8 * s.byteNs m * (n + 20) ∧ s.Only (s.launchOn m n) [.macs]) ∧
  (∀ (s : State) (m n : Nat), s.flag F.MAC_STAT_LINK m = false → s.launchOn m n = s.count F.MAC_STAT_SCHED_DROP m)

/-- SAF_CFG_STAGE (R412): in UNARMED the quarter is staged. SAF_CFG_READ (R412): 1 024 bytes of the tile in force or of the staging copy.
SAF_ARM, SAF_DISARM, SAF_RESET and SAF_CFG_COMMIT (R412, R413): in a state their step 1 allows, with none prepared, the action is prepared
and answered with FS_CONF_REQ, its TOKEN and its DIGEST; in another state with FS_STW_STATE, and with one prepared with FS_BUSY. SAF_CONFIRM
(R413): one that does not match discards the action with FS_CONF and the reason; one that matches carries it out: arming in UNARMED under
every condition of R304, in the order of its list, with the self-test of the SGR paths, disarming in ARMED with every port OFF and ACT_OUT low
(R305), reset with no cause active and the self-test anew (R317, R322), commit of the tile (R306). A tile that was never committed arms
nothing (R335). SAF_CONFIRM_TIMEOUT (R413): the action is discarded. -/
def Obligations.SafetyCommandsComplete : Prop :=
  (∀ (s : State) (tag : Fin 128) (e : Entry), s.Serves 0x0804 tag e → e.a 0 ≤ 3 → s.stwState = 1 → ∃ t, exec (.safCfgStage tag) s = .next t ∧
      t.stw.staged = Memory.setMany (fun _ => 0#8) s.stw.staged (1024 * e.a 0) e.payload ∧ t.stw.cfg = s.stw.cfg ∧
      t.Answered tag FS.FS_OK [] [] ∧ s.Only t [.fcp, .stw, .macs]) ∧
  (∀ (s : State) (tag : Fin 128) (e : Entry), s.Serves 0x0806 tag e → e.a 0 = 0 → e.a 1 ≤ 3 → ∃ t, exec (.safCfgRead tag) s = .next t ∧
      t.Answered tag FS.FS_OK [] (Memory.getMany (fun _ => 0#8) s.stw.cfg (1024 * e.a 1) 1024) ∧ s.Only t [.fcp, .macs]) ∧
  (∀ (s : State) (tag : Fin 128) (e : Entry), s.Serves 0x0806 tag e → e.a 0 = 1 → e.a 1 ≤ 3 → ∃ t, exec (.safCfgRead tag) s = .next t ∧
      t.Answered tag FS.FS_OK [] (Memory.getMany (fun _ => 0#8) s.stw.staged (1024 * e.a 1) 1024) ∧ s.Only t [.fcp, .macs]) ∧
  (∀ (s : State) (tag : Fin 128) (e : Entry),
      (s.Serves 0x0801 tag e → exec (.safArm tag) s = .next (s.prepare e [1])) ∧
      (s.Serves 0x0802 tag e → exec (.safDisarm tag) s = .next (s.prepare e [2])) ∧
      (s.Serves 0x0803 tag e → exec (.safReset tag) s = .next (s.prepare e [3, 4])) ∧
      (s.Serves 0x0805 tag e → exec (.safCfgCommit tag) s = .next (s.prepare e [1]))) ∧
  (∀ (s : State) (op : Nat) (tag : Fin 128) (e : Entry) (l : List Nat), s.Serves op tag e → s.stwState ∈ l → s.fcp.prep = none → ∃ k, 0 < k ∧
      (s.prepare e l).Answered tag FS.FS_CONF_REQ (leBytes 4 k ++ leBytes 4 e.digest) [] ∧
      (s.prepare e l).fcp.prep = some ⟨e.mb, e.op, k, e.digest, e.args, s.now⟩ ∧ s.Only (s.prepare e l) [.fcp, .fresh, .macs]) ∧
  (∀ (s : State) (op : Nat) (tag : Fin 128) (e : Entry) (l : List Nat), s.Serves op tag e → s.stwState ∉ l →
      (s.prepare e l).Answered tag FS.FS_STW_STATE [] [] ∧ (s.prepare e l).fcp.prep = s.fcp.prep ∧ s.Only (s.prepare e l) [.fcp, .macs]) ∧
  (∀ (s : State) (op : Nat) (tag : Fin 128) (e : Entry) (l : List Nat), s.Serves op tag e → s.stwState ∈ l → s.fcp.prep.isSome →
      (s.prepare e l).Answered tag FS.FS_BUSY [] [] ∧ (s.prepare e l).fcp.prep = s.fcp.prep ∧ s.Only (s.prepare e l) [.fcp, .macs]) ∧
  (∀ (s : State) (tag : Fin 128) (e : Entry) (st : SelfTest), s.Serves 0x0810 tag e → s.confWhy e ≠ 0 → ∃ t, exec (.safConfirm tag st) s = .next t ∧
      t.fcp.prep = none ∧ t.Answered tag FS.FS_CONF (leBytes 1 (s.confWhy e)) [] ∧ s.Only t [.fcp, .macs]) ∧
  (∀ (s u : State) (tag : Fin 128) (e : Entry) (st : SelfTest), s.Serves 0x0810 tag e → s.confWhy e = 0 →
      u = ({ s with fcp := { s.fcp with prep := none } } : State) →
      (e.a16 0 = 0x0801 → exec (.safConfirm tag st) s = .next (u.armNow tag st)) ∧
      (e.a16 0 = 0x0802 → exec (.safConfirm tag st) s = .next (u.disarmNow tag)) ∧
      (e.a16 0 = 0x0803 → exec (.safConfirm tag st) s = .next (u.resetNow tag st)) ∧
      (∀ p, s.fcp.prep = some p → e.a16 0 = 0x0805 → exec (.safConfirm tag st) s = .next (u.commitTile tag (leAt p.args 0 4)))) ∧
  (∀ (s : State) (tag : Nat) (st : SelfTest), s.stwState = 1 → s.armWhy st = 0 → s.armNow tag st =
      (((s.runTest st true).setFld F.STW_STATUS_ARM_WHY 0 0).toArmed).done tag FS.FS_OK) ∧
  (∀ (s : State) (tag : Nat) (st : SelfTest), s.stwState = 1 → s.armFirst ≠ 0 → s.armNow tag st =
      (s.setFld F.STW_STATUS_ARM_WHY 0 s.armFirst).complete tag FS.FS_STW_STATE 0 (leBytes 1 s.armFirst) []) ∧
  (∀ (s : State) (tag : Nat) (st : SelfTest), s.stwState = 1 → s.armFirst = 0 → s.armWhy st ≠ 0 → s.armNow tag st =
      ((s.runTest st s.allOff).setFld F.STW_STATUS_ARM_WHY 0 (s.armWhy st)).complete tag FS.FS_STW_STATE 0 (leBytes 1 (s.armWhy st)) []) ∧
  (∀ (s : State) (st : SelfTest), s.armWhy st = 0 ↔ s.tileVerifies = true ∧ s.anyCause = false ∧ s.inputsTested = true ∧
      (∀ r, r < 4 → s.flag F.PDU_STAT_EN r = true → s.rxAlive r = true) ∧ s.pathsPass st = true ∧ gdenPass st = true ∧ s.allOff = true) ∧
  (∀ (s : State) (st : SelfTest), s.stw.cfgSet = false → s.armWhy st = 1) ∧
  (∀ (s : State) (st : SelfTest), s.Canon → (s.runTest st true).stw.test = some s.now ∧
      (s.runTest st true).fld F.GL_GDEN_PIN 0 = st.low.toNat ∧ s.runTest st false = s.haltAll) ∧
  (∀ (s : State) (tag : Nat), s.stwState = 2 → s.allOff = true → s.flag F.PAIR_STATUS_ACT_OUT 0 = false →
      s.disarmNow tag = (s.toStw 1).done tag FS.FS_OK) ∧
  (∀ (s : State) (tag : Nat) (st : SelfTest), s.stwState = 3 ∨ s.stwState = 4 → s.endDiscrepancies.anyCause = true →
      s.resetNow tag st = s.done tag FS.FS_STW_STATE) ∧
  (∀ (s s1 : State) (tag : Nat) (st : SelfTest), s.stwState = 3 ∨ s.stwState = 4 → s1 = s.endDiscrepancies → s1.anyCause = false →
      (∀ i ∈ s1.stw.low, s1.siUsed i = false) → (∀ r, r < 4 → s1.flag F.PDU_STAT_EN r = true → (s1.rx r).since = true) →
      s.resetNow tag st = (((((s1.runTest st s1.noneSwitching).modStw fun w => { w with sgr := false, inhibit := false }).setFlag
        F.STW_STATUS_SGR_DONE 0 false).cond (s1.noneSwitching && s1.pathsPass st && gdenPass st) fun t => t.setFlag
        F.STW_STATUS_SGR_RB_ERR 0 false).toArmed).done tag FS.FS_OK) ∧
  (∀ s : State, s.Canon → s.stwState = 1 → s.toArmed.stwState = 2 ∧ s.toArmed.fld F.STW_CAUSE_FIRST 0 = 0) ∧
  (∀ s : State, ∃ t, exec .safConfirmTimeout s = .next t ∧ t.fcp.prep = none ∧ t.fcp.inflight = s.fcp.inflight ∧ s.Only t [.fcp])

/-- DI_SAMPLE (R359 to R361, R324): the raw levels are shown and move their counters, and a field input of the Steward that is high again
returns; with VFIELD out of its range every raw level is low (R370). BANK_REFRESH (R366): the outputs take the last output phase's command,
or DO_SAFE outside RUN, SILENT ends and an overload latch of an output commanded off clears; not in a debug halt or in Paddock.
SILENCE_TIMEOUT (R366): FIO_SAFE is driven, counted and posted, once. DO_OVERLOAD (R364): an output that is on is latched, counted and
posted. TP_OVERLOAD (R369): TP_OVL is set of an output that sources. VFIELD_UV_CHANGE and VFIELD_OV_CHANGE (R370): a change is shown and
posted, and no output is on while a flag is set. The readback of an output that turns off is 0 (R365). REMOTE_FRAME_RECEIVED
(R357): a frame of wrong length or with the last SEQ is counted, and a valid one replaces the module's block. REMOTE_TIMEOUT (R357): FRESH
clears, counted and posted. REMOTE_OUTPUT_SEND (R356, R357): the newest output phase leaves behind its header. Without their conditions the
commands do nothing. -/
def Obligations.FieldAndRemoteIoCommandsComplete : Prop :=
  (∀ (s s1 : State) (v : List Int), s1 = (s.setFld F.FIO_DI_RAW 0 ((List.range 16).map fun n =>
        if s.diRaw n (v.getD n 0) then 2 ^ n else 0).sum).forUnits 16 (fun t n => t.diCount n (s.diRaw n (v.getD n 0))) →
      exec (.diSample v) s = .next ((s1.forUnits 16 fun t n =>
        t.cond (s.diRaw n (v.getD n 0) && t.stw.low.contains (n + 4)) fun u => u.siHigh (n + 4)).diDiscrepancies)) ∧
  (∀ (s : State) (n : Nat) (r : Bool), s.Canon → n < 16 → vget (s.diCount n r).fio.cnt n =
        (if r then min (min (vget s.fio.cnt n) (s.diN n) + 1) (s.diN n) else min (vget s.fio.cnt n) (s.diN n) - 1) ∧
      s.RegsBut (s.diCount n r) [(F.FIO_DI_FILT, 0)] ∧ s.Only (s.diCount n r) [.regs, .fio]) ∧
  (∀ (s : State) (n : Nat) (v : Int), s.flag F.FIO_STAT_VF_UV 0 = true ∨ s.flag F.FIO_STAT_VF_OV 0 = true → s.diRaw n v = false) ∧
  (∀ (s : State) (p : BitVec 8) (c : Nat), s.Canon → s.outputsWell → s.hlp.dbgHalted = false → s.gait ≠ Gait.paddock →
      c = (if s.fld F.HLP_STATUS_STATE 0 = 2 then s.hlp.doCmd else s.doSafe) → c < 256 →
      ∃ t, exec (.bankRefresh p) s = .next t ∧ t.fld F.FIO_DO_APPLIED 0 = c ∧
      (∀ m, m < 8 → bitOf (t.fld F.FIO_DO_PIN 0) m = (p.getLsbD m && !(bitOf s.fio.on m && !t.doOn m))) ∧
      t.fld F.FIO_STAT_OVL 0 = s.fld F.FIO_STAT_OVL 0 &&& c ∧ t.flag F.FIO_STAT_SILENT 0 = false ∧ t.fio.held = false ∧
      s.RegsBut t [(F.FIO_DO_APPLIED, 0), (F.FIO_STAT_SILENT, 0), (F.FIO_DO_PIN, 0), (F.FIO_STAT_OVL, 0)] ∧ s.Only t [.regs, .fio]) ∧
  (∀ (s : State) (p : BitVec 8), s.hlp.dbgHalted = true ∨ s.gait = Gait.paddock → exec (.bankRefresh p) s = .next s) ∧
  (∀ s : State, s.Canon → s.outputsWell → s.fio.held = false → s.flag F.FIO_STAT_SILENT 0 = false → ∃ t, exec .silenceTimeout s = .next t ∧
      t.flag F.FIO_STAT_SILENT 0 = true ∧ t.fld F.FIO_DO_APPLIED 0 = s.fld F.FIO_CFG_FIO_SAFE 0 ∧
      (∀ m, m < 8 → t.doOn m = false → bitOf s.fio.on m = true → bitOf (t.fld F.FIO_DO_PIN 0) m = false) ∧
      t.fld F.FIO_STAT_SILENT_CNT 0 = min 255 (s.fld F.FIO_STAT_SILENT_CNT 0 + 1) ∧ s.Told t EV.EV_FIO_SILENT noUnit 0 ∧
      s.RegsBut t ((F.FIO_STAT_SILENT, 0) :: (F.FIO_DO_APPLIED, 0) :: (F.FIO_DO_PIN, 0) :: (F.FIO_STAT_SILENT_CNT, 0) :: evqFlds)) ∧
  (∀ s : State, s.fio.held = true ∨ s.flag F.FIO_STAT_SILENT 0 = true → exec .silenceTimeout s = .next s) ∧
  (∀ (s : State) (m : Fin 8), s.Canon → s.outputsWell → s.doOn m = true → ∃ t, exec (.doOverload m) s = .next t ∧
      t.fld F.FIO_STAT_OVL 0 = s.fld F.FIO_STAT_OVL 0 ||| 2 ^ m.val ∧ t.fld F.FIO_STAT_OVL_CNT 0 = min 255 (s.fld F.FIO_STAT_OVL_CNT 0 + 1) ∧
      t.doOn m = false ∧ (bitOf s.fio.on m = true → bitOf (t.fld F.FIO_DO_PIN 0) m = false) ∧ s.Told t EV.EV_FIO_OVL m 0 ∧
      s.RegsBut t ((F.FIO_STAT_OVL, 0) :: (F.FIO_DO_PIN, 0) :: (F.FIO_STAT_OVL_CNT, 0) :: evqFlds)) ∧
  (∀ (s : State) (m : Fin 8), s.doOn m = false → exec (.doOverload m) s = .next s) ∧
  (∀ (s : State) (k : Fin 4), s.Canon → s.tpOn k = true → ∃ t, exec (.tpOverload k) s = .next t ∧
      t.fld F.FIO_STAT_TP_OVL 0 = s.fld F.FIO_STAT_TP_OVL 0 ||| 2 ^ k.val ∧ s.RegsBut t [(F.FIO_STAT_TP_OVL, 0)] ∧ s.Only t [.regs]) ∧
  (∀ (s : State) (k : Fin 4), s.flag F.FIO_STAT_VF_UV 0 = true ∨ s.flag F.FIO_STAT_VF_OV 0 = true ∨ s.stw.slot = some k.val →
      exec (.tpOverload k) s = .next s) ∧
  (∀ (s : State) (b : Bool), s.Canon → s.outputsWell → s.flag F.FIO_STAT_VF_UV 0 ≠ b → ∃ t, exec (.vfieldUvChange b) s = .next t ∧
      t.flag F.FIO_STAT_VF_UV 0 = b ∧ (∀ m, m < 8 → b = true → t.doOn m = false) ∧
      s.Told t EV.EV_VFIELD noUnit (b2n b + 2 * b2n (s.flag F.FIO_STAT_VF_OV 0)) ∧
      s.RegsBut t ((F.FIO_STAT_VF_UV, 0) :: (F.FIO_DO_PIN, 0) :: evqFlds)) ∧
  (∀ (s : State) (b : Bool), s.Canon → s.outputsWell → s.flag F.FIO_STAT_VF_OV 0 ≠ b → ∃ t, exec (.vfieldOvChange b) s = .next t ∧
      t.flag F.FIO_STAT_VF_OV 0 = b ∧ (∀ m, m < 8 → b = true → t.doOn m = false) ∧
      s.Told t EV.EV_VFIELD noUnit (b2n (s.flag F.FIO_STAT_VF_UV 0) + 2 * b2n b) ∧
      s.RegsBut t ((F.FIO_STAT_VF_OV, 0) :: (F.FIO_DO_PIN, 0) :: evqFlds)) ∧
  (∀ s : State, exec (.vfieldUvChange (s.flag F.FIO_STAT_VF_UV 0)) s = .next s ∧ exec (.vfieldOvChange (s.flag F.FIO_STAT_VF_OV 0)) s = .next s) ∧
  (∀ (s : State) (r : Fin 32) (b : List Byte), s.Canon → s.flag F.RIO_STAT_EN r = true → s.fencenRuns = true →
      b.length ≠ s.rioLen r (vget s.hlp.rmod r).inLen ∨ leAt b 3 1 ≠ (vget s.hlp.rmod r).inLen ∨
        ((vget s.hlp.rmod r).seen = true ∧ leAt b 2 1 = s.fld F.RIO_STAT_RX_SEQ r) → ∃ t, exec (.remoteFrameReceived r b) s = .next t ∧
      t.fld F.RIO_STAT_ERR_CNT r = min 255 (s.fld F.RIO_STAT_ERR_CNT r + 1) ∧ s.RegsBut t [(F.RIO_STAT_ERR_CNT, r)] ∧ s.Only t [.regs]) ∧
  (∀ (s : State) (r : Fin 32) (b : List Byte), s.Canon → s.flag F.RIO_STAT_EN r = true → s.fencenRuns = true →
      b.length = s.rioLen r (vget s.hlp.rmod r).inLen → leAt b 3 1 = (vget s.hlp.rmod r).inLen →
      (vget s.hlp.rmod r).seen = false ∨ leAt b 2 1 ≠ s.fld F.RIO_STAT_RX_SEQ r → ∃ t,
      exec (.remoteFrameReceived r b) s = .next t ∧ (vget t.hlp.rmod r).input = slice b 4 (vget s.hlp.rmod r).inLen ∧
      (vget t.hlp.rmod r).seen = true ∧ t.fld F.RIO_STAT_RX_SEQ r = leAt b 2 1 ∧ t.flag F.RIO_STAT_FRESH r = true ∧
      s.RegsBut t [(F.RIO_STAT_RX_SEQ, r), (F.RIO_STAT_FRESH, r)] ∧ s.Only t [.regs, .hlp]) ∧
  (∀ (s : State) (r : Fin 32) (b : List Byte), s.flag F.RIO_STAT_EN r = false ∨ s.fencenRuns = false →
      exec (.remoteFrameReceived r b) s = .next s) ∧
  (∀ (s : State) (r : Fin 32), s.Canon → s.flag F.RIO_STAT_EN r = true → s.flag F.RIO_STAT_FRESH r = true → ∃ t,
      exec (.remoteTimeout r) s = .next t ∧ t.flag F.RIO_STAT_FRESH r = false ∧ s.Told t EV.EV_RIO_TIMEOUT r 0 ∧ t.hlp = s.hlp ∧
      t.fld F.RIO_STAT_TMO_CNT r = min 255 (s.fld F.RIO_STAT_TMO_CNT r + 1) ∧
      s.RegsBut t ((F.RIO_STAT_FRESH, r.val) :: (F.RIO_STAT_TMO_CNT, r.val) :: evqFlds)) ∧
  (∀ (s : State) (r : Fin 32), s.flag F.RIO_STAT_EN r = false ∨ s.flag F.RIO_STAT_FRESH r = false → exec (.remoteTimeout r) s = .next s) ∧
  (∀ (s : State) (r : Fin 32), s.flag F.RIO_STAT_EN r = true → s.fencenRuns = true → s.sby = false → s.hlp.ready = true → ∃ t,
      exec (.remoteOutputSend r) s = .next t ∧ (vget t.hlp.rmod r).seq = ((vget s.hlp.rmod r).seq + 1) % 256 ∧
      (vget t.hlp.rmod r).sent = leBytes 2 r.val ++ leBytes 1 (vget s.hlp.rmod r).seq ++ leBytes 1 (vget s.hlp.rmod r).outLen
        ++ Memory.getMany (fun _ => 0#8) s.hlp.qOut (0x400 + 32 * r.val) (vget s.hlp.rmod r).outLen ∧ s.Only t [.hlp]) ∧
  (∀ (s : State) (r : Fin 32), s.flag F.RIO_STAT_EN r = false ∨ s.fencenRuns = false ∨ s.sby = true ∨ s.hlp.ready = false →
      exec (.remoteOutputSend r) s = .next s)

/-- ETHERNET_FRAME_RECEIVED (R418, R421): a frame of a row of Table 15.2 with room goes to its destination; one that is too long, of no row
or without room is discarded and counted. A PTP event message has its receive timestamp (R429), and Fencen handles it. SCHEDULED_LAUNCH (R422):
the frame with the earliest launch time leaves once it has come, before a PTP message launched at that instant; what the guard held of the
ordinary path follows. LINK_CHANGE (R418): another LINK or SPEED is shown and posted. TX_TIMESTAMP (R426, R430, R431): the entry queues; the
time of a one-step Sync or Pdelay_Resp leaves in its message; a full queue drops the entry and counts it. TIMESTAMP_DRAIN (R43, R430, R431):
in an arbitration cycle that serves the queue Fencen takes the oldest entry and matches it by ID and TYPE: that of a Sync or Pdelay_Resp
leaves in the follow-up, that of a request is its transmit time, and one without its message does nothing; a request whose stamp was dropped
ends its exchange. Without their conditions the commands do nothing. -/
def Obligations.FrameCommandsComplete : Prop :=
  (∀ (s : State) (m : Fin 3) (f : RxFrame), s.netRuns = true → s.flag F.MAC_STAT_LINK m = true → f.len ≤ 1522 → s.rxRow m f.kind f.dst ≠ 0 →
      s.rxRow m f.kind f.dst ≠ 2 → f.room = true → ∃ t, exec (.ethernetFrameReceived m f) s = .next t ∧
      (vget t.macs m).dest = s.rxRow m f.kind f.dst ∧ s.Only t [.macs]) ∧
  (∀ (s : State) (m : Fin 3) (f : RxFrame), s.netRuns = true → s.flag F.MAC_STAT_LINK m = true → f.len ≤ 1522 → s.rxRow m f.kind f.dst = 2 →
      f.room = true → exec (.ethernetFrameReceived m f) s =
        .next ((s.modMac m fun x => { x with dest := 2, rxStamp := none }).ptpFrame m f.kind)) ∧
  (∀ (s : State) (m : Nat) (msg : List Byte), leAt msg 0 1 % 16 < 4 → s.ptpFrame m (.ptp msg) =
      (s.modMac m fun x => { x with rxStamp := some (s.rxTime m) }).ptpReceive m msg (some (s.rxTime m))) ∧
  (∀ (s : State) (m : Nat) (msg : List Byte), 4 ≤ leAt msg 0 1 % 16 → s.ptpFrame m (.ptp msg) =
      (s.modMac m fun x => { x with rxStamp := none }).ptpReceive m msg none) ∧
  (∀ (s : State) (m : Fin 3) (f : RxFrame), s.Canon → s.netRuns = true → s.flag F.MAC_STAT_LINK m = true →
      1522 < f.len ∨ s.rxRow m f.kind f.dst = 0 ∨ f.room = false → ∃ t,
      exec (.ethernetFrameReceived m f) s = .next t ∧ (vget t.macs m).dest = 0 ∧
      t.fld F.MAC_STAT_RX_DROP m = min 65535 (s.fld F.MAC_STAT_RX_DROP m + 1) ∧
      s.RegsBut t [(F.MAC_STAT_RX_DROP, m), (F.MB_STAT_SRC_CNT, 4 + m)] ∧ s.Only t [.regs, .macs]) ∧
  (∀ (s : State) (m : Fin 3) (f : RxFrame), s.netRuns = false ∨ s.flag F.MAC_STAT_LINK m = false →
      exec (.ethernetFrameReceived m f) s = .next s) ∧
  (∀ (s : State) (m : Fin 3) (f : SchedFrame), s.netRuns = true → (vget s.macs m).held = [] → earliest (vget s.macs m).sched = some f →
      f.at1 ≤ (vget s.tb 1).ticks → exec (.scheduledLaunch m none) s =
        .next ((s.modMac m fun x => { x with sched := (vget s.macs m).sched.erase f }).launchOn m f.len)) ∧
  (∀ (s : State) (m : Fin 3) (k : Option (Fin 4)), s.netRuns = true → (vget s.macs m).held = [] →
      (∀ f ∈ (vget s.macs m).sched, (vget s.tb 1).ticks < f.at1) → ∃ t, exec (.scheduledLaunch m k) s = .next t ∧
      (k = none → t = s) ∧ (∀ n, k = some n → t = s.ptpLaunch m n)) ∧
  (∀ (s : State) (m : Fin 3), s.netRuns = true → (vget s.macs m).held ≠ [] → (∀ f ∈ (vget s.macs m).sched, (vget s.tb 1).ticks < f.at1) →
      exec (.scheduledLaunch m none) s = .next (s.ordinary m [])) ∧
  (∀ (s : State) (m : Nat) (l : List (List Byte)), m < 3 → s.txHeld m = false → (vget (s.ordinary m l).macs m).held = [] ∧
      (vget (s.ordinary m l).fcp.boxes (4 + m)).sent = (vget s.fcp.boxes (4 + m)).sent ++ ((vget s.macs m).held ++ l)) ∧
  (∀ (s : State) (m : Nat) (l : List (List Byte)), m < 3 → s.txHeld m = true → (vget (s.ordinary m l).macs m).held = (vget s.macs m).held ++ l ∧
      (vget (s.ordinary m l).fcp.boxes (4 + m)).sent = (vget s.fcp.boxes (4 + m)).sent) ∧
  (∀ (l : List SchedFrame) (f : SchedFrame), earliest l = some f → f ∈ l ∧ ∀ g ∈ l, f.at1 ≤ g.at1) ∧
  (∀ (s : State) (m : Fin 3) (k : Option (Fin 4)), s.netRuns = false → exec (.scheduledLaunch m k) s = .next s) ∧
  (∀ (s : State) (m k : Fin 3) (up : Bool) (v : Nat), s.Canon → s.netRuns = true → v = (if up then k.val else 3) →
      s.flag F.MAC_STAT_LINK m ≠ up ∨ s.fld F.MAC_STAT_SPEED m ≠ v → ∃ t, exec (.linkChange m up k) s = .next t ∧
      t.flag F.MAC_STAT_LINK m = up ∧ t.fld F.MAC_STAT_SPEED m = v ∧ s.Told t EV.EV_LINK m (b2n up + 256 * v) ∧
      s.RegsBut t ((F.MAC_STAT_LINK, m.val) :: (F.MAC_STAT_SPEED, m.val) :: evqFlds)) ∧
  (∀ (s : State) (m k : Fin 3) (up : Bool), s.netRuns = false ∨
      (s.flag F.MAC_STAT_LINK m = up ∧ s.fld F.MAC_STAT_SPEED m = (if up then k.val else 3)) → exec (.linkChange m up k) s = .next s) ∧
  (∀ (s : State) (m : Fin 3) (i : BitVec 16) (k : Fin 16) (o : Bool), s.Canon → s.netRuns = true → o = false ∨ (k.val ≠ 0 ∧ k.val ≠ 3) →
      (vget s.macs m).tsq.length < 16 → ∃ t, exec (.txTimestamp m i k o) s = .next t ∧
      (vget t.macs m).tsq = (vget s.macs m).tsq ++ [⟨i.toNat, k, s.txStamp m, (vget s.tb 1).ticks⟩] ∧
      t.fld F.TSQ_STAT_DEPTH m = (vget s.macs m).tsq.length + 1 ∧ s.RegsBut t [(F.TSQ_STAT_DEPTH, m)] ∧ s.Only t [.regs, .macs]) ∧
  (∀ (s : State) (m : Fin 3) (i : BitVec 16) (k : Fin 16), s.netRuns = true → k.val = 0 ∨ k.val = 3 → ∃ t,
      exec (.txTimestamp m i k true) s = .next t ∧ (vget t.macs m).ptpSent = some (ptpStamp (s.txStamp m)) ∧
      (vget t.macs m).tsq = (vget s.macs m).tsq ∧ s.Only t [.macs, .ptp]) ∧
  (∀ (s : State) (m : Fin 3) (i : BitVec 16) (k : Fin 16) (o : Bool), s.Canon → s.netRuns = true → o = false ∨ (k.val ≠ 0 ∧ k.val ≠ 3) →
      16 ≤ (vget s.macs m).tsq.length → ∃ t, exec (.txTimestamp m i k o) s = .next t ∧ (vget t.macs m).tsq = (vget s.macs m).tsq ∧
      (vget t.macs m).dropped = true ∧ t.fld F.TSQ_STAT_DROP_CNT m = min 65535 (s.fld F.TSQ_STAT_DROP_CNT m + 1) ∧
      s.RegsBut t ((F.TSQ_STAT_DROP_CNT, m.val) :: evqFlds)) ∧
  (∀ (s : State) (m : Fin 3) (i : BitVec 16) (k : Fin 16) (o : Bool), s.netRuns = false → exec (.txTimestamp m i k o) s = .next s) ∧
  (∀ (s : State) (m : Fin 3) (x : TsEntry) (l : List TsEntry), s.Canon → s.fencenRuns = true → s.serves 4 = true →
      (vget s.macs m).tsq = x :: l → l.length < 32 →
      ∃ t, exec (.timestampDrain m) s = .next t ∧ (vget t.macs m).tsq = l ∧ t.fld F.TSQ_STAT_DEPTH m = l.length ∧
      s.RegsBut t [(F.TSQ_STAT_DEPTH, m)] ∧ s.Only t [.regs, .macs, .ptp]) ∧
  (∀ (s : State) (m : Nat) (e : TsEntry), (e.id, e.type) ∉ (s.link m).sent → s.useStamp m e = s) ∧
  (∀ (s : State) (m : Nat) (e : TsEntry), m < 3 → s.netRuns = true → (e.id, e.type) ∈ (s.link m).sent → e.type = 0 ∨ e.type = 3 →
      (vget (s.useStamp m e).macs m).ptpSent = some (ptpStamp e.time) ∧ s.Only (s.useStamp m e) [.macs, .ptp]) ∧
  (∀ (s : State) (m : Nat) (e : TsEntry) (r : DelaySt), m < 3 → (e.id, e.type) ∈ (s.link m).sent → e.type = 1 ∨ e.type = 2 →
      (s.link m).req = some r → r.seq % 4096 = e.id % 4096 → r.back = none →
      ((s.useStamp m e).link m).req = some { r with left := some (e.time : Int) } ∧ s.Only (s.useStamp m e) [.ptp]) ∧
  (∀ (s : State) (m i k : Nat) (r : DelaySt), m < 3 → (i, k) ∈ (s.link m).sent → k = 1 ∨ k = 2 → (s.link m).req = some r →
      r.seq % 4096 = i % 4096 → ((s.ptpGone m i k).link m).req = none) ∧
  (∀ (s : State) (m : Fin 3), s.fencenRuns = false ∨ s.serves 4 = false ∨ (vget s.macs m).tsq = [] → exec (.timestampDrain m) s = .next s)

/-- PTP_SERVO_UPDATE (R435 to R437): with a complete Sync and a path delay of a port in SLAVE or UNCALIBRATED the servo runs: within the step
threshold TB0 is trimmed by at most 500 ppm, and beyond it steps to the master's time and the lock drops; both act at the next NET clock
(R424, log entry 92). HOLD_MAX_EXPIRY (R436): the lock drops. ANNOUNCE_RECEIPT_TIMEOUT (R432, R435, R436): the master heard on the port is
gone and the best master algorithm runs, as IEEE 1588 has it (log entry 151): alone the clock is grandmaster with GM_LOCK, with a better
master it follows, and another grandmaster drops the lock. TB_READ (R425): the four time bases and TB_STAT. TB_SET and TB_ADJ (R424, R425): a
time base the host owns takes the time, or the rate and a step; another one is answered with FS_TB_OWNED. PTP_CFG (R433): a payload in range
restarts the instance and LOCKED clears, and another is answered with FS_PARAM. -/
def Obligations.TimeCommandsComplete : Prop :=
  (∀ (s : State) (m : Nat) (d : Int), s.fencenRuns = true → s.netRuns = true → s.ptpOn = true → s.flag F.TB_STAT_GM 0 = false →
      s.servoPort = some (m, d) → exec .ptpServoUpdate s =
        .next (((s.modLink m fun x => { x with due := false }).servo d).calibrated m d)) ∧
  (∀ s : State, s.fencenRuns = false ∨ s.netRuns = false ∨ s.ptpOn = false ∨ s.flag F.TB_STAT_GM 0 = true ∨ s.servoPort = none →
      exec .ptpServoUpdate s = .next s) ∧
  (∀ (s : State) (m : Nat) (d p : Int), m < 3 → s.ptpCfg 1 1 = 2 ^ m → s.portIs m = 7 ∨ s.portIs m = 8 → (s.link m).due = true →
      (s.link m).diff = some d → (s.link m).delay = some p → s.servoPort = some (m, (d - p) / 65536)) ∧
  (∀ (s : State) (d : Int), d.natAbs ≤ s.ptpCfg 20 4 → d.natAbs ≤ s.ptpCfg 16 4 → s.ptp.good < 15 →
      (s.servo d).ptp.good = s.ptp.good + 1 ∧ (s.servo d).ptp.bad = 0 ∧ (s.servo d).ptp.base = d.natAbs ∧
      (∃ f : Int, (vget (s.servo d).tb 0).adj = some (f, ((vget s.tb 0).adj.map (·.2)).getD 0) ∧ f.natAbs ≤ 500000000) ∧
      (vget (s.servo d).tb 0).ticks = (vget s.tb 0).ticks ∧ s.Only (s.servo d) [.fresh, .tb, .ptp]) ∧
  (∀ (s : State) (d : Int), s.Canon → s.ptpCfg 20 4 < d.natAbs → (vget (s.servo d).tb 0).adj = some ((vget s.tb 0).freq,
        (s.ptpTarget d : Int) - (vget s.tb 0).ticks + ((vget s.tb 0).adj.map (·.2)).getD 0) ∧
      (s.servo d).flag F.TB_STAT_LOCKED 0 = false ∧ (s.servo d).ptp.good = 0) ∧
  (∀ (t : TimeBase) (f d : Int), t.adj = some (f, d) → (t.clocks 1).freq = f ∧ (t.clocks 1).adj = none ∧
      (t.clocks 1).ticks = ((t.count 1).step d).ticks ∧ (t.clocks 1).jumped = d) ∧
  (∀ t : TimeBase, t.adj = none → t.freq = 0 → (t.clocks 1).ticks = t.ticks + 8 * 65536 + t.sub / 2 ^ 24) ∧
  (∀ s : State, s.ptpOn = true → s.flag F.TB_STAT_GM 0 = false → exec .holdMaxExpiry s = .next s.dropLock) ∧
  (∀ s : State, s.ptpOn = false ∨ s.flag F.TB_STAT_GM 0 = true → exec .holdMaxExpiry s = .next s) ∧
  (∀ s : State, s.Canon → s.dropLock.flag F.TB_STAT_LOCKED 0 = false ∧ s.dropLock.ptp.good = 0) ∧
  (∀ (s : State) (m : Fin 3), s.fencenRuns = true → s.netRuns = true → s.ptpOn = true → bitOf (s.ptpCfg 1 1) m = true →
      exec (.announceReceiptTimeout m) s = .next ((s.modLink m fun x => { x with best := none, sync := none }).bestMaster (some m))) ∧
  (∀ (s : State) (m : Fin 3), s.fencenRuns = false ∨ s.netRuns = false ∨ s.ptpOn = false ∨ bitOf (s.ptpCfg 1 1) m = false →
      exec (.announceReceiptTimeout m) s = .next s) ∧
  (∀ (s t : State) (m : Nat), m < 3 → s.Canon → s.ptpOn = true → s.ptpCfg 1 1 = 2 ^ m → s.bestHeard = none → s.ptpCfg 0 1 / 2 % 4 ≠ 0 →
      t = s.bestMaster (some m) → t.portIs m = 5 ∧ t.flag F.TB_STAT_GM 0 = true ∧ t.ptp.gm = some s.clockId ∧
      t.flag F.TB_STAT_LOCKED 0 = (s.ptpCfg 14 1 % 2 == 1)) ∧
  (∀ (s t : State) (m : Nat) (x : Option Nat) (b : Announce), m < 3 → s.Canon → s.ptpOn = true → s.ptpCfg 1 1 = 2 ^ m →
      (s.link m).best = some b → b.port = m → s.ptpCfg 5 1 = 0 → rank s.clockId s.ownData b = 0 → t = s.bestMaster x →
      (t.portIs m = 7 ∨ t.portIs m = 8) ∧ t.flag F.TB_STAT_GM 0 = false ∧ t.ptp.gm = some b.gm ∧
      (s.ptp.gm ≠ some b.gm → t.flag F.TB_STAT_LOCKED 0 = false)) ∧
  (∀ (s : State) (tag : Fin 128) (e : Entry), s.Serves 0x0B01 tag e → ∃ t, exec (.tbRead tag) s = .next t ∧ t.Answered tag FS.FS_OK []
      ((List.range 4).flatMap (fun b => timeBytes (vget s.tb b).ticks) ++ leBytes 4 (s.tbStat 0).toNat) ∧ s.Only t [.fcp, .macs]) ∧
  (∀ (s : State) (tag : Fin 128) (e : Entry), s.Serves 0x0B02 tag e → e.a 0 = 3 → leAt e.args 12 4 < 1000000000 → s.hostOwned 3 = true →
      exec (.tbSet tag) s = .next ((s.stepTb 3 ((timeAt e.args 4 : Nat) - ((vget s.tb 3).ticks : Int))).done tag FS.FS_OK)) ∧
  (∀ (s : State) (tag : Fin 128) (e : Entry), s.Serves 0x0B02 tag e → e.a 0 = 0 → leAt e.args 12 4 < 1000000000 → s.hostOwned 0 = true →
      exec (.tbSet tag) s = .next (((s.stepTb 0 ((timeAt e.args 4 : Nat) - ((vget s.tb 0).ticks : Int))).dropLock).done tag FS.FS_OK)) ∧
  (∀ (s : State) (tag : Fin 128) (e : Entry), s.Serves 0x0B02 tag e → e.a 0 ≤ 3 → leAt e.args 12 4 < 1000000000 → s.hostOwned (e.a 0) = false →
      ∃ t, exec (.tbSet tag) s = .next t ∧ t.Answered tag FS.FS_TB_OWNED [] [] ∧ s.Only t [.fcp, .macs]) ∧
  (∀ (s : State) (b k : Nat), b < 4 → k < 2 ^ 64 * (1000000000 * 65536) →
      (vget (s.stepTb b ((k : Int) - (vget s.tb b).ticks)).tb b).ticks = k) ∧
  (∀ (s : State) (tag : Fin 128) (e : Entry), s.Serves 0x0B03 tag e → e.a 0 ≤ 3 → (signed 32 (e.a32 4)).natAbs ≤ 500000000 →
      leAt e.args 16 4 < 1000000000 → s.hostOwned (e.a 0) = true → signedTimeAt e.args 8 = 0 → ∃ t, exec (.tbAdj tag) s = .next t ∧
      (vget t.tb (e.a 0)).adj = some (signed 32 (e.a32 4), ((vget s.tb (e.a 0)).adj.map (·.2)).getD 0) ∧
      (vget t.tb (e.a 0)).ticks = (vget s.tb (e.a 0)).ticks ∧
      t.Answered tag FS.FS_OK [] [] ∧ s.Only t [.fcp, .tb, .macs]) ∧
  (∀ (s : State) (tag : Fin 128) (e : Entry), s.Serves 0x0B03 tag e → e.a 0 = 3 → (signed 32 (e.a32 4)).natAbs ≤ 500000000 →
      leAt e.args 16 4 < 1000000000 → s.hostOwned 3 = true → signedTimeAt e.args 8 ≠ 0 → exec (.tbAdj tag) s =
      .next ((s.adjTb 3 (signed 32 (e.a32 4)) (signedTimeAt e.args 8)).done tag FS.FS_OK)) ∧
  (∀ (s : State) (tag : Fin 128) (e : Entry), s.Serves 0x0B03 tag e → e.a 0 = 0 → (signed 32 (e.a32 4)).natAbs ≤ 500000000 →
      leAt e.args 16 4 < 1000000000 → s.hostOwned 0 = true → signedTimeAt e.args 8 ≠ 0 → exec (.tbAdj tag) s =
      .next (((s.adjTb 0 (signed 32 (e.a32 4)) (signedTimeAt e.args 8)).dropLock).done tag FS.FS_OK)) ∧
  (∀ (s : State) (tag : Fin 128) (e : Entry), s.Serves 0x0B03 tag e → e.a 0 ≤ 3 → (signed 32 (e.a32 4)).natAbs ≤ 500000000 →
      leAt e.args 16 4 < 1000000000 → s.hostOwned (e.a 0) = false → ∃ t, exec (.tbAdj tag) s = .next t ∧
      t.Answered tag FS.FS_TB_OWNED [] [] ∧ s.Only t [.fcp, .macs]) ∧
  (∀ (s : State) (tag : Fin 128) (e : Entry), s.Serves 0x0B04 tag e → s.ptpOk e.payload = true → ∃ t, exec (.ptpCfg tag) s = .next t ∧
      t.ptp.cfg = e.payload ∧ t.ptp.good = 0 ∧ t.ptp.bad = 0 ∧ t.flag F.TB_STAT_LOCKED 0 = false ∧ t.ptp.fromPeer = false ∧
      s.Only t [.regs, .fcp, .evq, .trace, .ptp, .recd, .macs]) ∧
  (∀ (s : State) (tag : Fin 128) (e : Entry), s.Serves 0x0B04 tag e → s.ptpOk e.payload = false → ∃ t, exec (.ptpCfg tag) s = .next t ∧
      t.Answered tag FS.FS_PARAM [] [] ∧ s.Only t [.fcp, .macs])

/-- The HLP's bit instructions (R342, Table 11.4): NOP, LD, LDN, AND, ANDN, OR, ORN, XOR, EDGE, ST, STN, SET, RST, NOT, PUSH, ANDP and ORP.
Where the HLP executes and the program word at its index is the instruction (its OP and its operand), the index moves by one and the
accumulator A, the stack of 16 and bit b take what its row says; ANDP and ORP take what was pushed, since a checked program never pops an empty stack (R344). Otherwise each does
nothing. -/
def Obligations.HlpBitInstructionsComplete : Prop :=
  (∀ (s : State) (op x : Nat), s.fetches op x = true ↔ s.hlp.section_.isSome = true ∧ s.hlp.dbgHalted = false ∧
      (s.clkOk 2 = true ∨ s.hlp.padStop = true) ∧ s.hlp.prog.insn s.hlp.pc = op * 2 ^ 24 + x) ∧
  (∀ (s u : State), u = s.modHlp (fun h => { h with pc := h.pc + 1 }) →
      (s.fetches 0x00 0 = true → exec .hlpNop s = .next u) ∧
      (s.fetches 0x0B 0 = true → exec .hlpNot s = .next (u.modHlp fun h => { h with a := !s.hlp.a })) ∧
      (s.fetches 0x08 0 = true → exec .hlpPush s = .next (u.modHlp fun h => { h with stack := (s.hlp.a :: s.hlp.stack).take 16 })) ∧
      (∀ (p : Bool) (l : List Bool), s.hlp.stack = p :: l →
        (s.fetches 0x09 0 = true → exec .hlpAndp s = .next (u.modHlp fun h => { h with a := s.hlp.a && p, stack := l })) ∧
        (s.fetches 0x0A 0 = true → exec .hlpOrp s = .next (u.modHlp fun h => { h with a := s.hlp.a || p, stack := l })))) ∧
  (∀ (s u : State) (b : BitVec 20), u = s.modHlp (fun h => { h with pc := h.pc + 1 }) →
      (s.fetches 0x01 b.toNat = true → exec (.hlpLd b) s = .next (u.modHlp fun h => { h with a := s.hbit b.toNat })) ∧
      (s.fetches 0x02 b.toNat = true → exec (.hlpLdn b) s = .next (u.modHlp fun h => { h with a := !s.hbit b.toNat })) ∧
      (s.fetches 0x03 b.toNat = true → exec (.hlpAnd b) s = .next (u.modHlp fun h => { h with a := s.hlp.a && s.hbit b.toNat })) ∧
      (s.fetches 0x04 b.toNat = true → exec (.hlpAndn b) s = .next (u.modHlp fun h => { h with a := s.hlp.a && !s.hbit b.toNat })) ∧
      (s.fetches 0x05 b.toNat = true → exec (.hlpOr b) s = .next (u.modHlp fun h => { h with a := s.hlp.a || s.hbit b.toNat })) ∧
      (s.fetches 0x06 b.toNat = true → exec (.hlpOrn b) s = .next (u.modHlp fun h => { h with a := s.hlp.a || !s.hbit b.toNat })) ∧
      (s.fetches 0x07 b.toNat = true → exec (.hlpXor b) s = .next (u.modHlp fun h => { h with a := s.hlp.a != s.hbit b.toNat })) ∧
      (s.fetches 0x0C b.toNat = true →
        exec (.hlpEdge b) s = .next ((u.setHbit b.toNat s.hlp.a).modHlp fun h => { h with a := s.hlp.a && !s.hbit b.toNat })) ∧
      (s.fetches 0x0D b.toNat = true → exec (.hlpSt b) s = .next (u.setHbit b.toNat s.hlp.a)) ∧
      (s.fetches 0x0E b.toNat = true → exec (.hlpStn b) s = .next (u.setHbit b.toNat (!s.hlp.a))) ∧
      (s.fetches 0x0F b.toNat = true → exec (.hlpSet b) s = .next (if s.hlp.a then u.setHbit b.toNat true else u)) ∧
      (s.fetches 0x10 b.toNat = true → exec (.hlpRst b) s = .next (if s.hlp.a then u.setHbit b.toNat false else u))) ∧
  (∀ (s : State) (b : BitVec 20),
      (s.fetches 0x00 0 = false → exec .hlpNop s = .next s) ∧ (s.fetches 0x0B 0 = false → exec .hlpNot s = .next s) ∧
      (s.fetches 0x08 0 = false → exec .hlpPush s = .next s) ∧ (s.fetches 0x09 0 = false → exec .hlpAndp s = .next s) ∧
      (s.fetches 0x0A 0 = false → exec .hlpOrp s = .next s) ∧ (s.fetches 0x01 b.toNat = false → exec (.hlpLd b) s = .next s) ∧
      (s.fetches 0x02 b.toNat = false → exec (.hlpLdn b) s = .next s) ∧ (s.fetches 0x03 b.toNat = false → exec (.hlpAnd b) s = .next s) ∧
      (s.fetches 0x04 b.toNat = false → exec (.hlpAndn b) s = .next s) ∧ (s.fetches 0x05 b.toNat = false → exec (.hlpOr b) s = .next s) ∧
      (s.fetches 0x06 b.toNat = false → exec (.hlpOrn b) s = .next s) ∧ (s.fetches 0x07 b.toNat = false → exec (.hlpXor b) s = .next s) ∧
      (s.fetches 0x0C b.toNat = false → exec (.hlpEdge b) s = .next s) ∧ (s.fetches 0x0D b.toNat = false → exec (.hlpSt b) s = .next s) ∧
      (s.fetches 0x0E b.toNat = false → exec (.hlpStn b) s = .next s) ∧ (s.fetches 0x0F b.toNat = false → exec (.hlpSet b) s = .next s) ∧
      (s.fetches 0x10 b.toNat = false → exec (.hlpRst b) s = .next s))

/-- The HLP's timers, counters, word instructions and jumps (R342, R343, Table 11.4): TON, TOF, TP, CTU, CTD, CRS, LW, LK, SW, MOV, ADD,
SUB, CEQ, CNE, CLT, CLE, CGT, CGE, FLT, FGT, JMP, JC, JNC, END and ADCR. Where the HLP executes and the program word at its index is the
instruction, the index moves by one and A, the word accumulator W and its operand take what its row says: arithmetic is signed and saturates, a
comparison ANDs into A and a NaN gives 0, a taken jump sets the index, END ends the section and in COLD and WARM the start, and ADCR with A
= 1 is an urgent request (R162). Otherwise each does nothing. -/
def Obligations.HlpWordInstructionsComplete : Prop :=
  (∀ (s u : State) (w : BitVec 24), u = s.modHlp (fun h => { h with pc := h.pc + 1 }) →
      (s.fetches 0x18 w.toNat = true → exec (.hlpTon w) s = .next (u.timer w.toNat tonNext)) ∧
      (s.fetches 0x19 w.toNat = true → exec (.hlpTof w) s = .next (u.timer w.toNat tofNext)) ∧
      (s.fetches 0x1A w.toNat = true → exec (.hlpTp w) s = .next (u.timer w.toNat tpNext)) ∧
      (s.fetches 0x1C w.toNat = true → exec (.hlpCtu w) s = .next (u.counter w.toNat 1 fun pv cv => decide (pv ≤ cv))) ∧
      (s.fetches 0x1D w.toNat = true → exec (.hlpCtd w) s = .next (u.counter w.toNat (-1) fun _ cv => decide (cv ≤ 0))) ∧
      (s.fetches 0x1E w.toNat = true → exec (.hlpCrs w) s = .next (if s.hlp.a then u.setHword (w.toNat + 4) 0#32 else u)) ∧
      (s.fetches 0x20 w.toNat = true → exec (.hlpLw w) s = .next (u.modHlp fun h => { h with w := s.hword w.toNat })) ∧
      (s.fetches 0x22 w.toNat = true → exec (.hlpSw w) s = .next (u.setHword w.toNat s.hlp.w)) ∧
      (s.fetches 0x23 w.toNat = true → exec (.hlpMov w) s = .next (if s.hlp.a then u.setHword w.toNat s.hlp.w else u)) ∧
      (s.fetches 0x24 w.toNat = true →
        exec (.hlpAdd w) s = .next (u.modHlp fun h => { h with
        w := BitVec.ofInt 32 (max (-2 ^ 31) (min (2 ^ 31 - 1) (s.hlp.w.toInt + (s.hword w.toNat).toInt))) })) ∧
      (s.fetches 0x25 w.toNat = true →
        exec (.hlpSub w) s = .next (u.modHlp fun h => { h with
        w := BitVec.ofInt 32 (max (-2 ^ 31) (min (2 ^ 31 - 1) (s.hlp.w.toInt - (s.hword w.toNat).toInt))) })) ∧
      (s.fetches 0x26 w.toNat = true →
        exec (.hlpCeq w) s = .next (u.modHlp fun h => { h with a := s.hlp.a && s.hlp.w == s.hword w.toNat })) ∧
      (s.fetches 0x27 w.toNat = true →
        exec (.hlpCne w) s = .next (u.modHlp fun h => { h with a := s.hlp.a && s.hlp.w != s.hword w.toNat })) ∧
      (s.fetches 0x28 w.toNat = true →
        exec (.hlpClt w) s = .next (u.modHlp fun h => { h with a := s.hlp.a && s.hlp.w.slt (s.hword w.toNat) })) ∧
      (s.fetches 0x29 w.toNat = true →
        exec (.hlpCle w) s = .next (u.modHlp fun h => { h with a := s.hlp.a && s.hlp.w.sle (s.hword w.toNat) })) ∧
      (s.fetches 0x2A w.toNat = true →
        exec (.hlpCgt w) s = .next (u.modHlp fun h => { h with a := s.hlp.a && (s.hword w.toNat).slt s.hlp.w })) ∧
      (s.fetches 0x2B w.toNat = true →
        exec (.hlpCge w) s = .next (u.modHlp fun h => { h with a := s.hlp.a && (s.hword w.toNat).sle s.hlp.w })) ∧
      (s.fetches 0x2C w.toNat = true →
        exec (.hlpFlt w) s = .next (u.modHlp fun h => { h with a := s.hlp.a && fpLt s.hlp.w (s.hword w.toNat) })) ∧
      (s.fetches 0x2D w.toNat = true →
        exec (.hlpFgt w) s = .next (u.modHlp fun h => { h with a := s.hlp.a && fpLt (s.hword w.toNat) s.hlp.w }))) ∧
  (∀ (s u : State) (k : BitVec 12) (i : BitVec 16) (r : BitVec 13), u = s.modHlp (fun h => { h with pc := h.pc + 1 }) →
      (s.fetches 0x21 k.toNat = true → exec (.hlpLk k) s = .next (u.modHlp fun h => { h with w := s.hlp.prog.const k.toNat })) ∧
      (s.fetches 0x30 i.toNat = true → exec (.hlpJmp i) s = .next (u.modHlp fun h => { h with pc := i.toNat })) ∧
      (s.fetches 0x31 i.toNat = true → exec (.hlpJc i) s = .next (if s.hlp.a then u.modHlp fun h => { h with pc := i.toNat } else u)) ∧
      (s.fetches 0x32 i.toNat = true → exec (.hlpJnc i) s = .next (if s.hlp.a then u else u.modHlp fun h => { h with pc := i.toNat })) ∧
      (s.fetches 0x34 r.toNat = true →
        exec (.hlpAdcr r) s = .next (if s.hlp.a then u.urgent (r.toNat / 256) (r.toNat % 4) (r.toNat / 16 % 16) 1 else u)) ∧
      (s.fetches 0x33 0 = true → s.hlp.section_ = some 2 → exec .hlpEnd s = .next (u.modHlp fun h => { h with section_ := none })) ∧
      (s.fetches 0x33 0 = true → s.hlp.section_ ≠ some 2 → exec .hlpEnd s = .next (u.modHlp fun h => { h with section_ := none, initDone := true }))) ∧
  (∀ x y : F32, fIsNan x = true ∨ fIsNan y = true → fpLt x y = false) ∧
  (∀ (s : State) (w : BitVec 24) (k : BitVec 12) (i : BitVec 16) (r : BitVec 13),
      (s.fetches 0x18 w.toNat = false → exec (.hlpTon w) s = .next s) ∧ (s.fetches 0x19 w.toNat = false → exec (.hlpTof w) s = .next s) ∧
      (s.fetches 0x1A w.toNat = false → exec (.hlpTp w) s = .next s) ∧ (s.fetches 0x1C w.toNat = false → exec (.hlpCtu w) s = .next s) ∧
      (s.fetches 0x1D w.toNat = false → exec (.hlpCtd w) s = .next s) ∧ (s.fetches 0x1E w.toNat = false → exec (.hlpCrs w) s = .next s) ∧
      (s.fetches 0x20 w.toNat = false → exec (.hlpLw w) s = .next s) ∧ (s.fetches 0x22 w.toNat = false → exec (.hlpSw w) s = .next s) ∧
      (s.fetches 0x23 w.toNat = false → exec (.hlpMov w) s = .next s) ∧ (s.fetches 0x24 w.toNat = false → exec (.hlpAdd w) s = .next s) ∧
      (s.fetches 0x25 w.toNat = false → exec (.hlpSub w) s = .next s) ∧ (s.fetches 0x26 w.toNat = false → exec (.hlpCeq w) s = .next s) ∧
      (s.fetches 0x27 w.toNat = false → exec (.hlpCne w) s = .next s) ∧ (s.fetches 0x28 w.toNat = false → exec (.hlpClt w) s = .next s) ∧
      (s.fetches 0x29 w.toNat = false → exec (.hlpCle w) s = .next s) ∧ (s.fetches 0x2A w.toNat = false → exec (.hlpCgt w) s = .next s) ∧
      (s.fetches 0x2B w.toNat = false → exec (.hlpCge w) s = .next s) ∧ (s.fetches 0x2C w.toNat = false → exec (.hlpFlt w) s = .next s) ∧
      (s.fetches 0x2D w.toNat = false → exec (.hlpFgt w) s = .next s) ∧ (s.fetches 0x21 k.toNat = false → exec (.hlpLk k) s = .next s) ∧
      (s.fetches 0x30 i.toNat = false → exec (.hlpJmp i) s = .next s) ∧ (s.fetches 0x31 i.toNat = false → exec (.hlpJc i) s = .next s) ∧
      (s.fetches 0x32 i.toNat = false → exec (.hlpJnc i) s = .next s) ∧ (s.fetches 0x34 r.toNat = false → exec (.hlpAdcr r) s = .next s) ∧
      (s.fetches 0x33 0 = false → exec .hlpEnd s = .next s))

/-- The HLP's memory (R338): a program's write to a bit or a word of V or Q is read back there and nowhere else, and a write to the input
image or beyond changes nothing. -/
def Obligations.HlpMemoryReadsBack : Prop :=
  (∀ (s : State) (b c : Nat) (v : Bool), s.Inv → hlpWritable (b / 8) = true →
      (s.setHbit b v).hbit c = if c = b then v else s.hbit c) ∧
  (∀ (s : State) (b : Nat) (v : Bool), hlpWritable (b / 8) = false → s.setHbit b v = s) ∧
  (∀ (s : State) (x : Nat) (w : Word), s.Inv → hlpWritable x = true → (s.setHword x w).hword x = w) ∧
  (∀ (s : State) (x y : Nat) (w : Word), s.Inv → y < x ∨ x + 4 ≤ y → (s.setHword x w).hb y = s.hb y) ∧
  (∀ (s : State) (x : Nat) (w : Word), hlpWritable x = false → s.setHword x w = s) ∧
  (∀ x : Nat, hlpWritable x = true ↔ x < 0x10000 ∨ 0x11000 ≤ x ∧ x < 0x11800)

/-- HLP_CYCLE_START (R347, R349, R351): in RUN the start is a cycle boundary, or is skipped and counted before the output phase; in INIT it
is one once END has been reached; the boundary's steps come in their order, and a stop by command or for Paddock after them (R355); with the
HLP halted, stopped or without its clock it does nothing. HLP_EXECUTION_END (R347,
R349): the times are written, the output phase runs, and an overrun is reported. HLP_OVERRUN (R348, R349): in NORMAL the HLP halts with code
1; in another mode the first one of a cycle is counted. HLP_HARD_LIMIT (R349) halts with code 2 and HLP_INIT_LIMIT (Table 11.7) with code 4;
HLP_FETCH_PARITY (R346) counts the memory error and halts with code 3. HLP_TILE_REWRITE (R346): a tile found bad is rewritten at once, or at
the boundary while the HLP runs. -/
def Obligations.HlpCycleCommandsComplete : Prop :=
  (∀ s : State, s.hlp.dbgHalted = false → s.hlpClock = true → s.fld F.HLP_STATUS_STATE 0 = 2 → s.hlp.busy = false →
      exec .hlpCycleStart s = .next s.hlpBoundary) ∧
  (∀ s : State, s.hlp.dbgHalted = false → s.hlpClock = true → s.fld F.HLP_STATUS_STATE 0 = 2 → s.hlp.busy = true → ∃ t,
      exec .hlpCycleStart s = .next t ∧ t.hlp.skips = s.hlp.skips + 1 ∧ s.Only t [.hlp]) ∧
  (∀ s : State, s.hlpRuns = false ∨ s.hlp.dbgHalted = true ∨ s.hlpClock = false → exec .hlpCycleStart s = .next s) ∧
  (∀ s u : State, u = s.hlpCapture.hlpApply.hlpOlc.hlpFixes.hlpModes → u.hlp.padStop = true ∨ (u.waitingOp 0x0A04).isSome →
      s.hlpBoundary = u.hlpStop) ∧
  (∀ s u : State, u = s.hlpCapture.hlpApply.hlpOlc.hlpFixes.hlpModes → u.hlp.padStop = false → u.waitingOp 0x0A04 = none →
      s.hlpBoundary = (u.cond (u.fld F.HLP_STATUS_STATE 0 == 1) fun t => t.toHlp 2).hlpCycle) ∧
  (∀ s : State, s.hlp.dbgHalted = false → s.hlpClock = true → s.fld F.HLP_STATUS_STATE 0 = 1 →
      (s.hlp.initDone = true → exec .hlpCycleStart s = .next s.hlpBoundary) ∧ (s.hlp.initDone = false → exec .hlpCycleStart s = .next s)) ∧
  (∀ (s t : State) (n k : Nat), s.inCycle = true → k = min n 0xFFFF →
      t = ((s.setFld F.HLP_TIME_EXEC_LAST 0 k).setFld F.HLP_TIME_EXEC_MAX 0 (max k (s.fld F.HLP_TIME_EXEC_MAX 0))).hlpOutput →
      (s.hlp.overran = false → exec (.hlpExecutionEnd n) s = .next (t.modHlp fun h =>
        { h with section_ := none, busy := false, overran := false, skips := 0 })) ∧
      (s.hlp.overran = true → exec (.hlpExecutionEnd n) s = .next (t.hlpOverEnd.modHlp fun h =>
        { h with section_ := none, busy := false, overran := false, skips := 0 }))) ∧
  (∀ (s : State) (n : Nat), s.inCycle = false → exec (.hlpExecutionEnd n) s = .next s) ∧
  (∀ s : State, s.inCyclic = false ∨ s.hlp.overran = true → exec .hlpOverrun s = .next s) ∧
  (∀ s : State, s.inCyclic = false → exec .hlpHardLimit s = .next s) ∧
  (∀ s : State, s.fld F.HLP_STATUS_STATE 0 ≠ 1 → exec .hlpInitLimit s = .next s) ∧
  (∀ s : State, s.hlp.section_ = none ∨ s.hlp.dbgHalted = true ∨ s.hlpClock = false → exec .hlpFetchParity s = .next s) ∧
  (∀ (s : State) (k : Fin 64), (2, k.val) ∉ s.coef.found ∨ k.val ∈ s.hlp.fix → exec (.hlpTileRewrite k) s = .next s) ∧
  (∀ s : State, s.hlpOutput.hlp.doCmd = s.hlpDo ∧ s.hlpOutput.hlp.ready = true ∧ s.hlpOutput.evq = s.evq) ∧
  (∀ s : State, s.hlp.oldest < 2 → ∃ b, vget s.hlpOutput.hlp.store s.hlp.oldest = some b ∧ b.cycle = s.fld F.HLP_CYCNUM_CYCNUM 0 ∧
      b.area = below s.hlp.mem 0x2000 ∧ b.retainId = s.hlp.prog.hdr 4 4 ∧ s.hlpOutput.hlp.oldest = 1 - s.hlp.oldest) ∧
  (∀ s : State, s.inCyclic = true → s.hlp.overran = false → s.fld F.HLP_STATUS_MODE 0 = 1 → exec .hlpOverrun s = .next (s.hlpHalt 1)) ∧
  (∀ s : State, s.Canon → s.inCyclic = true → s.hlp.overran = false → s.fld F.HLP_STATUS_MODE 0 ≠ 1 → ∃ t, exec .hlpOverrun s = .next t ∧
      t.hlp.overran = true ∧ t.fld F.HLP_CNT_OVR_CNT 0 = satAdd (s.fld F.HLP_CNT_OVR_CNT 0) 1 (2 ^ (F.HLP_CNT_OVR_CNT.hi + 1 - F.HLP_CNT_OVR_CNT.lo) - 1) ∧
      s.RegsBut t [(F.HLP_CNT_OVR_CNT, 0)] ∧ s.Only t [.regs, .hlp]) ∧
  (∀ s : State, s.inCyclic = true → exec .hlpHardLimit s = .next (s.hlpHalt 2)) ∧
  (∀ s : State, s.fld F.HLP_STATUS_STATE 0 = 1 → exec .hlpInitLimit s = .next (s.hlpHalt 4)) ∧
  (∀ s : State, s.hlp.section_.isSome = true → s.hlp.dbgHalted = false → s.hlpClock = true → exec .hlpFetchParity s = .next ((s.memErr 2).hlpHalt 3)) ∧
  (∀ (s : State) (k : Fin 64), (2, k.val) ∈ s.coef.found → k.val ∉ s.hlp.fix → s.hlpRuns = true → ∃ t,
      exec (.hlpTileRewrite k) s = .next t ∧ t.hlp.fix = s.hlp.fix ++ [k.val] ∧ t.hlp.prog = s.hlp.prog ∧ s.Only t [.hlp]) ∧
  (∀ (s : State) (k : Fin 64), (2, k.val) ∈ s.coef.found → k.val ∉ s.hlp.fix → s.hlpRuns = false →
      exec (.hlpTileRewrite k) s = .next (s.hlpFix k))

/-- HLP_LOAD (R346): with the HLP stopped a quarter tile and its directory entry are written to the load buffer. HLP_LOAD_DONE (R344, R346):
a load that verifies puts the program in use, and one that does not leaves PROG_OK = 0. HLP_START (R351, R353): a program in use whose tiles
verify is restarted, cold, or warm where the retained store allows it. HLP_STOP (R351): waits for the cycle boundary, or completes at once.
HLP_MODE (R350): a mode the HLP may take waits for the boundary. HLP_OLC (R354): a change whose items hold waits for the boundary while the
HLP runs and takes effect at once otherwise. A load, its end and a start while the HLP runs are answered with FS_HLP_STATE. -/
def Obligations.HlpHostCommandsComplete : Prop :=
  (∀ (s : State) (tag : Fin 128) (e : Entry), s.Serves 0x0A01 tag e → e.a 0 ≤ 63 → e.a 1 ≤ 3 → s.hlpRuns = false → ∃ t,
      exec (.hlpLoad tag) s = .next t ∧ t.Answered tag FS.FS_OK [] [] ∧ t.hlp.prog = s.hlp.prog ∧
      t.hlp.buf.bytes = Memory.setMany (fun _ => 0#8) s.hlp.buf.bytes (4096 * e.a 0 + 1024 * e.a 1) (slice e.payload 0 1024) ∧
      t.hlp.buf.dir = Memory.set (fun _ => 0#32) s.hlp.buf.dir (e.a 0) (BitVec.ofNat 32 (e.a32 4)) ∧ s.Only t [.fcp, .hlp, .macs]) ∧
  (∀ (s : State) (tag : Fin 128) (e : Entry), s.Serves 0x0A02 tag e → 3 ≤ e.a 0 → e.a 0 ≤ 64 → s.hlpRuns = false →
      s.loadCheck { s.hlp.buf with count := e.a 0 } = FS.FS_OK →
      exec (.hlpLoadDone tag) s = .next ((s.installProg { s.hlp.buf with count := e.a 0 }).done tag FS.FS_OK)) ∧
  (∀ (s : State) (p : HlpProg), s.Canon → (s.installProg p).hlp.prog = p ∧ (s.installProg p).flag F.HLP_STATUS_PROG_OK 0 = true) ∧
  (∀ (s : State) (tag : Fin 128) (e : Entry) (st : Nat), s.Serves 0x0A02 tag e → 3 ≤ e.a 0 → e.a 0 ≤ 64 → s.hlpRuns = false →
      st = s.loadCheck { s.hlp.buf with count := e.a 0 } → st ≠ FS.FS_OK →
      exec (.hlpLoadDone tag) s = .next ((s.setFlag F.HLP_STATUS_PROG_OK 0 false).done tag st)) ∧
  (∀ (s : State) (tag : Fin 128) (e : Entry), s.Serves 0x0A03 tag e → e.a 0 ≤ 1 → e.a 1 ≤ 1 → s.hlpRuns = false →
      s.flag F.HLP_STATUS_PROG_OK 0 = true → s.hlpTilesOk = true → (e.a 0 = 0 → s.warmCheck = FS.FS_OK) →
      exec (.hlpStart tag) s = .next ((s.hlpRestart (e.a 0 == 1) (e.a 1 == 1)).done tag FS.FS_OK)) ∧
  (∀ (s : State) (tag : Fin 128) (e : Entry), s.hlpRuns = true →
      (s.Serves 0x0A01 tag e → e.a 0 ≤ 63 → e.a 1 ≤ 3 → exec (.hlpLoad tag) s = .next (s.done tag FS.FS_HLP_STATE)) ∧
      (s.Serves 0x0A02 tag e → 3 ≤ e.a 0 → e.a 0 ≤ 64 → exec (.hlpLoadDone tag) s = .next (s.done tag FS.FS_HLP_STATE)) ∧
      (s.Serves 0x0A03 tag e → e.a 0 ≤ 1 → e.a 1 ≤ 1 → exec (.hlpStart tag) s = .next (s.done tag FS.FS_HLP_STATE))) ∧
  (∀ (s : State) (tag : Fin 128) (e : Entry), s.Serves 0x0A04 tag e → s.hlpRuns = true → ∃ t, exec (.hlpStop tag) s = .next t ∧
      s.Waits t tag ∧ s.Only t [.fcp]) ∧
  (∀ (s : State) (tag : Fin 128) (e : Entry), s.Serves 0x0A04 tag e → s.hlpRuns = false → ∃ t, exec (.hlpStop tag) s = .next t ∧
      t.Answered tag FS.FS_OK [] [] ∧ s.Only t [.fcp, .macs]) ∧
  (∀ (s : State) (tag : Fin 128) (e : Entry), s.Serves 0x0A05 tag e → s.hlpRuns = true → e.a 0 = 1 ∨
      ((e.a 0 = 2 ∨ e.a 0 = 3) ∧ s.fld F.HLP_STATUS_MODE 0 = 1 ∧ s.allOff = true) → ∃ t, exec (.hlpMode tag) s = .next t ∧
      s.Waits t tag ∧ s.Only t [.fcp]) ∧
  (∀ (s : State) (tag : Fin 128) (e : Entry), s.Serves 0x0A06 tag e → 1 ≤ e.a 0 → e.a 0 ≤ 32 → e.payload.length = 16 * e.a 0 →
      (List.range (e.a 0)).all (s.olcItemOk e.payload) = true → olcCrcOk e.payload (e.a 0) 0 s.hlp.prog = true →
      s.waitingOp 0x0A06 = none → s.hlpRuns = true → ∃ t, exec (.hlpOlc tag) s = .next t ∧ s.Waits t tag ∧ s.Only t [.fcp]) ∧
  (∀ (s : State) (tag : Fin 128) (e : Entry), s.Serves 0x0A06 tag e → 1 ≤ e.a 0 → e.a 0 ≤ 32 → e.payload.length = 16 * e.a 0 →
      (List.range (e.a 0)).all (s.olcItemOk e.payload) = true → olcCrcOk e.payload (e.a 0) 0 s.hlp.prog = true →
      s.waitingOp 0x0A06 = none → s.hlpRuns = false → exec (.hlpOlc tag) s = .next (s.olcEnd e))

/-- Writes that their path's rights let through. ADC_URG_WRITE (R162): an urgent request of the host. PWM_COMMIT_WRITE (R204, R205): a
commit with every port OFF and a period in range makes a bundle of the staged values, late past its deadline; else MAN_REJ. CMP_STATIC_WRITE
(R172): the threshold is written, or WR_REJ set where the port gives it. CROSSFIRE_CLEAR (R223): written, but a switching leg keeps
CROSSFIRE. TRIPPED_CLEAR (R227): with a source of the group active the write does nothing; else TRIPPED clears. DL_CTRL_WRITE (R199):
written; a hold that ends hands its code back to calibration. LANE_SLIP_WRITE (R240): the word boundary moves by one bit. WSEL_WRITE (R505):
the path's region selects the unit. OBS_BIN_SEL_WRITE (R133), SPUR_CTRL_WRITE (R517) and SPUR_INJ_GO (R521): their effect of Tables 04.5 and
20.2; an injection without perturbations in force is rejected and posted. REGISTER_WRITE (R11): the register takes the value by its access
codes or has its effect; a denied write is counted (R501), one on a closed path does nothing. A write of a row whose class the path has not
selected does nothing. QSPI_WRITE (R381, R382): a whole word acts, a part of one does nothing, and a byte in mailbox RAM acts on its own. -/
def Obligations.WindowWritesComplete : Prop :=
  (∀ (s : State) (p : Path) (v : Word), s.access (pathNo p) 0x214 true = 0 →
      exec (.adcUrgWrite p v) s = .next (s.urgent (fieldOf v 12 8) (fieldOf v 1 0) (fieldOf v 7 4) 2)) ∧
  (∀ (s : State) (p : Path) (v : Word), s.access (pathNo p) 0x260 true = 0 → v.toNat % 2 = 1 →
      exec (.pwmCommitWrite p v) s = .next s.manCommit) ∧
  (∀ (s : State) (p : Path) (v : Word), s.access (pathNo p) 0x260 true = 0 → v.toNat % 2 = 0 → exec (.pwmCommitWrite p v) s = .next s) ∧
  (∀ s : State, s.allOff = false ∨ s.fld F.PWM_PERIOD_SH_ALL 0 < periodLo s.gait s.anyGl →
      s.manCommit = s.setFlag F.PWM_GSTAT_MAN_REJ 0 true) ∧
  (∀ s : State, s.allOff = true → periodLo s.gait s.anyGl ≤ s.fld F.PWM_PERIOD_SH_ALL 0 → ∃ b : Bundle,
      s.manCommit.pwm.bundles = s.pwm.bundles ++ [b] ∧ b.ws = (s.pwm.manSet.map fun n => (n, s.fld F.LEG_CMP_ALL n)) ∧
      b.period = (if s.pwm.manPeriod then some (s.fld F.PWM_PERIOD_SH_ALL 0) else none) ∧
      (b.late = true ↔ s.pwm.tk + s.reloadSpan < s.now + max 64 s.manFrame) ∧ s.manCommit.pwm.manSet = [] ∧ s.Only s.manCommit [.regs, .pwm]) ∧
  (∀ (s : State) (p : Path) (v : Word), s.access (pathNo p) 0x3CC true = 0 → (s.pathSt (pathNo p)).cls = 7 → (s.pathSt (pathNo p)).valid = true →
      s.flag F.CMP_CFG_SRC (s.pathSt (pathNo p)).idx = false →
      ∃ t, t = s.writeMasked 7 (s.pathSt (pathNo p)).idx 0x3CC v ∧ exec (.cmpStaticWrite p v) s = .next { t with adc := { t.adc with
        statics := (s.pathSt (pathNo p)).idx :: t.adc.statics.filter (· != (s.pathSt (pathNo p)).idx) } }) ∧
  (∀ (s : State) (p : Path) (v : Word), s.access (pathNo p) 0x3CC true = 0 → (s.pathSt (pathNo p)).cls = 7 → (s.pathSt (pathNo p)).valid = true →
      s.flag F.CMP_CFG_SRC (s.pathSt (pathNo p)).idx = true →
      exec (.cmpStaticWrite p v) s = .next (s.setFlag F.CMP_STAT_WR_REJ (s.pathSt (pathNo p)).idx true)) ∧
  (∀ (s : State) (p : Path) (v : Word), s.access (pathNo p) 0x3D8 true = 0 → (s.pathSt (pathNo p)).cls = 1 → (s.pathSt (pathNo p)).valid = true →
      (s.legSwitching (s.pathSt (pathNo p)).idx = false →
        exec (.crossfireClear p v) s = .next (s.writeMasked 1 (s.pathSt (pathNo p)).idx 0x3D8 v)) ∧
      (s.legSwitching (s.pathSt (pathNo p)).idx = true →
        exec (.crossfireClear p v) s = .next (s.writeMasked 1 (s.pathSt (pathNo p)).idx 0x3D8 (v &&& 0x7FFFFFFF#32)))) ∧
  (∀ (s : State) (p : Path) (v : Word), s.access (pathNo p) 0x3D4 true = 0 → (s.pathSt (pathNo p)).cls = 2 → (s.pathSt (pathNo p)).valid = true →
      s.groupSources (s.pathSt (pathNo p)).idx false ≠ [] → exec (.trippedClear p v) s = .next s) ∧
  (∀ (s : State) (p : Path) (v : Word), s.access (pathNo p) 0x3D4 true = 0 → (s.pathSt (pathNo p)).cls = 2 → (s.pathSt (pathNo p)).valid = true →
      exec (.trippedClear p v) s = .next (s.tgStat (s.pathSt (pathNo p)).idx v)) ∧
  (∀ (s : State) (p : Path) (v : Word), s.access (pathNo p) 0x278 true = 0 → s.flag F.DL_CTRL_CAL_HOLD 0 = false ∨ bitOf v.toNat 31 = true →
      exec (.dlCtrlWrite p v) s = .next (s.writeMasked 0 0 0x278 v)) ∧
  (∀ (s : State) (p : Path) (v : Word), s.access (pathNo p) 0x278 true = 0 → s.flag F.DL_CTRL_CAL_HOLD 0 = true → bitOf v.toNat 31 = false →
      exec (.dlCtrlWrite p v) s = .next ((s.setFld F.DL_STAT_CAL_CODE 0 (s.fld F.DL_STAT_DL_CODE 0)).writeMasked 0 0 0x278 v)) ∧
  (∀ (s : State) (p : Path) (v : Word),
      ((s.pathSt (pathNo p)).cls ≠ 1 → exec (.crossfireClear p v) s = .next s) ∧
      ((s.pathSt (pathNo p)).cls ≠ 2 → exec (.trippedClear p v) s = .next s) ∧
      ((s.pathSt (pathNo p)).cls ≠ 5 → exec (.obsBinSelWrite p v) s = .next s) ∧
      ((s.pathSt (pathNo p)).cls ≠ 7 → exec (.cmpStaticWrite p v) s = .next s) ∧
      ((s.pathSt (pathNo p)).cls ≠ 9 → exec (.laneSlipWrite p v) s = .next s)) ∧
  (∀ (s : State) (p : Path) (v : Word), s.Canon → s.access (pathNo p) 0x3CC true = 0 → (s.pathSt (pathNo p)).cls = 9 →
      (s.pathSt (pathNo p)).valid = true → v.toNat % 2 = 1 → ∃ t, exec (.laneSlipWrite p v) s = .next t ∧
      t.fld F.LANE_STAT_COMMA_POS (s.pathSt (pathNo p)).idx = (s.fld F.LANE_STAT_COMMA_POS (s.pathSt (pathNo p)).idx + 9) % 10 ∧
      s.RegsBut t [(F.LANE_STAT_COMMA_POS, (s.pathSt (pathNo p)).idx)] ∧ s.Only t [.regs, .gl]) ∧
  (∀ (s : State) (p : Path) (v : Word), s.access (pathNo p) 0x100 true = 0 → ∃ t, exec (.wselWrite p v) s = .next t ∧
      (t.pathSt (pathNo p)).cls = fieldOf v 15 8 ∧ (t.pathSt (pathNo p)).idx = fieldOf v 7 0 ∧
      t.pathSt (1 - pathNo p) = s.pathSt (1 - pathNo p) ∧ t.pathSt 2 = s.pathSt 2 ∧ s.Only t [.win]) ∧
  (∀ (s : State) (p : Path) (v : Word), s.access (pathNo p) 0x3D0 true = 0 → (s.pathSt (pathNo p)).cls = 5 → (s.pathSt (pathNo p)).valid = true →
      exec (.obsBinSelWrite p v) s = .next (s.obsBinSel (s.pathSt (pathNo p)).idx v)) ∧
  (∀ (s : State) (p : Path) (v : Word), s.access (pathNo p) 0x8000 true = 0 → exec (.spurCtrlWrite p v) s = .next (s.spurCtrl v)) ∧
  (∀ (s : State) (p : Path) (v : Word), s.access (pathNo p) 0x8024 true = 0 → exec (.spurInjGo p v) s = .next (s.spurInj v)) ∧
  (∀ (s : State) (v : Word), bitOf v.toNat 31 = true → s.spurOn = false → ∃ t, s.spurInj v = t ∧
      s.Told t EV.EV_SPUR_REJECT (fieldOf v 29 26) (b2n (bitOf v.toNat 30)) ∧ t.spur = s.spur ∧ t.coef = s.coef) ∧
  (∀ (s : State) (p : Path) (a : BitVec 16) (v : Word), s.access (pathNo p) (a.toNat / 4 * 4) true = 0 →
      a.toNat / 4 * 4 < 0x1000 ∨ 0x8000 ≤ a.toNat / 4 * 4 → exec (.registerWrite p a v) s =
      .next (s.writeReg (pathNo p) (s.unitAt (pathNo p) (a.toNat / 4 * 4)).1 (s.unitAt (pathNo p) (a.toNat / 4 * 4)).2 (a.toNat / 4 * 4) v)) ∧
  (∀ (s : State) (p : Path) (a : BitVec 16) (v : Word), 2 ≤ s.access (pathNo p) (a.toNat / 4 * 4) true →
      a.toNat / 4 * 4 < 0x1000 ∨ 0x8000 ≤ a.toNat / 4 * 4 → exec (.registerWrite p a v) s = .next (s.count F.DRW_STAT_DENY_CNT 0)) ∧
  (∀ (s : State) (p : Path) (a : BitVec 16) (v : Word), s.access (pathNo p) (a.toNat / 4 * 4) true = 1 →
      a.toNat / 4 * 4 < 0x1000 ∨ 0x8000 ≤ a.toNat / 4 * 4 → exec (.registerWrite p a v) s = .next s) ∧
  (∀ (s : State) (a : BitVec 16) (b : Byte), 0x1000 ≤ a.toNat → a.toNat < 0x8000 →
      exec (.qspiWrite a [b]) s = .next (s.ramWrite 0 a.toNat b)) ∧
  (∀ (s : State) (a : BitVec 16) (l : List Byte), a.toNat % 4 = 0 → l.length = 4 → a.toNat < 0x1000 ∨ 0x8000 ≤ a.toNat →
      exec (.qspiWrite a l) s = .next (s.hostWrite 0 a.toNat (wordOf l))) ∧
  (∀ (s : State) (a : BitVec 16) (l : List Byte), a.toNat % 4 = 0 → l.length < 4 → a.toNat < 0x1000 ∨ 0x8000 ≤ a.toNat →
      exec (.qspiWrite a l) s = .next s)

/-- Reads that their path's rights let through. RES_STAT_READ (R118): the status is returned and the context's four results are latched on
the path. SNAP_PNUM_LO_READ (R512): the path's view of the snapshot is the last one. HIGH_WORD_LATCH_READ (R502): the low word is returned,
and the high word (PNUM, the record and event block numbers, the seconds of a time base) is latched on the path. QSPI_READ (R382): the bytes
of the word it latches are shifted out. QSPI_STATUS (Table 13.6): READY, HOST_IRQ and the restarts. RES_STAT_READ and the latch of a time
base with another class selected, and a read on a closed path, latch nothing. -/
def Obligations.WindowReadsComplete : Prop :=
  (∀ (s : State) (p : Path), s.access (pathNo p) 0x3C8 false = 0 → (s.pathSt (pathNo p)).cls = 3 → (s.pathSt (pathNo p)).idx < 63 →
      ∃ t, exec (.resStatRead p) s = .next t ∧
      (t.pathSt (pathNo p)).last = [s.cword (s.pathSt (pathNo p)).idx 48] ∧
      (t.pathSt (pathNo p)).res = [s.cword (s.pathSt (pathNo p)).idx 49, s.cword (s.pathSt (pathNo p)).idx 50,
        s.cword (s.pathSt (pathNo p)).idx 51, s.cword (s.pathSt (pathNo p)).idx 52] ∧
      t.pathSt (1 - pathNo p) = s.pathSt (1 - pathNo p) ∧ t.pathSt 2 = s.pathSt 2 ∧ s.Only t [.regs, .win, .cle]) ∧
  (∀ (s : State) (p : Path), s.access (pathNo p) 0x400 false = 0 → ∃ t, exec (.snapPnumLoRead p) s = .next t ∧
      (t.pathSt (pathNo p)).view = s.win.snap ∧ (t.pathSt (pathNo p)).last = [Memory.get (fun _ => 0#32) s.win.snap 0x400] ∧
      t.pathSt (1 - pathNo p) = s.pathSt (1 - pathNo p) ∧ s.Only t [.regs, .win]) ∧
  (∀ (s : State) (p : Path), s.access (pathNo p) 0x264 false = 0 → ∃ t, exec (.highWordLatchRead p .pnum) s = .next t ∧
      (t.pathSt (pathNo p)).last = [BitVec.ofNat 32 s.pwm.pnum] ∧ (t.pathSt (pathNo p)).pnumHi = BitVec.ofNat 32 (s.pwm.pnum / 2 ^ 32) ∧
      t.pathSt (1 - pathNo p) = s.pathSt (1 - pathNo p) ∧ s.Only t [.regs, .win]) ∧
  (∀ (s : State) (p : Path), s.access (pathNo p) 0x32C false = 0 → ∃ t, exec (.highWordLatchRead p .record) s = .next t ∧
      (t.pathSt (pathNo p)).last = [BitVec.ofNat 32 s.recd.next] ∧ (t.pathSt (pathNo p)).recHi = BitVec.ofNat 32 (s.recd.next / 2 ^ 32) ∧
      s.Only t [.regs, .win]) ∧
  (∀ (s : State) (p : Path), s.access (pathNo p) 0x800 false = 0 → ∃ t, exec (.highWordLatchRead p .block) s = .next t ∧
      (t.pathSt (pathNo p)).last = [BitVec.ofNat 32 s.evq.blockNext] ∧
      (t.pathSt (pathNo p)).evbHi = BitVec.ofNat 32 (s.evq.blockNext / 2 ^ 32) ∧ s.Only t [.regs, .win]) ∧
  (∀ (s : State) (p : Path), s.access (pathNo p) 0x3C4 false = 0 → (s.pathSt (pathNo p)).cls = 0xA → (s.pathSt (pathNo p)).idx < 4 →
      ∃ t, exec (.highWordLatchRead p .tb) s = .next t ∧
      (t.pathSt (pathNo p)).last = [BitVec.ofNat 32 (vget s.tb (s.pathSt (pathNo p)).idx).ns] ∧
      (t.pathSt (pathNo p)).secLo = BitVec.ofNat 32 (vget s.tb (s.pathSt (pathNo p)).idx).sec ∧ s.Only t [.regs, .win]) ∧
  (∀ (s : State) (a : BitVec 16), a.toNat % 4 = 0 → ∃ t, exec (.qspiRead a 4) s = .next t ∧
      t.win.shifted = leBytes 4 (s.hostRead 0 a.toNat).1.toNat ∧ t.win.qspi.last = [(s.hostRead 0 a.toNat).1]) ∧
  (∀ s : State, exec .qspiStatus s = .next { s with win := { s.win with shifted := [BitVec.ofNat 8 (b2n s.win.ready + 2 * b2n s.hostIrq
      + 4 * b2n ((List.range 4).any fun m => (vget s.fcp.boxes m).restarting))] } }) ∧
  (∀ (s : State) (p : Path), ((s.pathSt (pathNo p)).cls ≠ 3 → exec (.resStatRead p) s = .next s) ∧
      ((s.pathSt (pathNo p)).cls ≠ 0xA → exec (.highWordLatchRead p .tb) s = .next s)) ∧
  (∀ (s : State) (p : Path), s.access (pathNo p) 0x400 false = 1 → ∃ t, exec (.snapPnumLoRead p) s = .next t ∧
      (t.pathSt (pathNo p)).last = [0] ∧ (t.pathSt (pathNo p)).view = (s.pathSt (pathNo p)).view ∧ s.Only t [.win])

/-- The access codes (R11, Table 00.3): a write sets the RW bits, and the RWL bits until the Tack Table is locked, clears a W1C bit written
1, and leaves every other bit and every other register; a read by the window clears RC bits and no others. -/
def Obligations.AccessCodesHold : Prop :=
  (∀ (s : State) (c i off : Nat) (v : Word) (r : RegRow) (b : Nat), s.Canon → regRow? c off = some r → b < 32 →
      (Memory.get resetWord (s.writeMasked c i off v).regs (regKey c i off)).getLsbD b =
        (if r.w1c.testBit b ∧ v.getLsbD b = true then false
         else if r.rw.testBit b ∨ (r.rwl.testBit b ∧ s.flag F.TACK_CTRL_LOCK 0 = false) then v.getLsbD b
         else (Memory.get resetWord s.regs (regKey c i off)).getLsbD b)) ∧
  (∀ (s : State) (c i off : Nat) (v : Word) (k : Nat), s.Canon → k ≠ regKey c i off →
      Memory.get resetWord (s.writeMasked c i off v).regs k = Memory.get resetWord s.regs k) ∧
  (∀ (s : State) (c i off : Nat) (v : Word), s.Only (s.writeMasked c i off v) [.regs]) ∧
  (∀ (s : State) (c i off : Nat) (r : RegRow) (b : Nat), s.Canon → regRow? c off = some r → b < 32 →
      (Memory.get resetWord (s.readClear c i off).regs (regKey c i off)).getLsbD b =
        ((Memory.get resetWord s.regs (regKey c i off)).getLsbD b && !r.rc.testBit b)) ∧
  (∀ (s : State) (c i off k : Nat), s.Canon → k ≠ regKey c i off →
      Memory.get resetWord (s.readClear c i off).regs k = Memory.get resetWord s.regs k)

/-- A step carries out the command at the front of the queue on the state with the queue's rest. On an empty queue one NET clock passes:
that clause is the model's own (DESIGN CHOICE, log entry 2). No word spells a command, since no row of the table has bits. -/
def Obligations.StepRunsTheFrontCommand : Prop :=
  (∀ (s : State) (c : Instr), step { s with pending := c :: s.pending } = exec c s) ∧
  (∀ s : State, s.pending = [] → step s = .next (s.elapse 64)) ∧
  (∀ (s : State) (n w : Nat), decodeTableWord n w = none ∧ s.withFetchWord n w = s)

/-- The state after reset keeps the invariant and its queue is empty. -/
def Obligations.InvariantHoldsAtReset : Prop :=
 State.reset.Inv ∧ State.reset.pending = []

/-- Every step keeps the invariant: the register file and the addressed stores stay in canonical form, the event queue holds at most 64
entries (R43), and the mailboxes' rings hold, with no tag twice and no completion without its reserved slot (R373 to R375). -/
def Obligations.EveryStepKeepsTheInvariant : Prop :=
 ∀ s t : State, s.Inv → step s = .next t → t.Inv

/-- Every command of the table answers a next state from every state that keeps the invariant, and leaves the queue's rest. -/
def Obligations.EveryCommandAnswers : Prop :=
  ∀ (i : Instr) (s : State), s.Inv → ∃ t, exec i s = .next t ∧ t.Inv ∧ t.pending = s.pending

/-- The frame of every command: a part of the state outside the parts listed for the command in `reach` is left exactly as it was. -/
def Obligations.EveryCommandHasItsFrame : Prop :=
 ∀ (i : Instr) (s : State), ∃ t, exec i s = .next t ∧ s.Only t (reach i)

/-- What the registers with a reset value other than zero read as after a Cold reset, by the Reset columns of their maps (R9). -/
def Obligations.RegistersReadTheirResetValues : Prop :=
  (∀ x ∈ [(R.GAIT_STATUS, 0x1#32), (R.PWM_PERIOD, 0x30D4#32), (R.PWM_PERIOD_SH, 0x30D4#32), (R.DL_CTRL, 0x3FF00200#32),
      (R.DL_STAT, 0x80200#32), (R.GL_GDEN, 0x3F0000#32), (R.FIO_CFG, 0xA#32), (R.FIO_FILT, 0x14141414#32), (R.CLK_STAT, 0x1000003#32),
      (R.WAKE_CFG, 0xC0000000#32), (R.RST_CAUSE, 0x1#32), (R.ECC_STAT, 0xF0#32), (R.IDENT_ID, 0x43004896#32), (R.IDENT_LAYOUT, 0x10000#32),
      (R.TB_STAT, 0x2000000#32), (R.TB0_OFS, 0xFFFFFFFF#32)], State.reset.reg x.1 0 = x.2) ∧
  (∀ x ∈ [(R.LEG_CFG, 0x1000000#32), (R.LEG_DT, 0x3200320#32), (R.LEG_PULSE, 0x3E8E0000#32), (R.GL_LEG_STAT, 0x10000000#32)],
      ∀ k < 48, State.reset.reg x.1 k = x.2) ∧
  (∀ g < 8, State.reset.reg R.TG_STAT g = 0xFF00#32) ∧
  (∀ c < 8, State.reset.reg R.TRACE_CFG c = 0xFC000000#32) ∧
  (∀ x ∈ [(R.OBS_STATUS, 0x2000FF#32), (R.GOV_STATUS, 0x80000000#32)], ∀ k < 4, State.reset.reg x.1 k = x.2) ∧
  (∀ x ∈ [(R.AIN_SAMP, 0x10000000#32), (R.CMP_CFG, 0xFFFF000#32), (R.CMP_STATIC, 0xFFF0000#32), (R.CMP_STAT, 0xFFF000#32)],
      ∀ k < 64, State.reset.reg x.1 k = x.2) ∧
  (∀ k < 32, State.reset.reg R.SD_RES k = 0x10000000#32) ∧
  (∀ x ∈ [(R.LANE_CFG, 0x49000000#32), (R.LANE_STAT, 0x18010000#32)], ∀ k < 8, State.reset.reg x.1 k = x.2) ∧
  (∀ k < 3, State.reset.reg R.MAC_STAT k = 0x60000000#32)

/-- The reaction of an ARMED Steward, in which no Safe Ramp Stop runs, to a cause is that of Table 10.4, by the cause's class (Table 10.3) and
the unit's role (R308); causes 0x20 and 0x21 lead to FATAL in every state (R319); in every state other than ARMED and INHIBIT every other
cause is only recorded (Table 10.2). In INHIBIT, and while a Safe Ramp Stop runs, an inhibit is only recorded and SGR and SRS still act (R309;
in INHIBIT the model's reading, log entry 147). Of several causes in one SAF clock the lowest code is the first (R307). -/
def Obligations.StewardReactsByTheTable : Prop :=
  (∀ s : State, s.stwState = 2 → s.stw.srs = [] →
    (∀ c, 0x01 ≤ c → c ≤ 0x09 → s.reaction c false = 4 ∧
      s.reaction c true = if s.flag F.PAIR_CFG_PAIR_EN 0 = true ∧ s.isActive = false then 0 else 3) ∧
    (∀ b, s.reaction 0x0A b = 4 ∧ s.reaction 0x30 b = 0 ∧
      s.reaction 0x0B b = if s.flag F.PAIR_CFG_PAIR_EN 0 = true ∧ s.isActive = false then 0 else 3) ∧
    (∀ c b, 0x13 ≤ c → c ≤ 0x17 → s.reaction c b =
      if s.isActive = true ∧ s.flag F.PAIR_STATUS_PARTNER_READY 0 = true then 2
      else if s.flag F.PAIR_CFG_PAIR_EN 0 = true ∧ s.isActive = false then 1 else 3) ∧
    (∀ c ∈ [0x10, 0x11, 0x12, 0x18], ∀ b, s.reaction c b =
      if s.isActive = true ∧ s.flag F.PAIR_STATUS_PARTNER_READY 0 = true then 2
      else if s.flag F.PAIR_CFG_PAIR_EN 0 = true ∧ s.isActive = false then 1 else 4)) ∧
  (∀ (s : State) b, s.reaction 0x20 b = 5 ∧ s.reaction 0x21 b = 5) ∧
  (∀ (s : State) c b, s.stwState ≠ 2 → s.stwState ≠ 3 → c ≠ 0x20 → c ≠ 0x21 → c < 0x20 ∨ c = 0x30 → s.reaction c b = 0) ∧
  (∀ (s : State) c b, s.stwState = 3 ∨ (s.stwState = 2 ∧ s.stw.srs ≠ []) → s.isActive = true → s.flag F.PAIR_STATUS_PARTNER_READY 0 = true →
      (0x10 ≤ c → c ≤ 0x18 → s.reaction c b = 0) ∧ (1 ≤ c → c ≤ 0x0A → s.reaction c false = 4)) ∧
  (∀ (s : State) (c mask : Nat) (srs cl : Bool), s.Canon → s.reaction c srs = 0 → 1 ≤ c → c < 256 →
    ∃ t, t = s.causeWith c srs mask cl ∧ s.Told t EV.EV_STW_CAUSE noUnit c ∧ t.fld F.STW_CAUSE_LAST 0 = c ∧
      t.fld F.STW_CAUSE_FIRST 0 = (if s.fld F.STW_CAUSE_FIRST 0 = 0 ∨ (s.stw.firstAt = some s.safClock ∧ c < s.fld F.STW_CAUSE_FIRST 0) then c
        else s.fld F.STW_CAUSE_FIRST 0) ∧
      t.fld F.STW_CNT_CAUSE_CNT 0 = min 255 (s.fld F.STW_CNT_CAUSE_CNT 0 + 1) ∧ s.Only t [.regs, .evq, .trace, .stw, .recd])

/-- Credits and admission (R373, R374): an open mailbox's credits are its 16 entries less its commands in flight and its completions not
consumed; the checks of Table 13.2 that a message has to pass refuse it in their order; a refused command leaves no trace but its code and
its count; and posting a completion leaves the credits as they were. -/
def Obligations.MailboxAdmissionFollowsItsOrder : Prop :=
  (∀ (s : State) (m : Nat), s.Inv → m < 8 → (vget s.fcp.boxes m).isOpen = true →
      s.credits m + s.inflightOf m + (vget s.fcp.boxes m).posted.length = 16) ∧
  (∀ (s : State) (m : Nat) (h p : List Byte), s.backPressure m = false →
      (s.credits m = 0 → s.admitCode m h p = 1) ∧
      (1 ≤ s.credits m → headerCrcOk h p = false → s.admitCode m h p = 2) ∧
      (1 ≤ s.credits m → headerCrcOk h p = true → 1024 < leAt h 4 2 → s.admitCode m h p = 3) ∧
      (1 ≤ s.credits m → headerCrcOk h p = true → leAt h 4 2 ≤ 1024 →
        leAt h 2 1 % 128 / 16 ≠ m ∨ s.tagBusy (leAt h 2 1 % 128) = true → s.admitCode m h p = 4) ∧
      (1 ≤ s.credits m → headerCrcOk h p = true → leAt h 4 2 ≤ 1024 →
        leAt h 2 1 % 128 / 16 = m → s.tagBusy (leAt h 2 1 % 128) = false → s.admitCode m h p = 0)) ∧
  (∀ (s : State) (mb : Fin 4) (value : Word), s.Inv → s.access 0 (mbBase mb) true = 0 → value.toNat % 2 = 1 →
      vget s.fcp.busy mb.val = false → s.svpClock = true → ∀ c : Nat,
      c = (if (vget s.fcp.boxes mb.val).isOpen = true then s.admitCode mb (s.mbBytes (mbBase mb + 0x40) 64)
        (s.mbBytes (mbBase mb + 0x80) (min 1024 (leAt (s.mbBytes (mbBase mb + 0x40) 64) 4 2))) else 5) → c ≠ 0 →
      ∃ t, exec (.mbDoorbell mb value) s = .next t ∧ t.fcp.inflight = s.fcp.inflight ∧ (vget t.fcp.boxes mb.val).refuse = c ∧
        (vget t.fcp.boxes mb.val).posted = (vget s.fcp.boxes mb.val).posted ∧ t.credits mb = s.credits mb ∧
        s.RegsBut t [(F.MB_STAT_REFUSE_CNT, mb)] ∧ s.Only t [.regs, .fcp]) ∧
  (∀ (s : State) (e : Entry) (status pnum : Nat) (res pay : List Byte) (m : Nat), s.Inv → s.svpRuns = true → e ∈ s.fcp.inflight →
      m < 8 → (s.complete e.tag status pnum res pay).credits m = s.credits m)

/-- Events are numbered as they are posted; a full queue of 64 drops its oldest entry and counts it, and DEPTH is the number of entries
(R43, R514); an event is drained in its turn, into slot n mod 32 of the block. -/
def Obligations.EventsAreNumberedAndTheOldestDropped : Prop :=
  (∀ (s : State) (code unit data : Nat), s.Inv → ∃ t r, t = s.post code unit data ∧
      t.evq.queue = (if s.evq.queue.length = 64 then s.evq.queue.drop 1 else s.evq.queue) ++ [r] ∧ r.num = s.evq.next ∧ r.code = code ∧
      r.unit = unit ∧ r.data = data % 2 ^ 64 ∧ t.evq.next = s.evq.next + 1 ∧ t.fld F.EVQ_STAT_DEPTH 0 = t.evq.queue.length ∧
      t.fld F.EVQ_STAT_DROP_CNT 0 = (if s.evq.queue.length = 64 then min 0xFFFF (s.fld F.EVQ_STAT_DROP_CNT 0 + 1) else s.fld F.EVQ_STAT_DROP_CNT 0) ∧
      t.evq.slots = s.evq.slots ∧ s.RegsBut t evqFlds ∧ s.Only t [.regs, .evq, .trace, .recd])

/-- A read of RES_STAT through an access path (R118). -/
def Obligations.ResultStatusReadsLatchOnTheirPath : Prop :=
  (∀ (s : State) (p : Path) (i : Nat), s.Inv → s.access (pathNo p) 0x3C8 false = 0 → (s.pathSt (pathNo p)).cls = 3 →
      (s.pathSt (pathNo p)).idx = i → i < 63 →
      ∃ t w, exec (.resStatRead p) s = .next t ∧ (t.pathSt (pathNo p)).last = [w] ∧ w = s.cword i 48 ∧
        fieldOf w F.RES_STAT_RDCNT.hi F.RES_STAT_RDCNT.lo = s.cf F.RES_STAT_RDCNT i ∧
        t.cf F.RES_STAT_RDCNT i = min 3 (s.cf F.RES_STAT_RDCNT i + 1) ∧
        (∀ k < 4, (t.pathSt (pathNo p)).res.getD k 0 = s.cword i (49 + k)) ∧
        (∀ j < 63, j ≠ i → ∀ k < 53, t.cword j k = s.cword j k) ∧ (∀ k < 53, k ≠ 48 → t.cword i k = s.cword i k) ∧
        ∀ q, q ≠ p → t.pathSt (pathNo q) = s.pathSt (pathNo q)) ∧
  (∀ (s : State) (p : Path) (k : Nat), k < 4 → s.access (pathNo p) (0x3CC + 4 * k) false = 0 → (s.pathSt (pathNo p)).cls = 3 →
      (s.pathSt (pathNo p)).idx < 63 → (s.hostRead (pathNo p) (0x3CC + 4 * k)).1 = (s.pathSt (pathNo p)).res.getD k 0) ∧
  (∀ (s : State) (p q : Path) (off : Nat), off ≠ 0x3C8 ∨ p ≠ q →
      ((s.hostRead (pathNo p) off).2.pathSt (pathNo q)).res = (s.pathSt (pathNo q)).res) ∧
  (∀ (s : State) (p q : Path) (v : Word), ∃ t, exec (.wselWrite p v) s = .next t ∧ (t.pathSt (pathNo q)).res = (s.pathSt (pathNo q)).res) ∧
  (∀ p : Path, (State.reset.pathSt (pathNo p)).res = [0, 0, 0, 0])

/-- Which copies of a safety PDU are valid, and what a network holds (R330). A copy that is not valid is counted and changes nothing else;
the first valid copy on one network, with none held on the other, is held; and of two valid copies on one network the newer one is. -/
def Obligations.SafetyPduCopiesAreJudged : Prop :=
  (∀ (s : State) (net : Fin 2) (r : Fin 4) (b : List Byte), s.pduValid net r b = true ↔
      b.length = 44 ∧ leAt b 0 1 = 1 ∧ leAt b 2 2 = s.rxCfg r 2 2 ∧ leAt b 1 1 = 0x0A + net.val ∧
      leAt b 40 4 = (if net = 0 then (crc32c (slice b 0 40)).toNat else (crcNetB (slice b 0 40)).toNat) ∧
      ∀ l, (s.rx r).last = some l → ∃ d, d = (leAt b 4 4 + 2 ^ 32 - l.1 % 2 ^ 32) % 2 ^ 32 ∧ 1 ≤ d ∧ d ≤ 2 ^ 31 - 1) ∧
  (∀ (s : State) (net : Fin 2) (r : Fin 4) (b : List Byte), s.hears net r → s.pduValid net r b = false →
      exec (.pduCopyReceived net r b) s = .next (s.count F.PDU_STAT_BAD_CNT r)) ∧
  (∀ (s : State) (r : Fin 4) (b : List Byte), s.Canon → s.hears 0 r → (s.rx r).copyB = none →
      s.pduValid 0 r b = true → (∀ x, (s.rx r).copyA = some x → seqNewer (leAt x 4 4) (leAt b 4 4) = false) →
      ∃ t, exec (.pduCopyReceived 0 r b) s = .next t ∧ (t.rx r).copyA = some b ∧ (t.rx r).copyB = none ∧ (t.rx r).last = (s.rx r).last) ∧
  (∀ (s : State) (r : Fin 4) (b : List Byte), s.Canon → s.hears 1 r → (s.rx r).copyA = none →
      s.pduValid 1 r b = true → (∀ x, (s.rx r).copyB = some x → seqNewer (leAt x 4 4) (leAt b 4 4) = false) →
      ∃ t, exec (.pduCopyReceived 1 r b) s = .next t ∧ (t.rx r).copyB = some b ∧ (t.rx r).copyA = none ∧ (t.rx r).last = (s.rx r).last)

/-- The profiles of PTP_CFG (R434): a payload that breaks its profile's requirement is refused with FS_PARAM and changes nothing but the
mailbox. -/
def Obligations.PtpProfilesAreRequired : Prop :=
  (∀ p : List Byte, leAt p 0 1 / 64 < 3 → (ptpProfile p = true ↔
      (leAt p 0 1 / 64 = 2 → leAt p 2 1 = 0 ∧ bitOf (leAt p 0 1) 4 = true ∧ bitOf (leAt p 0 1) 5 = false ∧ leAt p 10 1 = 0 ∧
        leAt p 11 1 = 0 ∧ leAt p 12 1 = 0 ∧ leAt p 13 1 = 3) ∧
      (leAt p 0 1 / 64 = 0 → bitOf (leAt p 0 1) 4 = false) ∧ (leAt p 0 1 / 64 = 1 → bitOf (leAt p 0 1) 4 = true))) ∧
  (∀ (s : State) (tag : Fin 128) (e : Entry), s.Serves 0x0B04 tag e → ptpProfile e.payload = false →
      ∃ t, exec (.ptpCfg tag) s = .next t ∧ t.Answered tag FS.FS_PARAM [] [] ∧ t.regs = s.regs ∧ s.Only t [.fcp, .macs])

/-- Timer and counter blocks (R343): what each timer shows and holds after it is executed, and that a counter stays in the signed 32-bit
range. -/
def Obligations.TimersAndCountersHoldTheirLimits : Prop :=
  (∀ (pt et dt : Nat) (last fell inp : Bool), et ≤ pt →
      (tonNext pt et last fell inp dt).1 ≤ pt ∧ (tofNext pt et last fell inp dt).1 ≤ pt ∧ (tpNext pt et last fell inp dt).1 ≤ pt) ∧
  (∀ (pt et dt : Nat) (last fell : Bool), tonNext pt et last fell false dt = (0, false)) ∧
  (∀ (pt et dt : Nat) (last fell : Bool), et ≤ pt → (tonNext pt et last fell true dt).1 = min (et + dt) pt ∧
      ((tonNext pt et last fell true dt).2 = true ↔ pt ≤ et + dt)) ∧
  (∀ (pt et dt : Nat) (last fell : Bool), tofNext pt et last fell true dt = (0, true)) ∧
  (∀ (pt et dt : Nat) (last fell : Bool), et ≤ pt → last = true ∨ fell = true ∨ 0 < et →
      (tofNext pt et last fell false dt).1 = min (et + dt) pt ∧ ((tofNext pt et last fell false dt).2 = true ↔ et + dt < pt)) ∧
  (∀ pt dt : Nat, (tofNext pt 0 false false false dt).1 = 0) ∧
  (∀ (pt dt : Nat) (fell : Bool), 0 < pt → (tpNext pt 0 false fell true dt).1 = min dt pt ∧
      ((tpNext pt 0 false fell true dt).2 = true ↔ dt < pt)) ∧
  (∀ (pt et dt : Nat) (last fell inp : Bool), 0 < et → et < pt →
      ((tpNext pt et last fell inp dt).2 = true ↔ et + dt < pt) ∧
      (tpNext pt et last fell inp dt).1 = (if pt ≤ et + dt ∧ inp = false then 0 else min (et + dt) pt)) ∧
  (∀ (s u : State) (w : BitVec 24), u = s.modHlp (fun h => { h with pc := h.pc + 1 }) →
      (s.fetches 0x18 w.toNat = true → exec (.hlpTon w) s = .next (u.timer w.toNat tonNext)) ∧
      (s.fetches 0x19 w.toNat = true → exec (.hlpTof w) s = .next (u.timer w.toNat tofNext)) ∧
      (s.fetches 0x1A w.toNat = true → exec (.hlpTp w) s = .next (u.timer w.toNat tpNext))) ∧
  (∀ v : Int, (satWord v).toInt = if v < -2147483648 then -2147483648 else if 2147483647 < v then 2147483647 else v)

/-- The reference angle (R439): it is computed from F, the whole seconds and the whole nanoseconds; the fraction of a nanosecond is not
used; where f_n is a whole number of turns per second, whole seconds drop out (the worked example of R439). -/
def Obligations.ReferenceAngleIsExact : Prop :=
  (∀ (fn w : F32) (sec ns frac : Nat), ns < 1000000000 → frac < 65536 →
      thetaRef fn w ((sec * 1000000000 + ns) * 65536 + frac) =
        (turnRate fn w * sec * 2 ^ 32 + turnRate fn w * ns * 2 ^ 32 / 1000000000) % 2 ^ 64) ∧
  (∀ (fn w : F32) (sec sec' ns : Nat), ns < 1000000000 → turnRate fn w % 2 ^ 32 = 0 →
      thetaRef fn w ((sec * 1000000000 + ns) * 65536) = thetaRef fn w ((sec' * 1000000000 + ns) * 65536)) ∧
  turnRate 0x42480000#32 0x3F800000#32 = 214748364800 ∧
  (∀ sec : Nat, thetaRef 0x42480000#32 0x3F800000#32 ((sec * 1000000000 + 123456789) * 65536) = 17283945 * 2 ^ 64 / 100000000)

end Statements
end

