-- ==== Sys2Proof/Laws/Memory.lean ====
section
/-!
SUPPORT. Addressed stores: every operation keeps the canonical form; a read after a write gives what was written at its address
and what was there before at every other.
-/
namespace Sys2Proof.Machine

variable {α : Type} [DecidableEq α] (d : Nat → α)

theorem Memory.wfFrom_mono (m : Memory α) (lo lo' : Nat) (h : lo' ≤ lo) (w : Memory.wfFrom d lo m = true) :
    Memory.wfFrom d lo' m = true := by
  cases m with
  | nil => rfl
  | cons x m => simp only [Memory.wfFrom, Bool.and_eq_true, decide_eq_true_eq] at *; exact ⟨⟨by omega, w.1.2⟩, w.2⟩

theorem Memory.get_below (m : Memory α) (lo k : Nat) (w : Memory.wfFrom d lo m = true) (h : k < lo) : Memory.get d m k = d k := by
  cases m with
  | nil => rfl
  | cons x m =>
    simp only [Memory.wfFrom, Bool.and_eq_true, decide_eq_true_eq] at w
    rw [Memory.get, if_neg (by omega), if_pos (by omega)]

theorem Memory.wfFrom_set (m : Memory α) (lo k : Nat) (v : α) (w : Memory.wfFrom d lo m = true) (h : lo ≤ k) :
    Memory.wfFrom d lo (Memory.set d m k v) = true := by
  induction m generalizing lo with
  | nil => rw [Memory.set]; split <;> simp_all [Memory.wfFrom]
  | cons x m ih =>
    simp only [Memory.wfFrom, Bool.and_eq_true, decide_eq_true_eq] at w
    rw [Memory.set]
    split
    · split <;> simp_all [Memory.wfFrom]
    · split
      · split
        · exact Memory.wfFrom_mono d m _ _ (by omega) w.2
        · subst_vars; simp_all [Memory.wfFrom]
      · simp only [Memory.wfFrom, Bool.and_eq_true, decide_eq_true_eq]
        exact ⟨w.1, ih _ w.2 (by omega)⟩

/-- The empty store is canonical. -/
@[simp] theorem Memory.wf_nil : Memory.wf d [] = true := rfl

/-- A write keeps the canonical form. -/
theorem Memory.wf_set (m : Memory α) (k : Nat) (v : α) (w : Memory.wf d m = true) : Memory.wf d (Memory.set d m k v) = true :=
  Memory.wfFrom_set d m 0 k v w (Nat.zero_le k)

/-- A write of several values keeps the canonical form. -/
theorem Memory.wf_setMany (vs : List α) (m : Memory α) (k : Nat) (w : Memory.wf d m = true) :
    Memory.wf d (Memory.setMany d m k vs) = true := by
  induction vs generalizing m k with
  | nil => exact w
  | cons v r ih => exact ih _ _ (Memory.wf_set d m k v w)

theorem Memory.wfFrom_filter (f : Nat × α → Bool) (m : Memory α) (lo : Nat) (w : Memory.wfFrom d lo m = true) :
    Memory.wfFrom d lo (m.filter f) = true := by
  induction m generalizing lo with
  | nil => rfl
  | cons x m ih =>
    simp only [Memory.wfFrom, Bool.and_eq_true, decide_eq_true_eq] at w
    rw [List.filter_cons]
    split
    · simp only [Memory.wfFrom, Bool.and_eq_true, decide_eq_true_eq]; exact ⟨w.1, ih _ w.2⟩
    · exact ih _ (Memory.wfFrom_mono d m _ _ (by omega) w.2)

/-- Dropping entries, as a reset does, keeps the canonical form. -/
theorem Memory.wf_filter (f : Nat × α → Bool) (m : Memory α) (w : Memory.wf d m = true) : Memory.wf d (m.filter f) = true :=
  Memory.wfFrom_filter d f m 0 w

/-- Read after write at the same address. -/
theorem Memory.get_set_same (m : Memory α) (k : Nat) (v : α) (w : Memory.wf d m = true) :
    Memory.get d (Memory.set d m k v) k = v := by
  have H : ∀ (m : Memory α) lo, Memory.wfFrom d lo m = true → Memory.get d (Memory.set d m k v) k = v := by
    intro m
    induction m with
    | nil => intro lo _; rw [Memory.set]; split <;> simp_all [Memory.get]
    | cons x m ih =>
      intro lo w
      simp only [Memory.wfFrom, Bool.and_eq_true, decide_eq_true_eq] at w
      rw [Memory.set]
      split
      · split
        · rw [Memory.get, if_neg (by omega), if_pos (by omega)]; simp_all
        · rw [Memory.get, if_pos rfl]
      · split
        · split
          · rw [Memory.get_below d m _ k w.2 (by omega)]; simp_all
          · rw [Memory.get, if_pos rfl]
        · rw [Memory.get, if_neg (by omega), if_neg (by omega)]; exact ih _ w.2
  exact H m 0 w

/-- Read after write at another address. -/
theorem Memory.get_set_other (m : Memory α) (k j : Nat) (v : α) (w : Memory.wf d m = true) (h : j ≠ k) :
    Memory.get d (Memory.set d m k v) j = Memory.get d m j := by
  have H : ∀ (m : Memory α) lo, Memory.wfFrom d lo m = true → Memory.get d (Memory.set d m k v) j = Memory.get d m j := by
    intro m
    induction m with
    | nil => intro lo _; rw [Memory.set]; split <;> simp [Memory.get]; omega
    | cons x m ih =>
      intro lo w
      simp only [Memory.wfFrom, Bool.and_eq_true, decide_eq_true_eq] at w
      rw [Memory.set]
      split
      · split
        · rfl
        · rw [Memory.get, if_neg (by omega)]
          split
          · rw [Memory.get, if_neg (by omega), if_pos (by omega)]
          · rfl
      · split
        · split
          · by_cases hj : j < k
            · rw [Memory.get_below d m _ j w.2 (by omega), Memory.get, if_neg (by omega), if_pos (by omega)]
            · rw [Memory.get.eq_2, if_neg (by omega), if_neg (by omega)]
          · rename_i hkx _
            simp only [Memory.get, ← hkx, if_neg (Ne.symm h)]
        · rw [Memory.get, Memory.get]; rw [ih _ w.2]
  exact H m 0 w

/-- Read of the run just written. -/
theorem Memory.get_setMany_out (vs : List α) (m : Memory α) (k j : Nat) (w : Memory.wf d m = true)
    (h : j < k ∨ k + vs.length ≤ j) : Memory.get d (Memory.setMany d m k vs) j = Memory.get d m j := by
  induction vs generalizing m k with
  | nil => rfl
  | cons v r ih =>
    rw [Memory.setMany, ih _ _ (Memory.wf_set d m k v w) (by simp only [List.length_cons] at h; omega)]
    exact Memory.get_set_other d m k j v w (by simp only [List.length_cons] at h; omega)

/-- Read of an address inside the run just written. -/
theorem Memory.get_setMany_in (vs : List α) (m : Memory α) (k i : Nat) (w : Memory.wf d m = true) (h : i < vs.length) :
    Memory.get d (Memory.setMany d m k vs) (k + i) = vs[i] := by
  induction vs generalizing m k i with
  | nil => exact absurd h (Nat.not_lt_zero i)
  | cons v r ih =>
    rw [Memory.setMany]
    cases i with
    | zero =>
      show Memory.get d (Memory.setMany d (Memory.set d m k v) (k + 1) r) k = v
      rw [Memory.get_setMany_out d r _ (k + 1) k (Memory.wf_set d m k v w) (by omega)]
      exact Memory.get_set_same d m k v w
    | succ i =>
      have := ih (Memory.set d m k v) (k + 1) i (Memory.wf_set d m k v w) (by simp only [List.length_cons] at h; omega)
      rw [show k + (i + 1) = k + 1 + i by omega, this]; rfl

/-- The canonical form of a written store determines the store: equal reads everywhere give equal stores. -/
theorem Memory.ext_get (m n : Memory α) (hm : Memory.wf d m = true) (hn : Memory.wf d n = true)
    (h : ∀ k, Memory.get d m k = Memory.get d n k) : m = n := by
  have H : ∀ (m n : Memory α) lo, Memory.wfFrom d lo m = true → Memory.wfFrom d lo n = true →
      (∀ k, lo ≤ k → Memory.get d m k = Memory.get d n k) → m = n := by
    intro m
    induction m with
    | nil =>
      intro n lo _ wn hk
      cases n with
      | nil => rfl
      | cons y n =>
        simp only [Memory.wfFrom, Bool.and_eq_true, decide_eq_true_eq] at wn
        have := hk y.1 wn.1.1
        rw [Memory.get, Memory.get, if_pos rfl] at this
        exact absurd this.symm wn.1.2
    | cons x m ih =>
      intro n lo wm wn hk
      simp only [Memory.wfFrom, Bool.and_eq_true, decide_eq_true_eq] at wm
      cases n with
      | nil =>
        have := hk x.1 wm.1.1
        rw [Memory.get, Memory.get, if_pos rfl] at this
        exact absurd this wm.1.2
      | cons y n =>
        simp only [Memory.wfFrom, Bool.and_eq_true, decide_eq_true_eq] at wn
        have hxy : x.1 = y.1 := by
          rcases Nat.lt_trichotomy x.1 y.1 with hlt | heq | hgt
          · have := hk x.1 wm.1.1
            rw [Memory.get, if_pos rfl, Memory.get, if_neg (by omega), if_pos hlt] at this
            exact absurd this wm.1.2
          · exact heq
          · have := hk y.1 wn.1.1
            rw [Memory.get, if_neg (by omega), if_pos hgt, Memory.get, if_pos rfl] at this
            exact absurd this.symm wn.1.2
        obtain ⟨a, v⟩ := x
        obtain ⟨b, u⟩ := y
        simp only at hxy
        subst hxy
        have hv : v = u := by have := hk a wm.1.1; simpa [Memory.get] using this
        subst hv
        congr 1
        refine ih n (a + 1) wm.2 wn.2 fun k hk' => ?_
        have := hk k (by omega)
        rw [Memory.get, if_neg (by omega), if_neg (by omega), Memory.get, if_neg (by omega), if_neg (by omega)] at this
        exact this
  exact H m n 0 hm hn fun k _ => h k

end Sys2Proof.Machine
end

