-- ==== Sys2Proof/Laws/Fields.lean ====
section
/-!
SUPPORT. Register fields: a field reads as it was written, a field apart from it reads as before, and every write keeps the
register file canonical.
-/
namespace Sys2Proof.Machine

theorem fieldOf_lt (w : Word) (hi lo : Nat) : fieldOf w hi lo < 2 ^ (hi + 1 - lo) := Nat.mod_lt _ (Nat.two_pow_pos _)

/-- The bits of a written word. -/
theorem putField_toNat (w : Word) (hi lo v : Nat) (h : lo ≤ hi) (h2 : hi < 32) :
    (putField w hi lo v).toNat = w.toNat % 2 ^ lo + (v % 2 ^ (hi + 1 - lo)) * 2 ^ lo + w.toNat / 2 ^ (hi + 1) * 2 ^ (hi + 1) := by
  have e : 2 ^ (hi + 1) = 2 ^ (hi + 1 - lo) * 2 ^ lo := by rw [← Nat.pow_add]; congr 1; omega
  have hw : w.toNat < 2 ^ 32 := w.isLt
  have a : w.toNat % 2 ^ lo < 2 ^ lo := Nat.mod_lt _ (Nat.two_pow_pos _)
  have b : v % 2 ^ (hi + 1 - lo) < 2 ^ (hi + 1 - lo) := Nat.mod_lt _ (Nat.two_pow_pos _)
  have c : w.toNat % 2 ^ lo + (v % 2 ^ (hi + 1 - lo)) * 2 ^ lo < 2 ^ (hi + 1) := by
    rw [e]
    calc _ < 2 ^ lo + (v % 2 ^ (hi + 1 - lo)) * 2 ^ lo := by omega
      _ = (v % 2 ^ (hi + 1 - lo) + 1) * 2 ^ lo := by rw [Nat.add_mul]; omega
      _ ≤ _ := Nat.mul_le_mul_right _ b
  have f : (2 : Nat) ^ 32 = 2 ^ (32 - (hi + 1)) * 2 ^ (hi + 1) := by rw [← Nat.pow_add]; congr 1; omega
  have g : w.toNat / 2 ^ (hi + 1) < 2 ^ (32 - (hi + 1)) := by
    rw [Nat.div_lt_iff_lt_mul (Nat.two_pow_pos _), ← f]; exact hw
  have h : w.toNat % 2 ^ lo + (v % 2 ^ (hi + 1 - lo)) * 2 ^ lo + w.toNat / 2 ^ (hi + 1) * 2 ^ (hi + 1) < 2 ^ 32 := by
    rw [f]
    calc _ < 2 ^ (hi + 1) + w.toNat / 2 ^ (hi + 1) * 2 ^ (hi + 1) := by omega
      _ = (w.toNat / 2 ^ (hi + 1) + 1) * 2 ^ (hi + 1) := by rw [Nat.add_mul]; omega
      _ ≤ _ := Nat.mul_le_mul_right _ g
  rw [putField, BitVec.toNat_ofNat, Nat.shiftRight_eq_div_pow, Nat.mod_eq_of_lt h]

/-- A field reads as it was written, cut to its width. -/
theorem fieldOf_putField (w : Word) (hi lo v : Nat) (h : lo ≤ hi) (h2 : hi < 32) :
    fieldOf (putField w hi lo v) hi lo = v % 2 ^ (hi + 1 - lo) := by
  have e : 2 ^ (hi + 1) = 2 ^ (hi + 1 - lo) * 2 ^ lo := by rw [← Nat.pow_add]; congr 1; omega
  have a : w.toNat % 2 ^ lo < 2 ^ lo := Nat.mod_lt _ (Nat.two_pow_pos _)
  rw [fieldOf, putField_toNat w hi lo v h h2, Nat.shiftRight_eq_div_pow, e, ← Nat.mul_assoc, Nat.add_assoc, ← Nat.add_mul,
    Nat.add_mul_div_right _ _ (Nat.two_pow_pos _), Nat.div_eq_of_lt a, Nat.zero_add, Nat.add_mul_mod_self_right, Nat.mod_mod]

/-- Bit i of a written word. -/
theorem putField_testBit (w : Word) (hi lo v i : Nat) (h : lo ≤ hi) (h2 : hi < 32) :
    (putField w hi lo v).toNat.testBit i =
      if i < lo then w.toNat.testBit i else if i ≤ hi then (v % 2 ^ (hi + 1 - lo)).testBit (i - lo) else w.toNat.testBit i := by
  have a : w.toNat % 2 ^ lo < 2 ^ lo := Nat.mod_lt _ (Nat.two_pow_pos _)
  have b : v % 2 ^ (hi + 1 - lo) < 2 ^ (hi + 1 - lo) := Nat.mod_lt _ (Nat.two_pow_pos _)
  have e : 2 ^ (hi + 1) = 2 ^ (hi + 1 - lo) * 2 ^ lo := by rw [← Nat.pow_add]; congr 1; omega
  have c : w.toNat % 2 ^ lo + (v % 2 ^ (hi + 1 - lo)) * 2 ^ lo < 2 ^ (hi + 1) := by
    rw [e]
    calc _ < 2 ^ lo + (v % 2 ^ (hi + 1 - lo)) * 2 ^ lo := by omega
      _ = (v % 2 ^ (hi + 1 - lo) + 1) * 2 ^ lo := by rw [Nat.add_mul]; omega
      _ ≤ _ := Nat.mul_le_mul_right _ b
  rw [putField_toNat w hi lo v h h2, Nat.add_comm, Nat.mul_comm (w.toNat / 2 ^ (hi + 1)), Nat.testBit_two_pow_mul_add _ c]
  split
  · rw [Nat.add_comm, Nat.mul_comm, Nat.testBit_two_pow_mul_add _ a]
    split
    · rw [Nat.testBit_mod_two_pow]; simp [*]
    · rw [if_pos (by omega)]
  · rw [if_neg (by omega), if_neg (by omega), Nat.testBit_div_two_pow]; congr 1; omega

/-- A field apart from the written bits reads as before. -/
theorem fieldOf_putField_apart (w : Word) (hi lo v hi' lo' : Nat) (h : lo ≤ hi) (h2 : hi < 32) (ha : hi' < lo ∨ hi < lo') :
    fieldOf (putField w hi lo v) hi' lo' = fieldOf w hi' lo' := by
  apply Nat.eq_of_testBit_eq
  intro i
  rw [fieldOf, fieldOf, Nat.testBit_mod_two_pow, Nat.testBit_mod_two_pow, Nat.testBit_shiftRight, Nat.testBit_shiftRight,
    putField_testBit w hi lo v _ h h2]
  by_cases hi1 : i < hi' + 1 - lo'
  · simp only [hi1, decide_true, Bool.true_and]
    rcases ha with ha | ha
    · rw [if_pos (by omega)]
    · rw [if_neg (by omega), if_neg (by omega)]
  · simp [hi1]

namespace State

theorem canon_setReg {s : State} (h : s.Canon) (r : Reg) (i : Nat) (w : Word) : (s.setReg r i w).Canon :=
  Memory.wf_set resetWord _ _ _ h

theorem canon_setFld {s : State} (h : s.Canon) (f : Fld) (i v : Nat) : (s.setFld f i v).Canon :=
  Memory.wf_set resetWord _ _ _ h

/-- Keys of two registers of different class or offset differ. -/
theorem regKey_ne {c i o c' i' o' : Nat} (ho : o < 65536) (ho' : o' < 65536) (h : o ≠ o') : regKey c i o ≠ regKey c' i' o' := by
  unfold regKey; omega

theorem regKey_inj {c i o c' i' o' : Nat} (hi : i < 256) (hi' : i' < 256) (ho : o < 65536) (ho' : o' < 65536)
    (h : regKey c i o = regKey c' i' o') : c = c' ∧ i = i' ∧ o = o' := by
  unfold regKey at h; omega

end State

/-- A field inside the window and inside its word. -/
def Fld.good (f : Fld) : Bool := decide (f.lo ≤ f.hi) && decide (f.hi < 32) && decide (f.off < 65536)

/-- Two fields share no bit, whatever units they are read in: other offsets, or other bits of their words. -/
def Fld.apart (f g : Fld) : Bool := f.good && g.good && (f.off != g.off || decide (f.hi < g.lo) || decide (g.hi < f.lo))

variable {s : State}

/-- A field reads as it was written, cut to its width. -/
@[simp] theorem State.fld_setFld_same (hw : s.Canon) (f : Fld) (i v : Nat) (h : f.good = true) :
    (s.setFld f i v).fld f i = v % 2 ^ (f.hi + 1 - f.lo) := by
  simp only [Fld.good, Bool.and_eq_true, decide_eq_true_eq] at h
  unfold State.fld State.setFld
  simp only
  rw [Memory.get_set_same resetWord _ _ _ hw, fieldOf_putField _ _ _ _ h.1.1 h.1.2]

/-- A field apart from the one written reads as before. -/
@[simp] theorem State.fld_setFld_apart (hw : s.Canon) (f g : Fld) (i j v : Nat) (h : Fld.apart f g = true) : (s.setFld g j v).fld f i = s.fld f i := by
  simp only [Fld.apart, Fld.good, Bool.and_eq_true, decide_eq_true_eq, Bool.or_eq_true, bne_iff_ne, ne_eq] at h
  unfold State.fld State.setFld
  simp only
  by_cases hk : regKey f.cls i f.off = regKey g.cls j g.off
  · rw [hk, Memory.get_set_same resetWord _ _ _ hw, fieldOf_putField_apart _ _ _ _ _ _ h.1.2.1.1 h.1.2.1.2]
    have : f.off = g.off := by
      have := h.1.1.2; have := h.1.2.2; unfold regKey at hk; omega
    rcases h.2 with (h2 | h2) | h2
    · exact absurd this h2
    · exact .inl h2
    · exact .inr h2
  · rw [Memory.get_set_other resetWord _ _ _ _ hw hk]

/-- A field of another unit reads as before. -/
theorem State.fld_setFld_unit (hw : s.Canon) (f g : Fld) (i j v : Nat) (h : regKey f.cls i f.off ≠ regKey g.cls j g.off) :
    (s.setFld g j v).fld f i = s.fld f i := by
  unfold State.fld State.setFld
  simp only
  rw [Memory.get_set_other resetWord _ _ _ _ hw h]

@[simp] theorem State.flag_setFlag_same (hw : s.Canon) (f : Fld) (i : Nat) (b : Bool) (h : Fld.good f = true) : (s.setFlag f i b).flag f i = b := by
  unfold State.flag State.setFlag
  rw [State.fld_setFld_same hw _ _ _ h]
  have : 2 ^ (f.hi + 1 - f.lo) ≥ 2 := by
    simp only [Fld.good, Bool.and_eq_true, decide_eq_true_eq] at h
    calc 2 = 2 ^ 1 := rfl
      _ ≤ _ := Nat.pow_le_pow_right (by omega) (by omega)
  cases b
  · simp [b2n]
  · rw [show b2n true = 1 from rfl, Nat.mod_eq_of_lt (by omega)]; rfl

end Sys2Proof.Machine
end

