-- ==== Sys2Proof/Laws/Frame.lean ====
section
/-!
SUPPORT. What every operation of the block changes. `Within m z s`: s differs from z only in the parts whose bits are set in m, bit i
for the i-th part of Safety's Part. The files Frame0 and on give one lemma for each operation and each meaning.
-/
namespace Sys2Proof.Machine

/-- The number of a part. -/
def Part.idx (p : Part) : Nat := p.ctorIdx

/-- s differs from z only in the parts of m. -/
def Within (m : Nat) (z s : State) : Prop := ∀ p : Part, m.testBit p.idx = false → p.same z s

/-- Every part of k is one of m. -/
def Sub (k m : Nat) : Prop := k &&& m = k

/-- A meaning answers a next state that is within m. -/
def Nexts (m : Nat) (z : State) (o : Host.Outcome State Fault Refusal) : Prop := ∃ t, o = .next t ∧ Within m z t

variable {m : Nat} {z s : State}

theorem Sub.of {j k m : Nat} (h : Sub k m) (e : j &&& k = j) : Sub j m := by
  unfold Sub at *; rw [← e, Nat.and_assoc, h]

theorem Nexts.next {t : State} (h : Within m z t) : Nexts m z (.next t) := ⟨t, rfl, h⟩

theorem Within.refl (m : Nat) (s : State) : Within m s s := fun p _ => by cases p <;> rfl

theorem Part.same_trans {p : Part} {a b c : State} (h : p.same a b) (k : p.same b c) : p.same a c := by
  cases p <;> exact Eq.trans k h

theorem Within.upd {k : Nat} {t : State} (h : Within m z s) (hm : Sub k m) (hk : Within k s t) : Within m z t := fun p hp =>
  Part.same_trans (h p hp) (hk p (by rw [← hm, Nat.testBit_and, hp, Bool.and_false]))

/-- The parts of a list, as bits. -/
def Part.mask (l : List Part) : Nat := l.foldl (fun m p => m ||| 2 ^ p.idx) 0

theorem Part.mask_bit (l : List Part) (p : Part) : (Part.mask l).testBit p.idx = decide (p ∈ l) := by
  have hi : ∀ a b : Part, a.idx = b.idx → a = b := fun a b h => by cases a <;> cases b <;> first | rfl | cases h
  have : ∀ (l : List Part) (m : Nat), (l.foldl (fun m p => m ||| 2 ^ p.idx) m).testBit p.idx = (m.testBit p.idx || decide (p ∈ l)) := by
    intro l
    induction l with
    | nil => simp
    | cons a l ih =>
      intro m
      rw [List.foldl_cons, ih, Nat.testBit_or, Nat.testBit_two_pow, Bool.or_assoc]
      congr 1
      by_cases h : a.idx = p.idx
      · rw [hi _ _ h]; simp
      · have : p ≠ a := fun e => h (e ▸ rfl)
        simp [h, this]
  rw [Part.mask, this]; simp

/-- Frames in the terms of the statements. -/
theorem Within.only {l : List Part} {t : State} (h : Within (Part.mask l) s t) : s.Only t l := fun p hp => h p (by simp [Part.mask_bit, hp])

theorem within_ite {c : Prop} [Decidable c] {t u : State} (a : c → Within m z t) (b : ¬ c → Within m z u) : Within m z (if c then t else u) := by
  split
  · exact a ‹_›
  · exact b ‹_›

theorem nexts_ite {c : Prop} [Decidable c] {t u : Host.Outcome State Fault Refusal} (a : c → Nexts m z t) (b : ¬ c → Nexts m z u) :
    Nexts m z (if c then t else u) := by
  split
  · exact a ‹_›
  · exact b ‹_›

theorem foldl_in {α : Type} {f : State → α → State} (l : List α) (h : Within m z s) (hf : ∀ t x, Within m z t → Within m z (f t x)) :
    Within m z (l.foldl f s) := by
  induction l generalizing s with
  | nil => exact h
  | cons x l ih => exact ih (hf s x h)

/-! ### Updates of the state's parts -/

theorem Within.set_pending {pending} (h : Within m z s) (hm : Sub 1 m) : Within m z (State.mk pending s.now s.fresh s.regs s.fcp
    s.evq s.win s.cle s.ports s.pwm s.coef s.trace s.obs s.adc s.sd s.gl s.pair s.stw s.hlp s.fio s.tb s.macs s.ptp s.cap s.recd
    s.clk s.spur s.tack s.boot) := h.upd hm fun p hp => by
  cases p <;> first | rfl | exact absurd hp (by decide)

theorem Within.set_now_tb {now tb} (h : Within m z s) (hm : Sub 1048578 m) : Within m z (State.mk s.pending now s.fresh s.regs
    s.fcp s.evq s.win s.cle s.ports s.pwm s.coef s.trace s.obs s.adc s.sd s.gl s.pair s.stw s.hlp s.fio tb s.macs s.ptp s.cap s.recd
    s.clk s.spur s.tack s.boot) := h.upd hm fun p hp => by
  cases p <;> first | rfl | exact absurd hp (by decide)

theorem Within.set_fresh {fresh} (h : Within m z s) (hm : Sub 4 m) : Within m z (State.mk s.pending s.now fresh s.regs s.fcp
    s.evq s.win s.cle s.ports s.pwm s.coef s.trace s.obs s.adc s.sd s.gl s.pair s.stw s.hlp s.fio s.tb s.macs s.ptp s.cap s.recd
    s.clk s.spur s.tack s.boot) := h.upd hm fun p hp => by
  cases p <;> first | rfl | exact absurd hp (by decide)

theorem Within.set_regs {regs} (h : Within m z s) (hm : Sub 8 m) : Within m z (State.mk s.pending s.now s.fresh regs s.fcp s.evq
    s.win s.cle s.ports s.pwm s.coef s.trace s.obs s.adc s.sd s.gl s.pair s.stw s.hlp s.fio s.tb s.macs s.ptp s.cap s.recd s.clk
    s.spur s.tack s.boot) := h.upd hm fun p hp => by
  cases p <;> first | rfl | exact absurd hp (by decide)

theorem Within.set_regs_pwm_pair_stw_clk_boot {regs pwm pair stw clk boot} (h : Within m z s) (hm : Sub 302187016 m) : Within m
    z (State.mk s.pending s.now s.fresh regs s.fcp s.evq s.win s.cle s.ports pwm s.coef s.trace s.obs s.adc s.sd s.gl pair stw s.hlp
    s.fio s.tb s.macs s.ptp s.cap s.recd clk s.spur s.tack boot) := h.upd hm fun p hp => by
  cases p <;> first | rfl | exact absurd hp (by decide)

theorem Within.set_regs_hlp_tb_recd_clk_boot {regs hlp tb recd clk boot} (h : Within m z s) (hm : Sub 320077832 m) : Within m z
    (State.mk s.pending s.now s.fresh regs s.fcp s.evq s.win s.cle s.ports s.pwm s.coef s.trace s.obs s.adc s.sd s.gl s.pair s.stw
    hlp s.fio tb s.macs s.ptp s.cap recd clk s.spur s.tack boot) := h.upd hm fun p hp => by
  cases p <;> first | rfl | exact absurd hp (by decide)

theorem Within.set_fcp {fcp} (h : Within m z s) (hm : Sub 16 m) : Within m z (State.mk s.pending s.now s.fresh s.regs fcp s.evq
    s.win s.cle s.ports s.pwm s.coef s.trace s.obs s.adc s.sd s.gl s.pair s.stw s.hlp s.fio s.tb s.macs s.ptp s.cap s.recd s.clk
    s.spur s.tack s.boot) := h.upd hm fun p hp => by
  cases p <;> first | rfl | exact absurd hp (by decide)

theorem Within.set_fcp_ptp_recd_boot {fcp ptp recd boot} (h : Within m z s) (hm : Sub 289406992 m) : Within m z (State.mk s.pending s.now
    s.fresh s.regs fcp s.evq s.win s.cle s.ports s.pwm s.coef s.trace s.obs s.adc s.sd s.gl s.pair s.stw s.hlp s.fio s.tb s.macs ptp
    s.cap recd s.clk s.spur s.tack boot) := h.upd hm fun p hp => by
  cases p <;> first | rfl | exact absurd hp (by decide)

theorem Within.set_fcp_cle_pair_cap {fcp cle pair cap} (h : Within m z s) (hm : Sub 8454288 m) : Within m z (State.mk s.pending s.now
    s.fresh s.regs fcp s.evq s.win cle s.ports s.pwm s.coef s.trace s.obs s.adc s.sd s.gl pair s.stw s.hlp s.fio s.tb s.macs s.ptp cap
    s.recd s.clk s.spur s.tack s.boot) := h.upd hm fun p hp => by
  cases p <;> first | rfl | exact absurd hp (by decide)

theorem Within.set_evq_cap {evq cap} (h : Within m z s) (hm : Sub 8388640 m) : Within m z (State.mk s.pending s.now s.fresh s.regs s.fcp
    evq s.win s.cle s.ports s.pwm s.coef s.trace s.obs s.adc s.sd s.gl s.pair s.stw s.hlp s.fio s.tb s.macs s.ptp cap s.recd s.clk s.spur
    s.tack s.boot) := h.upd hm fun p hp => by
  cases p <;> first | rfl | exact absurd hp (by decide)

theorem Within.set_evq {evq} (h : Within m z s) (hm : Sub 32 m) : Within m z (State.mk s.pending s.now s.fresh s.regs s.fcp evq
    s.win s.cle s.ports s.pwm s.coef s.trace s.obs s.adc s.sd s.gl s.pair s.stw s.hlp s.fio s.tb s.macs s.ptp s.cap s.recd s.clk
    s.spur s.tack s.boot) := h.upd hm fun p hp => by
  cases p <;> first | rfl | exact absurd hp (by decide)

theorem Within.set_win {win} (h : Within m z s) (hm : Sub 64 m) : Within m z (State.mk s.pending s.now s.fresh s.regs s.fcp
    s.evq win s.cle s.ports s.pwm s.coef s.trace s.obs s.adc s.sd s.gl s.pair s.stw s.hlp s.fio s.tb s.macs s.ptp s.cap s.recd s.clk
    s.spur s.tack s.boot) := h.upd hm fun p hp => by
  cases p <;> first | rfl | exact absurd hp (by decide)

theorem Within.set_win_pwm_hlp {win pwm hlp} (h : Within m z s) (hm : Sub 262720 m) : Within m z (State.mk s.pending s.now
    s.fresh s.regs s.fcp s.evq win s.cle s.ports pwm s.coef s.trace s.obs s.adc s.sd s.gl s.pair s.stw hlp s.fio s.tb s.macs s.ptp
    s.cap s.recd s.clk s.spur s.tack s.boot) := h.upd hm fun p hp => by
  cases p <;> first | rfl | exact absurd hp (by decide)

theorem Within.set_cle {cle} (h : Within m z s) (hm : Sub 128 m) : Within m z (State.mk s.pending s.now s.fresh s.regs s.fcp
    s.evq s.win cle s.ports s.pwm s.coef s.trace s.obs s.adc s.sd s.gl s.pair s.stw s.hlp s.fio s.tb s.macs s.ptp s.cap s.recd s.clk
    s.spur s.tack s.boot) := h.upd hm fun p hp => by
  cases p <;> first | rfl | exact absurd hp (by decide)

theorem Within.set_cle_cap {cle cap} (h : Within m z s) (hm : Sub 8388736 m) : Within m z (State.mk s.pending s.now s.fresh
    s.regs s.fcp s.evq s.win cle s.ports s.pwm s.coef s.trace s.obs s.adc s.sd s.gl s.pair s.stw s.hlp s.fio s.tb s.macs s.ptp cap
    s.recd s.clk s.spur s.tack s.boot) := h.upd hm fun p hp => by
  cases p <;> first | rfl | exact absurd hp (by decide)

theorem Within.set_ports {ports} (h : Within m z s) (hm : Sub 256 m) : Within m z (State.mk s.pending s.now s.fresh s.regs s.fcp
    s.evq s.win s.cle ports s.pwm s.coef s.trace s.obs s.adc s.sd s.gl s.pair s.stw s.hlp s.fio s.tb s.macs s.ptp s.cap s.recd s.clk
    s.spur s.tack s.boot) := h.upd hm fun p hp => by
  cases p <;> first | rfl | exact absurd hp (by decide)

theorem Within.set_pwm {pwm} (h : Within m z s) (hm : Sub 512 m) : Within m z (State.mk s.pending s.now s.fresh s.regs s.fcp
    s.evq s.win s.cle s.ports pwm s.coef s.trace s.obs s.adc s.sd s.gl s.pair s.stw s.hlp s.fio s.tb s.macs s.ptp s.cap s.recd s.clk
    s.spur s.tack s.boot) := h.upd hm fun p hp => by
  cases p <;> first | rfl | exact absurd hp (by decide)

theorem Within.set_coef {coef} (h : Within m z s) (hm : Sub 1024 m) : Within m z (State.mk s.pending s.now s.fresh s.regs s.fcp
    s.evq s.win s.cle s.ports s.pwm coef s.trace s.obs s.adc s.sd s.gl s.pair s.stw s.hlp s.fio s.tb s.macs s.ptp s.cap s.recd s.clk
    s.spur s.tack s.boot) := h.upd hm fun p hp => by
  cases p <;> first | rfl | exact absurd hp (by decide)

theorem Within.set_coef_sd {coef sd} (h : Within m z s) (hm : Sub 17408 m) : Within m z (State.mk s.pending s.now s.fresh s.regs
    s.fcp s.evq s.win s.cle s.ports s.pwm coef s.trace s.obs s.adc sd s.gl s.pair s.stw s.hlp s.fio s.tb s.macs s.ptp s.cap s.recd
    s.clk s.spur s.tack s.boot) := h.upd hm fun p hp => by
  cases p <;> first | rfl | exact absurd hp (by decide)

theorem Within.set_trace {trace} (h : Within m z s) (hm : Sub 2048 m) : Within m z (State.mk s.pending s.now s.fresh s.regs
    s.fcp s.evq s.win s.cle s.ports s.pwm s.coef trace s.obs s.adc s.sd s.gl s.pair s.stw s.hlp s.fio s.tb s.macs s.ptp s.cap s.recd
    s.clk s.spur s.tack s.boot) := h.upd hm fun p hp => by
  cases p <;> first | rfl | exact absurd hp (by decide)

theorem Within.set_obs {obs} (h : Within m z s) (hm : Sub 4096 m) : Within m z (State.mk s.pending s.now s.fresh s.regs s.fcp
    s.evq s.win s.cle s.ports s.pwm s.coef s.trace obs s.adc s.sd s.gl s.pair s.stw s.hlp s.fio s.tb s.macs s.ptp s.cap s.recd s.clk
    s.spur s.tack s.boot) := h.upd hm fun p hp => by
  cases p <;> first | rfl | exact absurd hp (by decide)

theorem Within.set_adc {adc} (h : Within m z s) (hm : Sub 8192 m) : Within m z (State.mk s.pending s.now s.fresh s.regs s.fcp
    s.evq s.win s.cle s.ports s.pwm s.coef s.trace s.obs adc s.sd s.gl s.pair s.stw s.hlp s.fio s.tb s.macs s.ptp s.cap s.recd s.clk
    s.spur s.tack s.boot) := h.upd hm fun p hp => by
  cases p <;> first | rfl | exact absurd hp (by decide)

theorem Within.set_sd {sd} (h : Within m z s) (hm : Sub 16384 m) : Within m z (State.mk s.pending s.now s.fresh s.regs s.fcp
    s.evq s.win s.cle s.ports s.pwm s.coef s.trace s.obs s.adc sd s.gl s.pair s.stw s.hlp s.fio s.tb s.macs s.ptp s.cap s.recd s.clk
    s.spur s.tack s.boot) := h.upd hm fun p hp => by
  cases p <;> first | rfl | exact absurd hp (by decide)

theorem Within.set_gl {gl} (h : Within m z s) (hm : Sub 32768 m) : Within m z (State.mk s.pending s.now s.fresh s.regs s.fcp
    s.evq s.win s.cle s.ports s.pwm s.coef s.trace s.obs s.adc s.sd gl s.pair s.stw s.hlp s.fio s.tb s.macs s.ptp s.cap s.recd s.clk
    s.spur s.tack s.boot) := h.upd hm fun p hp => by
  cases p <;> first | rfl | exact absurd hp (by decide)

theorem Within.set_pair {pair} (h : Within m z s) (hm : Sub 65536 m) : Within m z (State.mk s.pending s.now s.fresh s.regs s.fcp
    s.evq s.win s.cle s.ports s.pwm s.coef s.trace s.obs s.adc s.sd s.gl pair s.stw s.hlp s.fio s.tb s.macs s.ptp s.cap s.recd s.clk
    s.spur s.tack s.boot) := h.upd hm fun p hp => by
  cases p <;> first | rfl | exact absurd hp (by decide)

theorem Within.set_stw {stw} (h : Within m z s) (hm : Sub 131072 m) : Within m z (State.mk s.pending s.now s.fresh s.regs s.fcp
    s.evq s.win s.cle s.ports s.pwm s.coef s.trace s.obs s.adc s.sd s.gl s.pair stw s.hlp s.fio s.tb s.macs s.ptp s.cap s.recd s.clk
    s.spur s.tack s.boot) := h.upd hm fun p hp => by
  cases p <;> first | rfl | exact absurd hp (by decide)

theorem Within.set_hlp {hlp} (h : Within m z s) (hm : Sub 262144 m) : Within m z (State.mk s.pending s.now s.fresh s.regs s.fcp
    s.evq s.win s.cle s.ports s.pwm s.coef s.trace s.obs s.adc s.sd s.gl s.pair s.stw hlp s.fio s.tb s.macs s.ptp s.cap s.recd s.clk
    s.spur s.tack s.boot) := h.upd hm fun p hp => by
  cases p <;> first | rfl | exact absurd hp (by decide)

theorem Within.set_fio {fio} (h : Within m z s) (hm : Sub 524288 m) : Within m z (State.mk s.pending s.now s.fresh s.regs s.fcp
    s.evq s.win s.cle s.ports s.pwm s.coef s.trace s.obs s.adc s.sd s.gl s.pair s.stw s.hlp fio s.tb s.macs s.ptp s.cap s.recd s.clk
    s.spur s.tack s.boot) := h.upd hm fun p hp => by
  cases p <;> first | rfl | exact absurd hp (by decide)

theorem Within.set_tb {tb} (h : Within m z s) (hm : Sub 1048576 m) : Within m z (State.mk s.pending s.now s.fresh s.regs s.fcp
    s.evq s.win s.cle s.ports s.pwm s.coef s.trace s.obs s.adc s.sd s.gl s.pair s.stw s.hlp s.fio tb s.macs s.ptp s.cap s.recd s.clk
    s.spur s.tack s.boot) := h.upd hm fun p hp => by
  cases p <;> first | rfl | exact absurd hp (by decide)

theorem Within.set_macs {macs} (h : Within m z s) (hm : Sub 2097152 m) : Within m z (State.mk s.pending s.now s.fresh s.regs
    s.fcp s.evq s.win s.cle s.ports s.pwm s.coef s.trace s.obs s.adc s.sd s.gl s.pair s.stw s.hlp s.fio s.tb macs s.ptp s.cap s.recd
    s.clk s.spur s.tack s.boot) := h.upd hm fun p hp => by
  cases p <;> first | rfl | exact absurd hp (by decide)

theorem Within.set_ptp {ptp} (h : Within m z s) (hm : Sub 4194304 m) : Within m z (State.mk s.pending s.now s.fresh s.regs s.fcp
    s.evq s.win s.cle s.ports s.pwm s.coef s.trace s.obs s.adc s.sd s.gl s.pair s.stw s.hlp s.fio s.tb s.macs ptp s.cap s.recd s.clk
    s.spur s.tack s.boot) := h.upd hm fun p hp => by
  cases p <;> first | rfl | exact absurd hp (by decide)

theorem Within.set_cap {cap} (h : Within m z s) (hm : Sub 8388608 m) : Within m z (State.mk s.pending s.now s.fresh s.regs s.fcp
    s.evq s.win s.cle s.ports s.pwm s.coef s.trace s.obs s.adc s.sd s.gl s.pair s.stw s.hlp s.fio s.tb s.macs s.ptp cap s.recd s.clk
    s.spur s.tack s.boot) := h.upd hm fun p hp => by
  cases p <;> first | rfl | exact absurd hp (by decide)

theorem Within.set_recd {recd} (h : Within m z s) (hm : Sub 16777216 m) : Within m z (State.mk s.pending s.now s.fresh s.regs
    s.fcp s.evq s.win s.cle s.ports s.pwm s.coef s.trace s.obs s.adc s.sd s.gl s.pair s.stw s.hlp s.fio s.tb s.macs s.ptp s.cap recd
    s.clk s.spur s.tack s.boot) := h.upd hm fun p hp => by
  cases p <;> first | rfl | exact absurd hp (by decide)

theorem Within.set_clk {clk} (h : Within m z s) (hm : Sub 33554432 m) : Within m z (State.mk s.pending s.now s.fresh s.regs
    s.fcp s.evq s.win s.cle s.ports s.pwm s.coef s.trace s.obs s.adc s.sd s.gl s.pair s.stw s.hlp s.fio s.tb s.macs s.ptp s.cap
    s.recd clk s.spur s.tack s.boot) := h.upd hm fun p hp => by
  cases p <;> first | rfl | exact absurd hp (by decide)

theorem Within.set_spur {spur} (h : Within m z s) (hm : Sub 67108864 m) : Within m z (State.mk s.pending s.now s.fresh s.regs
    s.fcp s.evq s.win s.cle s.ports s.pwm s.coef s.trace s.obs s.adc s.sd s.gl s.pair s.stw s.hlp s.fio s.tb s.macs s.ptp s.cap
    s.recd s.clk spur s.tack s.boot) := h.upd hm fun p hp => by
  cases p <;> first | rfl | exact absurd hp (by decide)

theorem Within.set_tack_boot {tack boot} (h : Within m z s) (hm : Sub 402653184 m) : Within m z (State.mk s.pending s.now
    s.fresh s.regs s.fcp s.evq s.win s.cle s.ports s.pwm s.coef s.trace s.obs s.adc s.sd s.gl s.pair s.stw s.hlp s.fio s.tb s.macs
    s.ptp s.cap s.recd s.clk s.spur tack boot) := h.upd hm fun p hp => by
  cases p <;> first | rfl | exact absurd hp (by decide)

theorem Within.set_boot {boot} (h : Within m z s) (hm : Sub 268435456 m) : Within m z (State.mk s.pending s.now s.fresh s.regs
    s.fcp s.evq s.win s.cle s.ports s.pwm s.coef s.trace s.obs s.adc s.sd s.gl s.pair s.stw s.hlp s.fio s.tb s.macs s.ptp s.cap
    s.recd s.clk s.spur s.tack boot) := h.upd hm fun p hp => by
  cases p <;> first | rfl | exact absurd hp (by decide)

end Sys2Proof.Machine
end

