-- ==== Sys2Proof/Laws/Frame0.lean ====
section
/-!
SUPPORT. What the operations and the meanings of these files of Machine change (see Laws/Frame):
Ops, ResetOps, StwOps, ClkOps, Adc, SigmaDelta, PwmCore, Trace0, CleRead, CleFam, Cle, TimeOps, Port, Steward, GateLink.
-/
namespace Sys2Proof.Machine

set_option linter.unusedTactic false
set_option linter.unreachableTactic false

variable {m : Nat} {z s : State}

theorem State.setReg_in (h : Within m z s) (hm : Sub 8 m) (r) (i) (w) : Within m z (State.setReg s r i w) := by
  unfold State.setReg
  with_reducible repeat' first | assumption | (apply Within.set_regs; first | assumption) | intro _ | split
  all_goals exact hm.of (by decide)

theorem State.setFld_in (h : Within m z s) (hm : Sub 8 m) (f) (i) (v) : Within m z (State.setFld s f i v) := by
  unfold State.setFld
  with_reducible repeat' first | assumption | (apply Within.set_regs; first | assumption) | intro _ | split
  all_goals exact hm.of (by decide)

theorem State.setFlag_in (h : Within m z s) (hm : Sub 8 m) (f) (i) (b) : Within m z (State.setFlag s f i b) := by
  unfold State.setFlag
  with_reducible repeat' first | assumption | apply State.setFld_in | intro _ | split
  all_goals exact hm.of (by decide)

theorem State.countN_in (h : Within m z s) (hm : Sub 8 m) (f) (i) (k0) : Within m z (State.countN s f i k0) := by
  unfold State.countN
  with_reducible repeat' first | assumption | apply State.setFld_in | intro _ | split
  all_goals exact hm.of (by decide)

theorem State.count_in (h : Within m z s) (hm : Sub 8 m) (f) (i) : Within m z (State.count s f i) := by
  unfold State.count
  with_reducible repeat' first | assumption | apply State.countN_in | intro _ | split
  all_goals exact hm.of (by decide)

theorem State.forUnits_in {n : Nat} {f : State → Nat → State} (h : Within m z s) (hm : Sub 0 m) (hf : ∀ t i, Within m z t → Within m z (f t i)) :
    Within m z (s.forUnits n f) := foldl_in _ h hf

theorem State.cond_in {b : Bool} {f : State → State} (h : Within m z s) (hm : Sub 0 m) (hf : ∀ t, Within m z t → Within m z (f t)) :
    Within m z (s.cond b f) := by
  unfold State.cond; split
  · exact hf s h
  · exact h

theorem State.elapse_in (h : Within m z s) (hm : Sub 1048578 m) (d) : Within m z (State.elapse s d) := by
  unfold State.elapse
  with_reducible repeat' first | assumption | (apply Within.set_now_tb; first | assumption) | intro _ | split
  all_goals exact hm.of (by decide)

theorem State.bump_in (h : Within m z s) (hm : Sub 4 m) : Within m z (State.bump s) := by
  unfold State.bump
  with_reducible repeat' first | assumption | (apply Within.set_fresh; first | assumption) | intro _ | split
  all_goals exact hm.of (by decide)

theorem State.modTr_in (h : Within m z s) (hm : Sub 2048 m) (c) (f) : Within m z (State.modTr s c f) := by
  unfold State.modTr
  with_reducible repeat' first | assumption | (apply Within.set_trace; first | assumption) | intro _ | split
  all_goals exact hm.of (by decide)

theorem State.trTrigger_in (h : Within m z s) (hm : Sub 2056 m) (c) : Within m z (State.trTrigger s c) := by
  unfold State.trTrigger
  with_reducible repeat' first | assumption | apply State.modTr_in | apply State.setFld_in | apply within_ite | intro _ | split
  all_goals exact hm.of (by decide)

theorem State.trFire_in (h : Within m z s) (hm : Sub 2056 m) (src) (ok) : Within m z (State.trFire s src ok) := by
  unfold State.trFire
  with_reducible repeat' first | assumption | apply State.forUnits_in | apply State.trTrigger_in | apply within_ite | intro _ | split | dsimp only
  all_goals exact hm.of (by decide)

theorem State.portMoved_in (h : Within m z s) (hm : Sub 8390664 m) : Within m z (State.portMoved s) := by
  unfold State.portMoved
  with_reducible repeat' first | assumption | apply State.trFire_in | apply within_ite | (apply Within.set_cap; first | assumption | apply State.trFire_in | apply within_ite) | intro _ | split | dsimp only
  all_goals exact hm.of (by decide)

theorem State.postAs_in (h : Within m z s) (hm : Sub 16779304 m) (island) (code) (unit) (data) : Within m z (State.postAs s island code unit data) := by
  unfold State.postAs
  with_reducible repeat' first | assumption | apply State.cond_in | apply State.count_in | apply State.setFld_in | apply State.trFire_in | apply within_ite | (apply Within.set_evq; first | assumption | apply State.cond_in | apply State.count_in | apply State.setFld_in | apply State.trFire_in | apply within_ite) | (apply Within.set_recd; first | assumption | apply State.cond_in | apply State.count_in | apply State.setFld_in | apply State.trFire_in | apply within_ite) | intro _ | split | dsimp only
  all_goals exact hm.of (by decide)

theorem State.post_in (h : Within m z s) (hm : Sub 16779304 m) (code) (unit) (data) : Within m z (State.post s code unit data) := by
  unfold State.post
  with_reducible repeat' first | assumption | apply State.postAs_in | apply within_ite | intro _ | split | dsimp only
  all_goals exact hm.of (by decide)

theorem State.postAct_in (h : Within m z s) (hm : Sub 16779304 m) (up) : Within m z (State.postAct s up) := by
  unfold State.postAct
  with_reducible repeat' first | assumption | apply State.postAs_in | apply within_ite | intro _ | split | dsimp only
  all_goals exact hm.of (by decide)

theorem State.box_in (h : Within m z s) (hm : Sub 16 m) (m0) (f) : Within m z (State.box s m0 f) := by
  unfold State.box
  with_reducible repeat' first | assumption | (apply Within.set_fcp; first | assumption) | intro _ | split
  all_goals exact hm.of (by decide)

theorem State.ordinary_in (h : Within m z s) (hm : Sub 2097168 m) (m0) (l) : Within m z (State.ordinary s m0 l) := by
  unfold State.ordinary
  with_reducible repeat' first | assumption | apply State.box_in | apply within_ite | (apply Within.set_macs; first | assumption | apply State.box_in | apply within_ite) | intro _ | split | dsimp only
  all_goals exact hm.of (by decide)

theorem State.emit_in (h : Within m z s) (hm : Sub 2097168 m) (m0) (msg) : Within m z (State.emit s m0 msg) := by
  unfold State.emit
  with_reducible repeat' first | assumption | apply State.ordinary_in | apply State.box_in | apply within_ite | intro _ | split | dsimp only
  all_goals exact hm.of (by decide)

theorem State.place_in (h : Within m z s) (hm : Sub 2097168 m) (e) (h0) (pay) : Within m z (State.place s e h0 pay) := by
  unfold State.place
  with_reducible repeat' first | assumption | apply State.box_in | apply State.emit_in | apply within_ite | (apply Within.set_fcp; first | assumption | apply State.box_in | apply State.emit_in | apply within_ite) | intro _ | split | dsimp only
  all_goals exact hm.of (by decide)

theorem State.completeEntry_in (h : Within m z s) (hm : Sub 2097168 m) (e) (status) (pnum) (res) (pay) : Within m z (State.completeEntry s e status pnum res pay) := by
  unfold State.completeEntry
  with_reducible repeat' first | assumption | apply State.place_in | (apply Within.set_fcp; first | assumption | apply State.place_in) | intro _ | split
  all_goals exact hm.of (by decide)

theorem State.settle_in (n : Nat) (h : Within m z s) (hm : Sub 2097168 m) : Within m z (State.settle n s) := by
  induction n generalizing s with
  | zero => exact h
  | succ n ih =>
    rw [State.settle]; split
    · exact h
    · exact ih (completeEntry_in h hm _ _ _ _ _)

theorem State.complete_in (h : Within m z s) (hm : Sub 2097168 m) (tag) (status) (pnum) (res) (pay) : Within m z (State.complete s tag status pnum res pay) := by
  unfold State.complete
  with_reducible repeat' first | assumption | apply State.settle_in | apply State.completeEntry_in | apply within_ite | (apply Within.set_fcp; first | assumption | apply State.settle_in | apply State.completeEntry_in | apply within_ite) | intro _ | split | dsimp only
  all_goals exact hm.of (by decide)

theorem State.done_in (h : Within m z s) (hm : Sub 2097168 m) (tag) (status) : Within m z (State.done s tag status) := by
  unfold State.done
  with_reducible repeat' first | assumption | apply State.complete_in | intro _ | split
  all_goals exact hm.of (by decide)

theorem State.doneAt_in (h : Within m z s) (hm : Sub 2097168 m) (tag) (status) : Within m z (State.doneAt s tag status) := by
  unfold State.doneAt
  with_reducible repeat' first | assumption | apply State.complete_in | intro _ | split
  all_goals exact hm.of (by decide)

theorem State.start_in (h : Within m z s) (hm : Sub 16 m) (tag) : Within m z (State.start s tag) := by
  unfold State.start
  with_reducible repeat' first | assumption | apply within_ite | (apply Within.set_fcp; first | assumption | apply within_ite) | intro _ | split
  all_goals exact hm.of (by decide)

theorem serve_in {op tag : Nat} {k : Entry → State} (h : Within m z s) (hm : Sub 2097168 m) (hk : ∀ e, Within m z (k e)) : Nexts m z (serve op tag s k) := by
  unfold serve; split
  · exact .next h
  · refine .next ?_
    split
    · exact State.done_in h hm _ _
    · exact hk _

theorem State.modPort_in (h : Within m z s) (hm : Sub 256 m) (p) (f) : Within m z (State.modPort s p f) := by
  unfold State.modPort
  with_reducible repeat' first | assumption | (apply Within.set_ports; first | assumption) | intro _ | split
  all_goals exact hm.of (by decide)

theorem State.raise_in (h : Within m z s) (hm : Sub 256 m) (p) (c) : Within m z (State.raise s p c) := by
  unfold State.raise
  with_reducible repeat' first | assumption | apply State.modPort_in | intro _ | split
  all_goals exact hm.of (by decide)

theorem State.raiseLeg_in (h : Within m z s) (hm : Sub 256 m) (n) (c) : Within m z (State.raiseLeg s n c) := by
  unfold State.raiseLeg
  with_reducible repeat' first | assumption | apply State.raise_in | apply within_ite | intro _ | split
  all_goals exact hm.of (by decide)

theorem State.modPair_in (h : Within m z s) (hm : Sub 65536 m) (f) : Within m z (State.modPair s f) := by
  unfold State.modPair
  with_reducible repeat' first | assumption | (apply Within.set_pair; first | assumption) | intro _ | split
  all_goals exact hm.of (by decide)

theorem State.modLane_in (h : Within m z s) (hm : Sub 32768 m) (l) (f) : Within m z (State.modLane s l f) := by
  unfold State.modLane
  with_reducible repeat' first | assumption | (apply Within.set_gl; first | assumption) | intro _ | split
  all_goals exact hm.of (by decide)

theorem State.haltStarts_in (h : Within m z s) (hm : Sub 16812072 m) (l) (tag) (codes) (start) : Within m z (State.haltStarts s l tag codes start) := by
  unfold State.haltStarts
  with_reducible repeat' first | assumption | apply State.modLane_in | apply State.count_in | apply State.post_in | apply within_ite | (apply Within.set_gl; first | assumption | apply State.modLane_in | apply State.count_in | apply State.post_in | apply within_ite) | intro _ | split | dsimp only
  all_goals exact hm.of (by decide)

theorem State.haltMerges_in (h : Within m z s) (hm : Sub 32768 m) (l) (h0) (codes) : Within m z (State.haltMerges s l h0 codes) := by
  unfold State.haltMerges
  with_reducible repeat' first | assumption | apply within_ite | (apply Within.set_gl; first | assumption | apply within_ite) | intro _ | split | dsimp only
  all_goals exact hm.of (by decide)

theorem State.haltLane_in (h : Within m z s) (hm : Sub 16812072 m) (l) (tag) (codes) : Within m z (State.haltLane s l tag codes) := by
  unfold State.haltLane
  with_reducible repeat' first | assumption | apply State.modLane_in | apply State.haltStarts_in | apply State.haltMerges_in | apply within_ite | intro _ | split | dsimp only
  all_goals exact hm.of (by decide)

theorem State.haltAll_in (h : Within m z s) (hm : Sub 16812072 m) : Within m z (State.haltAll s) := by
  unfold State.haltAll
  with_reducible repeat' first | assumption | apply State.forUnits_in | apply State.haltLane_in | apply within_ite | intro _ | split | dsimp only
  all_goals exact hm.of (by decide)

theorem State.modBoot_in (h : Within m z s) (hm : Sub 268435456 m) (f) : Within m z (State.modBoot s f) := by
  unfold State.modBoot
  with_reducible repeat' first | assumption | (apply Within.set_boot; first | assumption) | intro _ | split
  all_goals exact hm.of (by decide)

theorem State.coldReset_in (h : Within m z s) (hm : Sub 536870904 m) : Within m z (State.coldReset s) :=
  h.upd hm fun p hp => by cases p <;> first | rfl | exact absurd hp (by decide)

theorem State.systemReset_in (h : Within m z s) (hm : Sub 536870904 m) : Within m z (State.systemReset s) := by
  have hc := coldReset_in h hm
  unfold State.systemReset
  generalize s.coldReset = f at hc ⊢
  refine foldl_in _ (setFlag_in ?_ (hm.of (by decide)) _ _ _) fun t x ht => setFld_in ht (hm.of (by decide)) _ _ _
  refine Within.upd hc hm fun p hp => ?_
  cases p <;> first | exact absurd hp (by decide) | simp only [Part.same]

theorem State.spurStop_in (h : Within m z s) (hm : Sub 83888168 m) (reason) : Within m z (State.spurStop s reason) := by
  unfold State.spurStop
  with_reducible repeat' first | assumption | apply State.setFld_in | apply State.post_in | apply foldl_in | apply within_ite | (apply Within.set_spur; first | assumption | apply State.setFld_in | apply State.post_in | apply foldl_in | apply within_ite) | intro _ | split
  all_goals exact hm.of (by decide)

theorem State.noteSrc_in (h : Within m z s) (hm : Sub 268435456 m) (src) : Within m z (State.noteSrc s src) := by
  unfold State.noteSrc
  with_reducible repeat' first | assumption | apply State.modBoot_in | apply within_ite | intro _ | split | dsimp only
  all_goals exact hm.of (by decide)

theorem State.islandFalls_in (h : Within m z s) (hm : Sub 16779304 m) (was : State) : Within m z (State.islandFalls s was) := by
  unfold State.islandFalls
  with_reducible repeat' first | assumption | apply State.cond_in | apply State.postAct_in | apply State.post_in | apply within_ite | intro _ | split | dsimp only
  all_goals exact hm.of (by decide)

theorem State.assertReset_in (h : Within m z s) (hm : Sub 536870904 m) (reach) (src) : Within m z (State.assertReset s reach src) := by
  have hs := spurStop_in h (hm.of (by decide)) 3
  have hb : Sub 268435456 m := hm.of (by decide)
  unfold State.assertReset
  dsimp only
  split
  · refine modBoot_in ?_ hb _
    split
    · exact coldReset_in hs (hm.of (by decide))
    · exact islandFalls_in (systemReset_in hs (hm.of (by decide))) (hm.of (by decide)) _
  · split
    · exact noteSrc_in (modBoot_in (coldReset_in hs (hm.of (by decide))) hb _) hb _
    · exact noteSrc_in (modBoot_in hs hb _) hb _

theorem State.guarded_in (h : Within m z s) (hm : Sub 8 m) (p) (off) (wr) {f} (hf : ∀ t, Within m z t → Within m z (f t)) :
    Within m z (State.guarded s p off wr f) := by
  unfold State.guarded
  split
  · exact hf s h
  · exact h
  · exact count_in h hm _ _

theorem State.setUnclean_in (h : Within m z s) (hm : Sub 8 m) (b) (on) : Within m z (State.setUnclean s b on) := by
  unfold State.setUnclean
  with_reducible repeat' first | assumption | apply State.setFld_in | apply within_ite | intro _ | split
  all_goals exact hm.of (by decide)

theorem State.waitClk_in (h : Within m z s) (hm : Sub 8 m) : Within m z (State.waitClk s) := by
  unfold State.waitClk
  with_reducible repeat' first | assumption | apply State.setFlag_in | intro _ | split
  all_goals exact hm.of (by decide)

theorem State.releaseBlock_in (h : Within m z s) (hm : Sub 16779304 m) (b) (ev) : Within m z (State.releaseBlock s b ev) := by
  unfold State.releaseBlock
  with_reducible repeat' first | assumption | apply State.cond_in | apply State.setUnclean_in | apply State.post_in | intro _ | split
  all_goals exact hm.of (by decide)

theorem State.blockDone_in (h : Within m z s) (hm : Sub 285214760 m) (b) (idle) (src) : Within m z (State.blockDone s b idle src) := by
  unfold State.blockDone
  with_reducible repeat' first | assumption | apply State.setFlag_in | apply State.setFld_in | apply State.cond_in | apply State.count_in | apply State.releaseBlock_in | apply State.waitClk_in | apply State.modBoot_in | apply within_ite | intro _ | split
  all_goals exact hm.of (by decide)

theorem State.memErr_in (h : Within m z s) (hm : Sub 16779304 m) (m0) : Within m z (State.memErr s m0) := by
  unfold State.memErr
  with_reducible repeat' first | assumption | apply State.post_in | apply State.setFld_in | apply State.count_in | intro _ | split
  all_goals exact hm.of (by decide)

theorem State.ringPut_in (h : Within m z s) (hm : Sub 16777216 m) (r) : Within m z (State.ringPut s r) := by
  unfold State.ringPut
  with_reducible repeat' first | assumption | (apply Within.set_recd; first | assumption) | intro _ | split
  all_goals exact hm.of (by decide)

theorem State.ringOn_in (h : Within m z s) (hm : Sub 16777216 m) (cold) : Within m z (State.ringOn s cold) := by
  unfold State.ringOn
  with_reducible repeat' first | assumption | apply State.ringPut_in | (apply Within.set_recd; first | assumption | apply State.ringPut_in) | intro _ | split
  all_goals exact hm.of (by decide)

theorem State.deferReset_in (h : Within m z s) (hm : Sub 268435456 m) : Within m z (State.deferReset s) := by
  unfold State.deferReset
  with_reducible repeat' first | assumption | apply State.modBoot_in | intro _ | split
  all_goals exact hm.of (by decide)

theorem State.modStw_in (h : Within m z s) (hm : Sub 131072 m) (f) : Within m z (State.modStw s f) := by
  unfold State.modStw
  with_reducible repeat' first | assumption | (apply Within.set_stw; first | assumption) | intro _ | split
  all_goals exact hm.of (by decide)

theorem State.applyRelease_in (h : Within m z s) (hm : Sub 8 m) : Within m z (State.applyRelease s) := by
  unfold State.applyRelease
  with_reducible repeat' first | assumption | apply State.setFld_in | intro _ | split
  all_goals exact hm.of (by decide)

theorem State.toStw_in (h : Within m z s) (hm : Sub 83888168 m) (n) : Within m z (State.toStw s n) := by
  unfold State.toStw
  with_reducible repeat' first | assumption | apply State.applyRelease_in | apply State.post_in | apply State.setFld_in | apply State.cond_in | apply State.spurStop_in | apply within_ite | intro _ | split
  all_goals exact hm.of (by decide)

theorem State.releaseAct_in (h : Within m z s) (hm : Sub 16844840 m) : Within m z (State.releaseAct s) := by
  unfold State.releaseAct
  with_reducible repeat' first | assumption | apply State.setFlag_in | apply State.postAct_in | apply within_ite | (apply Within.set_pair; first | assumption | apply State.setFlag_in | apply State.postAct_in | apply within_ite) | intro _ | split | dsimp only
  all_goals exact hm.of (by decide)

theorem State.raiseAll_in (h : Within m z s) (hm : Sub 256 m) (c) : Within m z (State.raiseAll s c) := by
  unfold State.raiseAll
  with_reducible repeat' first | assumption | apply State.forUnits_in | apply State.raise_in | apply within_ite | intro _ | split
  all_goals exact hm.of (by decide)

theorem State.srsRegs_in (h : Within m z s) (hm : Sub 8 m) : Within m z (State.srsRegs s) := by
  unfold State.srsRegs
  with_reducible repeat' first | assumption | apply State.setFld_in | apply State.setFlag_in | intro _ | split
  all_goals exact hm.of (by decide)

theorem State.removeGates_in (h : Within m z s) (hm : Sub 84052264 m) : Within m z (State.removeGates s) := by
  unfold State.removeGates
  with_reducible repeat' first | assumption | apply State.modStw_in | apply State.srsRegs_in | apply State.raiseAll_in | apply State.sgr_in | apply State.haltAll_in | apply State.setFlag_in | apply within_ite | intro _ | split | dsimp only
  all_goals exact hm.of (by decide)

theorem State.sgr_in (h : Within m z s) (hm : Sub 84052264 m) : Within m z (State.sgr s) := by
  unfold State.sgr
  with_reducible repeat' first | assumption | apply State.modStw_in | apply State.count_in | apply State.toStw_in | apply State.removeGates_in | apply within_ite | intro _ | split | dsimp only
  all_goals exact hm.of (by decide)

theorem State.localInhibit_in (h : Within m z s) (hm : Sub 84019240 m) : Within m z (State.localInhibit s) := by
  unfold State.localInhibit
  with_reducible repeat' first | assumption | apply State.toStw_in | apply State.count_in | apply State.modStw_in | intro _ | split
  all_goals exact hm.of (by decide)

theorem State.srsStart_in (h : Within m z s) (hm : Sub 84052264 m) (mask) (cl) : Within m z (State.srsStart s mask cl) := by
  unfold State.srsStart
  with_reducible repeat' first | assumption | apply State.raise_in | apply State.modPort_in | apply State.sgr_in | apply State.modStw_in | apply State.count_in | apply State.srsRegs_in | apply foldl_in | apply within_ite | intro _ | split | dsimp only
  all_goals exact hm.of (by decide)

theorem State.reaction_ne (s : State) (c : Nat) (srs : Bool) (hc : causeClass c ≠ 4) : s.reaction c srs ≠ 5 := by
  simp only [State.reaction, State.reactionOf, if_neg hc]
  repeat' split
  all_goals decide

theorem State.react_in (h : Within m z s) (hm : Sub 84117800 m) (r) (mask) (cl) (hr : r ≠ 5) : Within m z (State.react s r mask cl) := by
  unfold State.react
  with_reducible repeat' first | assumption | exact absurd rfl hr | apply State.localInhibit_in | apply State.releaseAct_in | apply State.srsStart_in | apply State.sgr_in | intro _ | split
  all_goals exact hm.of (by decide)

theorem State.needPairs_in (h : Within m z s) (hm : Sub 131072 m) : Within m z (State.needPairs s) := by
  unfold State.needPairs
  with_reducible repeat' first | assumption | apply State.modStw_in | apply foldl_in | intro _ | split
  all_goals exact hm.of (by decide)

theorem State.causeWith_in (h : Within m z s) (hm : Sub 84117800 m) (c) (srs) (mask) (cl) (hc : causeClass c ≠ 4) : Within m z (State.causeWith s c srs mask cl) := by
  unfold State.causeWith
  with_reducible repeat' first | assumption | exact State.reaction_ne _ _ _ hc | apply State.cond_in | apply State.setFld_in | apply State.modStw_in | apply State.count_in | apply State.needPairs_in | apply State.post_in | apply State.react_in | apply within_ite | intro _ | split | dsimp only
  all_goals exact hm.of (by decide)

theorem State.cause_in (h : Within m z s) (hm : Sub 84117800 m) (c) (hc : causeClass c ≠ 4) : Within m z (State.cause s c) := by
  unfold State.cause
  with_reducible repeat' first | assumption | decide | apply State.causeWith_in | apply within_ite | intro _ | split | dsimp only
  all_goals exact hm.of (by decide)

theorem State.setActive_in (h : Within m z s) (hm : Sub 131072 m) (c) (b) : Within m z (State.setActive s c b) := by
  unfold State.setActive
  with_reducible repeat' first | assumption | apply State.needPairs_in | apply State.modStw_in | apply within_ite | intro _ | split
  all_goals exact hm.of (by decide)

/-- A cause of any class, one that resets the System among them. -/
theorem State.causeAny_in (h : Within m z s) (hm : Sub 536870904 m) (c) : Within m z (State.cause s c) := by
  unfold State.cause State.causeWith State.react
  with_reducible repeat' first | assumption | apply State.cond_in | apply State.setFld_in | apply State.modStw_in | apply State.count_in | apply State.needPairs_in | apply State.post_in | apply State.localInhibit_in | apply State.releaseAct_in | apply State.srsStart_in | apply State.sgr_in | apply State.assertReset_in | apply State.toStw_in | intro _ | split | dsimp only
  all_goals exact hm.of (by decide)

theorem State.causeOn_in (h : Within m z s) (hm : Sub 84117800 m) (c) (on) (hc : causeClass c ≠ 4) : Within m z (State.causeOn s c on) := by
  unfold State.causeOn
  with_reducible repeat' first | assumption | decide | apply State.cause_in | apply State.setActive_in | apply within_ite | intro _ | split | dsimp only
  all_goals exact hm.of (by decide)

theorem State.srsRequest_in (h : Within m z s) (hm : Sub 84117800 m) (mask) (cl) : Within m z (State.srsRequest s mask cl) := by
  unfold State.srsRequest
  with_reducible repeat' first | assumption | decide | apply State.causeWith_in | apply within_ite | intro _ | split | dsimp only
  all_goals exact hm.of (by decide)

theorem State.modClk_in (h : Within m z s) (hm : Sub 33554432 m) (f) : Within m z (State.modClk s f) := by
  unfold State.modClk
  with_reducible repeat' first | assumption | (apply Within.set_clk; first | assumption) | intro _ | split
  all_goals exact hm.of (by decide)

theorem State.setAttempt_in (h : Within m z s) (hm : Sub 33554432 m) (p) (a) : Within m z (State.setAttempt s p a) := by
  unfold State.setAttempt
  with_reducible repeat' first | assumption | apply State.modClk_in | intro _ | split
  all_goals exact hm.of (by decide)

theorem State.startAttempt_in (h : Within m z s) (hm : Sub 33554432 m) (p) (temp) : Within m z (State.startAttempt s p temp) := by
  unfold State.startAttempt
  with_reducible repeat' first | assumption | apply State.setAttempt_in | intro _ | split
  all_goals exact hm.of (by decide)

theorem State.startPlls_in (h : Within m z s) (hm : Sub 33554432 m) : Within m z (State.startPlls s) := by
  unfold State.startPlls
  with_reducible repeat' first | assumption | apply State.forUnits_in | apply State.startAttempt_in | apply within_ite | intro _ | split
  all_goals exact hm.of (by decide)

theorem State.startWake_in (h : Within m z s) (hm : Sub 33554432 m) : Within m z (State.startWake s) := by
  unfold State.startWake
  with_reducible repeat' first | assumption | apply State.cond_in | apply State.modClk_in | apply State.startPlls_in | intro _ | split
  all_goals exact hm.of (by decide)

theorem State.stopPlls_in (h : Within m z s) (hm : Sub 33554440 m) : Within m z (State.stopPlls s) := by
  unfold State.stopPlls
  with_reducible repeat' first | assumption | apply State.modClk_in | apply State.forUnits_in | apply State.setFlag_in | intro _ | split
  all_goals exact hm.of (by decide)

theorem State.clkBit_in (h : Within m z s) (hm : Sub 8 m) (d) (on) : Within m z (State.clkBit s d on) := by
  unfold State.clkBit
  with_reducible repeat' first | assumption | apply State.setFld_in | apply within_ite | intro _ | split
  all_goals exact hm.of (by decide)

theorem State.leaveLimp_in (h : Within m z s) (hm : Sub 8 m) : Within m z (State.leaveLimp s) := by
  unfold State.leaveLimp
  with_reducible repeat' first | assumption | apply State.setFlag_in | intro _ | split
  all_goals exact hm.of (by decide)

theorem State.modCore_in (h : Within m z s) (hm : Sub 8192 m) (c) (f) : Within m z (State.modCore s c f) := by
  unfold State.modCore
  with_reducible repeat' first | assumption | (apply Within.set_adc; first | assumption) | intro _ | split
  all_goals exact hm.of (by decide)

theorem State.coreStat_in (h : Within m z s) (hm : Sub 8 m) (c) : Within m z (State.coreStat s c) := by
  unfold State.coreStat
  with_reducible repeat' first | assumption | apply State.setFlag_in | apply within_ite | intro _ | split | dsimp only
  all_goals exact hm.of (by decide)

theorem State.setVin_in (h : Within m z s) (hm : Sub 8192 m) (n) (nv) : Within m z (State.setVin s n nv) := by
  unfold State.setVin
  with_reducible repeat' first | assumption | apply within_ite | (apply Within.set_adc; first | assumption | apply within_ite) | intro _ | split | dsimp only
  all_goals exact hm.of (by decide)

theorem State.hold_in (h : Within m z s) (hm : Sub 8200 m) (c) (input) (int) (src) (cle) (nv) : Within m z (State.hold s c input int src cle nv) := by
  unfold State.hold
  with_reducible repeat' first | assumption | apply State.cond_in | apply State.setVin_in | apply State.modCore_in | apply State.coreStat_in | apply within_ite | intro _ | split | dsimp only
  all_goals exact hm.of (by decide)

theorem State.seqMiss_in (h : Within m z s) (hm : Sub 16779304 m) (c) (e) : Within m z (State.seqMiss s c e) := by
  unfold State.seqMiss
  with_reducible repeat' first | assumption | apply State.post_in | apply State.count_in | apply State.cond_in | apply State.setFlag_in | intro _ | split
  all_goals exact hm.of (by decide)

theorem execHoldEdge_in (h : Within m z s) (hm : Sub 16787496 m) (core) (entry) (nv) : Nexts m z (execHoldEdge core entry nv s) := by
  unfold execHoldEdge
  with_reducible repeat' first | assumption | apply Nexts.next | apply nexts_ite | apply State.seqMiss_in | apply State.hold_in | apply within_ite | intro _ | split | dsimp only
  all_goals exact hm.of (by decide)

theorem State.deliver_in (h : Within m z s) (hm : Sub 8200 m) (c) (v) : Within m z (State.deliver s c v) := by
  unfold State.deliver
  with_reducible repeat' first | assumption | apply State.setFld_in | apply State.setFlag_in | apply State.cond_in | (apply Within.set_adc; first | assumption | apply State.setFld_in | apply State.setFlag_in | apply State.cond_in) | intro _ | split
  all_goals exact hm.of (by decide)

theorem State.freeRun_in (h : Within m z s) (hm : Sub 8200 m) (c) (nv) : Within m z (State.freeRun s c nv) := by
  unfold State.freeRun
  with_reducible repeat' first | assumption | apply State.hold_in | apply within_ite | intro _ | split | dsimp only
  all_goals exact hm.of (by decide)

theorem State.urgent_in (h : Within m z s) (hm : Sub 8200 m) (c) (input) (int) (src) : Within m z (State.urgent s c input int src) := by
  unfold State.urgent
  with_reducible repeat' first | assumption | apply State.count_in | apply State.modCore_in | apply within_ite | intro _ | split | dsimp only
  all_goals exact hm.of (by decide)

theorem execUrgentHoldEdge_in (h : Within m z s) (hm : Sub 8200 m) (core) (nv) : Nexts m z (execUrgentHoldEdge core nv s) := by
  unfold execUrgentHoldEdge
  with_reducible repeat' first | assumption | apply Nexts.next | apply nexts_ite | apply State.modCore_in | apply State.hold_in | apply within_ite | intro _ | split | dsimp only
  all_goals exact hm.of (by decide)

theorem execRefFault_in (h : Within m z s) (hm : Sub 84117800 m) : Nexts m z (execRefFault s) := by
  unfold execRefFault
  with_reducible repeat' first | assumption | decide | apply Nexts.next | apply nexts_ite | apply State.cause_in | apply State.setActive_in | apply State.post_in | apply State.setFlag_in | apply within_ite | intro _ | split | dsimp only
  all_goals exact hm.of (by decide)

theorem execRefFaultClear_in (h : Within m z s) (hm : Sub 131080 m) : Nexts m z (execRefFaultClear s) := by
  unfold execRefFaultClear
  with_reducible repeat' first | assumption | apply Nexts.next | apply nexts_ite | apply State.setActive_in | apply State.setFlag_in | intro _ | split
  all_goals exact hm.of (by decide)

theorem execOffsetCalibrationDone_in (h : Within m z s) (hm : Sub 8 m) : Nexts m z (execOffsetCalibrationDone s) := by
  unfold execOffsetCalibrationDone
  with_reducible repeat' first | assumption | apply Nexts.next | apply nexts_ite | apply State.setFlag_in | intro _ | split
  all_goals exact hm.of (by decide)

theorem State.markFresh_in (h : Within m z s) (hm : Sub 8192 m) (n) : Within m z (State.markFresh s n) := by
  unfold State.markFresh
  with_reducible repeat' first | assumption | apply within_ite | (apply Within.set_adc; first | assumption | apply within_ite) | intro _ | split | dsimp only
  all_goals exact hm.of (by decide)

theorem State.loadThr_in (h : Within m z s) (hm : Sub 8200 m) (n) (hi) (lo) : Within m z (State.loadThr s n hi lo) := by
  unfold State.loadThr
  with_reducible repeat' first | assumption | apply State.setFld_in | apply State.cond_in | apply State.setFlag_in | apply State.markFresh_in | apply within_ite | intro _ | split | dsimp only
  all_goals exact hm.of (by decide)

theorem State.loadCeiling_in (h : Within m z s) (hm : Sub 8200 m) (n) : Within m z (State.loadCeiling s n) := by
  unfold State.loadCeiling
  with_reducible repeat' first | assumption | apply State.loadThr_in | intro _ | split
  all_goals exact hm.of (by decide)

theorem State.modSd_in (h : Within m z s) (hm : Sub 16384 m) (i) (f) : Within m z (State.modSd s i f) := by
  unfold State.modSd
  with_reducible repeat' first | assumption | (apply Within.set_sd; first | assumption) | intro _ | split
  all_goals exact hm.of (by decide)

theorem State.makeProf_in (h : Within m z s) (hm : Sub 16384 m) (k) : Within m z (State.makeProf s k) := by
  unfold State.makeProf
  with_reducible repeat' first | assumption | apply within_ite | (apply Within.set_sd; first | assumption | apply within_ite) | intro _ | split | dsimp only
  all_goals exact hm.of (by decide)

theorem State.sdRestart_in (h : Within m z s) (hm : Sub 16392 m) (t0) (i) : Within m z (State.sdRestart s t0 i) := by
  unfold State.sdRestart
  with_reducible repeat' first | assumption | apply State.modSd_in | apply State.cond_in | apply State.count_in | apply within_ite | (apply Within.set_sd; first | assumption | apply State.modSd_in | apply State.cond_in | apply State.count_in | apply within_ite) | intro _ | split | dsimp only
  all_goals exact hm.of (by decide)

theorem State.sdRestartAll_in (h : Within m z s) (hm : Sub 16392 m) (t0) : Within m z (State.sdRestartAll s t0) := by
  unfold State.sdRestartAll
  with_reducible repeat' first | assumption | apply State.forUnits_in | apply State.sdRestart_in | apply within_ite | intro _ | split | dsimp only
  all_goals exact hm.of (by decide)

theorem State.sdClkFlag_in (h : Within m z s) (hm : Sub 16779304 m) (f) (g) (bits) : Within m z (State.sdClkFlag s f g bits) := by
  unfold State.sdClkFlag
  with_reducible repeat' first | assumption | apply State.post_in | apply State.setFlag_in | apply foldl_in | apply within_ite | intro _ | split
  all_goals exact hm.of (by decide)

theorem execSdClockLoss_in (h : Within m z s) (hm : Sub 16779304 m) (grp) : Nexts m z (execSdClockLoss grp s) := by
  unfold execSdClockLoss
  with_reducible repeat' first | assumption | apply Nexts.next | apply nexts_ite | apply State.sdClkFlag_in | apply within_ite | intro _ | split | dsimp only
  all_goals exact hm.of (by decide)

theorem execSdClockFreq_in (h : Within m z s) (hm : Sub 16779304 m) (grp) : Nexts m z (execSdClockFreq grp s) := by
  unfold execSdClockFreq
  with_reducible repeat' first | assumption | apply Nexts.next | apply nexts_ite | apply State.sdClkFlag_in | apply within_ite | intro _ | split | dsimp only
  all_goals exact hm.of (by decide)

theorem execSdClockClear_in (h : Within m z s) (hm : Sub 16392 m) (grp) : Nexts m z (execSdClockClear grp s) := by
  unfold execSdClockClear
  with_reducible repeat' first | assumption | apply Nexts.next | apply nexts_ite | apply State.forUnits_in | apply State.setFlag_in | apply State.sdRestart_in | apply within_ite | intro _ | split | dsimp only
  all_goals exact hm.of (by decide)

theorem execDecimatedOutput_in (h : Within m z s) (hm : Sub 16392 m) (inp) (bits) : Nexts m z (execDecimatedOutput inp bits s) := by
  unfold execDecimatedOutput
  with_reducible repeat' first | assumption | apply Nexts.next | apply nexts_ite | apply State.modSd_in | apply State.cond_in | apply State.count_in | apply within_ite | intro _ | split | dsimp only
  all_goals exact hm.of (by decide)

theorem State.sdDeliver_in (h : Within m z s) (hm : Sub 8 m) (i) : Within m z (State.sdDeliver s i) := by
  unfold State.sdDeliver
  with_reducible repeat' first | assumption | apply State.setFlag_in | apply State.setFld_in | apply foldl_in | apply within_ite | intro _ | split | dsimp only
  all_goals exact hm.of (by decide)

theorem execResampleDelivery_in (h : Within m z s) (hm : Sub 8 m) (inp) : Nexts m z (execResampleDelivery inp s) := by
  unfold execResampleDelivery
  with_reducible repeat' first | assumption | apply Nexts.next | apply nexts_ite | apply State.sdDeliver_in | intro _ | split
  all_goals exact hm.of (by decide)

theorem execSdsyncAccept_in (h : Within m z s) (hm : Sub 16795688 m) : Nexts m z (execSdsyncAccept s) := by
  unfold execSdsyncAccept
  with_reducible repeat' first | assumption | apply Nexts.next | apply nexts_ite | apply State.count_in | apply State.post_in | apply State.sdRestartAll_in | apply within_ite | intro _ | split | dsimp only
  all_goals exact hm.of (by decide)

theorem execProfileTileRewrite_in (h : Within m z s) (hm : Sub 17408 m) (prof) : Nexts m z (execProfileTileRewrite prof s) := by
  unfold execProfileTileRewrite
  with_reducible repeat' first | assumption | apply Nexts.next | apply nexts_ite | apply State.cond_in | apply State.makeProf_in | apply within_ite | (apply Within.set_coef_sd; first | assumption | apply Nexts.next | apply nexts_ite | apply State.cond_in | apply State.makeProf_in | apply within_ite) | intro _ | split | dsimp only
  all_goals exact hm.of (by decide)

theorem execSdSync_in (h : Within m z s) (hm : Sub 2097168 m) (tag) : Nexts m z (execSdSync tag s) := by
  unfold execSdSync
  with_reducible repeat' first | assumption | apply Nexts.next | apply nexts_ite | apply serve_in | apply State.done_in | apply State.start_in | apply within_ite | intro _ | split
  all_goals exact hm.of (by decide)

theorem State.sdSyncBoundary_in (h : Within m z s) (hm : Sub 2113560 m) : Within m z (State.sdSyncBoundary s) := by
  unfold State.sdSyncBoundary
  with_reducible repeat' first | assumption | apply State.sdRestartAll_in | apply State.doneAt_in | apply within_ite | intro _ | split | dsimp only
  all_goals exact hm.of (by decide)

theorem State.modLeg_in (h : Within m z s) (hm : Sub 512 m) (n) (f) : Within m z (State.modLeg s n f) := by
  unfold State.modLeg
  with_reducible repeat' first | assumption | (apply Within.set_pwm; first | assumption) | intro _ | split
  all_goals exact hm.of (by decide)

theorem State.modPwm_in (h : Within m z s) (hm : Sub 512 m) (f) : Within m z (State.modPwm s f) := by
  unfold State.modPwm
  with_reducible repeat' first | assumption | (apply Within.set_pwm; first | assumption) | intro _ | split
  all_goals exact hm.of (by decide)

theorem State.takeEdges_in (h : Within m z s) (hm : Sub 512 m) (n) (upto) : Within m z (State.takeEdges s n upto) := by
  unfold State.takeEdges
  with_reducible repeat' first | assumption | apply State.modLeg_in | apply within_ite | intro _ | split | dsimp only
  all_goals exact hm.of (by decide)

theorem State.legOff_in (h : Within m z s) (hm : Sub 512 m) (n) : Within m z (State.legOff s n) := by
  unfold State.legOff
  with_reducible repeat' first | assumption | apply State.modLeg_in | intro _ | split
  all_goals exact hm.of (by decide)

theorem State.haltLegs_in (h : Within m z s) (hm : Sub 16812072 m) (legs) (code) : Within m z (State.haltLegs s legs code) := by
  unfold State.haltLegs
  with_reducible repeat' first | assumption | apply State.forUnits_in | apply State.haltLane_in | apply foldl_in | apply within_ite | intro _ | split | dsimp only
  all_goals exact hm.of (by decide)

theorem State.refreshGroups_in (h : Within m z s) (hm : Sub 520 m) : Within m z (State.refreshGroups s) := by
  unfold State.refreshGroups
  with_reducible repeat' first | assumption | apply State.forUnits_in | apply State.setFlag_in | apply State.modPwm_in | intro _ | split
  all_goals exact hm.of (by decide)

theorem State.truncLeg_in (h : Within m z s) (hm : Sub 512 m) (n) (upper) : Within m z (State.truncLeg s n upper) := by
  unfold State.truncLeg
  with_reducible repeat' first | assumption | apply State.takeEdges_in | apply State.modLeg_in | apply within_ite | intro _ | split | dsimp only
  all_goals exact hm.of (by decide)

theorem State.obsCrossed_in (h : Within m z s) (hm : Sub 4096 m) (p) : Within m z (State.obsCrossed s p) := by
  unfold State.obsCrossed
  with_reducible repeat' first | assumption | apply within_ite | (apply Within.set_obs; first | assumption | apply within_ite) | intro _ | split | dsimp only
  all_goals exact hm.of (by decide)

theorem State.portHit_in (h : Within m z s) (hm : Sub 4360 m) (p) : Within m z (State.portHit s p) := by
  unfold State.portHit
  with_reducible repeat' first | assumption | apply State.cond_in | apply State.obsCrossed_in | apply State.modPort_in | apply State.count_in | apply State.setFlag_in | apply within_ite | intro _ | split | dsimp only
  all_goals exact hm.of (by decide)

theorem State.crossingActs_in (h : Within m z s) (hm : Sub 16816936 m) (n) (upper) : Within m z (State.crossingActs s n upper) := by
  unfold State.crossingActs
  with_reducible repeat' first | assumption | apply State.truncLeg_in | apply State.haltLegs_in | apply State.portHit_in | apply foldl_in | apply within_ite | intro _ | split | dsimp only
  all_goals exact hm.of (by decide)

theorem State.cmpRise_in (h : Within m z s) (hm : Sub 16816936 m) (n) (upper) : Within m z (State.cmpRise s n upper) := by
  unfold State.cmpRise
  with_reducible repeat' first | assumption | apply State.setFlag_in | apply State.count_in | apply State.crossingActs_in | apply State.refreshGroups_in | apply within_ite | intro _ | split | dsimp only
  all_goals exact hm.of (by decide)

theorem State.cmpNow_in (h : Within m z s) (hm : Sub 16816936 m) (n) : Within m z (State.cmpNow s n) := by
  unfold State.cmpNow
  with_reducible repeat' first | assumption | apply State.cond_in | apply State.cmpRise_in | apply within_ite | intro _ | split | dsimp only
  all_goals exact hm.of (by decide)

theorem State.cmpAfresh_in (h : Within m z s) (hm : Sub 16825128 m) : Within m z (State.cmpAfresh s) := by
  unfold State.cmpAfresh
  with_reducible repeat' first | assumption | apply State.cmpNow_in | apply State.refreshGroups_in | apply foldl_in | apply within_ite | (apply Within.set_adc; first | assumption | apply State.cmpNow_in | apply State.refreshGroups_in | apply foldl_in | apply within_ite) | intro _ | split | dsimp only
  all_goals exact hm.of (by decide)

theorem State.openBlanking_in (h : Within m z s) (hm : Sub 520 m) (f) : Within m z (State.openBlanking s f) := by
  unfold State.openBlanking
  with_reducible repeat' first | assumption | apply State.refreshGroups_in | apply State.modPwm_in | apply foldl_in | apply within_ite | intro _ | split
  all_goals exact hm.of (by decide)

theorem State.crossfire_in (h : Within m z s) (hm : Sub 84117800 m) (n) : Within m z (State.crossfire s n) := by
  unfold State.crossfire
  with_reducible repeat' first | assumption | decide | apply State.raiseLeg_in | apply State.cause_in | apply State.post_in | apply State.count_in | apply State.setFlag_in | apply within_ite | intro _ | split | dsimp only
  all_goals exact hm.of (by decide)

theorem State.endPeriodLeg_in (h : Within m z s) (hm : Sub 520 m) (n) (t) : Within m z (State.endPeriodLeg s n t) := by
  unfold State.endPeriodLeg
  with_reducible repeat' first | assumption | apply State.takeEdges_in | apply State.modLeg_in | apply State.cond_in | apply State.count_in | apply State.setFlag_in | apply within_ite | intro _ | split | dsimp only
  all_goals exact hm.of (by decide)

theorem State.formLeg_in (h : Within m z s) (hm : Sub 84118312 m) (n) (t) (W) : Within m z (State.formLeg s n t W) := by
  unfold State.formLeg
  with_reducible repeat' first | assumption | apply State.modLeg_in | apply State.setFld_in | apply State.setFlag_in | apply State.cond_in | apply State.countN_in | apply State.crossfire_in | apply within_ite | intro _ | split | dsimp only
  all_goals exact hm.of (by decide)

theorem State.lateLegs_in (h : Within m z s) (hm : Sub 8 m) (l) : Within m z (State.lateLegs s l) := by
  unfold State.lateLegs
  with_reducible repeat' first | assumption | apply State.setFlag_in | apply State.count_in | apply foldl_in | apply within_ite | intro _ | split | dsimp only
  all_goals exact hm.of (by decide)

theorem State.applyEnv_in (h : Within m z s) (hm : Sub 8712 m) (b) : Within m z (State.applyEnv s b) := by
  unfold State.applyEnv
  with_reducible repeat' first | assumption | apply State.modPwm_in | apply State.loadThr_in | apply foldl_in | apply within_ite | intro _ | split
  all_goals exact hm.of (by decide)

theorem State.noteBundle_in (h : Within m z s) (hm : Sub 256 m) (b) : Within m z (State.noteBundle s b) := by
  unfold State.noteBundle
  with_reducible repeat' first | assumption | apply within_ite | (apply Within.set_ports; first | assumption | apply within_ite) | intro _ | split | dsimp only
  all_goals exact hm.of (by decide)

theorem State.applyBundles_in (h : Within m z s) (hm : Sub 8968 m) (bs) : Within m z (State.applyBundles s bs) := by
  unfold State.applyBundles
  with_reducible repeat' first | assumption | apply State.setFld_in | apply State.modLeg_in | apply State.forUnits_in | apply State.setFlag_in | apply State.noteBundle_in | apply State.applyEnv_in | apply foldl_in | apply within_ite | intro _ | split | dsimp only
  all_goals exact hm.of (by decide)

theorem State.reloadBundles_in (h : Within m z s) (hm : Sub 16788264 m) (k0) : Within m z (State.reloadBundles s k0) := by
  unfold State.reloadBundles
  with_reducible repeat' first | assumption | apply State.modPwm_in | apply State.setFlag_in | apply State.applyBundles_in | apply State.cond_in | apply State.count_in | apply State.post_in | apply within_ite | intro _ | split | dsimp only
  all_goals exact hm.of (by decide)

theorem State.releaseLegs_in (h : Within m z s) (hm : Sub 520 m) : Within m z (State.releaseLegs s) := by
  unfold State.releaseLegs
  with_reducible repeat' first | assumption | apply State.forUnits_in | apply State.modLeg_in | apply State.setFlag_in | apply within_ite | intro _ | split
  all_goals exact hm.of (by decide)

theorem State.reloadDelayCode_in (h : Within m z s) (hm : Sub 8 m) : Within m z (State.reloadDelayCode s) := by
  unfold State.reloadDelayCode
  with_reducible repeat' first | assumption | apply State.setFld_in | intro _ | split
  all_goals exact hm.of (by decide)

theorem State.loadEnvOf_in (h : Within m z s) (hm : Sub 8712 m) (p) : Within m z (State.loadEnvOf s p) := by
  unfold State.loadEnvOf
  with_reducible repeat' first | assumption | apply State.modPwm_in | apply State.loadThr_in | apply foldl_in | intro _ | split
  all_goals exact hm.of (by decide)

theorem State.staticThr_in (h : Within m z s) (hm : Sub 8200 m) (n) : Within m z (State.staticThr s n) := by
  unfold State.staticThr
  with_reducible repeat' first | assumption | apply State.loadThr_in | apply within_ite | intro _ | split | dsimp only
  all_goals exact hm.of (by decide)

theorem State.ceilingThr_in (h : Within m z s) (hm : Sub 8712 m) (n) : Within m z (State.ceilingThr s n) := by
  unfold State.ceilingThr
  with_reducible repeat' first | assumption | apply State.modPwm_in | apply State.loadCeiling_in | apply within_ite | intro _ | split
  all_goals exact hm.of (by decide)

theorem State.endLegs_in (h : Within m z s) (hm : Sub 520 m) (t) : Within m z (State.endLegs s t) := by
  unfold State.endLegs
  with_reducible repeat' first | assumption | apply State.forUnits_in | apply State.endPeriodLeg_in | apply within_ite | intro _ | split | dsimp only
  all_goals exact hm.of (by decide)

theorem State.formLegs_in (h : Within m z s) (hm : Sub 84118312 m) (t) : Within m z (State.formLegs s t) := by
  unfold State.formLegs
  with_reducible repeat' first | assumption | apply State.forUnits_in | apply State.formLeg_in | apply within_ite | intro _ | split | dsimp only
  all_goals exact hm.of (by decide)

theorem State.genStop_in (h : Within m z s) (hm : Sub 512 m) : Within m z (State.genStop s) := by
  unfold State.genStop
  with_reducible repeat' first | assumption | apply State.modPwm_in | apply within_ite | intro _ | split | dsimp only
  all_goals exact hm.of (by decide)

theorem State.genGo_in (h : Within m z s) (hm : Sub 512 m) : Within m z (State.genGo s) := by
  unfold State.genGo
  with_reducible repeat' first | assumption | apply State.forUnits_in | apply State.modLeg_in | apply State.modPwm_in | apply within_ite | intro _ | split | dsimp only
  all_goals exact hm.of (by decide)

theorem State.freeze_in (h : Within m z s) (hm : Sub 520 m) : Within m z (State.freeze s) := by
  unfold State.freeze
  with_reducible repeat' first | assumption | apply State.setFlag_in | apply State.genStop_in | apply within_ite | intro _ | split | dsimp only
  all_goals exact hm.of (by decide)

theorem State.unfreeze_in (h : Within m z s) (hm : Sub 520 m) : Within m z (State.unfreeze s) := by
  unfold State.unfreeze
  with_reducible repeat' first | assumption | apply State.setFlag_in | apply State.genGo_in | apply within_ite | intro _ | split | dsimp only
  all_goals exact hm.of (by decide)

theorem State.trSample_in (h : Within m z s) (hm : Sub 16779304 m) (c) (w) (stepP) (inst) : Within m z (State.trSample s c w stepP inst) := by
  unfold State.trSample
  with_reducible repeat' first | assumption | apply State.cond_in | apply State.trTrigger_in | apply State.modTr_in | apply State.setFld_in | apply State.post_in | apply within_ite | intro _ | split | dsimp only
  all_goals exact hm.of (by decide)

theorem State.trExec_in (h : Within m z s) (hm : Sub 16779304 m) (i) (ran) (stepP) (inst) : Within m z (State.trExec s i ran stepP inst) := by
  unfold State.trExec
  with_reducible repeat' first | assumption | apply State.forUnits_in | apply State.modTr_in | apply State.trSample_in | apply within_ite | intro _ | split | dsimp only
  all_goals exact hm.of (by decide)

theorem State.trEvents_in (h : Within m z s) (hm : Sub 2056 m) (capMark) : Within m z (State.trEvents s capMark) := by
  unfold State.trEvents
  with_reducible repeat' first | assumption | apply State.cond_in | apply State.trFire_in | apply within_ite | intro _ | split | dsimp only
  all_goals exact hm.of (by decide)

theorem State.setCword_in (h : Within m z s) (hm : Sub 128 m) (i) (w) (v) : Within m z (State.setCword s i w v) := by
  unfold State.setCword
  with_reducible repeat' first | assumption | (apply Within.set_cle; first | assumption) | intro _ | split
  all_goals exact hm.of (by decide)

theorem State.setCwords_in (h : Within m z s) (hm : Sub 128 m) (i) (w) (vs) : Within m z (State.setCwords s i w vs) := by
  unfold State.setCwords
  with_reducible repeat' first | assumption | (apply Within.set_cle; first | assumption) | intro _ | split
  all_goals exact hm.of (by decide)

theorem State.setCf_in (h : Within m z s) (hm : Sub 128 m) (f) (i) (v) : Within m z (State.setCf s f i v) := by
  unfold State.setCf
  with_reducible repeat' first | assumption | apply State.setCword_in | intro _ | split
  all_goals exact hm.of (by decide)

theorem State.setCflag_in (h : Within m z s) (hm : Sub 128 m) (f) (i) (b) : Within m z (State.setCflag s f i b) := by
  unfold State.setCflag
  with_reducible repeat' first | assumption | apply State.setCf_in | intro _ | split
  all_goals exact hm.of (by decide)

theorem State.healCtx_in (h : Within m z s) (hm : Sub 67108864 m) (i) (w) (n) : Within m z (State.healCtx s i w n) := by
  unfold State.healCtx
  with_reducible repeat' first | assumption | apply within_ite | (apply Within.set_spur; first | assumption | apply within_ite) | intro _ | split | dsimp only
  all_goals exact hm.of (by decide)

theorem State.modCle_in (h : Within m z s) (hm : Sub 128 m) (f) : Within m z (State.modCle s f) := by
  unfold State.modCle
  with_reducible repeat' first | assumption | (apply Within.set_cle; first | assumption) | intro _ | split
  all_goals exact hm.of (by decide)

theorem State.modCtx_in (h : Within m z s) (hm : Sub 128 m) (i) (f) : Within m z (State.modCtx s i f) := by
  unfold State.modCtx
  with_reducible repeat' first | assumption | apply State.modCle_in | intro _ | split
  all_goals exact hm.of (by decide)

theorem State.put64At_in (h : Within m z s) (hm : Sub 128 m) (j) (v) : Within m z (State.put64At s j v) := by
  unfold State.put64At
  with_reducible repeat' first | assumption | apply State.setCwords_in | apply State.modCtx_in | apply within_ite | intro _ | split | dsimp only
  all_goals exact hm.of (by decide)

theorem State.balance_in (h : Within m z s) (hm : Sub 256 m) (p) : Within m z (State.balance s p) := by
  unfold State.balance
  with_reducible repeat' first | assumption | apply State.modPort_in | apply within_ite | intro _ | split | dsimp only
  all_goals exact hm.of (by decide)

theorem State.showHist_in (h : Within m z s) (hm : Sub 128 m) (i) : Within m z (State.showHist s i) := by
  unfold State.showHist
  with_reducible repeat' first | assumption | apply State.setCword_in | intro _ | split
  all_goals exact hm.of (by decide)

theorem State.recold_in (h : Within m z s) (hm : Sub 128 m) (i) : Within m z (State.recold s i) := by
  unfold State.recold
  with_reducible repeat' first | assumption | apply State.showHist_in | apply State.setCflag_in | apply State.modCtx_in | intro _ | split
  all_goals exact hm.of (by decide)

theorem State.warm_in (h : Within m z s) (hm : Sub 128 m) (i) : Within m z (State.warm s i) := by
  unfold State.warm
  with_reducible repeat' first | assumption | apply State.setCflag_in | apply State.modCtx_in | intro _ | split
  all_goals exact hm.of (by decide)

theorem State.countHist_in (h : Within m z s) (hm : Sub 128 m) (i) : Within m z (State.countHist s i) := by
  unfold State.countHist
  with_reducible repeat' first | assumption | apply State.showHist_in | apply State.modCtx_in | apply State.warm_in | apply within_ite | intro _ | split
  all_goals exact hm.of (by decide)

theorem State.feCount_in (h : Within m z s) (hm : Sub 128 m) (i) (e) (cold) : Within m z (State.feCount s i e cold) := by
  unfold State.feCount
  with_reducible repeat' first | assumption | apply State.setCf_in | apply State.setCflag_in | apply within_ite | intro _ | split
  all_goals exact hm.of (by decide)

theorem State.store_in (h : Within m z s) (hm : Sub 16779432 m) (i) (o) : Within m z (State.store s i o) := by
  unfold State.store
  with_reducible repeat' first | assumption | apply State.setCword_in | apply State.setCwords_in | apply State.setCflag_in | apply State.count_in | apply State.post_in | apply foldl_in | apply within_ite | intro _ | split | dsimp only
  all_goals exact hm.of (by decide)

theorem State.publish_in (h : Within m z s) (hm : Sub 128 m) (i) (o) (inq) (cold) : Within m z (State.publish s i o inq cold) := by
  unfold State.publish
  with_reducible repeat' first | assumption | apply State.setCflag_in | apply State.feCount_in | apply State.countHist_in | apply State.setCword_in | apply within_ite | intro _ | split
  all_goals exact hm.of (by decide)

theorem State.slaveRotor_in (h : Within m z s) (hm : Sub 128 m) (p) : Within m z (State.slaveRotor s p) := by
  unfold State.slaveRotor
  with_reducible repeat' first | assumption | apply State.setCwords_in | apply State.setCword_in | apply State.modCtx_in | apply within_ite | intro _ | split | dsimp only
  all_goals exact hm.of (by decide)

theorem State.toPort_in (h : Within m z s) (hm : Sub 384 m) (i) (o) : Within m z (State.toPort s i o) := by
  unfold State.toPort
  with_reducible repeat' first | assumption | apply State.modPort_in | apply State.slaveRotor_in | apply within_ite | intro _ | split | dsimp only
  all_goals exact hm.of (by decide)

theorem State.execCtx_in (h : Within m z s) (hm : Sub 16779688 m) (i) : Within m z (State.execCtx s i) := by
  unfold State.execCtx
  with_reducible repeat' first | assumption | apply State.store_in | apply State.publish_in | apply State.toPort_in | apply State.modCtx_in | apply State.trExec_in | apply within_ite | intro _ | split | dsimp only
  all_goals exact hm.of (by decide)

theorem State.cleParity_in (h : Within m z s) (hm : Sub 285214888 m) (i) (off) : Within m z (State.cleParity s i off) := by
  unfold State.cleParity
  with_reducible repeat' first | assumption | apply State.memErr_in | apply State.deferReset_in | apply State.setCflag_in | apply State.modCle_in | apply State.post_in | apply within_ite | intro _ | split | dsimp only
  all_goals exact hm.of (by decide)

theorem State.runCtx_in (h : Within m z s) (hm : Sub 352324008 m) (i) : Within m z (State.runCtx s i) := by
  unfold State.runCtx
  with_reducible repeat' first | assumption | apply State.execCtx_in | apply State.healCtx_in | apply State.cleParity_in | apply within_ite | intro _ | split | dsimp only
  all_goals exact hm.of (by decide)

theorem State.markLate_in (h : Within m z s) (hm : Sub 8 m) (p) : Within m z (State.markLate s p) := by
  unfold State.markLate
  with_reducible repeat' first | assumption | apply State.lateLegs_in | apply within_ite | intro _ | split | dsimp only
  all_goals exact hm.of (by decide)

theorem State.missPorts_in (h : Within m z s) (hm : Sub 16779944 m) (new) : Within m z (State.missPorts s new) := by
  unfold State.missPorts
  with_reducible repeat' first | assumption | apply State.cond_in | apply State.count_in | apply State.modCle_in | apply State.post_in | apply State.modPwm_in | apply State.markLate_in | apply foldl_in | apply within_ite | intro _ | split | dsimp only
  all_goals exact hm.of (by decide)

theorem State.portFlags_in (h : Within m z s) (hm : Sub 8 m) (p) : Within m z (State.portFlags s p) := by
  unfold State.portFlags
  with_reducible repeat' first | assumption | apply State.setFlag_in | intro _ | split
  all_goals exact hm.of (by decide)

theorem State.commitPort_in (h : Within m z s) (hm : Sub 776 m) (p) : Within m z (State.commitPort s p) := by
  unfold State.commitPort
  with_reducible repeat' first | assumption | apply State.modPwm_in | apply State.portFlags_in | apply State.balance_in | apply State.cond_in | apply State.markLate_in | apply within_ite | intro _ | split | dsimp only
  all_goals exact hm.of (by decide)

theorem State.commitPeriod_in (h : Within m z s) (hm : Sub 640 m) (late) : Within m z (State.commitPeriod s late) := by
  unfold State.commitPeriod
  with_reducible repeat' first | assumption | apply State.modPwm_in | apply State.modCle_in | apply within_ite | intro _ | split | dsimp only
  all_goals exact hm.of (by decide)

theorem execRg0PhaseStart_in (h : Within m z s) (hm : Sub 352324520 m) (phase) : Nexts m z (execRg0PhaseStart phase s) := by
  unfold execRg0PhaseStart
  with_reducible repeat' first | assumption | apply Nexts.next | apply nexts_ite | apply State.modCle_in | apply State.runCtx_in | apply State.missPorts_in | apply State.commitPort_in | apply State.commitPeriod_in | apply foldl_in | apply within_ite | intro _ | split | dsimp only
  all_goals exact hm.of (by decide)

theorem State.rg1Complete_in (h : Within m z s) (hm : Sub 65664 m) : Within m z (State.rg1Complete s) := by
  unfold State.rg1Complete
  with_reducible repeat' first | assumption | apply State.modCle_in | apply State.modPair_in | apply within_ite | intro _ | split | dsimp only
  all_goals exact hm.of (by decide)

theorem execRateGroupInstanceRun_in (h : Within m z s) (hm : Sub 352389544 m) (rg) : Nexts m z (execRateGroupInstanceRun rg s) := by
  unfold execRateGroupInstanceRun
  with_reducible repeat' first | assumption | apply Nexts.next | apply nexts_ite | apply State.runCtx_in | apply State.modCle_in | apply State.rg1Complete_in | apply foldl_in | apply within_ite | intro _ | split | dsimp only
  all_goals exact hm.of (by decide)

theorem execCleDeadlineMiss_in (h : Within m z s) (hm : Sub 16779944 m) (ports) : Nexts m z (execCleDeadlineMiss ports s) := by
  unfold execCleDeadlineMiss
  with_reducible repeat' first | assumption | apply Nexts.next | apply nexts_ite | apply State.missPorts_in | apply within_ite | intro _ | split | dsimp only
  all_goals exact hm.of (by decide)

theorem execRgInstanceOverrun_in (h : Within m z s) (hm : Sub 16779432 m) (rg) : Nexts m z (execRgInstanceOverrun rg s) := by
  unfold execRgInstanceOverrun
  with_reducible repeat' first | assumption | apply Nexts.next | apply nexts_ite | apply State.post_in | apply State.count_in | apply State.modCle_in | apply within_ite | intro _ | split
  all_goals exact hm.of (by decide)

theorem State.feAction_in (h : Within m z s) (hm : Sub 84117800 m) (i) : Within m z (State.feAction s i) := by
  unfold State.feAction
  with_reducible repeat' first | assumption | apply State.raise_in | apply State.srsRequest_in | apply within_ite | intro _ | split
  all_goals exact hm.of (by decide)

theorem execFollowingErrorExpiry_in (h : Within m z s) (hm : Sub 84117928 m) (ctx) : Nexts m z (execFollowingErrorExpiry ctx s) := by
  unfold execFollowingErrorExpiry
  with_reducible repeat' first | assumption | apply Nexts.next | apply nexts_ite | apply State.feAction_in | apply State.post_in | apply State.setCf_in | apply State.setCflag_in | apply within_ite | intro _ | split
  all_goals exact hm.of (by decide)

theorem execFollowingErrorClear_in (h : Within m z s) (hm : Sub 16779432 m) (ctx) : Nexts m z (execFollowingErrorClear ctx s) := by
  unfold execFollowingErrorClear
  with_reducible repeat' first | assumption | apply Nexts.next | apply nexts_ite | apply State.post_in | apply State.setCf_in | apply State.setCflag_in | apply within_ite | intro _ | split
  all_goals exact hm.of (by decide)

theorem State.modTb_in (h : Within m z s) (hm : Sub 1048576 m) (b) (f) : Within m z (State.modTb s b f) := by
  unfold State.modTb
  with_reducible repeat' first | assumption | (apply Within.set_tb; first | assumption) | intro _ | split
  all_goals exact hm.of (by decide)

theorem State.modMac_in (h : Within m z s) (hm : Sub 2097152 m) (m0) (f) : Within m z (State.modMac s m0 f) := by
  unfold State.modMac
  with_reducible repeat' first | assumption | (apply Within.set_macs; first | assumption) | intro _ | split
  all_goals exact hm.of (by decide)

theorem State.modPtp_in (h : Within m z s) (hm : Sub 4194304 m) (f) : Within m z (State.modPtp s f) := by
  unfold State.modPtp
  with_reducible repeat' first | assumption | (apply Within.set_ptp; first | assumption) | intro _ | split
  all_goals exact hm.of (by decide)

theorem State.setTbLock_in (h : Within m z s) (hm : Sub 16779304 m) (on) : Within m z (State.setTbLock s on) := by
  unfold State.setTbLock
  with_reducible repeat' first | assumption | apply State.post_in | apply State.setFlag_in | apply within_ite | intro _ | split
  all_goals exact hm.of (by decide)

theorem State.dropLock_in (h : Within m z s) (hm : Sub 20973608 m) : Within m z (State.dropLock s) := by
  unfold State.dropLock
  with_reducible repeat' first | assumption | apply State.modPtp_in | apply State.setTbLock_in | apply within_ite | intro _ | split | dsimp only
  all_goals exact hm.of (by decide)

theorem State.showStep_in (h : Within m z s) (hm : Sub 16779304 m) (b) (d) : Within m z (State.showStep s b d) := by
  unfold State.showStep
  with_reducible repeat' first | assumption | apply State.setFlag_in | apply State.post_in | apply within_ite | intro _ | split | dsimp only
  all_goals exact hm.of (by decide)

theorem State.stepTb_in (h : Within m z s) (hm : Sub 17827880 m) (b) (d) : Within m z (State.stepTb s b d) := by
  unfold State.stepTb
  with_reducible repeat' first | assumption | apply State.modTb_in | apply State.showStep_in | apply within_ite | intro _ | split | dsimp only
  all_goals exact hm.of (by decide)

theorem State.adjTb_in (h : Within m z s) (hm : Sub 17827880 m) (b) (f) (d) : Within m z (State.adjTb s b f d) := by
  unfold State.adjTb
  with_reducible repeat' first | assumption | apply State.modTb_in | apply State.cond_in | apply State.showStep_in | apply within_ite | intro _ | split | dsimp only
  all_goals exact hm.of (by decide)

theorem State.showPtp_in (h : Within m z s) (hm : Sub 8 m) : Within m z (State.showPtp s) := by
  unfold State.showPtp
  with_reducible repeat' first | assumption | apply State.setFld_in | apply within_ite | intro _ | split
  all_goals exact hm.of (by decide)

theorem State.goPort_in (h : Within m z s) (hm : Sub 25168168 m) (p) (n) (code) : Within m z (State.goPort s p n code) := by
  unfold State.goPort
  with_reducible repeat' first | assumption | apply State.setFld_in | apply State.setFlag_in | apply State.cond_in | apply State.modPort_in | apply State.portMoved_in | apply State.post_in | apply within_ite | intro _ | split | dsimp only
  all_goals exact hm.of (by decide)

theorem State.modObs_in (h : Within m z s) (hm : Sub 4096 m) (p) (f) : Within m z (State.modObs s p f) := by
  unfold State.modObs
  with_reducible repeat' first | assumption | (apply Within.set_obs; first | assumption) | intro _ | split
  all_goals exact hm.of (by decide)

theorem State.govWrite_in (h : Within m z s) (hm : Sub 128 m) (p) (v) : Within m z (State.govWrite s p v) := by
  unfold State.govWrite
  with_reducible repeat' first | assumption | apply State.setCword_in | intro _ | split | dsimp only
  all_goals exact hm.of (by decide)

theorem State.govReset_in (h : Within m z s) (hm : Sub 4232 m) (p) : Within m z (State.govReset s p) := by
  unfold State.govReset
  with_reducible repeat' first | assumption | apply State.govWrite_in | apply State.modObs_in | apply State.setFlag_in | apply within_ite | intro _ | split | dsimp only
  all_goals exact hm.of (by decide)

theorem State.armPort_in (h : Within m z s) (hm : Sub 25172392 m) (p) : Within m z (State.armPort s p) := by
  unfold State.armPort
  with_reducible repeat' first | assumption | apply State.recold_in | apply State.govReset_in | apply State.setFld_in | apply State.setFlag_in | apply State.goPort_in | apply foldl_in | apply within_ite | intro _ | split | dsimp only
  all_goals exact hm.of (by decide)

theorem State.seedPort_in (h : Within m z s) (hm : Sub 4488 m) (p) (theta) (omega) : Within m z (State.seedPort s p theta omega) := by
  unfold State.seedPort
  with_reducible repeat' first | assumption | apply State.setCwords_in | apply State.put64At_in | apply State.warm_in | apply State.modPort_in | apply State.setFlag_in | apply State.setFld_in | apply State.govReset_in | apply foldl_in | apply within_ite | intro _ | split | dsimp only
  all_goals exact hm.of (by decide)

theorem State.seedE_in (h : Within m z s) (hm : Sub 128 m) (p) (e) : Within m z (State.seedE s p e) := by
  unfold State.seedE
  with_reducible repeat' first | assumption | apply State.setCword_in | apply within_ite | intro _ | split | dsimp only
  all_goals exact hm.of (by decide)

theorem State.startBlack_in (h : Within m z s) (hm : Sub 4488 m) (p) : Within m z (State.startBlack s p) := by
  unfold State.startBlack
  with_reducible repeat' first | assumption | apply State.seedPort_in | apply State.seedE_in | apply State.modPort_in | apply State.setFlag_in | apply within_ite | intro _ | split | dsimp only
  all_goals exact hm.of (by decide)

theorem State.enterMatch_in (h : Within m z s) (hm : Sub 25172392 m) (p) : Within m z (State.enterMatch s p) := by
  unfold State.enterMatch
  with_reducible repeat' first | assumption | apply State.goPort_in | apply State.seedPort_in | apply State.seedE_in | apply State.modPort_in | apply within_ite | intro _ | split | dsimp only
  all_goals exact hm.of (by decide)

theorem State.closeBreaker_in (h : Within m z s) (hm : Sub 25168168 m) (p) : Within m z (State.closeBreaker s p) := by
  unfold State.closeBreaker
  with_reducible repeat' first | assumption | apply State.goPort_in | apply State.modPort_in | apply within_ite | intro _ | split
  all_goals exact hm.of (by decide)

theorem State.enterCurlim_in (h : Within m z s) (hm : Sub 25168168 m) (p) : Within m z (State.enterCurlim s p) := by
  unfold State.enterCurlim
  with_reducible repeat' first | assumption | apply State.modPort_in | apply State.count_in | apply State.goPort_in | apply State.post_in | apply within_ite | intro _ | split | dsimp only
  all_goals exact hm.of (by decide)

theorem State.enterRamp_in (h : Within m z s) (hm : Sub 25168168 m) (p) (fine) (srs) : Within m z (State.enterRamp s p fine srs) := by
  unfold State.enterRamp
  with_reducible repeat' first | assumption | apply State.goPort_in | apply State.modPort_in | intro _ | split
  all_goals exact hm.of (by decide)

theorem State.endSrs_in (h : Within m z s) (hm : Sub 92440872 m) (p) : Within m z (State.endSrs s p) := by
  unfold State.endSrs
  with_reducible repeat' first | assumption | apply State.goPort_in | apply State.srsRegs_in | apply State.modStw_in | apply State.sgr_in | apply within_ite | intro _ | split
  all_goals exact hm.of (by decide)

theorem State.startPort_in (h : Within m z s) (hm : Sub 25172392 m) (p) (n) (t) : Within m z (State.startPort s p n t) := by
  unfold State.startPort
  with_reducible repeat' first | assumption | apply State.seedPort_in | apply State.goPort_in | apply State.setFlag_in | apply State.modPort_in | apply within_ite | intro _ | split | dsimp only
  all_goals exact hm.of (by decide)

theorem State.hostPort_in (h : Within m z s) (hm : Sub 27269560 m) (e) : Within m z (State.hostPort s e) := by
  unfold State.hostPort
  with_reducible repeat' first | assumption | apply State.doneAt_in | apply State.armPort_in | apply State.goPort_in | apply State.startPort_in | apply State.enterRamp_in | apply State.setFlag_in | apply State.modPort_in | apply within_ite | intro _ | split
  all_goals exact hm.of (by decide)

theorem State.hostTurn_in (h : Within m z s) (hm : Sub 27269560 m) (p) : Within m z (State.hostTurn s p) := by
  unfold State.hostTurn
  with_reducible repeat' first | assumption | apply State.modPort_in | apply State.hostPort_in | intro _ | split
  all_goals exact hm.of (by decide)

/-- The state, where there is one, is within m of z. -/
def WithinSome (m : Nat) (z : State) (o : Option State) : Prop := ∀ t, o = some t → Within m z t

theorem withinSome_ite {c : Prop} [Decidable c] {a b : Option State} (ha : WithinSome m z a) (hb : WithinSome m z b) :
    WithinSome m z (if c then a else b) := by
  split
  · exact ha
  · exact hb

theorem withinSome_none : WithinSome m z none := fun _ h => nomatch h

theorem withinSome_some {u : State} (h : Within m z u) : WithinSome m z (some u) := fun _ e => Option.some.inj e ▸ h

theorem State.portMoves_in (h : Within m z s) (hm : Sub 92445112 m) (p : Nat) : WithinSome m z (s.portMoves p) := by
  unfold State.portMoves
  dsimp only
  with_reducible repeat' first | assumption | apply withinSome_ite | apply withinSome_none | apply withinSome_some | apply goPort_in | apply enterRamp_in | apply enterCurlim_in | apply setFlag_in | apply modPort_in | apply post_in | apply enterMatch_in | apply closeBreaker_in | apply endSrs_in
  all_goals exact hm.of (by decide)

theorem State.srsJoins_in (h : Within m z s) (hm : Sub 256 m) (p) : Within m z (State.srsJoins s p) := by
  unfold State.srsJoins
  with_reducible repeat' first | assumption | apply State.modPort_in | apply within_ite | intro _ | split
  all_goals exact hm.of (by decide)

theorem State.portTransition_in (h : Within m z s) (hm : Sub 94542264 m) (p) : Within m z (State.portTransition s p) := by
  unfold State.portTransition
  dsimp only
  have h1 := srsJoins_in (setFlag_in h (hm.of (by decide)) F.PORT_STATUS_BKR_FB p (s.port p).hlpBkr) (hm.of (by decide)) p
  have hp : Sub 256 m := hm.of (by decide)
  split
  · exact modPort_in h1 hp _ _
  · split
    · exact modPort_in (portMoves_in h1 (hm.of (by decide)) p _ ‹_›) hp _ _
    · split
      · exact modPort_in (startBlack_in h1 (hm.of (by decide)) _) hp _ _
      · exact modPort_in (hostTurn_in h1 (hm.of (by decide)) _) hp _ _

theorem State.slewPort_in (h : Within m z s) (hm : Sub 256 m) (p) : Within m z (State.slewPort s p) := by
  unfold State.slewPort
  with_reducible repeat' first | assumption | apply State.modPort_in | apply within_ite | intro _ | split
  all_goals exact hm.of (by decide)

theorem State.pullPort_in (h : Within m z s) (hm : Sub 264 m) (p) : Within m z (State.pullPort s p) := by
  unfold State.pullPort
  with_reducible repeat' first | assumption | apply State.modPort_in | apply State.setFlag_in | apply within_ite | intro _ | split | dsimp only
  all_goals exact hm.of (by decide)

theorem State.tickPort_in (h : Within m z s) (hm : Sub 256 m) (p) : Within m z (State.tickPort s p) := by
  unfold State.tickPort
  with_reducible repeat' first | assumption | apply State.modPort_in | apply within_ite | intro _ | split | dsimp only
  all_goals exact hm.of (by decide)

theorem State.matchPort_in (h : Within m z s) (hm : Sub 8 m) (p) : Within m z (State.matchPort s p) := by
  unfold State.matchPort
  with_reducible repeat' first | assumption | apply State.cond_in | apply State.setFlag_in | apply within_ite | intro _ | split
  all_goals exact hm.of (by decide)

theorem State.quietPort_in (h : Within m z s) (hm : Sub 8 m) (p) : Within m z (State.quietPort s p) := by
  unfold State.quietPort
  with_reducible repeat' first | assumption | apply State.setFlag_in | apply within_ite | intro _ | split
  all_goals exact hm.of (by decide)

theorem State.runPort_in (h : Within m z s) (hm : Sub 264 m) (p) : Within m z (State.runPort s p) := by
  unfold State.runPort
  with_reducible repeat' first | assumption | apply State.modPort_in | apply State.setFld_in | apply within_ite | intro _ | split | dsimp only
  all_goals exact hm.of (by decide)

theorem State.srsChecks_in (h : Within m z s) (hm : Sub 84117800 m) : Within m z (State.srsChecks s) := by
  unfold State.srsChecks
  with_reducible repeat' first | assumption | decide | apply State.cond_in | apply State.cause_in | apply State.sgr_in | apply within_ite | intro _ | split | dsimp only
  all_goals exact hm.of (by decide)

theorem execTCloseExpiry_in (h : Within m z s) (hm : Sub 256 m) (port) : Nexts m z (execTCloseExpiry port s) := by
  unfold execTCloseExpiry
  with_reducible repeat' first | assumption | apply Nexts.next | apply nexts_ite | apply State.raise_in | apply within_ite | intro _ | split | dsimp only
  all_goals exact hm.of (by decide)

theorem execPresyncTimeout_in (h : Within m z s) (hm : Sub 256 m) (port) : Nexts m z (execPresyncTimeout port s) := by
  unfold execPresyncTimeout
  with_reducible repeat' first | assumption | apply Nexts.next | apply nexts_ite | apply State.raise_in | intro _ | split
  all_goals exact hm.of (by decide)

theorem execPresyncWindowEnd_in (h : Within m z s) (hm : Sub 256 m) (port) : Nexts m z (execPresyncWindowEnd port s) := by
  unfold execPresyncWindowEnd
  with_reducible repeat' first | assumption | apply Nexts.next | apply nexts_ite | apply State.raise_in | apply State.modPort_in | apply within_ite | intro _ | split | dsimp only
  all_goals exact hm.of (by decide)

theorem execBlackstartRampComplete_in (h : Within m z s) (hm : Sub 256 m) (port) : Nexts m z (execBlackstartRampComplete port s) := by
  unfold execBlackstartRampComplete
  with_reducible repeat' first | assumption | apply Nexts.next | apply nexts_ite | apply State.raise_in | intro _ | split
  all_goals exact hm.of (by decide)

theorem execBlackstartTrackFault_in (h : Within m z s) (hm : Sub 256 m) (port) (high) : Nexts m z (execBlackstartTrackFault port high s) := by
  unfold execBlackstartTrackFault
  with_reducible repeat' first | assumption | apply Nexts.next | apply nexts_ite | apply State.raise_in | apply within_ite | intro _ | split | dsimp only
  all_goals exact hm.of (by decide)

theorem execBkrFbSeen_in (h : Within m z s) (hm : Sub 256 m) (port) : Nexts m z (execBkrFbSeen port s) := by
  unfold execBkrFbSeen
  with_reducible repeat' first | assumption | apply Nexts.next | apply nexts_ite | apply State.raise_in | intro _ | split
  all_goals exact hm.of (by decide)

theorem execEnvelopeRunLimit_in (h : Within m z s) (hm : Sub 16779560 m) (port) : Nexts m z (execEnvelopeRunLimit port s) := by
  unfold execEnvelopeRunLimit
  with_reducible repeat' first | assumption | apply Nexts.next | apply nexts_ite | apply State.raise_in | apply State.modPort_in | apply State.post_in | apply within_ite | intro _ | split | dsimp only
  all_goals exact hm.of (by decide)

theorem execCurlimExitStart_in (h : Within m z s) (hm : Sub 264 m) (port) : Nexts m z (execCurlimExitStart port s) := by
  unfold execCurlimExitStart
  with_reducible repeat' first | assumption | apply Nexts.next | apply nexts_ite | apply State.modPort_in | apply State.setFlag_in | apply within_ite | intro _ | split | dsimp only
  all_goals exact hm.of (by decide)

theorem execCurlimRampComplete_in (h : Within m z s) (hm : Sub 256 m) (port) : Nexts m z (execCurlimRampComplete port s) := by
  unfold execCurlimRampComplete
  with_reducible repeat' first | assumption | apply Nexts.next | apply nexts_ite | apply State.raise_in | apply within_ite | intro _ | split
  all_goals exact hm.of (by decide)

theorem execCurlimTimeout_in (h : Within m z s) (hm : Sub 84117800 m) (port) : Nexts m z (execCurlimTimeout port s) := by
  unfold execCurlimTimeout
  with_reducible repeat' first | assumption | apply Nexts.next | apply nexts_ite | apply State.cond_in | apply State.post_in | apply State.srsRequest_in | apply within_ite | intro _ | split
  all_goals exact hm.of (by decide)

theorem execPullWindowEnd_in (h : Within m z s) (hm : Sub 264 m) (port) : Nexts m z (execPullWindowEnd port s) := by
  unfold execPullWindowEnd
  with_reducible repeat' first | assumption | apply Nexts.next | apply nexts_ite | apply State.setFlag_in | apply State.modPort_in | apply within_ite | intro _ | split
  all_goals exact hm.of (by decide)

theorem execDcRangeFault_in (h : Within m z s) (hm : Sub 256 m) (port) : Nexts m z (execDcRangeFault port s) := by
  unfold execDcRangeFault
  with_reducible repeat' first | assumption | apply Nexts.next | apply nexts_ite | apply State.raise_in | intro _ | split
  all_goals exact hm.of (by decide)

theorem execStopRampComplete_in (h : Within m z s) (hm : Sub 256 m) (port) : Nexts m z (execStopRampComplete port s) := by
  unfold execStopRampComplete
  with_reducible repeat' first | assumption | apply Nexts.next | apply nexts_ite | apply State.raise_in | intro _ | split
  all_goals exact hm.of (by decide)

theorem execSrsRampComplete_in (h : Within m z s) (hm : Sub 256 m) (port) : Nexts m z (execSrsRampComplete port s) := by
  unfold execSrsRampComplete
  with_reducible repeat' first | assumption | apply Nexts.next | apply nexts_ite | apply State.raise_in | intro _ | split
  all_goals exact hm.of (by decide)

theorem State.pairCause_in (h : Within m z s) (hm : Sub 84117800 m) (c) (q) (hc : causeClass c ≠ 4) : Within m z (State.pairCause s c q) := by
  unfold State.pairCause
  with_reducible repeat' first | assumption | decide | apply State.causeWith_in | apply within_ite | intro _ | split | dsimp only
  all_goals exact hm.of (by decide)

theorem State.inputActive_in (h : Within m z s) (hm : Sub 131072 m) : Within m z (State.inputActive s) := by
  unfold State.inputActive
  with_reducible repeat' first | assumption | apply State.setActive_in | intro _ | split
  all_goals exact hm.of (by decide)

theorem State.siLow_in (h : Within m z s) (hm : Sub 131080 m) (i) : Within m z (State.siLow s i) := by
  unfold State.siLow
  with_reducible repeat' first | assumption | apply State.modStw_in | apply State.cond_in | apply State.setFld_in | apply within_ite | intro _ | split
  all_goals exact hm.of (by decide)

theorem siPair_cause (i : Nat) (h : i < 4) : causeClass (1 + siPair i) ≠ 4 := by
  have : siPair i < 2 := by unfold siPair; rw [if_pos h]; omega
  revert this
  generalize siPair i = q
  intro hq
  match q, hq with
  | 0, _ => decide
  | 1, _ => decide

theorem State.siDemand_in (h : Within m z s) (hm : Sub 84117800 m) (i) : Within m z (State.siDemand s i) := by
  unfold State.siDemand
  with_reducible repeat' first | assumption | decide | exact siPair_cause _ ‹_› | apply State.siLow_in | apply State.inputActive_in | apply State.pairCause_in | apply State.modStw_in | apply State.setFld_in | apply within_ite | intro _ | split | dsimp only
  all_goals exact hm.of (by decide)

theorem State.siHigh_in (h : Within m z s) (hm : Sub 131080 m) (i) : Within m z (State.siHigh s i) := by
  unfold State.siHigh
  with_reducible repeat' first | assumption | apply State.modStw_in | apply State.cond_in | apply State.setFld_in | apply State.inputActive_in | apply within_ite | intro _ | split
  all_goals exact hm.of (by decide)

theorem State.discrepancy_in (h : Within m z s) (hm : Sub 84117800 m) (q0) : Within m z (State.discrepancy s q0) := by
  unfold State.discrepancy
  with_reducible repeat' first | assumption | decide | apply State.inputActive_in | apply State.pairCause_in | apply State.modStw_in | apply within_ite | intro _ | split | dsimp only
  all_goals exact hm.of (by decide)

theorem State.diDiscrepancies_in (h : Within m z s) (hm : Sub 84117800 m) : Within m z (State.diDiscrepancies s) := by
  unfold State.diDiscrepancies
  with_reducible repeat' first | assumption | apply State.modStw_in | apply State.discrepancy_in | apply foldl_in | intro _ | split
  all_goals exact hm.of (by decide)

theorem execSdinDemand_in (h : Within m z s) (hm : Sub 84117800 m) (ch) : Nexts m z (execSdinDemand ch s) := by
  unfold execSdinDemand
  with_reducible repeat' first | assumption | apply Nexts.next | apply nexts_ite | apply State.siLow_in | apply State.siDemand_in | intro _ | split
  all_goals exact hm.of (by decide)

theorem execSdinReturnHigh_in (h : Within m z s) (hm : Sub 131080 m) (ch) : Nexts m z (execSdinReturnHigh ch s) := by
  unfold execSdinReturnHigh
  with_reducible repeat' first | assumption | apply Nexts.next | apply nexts_ite | apply State.siHigh_in | intro _ | split
  all_goals exact hm.of (by decide)

theorem execSdinDiscrepancy_in (h : Within m z s) (hm : Sub 84117800 m) (pair) : Nexts m z (execSdinDiscrepancy pair s) := by
  unfold execSdinDiscrepancy
  with_reducible repeat' first | assumption | apply Nexts.next | apply nexts_ite | apply State.discrepancy_in | intro _ | split
  all_goals exact hm.of (by decide)

theorem execSafetyDiDemand_in (h : Within m z s) (hm : Sub 84117800 m) (di) : Nexts m z (execSafetyDiDemand di s) := by
  unfold execSafetyDiDemand
  with_reducible repeat' first | assumption | apply Nexts.next | apply nexts_ite | apply State.siLow_in | apply State.siDemand_in | apply within_ite | intro _ | split
  all_goals exact hm.of (by decide)

theorem execTestPulseSlot_in (h : Within m z s) (hm : Sub 131072 m) (tp) : Nexts m z (execTestPulseSlot tp s) := by
  unfold execTestPulseSlot
  with_reducible repeat' first | assumption | apply Nexts.next | apply nexts_ite | apply State.modStw_in | intro _ | split
  all_goals exact hm.of (by decide)

theorem State.testFault_in (h : Within m z s) (hm : Sub 84117800 m) (tp) (i) : Within m z (State.testFault s tp i) := by
  unfold State.testFault
  with_reducible repeat' first | assumption | decide | apply State.modStw_in | apply State.inputActive_in | apply State.pairCause_in | apply State.setFld_in | apply within_ite | intro _ | split | dsimp only
  all_goals exact hm.of (by decide)

theorem State.pulseIn_in (h : Within m z s) (hm : Sub 84117800 m) (tp) (low) : Within m z (State.pulseIn s tp low) := by
  unfold State.pulseIn
  with_reducible repeat' first | assumption | apply State.inputActive_in | apply State.modStw_in | apply State.testFault_in | apply foldl_in | apply within_ite | intro _ | split
  all_goals exact hm.of (by decide)

theorem State.pulseOut_in (h : Within m z s) (hm : Sub 84117800 m) (tp) (low) : Within m z (State.pulseOut s tp low) := by
  unfold State.pulseOut
  with_reducible repeat' first | assumption | apply State.siDemand_in | apply State.modStw_in | apply foldl_in | apply within_ite | intro _ | split
  all_goals exact hm.of (by decide)

theorem execTestPulseCheck_in (h : Within m z s) (hm : Sub 84117800 m) (tp) (after) (low) : Nexts m z (execTestPulseCheck tp after low s) := by
  unfold execTestPulseCheck
  with_reducible repeat' first | assumption | apply Nexts.next | apply nexts_ite | apply State.pulseOut_in | apply State.pulseIn_in | intro _ | split
  all_goals exact hm.of (by decide)

theorem State.doNote_in (h : Within m z s) (hm : Sub 524296 m) : Within m z (State.doNote s) := by
  unfold State.doNote
  with_reducible repeat' first | assumption | apply State.setFld_in | apply foldl_in | apply within_ite | (apply Within.set_fio; first | assumption | apply State.setFld_in | apply foldl_in | apply within_ite) | intro _ | split | dsimp only
  all_goals exact hm.of (by decide)

theorem State.stwEn_in (h : Within m z s) (hm : Sub 524296 m) : Within m z (State.stwEn s) := by
  unfold State.stwEn
  with_reducible repeat' first | assumption | apply State.setFld_in | apply State.doNote_in | apply within_ite | intro _ | split | dsimp only
  all_goals exact hm.of (by decide)

theorem State.soFail_in (h : Within m z s) (hm : Sub 84642088 m) (m0) : Within m z (State.soFail s m0) := by
  unfold State.soFail
  with_reducible repeat' first | assumption | decide | apply State.stwEn_in | apply State.setFld_in | apply State.causeWith_in | apply within_ite | intro _ | split | dsimp only
  all_goals exact hm.of (by decide)

theorem State.doSync_in (h : Within m z s) (hm : Sub 84642088 m) : Within m z (State.doSync s) := by
  unfold State.doSync
  with_reducible repeat' first | assumption | apply State.soFail_in | apply State.doNote_in | apply foldl_in | apply within_ite | intro _ | split | dsimp only
  all_goals exact hm.of (by decide)

theorem State.readPins_in (h : Within m z s) (hm : Sub 524296 m) (pins) : Within m z (State.readPins s pins) := by
  unfold State.readPins
  with_reducible repeat' first | assumption | apply State.setFld_in | apply within_ite | (apply Within.set_fio; first | assumption | apply State.setFld_in | apply within_ite) | intro _ | split | dsimp only
  all_goals exact hm.of (by decide)

theorem State.pulseEnd_in (h : Within m z s) (hm : Sub 84642088 m) (m0) (pins) : Within m z (State.pulseEnd s m0 pins) := by
  unfold State.pulseEnd
  with_reducible repeat' first | assumption | apply State.readPins_in | apply State.soFail_in | apply State.doNote_in | apply foldl_in | apply within_ite | (apply Within.set_fio; first | assumption | apply State.readPins_in | apply State.soFail_in | apply State.doNote_in | apply foldl_in | apply within_ite) | intro _ | split | dsimp only
  all_goals exact hm.of (by decide)

theorem execOutputOffPulse_in (h : Within m z s) (hm : Sub 84642088 m) (out) (ending) (pins) : Nexts m z (execOutputOffPulse out ending pins s) := by
  unfold execOutputOffPulse
  with_reducible repeat' first | assumption | apply Nexts.next | apply nexts_ite | apply State.pulseEnd_in | apply State.readPins_in | apply State.doSync_in | apply within_ite | (apply Within.set_fio; first | assumption | apply Nexts.next | apply nexts_ite | apply State.pulseEnd_in | apply State.readPins_in | apply State.doSync_in | apply within_ite) | intro _ | split | dsimp only
  all_goals exact hm.of (by decide)

theorem execMonitorAdcWindow_in (h : Within m z s) (hm : Sub 84117800 m) (ch) (on) : Nexts m z (execMonitorAdcWindow ch on s) := by
  unfold execMonitorAdcWindow
  with_reducible repeat' first | assumption | decide | apply Nexts.next | apply nexts_ite | apply State.modStw_in | apply State.cond_in | apply State.causeWith_in | apply State.setActive_in | apply within_ite | intro _ | split | dsimp only
  all_goals exact hm.of (by decide)

theorem execMonitorCrossCheck_in (h : Within m z s) (hm : Sub 84117800 m) (ch) (on) : Nexts m z (execMonitorCrossCheck ch on s) := by
  unfold execMonitorCrossCheck
  with_reducible repeat' first | assumption | decide | apply Nexts.next | apply nexts_ite | apply State.modStw_in | apply State.cond_in | apply State.cause_in | apply State.setActive_in | apply within_ite | intro _ | split | dsimp only
  all_goals exact hm.of (by decide)

theorem execJunctionOvertemp_in (h : Within m z s) (hm : Sub 84117800 m) (on) : Nexts m z (execJunctionOvertemp on s) := by
  unfold execJunctionOvertemp
  with_reducible repeat' first | assumption | decide | apply Nexts.next | apply nexts_ite | apply State.causeOn_in | apply within_ite | intro _ | split | dsimp only
  all_goals exact hm.of (by decide)

theorem execClockCrossCheck_in (h : Within m z s) (hm : Sub 84117800 m) (on) : Nexts m z (execClockCrossCheck on s) := by
  unfold execClockCrossCheck
  with_reducible repeat' first | assumption | decide | apply Nexts.next | apply nexts_ite | apply State.clkBit_in | apply State.causeOn_in | apply within_ite | intro _ | split | dsimp only
  all_goals exact hm.of (by decide)

theorem execIslandSupplyFault_in (h : Within m z s) (hm : Sub 536870904 m) : Nexts m z (execIslandSupplyFault s) := by
  unfold execIslandSupplyFault
  with_reducible repeat' first | assumption | apply State.causeAny_in | apply Nexts.next | apply nexts_ite | apply State.cause_in | apply State.assertReset_in | apply within_ite | intro _ | split | dsimp only
  all_goals exact hm.of (by decide)

theorem execLockstepMismatch_in (h : Within m z s) (hm : Sub 536870904 m) : Nexts m z (execLockstepMismatch s) := by
  unfold execLockstepMismatch
  with_reducible repeat' first | assumption | apply State.causeAny_in | apply Nexts.next | apply nexts_ite | apply State.cause_in | apply State.assertReset_in | apply within_ite | intro _ | split | dsimp only
  all_goals exact hm.of (by decide)

theorem execConsecutiveMissLimit_in (h : Within m z s) (hm : Sub 84117800 m) : Nexts m z (execConsecutiveMissLimit s) := by
  unfold execConsecutiveMissLimit
  with_reducible repeat' first | assumption | decide | apply Nexts.next | apply nexts_ite | apply State.causeOn_in | apply within_ite | intro _ | split | dsimp only
  all_goals exact hm.of (by decide)

theorem execTimebaseWatchExpiry_in (h : Within m z s) (hm : Sub 84117800 m) : Nexts m z (execTimebaseWatchExpiry s) := by
  unfold execTimebaseWatchExpiry
  with_reducible repeat' first | assumption | decide | apply Nexts.next | apply nexts_ite | apply State.causeOn_in | apply within_ite | intro _ | split | dsimp only
  all_goals exact hm.of (by decide)

theorem State.watchBoundary_in (h : Within m z s) (hm : Sub 131072 m) : Within m z (State.watchBoundary s) := by
  unfold State.watchBoundary
  with_reducible repeat' first | assumption | apply State.setActive_in | apply State.cond_in | apply within_ite | intro _ | split | dsimp only
  all_goals exact hm.of (by decide)

theorem execOffPathReadbackFault_in (h : Within m z s) (hm : Sub 84117800 m) (on) : Nexts m z (execOffPathReadbackFault on s) := by
  unfold execOffPathReadbackFault
  with_reducible repeat' first | assumption | decide | apply Nexts.next | apply nexts_ite | apply State.causeOn_in | apply within_ite | intro _ | split | dsimp only
  all_goals exact hm.of (by decide)

theorem execSrsRequest_in (h : Within m z s) (hm : Sub 84117800 m) : Nexts m z (execSrsRequest s) := by
  unfold execSrsRequest
  with_reducible repeat' first | assumption | apply Nexts.next | apply nexts_ite | apply State.srsRequest_in | intro _ | split
  all_goals exact hm.of (by decide)

theorem execSrsTimeLimit_in (h : Within m z s) (hm : Sub 84117800 m) (port) : Nexts m z (execSrsTimeLimit port s) := by
  unfold execSrsTimeLimit
  with_reducible repeat' first | assumption | decide | apply Nexts.next | apply nexts_ite | apply State.cause_in | apply within_ite | intro _ | split | dsimp only
  all_goals exact hm.of (by decide)

theorem execSgrComplete_in (h : Within m z s) (hm : Sub 8 m) : Nexts m z (execSgrComplete s) := by
  unfold execSgrComplete
  with_reducible repeat' first | assumption | apply Nexts.next | apply nexts_ite | apply State.setFlag_in | apply within_ite | intro _ | split | dsimp only
  all_goals exact hm.of (by decide)

theorem execSgrReadbackTimeout_in (h : Within m z s) (hm : Sub 16779304 m) (unconfirmed) : Nexts m z (execSgrReadbackTimeout unconfirmed s) := by
  unfold execSgrReadbackTimeout
  with_reducible repeat' first | assumption | apply Nexts.next | apply nexts_ite | apply State.post_in | apply State.setFlag_in | intro _ | split
  all_goals exact hm.of (by decide)

theorem State.gdenCmd_in (h : Within m z s) (hm : Sub 8 m) : Within m z (State.gdenCmd s) := by
  unfold State.gdenCmd
  with_reducible repeat' first | assumption | apply State.setFld_in | apply within_ite | intro _ | split | dsimp only
  all_goals exact hm.of (by decide)

theorem State.oneLane_in (h : Within m z s) (hm : Sub 8 m) : Within m z (State.oneLane s) := by
  unfold State.oneLane
  with_reducible repeat' first | assumption | apply State.setFlag_in | intro _ | split
  all_goals exact hm.of (by decide)

theorem State.sayHello_in (h : Within m z s) (hm : Sub 65536 m) (l) : Within m z (State.sayHello s l) := by
  unfold State.sayHello
  with_reducible repeat' first | assumption | apply within_ite | (apply Within.set_pair; first | assumption | apply within_ite) | intro _ | split | dsimp only
  all_goals exact hm.of (by decide)

theorem State.mirrorLane_in (h : Within m z s) (hm : Sub 65544 m) (l) : Within m z (State.mirrorLane s l) := by
  unfold State.mirrorLane
  with_reducible repeat' first | assumption | apply State.oneLane_in | apply State.sayHello_in | apply State.modPair_in | apply within_ite | (apply Within.set_pair; first | assumption | apply State.oneLane_in | apply State.sayHello_in | apply State.modPair_in | apply within_ite) | intro _ | split | dsimp only
  all_goals exact hm.of (by decide)

theorem State.toLane_in (h : Within m z s) (hm : Sub 16844840 m) (l) (n) : Within m z (State.toLane s l n) := by
  unfold State.toLane
  with_reducible repeat' first | assumption | apply State.setFld_in | apply State.post_in | apply State.mirrorLane_in | apply State.gdenCmd_in | apply within_ite | intro _ | split | dsimp only
  all_goals exact hm.of (by decide)

theorem State.faultSlots_in (h : Within m z s) (hm : Sub 16779560 m) (l) (mask) : Within m z (State.faultSlots s l mask) := by
  unfold State.faultSlots
  with_reducible repeat' first | assumption | apply State.forUnits_in | apply State.raiseLeg_in | apply State.setFlag_in | apply State.post_in | apply within_ite | intro _ | split
  all_goals exact hm.of (by decide)

theorem State.loseLane_in (h : Within m z s) (hm : Sub 16845096 m) (l) : Within m z (State.loseLane s l) := by
  unfold State.loseLane
  with_reducible repeat' first | assumption | apply State.toLane_in | apply State.cond_in | apply State.faultSlots_in | intro _ | split
  all_goals exact hm.of (by decide)

theorem State.checkLoss_in (h : Within m z s) (hm : Sub 16845096 m) (l) : Within m z (State.checkLoss s l) := by
  unfold State.checkLoss
  with_reducible repeat' first | assumption | apply State.cond_in | apply State.loseLane_in | intro _ | split
  all_goals exact hm.of (by decide)

theorem State.laneStops_in (h : Within m z s) (hm : Sub 16845096 m) (l) : Within m z (State.laneStops s l) := by
  unfold State.laneStops
  with_reducible repeat' first | assumption | apply State.setFlag_in | apply State.checkLoss_in | apply State.toLane_in | apply State.post_in | apply within_ite | intro _ | split | dsimp only
  all_goals exact hm.of (by decide)

theorem execLosChange_in (h : Within m z s) (hm : Sub 16845096 m) (lane) (on) : Nexts m z (execLosChange lane on s) := by
  unfold execLosChange
  with_reducible repeat' first | assumption | apply Nexts.next | apply nexts_ite | apply State.checkLoss_in | apply State.setFlag_in | intro _ | split
  all_goals exact hm.of (by decide)

theorem execLolChange_in (h : Within m z s) (hm : Sub 16845096 m) (lane) (on) : Nexts m z (execLolChange lane on s) := by
  unfold execLolChange
  with_reducible repeat' first | assumption | apply Nexts.next | apply nexts_ite | apply State.setFlag_in | apply State.checkLoss_in | apply within_ite | intro _ | split | dsimp only
  all_goals exact hm.of (by decide)

theorem execCommaReceived_in (h : Within m z s) (hm : Sub 32776 m) (lane) (pos) : Nexts m z (execCommaReceived lane pos s) := by
  unfold execCommaReceived
  with_reducible repeat' first | assumption | apply Nexts.next | apply nexts_ite | apply State.setFlag_in | apply State.setFld_in | apply State.cond_in | apply within_ite | (apply Within.set_gl; first | assumption | apply Nexts.next | apply nexts_ite | apply State.setFlag_in | apply State.setFld_in | apply State.cond_in | apply within_ite) | intro _ | split | dsimp only
  all_goals exact hm.of (by decide)

theorem execAlignmentLoss_in (h : Within m z s) (hm : Sub 16877864 m) (lane) : Nexts m z (execAlignmentLoss lane s) := by
  unfold execAlignmentLoss
  with_reducible repeat' first | assumption | apply Nexts.next | apply nexts_ite | apply State.checkLoss_in | apply State.setFlag_in | apply State.countN_in | (apply Within.set_gl; first | assumption | apply Nexts.next | apply nexts_ite | apply State.checkLoss_in | apply State.setFlag_in | apply State.countN_in) | intro _ | split
  all_goals exact hm.of (by decide)

theorem State.measure_in (h : Within m z s) (hm : Sub 16845096 m) (l) : Within m z (State.measure s l) := by
  unfold State.measure
  with_reducible repeat' first | assumption | apply State.setFld_in | apply State.cond_in | apply State.setFlag_in | apply State.loseLane_in | apply within_ite | intro _ | split | dsimp only
  all_goals exact hm.of (by decide)

theorem execPingSend_in (h : Within m z s) (hm : Sub 32768 m) (lane) : Nexts m z (execPingSend lane s) := by
  unfold execPingSend
  with_reducible repeat' first | assumption | apply Nexts.next | apply nexts_ite | apply State.modLane_in | apply within_ite | intro _ | split | dsimp only
  all_goals exact hm.of (by decide)

theorem execEchoReceived_in (h : Within m z s) (hm : Sub 16877864 m) (lane) (seq) (rtt) : Nexts m z (execEchoReceived lane seq rtt s) := by
  unfold execEchoReceived
  with_reducible repeat' first | assumption | apply Nexts.next | apply nexts_ite | apply State.modLane_in | apply State.measure_in | apply within_ite | intro _ | split | dsimp only
  all_goals exact hm.of (by decide)

theorem execEchoLost_in (h : Within m z s) (hm : Sub 32768 m) (lane) : Nexts m z (execEchoLost lane s) := by
  unfold execEchoLost
  with_reducible repeat' first | assumption | apply Nexts.next | apply nexts_ite | apply State.modLane_in | apply within_ite | intro _ | split | dsimp only
  all_goals exact hm.of (by decide)

theorem execParamSend_in (h : Within m z s) (hm : Sub 32768 m) (lane) (addr) : Nexts m z (execParamSend lane addr s) := by
  unfold execParamSend
  with_reducible repeat' first | assumption | apply Nexts.next | apply nexts_ite | apply State.modLane_in | apply within_ite | intro _ | split | dsimp only
  all_goals exact hm.of (by decide)

theorem State.markDue_in (h : Within m z s) (hm : Sub 32768 m) (l) : Within m z (State.markDue s l) := by
  unfold State.markDue
  with_reducible repeat' first | assumption | apply State.modLane_in | apply within_ite | intro _ | split | dsimp only
  all_goals exact hm.of (by decide)

theorem State.nextPrograms_in (h : Within m z s) (hm : Sub 84126504 m) : Within m z (State.nextPrograms s) := by
  unfold State.nextPrograms
  with_reducible repeat' first | assumption | apply State.forUnits_in | apply State.setFld_in | apply State.endPeriodLeg_in | apply State.reloadBundles_in | apply State.releaseLegs_in | apply State.formLeg_in | apply within_ite | intro _ | split | dsimp only
  all_goals exact hm.of (by decide)

theorem State.guardFrame_in (h : Within m z s) (hm : Sub 84117800 m) (t : State) (l) : Within m z (State.guardFrame s t l) := by
  unfold State.guardFrame
  with_reducible repeat' first | assumption | apply State.crossfire_in | apply foldl_in | apply within_ite | intro _ | split | dsimp only
  all_goals exact hm.of (by decide)

theorem execFrameSlotOpen_in (h : Within m z s) (hm : Sub 84126504 m) (lane) : Nexts m z (execFrameSlotOpen lane s) := by
  unfold execFrameSlotOpen
  with_reducible repeat' first | assumption | apply Nexts.next | apply nexts_ite | apply State.nextPrograms_in | apply State.guardFrame_in | apply State.modLane_in | apply foldl_in | apply within_ite | intro _ | split | dsimp only
  all_goals exact hm.of (by decide)

theorem State.takeSlot_in (h : Within m z s) (hm : Sub 8 m) (l) (k0) (b) : Within m z (State.takeSlot s l k0 b) := by
  unfold State.takeSlot
  with_reducible repeat' first | assumption | apply State.setFld_in | apply State.setFlag_in | intro _ | split
  all_goals exact hm.of (by decide)

theorem State.remeasure_in (h : Within m z s) (hm : Sub 16845096 m) (l) (a) : Within m z (State.remeasure s l a) := by
  unfold State.remeasure
  with_reducible repeat' first | assumption | apply State.measure_in | apply within_ite | intro _ | split | dsimp only
  all_goals exact hm.of (by decide)

theorem execStatusFrameReceived_in (h : Within m z s) (hm : Sub 16877864 m) (lane) (bytes) : Nexts m z (execStatusFrameReceived lane bytes s) := by
  unfold execStatusFrameReceived
  with_reducible repeat' first | assumption | apply Nexts.next | apply nexts_ite | apply State.count_in | apply State.modLane_in | apply State.setFlag_in | apply State.forUnits_in | apply State.takeSlot_in | apply State.remeasure_in | apply State.cond_in | apply State.faultSlots_in | apply within_ite | intro _ | split | dsimp only
  all_goals exact hm.of (by decide)

theorem execAlertReceived_in (h : Within m z s) (hm : Sub 16779560 m) (lane) (mask) (check) : Nexts m z (execAlertReceived lane mask check s) := by
  unfold execAlertReceived
  with_reducible repeat' first | assumption | apply Nexts.next | apply nexts_ite | apply State.faultSlots_in | intro _ | split
  all_goals exact hm.of (by decide)

theorem State.endMeasure_in (h : Within m z s) (hm : Sub 16877608 m) (l) : Within m z (State.endMeasure s l) := by
  unfold State.endMeasure
  with_reducible repeat' first | assumption | apply State.setFlag_in | apply State.modLane_in | apply State.toLane_in | apply within_ite | intro _ | split | dsimp only
  all_goals exact hm.of (by decide)

theorem State.beginMeasure_in (h : Within m z s) (hm : Sub 16877608 m) (l) : Within m z (State.beginMeasure s l) := by
  unfold State.beginMeasure
  with_reducible repeat' first | assumption | apply State.modLane_in | apply State.toLane_in | apply State.setFlag_in | intro _ | split
  all_goals exact hm.of (by decide)

theorem execLaneStateChange_in (h : Within m z s) (hm : Sub 16877608 m) (lane) : Nexts m z (execLaneStateChange lane s) := by
  unfold execLaneStateChange
  with_reducible repeat' first | assumption | apply Nexts.next | apply nexts_ite | apply State.toLane_in | apply State.setFlag_in | apply State.beginMeasure_in | apply State.endMeasure_in | apply within_ite | (apply Within.set_gl; first | assumption | apply Nexts.next | apply nexts_ite | apply State.toLane_in | apply State.setFlag_in | apply State.beginMeasure_in | apply State.endMeasure_in | apply within_ite) | intro _ | split | dsimp only
  all_goals exact hm.of (by decide)

theorem execLaneStatusTimeout_in (h : Within m z s) (hm : Sub 16845096 m) (lane) : Nexts m z (execLaneStatusTimeout lane s) := by
  unfold execLaneStatusTimeout
  with_reducible repeat' first | assumption | apply Nexts.next | apply nexts_ite | apply State.loseLane_in | intro _ | split
  all_goals exact hm.of (by decide)

theorem execLaneLostTimeout_in (h : Within m z s) (hm : Sub 16844840 m) (lane) : Nexts m z (execLaneLostTimeout lane s) := by
  unfold execLaneLostTimeout
  with_reducible repeat' first | assumption | apply Nexts.next | apply nexts_ite | apply State.toLane_in | intro _ | split
  all_goals exact hm.of (by decide)

theorem State.gdenSample_in (h : Within m z s) (hm : Sub 84117800 m) (pins) (g) : Within m z (State.gdenSample s pins g) := by
  unfold State.gdenSample
  with_reducible repeat' first | assumption | decide | apply State.modLane_in | apply State.setFld_in | apply State.cause_in | apply State.post_in | apply within_ite | intro _ | split | dsimp only
  all_goals exact hm.of (by decide)

theorem execGdenReadbackSample_in (h : Within m z s) (hm : Sub 84117800 m) (pins) : Nexts m z (execGdenReadbackSample pins s) := by
  unfold execGdenReadbackSample
  with_reducible repeat' first | assumption | apply Nexts.next | apply nexts_ite | apply State.setFld_in | apply State.modStw_in | apply State.forUnits_in | apply State.gdenSample_in | apply State.setActive_in | apply within_ite | intro _ | split | dsimp only
  all_goals exact hm.of (by decide)

theorem State.clearLanes_in (h : Within m z s) (hm : Sub 32776 m) (mask) (phase) : Within m z (State.clearLanes s mask phase) := by
  unfold State.clearLanes
  with_reducible repeat' first | assumption | apply State.gdenCmd_in | apply State.forUnits_in | apply State.modLane_in | apply within_ite | intro _ | split
  all_goals exact hm.of (by decide)

theorem execGdClear_in (h : Within m z s) (hm : Sub 2195480 m) (tag) : Nexts m z (execGdClear tag s) := by
  unfold execGdClear
  with_reducible repeat' first | assumption | apply Nexts.next | apply nexts_ite | apply serve_in | apply State.done_in | apply State.start_in | apply State.clearLanes_in | apply within_ite | (apply Within.set_pair; first | assumption | apply Nexts.next | apply nexts_ite | apply serve_in | apply State.done_in | apply State.start_in | apply State.clearLanes_in | apply within_ite) | intro _ | split
  all_goals exact hm.of (by decide)

theorem execGdenLowEnd_in (h : Within m z s) (hm : Sub 98312 m) (lane) : Nexts m z (execGdenLowEnd lane s) := by
  unfold execGdenLowEnd
  with_reducible repeat' first | assumption | apply Nexts.next | apply nexts_ite | apply State.clearLanes_in | apply within_ite | (apply Within.set_pair; first | assumption | apply Nexts.next | apply nexts_ite | apply State.clearLanes_in | apply within_ite) | intro _ | split
  all_goals exact hm.of (by decide)

theorem execGdClearStatusWaitEnd_in (h : Within m z s) (hm : Sub 2129944 m) (lane) : Nexts m z (execGdClearStatusWaitEnd lane s) := by
  unfold execGdClearStatusWaitEnd
  with_reducible repeat' first | assumption | apply Nexts.next | apply nexts_ite | apply State.done_in | apply State.modLane_in | apply State.forUnits_in | apply State.setFlag_in | apply within_ite | intro _ | split | dsimp only
  all_goals exact hm.of (by decide)

end Sys2Proof.Machine
end

