-- ==== Sys2Proof/Laws/Frame1.lean ====
section
/-!
SUPPORT. What the operations and the meanings of these files of Machine change (see Laws/Frame):
SafetyPdu, Ptp, CapCore, Network, Run, Gaits, Observer, HlpOps, Coef, SafetyCmds, FieldIo, HlpInstr, HlpCycle, PairLink, Mirror.
-/
namespace Sys2Proof.Machine

set_option linter.unusedTactic false
set_option linter.unreachableTactic false

variable {m : Nat} {z s : State}

theorem State.modRx_in (h : Within m z s) (hm : Sub 131072 m) (r) (f) : Within m z (State.modRx s r f) := by
  unfold State.modRx
  with_reducible repeat' first | assumption | apply State.modStw_in | intro _ | split
  all_goals exact hm.of (by decide)

theorem State.pduCauseFor_in (h : Within m z s) (hm : Sub 84117800 m) (c) (r) (mask) (hc : causeClass c ≠ 4) : Within m z (State.pduCauseFor s c r mask) := by
  unfold State.pduCauseFor
  with_reducible repeat' first | assumption | decide | apply State.causeWith_in | apply within_ite | intro _ | split | dsimp only
  all_goals exact hm.of (by decide)

theorem State.pduCause_in (h : Within m z s) (hm : Sub 84117800 m) (c) (r) (hc : causeClass c ≠ 4) : Within m z (State.pduCause s c r) := by
  unfold State.pduCause
  with_reducible repeat' first | assumption | decide | apply State.pduCauseFor_in | apply within_ite | intro _ | split | dsimp only
  all_goals exact hm.of (by decide)

theorem State.wdActive_in (h : Within m z s) (hm : Sub 131072 m) : Within m z (State.wdActive s) := by
  unfold State.wdActive
  with_reducible repeat' first | assumption | apply State.setActive_in | intro _ | split
  all_goals exact hm.of (by decide)

theorem State.demandActive_in (h : Within m z s) (hm : Sub 131072 m) : Within m z (State.demandActive s) := by
  unfold State.demandActive
  with_reducible repeat' first | assumption | apply State.setActive_in | intro _ | split
  all_goals exact hm.of (by decide)

theorem State.pduAccept_in (h : Within m z s) (hm : Sub 84117800 m) (r) (b) : Within m z (State.pduAccept s r b) := by
  unfold State.pduAccept
  with_reducible repeat' first | assumption | decide | apply State.modRx_in | apply State.setFld_in | apply State.cond_in | apply State.pduCauseFor_in | apply State.setActive_in | apply State.demandActive_in | apply within_ite | intro _ | split | dsimp only
  all_goals exact hm.of (by decide)

theorem State.pduPair_in (h : Within m z s) (hm : Sub 84117800 m) (r) : Within m z (State.pduPair s r) := by
  unfold State.pduPair
  with_reducible repeat' first | assumption | decide | apply State.pduAccept_in | apply State.setActive_in | apply State.pduCause_in | apply State.setFlag_in | apply State.modRx_in | apply within_ite | intro _ | split | dsimp only
  all_goals exact hm.of (by decide)

theorem execPduCopyReceived_in (h : Within m z s) (hm : Sub 84117800 m) (net) (conn) (bytes) : Nexts m z (execPduCopyReceived net conn bytes s) := by
  unfold execPduCopyReceived
  with_reducible repeat' first | assumption | apply Nexts.next | apply nexts_ite | apply State.count_in | apply State.modRx_in | apply State.setFlag_in | apply State.wdActive_in | apply State.pduPair_in | apply within_ite | intro _ | split | dsimp only
  all_goals exact hm.of (by decide)

theorem execPduWatchdogExpiry_in (h : Within m z s) (hm : Sub 84117800 m) (conn) (net) : Nexts m z (execPduWatchdogExpiry conn net s) := by
  unfold execPduWatchdogExpiry
  with_reducible repeat' first | assumption | decide | apply Nexts.next | apply nexts_ite | apply State.wdActive_in | apply State.pduCause_in | apply State.setFlag_in | apply within_ite | intro _ | split | dsimp only
  all_goals exact hm.of (by decide)

theorem State.launchOn_in (h : Within m z s) (hm : Sub 2097160 m) (m0) (n) : Within m z (State.launchOn s m0 n) := by
  unfold State.launchOn
  with_reducible repeat' first | assumption | apply State.modMac_in | apply State.count_in | apply within_ite | intro _ | split | dsimp only
  all_goals exact hm.of (by decide)

theorem State.handOver_in (h : Within m z s) (hm : Sub 2097152 m) (m0) (t) : Within m z (State.handOver s m0 t) := by
  unfold State.handOver
  with_reducible repeat' first | assumption | apply State.modMac_in | apply within_ite | intro _ | split | dsimp only
  all_goals exact hm.of (by decide)

theorem execPduSend_in (h : Within m z s) (hm : Sub 2228232 m) (conn) : Nexts m z (execPduSend conn s) := by
  unfold execPduSend
  with_reducible repeat' first | assumption | apply Nexts.next | apply nexts_ite | apply State.modStw_in | apply State.setFld_in | apply State.handOver_in | apply within_ite | intro _ | split | dsimp only
  all_goals exact hm.of (by decide)

theorem State.modLink_in (h : Within m z s) (hm : Sub 4194304 m) (m0) (f) : Within m z (State.modLink s m0 f) := by
  unfold State.modLink
  with_reducible repeat' first | assumption | apply State.modPtp_in | apply within_ite | intro _ | split | dsimp only
  all_goals exact hm.of (by decide)

theorem State.ptpSend_in (h : Within m z s) (hm : Sub 2097152 m) (m0) (t) : Within m z (State.ptpSend s m0 t) := by
  unfold State.ptpSend
  with_reducible repeat' first | assumption | apply State.modMac_in | apply within_ite | intro _ | split | dsimp only
  all_goals exact hm.of (by decide)

theorem State.bestMaster_in (h : Within m z s) (hm : Sub 20973608 m) (expired) : Within m z (State.bestMaster s expired) := by
  unfold State.bestMaster
  with_reducible repeat' first | assumption | apply State.modPtp_in | apply State.setFlag_in | apply State.showPtp_in | apply State.cond_in | apply State.dropLock_in | apply State.setTbLock_in | apply within_ite | intro _ | split | dsimp only
  all_goals exact hm.of (by decide)

theorem State.settleDelay_in (h : Within m z s) (hm : Sub 4194304 m) (m0) : Within m z (State.settleDelay s m0) := by
  unfold State.settleDelay
  with_reducible repeat' first | assumption | apply State.modLink_in | apply within_ite | intro _ | split | dsimp only
  all_goals exact hm.of (by decide)

theorem State.exchange_in (h : Within m z s) (hm : Sub 4194304 m) (m0) (seq) (f) : Within m z (State.exchange s m0 seq f) := by
  unfold State.exchange
  with_reducible repeat' first | assumption | apply State.modLink_in | apply State.settleDelay_in | apply within_ite | intro _ | split | dsimp only
  all_goals exact hm.of (by decide)

theorem State.syncDone_in (h : Within m z s) (hm : Sub 4194304 m) (m0) (seq) (t1) : Within m z (State.syncDone s m0 seq t1) := by
  unfold State.syncDone
  with_reducible repeat' first | assumption | apply State.modLink_in | apply within_ite | intro _ | split | dsimp only
  all_goals exact hm.of (by decide)

theorem State.hearAnnounce_in (h : Within m z s) (hm : Sub 20973608 m) (m0) (l) : Within m z (State.hearAnnounce s m0 l) := by
  unfold State.hearAnnounce
  with_reducible repeat' first | assumption | apply State.modPtp_in | apply State.modLink_in | apply State.bestMaster_in | apply within_ite | intro _ | split | dsimp only
  all_goals exact hm.of (by decide)

theorem State.ptpReceive_in (h : Within m z s) (hm : Sub 23070760 m) (m0) (l) (stamp) : Within m z (State.ptpReceive s m0 l stamp) := by
  unfold State.ptpReceive
  with_reducible repeat' first | assumption | apply State.modLink_in | apply State.syncDone_in | apply State.ptpSend_in | apply State.exchange_in | apply State.hearAnnounce_in | apply within_ite | intro _ | split | dsimp only
  all_goals exact hm.of (by decide)

theorem State.ptpLaunch_in (h : Within m z s) (hm : Sub 6291464 m) (m0) (k) : Within m z (State.ptpLaunch s m0 k) := by
  unfold State.ptpLaunch
  with_reducible repeat' first | assumption | apply State.launchOn_in | apply State.modLink_in | apply within_ite | intro _ | split | dsimp only
  all_goals exact hm.of (by decide)

theorem State.ptpGone_in (h : Within m z s) (hm : Sub 4194304 m) (m0) (id) (k) : Within m z (State.ptpGone s m0 id k) := by
  unfold State.ptpGone
  with_reducible repeat' first | assumption | apply State.modLink_in | apply within_ite | intro _ | split | dsimp only
  all_goals exact hm.of (by decide)

theorem State.useStamp_in (h : Within m z s) (hm : Sub 6291456 m) (m0) (e) : Within m z (State.useStamp s m0 e) := by
  unfold State.useStamp
  with_reducible repeat' first | assumption | apply State.modLink_in | apply State.ptpSend_in | apply State.exchange_in | apply within_ite | intro _ | split | dsimp only
  all_goals exact hm.of (by decide)

theorem State.calibrated_in (h : Within m z s) (hm : Sub 4194312 m) (m0) (off) : Within m z (State.calibrated s m0 off) := by
  unfold State.calibrated
  with_reducible repeat' first | assumption | apply State.modPtp_in | apply State.showPtp_in | apply within_ite | intro _ | split | dsimp only
  all_goals exact hm.of (by decide)

theorem State.capRate_in (h : Within m z s) (hm : Sub 8 m) : Within m z (State.capRate s) := by
  unfold State.capRate
  with_reducible repeat' first | assumption | apply State.setFld_in | intro _ | split
  all_goals exact hm.of (by decide)

theorem State.modCap_in (h : Within m z s) (hm : Sub 8388608 m) (f) : Within m z (State.modCap s f) := by
  unfold State.modCap
  with_reducible repeat' first | assumption | (apply Within.set_cap; first | assumption) | intro _ | split
  all_goals exact hm.of (by decide)

theorem State.capLevel_in (h : Within m z s) (hm : Sub 8 m) : Within m z (State.capLevel s) := by
  unfold State.capLevel
  with_reducible repeat' first | assumption | apply State.setFld_in | intro _ | split
  all_goals exact hm.of (by decide)

theorem State.capPut_in (h : Within m z s) (hm : Sub 8388616 m) (r) : Within m z (State.capPut s r) := by
  unfold State.capPut
  with_reducible repeat' first | assumption | apply State.modCap_in | apply State.count_in | apply within_ite | intro _ | split
  all_goals exact hm.of (by decide)

theorem State.capPush_in (h : Within m z s) (hm : Sub 25167912 m) (r) : Within m z (State.capPush s r) := by
  unfold State.capPush
  with_reducible repeat' first | assumption | apply State.capPut_in | apply State.modCap_in | apply State.post_in | apply within_ite | intro _ | split
  all_goals exact hm.of (by decide)

theorem State.capSample_in (h : Within m z s) (hm : Sub 25167912 m) (i) (pnum) (v) : Within m z (State.capSample s i pnum v) := by
  unfold State.capSample
  with_reducible repeat' first | assumption | apply State.modCap_in | apply State.capPush_in | apply within_ite | intro _ | split | dsimp only
  all_goals exact hm.of (by decide)

theorem State.capAnswer_in (h : Within m z s) (hm : Sub 2097168 m) (op) (n) : Within m z (State.capAnswer s op n) := by
  unfold State.capAnswer
  with_reducible repeat' first | assumption | apply State.complete_in | apply within_ite | intro _ | split | dsimp only
  all_goals exact hm.of (by decide)

theorem State.capPaddock_in (h : Within m z s) (hm : Sub 10485784 m) : Within m z (State.capPaddock s) := by
  unfold State.capPaddock
  with_reducible repeat' first | assumption | apply State.countN_in | apply State.modCap_in | apply State.setFld_in | apply State.setFlag_in | apply State.capLevel_in | apply State.capAnswer_in | apply within_ite | intro _ | split | dsimp only
  all_goals exact hm.of (by decide)

theorem State.ptpFrame_in (h : Within m z s) (hm : Sub 23070760 m) (m0) (k) : Within m z (State.ptpFrame s m0 k) := by
  unfold State.ptpFrame
  with_reducible repeat' first | assumption | apply State.modMac_in | apply State.ptpReceive_in | apply within_ite | intro _ | split | dsimp only
  all_goals exact hm.of (by decide)

theorem execEthernetFrameReceived_in (h : Within m z s) (hm : Sub 23070760 m) (mac) (f) : Nexts m z (execEthernetFrameReceived mac f s) := by
  unfold execEthernetFrameReceived
  with_reducible repeat' first | assumption | apply Nexts.next | apply nexts_ite | apply State.modMac_in | apply State.count_in | apply State.cond_in | apply State.ptpFrame_in | apply within_ite | intro _ | split | dsimp only
  all_goals exact hm.of (by decide)

theorem State.launchPdu_in (h : Within m z s) (hm : Sub 2097160 m) (m0) : Within m z (State.launchPdu s m0) := by
  unfold State.launchPdu
  with_reducible repeat' first | assumption | apply State.modMac_in | apply State.launchOn_in | apply within_ite | intro _ | split | dsimp only
  all_goals exact hm.of (by decide)

theorem execScheduledLaunch_in (h : Within m z s) (hm : Sub 6291480 m) (mac) (ptp) : Nexts m z (execScheduledLaunch mac ptp s) := by
  unfold execScheduledLaunch
  with_reducible repeat' first | assumption | apply Nexts.next | apply nexts_ite | apply State.launchPdu_in | apply State.ptpLaunch_in | apply State.ordinary_in | apply within_ite | intro _ | split | dsimp only
  all_goals exact hm.of (by decide)

theorem execLinkChange_in (h : Within m z s) (hm : Sub 16779304 m) (mac) (up) (speed) : Nexts m z (execLinkChange mac up speed s) := by
  unfold execLinkChange
  with_reducible repeat' first | assumption | apply Nexts.next | apply nexts_ite | apply State.post_in | apply State.setFld_in | apply State.setFlag_in | apply within_ite | intro _ | split
  all_goals exact hm.of (by decide)

theorem execTxTimestamp_in (h : Within m z s) (hm : Sub 23070760 m) (mac) (id) (type) (oneStep) : Nexts m z (execTxTimestamp mac id type oneStep s) := by
  unfold execTxTimestamp
  with_reducible repeat' first | assumption | apply Nexts.next | apply nexts_ite | apply State.ptpSend_in | apply State.ptpGone_in | apply State.modMac_in | apply State.setFld_in | apply State.count_in | apply State.cond_in | apply State.post_in | apply within_ite | intro _ | split | dsimp only
  all_goals exact hm.of (by decide)

theorem execTimestampDrain_in (h : Within m z s) (hm : Sub 6291464 m) (mac) : Nexts m z (execTimestampDrain mac s) := by
  unfold execTimestampDrain
  with_reducible repeat' first | assumption | apply Nexts.next | apply nexts_ite | apply State.modMac_in | apply State.setFld_in | apply State.ptpGone_in | apply State.useStamp_in | apply within_ite | intro _ | split | dsimp only
  all_goals exact hm.of (by decide)

theorem State.servo_in (h : Within m z s) (hm : Sub 22022188 m) (off) : Within m z (State.servo s off) := by
  unfold State.servo
  with_reducible repeat' first | assumption | apply State.adjTb_in | apply State.setTbLock_in | apply State.bump_in | apply State.modPtp_in | apply within_ite | intro _ | split | dsimp only
  all_goals exact hm.of (by decide)

theorem execPtpServoUpdate_in (h : Within m z s) (hm : Sub 22022188 m) : Nexts m z (execPtpServoUpdate s) := by
  unfold execPtpServoUpdate
  with_reducible repeat' first | assumption | apply Nexts.next | apply nexts_ite | apply State.modLink_in | apply State.servo_in | apply State.calibrated_in | apply within_ite | intro _ | split | dsimp only
  all_goals exact hm.of (by decide)

theorem execHoldMaxExpiry_in (h : Within m z s) (hm : Sub 20973608 m) : Nexts m z (execHoldMaxExpiry s) := by
  unfold execHoldMaxExpiry
  with_reducible repeat' first | assumption | apply Nexts.next | apply nexts_ite | apply State.dropLock_in | intro _ | split
  all_goals exact hm.of (by decide)

theorem execAnnounceReceiptTimeout_in (h : Within m z s) (hm : Sub 20973608 m) (mac) : Nexts m z (execAnnounceReceiptTimeout mac s) := by
  unfold execAnnounceReceiptTimeout
  with_reducible repeat' first | assumption | apply Nexts.next | apply nexts_ite | apply State.modLink_in | apply State.bestMaster_in | apply within_ite | intro _ | split | dsimp only
  all_goals exact hm.of (by decide)

theorem execTbRead_in (h : Within m z s) (hm : Sub 2097168 m) (tag) : Nexts m z (execTbRead tag s) := by
  unfold execTbRead
  with_reducible repeat' first | assumption | apply Nexts.next | apply nexts_ite | apply serve_in | apply State.complete_in | intro _ | split
  all_goals exact hm.of (by decide)

theorem execTbSet_in (h : Within m z s) (hm : Sub 24119352 m) (tag) : Nexts m z (execTbSet tag s) := by
  unfold execTbSet
  with_reducible repeat' first | assumption | apply Nexts.next | apply nexts_ite | apply serve_in | apply State.done_in | apply State.stepTb_in | apply State.cond_in | apply State.dropLock_in | apply within_ite | intro _ | split | dsimp only
  all_goals exact hm.of (by decide)

theorem execTbAdj_in (h : Within m z s) (hm : Sub 24119352 m) (tag) : Nexts m z (execTbAdj tag s) := by
  unfold execTbAdj
  with_reducible repeat' first | assumption | apply Nexts.next | apply nexts_ite | apply serve_in | apply State.done_in | apply State.adjTb_in | apply State.cond_in | apply State.dropLock_in | apply within_ite | intro _ | split | dsimp only
  all_goals exact hm.of (by decide)

theorem execPtpCfg_in (h : Within m z s) (hm : Sub 23070776 m) (tag) : Nexts m z (execPtpCfg tag s) := by
  unfold execPtpCfg
  with_reducible repeat' first | assumption | apply Nexts.next | apply nexts_ite | apply serve_in | apply State.done_in | apply State.modPtp_in | apply State.setFlag_in | apply State.showPtp_in | apply State.setTbLock_in | apply foldl_in | apply within_ite | intro _ | split | dsimp only
  all_goals exact hm.of (by decide)

theorem execRunGo_in (h : Within m z s) (hm : Sub 2097176 m) (tag) : Nexts m z (execRunGo tag s) := by
  unfold execRunGo
  with_reducible repeat' first | assumption | apply Nexts.next | apply nexts_ite | apply serve_in | apply State.done_in | apply State.setFld_in | apply within_ite | intro _ | split
  all_goals exact hm.of (by decide)

theorem execRunStall_in (h : Within m z s) (hm : Sub 2097176 m) (tag) : Nexts m z (execRunStall tag s) := by
  unfold execRunStall
  with_reducible repeat' first | assumption | apply Nexts.next | apply nexts_ite | apply serve_in | apply State.done_in | apply State.setFld_in | apply within_ite | intro _ | split
  all_goals exact hm.of (by decide)

theorem State.waitPort_in (h : Within m z s) (hm : Sub 272 m) (e) : Within m z (State.waitPort s e) := by
  unfold State.waitPort
  with_reducible repeat' first | assumption | apply State.modPort_in | apply State.start_in | intro _ | split
  all_goals exact hm.of (by decide)

theorem State.portGo_in (h : Within m z s) (hm : Sub 2097424 m) (e) (c) : Within m z (State.portGo s e c) := by
  unfold State.portGo
  with_reducible repeat' first | assumption | apply State.done_in | apply State.waitPort_in | intro _ | split
  all_goals exact hm.of (by decide)

theorem execPortArm_in (h : Within m z s) (hm : Sub 2097424 m) (tag) : Nexts m z (execPortArm tag s) := by
  unfold execPortArm
  with_reducible repeat' first | assumption | apply Nexts.next | apply nexts_ite | apply serve_in | apply State.portGo_in | intro _ | split
  all_goals exact hm.of (by decide)

theorem execPortDisarm_in (h : Within m z s) (hm : Sub 2097424 m) (tag) : Nexts m z (execPortDisarm tag s) := by
  unfold execPortDisarm
  with_reducible repeat' first | assumption | apply Nexts.next | apply nexts_ite | apply serve_in | apply State.portGo_in | intro _ | split
  all_goals exact hm.of (by decide)

theorem execPortStart_in (h : Within m z s) (hm : Sub 2097424 m) (tag) : Nexts m z (execPortStart tag s) := by
  unfold execPortStart
  with_reducible repeat' first | assumption | apply Nexts.next | apply nexts_ite | apply serve_in | apply State.portGo_in | intro _ | split
  all_goals exact hm.of (by decide)

theorem execPortStop_in (h : Within m z s) (hm : Sub 2097424 m) (tag) : Nexts m z (execPortStop tag s) := by
  unfold execPortStop
  with_reducible repeat' first | assumption | apply Nexts.next | apply nexts_ite | apply serve_in | apply State.portGo_in | intro _ | split
  all_goals exact hm.of (by decide)

theorem execPortClear_in (h : Within m z s) (hm : Sub 2097424 m) (tag) : Nexts m z (execPortClear tag s) := by
  unfold execPortClear
  with_reducible repeat' first | assumption | apply Nexts.next | apply nexts_ite | apply serve_in | apply State.portGo_in | intro _ | split
  all_goals exact hm.of (by decide)

theorem execReclosePrep_in (h : Within m z s) (hm : Sub 2097424 m) (tag) : Nexts m z (execReclosePrep tag s) := by
  unfold execReclosePrep
  with_reducible repeat' first | assumption | apply Nexts.next | apply nexts_ite | apply serve_in | apply State.portGo_in | intro _ | split
  all_goals exact hm.of (by decide)

theorem execRecloseEnd_in (h : Within m z s) (hm : Sub 2097424 m) (tag) : Nexts m z (execRecloseEnd tag s) := by
  unfold execRecloseEnd
  with_reducible repeat' first | assumption | apply Nexts.next | apply nexts_ite | apply serve_in | apply State.portGo_in | intro _ | split
  all_goals exact hm.of (by decide)

theorem execSpAc_in (h : Within m z s) (hm : Sub 2097168 m) (tag) : Nexts m z (execSpAc tag s) := by
  unfold execSpAc
  with_reducible repeat' first | assumption | apply Nexts.next | apply nexts_ite | apply serve_in | apply State.done_in | apply State.start_in | apply within_ite | intro _ | split
  all_goals exact hm.of (by decide)

theorem execSpDc_in (h : Within m z s) (hm : Sub 2097168 m) (tag) : Nexts m z (execSpDc tag s) := by
  unfold execSpDc
  with_reducible repeat' first | assumption | apply Nexts.next | apply nexts_ite | apply serve_in | apply State.done_in | apply State.start_in | apply within_ite | intro _ | split
  all_goals exact hm.of (by decide)

theorem execSpSlew_in (h : Within m z s) (hm : Sub 2097168 m) (tag) : Nexts m z (execSpSlew tag s) := by
  unfold execSpSlew
  with_reducible repeat' first | assumption | apply Nexts.next | apply nexts_ite | apply serve_in | apply State.done_in | apply State.start_in | apply within_ite | intro _ | split
  all_goals exact hm.of (by decide)

theorem State.applySetpoint_in (h : Within m z s) (hm : Sub 256 m) (e) : Within m z (State.applySetpoint s e) := by
  unfold State.applySetpoint
  with_reducible repeat' first | assumption | apply State.modPort_in | apply within_ite | intro _ | split
  all_goals exact hm.of (by decide)

theorem execSetpointTakesEffect_in (h : Within m z s) (hm : Sub 2097424 m) (tag) : Nexts m z (execSetpointTakesEffect tag s) := by
  unfold execSetpointTakesEffect
  with_reducible repeat' first | assumption | apply Nexts.next | apply nexts_ite | apply State.applySetpoint_in | apply State.doneAt_in | apply within_ite | intro _ | split | dsimp only
  all_goals exact hm.of (by decide)

theorem State.setGait_in (h : Within m z s) (hm : Sub 8 m) (g) : Within m z (State.setGait s g) := by
  unfold State.setGait
  with_reducible repeat' first | assumption | apply State.setFld_in | apply State.forUnits_in | apply State.coreStat_in | apply State.setFlag_in | intro _ | split
  all_goals exact hm.of (by decide)

theorem State.enterPaddock_in (h : Within m z s) (hm : Sub 128953208 m) : Within m z (State.enterPaddock s) := by
  unfold State.enterPaddock
  with_reducible repeat' first | assumption | apply State.capPaddock_in | apply State.setGait_in | apply State.forUnits_in | apply State.modCore_in | apply State.coreStat_in | apply State.box_in | apply State.stopPlls_in | apply State.setFlag_in | apply State.setFld_in | apply State.doSync_in | apply State.post_in | apply State.laneStops_in | apply State.cond_in | apply State.startWake_in | apply within_ite | (apply Within.set_fio; first | assumption | apply State.capPaddock_in | apply State.setGait_in | apply State.forUnits_in | apply State.modCore_in | apply State.coreStat_in | apply State.box_in | apply State.stopPlls_in | apply State.setFlag_in | apply State.setFld_in | apply State.doSync_in | apply State.post_in | apply State.laneStops_in | apply State.cond_in | apply State.startWake_in | apply within_ite) | (apply Within.set_win_pwm_hlp; first | assumption | apply State.capPaddock_in | apply State.setGait_in | apply State.forUnits_in | apply State.modCore_in | apply State.coreStat_in | apply State.box_in | apply State.stopPlls_in | apply State.setFlag_in | apply State.setFld_in | apply State.doSync_in | apply State.post_in | apply State.laneStops_in | apply State.cond_in | apply State.startWake_in | apply within_ite) | intro _ | split | dsimp only
  all_goals exact hm.of (by decide)

theorem execGaitChangeEffect_in (h : Within m z s) (hm : Sub 128953208 m) : Nexts m z (execGaitChangeEffect s) := by
  unfold execGaitChangeEffect
  with_reducible repeat' first | assumption | apply Nexts.next | apply nexts_ite | apply State.setFlag_in | apply State.setFld_in | apply State.post_in | apply State.doneAt_in | apply State.cond_in | apply State.leaveLimp_in | apply State.enterPaddock_in | apply State.setGait_in | apply within_ite | intro _ | split | dsimp only
  all_goals exact hm.of (by decide)

theorem execGaitThermal_in (h : Within m z s) (hm : Sub 50333736 m) (temp) : Nexts m z (execGaitThermal temp s) := by
  unfold execGaitThermal
  with_reducible repeat' first | assumption | apply Nexts.next | apply nexts_ite | apply State.cond_in | apply State.setFlag_in | apply State.post_in | (apply Within.set_clk; first | assumption | apply Nexts.next | apply nexts_ite | apply State.cond_in | apply State.setFlag_in | apply State.post_in) | intro _ | split
  all_goals exact hm.of (by decide)

theorem State.stageRate_in (h : Within m z s) (hm : Sub 640 m) (period) (div) : Within m z (State.stageRate s period div) := by
  unfold State.stageRate
  with_reducible repeat' first | assumption | apply State.modPwm_in | apply State.modCle_in | apply within_ite | intro _ | split
  all_goals exact hm.of (by decide)

theorem execRateChangeEffect_in (h : Within m z s) (hm : Sub 2097168 m) : Nexts m z (execRateChangeEffect s) := by
  unfold execRateChangeEffect
  with_reducible repeat' first | assumption | apply Nexts.next | apply nexts_ite | apply State.complete_in | apply within_ite | intro _ | split
  all_goals exact hm.of (by decide)

theorem State.obsStart_in (h : Within m z s) (hm : Sub 4104 m) (p) : Within m z (State.obsStart s p) := by
  unfold State.obsStart
  with_reducible repeat' first | assumption | apply State.modObs_in | apply State.setFlag_in | apply within_ite | intro _ | split | dsimp only
  all_goals exact hm.of (by decide)

theorem State.obsSwitch_in (h : Within m z s) (hm : Sub 4104 m) (p) : Within m z (State.obsSwitch s p) := by
  unfold State.obsSwitch
  with_reducible repeat' first | assumption | apply State.obsStart_in | apply State.setFlag_in | apply within_ite | intro _ | split
  all_goals exact hm.of (by decide)

theorem State.obsTick_in (h : Within m z s) (hm : Sub 4096 m) (p) : Within m z (State.obsTick s p) := by
  unfold State.obsTick
  with_reducible repeat' first | assumption | apply State.modObs_in | apply within_ite | intro _ | split | dsimp only
  all_goals exact hm.of (by decide)

theorem State.govRamp_in (h : Within m z s) (hm : Sub 4104 m) (p) (target) : Within m z (State.govRamp s p target) := by
  unfold State.govRamp
  with_reducible repeat' first | assumption | apply State.modObs_in | apply State.setFlag_in | apply within_ite | intro _ | split | dsimp only
  all_goals exact hm.of (by decide)

theorem State.govAim_in (h : Within m z s) (hm : Sub 4096 m) (p) (moved) (target) : Within m z (State.govAim s p moved target) := by
  unfold State.govAim
  with_reducible repeat' first | assumption | apply State.modObs_in | apply within_ite | intro _ | split | dsimp only
  all_goals exact hm.of (by decide)

theorem State.govTick_in (h : Within m z s) (hm : Sub 4232 m) (p) : Within m z (State.govTick s p) := by
  unfold State.govTick
  with_reducible repeat' first | assumption | apply State.setFlag_in | apply State.modObs_in | apply State.govWrite_in | apply within_ite | intro _ | split | dsimp only
  all_goals exact hm.of (by decide)

theorem State.govSat_in (h : Within m z s) (hm : Sub 16779304 m) (p) (d) (r) (x) : Within m z (State.govSat s p d r x) := by
  unfold State.govSat
  with_reducible repeat' first | assumption | apply State.cond_in | apply State.setFlag_in | apply State.post_in | intro _ | split
  all_goals exact hm.of (by decide)

theorem State.govAlert_in (h : Within m z s) (hm : Sub 16779304 m) (p) (d) (x) (r) : Within m z (State.govAlert s p d x r) := by
  unfold State.govAlert
  with_reducible repeat' first | assumption | apply State.cond_in | apply State.setFlag_in | apply State.post_in | apply State.count_in | intro _ | split
  all_goals exact hm.of (by decide)

theorem State.govEnter_in (h : Within m z s) (hm : Sub 16779304 m) (p) (old) (new) : Within m z (State.govEnter s p old new) := by
  unfold State.govEnter
  with_reducible repeat' first | assumption | apply State.govSat_in | apply State.govAlert_in | apply within_ite | intro _ | split | dsimp only
  all_goals exact hm.of (by decide)

theorem State.govZeta_in (h : Within m z s) (hm : Sub 16783656 m) (p) (z0) : Within m z (State.govZeta s p z0) := by
  unfold State.govZeta
  with_reducible repeat' first | assumption | apply State.modObs_in | apply State.setFlag_in | apply State.setReg_in | apply State.cond_in | apply State.post_in | apply State.raise_in | intro _ | split
  all_goals exact hm.of (by decide)

theorem State.govHold_in (h : Within m z s) (hm : Sub 4232 m) (p) : Within m z (State.govHold s p) := by
  unfold State.govHold
  with_reducible repeat' first | assumption | apply State.govRamp_in | apply State.govWrite_in | apply within_ite | intro _ | split | dsimp only
  all_goals exact hm.of (by decide)

theorem State.govUpdate_in (h : Within m z s) (hm : Sub 16783784 m) (p) (r) (take) : Within m z (State.govUpdate s p r take) := by
  unfold State.govUpdate
  with_reducible repeat' first | assumption | apply State.govZeta_in | apply State.govSat_in | apply State.govRamp_in | apply State.govAlert_in | apply State.cond_in | apply State.govHold_in | apply within_ite | intro _ | split | dsimp only
  all_goals exact hm.of (by decide)

theorem State.obsInvalid_in (h : Within m z s) (hm : Sub 8 m) (p) (why) : Within m z (State.obsInvalid s p why) := by
  unfold State.obsInvalid
  with_reducible repeat' first | assumption | apply State.setFld_in | apply State.setFlag_in | intro _ | split
  all_goals exact hm.of (by decide)

theorem State.obsValid_in (h : Within m z s) (hm : Sub 16783784 m) (p) (b) (r) : Within m z (State.obsValid s p b r) := by
  unfold State.obsValid
  with_reducible repeat' first | assumption | apply State.modObs_in | apply State.setFlag_in | apply State.setFld_in | apply State.setReg_in | apply State.cond_in | apply State.post_in | apply State.govUpdate_in | apply within_ite | intro _ | split | dsimp only
  all_goals exact hm.of (by decide)

theorem execObsUpdate_in (h : Within m z s) (hm : Sub 16783784 m) (port) : Nexts m z (execObsUpdate port s) := by
  unfold execObsUpdate
  with_reducible repeat' first | assumption | apply Nexts.next | apply nexts_ite | apply State.setFld_in | apply State.obsInvalid_in | apply State.obsValid_in | apply within_ite | intro _ | split
  all_goals exact hm.of (by decide)

theorem State.govSwap_in (h : Within m z s) (hm : Sub 4232 m) (p) (old) (moved) (target) : Within m z (State.govSwap s p old moved target) := by
  unfold State.govSwap
  with_reducible repeat' first | assumption | apply State.govAim_in | apply State.modObs_in | apply State.setFlag_in | apply State.govRamp_in | apply State.govWrite_in | apply within_ite | intro _ | split | dsimp only
  all_goals exact hm.of (by decide)

theorem State.obsSwap_in (h : Within m z s) (hm : Sub 16783528 m) (p) (old) : Within m z (State.obsSwap s p old) := by
  unfold State.obsSwap
  with_reducible repeat' first | assumption | apply State.obsSwitch_in | apply State.cond_in | apply State.obsStart_in | apply State.govWrite_in | apply State.setFld_in | apply State.govSwap_in | apply State.govEnter_in | apply within_ite | intro _ | split | dsimp only
  all_goals exact hm.of (by decide)

theorem State.modHlp_in (h : Within m z s) (hm : Sub 262144 m) (f) : Within m z (State.modHlp s f) := by
  unfold State.modHlp
  with_reducible repeat' first | assumption | (apply Within.set_hlp; first | assumption) | intro _ | split
  all_goals exact hm.of (by decide)

theorem State.setHb_in (h : Within m z s) (hm : Sub 262144 m) (a) (v) : Within m z (State.setHb s a v) := by
  unfold State.setHb
  with_reducible repeat' first | assumption | apply State.modHlp_in | apply within_ite | intro _ | split
  all_goals exact hm.of (by decide)

theorem State.setHbit_in (h : Within m z s) (hm : Sub 262144 m) (b) (v) : Within m z (State.setHbit s b v) := by
  unfold State.setHbit
  with_reducible repeat' first | assumption | apply State.setHb_in | intro _ | split
  all_goals exact hm.of (by decide)

theorem State.setHword_in (h : Within m z s) (hm : Sub 262144 m) (a) (w) : Within m z (State.setHword s a w) := by
  unfold State.setHword
  with_reducible repeat' first | assumption | apply State.modHlp_in | apply within_ite | intro _ | split
  all_goals exact hm.of (by decide)

theorem State.modCoef_in (h : Within m z s) (hm : Sub 1024 m) (f) : Within m z (State.modCoef s f) := by
  unfold State.modCoef
  with_reducible repeat' first | assumption | (apply Within.set_coef; first | assumption) | intro _ | split
  all_goals exact hm.of (by decide)

theorem State.markTiles_in (h : Within m z s) (hm : Sub 8 m) (m0) : Within m z (State.markTiles s m0) := by
  unfold State.markTiles
  with_reducible repeat' first | assumption | apply State.setFld_in | intro _ | split
  all_goals exact hm.of (by decide)

theorem State.showMark_in (h : Within m z s) (hm : Sub 8 m) : Within m z (State.showMark s) := by
  unfold State.showMark
  with_reducible repeat' first | assumption | apply State.setFlag_in | intro _ | split
  all_goals exact hm.of (by decide)

theorem State.setMark_in (h : Within m z s) (hm : Sub 1032 m) (b) (v) : Within m z (State.setMark s b v) := by
  unfold State.setMark
  with_reducible repeat' first | assumption | apply State.showMark_in | apply State.modCoef_in | intro _ | split
  all_goals exact hm.of (by decide)

theorem State.unlock_in (h : Within m z s) (hm : Sub 1032 m) : Within m z (State.unlock s) := by
  unfold State.unlock
  with_reducible repeat' first | assumption | apply State.setFlag_in | apply State.modCoef_in | intro _ | split
  all_goals exact hm.of (by decide)

theorem State.endSwap_in (h : Within m z s) (hm : Sub 2097168 m) (status) (res) : Within m z (State.endSwap s status res) := by
  unfold State.endSwap
  with_reducible repeat' first | assumption | apply State.complete_in | intro _ | split
  all_goals exact hm.of (by decide)

theorem execCoefWrite_in (h : Within m z s) (hm : Sub 2098200 m) (tag) : Nexts m z (execCoefWrite tag s) := by
  unfold execCoefWrite
  with_reducible repeat' first | assumption | apply Nexts.next | apply nexts_ite | apply serve_in | apply State.done_in | apply State.modCoef_in | apply State.setMark_in | apply within_ite | intro _ | split
  all_goals exact hm.of (by decide)

theorem execCoefCopy_in (h : Within m z s) (hm : Sub 2098200 m) (tag) : Nexts m z (execCoefCopy tag s) := by
  unfold execCoefCopy
  with_reducible repeat' first | assumption | apply Nexts.next | apply nexts_ite | apply serve_in | apply State.done_in | apply State.modCoef_in | apply State.setMark_in | apply State.markTiles_in | apply State.complete_in | apply within_ite | intro _ | split
  all_goals exact hm.of (by decide)

theorem execCoefSwap_in (h : Within m z s) (hm : Sub 2097176 m) (tag) : Nexts m z (execCoefSwap tag s) := by
  unfold execCoefSwap
  with_reducible repeat' first | assumption | apply Nexts.next | apply nexts_ite | apply serve_in | apply State.done_in | apply State.setFlag_in | apply State.start_in | apply within_ite | intro _ | split
  all_goals exact hm.of (by decide)

theorem execSwapVerifyComplete_in (h : Within m z s) (hm : Sub 2163736 m) : Nexts m z (execSwapVerifyComplete s) := by
  unfold execSwapVerifyComplete
  with_reducible repeat' first | assumption | apply Nexts.next | apply nexts_ite | apply State.unlock_in | apply State.markTiles_in | apply State.setMark_in | apply State.endSwap_in | apply State.modCoef_in | apply within_ite | (apply Within.set_pair; first | assumption | apply Nexts.next | apply nexts_ite | apply State.unlock_in | apply State.markTiles_in | apply State.setMark_in | apply State.endSwap_in | apply State.modCoef_in | apply within_ite) | intro _ | split
  all_goals exact hm.of (by decide)

theorem execSwapTakesEffect_in (h : Within m z s) (hm : Sub 18947256 m) : Nexts m z (execSwapTakesEffect s) := by
  unfold execSwapTakesEffect
  with_reducible repeat' first | assumption | apply Nexts.next | apply nexts_ite | apply State.setFld_in | apply State.unlock_in | apply State.showMark_in | apply State.post_in | apply State.count_in | apply State.forUnits_in | apply State.obsSwap_in | apply State.doneAt_in | apply within_ite | (apply Within.set_pair; first | assumption | apply Nexts.next | apply nexts_ite | apply State.setFld_in | apply State.unlock_in | apply State.showMark_in | apply State.post_in | apply State.count_in | apply State.forUnits_in | apply State.obsSwap_in | apply State.doneAt_in | apply within_ite) | intro _ | split | dsimp only
  all_goals exact hm.of (by decide)

theorem State.releaseOrSrs_in (h : Within m z s) (hm : Sub 84117800 m) : Within m z (State.releaseOrSrs s) := by
  unfold State.releaseOrSrs
  with_reducible repeat' first | assumption | apply State.releaseAct_in | apply State.srsRequest_in | apply within_ite | intro _ | split
  all_goals exact hm.of (by decide)

theorem State.abortSwap_in (h : Within m z s) (hm : Sub 18943032 m) : Within m z (State.abortSwap s) := by
  unfold State.abortSwap
  with_reducible repeat' first | assumption | apply State.post_in | apply State.unlock_in | apply State.endSwap_in | apply within_ite | (apply Within.set_pair; first | assumption | apply State.post_in | apply State.unlock_in | apply State.endSwap_in | apply within_ite) | intro _ | split
  all_goals exact hm.of (by decide)

theorem State.bankFail_in (h : Within m z s) (hm : Sub 86215992 m) (b) (t) : Within m z (State.bankFail s b t) := by
  unfold State.bankFail
  with_reducible repeat' first | assumption | apply State.post_in | apply State.setFlag_in | apply State.markTiles_in | apply State.setMark_in | apply State.releaseOrSrs_in | apply State.abortSwap_in | apply within_ite | intro _ | split
  all_goals exact hm.of (by decide)

theorem State.profFail_in (h : Within m z s) (hm : Sub 16795688 m) (k) : Within m z (State.profFail s k) := by
  unfold State.profFail
  with_reducible repeat' first | assumption | apply State.post_in | apply within_ite | (apply Within.set_sd; first | assumption | apply State.post_in | apply within_ite) | intro _ | split | dsimp only
  all_goals exact hm.of (by decide)

theorem State.tileFail_in (h : Within m z s) (hm : Sub 86232376 m) (c) (t) : Within m z (State.tileFail s c t) := by
  unfold State.tileFail
  with_reducible repeat' first | assumption | apply State.bankFail_in | apply State.profFail_in | apply State.post_in | apply State.setFlag_in | apply State.modCoef_in | apply State.found_in | apply within_ite | intro _ | split | dsimp only
  all_goals exact hm.of (by decide)

theorem execScrubTileCheck_in (h : Within m z s) (hm : Sub 86232376 m) (store) (tile) (upset) : Nexts m z (execScrubTileCheck store tile upset s) := by
  unfold execScrubTileCheck
  with_reducible repeat' first | assumption | apply Nexts.next | apply nexts_ite | apply State.modCoef_in | apply State.count_in | apply State.tileFail_in | apply within_ite | intro _ | split | dsimp only
  all_goals exact hm.of (by decide)

theorem execConfigTileRewrite_in (h : Within m z s) (hm : Sub 1024 m) (tile) : Nexts m z (execConfigTileRewrite tile s) := by
  unfold execConfigTileRewrite
  with_reducible repeat' first | assumption | apply Nexts.next | apply nexts_ite | apply State.modCoef_in | intro _ | split
  all_goals exact hm.of (by decide)

theorem execCtxPreset_in (h : Within m z s) (hm : Sub 2097168 m) (tag) : Nexts m z (execCtxPreset tag s) := by
  unfold execCtxPreset
  with_reducible repeat' first | assumption | apply Nexts.next | apply nexts_ite | apply serve_in | apply State.done_in | apply State.start_in | apply within_ite | intro _ | split
  all_goals exact hm.of (by decide)

theorem State.preset_in (h : Within m z s) (hm : Sub 128 m) (e) : Within m z (State.preset s e) := by
  unfold State.preset
  with_reducible repeat' first | assumption | apply State.modCtx_in | apply State.setCwords_in | apply State.setCflag_in | intro _ | split
  all_goals exact hm.of (by decide)

theorem execPresetTakesEffect_in (h : Within m z s) (hm : Sub 2097296 m) (tag) : Nexts m z (execPresetTakesEffect tag s) := by
  unfold execPresetTakesEffect
  with_reducible repeat' first | assumption | apply Nexts.next | apply nexts_ite | apply State.doneAt_in | apply State.preset_in | apply within_ite | intro _ | split
  all_goals exact hm.of (by decide)

theorem State.applyTile_in (h : Within m z s) (hm : Sub 524296 m) : Within m z (State.applyTile s) := by
  unfold State.applyTile
  with_reducible repeat' first | assumption | apply State.forUnits_in | apply State.setFlag_in | apply State.stwEn_in | intro _ | split
  all_goals exact hm.of (by decide)

theorem execSafCfgStage_in (h : Within m z s) (hm : Sub 2228240 m) (tag) : Nexts m z (execSafCfgStage tag s) := by
  unfold execSafCfgStage
  with_reducible repeat' first | assumption | apply Nexts.next | apply nexts_ite | apply serve_in | apply State.done_in | apply State.modStw_in | apply within_ite | intro _ | split
  all_goals exact hm.of (by decide)

theorem execSafCfgRead_in (h : Within m z s) (hm : Sub 2097168 m) (tag) : Nexts m z (execSafCfgRead tag s) := by
  unfold execSafCfgRead
  with_reducible repeat' first | assumption | apply Nexts.next | apply nexts_ite | apply serve_in | apply State.done_in | apply State.complete_in | apply within_ite | intro _ | split
  all_goals exact hm.of (by decide)

theorem State.prepare_in (h : Within m z s) (hm : Sub 2097172 m) (e) (states) : Within m z (State.prepare s e states) := by
  unfold State.prepare
  with_reducible repeat' first | assumption | apply State.done_in | apply State.complete_in | apply State.bump_in | apply within_ite | (apply Within.set_fcp; first | assumption | apply State.done_in | apply State.complete_in | apply State.bump_in | apply within_ite) | intro _ | split
  all_goals exact hm.of (by decide)

theorem execSafArm_in (h : Within m z s) (hm : Sub 2097172 m) (tag) : Nexts m z (execSafArm tag s) := by
  unfold execSafArm
  with_reducible repeat' first | assumption | apply Nexts.next | apply nexts_ite | apply serve_in | apply State.prepare_in | intro _ | split
  all_goals exact hm.of (by decide)

theorem execSafDisarm_in (h : Within m z s) (hm : Sub 2097172 m) (tag) : Nexts m z (execSafDisarm tag s) := by
  unfold execSafDisarm
  with_reducible repeat' first | assumption | apply Nexts.next | apply nexts_ite | apply serve_in | apply State.prepare_in | intro _ | split
  all_goals exact hm.of (by decide)

theorem execSafReset_in (h : Within m z s) (hm : Sub 2097172 m) (tag) : Nexts m z (execSafReset tag s) := by
  unfold execSafReset
  with_reducible repeat' first | assumption | apply Nexts.next | apply nexts_ite | apply serve_in | apply State.prepare_in | intro _ | split
  all_goals exact hm.of (by decide)

theorem execSafCfgCommit_in (h : Within m z s) (hm : Sub 2097172 m) (tag) : Nexts m z (execSafCfgCommit tag s) := by
  unfold execSafCfgCommit
  with_reducible repeat' first | assumption | apply Nexts.next | apply nexts_ite | apply serve_in | apply State.prepare_in | intro _ | split
  all_goals exact hm.of (by decide)

theorem State.runTest_in (h : Within m z s) (hm : Sub 16943144 m) (t) (gden) : Within m z (State.runTest s t gden) := by
  unfold State.runTest
  with_reducible repeat' first | assumption | apply State.haltAll_in | apply State.cond_in | apply State.modStw_in | apply State.setFld_in | apply within_ite | intro _ | split | dsimp only
  all_goals exact hm.of (by decide)

theorem State.toArmed_in (h : Within m z s) (hm : Sub 84019240 m) : Within m z (State.toArmed s) := by
  unfold State.toArmed
  with_reducible repeat' first | assumption | apply State.setFld_in | apply State.toStw_in | apply State.modStw_in | intro _ | split
  all_goals exact hm.of (by decide)

theorem State.armNow_in (h : Within m z s) (hm : Sub 86149176 m) (tag) (test) : Within m z (State.armNow s tag test) := by
  unfold State.armNow
  with_reducible repeat' first | assumption | apply State.done_in | apply State.cond_in | apply State.runTest_in | apply State.setFld_in | apply State.complete_in | apply State.toArmed_in | apply within_ite | intro _ | split | dsimp only
  all_goals exact hm.of (by decide)

theorem State.disarmNow_in (h : Within m z s) (hm : Sub 85985336 m) (tag) : Within m z (State.disarmNow s tag) := by
  unfold State.disarmNow
  with_reducible repeat' first | assumption | apply State.done_in | apply State.toStw_in | apply within_ite | intro _ | split
  all_goals exact hm.of (by decide)

theorem State.endDiscrepancies_in (h : Within m z s) (hm : Sub 131080 m) : Within m z (State.endDiscrepancies s) := by
  unfold State.endDiscrepancies
  with_reducible repeat' first | assumption | apply State.inputActive_in | apply State.setFld_in | apply State.modStw_in | apply foldl_in | intro _ | split
  all_goals exact hm.of (by decide)

theorem State.resetNow_in (h : Within m z s) (hm : Sub 86149176 m) (tag) (test) : Within m z (State.resetNow s tag test) := by
  unfold State.resetNow
  with_reducible repeat' first | assumption | apply State.done_in | apply State.endDiscrepancies_in | apply State.runTest_in | apply State.modStw_in | apply State.setFlag_in | apply State.cond_in | apply State.toArmed_in | apply within_ite | intro _ | split | dsimp only
  all_goals exact hm.of (by decide)

theorem State.commitTile_in (h : Within m z s) (hm : Sub 69862424 m) (tag) (crc) : Within m z (State.commitTile s tag crc) := by
  unfold State.commitTile
  with_reducible repeat' first | assumption | apply State.done_in | apply State.complete_in | apply State.modStw_in | apply State.found_in | apply State.setFlag_in | apply State.applyTile_in | apply within_ite | (apply Within.set_coef; first | assumption | apply State.done_in | apply State.complete_in | apply State.modStw_in | apply State.found_in | apply State.setFlag_in | apply State.applyTile_in | apply within_ite) | intro _ | split | dsimp only
  all_goals exact hm.of (by decide)

theorem execSafConfirm_in (h : Within m z s) (hm : Sub 86674488 m) (tag) (test) : Nexts m z (execSafConfirm tag test s) := by
  unfold execSafConfirm
  with_reducible repeat' first | assumption | apply Nexts.next | apply nexts_ite | apply serve_in | apply State.complete_in | apply State.armNow_in | apply State.disarmNow_in | apply State.resetNow_in | apply State.commitTile_in | apply within_ite | (apply Within.set_fcp; first | assumption | apply Nexts.next | apply nexts_ite | apply serve_in | apply State.complete_in | apply State.armNow_in | apply State.disarmNow_in | apply State.resetNow_in | apply State.commitTile_in | apply within_ite) | intro _ | split | dsimp only
  all_goals exact hm.of (by decide)

theorem execSafConfirmTimeout_in (h : Within m z s) (hm : Sub 16 m) : Nexts m z (execSafConfirmTimeout s) := by
  unfold execSafConfirmTimeout
  with_reducible repeat' first | assumption | apply Nexts.next | apply nexts_ite | (apply Within.set_fcp; first | assumption | apply Nexts.next | apply nexts_ite) | intro _ | split
  all_goals exact hm.of (by decide)

theorem State.diCount_in (h : Within m z s) (hm : Sub 524296 m) (n) (raw) : Within m z (State.diCount s n raw) := by
  unfold State.diCount
  with_reducible repeat' first | assumption | apply State.setFld_in | apply within_ite | (apply Within.set_fio; first | assumption | apply State.setFld_in | apply within_ite) | intro _ | split
  all_goals exact hm.of (by decide)

theorem execDiSample_in (h : Within m z s) (hm : Sub 84642088 m) (mv) : Nexts m z (execDiSample mv s) := by
  unfold execDiSample
  with_reducible repeat' first | assumption | apply Nexts.next | apply nexts_ite | apply State.forUnits_in | apply State.setFld_in | apply State.diCount_in | apply State.cond_in | apply State.siHigh_in | apply State.diDiscrepancies_in | apply within_ite | intro _ | split
  all_goals exact hm.of (by decide)

theorem execBankRefresh_in (h : Within m z s) (hm : Sub 84642088 m) (pins) : Nexts m z (execBankRefresh pins s) := by
  unfold execBankRefresh
  with_reducible repeat' first | assumption | apply Nexts.next | apply nexts_ite | apply State.setFld_in | apply State.setFlag_in | apply State.doSync_in | apply State.readPins_in | apply within_ite | (apply Within.set_fio; first | assumption | apply Nexts.next | apply nexts_ite | apply State.setFld_in | apply State.setFlag_in | apply State.doSync_in | apply State.readPins_in | apply within_ite) | intro _ | split | dsimp only
  all_goals exact hm.of (by decide)

theorem execSilenceTimeout_in (h : Within m z s) (hm : Sub 84642088 m) : Nexts m z (execSilenceTimeout s) := by
  unfold execSilenceTimeout
  with_reducible repeat' first | assumption | apply Nexts.next | apply nexts_ite | apply State.setFlag_in | apply State.setFld_in | apply State.doSync_in | apply State.count_in | apply State.post_in | apply within_ite | intro _ | split | dsimp only
  all_goals exact hm.of (by decide)

theorem execDoOverload_in (h : Within m z s) (hm : Sub 84642088 m) (out) : Nexts m z (execDoOverload out s) := by
  unfold execDoOverload
  with_reducible repeat' first | assumption | apply Nexts.next | apply nexts_ite | apply State.setFld_in | apply State.doSync_in | apply State.count_in | apply State.post_in | apply within_ite | intro _ | split | dsimp only
  all_goals exact hm.of (by decide)

theorem execTpOverload_in (h : Within m z s) (hm : Sub 8 m) (tp) : Nexts m z (execTpOverload tp s) := by
  unfold execTpOverload
  with_reducible repeat' first | assumption | apply Nexts.next | apply nexts_ite | apply State.setFld_in | apply within_ite | intro _ | split | dsimp only
  all_goals exact hm.of (by decide)

theorem State.vfield_in (h : Within m z s) (hm : Sub 84642088 m) (f) (on) : Within m z (State.vfield s f on) := by
  unfold State.vfield
  with_reducible repeat' first | assumption | apply State.setFlag_in | apply State.doSync_in | apply State.post_in | apply within_ite | intro _ | split | dsimp only
  all_goals exact hm.of (by decide)

theorem execVfieldUvChange_in (h : Within m z s) (hm : Sub 84642088 m) (on) : Nexts m z (execVfieldUvChange on s) := by
  unfold execVfieldUvChange
  with_reducible repeat' first | assumption | apply Nexts.next | apply nexts_ite | apply State.vfield_in | intro _ | split
  all_goals exact hm.of (by decide)

theorem execVfieldOvChange_in (h : Within m z s) (hm : Sub 84642088 m) (on) : Nexts m z (execVfieldOvChange on s) := by
  unfold execVfieldOvChange
  with_reducible repeat' first | assumption | apply Nexts.next | apply nexts_ite | apply State.vfield_in | intro _ | split
  all_goals exact hm.of (by decide)

theorem State.insn_in (h : Within m z s) (hm : Sub 262144 m) (op x : Nat) {f} (hf : ∀ t, Within m z t → Within m z (f t)) : Nexts m z (State.insn s op x f) := by
  unfold State.insn
  refine .next ?_
  split
  · exact hf _ (modHlp_in h hm _)
  · exact h

theorem State.setA_in (h : Within m z s) (hm : Sub 262144 m) (b) : Within m z (State.setA s b) := by
  unfold State.setA
  with_reducible repeat' first | assumption | apply State.modHlp_in | intro _ | split
  all_goals exact hm.of (by decide)

theorem State.setW_in (h : Within m z s) (hm : Sub 262144 m) (w) : Within m z (State.setW s w) := by
  unfold State.setW
  with_reducible repeat' first | assumption | apply State.modHlp_in | intro _ | split
  all_goals exact hm.of (by decide)

theorem State.jump_in (h : Within m z s) (hm : Sub 262144 m) (i) : Within m z (State.jump s i) := by
  unfold State.jump
  with_reducible repeat' first | assumption | apply State.modHlp_in | intro _ | split
  all_goals exact hm.of (by decide)

theorem State.bitInsn_in (h : Within m z s) (hm : Sub 262144 m) (op) (b) (f) : Nexts m z (State.bitInsn s op b f) := by
  unfold State.bitInsn
  with_reducible repeat' first | assumption | apply Nexts.next | apply nexts_ite | apply State.insn_in | apply State.setA_in | apply within_ite | intro _ | split | dsimp only
  all_goals exact hm.of (by decide)

theorem State.popInsn_in (h : Within m z s) (hm : Sub 262144 m) (op) (f) : Nexts m z (State.popInsn s op f) := by
  unfold State.popInsn
  with_reducible repeat' first | assumption | apply Nexts.next | apply nexts_ite | apply State.insn_in | apply State.modHlp_in | apply within_ite | intro _ | split | dsimp only
  all_goals exact hm.of (by decide)

theorem State.cmpInsn_in (h : Within m z s) (hm : Sub 262144 m) (op) (w) (f) : Nexts m z (State.cmpInsn s op w f) := by
  unfold State.cmpInsn
  with_reducible repeat' first | assumption | apply Nexts.next | apply nexts_ite | apply State.insn_in | apply State.setA_in | apply within_ite | intro _ | split | dsimp only
  all_goals exact hm.of (by decide)

theorem State.timer_in (h : Within m z s) (hm : Sub 262144 m) (x) (f) : Within m z (State.timer s x f) := by
  unfold State.timer
  with_reducible repeat' first | assumption | apply State.setHword_in | apply State.modHlp_in | apply within_ite | intro _ | split | dsimp only
  all_goals exact hm.of (by decide)

theorem State.counter_in (h : Within m z s) (hm : Sub 262144 m) (x) (d) (f) : Within m z (State.counter s x d f) := by
  unfold State.counter
  with_reducible repeat' first | assumption | apply State.setA_in | apply State.setHword_in | intro _ | split
  all_goals exact hm.of (by decide)

theorem execHlpNop_in (h : Within m z s) (hm : Sub 262144 m) : Nexts m z (execHlpNop s) := State.insn_in h hm _ _ fun _ ht => ht

theorem execHlpLd_in (h : Within m z s) (hm : Sub 262144 m) (b) : Nexts m z (execHlpLd b s) := by
  unfold execHlpLd
  with_reducible repeat' first | assumption | apply Nexts.next | apply nexts_ite | apply State.bitInsn_in | apply within_ite | intro _ | split | dsimp only
  all_goals exact hm.of (by decide)

theorem execHlpLdn_in (h : Within m z s) (hm : Sub 262144 m) (b) : Nexts m z (execHlpLdn b s) := by
  unfold execHlpLdn
  with_reducible repeat' first | assumption | apply Nexts.next | apply nexts_ite | apply State.bitInsn_in | apply within_ite | intro _ | split | dsimp only
  all_goals exact hm.of (by decide)

theorem execHlpAnd_in (h : Within m z s) (hm : Sub 262144 m) (b) : Nexts m z (execHlpAnd b s) := by
  unfold execHlpAnd
  with_reducible repeat' first | assumption | apply Nexts.next | apply nexts_ite | apply State.bitInsn_in | apply within_ite | intro _ | split | dsimp only
  all_goals exact hm.of (by decide)

theorem execHlpAndn_in (h : Within m z s) (hm : Sub 262144 m) (b) : Nexts m z (execHlpAndn b s) := by
  unfold execHlpAndn
  with_reducible repeat' first | assumption | apply Nexts.next | apply nexts_ite | apply State.bitInsn_in | apply within_ite | intro _ | split | dsimp only
  all_goals exact hm.of (by decide)

theorem execHlpOr_in (h : Within m z s) (hm : Sub 262144 m) (b) : Nexts m z (execHlpOr b s) := by
  unfold execHlpOr
  with_reducible repeat' first | assumption | apply Nexts.next | apply nexts_ite | apply State.bitInsn_in | apply within_ite | intro _ | split | dsimp only
  all_goals exact hm.of (by decide)

theorem execHlpOrn_in (h : Within m z s) (hm : Sub 262144 m) (b) : Nexts m z (execHlpOrn b s) := by
  unfold execHlpOrn
  with_reducible repeat' first | assumption | apply Nexts.next | apply nexts_ite | apply State.bitInsn_in | apply within_ite | intro _ | split | dsimp only
  all_goals exact hm.of (by decide)

theorem execHlpXor_in (h : Within m z s) (hm : Sub 262144 m) (b) : Nexts m z (execHlpXor b s) := by
  unfold execHlpXor
  with_reducible repeat' first | assumption | apply Nexts.next | apply nexts_ite | apply State.bitInsn_in | apply within_ite | intro _ | split | dsimp only
  all_goals exact hm.of (by decide)

theorem execHlpPush_in (h : Within m z s) (hm : Sub 262144 m) : Nexts m z (execHlpPush s) := by
  unfold execHlpPush
  with_reducible repeat' first | assumption | apply Nexts.next | apply nexts_ite | apply State.insn_in | apply State.modHlp_in | apply within_ite | intro _ | split | dsimp only
  all_goals exact hm.of (by decide)

theorem execHlpAndp_in (h : Within m z s) (hm : Sub 262144 m) : Nexts m z (execHlpAndp s) := by
  unfold execHlpAndp
  with_reducible repeat' first | assumption | apply Nexts.next | apply nexts_ite | apply State.popInsn_in | apply within_ite | intro _ | split | dsimp only
  all_goals exact hm.of (by decide)

theorem execHlpOrp_in (h : Within m z s) (hm : Sub 262144 m) : Nexts m z (execHlpOrp s) := by
  unfold execHlpOrp
  with_reducible repeat' first | assumption | apply Nexts.next | apply nexts_ite | apply State.popInsn_in | apply within_ite | intro _ | split | dsimp only
  all_goals exact hm.of (by decide)

theorem execHlpNot_in (h : Within m z s) (hm : Sub 262144 m) : Nexts m z (execHlpNot s) := by
  unfold execHlpNot
  with_reducible repeat' first | assumption | apply Nexts.next | apply nexts_ite | apply State.insn_in | apply State.setA_in | apply within_ite | intro _ | split | dsimp only
  all_goals exact hm.of (by decide)

theorem execHlpEdge_in (h : Within m z s) (hm : Sub 262144 m) (b) : Nexts m z (execHlpEdge b s) := by
  unfold execHlpEdge
  with_reducible repeat' first | assumption | apply Nexts.next | apply nexts_ite | apply State.insn_in | apply State.setHbit_in | apply State.setA_in | apply within_ite | intro _ | split | dsimp only
  all_goals exact hm.of (by decide)

theorem execHlpSt_in (h : Within m z s) (hm : Sub 262144 m) (b) : Nexts m z (execHlpSt b s) := by
  unfold execHlpSt
  with_reducible repeat' first | assumption | apply Nexts.next | apply nexts_ite | apply State.insn_in | apply State.setHbit_in | apply within_ite | intro _ | split | dsimp only
  all_goals exact hm.of (by decide)

theorem execHlpStn_in (h : Within m z s) (hm : Sub 262144 m) (b) : Nexts m z (execHlpStn b s) := by
  unfold execHlpStn
  with_reducible repeat' first | assumption | apply Nexts.next | apply nexts_ite | apply State.insn_in | apply State.setHbit_in | apply within_ite | intro _ | split | dsimp only
  all_goals exact hm.of (by decide)

theorem execHlpSet_in (h : Within m z s) (hm : Sub 262144 m) (b) : Nexts m z (execHlpSet b s) := by
  unfold execHlpSet
  with_reducible repeat' first | assumption | apply Nexts.next | apply nexts_ite | apply State.insn_in | apply State.cond_in | apply State.setHbit_in | apply within_ite | intro _ | split | dsimp only
  all_goals exact hm.of (by decide)

theorem execHlpRst_in (h : Within m z s) (hm : Sub 262144 m) (b) : Nexts m z (execHlpRst b s) := by
  unfold execHlpRst
  with_reducible repeat' first | assumption | apply Nexts.next | apply nexts_ite | apply State.insn_in | apply State.cond_in | apply State.setHbit_in | apply within_ite | intro _ | split | dsimp only
  all_goals exact hm.of (by decide)

theorem execHlpTon_in (h : Within m z s) (hm : Sub 262144 m) (w) : Nexts m z (execHlpTon w s) := by
  unfold execHlpTon
  with_reducible repeat' first | assumption | apply Nexts.next | apply nexts_ite | apply State.insn_in | apply State.timer_in | apply within_ite | intro _ | split | dsimp only
  all_goals exact hm.of (by decide)

theorem execHlpTof_in (h : Within m z s) (hm : Sub 262144 m) (w) : Nexts m z (execHlpTof w s) := by
  unfold execHlpTof
  with_reducible repeat' first | assumption | apply Nexts.next | apply nexts_ite | apply State.insn_in | apply State.timer_in | apply within_ite | intro _ | split | dsimp only
  all_goals exact hm.of (by decide)

theorem execHlpTp_in (h : Within m z s) (hm : Sub 262144 m) (w) : Nexts m z (execHlpTp w s) := by
  unfold execHlpTp
  with_reducible repeat' first | assumption | apply Nexts.next | apply nexts_ite | apply State.insn_in | apply State.timer_in | apply within_ite | intro _ | split | dsimp only
  all_goals exact hm.of (by decide)

theorem execHlpCtu_in (h : Within m z s) (hm : Sub 262144 m) (w) : Nexts m z (execHlpCtu w s) := by
  unfold execHlpCtu
  with_reducible repeat' first | assumption | apply Nexts.next | apply nexts_ite | apply State.insn_in | apply State.counter_in | apply within_ite | intro _ | split | dsimp only
  all_goals exact hm.of (by decide)

theorem execHlpCtd_in (h : Within m z s) (hm : Sub 262144 m) (w) : Nexts m z (execHlpCtd w s) := by
  unfold execHlpCtd
  with_reducible repeat' first | assumption | apply Nexts.next | apply nexts_ite | apply State.insn_in | apply State.counter_in | apply within_ite | intro _ | split | dsimp only
  all_goals exact hm.of (by decide)

theorem execHlpCrs_in (h : Within m z s) (hm : Sub 262144 m) (w) : Nexts m z (execHlpCrs w s) := by
  unfold execHlpCrs
  with_reducible repeat' first | assumption | apply Nexts.next | apply nexts_ite | apply State.insn_in | apply State.cond_in | apply State.setHword_in | apply within_ite | intro _ | split | dsimp only
  all_goals exact hm.of (by decide)

theorem execHlpLw_in (h : Within m z s) (hm : Sub 262144 m) (w) : Nexts m z (execHlpLw w s) := by
  unfold execHlpLw
  with_reducible repeat' first | assumption | apply Nexts.next | apply nexts_ite | apply State.insn_in | apply State.setW_in | apply within_ite | intro _ | split | dsimp only
  all_goals exact hm.of (by decide)

theorem execHlpLk_in (h : Within m z s) (hm : Sub 262144 m) (k0) : Nexts m z (execHlpLk k0 s) := by
  unfold execHlpLk
  with_reducible repeat' first | assumption | apply Nexts.next | apply nexts_ite | apply State.insn_in | apply State.setW_in | apply within_ite | intro _ | split | dsimp only
  all_goals exact hm.of (by decide)

theorem execHlpSw_in (h : Within m z s) (hm : Sub 262144 m) (w) : Nexts m z (execHlpSw w s) := by
  unfold execHlpSw
  with_reducible repeat' first | assumption | apply Nexts.next | apply nexts_ite | apply State.insn_in | apply State.setHword_in | apply within_ite | intro _ | split | dsimp only
  all_goals exact hm.of (by decide)

theorem execHlpMov_in (h : Within m z s) (hm : Sub 262144 m) (w) : Nexts m z (execHlpMov w s) := by
  unfold execHlpMov
  with_reducible repeat' first | assumption | apply Nexts.next | apply nexts_ite | apply State.insn_in | apply State.cond_in | apply State.setHword_in | apply within_ite | intro _ | split | dsimp only
  all_goals exact hm.of (by decide)

theorem execHlpAdd_in (h : Within m z s) (hm : Sub 262144 m) (w) : Nexts m z (execHlpAdd w s) := by
  unfold execHlpAdd
  with_reducible repeat' first | assumption | apply Nexts.next | apply nexts_ite | apply State.insn_in | apply State.setW_in | apply within_ite | intro _ | split | dsimp only
  all_goals exact hm.of (by decide)

theorem execHlpSub_in (h : Within m z s) (hm : Sub 262144 m) (w) : Nexts m z (execHlpSub w s) := by
  unfold execHlpSub
  with_reducible repeat' first | assumption | apply Nexts.next | apply nexts_ite | apply State.insn_in | apply State.setW_in | apply within_ite | intro _ | split | dsimp only
  all_goals exact hm.of (by decide)

theorem execHlpCeq_in (h : Within m z s) (hm : Sub 262144 m) (w) : Nexts m z (execHlpCeq w s) := by
  unfold execHlpCeq
  with_reducible repeat' first | assumption | apply Nexts.next | apply nexts_ite | apply State.cmpInsn_in | apply within_ite | intro _ | split | dsimp only
  all_goals exact hm.of (by decide)

theorem execHlpCne_in (h : Within m z s) (hm : Sub 262144 m) (w) : Nexts m z (execHlpCne w s) := by
  unfold execHlpCne
  with_reducible repeat' first | assumption | apply Nexts.next | apply nexts_ite | apply State.cmpInsn_in | apply within_ite | intro _ | split | dsimp only
  all_goals exact hm.of (by decide)

theorem execHlpClt_in (h : Within m z s) (hm : Sub 262144 m) (w) : Nexts m z (execHlpClt w s) := by
  unfold execHlpClt
  with_reducible repeat' first | assumption | apply Nexts.next | apply nexts_ite | apply State.cmpInsn_in | apply within_ite | intro _ | split | dsimp only
  all_goals exact hm.of (by decide)

theorem execHlpCle_in (h : Within m z s) (hm : Sub 262144 m) (w) : Nexts m z (execHlpCle w s) := by
  unfold execHlpCle
  with_reducible repeat' first | assumption | apply Nexts.next | apply nexts_ite | apply State.cmpInsn_in | apply within_ite | intro _ | split | dsimp only
  all_goals exact hm.of (by decide)

theorem execHlpCgt_in (h : Within m z s) (hm : Sub 262144 m) (w) : Nexts m z (execHlpCgt w s) := by
  unfold execHlpCgt
  with_reducible repeat' first | assumption | apply Nexts.next | apply nexts_ite | apply State.cmpInsn_in | apply within_ite | intro _ | split | dsimp only
  all_goals exact hm.of (by decide)

theorem execHlpCge_in (h : Within m z s) (hm : Sub 262144 m) (w) : Nexts m z (execHlpCge w s) := by
  unfold execHlpCge
  with_reducible repeat' first | assumption | apply Nexts.next | apply nexts_ite | apply State.cmpInsn_in | apply within_ite | intro _ | split | dsimp only
  all_goals exact hm.of (by decide)

theorem execHlpFlt_in (h : Within m z s) (hm : Sub 262144 m) (w) : Nexts m z (execHlpFlt w s) := by
  unfold execHlpFlt
  with_reducible repeat' first | assumption | apply Nexts.next | apply nexts_ite | apply State.cmpInsn_in | apply within_ite | intro _ | split | dsimp only
  all_goals exact hm.of (by decide)

theorem execHlpFgt_in (h : Within m z s) (hm : Sub 262144 m) (w) : Nexts m z (execHlpFgt w s) := by
  unfold execHlpFgt
  with_reducible repeat' first | assumption | apply Nexts.next | apply nexts_ite | apply State.cmpInsn_in | apply within_ite | intro _ | split | dsimp only
  all_goals exact hm.of (by decide)

theorem execHlpJmp_in (h : Within m z s) (hm : Sub 262144 m) (i) : Nexts m z (execHlpJmp i s) := by
  unfold execHlpJmp
  with_reducible repeat' first | assumption | apply Nexts.next | apply nexts_ite | apply State.insn_in | apply State.jump_in | apply within_ite | intro _ | split | dsimp only
  all_goals exact hm.of (by decide)

theorem execHlpJc_in (h : Within m z s) (hm : Sub 262144 m) (i) : Nexts m z (execHlpJc i s) := by
  unfold execHlpJc
  with_reducible repeat' first | assumption | apply Nexts.next | apply nexts_ite | apply State.insn_in | apply State.cond_in | apply State.jump_in | apply within_ite | intro _ | split | dsimp only
  all_goals exact hm.of (by decide)

theorem execHlpJnc_in (h : Within m z s) (hm : Sub 262144 m) (i) : Nexts m z (execHlpJnc i s) := by
  unfold execHlpJnc
  with_reducible repeat' first | assumption | apply Nexts.next | apply nexts_ite | apply State.insn_in | apply State.cond_in | apply State.jump_in | apply within_ite | intro _ | split | dsimp only
  all_goals exact hm.of (by decide)

theorem execHlpEnd_in (h : Within m z s) (hm : Sub 262144 m) : Nexts m z (execHlpEnd s) := by
  unfold execHlpEnd
  with_reducible repeat' first | assumption | apply Nexts.next | apply nexts_ite | apply State.insn_in | apply State.modHlp_in | apply within_ite | intro _ | split | dsimp only
  all_goals exact hm.of (by decide)

theorem execHlpAdcr_in (h : Within m z s) (hm : Sub 270344 m) (req) : Nexts m z (execHlpAdcr req s) := by
  unfold execHlpAdcr
  with_reducible repeat' first | assumption | apply Nexts.next | apply nexts_ite | apply State.insn_in | apply State.cond_in | apply State.urgent_in | apply within_ite | intro _ | split | dsimp only
  all_goals exact hm.of (by decide)

theorem State.endAll_in (h : Within m z s) (hm : Sub 2097168 m) (op) (status) : Within m z (State.endAll s op status) := by
  unfold State.endAll
  with_reducible repeat' first | assumption | apply State.done_in | apply foldl_in | intro _ | split
  all_goals exact hm.of (by decide)

theorem State.toHlp_in (h : Within m z s) (hm : Sub 16779304 m) (n) : Within m z (State.toHlp s n) := by
  unfold State.toHlp
  with_reducible repeat' first | assumption | apply State.post_in | apply State.setFld_in | intro _ | split
  all_goals exact hm.of (by decide)

theorem State.hlpClear_in (h : Within m z s) (hm : Sub 262144 m) : Within m z (State.hlpClear s) := by
  unfold State.hlpClear
  with_reducible repeat' first | assumption | apply State.modHlp_in | apply within_ite | intro _ | split | dsimp only
  all_goals exact hm.of (by decide)

theorem State.hlpFix_in (h : Within m z s) (hm : Sub 263176 m) (t) : Within m z (State.hlpFix s t) := by
  unfold State.hlpFix
  with_reducible repeat' first | assumption | apply State.modHlp_in | apply State.count_in | (apply Within.set_coef; first | assumption | apply State.modHlp_in | apply State.count_in) | intro _ | split
  all_goals exact hm.of (by decide)

theorem State.hlpFixes_in (h : Within m z s) (hm : Sub 263176 m) : Within m z (State.hlpFixes s) := by
  unfold State.hlpFixes
  with_reducible repeat' first | assumption | apply State.hlpFix_in | apply foldl_in | apply within_ite | intro _ | split | dsimp only
  all_goals exact hm.of (by decide)

theorem State.hlpHalt_in (h : Within m z s) (hm : Sub 87002424 m) (why) : Within m z (State.hlpHalt s why) := by
  unfold State.hlpHalt
  with_reducible repeat' first | assumption | apply State.setFld_in | apply State.toHlp_in | apply State.hlpClear_in | apply State.hlpFixes_in | apply State.doSync_in | apply State.endAll_in | apply State.cond_in | apply State.srsRequest_in | apply State.modHlp_in | apply within_ite | intro _ | split | dsimp only
  all_goals exact hm.of (by decide)

theorem State.hlpStop_in (h : Within m z s) (hm : Sub 87002424 m) : Within m z (State.hlpStop s) := by
  unfold State.hlpStop
  with_reducible repeat' first | assumption | apply State.toHlp_in | apply State.hlpClear_in | apply State.hlpFixes_in | apply State.setFld_in | apply State.doSync_in | apply State.modHlp_in | apply State.endAll_in | apply within_ite | intro _ | split | dsimp only
  all_goals exact hm.of (by decide)

theorem State.commitRetained_in (h : Within m z s) (hm : Sub 17041576 m) : Within m z (State.commitRetained s) := by
  unfold State.commitRetained
  with_reducible repeat' first | assumption | apply State.modHlp_in | apply State.store_in | apply State.setFlag_in | apply within_ite | intro _ | split | dsimp only
  all_goals exact hm.of (by decide)

theorem State.hlpRestart_in (h : Within m z s) (hm : Sub 17041960 m) (cold) (recovery) : Within m z (State.hlpRestart s cold recovery) := by
  unfold State.hlpRestart
  with_reducible repeat' first | assumption | apply State.modHlp_in | apply State.hlpClear_in | apply State.setFld_in | apply State.toHlp_in | apply within_ite | (apply Within.set_pwm; first | assumption | apply State.modHlp_in | apply State.hlpClear_in | apply State.setFld_in | apply State.toHlp_in | apply within_ite) | intro _ | split
  all_goals exact hm.of (by decide)

theorem State.hlpAuto_in (h : Within m z s) (hm : Sub 17041960 m) : Within m z (State.hlpAuto s) := by
  unfold State.hlpAuto
  with_reducible repeat' first | assumption | apply State.cond_in | apply State.hlpRestart_in | apply within_ite | intro _ | split | dsimp only
  all_goals exact hm.of (by decide)

theorem State.hlpWake_in (h : Within m z s) (hm : Sub 17041960 m) : Within m z (State.hlpWake s) := by
  unfold State.hlpWake
  with_reducible repeat' first | assumption | apply State.cond_in | apply State.hlpRestart_in | apply within_ite | intro _ | split | dsimp only
  all_goals exact hm.of (by decide)

theorem State.hlpCapture_in (h : Within m z s) (hm : Sub 262144 m) : Within m z (State.hlpCapture s) := by
  unfold State.hlpCapture
  with_reducible repeat' first | assumption | apply State.modHlp_in | apply within_ite | intro _ | split
  all_goals exact hm.of (by decide)

theorem State.hlpApply_in (h : Within m z s) (hm : Sub 262144 m) : Within m z (State.hlpApply s) := by
  unfold State.hlpApply
  with_reducible repeat' first | assumption | apply State.modHlp_in | apply foldl_in | apply within_ite | intro _ | split
  all_goals exact hm.of (by decide)

theorem State.olcApply_in (h : Within m z s) (hm : Sub 262144 m) (pay) (i) : Within m z (State.olcApply s pay i) := by
  unfold State.olcApply
  with_reducible repeat' first | assumption | apply State.setHbit_in | apply State.setHb_in | apply State.setHword_in | apply State.modHlp_in | intro _ | split
  all_goals exact hm.of (by decide)

theorem State.olcEnd_in (h : Within m z s) (hm : Sub 2359320 m) (e) : Within m z (State.olcEnd s e) := by
  unfold State.olcEnd
  with_reducible repeat' first | assumption | apply State.count_in | apply State.forUnits_in | apply State.olcApply_in | apply State.complete_in | intro _ | split
  all_goals exact hm.of (by decide)

theorem State.hlpOlc_in (h : Within m z s) (hm : Sub 2359320 m) : Within m z (State.hlpOlc s) := by
  unfold State.hlpOlc
  with_reducible repeat' first | assumption | apply State.olcEnd_in | intro _ | split
  all_goals exact hm.of (by decide)

theorem State.modeEnd_in (h : Within m z s) (hm : Sub 2097176 m) (e) : Within m z (State.modeEnd s e) := by
  unfold State.modeEnd
  with_reducible repeat' first | assumption | apply State.done_in | apply State.setFld_in | apply within_ite | intro _ | split
  all_goals exact hm.of (by decide)

theorem State.hlpModes_in (h : Within m z s) (hm : Sub 2359320 m) : Within m z (State.hlpModes s) := by
  unfold State.hlpModes
  with_reducible repeat' first | assumption | apply State.modHlp_in | apply State.cond_in | apply State.setFld_in | apply State.modeEnd_in | apply foldl_in | intro _ | split
  all_goals exact hm.of (by decide)

theorem State.hlpInput_in (h : Within m z s) (hm : Sub 262656 m) : Within m z (State.hlpInput s) := by
  unfold State.hlpInput
  with_reducible repeat' first | assumption | apply State.modHlp_in | apply foldl_in | (apply Within.set_pwm; first | assumption | apply State.modHlp_in | apply foldl_in) | intro _ | split
  all_goals exact hm.of (by decide)

theorem State.hlpCycle_in (h : Within m z s) (hm : Sub 262664 m) : Within m z (State.hlpCycle s) := by
  unfold State.hlpCycle
  with_reducible repeat' first | assumption | apply State.setFld_in | apply State.modHlp_in | apply State.hlpInput_in | intro _ | split
  all_goals exact hm.of (by decide)

theorem State.hlpBoundary_in (h : Within m z s) (hm : Sub 87002936 m) : Within m z (State.hlpBoundary s) := by
  unfold State.hlpBoundary
  with_reducible repeat' first | assumption | apply State.hlpCapture_in | apply State.hlpApply_in | apply State.hlpOlc_in | apply State.hlpFixes_in | apply State.hlpModes_in | apply State.hlpStop_in | apply State.cond_in | apply State.toHlp_in | apply State.hlpCycle_in | apply within_ite | intro _ | split | dsimp only
  all_goals exact hm.of (by decide)

theorem execHlpCycleStart_in (h : Within m z s) (hm : Sub 87002936 m) : Nexts m z (execHlpCycleStart s) := by
  unfold execHlpCycleStart
  with_reducible repeat' first | assumption | apply Nexts.next | apply nexts_ite | apply State.hlpBoundary_in | apply State.modHlp_in | apply within_ite | intro _ | split | dsimp only
  all_goals exact hm.of (by decide)

theorem State.hlpOutput_in (h : Within m z s) (hm : Sub 17041832 m) : Within m z (State.hlpOutput s) := by
  unfold State.hlpOutput
  with_reducible repeat' first | assumption | apply State.modHlp_in | apply State.commitRetained_in | apply State.forUnits_in | apply State.modPort_in | intro _ | split
  all_goals exact hm.of (by decide)

theorem State.hlpOverEnd_in (h : Within m z s) (hm : Sub 17041448 m) : Within m z (State.hlpOverEnd s) := by
  unfold State.hlpOverEnd
  with_reducible repeat' first | assumption | apply State.modHlp_in | apply State.post_in | apply State.countN_in | intro _ | split
  all_goals exact hm.of (by decide)

theorem execHlpExecutionEnd_in (h : Within m z s) (hm : Sub 17041832 m) (execUs) : Nexts m z (execHlpExecutionEnd execUs s) := by
  unfold execHlpExecutionEnd
  with_reducible repeat' first | assumption | apply Nexts.next | apply nexts_ite | apply State.setFld_in | apply State.cond_in | apply State.hlpOutput_in | apply State.hlpOverEnd_in | apply State.modHlp_in | intro _ | split
  all_goals exact hm.of (by decide)

theorem execHlpOverrun_in (h : Within m z s) (hm : Sub 87002424 m) : Nexts m z (execHlpOverrun s) := by
  unfold execHlpOverrun
  with_reducible repeat' first | assumption | apply Nexts.next | apply nexts_ite | apply State.hlpHalt_in | apply State.count_in | apply State.modHlp_in | apply within_ite | intro _ | split
  all_goals exact hm.of (by decide)

theorem execHlpHardLimit_in (h : Within m z s) (hm : Sub 87002424 m) : Nexts m z (execHlpHardLimit s) := by
  unfold execHlpHardLimit
  with_reducible repeat' first | assumption | apply Nexts.next | apply nexts_ite | apply State.hlpHalt_in | intro _ | split
  all_goals exact hm.of (by decide)

theorem execHlpInitLimit_in (h : Within m z s) (hm : Sub 87002424 m) : Nexts m z (execHlpInitLimit s) := by
  unfold execHlpInitLimit
  with_reducible repeat' first | assumption | apply Nexts.next | apply nexts_ite | apply State.hlpHalt_in | intro _ | split
  all_goals exact hm.of (by decide)

theorem execHlpFetchParity_in (h : Within m z s) (hm : Sub 87002424 m) : Nexts m z (execHlpFetchParity s) := by
  unfold execHlpFetchParity
  with_reducible repeat' first | assumption | apply Nexts.next | apply nexts_ite | apply State.memErr_in | apply State.hlpHalt_in | apply within_ite | intro _ | split | dsimp only
  all_goals exact hm.of (by decide)

theorem execHlpTileRewrite_in (h : Within m z s) (hm : Sub 263176 m) (tile) : Nexts m z (execHlpTileRewrite tile s) := by
  unfold execHlpTileRewrite
  with_reducible repeat' first | assumption | apply Nexts.next | apply nexts_ite | apply State.modHlp_in | apply State.hlpFix_in | apply within_ite | intro _ | split
  all_goals exact hm.of (by decide)

theorem State.toPair_in (h : Within m z s) (hm : Sub 16779304 m) (n) : Within m z (State.toPair s n) := by
  unfold State.toPair
  with_reducible repeat' first | assumption | apply State.setFld_in | apply State.setFlag_in | apply State.post_in | apply State.gdenCmd_in | apply within_ite | intro _ | split | dsimp only
  all_goals exact hm.of (by decide)

theorem State.raiseAct_in (h : Within m z s) (hm : Sub 16877608 m) : Within m z (State.raiseAct s) := by
  unfold State.raiseAct
  with_reducible repeat' first | assumption | apply State.setFlag_in | apply State.modPair_in | apply State.forUnits_in | apply State.modLane_in | apply State.postAct_in | apply within_ite | intro _ | split | dsimp only
  all_goals exact hm.of (by decide)

theorem State.becomeActive_in (h : Within m z s) (hm : Sub 21338152 m) : Within m z (State.becomeActive s) := by
  unfold State.becomeActive
  with_reducible repeat' first | assumption | apply State.raiseAct_in | apply State.modPair_in | apply State.modHlp_in | apply State.modPtp_in | apply State.toPair_in | apply State.forUnits_in | apply State.obsSwitch_in | apply within_ite | intro _ | split | dsimp only
  all_goals exact hm.of (by decide)

theorem State.conflict_in (h : Within m z s) (hm : Sub 16779304 m) : Within m z (State.conflict s) := by
  unfold State.conflict
  with_reducible repeat' first | assumption | apply State.post_in | apply State.count_in | intro _ | split
  all_goals exact hm.of (by decide)

theorem execPartnerActChange_in (h : Within m z s) (hm : Sub 16844840 m) (level) : Nexts m z (execPartnerActChange level s) := by
  unfold execPartnerActChange
  with_reducible repeat' first | assumption | apply Nexts.next | apply nexts_ite | apply State.setFlag_in | apply State.gdenCmd_in | apply State.modPair_in | apply State.releaseAct_in | apply State.conflict_in | apply within_ite | intro _ | split
  all_goals exact hm.of (by decide)

theorem execActOutReadbackMismatch_in (h : Within m z s) (hm : Sub 84117800 m) (on) : Nexts m z (execActOutReadbackMismatch on s) := by
  unfold execActOutReadbackMismatch
  with_reducible repeat' first | assumption | decide | apply Nexts.next | apply nexts_ite | apply State.causeOn_in | apply within_ite | intro _ | split | dsimp only
  all_goals exact hm.of (by decide)

theorem execMissingRg0Boundary_in (h : Within m z s) (hm : Sub 16844840 m) : Nexts m z (execMissingRg0Boundary s) := by
  unfold execMissingRg0Boundary
  with_reducible repeat' first | assumption | apply Nexts.next | apply nexts_ite | apply State.releaseAct_in | intro _ | split
  all_goals exact hm.of (by decide)

theorem execSgrInChange_in (h : Within m z s) (hm : Sub 84052264 m) (level) : Nexts m z (execSgrInChange level s) := by
  unfold execSgrInChange
  with_reducible repeat' first | assumption | apply Nexts.next | apply nexts_ite | apply State.setFlag_in | apply State.applyRelease_in | apply State.removeGates_in | intro _ | split
  all_goals exact hm.of (by decide)

theorem execRemoteSgrEnd_in (h : Within m z s) (hm : Sub 8 m) : Nexts m z (execRemoteSgrEnd s) := by
  unfold execRemoteSgrEnd
  with_reducible repeat' first | assumption | apply Nexts.next | apply nexts_ite | apply State.applyRelease_in | apply State.cond_in | apply State.setFlag_in | intro _ | split
  all_goals exact hm.of (by decide)

theorem State.showReady_in (h : Within m z s) (hm : Sub 16779304 m) : Within m z (State.showReady s) := by
  unfold State.showReady
  with_reducible repeat' first | assumption | apply State.setReg_in | apply State.cond_in | apply State.setFlag_in | apply State.post_in | apply within_ite | intro _ | split
  all_goals exact hm.of (by decide)

theorem State.pairTick_in (h : Within m z s) (hm : Sub 16844840 m) : Within m z (State.pairTick s) := by
  unfold State.pairTick
  with_reducible repeat' first | assumption | apply State.showReady_in | apply State.modPair_in | apply State.toPair_in | apply within_ite | intro _ | split | dsimp only
  all_goals exact hm.of (by decide)

theorem execPairActivate_in (h : Within m z s) (hm : Sub 2162704 m) (tag) : Nexts m z (execPairActivate tag s) := by
  unfold execPairActivate
  with_reducible repeat' first | assumption | apply Nexts.next | apply nexts_ite | apply serve_in | apply State.done_in | apply State.modPair_in | apply State.start_in | apply within_ite | intro _ | split
  all_goals exact hm.of (by decide)

theorem State.activateTick_in (h : Within m z s) (hm : Sub 23435320 m) : Within m z (State.activateTick s) := by
  unfold State.activateTick
  with_reducible repeat' first | assumption | apply State.doneAt_in | apply State.modPair_in | apply State.becomeActive_in | apply within_ite | intro _ | split
  all_goals exact hm.of (by decide)

theorem execTakeover_in (h : Within m z s) (hm : Sub 21338152 m) : Nexts m z (execTakeover s) := by
  unfold execTakeover
  with_reducible repeat' first | assumption | apply Nexts.next | apply nexts_ite | apply State.post_in | apply State.count_in | apply State.becomeActive_in | intro _ | split
  all_goals exact hm.of (by decide)

theorem execPairHandover_in (h : Within m z s) (hm : Sub 2162704 m) (tag) : Nexts m z (execPairHandover tag s) := by
  unfold execPairHandover
  with_reducible repeat' first | assumption | apply Nexts.next | apply nexts_ite | apply serve_in | apply State.done_in | apply State.modPair_in | apply State.start_in | apply within_ite | intro _ | split
  all_goals exact hm.of (by decide)

theorem execHandoverRelease_in (h : Within m z s) (hm : Sub 16844840 m) : Nexts m z (execHandoverRelease s) := by
  unfold execHandoverRelease
  with_reducible repeat' first | assumption | apply Nexts.next | apply nexts_ite | apply State.post_in | apply State.count_in | apply State.releaseAct_in | apply within_ite | intro _ | split
  all_goals exact hm.of (by decide)

theorem State.handoverEnd_in (h : Within m z s) (hm : Sub 2162704 m) : Within m z (State.handoverEnd s) := by
  unfold State.handoverEnd
  with_reducible repeat' first | assumption | apply State.complete_in | apply State.modPair_in | apply within_ite | intro _ | split
  all_goals exact hm.of (by decide)

theorem State.peerSays_in (h : Within m z s) (hm : Sub 2162712 m) (st) (gait) (digest) : Within m z (State.peerSays s st gait digest) := by
  unfold State.peerSays
  with_reducible repeat' first | assumption | apply State.modPair_in | apply State.setFld_in | apply State.handoverEnd_in | apply within_ite | intro _ | split
  all_goals exact hm.of (by decide)

theorem State.pairChange_in (h : Within m z s) (hm : Sub 33416 m) (c) : Within m z (State.pairChange s c) := by
  unfold State.pairChange
  with_reducible repeat' first | assumption | apply State.stageRate_in | apply State.clearLanes_in | intro _ | split
  all_goals exact hm.of (by decide)

theorem execScheduledPairChange_in (h : Within m z s) (hm : Sub 98952 m) : Nexts m z (execScheduledPairChange s) := by
  unfold execScheduledPairChange
  with_reducible repeat' first | assumption | apply Nexts.next | apply nexts_ite | apply State.pairChange_in | apply State.modPair_in | apply foldl_in | intro _ | split
  all_goals exact hm.of (by decide)

theorem execStandbyGdenDrop_in (h : Within m z s) (hm : Sub 65544 m) : Nexts m z (execStandbyGdenDrop s) := by
  unfold execStandbyGdenDrop
  with_reducible repeat' first | assumption | apply Nexts.next | apply nexts_ite | apply State.modPair_in | apply State.gdenCmd_in | apply within_ite | intro _ | split | dsimp only
  all_goals exact hm.of (by decide)

theorem execGdenPulseTest_in (h : Within m z s) (hm : Sub 84117800 m) (pins) : Nexts m z (execGdenPulseTest pins s) := by
  unfold execGdenPulseTest
  with_reducible repeat' first | assumption | decide | apply Nexts.next | apply nexts_ite | apply State.cause_in | apply within_ite | intro _ | split | dsimp only
  all_goals exact hm.of (by decide)

theorem execMirrorRecordSend_in (h : Within m z s) (hm : Sub 327688 m) : Nexts m z (execMirrorRecordSend s) := by
  unfold execMirrorRecordSend
  with_reducible repeat' first | assumption | apply Nexts.next | apply nexts_ite | apply State.modPair_in | apply State.modHlp_in | apply State.setFld_in | apply State.count_in | apply within_ite | intro _ | split | dsimp only
  all_goals exact hm.of (by decide)

theorem execCreditReceived_in (h : Within m z s) (hm : Sub 65536 m) (lane) (n) (check) : Nexts m z (execCreditReceived lane n check s) := by
  unfold execCreditReceived
  with_reducible repeat' first | assumption | apply Nexts.next | apply nexts_ite | apply State.modPair_in | intro _ | split
  all_goals exact hm.of (by decide)

theorem State.sendCredits_in (h : Within m z s) (hm : Sub 65536 m) : Within m z (State.sendCredits s) := by
  unfold State.sendCredits
  with_reducible repeat' first | assumption | apply State.modPair_in | apply within_ite | intro _ | split | dsimp only
  all_goals exact hm.of (by decide)

theorem State.freeSlots_in (h : Within m z s) (hm : Sub 65536 m) (n) : Within m z (State.freeSlots s n) := by
  unfold State.freeSlots
  with_reducible repeat' first | assumption | apply State.modPair_in | apply State.sendCredits_in | apply within_ite | intro _ | split | dsimp only
  all_goals exact hm.of (by decide)

theorem State.missRecord_in (h : Within m z s) (hm : Sub 65544 m) (n) : Within m z (State.missRecord s n) := by
  unfold State.missRecord
  with_reducible repeat' first | assumption | apply State.count_in | apply State.freeSlots_in | intro _ | split
  all_goals exact hm.of (by decide)

theorem State.beginRecord_in (h : Within m z s) (hm : Sub 65544 m) (num) (cnt) : Within m z (State.beginRecord s num cnt) := by
  unfold State.beginRecord
  with_reducible repeat' first | assumption | apply State.missRecord_in | apply State.modPair_in | apply within_ite | intro _ | split
  all_goals exact hm.of (by decide)

theorem State.takeBlock_in (h : Within m z s) (hm : Sub 65544 m) (b) (skew) (near) (theirs) : Within m z (State.takeBlock s b skew near theirs) := by
  unfold State.takeBlock
  with_reducible repeat' first | assumption | apply State.beginRecord_in | apply State.modPair_in | apply State.cond_in | apply State.setFld_in | apply State.missRecord_in | apply within_ite | intro _ | split | dsimp only
  all_goals exact hm.of (by decide)

theorem execMirrorBlockReceived_in (h : Within m z s) (hm : Sub 65544 m) (lane) (bytes) (sof) : Nexts m z (execMirrorBlockReceived lane bytes sof s) := by
  unfold execMirrorBlockReceived
  with_reducible repeat' first | assumption | apply Nexts.next | apply nexts_ite | apply State.count_in | apply State.modPair_in | apply State.takeBlock_in | apply within_ite | intro _ | split | dsimp only
  all_goals exact hm.of (by decide)

theorem State.putFam_in (h : Within m z s) (hm : Sub 128 m) (p) (r) (l) : Within m z (State.putFam s p r l) := by
  unfold State.putFam
  with_reducible repeat' first | assumption | apply State.setCwords_in | apply State.modCtx_in | apply State.warm_in | apply within_ite | intro _ | split | dsimp only
  all_goals exact hm.of (by decide)

theorem State.mirrorState_in (h : Within m z s) (hm : Sub 8390920 m) (r) : Within m z (State.mirrorState s r) := by
  unfold State.mirrorState
  with_reducible repeat' first | assumption | apply State.setFld_in | apply State.cond_in | apply State.portMoved_in | apply State.modPort_in | apply within_ite | intro _ | split | dsimp only
  all_goals exact hm.of (by decide)

theorem State.applyPort_in (h : Within m z s) (hm : Sub 8395144 m) (m0) (r) : Within m z (State.applyPort s m0 r) := by
  unfold State.applyPort
  with_reducible repeat' first | assumption | apply State.mirrorState_in | apply State.setFld_in | apply State.putFam_in | apply State.setCword_in | apply State.warm_in | apply State.govWrite_in | apply State.cond_in | apply State.modObs_in | apply State.govRamp_in | apply State.setFlag_in | apply within_ite | intro _ | split | dsimp only
  all_goals exact hm.of (by decide)

theorem State.applyCtx_in (h : Within m z s) (hm : Sub 128 m) (r) : Within m z (State.applyCtx s r) := by
  unfold State.applyCtx
  with_reducible repeat' first | assumption | apply State.showHist_in | apply State.warm_in | apply State.modCtx_in | apply State.setCwords_in | apply within_ite | intro _ | split
  all_goals exact hm.of (by decide)

theorem State.steerTb_in (h : Within m z s) (hm : Sub 1048576 m) (r) (b) (d) : Within m z (State.steerTb s r b d) := by
  unfold State.steerTb
  with_reducible repeat' first | assumption | apply State.modTb_in | apply within_ite | intro _ | split | dsimp only
  all_goals exact hm.of (by decide)

theorem State.applyTime_in (h : Within m z s) (hm : Sub 22022184 m) (r) : Within m z (State.applyTime s r) := by
  unfold State.applyTime
  with_reducible repeat' first | assumption | apply State.steerTb_in | apply State.modPtp_in | apply State.setTbLock_in | apply within_ite | intro _ | split | dsimp only
  all_goals exact hm.of (by decide)

theorem State.applyChange_in (h : Within m z s) (hm : Sub 65544 m) (x) : Within m z (State.applyChange s x) := by
  unfold State.applyChange
  with_reducible repeat' first | assumption | apply State.modPair_in | apply State.setFlag_in | apply within_ite | intro _ | split | dsimp only
  all_goals exact hm.of (by decide)

theorem State.applySlice_in (h : Within m z s) (hm : Sub 327680 m) (r) : Within m z (State.applySlice s r) := by
  unfold State.applySlice
  with_reducible repeat' first | assumption | apply State.modPair_in | apply State.modHlp_in | apply within_ite | intro _ | split | dsimp only
  all_goals exact hm.of (by decide)

theorem State.fixOffset_in (h : Within m z s) (hm : Sub 65544 m) (r) : Within m z (State.fixOffset s r) := by
  unfold State.fixOffset
  with_reducible repeat' first | assumption | apply State.setFld_in | apply State.modPair_in | apply within_ite | intro _ | split
  all_goals exact hm.of (by decide)

theorem execMirrorRecordApply_in (h : Within m z s) (hm : Sub 32840120 m) (rec) : Nexts m z (execMirrorRecordApply rec s) := by
  unfold execMirrorRecordApply
  with_reducible repeat' first | assumption | apply Nexts.next | apply nexts_ite | apply State.fixOffset_in | apply State.applyCtx_in | apply State.applyPort_in | apply State.applyChange_in | apply State.applyTime_in | apply State.applySlice_in | apply State.peerSays_in | apply State.modPair_in | apply State.setFld_in | apply State.freeSlots_in | apply foldl_in | apply within_ite | intro _ | split | dsimp only
  all_goals exact hm.of (by decide)

theorem execStandbyStatusSend_in (h : Within m z s) (hm : Sub 65536 m) : Nexts m z (execStandbyStatusSend s) := by
  unfold execStandbyStatusSend
  with_reducible repeat' first | assumption | apply Nexts.next | apply nexts_ite | apply State.modPair_in | apply within_ite | intro _ | split | dsimp only
  all_goals exact hm.of (by decide)

theorem execStandbyStatusReceived_in (h : Within m z s) (hm : Sub 2162712 m) (st) : Nexts m z (execStandbyStatusReceived st s) := by
  unfold execStandbyStatusReceived
  with_reducible repeat' first | assumption | apply Nexts.next | apply nexts_ite | apply State.modPair_in | apply State.peerSays_in | apply State.setFlag_in | intro _ | split
  all_goals exact hm.of (by decide)

theorem execHelloReceived_in (h : Within m z s) (hm : Sub 16844840 m) (lane) (h0) : Nexts m z (execHelloReceived lane h0 s) := by
  unfold execHelloReceived
  with_reducible repeat' first | assumption | apply Nexts.next | apply nexts_ite | apply State.modPair_in | apply State.toLane_in | apply State.sendCredits_in | apply within_ite | intro _ | split | dsimp only
  all_goals exact hm.of (by decide)

theorem execMirrorLaneLost_in (h : Within m z s) (hm : Sub 16844840 m) (lane) : Nexts m z (execMirrorLaneLost lane s) := by
  unfold execMirrorLaneLost
  with_reducible repeat' first | assumption | apply Nexts.next | apply nexts_ite | apply State.toLane_in | apply State.post_in | apply within_ite | intro _ | split | dsimp only
  all_goals exact hm.of (by decide)

end Sys2Proof.Machine
end

