-- ==== Sys2Proof/Laws/Frame2.lean ====
section
/-!
SUPPORT. What the operations and the meanings of these files of Machine change (see Laws/Frame):
Mailbox, Clock, Update, HlpCmds, Reset, Capture, Trace, Spur, Window, Boundary, RemoteIo, CfgRec, CfgApply, Commit, GaitCmds, Pwm, Query.
-/
namespace Sys2Proof.Machine

set_option linter.unusedTactic false
set_option linter.unreachableTactic false

variable {m : Nat} {z s : State}

theorem State.takeCmd_in (h : Within m z s) (hm : Sub 2097168 m) (m0) (hdr) (payload) : Within m z (State.takeCmd s m0 hdr payload) := by
  unfold State.takeCmd
  with_reducible repeat' first | assumption | apply State.settle_in | (apply Within.set_fcp; first | assumption | apply State.settle_in) | intro _ | split
  all_goals exact hm.of (by decide)

theorem State.doorbell_in (h : Within m z s) (hm : Sub 2097176 m) (m0) : Within m z (State.doorbell s m0) := by
  unfold State.doorbell
  with_reducible repeat' first | assumption | apply State.box_in | apply State.takeCmd_in | apply State.count_in | apply within_ite | intro _ | split
  all_goals exact hm.of (by decide)

theorem State.bell_in (h : Within m z s) (hm : Sub 2097176 m) (m0) (value) : Within m z (State.bell s m0 value) := by
  unfold State.bell
  with_reducible repeat' first | assumption | apply State.doorbell_in | apply within_ite | (apply Within.set_fcp; first | assumption | apply State.doorbell_in | apply within_ite) | intro _ | split | dsimp only
  all_goals exact hm.of (by decide)

theorem execMbDoorbell_in (h : Within m z s) (hm : Sub 2097176 m) (mb) (value) : Nexts m z (execMbDoorbell mb value s) := by
  unfold execMbDoorbell
  with_reducible repeat' first | assumption | apply Nexts.next | apply nexts_ite | apply State.guarded_in | apply State.bell_in | intro _ | split
  all_goals exact hm.of (by decide)

theorem State.headWrite_in (h : Within m z s) (hm : Sub 24 m) (m0) (value) : Within m z (State.headWrite s m0 value) := by
  unfold State.headWrite
  with_reducible repeat' first | assumption | apply State.box_in | apply State.count_in | apply within_ite | intro _ | split
  all_goals exact hm.of (by decide)

theorem execMbCplHeadWrite_in (h : Within m z s) (hm : Sub 24 m) (mb) (value) : Nexts m z (execMbCplHeadWrite mb value s) := by
  unfold execMbCplHeadWrite
  with_reducible repeat' first | assumption | apply Nexts.next | apply nexts_ite | apply State.guarded_in | apply State.headWrite_in | intro _ | split
  all_goals exact hm.of (by decide)

theorem State.svpResume_in (h : Within m z s) (hm : Sub 2097176 m) : Within m z (State.svpResume s) := by
  unfold State.svpResume
  with_reducible repeat' first | assumption | apply State.complete_in | apply State.forUnits_in | apply State.doorbell_in | apply foldl_in | apply within_ite | (apply Within.set_fcp; first | assumption | apply State.complete_in | apply State.forUnits_in | apply State.doorbell_in | apply foldl_in | apply within_ite) | intro _ | split | dsimp only
  all_goals exact hm.of (by decide)

theorem State.send_in (h : Within m z s) (hm : Sub 2097168 m) (m0) (type) (cseq) (credits) (code) (msg) : Within m z (State.send s m0 type cseq credits code msg) := by
  unfold State.send
  with_reducible repeat' first | assumption | apply State.emit_in | apply within_ite | intro _ | split | dsimp only
  all_goals exact hm.of (by decide)

theorem State.sendAdmit_in (h : Within m z s) (hm : Sub 2097168 m) (m0) (cseq) (code) : Within m z (State.sendAdmit s m0 cseq code) := by
  unfold State.sendAdmit
  with_reducible repeat' first | assumption | apply State.send_in | intro _ | split
  all_goals exact hm.of (by decide)

theorem State.cmdMessage_in (h : Within m z s) (hm : Sub 2097176 m) (m0) (msg) : Within m z (State.cmdMessage s m0 msg) := by
  unfold State.cmdMessage
  with_reducible repeat' first | assumption | apply State.sendAdmit_in | apply State.count_in | apply State.takeCmd_in | apply State.box_in | apply State.send_in | apply within_ite | intro _ | split
  all_goals exact hm.of (by decide)

theorem State.ackMessage_in (h : Within m z s) (hm : Sub 16 m) (m0) (msg) : Within m z (State.ackMessage s m0 msg) := by
  unfold State.ackMessage
  with_reducible repeat' first | assumption | apply State.box_in | intro _ | split
  all_goals exact hm.of (by decide)

theorem State.notice_in (h : Within m z s) (hm : Sub 2097168 m) (m0) : Within m z (State.notice s m0) := by
  unfold State.notice
  with_reducible repeat' first | assumption | apply State.send_in | intro _ | split
  all_goals exact hm.of (by decide)

theorem State.message_in (h : Within m z s) (hm : Sub 2097176 m) (m0) (msg) : Within m z (State.message s m0 msg) := by
  unfold State.message
  with_reducible repeat' first | assumption | apply State.count_in | apply State.cmdMessage_in | apply State.ackMessage_in | apply State.notice_in | apply within_ite | intro _ | split | dsimp only
  all_goals exact hm.of (by decide)

theorem execCmd_in (h : Within m z s) (hm : Sub 2097176 m) (mb) (bytes) : Nexts m z (execCmd mb bytes s) := by
  unfold execCmd
  with_reducible repeat' first | assumption | apply Nexts.next | apply nexts_ite | apply State.message_in | intro _ | split
  all_goals exact hm.of (by decide)

theorem execCplAck_in (h : Within m z s) (hm : Sub 2097176 m) (mb) (bytes) : Nexts m z (execCplAck mb bytes s) := by
  unfold execCplAck
  with_reducible repeat' first | assumption | apply Nexts.next | apply nexts_ite | apply State.message_in | intro _ | split
  all_goals exact hm.of (by decide)

theorem execProbe_in (h : Within m z s) (hm : Sub 2097176 m) (mb) : Nexts m z (execProbe mb s) := by
  unfold execProbe
  with_reducible repeat' first | assumption | apply Nexts.next | apply nexts_ite | apply State.count_in | apply State.notice_in | apply within_ite | intro _ | split | dsimp only
  all_goals exact hm.of (by decide)

theorem State.resend_in (h : Within m z s) (hm : Sub 2097176 m) (m0) (p) : Within m z (State.resend s m0 p) := by
  unfold State.resend
  with_reducible repeat' first | assumption | apply State.count_in | apply State.send_in | intro _ | split
  all_goals exact hm.of (by decide)

theorem execCplResend_in (h : Within m z s) (hm : Sub 2097176 m) (tag) : Nexts m z (execCplResend tag s) := by
  unfold execCplResend
  with_reducible repeat' first | assumption | apply Nexts.next | apply nexts_ite | apply State.resend_in | apply within_ite | intro _ | split | dsimp only
  all_goals exact hm.of (by decide)

theorem State.segDrop_in (h : Within m z s) (hm : Sub 24 m) (m0) : Within m z (State.segDrop s m0) := by
  unfold State.segDrop
  with_reducible repeat' first | assumption | apply State.count_in | apply State.box_in | intro _ | split
  all_goals exact hm.of (by decide)

theorem State.segTake_in (h : Within m z s) (hm : Sub 2097176 m) (m0) (bytes) : Within m z (State.segTake s m0 bytes) := by
  unfold State.segTake
  with_reducible repeat' first | assumption | apply State.box_in | apply State.message_in | apply within_ite | intro _ | split
  all_goals exact hm.of (by decide)

theorem execCanSegment_in (h : Within m z s) (hm : Sub 2097176 m) (can) (fd) (bytes) : Nexts m z (execCanSegment can fd bytes s) := by
  unfold execCanSegment
  with_reducible repeat' first | assumption | apply Nexts.next | apply nexts_ite | apply State.count_in | apply State.segDrop_in | apply State.segTake_in | apply within_ite | intro _ | split
  all_goals exact hm.of (by decide)

theorem execCanSegmentGap_in (h : Within m z s) (hm : Sub 24 m) (can) : Nexts m z (execCanSegmentGap can s) := by
  unfold execCanSegmentGap
  with_reducible repeat' first | assumption | apply Nexts.next | apply nexts_ite | apply State.segDrop_in | intro _ | split
  all_goals exact hm.of (by decide)

theorem State.linkDown_in (h : Within m z s) (hm : Sub 16779304 m) (m0) : Within m z (State.linkDown s m0) := by
  unfold State.linkDown
  with_reducible repeat' first | assumption | apply State.post_in | apply State.setFld_in | apply State.setFlag_in | apply within_ite | intro _ | split
  all_goals exact hm.of (by decide)

theorem State.clearClk_in (h : Within m z s) (hm : Sub 21039912 m) (d) : Within m z (State.clearClk s d) := by
  unfold State.clearClk
  with_reducible repeat' first | assumption | apply State.clkBit_in | apply State.genStop_in | apply State.forUnits_in | apply State.laneStops_in | apply State.setFlag_in | apply State.dropLock_in | apply State.linkDown_in | apply within_ite | intro _ | split | dsimp only
  all_goals exact hm.of (by decide)

theorem State.setClk_in (h : Within m z s) (hm : Sub 287312440 m) (d) : Within m z (State.setClk s d) := by
  unfold State.setClk
  with_reducible repeat' first | assumption | apply State.clkBit_in | apply State.modBoot_in | apply State.releaseBlock_in | apply State.waitClk_in | apply State.svpResume_in | apply State.genGo_in | apply State.forUnits_in | apply State.setFlag_in | apply foldl_in | apply within_ite | intro _ | split | dsimp only
  all_goals exact hm.of (by decide)

theorem execClkOkChange_in (h : Within m z s) (hm : Sub 291572536 m) (dom) (ok) : Nexts m z (execClkOkChange dom ok s) := by
  unfold execClkOkChange
  with_reducible repeat' first | assumption | apply Nexts.next | apply nexts_ite | apply State.setClk_in | apply State.clearClk_in | apply within_ite | intro _ | split
  all_goals exact hm.of (by decide)

theorem State.dropGait_in (h : Within m z s) (hm : Sub 35651608 m) : Within m z (State.dropGait s) := by
  unfold State.dropGait
  with_reducible repeat' first | assumption | apply State.setFlag_in | apply State.setFld_in | apply State.modClk_in | apply State.done_in | apply within_ite | intro _ | split | dsimp only
  all_goals exact hm.of (by decide)

theorem State.loseM_in (h : Within m z s) (hm : Sub 56707896 m) : Within m z (State.loseM s) := by
  unfold State.loseM
  with_reducible repeat' first | assumption | apply State.dropGait_in | apply State.setFlag_in | apply State.modClk_in | apply State.sdRestartAll_in | apply State.clearClk_in | apply within_ite | intro _ | split | dsimp only
  all_goals exact hm.of (by decide)

theorem State.losePll_in (h : Within m z s) (hm : Sub 56707896 m) (p) : Within m z (State.losePll s p) := by
  unfold State.losePll
  with_reducible repeat' first | assumption | apply State.loseM_in | apply State.clearClk_in | apply within_ite | intro _ | split
  all_goals exact hm.of (by decide)

theorem execRefclkLoss_in (h : Within m z s) (hm : Sub 56707896 m) : Nexts m z (execRefclkLoss s) := by
  unfold execRefclkLoss
  with_reducible repeat' first | assumption | apply Nexts.next | apply nexts_ite | apply State.post_in | apply State.setFlag_in | apply State.stopPlls_in | apply State.losePll_in | apply foldl_in | apply within_ite | intro _ | split
  all_goals exact hm.of (by decide)

theorem execRefclkRestored_in (h : Within m z s) (hm : Sub 33554440 m) : Nexts m z (execRefclkRestored s) := by
  unfold execRefclkRestored
  with_reducible repeat' first | assumption | apply Nexts.next | apply nexts_ite | apply State.setFlag_in | apply State.startPlls_in | apply within_ite | intro _ | split
  all_goals exact hm.of (by decide)

theorem execPllLossOfLock_in (h : Within m z s) (hm : Sub 56707896 m) (p) : Nexts m z (execPllLossOfLock p s) := by
  unfold execPllLossOfLock
  with_reducible repeat' first | assumption | apply Nexts.next | apply nexts_ite | apply State.count_in | apply State.post_in | apply State.setFlag_in | apply State.losePll_in | apply State.startAttempt_in | apply within_ite | intro _ | split
  all_goals exact hm.of (by decide)

theorem execPllLock_in (h : Within m z s) (hm : Sub 33554440 m) (p) : Nexts m z (execPllLock p s) := by
  unfold execPllLock
  with_reducible repeat' first | assumption | apply Nexts.next | apply nexts_ite | apply State.setFlag_in | apply State.setAttempt_in | apply State.modClk_in | apply within_ite | intro _ | split | dsimp only
  all_goals exact hm.of (by decide)

theorem execPllHopTimeout_in (h : Within m z s) (hm : Sub 33554440 m) (p) : Nexts m z (execPllHopTimeout p s) := by
  unfold execPllHopTimeout
  with_reducible repeat' first | assumption | apply Nexts.next | apply nexts_ite | apply State.setAttempt_in | apply State.setFlag_in | intro _ | split
  all_goals exact hm.of (by decide)

theorem State.writeSlot_in (h : Within m z s) (hm : Sub 8 m) (k0) (band) (temp) : Within m z (State.writeSlot s k0 band temp) := by
  unfold State.writeSlot
  with_reducible repeat' first | assumption | apply State.setFld_in | apply State.setFlag_in | intro _ | split
  all_goals exact hm.of (by decide)

theorem execBandSearchComplete_in (h : Within m z s) (hm : Sub 33554440 m) (p) (band) (temp) : Nexts m z (execBandSearchComplete p band temp s) := by
  unfold execBandSearchComplete
  with_reducible repeat' first | assumption | apply Nexts.next | apply nexts_ite | apply State.count_in | apply State.setAttempt_in | apply State.writeSlot_in | apply State.cond_in | apply State.setFlag_in | apply within_ite | intro _ | split
  all_goals exact hm.of (by decide)

theorem execBandSearchRetry_in (h : Within m z s) (hm : Sub 33554432 m) (p) (temp) : Nexts m z (execBandSearchRetry p temp s) := by
  unfold execBandSearchRetry
  with_reducible repeat' first | assumption | apply Nexts.next | apply nexts_ite | apply State.startAttempt_in | intro _ | split
  all_goals exact hm.of (by decide)

theorem execDllTapUpdate_in (h : Within m z s) (hm : Sub 8 m) (tap) (errPs) : Nexts m z (execDllTapUpdate tap errPs s) := by
  unfold execDllTapUpdate
  with_reducible repeat' first | assumption | apply Nexts.next | apply nexts_ite | apply State.setFlag_in | apply State.setFld_in | intro _ | split
  all_goals exact hm.of (by decide)

theorem execPairclkOkChange_in (h : Within m z s) (hm : Sub 21039912 m) (ok) : Nexts m z (execPairclkOkChange ok s) := by
  unfold execPairclkOkChange
  with_reducible repeat' first | assumption | apply Nexts.next | apply nexts_ite | apply State.setFlag_in | apply State.clearClk_in | apply within_ite | intro _ | split
  all_goals exact hm.of (by decide)

theorem execSyncInEdge_in (h : Within m z s) (hm : Sub 50333736 m) (refPhase) : Nexts m z (execSyncInEdge refPhase s) := by
  unfold execSyncInEdge
  with_reducible repeat' first | assumption | apply Nexts.next | apply nexts_ite | apply State.modClk_in | apply State.setFlag_in | apply State.post_in | apply within_ite | intro _ | split | dsimp only
  all_goals exact hm.of (by decide)

theorem execWakeSource_in (h : Within m z s) (hm : Sub 33554440 m) (src) : Nexts m z (execWakeSource src s) := by
  unfold execWakeSource
  with_reducible repeat' first | assumption | apply Nexts.next | apply nexts_ite | apply State.setFld_in | apply State.startWake_in | apply State.modClk_in | apply within_ite | intro _ | split
  all_goals exact hm.of (by decide)

theorem execWakeComplete_in (h : Within m z s) (hm : Sub 52710008 m) : Nexts m z (execWakeComplete s) := by
  unfold execWakeComplete
  with_reducible repeat' first | assumption | apply Nexts.next | apply nexts_ite | apply State.modClk_in | apply State.setGait_in | apply State.post_in | apply State.setFlag_in | apply State.count_in | apply State.forUnits_in | apply State.setFld_in | apply State.sdRestartAll_in | apply State.box_in | apply State.svpResume_in | apply State.hlpWake_in | apply within_ite | (apply Within.set_win; first | assumption | apply Nexts.next | apply nexts_ite | apply State.modClk_in | apply State.setGait_in | apply State.post_in | apply State.setFlag_in | apply State.count_in | apply State.forUnits_in | apply State.setFld_in | apply State.sdRestartAll_in | apply State.box_in | apply State.svpResume_in | apply State.hlpWake_in | apply within_ite) | intro _ | split | dsimp only
  all_goals exact hm.of (by decide)

theorem execWakeFail_in (h : Within m z s) (hm : Sub 8 m) : Nexts m z (execWakeFail s) := by
  unfold execWakeFail
  with_reducible repeat' first | assumption | apply Nexts.next | apply nexts_ite | apply State.setFlag_in | intro _ | split
  all_goals exact hm.of (by decide)

theorem execBankPresenceChange_in (h : Within m z s) (hm : Sub 33554440 m) (bankB) (present) : Nexts m z (execBankPresenceChange bankB present s) := by
  unfold execBankPresenceChange
  with_reducible repeat' first | assumption | apply Nexts.next | apply nexts_ite | apply State.modClk_in | apply State.setFld_in | apply within_ite | intro _ | split
  all_goals exact hm.of (by decide)

theorem State.modSlot_in (h : Within m z s) (hm : Sub 268435456 m) (k0) (f) : Within m z (State.modSlot s k0 f) := by
  unfold State.modSlot
  with_reducible repeat' first | assumption | apply State.modBoot_in | intro _ | split
  all_goals exact hm.of (by decide)

theorem State.showIdent_in (h : Within m z s) (hm : Sub 8 m) : Within m z (State.showIdent s) := by
  unfold State.showIdent
  with_reducible repeat' first | assumption | apply State.setFld_in | apply State.setReg_in | apply State.setFlag_in | intro _ | split
  all_goals exact hm.of (by decide)

theorem State.dropPending_in (h : Within m z s) (hm : Sub 8455576 m) : Within m z (State.dropPending s) := by
  unfold State.dropPending
  with_reducible repeat' first | assumption | apply State.forUnits_in | apply State.modPort_in | apply State.setFlag_in | apply State.setFld_in | apply State.unlock_in | apply within_ite | (apply Within.set_fcp_cle_pair_cap; first | assumption | apply State.forUnits_in | apply State.modPort_in | apply State.setFlag_in | apply State.setFld_in | apply State.unlock_in | apply within_ite) | intro _ | split | dsimp only
  all_goals exact hm.of (by decide)

theorem State.noticeAll_in (h : Within m z s) (hm : Sub 2097168 m) : Within m z (State.noticeAll s) := by
  unfold State.noticeAll
  with_reducible repeat' first | assumption | apply State.notice_in | apply foldl_in | intro _ | split
  all_goals exact hm.of (by decide)

theorem State.flush_in (h : Within m z s) (hm : Sub 2097168 m) (status) : Within m z (State.flush s status) := by
  unfold State.flush
  with_reducible repeat' first | assumption | apply State.completeEntry_in | apply foldl_in | intro _ | split
  all_goals exact hm.of (by decide)

theorem State.bootAgain_in (h : Within m z s) (hm : Sub 268435464 m) (src) : Within m z (State.bootAgain s src) := by
  unfold State.bootAgain
  with_reducible repeat' first | assumption | apply State.setFld_in | apply State.modBoot_in | apply within_ite | intro _ | split | dsimp only
  all_goals exact hm.of (by decide)

theorem State.svpRestart_in (h : Within m z s) (hm : Sub 299959704 m) (planned) (src) (slot) : Within m z (State.svpRestart s planned src slot) := by
  unfold State.svpRestart
  with_reducible repeat' first | assumption | apply State.noteSrc_in | apply State.bootAgain_in | apply State.setFld_in | apply State.forUnits_in | apply State.box_in | apply State.dropPending_in | apply State.noticeAll_in | apply State.flush_in | apply within_ite | (apply Within.set_fcp_ptp_recd_boot; first | assumption | apply State.noteSrc_in | apply State.bootAgain_in | apply State.setFld_in | apply State.forUnits_in | apply State.box_in | apply State.dropPending_in | apply State.noticeAll_in | apply State.flush_in | apply within_ite) | intro _ | split | dsimp only
  all_goals exact hm.of (by decide)

theorem execSupervisorWatchdogExpiry_in (h : Within m z s) (hm : Sub 536870904 m) : Nexts m z (execSupervisorWatchdogExpiry s) := by
  unfold execSupervisorWatchdogExpiry
  with_reducible repeat' first | assumption | apply Nexts.next | apply nexts_ite | apply State.assertReset_in | apply State.svpRestart_in | apply within_ite | intro _ | split | dsimp only
  all_goals exact hm.of (by decide)

theorem State.resendAll_in (h : Within m z s) (hm : Sub 2097176 m) (s0 : State) : Within m z (State.resendAll s0 s) := by
  unfold State.resendAll
  with_reducible repeat' first | assumption | apply State.resend_in | apply foldl_in | apply within_ite | intro _ | split | dsimp only
  all_goals exact hm.of (by decide)

theorem execSupervisorRestartReopen_in (h : Within m z s) (hm : Sub 287311928 m) : Nexts m z (execSupervisorRestartReopen s) := by
  unfold execSupervisorRestartReopen
  with_reducible repeat' first | assumption | apply Nexts.next | apply nexts_ite | apply State.setFld_in | apply State.modBoot_in | apply State.showIdent_in | apply State.forUnits_in | apply State.box_in | apply State.resendAll_in | apply State.flush_in | apply State.noticeAll_in | apply State.post_in | apply State.cond_in | apply State.ringPut_in | apply within_ite | (apply Within.set_fcp; first | assumption | apply Nexts.next | apply nexts_ite | apply State.setFld_in | apply State.modBoot_in | apply State.showIdent_in | apply State.forUnits_in | apply State.box_in | apply State.resendAll_in | apply State.flush_in | apply State.noticeAll_in | apply State.post_in | apply State.cond_in | apply State.ringPut_in | apply within_ite) | intro _ | split | dsimp only
  all_goals exact hm.of (by decide)

theorem execUpdBegin_in (h : Within m z s) (hm : Sub 270532624 m) (tag) (nvm) : Nexts m z (execUpdBegin tag nvm s) := by
  unfold execUpdBegin
  with_reducible repeat' first | assumption | apply Nexts.next | apply nexts_ite | apply serve_in | apply State.done_in | apply State.modBoot_in | apply State.modSlot_in | apply within_ite | intro _ | split | dsimp only
  all_goals exact hm.of (by decide)

theorem execUpdWrite_in (h : Within m z s) (hm : Sub 270532624 m) (tag) (nvm) : Nexts m z (execUpdWrite tag nvm s) := by
  unfold execUpdWrite
  with_reducible repeat' first | assumption | apply Nexts.next | apply nexts_ite | apply serve_in | apply State.done_in | apply State.modSlot_in | apply State.modBoot_in | apply within_ite | intro _ | split | dsimp only
  all_goals exact hm.of (by decide)

theorem execUpdVerify_in (h : Within m z s) (hm : Sub 270532624 m) (tag) : Nexts m z (execUpdVerify tag s) := by
  unfold execUpdVerify
  with_reducible repeat' first | assumption | apply Nexts.next | apply nexts_ite | apply serve_in | apply State.done_in | apply State.modBoot_in | apply State.modSlot_in | apply State.complete_in | apply within_ite | intro _ | split
  all_goals exact hm.of (by decide)

theorem execUpdActivate_in (h : Within m z s) (hm : Sub 536870904 m) (tag) (nvm) : Nexts m z (execUpdActivate tag nvm s) := by
  unfold execUpdActivate
  with_reducible repeat' first | assumption | apply Nexts.next | apply nexts_ite | apply serve_in | apply State.done_in | apply State.modBoot_in | apply State.assertReset_in | apply within_ite | (apply Within.set_boot; first | assumption | apply Nexts.next | apply nexts_ite | apply serve_in | apply State.done_in | apply State.modBoot_in | apply State.assertReset_in | apply within_ite) | intro _ | split | dsimp only
  all_goals exact hm.of (by decide)

theorem execUpdRestart_in (h : Within m z s) (hm : Sub 299959704 m) (tag) : Nexts m z (execUpdRestart tag s) := by
  unfold execUpdRestart
  with_reducible repeat' first | assumption | apply Nexts.next | apply nexts_ite | apply serve_in | apply State.done_in | apply State.modBoot_in | apply State.svpRestart_in | apply within_ite | intro _ | split
  all_goals exact hm.of (by decide)

theorem execUpdSvn_in (h : Within m z s) (hm : Sub 270532632 m) (tag) : Nexts m z (execUpdSvn tag s) := by
  unfold execUpdSvn
  with_reducible repeat' first | assumption | apply Nexts.next | apply nexts_ite | apply serve_in | apply State.done_in | apply State.setFld_in | apply State.modBoot_in | apply within_ite | intro _ | split
  all_goals exact hm.of (by decide)

theorem execUpdInfo_in (h : Within m z s) (hm : Sub 2097168 m) (tag) : Nexts m z (execUpdInfo tag s) := by
  unfold execUpdInfo
  with_reducible repeat' first | assumption | apply Nexts.next | apply nexts_ite | apply serve_in | apply State.done_in | apply State.complete_in | apply within_ite | intro _ | split
  all_goals exact hm.of (by decide)

theorem execAttReport_in (h : Within m z s) (hm : Sub 270532624 m) (tag) : Nexts m z (execAttReport tag s) := by
  unfold execAttReport
  with_reducible repeat' first | assumption | apply Nexts.next | apply nexts_ite | apply serve_in | apply State.done_in | apply State.start_in | apply State.modBoot_in | apply within_ite | intro _ | split
  all_goals exact hm.of (by decide)

theorem execAttReportBuilt_in (h : Within m z s) (hm : Sub 270532624 m) : Nexts m z (execAttReportBuilt s) := by
  unfold execAttReportBuilt
  with_reducible repeat' first | assumption | apply Nexts.next | apply nexts_ite | apply State.modBoot_in | apply State.complete_in | apply within_ite | intro _ | split | dsimp only
  all_goals exact hm.of (by decide)

theorem State.readFile_in (h : Within m z s) (hm : Sub 2097168 m) (e) (file) : Within m z (State.readFile s e file) := by
  unfold State.readFile
  with_reducible repeat' first | assumption | apply State.done_in | apply State.complete_in | apply within_ite | intro _ | split
  all_goals exact hm.of (by decide)

theorem execAttRead_in (h : Within m z s) (hm : Sub 2097168 m) (tag) : Nexts m z (execAttRead tag s) := by
  unfold execAttRead
  with_reducible repeat' first | assumption | apply Nexts.next | apply nexts_ite | apply serve_in | apply State.readFile_in | intro _ | split
  all_goals exact hm.of (by decide)

theorem execAttIdentity_in (h : Within m z s) (hm : Sub 2097168 m) (tag) : Nexts m z (execAttIdentity tag s) := by
  unfold execAttIdentity
  with_reducible repeat' first | assumption | apply Nexts.next | apply nexts_ite | apply serve_in | apply State.readFile_in | intro _ | split
  all_goals exact hm.of (by decide)

theorem execHlpLoad_in (h : Within m z s) (hm : Sub 2359312 m) (tag) : Nexts m z (execHlpLoad tag s) := by
  unfold execHlpLoad
  with_reducible repeat' first | assumption | apply Nexts.next | apply nexts_ite | apply serve_in | apply State.done_in | apply State.modHlp_in | apply within_ite | intro _ | split
  all_goals exact hm.of (by decide)

theorem State.installProg_in (h : Within m z s) (hm : Sub 263176 m) (p) : Within m z (State.installProg s p) := by
  unfold State.installProg
  with_reducible repeat' first | assumption | apply State.setFlag_in | apply State.modHlp_in | apply State.setFld_in | (apply Within.set_coef; first | assumption | apply State.setFlag_in | apply State.modHlp_in | apply State.setFld_in) | intro _ | split
  all_goals exact hm.of (by decide)

theorem execHlpLoadDone_in (h : Within m z s) (hm : Sub 2360344 m) (tag) : Nexts m z (execHlpLoadDone tag s) := by
  unfold execHlpLoadDone
  with_reducible repeat' first | assumption | apply Nexts.next | apply nexts_ite | apply serve_in | apply State.done_in | apply State.installProg_in | apply State.setFlag_in | apply within_ite | intro _ | split
  all_goals exact hm.of (by decide)

theorem execHlpStart_in (h : Within m z s) (hm : Sub 19139128 m) (tag) : Nexts m z (execHlpStart tag s) := by
  unfold execHlpStart
  with_reducible repeat' first | assumption | apply Nexts.next | apply nexts_ite | apply serve_in | apply State.done_in | apply State.hlpRestart_in | apply within_ite | intro _ | split
  all_goals exact hm.of (by decide)

theorem execHlpStop_in (h : Within m z s) (hm : Sub 2097168 m) (tag) : Nexts m z (execHlpStop tag s) := by
  unfold execHlpStop
  with_reducible repeat' first | assumption | apply Nexts.next | apply nexts_ite | apply serve_in | apply State.start_in | apply State.done_in | apply within_ite | intro _ | split
  all_goals exact hm.of (by decide)

theorem execHlpMode_in (h : Within m z s) (hm : Sub 2097168 m) (tag) : Nexts m z (execHlpMode tag s) := by
  unfold execHlpMode
  with_reducible repeat' first | assumption | apply Nexts.next | apply nexts_ite | apply serve_in | apply State.done_in | apply State.start_in | apply within_ite | intro _ | split
  all_goals exact hm.of (by decide)

theorem execHlpOlc_in (h : Within m z s) (hm : Sub 2359320 m) (tag) : Nexts m z (execHlpOlc tag s) := by
  unfold execHlpOlc
  with_reducible repeat' first | assumption | apply Nexts.next | apply nexts_ite | apply serve_in | apply State.done_in | apply State.start_in | apply State.olcEnd_in | apply within_ite | intro _ | split | dsimp only
  all_goals exact hm.of (by decide)

theorem execVinPowerOn_in (h : Within m z s) (hm : Sub 536870904 m) : Nexts m z (execVinPowerOn s) := by
  unfold execVinPowerOn
  with_reducible repeat' first | assumption | apply Nexts.next | apply nexts_ite | apply State.assertReset_in | intro _ | split
  all_goals exact hm.of (by decide)

theorem execVinBrownOut_in (h : Within m z s) (hm : Sub 536870904 m) : Nexts m z (execVinBrownOut s) := by
  unfold execVinBrownOut
  with_reducible repeat' first | assumption | apply Nexts.next | apply nexts_ite | apply State.assertReset_in | intro _ | split
  all_goals exact hm.of (by decide)

theorem execRstNPin_in (h : Within m z s) (hm : Sub 536870904 m) : Nexts m z (execRstNPin s) := by
  unfold execRstNPin
  with_reducible repeat' first | assumption | apply Nexts.next | apply nexts_ite | apply State.assertReset_in | intro _ | split
  all_goals exact hm.of (by decide)

theorem State.clearRegs_in (h : Within m z s) (hm : Sub 8 m) (f) : Within m z (State.clearRegs s f) := by
  unfold State.clearRegs
  with_reducible repeat' first | assumption | (apply Within.set_regs; first | assumption) | intro _ | split
  all_goals exact hm.of (by decide)

theorem State.blockClear_in (h : Within m z s) (hm : Sub 95391544 m) (b) : Within m z (State.blockClear s b) := by
  unfold State.blockClear
  with_reducible repeat' first | assumption | apply State.modHlp_in | apply State.hlpStop_in | apply State.releaseAct_in | apply State.modPwm_in | apply State.clearRegs_in | apply State.laneStops_in | apply State.cond_in | apply State.toLane_in | apply State.gdenCmd_in | apply State.linkDown_in | apply State.modMac_in | apply State.segDrop_in | apply within_ite | (apply Within.set_cap; first | assumption | apply State.modHlp_in | apply State.hlpStop_in | apply State.releaseAct_in | apply State.modPwm_in | apply State.clearRegs_in | apply State.laneStops_in | apply State.cond_in | apply State.toLane_in | apply State.gdenCmd_in | apply State.linkDown_in | apply State.modMac_in | apply State.segDrop_in | apply within_ite) | (apply Within.set_gl; first | assumption | apply State.modHlp_in | apply State.hlpStop_in | apply State.releaseAct_in | apply State.modPwm_in | apply State.clearRegs_in | apply State.laneStops_in | apply State.cond_in | apply State.toLane_in | apply State.gdenCmd_in | apply State.linkDown_in | apply State.modMac_in | apply State.segDrop_in | apply within_ite) | intro _ | split | dsimp only
  all_goals exact hm.of (by decide)

theorem State.blockReset_in (h : Within m z s) (hm : Sub 363827000 m) (src) (b) (idle) : Within m z (State.blockReset s src b idle) := by
  unfold State.blockReset
  with_reducible repeat' first | assumption | apply State.noteSrc_in | apply State.blockClear_in | apply State.blockDone_in | apply within_ite | intro _ | split | dsimp only
  all_goals exact hm.of (by decide)

theorem execBlockReset_in (h : Within m z s) (hm : Sub 363827000 m) (src) (block) : Nexts m z (execBlockReset src block s) := by
  unfold execBlockReset
  with_reducible repeat' first | assumption | apply Nexts.next | apply nexts_ite | apply State.blockReset_in | intro _ | split
  all_goals exact hm.of (by decide)

theorem execBlockIdleTimeout_in (h : Within m z s) (hm : Sub 363827000 m) (src) (block) : Nexts m z (execBlockIdleTimeout src block s) := by
  unfold execBlockIdleTimeout
  with_reducible repeat' first | assumption | apply Nexts.next | apply nexts_ite | apply State.blockReset_in | intro _ | split
  all_goals exact hm.of (by decide)

theorem execBusOff_in (h : Within m z s) (hm : Sub 363827000 m) (can) : Nexts m z (execBusOff can s) := by
  unfold execBusOff
  with_reducible repeat' first | assumption | apply Nexts.next | apply nexts_ite | apply State.blockReset_in | intro _ | split
  all_goals exact hm.of (by decide)

theorem execDebugResetRequest_in (h : Within m z s) (hm : Sub 536870904 m) (what) : Nexts m z (execDebugResetRequest what s) := by
  unfold execDebugResetRequest
  with_reducible repeat' first | assumption | apply Nexts.next | apply nexts_ite | apply State.assertReset_in | apply State.svpRestart_in | apply State.blockReset_in | intro _ | split
  all_goals exact hm.of (by decide)

theorem execForcedRelease_in (h : Within m z s) (hm : Sub 285214760 m) (block) : Nexts m z (execForcedRelease block s) := by
  unfold execForcedRelease
  with_reducible repeat' first | assumption | apply Nexts.next | apply nexts_ite | apply State.waitClk_in | apply State.modBoot_in | apply State.setUnclean_in | apply State.releaseBlock_in | apply within_ite | intro _ | split
  all_goals exact hm.of (by decide)

theorem State.readOptions_in (h : Within m z s) (hm : Sub 8 m) (samples) : Within m z (State.readOptions s samples) := by
  unfold State.readOptions
  with_reducible repeat' first | assumption | apply State.setFlag_in | apply State.setFld_in | apply within_ite | intro _ | split
  all_goals exact hm.of (by decide)

theorem execResetRelease_in (h : Within m z s) (hm : Sub 318767112 m) (strap) : Nexts m z (execResetRelease strap s) := by
  unfold execResetRelease
  with_reducible repeat' first | assumption | apply Nexts.next | apply nexts_ite | apply State.setFld_in | apply State.cond_in | apply State.readOptions_in | apply State.modBoot_in | apply State.waitClk_in | apply State.startPlls_in | apply foldl_in | apply within_ite | (apply Within.set_recd; first | assumption | apply Nexts.next | apply nexts_ite | apply State.setFld_in | apply State.cond_in | apply State.readOptions_in | apply State.modBoot_in | apply State.waitClk_in | apply State.startPlls_in | apply foldl_in | apply within_ite) | intro _ | split | dsimp only
  all_goals exact hm.of (by decide)

theorem State.bootFail_in (h : Within m z s) (hm : Sub 268435464 m) : Within m z (State.bootFail s) := by
  unfold State.bootFail
  with_reducible repeat' first | assumption | apply State.modBoot_in | apply State.setFld_in | intro _ | split
  all_goals exact hm.of (by decide)

theorem State.trySlots_in (l : List Nat) (h : Within m z s) (hm : Sub 268435464 m) : Within m z (State.trySlots s l) := by
  induction l generalizing s with
  | nil => exact bootFail_in h (hm.of (by decide))
  | cons k l ih =>
    unfold State.trySlots
    dsimp only
    split
    · with_reducible repeat' first | assumption | apply modBoot_in | apply setFlag_in | apply setFld_in
      all_goals exact hm.of (by decide)
    · exact ih (setFld_in h (hm.of (by decide)) _ _ _)

theorem State.hashFail_in (h : Within m z s) (hm : Sub 536870904 m) : Within m z (State.hashFail s) := by
  unfold State.hashFail
  with_reducible repeat' first | assumption | apply State.modBoot_in | apply State.assertReset_in | apply State.setFld_in | intro _ | split
  all_goals exact hm.of (by decide)

theorem State.writeTack_in (h : Within m z s) (hm : Sub 402653192 m) : Within m z (State.writeTack s) := by
  unfold State.writeTack
  with_reducible repeat' first | assumption | apply State.setReg_in | apply State.setFld_in | apply within_ite | (apply Within.set_tack_boot; first | assumption | apply State.setReg_in | apply State.setFld_in | apply within_ite) | intro _ | split | dsimp only
  all_goals exact hm.of (by decide)

theorem State.bootTack_in (h : Within m z s) (hm : Sub 536870904 m) : Within m z (State.bootTack s) := by
  unfold State.bootTack
  with_reducible repeat' first | assumption | apply State.stwEn_in | apply State.toStw_in | apply State.modPwm_in | apply State.writeTack_in | apply State.assertReset_in | apply within_ite | intro _ | split
  all_goals exact hm.of (by decide)

theorem State.bootCoef_in (h : Within m z s) (hm : Sub 1544 m) : Within m z (State.bootCoef s) := by
  unfold State.bootCoef
  with_reducible repeat' first | assumption | apply State.modCoef_in | apply State.modPwm_in | apply State.setFlag_in | apply State.showMark_in | intro _ | split
  all_goals exact hm.of (by decide)

theorem State.bootHlp_in (h : Within m z s) (hm : Sub 17042984 m) : Within m z (State.bootHlp s) := by
  unfold State.bootHlp
  with_reducible repeat' first | assumption | apply State.cond_in | apply State.installProg_in | apply State.hlpAuto_in | apply within_ite | intro _ | split
  all_goals exact hm.of (by decide)

theorem State.bootDone_in (h : Within m z s) (hm : Sub 16779384 m) : Within m z (State.bootDone s) := by
  unfold State.bootDone
  with_reducible repeat' first | assumption | apply State.showIdent_in | apply State.setFld_in | apply State.forUnits_in | apply State.box_in | apply State.cond_in | apply State.post_in | (apply Within.set_win; first | assumption | apply State.showIdent_in | apply State.setFld_in | apply State.forUnits_in | apply State.box_in | apply State.cond_in | apply State.post_in) | intro _ | split
  all_goals exact hm.of (by decide)

theorem State.bootStep_in (h : Within m z s) (hm : Sub 536870904 m) (n) (selfTest) : Within m z (State.bootStep s n selfTest) := by
  unfold State.bootStep
  with_reducible repeat' first | assumption | apply State.ringOn_in | apply State.bootFail_in | apply State.trySlots_in | apply State.bootTack_in | apply State.setFld_in | apply State.hashFail_in | apply State.bootCoef_in | apply State.bootHlp_in | apply State.bootDone_in | apply within_ite | intro _ | split | dsimp only
  all_goals exact hm.of (by decide)

theorem execBootStepComplete_in (h : Within m z s) (hm : Sub 536870904 m) (selfTest) : Nexts m z (execBootStepComplete selfTest s) := by
  unfold execBootStepComplete
  with_reducible repeat' first | assumption | apply Nexts.next | apply nexts_ite | apply State.bootStep_in | apply State.modBoot_in | apply within_ite | intro _ | split
  all_goals exact hm.of (by decide)

theorem State.found_in (h : Within m z s) (hm : Sub 67108864 m) (site) : Within m z (State.found s site) := by
  unfold State.found
  with_reducible repeat' first | assumption | (apply Within.set_spur; first | assumption) | intro _ | split
  all_goals exact hm.of (by decide)

theorem execMemoryError_in (h : Within m z s) (hm : Sub 536870904 m) (site) : Nexts m z (execMemoryError site s) := by
  unfold execMemoryError
  with_reducible repeat' first | assumption | apply State.causeAny_in | apply Nexts.next | apply nexts_ite | apply State.found_in | apply State.cleParity_in | apply State.memErr_in | apply State.bankFail_in | apply State.hlpHalt_in | apply State.deferReset_in | apply State.svpRestart_in | apply State.count_in | apply State.cond_in | apply State.assertReset_in | apply State.cause_in | apply State.found_in | apply State.cleParity_in | apply State.memErr_in | apply State.bankFail_in | apply State.hlpHalt_in | apply State.deferReset_in | apply State.svpRestart_in | apply State.count_in | apply State.cond_in | apply State.assertReset_in | apply State.cause_in | apply State.found_in | apply State.cleParity_in | apply State.memErr_in | apply State.bankFail_in | apply State.hlpHalt_in | apply State.deferReset_in | apply State.svpRestart_in | apply State.count_in | apply State.cond_in | apply State.assertReset_in | apply State.cause_in | apply State.found_in | apply State.cleParity_in | apply State.memErr_in | apply State.bankFail_in | apply State.hlpHalt_in | apply State.deferReset_in | apply State.svpRestart_in | apply State.count_in | apply State.cond_in | apply State.assertReset_in | apply State.cause_in | apply State.assertReset_in | apply within_ite | (apply Within.set_cap; first | assumption | apply State.causeAny_in | apply Nexts.next | apply nexts_ite | apply State.found_in | apply State.cleParity_in | apply State.memErr_in | apply State.bankFail_in | apply State.hlpHalt_in | apply State.deferReset_in | apply State.svpRestart_in | apply State.count_in | apply State.cond_in | apply State.assertReset_in | apply State.cause_in | apply State.found_in | apply State.cleParity_in | apply State.memErr_in | apply State.bankFail_in | apply State.hlpHalt_in | apply State.deferReset_in | apply State.svpRestart_in | apply State.count_in | apply State.cond_in | apply State.assertReset_in | apply State.cause_in | apply State.found_in | apply State.cleParity_in | apply State.memErr_in | apply State.bankFail_in | apply State.hlpHalt_in | apply State.deferReset_in | apply State.svpRestart_in | apply State.count_in | apply State.cond_in | apply State.assertReset_in | apply State.cause_in | apply State.found_in | apply State.cleParity_in | apply State.memErr_in | apply State.bankFail_in | apply State.hlpHalt_in | apply State.deferReset_in | apply State.svpRestart_in | apply State.count_in | apply State.cond_in | apply State.assertReset_in | apply State.cause_in | apply State.assertReset_in | apply within_ite) | (apply Within.set_recd; first | assumption | apply State.causeAny_in | apply Nexts.next | apply nexts_ite | apply State.found_in | apply State.cleParity_in | apply State.memErr_in | apply State.bankFail_in | apply State.hlpHalt_in | apply State.deferReset_in | apply State.svpRestart_in | apply State.count_in | apply State.cond_in | apply State.assertReset_in | apply State.cause_in | apply State.found_in | apply State.cleParity_in | apply State.memErr_in | apply State.bankFail_in | apply State.hlpHalt_in | apply State.deferReset_in | apply State.svpRestart_in | apply State.count_in | apply State.cond_in | apply State.assertReset_in | apply State.cause_in | apply State.found_in | apply State.cleParity_in | apply State.memErr_in | apply State.bankFail_in | apply State.hlpHalt_in | apply State.deferReset_in | apply State.svpRestart_in | apply State.count_in | apply State.cond_in | apply State.assertReset_in | apply State.cause_in | apply State.found_in | apply State.cleParity_in | apply State.memErr_in | apply State.bankFail_in | apply State.hlpHalt_in | apply State.deferReset_in | apply State.svpRestart_in | apply State.count_in | apply State.cond_in | apply State.assertReset_in | apply State.cause_in | apply State.assertReset_in | apply within_ite) | (apply Within.set_trace; first | assumption | apply State.causeAny_in | apply Nexts.next | apply nexts_ite | apply State.found_in | apply State.cleParity_in | apply State.memErr_in | apply State.bankFail_in | apply State.hlpHalt_in | apply State.deferReset_in | apply State.svpRestart_in | apply State.count_in | apply State.cond_in | apply State.assertReset_in | apply State.cause_in | apply State.found_in | apply State.cleParity_in | apply State.memErr_in | apply State.bankFail_in | apply State.hlpHalt_in | apply State.deferReset_in | apply State.svpRestart_in | apply State.count_in | apply State.cond_in | apply State.assertReset_in | apply State.cause_in | apply State.found_in | apply State.cleParity_in | apply State.memErr_in | apply State.bankFail_in | apply State.hlpHalt_in | apply State.deferReset_in | apply State.svpRestart_in | apply State.count_in | apply State.cond_in | apply State.assertReset_in | apply State.cause_in | apply State.found_in | apply State.cleParity_in | apply State.memErr_in | apply State.bankFail_in | apply State.hlpHalt_in | apply State.deferReset_in | apply State.svpRestart_in | apply State.count_in | apply State.cond_in | apply State.assertReset_in | apply State.cause_in | apply State.assertReset_in | apply within_ite) | intro _ | split | dsimp only
  all_goals exact hm.of (by decide)

theorem execDeferredSystemReset_in (h : Within m z s) (hm : Sub 536870904 m) : Nexts m z (execDeferredSystemReset s) := by
  unfold execDeferredSystemReset
  with_reducible repeat' first | assumption | apply Nexts.next | apply nexts_ite | apply State.assertReset_in | intro _ | split
  all_goals exact hm.of (by decide)

theorem execSingleBitError_in (h : Within m z s) (hm : Sub 8 m) (mem) : Nexts m z (execSingleBitError mem s) := by
  unfold execSingleBitError
  with_reducible repeat' first | assumption | apply Nexts.next | apply nexts_ite | apply State.count_in | intro _ | split
  all_goals exact hm.of (by decide)

theorem execOptionSectorWrite_in (h : Within m z s) (hm : Sub 268435456 m) (bytes) : Nexts m z (execOptionSectorWrite bytes s) := by
  unfold execOptionSectorWrite
  with_reducible repeat' first | assumption | apply Nexts.next | apply nexts_ite | apply State.modBoot_in | intro _ | split
  all_goals exact hm.of (by decide)

theorem execRevocationBurn_in (h : Within m z s) (hm : Sub 268435456 m) (slhDsa) (slot) : Nexts m z (execRevocationBurn slhDsa slot s) := by
  unfold execRevocationBurn
  with_reducible repeat' first | assumption | apply Nexts.next | apply nexts_ite | apply State.modBoot_in | apply within_ite | intro _ | split
  all_goals exact hm.of (by decide)

theorem State.capFree_in (h : Within m z s) (hm : Sub 25167912 m) (n) (v) : Within m z (State.capFree s n v) := by
  unfold State.capFree
  with_reducible repeat' first | assumption | apply State.forUnits_in | apply State.capSample_in | apply State.capLevel_in | apply within_ite | intro _ | split
  all_goals exact hm.of (by decide)

theorem execConversionComplete_in (h : Within m z s) (hm : Sub 25176104 m) (core) (nv) : Nexts m z (execConversionComplete core nv s) := by
  unfold execConversionComplete
  with_reducible repeat' first | assumption | apply Nexts.next | apply nexts_ite | apply State.freeRun_in | apply State.capFree_in | apply State.coreStat_in | apply State.modCore_in | apply State.deliver_in | intro _ | split
  all_goals exact hm.of (by decide)

theorem State.histCount_in (h : Within m z s) (hm : Sub 8388616 m) (u) : Within m z (State.histCount s u) := by
  unfold State.histCount
  with_reducible repeat' first | assumption | apply State.modCap_in | apply State.cond_in | apply State.count_in | apply within_ite | intro _ | split
  all_goals exact hm.of (by decide)

theorem State.pmapCount_in (h : Within m z s) (hm : Sub 8388608 m) : Within m z (State.pmapCount s) := by
  unfold State.pmapCount
  with_reducible repeat' first | assumption | apply State.modCap_in | apply within_ite | intro _ | split
  all_goals exact hm.of (by decide)

theorem State.capEarly_in (h : Within m z s) (hm : Sub 8388608 m) : Within m z (State.capEarly s) := by
  unfold State.capEarly
  with_reducible repeat' first | assumption | apply State.modCap_in | apply within_ite | intro _ | split
  all_goals exact hm.of (by decide)

theorem State.capMark_in (h : Within m z s) (hm : Sub 25167912 m) (o) : Within m z (State.capMark s o) := by
  unfold State.capMark
  with_reducible repeat' first | assumption | apply State.capPush_in | apply State.cond_in | apply State.count_in | apply State.modCap_in | apply State.setFlag_in | intro _ | split
  all_goals exact hm.of (by decide)

theorem State.capStream_in (h : Within m z s) (hm : Sub 25167912 m) : Within m z (State.capStream s) := by
  unfold State.capStream
  with_reducible repeat' first | assumption | apply State.capEarly_in | apply State.capMark_in | apply State.forUnits_in | apply State.capSample_in | apply State.modCap_in | apply State.capLevel_in | apply within_ite | intro _ | split | dsimp only
  all_goals exact hm.of (by decide)

theorem State.capBoundary_in (h : Within m z s) (hm : Sub 25168424 m) : Within m z (State.capBoundary s) := by
  unfold State.capBoundary
  with_reducible repeat' first | assumption | apply State.capStream_in | apply State.forUnits_in | apply State.histCount_in | apply State.pmapCount_in | apply State.modPwm_in | apply within_ite | (apply Within.set_evq_cap; first | assumption | apply State.capStream_in | apply State.forUnits_in | apply State.histCount_in | apply State.pmapCount_in | apply State.modPwm_in | apply within_ite) | intro _ | split | dsimp only
  all_goals exact hm.of (by decide)

theorem State.capStopNow_in (h : Within m z s) (hm : Sub 8388616 m) : Within m z (State.capStopNow s) := by
  unfold State.capStopNow
  with_reducible repeat' first | assumption | apply State.modCap_in | apply State.setFld_in | apply State.setFlag_in | apply within_ite | intro _ | split | dsimp only
  all_goals exact hm.of (by decide)

theorem State.capStartNow_in (h : Within m z s) (hm : Sub 10485784 m) : Within m z (State.capStartNow s) := by
  unfold State.capStartNow
  with_reducible repeat' first | assumption | apply State.modCap_in | apply State.setFld_in | apply State.setFlag_in | apply State.capAnswer_in | apply within_ite | intro _ | split | dsimp only
  all_goals exact hm.of (by decide)

theorem execDatagramClose_in (h : Within m z s) (hm : Sub 8388616 m) : Nexts m z (execDatagramClose s) := by
  unfold execDatagramClose
  with_reducible repeat' first | assumption | apply Nexts.next | apply nexts_ite | apply State.modCap_in | apply State.capLevel_in | apply within_ite | intro _ | split | dsimp only
  all_goals exact hm.of (by decide)

theorem State.capEnd_in (h : Within m z s) (hm : Sub 2097176 m) : Within m z (State.capEnd s) := by
  unfold State.capEnd
  with_reducible repeat' first | assumption | apply State.setFld_in | apply State.capAnswer_in | apply within_ite | intro _ | split | dsimp only
  all_goals exact hm.of (by decide)

theorem execFlushComplete_in (h : Within m z s) (hm : Sub 2097176 m) : Nexts m z (execFlushComplete s) := by
  unfold execFlushComplete
  with_reducible repeat' first | assumption | apply Nexts.next | apply nexts_ite | apply State.capEnd_in | intro _ | split
  all_goals exact hm.of (by decide)

theorem execFlushTimeout_in (h : Within m z s) (hm : Sub 10485784 m) : Nexts m z (execFlushTimeout s) := by
  unfold execFlushTimeout
  with_reducible repeat' first | assumption | apply Nexts.next | apply nexts_ite | apply State.capEnd_in | apply State.capLevel_in | apply State.modCap_in | apply State.countN_in | intro _ | split
  all_goals exact hm.of (by decide)

theorem execCapCfg_in (h : Within m z s) (hm : Sub 10485784 m) (tag) : Nexts m z (execCapCfg tag s) := by
  unfold execCapCfg
  with_reducible repeat' first | assumption | apply Nexts.next | apply nexts_ite | apply serve_in | apply State.done_in | apply State.modCap_in | apply State.setFlag_in | apply State.capRate_in | apply within_ite | intro _ | split
  all_goals exact hm.of (by decide)

theorem execCapStart_in (h : Within m z s) (hm : Sub 10485784 m) (tag) : Nexts m z (execCapStart tag s) := by
  unfold execCapStart
  with_reducible repeat' first | assumption | apply Nexts.next | apply nexts_ite | apply serve_in | apply State.done_in | apply State.setFlag_in | apply State.start_in | apply State.modCap_in | apply within_ite | intro _ | split
  all_goals exact hm.of (by decide)

theorem execCapStop_in (h : Within m z s) (hm : Sub 10485776 m) (tag) : Nexts m z (execCapStop tag s) := by
  unfold execCapStop
  with_reducible repeat' first | assumption | apply Nexts.next | apply nexts_ite | apply serve_in | apply State.done_in | apply State.start_in | apply State.modCap_in | apply within_ite | intro _ | split
  all_goals exact hm.of (by decide)

theorem execCapHistCfg_in (h : Within m z s) (hm : Sub 10485784 m) (tag) : Nexts m z (execCapHistCfg tag s) := by
  unfold execCapHistCfg
  with_reducible repeat' first | assumption | apply Nexts.next | apply nexts_ite | apply serve_in | apply State.done_in | apply State.modCap_in | apply State.setFld_in | apply within_ite | intro _ | split | dsimp only
  all_goals exact hm.of (by decide)

theorem execCapHistRead_in (h : Within m z s) (hm : Sub 2097168 m) (tag) : Nexts m z (execCapHistRead tag s) := by
  unfold execCapHistRead
  with_reducible repeat' first | assumption | apply Nexts.next | apply nexts_ite | apply serve_in | apply State.done_in | apply State.complete_in | apply within_ite | intro _ | split
  all_goals exact hm.of (by decide)

theorem execCapPmapCfg_in (h : Within m z s) (hm : Sub 10485776 m) (tag) : Nexts m z (execCapPmapCfg tag s) := by
  unfold execCapPmapCfg
  with_reducible repeat' first | assumption | apply Nexts.next | apply nexts_ite | apply serve_in | apply State.done_in | apply State.modCap_in | apply within_ite | intro _ | split
  all_goals exact hm.of (by decide)

theorem execCapPmapRead_in (h : Within m z s) (hm : Sub 2097168 m) (tag) : Nexts m z (execCapPmapRead tag s) := by
  unfold execCapPmapRead
  with_reducible repeat' first | assumption | apply Nexts.next | apply nexts_ite | apply serve_in | apply State.done_in | apply State.complete_in | apply within_ite | intro _ | split
  all_goals exact hm.of (by decide)

theorem execEventDrain_in (h : Within m z s) (hm : Sub 16777256 m) : Nexts m z (execEventDrain s) := by
  unfold execEventDrain
  with_reducible repeat' first | assumption | apply Nexts.next | apply nexts_ite | apply State.setFld_in | apply State.cond_in | apply State.ringPut_in | apply within_ite | (apply Within.set_evq; first | assumption | apply Nexts.next | apply nexts_ite | apply State.setFld_in | apply State.cond_in | apply State.ringPut_in | apply within_ite) | intro _ | split | dsimp only
  all_goals exact hm.of (by decide)

theorem execIslandRecordWrite_in (h : Within m z s) (hm : Sub 16777216 m) : Nexts m z (execIslandRecordWrite s) := by
  unfold execIslandRecordWrite
  with_reducible repeat' first | assumption | apply Nexts.next | apply nexts_ite | apply State.ringPut_in | apply within_ite | (apply Within.set_recd; first | assumption | apply Nexts.next | apply nexts_ite | apply State.ringPut_in | apply within_ite) | intro _ | split | dsimp only
  all_goals exact hm.of (by decide)

theorem execTrArm_in (h : Within m z s) (hm : Sub 2099224 m) (tag) : Nexts m z (execTrArm tag s) := by
  unfold execTrArm
  with_reducible repeat' first | assumption | apply Nexts.next | apply nexts_ite | apply serve_in | apply State.done_in | apply State.setReg_in | apply State.modTr_in | apply State.setFld_in | apply within_ite | intro _ | split
  all_goals exact hm.of (by decide)

theorem execTrTrig_in (h : Within m z s) (hm : Sub 2099224 m) (tag) : Nexts m z (execTrTrig tag s) := by
  unfold execTrTrig
  with_reducible repeat' first | assumption | apply Nexts.next | apply nexts_ite | apply serve_in | apply State.done_in | apply State.trTrigger_in | apply within_ite | intro _ | split
  all_goals exact hm.of (by decide)

theorem execTrStop_in (h : Within m z s) (hm : Sub 2099224 m) (tag) : Nexts m z (execTrStop tag s) := by
  unfold execTrStop
  with_reducible repeat' first | assumption | apply Nexts.next | apply nexts_ite | apply serve_in | apply State.done_in | apply State.cond_in | apply State.modTr_in | apply State.setFld_in | apply within_ite | intro _ | split
  all_goals exact hm.of (by decide)

theorem State.trAnswer_in (h : Within m z s) (hm : Sub 2097168 m) (e) : Within m z (State.trAnswer s e) := by
  unfold State.trAnswer
  with_reducible repeat' first | assumption | apply State.complete_in | intro _ | split
  all_goals exact hm.of (by decide)

theorem execTrRead_in (h : Within m z s) (hm : Sub 2099216 m) (tag) : Nexts m z (execTrRead tag s) := by
  unfold execTrRead
  with_reducible repeat' first | assumption | apply Nexts.next | apply nexts_ite | apply serve_in | apply State.done_in | apply State.start_in | apply State.modTr_in | apply State.trAnswer_in | apply within_ite | intro _ | split
  all_goals exact hm.of (by decide)

theorem execTraceCopyComplete_in (h : Within m z s) (hm : Sub 2099224 m) (ch) : Nexts m z (execTraceCopyComplete ch s) := by
  unfold execTraceCopyComplete
  with_reducible repeat' first | assumption | apply Nexts.next | apply nexts_ite | apply State.modTr_in | apply State.setFld_in | apply State.trAnswer_in | apply foldl_in | apply within_ite | intro _ | split
  all_goals exact hm.of (by decide)

theorem execSpurSessionStart_in (h : Within m z s) (hm : Sub 83888168 m) : Nexts m z (execSpurSessionStart s) := by
  unfold execSpurSessionStart
  with_reducible repeat' first | assumption | apply Nexts.next | apply nexts_ite | apply State.post_in | apply State.setFld_in | apply State.setFlag_in | apply within_ite | (apply Within.set_spur; first | assumption | apply Nexts.next | apply nexts_ite | apply State.post_in | apply State.setFld_in | apply State.setFlag_in | apply within_ite) | intro _ | split
  all_goals exact hm.of (by decide)

theorem execSpurSessionStop_in (h : Within m z s) (hm : Sub 83888168 m) : Nexts m z (execSpurSessionStop s) := by
  unfold execSpurSessionStop
  with_reducible repeat' first | assumption | apply Nexts.next | apply nexts_ite | apply State.spurStop_in | intro _ | split
  all_goals exact hm.of (by decide)

theorem State.spurCtrl_in (h : Within m z s) (hm : Sub 83888168 m) (v) : Within m z (State.spurCtrl s v) := by
  unfold State.spurCtrl
  with_reducible repeat' first | assumption | apply State.setFld_in | apply State.setFlag_in | apply State.spurStop_in | apply within_ite | (apply Within.set_spur; first | assumption | apply State.setFld_in | apply State.setFlag_in | apply State.spurStop_in | apply within_ite) | intro _ | split
  all_goals exact hm.of (by decide)

theorem State.flipByte_in (h : Within m z s) (hm : Sub 279552 m) (target) (tile) (off) : Within m z (State.flipByte s target tile off) := by
  unfold State.flipByte
  with_reducible repeat' first | assumption | apply State.modCoef_in | apply State.modHlp_in | apply within_ite | (apply Within.set_sd; first | assumption | apply State.modCoef_in | apply State.modHlp_in | apply within_ite) | intro _ | split | dsimp only
  all_goals exact hm.of (by decide)

theorem State.spurInj_in (h : Within m z s) (hm : Sub 84167720 m) (v) : Within m z (State.spurInj s v) := by
  unfold State.spurInj
  with_reducible repeat' first | assumption | apply State.setReg_in | apply State.post_in | apply State.count_in | apply State.flipByte_in | apply within_ite | (apply Within.set_spur; first | assumption | apply State.setReg_in | apply State.post_in | apply State.count_in | apply State.flipByte_in | apply within_ite) | intro _ | split
  all_goals exact hm.of (by decide)

theorem State.dbgSet_in (h : Within m z s) (hm : Sub 262288 m) (cpu) (on) : Within m z (State.dbgSet s cpu on) := by
  unfold State.dbgSet
  with_reducible repeat' first | assumption | apply State.modCle_in | apply State.modHlp_in | (apply Within.set_fcp; first | assumption | apply State.modCle_in | apply State.modHlp_in) | intro _ | split
  all_goals exact hm.of (by decide)

theorem execDebugHalt_in (h : Within m z s) (hm : Sub 17042104 m) (cpu) : Nexts m z (execDebugHalt cpu s) := by
  unfold execDebugHalt
  with_reducible repeat' first | assumption | apply Nexts.next | apply nexts_ite | apply State.post_in | apply State.dbgSet_in | apply State.freeze_in | apply within_ite | intro _ | split
  all_goals exact hm.of (by decide)

theorem execDebugResume_in (h : Within m z s) (hm : Sub 19139256 m) (cpu) : Nexts m z (execDebugResume cpu s) := by
  unfold execDebugResume
  with_reducible repeat' first | assumption | apply Nexts.next | apply nexts_ite | apply State.post_in | apply State.dbgSet_in | apply State.svpResume_in | apply State.unfreeze_in | intro _ | split
  all_goals exact hm.of (by decide)

theorem execExtest_in (h : Within m z s) (hm : Sub 512 m) (pins) : Nexts m z (execExtest pins s) := by
  unfold execExtest
  with_reducible repeat' first | assumption | apply Nexts.next | apply nexts_ite | apply State.modPwm_in | intro _ | split
  all_goals exact hm.of (by decide)

theorem State.modPath_in (h : Within m z s) (hm : Sub 64 m) (p) (f) : Within m z (State.modPath s p f) := by
  unfold State.modPath
  with_reducible repeat' first | assumption | apply within_ite | (apply Within.set_win; first | assumption | apply within_ite) | intro _ | split
  all_goals exact hm.of (by decide)

theorem State.readClear_in (h : Within m z s) (hm : Sub 8 m) (c) (i) (off) : Within m z (State.readClear s c i off) := by
  unfold State.readClear
  with_reducible repeat' first | assumption | apply within_ite | (apply Within.set_regs; first | assumption | apply within_ite) | intro _ | split
  all_goals exact hm.of (by decide)

theorem State.readLatch_in (h : Within m z s) (hm : Sub 192 m) (p) (c) (i) (off) (count) : Within m z (State.readLatch s p c i off count) := by
  unfold State.readLatch
  with_reducible repeat' first | assumption | apply State.modPath_in | apply State.setCf_in | apply within_ite | intro _ | split
  all_goals exact hm.of (by decide)

theorem State.hostRead_in (h : Within m z s) (hm : Sub 200 m) (p off : Nat) : Within m z (s.hostRead p off).2 := by
  unfold State.hostRead
  split
  · refine readClear_in (readLatch_in ?_ (hm.of (by decide)) _ _ _ _ _) (hm.of (by decide)) _ _ _
    split
    · exact modPath_in h (hm.of (by decide)) _ _
    · exact h
  · exact h
  · exact count_in h (hm.of (by decide)) _ _

theorem State.readRow_in (h : Within m z s) (hm : Sub 200 m) (p) (off) : Within m z (State.readRow s p off) := by
  unfold State.readRow
  exact modPath_in (hostRead_in h hm p off) (hm.of (by decide)) _ _

theorem State.writeMasked_in (h : Within m z s) (hm : Sub 8 m) (c) (i) (off) (v) : Within m z (State.writeMasked s c i off v) := by
  unfold State.writeMasked
  with_reducible repeat' first | assumption | (apply Within.set_regs; first | assumption) | intro _ | split
  all_goals exact hm.of (by decide)

theorem State.manRej_in (h : Within m z s) (hm : Sub 8 m) : Within m z (State.manRej s) := by
  unfold State.manRej
  with_reducible repeat' first | assumption | apply State.setFlag_in | intro _ | split
  all_goals exact hm.of (by decide)

theorem State.manCommit_in (h : Within m z s) (hm : Sub 520 m) : Within m z (State.manCommit s) := by
  unfold State.manCommit
  with_reducible repeat' first | assumption | apply State.manRej_in | apply State.modPwm_in | apply State.cond_in | apply State.lateLegs_in | apply within_ite | intro _ | split | dsimp only
  all_goals exact hm.of (by decide)

theorem State.cmpStatic_in (h : Within m z s) (hm : Sub 8200 m) (n) (v) : Within m z (State.cmpStatic s n v) := by
  unfold State.cmpStatic
  with_reducible repeat' first | assumption | apply State.setFlag_in | apply State.writeMasked_in | apply within_ite | (apply Within.set_adc; first | assumption | apply State.setFlag_in | apply State.writeMasked_in | apply within_ite) | intro _ | split | dsimp only
  all_goals exact hm.of (by decide)

theorem State.legStat_in (h : Within m z s) (hm : Sub 8 m) (n) (v) : Within m z (State.legStat s n v) := by
  unfold State.legStat
  with_reducible repeat' first | assumption | apply State.writeMasked_in | intro _ | split
  all_goals exact hm.of (by decide)

theorem State.tgStat_in (h : Within m z s) (hm : Sub 520 m) (g) (v) : Within m z (State.tgStat s g v) := by
  unfold State.tgStat
  with_reducible repeat' first | assumption | apply State.setFlag_in | apply State.modLeg_in | apply foldl_in | apply within_ite | intro _ | split | dsimp only
  all_goals exact hm.of (by decide)

theorem State.dlCtrl_in (h : Within m z s) (hm : Sub 8 m) (v) : Within m z (State.dlCtrl s v) := by
  unfold State.dlCtrl
  with_reducible repeat' first | assumption | apply State.writeMasked_in | apply State.cond_in | apply State.setFld_in | intro _ | split
  all_goals exact hm.of (by decide)

theorem State.obsBinSel_in (h : Within m z s) (hm : Sub 8 m) (p) (v) : Within m z (State.obsBinSel s p v) := by
  unfold State.obsBinSel
  with_reducible repeat' first | assumption | apply State.writeMasked_in | apply State.setReg_in | apply State.setFlag_in | apply State.setFld_in | apply within_ite | intro _ | split | dsimp only
  all_goals exact hm.of (by decide)

theorem State.laneSlip_in (h : Within m z s) (hm : Sub 32776 m) (l) (v) : Within m z (State.laneSlip s l v) := by
  unfold State.laneSlip
  with_reducible repeat' first | assumption | apply State.setFld_in | apply within_ite | (apply Within.set_gl; first | assumption | apply State.setFld_in | apply within_ite) | intro _ | split
  all_goals exact hm.of (by decide)

theorem State.pwmCtrl_in (h : Within m z s) (hm : Sub 520 m) (v) : Within m z (State.pwmCtrl s v) := by
  unfold State.pwmCtrl
  with_reducible repeat' first | assumption | apply State.writeMasked_in | apply State.freeze_in | apply State.cond_in | apply State.unfreeze_in | apply within_ite | intro _ | split | dsimp only
  all_goals exact hm.of (by decide)

theorem State.writeReg_in (h : Within m z s) (hm : Sub 84733672 m) (p) (c) (i) (off) (v) : Within m z (State.writeReg s p c i off v) := by
  unfold State.writeReg
  with_reducible repeat' first | assumption | apply State.modPath_in | apply State.urgent_in | apply State.pwmCtrl_in | apply State.writeMasked_in | apply State.modPwm_in | apply State.manRej_in | apply State.manCommit_in | apply State.dlCtrl_in | apply State.stwEn_in | apply State.spurCtrl_in | apply State.spurInj_in | apply State.legStat_in | apply State.tgStat_in | apply State.setCword_in | apply State.obsBinSel_in | apply State.cmpStatic_in | apply State.laneSlip_in | apply within_ite | intro _ | split | dsimp only
  all_goals exact hm.of (by decide)

theorem State.mbWrite_in (h : Within m z s) (hm : Sub 2097176 m) (m0) (r) (b) : Within m z (State.mbWrite s m0 r b) := by
  unfold State.mbWrite
  with_reducible repeat' first | assumption | apply State.bell_in | apply State.box_in | apply State.headWrite_in | apply within_ite | (apply Within.set_fcp; first | assumption | apply State.bell_in | apply State.box_in | apply State.headWrite_in | apply within_ite) | intro _ | split
  all_goals exact hm.of (by decide)

theorem State.ramWrite_in (h : Within m z s) (hm : Sub 2097176 m) (p) (off) (b) : Within m z (State.ramWrite s p off b) := by
  unfold State.ramWrite
  with_reducible repeat' first | assumption | apply State.guarded_in | apply State.mbWrite_in | intro _ | split
  all_goals exact hm.of (by decide)

theorem State.hostWrite_in (h : Within m z s) (hm : Sub 86830840 m) (p) (off) (v) : Within m z (State.hostWrite s p off v) := by
  unfold State.hostWrite
  with_reducible repeat' first | assumption | apply State.ramWrite_in | apply State.guarded_in | apply State.writeReg_in | apply foldl_in | apply within_ite | intro _ | split
  all_goals exact hm.of (by decide)

theorem State.selWrite_in (h : Within m z s) (hm : Sub 86830840 m) (p) (c) (off) (v) : Within m z (State.selWrite s p c off v) := by
  unfold State.selWrite
  with_reducible repeat' first | assumption | apply State.hostWrite_in | apply within_ite | intro _ | split
  all_goals exact hm.of (by decide)

theorem execAdcUrgWrite_in (h : Within m z s) (hm : Sub 86830840 m) (path) (value) : Nexts m z (execAdcUrgWrite path value s) := by
  unfold execAdcUrgWrite
  with_reducible repeat' first | assumption | apply Nexts.next | apply nexts_ite | apply State.hostWrite_in | intro _ | split
  all_goals exact hm.of (by decide)

theorem execPwmCommitWrite_in (h : Within m z s) (hm : Sub 86830840 m) (path) (value) : Nexts m z (execPwmCommitWrite path value s) := by
  unfold execPwmCommitWrite
  with_reducible repeat' first | assumption | apply Nexts.next | apply nexts_ite | apply State.hostWrite_in | intro _ | split
  all_goals exact hm.of (by decide)

theorem execCmpStaticWrite_in (h : Within m z s) (hm : Sub 86830840 m) (path) (value) : Nexts m z (execCmpStaticWrite path value s) := by
  unfold execCmpStaticWrite
  with_reducible repeat' first | assumption | apply Nexts.next | apply nexts_ite | apply State.selWrite_in | intro _ | split
  all_goals exact hm.of (by decide)

theorem execCrossfireClear_in (h : Within m z s) (hm : Sub 86830840 m) (path) (value) : Nexts m z (execCrossfireClear path value s) := by
  unfold execCrossfireClear
  with_reducible repeat' first | assumption | apply Nexts.next | apply nexts_ite | apply State.selWrite_in | intro _ | split
  all_goals exact hm.of (by decide)

theorem execTrippedClear_in (h : Within m z s) (hm : Sub 86830840 m) (path) (value) : Nexts m z (execTrippedClear path value s) := by
  unfold execTrippedClear
  with_reducible repeat' first | assumption | apply Nexts.next | apply nexts_ite | apply State.selWrite_in | intro _ | split
  all_goals exact hm.of (by decide)

theorem execDlCtrlWrite_in (h : Within m z s) (hm : Sub 86830840 m) (path) (value) : Nexts m z (execDlCtrlWrite path value s) := by
  unfold execDlCtrlWrite
  with_reducible repeat' first | assumption | apply Nexts.next | apply nexts_ite | apply State.hostWrite_in | intro _ | split
  all_goals exact hm.of (by decide)

theorem execLaneSlipWrite_in (h : Within m z s) (hm : Sub 86830840 m) (path) (value) : Nexts m z (execLaneSlipWrite path value s) := by
  unfold execLaneSlipWrite
  with_reducible repeat' first | assumption | apply Nexts.next | apply nexts_ite | apply State.selWrite_in | intro _ | split
  all_goals exact hm.of (by decide)

theorem execWselWrite_in (h : Within m z s) (hm : Sub 86830840 m) (path) (value) : Nexts m z (execWselWrite path value s) := by
  unfold execWselWrite
  with_reducible repeat' first | assumption | apply Nexts.next | apply nexts_ite | apply State.hostWrite_in | intro _ | split
  all_goals exact hm.of (by decide)

theorem execObsBinSelWrite_in (h : Within m z s) (hm : Sub 86830840 m) (path) (value) : Nexts m z (execObsBinSelWrite path value s) := by
  unfold execObsBinSelWrite
  with_reducible repeat' first | assumption | apply Nexts.next | apply nexts_ite | apply State.selWrite_in | intro _ | split
  all_goals exact hm.of (by decide)

theorem execSpurCtrlWrite_in (h : Within m z s) (hm : Sub 86830840 m) (path) (value) : Nexts m z (execSpurCtrlWrite path value s) := by
  unfold execSpurCtrlWrite
  with_reducible repeat' first | assumption | apply Nexts.next | apply nexts_ite | apply State.hostWrite_in | intro _ | split
  all_goals exact hm.of (by decide)

theorem execSpurInjGo_in (h : Within m z s) (hm : Sub 86830840 m) (path) (value) : Nexts m z (execSpurInjGo path value s) := by
  unfold execSpurInjGo
  with_reducible repeat' first | assumption | apply Nexts.next | apply nexts_ite | apply State.hostWrite_in | intro _ | split
  all_goals exact hm.of (by decide)

theorem execRegisterWrite_in (h : Within m z s) (hm : Sub 86830840 m) (path) (addr) (value) : Nexts m z (execRegisterWrite path addr value s) := by
  unfold execRegisterWrite
  with_reducible repeat' first | assumption | apply Nexts.next | apply nexts_ite | apply State.hostWrite_in | intro _ | split
  all_goals exact hm.of (by decide)

theorem execResStatRead_in (h : Within m z s) (hm : Sub 200 m) (path) : Nexts m z (execResStatRead path s) := by
  unfold execResStatRead
  with_reducible repeat' first | assumption | apply Nexts.next | apply nexts_ite | apply State.readRow_in | intro _ | split
  all_goals exact hm.of (by decide)

theorem execSnapPnumLoRead_in (h : Within m z s) (hm : Sub 200 m) (path) : Nexts m z (execSnapPnumLoRead path s) := by
  unfold execSnapPnumLoRead
  with_reducible repeat' first | assumption | apply Nexts.next | apply nexts_ite | apply State.readRow_in | intro _ | split
  all_goals exact hm.of (by decide)

theorem execHighWordLatchRead_in (h : Within m z s) (hm : Sub 200 m) (path) (which) : Nexts m z (execHighWordLatchRead path which s) := by
  unfold execHighWordLatchRead
  with_reducible repeat' first | assumption | apply Nexts.next | apply nexts_ite | apply State.readRow_in | intro _ | split
  all_goals exact hm.of (by decide)

theorem Shift.byte_in {x : Shift} (addr i : Nat) (h : Within m z x.st) (hm : Sub 200 m) : Within m z (Shift.byte addr x i).st := by
  unfold Shift.byte
  dsimp only
  split
  · exact State.hostRead_in h hm _ _
  · exact h

theorem execQspiRead_in (h : Within m z s) (hm : Sub 200 m) (addr) (count) : Nexts m z (execQspiRead addr count s) := by
  have : ∀ (l : List Nat) (x : Shift), Within m z x.st → Within m z (l.foldl (Shift.byte addr.toNat) x).st := by
    intro l
    induction l with
    | nil => exact fun _ hx => hx
    | cons i l ih => exact fun x hx => ih _ (Shift.byte_in _ _ hx (hm.of (by decide)))
  unfold execQspiRead
  dsimp only
  refine .next ?_
  with_reducible apply Within.set_win
  with_reducible apply State.modPath_in
  · exact this _ _ h
  all_goals exact hm.of (by decide)

theorem State.shiftIn_in (h : Within m z s) (hm : Sub 86830840 m) (addr) (l) (i) : Within m z (State.shiftIn addr l s i) := by
  unfold State.shiftIn
  with_reducible repeat' first | assumption | apply State.ramWrite_in | apply State.hostWrite_in | apply within_ite | intro _ | split
  all_goals exact hm.of (by decide)

theorem execQspiWrite_in (h : Within m z s) (hm : Sub 86830840 m) (addr) (bytes) : Nexts m z (execQspiWrite addr bytes s) := by
  unfold execQspiWrite
  with_reducible repeat' first | assumption | apply Nexts.next | apply nexts_ite | apply State.shiftIn_in | apply foldl_in | intro _ | split
  all_goals exact hm.of (by decide)

theorem execQspiStatus_in (h : Within m z s) (hm : Sub 64 m) : Nexts m z (execQspiStatus s) := by
  unfold execQspiStatus
  with_reducible repeat' first | assumption | apply Nexts.next | apply nexts_ite | (apply Within.set_win; first | assumption | apply Nexts.next | apply nexts_ite) | intro _ | split
  all_goals exact hm.of (by decide)

theorem State.takeSnap_in (h : Within m z s) (hm : Sub 393280 m) : Within m z (State.takeSnap s) := by
  unfold State.takeSnap
  with_reducible repeat' first | assumption | apply State.modHlp_in | apply State.modStw_in | apply foldl_in | apply within_ite | (apply Within.set_win; first | assumption | apply State.modHlp_in | apply State.modStw_in | apply foldl_in | apply within_ite) | intro _ | split | dsimp only
  all_goals exact hm.of (by decide)

theorem execSnapshotComplete_in (h : Within m z s) (hm : Sub 64 m) : Nexts m z (execSnapshotComplete s) := by
  unfold execSnapshotComplete
  with_reducible repeat' first | assumption | apply Nexts.next | apply nexts_ite | apply within_ite | (apply Within.set_win; first | assumption | apply Nexts.next | apply nexts_ite | apply within_ite) | intro _ | split | dsimp only
  all_goals exact hm.of (by decide)

theorem State.slackLast_in (h : Within m z s) (hm : Sub 8 m) : Within m z (State.slackLast s) := by
  unfold State.slackLast
  with_reducible repeat' first | assumption | apply State.setFld_in | apply within_ite | intro _ | split
  all_goals exact hm.of (by decide)

theorem State.latchCtx_in (h : Within m z s) (hm : Sub 352323752 m) (i) : Within m z (State.latchCtx s i) := by
  unfold State.latchCtx
  with_reducible repeat' first | assumption | apply State.healCtx_in | apply State.cleParity_in | apply State.setCwords_in | apply State.modCtx_in | apply within_ite | intro _ | split | dsimp only
  all_goals exact hm.of (by decide)

theorem State.latchGroup_in (h : Within m z s) (hm : Sub 352323752 m) (g) : Within m z (State.latchGroup s g) := by
  unfold State.latchGroup
  with_reducible repeat' first | assumption | apply State.latchCtx_in | apply foldl_in | intro _ | split
  all_goals exact hm.of (by decide)

theorem State.traceMarks_in (h : Within m z s) (hm : Sub 16779304 m) (g) (miss) : Within m z (State.traceMarks s g miss) := by
  unfold State.traceMarks
  with_reducible repeat' first | assumption | apply State.trExec_in | apply foldl_in | apply within_ite | intro _ | split | dsimp only
  all_goals exact hm.of (by decide)

theorem State.dropInstance_in (h : Within m z s) (hm : Sub 16779432 m) (g) : Within m z (State.dropInstance s g) := by
  unfold State.dropInstance
  with_reducible repeat' first | assumption | apply State.trExec_in | apply State.modCtx_in | apply foldl_in | apply within_ite | intro _ | split | dsimp only
  all_goals exact hm.of (by decide)

theorem State.endPeriod_in (h : Within m z s) (hm : Sub 361110504 m) (t) : Within m z (State.endPeriod s t) := by
  unfold State.endPeriod
  with_reducible repeat' first | assumption | apply State.missPorts_in | apply State.forUnits_in | apply State.obsTick_in | apply State.endLegs_in | apply State.slackLast_in | apply State.traceMarks_in | apply State.latchGroup_in | apply State.takeSnap_in | apply State.capBoundary_in | apply State.trEvents_in | apply State.runPort_in | apply within_ite | (apply Within.set_cle; first | assumption | apply State.missPorts_in | apply State.forUnits_in | apply State.obsTick_in | apply State.endLegs_in | apply State.slackLast_in | apply State.traceMarks_in | apply State.latchGroup_in | apply State.takeSnap_in | apply State.capBoundary_in | apply State.trEvents_in | apply State.runPort_in | apply within_ite) | intro _ | split | dsimp only
  all_goals exact hm.of (by decide)

theorem State.startPeriod_in (h : Within m z s) (hm : Sub 12714912 m) (t) : Within m z (State.startPeriod s t) := by
  unfold State.startPeriod
  with_reducible repeat' first | assumption | apply State.modPwm_in | apply State.modCle_in | apply State.forUnits_in | apply State.modPort_in | apply State.watchBoundary_in | apply State.cond_in | apply within_ite | (apply Within.set_evq_cap; first | assumption | apply State.modPwm_in | apply State.modCle_in | apply State.forUnits_in | apply State.modPort_in | apply State.watchBoundary_in | apply State.cond_in | apply within_ite) | (apply Within.set_ptp; first | assumption | apply State.modPwm_in | apply State.modCle_in | apply State.forUnits_in | apply State.modPort_in | apply State.watchBoundary_in | apply State.cond_in | apply within_ite) | intro _ | split | dsimp only
  all_goals exact hm.of (by decide)

theorem State.limpEntry_in (h : Within m z s) (hm : Sub 117672232 m) : Within m z (State.limpEntry s) := by
  unfold State.limpEntry
  with_reducible repeat' first | assumption | apply State.setGait_in | apply State.modClk_in | apply State.post_in | apply State.releaseAct_in | apply State.srsRequest_in | apply within_ite | intro _ | split
  all_goals exact hm.of (by decide)

theorem State.divisors_in (h : Within m z s) (hm : Sub 128 m) : Within m z (State.divisors s) := by
  unfold State.divisors
  with_reducible repeat' first | assumption | apply State.modCle_in | apply within_ite | intro _ | split
  all_goals exact hm.of (by decide)

theorem State.reload_in (h : Within m z s) (hm : Sub 16788392 m) : Within m z (State.reload s) := by
  unfold State.reload
  with_reducible repeat' first | assumption | apply State.reloadBundles_in | apply State.releaseLegs_in | apply State.reloadDelayCode_in | apply State.forUnits_in | apply State.staticThr_in | apply State.divisors_in | apply within_ite | (apply Within.set_adc; first | assumption | apply State.reloadBundles_in | apply State.releaseLegs_in | apply State.reloadDelayCode_in | apply State.forUnits_in | apply State.staticThr_in | apply State.divisors_in | apply within_ite) | intro _ | split | dsimp only
  all_goals exact hm.of (by decide)

theorem State.releaseCtxs_in (h : Within m z s) (hm : Sub 128 m) (g) : Within m z (State.releaseCtxs s g) := by
  unfold State.releaseCtxs
  with_reducible repeat' first | assumption | apply State.modCtx_in | apply State.setCflag_in | apply foldl_in | intro _ | split
  all_goals exact hm.of (by decide)

theorem State.recordDue_in (h : Within m z s) (hm : Sub 65664 m) : Within m z (State.recordDue s) := by
  unfold State.recordDue
  with_reducible repeat' first | assumption | apply State.modPair_in | apply State.modCle_in | apply within_ite | intro _ | split
  all_goals exact hm.of (by decide)

theorem State.releaseGroup_in (h : Within m z s) (hm : Sub 352389288 m) (g) : Within m z (State.releaseGroup s g) := by
  unfold State.releaseGroup
  with_reducible repeat' first | assumption | apply State.dropInstance_in | apply State.modCle_in | apply State.traceMarks_in | apply State.cond_in | apply State.recordDue_in | apply State.latchGroup_in | apply State.releaseCtxs_in | apply within_ite | intro _ | split | dsimp only
  all_goals exact hm.of (by decide)

theorem State.releases_in (h : Within m z s) (hm : Sub 352389288 m) : Within m z (State.releases s) := by
  unfold State.releases
  with_reducible repeat' first | assumption | apply State.modCle_in | apply State.releaseCtxs_in | apply State.cond_in | apply State.modPair_in | apply State.releaseGroup_in | apply State.capRate_in | apply within_ite | intro _ | split | dsimp only
  all_goals exact hm.of (by decide)

theorem State.portsAct_in (h : Within m z s) (hm : Sub 94616504 m) : Within m z (State.portsAct s) := by
  unfold State.portsAct
  with_reducible repeat' first | assumption | apply State.forUnits_in | apply State.slewPort_in | apply State.tickPort_in | apply State.portTransition_in | apply State.pullPort_in | apply State.matchPort_in | apply State.quietPort_in | apply State.ceilingThr_in | apply State.cond_in | apply State.modPair_in | apply within_ite | intro _ | split | dsimp only
  all_goals exact hm.of (by decide)

theorem State.manualLegs_in (h : Within m z s) (hm : Sub 512 m) : Within m z (State.manualLegs s) := by
  unfold State.manualLegs
  with_reducible repeat' first | assumption | apply State.forUnits_in | apply State.modLeg_in | apply within_ite | intro _ | split
  all_goals exact hm.of (by decide)

theorem State.soloRise_in (h : Within m z s) (hm : Sub 16877608 m) : Within m z (State.soloRise s) := by
  unfold State.soloRise
  with_reducible repeat' first | assumption | apply State.raiseAct_in | apply within_ite | intro _ | split
  all_goals exact hm.of (by decide)

theorem State.soloFall_in (h : Within m z s) (hm : Sub 16844840 m) : Within m z (State.soloFall s) := by
  unfold State.soloFall
  with_reducible repeat' first | assumption | apply State.releaseAct_in | apply State.modPair_in | apply within_ite | intro _ | split
  all_goals exact hm.of (by decide)

theorem State.pairBoundary_in (h : Within m z s) (hm : Sub 23435320 m) (steered) : Within m z (State.pairBoundary s steered) := by
  unfold State.pairBoundary
  with_reducible repeat' first | assumption | apply State.modPair_in | apply State.sayHello_in | apply State.pairTick_in | apply State.activateTick_in | apply within_ite | intro _ | split | dsimp only
  all_goals exact hm.of (by decide)

theorem State.laneBoundary_in (h : Within m z s) (hm : Sub 32776 m) (l) : Within m z (State.laneBoundary s l) := by
  unfold State.laneBoundary
  with_reducible repeat' first | assumption | apply State.setFlag_in | apply State.modLane_in | apply State.setFld_in | apply State.markDue_in | apply foldl_in | apply within_ite | intro _ | split | dsimp only
  all_goals exact hm.of (by decide)

theorem State.lanesBoundary_in (h : Within m z s) (hm : Sub 16812072 m) : Within m z (State.lanesBoundary s) := by
  unfold State.lanesBoundary
  with_reducible repeat' first | assumption | apply State.forUnits_in | apply State.laneBoundary_in | apply State.gdenCmd_in | apply State.cond_in | apply State.haltAll_in | (apply Within.set_gl; first | assumption | apply State.forUnits_in | apply State.laneBoundary_in | apply State.gdenCmd_in | apply State.cond_in | apply State.haltAll_in) | intro _ | split
  all_goals exact hm.of (by decide)

theorem State.spurBoundary_in (h : Within m z s) (hm : Sub 67108872 m) (shifted) : Within m z (State.spurBoundary s shifted) := by
  unfold State.spurBoundary
  with_reducible repeat' first | assumption | apply State.cond_in | apply State.setFld_in | apply within_ite | (apply Within.set_spur; first | assumption | apply State.cond_in | apply State.setFld_in | apply within_ite) | intro _ | split
  all_goals exact hm.of (by decide)

theorem State.uncleanStall_in (h : Within m z s) (hm : Sub 8 m) : Within m z (State.uncleanStall s) := by
  unfold State.uncleanStall
  with_reducible repeat' first | assumption | apply State.setFld_in | apply within_ite | intro _ | split
  all_goals exact hm.of (by decide)

theorem State.actBoundary_in (h : Within m z s) (hm : Sub 99089336 m) (t) (steered) : Within m z (State.actBoundary s t steered) := by
  unfold State.actBoundary
  with_reducible repeat' first | assumption | apply State.soloRise_in | apply State.portsAct_in | apply State.soloFall_in | apply State.manualLegs_in | apply State.formLegs_in | apply State.pairBoundary_in | apply State.forUnits_in | apply State.obsSwitch_in | apply State.govTick_in | apply State.srsChecks_in | apply State.lanesBoundary_in | apply State.sdSyncBoundary_in | apply State.uncleanStall_in | apply State.setFlag_in | apply State.openBlanking_in | apply State.cmpAfresh_in | apply within_ite | intro _ | split | dsimp only
  all_goals exact hm.of (by decide)

theorem execRg0Boundary_in (h : Within m z s) (hm : Sub 402127866 m) : Nexts m z (execRg0Boundary s) := by
  unfold execRg0Boundary
  with_reducible repeat' first | assumption | apply Nexts.next | apply nexts_ite | apply State.elapse_in | apply State.endPeriod_in | apply State.startPeriod_in | apply State.capStopNow_in | apply State.capStartNow_in | apply State.limpEntry_in | apply State.manualLegs_in | apply State.reload_in | apply State.releases_in | apply State.spurBoundary_in | apply State.actBoundary_in | apply within_ite | intro _ | split | dsimp only
  all_goals exact hm.of (by decide)

theorem State.turnPort_in (h : Within m z s) (hm : Sub 264 m) (p) : Within m z (State.turnPort s p) := by
  unfold State.turnPort
  with_reducible repeat' first | assumption | apply State.runPort_in | apply State.modPort_in | apply within_ite | intro _ | split | dsimp only
  all_goals exact hm.of (by decide)

theorem execPortReload_in (h : Within m z s) (hm : Sub 84130600 m) (port) : Nexts m z (execPortReload port s) := by
  unfold execPortReload
  with_reducible repeat' first | assumption | apply Nexts.next | apply nexts_ite | apply State.endPeriodLeg_in | apply State.turnPort_in | apply State.formLeg_in | apply State.loadEnvOf_in | apply State.cmpAfresh_in | apply foldl_in | apply within_ite | intro _ | split | dsimp only
  all_goals exact hm.of (by decide)

theorem State.modRmod_in (h : Within m z s) (hm : Sub 262144 m) (r) (f) : Within m z (State.modRmod s r f) := by
  unfold State.modRmod
  with_reducible repeat' first | assumption | apply State.modHlp_in | intro _ | split
  all_goals exact hm.of (by decide)

theorem execRemoteFrameReceived_in (h : Within m z s) (hm : Sub 262152 m) (rm) (bytes) : Nexts m z (execRemoteFrameReceived rm bytes s) := by
  unfold execRemoteFrameReceived
  with_reducible repeat' first | assumption | apply Nexts.next | apply nexts_ite | apply State.count_in | apply State.modRmod_in | apply State.setFlag_in | apply State.setFld_in | apply within_ite | intro _ | split
  all_goals exact hm.of (by decide)

theorem execRemoteTimeout_in (h : Within m z s) (hm : Sub 16779304 m) (rm) : Nexts m z (execRemoteTimeout rm s) := by
  unfold execRemoteTimeout
  with_reducible repeat' first | assumption | apply Nexts.next | apply nexts_ite | apply State.post_in | apply State.count_in | apply State.setFlag_in | intro _ | split
  all_goals exact hm.of (by decide)

theorem execRemoteOutputSend_in (h : Within m z s) (hm : Sub 262144 m) (rm) : Nexts m z (execRemoteOutputSend rm s) := by
  unfold execRemoteOutputSend
  with_reducible repeat' first | assumption | apply Nexts.next | apply nexts_ite | apply State.modRmod_in | intro _ | split
  all_goals exact hm.of (by decide)

theorem State.setStaging_in (h : Within m z s) (hm : Sub 16 m) (m0) (l) : Within m z (State.setStaging s m0 l) := by
  unfold State.setStaging
  with_reducible repeat' first | assumption | (apply Within.set_fcp; first | assumption) | intro _ | split
  all_goals exact hm.of (by decide)

theorem execCfgStage_in (h : Within m z s) (hm : Sub 2097168 m) (tag) : Nexts m z (execCfgStage tag s) := by
  unfold execCfgStage
  with_reducible repeat' first | assumption | apply Nexts.next | apply nexts_ite | apply serve_in | apply State.complete_in | apply State.done_in | apply State.setStaging_in | intro _ | split
  all_goals exact hm.of (by decide)

theorem execCfgDiscard_in (h : Within m z s) (hm : Sub 2097168 m) (tag) : Nexts m z (execCfgDiscard tag s) := by
  unfold execCfgDiscard
  with_reducible repeat' first | assumption | apply Nexts.next | apply nexts_ite | apply serve_in | apply State.done_in | apply State.setStaging_in | intro _ | split
  all_goals exact hm.of (by decide)

theorem State.writeCtx_in (h : Within m z s) (hm : Sub 67108992 m) (i) (ws) (en) : Within m z (State.writeCtx s i ws en) := by
  unfold State.writeCtx
  with_reducible repeat' first | assumption | apply State.setCwords_in | apply State.healCtx_in | apply State.setCflag_in | apply State.cond_in | apply State.recold_in | apply within_ite | intro _ | split | dsimp only
  all_goals exact hm.of (by decide)

theorem State.setType_in (h : Within m z s) (hm : Sub 67108992 m) (i) (ty) : Within m z (State.setType s i ty) := by
  unfold State.setType
  with_reducible repeat' first | assumption | apply State.writeCtx_in | apply within_ite | intro _ | split | dsimp only
  all_goals exact hm.of (by decide)

theorem State.applyReg_in (h : Within m z s) (hm : Sub 67109000 m) (r) : Within m z (State.applyReg s r) := by
  unfold State.applyReg
  with_reducible repeat' first | assumption | apply State.setType_in | apply State.setReg_in | apply within_ite | intro _ | split | dsimp only
  all_goals exact hm.of (by decide)

theorem State.applyBind_in (h : Within m z s) (hm : Sub 262144 m) (r) : Within m z (State.applyBind s r) := by
  unfold State.applyBind
  with_reducible repeat' first | assumption | apply State.modHlp_in | intro _ | split
  all_goals exact hm.of (by decide)

theorem State.applyRmod_in (h : Within m z s) (hm : Sub 262152 m) (r) : Within m z (State.applyRmod s r) := by
  unfold State.applyRmod
  with_reducible repeat' first | assumption | apply State.modRmod_in | apply State.setFlag_in | apply State.setFld_in | intro _ | split
  all_goals exact hm.of (by decide)

theorem State.applyHost_in (h : Within m z s) (hm : Sub 16 m) (r) : Within m z (State.applyHost s r) := by
  unfold State.applyHost
  with_reducible repeat' first | assumption | (apply Within.set_fcp; first | assumption) | intro _ | split
  all_goals exact hm.of (by decide)

theorem State.applyNetif_in (h : Within m z s) (hm : Sub 18876456 m) (r) : Within m z (State.applyNetif s r) := by
  unfold State.applyNetif
  with_reducible repeat' first | assumption | apply State.modMac_in | apply State.setFlag_in | apply State.setFld_in | apply State.post_in | apply within_ite | intro _ | split
  all_goals exact hm.of (by decide)

theorem State.clearCtx_in (h : Within m z s) (hm : Sub 67108992 m) (i) : Within m z (State.clearCtx s i) := by
  unfold State.clearCtx
  with_reducible repeat' first | assumption | apply State.setCwords_in | apply State.setCf_in | apply State.healCtx_in | apply State.modCtx_in | apply within_ite | intro _ | split | dsimp only
  all_goals exact hm.of (by decide)

theorem State.putCtx_in (h : Within m z s) (hm : Sub 67108992 m) (r) (i) : Within m z (State.putCtx s r i) := by
  unfold State.putCtx
  with_reducible repeat' first | assumption | apply State.writeCtx_in | apply within_ite | intro _ | split
  all_goals exact hm.of (by decide)

theorem State.addMember_in (h : Within m z s) (hm : Sub 67109252 m) (named) (p) (base) (m0) : Within m z (State.addMember s named p base m0) := by
  unfold State.addMember
  with_reducible repeat' first | assumption | apply State.bump_in | apply State.modPort_in | apply State.writeCtx_in | apply State.modCtx_in | apply State.clearCtx_in | apply within_ite | intro _ | split
  all_goals exact hm.of (by decide)

theorem State.linkSat_in (h : Within m z s) (hm : Sub 128 m) (p) : Within m z (State.linkSat s p) := by
  unfold State.linkSat
  with_reducible repeat' first | assumption | apply State.setCword_in | apply within_ite | intro _ | split
  all_goals exact hm.of (by decide)

theorem State.addFamily_in (h : Within m z s) (hm : Sub 67113356 m) (named) (p) : Within m z (State.addFamily s named p) := by
  unfold State.addFamily
  with_reducible repeat' first | assumption | apply State.addMember_in | apply State.bump_in | apply State.linkSat_in | apply State.govReset_in | apply foldl_in | apply within_ite | intro _ | split | dsimp only
  all_goals exact hm.of (by decide)

theorem State.putPort_in (h : Within m z s) (hm : Sub 83892652 m) (named) (r) : Within m z (State.putPort s named r) := by
  unfold State.putPort
  with_reducible repeat' first | assumption | apply State.modPort_in | apply State.setFld_in | apply State.addFamily_in | apply State.cond_in | apply State.govEnter_in | apply within_ite | intro _ | split | dsimp only
  all_goals exact hm.of (by decide)

theorem State.dropFamily_in (h : Within m z s) (hm : Sub 67109248 m) (r) : Within m z (State.dropFamily s r) := by
  unfold State.dropFamily
  with_reducible repeat' first | assumption | apply State.clearCtx_in | apply State.modPort_in | apply foldl_in | apply within_ite | intro _ | split
  all_goals exact hm.of (by decide)

theorem State.applyRec_in (named : List Nat) {x : State × List (Nat × Nat)} (h : Within m z x.1) (hm : Sub 86251964 m) (r : List Byte) :
    Within m z (State.applyRec named x r).1 := by
  unfold State.applyRec
  dsimp only
  split
  · exact applyReg_in h (hm.of (by decide)) _
  · exact putPort_in h (hm.of (by decide)) _ _
  · split
    · exact putCtx_in (clearCtx_in (bump_in h (hm.of (by decide))) (hm.of (by decide)) _) (hm.of (by decide)) _ _
    · exact putCtx_in h (hm.of (by decide)) _ _
  · exact applyBind_in h (hm.of (by decide)) _
  · exact applyRmod_in h (hm.of (by decide)) _
  · exact applyHost_in h (hm.of (by decide)) _
  · exact applyNetif_in h (hm.of (by decide)) _

theorem State.makeCle_in (h : Within m z s) (hm : Sub 12 m) (x) : Within m z (State.makeCle s x) := by
  unfold State.makeCle
  dsimp only
  split
  · exact bump_in (setReg_in h (hm.of (by decide)) _ _ _) (hm.of (by decide))
  · exact h

theorem State.placeCle_in (h : Within m z s) (hm : Sub 12 m) : Within m z (State.placeCle s) := by
  unfold State.placeCle
  with_reducible repeat' first | assumption | apply State.forUnits_in | apply State.setReg_in | apply State.makeCle_in | apply foldl_in | apply within_ite | intro _ | split
  all_goals exact hm.of (by decide)

theorem State.bindCmp_in (h : Within m z s) (hm : Sub 8 m) (committed) : Within m z (State.bindCmp s committed) := by
  unfold State.bindCmp
  with_reducible repeat' first | assumption | apply State.forUnits_in | apply State.setFlag_in | apply State.setFld_in | apply within_ite | intro _ | split | dsimp only
  all_goals exact hm.of (by decide)

theorem State.setHorizon_in (h : Within m z s) (hm : Sub 8 m) (k0) : Within m z (State.setHorizon s k0) := by
  unfold State.setHorizon
  with_reducible repeat' first | assumption | apply State.setFld_in | intro _ | split
  all_goals exact hm.of (by decide)

theorem State.cfgApply_in (h : Within m z s) (hm : Sub 86251964 m) (rs : List (List Byte)) : Within m z (s.cfgApply rs).1 := by
  have hf : ∀ (named : List Nat) (l : List (List Byte)) (x : State × List (Nat × Nat)), Within m z x.1 →
      Within m z (l.foldl (State.applyRec named) x).1 := by
    intro named l
    induction l with
    | nil => exact fun _ hx => hx
    | cons r l ih => exact fun x hx => ih _ (applyRec_in named hx hm r)
  have h1 : Within m z (rs.foldl State.dropFamily s) := foldl_in _ h fun _ _ ht => dropFamily_in ht (hm.of (by decide)) _
  have h2 := fun (named : List Nat) => placeCle_in (hf named rs (rs.foldl State.dropFamily s, []) h1) (hm.of (by decide))
  unfold State.cfgApply
  dsimp only
  with_reducible repeat' first | apply setReg_in | apply setFld_in | apply setFlag_in | apply forUnits_in | apply bindCmp_in | exact h2 _ | intro _ | apply setHorizon_in | assumption
  all_goals exact hm.of (by decide)

theorem execCfgCommit_in (h : Within m z s) (hm : Sub 2097168 m) (tag) : Nexts m z (execCfgCommit tag s) := by
  unfold execCfgCommit
  with_reducible repeat' first | assumption | apply Nexts.next | apply nexts_ite | apply serve_in | apply State.done_in | apply State.complete_in | apply State.setStaging_in | apply State.start_in | apply within_ite | (apply Within.set_fcp; first | assumption | apply Nexts.next | apply nexts_ite | apply serve_in | apply State.done_in | apply State.complete_in | apply State.setStaging_in | apply State.start_in | apply within_ite) | intro _ | split | dsimp only
  all_goals exact hm.of (by decide)

theorem State.cmpEffect_in (h : Within m z s) (hm : Sub 8712 m) (s0 : State) : Within m z (State.cmpEffect s0 s) := by
  unfold State.cmpEffect
  with_reducible repeat' first | assumption | apply State.forUnits_in | apply State.staticThr_in | apply State.ceilingThr_in | apply State.markFresh_in | apply State.setFlag_in | apply within_ite | intro _ | split | dsimp only
  all_goals exact hm.of (by decide)

theorem State.profEffect_in (h : Within m z s) (hm : Sub 16795688 m) (s0 : State) : Within m z (State.profEffect s0 s) := by
  unfold State.profEffect
  with_reducible repeat' first | assumption | apply State.forUnits_in | apply State.cond_in | apply State.makeProf_in | apply State.profFail_in | apply within_ite | intro _ | split | dsimp only
  all_goals exact hm.of (by decide)

theorem State.sdEffect_in (h : Within m z s) (hm : Sub 16795688 m) (s0 : State) : Within m z (State.sdEffect s0 s) := by
  unfold State.sdEffect
  with_reducible repeat' first | assumption | apply State.profEffect_in | apply State.forUnits_in | apply State.sdRestart_in | apply within_ite | intro _ | split | dsimp only
  all_goals exact hm.of (by decide)

theorem State.legEffect_in (h : Within m z s) (hm : Sub 512 m) (s0 : State) : Within m z (State.legEffect s0 s) := by
  unfold State.legEffect
  with_reducible repeat' first | assumption | apply State.forUnits_in | apply State.modLeg_in | apply within_ite | intro _ | split
  all_goals exact hm.of (by decide)

theorem State.filtEffect_in (h : Within m z s) (hm : Sub 524288 m) : Within m z (State.filtEffect s) := by
  unfold State.filtEffect
  with_reducible repeat' first | assumption | apply foldl_in | (apply Within.set_fio; first | assumption | apply foldl_in) | intro _ | split
  all_goals exact hm.of (by decide)

theorem State.pairEffect_in (h : Within m z s) (hm : Sub 25233704 m) (s0 : State) : Within m z (State.pairEffect s0 s) := by
  unfold State.pairEffect
  with_reducible repeat' first | assumption | apply State.toPair_in | apply State.forUnits_in | apply State.goPort_in | apply State.setReg_in | apply State.setFlag_in | apply State.setFld_in | apply State.modPair_in | apply within_ite | intro _ | split | dsimp only
  all_goals exact hm.of (by decide)

theorem State.dueNew_in (h : Within m z s) (hm : Sub 128 m) (s0 : State) (i) : Within m z (State.dueNew s0 s i) := by
  unfold State.dueNew
  with_reducible repeat' first | assumption | apply State.modCtx_in | apply State.modCle_in | apply within_ite | intro _ | split | dsimp only
  all_goals exact hm.of (by decide)

theorem State.cfgEffect_in (h : Within m z s) (hm : Sub 25821096 m) (s0 : State) : Within m z (State.cfgEffect s0 s) := by
  unfold State.cfgEffect
  with_reducible repeat' first | assumption | apply State.pairEffect_in | apply State.legEffect_in | apply State.sdEffect_in | apply State.cmpEffect_in | apply State.filtEffect_in | apply State.cmpAfresh_in | apply State.forUnits_in | apply State.coreStat_in | apply State.setFlag_in | apply State.dueNew_in | apply State.modCoef_in | apply State.gdenCmd_in | apply within_ite | intro _ | split | dsimp only
  all_goals exact hm.of (by decide)

theorem execCommitTakesEffect_in (h : Within m z s) (hm : Sub 95289276 m) : Nexts m z (execCommitTakesEffect s) := by
  unfold execCommitTakesEffect
  refine .next ?_
  split
  · exact h
  · refine within_ite (fun _ => h) fun _ => ?_
    dsimp only
    with_reducible apply State.complete_in
    · with_reducible apply Within.set_fcp
      · with_reducible refine State.cfgEffect_in ?_ (hm.of (by decide)) s
        with_reducible refine Within.set_fresh ?_ (hm.of (by decide))
        with_reducible refine State.cfgApply_in ?_ (hm.of (by decide)) _
        with_reducible exact Within.set_fresh h (hm.of (by decide))
      · exact hm.of (by decide)
    · exact hm.of (by decide)

theorem State.cfgAhead_in (h : Within m z s) (hm : Sub 86251964 m) : Within m z (State.cfgAhead s) := by
  unfold State.cfgAhead
  with_reducible repeat' first | assumption | apply State.cfgApply_in | apply within_ite | intro _ | split | dsimp only
  all_goals exact hm.of (by decide)

theorem execGait_in (h : Within m z s) (hm : Sub 35651608 m) (tag) : Nexts m z (execGait tag s) := by
  unfold execGait
  with_reducible repeat' first | assumption | apply Nexts.next | apply nexts_ite | apply serve_in | apply State.done_in | apply State.setFlag_in | apply State.setFld_in | apply State.modClk_in | apply State.start_in | apply within_ite | intro _ | split | dsimp only
  all_goals exact hm.of (by decide)

theorem execRate_in (h : Within m z s) (hm : Sub 2163344 m) (tag) : Nexts m z (execRate tag s) := by
  unfold execRate
  with_reducible repeat' first | assumption | apply Nexts.next | apply nexts_ite | apply serve_in | apply State.done_in | apply State.start_in | apply State.stageRate_in | apply within_ite | (apply Within.set_pair; first | assumption | apply Nexts.next | apply nexts_ite | apply serve_in | apply State.done_in | apply State.start_in | apply State.stageRate_in | apply within_ite) | intro _ | split | dsimp only
  all_goals exact hm.of (by decide)

theorem execDlCalibration_in (h : Within m z s) (hm : Sub 16779816 m) (equal) : Nexts m z (execDlCalibration equal s) := by
  unfold execDlCalibration
  with_reducible repeat' first | assumption | apply Nexts.next | apply nexts_ite | apply State.setFlag_in | apply State.setFld_in | apply State.modPwm_in | apply State.cond_in | apply State.post_in | apply within_ite | intro _ | split
  all_goals exact hm.of (by decide)

theorem State.carrierPass_in (h : Within m z s) (hm : Sub 16788008 m) (n) : Within m z (State.carrierPass s n) := by
  unfold State.carrierPass
  with_reducible repeat' first | assumption | apply State.cond_in | apply State.urgent_in | apply State.modLeg_in | apply State.modPwm_in | apply State.post_in | apply within_ite | intro _ | split | dsimp only
  all_goals exact hm.of (by decide)

theorem execCarrierEvent_in (h : Within m z s) (hm : Sub 16788008 m) (leg) : Nexts m z (execCarrierEvent leg s) := by
  unfold execCarrierEvent
  with_reducible repeat' first | assumption | apply Nexts.next | apply nexts_ite | apply State.modLeg_in | apply State.carrierPass_in | apply within_ite | intro _ | split | dsimp only
  all_goals exact hm.of (by decide)

theorem execComparatorCrossing_in (h : Within m z s) (hm : Sub 16825128 m) (ain) (e) : Nexts m z (execComparatorCrossing ain e s) := by
  unfold execComparatorCrossing
  with_reducible repeat' first | assumption | apply Nexts.next | apply nexts_ite | apply State.setVin_in | apply State.cmpRise_in | apply within_ite | intro _ | split | dsimp only
  all_goals exact hm.of (by decide)

theorem execComparatorOutputFall_in (h : Within m z s) (hm : Sub 8712 m) (ain) (e) : Nexts m z (execComparatorOutputFall ain e s) := by
  unfold execComparatorOutputFall
  with_reducible repeat' first | assumption | apply Nexts.next | apply nexts_ite | apply State.setVin_in | apply State.setFlag_in | apply State.refreshGroups_in | apply within_ite | intro _ | split | dsimp only
  all_goals exact hm.of (by decide)

theorem execTripPinActive_in (h : Within m z s) (hm : Sub 520 m) (pin) : Nexts m z (execTripPinActive pin s) := by
  unfold execTripPinActive
  with_reducible repeat' first | assumption | apply Nexts.next | apply nexts_ite | apply State.modPwm_in | apply State.refreshGroups_in | apply within_ite | intro _ | split | dsimp only
  all_goals exact hm.of (by decide)

theorem execTripPinInactive_in (h : Within m z s) (hm : Sub 520 m) (pin) : Nexts m z (execTripPinInactive pin s) := by
  unfold execTripPinInactive
  with_reducible repeat' first | assumption | apply Nexts.next | apply nexts_ite | apply State.refreshGroups_in | apply State.modPwm_in | apply within_ite | intro _ | split
  all_goals exact hm.of (by decide)

theorem State.trip_in (h : Within m z s) (hm : Sub 16812840 m) (g) (src) : Within m z (State.trip s g src) := by
  unfold State.trip
  with_reducible repeat' first | assumption | apply State.setFlag_in | apply State.setFld_in | apply State.count_in | apply State.post_in | apply State.takeEdges_in | apply State.legOff_in | apply State.modLeg_in | apply State.raiseLeg_in | apply State.haltLegs_in | apply foldl_in | apply within_ite | intro _ | split | dsimp only
  all_goals exact hm.of (by decide)

theorem execTripGroupTrip_in (h : Within m z s) (hm : Sub 16812840 m) (grp) : Nexts m z (execTripGroupTrip grp s) := by
  unfold execTripGroupTrip
  with_reducible repeat' first | assumption | apply Nexts.next | apply nexts_ite | apply State.trip_in | apply within_ite | intro _ | split | dsimp only
  all_goals exact hm.of (by decide)

theorem execBlankingClose_in (h : Within m z s) (hm : Sub 16816936 m) (wt) : Nexts m z (execBlankingClose wt s) := by
  unfold execBlankingClose
  with_reducible repeat' first | assumption | apply Nexts.next | apply nexts_ite | apply State.modPwm_in | apply State.cond_in | apply State.crossingActs_in | apply State.forUnits_in | apply State.refreshGroups_in | apply within_ite | intro _ | split | dsimp only
  all_goals exact hm.of (by decide)

theorem execDeliveredEdge_in (h : Within m z s) (hm : Sub 520 m) (leg) (top) (on) (instant) : Nexts m z (execDeliveredEdge leg top on instant s) := by
  unfold execDeliveredEdge
  with_reducible repeat' first | assumption | apply Nexts.next | apply nexts_ite | apply State.takeEdges_in | apply State.modLeg_in | apply State.openBlanking_in | apply within_ite | intro _ | split | dsimp only
  all_goals exact hm.of (by decide)

theorem State.answer_in (h : Within m z s) (hm : Sub 2097168 m) (tag) (res) (pay) : Within m z (State.answer s tag res pay) := by
  unfold State.answer
  with_reducible repeat' first | assumption | apply State.complete_in | intro _ | split
  all_goals exact hm.of (by decide)

theorem execQResult_in (h : Within m z s) (hm : Sub 2097168 m) (tag) : Nexts m z (execQResult tag s) := by
  unfold execQResult
  with_reducible repeat' first | assumption | apply Nexts.next | apply nexts_ite | apply serve_in | apply State.done_in | apply State.answer_in | apply within_ite | intro _ | split
  all_goals exact hm.of (by decide)

theorem execQCtx_in (h : Within m z s) (hm : Sub 2097168 m) (tag) : Nexts m z (execQCtx tag s) := by
  unfold execQCtx
  with_reducible repeat' first | assumption | apply Nexts.next | apply nexts_ite | apply serve_in | apply State.done_in | apply State.answer_in | apply within_ite | intro _ | split
  all_goals exact hm.of (by decide)

theorem execQPort_in (h : Within m z s) (hm : Sub 2097168 m) (tag) : Nexts m z (execQPort tag s) := by
  unfold execQPort
  with_reducible repeat' first | assumption | apply Nexts.next | apply nexts_ite | apply serve_in | apply State.done_in | apply State.answer_in | apply within_ite | intro _ | split | dsimp only
  all_goals exact hm.of (by decide)

theorem execQObs_in (h : Within m z s) (hm : Sub 2097168 m) (tag) : Nexts m z (execQObs tag s) := by
  unfold execQObs
  with_reducible repeat' first | assumption | apply Nexts.next | apply nexts_ite | apply serve_in | apply State.done_in | apply State.answer_in | apply within_ite | intro _ | split
  all_goals exact hm.of (by decide)

theorem State.fencenRead_in (h : Within m z s) (hm : Sub 200 m) (clear : Bool) (c i off : Nat) : Within m z (s.fencenRead clear c i off).2 := by
  have h1 : ∀ f, Within m z (s.modPath 2 f) := fun f => modPath_in h (hm.of (by decide)) _ _
  unfold State.fencenRead
  split
  · dsimp only
    split
    · exact readClear_in (readLatch_in (h1 _) (hm.of (by decide)) _ _ _ _ _) (hm.of (by decide)) _ _ _
    · exact readLatch_in (h1 _) (hm.of (by decide)) _ _ _ _ _
  · exact count_in h (hm.of (by decide)) _ _

theorem execQReg_in (h : Within m z s) (hm : Sub 2097368 m) (tag) : Nexts m z (execQReg tag s) := by
  unfold execQReg
  refine serve_in h (hm.of (by decide)) fun e => ?_
  dsimp only
  split
  · exact State.done_in h (hm.of (by decide)) _ _
  · split
    · exact State.done_in h (hm.of (by decide)) _ _
    · refine State.answer_in ?_ (hm.of (by decide)) _ _ _
      suffices ∀ (l : List (Nat × Nat × Nat)) (a : List Word × State), Within m z a.2 →
          Within m z (l.foldl (fun (a : List Word × State) x =>
            (let y := a.2.fencenRead (e.a 1 == 1) x.1 x.2.1 x.2.2; (a.1 ++ [y.1], y.2))) a).2 from this _ _ h
      intro l
      induction l with
      | nil => exact fun _ ha => ha
      | cons x l ih => exact fun a ha => ih _ (State.fencenRead_in ha (hm.of (by decide)) _ _ _ _)

theorem execQEvents_in (h : Within m z s) (hm : Sub 2097168 m) (tag) : Nexts m z (execQEvents tag s) := by
  unfold execQEvents
  with_reducible repeat' first | assumption | apply Nexts.next | apply nexts_ite | apply serve_in | apply State.answer_in | intro _ | split
  all_goals exact hm.of (by decide)

end Sys2Proof.Machine
end

