-- ==== Sys2Proof/Laws/Keep.lean ====
section
/-!
SUPPORT. What every operation of the block keeps. `Ok q s`: state s meets the invariant and its queue of waiting commands is q. The
files Keep0 and on give one lemma for each operation and each meaning: it keeps `Ok q`.
-/
namespace Sys2Proof.Machine

/-- State s meets the invariant, and its queue is q. -/
structure Ok (q : List Instr) (s : State) : Prop where
  inv : s.Inv
  queue : s.pending = q

/-- A meaning answers a next state that is `Ok q`. -/
def Good (q : List Instr) (o : Host.Outcome State Fault Refusal) : Prop := ∃ t, o = .next t ∧ Ok q t

variable {q : List Instr} {s : State}

theorem Good.next {t : State} (h : Ok q t) : Good q (.next t) := ⟨t, rfl, h⟩

/-- What the invariant reads is unchanged. -/
theorem Ok.of {t : State} (h : Ok q s) (hr : t.regs = s.regs) (he : t.evq.queue = s.evq.queue) (hi : t.fcp.inflight = s.fcp.inflight)
    (hb : t.fcp.boxes = s.fcp.boxes) (hp : t.pending = s.pending) (hc : t.cle.ram = s.cle.ram) (hm : (t.hlp.mem, t.hlp.store) = (s.hlp.mem, s.hlp.store))
    (hf : t.fcp.ram = s.fcp.ram) : Ok q t := by
  obtain ⟨⟨a, b, c, d⟩, e⟩ := h
  obtain ⟨hm, hn⟩ := Prod.mk.inj hm
  refine ⟨⟨hr ▸ a, he ▸ b, ?_, hc ▸ d.1, hm ▸ d.2.1, hf ▸ d.2.2.1, hn ▸ d.2.2.2⟩, hp.trans e⟩
  unfold FcpSt.Rings at *
  rw [hi, hb]; exact c

theorem Ok.regs {t : State} (h : Ok q s) (hr : Memory.wf resetWord t.regs = true) (he : t.evq = s.evq) (hf : t.fcp = s.fcp)
    (hp : t.pending = s.pending) (hc : t.cle = s.cle) (hm : t.hlp = s.hlp) : Ok q t :=
  ⟨⟨hr, he ▸ h.inv.depth, hf ▸ h.inv.rings, hc ▸ h.inv.stores.1, hm ▸ h.inv.stores.2.1, hf ▸ h.inv.stores.2.2.1,
    hm ▸ h.inv.stores.2.2.2⟩, hp.trans h.queue⟩

/-- A store changes and stays in canonical form. -/
theorem Ok.stores {t : State} (h : Ok q s) (hr : t.regs = s.regs) (he : t.evq = s.evq) (hi : t.fcp.inflight = s.fcp.inflight)
    (hb : t.fcp.boxes = s.fcp.boxes) (hp : t.pending = s.pending) (hs : t.Stores) : Ok q t := by
  obtain ⟨⟨a, b, c, d⟩, e⟩ := h
  refine ⟨⟨hr ▸ a, he ▸ b, ?_, hs⟩, hp.trans e⟩
  unfold FcpSt.Rings at *
  rw [hi, hb]; exact c

theorem State.setReg_ok (h : Ok q s) (r : Reg) (i : Nat) (w : Word) : Ok q (s.setReg r i w) :=
  h.regs (Memory.wf_set _ _ _ _ h.inv.regs) rfl rfl rfl rfl rfl

theorem State.setFld_ok (h : Ok q s) (f : Fld) (i v : Nat) : Ok q (s.setFld f i v) :=
  h.regs (Memory.wf_set _ _ _ _ h.inv.regs) rfl rfl rfl rfl rfl

theorem State.setFlag_ok (h : Ok q s) (f : Fld) (i : Nat) (b : Bool) : Ok q (s.setFlag f i b) := setFld_ok h f i _

theorem State.countN_ok (h : Ok q s) (f : Fld) (i k : Nat) : Ok q (s.countN f i k) := setFld_ok h f i _

theorem State.count_ok (h : Ok q s) (f : Fld) (i : Nat) : Ok q (s.count f i) := countN_ok h f i 1

theorem foldl_ok {α : Type} {f : State → α → State} (l : List α) (h : Ok q s) (hf : ∀ t x, Ok q t → Ok q (f t x)) :
    Ok q (l.foldl f s) := by
  induction l generalizing s with
  | nil => exact h
  | cons x l ih => exact ih (hf s x h)

theorem State.forUnits_ok {n : Nat} {f : State → Nat → State} (h : Ok q s) (hf : ∀ t i, Ok q t → Ok q (f t i)) :
    Ok q (s.forUnits n f) := foldl_ok _ h hf

theorem State.cond_ok {b : Bool} {f : State → State} (h : Ok q s) (hf : ∀ t, Ok q t → Ok q (f t)) : Ok q (s.cond b f) := by
  unfold State.cond; split
  · exact hf s h
  · exact h

theorem State.elapse_ok (h : Ok q s) (d : Nat) : Ok q (s.elapse d) := h.of rfl rfl rfl rfl rfl rfl rfl rfl

theorem State.bump_ok (h : Ok q s) : Ok q s.bump := h.of rfl rfl rfl rfl rfl rfl rfl rfl

theorem State.modPort_ok (h : Ok q s) (p : Nat) (f : PortSt → PortSt) : Ok q (s.modPort p f) := h.of rfl rfl rfl rfl rfl rfl rfl rfl

theorem State.modLane_ok (h : Ok q s) (l : Nat) (f : LaneSt → LaneSt) : Ok q (s.modLane l f) := h.of rfl rfl rfl rfl rfl rfl rfl rfl

theorem State.trTrigger_ok (h : Ok q s) (c : Nat) : Ok q (s.trTrigger c) := by
  unfold State.trTrigger; split
  · exact (setFld_ok h _ _ _).of rfl rfl rfl rfl rfl rfl rfl rfl
  · exact h

theorem State.trFire_ok (h : Ok q s) (src : Nat) (ok : Nat → Bool) : Ok q (s.trFire src ok) :=
  forUnits_ok h fun t i ht => by
    split
    · exact trTrigger_ok ht i
    · exact ht

/-- A posted event enters the queue, which stays within its depth (R43). -/
theorem State.postAs_ok (h : Ok q s) (island : Bool) (code unit data : Nat) : Ok q (s.postAs island code unit data) := by
  have hq : (if decide (s.evq.queue.length ≥ 64) then s.evq.queue.drop 1 else s.evq.queue).length ≤ 63 := by
    have := h.inv.depth
    split <;> simp_all <;> omega
  unfold State.postAs
  refine trFire_ok (setFld_ok (State.cond_ok (State.cond_ok ?_ fun t ht => ?_) fun t ht => count_ok ht _ _) _ _ _) _ _
  · refine ⟨⟨h.inv.regs, ?_, h.inv.rings, h.inv.stores⟩, h.queue⟩
    simp only [List.length_append, List.length_singleton]; omega
  · exact ht.of rfl rfl rfl rfl rfl rfl rfl rfl

theorem State.post_ok (h : Ok q s) (code unit data : Nat) : Ok q (s.post code unit data) := postAs_ok h _ _ _ _

theorem State.postAct_ok (h : Ok q s) (up : Bool) : Ok q (s.postAct up) := postAs_ok h _ _ _ _

/-! ### Mailboxes -/

theorem vget_vmod {α : Type} [Inhabited α] {n : Nat} (v : Vector α n) (i j : Nat) (f : α → α) :
    vget (vmod v i f) j = if i = j ∧ i < n then f (vget v j) else vget v j := by
  unfold vmod vget
  split
  · rename_i hi
    by_cases hj : j < n
    · have e : ∀ w : Vector α n, w.toList.getD j default = w[j] := fun w => by
        rw [List.getD_eq_getElem?_getD, List.getElem?_eq_getElem (by simpa using hj)]; simp
      rw [e, e, Vector.getElem_set]
      by_cases hij : i = j
      · subst hij; simp [hi]
      · simp [hij]
    · have : i ≠ j := by omega
      simp [this, List.getD_eq_getElem?_getD, Nat.not_lt.mp hj]
  · rename_i hi; simp [hi]

/-- A change of a mailbox that keeps its completions, or drops some. -/
theorem State.box_ok (h : Ok q s) (m : Nat) (f : Mailbox → Mailbox) (hf : ∀ b, (f b).posted.Sublist b.posted) :
    Ok q (s.box m f) := by
  refine ⟨⟨h.inv.regs, h.inv.depth, ⟨h.inv.rings.1, h.inv.rings.2.1, fun k hk => ?_⟩, h.inv.stores⟩, h.queue⟩
  obtain ⟨h1, h2, h3⟩ := h.inv.rings.2.2 k hk
  have hs : (vget (s.box m f).fcp.boxes k).posted.Sublist (vget s.fcp.boxes k).posted := by
    simp only [State.box, vget_vmod]
    split
    · exact hf _
    · exact List.Sublist.refl _
  exact ⟨Nat.le_trans (Nat.add_le_add_left hs.length_le _) h1, h2.sublist (hs.map _), fun p hp => h3 p (hs.mem hp)⟩

/-- With e gone from the ring of commands, its mailbox has one command less. -/
theorem inflight_less {l : List Entry} {e : Entry} {k : Nat} (he : e ∈ l) (hk : e.mb = k) :
    ((l.filter fun x => x.tag != e.tag).filter fun x => x.mb == k).length < (l.filter fun x => x.mb == k).length := by
  rw [List.filter_filter, ← List.countP_eq_length_filter, ← List.countP_eq_length_filter]
  induction l with
  | nil => cases he
  | cons y l ih =>
    have hmono : l.countP (fun x => x.mb == k && x.tag != e.tag) ≤ l.countP (fun x => x.mb == k) :=
      List.countP_mono_left fun x _ hx => by simp_all
    rcases List.mem_cons.mp he with rfl | hm
    · simp only [List.countP_cons, hk]; simp; omega
    · have := ih hm
      simp only [List.countP_cons]
      split <;> split <;> simp_all <;> omega

/-- The entry leaves the ring of commands and one completion with its tag enters its mailbox. -/
theorem State.moved_ok (h : Ok q s) (e : Entry) (he : e ∈ s.fcp.inflight) (f : Mailbox → Mailbox) (p : Mailbox → Posted)
    (hp : ∀ x, (p x).tag = e.tag) (hf : ∀ x, (f x).posted = x.posted ++ [p x]) :
    Ok q (State.box { s with fcp := { s.fcp with inflight := s.fcp.inflight.filter fun x => x.tag != e.tag } } e.mb f) := by
  refine ⟨⟨h.inv.regs, h.inv.depth, ⟨?_, fun x hx => ?_, fun k hk => ?_⟩, h.inv.stores⟩, h.queue⟩
  · exact h.inv.rings.1.sublist (List.Sublist.map _ List.filter_sublist)
  · exact h.inv.rings.2.1 x (List.mem_filter.mp hx).1
  · obtain ⟨h1, h2, h3⟩ := h.inv.rings.2.2 k hk
    simp only [State.box, vget_vmod]
    split
    · rename_i hek
      refine ⟨?_, ?_, fun x hx => ?_⟩
      · have := inflight_less he hek.1
        rw [hf, List.length_append, List.length_singleton]; omega
      · rw [hf, List.map_append, List.nodup_append]
        refine ⟨h2, by simp, fun a ha b hb => ?_⟩
        obtain ⟨y, hy, rfl⟩ := List.mem_map.mp ha
        have hb' : b = e.tag := by simpa [hp] using hb
        rw [hb']; exact ((h3 y hy).2 e he).symm
      · rw [hf] at hx
        rcases List.mem_append.mp hx with hx | hx
        · exact ⟨(h3 x hx).1, fun y hy => (h3 x hx).2 y (List.mem_filter.mp hy).1⟩
        · have hx' := List.mem_singleton.mp hx
          rw [hx', hp]
          refine ⟨(h.inv.rings.2.1 e he).trans hek.1, fun y hy => ?_⟩
          simpa using (List.mem_filter.mp hy).2
    · exact ⟨Nat.le_trans (Nat.add_le_add_right (List.Sublist.length_le (List.Sublist.filter _ List.filter_sublist)) _) h1, h2,
        fun x hx => ⟨(h3 x hx).1, fun y hy => (h3 x hx).2 y (List.mem_filter.mp hy).1⟩⟩

/-- What leaves on the ordinary path of a MAC changes no ring. -/
theorem State.ordinary_ok (h : Ok q s) (m : Nat) (l : List (List Byte)) : Ok q (s.ordinary m l) :=
  box_ok (s := { s with macs := vmod s.macs m fun x => { x with held := if s.txHeld m then (vget s.macs m).held ++ l else [] } })
    (h.of rfl rfl rfl rfl rfl rfl rfl rfl) (4 + m) (fun b => { b with sent := if s.txHeld m then b.sent else b.sent ++ ((vget s.macs m).held ++ l) })
    fun _ => List.Sublist.refl _

theorem State.emit_ok (h : Ok q s) (m : Nat) (msg : List Byte) : Ok q (s.emit m msg) := by
  unfold State.emit; split
  · exact ordinary_ok h _ _
  · exact box_ok h _ _ fun _ => List.Sublist.refl _

theorem State.completeEntry_ok (h : Ok q s) (e : Entry) (he : e ∈ s.fcp.inflight) (status pnum : Nat) (res pay : List Byte) :
    Ok q (s.completeEntry e status pnum res pay) := by
  have place : ∀ h0 pay0 : List Byte, Ok q (State.place
      { s with fcp := { s.fcp with inflight := s.fcp.inflight.filter fun x => x.tag != e.tag } } e h0 pay0) := by
    intro h0 pay0
    have k1 : Ok q (State.box { s with fcp := { s.fcp with inflight := s.fcp.inflight.filter fun x => x.tag != e.tag } } e.mb
        fun b => { b with posted := b.posted ++ [⟨e.tag, b.tail, h0, pay0⟩], tail := (b.tail + 1) % 16 }) :=
      moved_ok h e he _ (fun b => ⟨e.tag, b.tail, h0, pay0⟩) (fun _ => rfl) fun _ => rfl
    unfold State.place
    simp only
    split
    · exact k1.stores rfl rfl rfl rfl rfl ⟨k1.inv.stores.1, k1.inv.stores.2.1, Memory.wf_setMany _ _ _ _ k1.inv.stores.2.2.1,
        k1.inv.stores.2.2.2⟩
    · exact emit_ok k1 _ _
  exact place _ _

theorem State.settle_ok (n : Nat) (h : Ok q s) : Ok q (State.settle n s) := by
  induction n generalizing s with
  | zero => exact h
  | succ n ih =>
    rw [State.settle]; split
    · exact h
    · rename_i e he; exact ih (completeEntry_ok h e (List.mem_of_find?_eq_some he) _ _ _ _)

theorem State.complete_ok (h : Ok q s) (tag status pnum : Nat) (res pay : List Byte) : Ok q (s.complete tag status pnum res pay) := by
  unfold State.complete; split
  · exact h
  · rename_i e he
    split
    · exact h
    · split
      · exact h.of rfl rfl rfl rfl rfl rfl rfl rfl
      · exact settle_ok _ (completeEntry_ok h e (List.mem_of_find?_eq_some he) _ _ _ _)

theorem State.done_ok (h : Ok q s) (tag status : Nat) : Ok q (s.done tag status) := complete_ok h _ _ _ _ _

theorem State.doneAt_ok (h : Ok q s) (tag status : Nat) : Ok q (s.doneAt tag status) := complete_ok h _ _ _ _ _

/-- Entries changed without their tags or mailboxes. -/
theorem Ok.entries (h : Ok q s) (g : Entry → Entry) (ht : ∀ x, (g x).tag = x.tag) (hm : ∀ x, (g x).mb = x.mb) :
    Ok q { s with fcp := { s.fcp with inflight := s.fcp.inflight.map g } } := by
  have hg : ((fun x : Entry => x.tag) ∘ g) = fun x => x.tag := funext ht
  refine ⟨⟨h.inv.regs, h.inv.depth, ⟨?_, fun x hx => ?_, fun k hk => ?_⟩, h.inv.stores⟩, h.queue⟩
  · rw [List.map_map, hg]; exact h.inv.rings.1
  · obtain ⟨y, hy, rfl⟩ := List.mem_map.mp hx
    rw [ht, hm]; exact h.inv.rings.2.1 y hy
  · obtain ⟨h1, h2, h3⟩ := h.inv.rings.2.2 k hk
    refine ⟨?_, h2, fun p hp => ⟨(h3 p hp).1, fun x hx => ?_⟩⟩
    · rw [List.filter_map, List.length_map,
        show ((fun x : Entry => x.mb == k) ∘ g) = fun x => x.mb == k from funext fun x => by simp [hm]]
      exact h1
    · obtain ⟨y, hy, rfl⟩ := List.mem_map.mp hx
      rw [ht]; exact (h3 p hp).2 y hy

theorem State.start_ok (h : Ok q s) (tag : Nat) : Ok q (s.start tag) :=
  h.entries _ (fun x => by split <;> rfl) fun x => by split <;> rfl

theorem serve_ok {op tag : Nat} {k : Entry → State} (h : Ok q s) (hk : ∀ e, Ok q (k e)) : Good q (serve op tag s k) := by
  unfold serve; split
  · exact .next h
  · refine .next ?_
    split
    · exact State.done_ok h _ _
    · exact hk _

theorem State.raise_ok (h : Ok q s) (p : Nat) (c : PortCond) : Ok q (s.raise p c) := modPort_ok h _ _

/-! ### Updates of other state -/

theorem Ok.mk' {now fresh win cle ports pwm coef trace obs adc sd gl pair stw hlp fio tb macs ptp cap recd clk spur tack boot} (h
    : Ok q s) (hc : cle.ram = s.cle.ram) (hm : (hlp.mem, hlp.store) = (s.hlp.mem, s.hlp.store)) : Ok q (State.mk s.pending now fresh s.regs s.fcp s.evq win cle
    ports pwm coef trace obs adc sd gl pair stw hlp fio tb macs ptp cap recd clk spur tack boot) := h.of rfl rfl rfl rfl rfl hc hm rfl

theorem Ok.mkFcp {now fresh win cle ports pwm coef trace obs adc sd gl pair stw hlp fio tb macs ptp cap recd clk spur tack boot}
    {staging cfgPend cfgSeed hostSrc prep busy restartSlot planned devWas deferred svpHalted} (h : Ok q s) (hc : cle.ram = s.cle.ram)
    (hm : (hlp.mem, hlp.store) = (s.hlp.mem, s.hlp.store)) : Ok q (State.mk s.pending now fresh s.regs (FcpSt.mk s.fcp.boxes s.fcp.inflight s.fcp.ram staging
    cfgPend cfgSeed hostSrc prep busy restartSlot planned devWas deferred svpHalted) s.evq win cle ports pwm coef trace obs adc sd gl pair stw
    hlp fio tb macs ptp cap recd clk spur tack boot) := h.of rfl rfl rfl rfl rfl hc hm rfl

theorem Ok.mkEvq {now fresh win cle ports pwm coef trace obs adc sd gl pair stw hlp fio tb macs ptp cap recd clk spur tack boot}
    {next blockNext codes slots} (h : Ok q s) (hc : cle.ram = s.cle.ram) (hm : (hlp.mem, hlp.store) = (s.hlp.mem, s.hlp.store)) : Ok q (State.mk s.pending now
    fresh s.regs s.fcp (EvqSt.mk s.evq.queue next blockNext codes slots) win cle ports pwm coef trace obs adc sd gl pair stw hlp fio tb
    macs ptp cap recd clk spur tack boot) := h.of rfl rfl rfl rfl rfl hc hm rfl

theorem ok_ite {c : Prop} [Decidable c] {t u : State} (a : c → Ok q t) (b : ¬ c → Ok q u) : Ok q (if c then t else u) := by
  split
  · exact a ‹_›
  · exact b ‹_›

theorem good_ite {c : Prop} [Decidable c] {t u : Host.Outcome State Fault Refusal} (a : c → Good q t) (b : ¬ c → Good q u) :
    Good q (if c then t else u) := by
  split
  · exact a ‹_›
  · exact b ‹_›

end Sys2Proof.Machine
end

