-- ==== Sys2Proof/Laws/Keep0.lean ====
section
/-!
SUPPORT. What the operations and the meanings of these files of Machine keep (see Laws/Keep):
Ops, ResetOps, StwOps, ClkOps, Adc, SigmaDelta, PwmCore, Trace0, CleRead, CleFam, Cle, TimeOps, Port, Steward, GateLink.
-/
namespace Sys2Proof.Machine

set_option linter.unusedTactic false
set_option linter.unreachableTactic false

variable {q : List Instr} {s : State}

theorem State.modTr_ok (h : Ok q s) (c) (f) : Ok q (State.modTr s c f) := by
  unfold State.modTr
  with_reducible repeat' first | assumption | exact fun _ => rfl | (apply Ok.mk'; first | assumption | exact fun _ => rfl) | exact rfl | intro _ | split

theorem State.portMoved_ok (h : Ok q s) : Ok q (State.portMoved s) := by
  unfold State.portMoved
  with_reducible repeat' first | assumption | apply State.trFire_ok | apply State.trFire_ok | apply ok_ite | exact fun _ => rfl | (apply Ok.mk'; first | assumption | apply State.trFire_ok | apply State.trFire_ok | apply ok_ite | exact fun _ => rfl) | exact rfl | intro _ | split | dsimp only

theorem State.raiseLeg_ok (h : Ok q s) (n) (c) : Ok q (State.raiseLeg s n c) := by
  unfold State.raiseLeg
  with_reducible repeat' first | assumption | apply State.raise_ok | apply ok_ite | exact fun _ => rfl | intro _ | split

theorem State.modPair_ok (h : Ok q s) (f) : Ok q (State.modPair s f) := by
  unfold State.modPair
  with_reducible repeat' first | assumption | exact fun _ => rfl | (apply Ok.mk'; first | assumption | exact fun _ => rfl) | exact rfl | intro _ | split

theorem State.haltStarts_ok (h : Ok q s) (l) (tag) (codes) (start) : Ok q (State.haltStarts s l tag codes start) := by
  unfold State.haltStarts
  with_reducible repeat' first | assumption | apply State.modLane_ok | apply State.count_ok | apply State.post_ok | apply ok_ite | exact fun _ => rfl | (apply Ok.mk'; first | assumption | apply State.modLane_ok | apply State.count_ok | apply State.post_ok | apply ok_ite | exact fun _ => rfl) | exact rfl | intro _ | split | dsimp only

theorem State.haltMerges_ok (h : Ok q s) (l) (h0) (codes) : Ok q (State.haltMerges s l h0 codes) := by
  unfold State.haltMerges
  with_reducible repeat' first | assumption | apply ok_ite | exact fun _ => rfl | (apply Ok.mk'; first | assumption | apply ok_ite | exact fun _ => rfl) | exact rfl | intro _ | split | dsimp only

theorem State.haltLane_ok (h : Ok q s) (l) (tag) (codes) : Ok q (State.haltLane s l tag codes) := by
  unfold State.haltLane
  with_reducible repeat' first | assumption | apply State.modLane_ok | apply State.haltStarts_ok | apply State.haltMerges_ok | apply ok_ite | exact fun _ => rfl | intro _ | split | dsimp only

theorem State.haltAll_ok (h : Ok q s)  : Ok q (State.haltAll s) := by
  unfold State.haltAll
  with_reducible repeat' first | assumption | apply State.forUnits_ok | apply State.haltLane_ok | apply ok_ite | exact fun _ => rfl | intro _ | split | dsimp only

theorem State.modBoot_ok (h : Ok q s) (f) : Ok q (State.modBoot s f) := by
  unfold State.modBoot
  with_reducible repeat' first | assumption | exact fun _ => rfl | (apply Ok.mk'; first | assumption | exact fun _ => rfl) | exact rfl | intro _ | split

theorem keepRegs_wf (keys : List Nat) : Memory.wf resetWord (s.keepRegs keys) = true := by
  unfold State.keepRegs
  suffices ∀ m : Memory Word, Memory.wf resetWord m = true →
      Memory.wf resetWord (keys.foldl (fun m k => Memory.set resetWord m k (Memory.get resetWord s.regs k)) m) = true from this [] rfl
  induction keys with
  | nil => exact fun _ h => h
  | cons k l ih => exact fun m h => ih _ (Memory.wf_set _ _ _ _ h)

theorem fresh_rings : FcpSt.Rings {} := by
  refine ⟨List.nodup_nil, (by intro _ h; cases h), fun m hm => ?_⟩
  have : ∀ m : Fin 8, (vget ({} : FcpSt).boxes m.val).posted = [] := by decide
  rw [this ⟨m, hm⟩]
  exact ⟨Nat.zero_le _, List.nodup_nil, by intro _ h; cases h⟩

theorem State.coldReset_ok (h : Ok q s) : Ok q (State.coldReset s) :=
  setFlag_ok (setFlag_ok (by exact ⟨⟨keepRegs_wf _, Nat.zero_le _, fresh_rings, rfl, rfl, rfl, by
    intro k b hb; rw [show vget ({} : HlpSt).store k = none by rcases k with _ | _ | k <;> rfl] at hb; cases hb⟩, h.queue⟩) _ _ _) _ _ _

theorem State.systemReset_ok (h : Ok q s) : Ok q (State.systemReset s) := by
  have hc := coldReset_ok h
  unfold State.systemReset
  generalize s.coldReset = f at hc ⊢
  refine foldl_ok _ (setFlag_ok ?_ _ _ _) fun t x ht => setFld_ok ht _ _ _
  have e : ∀ g : State, g.regs = s.keepRegs (partRegs ++ aonRegs) → g.evq = f.evq → g.fcp = f.fcp → g.pending = f.pending →
      g.cle = f.cle → g.hlp.mem = f.hlp.mem →
      g.hlp.store = s.hlp.store → Ok q g := fun g a b c d k m n => ⟨⟨a ▸ keepRegs_wf _, b ▸ hc.inv.depth, c ▸ hc.inv.rings,
    k ▸ hc.inv.stores.1, m ▸ hc.inv.stores.2.1, c ▸ hc.inv.stores.2.2.1, n ▸ h.inv.stores.2.2.2⟩, d.trans hc.queue⟩
  apply e <;> with_reducible rfl

theorem State.spurStop_ok (h : Ok q s) (reason) : Ok q (State.spurStop s reason) := by
  unfold State.spurStop
  with_reducible repeat' first | assumption | apply State.setFld_ok | apply State.post_ok | apply foldl_ok | apply ok_ite | exact fun _ => rfl | (apply Ok.mk'; first | assumption | apply State.setFld_ok | apply State.post_ok | apply foldl_ok | apply ok_ite | exact fun _ => rfl) | exact rfl | intro _ | split

theorem State.noteSrc_ok (h : Ok q s) (src) : Ok q (State.noteSrc s src) := by
  unfold State.noteSrc
  with_reducible repeat' first | assumption | apply State.modBoot_ok | apply ok_ite | exact fun _ => rfl | intro _ | split | dsimp only

theorem State.islandFalls_ok (h : Ok q s) (was : State) : Ok q (State.islandFalls s was) := by
  unfold State.islandFalls
  with_reducible repeat' first | assumption | apply State.cond_ok | apply State.postAct_ok | apply State.post_ok | apply ok_ite | exact fun _ => rfl | intro _ | split | dsimp only

theorem State.assertReset_ok (h : Ok q s) (reach) (src) : Ok q (State.assertReset s reach src) := by
  have hs := spurStop_ok h 3
  unfold State.assertReset
  dsimp only
  split
  · refine modBoot_ok ?_ _
    split
    · exact coldReset_ok hs
    · exact islandFalls_ok (systemReset_ok hs) _
  · split
    · exact noteSrc_ok (modBoot_ok (coldReset_ok hs) _) _
    · exact noteSrc_ok (modBoot_ok hs _) _

theorem State.guarded_ok (h : Ok q s) (p) (off) (wr) {f} (hf : ∀ t, Ok q t → Ok q (f t)) : Ok q (State.guarded s p off wr f) := by
  unfold State.guarded
  split
  · exact hf s h
  · exact h
  · exact count_ok h _ _

theorem State.setUnclean_ok (h : Ok q s) (b) (on) : Ok q (State.setUnclean s b on) := by
  unfold State.setUnclean
  with_reducible repeat' first | assumption | apply State.setFld_ok | apply ok_ite | exact fun _ => rfl | intro _ | split

theorem State.waitClk_ok (h : Ok q s)  : Ok q (State.waitClk s) := by
  unfold State.waitClk
  with_reducible repeat' first | assumption | apply State.setFlag_ok | exact fun _ => rfl | intro _ | split

theorem State.releaseBlock_ok (h : Ok q s) (b) (ev) : Ok q (State.releaseBlock s b ev) := by
  unfold State.releaseBlock
  with_reducible repeat' first | assumption | apply State.cond_ok | apply State.setUnclean_ok | apply State.post_ok | exact fun _ => rfl | intro _ | split

theorem State.blockDone_ok (h : Ok q s) (b) (idle) (src) : Ok q (State.blockDone s b idle src) := by
  unfold State.blockDone
  with_reducible repeat' first | assumption | apply State.setFlag_ok | apply State.setFld_ok | apply State.cond_ok | apply State.count_ok | apply State.releaseBlock_ok | apply State.waitClk_ok | apply State.modBoot_ok | apply ok_ite | exact fun _ => rfl | (apply Ok.mk'; first | assumption | apply State.setFlag_ok | apply State.setFld_ok | apply State.cond_ok | apply State.count_ok | apply State.releaseBlock_ok | apply State.waitClk_ok | apply State.modBoot_ok | apply ok_ite | exact fun _ => rfl) | exact rfl | intro _ | split

theorem State.memErr_ok (h : Ok q s) (m) : Ok q (State.memErr s m) := by
  unfold State.memErr
  with_reducible repeat' first | assumption | apply State.post_ok | apply State.setFld_ok | apply State.count_ok | exact fun _ => rfl | intro _ | split

theorem State.ringPut_ok (h : Ok q s) (r) : Ok q (State.ringPut s r) := by
  unfold State.ringPut
  with_reducible repeat' first | assumption | exact fun _ => rfl | (apply Ok.mk'; first | assumption | exact fun _ => rfl) | exact rfl | intro _ | split

theorem State.ringOn_ok (h : Ok q s) (cold) : Ok q (State.ringOn s cold) := by
  unfold State.ringOn
  with_reducible repeat' first | assumption | apply State.ringPut_ok | exact fun _ => rfl | (apply Ok.mk'; first | assumption | apply State.ringPut_ok | exact fun _ => rfl) | exact rfl | intro _ | split

theorem State.deferReset_ok (h : Ok q s)  : Ok q (State.deferReset s) := by
  unfold State.deferReset
  with_reducible repeat' first | assumption | apply State.modBoot_ok | exact fun _ => rfl | (apply Ok.mk'; first | assumption | apply State.modBoot_ok | exact fun _ => rfl) | exact rfl | intro _ | split

theorem State.modStw_ok (h : Ok q s) (f) : Ok q (State.modStw s f) := by
  unfold State.modStw
  with_reducible repeat' first | assumption | exact fun _ => rfl | (apply Ok.mk'; first | assumption | exact fun _ => rfl) | exact rfl | intro _ | split

theorem State.applyRelease_ok (h : Ok q s)  : Ok q (State.applyRelease s) := by
  unfold State.applyRelease
  with_reducible repeat' first | assumption | apply State.setFld_ok | exact fun _ => rfl | intro _ | split

theorem State.toStw_ok (h : Ok q s) (n) : Ok q (State.toStw s n) := by
  unfold State.toStw
  with_reducible repeat' first | assumption | apply State.applyRelease_ok | apply State.post_ok | apply State.setFld_ok | apply State.cond_ok | apply State.spurStop_ok | apply ok_ite | exact fun _ => rfl | intro _ | split

theorem State.releaseAct_ok (h : Ok q s)  : Ok q (State.releaseAct s) := by
  unfold State.releaseAct
  with_reducible repeat' first | assumption | apply State.setFlag_ok | apply State.postAct_ok | apply ok_ite | exact fun _ => rfl | (apply Ok.mk'; first | assumption | apply State.setFlag_ok | apply State.postAct_ok | apply ok_ite | exact fun _ => rfl) | exact rfl | intro _ | split | dsimp only

theorem State.raiseAll_ok (h : Ok q s) (c) : Ok q (State.raiseAll s c) := by
  unfold State.raiseAll
  with_reducible repeat' first | assumption | apply State.forUnits_ok | apply State.raise_ok | apply ok_ite | exact fun _ => rfl | intro _ | split

theorem State.srsRegs_ok (h : Ok q s)  : Ok q (State.srsRegs s) := by
  unfold State.srsRegs
  with_reducible repeat' first | assumption | apply State.setFld_ok | apply State.setFlag_ok | exact fun _ => rfl | intro _ | split

theorem State.removeGates_ok (h : Ok q s)  : Ok q (State.removeGates s) := by
  unfold State.removeGates
  with_reducible repeat' first | assumption | apply State.modStw_ok | apply State.srsRegs_ok | apply State.raiseAll_ok | apply State.sgr_ok | apply State.haltAll_ok | apply State.setFlag_ok | apply ok_ite | exact fun _ => rfl | intro _ | split | dsimp only

theorem State.sgr_ok (h : Ok q s)  : Ok q (State.sgr s) := by
  unfold State.sgr
  with_reducible repeat' first | assumption | apply State.modStw_ok | apply State.count_ok | apply State.toStw_ok | apply State.removeGates_ok | apply ok_ite | exact fun _ => rfl | intro _ | split | dsimp only

theorem State.localInhibit_ok (h : Ok q s)  : Ok q (State.localInhibit s) := by
  unfold State.localInhibit
  with_reducible repeat' first | assumption | apply State.toStw_ok | apply State.count_ok | apply State.modStw_ok | exact fun _ => rfl | (apply Ok.mk'; first | assumption | apply State.toStw_ok | apply State.count_ok | apply State.modStw_ok | exact fun _ => rfl) | exact rfl | intro _ | split

theorem State.srsStart_ok (h : Ok q s) (mask) (cl) : Ok q (State.srsStart s mask cl) := by
  unfold State.srsStart
  with_reducible repeat' first | assumption | apply State.raise_ok | apply State.modPort_ok | apply State.sgr_ok | apply State.modStw_ok | apply State.count_ok | apply State.srsRegs_ok | apply foldl_ok | apply ok_ite | exact fun _ => rfl | intro _ | split | dsimp only

theorem State.react_ok (h : Ok q s) (r) (mask) (cl) : Ok q (State.react s r mask cl) := by
  unfold State.react
  with_reducible repeat' first | assumption | apply State.localInhibit_ok | apply State.releaseAct_ok | apply State.srsStart_ok | apply State.sgr_ok | apply State.assertReset_ok | apply State.toStw_ok | apply State.modStw_ok | apply ok_ite | exact fun _ => rfl | intro _ | split | dsimp only

theorem State.needPairs_ok (h : Ok q s)  : Ok q (State.needPairs s) := by
  unfold State.needPairs
  with_reducible repeat' first | assumption | apply State.modStw_ok | apply foldl_ok | exact fun _ => rfl | (apply Ok.mk'; first | assumption | apply State.modStw_ok | apply foldl_ok | exact fun _ => rfl) | exact rfl | intro _ | split

theorem State.causeWith_ok (h : Ok q s) (c) (srs) (mask) (cl) : Ok q (State.causeWith s c srs mask cl) := by
  unfold State.causeWith
  with_reducible repeat' first | assumption | apply State.cond_ok | apply State.setFld_ok | apply State.modStw_ok | apply State.count_ok | apply State.needPairs_ok | apply State.post_ok | apply State.react_ok | apply ok_ite | exact fun _ => rfl | intro _ | split | dsimp only

theorem State.cause_ok (h : Ok q s) (c) : Ok q (State.cause s c) := by
  unfold State.cause
  with_reducible repeat' first | assumption | apply State.causeWith_ok | apply ok_ite | exact fun _ => rfl | intro _ | split | dsimp only

theorem State.setActive_ok (h : Ok q s) (c) (b) : Ok q (State.setActive s c b) := by
  unfold State.setActive
  with_reducible repeat' first | assumption | apply State.needPairs_ok | apply State.modStw_ok | apply ok_ite | exact fun _ => rfl | (apply Ok.mk'; first | assumption | apply State.needPairs_ok | apply State.modStw_ok | apply ok_ite | exact fun _ => rfl) | exact rfl | intro _ | split

theorem State.causeOn_ok (h : Ok q s) (c) (on) : Ok q (State.causeOn s c on) := by
  unfold State.causeOn
  with_reducible repeat' first | assumption | apply State.cause_ok | apply State.setActive_ok | apply ok_ite | exact fun _ => rfl | intro _ | split | dsimp only

theorem State.srsRequest_ok (h : Ok q s) (mask) (cl) : Ok q (State.srsRequest s mask cl) := by
  unfold State.srsRequest
  with_reducible repeat' first | assumption | apply State.causeWith_ok | apply ok_ite | exact fun _ => rfl | intro _ | split | dsimp only

theorem State.modClk_ok (h : Ok q s) (f) : Ok q (State.modClk s f) := by
  unfold State.modClk
  with_reducible repeat' first | assumption | exact fun _ => rfl | (apply Ok.mk'; first | assumption | exact fun _ => rfl) | exact rfl | intro _ | split

theorem State.setAttempt_ok (h : Ok q s) (p) (a) : Ok q (State.setAttempt s p a) := by
  unfold State.setAttempt
  with_reducible repeat' first | assumption | apply State.modClk_ok | exact fun _ => rfl | (apply Ok.mk'; first | assumption | apply State.modClk_ok | exact fun _ => rfl) | exact rfl | intro _ | split

theorem State.startAttempt_ok (h : Ok q s) (p) (temp) : Ok q (State.startAttempt s p temp) := by
  unfold State.startAttempt
  with_reducible repeat' first | assumption | apply State.setAttempt_ok | exact fun _ => rfl | intro _ | split

theorem State.startPlls_ok (h : Ok q s)  : Ok q (State.startPlls s) := by
  unfold State.startPlls
  with_reducible repeat' first | assumption | apply State.forUnits_ok | apply State.startAttempt_ok | apply ok_ite | exact fun _ => rfl | intro _ | split

theorem State.startWake_ok (h : Ok q s)  : Ok q (State.startWake s) := by
  unfold State.startWake
  with_reducible repeat' first | assumption | apply State.cond_ok | apply State.modClk_ok | apply State.startPlls_ok | exact fun _ => rfl | (apply Ok.mk'; first | assumption | apply State.cond_ok | apply State.modClk_ok | apply State.startPlls_ok | exact fun _ => rfl) | exact rfl | intro _ | split

theorem State.stopPlls_ok (h : Ok q s)  : Ok q (State.stopPlls s) := by
  unfold State.stopPlls
  with_reducible repeat' first | assumption | apply State.modClk_ok | apply State.forUnits_ok | apply State.setFlag_ok | exact fun _ => rfl | (apply Ok.mk'; first | assumption | apply State.modClk_ok | apply State.forUnits_ok | apply State.setFlag_ok | exact fun _ => rfl) | exact rfl | intro _ | split

theorem State.clkBit_ok (h : Ok q s) (d) (on) : Ok q (State.clkBit s d on) := by
  unfold State.clkBit
  with_reducible repeat' first | assumption | apply State.setFld_ok | apply ok_ite | exact fun _ => rfl | intro _ | split

theorem State.leaveLimp_ok (h : Ok q s)  : Ok q (State.leaveLimp s) := by
  unfold State.leaveLimp
  with_reducible repeat' first | assumption | apply State.setFlag_ok | exact fun _ => rfl | intro _ | split

theorem State.modCore_ok (h : Ok q s) (c) (f) : Ok q (State.modCore s c f) := by
  unfold State.modCore
  with_reducible repeat' first | assumption | exact fun _ => rfl | (apply Ok.mk'; first | assumption | exact fun _ => rfl) | exact rfl | intro _ | split

theorem State.coreStat_ok (h : Ok q s) (c) : Ok q (State.coreStat s c) := by
  unfold State.coreStat
  with_reducible repeat' first | assumption | apply State.setFlag_ok | apply ok_ite | exact fun _ => rfl | intro _ | split | dsimp only

theorem State.setVin_ok (h : Ok q s) (n) (nv) : Ok q (State.setVin s n nv) := by
  unfold State.setVin
  with_reducible repeat' first | assumption | apply ok_ite | exact fun _ => rfl | (apply Ok.mk'; first | assumption | apply ok_ite | exact fun _ => rfl) | exact rfl | intro _ | split | dsimp only

theorem State.hold_ok (h : Ok q s) (c) (input) (int) (src) (cle) (nv) : Ok q (State.hold s c input int src cle nv) := by
  unfold State.hold
  with_reducible repeat' first | assumption | apply State.cond_ok | apply State.setVin_ok | apply State.modCore_ok | apply State.coreStat_ok | apply ok_ite | exact fun _ => rfl | intro _ | split | dsimp only

theorem State.seqMiss_ok (h : Ok q s) (c) (e) : Ok q (State.seqMiss s c e) := by
  unfold State.seqMiss
  with_reducible repeat' first | assumption | apply State.post_ok | apply State.count_ok | apply State.cond_ok | apply State.setFlag_ok | exact fun _ => rfl | intro _ | split

theorem execHoldEdge_ok (h : Ok q s) (core) (entry) (nv) : Good q (execHoldEdge core entry nv s) := by
  unfold execHoldEdge
  with_reducible repeat' first | assumption | apply Good.next | apply good_ite | apply State.seqMiss_ok | apply State.hold_ok | apply ok_ite | exact fun _ => rfl | intro _ | split | dsimp only

theorem State.deliver_ok (h : Ok q s) (c) (v) : Ok q (State.deliver s c v) := by
  unfold State.deliver
  with_reducible repeat' first | assumption | apply State.setFld_ok | apply State.setFlag_ok | apply State.cond_ok | exact fun _ => rfl | (apply Ok.mk'; first | assumption | apply State.setFld_ok | apply State.setFlag_ok | apply State.cond_ok | exact fun _ => rfl) | exact rfl | intro _ | split

theorem State.freeRun_ok (h : Ok q s) (c) (nv) : Ok q (State.freeRun s c nv) := by
  unfold State.freeRun
  with_reducible repeat' first | assumption | apply State.hold_ok | apply ok_ite | exact fun _ => rfl | intro _ | split | dsimp only

theorem State.urgent_ok (h : Ok q s) (c) (input) (int) (src) : Ok q (State.urgent s c input int src) := by
  unfold State.urgent
  with_reducible repeat' first | assumption | apply State.count_ok | apply State.modCore_ok | apply ok_ite | exact fun _ => rfl | intro _ | split | dsimp only

theorem execUrgentHoldEdge_ok (h : Ok q s) (core) (nv) : Good q (execUrgentHoldEdge core nv s) := by
  unfold execUrgentHoldEdge
  with_reducible repeat' first | assumption | apply Good.next | apply good_ite | apply State.modCore_ok | apply State.hold_ok | apply ok_ite | exact fun _ => rfl | intro _ | split | dsimp only

theorem execRefFault_ok (h : Ok q s)  : Good q (execRefFault s) := by
  unfold execRefFault
  with_reducible repeat' first | assumption | apply Good.next | apply good_ite | apply State.cause_ok | apply State.setActive_ok | apply State.post_ok | apply State.setFlag_ok | apply ok_ite | exact fun _ => rfl | intro _ | split | dsimp only

theorem execRefFaultClear_ok (h : Ok q s)  : Good q (execRefFaultClear s) := by
  unfold execRefFaultClear
  with_reducible repeat' first | assumption | apply Good.next | apply good_ite | apply State.setActive_ok | apply State.setFlag_ok | exact fun _ => rfl | intro _ | split

theorem execOffsetCalibrationDone_ok (h : Ok q s)  : Good q (execOffsetCalibrationDone s) := by
  unfold execOffsetCalibrationDone
  with_reducible repeat' first | assumption | apply Good.next | apply good_ite | apply State.setFlag_ok | exact fun _ => rfl | intro _ | split

theorem State.markFresh_ok (h : Ok q s) (n) : Ok q (State.markFresh s n) := by
  unfold State.markFresh
  with_reducible repeat' first | assumption | apply ok_ite | exact fun _ => rfl | (apply Ok.mk'; first | assumption | apply ok_ite | exact fun _ => rfl) | exact rfl | intro _ | split | dsimp only

theorem State.loadThr_ok (h : Ok q s) (n) (hi) (lo) : Ok q (State.loadThr s n hi lo) := by
  unfold State.loadThr
  with_reducible repeat' first | assumption | apply State.setFld_ok | apply State.cond_ok | apply State.setFlag_ok | apply State.markFresh_ok | apply ok_ite | exact fun _ => rfl | intro _ | split | dsimp only

theorem State.loadCeiling_ok (h : Ok q s) (n) : Ok q (State.loadCeiling s n) := by
  unfold State.loadCeiling
  with_reducible repeat' first | assumption | apply State.loadThr_ok | exact fun _ => rfl | intro _ | split

theorem State.modSd_ok (h : Ok q s) (i) (f) : Ok q (State.modSd s i f) := by
  unfold State.modSd
  with_reducible repeat' first | assumption | exact fun _ => rfl | (apply Ok.mk'; first | assumption | exact fun _ => rfl) | exact rfl | intro _ | split

theorem State.makeProf_ok (h : Ok q s) (k) : Ok q (State.makeProf s k) := by
  unfold State.makeProf
  with_reducible repeat' first | assumption | apply ok_ite | exact fun _ => rfl | (apply Ok.mk'; first | assumption | apply ok_ite | exact fun _ => rfl) | exact rfl | intro _ | split | dsimp only

theorem State.sdRestart_ok (h : Ok q s) (t0) (i) : Ok q (State.sdRestart s t0 i) := by
  unfold State.sdRestart
  with_reducible repeat' first | assumption | apply State.modSd_ok | apply State.cond_ok | apply State.count_ok | apply ok_ite | exact fun _ => rfl | (apply Ok.mk'; first | assumption | apply State.modSd_ok | apply State.cond_ok | apply State.count_ok | apply ok_ite | exact fun _ => rfl) | exact rfl | intro _ | split | dsimp only

theorem State.sdRestartAll_ok (h : Ok q s) (t0) : Ok q (State.sdRestartAll s t0) := by
  unfold State.sdRestartAll
  with_reducible repeat' first | assumption | apply State.forUnits_ok | apply State.sdRestart_ok | apply ok_ite | exact fun _ => rfl | intro _ | split | dsimp only

theorem State.sdClkFlag_ok (h : Ok q s) (f) (g) (bits) : Ok q (State.sdClkFlag s f g bits) := by
  unfold State.sdClkFlag
  with_reducible repeat' first | assumption | apply State.post_ok | apply State.setFlag_ok | apply foldl_ok | apply ok_ite | exact fun _ => rfl | intro _ | split

theorem execSdClockLoss_ok (h : Ok q s) (grp) : Good q (execSdClockLoss grp s) := by
  unfold execSdClockLoss
  with_reducible repeat' first | assumption | apply Good.next | apply good_ite | apply State.sdClkFlag_ok | apply ok_ite | exact fun _ => rfl | intro _ | split | dsimp only

theorem execSdClockFreq_ok (h : Ok q s) (grp) : Good q (execSdClockFreq grp s) := by
  unfold execSdClockFreq
  with_reducible repeat' first | assumption | apply Good.next | apply good_ite | apply State.sdClkFlag_ok | apply ok_ite | exact fun _ => rfl | intro _ | split | dsimp only

theorem execSdClockClear_ok (h : Ok q s) (grp) : Good q (execSdClockClear grp s) := by
  unfold execSdClockClear
  with_reducible repeat' first | assumption | apply Good.next | apply good_ite | apply State.forUnits_ok | apply State.setFlag_ok | apply State.sdRestart_ok | apply ok_ite | exact fun _ => rfl | intro _ | split | dsimp only

theorem execDecimatedOutput_ok (h : Ok q s) (inp) (bits) : Good q (execDecimatedOutput inp bits s) := by
  unfold execDecimatedOutput
  with_reducible repeat' first | assumption | apply Good.next | apply good_ite | apply State.modSd_ok | apply State.cond_ok | apply State.count_ok | apply ok_ite | exact fun _ => rfl | intro _ | split | dsimp only

theorem State.sdDeliver_ok (h : Ok q s) (i) : Ok q (State.sdDeliver s i) := by
  unfold State.sdDeliver
  with_reducible repeat' first | assumption | apply State.setFlag_ok | apply State.setFld_ok | apply foldl_ok | apply ok_ite | exact fun _ => rfl | intro _ | split | dsimp only

theorem execResampleDelivery_ok (h : Ok q s) (inp) : Good q (execResampleDelivery inp s) := by
  unfold execResampleDelivery
  with_reducible repeat' first | assumption | apply Good.next | apply good_ite | apply State.sdDeliver_ok | exact fun _ => rfl | intro _ | split

theorem execSdsyncAccept_ok (h : Ok q s)  : Good q (execSdsyncAccept s) := by
  unfold execSdsyncAccept
  with_reducible repeat' first | assumption | apply Good.next | apply good_ite | apply State.count_ok | apply State.post_ok | apply State.sdRestartAll_ok | apply ok_ite | exact fun _ => rfl | intro _ | split | dsimp only

theorem execProfileTileRewrite_ok (h : Ok q s) (prof) : Good q (execProfileTileRewrite prof s) := by
  unfold execProfileTileRewrite
  with_reducible repeat' first | assumption | apply Good.next | apply good_ite | apply State.cond_ok | apply State.makeProf_ok | apply ok_ite | exact fun _ => rfl | (apply Ok.mk'; first | assumption | apply Good.next | apply good_ite | apply State.cond_ok | apply State.makeProf_ok | apply ok_ite | exact fun _ => rfl) | exact rfl | intro _ | split | dsimp only

theorem execSdSync_ok (h : Ok q s) (tag) : Good q (execSdSync tag s) := by
  unfold execSdSync
  with_reducible repeat' first | assumption | apply Good.next | apply good_ite | apply serve_ok | apply State.done_ok | apply State.start_ok | apply ok_ite | exact fun _ => rfl | intro _ | split

theorem State.sdSyncBoundary_ok (h : Ok q s)  : Ok q (State.sdSyncBoundary s) := by
  unfold State.sdSyncBoundary
  with_reducible repeat' first | assumption | apply State.sdRestartAll_ok | apply State.doneAt_ok | apply ok_ite | exact fun _ => rfl | intro _ | split | dsimp only

theorem State.modLeg_ok (h : Ok q s) (n) (f) : Ok q (State.modLeg s n f) := by
  unfold State.modLeg
  with_reducible repeat' first | assumption | exact fun _ => rfl | (apply Ok.mk'; first | assumption | exact fun _ => rfl) | exact rfl | intro _ | split

theorem State.modPwm_ok (h : Ok q s) (f) : Ok q (State.modPwm s f) := by
  unfold State.modPwm
  with_reducible repeat' first | assumption | exact fun _ => rfl | (apply Ok.mk'; first | assumption | exact fun _ => rfl) | exact rfl | intro _ | split

theorem State.takeEdges_ok (h : Ok q s) (n) (upto) : Ok q (State.takeEdges s n upto) := by
  unfold State.takeEdges
  with_reducible repeat' first | assumption | apply State.modLeg_ok | apply ok_ite | exact fun _ => rfl | intro _ | split | dsimp only

theorem State.legOff_ok (h : Ok q s) (n) : Ok q (State.legOff s n) := by
  unfold State.legOff
  with_reducible repeat' first | assumption | apply State.modLeg_ok | exact fun _ => rfl | intro _ | split

theorem State.haltLegs_ok (h : Ok q s) (legs) (code) : Ok q (State.haltLegs s legs code) := by
  unfold State.haltLegs
  with_reducible repeat' first | assumption | apply State.forUnits_ok | apply State.haltLane_ok | apply foldl_ok | apply ok_ite | exact fun _ => rfl | intro _ | split | dsimp only

theorem State.refreshGroups_ok (h : Ok q s)  : Ok q (State.refreshGroups s) := by
  unfold State.refreshGroups
  with_reducible repeat' first | assumption | apply State.forUnits_ok | apply State.setFlag_ok | apply State.modPwm_ok | exact fun _ => rfl | (apply Ok.mk'; first | assumption | apply State.forUnits_ok | apply State.setFlag_ok | apply State.modPwm_ok | exact fun _ => rfl) | exact rfl | intro _ | split

theorem State.truncLeg_ok (h : Ok q s) (n) (upper) : Ok q (State.truncLeg s n upper) := by
  unfold State.truncLeg
  with_reducible repeat' first | assumption | apply State.takeEdges_ok | apply State.modLeg_ok | apply ok_ite | exact fun _ => rfl | intro _ | split | dsimp only

theorem State.obsCrossed_ok (h : Ok q s) (p) : Ok q (State.obsCrossed s p) := by
  unfold State.obsCrossed
  with_reducible repeat' first | assumption | apply ok_ite | exact fun _ => rfl | (apply Ok.mk'; first | assumption | apply ok_ite | exact fun _ => rfl) | exact rfl | intro _ | split | dsimp only

theorem State.portHit_ok (h : Ok q s) (p) : Ok q (State.portHit s p) := by
  unfold State.portHit
  with_reducible repeat' first | assumption | apply State.cond_ok | apply State.obsCrossed_ok | apply State.modPort_ok | apply State.count_ok | apply State.setFlag_ok | apply ok_ite | exact fun _ => rfl | intro _ | split | dsimp only

theorem State.crossingActs_ok (h : Ok q s) (n) (upper) : Ok q (State.crossingActs s n upper) := by
  unfold State.crossingActs
  with_reducible repeat' first | assumption | apply State.truncLeg_ok | apply State.haltLegs_ok | apply State.portHit_ok | apply foldl_ok | apply ok_ite | exact fun _ => rfl | intro _ | split | dsimp only

theorem State.cmpRise_ok (h : Ok q s) (n) (upper) : Ok q (State.cmpRise s n upper) := by
  unfold State.cmpRise
  with_reducible repeat' first | assumption | apply State.setFlag_ok | apply State.count_ok | apply State.crossingActs_ok | apply State.refreshGroups_ok | apply ok_ite | exact fun _ => rfl | intro _ | split | dsimp only

theorem State.cmpNow_ok (h : Ok q s) (n) : Ok q (State.cmpNow s n) := by
  unfold State.cmpNow
  with_reducible repeat' first | assumption | apply State.cond_ok | apply State.cmpRise_ok | apply ok_ite | exact fun _ => rfl | intro _ | split | dsimp only

theorem State.cmpAfresh_ok (h : Ok q s) : Ok q (State.cmpAfresh s) := by
  unfold State.cmpAfresh
  with_reducible repeat' first | assumption | apply State.cmpNow_ok | apply State.refreshGroups_ok | apply foldl_ok | apply State.cmpNow_ok | apply State.refreshGroups_ok | apply foldl_ok | apply foldl_ok | apply ok_ite | exact fun _ => rfl | (apply Ok.mk'; first | assumption | apply State.cmpNow_ok | apply State.refreshGroups_ok | apply foldl_ok | apply State.cmpNow_ok | apply State.refreshGroups_ok | apply foldl_ok | apply foldl_ok | apply ok_ite | exact fun _ => rfl) | exact rfl | intro _ | split | dsimp only

theorem State.openBlanking_ok (h : Ok q s) (f) : Ok q (State.openBlanking s f) := by
  unfold State.openBlanking
  with_reducible repeat' first | assumption | apply State.refreshGroups_ok | apply State.modPwm_ok | apply foldl_ok | apply ok_ite | exact fun _ => rfl | (apply Ok.mk'; first | assumption | apply State.refreshGroups_ok | apply State.modPwm_ok | apply foldl_ok | apply ok_ite | exact fun _ => rfl) | exact rfl | intro _ | split

theorem State.crossfire_ok (h : Ok q s) (n) : Ok q (State.crossfire s n) := by
  unfold State.crossfire
  with_reducible repeat' first | assumption | apply State.raiseLeg_ok | apply State.cause_ok | apply State.post_ok | apply State.count_ok | apply State.setFlag_ok | apply ok_ite | exact fun _ => rfl | intro _ | split | dsimp only

theorem State.endPeriodLeg_ok (h : Ok q s) (n) (t) : Ok q (State.endPeriodLeg s n t) := by
  unfold State.endPeriodLeg
  with_reducible repeat' first | assumption | apply State.takeEdges_ok | apply State.modLeg_ok | apply State.cond_ok | apply State.count_ok | apply State.setFlag_ok | apply ok_ite | exact fun _ => rfl | intro _ | split | dsimp only

theorem State.formLeg_ok (h : Ok q s) (n) (t) (W) : Ok q (State.formLeg s n t W) := by
  unfold State.formLeg
  with_reducible repeat' first | assumption | apply State.modLeg_ok | apply State.setFld_ok | apply State.setFlag_ok | apply State.cond_ok | apply State.countN_ok | apply State.crossfire_ok | apply ok_ite | exact fun _ => rfl | intro _ | split | dsimp only

theorem State.lateLegs_ok (h : Ok q s) (l) : Ok q (State.lateLegs s l) := by
  unfold State.lateLegs
  with_reducible repeat' first | assumption | apply State.setFlag_ok | apply State.count_ok | apply foldl_ok | apply foldl_ok | apply ok_ite | exact fun _ => rfl | intro _ | split | dsimp only

theorem State.applyEnv_ok (h : Ok q s) (b) : Ok q (State.applyEnv s b) := by
  unfold State.applyEnv
  with_reducible repeat' first | assumption | apply State.modPwm_ok | apply State.loadThr_ok | apply foldl_ok | apply ok_ite | exact fun _ => rfl | intro _ | split

theorem State.noteBundle_ok (h : Ok q s) (b) : Ok q (State.noteBundle s b) := by
  unfold State.noteBundle
  with_reducible repeat' first | assumption | apply ok_ite | exact fun _ => rfl | (apply Ok.mk'; first | assumption | apply ok_ite | exact fun _ => rfl) | exact rfl | intro _ | split | dsimp only

theorem State.applyBundles_ok (h : Ok q s) (bs) : Ok q (State.applyBundles s bs) := by
  unfold State.applyBundles
  with_reducible repeat' first | assumption | apply State.setFld_ok | apply State.modLeg_ok | apply State.forUnits_ok | apply State.setFlag_ok | apply State.noteBundle_ok | apply State.applyEnv_ok | apply foldl_ok | apply ok_ite | exact fun _ => rfl | intro _ | split | dsimp only

theorem State.reloadBundles_ok (h : Ok q s) (k) : Ok q (State.reloadBundles s k) := by
  unfold State.reloadBundles
  with_reducible repeat' first | assumption | apply State.modPwm_ok | apply State.setFlag_ok | apply State.applyBundles_ok | apply State.cond_ok | apply State.count_ok | apply State.post_ok | apply ok_ite | exact fun _ => rfl | intro _ | split | dsimp only

theorem State.releaseLegs_ok (h : Ok q s)  : Ok q (State.releaseLegs s) := by
  unfold State.releaseLegs
  with_reducible repeat' first | assumption | apply State.forUnits_ok | apply State.modLeg_ok | apply State.setFlag_ok | apply ok_ite | exact fun _ => rfl | (apply Ok.mk'; first | assumption | apply State.forUnits_ok | apply State.modLeg_ok | apply State.setFlag_ok | apply ok_ite | exact fun _ => rfl) | exact rfl | intro _ | split

theorem State.reloadDelayCode_ok (h : Ok q s)  : Ok q (State.reloadDelayCode s) := by
  unfold State.reloadDelayCode
  with_reducible repeat' first | assumption | apply State.setFld_ok | exact fun _ => rfl | intro _ | split

theorem State.loadEnvOf_ok (h : Ok q s) (p) : Ok q (State.loadEnvOf s p) := by
  unfold State.loadEnvOf
  with_reducible repeat' first | assumption | apply State.modPwm_ok | apply State.loadThr_ok | apply foldl_ok | exact fun _ => rfl | (apply Ok.mk'; first | assumption | apply State.modPwm_ok | apply State.loadThr_ok | apply foldl_ok | exact fun _ => rfl) | exact rfl | intro _ | split

theorem State.staticThr_ok (h : Ok q s) (n) : Ok q (State.staticThr s n) := by
  unfold State.staticThr
  with_reducible repeat' first | assumption | apply State.loadThr_ok | apply ok_ite | exact fun _ => rfl | intro _ | split | dsimp only

theorem State.ceilingThr_ok (h : Ok q s) (n) : Ok q (State.ceilingThr s n) := by
  unfold State.ceilingThr
  with_reducible repeat' first | assumption | apply State.modPwm_ok | apply State.loadCeiling_ok | apply ok_ite | exact fun _ => rfl | (apply Ok.mk'; first | assumption | apply State.modPwm_ok | apply State.loadCeiling_ok | apply ok_ite | exact fun _ => rfl) | exact rfl | intro _ | split

theorem State.endLegs_ok (h : Ok q s) (t) : Ok q (State.endLegs s t) := by
  unfold State.endLegs
  with_reducible repeat' first | assumption | apply State.forUnits_ok | apply State.endPeriodLeg_ok | apply ok_ite | exact fun _ => rfl | intro _ | split | dsimp only

theorem State.formLegs_ok (h : Ok q s) (t) : Ok q (State.formLegs s t) := by
  unfold State.formLegs
  with_reducible repeat' first | assumption | apply State.forUnits_ok | apply State.formLeg_ok | apply ok_ite | exact fun _ => rfl | intro _ | split | dsimp only

theorem State.genStop_ok (h : Ok q s) : Ok q (State.genStop s) := by
  unfold State.genStop
  with_reducible repeat' first | assumption | apply State.modPwm_ok | apply ok_ite | exact fun _ => rfl | intro _ | split | dsimp only

theorem State.genGo_ok (h : Ok q s) : Ok q (State.genGo s) := by
  unfold State.genGo
  with_reducible repeat' first | assumption | apply State.forUnits_ok | apply State.modLeg_ok | apply State.modPwm_ok | apply ok_ite | exact fun _ => rfl | intro _ | split | dsimp only

theorem State.freeze_ok (h : Ok q s)  : Ok q (State.freeze s) := by
  unfold State.freeze
  with_reducible repeat' first | assumption | apply State.setFlag_ok | apply State.genStop_ok | apply ok_ite | exact fun _ => rfl | intro _ | split | dsimp only

theorem State.unfreeze_ok (h : Ok q s)  : Ok q (State.unfreeze s) := by
  unfold State.unfreeze
  with_reducible repeat' first | assumption | apply State.setFlag_ok | apply State.genGo_ok | apply ok_ite | exact fun _ => rfl | intro _ | split | dsimp only

theorem State.trSample_ok (h : Ok q s) (c) (w) (stepP) (inst) : Ok q (State.trSample s c w stepP inst) := by
  unfold State.trSample
  with_reducible repeat' first | assumption | apply State.cond_ok | apply State.trTrigger_ok | apply State.modTr_ok | apply State.setFld_ok | apply State.post_ok | apply ok_ite | exact fun _ => rfl | intro _ | split | dsimp only

theorem State.trExec_ok (h : Ok q s) (i) (ran) (stepP) (inst) : Ok q (State.trExec s i ran stepP inst) := by
  unfold State.trExec
  with_reducible repeat' first | assumption | apply State.forUnits_ok | apply State.modTr_ok | apply State.trSample_ok | apply ok_ite | exact fun _ => rfl | intro _ | split | dsimp only

theorem State.trEvents_ok (h : Ok q s) (capMark) : Ok q (State.trEvents s capMark) := by
  unfold State.trEvents
  with_reducible repeat' first | assumption | apply State.cond_ok | apply State.trFire_ok | apply ok_ite | exact fun _ => rfl | intro _ | split | dsimp only

theorem State.setCword_ok (h : Ok q s) (i) (w) (v) : Ok q (State.setCword s i w v) :=
  h.stores rfl rfl rfl rfl rfl ⟨Memory.wf_set _ _ _ _ h.inv.stores.1, h.inv.stores.2⟩

theorem State.setCwords_ok (h : Ok q s) (i) (w) (vs) : Ok q (State.setCwords s i w vs) :=
  h.stores rfl rfl rfl rfl rfl ⟨Memory.wf_setMany _ _ _ _ h.inv.stores.1, h.inv.stores.2⟩

theorem State.setCf_ok (h : Ok q s) (f) (i) (v) : Ok q (State.setCf s f i v) := by
  unfold State.setCf
  with_reducible repeat' first | assumption | apply State.setCword_ok | exact fun _ => rfl | intro _ | split

theorem State.setCflag_ok (h : Ok q s) (f) (i) (b) : Ok q (State.setCflag s f i b) := by
  unfold State.setCflag
  with_reducible repeat' first | assumption | apply State.setCf_ok | exact fun _ => rfl | intro _ | split

theorem State.healCtx_ok (h : Ok q s) (i) (w) (n) : Ok q (State.healCtx s i w n) := by
  unfold State.healCtx
  with_reducible repeat' first | assumption | apply ok_ite | exact fun _ => rfl | (apply Ok.mk'; first | assumption | apply ok_ite | exact fun _ => rfl) | exact rfl | intro _ | split | dsimp only

theorem State.modCle_ok (h : Ok q s) (f) (hf : ∀ x, (f x).ram = x.ram) : Ok q (State.modCle s f) :=
  h.of rfl rfl rfl rfl rfl (hf _) rfl rfl

theorem State.modCtx_ok (h : Ok q s) (i) (f) : Ok q (State.modCtx s i f) := by
  unfold State.modCtx
  with_reducible repeat' first | assumption | apply State.modCle_ok | exact fun _ => rfl | (apply Ok.mk'; first | assumption | apply State.modCle_ok | exact fun _ => rfl) | exact rfl | intro _ | split

theorem State.put64At_ok (h : Ok q s) (j) (v) : Ok q (State.put64At s j v) := by
  unfold State.put64At
  with_reducible repeat' first | assumption | apply State.setCwords_ok | apply State.modCtx_ok | apply ok_ite | exact fun _ => rfl | intro _ | split | dsimp only

theorem State.balance_ok (h : Ok q s) (p) : Ok q (State.balance s p) := by
  unfold State.balance
  with_reducible repeat' first | assumption | apply State.modPort_ok | apply ok_ite | exact fun _ => rfl | intro _ | split | dsimp only

theorem State.showHist_ok (h : Ok q s) (i) : Ok q (State.showHist s i) := by
  unfold State.showHist
  with_reducible repeat' first | assumption | apply State.setCword_ok | exact fun _ => rfl | intro _ | split

theorem State.recold_ok (h : Ok q s) (i) : Ok q (State.recold s i) := by
  unfold State.recold
  with_reducible repeat' first | assumption | apply State.showHist_ok | apply State.setCflag_ok | apply State.modCtx_ok | exact fun _ => rfl | (apply Ok.mk'; first | assumption | apply State.showHist_ok | apply State.setCflag_ok | apply State.modCtx_ok | exact fun _ => rfl) | exact rfl | intro _ | split

theorem State.warm_ok (h : Ok q s) (i) : Ok q (State.warm s i) := by
  unfold State.warm
  with_reducible repeat' first | assumption | apply State.setCflag_ok | apply State.modCtx_ok | exact fun _ => rfl | (apply Ok.mk'; first | assumption | apply State.setCflag_ok | apply State.modCtx_ok | exact fun _ => rfl) | exact rfl | intro _ | split

theorem State.countHist_ok (h : Ok q s) (i) : Ok q (State.countHist s i) := by
  unfold State.countHist
  with_reducible repeat' first | assumption | apply State.showHist_ok | apply State.modCtx_ok | apply State.warm_ok | apply ok_ite | exact fun _ => rfl | (apply Ok.mk'; first | assumption | apply State.showHist_ok | apply State.modCtx_ok | apply State.warm_ok | apply ok_ite | exact fun _ => rfl) | exact rfl | intro _ | split

theorem State.feCount_ok (h : Ok q s) (i) (e) (cold) : Ok q (State.feCount s i e cold) := by
  unfold State.feCount
  with_reducible repeat' first | assumption | apply State.setCf_ok | apply State.setCflag_ok | apply ok_ite | exact fun _ => rfl | intro _ | split

theorem State.store_ok (h : Ok q s) (i) (o) : Ok q (State.store s i o) := by
  unfold State.store
  with_reducible repeat' first | assumption | apply State.setCword_ok | apply State.setCwords_ok | apply State.setCflag_ok | apply State.count_ok | apply State.post_ok | apply foldl_ok | apply ok_ite | exact fun _ => rfl | intro _ | split | dsimp only

theorem State.publish_ok (h : Ok q s) (i) (o) (inq) (cold) : Ok q (State.publish s i o inq cold) := by
  unfold State.publish
  with_reducible repeat' first | assumption | apply State.setCflag_ok | apply State.feCount_ok | apply State.countHist_ok | apply State.setCword_ok | apply ok_ite | exact fun _ => rfl | intro _ | split

theorem State.slaveRotor_ok (h : Ok q s) (p) : Ok q (State.slaveRotor s p) := by
  unfold State.slaveRotor
  with_reducible repeat' first | assumption | apply State.setCwords_ok | apply State.setCword_ok | apply State.modCtx_ok | apply ok_ite | exact fun _ => rfl | intro _ | split | dsimp only

theorem State.toPort_ok (h : Ok q s) (i) (o) : Ok q (State.toPort s i o) := by
  unfold State.toPort
  with_reducible repeat' first | assumption | apply State.modPort_ok | apply State.slaveRotor_ok | apply ok_ite | exact fun _ => rfl | intro _ | split | dsimp only

theorem State.execCtx_ok (h : Ok q s) (i) : Ok q (State.execCtx s i) := by
  unfold State.execCtx
  with_reducible repeat' first | assumption | apply State.store_ok | apply State.publish_ok | apply State.toPort_ok | apply State.modCtx_ok | apply State.trExec_ok | apply ok_ite | exact fun _ => rfl | intro _ | split | dsimp only

theorem State.cleParity_ok (h : Ok q s) (i) (off) : Ok q (State.cleParity s i off) := by
  unfold State.cleParity
  with_reducible repeat' first | assumption | apply State.memErr_ok | apply State.deferReset_ok | apply State.setCflag_ok | apply State.modCle_ok | apply State.post_ok | apply ok_ite | exact fun _ => rfl | intro _ | split | dsimp only

theorem State.runCtx_ok (h : Ok q s) (i) : Ok q (State.runCtx s i) := by
  unfold State.runCtx
  with_reducible repeat' first | assumption | apply State.execCtx_ok | apply State.healCtx_ok | apply State.cleParity_ok | apply ok_ite | exact fun _ => rfl | intro _ | split | dsimp only

theorem State.markLate_ok (h : Ok q s) (p) : Ok q (State.markLate s p) := by
  unfold State.markLate
  with_reducible repeat' first | assumption | apply State.lateLegs_ok | apply ok_ite | exact fun _ => rfl | intro _ | split | dsimp only

theorem State.missPorts_ok (h : Ok q s) (new) : Ok q (State.missPorts s new) := by
  unfold State.missPorts
  with_reducible repeat' first | assumption | apply State.cond_ok | apply State.count_ok | apply State.modCle_ok | apply State.post_ok | apply State.modPwm_ok | apply State.markLate_ok | apply foldl_ok | apply foldl_ok | apply ok_ite | exact fun _ => rfl | intro _ | split | dsimp only

theorem State.portFlags_ok (h : Ok q s) (p) : Ok q (State.portFlags s p) := by
  unfold State.portFlags
  with_reducible repeat' first | assumption | apply State.setFlag_ok | exact fun _ => rfl | intro _ | split

theorem State.commitPort_ok (h : Ok q s) (p) : Ok q (State.commitPort s p) := by
  unfold State.commitPort
  with_reducible repeat' first | assumption | apply State.modPwm_ok | apply State.portFlags_ok | apply State.balance_ok | apply State.cond_ok | apply State.markLate_ok | apply ok_ite | exact fun _ => rfl | intro _ | split | dsimp only

theorem State.commitPeriod_ok (h : Ok q s) (late) : Ok q (State.commitPeriod s late) := by
  unfold State.commitPeriod
  with_reducible repeat' first | assumption | apply State.modPwm_ok | apply State.modCle_ok | apply ok_ite | exact fun _ => rfl | intro _ | split | dsimp only

theorem execRg0PhaseStart_ok (h : Ok q s) (phase) : Good q (execRg0PhaseStart phase s) := by
  unfold execRg0PhaseStart
  with_reducible repeat' first | assumption | apply Good.next | apply good_ite | apply State.modCle_ok | apply State.runCtx_ok | apply State.missPorts_ok | apply State.commitPort_ok | apply State.commitPeriod_ok | apply foldl_ok | apply ok_ite | exact fun _ => rfl | intro _ | split | dsimp only

theorem State.rg1Complete_ok (h : Ok q s) : Ok q (State.rg1Complete s) := by
  unfold State.rg1Complete
  with_reducible repeat' first | assumption | apply State.modCle_ok | apply State.modPair_ok | apply ok_ite | exact fun _ => rfl | intro _ | split | dsimp only

theorem execRateGroupInstanceRun_ok (h : Ok q s) (rg) : Good q (execRateGroupInstanceRun rg s) := by
  unfold execRateGroupInstanceRun
  with_reducible repeat' first | assumption | apply Good.next | apply good_ite | apply State.runCtx_ok | apply State.modCle_ok | apply State.rg1Complete_ok | apply foldl_ok | apply ok_ite | exact fun _ => rfl | intro _ | split | dsimp only

theorem execCleDeadlineMiss_ok (h : Ok q s) (ports) : Good q (execCleDeadlineMiss ports s) := by
  unfold execCleDeadlineMiss
  with_reducible repeat' first | assumption | apply Good.next | apply good_ite | apply State.missPorts_ok | apply ok_ite | exact fun _ => rfl | intro _ | split | dsimp only

theorem execRgInstanceOverrun_ok (h : Ok q s) (rg) : Good q (execRgInstanceOverrun rg s) := by
  unfold execRgInstanceOverrun
  with_reducible repeat' first | assumption | apply Good.next | apply good_ite | apply State.post_ok | apply State.count_ok | apply State.modCle_ok | apply ok_ite | exact fun _ => rfl | (apply Ok.mk'; first | assumption | apply Good.next | apply good_ite | apply State.post_ok | apply State.count_ok | apply State.modCle_ok | apply ok_ite | exact fun _ => rfl) | exact rfl | intro _ | split

theorem State.feAction_ok (h : Ok q s) (i) : Ok q (State.feAction s i) := by
  unfold State.feAction
  with_reducible repeat' first | assumption | apply State.raise_ok | apply State.srsRequest_ok | apply ok_ite | exact fun _ => rfl | intro _ | split

theorem execFollowingErrorExpiry_ok (h : Ok q s) (ctx) : Good q (execFollowingErrorExpiry ctx s) := by
  unfold execFollowingErrorExpiry
  with_reducible repeat' first | assumption | apply Good.next | apply good_ite | apply State.feAction_ok | apply State.post_ok | apply State.setCf_ok | apply State.setCflag_ok | apply ok_ite | exact fun _ => rfl | intro _ | split

theorem execFollowingErrorClear_ok (h : Ok q s) (ctx) : Good q (execFollowingErrorClear ctx s) := by
  unfold execFollowingErrorClear
  with_reducible repeat' first | assumption | apply Good.next | apply good_ite | apply State.post_ok | apply State.setCf_ok | apply State.setCflag_ok | apply ok_ite | exact fun _ => rfl | intro _ | split

theorem State.modTb_ok (h : Ok q s) (b) (f) : Ok q (State.modTb s b f) := by
  unfold State.modTb
  with_reducible repeat' first | assumption | exact fun _ => rfl | (apply Ok.mk'; first | assumption | exact fun _ => rfl) | exact rfl | intro _ | split

theorem State.modMac_ok (h : Ok q s) (m) (f) : Ok q (State.modMac s m f) := by
  unfold State.modMac
  with_reducible repeat' first | assumption | exact fun _ => rfl | (apply Ok.mk'; first | assumption | exact fun _ => rfl) | exact rfl | intro _ | split

theorem State.modPtp_ok (h : Ok q s) (f) : Ok q (State.modPtp s f) := by
  unfold State.modPtp
  with_reducible repeat' first | assumption | exact fun _ => rfl | (apply Ok.mk'; first | assumption | exact fun _ => rfl) | exact rfl | intro _ | split

theorem State.setTbLock_ok (h : Ok q s) (on) : Ok q (State.setTbLock s on) := by
  unfold State.setTbLock
  with_reducible repeat' first | assumption | apply State.post_ok | apply State.setFlag_ok | apply ok_ite | exact fun _ => rfl | intro _ | split

theorem State.dropLock_ok (h : Ok q s)  : Ok q (State.dropLock s) := by
  unfold State.dropLock
  with_reducible repeat' first | assumption | apply State.modPtp_ok | apply State.setTbLock_ok | apply ok_ite | exact fun _ => rfl | intro _ | split | dsimp only

theorem State.showStep_ok (h : Ok q s) (b) (d) : Ok q (State.showStep s b d) := by
  unfold State.showStep
  with_reducible repeat' first | assumption | apply State.setFlag_ok | apply State.post_ok | apply ok_ite | exact fun _ => rfl | intro _ | split | dsimp only

theorem State.stepTb_ok (h : Ok q s) (b) (d) : Ok q (State.stepTb s b d) := by
  unfold State.stepTb
  with_reducible repeat' first | assumption | apply State.modTb_ok | apply State.showStep_ok | apply ok_ite | exact fun _ => rfl | intro _ | split | dsimp only

theorem State.adjTb_ok (h : Ok q s) (b) (f) (d) : Ok q (State.adjTb s b f d) := by
  unfold State.adjTb
  with_reducible repeat' first | assumption | apply State.modTb_ok | apply State.cond_ok | apply State.showStep_ok | apply ok_ite | exact fun _ => rfl | intro _ | split | dsimp only

theorem State.showPtp_ok (h : Ok q s)  : Ok q (State.showPtp s) := by
  unfold State.showPtp
  with_reducible repeat' first | assumption | apply State.setFld_ok | apply ok_ite | exact fun _ => rfl | intro _ | split

theorem State.goPort_ok (h : Ok q s) (p) (n) (code) : Ok q (State.goPort s p n code) := by
  unfold State.goPort
  with_reducible repeat' first | assumption | apply State.setFld_ok | apply State.setFlag_ok | apply State.cond_ok | apply State.modPort_ok | apply State.portMoved_ok | apply State.post_ok | apply ok_ite | exact fun _ => rfl | intro _ | split | dsimp only

theorem State.modObs_ok (h : Ok q s) (p) (f) : Ok q (State.modObs s p f) := by
  unfold State.modObs
  with_reducible repeat' first | assumption | exact fun _ => rfl | (apply Ok.mk'; first | assumption | exact fun _ => rfl) | exact rfl | intro _ | split

theorem State.govWrite_ok (h : Ok q s) (p) (v) : Ok q (State.govWrite s p v) := by
  unfold State.govWrite
  with_reducible repeat' first | assumption | apply State.setCword_ok | exact fun _ => rfl | intro _ | split | dsimp only

theorem State.govReset_ok (h : Ok q s) (p) : Ok q (State.govReset s p) := by
  unfold State.govReset
  with_reducible repeat' first | assumption | apply State.govWrite_ok | apply State.modObs_ok | apply State.setFlag_ok | apply ok_ite | exact fun _ => rfl | intro _ | split | dsimp only

theorem State.armPort_ok (h : Ok q s) (p) : Ok q (State.armPort s p) := by
  unfold State.armPort
  with_reducible repeat' first | assumption | apply State.recold_ok | apply State.govReset_ok | apply State.setFld_ok | apply State.setFlag_ok | apply State.goPort_ok | apply foldl_ok | apply ok_ite | exact fun _ => rfl | intro _ | split | dsimp only

theorem State.seedPort_ok (h : Ok q s) (p) (theta) (omega) : Ok q (State.seedPort s p theta omega) := by
  unfold State.seedPort
  with_reducible repeat' first | assumption | apply State.setCwords_ok | apply State.put64At_ok | apply State.warm_ok | apply State.modPort_ok | apply State.setFlag_ok | apply State.setFld_ok | apply State.govReset_ok | apply foldl_ok | apply ok_ite | exact fun _ => rfl | intro _ | split | dsimp only

theorem State.seedE_ok (h : Ok q s) (p) (e) : Ok q (State.seedE s p e) := by
  unfold State.seedE
  with_reducible repeat' first | assumption | apply State.setCword_ok | apply ok_ite | exact fun _ => rfl | intro _ | split | dsimp only

theorem State.startBlack_ok (h : Ok q s) (p) : Ok q (State.startBlack s p) := by
  unfold State.startBlack
  with_reducible repeat' first | assumption | apply State.seedPort_ok | apply State.seedE_ok | apply State.modPort_ok | apply State.setFlag_ok | apply ok_ite | exact fun _ => rfl | intro _ | split | dsimp only

theorem State.enterMatch_ok (h : Ok q s) (p) : Ok q (State.enterMatch s p) := by
  unfold State.enterMatch
  with_reducible repeat' first | assumption | apply State.goPort_ok | apply State.seedPort_ok | apply State.seedE_ok | apply State.modPort_ok | apply ok_ite | exact fun _ => rfl | intro _ | split | dsimp only

theorem State.closeBreaker_ok (h : Ok q s) (p) : Ok q (State.closeBreaker s p) := by
  unfold State.closeBreaker
  with_reducible repeat' first | assumption | apply State.goPort_ok | apply State.modPort_ok | apply ok_ite | exact fun _ => rfl | intro _ | split

theorem State.enterCurlim_ok (h : Ok q s) (p) : Ok q (State.enterCurlim s p) := by
  unfold State.enterCurlim
  with_reducible repeat' first | assumption | apply State.modPort_ok | apply State.count_ok | apply State.goPort_ok | apply State.post_ok | apply ok_ite | exact fun _ => rfl | intro _ | split | dsimp only

theorem State.enterRamp_ok (h : Ok q s) (p) (fine) (srs) : Ok q (State.enterRamp s p fine srs) := by
  unfold State.enterRamp
  with_reducible repeat' first | assumption | apply State.goPort_ok | apply State.modPort_ok | exact fun _ => rfl | (apply Ok.mk'; first | assumption | apply State.goPort_ok | apply State.modPort_ok | exact fun _ => rfl) | exact rfl | intro _ | split

theorem State.endSrs_ok (h : Ok q s) (p) : Ok q (State.endSrs s p) := by
  unfold State.endSrs
  with_reducible repeat' first | assumption | apply State.goPort_ok | apply State.srsRegs_ok | apply State.modStw_ok | apply State.sgr_ok | apply ok_ite | exact fun _ => rfl | (apply Ok.mk'; first | assumption | apply State.goPort_ok | apply State.srsRegs_ok | apply State.modStw_ok | apply State.sgr_ok | apply ok_ite | exact fun _ => rfl) | exact rfl | intro _ | split

theorem State.startPort_ok (h : Ok q s) (p) (n) (t) : Ok q (State.startPort s p n t) := by
  unfold State.startPort
  with_reducible repeat' first | assumption | apply State.seedPort_ok | apply State.goPort_ok | apply State.setFlag_ok | apply State.modPort_ok | apply ok_ite | exact fun _ => rfl | intro _ | split | dsimp only

theorem State.hostPort_ok (h : Ok q s) (e) : Ok q (State.hostPort s e) := by
  unfold State.hostPort
  with_reducible repeat' first | assumption | apply State.doneAt_ok | apply State.armPort_ok | apply State.goPort_ok | apply State.startPort_ok | apply State.enterRamp_ok | apply State.setFlag_ok | apply State.modPort_ok | apply ok_ite | exact fun _ => rfl | (apply Ok.mk'; first | assumption | apply State.doneAt_ok | apply State.armPort_ok | apply State.goPort_ok | apply State.startPort_ok | apply State.enterRamp_ok | apply State.setFlag_ok | apply State.modPort_ok | apply ok_ite | exact fun _ => rfl) | exact rfl | intro _ | split

theorem State.hostTurn_ok (h : Ok q s) (p) : Ok q (State.hostTurn s p) := by
  unfold State.hostTurn
  with_reducible repeat' first | assumption | apply State.modPort_ok | apply State.hostPort_ok | exact fun _ => rfl | (apply Ok.mk'; first | assumption | apply State.modPort_ok | apply State.hostPort_ok | exact fun _ => rfl) | exact rfl | intro _ | split

/-- The state, where there is one, is `Ok q`. -/
def OkSome (q : List Instr) (o : Option State) : Prop := ∀ t, o = some t → Ok q t

theorem okSome_ite {c : Prop} [Decidable c] {a b : Option State} (ha : OkSome q a) (hb : OkSome q b) : OkSome q (if c then a else b) := by
  split
  · exact ha
  · exact hb

theorem okSome_none : OkSome q none := fun _ h => nomatch h

theorem okSome_some {u : State} (h : Ok q u) : OkSome q (some u) := fun _ e => Option.some.inj e ▸ h

theorem State.portMoves_ok (h : Ok q s) (p : Nat) : OkSome q (s.portMoves p) := by
  unfold State.portMoves
  dsimp only
  with_reducible repeat' first | assumption | apply okSome_ite | apply okSome_none | apply okSome_some | apply goPort_ok | apply enterRamp_ok | apply enterCurlim_ok | apply setFlag_ok | apply modPort_ok | apply post_ok | apply enterMatch_ok | apply closeBreaker_ok | apply endSrs_ok

theorem State.srsJoins_ok (h : Ok q s) (p) : Ok q (State.srsJoins s p) := by
  unfold State.srsJoins
  with_reducible repeat' first | assumption | apply State.modPort_ok | apply ok_ite | exact fun _ => rfl | (apply Ok.mk'; first | assumption | apply State.modPort_ok | apply ok_ite | exact fun _ => rfl) | exact rfl | intro _ | split

theorem State.portTransition_ok (h : Ok q s) (p) : Ok q (State.portTransition s p) := by
  unfold State.portTransition
  dsimp only
  have h1 := srsJoins_ok (setFlag_ok h F.PORT_STATUS_BKR_FB p (s.port p).hlpBkr) p
  split
  · exact modPort_ok h1 _ _
  · split
    · exact modPort_ok (portMoves_ok h1 p _ ‹_›) _ _
    · split
      · exact modPort_ok (startBlack_ok h1 _) _ _
      · exact modPort_ok (hostTurn_ok h1 _) _ _

theorem State.slewPort_ok (h : Ok q s) (p) : Ok q (State.slewPort s p) := by
  unfold State.slewPort
  with_reducible repeat' first | assumption | apply State.modPort_ok | apply ok_ite | exact fun _ => rfl | (apply Ok.mk'; first | assumption | apply State.modPort_ok | apply ok_ite | exact fun _ => rfl) | exact rfl | intro _ | split

theorem State.pullPort_ok (h : Ok q s) (p) : Ok q (State.pullPort s p) := by
  unfold State.pullPort
  with_reducible repeat' first | assumption | apply State.modPort_ok | apply State.setFlag_ok | apply ok_ite | exact fun _ => rfl | intro _ | split | dsimp only

theorem State.tickPort_ok (h : Ok q s) (p) : Ok q (State.tickPort s p) := by
  unfold State.tickPort
  with_reducible repeat' first | assumption | apply State.modPort_ok | apply ok_ite | exact fun _ => rfl | intro _ | split | dsimp only

theorem State.matchPort_ok (h : Ok q s) (p) : Ok q (State.matchPort s p) := by
  unfold State.matchPort
  with_reducible repeat' first | assumption | apply State.cond_ok | apply State.setFlag_ok | apply ok_ite | exact fun _ => rfl | intro _ | split

theorem State.quietPort_ok (h : Ok q s) (p) : Ok q (State.quietPort s p) := by
  unfold State.quietPort
  with_reducible repeat' first | assumption | apply State.setFlag_ok | apply ok_ite | exact fun _ => rfl | intro _ | split

theorem State.runPort_ok (h : Ok q s) (p) : Ok q (State.runPort s p) := by
  unfold State.runPort
  with_reducible repeat' first | assumption | apply State.modPort_ok | apply State.setFld_ok | apply ok_ite | exact fun _ => rfl | intro _ | split | dsimp only

theorem State.srsChecks_ok (h : Ok q s)  : Ok q (State.srsChecks s) := by
  unfold State.srsChecks
  with_reducible repeat' first | assumption | apply State.cond_ok | apply State.cause_ok | apply State.sgr_ok | apply ok_ite | exact fun _ => rfl | intro _ | split | dsimp only

theorem execTCloseExpiry_ok (h : Ok q s) (port) : Good q (execTCloseExpiry port s) := by
  unfold execTCloseExpiry
  with_reducible repeat' first | assumption | apply Good.next | apply good_ite | apply State.raise_ok | apply ok_ite | exact fun _ => rfl | intro _ | split | dsimp only

theorem execPresyncTimeout_ok (h : Ok q s) (port) : Good q (execPresyncTimeout port s) := by
  unfold execPresyncTimeout
  with_reducible repeat' first | assumption | apply Good.next | apply good_ite | apply State.raise_ok | exact fun _ => rfl | intro _ | split

theorem execPresyncWindowEnd_ok (h : Ok q s) (port) : Good q (execPresyncWindowEnd port s) := by
  unfold execPresyncWindowEnd
  with_reducible repeat' first | assumption | apply Good.next | apply good_ite | apply State.raise_ok | apply State.modPort_ok | apply ok_ite | exact fun _ => rfl | intro _ | split | dsimp only

theorem execBlackstartRampComplete_ok (h : Ok q s) (port) : Good q (execBlackstartRampComplete port s) := by
  unfold execBlackstartRampComplete
  with_reducible repeat' first | assumption | apply Good.next | apply good_ite | apply State.raise_ok | exact fun _ => rfl | intro _ | split

theorem execBlackstartTrackFault_ok (h : Ok q s) (port) (high) : Good q (execBlackstartTrackFault port high s) := by
  unfold execBlackstartTrackFault
  with_reducible repeat' first | assumption | apply Good.next | apply good_ite | apply State.raise_ok | apply ok_ite | exact fun _ => rfl | intro _ | split | dsimp only

theorem execBkrFbSeen_ok (h : Ok q s) (port) : Good q (execBkrFbSeen port s) := by
  unfold execBkrFbSeen
  with_reducible repeat' first | assumption | apply Good.next | apply good_ite | apply State.raise_ok | exact fun _ => rfl | intro _ | split

theorem execEnvelopeRunLimit_ok (h : Ok q s) (port) : Good q (execEnvelopeRunLimit port s) := by
  unfold execEnvelopeRunLimit
  with_reducible repeat' first | assumption | apply Good.next | apply good_ite | apply State.raise_ok | apply State.modPort_ok | apply State.post_ok | apply ok_ite | exact fun _ => rfl | intro _ | split | dsimp only

theorem execCurlimExitStart_ok (h : Ok q s) (port) : Good q (execCurlimExitStart port s) := by
  unfold execCurlimExitStart
  with_reducible repeat' first | assumption | apply Good.next | apply good_ite | apply State.modPort_ok | apply State.setFlag_ok | apply ok_ite | exact fun _ => rfl | intro _ | split | dsimp only

theorem execCurlimRampComplete_ok (h : Ok q s) (port) : Good q (execCurlimRampComplete port s) := by
  unfold execCurlimRampComplete
  with_reducible repeat' first | assumption | apply Good.next | apply good_ite | apply State.raise_ok | apply ok_ite | exact fun _ => rfl | intro _ | split

theorem execCurlimTimeout_ok (h : Ok q s) (port) : Good q (execCurlimTimeout port s) := by
  unfold execCurlimTimeout
  with_reducible repeat' first | assumption | apply Good.next | apply good_ite | apply State.cond_ok | apply State.post_ok | apply State.srsRequest_ok | apply ok_ite | exact fun _ => rfl | intro _ | split

theorem execPullWindowEnd_ok (h : Ok q s) (port) : Good q (execPullWindowEnd port s) := by
  unfold execPullWindowEnd
  with_reducible repeat' first | assumption | apply Good.next | apply good_ite | apply State.setFlag_ok | apply State.modPort_ok | apply ok_ite | exact fun _ => rfl | (apply Ok.mk'; first | assumption | apply Good.next | apply good_ite | apply State.setFlag_ok | apply State.modPort_ok | apply ok_ite | exact fun _ => rfl) | exact rfl | intro _ | split

theorem execDcRangeFault_ok (h : Ok q s) (port) : Good q (execDcRangeFault port s) := by
  unfold execDcRangeFault
  with_reducible repeat' first | assumption | apply Good.next | apply good_ite | apply State.raise_ok | exact fun _ => rfl | intro _ | split

theorem execStopRampComplete_ok (h : Ok q s) (port) : Good q (execStopRampComplete port s) := by
  unfold execStopRampComplete
  with_reducible repeat' first | assumption | apply Good.next | apply good_ite | apply State.raise_ok | exact fun _ => rfl | intro _ | split

theorem execSrsRampComplete_ok (h : Ok q s) (port) : Good q (execSrsRampComplete port s) := by
  unfold execSrsRampComplete
  with_reducible repeat' first | assumption | apply Good.next | apply good_ite | apply State.raise_ok | exact fun _ => rfl | intro _ | split

theorem State.pairCause_ok (h : Ok q s) (c) (q0) : Ok q (State.pairCause s c q0) := by
  unfold State.pairCause
  with_reducible repeat' first | assumption | apply State.causeWith_ok | apply ok_ite | exact fun _ => rfl | intro _ | split | dsimp only

theorem State.inputActive_ok (h : Ok q s)  : Ok q (State.inputActive s) := by
  unfold State.inputActive
  with_reducible repeat' first | assumption | apply State.setActive_ok | exact fun _ => rfl | intro _ | split

theorem State.siLow_ok (h : Ok q s) (i) : Ok q (State.siLow s i) := by
  unfold State.siLow
  with_reducible repeat' first | assumption | apply State.modStw_ok | apply State.cond_ok | apply State.setFld_ok | apply ok_ite | exact fun _ => rfl | (apply Ok.mk'; first | assumption | apply State.modStw_ok | apply State.cond_ok | apply State.setFld_ok | apply ok_ite | exact fun _ => rfl) | exact rfl | intro _ | split

theorem State.siDemand_ok (h : Ok q s) (i) : Ok q (State.siDemand s i) := by
  unfold State.siDemand
  with_reducible repeat' first | assumption | apply State.siLow_ok | apply State.inputActive_ok | apply State.pairCause_ok | apply State.modStw_ok | apply State.setFld_ok | apply ok_ite | exact fun _ => rfl | intro _ | split | dsimp only

theorem State.siHigh_ok (h : Ok q s) (i) : Ok q (State.siHigh s i) := by
  unfold State.siHigh
  with_reducible repeat' first | assumption | apply State.modStw_ok | apply State.cond_ok | apply State.setFld_ok | apply State.inputActive_ok | apply ok_ite | exact fun _ => rfl | (apply Ok.mk'; first | assumption | apply State.modStw_ok | apply State.cond_ok | apply State.setFld_ok | apply State.inputActive_ok | apply ok_ite | exact fun _ => rfl) | exact rfl | intro _ | split

theorem State.discrepancy_ok (h : Ok q s) (q0) : Ok q (State.discrepancy s q0) := by
  unfold State.discrepancy
  with_reducible repeat' first | assumption | apply State.inputActive_ok | apply State.pairCause_ok | apply State.modStw_ok | apply ok_ite | exact fun _ => rfl | intro _ | split | dsimp only

theorem State.diDiscrepancies_ok (h : Ok q s)  : Ok q (State.diDiscrepancies s) := by
  unfold State.diDiscrepancies
  with_reducible repeat' first | assumption | apply State.modStw_ok | apply State.discrepancy_ok | apply foldl_ok | exact fun _ => rfl | (apply Ok.mk'; first | assumption | apply State.modStw_ok | apply State.discrepancy_ok | apply foldl_ok | exact fun _ => rfl) | exact rfl | intro _ | split

theorem execSdinDemand_ok (h : Ok q s) (ch) : Good q (execSdinDemand ch s) := by
  unfold execSdinDemand
  with_reducible repeat' first | assumption | apply Good.next | apply good_ite | apply State.siLow_ok | apply State.siDemand_ok | exact fun _ => rfl | intro _ | split

theorem execSdinReturnHigh_ok (h : Ok q s) (ch) : Good q (execSdinReturnHigh ch s) := by
  unfold execSdinReturnHigh
  with_reducible repeat' first | assumption | apply Good.next | apply good_ite | apply State.siHigh_ok | exact fun _ => rfl | intro _ | split

theorem execSdinDiscrepancy_ok (h : Ok q s) (pair) : Good q (execSdinDiscrepancy pair s) := by
  unfold execSdinDiscrepancy
  with_reducible repeat' first | assumption | apply Good.next | apply good_ite | apply State.discrepancy_ok | exact fun _ => rfl | intro _ | split

theorem execSafetyDiDemand_ok (h : Ok q s) (di) : Good q (execSafetyDiDemand di s) := by
  unfold execSafetyDiDemand
  with_reducible repeat' first | assumption | apply Good.next | apply good_ite | apply State.siLow_ok | apply State.siDemand_ok | apply ok_ite | exact fun _ => rfl | intro _ | split

theorem execTestPulseSlot_ok (h : Ok q s) (tp) : Good q (execTestPulseSlot tp s) := by
  unfold execTestPulseSlot
  with_reducible repeat' first | assumption | apply Good.next | apply good_ite | apply State.modStw_ok | exact fun _ => rfl | (apply Ok.mk'; first | assumption | apply Good.next | apply good_ite | apply State.modStw_ok | exact fun _ => rfl) | exact rfl | intro _ | split

theorem State.testFault_ok (h : Ok q s) (tp) (i) : Ok q (State.testFault s tp i) := by
  unfold State.testFault
  with_reducible repeat' first | assumption | apply State.modStw_ok | apply State.inputActive_ok | apply State.pairCause_ok | apply State.setFld_ok | apply ok_ite | exact fun _ => rfl | intro _ | split | dsimp only

theorem State.pulseIn_ok (h : Ok q s) (tp) (low) : Ok q (State.pulseIn s tp low) := by
  unfold State.pulseIn
  with_reducible repeat' first | assumption | apply State.inputActive_ok | apply State.modStw_ok | apply State.testFault_ok | apply foldl_ok | apply ok_ite | exact fun _ => rfl | (apply Ok.mk'; first | assumption | apply State.inputActive_ok | apply State.modStw_ok | apply State.testFault_ok | apply foldl_ok | apply ok_ite | exact fun _ => rfl) | exact rfl | intro _ | split

theorem State.pulseOut_ok (h : Ok q s) (tp) (low) : Ok q (State.pulseOut s tp low) := by
  unfold State.pulseOut
  with_reducible repeat' first | assumption | apply State.siDemand_ok | apply State.modStw_ok | apply foldl_ok | apply ok_ite | exact fun _ => rfl | (apply Ok.mk'; first | assumption | apply State.siDemand_ok | apply State.modStw_ok | apply foldl_ok | apply ok_ite | exact fun _ => rfl) | exact rfl | intro _ | split

theorem execTestPulseCheck_ok (h : Ok q s) (tp) (after) (low) : Good q (execTestPulseCheck tp after low s) := by
  unfold execTestPulseCheck
  with_reducible repeat' first | assumption | apply Good.next | apply good_ite | apply State.pulseOut_ok | apply State.pulseIn_ok | exact fun _ => rfl | intro _ | split

theorem State.doNote_ok (h : Ok q s) : Ok q (State.doNote s) := by
  unfold State.doNote
  with_reducible repeat' first | assumption | apply State.setFld_ok | apply foldl_ok | apply State.setFld_ok | apply foldl_ok | apply foldl_ok | apply ok_ite | exact fun _ => rfl | (apply Ok.mk'; first | assumption | apply State.setFld_ok | apply foldl_ok | apply State.setFld_ok | apply foldl_ok | apply foldl_ok | apply ok_ite | exact fun _ => rfl) | exact rfl | intro _ | split | dsimp only

theorem State.stwEn_ok (h : Ok q s)  : Ok q (State.stwEn s) := by
  unfold State.stwEn
  with_reducible repeat' first | assumption | apply State.setFld_ok | apply State.doNote_ok | apply ok_ite | exact fun _ => rfl | intro _ | split | dsimp only

theorem State.soFail_ok (h : Ok q s) (m) : Ok q (State.soFail s m) := by
  unfold State.soFail
  with_reducible repeat' first | assumption | apply State.stwEn_ok | apply State.setFld_ok | apply State.causeWith_ok | apply ok_ite | exact fun _ => rfl | intro _ | split | dsimp only

theorem State.doSync_ok (h : Ok q s) : Ok q (State.doSync s) := by
  unfold State.doSync
  with_reducible repeat' first | assumption | apply State.soFail_ok | apply State.doNote_ok | apply foldl_ok | apply foldl_ok | apply ok_ite | exact fun _ => rfl | intro _ | split | dsimp only

theorem State.readPins_ok (h : Ok q s) (pins) : Ok q (State.readPins s pins) := by
  unfold State.readPins
  with_reducible repeat' first | assumption | apply State.setFld_ok | apply State.setFld_ok | apply ok_ite | exact fun _ => rfl | (apply Ok.mk'; first | assumption | apply State.setFld_ok | apply State.setFld_ok | apply ok_ite | exact fun _ => rfl) | exact rfl | intro _ | split | dsimp only

theorem State.pulseEnd_ok (h : Ok q s) (m0) (pins) : Ok q (State.pulseEnd s m0 pins) := by
  unfold State.pulseEnd
  with_reducible repeat' first | assumption | apply State.readPins_ok | apply State.soFail_ok | apply State.doNote_ok | apply foldl_ok | apply State.readPins_ok | apply State.soFail_ok | apply State.doNote_ok | apply foldl_ok | apply foldl_ok | apply ok_ite | exact fun _ => rfl | (apply Ok.mk'; first | assumption | apply State.readPins_ok | apply State.soFail_ok | apply State.doNote_ok | apply foldl_ok | apply State.readPins_ok | apply State.soFail_ok | apply State.doNote_ok | apply foldl_ok | apply foldl_ok | apply ok_ite | exact fun _ => rfl) | exact rfl | intro _ | split | dsimp only

theorem execOutputOffPulse_ok (h : Ok q s) (out) (ending) (pins) : Good q (execOutputOffPulse out ending pins s) := by
  unfold execOutputOffPulse
  with_reducible repeat' first | assumption | apply Good.next | apply good_ite | apply State.pulseEnd_ok | apply State.readPins_ok | apply State.doSync_ok | apply ok_ite | exact fun _ => rfl | (apply Ok.mk'; first | assumption | apply Good.next | apply good_ite | apply State.pulseEnd_ok | apply State.readPins_ok | apply State.doSync_ok | apply ok_ite | exact fun _ => rfl) | exact rfl | intro _ | split | dsimp only

theorem execMonitorAdcWindow_ok (h : Ok q s) (ch) (on) : Good q (execMonitorAdcWindow ch on s) := by
  unfold execMonitorAdcWindow
  with_reducible repeat' first | assumption | apply Good.next | apply good_ite | apply State.modStw_ok | apply State.cond_ok | apply State.causeWith_ok | apply State.setActive_ok | apply ok_ite | exact fun _ => rfl | intro _ | split | dsimp only

theorem execMonitorCrossCheck_ok (h : Ok q s) (ch) (on) : Good q (execMonitorCrossCheck ch on s) := by
  unfold execMonitorCrossCheck
  with_reducible repeat' first | assumption | apply Good.next | apply good_ite | apply State.modStw_ok | apply State.cond_ok | apply State.cause_ok | apply State.setActive_ok | apply ok_ite | exact fun _ => rfl | intro _ | split | dsimp only

theorem execJunctionOvertemp_ok (h : Ok q s) (on) : Good q (execJunctionOvertemp on s) := by
  unfold execJunctionOvertemp
  with_reducible repeat' first | assumption | apply Good.next | apply good_ite | apply State.causeOn_ok | apply ok_ite | exact fun _ => rfl | intro _ | split | dsimp only

theorem execClockCrossCheck_ok (h : Ok q s) (on) : Good q (execClockCrossCheck on s) := by
  unfold execClockCrossCheck
  with_reducible repeat' first | assumption | apply Good.next | apply good_ite | apply State.clkBit_ok | apply State.causeOn_ok | apply ok_ite | exact fun _ => rfl | intro _ | split | dsimp only

theorem execIslandSupplyFault_ok (h : Ok q s)  : Good q (execIslandSupplyFault s) := by
  unfold execIslandSupplyFault
  with_reducible repeat' first | assumption | apply Good.next | apply good_ite | apply State.cause_ok | apply State.assertReset_ok | apply State.assertReset_ok | apply ok_ite | exact fun _ => rfl | intro _ | split | dsimp only

theorem execLockstepMismatch_ok (h : Ok q s)  : Good q (execLockstepMismatch s) := by
  unfold execLockstepMismatch
  with_reducible repeat' first | assumption | apply Good.next | apply good_ite | apply State.cause_ok | apply State.assertReset_ok | apply State.assertReset_ok | apply ok_ite | exact fun _ => rfl | intro _ | split | dsimp only

theorem execConsecutiveMissLimit_ok (h : Ok q s)  : Good q (execConsecutiveMissLimit s) := by
  unfold execConsecutiveMissLimit
  with_reducible repeat' first | assumption | apply Good.next | apply good_ite | apply State.causeOn_ok | apply ok_ite | exact fun _ => rfl | intro _ | split | dsimp only

theorem execTimebaseWatchExpiry_ok (h : Ok q s)  : Good q (execTimebaseWatchExpiry s) := by
  unfold execTimebaseWatchExpiry
  with_reducible repeat' first | assumption | apply Good.next | apply good_ite | apply State.causeOn_ok | apply ok_ite | exact fun _ => rfl | intro _ | split | dsimp only

theorem State.watchBoundary_ok (h : Ok q s) : Ok q (State.watchBoundary s) := by
  unfold State.watchBoundary
  with_reducible repeat' first | assumption | apply State.setActive_ok | apply State.cond_ok | apply ok_ite | exact fun _ => rfl | intro _ | split | dsimp only

theorem execOffPathReadbackFault_ok (h : Ok q s) (on) : Good q (execOffPathReadbackFault on s) := by
  unfold execOffPathReadbackFault
  with_reducible repeat' first | assumption | apply Good.next | apply good_ite | apply State.causeOn_ok | apply ok_ite | exact fun _ => rfl | intro _ | split | dsimp only

theorem execSrsRequest_ok (h : Ok q s)  : Good q (execSrsRequest s) := by
  unfold execSrsRequest
  with_reducible repeat' first | assumption | apply Good.next | apply good_ite | apply State.srsRequest_ok | exact fun _ => rfl | intro _ | split

theorem execSrsTimeLimit_ok (h : Ok q s) (port) : Good q (execSrsTimeLimit port s) := by
  unfold execSrsTimeLimit
  with_reducible repeat' first | assumption | apply Good.next | apply good_ite | apply State.cause_ok | apply ok_ite | exact fun _ => rfl | intro _ | split | dsimp only

theorem execSgrComplete_ok (h : Ok q s)  : Good q (execSgrComplete s) := by
  unfold execSgrComplete
  with_reducible repeat' first | assumption | apply Good.next | apply good_ite | apply State.setFlag_ok | apply ok_ite | exact fun _ => rfl | intro _ | split | dsimp only

theorem execSgrReadbackTimeout_ok (h : Ok q s) (unconfirmed) : Good q (execSgrReadbackTimeout unconfirmed s) := by
  unfold execSgrReadbackTimeout
  with_reducible repeat' first | assumption | apply Good.next | apply good_ite | apply State.post_ok | apply State.setFlag_ok | exact fun _ => rfl | intro _ | split

theorem State.gdenCmd_ok (h : Ok q s)  : Ok q (State.gdenCmd s) := by
  unfold State.gdenCmd
  with_reducible repeat' first | assumption | apply State.setFld_ok | apply ok_ite | exact fun _ => rfl | intro _ | split | dsimp only

theorem State.oneLane_ok (h : Ok q s)  : Ok q (State.oneLane s) := by
  unfold State.oneLane
  with_reducible repeat' first | assumption | apply State.setFlag_ok | exact fun _ => rfl | intro _ | split

theorem State.sayHello_ok (h : Ok q s) (l) : Ok q (State.sayHello s l) := by
  unfold State.sayHello
  with_reducible repeat' first | assumption | apply ok_ite | exact fun _ => rfl | (apply Ok.mk'; first | assumption | apply ok_ite | exact fun _ => rfl) | exact rfl | intro _ | split | dsimp only

theorem State.mirrorLane_ok (h : Ok q s) (l) : Ok q (State.mirrorLane s l) := by
  unfold State.mirrorLane
  with_reducible repeat' first | assumption | apply State.oneLane_ok | apply State.sayHello_ok | apply State.modPair_ok | apply ok_ite | exact fun _ => rfl | (apply Ok.mk'; first | assumption | apply State.oneLane_ok | apply State.sayHello_ok | apply State.modPair_ok | apply ok_ite | exact fun _ => rfl) | exact rfl | intro _ | split | dsimp only

theorem State.toLane_ok (h : Ok q s) (l) (n) : Ok q (State.toLane s l n) := by
  unfold State.toLane
  with_reducible repeat' first | assumption | apply State.setFld_ok | apply State.post_ok | apply State.mirrorLane_ok | apply State.gdenCmd_ok | apply ok_ite | exact fun _ => rfl | intro _ | split | dsimp only

theorem State.faultSlots_ok (h : Ok q s) (l) (mask) : Ok q (State.faultSlots s l mask) := by
  unfold State.faultSlots
  with_reducible repeat' first | assumption | apply State.forUnits_ok | apply State.raiseLeg_ok | apply State.setFlag_ok | apply State.post_ok | apply ok_ite | exact fun _ => rfl | intro _ | split

theorem State.loseLane_ok (h : Ok q s) (l) : Ok q (State.loseLane s l) := by
  unfold State.loseLane
  with_reducible repeat' first | assumption | apply State.toLane_ok | apply State.cond_ok | apply State.faultSlots_ok | exact fun _ => rfl | intro _ | split

theorem State.checkLoss_ok (h : Ok q s) (l) : Ok q (State.checkLoss s l) := by
  unfold State.checkLoss
  with_reducible repeat' first | assumption | apply State.cond_ok | apply State.loseLane_ok | exact fun _ => rfl | intro _ | split

theorem State.laneStops_ok (h : Ok q s) (l) : Ok q (State.laneStops s l) := by
  unfold State.laneStops
  with_reducible repeat' first | assumption | apply State.setFlag_ok | apply State.checkLoss_ok | apply State.toLane_ok | apply State.post_ok | apply ok_ite | exact fun _ => rfl | intro _ | split | dsimp only

theorem execLosChange_ok (h : Ok q s) (lane) (on) : Good q (execLosChange lane on s) := by
  unfold execLosChange
  with_reducible repeat' first | assumption | apply Good.next | apply good_ite | apply State.checkLoss_ok | apply State.setFlag_ok | exact fun _ => rfl | intro _ | split

theorem execLolChange_ok (h : Ok q s) (lane) (on) : Good q (execLolChange lane on s) := by
  unfold execLolChange
  with_reducible repeat' first | assumption | apply Good.next | apply good_ite | apply State.setFlag_ok | apply State.checkLoss_ok | apply ok_ite | exact fun _ => rfl | intro _ | split | dsimp only

theorem execCommaReceived_ok (h : Ok q s) (lane) (pos) : Good q (execCommaReceived lane pos s) := by
  unfold execCommaReceived
  with_reducible repeat' first | assumption | apply Good.next | apply good_ite | apply State.setFlag_ok | apply State.setFld_ok | apply State.cond_ok | apply ok_ite | exact fun _ => rfl | (apply Ok.mk'; first | assumption | apply Good.next | apply good_ite | apply State.setFlag_ok | apply State.setFld_ok | apply State.cond_ok | apply ok_ite | exact fun _ => rfl) | exact rfl | intro _ | split | dsimp only

theorem execAlignmentLoss_ok (h : Ok q s) (lane) : Good q (execAlignmentLoss lane s) := by
  unfold execAlignmentLoss
  with_reducible repeat' first | assumption | apply Good.next | apply good_ite | apply State.checkLoss_ok | apply State.setFlag_ok | apply State.countN_ok | exact fun _ => rfl | (apply Ok.mk'; first | assumption | apply Good.next | apply good_ite | apply State.checkLoss_ok | apply State.setFlag_ok | apply State.countN_ok | exact fun _ => rfl) | exact rfl | intro _ | split

theorem State.measure_ok (h : Ok q s) (l) : Ok q (State.measure s l) := by
  unfold State.measure
  with_reducible repeat' first | assumption | apply State.setFld_ok | apply State.cond_ok | apply State.setFlag_ok | apply State.loseLane_ok | apply ok_ite | exact fun _ => rfl | intro _ | split | dsimp only

theorem execPingSend_ok (h : Ok q s) (lane) : Good q (execPingSend lane s) := by
  unfold execPingSend
  with_reducible repeat' first | assumption | apply Good.next | apply good_ite | apply State.modLane_ok | apply ok_ite | exact fun _ => rfl | intro _ | split | dsimp only

theorem execEchoReceived_ok (h : Ok q s) (lane) (seq) (rtt) : Good q (execEchoReceived lane seq rtt s) := by
  unfold execEchoReceived
  with_reducible repeat' first | assumption | apply Good.next | apply good_ite | apply State.modLane_ok | apply State.measure_ok | apply ok_ite | exact fun _ => rfl | intro _ | split | dsimp only

theorem execEchoLost_ok (h : Ok q s) (lane) : Good q (execEchoLost lane s) := by
  unfold execEchoLost
  with_reducible repeat' first | assumption | apply Good.next | apply good_ite | apply State.modLane_ok | apply ok_ite | exact fun _ => rfl | intro _ | split | dsimp only

theorem execParamSend_ok (h : Ok q s) (lane) (addr) : Good q (execParamSend lane addr s) := by
  unfold execParamSend
  with_reducible repeat' first | assumption | apply Good.next | apply good_ite | apply State.modLane_ok | apply ok_ite | exact fun _ => rfl | intro _ | split | dsimp only

theorem State.markDue_ok (h : Ok q s) (l) : Ok q (State.markDue s l) := by
  unfold State.markDue
  with_reducible repeat' first | assumption | apply State.modLane_ok | apply ok_ite | exact fun _ => rfl | intro _ | split | dsimp only

theorem State.nextPrograms_ok (h : Ok q s)  : Ok q (State.nextPrograms s) := by
  unfold State.nextPrograms
  with_reducible repeat' first | assumption | apply State.forUnits_ok | apply State.setFld_ok | apply State.endPeriodLeg_ok | apply State.reloadBundles_ok | apply State.releaseLegs_ok | apply State.formLeg_ok | apply ok_ite | exact fun _ => rfl | intro _ | split | dsimp only

theorem State.guardFrame_ok (h : Ok q s) (t : State) (l) : Ok q (State.guardFrame s t l) := by
  unfold State.guardFrame
  with_reducible repeat' first | assumption | apply State.crossfire_ok | apply foldl_ok | apply foldl_ok | apply ok_ite | exact fun _ => rfl | intro _ | split | dsimp only

theorem execFrameSlotOpen_ok (h : Ok q s) (lane) : Good q (execFrameSlotOpen lane s) := by
  unfold execFrameSlotOpen
  with_reducible repeat' first | assumption | apply Good.next | apply good_ite | apply State.nextPrograms_ok | apply State.guardFrame_ok | apply State.modLane_ok | apply foldl_ok | apply ok_ite | exact fun _ => rfl | intro _ | split | dsimp only

theorem State.takeSlot_ok (h : Ok q s) (l) (k) (b) : Ok q (State.takeSlot s l k b) := by
  unfold State.takeSlot
  with_reducible repeat' first | assumption | apply State.setFld_ok | apply State.setFlag_ok | exact fun _ => rfl | intro _ | split

theorem State.remeasure_ok (h : Ok q s) (l) (a) : Ok q (State.remeasure s l a) := by
  unfold State.remeasure
  with_reducible repeat' first | assumption | apply State.measure_ok | apply ok_ite | exact fun _ => rfl | intro _ | split | dsimp only

theorem execStatusFrameReceived_ok (h : Ok q s) (lane) (bytes) : Good q (execStatusFrameReceived lane bytes s) := by
  unfold execStatusFrameReceived
  with_reducible repeat' first | assumption | apply Good.next | apply good_ite | apply State.count_ok | apply State.modLane_ok | apply State.setFlag_ok | apply State.forUnits_ok | apply State.takeSlot_ok | apply State.remeasure_ok | apply State.cond_ok | apply State.faultSlots_ok | apply ok_ite | exact fun _ => rfl | intro _ | split | dsimp only

theorem execAlertReceived_ok (h : Ok q s) (lane) (mask) (check) : Good q (execAlertReceived lane mask check s) := by
  unfold execAlertReceived
  with_reducible repeat' first | assumption | apply Good.next | apply good_ite | apply State.faultSlots_ok | exact fun _ => rfl | intro _ | split

theorem State.endMeasure_ok (h : Ok q s) (l) : Ok q (State.endMeasure s l) := by
  unfold State.endMeasure
  with_reducible repeat' first | assumption | apply State.setFlag_ok | apply State.modLane_ok | apply State.toLane_ok | apply ok_ite | exact fun _ => rfl | intro _ | split | dsimp only

theorem State.beginMeasure_ok (h : Ok q s) (l) : Ok q (State.beginMeasure s l) := by
  unfold State.beginMeasure
  with_reducible repeat' first | assumption | apply State.modLane_ok | apply State.toLane_ok | apply State.setFlag_ok | exact fun _ => rfl | (apply Ok.mk'; first | assumption | apply State.modLane_ok | apply State.toLane_ok | apply State.setFlag_ok | exact fun _ => rfl) | exact rfl | intro _ | split

theorem execLaneStateChange_ok (h : Ok q s) (lane) : Good q (execLaneStateChange lane s) := by
  unfold execLaneStateChange
  with_reducible repeat' first | assumption | apply Good.next | apply good_ite | apply State.toLane_ok | apply State.setFlag_ok | apply State.beginMeasure_ok | apply State.endMeasure_ok | apply ok_ite | exact fun _ => rfl | (apply Ok.mk'; first | assumption | apply Good.next | apply good_ite | apply State.toLane_ok | apply State.setFlag_ok | apply State.beginMeasure_ok | apply State.endMeasure_ok | apply ok_ite | exact fun _ => rfl) | exact rfl | intro _ | split | dsimp only

theorem execLaneStatusTimeout_ok (h : Ok q s) (lane) : Good q (execLaneStatusTimeout lane s) := by
  unfold execLaneStatusTimeout
  with_reducible repeat' first | assumption | apply Good.next | apply good_ite | apply State.loseLane_ok | exact fun _ => rfl | intro _ | split

theorem execLaneLostTimeout_ok (h : Ok q s) (lane) : Good q (execLaneLostTimeout lane s) := by
  unfold execLaneLostTimeout
  with_reducible repeat' first | assumption | apply Good.next | apply good_ite | apply State.toLane_ok | exact fun _ => rfl | intro _ | split

theorem State.gdenSample_ok (h : Ok q s) (pins) (g) : Ok q (State.gdenSample s pins g) := by
  unfold State.gdenSample
  with_reducible repeat' first | assumption | apply State.modLane_ok | apply State.setFld_ok | apply State.cause_ok | apply State.post_ok | apply ok_ite | exact fun _ => rfl | intro _ | split | dsimp only

theorem execGdenReadbackSample_ok (h : Ok q s) (pins) : Good q (execGdenReadbackSample pins s) := by
  unfold execGdenReadbackSample
  with_reducible repeat' first | assumption | apply Good.next | apply good_ite | apply State.setFld_ok | apply State.modStw_ok | apply State.forUnits_ok | apply State.gdenSample_ok | apply State.setActive_ok | apply ok_ite | exact fun _ => rfl | intro _ | split | dsimp only

theorem State.clearLanes_ok (h : Ok q s) (mask) (phase) : Ok q (State.clearLanes s mask phase) := by
  unfold State.clearLanes
  with_reducible repeat' first | assumption | apply State.gdenCmd_ok | apply State.forUnits_ok | apply State.modLane_ok | apply ok_ite | exact fun _ => rfl | (apply Ok.mk'; first | assumption | apply State.gdenCmd_ok | apply State.forUnits_ok | apply State.modLane_ok | apply ok_ite | exact fun _ => rfl) | exact rfl | intro _ | split

theorem execGdClear_ok (h : Ok q s) (tag) : Good q (execGdClear tag s) := by
  unfold execGdClear
  with_reducible repeat' first | assumption | apply Good.next | apply good_ite | apply serve_ok | apply State.done_ok | apply State.start_ok | apply State.clearLanes_ok | apply ok_ite | exact fun _ => rfl | (apply Ok.mk'; first | assumption | apply Good.next | apply good_ite | apply serve_ok | apply State.done_ok | apply State.start_ok | apply State.clearLanes_ok | apply ok_ite | exact fun _ => rfl) | exact rfl | intro _ | split

theorem execGdenLowEnd_ok (h : Ok q s) (lane) : Good q (execGdenLowEnd lane s) := by
  unfold execGdenLowEnd
  with_reducible repeat' first | assumption | apply Good.next | apply good_ite | apply State.clearLanes_ok | apply ok_ite | exact fun _ => rfl | (apply Ok.mk'; first | assumption | apply Good.next | apply good_ite | apply State.clearLanes_ok | apply ok_ite | exact fun _ => rfl) | exact rfl | intro _ | split

theorem execGdClearStatusWaitEnd_ok (h : Ok q s) (lane) : Good q (execGdClearStatusWaitEnd lane s) := by
  unfold execGdClearStatusWaitEnd
  with_reducible repeat' first | assumption | apply Good.next | apply good_ite | apply State.done_ok | apply State.modLane_ok | apply State.forUnits_ok | apply State.setFlag_ok | apply ok_ite | exact fun _ => rfl | (apply Ok.mk'; first | assumption | apply Good.next | apply good_ite | apply State.done_ok | apply State.modLane_ok | apply State.forUnits_ok | apply State.setFlag_ok | apply ok_ite | exact fun _ => rfl) | exact rfl | intro _ | split | dsimp only

end Sys2Proof.Machine
end

