-- ==== Sys2Proof/Laws/Keep1.lean ====
section
/-!
SUPPORT. What the operations and the meanings of these files of Machine keep (see Laws/Keep):
SafetyPdu, Ptp, CapCore, Network, Run, Gaits, Observer, HlpOps, Coef, SafetyCmds, FieldIo, HlpInstr, HlpCycle, PairLink, Mirror.
-/
namespace Sys2Proof.Machine

set_option linter.unusedTactic false
set_option linter.unreachableTactic false

variable {q : List Instr} {s : State}

theorem State.modRx_ok (h : Ok q s) (r) (f) : Ok q (State.modRx s r f) := by
  unfold State.modRx
  with_reducible repeat' first | assumption | apply State.modStw_ok | exact fun _ => rfl | (apply Ok.mk'; first | assumption | apply State.modStw_ok | exact fun _ => rfl) | exact rfl | intro _ | split

theorem State.pduCauseFor_ok (h : Ok q s) (c) (r) (mask) : Ok q (State.pduCauseFor s c r mask) := by
  unfold State.pduCauseFor
  with_reducible repeat' first | assumption | apply State.causeWith_ok | apply ok_ite | exact fun _ => rfl | intro _ | split | dsimp only

theorem State.pduCause_ok (h : Ok q s) (c) (r) : Ok q (State.pduCause s c r) := by
  unfold State.pduCause
  with_reducible repeat' first | assumption | apply State.pduCauseFor_ok | apply ok_ite | exact fun _ => rfl | intro _ | split | dsimp only

theorem State.wdActive_ok (h : Ok q s)  : Ok q (State.wdActive s) := by
  unfold State.wdActive
  with_reducible repeat' first | assumption | apply State.setActive_ok | exact fun _ => rfl | intro _ | split

theorem State.demandActive_ok (h : Ok q s)  : Ok q (State.demandActive s) := by
  unfold State.demandActive
  with_reducible repeat' first | assumption | apply State.setActive_ok | exact fun _ => rfl | intro _ | split

theorem State.pduAccept_ok (h : Ok q s) (r) (b) : Ok q (State.pduAccept s r b) := by
  unfold State.pduAccept
  with_reducible repeat' first | assumption | apply State.modRx_ok | apply State.setFld_ok | apply State.cond_ok | apply State.pduCauseFor_ok | apply State.setActive_ok | apply State.demandActive_ok | apply ok_ite | exact fun _ => rfl | intro _ | split | dsimp only

theorem State.pduPair_ok (h : Ok q s) (r) : Ok q (State.pduPair s r) := by
  unfold State.pduPair
  with_reducible repeat' first | assumption | apply State.pduAccept_ok | apply State.setActive_ok | apply State.pduCause_ok | apply State.setFlag_ok | apply State.modRx_ok | apply ok_ite | exact fun _ => rfl | intro _ | split | dsimp only

theorem execPduCopyReceived_ok (h : Ok q s) (net) (conn) (bytes) : Good q (execPduCopyReceived net conn bytes s) := by
  unfold execPduCopyReceived
  with_reducible repeat' first | assumption | apply Good.next | apply good_ite | apply State.count_ok | apply State.modRx_ok | apply State.setFlag_ok | apply State.wdActive_ok | apply State.pduPair_ok | apply ok_ite | exact fun _ => rfl | intro _ | split | dsimp only

theorem execPduWatchdogExpiry_ok (h : Ok q s) (conn) (net) : Good q (execPduWatchdogExpiry conn net s) := by
  unfold execPduWatchdogExpiry
  with_reducible repeat' first | assumption | apply Good.next | apply good_ite | apply State.wdActive_ok | apply State.pduCause_ok | apply State.setFlag_ok | apply ok_ite | exact fun _ => rfl | intro _ | split | dsimp only

theorem State.launchOn_ok (h : Ok q s) (m0) (n) : Ok q (State.launchOn s m0 n) := by
  unfold State.launchOn
  with_reducible repeat' first | assumption | apply State.modMac_ok | apply State.count_ok | apply ok_ite | exact fun _ => rfl | intro _ | split | dsimp only

theorem State.handOver_ok (h : Ok q s) (m0) (t) : Ok q (State.handOver s m0 t) := by
  unfold State.handOver
  with_reducible repeat' first | assumption | apply State.modMac_ok | apply ok_ite | exact fun _ => rfl | intro _ | split | dsimp only

theorem execPduSend_ok (h : Ok q s) (conn) : Good q (execPduSend conn s) := by
  unfold execPduSend
  with_reducible repeat' first | assumption | apply Good.next | apply good_ite | apply State.modStw_ok | apply State.setFld_ok | apply State.handOver_ok | apply ok_ite | exact fun _ => rfl | intro _ | split | dsimp only

theorem State.modLink_ok (h : Ok q s) (m0) (f) : Ok q (State.modLink s m0 f) := by
  unfold State.modLink
  with_reducible repeat' first | assumption | apply State.modPtp_ok | apply ok_ite | exact fun _ => rfl | intro _ | split | dsimp only

theorem State.ptpSend_ok (h : Ok q s) (m0) (t) : Ok q (State.ptpSend s m0 t) := by
  unfold State.ptpSend
  with_reducible repeat' first | assumption | apply State.modMac_ok | apply ok_ite | exact fun _ => rfl | intro _ | split | dsimp only

theorem State.bestMaster_ok (h : Ok q s) (expired) : Ok q (State.bestMaster s expired) := by
  unfold State.bestMaster
  with_reducible repeat' first | assumption | apply State.modPtp_ok | apply State.setFlag_ok | apply State.showPtp_ok | apply State.cond_ok | apply State.dropLock_ok | apply State.setTbLock_ok | apply ok_ite | exact fun _ => rfl | intro _ | split | dsimp only

theorem State.settleDelay_ok (h : Ok q s) (m0) : Ok q (State.settleDelay s m0) := by
  unfold State.settleDelay
  with_reducible repeat' first | assumption | apply State.modLink_ok | apply ok_ite | exact fun _ => rfl | intro _ | split | dsimp only

theorem State.exchange_ok (h : Ok q s) (m0) (seq) (f) : Ok q (State.exchange s m0 seq f) := by
  unfold State.exchange
  with_reducible repeat' first | assumption | apply State.modLink_ok | apply State.settleDelay_ok | apply ok_ite | exact fun _ => rfl | intro _ | split | dsimp only

theorem State.syncDone_ok (h : Ok q s) (m0) (seq) (t1) : Ok q (State.syncDone s m0 seq t1) := by
  unfold State.syncDone
  with_reducible repeat' first | assumption | apply State.modLink_ok | apply ok_ite | exact fun _ => rfl | intro _ | split | dsimp only

theorem State.hearAnnounce_ok (h : Ok q s) (m0) (l) : Ok q (State.hearAnnounce s m0 l) := by
  unfold State.hearAnnounce
  with_reducible repeat' first | assumption | apply State.modPtp_ok | apply State.modLink_ok | apply State.bestMaster_ok | apply ok_ite | exact fun _ => rfl | intro _ | split | dsimp only

theorem State.ptpReceive_ok (h : Ok q s) (m0) (l) (stamp) : Ok q (State.ptpReceive s m0 l stamp) := by
  unfold State.ptpReceive
  with_reducible repeat' first | assumption | apply State.modLink_ok | apply State.syncDone_ok | apply State.ptpSend_ok | apply State.exchange_ok | apply State.hearAnnounce_ok | apply ok_ite | exact fun _ => rfl | intro _ | split | dsimp only

theorem State.ptpLaunch_ok (h : Ok q s) (m0) (k) : Ok q (State.ptpLaunch s m0 k) := by
  unfold State.ptpLaunch
  with_reducible repeat' first | assumption | apply State.launchOn_ok | apply State.modLink_ok | apply ok_ite | exact fun _ => rfl | intro _ | split | dsimp only

theorem State.ptpGone_ok (h : Ok q s) (m0) (id) (k) : Ok q (State.ptpGone s m0 id k) := by
  unfold State.ptpGone
  with_reducible repeat' first | assumption | apply State.modLink_ok | apply ok_ite | exact fun _ => rfl | intro _ | split | dsimp only

theorem State.useStamp_ok (h : Ok q s) (m0) (e) : Ok q (State.useStamp s m0 e) := by
  unfold State.useStamp
  with_reducible repeat' first | assumption | apply State.modLink_ok | apply State.ptpSend_ok | apply State.exchange_ok | apply ok_ite | exact fun _ => rfl | intro _ | split | dsimp only

theorem State.calibrated_ok (h : Ok q s) (m0) (off) : Ok q (State.calibrated s m0 off) := by
  unfold State.calibrated
  with_reducible repeat' first | assumption | apply State.modPtp_ok | apply State.showPtp_ok | apply ok_ite | exact fun _ => rfl | intro _ | split | dsimp only

theorem State.capRate_ok (h : Ok q s)  : Ok q (State.capRate s) := by
  unfold State.capRate
  with_reducible repeat' first | assumption | apply State.setFld_ok | exact fun _ => rfl | intro _ | split

theorem State.modCap_ok (h : Ok q s) (f) : Ok q (State.modCap s f) := by
  unfold State.modCap
  with_reducible repeat' first | assumption | exact fun _ => rfl | (apply Ok.mk'; first | assumption | exact fun _ => rfl) | exact rfl | intro _ | split

theorem State.capLevel_ok (h : Ok q s)  : Ok q (State.capLevel s) := by
  unfold State.capLevel
  with_reducible repeat' first | assumption | apply State.setFld_ok | exact fun _ => rfl | intro _ | split

theorem State.capPut_ok (h : Ok q s) (r) : Ok q (State.capPut s r) := by
  unfold State.capPut
  with_reducible repeat' first | assumption | apply State.modCap_ok | apply State.count_ok | apply ok_ite | exact fun _ => rfl | (apply Ok.mk'; first | assumption | apply State.modCap_ok | apply State.count_ok | apply ok_ite | exact fun _ => rfl) | exact rfl | intro _ | split

theorem State.capPush_ok (h : Ok q s) (r) : Ok q (State.capPush s r) := by
  unfold State.capPush
  with_reducible repeat' first | assumption | apply State.capPut_ok | apply State.modCap_ok | apply State.post_ok | apply ok_ite | exact fun _ => rfl | (apply Ok.mk'; first | assumption | apply State.capPut_ok | apply State.modCap_ok | apply State.post_ok | apply ok_ite | exact fun _ => rfl) | exact rfl | intro _ | split

theorem State.capSample_ok (h : Ok q s) (i) (pnum) (v) : Ok q (State.capSample s i pnum v) := by
  unfold State.capSample
  with_reducible repeat' first | assumption | apply State.modCap_ok | apply State.capPush_ok | apply ok_ite | exact fun _ => rfl | intro _ | split | dsimp only

theorem State.capAnswer_ok (h : Ok q s) (op) (n) : Ok q (State.capAnswer s op n) := by
  unfold State.capAnswer
  with_reducible repeat' first | assumption | apply State.complete_ok | apply ok_ite | exact fun _ => rfl | intro _ | split | dsimp only

theorem State.capPaddock_ok (h : Ok q s)  : Ok q (State.capPaddock s) := by
  unfold State.capPaddock
  with_reducible repeat' first | assumption | apply State.countN_ok | apply State.modCap_ok | apply State.setFld_ok | apply State.setFlag_ok | apply State.capLevel_ok | apply State.capAnswer_ok | apply ok_ite | exact fun _ => rfl | intro _ | split | dsimp only

theorem State.ptpFrame_ok (h : Ok q s) (m0) (k) : Ok q (State.ptpFrame s m0 k) := by
  unfold State.ptpFrame
  with_reducible repeat' first | assumption | apply State.modMac_ok | apply State.ptpReceive_ok | apply ok_ite | exact fun _ => rfl | intro _ | split | dsimp only

theorem execEthernetFrameReceived_ok (h : Ok q s) (mac) (f) : Good q (execEthernetFrameReceived mac f s) := by
  unfold execEthernetFrameReceived
  with_reducible repeat' first | assumption | apply Good.next | apply good_ite | apply State.modMac_ok | apply State.count_ok | apply State.cond_ok | apply State.ptpFrame_ok | apply ok_ite | exact fun _ => rfl | intro _ | split | dsimp only

theorem State.launchPdu_ok (h : Ok q s) (m0) : Ok q (State.launchPdu s m0) := by
  unfold State.launchPdu
  with_reducible repeat' first | assumption | apply State.modMac_ok | apply State.launchOn_ok | apply ok_ite | exact fun _ => rfl | intro _ | split | dsimp only

theorem execScheduledLaunch_ok (h : Ok q s) (mac) (ptp) : Good q (execScheduledLaunch mac ptp s) := by
  unfold execScheduledLaunch
  with_reducible repeat' first | assumption | apply Good.next | apply good_ite | apply State.launchPdu_ok | apply State.ptpLaunch_ok | apply State.ordinary_ok | apply ok_ite | exact fun _ => rfl | intro _ | split | dsimp only

theorem execLinkChange_ok (h : Ok q s) (mac) (up) (speed) : Good q (execLinkChange mac up speed s) := by
  unfold execLinkChange
  with_reducible repeat' first | assumption | apply Good.next | apply good_ite | apply State.post_ok | apply State.setFld_ok | apply State.setFlag_ok | apply ok_ite | exact fun _ => rfl | intro _ | split

theorem execTxTimestamp_ok (h : Ok q s) (mac) (id) (type) (oneStep) : Good q (execTxTimestamp mac id type oneStep s) := by
  unfold execTxTimestamp
  with_reducible repeat' first | assumption | apply Good.next | apply good_ite | apply State.ptpSend_ok | apply State.ptpGone_ok | apply State.modMac_ok | apply State.setFld_ok | apply State.count_ok | apply State.cond_ok | apply State.post_ok | apply ok_ite | exact fun _ => rfl | intro _ | split | dsimp only

theorem execTimestampDrain_ok (h : Ok q s) (mac) : Good q (execTimestampDrain mac s) := by
  unfold execTimestampDrain
  with_reducible repeat' first | assumption | apply Good.next | apply good_ite | apply State.modMac_ok | apply State.setFld_ok | apply State.ptpGone_ok | apply State.useStamp_ok | apply ok_ite | exact fun _ => rfl | intro _ | split | dsimp only

theorem State.servo_ok (h : Ok q s) (off) : Ok q (State.servo s off) := by
  unfold State.servo
  with_reducible repeat' first | assumption | apply State.adjTb_ok | apply State.setTbLock_ok | apply State.bump_ok | apply State.modPtp_ok | apply ok_ite | exact fun _ => rfl | intro _ | split | dsimp only

theorem execPtpServoUpdate_ok (h : Ok q s) : Good q (execPtpServoUpdate s) := by
  unfold execPtpServoUpdate
  with_reducible repeat' first | assumption | apply Good.next | apply good_ite | apply State.modLink_ok | apply State.servo_ok | apply State.calibrated_ok | apply ok_ite | exact fun _ => rfl | intro _ | split | dsimp only

theorem execHoldMaxExpiry_ok (h : Ok q s)  : Good q (execHoldMaxExpiry s) := by
  unfold execHoldMaxExpiry
  with_reducible repeat' first | assumption | apply Good.next | apply good_ite | apply State.dropLock_ok | exact fun _ => rfl | intro _ | split

theorem execAnnounceReceiptTimeout_ok (h : Ok q s) (mac) : Good q (execAnnounceReceiptTimeout mac s) := by
  unfold execAnnounceReceiptTimeout
  with_reducible repeat' first | assumption | apply Good.next | apply good_ite | apply State.modLink_ok | apply State.bestMaster_ok | apply ok_ite | exact fun _ => rfl | intro _ | split | dsimp only

theorem execTbRead_ok (h : Ok q s) (tag) : Good q (execTbRead tag s) := by
  unfold execTbRead
  with_reducible repeat' first | assumption | apply Good.next | apply good_ite | apply serve_ok | apply State.complete_ok | exact fun _ => rfl | intro _ | split

theorem execTbSet_ok (h : Ok q s) (tag) : Good q (execTbSet tag s) := by
  unfold execTbSet
  with_reducible repeat' first | assumption | apply Good.next | apply good_ite | apply serve_ok | apply State.done_ok | apply State.stepTb_ok | apply State.cond_ok | apply State.dropLock_ok | apply ok_ite | exact fun _ => rfl | intro _ | split | dsimp only

theorem execTbAdj_ok (h : Ok q s) (tag) : Good q (execTbAdj tag s) := by
  unfold execTbAdj
  with_reducible repeat' first | assumption | apply Good.next | apply good_ite | apply serve_ok | apply State.done_ok | apply State.adjTb_ok | apply State.cond_ok | apply State.dropLock_ok | apply ok_ite | exact fun _ => rfl | intro _ | split | dsimp only

theorem execPtpCfg_ok (h : Ok q s) (tag) : Good q (execPtpCfg tag s) := by
  unfold execPtpCfg
  with_reducible repeat' first | assumption | apply Good.next | apply good_ite | apply serve_ok | apply State.done_ok | apply State.modPtp_ok | apply State.setFlag_ok | apply State.showPtp_ok | apply State.setTbLock_ok | apply foldl_ok | apply ok_ite | exact fun _ => rfl | intro _ | split | dsimp only

theorem execRunGo_ok (h : Ok q s) (tag) : Good q (execRunGo tag s) := by
  unfold execRunGo
  with_reducible repeat' first | assumption | apply Good.next | apply good_ite | apply serve_ok | apply State.done_ok | apply State.setFld_ok | apply ok_ite | exact fun _ => rfl | intro _ | split

theorem execRunStall_ok (h : Ok q s) (tag) : Good q (execRunStall tag s) := by
  unfold execRunStall
  with_reducible repeat' first | assumption | apply Good.next | apply good_ite | apply serve_ok | apply State.done_ok | apply State.setFld_ok | apply ok_ite | exact fun _ => rfl | intro _ | split

theorem State.waitPort_ok (h : Ok q s) (e) : Ok q (State.waitPort s e) := by
  unfold State.waitPort
  with_reducible repeat' first | assumption | apply State.modPort_ok | apply State.start_ok | exact fun _ => rfl | (apply Ok.mk'; first | assumption | apply State.modPort_ok | apply State.start_ok | exact fun _ => rfl) | exact rfl | intro _ | split

theorem State.portGo_ok (h : Ok q s) (e) (c) : Ok q (State.portGo s e c) := by
  unfold State.portGo
  with_reducible repeat' first | assumption | apply State.done_ok | apply State.waitPort_ok | exact fun _ => rfl | intro _ | split

theorem execPortArm_ok (h : Ok q s) (tag) : Good q (execPortArm tag s) := by
  unfold execPortArm
  with_reducible repeat' first | assumption | apply Good.next | apply good_ite | apply serve_ok | apply State.portGo_ok | exact fun _ => rfl | intro _ | split

theorem execPortDisarm_ok (h : Ok q s) (tag) : Good q (execPortDisarm tag s) := by
  unfold execPortDisarm
  with_reducible repeat' first | assumption | apply Good.next | apply good_ite | apply serve_ok | apply State.portGo_ok | exact fun _ => rfl | intro _ | split

theorem execPortStart_ok (h : Ok q s) (tag) : Good q (execPortStart tag s) := by
  unfold execPortStart
  with_reducible repeat' first | assumption | apply Good.next | apply good_ite | apply serve_ok | apply State.portGo_ok | exact fun _ => rfl | intro _ | split

theorem execPortStop_ok (h : Ok q s) (tag) : Good q (execPortStop tag s) := by
  unfold execPortStop
  with_reducible repeat' first | assumption | apply Good.next | apply good_ite | apply serve_ok | apply State.portGo_ok | exact fun _ => rfl | intro _ | split

theorem execPortClear_ok (h : Ok q s) (tag) : Good q (execPortClear tag s) := by
  unfold execPortClear
  with_reducible repeat' first | assumption | apply Good.next | apply good_ite | apply serve_ok | apply State.portGo_ok | exact fun _ => rfl | intro _ | split

theorem execReclosePrep_ok (h : Ok q s) (tag) : Good q (execReclosePrep tag s) := by
  unfold execReclosePrep
  with_reducible repeat' first | assumption | apply Good.next | apply good_ite | apply serve_ok | apply State.portGo_ok | exact fun _ => rfl | intro _ | split

theorem execRecloseEnd_ok (h : Ok q s) (tag) : Good q (execRecloseEnd tag s) := by
  unfold execRecloseEnd
  with_reducible repeat' first | assumption | apply Good.next | apply good_ite | apply serve_ok | apply State.portGo_ok | exact fun _ => rfl | intro _ | split

theorem execSpAc_ok (h : Ok q s) (tag) : Good q (execSpAc tag s) := by
  unfold execSpAc
  with_reducible repeat' first | assumption | apply Good.next | apply good_ite | apply serve_ok | apply State.done_ok | apply State.start_ok | apply ok_ite | exact fun _ => rfl | intro _ | split

theorem execSpDc_ok (h : Ok q s) (tag) : Good q (execSpDc tag s) := by
  unfold execSpDc
  with_reducible repeat' first | assumption | apply Good.next | apply good_ite | apply serve_ok | apply State.done_ok | apply State.start_ok | apply ok_ite | exact fun _ => rfl | intro _ | split

theorem execSpSlew_ok (h : Ok q s) (tag) : Good q (execSpSlew tag s) := by
  unfold execSpSlew
  with_reducible repeat' first | assumption | apply Good.next | apply good_ite | apply serve_ok | apply State.done_ok | apply State.start_ok | apply ok_ite | exact fun _ => rfl | intro _ | split

theorem State.applySetpoint_ok (h : Ok q s) (e) : Ok q (State.applySetpoint s e) := by
  unfold State.applySetpoint
  with_reducible repeat' first | assumption | apply State.modPort_ok | apply ok_ite | exact fun _ => rfl | (apply Ok.mk'; first | assumption | apply State.modPort_ok | apply ok_ite | exact fun _ => rfl) | exact rfl | intro _ | split

theorem execSetpointTakesEffect_ok (h : Ok q s) (tag) : Good q (execSetpointTakesEffect tag s) := by
  unfold execSetpointTakesEffect
  with_reducible repeat' first | assumption | apply Good.next | apply good_ite | apply State.applySetpoint_ok | apply State.doneAt_ok | apply ok_ite | exact fun _ => rfl | intro _ | split | dsimp only

theorem State.setGait_ok (h : Ok q s) (g) : Ok q (State.setGait s g) := by
  unfold State.setGait
  with_reducible repeat' first | assumption | apply State.setFld_ok | apply State.forUnits_ok | apply State.coreStat_ok | apply State.setFlag_ok | exact fun _ => rfl | intro _ | split

theorem State.enterPaddock_ok (h : Ok q s)  : Ok q (State.enterPaddock s) := by
  unfold State.enterPaddock
  with_reducible repeat' first | assumption | apply State.capPaddock_ok | apply State.setGait_ok | apply State.forUnits_ok | apply State.modCore_ok | apply State.coreStat_ok | apply State.box_ok | apply State.stopPlls_ok | apply State.setFlag_ok | apply State.setFld_ok | apply State.doSync_ok | apply State.post_ok | apply State.laneStops_ok | apply State.cond_ok | apply State.startWake_ok | apply ok_ite | exact List.Sublist.refl _ | exact fun _ => rfl | (apply Ok.mk'; first | assumption | apply State.capPaddock_ok | apply State.setGait_ok | apply State.forUnits_ok | apply State.modCore_ok | apply State.coreStat_ok | apply State.box_ok | apply State.stopPlls_ok | apply State.setFlag_ok | apply State.setFld_ok | apply State.doSync_ok | apply State.post_ok | apply State.laneStops_ok | apply State.cond_ok | apply State.startWake_ok | apply ok_ite | exact List.Sublist.refl _ | exact fun _ => rfl) | exact rfl | intro _ | split | dsimp only

theorem execGaitChangeEffect_ok (h : Ok q s)  : Good q (execGaitChangeEffect s) := by
  unfold execGaitChangeEffect
  with_reducible repeat' first | assumption | apply Good.next | apply good_ite | apply State.setFlag_ok | apply State.setFld_ok | apply State.post_ok | apply State.doneAt_ok | apply State.cond_ok | apply State.leaveLimp_ok | apply State.enterPaddock_ok | apply State.setGait_ok | apply ok_ite | exact fun _ => rfl | intro _ | split | dsimp only

theorem execGaitThermal_ok (h : Ok q s) (temp) : Good q (execGaitThermal temp s) := by
  unfold execGaitThermal
  with_reducible repeat' first | assumption | apply Good.next | apply good_ite | apply State.cond_ok | apply State.setFlag_ok | apply State.post_ok | exact fun _ => rfl | (apply Ok.mk'; first | assumption | apply Good.next | apply good_ite | apply State.cond_ok | apply State.setFlag_ok | apply State.post_ok | exact fun _ => rfl) | exact rfl | intro _ | split

theorem State.stageRate_ok (h : Ok q s) (period) (div) : Ok q (State.stageRate s period div) := by
  unfold State.stageRate
  with_reducible repeat' first | assumption | apply State.modPwm_ok | apply State.modCle_ok | apply ok_ite | exact fun _ => rfl | (apply Ok.mk'; first | assumption | apply State.modPwm_ok | apply State.modCle_ok | apply ok_ite | exact fun _ => rfl) | exact rfl | intro _ | split

theorem execRateChangeEffect_ok (h : Ok q s)  : Good q (execRateChangeEffect s) := by
  unfold execRateChangeEffect
  with_reducible repeat' first | assumption | apply Good.next | apply good_ite | apply State.complete_ok | apply ok_ite | exact fun _ => rfl | intro _ | split

theorem State.obsStart_ok (h : Ok q s) (p) : Ok q (State.obsStart s p) := by
  unfold State.obsStart
  with_reducible repeat' first | assumption | apply State.modObs_ok | apply State.setFlag_ok | apply ok_ite | exact fun _ => rfl | intro _ | split | dsimp only

theorem State.obsSwitch_ok (h : Ok q s) (p) : Ok q (State.obsSwitch s p) := by
  unfold State.obsSwitch
  with_reducible repeat' first | assumption | apply State.obsStart_ok | apply State.setFlag_ok | apply ok_ite | exact fun _ => rfl | intro _ | split

theorem State.obsTick_ok (h : Ok q s) (p) : Ok q (State.obsTick s p) := by
  unfold State.obsTick
  with_reducible repeat' first | assumption | apply State.modObs_ok | apply ok_ite | exact fun _ => rfl | intro _ | split | dsimp only

theorem State.govRamp_ok (h : Ok q s) (p) (target) : Ok q (State.govRamp s p target) := by
  unfold State.govRamp
  with_reducible repeat' first | assumption | apply State.modObs_ok | apply State.setFlag_ok | apply ok_ite | exact fun _ => rfl | intro _ | split | dsimp only

theorem State.govAim_ok (h : Ok q s) (p) (moved) (target) : Ok q (State.govAim s p moved target) := by
  unfold State.govAim
  with_reducible repeat' first | assumption | apply State.modObs_ok | apply ok_ite | exact fun _ => rfl | intro _ | split | dsimp only

theorem State.govTick_ok (h : Ok q s) (p) : Ok q (State.govTick s p) := by
  unfold State.govTick
  with_reducible repeat' first | assumption | apply State.setFlag_ok | apply State.modObs_ok | apply State.govWrite_ok | apply ok_ite | exact fun _ => rfl | intro _ | split | dsimp only

theorem State.govSat_ok (h : Ok q s) (p) (d) (r) (x) : Ok q (State.govSat s p d r x) := by
  unfold State.govSat
  with_reducible repeat' first | assumption | apply State.cond_ok | apply State.setFlag_ok | apply State.post_ok | exact fun _ => rfl | intro _ | split

theorem State.govAlert_ok (h : Ok q s) (p) (d) (x) (r) : Ok q (State.govAlert s p d x r) := by
  unfold State.govAlert
  with_reducible repeat' first | assumption | apply State.cond_ok | apply State.setFlag_ok | apply State.post_ok | apply State.count_ok | exact fun _ => rfl | intro _ | split

theorem State.govEnter_ok (h : Ok q s) (p) (old) (new) : Ok q (State.govEnter s p old new) := by
  unfold State.govEnter
  with_reducible repeat' first | assumption | apply State.govSat_ok | apply State.govAlert_ok | apply ok_ite | exact fun _ => rfl | intro _ | split | dsimp only

theorem State.govZeta_ok (h : Ok q s) (p) (z) : Ok q (State.govZeta s p z) := by
  unfold State.govZeta
  with_reducible repeat' first | assumption | apply State.modObs_ok | apply State.setFlag_ok | apply State.setReg_ok | apply State.cond_ok | apply State.post_ok | apply State.raise_ok | exact fun _ => rfl | (apply Ok.mk'; first | assumption | apply State.modObs_ok | apply State.setFlag_ok | apply State.setReg_ok | apply State.cond_ok | apply State.post_ok | apply State.raise_ok | exact fun _ => rfl) | exact rfl | intro _ | split

theorem State.govHold_ok (h : Ok q s) (p) : Ok q (State.govHold s p) := by
  unfold State.govHold
  with_reducible repeat' first | assumption | apply State.govRamp_ok | apply State.govWrite_ok | apply ok_ite | exact fun _ => rfl | intro _ | split | dsimp only

theorem State.govUpdate_ok (h : Ok q s) (p) (r) (take) : Ok q (State.govUpdate s p r take) := by
  unfold State.govUpdate
  with_reducible repeat' first | assumption | apply State.govZeta_ok | apply State.govSat_ok | apply State.govRamp_ok | apply State.govAlert_ok | apply State.cond_ok | apply State.govHold_ok | apply ok_ite | exact fun _ => rfl | intro _ | split | dsimp only

theorem State.obsInvalid_ok (h : Ok q s) (p) (why) : Ok q (State.obsInvalid s p why) := by
  unfold State.obsInvalid
  with_reducible repeat' first | assumption | apply State.setFld_ok | apply State.setFlag_ok | exact fun _ => rfl | intro _ | split

theorem State.obsValid_ok (h : Ok q s) (p) (b) (r) : Ok q (State.obsValid s p b r) := by
  unfold State.obsValid
  with_reducible repeat' first | assumption | apply State.modObs_ok | apply State.setFlag_ok | apply State.setFld_ok | apply State.setReg_ok | apply State.cond_ok | apply State.post_ok | apply State.govUpdate_ok | apply ok_ite | exact fun _ => rfl | intro _ | split | dsimp only

theorem execObsUpdate_ok (h : Ok q s) (port) : Good q (execObsUpdate port s) := by
  unfold execObsUpdate
  with_reducible repeat' first | assumption | apply Good.next | apply good_ite | apply State.setFld_ok | apply State.obsInvalid_ok | apply State.obsValid_ok | apply ok_ite | exact fun _ => rfl | intro _ | split

theorem State.govSwap_ok (h : Ok q s) (p) (old) (moved) (target) : Ok q (State.govSwap s p old moved target) := by
  unfold State.govSwap
  with_reducible repeat' first | assumption | apply State.govAim_ok | apply State.modObs_ok | apply State.setFlag_ok | apply State.govRamp_ok | apply State.govWrite_ok | apply ok_ite | exact fun _ => rfl | intro _ | split | dsimp only

theorem State.obsSwap_ok (h : Ok q s) (p) (old) : Ok q (State.obsSwap s p old) := by
  unfold State.obsSwap
  with_reducible repeat' first | assumption | apply State.obsSwitch_ok | apply State.cond_ok | apply State.obsStart_ok | apply State.govWrite_ok | apply State.setFld_ok | apply State.govSwap_ok | apply State.govEnter_ok | apply ok_ite | exact fun _ => rfl | intro _ | split | dsimp only

theorem State.modHlp_ok (h : Ok q s) (f) (hf : ∀ x, ((f x).mem, (f x).store) = (x.mem, x.store)) : Ok q (State.modHlp s f) :=
  h.of rfl rfl rfl rfl rfl rfl (hf _) rfl

/-- The HLP's memory changes and stays in canonical form. -/
theorem State.modHlp_mem (h : Ok q s) (f : HlpSt → HlpSt) (hf : (f s.hlp).store = s.hlp.store)
    (hm : Memory.wf (fun _ => 0#8) (f s.hlp).mem = true) : Ok q (State.modHlp s f) :=
  h.stores rfl rfl rfl rfl rfl ⟨h.inv.stores.1, hm, h.inv.stores.2.2.1, by
    rw [show (s.modHlp f).hlp.store = s.hlp.store from hf]; exact h.inv.stores.2.2.2⟩

theorem State.setHb_ok (h : Ok q s) (a) (v) : Ok q (State.setHb s a v) :=
  ok_ite (fun _ => modHlp_mem h _ rfl (Memory.wf_set _ _ _ _ h.inv.stores.2.1)) fun _ => h

theorem State.setHbit_ok (h : Ok q s) (b) (v) : Ok q (State.setHbit s b v) := by
  unfold State.setHbit
  with_reducible repeat' first | assumption | apply State.setHb_ok | exact fun _ => rfl | intro _ | split

theorem State.setHword_ok (h : Ok q s) (a) (w) : Ok q (State.setHword s a w) :=
  ok_ite (fun _ => modHlp_mem h _ rfl (Memory.wf_setMany _ _ _ _ h.inv.stores.2.1)) fun _ => h

theorem State.modCoef_ok (h : Ok q s) (f) : Ok q (State.modCoef s f) := by
  unfold State.modCoef
  with_reducible repeat' first | assumption | exact fun _ => rfl | (apply Ok.mk'; first | assumption | exact fun _ => rfl) | exact rfl | intro _ | split

theorem State.markTiles_ok (h : Ok q s) (m) : Ok q (State.markTiles s m) := by
  unfold State.markTiles
  with_reducible repeat' first | assumption | apply State.setFld_ok | exact fun _ => rfl | intro _ | split

theorem State.showMark_ok (h : Ok q s)  : Ok q (State.showMark s) := by
  unfold State.showMark
  with_reducible repeat' first | assumption | apply State.setFlag_ok | exact fun _ => rfl | intro _ | split

theorem State.setMark_ok (h : Ok q s) (b) (v) : Ok q (State.setMark s b v) := by
  unfold State.setMark
  with_reducible repeat' first | assumption | apply State.showMark_ok | apply State.modCoef_ok | exact fun _ => rfl | (apply Ok.mk'; first | assumption | apply State.showMark_ok | apply State.modCoef_ok | exact fun _ => rfl) | exact rfl | intro _ | split

theorem State.unlock_ok (h : Ok q s)  : Ok q (State.unlock s) := by
  unfold State.unlock
  with_reducible repeat' first | assumption | apply State.setFlag_ok | apply State.modCoef_ok | exact fun _ => rfl | (apply Ok.mk'; first | assumption | apply State.setFlag_ok | apply State.modCoef_ok | exact fun _ => rfl) | exact rfl | intro _ | split

theorem State.endSwap_ok (h : Ok q s) (status) (res) : Ok q (State.endSwap s status res) := by
  unfold State.endSwap
  with_reducible repeat' first | assumption | apply State.complete_ok | exact fun _ => rfl | intro _ | split

theorem execCoefWrite_ok (h : Ok q s) (tag) : Good q (execCoefWrite tag s) := by
  unfold execCoefWrite
  with_reducible repeat' first | assumption | apply Good.next | apply good_ite | apply serve_ok | apply State.done_ok | apply State.modCoef_ok | apply State.setMark_ok | apply ok_ite | exact fun _ => rfl | intro _ | split

theorem execCoefCopy_ok (h : Ok q s) (tag) : Good q (execCoefCopy tag s) := by
  unfold execCoefCopy
  with_reducible repeat' first | assumption | apply Good.next | apply good_ite | apply serve_ok | apply State.done_ok | apply State.modCoef_ok | apply State.setMark_ok | apply State.markTiles_ok | apply State.complete_ok | apply ok_ite | exact fun _ => rfl | intro _ | split

theorem execCoefSwap_ok (h : Ok q s) (tag) : Good q (execCoefSwap tag s) := by
  unfold execCoefSwap
  with_reducible repeat' first | assumption | apply Good.next | apply good_ite | apply serve_ok | apply State.done_ok | apply State.setFlag_ok | apply State.start_ok | apply ok_ite | exact fun _ => rfl | intro _ | split

theorem execSwapVerifyComplete_ok (h : Ok q s)  : Good q (execSwapVerifyComplete s) := by
  unfold execSwapVerifyComplete
  with_reducible repeat' first | assumption | apply Good.next | apply good_ite | apply State.unlock_ok | apply State.markTiles_ok | apply State.setMark_ok | apply State.endSwap_ok | apply State.modCoef_ok | apply ok_ite | exact fun _ => rfl | (apply Ok.mk'; first | assumption | apply Good.next | apply good_ite | apply State.unlock_ok | apply State.markTiles_ok | apply State.setMark_ok | apply State.endSwap_ok | apply State.modCoef_ok | apply ok_ite | exact fun _ => rfl) | exact rfl | intro _ | split

theorem execSwapTakesEffect_ok (h : Ok q s)  : Good q (execSwapTakesEffect s) := by
  unfold execSwapTakesEffect
  with_reducible repeat' first | assumption | apply Good.next | apply good_ite | apply State.setFld_ok | apply State.unlock_ok | apply State.showMark_ok | apply State.post_ok | apply State.count_ok | apply State.forUnits_ok | apply State.obsSwap_ok | apply State.doneAt_ok | apply ok_ite | exact fun _ => rfl | (apply Ok.mk'; first | assumption | apply Good.next | apply good_ite | apply State.setFld_ok | apply State.unlock_ok | apply State.showMark_ok | apply State.post_ok | apply State.count_ok | apply State.forUnits_ok | apply State.obsSwap_ok | apply State.doneAt_ok | apply ok_ite | exact fun _ => rfl) | exact rfl | intro _ | split | dsimp only

theorem State.releaseOrSrs_ok (h : Ok q s)  : Ok q (State.releaseOrSrs s) := by
  unfold State.releaseOrSrs
  with_reducible repeat' first | assumption | apply State.releaseAct_ok | apply State.srsRequest_ok | apply ok_ite | exact fun _ => rfl | intro _ | split

theorem State.abortSwap_ok (h : Ok q s)  : Ok q (State.abortSwap s) := by
  unfold State.abortSwap
  with_reducible repeat' first | assumption | apply State.post_ok | apply State.unlock_ok | apply State.endSwap_ok | apply ok_ite | exact fun _ => rfl | (apply Ok.mk'; first | assumption | apply State.post_ok | apply State.unlock_ok | apply State.endSwap_ok | apply ok_ite | exact fun _ => rfl) | exact rfl | intro _ | split

theorem State.bankFail_ok (h : Ok q s) (b) (t) : Ok q (State.bankFail s b t) := by
  unfold State.bankFail
  with_reducible repeat' first | assumption | apply State.post_ok | apply State.setFlag_ok | apply State.markTiles_ok | apply State.setMark_ok | apply State.releaseOrSrs_ok | apply State.abortSwap_ok | apply ok_ite | exact fun _ => rfl | intro _ | split

theorem State.profFail_ok (h : Ok q s) (k) : Ok q (State.profFail s k) := by
  unfold State.profFail
  with_reducible repeat' first | assumption | apply State.post_ok | apply State.post_ok | apply ok_ite | exact fun _ => rfl | (apply Ok.mk'; first | assumption | apply State.post_ok | apply State.post_ok | apply ok_ite | exact fun _ => rfl) | exact rfl | intro _ | split | dsimp only

theorem State.tileFail_ok (h : Ok q s) (c) (t) : Ok q (State.tileFail s c t) := by
  unfold State.tileFail
  with_reducible repeat' first | assumption | apply State.bankFail_ok | apply State.profFail_ok | apply State.post_ok | apply State.setFlag_ok | apply State.modCoef_ok | apply State.found_ok | apply ok_ite | exact fun _ => rfl | intro _ | split | dsimp only

theorem execScrubTileCheck_ok (h : Ok q s) (store) (tile) (upset) : Good q (execScrubTileCheck store tile upset s) := by
  unfold execScrubTileCheck
  with_reducible repeat' first | assumption | apply Good.next | apply good_ite | apply State.modCoef_ok | apply State.count_ok | apply State.tileFail_ok | apply ok_ite | exact fun _ => rfl | intro _ | split | dsimp only

theorem execConfigTileRewrite_ok (h : Ok q s) (tile) : Good q (execConfigTileRewrite tile s) := by
  unfold execConfigTileRewrite
  with_reducible repeat' first | assumption | apply Good.next | apply good_ite | apply State.modCoef_ok | exact fun _ => rfl | intro _ | split

theorem execCtxPreset_ok (h : Ok q s) (tag) : Good q (execCtxPreset tag s) := by
  unfold execCtxPreset
  with_reducible repeat' first | assumption | apply Good.next | apply good_ite | apply serve_ok | apply State.done_ok | apply State.start_ok | apply ok_ite | exact fun _ => rfl | intro _ | split

theorem State.preset_ok (h : Ok q s) (e) : Ok q (State.preset s e) := by
  unfold State.preset
  with_reducible repeat' first | assumption | apply State.modCtx_ok | apply State.setCwords_ok | apply State.setCflag_ok | exact fun _ => rfl | intro _ | split

theorem execPresetTakesEffect_ok (h : Ok q s) (tag) : Good q (execPresetTakesEffect tag s) := by
  unfold execPresetTakesEffect
  with_reducible repeat' first | assumption | apply Good.next | apply good_ite | apply State.doneAt_ok | apply State.preset_ok | apply ok_ite | exact fun _ => rfl | intro _ | split

theorem State.applyTile_ok (h : Ok q s)  : Ok q (State.applyTile s) := by
  unfold State.applyTile
  with_reducible repeat' first | assumption | apply State.forUnits_ok | apply State.setFlag_ok | apply State.stwEn_ok | exact fun _ => rfl | intro _ | split

theorem execSafCfgStage_ok (h : Ok q s) (tag) : Good q (execSafCfgStage tag s) := by
  unfold execSafCfgStage
  with_reducible repeat' first | assumption | apply Good.next | apply good_ite | apply serve_ok | apply State.done_ok | apply State.modStw_ok | apply ok_ite | exact fun _ => rfl | (apply Ok.mk'; first | assumption | apply Good.next | apply good_ite | apply serve_ok | apply State.done_ok | apply State.modStw_ok | apply ok_ite | exact fun _ => rfl) | exact rfl | intro _ | split

theorem execSafCfgRead_ok (h : Ok q s) (tag) : Good q (execSafCfgRead tag s) := by
  unfold execSafCfgRead
  with_reducible repeat' first | assumption | apply Good.next | apply good_ite | apply serve_ok | apply State.done_ok | apply State.complete_ok | apply ok_ite | exact fun _ => rfl | intro _ | split

theorem State.prepare_ok (h : Ok q s) (e) (states) : Ok q (State.prepare s e states) := by
  unfold State.prepare
  with_reducible repeat' first | assumption | apply State.done_ok | apply State.complete_ok | apply State.bump_ok | apply ok_ite | exact fun _ => rfl | ((first | apply Ok.mk' | apply Ok.mkFcp); first | assumption | apply State.done_ok | apply State.complete_ok | apply State.bump_ok | apply ok_ite | exact fun _ => rfl) | exact rfl | intro _ | split

theorem execSafArm_ok (h : Ok q s) (tag) : Good q (execSafArm tag s) := by
  unfold execSafArm
  with_reducible repeat' first | assumption | apply Good.next | apply good_ite | apply serve_ok | apply State.prepare_ok | exact fun _ => rfl | intro _ | split

theorem execSafDisarm_ok (h : Ok q s) (tag) : Good q (execSafDisarm tag s) := by
  unfold execSafDisarm
  with_reducible repeat' first | assumption | apply Good.next | apply good_ite | apply serve_ok | apply State.prepare_ok | exact fun _ => rfl | intro _ | split

theorem execSafReset_ok (h : Ok q s) (tag) : Good q (execSafReset tag s) := by
  unfold execSafReset
  with_reducible repeat' first | assumption | apply Good.next | apply good_ite | apply serve_ok | apply State.prepare_ok | exact fun _ => rfl | intro _ | split

theorem execSafCfgCommit_ok (h : Ok q s) (tag) : Good q (execSafCfgCommit tag s) := by
  unfold execSafCfgCommit
  with_reducible repeat' first | assumption | apply Good.next | apply good_ite | apply serve_ok | apply State.prepare_ok | exact fun _ => rfl | intro _ | split

theorem State.runTest_ok (h : Ok q s) (t) (gden) : Ok q (State.runTest s t gden) := by
  unfold State.runTest
  with_reducible repeat' first | assumption | apply State.haltAll_ok | apply State.cond_ok | apply State.modStw_ok | apply State.setFld_ok | apply ok_ite | exact fun _ => rfl | intro _ | split | dsimp only

theorem State.toArmed_ok (h : Ok q s)  : Ok q (State.toArmed s) := by
  unfold State.toArmed
  with_reducible repeat' first | assumption | apply State.setFld_ok | apply State.toStw_ok | apply State.modStw_ok | exact fun _ => rfl | (apply Ok.mk'; first | assumption | apply State.setFld_ok | apply State.toStw_ok | apply State.modStw_ok | exact fun _ => rfl) | exact rfl | intro _ | split

theorem State.armNow_ok (h : Ok q s) (tag) (test) : Ok q (State.armNow s tag test) := by
  unfold State.armNow
  with_reducible repeat' first | assumption | apply State.done_ok | apply State.cond_ok | apply State.runTest_ok | apply State.setFld_ok | apply State.complete_ok | apply State.toArmed_ok | apply ok_ite | exact fun _ => rfl | intro _ | split | dsimp only

theorem State.disarmNow_ok (h : Ok q s) (tag) : Ok q (State.disarmNow s tag) := by
  unfold State.disarmNow
  with_reducible repeat' first | assumption | apply State.done_ok | apply State.toStw_ok | apply ok_ite | exact fun _ => rfl | intro _ | split

theorem State.endDiscrepancies_ok (h : Ok q s)  : Ok q (State.endDiscrepancies s) := by
  unfold State.endDiscrepancies
  with_reducible repeat' first | assumption | apply State.inputActive_ok | apply State.setFld_ok | apply State.modStw_ok | apply foldl_ok | exact fun _ => rfl | (apply Ok.mk'; first | assumption | apply State.inputActive_ok | apply State.setFld_ok | apply State.modStw_ok | apply foldl_ok | exact fun _ => rfl) | exact rfl | intro _ | split

theorem State.resetNow_ok (h : Ok q s) (tag) (test) : Ok q (State.resetNow s tag test) := by
  unfold State.resetNow
  with_reducible repeat' first | assumption | apply State.done_ok | apply State.endDiscrepancies_ok | apply State.runTest_ok | apply State.modStw_ok | apply State.setFlag_ok | apply State.cond_ok | apply State.toArmed_ok | apply ok_ite | exact fun _ => rfl | intro _ | split | dsimp only

theorem State.commitTile_ok (h : Ok q s) (tag) (crc) : Ok q (State.commitTile s tag crc) := by
  unfold State.commitTile
  with_reducible repeat' first | assumption | apply State.done_ok | apply State.complete_ok | apply State.modStw_ok | apply State.found_ok | apply State.setFlag_ok | apply State.applyTile_ok | apply ok_ite | exact fun _ => rfl | (apply Ok.mk'; first | assumption | apply State.done_ok | apply State.complete_ok | apply State.modStw_ok | apply State.found_ok | apply State.setFlag_ok | apply State.applyTile_ok | apply ok_ite | exact fun _ => rfl) | exact rfl | intro _ | split | dsimp only

theorem execSafConfirm_ok (h : Ok q s) (tag) (test) : Good q (execSafConfirm tag test s) := by
  unfold execSafConfirm
  with_reducible repeat' first | assumption | apply Good.next | apply good_ite | apply serve_ok | apply State.complete_ok | apply State.armNow_ok | apply State.disarmNow_ok | apply State.resetNow_ok | apply State.commitTile_ok | apply ok_ite | exact fun _ => rfl | (apply Ok.mk'; first | assumption | apply Good.next | apply good_ite | apply serve_ok | apply State.complete_ok | apply State.armNow_ok | apply State.disarmNow_ok | apply State.resetNow_ok | apply State.commitTile_ok | apply ok_ite | exact fun _ => rfl) | (apply Ok.mkFcp; first | assumption | apply Good.next | apply good_ite | apply serve_ok | apply State.complete_ok | apply State.armNow_ok | apply State.disarmNow_ok | apply State.resetNow_ok | apply State.commitTile_ok | apply ok_ite | exact fun _ => rfl) | exact rfl | intro _ | split | dsimp only

theorem execSafConfirmTimeout_ok (h : Ok q s)  : Good q (execSafConfirmTimeout s) := by
  unfold execSafConfirmTimeout
  with_reducible repeat' first | assumption | apply Good.next | apply good_ite | exact fun _ => rfl | ((first | apply Ok.mk' | apply Ok.mkFcp); first | assumption | apply Good.next | apply good_ite | exact fun _ => rfl) | exact rfl | intro _ | split

theorem State.diCount_ok (h : Ok q s) (n) (raw) : Ok q (State.diCount s n raw) := by
  unfold State.diCount
  with_reducible repeat' first | assumption | apply State.setFld_ok | apply ok_ite | exact fun _ => rfl | (apply Ok.mk'; first | assumption | apply State.setFld_ok | apply ok_ite | exact fun _ => rfl) | exact rfl | intro _ | split

theorem execDiSample_ok (h : Ok q s) (mv) : Good q (execDiSample mv s) := by
  unfold execDiSample
  with_reducible repeat' first | assumption | apply Good.next | apply good_ite | apply State.forUnits_ok | apply State.setFld_ok | apply State.diCount_ok | apply State.cond_ok | apply State.siHigh_ok | apply State.diDiscrepancies_ok | apply ok_ite | exact fun _ => rfl | intro _ | split

theorem execBankRefresh_ok (h : Ok q s) (pins) : Good q (execBankRefresh pins s) := by
  unfold execBankRefresh
  with_reducible repeat' first | assumption | apply Good.next | apply good_ite | apply State.setFld_ok | apply State.setFlag_ok | apply State.doSync_ok | apply State.readPins_ok | apply ok_ite | exact fun _ => rfl | (apply Ok.mk'; first | assumption | apply Good.next | apply good_ite | apply State.setFld_ok | apply State.setFlag_ok | apply State.doSync_ok | apply State.readPins_ok | apply ok_ite | exact fun _ => rfl) | exact rfl | intro _ | split | dsimp only

theorem execSilenceTimeout_ok (h : Ok q s)  : Good q (execSilenceTimeout s) := by
  unfold execSilenceTimeout
  with_reducible repeat' first | assumption | apply Good.next | apply good_ite | apply State.setFlag_ok | apply State.setFld_ok | apply State.doSync_ok | apply State.count_ok | apply State.post_ok | apply ok_ite | exact fun _ => rfl | intro _ | split | dsimp only

theorem execDoOverload_ok (h : Ok q s) (out) : Good q (execDoOverload out s) := by
  unfold execDoOverload
  with_reducible repeat' first | assumption | apply Good.next | apply good_ite | apply State.setFld_ok | apply State.doSync_ok | apply State.count_ok | apply State.post_ok | apply ok_ite | exact fun _ => rfl | intro _ | split | dsimp only

theorem execTpOverload_ok (h : Ok q s) (tp) : Good q (execTpOverload tp s) := by
  unfold execTpOverload
  with_reducible repeat' first | assumption | apply Good.next | apply good_ite | apply State.setFld_ok | apply ok_ite | exact fun _ => rfl | intro _ | split | dsimp only

theorem State.vfield_ok (h : Ok q s) (f) (on) : Ok q (State.vfield s f on) := by
  unfold State.vfield
  with_reducible repeat' first | assumption | apply State.setFlag_ok | apply State.doSync_ok | apply State.post_ok | apply ok_ite | exact fun _ => rfl | intro _ | split | dsimp only

theorem execVfieldUvChange_ok (h : Ok q s) (on) : Good q (execVfieldUvChange on s) := by
  unfold execVfieldUvChange
  with_reducible repeat' first | assumption | apply Good.next | apply good_ite | apply State.vfield_ok | exact fun _ => rfl | intro _ | split

theorem execVfieldOvChange_ok (h : Ok q s) (on) : Good q (execVfieldOvChange on s) := by
  unfold execVfieldOvChange
  with_reducible repeat' first | assumption | apply Good.next | apply good_ite | apply State.vfield_ok | exact fun _ => rfl | intro _ | split

theorem State.insn_ok (h : Ok q s) (op x : Nat) {f} (hf : ∀ t, Ok q t → Ok q (f t)) : Good q (State.insn s op x f) := by
  unfold State.insn
  refine .next ?_
  split
  · exact hf _ (modHlp_ok h _ (by exact fun _ => rfl))
  · exact h

theorem State.setA_ok (h : Ok q s) (b) : Ok q (State.setA s b) := by
  unfold State.setA
  with_reducible repeat' first | assumption | apply State.modHlp_ok | exact fun _ => rfl | (apply Ok.mk'; first | assumption | apply State.modHlp_ok | exact fun _ => rfl) | exact rfl | intro _ | split

theorem State.setW_ok (h : Ok q s) (w) : Ok q (State.setW s w) := by
  unfold State.setW
  with_reducible repeat' first | assumption | apply State.modHlp_ok | exact fun _ => rfl | (apply Ok.mk'; first | assumption | apply State.modHlp_ok | exact fun _ => rfl) | exact rfl | intro _ | split

theorem State.jump_ok (h : Ok q s) (i) : Ok q (State.jump s i) := by
  unfold State.jump
  with_reducible repeat' first | assumption | apply State.modHlp_ok | exact fun _ => rfl | (apply Ok.mk'; first | assumption | apply State.modHlp_ok | exact fun _ => rfl) | exact rfl | intro _ | split

theorem State.bitInsn_ok (h : Ok q s) (op) (b) (f) : Good q (State.bitInsn s op b f) := by
  unfold State.bitInsn
  with_reducible repeat' first | assumption | apply Good.next | apply good_ite | apply State.insn_ok | apply State.setA_ok | apply ok_ite | exact fun _ => rfl | intro _ | split | dsimp only

theorem State.popInsn_ok (h : Ok q s) (op) (f) : Good q (State.popInsn s op f) := by
  unfold State.popInsn
  with_reducible repeat' first | assumption | apply Good.next | apply good_ite | apply State.insn_ok | apply State.modHlp_ok | apply ok_ite | exact fun _ => rfl | intro _ | split | dsimp only

theorem State.cmpInsn_ok (h : Ok q s) (op) (w) (f) : Good q (State.cmpInsn s op w f) := by
  unfold State.cmpInsn
  with_reducible repeat' first | assumption | apply Good.next | apply good_ite | apply State.insn_ok | apply State.setA_ok | apply ok_ite | exact fun _ => rfl | intro _ | split | dsimp only

theorem State.timer_ok (h : Ok q s) (x) (f) : Ok q (State.timer s x f) := by
  unfold State.timer
  with_reducible repeat' first | assumption | apply State.setHword_ok | apply State.modHlp_ok | apply ok_ite | exact fun _ => rfl | intro _ | split | dsimp only

theorem State.counter_ok (h : Ok q s) (x) (d) (f) : Ok q (State.counter s x d f) := by
  unfold State.counter
  with_reducible repeat' first | assumption | apply State.setA_ok | apply State.setHword_ok | exact fun _ => rfl | intro _ | split

theorem execHlpNop_ok (h : Ok q s) : Good q (execHlpNop s) := State.insn_ok h _ _ fun _ ht => ht

theorem execHlpLd_ok (h : Ok q s) (b) : Good q (execHlpLd b s) := by
  unfold execHlpLd
  with_reducible repeat' first | assumption | apply Good.next | apply good_ite | apply State.bitInsn_ok | apply ok_ite | exact fun _ => rfl | intro _ | split | dsimp only

theorem execHlpLdn_ok (h : Ok q s) (b) : Good q (execHlpLdn b s) := by
  unfold execHlpLdn
  with_reducible repeat' first | assumption | apply Good.next | apply good_ite | apply State.bitInsn_ok | apply ok_ite | exact fun _ => rfl | intro _ | split | dsimp only

theorem execHlpAnd_ok (h : Ok q s) (b) : Good q (execHlpAnd b s) := by
  unfold execHlpAnd
  with_reducible repeat' first | assumption | apply Good.next | apply good_ite | apply State.bitInsn_ok | apply ok_ite | exact fun _ => rfl | intro _ | split | dsimp only

theorem execHlpAndn_ok (h : Ok q s) (b) : Good q (execHlpAndn b s) := by
  unfold execHlpAndn
  with_reducible repeat' first | assumption | apply Good.next | apply good_ite | apply State.bitInsn_ok | apply ok_ite | exact fun _ => rfl | intro _ | split | dsimp only

theorem execHlpOr_ok (h : Ok q s) (b) : Good q (execHlpOr b s) := by
  unfold execHlpOr
  with_reducible repeat' first | assumption | apply Good.next | apply good_ite | apply State.bitInsn_ok | apply ok_ite | exact fun _ => rfl | intro _ | split | dsimp only

theorem execHlpOrn_ok (h : Ok q s) (b) : Good q (execHlpOrn b s) := by
  unfold execHlpOrn
  with_reducible repeat' first | assumption | apply Good.next | apply good_ite | apply State.bitInsn_ok | apply ok_ite | exact fun _ => rfl | intro _ | split | dsimp only

theorem execHlpXor_ok (h : Ok q s) (b) : Good q (execHlpXor b s) := by
  unfold execHlpXor
  with_reducible repeat' first | assumption | apply Good.next | apply good_ite | apply State.bitInsn_ok | apply ok_ite | exact fun _ => rfl | intro _ | split | dsimp only

theorem execHlpPush_ok (h : Ok q s)  : Good q (execHlpPush s) := by
  unfold execHlpPush
  with_reducible repeat' first | assumption | apply Good.next | apply good_ite | apply State.insn_ok | apply State.modHlp_ok | apply ok_ite | exact fun _ => rfl | intro _ | split | dsimp only

theorem execHlpAndp_ok (h : Ok q s)  : Good q (execHlpAndp s) := by
  unfold execHlpAndp
  with_reducible repeat' first | assumption | apply Good.next | apply good_ite | apply State.popInsn_ok | apply ok_ite | exact fun _ => rfl | intro _ | split | dsimp only

theorem execHlpOrp_ok (h : Ok q s)  : Good q (execHlpOrp s) := by
  unfold execHlpOrp
  with_reducible repeat' first | assumption | apply Good.next | apply good_ite | apply State.popInsn_ok | apply ok_ite | exact fun _ => rfl | intro _ | split | dsimp only

theorem execHlpNot_ok (h : Ok q s)  : Good q (execHlpNot s) := by
  unfold execHlpNot
  with_reducible repeat' first | assumption | apply Good.next | apply good_ite | apply State.insn_ok | apply State.setA_ok | apply ok_ite | exact fun _ => rfl | intro _ | split | dsimp only

theorem execHlpEdge_ok (h : Ok q s) (b) : Good q (execHlpEdge b s) := by
  unfold execHlpEdge
  with_reducible repeat' first | assumption | apply Good.next | apply good_ite | apply State.insn_ok | apply State.setHbit_ok | apply State.setA_ok | apply ok_ite | exact fun _ => rfl | intro _ | split | dsimp only

theorem execHlpSt_ok (h : Ok q s) (b) : Good q (execHlpSt b s) := by
  unfold execHlpSt
  with_reducible repeat' first | assumption | apply Good.next | apply good_ite | apply State.insn_ok | apply State.setHbit_ok | apply ok_ite | exact fun _ => rfl | intro _ | split | dsimp only

theorem execHlpStn_ok (h : Ok q s) (b) : Good q (execHlpStn b s) := by
  unfold execHlpStn
  with_reducible repeat' first | assumption | apply Good.next | apply good_ite | apply State.insn_ok | apply State.setHbit_ok | apply ok_ite | exact fun _ => rfl | intro _ | split | dsimp only

theorem execHlpSet_ok (h : Ok q s) (b) : Good q (execHlpSet b s) := by
  unfold execHlpSet
  with_reducible repeat' first | assumption | apply Good.next | apply good_ite | apply State.insn_ok | apply State.cond_ok | apply State.setHbit_ok | apply ok_ite | exact fun _ => rfl | intro _ | split | dsimp only

theorem execHlpRst_ok (h : Ok q s) (b) : Good q (execHlpRst b s) := by
  unfold execHlpRst
  with_reducible repeat' first | assumption | apply Good.next | apply good_ite | apply State.insn_ok | apply State.cond_ok | apply State.setHbit_ok | apply ok_ite | exact fun _ => rfl | intro _ | split | dsimp only

theorem execHlpTon_ok (h : Ok q s) (w) : Good q (execHlpTon w s) := by
  unfold execHlpTon
  with_reducible repeat' first | assumption | apply Good.next | apply good_ite | apply State.insn_ok | apply State.timer_ok | apply ok_ite | exact fun _ => rfl | intro _ | split | dsimp only

theorem execHlpTof_ok (h : Ok q s) (w) : Good q (execHlpTof w s) := by
  unfold execHlpTof
  with_reducible repeat' first | assumption | apply Good.next | apply good_ite | apply State.insn_ok | apply State.timer_ok | apply ok_ite | exact fun _ => rfl | intro _ | split | dsimp only

theorem execHlpTp_ok (h : Ok q s) (w) : Good q (execHlpTp w s) := by
  unfold execHlpTp
  with_reducible repeat' first | assumption | apply Good.next | apply good_ite | apply State.insn_ok | apply State.timer_ok | apply ok_ite | exact fun _ => rfl | intro _ | split | dsimp only

theorem execHlpCtu_ok (h : Ok q s) (w) : Good q (execHlpCtu w s) := by
  unfold execHlpCtu
  with_reducible repeat' first | assumption | apply Good.next | apply good_ite | apply State.insn_ok | apply State.counter_ok | apply ok_ite | exact fun _ => rfl | intro _ | split | dsimp only

theorem execHlpCtd_ok (h : Ok q s) (w) : Good q (execHlpCtd w s) := by
  unfold execHlpCtd
  with_reducible repeat' first | assumption | apply Good.next | apply good_ite | apply State.insn_ok | apply State.counter_ok | apply ok_ite | exact fun _ => rfl | intro _ | split | dsimp only

theorem execHlpCrs_ok (h : Ok q s) (w) : Good q (execHlpCrs w s) := by
  unfold execHlpCrs
  with_reducible repeat' first | assumption | apply Good.next | apply good_ite | apply State.insn_ok | apply State.cond_ok | apply State.setHword_ok | apply ok_ite | exact fun _ => rfl | intro _ | split | dsimp only

theorem execHlpLw_ok (h : Ok q s) (w) : Good q (execHlpLw w s) := by
  unfold execHlpLw
  with_reducible repeat' first | assumption | apply Good.next | apply good_ite | apply State.insn_ok | apply State.setW_ok | apply ok_ite | exact fun _ => rfl | intro _ | split | dsimp only

theorem execHlpLk_ok (h : Ok q s) (k) : Good q (execHlpLk k s) := by
  unfold execHlpLk
  with_reducible repeat' first | assumption | apply Good.next | apply good_ite | apply State.insn_ok | apply State.setW_ok | apply ok_ite | exact fun _ => rfl | intro _ | split | dsimp only

theorem execHlpSw_ok (h : Ok q s) (w) : Good q (execHlpSw w s) := by
  unfold execHlpSw
  with_reducible repeat' first | assumption | apply Good.next | apply good_ite | apply State.insn_ok | apply State.setHword_ok | apply ok_ite | exact fun _ => rfl | intro _ | split | dsimp only

theorem execHlpMov_ok (h : Ok q s) (w) : Good q (execHlpMov w s) := by
  unfold execHlpMov
  with_reducible repeat' first | assumption | apply Good.next | apply good_ite | apply State.insn_ok | apply State.cond_ok | apply State.setHword_ok | apply ok_ite | exact fun _ => rfl | intro _ | split | dsimp only

theorem execHlpAdd_ok (h : Ok q s) (w) : Good q (execHlpAdd w s) := by
  unfold execHlpAdd
  with_reducible repeat' first | assumption | apply Good.next | apply good_ite | apply State.insn_ok | apply State.setW_ok | apply ok_ite | exact fun _ => rfl | intro _ | split | dsimp only

theorem execHlpSub_ok (h : Ok q s) (w) : Good q (execHlpSub w s) := by
  unfold execHlpSub
  with_reducible repeat' first | assumption | apply Good.next | apply good_ite | apply State.insn_ok | apply State.setW_ok | apply ok_ite | exact fun _ => rfl | intro _ | split | dsimp only

theorem execHlpCeq_ok (h : Ok q s) (w) : Good q (execHlpCeq w s) := by
  unfold execHlpCeq
  with_reducible repeat' first | assumption | apply Good.next | apply good_ite | apply State.cmpInsn_ok | apply ok_ite | exact fun _ => rfl | intro _ | split | dsimp only

theorem execHlpCne_ok (h : Ok q s) (w) : Good q (execHlpCne w s) := by
  unfold execHlpCne
  with_reducible repeat' first | assumption | apply Good.next | apply good_ite | apply State.cmpInsn_ok | apply ok_ite | exact fun _ => rfl | intro _ | split | dsimp only

theorem execHlpClt_ok (h : Ok q s) (w) : Good q (execHlpClt w s) := by
  unfold execHlpClt
  with_reducible repeat' first | assumption | apply Good.next | apply good_ite | apply State.cmpInsn_ok | apply ok_ite | exact fun _ => rfl | intro _ | split | dsimp only

theorem execHlpCle_ok (h : Ok q s) (w) : Good q (execHlpCle w s) := by
  unfold execHlpCle
  with_reducible repeat' first | assumption | apply Good.next | apply good_ite | apply State.cmpInsn_ok | apply ok_ite | exact fun _ => rfl | intro _ | split | dsimp only

theorem execHlpCgt_ok (h : Ok q s) (w) : Good q (execHlpCgt w s) := by
  unfold execHlpCgt
  with_reducible repeat' first | assumption | apply Good.next | apply good_ite | apply State.cmpInsn_ok | apply ok_ite | exact fun _ => rfl | intro _ | split | dsimp only

theorem execHlpCge_ok (h : Ok q s) (w) : Good q (execHlpCge w s) := by
  unfold execHlpCge
  with_reducible repeat' first | assumption | apply Good.next | apply good_ite | apply State.cmpInsn_ok | apply ok_ite | exact fun _ => rfl | intro _ | split | dsimp only

theorem execHlpFlt_ok (h : Ok q s) (w) : Good q (execHlpFlt w s) := by
  unfold execHlpFlt
  with_reducible repeat' first | assumption | apply Good.next | apply good_ite | apply State.cmpInsn_ok | apply ok_ite | exact fun _ => rfl | intro _ | split | dsimp only

theorem execHlpFgt_ok (h : Ok q s) (w) : Good q (execHlpFgt w s) := by
  unfold execHlpFgt
  with_reducible repeat' first | assumption | apply Good.next | apply good_ite | apply State.cmpInsn_ok | apply ok_ite | exact fun _ => rfl | intro _ | split | dsimp only

theorem execHlpJmp_ok (h : Ok q s) (i) : Good q (execHlpJmp i s) := by
  unfold execHlpJmp
  with_reducible repeat' first | assumption | apply Good.next | apply good_ite | apply State.insn_ok | apply State.jump_ok | apply ok_ite | exact fun _ => rfl | intro _ | split | dsimp only

theorem execHlpJc_ok (h : Ok q s) (i) : Good q (execHlpJc i s) := by
  unfold execHlpJc
  with_reducible repeat' first | assumption | apply Good.next | apply good_ite | apply State.insn_ok | apply State.cond_ok | apply State.jump_ok | apply ok_ite | exact fun _ => rfl | intro _ | split | dsimp only

theorem execHlpJnc_ok (h : Ok q s) (i) : Good q (execHlpJnc i s) := by
  unfold execHlpJnc
  with_reducible repeat' first | assumption | apply Good.next | apply good_ite | apply State.insn_ok | apply State.cond_ok | apply State.jump_ok | apply ok_ite | exact fun _ => rfl | intro _ | split | dsimp only

theorem execHlpEnd_ok (h : Ok q s)  : Good q (execHlpEnd s) := by
  unfold execHlpEnd
  with_reducible repeat' first | assumption | apply Good.next | apply good_ite | apply State.insn_ok | apply State.modHlp_ok | apply ok_ite | exact fun _ => rfl | intro _ | split | dsimp only

theorem execHlpAdcr_ok (h : Ok q s) (req) : Good q (execHlpAdcr req s) := by
  unfold execHlpAdcr
  with_reducible repeat' first | assumption | apply Good.next | apply good_ite | apply State.insn_ok | apply State.cond_ok | apply State.urgent_ok | apply ok_ite | exact fun _ => rfl | intro _ | split | dsimp only

theorem State.endAll_ok (h : Ok q s) (op) (status) : Ok q (State.endAll s op status) := by
  unfold State.endAll
  with_reducible repeat' first | assumption | apply State.done_ok | apply foldl_ok | exact fun _ => rfl | intro _ | split

theorem State.toHlp_ok (h : Ok q s) (n) : Ok q (State.toHlp s n) := by
  unfold State.toHlp
  with_reducible repeat' first | assumption | apply State.post_ok | apply State.setFld_ok | exact fun _ => rfl | intro _ | split

theorem State.hlpClear_ok (h : Ok q s)  : Ok q (State.hlpClear s) := by
  unfold State.hlpClear
  with_reducible repeat' first | assumption | apply State.modHlp_ok | apply ok_ite | exact fun _ => rfl | intro _ | split | dsimp only

theorem State.hlpFix_ok (h : Ok q s) (t) : Ok q (State.hlpFix s t) := by
  unfold State.hlpFix
  with_reducible repeat' first | assumption | apply State.modHlp_ok | apply State.count_ok | exact fun _ => rfl | (apply Ok.mk'; first | assumption | apply State.modHlp_ok | apply State.count_ok | exact fun _ => rfl) | exact rfl | intro _ | split

theorem State.hlpFixes_ok (h : Ok q s) : Ok q (State.hlpFixes s) := by
  unfold State.hlpFixes
  with_reducible repeat' first | assumption | apply State.hlpFix_ok | apply foldl_ok | apply foldl_ok | apply ok_ite | exact fun _ => rfl | intro _ | split | dsimp only

theorem State.hlpHalt_ok (h : Ok q s) (why) : Ok q (State.hlpHalt s why) := by
  unfold State.hlpHalt
  with_reducible repeat' first | assumption | apply State.setFld_ok | apply State.toHlp_ok | apply State.hlpClear_ok | apply State.hlpFixes_ok | apply State.doSync_ok | apply State.endAll_ok | apply State.cond_ok | apply State.srsRequest_ok | apply State.modHlp_ok | apply ok_ite | exact fun _ => rfl | intro _ | split | dsimp only

theorem State.hlpStop_ok (h : Ok q s)  : Ok q (State.hlpStop s) := by
  unfold State.hlpStop
  with_reducible repeat' first | assumption | apply State.toHlp_ok | apply State.hlpClear_ok | apply State.hlpFixes_ok | apply State.setFld_ok | apply State.doSync_ok | apply State.modHlp_ok | apply State.endAll_ok | apply ok_ite | exact fun _ => rfl | intro _ | split | dsimp only

/-- The HLP's retained store changes and stays in canonical form. -/
theorem State.modHlp_store (h : Ok q s) (f : HlpSt → HlpSt) (hm : (f s.hlp).mem = s.hlp.mem)
    (hf : ∀ k b, vget (f s.hlp).store k = some b → Memory.wf (fun _ => 0#8) b.area = true) : Ok q (State.modHlp s f) :=
  h.stores rfl rfl rfl rfl rfl ⟨h.inv.stores.1, by
    rw [show (s.modHlp f).hlp.mem = s.hlp.mem from hm]; exact h.inv.stores.2.1, h.inv.stores.2.2.1, hf⟩

/-- With one buffer replaced by one in canonical form, both are. -/
theorem buffer_wf {v : Vector (Option RetBuf) 2} {k0 : Nat} {x : RetBuf}
    (h : ∀ k b, vget v k = some b → Memory.wf (fun _ => 0#8) b.area = true) (hx : Memory.wf (fun _ => 0#8) x.area = true) (k : Nat)
    (b : RetBuf) (hb : vget (vmod v k0 fun _ => some x) k = some b) : Memory.wf (fun _ => 0#8) b.area = true := by
  rw [vget_vmod] at hb
  split at hb
  · rw [← Option.some.inj hb]; exact hx
  · exact h k b hb

theorem State.commitRetained_ok (h : Ok q s) : Ok q (State.commitRetained s) := by
  unfold State.commitRetained
  dsimp only
  exact setFlag_ok (modHlp_store h _ rfl (buffer_wf h.inv.stores.2.2.2 (Memory.wf_filter _ _ _ h.inv.stores.2.1))) _ _ _

theorem State.retained_wf (h : Ok q s) {b : RetBuf} (hb : s.retained = some b) : Memory.wf (fun _ => 0#8) b.area = true := by
  unfold State.retained newerBuf at hb
  have h0 := h.inv.stores.2.2.2 0 b
  have h1 := h.inv.stores.2.2.2 1 b
  generalize vget s.hlp.store 0 = x at *
  generalize vget s.hlp.store 1 = y at *
  cases x <;> cases y <;> simp only [Option.filter_none, Option.filter_some] at hb
  all_goals (repeat' split at hb) <;> simp_all

theorem State.hlpRestart_ok (h : Ok q s) (cold) (recovery) : Ok q (State.hlpRestart s cold recovery) := by
  unfold State.hlpRestart
  dsimp only
  refine toHlp_ok (setFld_ok (setFld_ok (modHlp_ok ?_ _ (by exact fun _ => rfl)) _ _ _) _ _ _) _
  with_reducible refine Ok.mk' ?_ rfl rfl
  refine modHlp_mem (hlpClear_ok h) _ rfl ?_
  dsimp only
  split
  · rfl
  · split
    · exact retained_wf h ‹_›
    · rfl

theorem State.hlpAuto_ok (h : Ok q s)  : Ok q (State.hlpAuto s) := by
  unfold State.hlpAuto
  with_reducible repeat' first | assumption | apply State.cond_ok | apply State.hlpRestart_ok | apply ok_ite | exact fun _ => rfl | intro _ | split | dsimp only

theorem State.hlpWake_ok (h : Ok q s) : Ok q (State.hlpWake s) := by
  unfold State.hlpWake
  with_reducible repeat' first | assumption | apply State.cond_ok | apply State.hlpRestart_ok | apply ok_ite | exact fun _ => rfl | intro _ | split | dsimp only

theorem State.hlpCapture_ok (h : Ok q s)  : Ok q (State.hlpCapture s) := by
  unfold State.hlpCapture
  with_reducible repeat' first | assumption | apply State.modHlp_ok | apply ok_ite | exact fun _ => rfl | (apply Ok.mk'; first | assumption | apply State.modHlp_ok | apply ok_ite | exact fun _ => rfl) | exact rfl | intro _ | split

theorem wf_foldl {α β : Type} [DecidableEq α] {d : Nat → α} {f : Memory α → β → Memory α} (l : List β) (m : Memory α)
    (h : Memory.wf d m = true) (hf : ∀ m x, Memory.wf d m = true → Memory.wf d (f m x) = true) : Memory.wf d (l.foldl f m) = true := by
  induction l generalizing m with
  | nil => exact h
  | cons x l ih => exact ih _ (hf m x h)

theorem State.hlpApply_ok (h : Ok q s) : Ok q (State.hlpApply s) :=
  ok_ite (fun _ => modHlp_mem h _ rfl (wf_foldl _ _ h.inv.stores.2.1 fun _ _ => Memory.wf_setMany _ _ _ _)) fun _ => h

theorem State.olcApply_ok (h : Ok q s) (pay) (i) : Ok q (State.olcApply s pay i) := by
  unfold State.olcApply
  with_reducible repeat' first | assumption | apply State.setHbit_ok | apply State.setHb_ok | apply State.setHword_ok | apply State.modHlp_ok | exact fun _ => rfl | (apply Ok.mk'; first | assumption | apply State.setHbit_ok | apply State.setHb_ok | apply State.setHword_ok | apply State.modHlp_ok | exact fun _ => rfl) | exact rfl | intro _ | split

theorem State.olcEnd_ok (h : Ok q s) (e) : Ok q (State.olcEnd s e) := by
  unfold State.olcEnd
  with_reducible repeat' first | assumption | apply State.count_ok | apply State.forUnits_ok | apply State.olcApply_ok | apply State.complete_ok | exact fun _ => rfl | intro _ | split

theorem State.hlpOlc_ok (h : Ok q s)  : Ok q (State.hlpOlc s) := by
  unfold State.hlpOlc
  with_reducible repeat' first | assumption | apply State.olcEnd_ok | exact fun _ => rfl | intro _ | split

theorem State.modeEnd_ok (h : Ok q s) (e) : Ok q (State.modeEnd s e) := by
  unfold State.modeEnd
  with_reducible repeat' first | assumption | apply State.done_ok | apply State.setFld_ok | apply ok_ite | exact fun _ => rfl | intro _ | split

theorem State.hlpModes_ok (h : Ok q s)  : Ok q (State.hlpModes s) := by
  unfold State.hlpModes
  with_reducible repeat' first | assumption | apply State.modHlp_ok | apply State.cond_ok | apply State.setFld_ok | apply State.modeEnd_ok | apply foldl_ok | exact fun _ => rfl | (apply Ok.mk'; first | assumption | apply State.modHlp_ok | apply State.cond_ok | apply State.setFld_ok | apply State.modeEnd_ok | apply foldl_ok | exact fun _ => rfl) | exact rfl | intro _ | split

theorem State.hlpInput_ok (h : Ok q s) : Ok q (State.hlpInput s) := by
  unfold State.hlpInput
  dsimp only
  refine Ok.mk' (modHlp_mem h _ rfl ?_) rfl rfl
  dsimp only
  refine wf_foldl _ _ (wf_foldl _ _ (wf_foldl _ _ (wf_foldl _ _ (Memory.wf_setMany _ _ _ _ (Memory.wf_setMany _ _ _ _
    (Memory.wf_setMany _ _ _ _ (Memory.wf_filter _ _ _ h.inv.stores.2.1)))) ?_) ?_) ?_) ?_ <;>
    exact fun _ _ => Memory.wf_setMany _ _ _ _

theorem State.hlpCycle_ok (h : Ok q s)  : Ok q (State.hlpCycle s) := by
  unfold State.hlpCycle
  with_reducible repeat' first | assumption | apply State.setFld_ok | apply State.modHlp_ok | apply State.hlpInput_ok | exact fun _ => rfl | (apply Ok.mk'; first | assumption | apply State.setFld_ok | apply State.modHlp_ok | apply State.hlpInput_ok | exact fun _ => rfl) | exact rfl | intro _ | split

theorem State.hlpBoundary_ok (h : Ok q s)  : Ok q (State.hlpBoundary s) := by
  unfold State.hlpBoundary
  with_reducible repeat' first | assumption | apply State.hlpCapture_ok | apply State.hlpApply_ok | apply State.hlpOlc_ok | apply State.hlpFixes_ok | apply State.hlpModes_ok | apply State.hlpStop_ok | apply State.cond_ok | apply State.toHlp_ok | apply State.hlpCycle_ok | apply ok_ite | exact fun _ => rfl | intro _ | split | dsimp only

theorem execHlpCycleStart_ok (h : Ok q s)  : Good q (execHlpCycleStart s) := by
  unfold execHlpCycleStart
  with_reducible repeat' first | assumption | apply Good.next | apply good_ite | apply State.hlpBoundary_ok | apply State.modHlp_ok | apply ok_ite | exact fun _ => rfl | intro _ | split | dsimp only

theorem State.hlpOutput_ok (h : Ok q s)  : Ok q (State.hlpOutput s) := by
  unfold State.hlpOutput
  with_reducible repeat' first | assumption | apply State.modHlp_ok | apply State.commitRetained_ok | apply State.forUnits_ok | apply State.modPort_ok | exact fun _ => rfl | (apply Ok.mk'; first | assumption | apply State.modHlp_ok | apply State.commitRetained_ok | apply State.forUnits_ok | apply State.modPort_ok | exact fun _ => rfl) | exact rfl | intro _ | split

theorem State.hlpOverEnd_ok (h : Ok q s)  : Ok q (State.hlpOverEnd s) := by
  unfold State.hlpOverEnd
  with_reducible repeat' first | assumption | apply State.modHlp_ok | apply State.post_ok | apply State.countN_ok | exact fun _ => rfl | (apply Ok.mk'; first | assumption | apply State.modHlp_ok | apply State.post_ok | apply State.countN_ok | exact fun _ => rfl) | exact rfl | intro _ | split

theorem execHlpExecutionEnd_ok (h : Ok q s) (execUs) : Good q (execHlpExecutionEnd execUs s) := by
  unfold execHlpExecutionEnd
  with_reducible repeat' first | assumption | apply Good.next | apply good_ite | apply State.setFld_ok | apply State.cond_ok | apply State.hlpOutput_ok | apply State.hlpOverEnd_ok | apply State.modHlp_ok | exact fun _ => rfl | (apply Ok.mk'; first | assumption | apply Good.next | apply good_ite | apply State.setFld_ok | apply State.cond_ok | apply State.hlpOutput_ok | apply State.hlpOverEnd_ok | apply State.modHlp_ok | exact fun _ => rfl) | exact rfl | intro _ | split

theorem execHlpOverrun_ok (h : Ok q s)  : Good q (execHlpOverrun s) := by
  unfold execHlpOverrun
  with_reducible repeat' first | assumption | apply Good.next | apply good_ite | apply State.hlpHalt_ok | apply State.count_ok | apply State.modHlp_ok | apply ok_ite | exact fun _ => rfl | (apply Ok.mk'; first | assumption | apply Good.next | apply good_ite | apply State.hlpHalt_ok | apply State.count_ok | apply State.modHlp_ok | apply ok_ite | exact fun _ => rfl) | exact rfl | intro _ | split

theorem execHlpHardLimit_ok (h : Ok q s)  : Good q (execHlpHardLimit s) := by
  unfold execHlpHardLimit
  with_reducible repeat' first | assumption | apply Good.next | apply good_ite | apply State.hlpHalt_ok | exact fun _ => rfl | intro _ | split

theorem execHlpInitLimit_ok (h : Ok q s)  : Good q (execHlpInitLimit s) := by
  unfold execHlpInitLimit
  with_reducible repeat' first | assumption | apply Good.next | apply good_ite | apply State.hlpHalt_ok | exact fun _ => rfl | intro _ | split

theorem execHlpFetchParity_ok (h : Ok q s)  : Good q (execHlpFetchParity s) := by
  unfold execHlpFetchParity
  with_reducible repeat' first | assumption | apply Good.next | apply good_ite | apply State.memErr_ok | apply State.hlpHalt_ok | apply ok_ite | exact fun _ => rfl | intro _ | split | dsimp only

theorem execHlpTileRewrite_ok (h : Ok q s) (tile) : Good q (execHlpTileRewrite tile s) := by
  unfold execHlpTileRewrite
  with_reducible repeat' first | assumption | apply Good.next | apply good_ite | apply State.modHlp_ok | apply State.hlpFix_ok | apply ok_ite | exact fun _ => rfl | (apply Ok.mk'; first | assumption | apply Good.next | apply good_ite | apply State.modHlp_ok | apply State.hlpFix_ok | apply ok_ite | exact fun _ => rfl) | exact rfl | intro _ | split

theorem State.toPair_ok (h : Ok q s) (n) : Ok q (State.toPair s n) := by
  unfold State.toPair
  with_reducible repeat' first | assumption | apply State.setFld_ok | apply State.setFlag_ok | apply State.post_ok | apply State.gdenCmd_ok | apply ok_ite | exact fun _ => rfl | intro _ | split | dsimp only

theorem State.raiseAct_ok (h : Ok q s)  : Ok q (State.raiseAct s) := by
  unfold State.raiseAct
  with_reducible repeat' first | assumption | apply State.setFlag_ok | apply State.modPair_ok | apply State.forUnits_ok | apply State.modLane_ok | apply State.postAct_ok | apply ok_ite | exact fun _ => rfl | intro _ | split | dsimp only

theorem State.becomeActive_ok (h : Ok q s)  : Ok q (State.becomeActive s) := by
  unfold State.becomeActive
  with_reducible repeat' first | assumption | apply State.raiseAct_ok | apply State.modPair_ok | apply State.modHlp_ok | apply State.modPtp_ok | apply State.toPair_ok | apply State.forUnits_ok | apply State.obsSwitch_ok | apply ok_ite | exact fun _ => rfl | intro _ | split | dsimp only

theorem State.conflict_ok (h : Ok q s)  : Ok q (State.conflict s) := by
  unfold State.conflict
  with_reducible repeat' first | assumption | apply State.post_ok | apply State.count_ok | exact fun _ => rfl | intro _ | split

theorem execPartnerActChange_ok (h : Ok q s) (level) : Good q (execPartnerActChange level s) := by
  unfold execPartnerActChange
  with_reducible repeat' first | assumption | apply Good.next | apply good_ite | apply State.setFlag_ok | apply State.gdenCmd_ok | apply State.modPair_ok | apply State.releaseAct_ok | apply State.conflict_ok | apply ok_ite | exact fun _ => rfl | (apply Ok.mk'; first | assumption | apply Good.next | apply good_ite | apply State.setFlag_ok | apply State.gdenCmd_ok | apply State.modPair_ok | apply State.releaseAct_ok | apply State.conflict_ok | apply ok_ite | exact fun _ => rfl) | exact rfl | intro _ | split

theorem execActOutReadbackMismatch_ok (h : Ok q s) (on) : Good q (execActOutReadbackMismatch on s) := by
  unfold execActOutReadbackMismatch
  with_reducible repeat' first | assumption | apply Good.next | apply good_ite | apply State.causeOn_ok | apply ok_ite | exact fun _ => rfl | intro _ | split | dsimp only

theorem execMissingRg0Boundary_ok (h : Ok q s)  : Good q (execMissingRg0Boundary s) := by
  unfold execMissingRg0Boundary
  with_reducible repeat' first | assumption | apply Good.next | apply good_ite | apply State.releaseAct_ok | exact fun _ => rfl | intro _ | split

theorem execSgrInChange_ok (h : Ok q s) (level) : Good q (execSgrInChange level s) := by
  unfold execSgrInChange
  with_reducible repeat' first | assumption | apply Good.next | apply good_ite | apply State.setFlag_ok | apply State.applyRelease_ok | apply State.removeGates_ok | exact fun _ => rfl | intro _ | split

theorem execRemoteSgrEnd_ok (h : Ok q s)  : Good q (execRemoteSgrEnd s) := by
  unfold execRemoteSgrEnd
  with_reducible repeat' first | assumption | apply Good.next | apply good_ite | apply State.applyRelease_ok | apply State.cond_ok | apply State.setFlag_ok | exact fun _ => rfl | intro _ | split

theorem State.showReady_ok (h : Ok q s)  : Ok q (State.showReady s) := by
  unfold State.showReady
  with_reducible repeat' first | assumption | apply State.setReg_ok | apply State.cond_ok | apply State.setFlag_ok | apply State.post_ok | apply ok_ite | exact fun _ => rfl | intro _ | split

theorem State.pairTick_ok (h : Ok q s)  : Ok q (State.pairTick s) := by
  unfold State.pairTick
  with_reducible repeat' first | assumption | apply State.showReady_ok | apply State.modPair_ok | apply State.toPair_ok | apply ok_ite | exact fun _ => rfl | (apply Ok.mk'; first | assumption | apply State.showReady_ok | apply State.modPair_ok | apply State.toPair_ok | apply ok_ite | exact fun _ => rfl) | exact rfl | intro _ | split | dsimp only

theorem execPairActivate_ok (h : Ok q s) (tag) : Good q (execPairActivate tag s) := by
  unfold execPairActivate
  with_reducible repeat' first | assumption | apply Good.next | apply good_ite | apply serve_ok | apply State.done_ok | apply State.modPair_ok | apply State.start_ok | apply ok_ite | exact fun _ => rfl | (apply Ok.mk'; first | assumption | apply Good.next | apply good_ite | apply serve_ok | apply State.done_ok | apply State.modPair_ok | apply State.start_ok | apply ok_ite | exact fun _ => rfl) | exact rfl | intro _ | split

theorem State.activateTick_ok (h : Ok q s)  : Ok q (State.activateTick s) := by
  unfold State.activateTick
  with_reducible repeat' first | assumption | apply State.doneAt_ok | apply State.modPair_ok | apply State.becomeActive_ok | apply ok_ite | exact fun _ => rfl | (apply Ok.mk'; first | assumption | apply State.doneAt_ok | apply State.modPair_ok | apply State.becomeActive_ok | apply ok_ite | exact fun _ => rfl) | exact rfl | intro _ | split

theorem execTakeover_ok (h : Ok q s)  : Good q (execTakeover s) := by
  unfold execTakeover
  with_reducible repeat' first | assumption | apply Good.next | apply good_ite | apply State.post_ok | apply State.count_ok | apply State.becomeActive_ok | exact fun _ => rfl | intro _ | split

theorem execPairHandover_ok (h : Ok q s) (tag) : Good q (execPairHandover tag s) := by
  unfold execPairHandover
  with_reducible repeat' first | assumption | apply Good.next | apply good_ite | apply serve_ok | apply State.done_ok | apply State.modPair_ok | apply State.start_ok | apply ok_ite | exact fun _ => rfl | (apply Ok.mk'; first | assumption | apply Good.next | apply good_ite | apply serve_ok | apply State.done_ok | apply State.modPair_ok | apply State.start_ok | apply ok_ite | exact fun _ => rfl) | exact rfl | intro _ | split

theorem execHandoverRelease_ok (h : Ok q s)  : Good q (execHandoverRelease s) := by
  unfold execHandoverRelease
  with_reducible repeat' first | assumption | apply Good.next | apply good_ite | apply State.post_ok | apply State.count_ok | apply State.releaseAct_ok | apply ok_ite | exact fun _ => rfl | intro _ | split

theorem State.handoverEnd_ok (h : Ok q s)  : Ok q (State.handoverEnd s) := by
  unfold State.handoverEnd
  with_reducible repeat' first | assumption | apply State.complete_ok | apply State.modPair_ok | apply ok_ite | exact fun _ => rfl | (apply Ok.mk'; first | assumption | apply State.complete_ok | apply State.modPair_ok | apply ok_ite | exact fun _ => rfl) | exact rfl | intro _ | split

theorem State.peerSays_ok (h : Ok q s) (st) (gait) (digest) : Ok q (State.peerSays s st gait digest) := by
  unfold State.peerSays
  with_reducible repeat' first | assumption | apply State.modPair_ok | apply State.setFld_ok | apply State.handoverEnd_ok | apply ok_ite | exact fun _ => rfl | (apply Ok.mk'; first | assumption | apply State.modPair_ok | apply State.setFld_ok | apply State.handoverEnd_ok | apply ok_ite | exact fun _ => rfl) | exact rfl | intro _ | split

theorem State.pairChange_ok (h : Ok q s) (c) : Ok q (State.pairChange s c) := by
  unfold State.pairChange
  with_reducible repeat' first | assumption | apply State.stageRate_ok | apply State.clearLanes_ok | exact fun _ => rfl | intro _ | split

theorem execScheduledPairChange_ok (h : Ok q s)  : Good q (execScheduledPairChange s) := by
  unfold execScheduledPairChange
  with_reducible repeat' first | assumption | apply Good.next | apply good_ite | apply State.pairChange_ok | apply State.modPair_ok | apply foldl_ok | exact fun _ => rfl | (apply Ok.mk'; first | assumption | apply Good.next | apply good_ite | apply State.pairChange_ok | apply State.modPair_ok | apply foldl_ok | exact fun _ => rfl) | exact rfl | intro _ | split

theorem execStandbyGdenDrop_ok (h : Ok q s)  : Good q (execStandbyGdenDrop s) := by
  unfold execStandbyGdenDrop
  with_reducible repeat' first | assumption | apply Good.next | apply good_ite | apply State.modPair_ok | apply State.gdenCmd_ok | apply ok_ite | exact fun _ => rfl | intro _ | split | dsimp only

theorem execGdenPulseTest_ok (h : Ok q s) (pins) : Good q (execGdenPulseTest pins s) := by
  unfold execGdenPulseTest
  with_reducible repeat' first | assumption | apply Good.next | apply good_ite | apply State.cause_ok | apply ok_ite | exact fun _ => rfl | intro _ | split | dsimp only

theorem execMirrorRecordSend_ok (h : Ok q s)  : Good q (execMirrorRecordSend s) := by
  unfold execMirrorRecordSend
  with_reducible repeat' first | assumption | apply Good.next | apply good_ite | apply State.modPair_ok | apply State.modHlp_ok | apply State.setFld_ok | apply State.count_ok | apply ok_ite | exact fun _ => rfl | intro _ | split | dsimp only

theorem execCreditReceived_ok (h : Ok q s) (lane) (n) (check) : Good q (execCreditReceived lane n check s) := by
  unfold execCreditReceived
  with_reducible repeat' first | assumption | apply Good.next | apply good_ite | apply State.modPair_ok | exact fun _ => rfl | (apply Ok.mk'; first | assumption | apply Good.next | apply good_ite | apply State.modPair_ok | exact fun _ => rfl) | exact rfl | intro _ | split

theorem State.sendCredits_ok (h : Ok q s) : Ok q (State.sendCredits s) := by
  unfold State.sendCredits
  with_reducible repeat' first | assumption | apply State.modPair_ok | apply ok_ite | exact fun _ => rfl | intro _ | split | dsimp only

theorem State.freeSlots_ok (h : Ok q s) (n) : Ok q (State.freeSlots s n) := by
  unfold State.freeSlots
  with_reducible repeat' first | assumption | apply State.modPair_ok | apply State.sendCredits_ok | apply ok_ite | exact fun _ => rfl | intro _ | split | dsimp only

theorem State.missRecord_ok (h : Ok q s) (n) : Ok q (State.missRecord s n) := by
  unfold State.missRecord
  with_reducible repeat' first | assumption | apply State.count_ok | apply State.freeSlots_ok | exact fun _ => rfl | intro _ | split

theorem State.beginRecord_ok (h : Ok q s) (num) (cnt) : Ok q (State.beginRecord s num cnt) := by
  unfold State.beginRecord
  with_reducible repeat' first | assumption | apply State.missRecord_ok | apply State.modPair_ok | apply ok_ite | exact fun _ => rfl | (apply Ok.mk'; first | assumption | apply State.missRecord_ok | apply State.modPair_ok | apply ok_ite | exact fun _ => rfl) | exact rfl | intro _ | split

theorem State.takeBlock_ok (h : Ok q s) (b) (skew) (near) (theirs) : Ok q (State.takeBlock s b skew near theirs) := by
  unfold State.takeBlock
  with_reducible repeat' first | assumption | apply State.beginRecord_ok | apply State.modPair_ok | apply State.cond_ok | apply State.setFld_ok | apply State.missRecord_ok | apply ok_ite | exact fun _ => rfl | intro _ | split | dsimp only

theorem execMirrorBlockReceived_ok (h : Ok q s) (lane) (bytes) (sof) : Good q (execMirrorBlockReceived lane bytes sof s) := by
  unfold execMirrorBlockReceived
  with_reducible repeat' first | assumption | apply Good.next | apply good_ite | apply State.count_ok | apply State.modPair_ok | apply State.takeBlock_ok | apply ok_ite | exact fun _ => rfl | intro _ | split | dsimp only

theorem State.putFam_ok (h : Ok q s) (p) (r) (l) : Ok q (State.putFam s p r l) := by
  unfold State.putFam
  with_reducible repeat' first | assumption | apply State.setCwords_ok | apply State.modCtx_ok | apply State.warm_ok | apply ok_ite | exact fun _ => rfl | intro _ | split | dsimp only

theorem State.mirrorState_ok (h : Ok q s) (r) : Ok q (State.mirrorState s r) := by
  unfold State.mirrorState
  with_reducible repeat' first | assumption | apply State.setFld_ok | apply State.cond_ok | apply State.portMoved_ok | apply State.modPort_ok | apply ok_ite | exact fun _ => rfl | intro _ | split | dsimp only

theorem State.applyPort_ok (h : Ok q s) (m) (r) : Ok q (State.applyPort s m r) := by
  unfold State.applyPort
  with_reducible repeat' first | assumption | apply State.mirrorState_ok | apply State.setFld_ok | apply State.putFam_ok | apply State.setCword_ok | apply State.warm_ok | apply State.govWrite_ok | apply State.cond_ok | apply State.modObs_ok | apply State.govRamp_ok | apply State.setFlag_ok | apply ok_ite | exact fun _ => rfl | intro _ | split | dsimp only

theorem State.applyCtx_ok (h : Ok q s) (r) : Ok q (State.applyCtx s r) := by
  unfold State.applyCtx
  with_reducible repeat' first | assumption | apply State.showHist_ok | apply State.warm_ok | apply State.modCtx_ok | apply State.setCwords_ok | apply ok_ite | exact fun _ => rfl | (apply Ok.mk'; first | assumption | apply State.showHist_ok | apply State.warm_ok | apply State.modCtx_ok | apply State.setCwords_ok | apply ok_ite | exact fun _ => rfl) | exact rfl | intro _ | split

theorem State.steerTb_ok (h : Ok q s) (r) (b) (d) : Ok q (State.steerTb s r b d) := by
  unfold State.steerTb
  with_reducible repeat' first | assumption | apply State.modTb_ok | apply ok_ite | exact fun _ => rfl | intro _ | split | dsimp only

theorem State.applyTime_ok (h : Ok q s) (r) : Ok q (State.applyTime s r) := by
  unfold State.applyTime
  with_reducible repeat' first | assumption | apply State.steerTb_ok | apply State.modPtp_ok | apply State.setTbLock_ok | apply ok_ite | exact fun _ => rfl | intro _ | split | dsimp only

theorem State.applyChange_ok (h : Ok q s) (x) : Ok q (State.applyChange s x) := by
  unfold State.applyChange
  with_reducible repeat' first | assumption | apply State.modPair_ok | apply State.setFlag_ok | apply ok_ite | exact fun _ => rfl | intro _ | split | dsimp only

theorem State.applySlice_ok (h : Ok q s) (r) : Ok q (State.applySlice s r) := by
  unfold State.applySlice
  with_reducible repeat' first | assumption | apply State.modPair_ok | apply State.modHlp_ok | apply ok_ite | exact fun _ => rfl | intro _ | split | dsimp only

theorem State.fixOffset_ok (h : Ok q s) (r) : Ok q (State.fixOffset s r) := by
  unfold State.fixOffset
  with_reducible repeat' first | assumption | apply State.setFld_ok | apply State.modPair_ok | apply ok_ite | exact fun _ => rfl | (apply Ok.mk'; first | assumption | apply State.setFld_ok | apply State.modPair_ok | apply ok_ite | exact fun _ => rfl) | exact rfl | intro _ | split

theorem execMirrorRecordApply_ok (h : Ok q s) (rec) : Good q (execMirrorRecordApply rec s) := by
  unfold execMirrorRecordApply
  with_reducible repeat' first | assumption | apply Good.next | apply good_ite | apply State.fixOffset_ok | apply State.applyCtx_ok | apply State.applyPort_ok | apply State.applyChange_ok | apply State.applyTime_ok | apply State.applySlice_ok | apply State.peerSays_ok | apply State.modPair_ok | apply State.setFld_ok | apply State.freeSlots_ok | apply foldl_ok | apply ok_ite | exact fun _ => rfl | intro _ | split | dsimp only

theorem execStandbyStatusSend_ok (h : Ok q s)  : Good q (execStandbyStatusSend s) := by
  unfold execStandbyStatusSend
  with_reducible repeat' first | assumption | apply Good.next | apply good_ite | apply State.modPair_ok | apply ok_ite | exact fun _ => rfl | intro _ | split | dsimp only

theorem execStandbyStatusReceived_ok (h : Ok q s) (st) : Good q (execStandbyStatusReceived st s) := by
  unfold execStandbyStatusReceived
  with_reducible repeat' first | assumption | apply Good.next | apply good_ite | apply State.modPair_ok | apply State.peerSays_ok | apply State.setFlag_ok | exact fun _ => rfl | (apply Ok.mk'; first | assumption | apply Good.next | apply good_ite | apply State.modPair_ok | apply State.peerSays_ok | apply State.setFlag_ok | exact fun _ => rfl) | exact rfl | intro _ | split

theorem execHelloReceived_ok (h : Ok q s) (lane) (h0) : Good q (execHelloReceived lane h0 s) := by
  unfold execHelloReceived
  with_reducible repeat' first | assumption | apply Good.next | apply good_ite | apply State.modPair_ok | apply State.toLane_ok | apply State.sendCredits_ok | apply ok_ite | exact fun _ => rfl | intro _ | split | dsimp only

theorem execMirrorLaneLost_ok (h : Ok q s) (lane) : Good q (execMirrorLaneLost lane s) := by
  unfold execMirrorLaneLost
  with_reducible repeat' first | assumption | apply Good.next | apply good_ite | apply State.toLane_ok | apply State.post_ok | apply ok_ite | exact fun _ => rfl | intro _ | split | dsimp only

end Sys2Proof.Machine
end

