-- ==== Sys2Proof/Laws/Keep2.lean ====
section
/-!
SUPPORT. What the operations and the meanings of these files of Machine keep (see Laws/Keep):
Mailbox, Clock, Update, HlpCmds, Reset, Capture, Trace, Spur, Window, Boundary, RemoteIo, CfgRec, CfgApply, Commit, GaitCmds, Pwm, Query.
-/
namespace Sys2Proof.Machine

set_option linter.unusedTactic false
set_option linter.unreachableTactic false

variable {q : List Instr} {s : State}

/-- A command that passed Table 13.2 enters its ring. -/
theorem State.admit_ok (h : Ok q s) (m) (hdr) (payload) (ha : s.admitCode m hdr payload = 0) :
    Ok q (State.takeCmd s m hdr payload) := by
  unfold State.admitCode at ha
  simp only at ha
  split at ha
  · cases ha
  rename_i hc
  split at ha
  · cases ha
  split at ha
  · cases ha
  split at ha
  · cases ha
  rename_i ht
  simp only [Bool.or_eq_true, not_or, Bool.not_eq_true, tagBusy, List.any_eq_false, beq_iff_eq, bne_iff_ne, ne_eq,
    Decidable.not_not] at ht
  obtain ⟨htm, hti, htp⟩ := ht
  have hnew : (parseCommand m hdr payload).tag = leAt hdr 2 1 % 128 := rfl
  unfold State.takeCmd
  refine settle_ok _ ⟨⟨h.inv.regs, h.inv.depth, ⟨?_, fun e he => ?_, fun k hk => ?_⟩, h.inv.stores⟩, h.queue⟩
  · rw [List.map_append, List.nodup_append]
    refine ⟨h.inv.rings.1, by simp, fun a ha b hb => ?_⟩
    obtain ⟨e, he, rfl⟩ := List.mem_map.mp ha
    rw [List.map_singleton, List.mem_singleton, hnew] at hb
    rw [hb]; exact hti e he
  · rcases List.mem_append.mp he with he | he
    · exact h.inv.rings.2.1 e he
    · rw [List.mem_singleton.mp he]; exact htm
  · obtain ⟨h1, h2, h3⟩ := h.inv.rings.2.2 k hk
    refine ⟨?_, h2, fun p hp => ⟨(h3 p hp).1, fun e he => ?_⟩⟩
    · simp only [List.filter_append, List.length_append]
      by_cases hkm : k = m
      · subst hkm
        have hcr : ¬ s.credits k < 1 := by
          intro hlt; exact hc (by simp [hlt])
        unfold State.credits State.inflightOf at hcr
        simp only at hcr
        split at hcr
        · have : ([parseCommand k hdr payload].filter fun e => e.mb == k).length ≤ 1 := List.length_filter_le _ _
          omega
        · omega
      · have : ([parseCommand m hdr payload].filter fun e => e.mb == k) = [] := by
          simp [parseCommand, Ne.symm hkm]
        simp only [this, List.length_nil, Nat.add_zero]; exact h1
    · rcases List.mem_append.mp he with he | he
      · exact (h3 p hp).2 e he
      · rw [List.mem_singleton.mp he, hnew]
        intro hpt
        have hkm : k = m := by rw [← (h3 p hp).1, ← hpt]; exact htm
        subst hkm
        rw [htm] at htp
        exact htp p hp hpt.symm

theorem admitCode_box (m k : Nat) (f : Mailbox → Mailbox) (hdr payload : List Byte) (h1 : ∀ b, (f b).isOpen = b.isOpen)
    (h2 : ∀ b, (f b).posted = b.posted) : (s.box k f).admitCode m hdr payload = s.admitCode m hdr payload := by
  have e : ∀ j, (vget (s.box k f).fcp.boxes j).isOpen = (vget s.fcp.boxes j).isOpen ∧
      (vget (s.box k f).fcp.boxes j).posted = (vget s.fcp.boxes j).posted := by
    intro j; simp only [State.box, vget_vmod]; split
    · exact ⟨h1 _, h2 _⟩
    · exact ⟨rfl, rfl⟩
  unfold State.admitCode State.credits State.tagBusy
  simp only [e]
  rfl

theorem State.doorbell_ok (h : Ok q s) (m) : Ok q (State.doorbell s m) := by
  unfold State.doorbell
  dsimp only
  refine ok_ite (fun h0 => ?_) fun _ => ?_
  · refine admit_ok (box_ok h _ _ (by exact fun _ => List.Sublist.refl _)) m _ _ ?_
    refine (admitCode_box _ _ _ _ _ (by exact fun _ => rfl) (by exact fun _ => rfl)).trans ?_
    split at h0
    · exact h0
    · cases h0
  · exact count_ok (box_ok h _ _ (by exact fun _ => List.Sublist.refl _)) _ _

theorem State.bell_ok (h : Ok q s) (m) (value) : Ok q (State.bell s m value) := by
  unfold State.bell
  split
  · exact h
  · split
    · exact h.of rfl rfl rfl rfl rfl rfl rfl rfl
    · exact doorbell_ok h m

theorem execMbDoorbell_ok (h : Ok q s) (mb) (value) : Good q (execMbDoorbell mb value s) :=
  .next (State.guarded_ok h _ _ _ fun _ ht => State.bell_ok ht _ _)

theorem State.headWrite_ok (h : Ok q s) (m) (value) : Ok q (State.headWrite s m value) := by
  unfold State.headWrite
  dsimp only
  split
  · exact h
  · split
    · exact box_ok h _ _ (by exact fun _ => List.drop_sublist _ _)
    · exact count_ok h _ _

theorem execMbCplHeadWrite_ok (h : Ok q s) (mb) (value) : Good q (execMbCplHeadWrite mb value s) :=
  .next (State.guarded_ok h _ _ _ fun _ ht => State.headWrite_ok ht _ _)

theorem State.svpResume_ok (h : Ok q s)  : Ok q (State.svpResume s) := by
  unfold State.svpResume
  with_reducible repeat' first | assumption | apply State.complete_ok | apply State.forUnits_ok | apply State.doorbell_ok | apply foldl_ok | apply ok_ite | exact fun _ => rfl | (apply Ok.mk'; first | assumption | apply State.complete_ok | apply State.forUnits_ok | apply State.doorbell_ok | apply foldl_ok | apply ok_ite | exact fun _ => rfl) | (apply Ok.mkFcp; first | assumption | apply State.complete_ok | apply State.forUnits_ok | apply State.doorbell_ok | apply foldl_ok | apply ok_ite | exact fun _ => rfl) | exact rfl | intro _ | split | dsimp only

theorem State.send_ok (h : Ok q s) (m) (type) (cseq) (credits) (code) (msg) : Ok q (State.send s m type cseq credits code msg) :=
  emit_ok h _ _

theorem State.sendAdmit_ok (h : Ok q s) (m) (cseq) (code) : Ok q (State.sendAdmit s m cseq code) := by
  unfold State.sendAdmit
  with_reducible repeat' first | assumption | apply State.send_ok | exact fun _ => rfl | intro _ | split

theorem State.cmdMessage_ok (h : Ok q s) (m) (msg) : Ok q (State.cmdMessage s m msg) := by
  unfold State.cmdMessage
  dsimp only
  split
  · exact sendAdmit_ok (count_ok h _ _) _ _ _
  · split
    · exact sendAdmit_ok (count_ok h _ _) _ _ _
    · split
      · split
        · exact sendAdmit_ok (box_ok (admit_ok h m _ _ ‹_›) _ _ (by exact fun _ => List.Sublist.refl _)) _ _ _
        · exact sendAdmit_ok (count_ok h _ _) _ _ _
      · split
        · exact send_ok h _ _ _ _ _ _
        · exact sendAdmit_ok (count_ok (count_ok h _ _) _ _) _ _ _

theorem State.ackMessage_ok (h : Ok q s) (m) (msg) : Ok q (State.ackMessage s m msg) := by
  unfold State.ackMessage
  dsimp only
  exact box_ok h _ _ (by exact fun _ => List.filter_sublist)

theorem State.notice_ok (h : Ok q s) (m) : Ok q (State.notice s m) := by
  unfold State.notice
  with_reducible repeat' first | assumption | apply State.send_ok | exact fun _ => rfl | intro _ | split

theorem State.message_ok (h : Ok q s) (m) (msg) : Ok q (State.message s m msg) := by
  unfold State.message
  split
  · exact h
  · split
    · exact count_ok h _ _
    · split
      · exact h
      · split
        · exact cmdMessage_ok h m msg
        · exact ackMessage_ok h m msg
        · exact notice_ok h m
        · exact h

theorem execCmd_ok (h : Ok q s) (mb) (bytes) : Good q (execCmd mb bytes s) := by
  unfold execCmd
  exact .next (ok_ite (fun _ => State.message_ok h _ _) fun _ => h)

theorem execCplAck_ok (h : Ok q s) (mb) (bytes) : Good q (execCplAck mb bytes s) := by
  unfold execCplAck
  exact .next (ok_ite (fun _ => State.message_ok h _ _) fun _ => h)

theorem execProbe_ok (h : Ok q s) (mb) : Good q (execProbe mb s) := by
  unfold execProbe
  with_reducible repeat' first | assumption | apply Good.next | apply good_ite | apply State.count_ok | apply State.notice_ok | apply ok_ite | exact fun _ => rfl | intro _ | split | dsimp only

theorem State.resend_ok (h : Ok q s) (m) (p) : Ok q (State.resend s m p) := by
  unfold State.resend
  with_reducible repeat' first | assumption | apply State.count_ok | apply State.send_ok | exact fun _ => rfl | intro _ | split

theorem execCplResend_ok (h : Ok q s) (tag) : Good q (execCplResend tag s) := by
  unfold execCplResend
  with_reducible repeat' first | assumption | apply Good.next | apply good_ite | apply State.resend_ok | apply ok_ite | exact fun _ => rfl | intro _ | split | dsimp only

theorem State.segDrop_ok (h : Ok q s) (m) : Ok q (State.segDrop s m) := by
  unfold State.segDrop
  exact count_ok (box_ok h _ _ (by exact fun _ => List.Sublist.refl _)) _ _

theorem State.segTake_ok (h : Ok q s) (m) (bytes) : Ok q (State.segTake s m bytes) := by
  unfold State.segTake
  dsimp only
  split
  · exact message_ok (box_ok h _ _ (by exact fun _ => List.Sublist.refl _)) m _
  · exact box_ok h _ _ (by exact fun _ => List.Sublist.refl _)

theorem execCanSegment_ok (h : Ok q s) (can) (fd) (bytes) : Good q (execCanSegment can fd bytes s) := by
  unfold execCanSegment
  refine .next ?_
  with_reducible repeat' first | assumption | apply State.count_ok | apply State.segDrop_ok | apply State.segTake_ok | apply ok_ite | intro _ | split

theorem execCanSegmentGap_ok (h : Ok q s) (can) : Good q (execCanSegmentGap can s) := by
  unfold execCanSegmentGap
  with_reducible repeat' first | assumption | apply Good.next | apply good_ite | apply State.segDrop_ok | exact fun _ => rfl | intro _ | split

theorem State.linkDown_ok (h : Ok q s) (m) : Ok q (State.linkDown s m) := by
  unfold State.linkDown
  with_reducible repeat' first | assumption | apply State.post_ok | apply State.setFld_ok | apply State.setFlag_ok | apply ok_ite | exact fun _ => rfl | intro _ | split

theorem State.clearClk_ok (h : Ok q s) (d) : Ok q (State.clearClk s d) := by
  unfold State.clearClk
  with_reducible repeat' first | assumption | apply State.clkBit_ok | apply State.genStop_ok | apply State.forUnits_ok | apply State.laneStops_ok | apply State.setFlag_ok | apply State.dropLock_ok | apply State.linkDown_ok | apply ok_ite | exact fun _ => rfl | intro _ | split | dsimp only

theorem State.setClk_ok (h : Ok q s) (d) : Ok q (State.setClk s d) := by
  unfold State.setClk
  with_reducible repeat' first | assumption | apply State.clkBit_ok | apply State.modBoot_ok | apply State.releaseBlock_ok | apply State.waitClk_ok | apply State.svpResume_ok | apply State.genGo_ok | apply State.forUnits_ok | apply State.setFlag_ok | apply foldl_ok | apply ok_ite | exact fun _ => rfl | intro _ | split | dsimp only

theorem execClkOkChange_ok (h : Ok q s) (dom) (ok) : Good q (execClkOkChange dom ok s) := by
  unfold execClkOkChange
  with_reducible repeat' first | assumption | apply Good.next | apply good_ite | apply State.setClk_ok | apply State.clearClk_ok | apply ok_ite | exact fun _ => rfl | intro _ | split

theorem State.dropGait_ok (h : Ok q s) : Ok q (State.dropGait s) := by
  unfold State.dropGait
  with_reducible repeat' first | assumption | apply State.setFlag_ok | apply State.setFld_ok | apply State.modClk_ok | apply State.done_ok | apply ok_ite | exact fun _ => rfl | intro _ | split | dsimp only

theorem State.loseM_ok (h : Ok q s)  : Ok q (State.loseM s) := by
  unfold State.loseM
  with_reducible repeat' first | assumption | apply State.dropGait_ok | apply State.setFlag_ok | apply State.modClk_ok | apply State.sdRestartAll_ok | apply State.clearClk_ok | apply ok_ite | exact fun _ => rfl | intro _ | split | dsimp only

theorem State.losePll_ok (h : Ok q s) (p) : Ok q (State.losePll s p) := by
  unfold State.losePll
  with_reducible repeat' first | assumption | apply State.loseM_ok | apply State.clearClk_ok | apply ok_ite | exact fun _ => rfl | intro _ | split

theorem execRefclkLoss_ok (h : Ok q s)  : Good q (execRefclkLoss s) := by
  unfold execRefclkLoss
  with_reducible repeat' first | assumption | apply Good.next | apply good_ite | apply State.post_ok | apply State.setFlag_ok | apply State.stopPlls_ok | apply State.losePll_ok | apply foldl_ok | apply ok_ite | exact fun _ => rfl | intro _ | split

theorem execRefclkRestored_ok (h : Ok q s)  : Good q (execRefclkRestored s) := by
  unfold execRefclkRestored
  with_reducible repeat' first | assumption | apply Good.next | apply good_ite | apply State.setFlag_ok | apply State.startPlls_ok | apply ok_ite | exact fun _ => rfl | intro _ | split

theorem execPllLossOfLock_ok (h : Ok q s) (p) : Good q (execPllLossOfLock p s) := by
  unfold execPllLossOfLock
  with_reducible repeat' first | assumption | apply Good.next | apply good_ite | apply State.count_ok | apply State.post_ok | apply State.setFlag_ok | apply State.losePll_ok | apply State.startAttempt_ok | apply ok_ite | exact fun _ => rfl | intro _ | split

theorem execPllLock_ok (h : Ok q s) (p) : Good q (execPllLock p s) := by
  unfold execPllLock
  with_reducible repeat' first | assumption | apply Good.next | apply good_ite | apply State.setFlag_ok | apply State.setAttempt_ok | apply State.modClk_ok | apply ok_ite | exact fun _ => rfl | intro _ | split | dsimp only

theorem execPllHopTimeout_ok (h : Ok q s) (p) : Good q (execPllHopTimeout p s) := by
  unfold execPllHopTimeout
  with_reducible repeat' first | assumption | apply Good.next | apply good_ite | apply State.setAttempt_ok | apply State.setFlag_ok | exact fun _ => rfl | intro _ | split

theorem State.writeSlot_ok (h : Ok q s) (k) (band) (temp) : Ok q (State.writeSlot s k band temp) := by
  unfold State.writeSlot
  with_reducible repeat' first | assumption | apply State.setFld_ok | apply State.setFlag_ok | exact fun _ => rfl | intro _ | split

theorem execBandSearchComplete_ok (h : Ok q s) (p) (band) (temp) : Good q (execBandSearchComplete p band temp s) := by
  unfold execBandSearchComplete
  with_reducible repeat' first | assumption | apply Good.next | apply good_ite | apply State.count_ok | apply State.setAttempt_ok | apply State.writeSlot_ok | apply State.cond_ok | apply State.setFlag_ok | apply ok_ite | exact fun _ => rfl | intro _ | split

theorem execBandSearchRetry_ok (h : Ok q s) (p) (temp) : Good q (execBandSearchRetry p temp s) := by
  unfold execBandSearchRetry
  with_reducible repeat' first | assumption | apply Good.next | apply good_ite | apply State.startAttempt_ok | exact fun _ => rfl | intro _ | split

theorem execDllTapUpdate_ok (h : Ok q s) (tap) (errPs) : Good q (execDllTapUpdate tap errPs s) := by
  unfold execDllTapUpdate
  with_reducible repeat' first | assumption | apply Good.next | apply good_ite | apply State.setFlag_ok | apply State.setFld_ok | exact fun _ => rfl | intro _ | split

theorem execPairclkOkChange_ok (h : Ok q s) (ok) : Good q (execPairclkOkChange ok s) := by
  unfold execPairclkOkChange
  with_reducible repeat' first | assumption | apply Good.next | apply good_ite | apply State.setFlag_ok | apply State.clearClk_ok | apply ok_ite | exact fun _ => rfl | intro _ | split

theorem execSyncInEdge_ok (h : Ok q s) (refPhase) : Good q (execSyncInEdge refPhase s) := by
  unfold execSyncInEdge
  with_reducible repeat' first | assumption | apply Good.next | apply good_ite | apply State.modClk_ok | apply State.setFlag_ok | apply State.post_ok | apply ok_ite | exact fun _ => rfl | intro _ | split | dsimp only

theorem execWakeSource_ok (h : Ok q s) (src) : Good q (execWakeSource src s) := by
  unfold execWakeSource
  with_reducible repeat' first | assumption | apply Good.next | apply good_ite | apply State.setFld_ok | apply State.startWake_ok | apply State.modClk_ok | apply ok_ite | exact fun _ => rfl | (apply Ok.mk'; first | assumption | apply Good.next | apply good_ite | apply State.setFld_ok | apply State.startWake_ok | apply State.modClk_ok | apply ok_ite | exact fun _ => rfl) | exact rfl | intro _ | split

theorem execWakeComplete_ok (h : Ok q s)  : Good q (execWakeComplete s) := by
  unfold execWakeComplete
  with_reducible repeat' first | assumption | apply Good.next | apply good_ite | apply State.modClk_ok | apply State.setGait_ok | apply State.post_ok | apply State.setFlag_ok | apply State.count_ok | apply State.forUnits_ok | apply State.setFld_ok | apply State.sdRestartAll_ok | apply State.box_ok | apply State.svpResume_ok | apply State.hlpWake_ok | apply ok_ite | exact List.Sublist.refl _ | exact fun _ => rfl | (apply Ok.mk'; first | assumption | apply Good.next | apply good_ite | apply State.modClk_ok | apply State.setGait_ok | apply State.post_ok | apply State.setFlag_ok | apply State.count_ok | apply State.forUnits_ok | apply State.setFld_ok | apply State.sdRestartAll_ok | apply State.box_ok | apply State.svpResume_ok | apply State.hlpWake_ok | apply ok_ite | exact List.Sublist.refl _ | exact fun _ => rfl) | exact rfl | intro _ | split | dsimp only

theorem execWakeFail_ok (h : Ok q s)  : Good q (execWakeFail s) := by
  unfold execWakeFail
  with_reducible repeat' first | assumption | apply Good.next | apply good_ite | apply State.setFlag_ok | exact fun _ => rfl | intro _ | split

theorem execBankPresenceChange_ok (h : Ok q s) (bankB) (present) : Good q (execBankPresenceChange bankB present s) := by
  unfold execBankPresenceChange
  with_reducible repeat' first | assumption | apply Good.next | apply good_ite | apply State.modClk_ok | apply State.setFld_ok | apply ok_ite | exact fun _ => rfl | (apply Ok.mk'; first | assumption | apply Good.next | apply good_ite | apply State.modClk_ok | apply State.setFld_ok | apply ok_ite | exact fun _ => rfl) | exact rfl | intro _ | split

theorem State.modSlot_ok (h : Ok q s) (k) (f) : Ok q (State.modSlot s k f) := by
  unfold State.modSlot
  with_reducible repeat' first | assumption | apply State.modBoot_ok | exact fun _ => rfl | (apply Ok.mk'; first | assumption | apply State.modBoot_ok | exact fun _ => rfl) | exact rfl | intro _ | split

theorem State.showIdent_ok (h : Ok q s)  : Ok q (State.showIdent s) := by
  unfold State.showIdent
  with_reducible repeat' first | assumption | apply State.setFld_ok | apply State.setReg_ok | apply State.setFlag_ok | exact fun _ => rfl | intro _ | split

theorem State.dropPending_ok (h : Ok q s) : Ok q (State.dropPending s) := by
  unfold State.dropPending
  have hf : ∀ f : PortSt → PortSt, Ok q (s.forUnits 12 fun t p => t.modPort p f) := fun f => forUnits_ok h fun t p ht => modPort_ok ht p _
  have h2 := setFld_ok (setFlag_ok (hf fun x => { x with waits := [] }) F.GAIT_STATUS_PEND_VALID 0 false) F.GAIT_STATUS_GAIT_PEND 0 0
  revert h2
  dsimp only
  generalize State.setFld _ _ _ _ = t
  intro h2
  exact (unlock_ok h2).of rfl rfl rfl rfl rfl rfl rfl rfl

theorem State.noticeAll_ok (h : Ok q s)  : Ok q (State.noticeAll s) := by
  unfold State.noticeAll
  with_reducible repeat' first | assumption | apply State.notice_ok | apply foldl_ok | exact fun _ => rfl | intro _ | split

theorem completeEntry_inflight (e : Entry) (status pnum : Nat) (res pay : List Byte) :
    (s.completeEntry e status pnum res pay).fcp.inflight = s.fcp.inflight.filter fun x => x.tag != e.tag := by
  unfold State.completeEntry State.place State.emit
  dsimp only
  repeat' split
  all_goals rfl

theorem State.flush_ok (h : Ok q s) (status) : Ok q (State.flush s status) := by
  unfold State.flush
  suffices ∀ (l : List Entry) (t : State), Ok q t → (∀ e ∈ l, e ∈ t.fcp.inflight) → (l.map (·.tag)).Nodup →
      Ok q (l.foldl (fun t e => t.completeEntry e status 0 [] []) t) from this _ _ h (fun _ he => he) h.inv.rings.1
  intro l
  induction l with
  | nil => exact fun _ ht _ _ => ht
  | cons e l ih =>
    intro t ht hl hn
    rw [List.map_cons, List.nodup_cons] at hn
    refine ih _ (completeEntry_ok ht e (hl e List.mem_cons_self) _ _ _ _) (fun x hx => ?_) hn.2
    rw [completeEntry_inflight]
    refine List.mem_filter.mpr ⟨hl x (List.mem_cons_of_mem _ hx), ?_⟩
    have : x.tag ≠ e.tag := fun he => hn.1 (he ▸ List.mem_map_of_mem hx)
    simpa using this

theorem State.bootAgain_ok (h : Ok q s) (src) : Ok q (State.bootAgain s src) := by
  unfold State.bootAgain
  with_reducible repeat' first | assumption | apply State.setFld_ok | apply State.modBoot_ok | apply ok_ite | exact fun _ => rfl | intro _ | split | dsimp only

theorem State.svpRestart_ok (h : Ok q s) (planned) (src) (slot) : Ok q (State.svpRestart s planned src slot) := by
  unfold State.svpRestart
  with_reducible repeat' first | assumption | apply State.noteSrc_ok | apply State.bootAgain_ok | apply State.setFld_ok | apply State.forUnits_ok | apply State.box_ok | apply State.dropPending_ok | apply State.noticeAll_ok | apply State.flush_ok | apply ok_ite | exact List.Sublist.refl _ | exact fun _ => rfl | (apply Ok.mk'; first | assumption | apply State.noteSrc_ok | apply State.bootAgain_ok | apply State.setFld_ok | apply State.forUnits_ok | apply State.box_ok | apply State.dropPending_ok | apply State.noticeAll_ok | apply State.flush_ok | apply ok_ite | exact List.Sublist.refl _ | exact fun _ => rfl) | (apply Ok.mkFcp; first | assumption | apply State.noteSrc_ok | apply State.bootAgain_ok | apply State.setFld_ok | apply State.forUnits_ok | apply State.box_ok | apply State.dropPending_ok | apply State.noticeAll_ok | apply State.flush_ok | apply ok_ite | exact List.Sublist.refl _ | exact fun _ => rfl) | exact rfl | intro _ | split | dsimp only

theorem execSupervisorWatchdogExpiry_ok (h : Ok q s)  : Good q (execSupervisorWatchdogExpiry s) := by
  unfold execSupervisorWatchdogExpiry
  with_reducible repeat' first | assumption | apply Good.next | apply good_ite | apply State.assertReset_ok | apply State.svpRestart_ok | apply ok_ite | exact fun _ => rfl | intro _ | split | dsimp only

theorem State.resendAll_ok (h : Ok q s) (s0 : State) : Ok q (State.resendAll s0 s) := by
  unfold State.resendAll
  with_reducible repeat' first | assumption | apply State.resend_ok | apply foldl_ok | apply ok_ite | exact fun _ => rfl | intro _ | split | dsimp only

theorem execSupervisorRestartReopen_ok (h : Ok q s)  : Good q (execSupervisorRestartReopen s) := by
  unfold execSupervisorRestartReopen
  with_reducible repeat' first | assumption | apply Good.next | apply good_ite | apply State.setFld_ok | apply State.modBoot_ok | apply State.showIdent_ok | apply State.forUnits_ok | apply State.box_ok | apply State.resendAll_ok | apply State.flush_ok | apply State.noticeAll_ok | apply State.post_ok | apply State.cond_ok | apply State.ringPut_ok | apply ok_ite | exact List.Sublist.refl _ | exact fun _ => rfl | (apply Ok.mk'; first | assumption | apply Good.next | apply good_ite | apply State.setFld_ok | apply State.modBoot_ok | apply State.showIdent_ok | apply State.forUnits_ok | apply State.box_ok | apply State.resendAll_ok | apply State.flush_ok | apply State.noticeAll_ok | apply State.post_ok | apply State.cond_ok | apply State.ringPut_ok | apply ok_ite | exact List.Sublist.refl _ | exact fun _ => rfl) | (apply Ok.mkFcp; first | assumption | apply Good.next | apply good_ite | apply State.setFld_ok | apply State.modBoot_ok | apply State.showIdent_ok | apply State.forUnits_ok | apply State.box_ok | apply State.resendAll_ok | apply State.flush_ok | apply State.noticeAll_ok | apply State.post_ok | apply State.cond_ok | apply State.ringPut_ok | apply ok_ite | exact List.Sublist.refl _ | exact fun _ => rfl) | exact rfl | intro _ | split | dsimp only

theorem execUpdBegin_ok (h : Ok q s) (tag) (nvm) : Good q (execUpdBegin tag nvm s) := by
  unfold execUpdBegin
  with_reducible repeat' first | assumption | apply Good.next | apply good_ite | apply serve_ok | apply State.done_ok | apply State.modBoot_ok | apply State.modSlot_ok | apply ok_ite | exact fun _ => rfl | intro _ | split | dsimp only

theorem execUpdWrite_ok (h : Ok q s) (tag) (nvm) : Good q (execUpdWrite tag nvm s) := by
  unfold execUpdWrite
  with_reducible repeat' first | assumption | apply Good.next | apply good_ite | apply serve_ok | apply State.done_ok | apply State.modSlot_ok | apply State.modBoot_ok | apply ok_ite | exact fun _ => rfl | intro _ | split | dsimp only

theorem execUpdVerify_ok (h : Ok q s) (tag) : Good q (execUpdVerify tag s) := by
  unfold execUpdVerify
  with_reducible repeat' first | assumption | apply Good.next | apply good_ite | apply serve_ok | apply State.done_ok | apply State.modBoot_ok | apply State.modSlot_ok | apply State.complete_ok | apply ok_ite | exact fun _ => rfl | (apply Ok.mk'; first | assumption | apply Good.next | apply good_ite | apply serve_ok | apply State.done_ok | apply State.modBoot_ok | apply State.modSlot_ok | apply State.complete_ok | apply ok_ite | exact fun _ => rfl) | exact rfl | intro _ | split

theorem execUpdActivate_ok (h : Ok q s) (tag) (nvm) : Good q (execUpdActivate tag nvm s) := by
  unfold execUpdActivate
  with_reducible repeat' first | assumption | apply Good.next | apply good_ite | apply serve_ok | apply State.done_ok | apply State.modBoot_ok | apply State.assertReset_ok | apply ok_ite | exact fun _ => rfl | (apply Ok.mk'; first | assumption | apply Good.next | apply good_ite | apply serve_ok | apply State.done_ok | apply State.modBoot_ok | apply State.assertReset_ok | apply ok_ite | exact fun _ => rfl) | exact rfl | intro _ | split | dsimp only

theorem execUpdRestart_ok (h : Ok q s) (tag) : Good q (execUpdRestart tag s) := by
  unfold execUpdRestart
  with_reducible repeat' first | assumption | apply Good.next | apply good_ite | apply serve_ok | apply State.done_ok | apply State.modBoot_ok | apply State.svpRestart_ok | apply ok_ite | exact fun _ => rfl | (apply Ok.mk'; first | assumption | apply Good.next | apply good_ite | apply serve_ok | apply State.done_ok | apply State.modBoot_ok | apply State.svpRestart_ok | apply ok_ite | exact fun _ => rfl) | exact rfl | intro _ | split

theorem execUpdSvn_ok (h : Ok q s) (tag) : Good q (execUpdSvn tag s) := by
  unfold execUpdSvn
  with_reducible repeat' first | assumption | apply Good.next | apply good_ite | apply serve_ok | apply State.done_ok | apply State.setFld_ok | apply State.modBoot_ok | apply ok_ite | exact fun _ => rfl | (apply Ok.mk'; first | assumption | apply Good.next | apply good_ite | apply serve_ok | apply State.done_ok | apply State.setFld_ok | apply State.modBoot_ok | apply ok_ite | exact fun _ => rfl) | exact rfl | intro _ | split

theorem execUpdInfo_ok (h : Ok q s) (tag) : Good q (execUpdInfo tag s) := by
  unfold execUpdInfo
  with_reducible repeat' first | assumption | apply Good.next | apply good_ite | apply serve_ok | apply State.done_ok | apply State.complete_ok | apply ok_ite | exact fun _ => rfl | intro _ | split

theorem execAttReport_ok (h : Ok q s) (tag) : Good q (execAttReport tag s) := by
  unfold execAttReport
  with_reducible repeat' first | assumption | apply Good.next | apply good_ite | apply serve_ok | apply State.done_ok | apply State.start_ok | apply State.modBoot_ok | apply ok_ite | exact fun _ => rfl | (apply Ok.mk'; first | assumption | apply Good.next | apply good_ite | apply serve_ok | apply State.done_ok | apply State.start_ok | apply State.modBoot_ok | apply ok_ite | exact fun _ => rfl) | exact rfl | intro _ | split

theorem execAttReportBuilt_ok (h : Ok q s)  : Good q (execAttReportBuilt s) := by
  unfold execAttReportBuilt
  with_reducible repeat' first | assumption | apply Good.next | apply good_ite | apply State.modBoot_ok | apply State.complete_ok | apply ok_ite | exact fun _ => rfl | (apply Ok.mk'; first | assumption | apply Good.next | apply good_ite | apply State.modBoot_ok | apply State.complete_ok | apply ok_ite | exact fun _ => rfl) | exact rfl | intro _ | split | dsimp only

theorem State.readFile_ok (h : Ok q s) (e) (file) : Ok q (State.readFile s e file) := by
  unfold State.readFile
  with_reducible repeat' first | assumption | apply State.done_ok | apply State.complete_ok | apply ok_ite | exact fun _ => rfl | intro _ | split

theorem execAttRead_ok (h : Ok q s) (tag) : Good q (execAttRead tag s) := by
  unfold execAttRead
  with_reducible repeat' first | assumption | apply Good.next | apply good_ite | apply serve_ok | apply State.readFile_ok | exact fun _ => rfl | intro _ | split

theorem execAttIdentity_ok (h : Ok q s) (tag) : Good q (execAttIdentity tag s) := by
  unfold execAttIdentity
  with_reducible repeat' first | assumption | apply Good.next | apply good_ite | apply serve_ok | apply State.readFile_ok | exact fun _ => rfl | intro _ | split

theorem execHlpLoad_ok (h : Ok q s) (tag) : Good q (execHlpLoad tag s) := by
  unfold execHlpLoad
  with_reducible repeat' first | assumption | apply Good.next | apply good_ite | apply serve_ok | apply State.done_ok | apply State.modHlp_ok | apply ok_ite | exact fun _ => rfl | (apply Ok.mk'; first | assumption | apply Good.next | apply good_ite | apply serve_ok | apply State.done_ok | apply State.modHlp_ok | apply ok_ite | exact fun _ => rfl) | exact rfl | intro _ | split

theorem State.installProg_ok (h : Ok q s) (p) : Ok q (State.installProg s p) := by
  unfold State.installProg
  with_reducible repeat' first | assumption | apply State.setFlag_ok | apply State.modHlp_ok | apply State.setFld_ok | exact fun _ => rfl | (apply Ok.mk'; first | assumption | apply State.setFlag_ok | apply State.modHlp_ok | apply State.setFld_ok | exact fun _ => rfl) | exact rfl | intro _ | split

theorem execHlpLoadDone_ok (h : Ok q s) (tag) : Good q (execHlpLoadDone tag s) := by
  unfold execHlpLoadDone
  with_reducible repeat' first | assumption | apply Good.next | apply good_ite | apply serve_ok | apply State.done_ok | apply State.installProg_ok | apply State.setFlag_ok | apply ok_ite | exact fun _ => rfl | (apply Ok.mk'; first | assumption | apply Good.next | apply good_ite | apply serve_ok | apply State.done_ok | apply State.installProg_ok | apply State.setFlag_ok | apply ok_ite | exact fun _ => rfl) | exact rfl | intro _ | split

theorem execHlpStart_ok (h : Ok q s) (tag) : Good q (execHlpStart tag s) := by
  unfold execHlpStart
  with_reducible repeat' first | assumption | apply Good.next | apply good_ite | apply serve_ok | apply State.done_ok | apply State.hlpRestart_ok | apply ok_ite | exact fun _ => rfl | intro _ | split

theorem execHlpStop_ok (h : Ok q s) (tag) : Good q (execHlpStop tag s) := by
  unfold execHlpStop
  with_reducible repeat' first | assumption | apply Good.next | apply good_ite | apply serve_ok | apply State.start_ok | apply State.done_ok | apply ok_ite | exact fun _ => rfl | intro _ | split

theorem execHlpMode_ok (h : Ok q s) (tag) : Good q (execHlpMode tag s) := by
  unfold execHlpMode
  with_reducible repeat' first | assumption | apply Good.next | apply good_ite | apply serve_ok | apply State.done_ok | apply State.start_ok | apply ok_ite | exact fun _ => rfl | intro _ | split

theorem execHlpOlc_ok (h : Ok q s) (tag) : Good q (execHlpOlc tag s) := by
  unfold execHlpOlc
  with_reducible repeat' first | assumption | apply Good.next | apply good_ite | apply serve_ok | apply State.done_ok | apply State.start_ok | apply State.olcEnd_ok | apply ok_ite | exact fun _ => rfl | intro _ | split | dsimp only

theorem execVinPowerOn_ok (h : Ok q s)  : Good q (execVinPowerOn s) := by
  unfold execVinPowerOn
  with_reducible repeat' first | assumption | apply Good.next | apply good_ite | apply State.assertReset_ok | exact fun _ => rfl | intro _ | split

theorem execVinBrownOut_ok (h : Ok q s)  : Good q (execVinBrownOut s) := by
  unfold execVinBrownOut
  with_reducible repeat' first | assumption | apply Good.next | apply good_ite | apply State.assertReset_ok | exact fun _ => rfl | intro _ | split

theorem execRstNPin_ok (h : Ok q s)  : Good q (execRstNPin s) := by
  unfold execRstNPin
  with_reducible repeat' first | assumption | apply Good.next | apply good_ite | apply State.assertReset_ok | exact fun _ => rfl | intro _ | split

theorem State.clearRegs_ok (h : Ok q s) (f) : Ok q (State.clearRegs s f) :=
  h.regs (Memory.wf_filter _ _ _ h.inv.regs) rfl rfl rfl rfl rfl

theorem State.blockClear_ok (h : Ok q s) (b) : Ok q (State.blockClear s b) := by
  unfold State.blockClear
  with_reducible repeat' first | assumption | apply State.modHlp_ok | apply State.hlpStop_ok | apply State.releaseAct_ok | apply State.modPwm_ok | apply State.clearRegs_ok | apply State.laneStops_ok | apply State.cond_ok | apply State.toLane_ok | apply State.gdenCmd_ok | apply State.linkDown_ok | apply State.modMac_ok | apply State.segDrop_ok | apply ok_ite | exact fun _ => rfl | (apply Ok.mk'; first | assumption | apply State.modHlp_ok | apply State.hlpStop_ok | apply State.releaseAct_ok | apply State.modPwm_ok | apply State.clearRegs_ok | apply State.laneStops_ok | apply State.cond_ok | apply State.toLane_ok | apply State.gdenCmd_ok | apply State.linkDown_ok | apply State.modMac_ok | apply State.segDrop_ok | apply ok_ite | exact fun _ => rfl) | exact rfl | intro _ | split | dsimp only

theorem State.blockReset_ok (h : Ok q s) (src) (b) (idle) : Ok q (State.blockReset s src b idle) := by
  unfold State.blockReset
  with_reducible repeat' first | assumption | apply State.noteSrc_ok | apply State.blockClear_ok | apply State.blockDone_ok | apply ok_ite | exact fun _ => rfl | intro _ | split | dsimp only

theorem execBlockReset_ok (h : Ok q s) (src) (block) : Good q (execBlockReset src block s) := by
  unfold execBlockReset
  with_reducible repeat' first | assumption | apply Good.next | apply good_ite | apply State.blockReset_ok | exact fun _ => rfl | intro _ | split

theorem execBlockIdleTimeout_ok (h : Ok q s) (src) (block) : Good q (execBlockIdleTimeout src block s) := by
  unfold execBlockIdleTimeout
  with_reducible repeat' first | assumption | apply Good.next | apply good_ite | apply State.blockReset_ok | exact fun _ => rfl | intro _ | split

theorem execBusOff_ok (h : Ok q s) (can) : Good q (execBusOff can s) := by
  unfold execBusOff
  with_reducible repeat' first | assumption | apply Good.next | apply good_ite | apply State.blockReset_ok | exact fun _ => rfl | intro _ | split

theorem execDebugResetRequest_ok (h : Ok q s) (what) : Good q (execDebugResetRequest what s) := by
  unfold execDebugResetRequest
  with_reducible repeat' first | assumption | apply Good.next | apply good_ite | apply State.assertReset_ok | apply State.svpRestart_ok | apply State.blockReset_ok | exact fun _ => rfl | intro _ | split

theorem execForcedRelease_ok (h : Ok q s) (block) : Good q (execForcedRelease block s) := by
  unfold execForcedRelease
  with_reducible repeat' first | assumption | apply Good.next | apply good_ite | apply State.waitClk_ok | apply State.modBoot_ok | apply State.setUnclean_ok | apply State.releaseBlock_ok | apply ok_ite | exact fun _ => rfl | (apply Ok.mk'; first | assumption | apply Good.next | apply good_ite | apply State.waitClk_ok | apply State.modBoot_ok | apply State.setUnclean_ok | apply State.releaseBlock_ok | apply ok_ite | exact fun _ => rfl) | exact rfl | intro _ | split

theorem State.readOptions_ok (h : Ok q s) (samples) : Ok q (State.readOptions s samples) := by
  unfold State.readOptions
  with_reducible repeat' first | assumption | apply State.setFlag_ok | apply State.setFld_ok | apply ok_ite | exact fun _ => rfl | intro _ | split

theorem execResetRelease_ok (h : Ok q s) (strap) : Good q (execResetRelease strap s) := by
  unfold execResetRelease
  with_reducible repeat' first | assumption | apply Good.next | apply good_ite | apply State.setFld_ok | apply State.cond_ok | apply State.readOptions_ok | apply State.modBoot_ok | apply State.waitClk_ok | apply State.startPlls_ok | apply foldl_ok | apply ok_ite | exact fun _ => rfl | (apply Ok.mk'; first | assumption | apply Good.next | apply good_ite | apply State.setFld_ok | apply State.cond_ok | apply State.readOptions_ok | apply State.modBoot_ok | apply State.waitClk_ok | apply State.startPlls_ok | apply foldl_ok | apply ok_ite | exact fun _ => rfl) | exact rfl | intro _ | split | dsimp only

theorem State.bootFail_ok (h : Ok q s)  : Ok q (State.bootFail s) := by
  unfold State.bootFail
  with_reducible repeat' first | assumption | apply State.modBoot_ok | apply State.setFld_ok | exact fun _ => rfl | (apply Ok.mk'; first | assumption | apply State.modBoot_ok | apply State.setFld_ok | exact fun _ => rfl) | exact rfl | intro _ | split

theorem State.trySlots_ok (l : List Nat) (h : Ok q s) : Ok q (State.trySlots s l) := by
  induction l generalizing s with
  | nil => exact bootFail_ok h
  | cons k l ih =>
    unfold State.trySlots
    dsimp only
    split
    · exact modBoot_ok (setFlag_ok (setFld_ok (setFld_ok (setFld_ok h _ _ _) _ _ _) _ _ _) _ _ _) _
    · exact ih (setFld_ok h _ _ _)

theorem State.hashFail_ok (h : Ok q s)  : Ok q (State.hashFail s) := by
  unfold State.hashFail
  with_reducible repeat' first | assumption | apply State.modBoot_ok | apply State.assertReset_ok | apply State.setFld_ok | exact fun _ => rfl | (apply Ok.mk'; first | assumption | apply State.modBoot_ok | apply State.assertReset_ok | apply State.setFld_ok | exact fun _ => rfl) | exact rfl | intro _ | split

theorem State.writeTack_ok (h : Ok q s)  : Ok q (State.writeTack s) := by
  unfold State.writeTack
  with_reducible repeat' first | assumption | apply State.setReg_ok | apply State.setFld_ok | apply ok_ite | exact fun _ => rfl | (apply Ok.mk'; first | assumption | apply State.setReg_ok | apply State.setFld_ok | apply ok_ite | exact fun _ => rfl) | exact rfl | intro _ | split | dsimp only

theorem State.bootTack_ok (h : Ok q s)  : Ok q (State.bootTack s) := by
  unfold State.bootTack
  with_reducible repeat' first | assumption | apply State.stwEn_ok | apply State.toStw_ok | apply State.modPwm_ok | apply State.writeTack_ok | apply State.assertReset_ok | apply ok_ite | exact fun _ => rfl | (apply Ok.mk'; first | assumption | apply State.stwEn_ok | apply State.toStw_ok | apply State.modPwm_ok | apply State.writeTack_ok | apply State.assertReset_ok | apply ok_ite | exact fun _ => rfl) | exact rfl | intro _ | split

theorem State.bootCoef_ok (h : Ok q s)  : Ok q (State.bootCoef s) := by
  unfold State.bootCoef
  with_reducible repeat' first | assumption | apply State.modCoef_ok | apply State.modPwm_ok | apply State.setFlag_ok | apply State.showMark_ok | exact fun _ => rfl | (apply Ok.mk'; first | assumption | apply State.modCoef_ok | apply State.modPwm_ok | apply State.setFlag_ok | apply State.showMark_ok | exact fun _ => rfl) | exact rfl | intro _ | split

theorem State.bootHlp_ok (h : Ok q s)  : Ok q (State.bootHlp s) := by
  unfold State.bootHlp
  with_reducible repeat' first | assumption | apply State.cond_ok | apply State.installProg_ok | apply State.hlpAuto_ok | apply ok_ite | exact fun _ => rfl | intro _ | split

theorem State.bootDone_ok (h : Ok q s)  : Ok q (State.bootDone s) := by
  unfold State.bootDone
  with_reducible repeat' first | assumption | apply State.showIdent_ok | apply State.setFld_ok | apply State.forUnits_ok | apply State.box_ok | apply State.cond_ok | apply State.post_ok | exact List.Sublist.refl _ | exact fun _ => rfl | (apply Ok.mk'; first | assumption | apply State.showIdent_ok | apply State.setFld_ok | apply State.forUnits_ok | apply State.box_ok | apply State.cond_ok | apply State.post_ok | exact List.Sublist.refl _ | exact fun _ => rfl) | exact rfl | intro _ | split

theorem State.bootStep_ok (h : Ok q s) (n) (selfTest) : Ok q (State.bootStep s n selfTest) := by
  unfold State.bootStep
  with_reducible repeat' first | assumption | apply State.ringOn_ok | apply State.bootFail_ok | apply State.trySlots_ok | apply State.bootTack_ok | apply State.setFld_ok | apply State.hashFail_ok | apply State.bootCoef_ok | apply State.bootHlp_ok | apply State.bootDone_ok | apply ok_ite | exact fun _ => rfl | intro _ | split | dsimp only

theorem execBootStepComplete_ok (h : Ok q s) (selfTest) : Good q (execBootStepComplete selfTest s) := by
  unfold execBootStepComplete
  with_reducible repeat' first | assumption | apply Good.next | apply good_ite | apply State.bootStep_ok | apply State.modBoot_ok | apply ok_ite | exact fun _ => rfl | (apply Ok.mk'; first | assumption | apply Good.next | apply good_ite | apply State.bootStep_ok | apply State.modBoot_ok | apply ok_ite | exact fun _ => rfl) | exact rfl | intro _ | split

theorem State.found_ok (h : Ok q s) (site) : Ok q (State.found s site) := by
  unfold State.found
  with_reducible repeat' first | assumption | exact fun _ => rfl | (apply Ok.mk'; first | assumption | exact fun _ => rfl) | exact rfl | intro _ | split

theorem execMemoryError_ok (h : Ok q s) (site) : Good q (execMemoryError site s) := by
  unfold execMemoryError
  with_reducible repeat' first | assumption | apply Good.next | apply good_ite | apply State.found_ok | apply State.cleParity_ok | apply State.memErr_ok | apply State.bankFail_ok | apply State.hlpHalt_ok | apply State.deferReset_ok | apply State.svpRestart_ok | apply State.count_ok | apply State.cond_ok | apply State.assertReset_ok | apply State.cause_ok | apply State.found_ok | apply State.cleParity_ok | apply State.memErr_ok | apply State.bankFail_ok | apply State.hlpHalt_ok | apply State.deferReset_ok | apply State.svpRestart_ok | apply State.count_ok | apply State.cond_ok | apply State.assertReset_ok | apply State.cause_ok | apply State.found_ok | apply State.cleParity_ok | apply State.memErr_ok | apply State.bankFail_ok | apply State.hlpHalt_ok | apply State.deferReset_ok | apply State.svpRestart_ok | apply State.count_ok | apply State.cond_ok | apply State.assertReset_ok | apply State.cause_ok | apply State.found_ok | apply State.cleParity_ok | apply State.memErr_ok | apply State.bankFail_ok | apply State.hlpHalt_ok | apply State.deferReset_ok | apply State.svpRestart_ok | apply State.count_ok | apply State.cond_ok | apply State.assertReset_ok | apply State.cause_ok | apply State.assertReset_ok | apply State.found_ok | apply State.cleParity_ok | apply State.memErr_ok | apply State.bankFail_ok | apply State.hlpHalt_ok | apply State.deferReset_ok | apply State.svpRestart_ok | apply State.count_ok | apply State.cond_ok | apply State.assertReset_ok | apply State.cause_ok | apply State.found_ok | apply State.cleParity_ok | apply State.memErr_ok | apply State.bankFail_ok | apply State.hlpHalt_ok | apply State.deferReset_ok | apply State.svpRestart_ok | apply State.count_ok | apply State.cond_ok | apply State.assertReset_ok | apply State.cause_ok | apply State.found_ok | apply State.cleParity_ok | apply State.memErr_ok | apply State.bankFail_ok | apply State.hlpHalt_ok | apply State.deferReset_ok | apply State.svpRestart_ok | apply State.count_ok | apply State.cond_ok | apply State.assertReset_ok | apply State.cause_ok | apply State.found_ok | apply State.cleParity_ok | apply State.memErr_ok | apply State.bankFail_ok | apply State.hlpHalt_ok | apply State.deferReset_ok | apply State.svpRestart_ok | apply State.count_ok | apply State.cond_ok | apply State.assertReset_ok | apply State.cause_ok | apply State.assertReset_ok | apply State.found_ok | apply State.cleParity_ok | apply State.memErr_ok | apply State.bankFail_ok | apply State.hlpHalt_ok | apply State.deferReset_ok | apply State.svpRestart_ok | apply State.count_ok | apply State.cond_ok | apply State.assertReset_ok | apply State.cause_ok | apply State.found_ok | apply State.cleParity_ok | apply State.memErr_ok | apply State.bankFail_ok | apply State.hlpHalt_ok | apply State.deferReset_ok | apply State.svpRestart_ok | apply State.count_ok | apply State.cond_ok | apply State.assertReset_ok | apply State.cause_ok | apply State.found_ok | apply State.cleParity_ok | apply State.memErr_ok | apply State.bankFail_ok | apply State.hlpHalt_ok | apply State.deferReset_ok | apply State.svpRestart_ok | apply State.count_ok | apply State.cond_ok | apply State.assertReset_ok | apply State.cause_ok | apply State.found_ok | apply State.cleParity_ok | apply State.memErr_ok | apply State.bankFail_ok | apply State.hlpHalt_ok | apply State.deferReset_ok | apply State.svpRestart_ok | apply State.count_ok | apply State.cond_ok | apply State.assertReset_ok | apply State.cause_ok | apply State.assertReset_ok | apply State.found_ok | apply State.cleParity_ok | apply State.memErr_ok | apply State.bankFail_ok | apply State.hlpHalt_ok | apply State.deferReset_ok | apply State.svpRestart_ok | apply State.count_ok | apply State.cond_ok | apply State.assertReset_ok | apply State.cause_ok | apply State.found_ok | apply State.cleParity_ok | apply State.memErr_ok | apply State.bankFail_ok | apply State.hlpHalt_ok | apply State.deferReset_ok | apply State.svpRestart_ok | apply State.count_ok | apply State.cond_ok | apply State.assertReset_ok | apply State.cause_ok | apply State.found_ok | apply State.cleParity_ok | apply State.memErr_ok | apply State.bankFail_ok | apply State.hlpHalt_ok | apply State.deferReset_ok | apply State.svpRestart_ok | apply State.count_ok | apply State.cond_ok | apply State.assertReset_ok | apply State.cause_ok | apply State.found_ok | apply State.cleParity_ok | apply State.memErr_ok | apply State.bankFail_ok | apply State.hlpHalt_ok | apply State.deferReset_ok | apply State.svpRestart_ok | apply State.count_ok | apply State.cond_ok | apply State.assertReset_ok | apply State.cause_ok | apply State.assertReset_ok | apply State.assertReset_ok | apply ok_ite | exact fun _ => rfl | (apply Ok.mk'; first | assumption | apply Good.next | apply good_ite | apply State.found_ok | apply State.cleParity_ok | apply State.memErr_ok | apply State.bankFail_ok | apply State.hlpHalt_ok | apply State.deferReset_ok | apply State.svpRestart_ok | apply State.count_ok | apply State.cond_ok | apply State.assertReset_ok | apply State.cause_ok | apply State.found_ok | apply State.cleParity_ok | apply State.memErr_ok | apply State.bankFail_ok | apply State.hlpHalt_ok | apply State.deferReset_ok | apply State.svpRestart_ok | apply State.count_ok | apply State.cond_ok | apply State.assertReset_ok | apply State.cause_ok | apply State.found_ok | apply State.cleParity_ok | apply State.memErr_ok | apply State.bankFail_ok | apply State.hlpHalt_ok | apply State.deferReset_ok | apply State.svpRestart_ok | apply State.count_ok | apply State.cond_ok | apply State.assertReset_ok | apply State.cause_ok | apply State.found_ok | apply State.cleParity_ok | apply State.memErr_ok | apply State.bankFail_ok | apply State.hlpHalt_ok | apply State.deferReset_ok | apply State.svpRestart_ok | apply State.count_ok | apply State.cond_ok | apply State.assertReset_ok | apply State.cause_ok | apply State.assertReset_ok | apply State.found_ok | apply State.cleParity_ok | apply State.memErr_ok | apply State.bankFail_ok | apply State.hlpHalt_ok | apply State.deferReset_ok | apply State.svpRestart_ok | apply State.count_ok | apply State.cond_ok | apply State.assertReset_ok | apply State.cause_ok | apply State.found_ok | apply State.cleParity_ok | apply State.memErr_ok | apply State.bankFail_ok | apply State.hlpHalt_ok | apply State.deferReset_ok | apply State.svpRestart_ok | apply State.count_ok | apply State.cond_ok | apply State.assertReset_ok | apply State.cause_ok | apply State.found_ok | apply State.cleParity_ok | apply State.memErr_ok | apply State.bankFail_ok | apply State.hlpHalt_ok | apply State.deferReset_ok | apply State.svpRestart_ok | apply State.count_ok | apply State.cond_ok | apply State.assertReset_ok | apply State.cause_ok | apply State.found_ok | apply State.cleParity_ok | apply State.memErr_ok | apply State.bankFail_ok | apply State.hlpHalt_ok | apply State.deferReset_ok | apply State.svpRestart_ok | apply State.count_ok | apply State.cond_ok | apply State.assertReset_ok | apply State.cause_ok | apply State.assertReset_ok | apply State.found_ok | apply State.cleParity_ok | apply State.memErr_ok | apply State.bankFail_ok | apply State.hlpHalt_ok | apply State.deferReset_ok | apply State.svpRestart_ok | apply State.count_ok | apply State.cond_ok | apply State.assertReset_ok | apply State.cause_ok | apply State.found_ok | apply State.cleParity_ok | apply State.memErr_ok | apply State.bankFail_ok | apply State.hlpHalt_ok | apply State.deferReset_ok | apply State.svpRestart_ok | apply State.count_ok | apply State.cond_ok | apply State.assertReset_ok | apply State.cause_ok | apply State.found_ok | apply State.cleParity_ok | apply State.memErr_ok | apply State.bankFail_ok | apply State.hlpHalt_ok | apply State.deferReset_ok | apply State.svpRestart_ok | apply State.count_ok | apply State.cond_ok | apply State.assertReset_ok | apply State.cause_ok | apply State.found_ok | apply State.cleParity_ok | apply State.memErr_ok | apply State.bankFail_ok | apply State.hlpHalt_ok | apply State.deferReset_ok | apply State.svpRestart_ok | apply State.count_ok | apply State.cond_ok | apply State.assertReset_ok | apply State.cause_ok | apply State.assertReset_ok | apply State.found_ok | apply State.cleParity_ok | apply State.memErr_ok | apply State.bankFail_ok | apply State.hlpHalt_ok | apply State.deferReset_ok | apply State.svpRestart_ok | apply State.count_ok | apply State.cond_ok | apply State.assertReset_ok | apply State.cause_ok | apply State.found_ok | apply State.cleParity_ok | apply State.memErr_ok | apply State.bankFail_ok | apply State.hlpHalt_ok | apply State.deferReset_ok | apply State.svpRestart_ok | apply State.count_ok | apply State.cond_ok | apply State.assertReset_ok | apply State.cause_ok | apply State.found_ok | apply State.cleParity_ok | apply State.memErr_ok | apply State.bankFail_ok | apply State.hlpHalt_ok | apply State.deferReset_ok | apply State.svpRestart_ok | apply State.count_ok | apply State.cond_ok | apply State.assertReset_ok | apply State.cause_ok | apply State.found_ok | apply State.cleParity_ok | apply State.memErr_ok | apply State.bankFail_ok | apply State.hlpHalt_ok | apply State.deferReset_ok | apply State.svpRestart_ok | apply State.count_ok | apply State.cond_ok | apply State.assertReset_ok | apply State.cause_ok | apply State.assertReset_ok | apply State.assertReset_ok | apply ok_ite | exact fun _ => rfl) | exact rfl | intro _ | split | dsimp only

theorem execDeferredSystemReset_ok (h : Ok q s)  : Good q (execDeferredSystemReset s) := by
  unfold execDeferredSystemReset
  with_reducible repeat' first | assumption | apply Good.next | apply good_ite | apply State.assertReset_ok | exact fun _ => rfl | intro _ | split

theorem execSingleBitError_ok (h : Ok q s) (mem) : Good q (execSingleBitError mem s) := by
  unfold execSingleBitError
  with_reducible repeat' first | assumption | apply Good.next | apply good_ite | apply State.count_ok | exact fun _ => rfl | intro _ | split

theorem execOptionSectorWrite_ok (h : Ok q s) (bytes) : Good q (execOptionSectorWrite bytes s) := by
  unfold execOptionSectorWrite
  with_reducible repeat' first | assumption | apply Good.next | apply good_ite | apply State.modBoot_ok | exact fun _ => rfl | (apply Ok.mk'; first | assumption | apply Good.next | apply good_ite | apply State.modBoot_ok | exact fun _ => rfl) | exact rfl | intro _ | split

theorem execRevocationBurn_ok (h : Ok q s) (slhDsa) (slot) : Good q (execRevocationBurn slhDsa slot s) := by
  unfold execRevocationBurn
  with_reducible repeat' first | assumption | apply Good.next | apply good_ite | apply State.modBoot_ok | apply ok_ite | exact fun _ => rfl | (apply Ok.mk'; first | assumption | apply Good.next | apply good_ite | apply State.modBoot_ok | apply ok_ite | exact fun _ => rfl) | exact rfl | intro _ | split

theorem State.capFree_ok (h : Ok q s) (n) (v) : Ok q (State.capFree s n v) := by
  unfold State.capFree
  with_reducible repeat' first | assumption | apply State.forUnits_ok | apply State.capSample_ok | apply State.capLevel_ok | apply ok_ite | exact fun _ => rfl | intro _ | split

theorem execConversionComplete_ok (h : Ok q s) (core) (nv) : Good q (execConversionComplete core nv s) := by
  unfold execConversionComplete
  with_reducible repeat' first | assumption | apply Good.next | apply good_ite | apply State.freeRun_ok | apply State.capFree_ok | apply State.coreStat_ok | apply State.modCore_ok | apply State.deliver_ok | exact fun _ => rfl | (apply Ok.mk'; first | assumption | apply Good.next | apply good_ite | apply State.freeRun_ok | apply State.capFree_ok | apply State.coreStat_ok | apply State.modCore_ok | apply State.deliver_ok | exact fun _ => rfl) | exact rfl | intro _ | split

theorem State.histCount_ok (h : Ok q s) (u) : Ok q (State.histCount s u) := by
  unfold State.histCount
  with_reducible repeat' first | assumption | apply State.modCap_ok | apply State.cond_ok | apply State.count_ok | apply ok_ite | exact fun _ => rfl | (apply Ok.mk'; first | assumption | apply State.modCap_ok | apply State.cond_ok | apply State.count_ok | apply ok_ite | exact fun _ => rfl) | exact rfl | intro _ | split

theorem State.pmapCount_ok (h : Ok q s)  : Ok q (State.pmapCount s) := by
  unfold State.pmapCount
  with_reducible repeat' first | assumption | apply State.modCap_ok | apply ok_ite | exact fun _ => rfl | (apply Ok.mk'; first | assumption | apply State.modCap_ok | apply ok_ite | exact fun _ => rfl) | exact rfl | intro _ | split

theorem State.capEarly_ok (h : Ok q s)  : Ok q (State.capEarly s) := by
  unfold State.capEarly
  with_reducible repeat' first | assumption | apply State.modCap_ok | apply ok_ite | exact fun _ => rfl | (apply Ok.mk'; first | assumption | apply State.modCap_ok | apply ok_ite | exact fun _ => rfl) | exact rfl | intro _ | split

theorem State.capMark_ok (h : Ok q s) (o) : Ok q (State.capMark s o) := by
  unfold State.capMark
  with_reducible repeat' first | assumption | apply State.capPush_ok | apply State.cond_ok | apply State.count_ok | apply State.modCap_ok | apply State.setFlag_ok | exact fun _ => rfl | (apply Ok.mk'; first | assumption | apply State.capPush_ok | apply State.cond_ok | apply State.count_ok | apply State.modCap_ok | apply State.setFlag_ok | exact fun _ => rfl) | exact rfl | intro _ | split

theorem State.capStream_ok (h : Ok q s)  : Ok q (State.capStream s) := by
  unfold State.capStream
  with_reducible repeat' first | assumption | apply State.capEarly_ok | apply State.capMark_ok | apply State.forUnits_ok | apply State.capSample_ok | apply State.modCap_ok | apply State.capLevel_ok | apply ok_ite | exact fun _ => rfl | intro _ | split | dsimp only

theorem State.capBoundary_ok (h : Ok q s)  : Ok q (State.capBoundary s) := by
  unfold State.capBoundary
  with_reducible repeat' first | assumption | apply State.capStream_ok | apply State.forUnits_ok | apply State.histCount_ok | apply State.pmapCount_ok | apply State.modPwm_ok | apply ok_ite | exact fun _ => rfl | (apply Ok.mk'; first | assumption | apply State.capStream_ok | apply State.forUnits_ok | apply State.histCount_ok | apply State.pmapCount_ok | apply State.modPwm_ok | apply ok_ite | exact fun _ => rfl) | (apply Ok.mkEvq; first | assumption | apply State.capStream_ok | apply State.forUnits_ok | apply State.histCount_ok | apply State.pmapCount_ok | apply State.modPwm_ok | apply ok_ite | exact fun _ => rfl) | exact rfl | intro _ | split | dsimp only

theorem State.capStopNow_ok (h : Ok q s) : Ok q (State.capStopNow s) := by
  unfold State.capStopNow
  with_reducible repeat' first | assumption | apply State.modCap_ok | apply State.setFld_ok | apply State.setFlag_ok | apply ok_ite | exact fun _ => rfl | intro _ | split | dsimp only

theorem State.capStartNow_ok (h : Ok q s) : Ok q (State.capStartNow s) := by
  unfold State.capStartNow
  with_reducible repeat' first | assumption | apply State.modCap_ok | apply State.setFld_ok | apply State.setFlag_ok | apply State.capAnswer_ok | apply ok_ite | exact fun _ => rfl | intro _ | split | dsimp only

theorem execDatagramClose_ok (h : Ok q s)  : Good q (execDatagramClose s) := by
  unfold execDatagramClose
  with_reducible repeat' first | assumption | apply Good.next | apply good_ite | apply State.modCap_ok | apply State.capLevel_ok | apply ok_ite | exact fun _ => rfl | intro _ | split | dsimp only

theorem State.capEnd_ok (h : Ok q s)  : Ok q (State.capEnd s) := by
  unfold State.capEnd
  with_reducible repeat' first | assumption | apply State.setFld_ok | apply State.capAnswer_ok | apply ok_ite | exact fun _ => rfl | intro _ | split | dsimp only

theorem execFlushComplete_ok (h : Ok q s)  : Good q (execFlushComplete s) := by
  unfold execFlushComplete
  with_reducible repeat' first | assumption | apply Good.next | apply good_ite | apply State.capEnd_ok | exact fun _ => rfl | intro _ | split

theorem execFlushTimeout_ok (h : Ok q s)  : Good q (execFlushTimeout s) := by
  unfold execFlushTimeout
  with_reducible repeat' first | assumption | apply Good.next | apply good_ite | apply State.capEnd_ok | apply State.capLevel_ok | apply State.modCap_ok | apply State.countN_ok | exact fun _ => rfl | (apply Ok.mk'; first | assumption | apply Good.next | apply good_ite | apply State.capEnd_ok | apply State.capLevel_ok | apply State.modCap_ok | apply State.countN_ok | exact fun _ => rfl) | exact rfl | intro _ | split

theorem execCapCfg_ok (h : Ok q s) (tag) : Good q (execCapCfg tag s) := by
  unfold execCapCfg
  with_reducible repeat' first | assumption | apply Good.next | apply good_ite | apply serve_ok | apply State.done_ok | apply State.modCap_ok | apply State.setFlag_ok | apply State.capRate_ok | apply ok_ite | exact fun _ => rfl | (apply Ok.mk'; first | assumption | apply Good.next | apply good_ite | apply serve_ok | apply State.done_ok | apply State.modCap_ok | apply State.setFlag_ok | apply State.capRate_ok | apply ok_ite | exact fun _ => rfl) | exact rfl | intro _ | split

theorem execCapStart_ok (h : Ok q s) (tag) : Good q (execCapStart tag s) := by
  unfold execCapStart
  with_reducible repeat' first | assumption | apply Good.next | apply good_ite | apply serve_ok | apply State.done_ok | apply State.setFlag_ok | apply State.start_ok | apply State.modCap_ok | apply ok_ite | exact fun _ => rfl | (apply Ok.mk'; first | assumption | apply Good.next | apply good_ite | apply serve_ok | apply State.done_ok | apply State.setFlag_ok | apply State.start_ok | apply State.modCap_ok | apply ok_ite | exact fun _ => rfl) | exact rfl | intro _ | split

theorem execCapStop_ok (h : Ok q s) (tag) : Good q (execCapStop tag s) := by
  unfold execCapStop
  with_reducible repeat' first | assumption | apply Good.next | apply good_ite | apply serve_ok | apply State.done_ok | apply State.start_ok | apply State.modCap_ok | apply ok_ite | exact fun _ => rfl | (apply Ok.mk'; first | assumption | apply Good.next | apply good_ite | apply serve_ok | apply State.done_ok | apply State.start_ok | apply State.modCap_ok | apply ok_ite | exact fun _ => rfl) | exact rfl | intro _ | split

theorem execCapHistCfg_ok (h : Ok q s) (tag) : Good q (execCapHistCfg tag s) := by
  unfold execCapHistCfg
  with_reducible repeat' first | assumption | apply Good.next | apply good_ite | apply serve_ok | apply State.done_ok | apply State.modCap_ok | apply State.setFld_ok | apply ok_ite | exact fun _ => rfl | intro _ | split | dsimp only

theorem execCapHistRead_ok (h : Ok q s) (tag) : Good q (execCapHistRead tag s) := by
  unfold execCapHistRead
  with_reducible repeat' first | assumption | apply Good.next | apply good_ite | apply serve_ok | apply State.done_ok | apply State.complete_ok | apply ok_ite | exact fun _ => rfl | intro _ | split

theorem execCapPmapCfg_ok (h : Ok q s) (tag) : Good q (execCapPmapCfg tag s) := by
  unfold execCapPmapCfg
  with_reducible repeat' first | assumption | apply Good.next | apply good_ite | apply serve_ok | apply State.done_ok | apply State.modCap_ok | apply ok_ite | exact fun _ => rfl | intro _ | split

theorem execCapPmapRead_ok (h : Ok q s) (tag) : Good q (execCapPmapRead tag s) := by
  unfold execCapPmapRead
  with_reducible repeat' first | assumption | apply Good.next | apply good_ite | apply serve_ok | apply State.done_ok | apply State.complete_ok | apply ok_ite | exact fun _ => rfl | intro _ | split

theorem execEventDrain_ok (h : Ok q s) : Good q (execEventDrain s) := by
  unfold execEventDrain
  refine .next ?_
  split
  · rename_i r rest h1 h2
    refine State.cond_ok (State.setFld_ok (?_) _ _ _) fun t ht => State.ringPut_ok ht _
    refine ⟨⟨h.inv.regs, ?_, h.inv.rings, h.inv.stores⟩, h.queue⟩
    have := h.inv.depth
    rw [h2, List.length_cons] at this
    exact Nat.le_of_succ_le this
  · exact h

theorem execIslandRecordWrite_ok (h : Ok q s)  : Good q (execIslandRecordWrite s) := by
  unfold execIslandRecordWrite
  with_reducible repeat' first | assumption | apply Good.next | apply good_ite | apply State.ringPut_ok | apply ok_ite | exact fun _ => rfl | (apply Ok.mk'; first | assumption | apply Good.next | apply good_ite | apply State.ringPut_ok | apply ok_ite | exact fun _ => rfl) | exact rfl | intro _ | split | dsimp only

theorem execTrArm_ok (h : Ok q s) (tag) : Good q (execTrArm tag s) := by
  unfold execTrArm
  with_reducible repeat' first | assumption | apply Good.next | apply good_ite | apply serve_ok | apply State.done_ok | apply State.setReg_ok | apply State.modTr_ok | apply State.setFld_ok | apply ok_ite | exact fun _ => rfl | intro _ | split

theorem execTrTrig_ok (h : Ok q s) (tag) : Good q (execTrTrig tag s) := by
  unfold execTrTrig
  with_reducible repeat' first | assumption | apply Good.next | apply good_ite | apply serve_ok | apply State.done_ok | apply State.trTrigger_ok | apply ok_ite | exact fun _ => rfl | intro _ | split

theorem execTrStop_ok (h : Ok q s) (tag) : Good q (execTrStop tag s) := by
  unfold execTrStop
  with_reducible repeat' first | assumption | apply Good.next | apply good_ite | apply serve_ok | apply State.done_ok | apply State.cond_ok | apply State.modTr_ok | apply State.setFld_ok | apply ok_ite | exact fun _ => rfl | (apply Ok.mk'; first | assumption | apply Good.next | apply good_ite | apply serve_ok | apply State.done_ok | apply State.cond_ok | apply State.modTr_ok | apply State.setFld_ok | apply ok_ite | exact fun _ => rfl) | exact rfl | intro _ | split

theorem State.trAnswer_ok (h : Ok q s) (e) : Ok q (State.trAnswer s e) := by
  unfold State.trAnswer
  with_reducible repeat' first | assumption | apply State.complete_ok | exact fun _ => rfl | intro _ | split

theorem execTrRead_ok (h : Ok q s) (tag) : Good q (execTrRead tag s) := by
  unfold execTrRead
  with_reducible repeat' first | assumption | apply Good.next | apply good_ite | apply serve_ok | apply State.done_ok | apply State.start_ok | apply State.modTr_ok | apply State.trAnswer_ok | apply ok_ite | exact fun _ => rfl | (apply Ok.mk'; first | assumption | apply Good.next | apply good_ite | apply serve_ok | apply State.done_ok | apply State.start_ok | apply State.modTr_ok | apply State.trAnswer_ok | apply ok_ite | exact fun _ => rfl) | exact rfl | intro _ | split

theorem execTraceCopyComplete_ok (h : Ok q s) (ch) : Good q (execTraceCopyComplete ch s) := by
  unfold execTraceCopyComplete
  with_reducible repeat' first | assumption | apply Good.next | apply good_ite | apply State.modTr_ok | apply State.setFld_ok | apply State.trAnswer_ok | apply foldl_ok | apply ok_ite | exact fun _ => rfl | intro _ | split

theorem execSpurSessionStart_ok (h : Ok q s)  : Good q (execSpurSessionStart s) := by
  unfold execSpurSessionStart
  with_reducible repeat' first | assumption | apply Good.next | apply good_ite | apply State.post_ok | apply State.setFld_ok | apply State.setFlag_ok | apply ok_ite | exact fun _ => rfl | (apply Ok.mk'; first | assumption | apply Good.next | apply good_ite | apply State.post_ok | apply State.setFld_ok | apply State.setFlag_ok | apply ok_ite | exact fun _ => rfl) | exact rfl | intro _ | split

theorem execSpurSessionStop_ok (h : Ok q s)  : Good q (execSpurSessionStop s) := by
  unfold execSpurSessionStop
  with_reducible repeat' first | assumption | apply Good.next | apply good_ite | apply State.spurStop_ok | exact fun _ => rfl | intro _ | split

theorem State.spurCtrl_ok (h : Ok q s) (v) : Ok q (State.spurCtrl s v) := by
  unfold State.spurCtrl
  with_reducible repeat' first | assumption | apply State.setFld_ok | apply State.setFlag_ok | apply State.spurStop_ok | apply ok_ite | exact fun _ => rfl | (apply Ok.mk'; first | assumption | apply State.setFld_ok | apply State.setFlag_ok | apply State.spurStop_ok | apply ok_ite | exact fun _ => rfl) | exact rfl | intro _ | split

theorem State.flipByte_ok (h : Ok q s) (target) (tile) (off) : Ok q (State.flipByte s target tile off) := by
  unfold State.flipByte
  with_reducible repeat' first | assumption | apply State.modCoef_ok | apply State.modHlp_ok | apply ok_ite | exact fun _ => rfl | (apply Ok.mk'; first | assumption | apply State.modCoef_ok | apply State.modHlp_ok | apply ok_ite | exact fun _ => rfl) | exact rfl | intro _ | split | dsimp only

theorem State.spurInj_ok (h : Ok q s) (v) : Ok q (State.spurInj s v) := by
  unfold State.spurInj
  with_reducible repeat' first | assumption | apply State.setReg_ok | apply State.post_ok | apply State.count_ok | apply State.flipByte_ok | apply ok_ite | exact fun _ => rfl | (apply Ok.mk'; first | assumption | apply State.setReg_ok | apply State.post_ok | apply State.count_ok | apply State.flipByte_ok | apply ok_ite | exact fun _ => rfl) | exact rfl | intro _ | split

theorem State.dbgSet_ok (h : Ok q s) (cpu) (on) : Ok q (State.dbgSet s cpu on) := by
  unfold State.dbgSet
  with_reducible repeat' first | assumption | apply State.modCle_ok | apply State.modHlp_ok | exact fun _ => rfl | ((first | apply Ok.mk' | apply Ok.mkFcp); first | assumption | apply State.modCle_ok | apply State.modHlp_ok | exact fun _ => rfl) | exact rfl | intro _ | split

theorem execDebugHalt_ok (h : Ok q s) (cpu) : Good q (execDebugHalt cpu s) := by
  unfold execDebugHalt
  with_reducible repeat' first | assumption | apply Good.next | apply good_ite | apply State.post_ok | apply State.dbgSet_ok | apply State.freeze_ok | apply ok_ite | exact fun _ => rfl | intro _ | split

theorem execDebugResume_ok (h : Ok q s) (cpu) : Good q (execDebugResume cpu s) := by
  unfold execDebugResume
  with_reducible repeat' first | assumption | apply Good.next | apply good_ite | apply State.post_ok | apply State.dbgSet_ok | apply State.svpResume_ok | apply State.unfreeze_ok | exact fun _ => rfl | intro _ | split

theorem execExtest_ok (h : Ok q s) (pins) : Good q (execExtest pins s) := by
  unfold execExtest
  with_reducible repeat' first | assumption | apply Good.next | apply good_ite | apply State.modPwm_ok | exact fun _ => rfl | (apply Ok.mk'; first | assumption | apply Good.next | apply good_ite | apply State.modPwm_ok | exact fun _ => rfl) | exact rfl | intro _ | split

theorem State.modPath_ok (h : Ok q s) (p) (f) : Ok q (State.modPath s p f) := by
  unfold State.modPath
  with_reducible repeat' first | assumption | apply ok_ite | exact fun _ => rfl | (apply Ok.mk'; first | assumption | apply ok_ite | exact fun _ => rfl) | exact rfl | intro _ | split

theorem State.readClear_ok (h : Ok q s) (c) (i) (off) : Ok q (State.readClear s c i off) := by
  unfold State.readClear
  split
  · split
    · exact h
    · exact h.regs (Memory.wf_set _ _ _ _ h.inv.regs) rfl rfl rfl rfl rfl
  · exact h

theorem State.readLatch_ok (h : Ok q s) (p) (c) (i) (off) (count) : Ok q (State.readLatch s p c i off count) := by
  unfold State.readLatch
  with_reducible repeat' first | assumption | apply State.modPath_ok | apply State.setCf_ok | apply ok_ite | exact fun _ => rfl | (apply Ok.mk'; first | assumption | apply State.modPath_ok | apply State.setCf_ok | apply ok_ite | exact fun _ => rfl) | exact rfl | intro _ | split

theorem State.hostRead_ok (h : Ok q s) (p off : Nat) : Ok q (s.hostRead p off).2 := by
  unfold State.hostRead
  split
  · refine readClear_ok (readLatch_ok ?_ _ _ _ _ _) _ _ _
    split
    · exact modPath_ok h _ _
    · exact h
  · exact h
  · exact count_ok h _ _

theorem State.readRow_ok (h : Ok q s) (p) (off) : Ok q (State.readRow s p off) := by
  unfold State.readRow
  exact modPath_ok (hostRead_ok h p off) _ _

theorem State.writeMasked_ok (h : Ok q s) (c) (i) (off) (v) : Ok q (State.writeMasked s c i off v) := by
  unfold State.writeMasked
  split
  · exact h.regs (Memory.wf_set _ _ _ _ h.inv.regs) rfl rfl rfl rfl rfl
  · exact h

theorem State.manRej_ok (h : Ok q s)  : Ok q (State.manRej s) := by
  unfold State.manRej
  with_reducible repeat' first | assumption | apply State.setFlag_ok | exact fun _ => rfl | intro _ | split

theorem State.manCommit_ok (h : Ok q s)  : Ok q (State.manCommit s) := by
  unfold State.manCommit
  with_reducible repeat' first | assumption | apply State.manRej_ok | apply State.modPwm_ok | apply State.cond_ok | apply State.lateLegs_ok | apply ok_ite | exact fun _ => rfl | intro _ | split | dsimp only

theorem State.cmpStatic_ok (h : Ok q s) (n) (v) : Ok q (State.cmpStatic s n v) := by
  unfold State.cmpStatic
  with_reducible repeat' first | assumption | apply State.setFlag_ok | apply State.writeMasked_ok | apply ok_ite | exact fun _ => rfl | (apply Ok.mk'; first | assumption | apply State.setFlag_ok | apply State.writeMasked_ok | apply ok_ite | exact fun _ => rfl) | exact rfl | intro _ | split | dsimp only

theorem State.legStat_ok (h : Ok q s) (n) (v) : Ok q (State.legStat s n v) := by
  unfold State.legStat
  with_reducible repeat' first | assumption | apply State.writeMasked_ok | exact fun _ => rfl | intro _ | split

theorem State.tgStat_ok (h : Ok q s) (g) (v) : Ok q (State.tgStat s g v) := by
  unfold State.tgStat
  with_reducible repeat' first | assumption | apply State.setFlag_ok | apply State.modLeg_ok | apply foldl_ok | apply ok_ite | exact fun _ => rfl | intro _ | split | dsimp only

theorem State.dlCtrl_ok (h : Ok q s) (v) : Ok q (State.dlCtrl s v) := by
  unfold State.dlCtrl
  with_reducible repeat' first | assumption | apply State.writeMasked_ok | apply State.cond_ok | apply State.setFld_ok | exact fun _ => rfl | intro _ | split

theorem State.obsBinSel_ok (h : Ok q s) (p) (v) : Ok q (State.obsBinSel s p v) := by
  unfold State.obsBinSel
  with_reducible repeat' first | assumption | apply State.writeMasked_ok | apply State.setReg_ok | apply State.setFlag_ok | apply State.setFld_ok | apply ok_ite | exact fun _ => rfl | intro _ | split | dsimp only

theorem State.laneSlip_ok (h : Ok q s) (l) (v) : Ok q (State.laneSlip s l v) := by
  unfold State.laneSlip
  with_reducible repeat' first | assumption | apply State.setFld_ok | apply ok_ite | exact fun _ => rfl | (apply Ok.mk'; first | assumption | apply State.setFld_ok | apply ok_ite | exact fun _ => rfl) | exact rfl | intro _ | split

theorem State.pwmCtrl_ok (h : Ok q s) (v) : Ok q (State.pwmCtrl s v) := by
  unfold State.pwmCtrl
  with_reducible repeat' first | assumption | apply State.writeMasked_ok | apply State.freeze_ok | apply State.cond_ok | apply State.unfreeze_ok | apply ok_ite | exact fun _ => rfl | intro _ | split | dsimp only

theorem State.writeReg_ok (h : Ok q s) (p) (c) (i) (off) (v) : Ok q (State.writeReg s p c i off v) := by
  unfold State.writeReg
  with_reducible repeat' first | assumption | apply State.modPath_ok | apply State.urgent_ok | apply State.pwmCtrl_ok | apply State.writeMasked_ok | apply State.modPwm_ok | apply State.manRej_ok | apply State.manCommit_ok | apply State.dlCtrl_ok | apply State.stwEn_ok | apply State.spurCtrl_ok | apply State.spurInj_ok | apply State.legStat_ok | apply State.tgStat_ok | apply State.setCword_ok | apply State.obsBinSel_ok | apply State.cmpStatic_ok | apply State.laneSlip_ok | apply ok_ite | exact fun _ => rfl | intro _ | split | dsimp only

theorem State.mbWrite_ok (h : Ok q s) (m) (r) (b) : Ok q (State.mbWrite s m r b) := by
  unfold State.mbWrite
  refine ok_ite (fun _ => bell_ok h _ _) fun _ => ok_ite (fun _ => ok_ite (fun _ => box_ok h _ _ ?_) fun _ => h) fun _ =>
    ok_ite (fun _ => headWrite_ok h _ _) fun _ => ok_ite (fun _ => box_ok h _ _ ?_) fun _ => ok_ite (fun _ => ?_) fun _ => h
  · exact fun _ => List.Sublist.refl _
  · exact fun _ => List.Sublist.refl _
  · exact h.stores rfl rfl rfl rfl rfl ⟨h.inv.stores.1, h.inv.stores.2.1, Memory.wf_set _ _ _ _ h.inv.stores.2.2.1, h.inv.stores.2.2.2⟩

theorem State.ramWrite_ok (h : Ok q s) (p) (off) (b) : Ok q (State.ramWrite s p off b) := by
  unfold State.ramWrite
  with_reducible repeat' first | assumption | apply State.guarded_ok | apply State.mbWrite_ok | exact fun _ => rfl | intro _ | split

theorem State.hostWrite_ok (h : Ok q s) (p) (off) (v) : Ok q (State.hostWrite s p off v) := by
  unfold State.hostWrite
  with_reducible repeat' first | assumption | apply State.ramWrite_ok | apply State.guarded_ok | apply State.writeReg_ok | apply foldl_ok | apply ok_ite | exact fun _ => rfl | intro _ | split

theorem State.selWrite_ok (h : Ok q s) (p) (c) (off) (v) : Ok q (State.selWrite s p c off v) := by
  unfold State.selWrite
  with_reducible repeat' first | assumption | apply State.hostWrite_ok | apply ok_ite | exact fun _ => rfl | intro _ | split

theorem execAdcUrgWrite_ok (h : Ok q s) (path) (value) : Good q (execAdcUrgWrite path value s) := by
  unfold execAdcUrgWrite
  with_reducible repeat' first | assumption | apply Good.next | apply good_ite | apply State.hostWrite_ok | exact fun _ => rfl | intro _ | split

theorem execPwmCommitWrite_ok (h : Ok q s) (path) (value) : Good q (execPwmCommitWrite path value s) := by
  unfold execPwmCommitWrite
  with_reducible repeat' first | assumption | apply Good.next | apply good_ite | apply State.hostWrite_ok | exact fun _ => rfl | intro _ | split

theorem execCmpStaticWrite_ok (h : Ok q s) (path) (value) : Good q (execCmpStaticWrite path value s) := by
  unfold execCmpStaticWrite
  with_reducible repeat' first | assumption | apply Good.next | apply good_ite | apply State.selWrite_ok | exact fun _ => rfl | intro _ | split

theorem execCrossfireClear_ok (h : Ok q s) (path) (value) : Good q (execCrossfireClear path value s) := by
  unfold execCrossfireClear
  with_reducible repeat' first | assumption | apply Good.next | apply good_ite | apply State.selWrite_ok | exact fun _ => rfl | intro _ | split

theorem execTrippedClear_ok (h : Ok q s) (path) (value) : Good q (execTrippedClear path value s) := by
  unfold execTrippedClear
  with_reducible repeat' first | assumption | apply Good.next | apply good_ite | apply State.selWrite_ok | exact fun _ => rfl | intro _ | split

theorem execDlCtrlWrite_ok (h : Ok q s) (path) (value) : Good q (execDlCtrlWrite path value s) := by
  unfold execDlCtrlWrite
  with_reducible repeat' first | assumption | apply Good.next | apply good_ite | apply State.hostWrite_ok | exact fun _ => rfl | intro _ | split

theorem execLaneSlipWrite_ok (h : Ok q s) (path) (value) : Good q (execLaneSlipWrite path value s) := by
  unfold execLaneSlipWrite
  with_reducible repeat' first | assumption | apply Good.next | apply good_ite | apply State.selWrite_ok | exact fun _ => rfl | intro _ | split

theorem execWselWrite_ok (h : Ok q s) (path) (value) : Good q (execWselWrite path value s) := by
  unfold execWselWrite
  with_reducible repeat' first | assumption | apply Good.next | apply good_ite | apply State.hostWrite_ok | exact fun _ => rfl | intro _ | split

theorem execObsBinSelWrite_ok (h : Ok q s) (path) (value) : Good q (execObsBinSelWrite path value s) := by
  unfold execObsBinSelWrite
  with_reducible repeat' first | assumption | apply Good.next | apply good_ite | apply State.selWrite_ok | exact fun _ => rfl | intro _ | split

theorem execSpurCtrlWrite_ok (h : Ok q s) (path) (value) : Good q (execSpurCtrlWrite path value s) := by
  unfold execSpurCtrlWrite
  with_reducible repeat' first | assumption | apply Good.next | apply good_ite | apply State.hostWrite_ok | exact fun _ => rfl | intro _ | split

theorem execSpurInjGo_ok (h : Ok q s) (path) (value) : Good q (execSpurInjGo path value s) := by
  unfold execSpurInjGo
  with_reducible repeat' first | assumption | apply Good.next | apply good_ite | apply State.hostWrite_ok | exact fun _ => rfl | intro _ | split

theorem execRegisterWrite_ok (h : Ok q s) (path) (addr) (value) : Good q (execRegisterWrite path addr value s) := by
  unfold execRegisterWrite
  with_reducible repeat' first | assumption | apply Good.next | apply good_ite | apply State.hostWrite_ok | exact fun _ => rfl | intro _ | split

theorem execResStatRead_ok (h : Ok q s) (path) : Good q (execResStatRead path s) := by
  unfold execResStatRead
  with_reducible repeat' first | assumption | apply Good.next | apply good_ite | apply State.readRow_ok | exact fun _ => rfl | intro _ | split

theorem execSnapPnumLoRead_ok (h : Ok q s) (path) : Good q (execSnapPnumLoRead path s) := by
  unfold execSnapPnumLoRead
  with_reducible repeat' first | assumption | apply Good.next | apply good_ite | apply State.readRow_ok | exact fun _ => rfl | intro _ | split

theorem execHighWordLatchRead_ok (h : Ok q s) (path) (which) : Good q (execHighWordLatchRead path which s) := by
  unfold execHighWordLatchRead
  with_reducible repeat' first | assumption | apply Good.next | apply good_ite | apply State.readRow_ok | exact fun _ => rfl | intro _ | split

theorem Shift.byte_ok {x : Shift} (addr i : Nat) (h : Ok q x.st) : Ok q (Shift.byte addr x i).st := by
  unfold Shift.byte
  dsimp only
  split
  · exact State.hostRead_ok h _ _
  · exact h

theorem execQspiRead_ok (h : Ok q s) (addr) (count) : Good q (execQspiRead addr count s) := by
  have : ∀ (l : List Nat) (x : Shift), Ok q x.st → Ok q (l.foldl (Shift.byte addr.toNat) x).st := by
    intro l
    induction l with
    | nil => exact fun _ hx => hx
    | cons i l ih => exact fun x hx => ih _ (Shift.byte_ok _ _ hx)
  have h1 := State.modPath_ok (this (List.range count) ⟨s, 0#32, [], []⟩ h) 0 fun q => { q with
    last := ((List.range count).foldl (Shift.byte addr.toNat) ⟨s, 0#32, [], []⟩).words.reverse }
  exact .next (h1.of rfl rfl rfl rfl rfl rfl rfl rfl)

theorem State.shiftIn_ok (h : Ok q s) (addr) (l) (i) : Ok q (State.shiftIn addr l s i) := by
  unfold State.shiftIn
  with_reducible repeat' first | assumption | apply State.ramWrite_ok | apply State.hostWrite_ok | apply ok_ite | exact fun _ => rfl | intro _ | split

theorem execQspiWrite_ok (h : Ok q s) (addr) (bytes) : Good q (execQspiWrite addr bytes s) := by
  unfold execQspiWrite
  with_reducible repeat' first | assumption | apply Good.next | apply good_ite | apply State.shiftIn_ok | apply foldl_ok | exact fun _ => rfl | intro _ | split

theorem execQspiStatus_ok (h : Ok q s)  : Good q (execQspiStatus s) := by
  unfold execQspiStatus
  with_reducible repeat' first | assumption | apply Good.next | apply good_ite | exact fun _ => rfl | (apply Ok.mk'; first | assumption | apply Good.next | apply good_ite | exact fun _ => rfl) | exact rfl | intro _ | split

theorem State.takeSnap_ok (h : Ok q s)  : Ok q (State.takeSnap s) := by
  unfold State.takeSnap
  with_reducible repeat' first | assumption | apply State.modHlp_ok | apply State.modStw_ok | apply foldl_ok | apply ok_ite | exact fun _ => rfl | (apply Ok.mk'; first | assumption | apply State.modHlp_ok | apply State.modStw_ok | apply foldl_ok | apply ok_ite | exact fun _ => rfl) | exact rfl | intro _ | split | dsimp only

theorem execSnapshotComplete_ok (h : Ok q s)  : Good q (execSnapshotComplete s) := by
  unfold execSnapshotComplete
  with_reducible repeat' first | assumption | apply Good.next | apply good_ite | apply ok_ite | exact fun _ => rfl | (apply Ok.mk'; first | assumption | apply Good.next | apply good_ite | apply ok_ite | exact fun _ => rfl) | exact rfl | intro _ | split | dsimp only

theorem State.slackLast_ok (h : Ok q s)  : Ok q (State.slackLast s) := by
  unfold State.slackLast
  with_reducible repeat' first | assumption | apply State.setFld_ok | apply ok_ite | exact fun _ => rfl | intro _ | split

theorem State.latchCtx_ok (h : Ok q s) (i) : Ok q (State.latchCtx s i) := by
  unfold State.latchCtx
  with_reducible repeat' first | assumption | apply State.healCtx_ok | apply State.cleParity_ok | apply State.setCwords_ok | apply State.modCtx_ok | apply ok_ite | exact fun _ => rfl | intro _ | split | dsimp only

theorem State.latchGroup_ok (h : Ok q s) (g) : Ok q (State.latchGroup s g) := by
  unfold State.latchGroup
  with_reducible repeat' first | assumption | apply State.latchCtx_ok | apply foldl_ok | exact fun _ => rfl | intro _ | split

theorem State.traceMarks_ok (h : Ok q s) (g) (miss) : Ok q (State.traceMarks s g miss) := by
  unfold State.traceMarks
  with_reducible repeat' first | assumption | apply State.trExec_ok | apply foldl_ok | apply ok_ite | exact fun _ => rfl | intro _ | split | dsimp only

theorem State.dropInstance_ok (h : Ok q s) (g) : Ok q (State.dropInstance s g) := by
  unfold State.dropInstance
  with_reducible repeat' first | assumption | apply State.trExec_ok | apply State.modCtx_ok | apply foldl_ok | apply foldl_ok | apply ok_ite | exact fun _ => rfl | intro _ | split | dsimp only

theorem State.endPeriod_ok (h : Ok q s) (t) : Ok q (State.endPeriod s t) := by
  unfold State.endPeriod
  with_reducible repeat' first | assumption | apply State.missPorts_ok | apply State.forUnits_ok | apply State.obsTick_ok | apply State.endLegs_ok | apply State.slackLast_ok | apply State.traceMarks_ok | apply State.latchGroup_ok | apply State.takeSnap_ok | apply State.capBoundary_ok | apply State.trEvents_ok | apply State.runPort_ok | apply ok_ite | exact fun _ => rfl | (apply Ok.mk'; first | assumption | apply State.missPorts_ok | apply State.forUnits_ok | apply State.obsTick_ok | apply State.endLegs_ok | apply State.slackLast_ok | apply State.traceMarks_ok | apply State.latchGroup_ok | apply State.takeSnap_ok | apply State.capBoundary_ok | apply State.trEvents_ok | apply State.runPort_ok | apply ok_ite | exact fun _ => rfl) | exact rfl | intro _ | split | dsimp only

theorem State.startPeriod_ok (h : Ok q s) (t) : Ok q (State.startPeriod s t) := by
  unfold State.startPeriod
  with_reducible repeat' first | assumption | apply State.modPwm_ok | apply State.modCle_ok | apply State.forUnits_ok | apply State.modPort_ok | apply State.watchBoundary_ok | apply State.cond_ok | apply ok_ite | exact fun _ => rfl | (apply Ok.mk'; first | assumption | apply State.modPwm_ok | apply State.modCle_ok | apply State.forUnits_ok | apply State.modPort_ok | apply State.watchBoundary_ok | apply State.cond_ok | apply ok_ite | exact fun _ => rfl) | (apply Ok.mkEvq; first | assumption | apply State.modPwm_ok | apply State.modCle_ok | apply State.forUnits_ok | apply State.modPort_ok | apply State.watchBoundary_ok | apply State.cond_ok | apply ok_ite | exact fun _ => rfl) | exact rfl | intro _ | split | dsimp only

theorem State.limpEntry_ok (h : Ok q s)  : Ok q (State.limpEntry s) := by
  unfold State.limpEntry
  with_reducible repeat' first | assumption | apply State.setGait_ok | apply State.modClk_ok | apply State.post_ok | apply State.releaseAct_ok | apply State.srsRequest_ok | apply ok_ite | exact fun _ => rfl | (apply Ok.mk'; first | assumption | apply State.setGait_ok | apply State.modClk_ok | apply State.post_ok | apply State.releaseAct_ok | apply State.srsRequest_ok | apply ok_ite | exact fun _ => rfl) | exact rfl | intro _ | split

theorem State.divisors_ok (h : Ok q s)  : Ok q (State.divisors s) := by
  unfold State.divisors
  with_reducible repeat' first | assumption | apply State.modCle_ok | apply ok_ite | exact fun _ => rfl | (apply Ok.mk'; first | assumption | apply State.modCle_ok | apply ok_ite | exact fun _ => rfl) | exact rfl | intro _ | split

theorem State.reload_ok (h : Ok q s)  : Ok q (State.reload s) := by
  unfold State.reload
  with_reducible repeat' first | assumption | apply State.reloadBundles_ok | apply State.releaseLegs_ok | apply State.reloadDelayCode_ok | apply State.forUnits_ok | apply State.staticThr_ok | apply State.divisors_ok | apply ok_ite | exact fun _ => rfl | (apply Ok.mk'; first | assumption | apply State.reloadBundles_ok | apply State.releaseLegs_ok | apply State.reloadDelayCode_ok | apply State.forUnits_ok | apply State.staticThr_ok | apply State.divisors_ok | apply ok_ite | exact fun _ => rfl) | exact rfl | intro _ | split | dsimp only

theorem State.releaseCtxs_ok (h : Ok q s) (g) : Ok q (State.releaseCtxs s g) := by
  unfold State.releaseCtxs
  with_reducible repeat' first | assumption | apply State.modCtx_ok | apply State.setCflag_ok | apply foldl_ok | exact fun _ => rfl | (apply Ok.mk'; first | assumption | apply State.modCtx_ok | apply State.setCflag_ok | apply foldl_ok | exact fun _ => rfl) | exact rfl | intro _ | split

theorem State.recordDue_ok (h : Ok q s)  : Ok q (State.recordDue s) := by
  unfold State.recordDue
  with_reducible repeat' first | assumption | apply State.modPair_ok | apply State.modCle_ok | apply ok_ite | exact fun _ => rfl | (apply Ok.mk'; first | assumption | apply State.modPair_ok | apply State.modCle_ok | apply ok_ite | exact fun _ => rfl) | exact rfl | intro _ | split

theorem State.releaseGroup_ok (h : Ok q s) (g) : Ok q (State.releaseGroup s g) := by
  unfold State.releaseGroup
  with_reducible repeat' first | assumption | apply State.dropInstance_ok | apply State.modCle_ok | apply State.traceMarks_ok | apply State.cond_ok | apply State.recordDue_ok | apply State.latchGroup_ok | apply State.releaseCtxs_ok | apply ok_ite | exact fun _ => rfl | intro _ | split | dsimp only

theorem State.releases_ok (h : Ok q s)  : Ok q (State.releases s) := by
  unfold State.releases
  with_reducible repeat' first | assumption | apply State.modCle_ok | apply State.releaseCtxs_ok | apply State.cond_ok | apply State.modPair_ok | apply State.releaseGroup_ok | apply State.capRate_ok | apply ok_ite | exact fun _ => rfl | intro _ | split | dsimp only

theorem State.portsAct_ok (h : Ok q s)  : Ok q (State.portsAct s) := by
  unfold State.portsAct
  with_reducible repeat' first | assumption | apply State.forUnits_ok | apply State.slewPort_ok | apply State.tickPort_ok | apply State.portTransition_ok | apply State.pullPort_ok | apply State.matchPort_ok | apply State.quietPort_ok | apply State.ceilingThr_ok | apply State.cond_ok | apply State.modPair_ok | apply ok_ite | exact fun _ => rfl | intro _ | split | dsimp only

theorem State.manualLegs_ok (h : Ok q s)  : Ok q (State.manualLegs s) := by
  unfold State.manualLegs
  with_reducible repeat' first | assumption | apply State.forUnits_ok | apply State.modLeg_ok | apply ok_ite | exact fun _ => rfl | (apply Ok.mk'; first | assumption | apply State.forUnits_ok | apply State.modLeg_ok | apply ok_ite | exact fun _ => rfl) | exact rfl | intro _ | split

theorem State.soloRise_ok (h : Ok q s)  : Ok q (State.soloRise s) := by
  unfold State.soloRise
  with_reducible repeat' first | assumption | apply State.raiseAct_ok | apply ok_ite | exact fun _ => rfl | intro _ | split

theorem State.soloFall_ok (h : Ok q s)  : Ok q (State.soloFall s) := by
  unfold State.soloFall
  with_reducible repeat' first | assumption | apply State.releaseAct_ok | apply State.modPair_ok | apply ok_ite | exact fun _ => rfl | (apply Ok.mk'; first | assumption | apply State.releaseAct_ok | apply State.modPair_ok | apply ok_ite | exact fun _ => rfl) | exact rfl | intro _ | split

theorem State.pairBoundary_ok (h : Ok q s) (steered) : Ok q (State.pairBoundary s steered) := by
  unfold State.pairBoundary
  with_reducible repeat' first | assumption | apply State.modPair_ok | apply State.sayHello_ok | apply State.pairTick_ok | apply State.activateTick_ok | apply ok_ite | exact fun _ => rfl | intro _ | split | dsimp only

theorem State.laneBoundary_ok (h : Ok q s) (l) : Ok q (State.laneBoundary s l) := by
  unfold State.laneBoundary
  with_reducible repeat' first | assumption | apply State.setFlag_ok | apply State.modLane_ok | apply State.setFld_ok | apply State.markDue_ok | apply foldl_ok | apply ok_ite | exact fun _ => rfl | intro _ | split | dsimp only

theorem State.lanesBoundary_ok (h : Ok q s)  : Ok q (State.lanesBoundary s) := by
  unfold State.lanesBoundary
  with_reducible repeat' first | assumption | apply State.forUnits_ok | apply State.laneBoundary_ok | apply State.gdenCmd_ok | apply State.cond_ok | apply State.haltAll_ok | exact fun _ => rfl | (apply Ok.mk'; first | assumption | apply State.forUnits_ok | apply State.laneBoundary_ok | apply State.gdenCmd_ok | apply State.cond_ok | apply State.haltAll_ok | exact fun _ => rfl) | exact rfl | intro _ | split

theorem State.spurBoundary_ok (h : Ok q s) (shifted) : Ok q (State.spurBoundary s shifted) := by
  unfold State.spurBoundary
  with_reducible repeat' first | assumption | apply State.cond_ok | apply State.setFld_ok | apply ok_ite | exact fun _ => rfl | (apply Ok.mk'; first | assumption | apply State.cond_ok | apply State.setFld_ok | apply ok_ite | exact fun _ => rfl) | exact rfl | intro _ | split

theorem State.uncleanStall_ok (h : Ok q s)  : Ok q (State.uncleanStall s) := by
  unfold State.uncleanStall
  with_reducible repeat' first | assumption | apply State.setFld_ok | apply ok_ite | exact fun _ => rfl | intro _ | split

theorem State.actBoundary_ok (h : Ok q s) (t) (steered) : Ok q (State.actBoundary s t steered) := by
  unfold State.actBoundary
  with_reducible repeat' first | assumption | apply State.soloRise_ok | apply State.portsAct_ok | apply State.soloFall_ok | apply State.manualLegs_ok | apply State.formLegs_ok | apply State.pairBoundary_ok | apply State.forUnits_ok | apply State.obsSwitch_ok | apply State.govTick_ok | apply State.srsChecks_ok | apply State.lanesBoundary_ok | apply State.sdSyncBoundary_ok | apply State.uncleanStall_ok | apply State.setFlag_ok | apply State.openBlanking_ok | apply State.cmpAfresh_ok | apply ok_ite | exact fun _ => rfl | intro _ | split | dsimp only

theorem execRg0Boundary_ok (h : Ok q s)  : Good q (execRg0Boundary s) := by
  unfold execRg0Boundary
  with_reducible repeat' first | assumption | apply Good.next | apply good_ite | apply State.elapse_ok | apply State.endPeriod_ok | apply State.startPeriod_ok | apply State.capStopNow_ok | apply State.capStartNow_ok | apply State.limpEntry_ok | apply State.manualLegs_ok | apply State.reload_ok | apply State.releases_ok | apply State.spurBoundary_ok | apply State.actBoundary_ok | apply ok_ite | exact fun _ => rfl | intro _ | split | dsimp only

theorem State.turnPort_ok (h : Ok q s) (p) : Ok q (State.turnPort s p) := by
  unfold State.turnPort
  with_reducible repeat' first | assumption | apply State.runPort_ok | apply State.modPort_ok | apply ok_ite | exact fun _ => rfl | intro _ | split | dsimp only

theorem execPortReload_ok (h : Ok q s) (port) : Good q (execPortReload port s) := by
  unfold execPortReload
  with_reducible repeat' first | assumption | apply Good.next | apply good_ite | apply State.endPeriodLeg_ok | apply State.turnPort_ok | apply State.formLeg_ok | apply State.loadEnvOf_ok | apply State.cmpAfresh_ok | apply foldl_ok | apply ok_ite | exact fun _ => rfl | intro _ | split | dsimp only

theorem State.modRmod_ok (h : Ok q s) (r) (f) : Ok q (State.modRmod s r f) := by
  unfold State.modRmod
  with_reducible repeat' first | assumption | apply State.modHlp_ok | exact fun _ => rfl | (apply Ok.mk'; first | assumption | apply State.modHlp_ok | exact fun _ => rfl) | exact rfl | intro _ | split

theorem execRemoteFrameReceived_ok (h : Ok q s) (rm) (bytes) : Good q (execRemoteFrameReceived rm bytes s) := by
  unfold execRemoteFrameReceived
  with_reducible repeat' first | assumption | apply Good.next | apply good_ite | apply State.count_ok | apply State.modRmod_ok | apply State.setFlag_ok | apply State.setFld_ok | apply ok_ite | exact fun _ => rfl | (apply Ok.mk'; first | assumption | apply Good.next | apply good_ite | apply State.count_ok | apply State.modRmod_ok | apply State.setFlag_ok | apply State.setFld_ok | apply ok_ite | exact fun _ => rfl) | exact rfl | intro _ | split

theorem execRemoteTimeout_ok (h : Ok q s) (rm) : Good q (execRemoteTimeout rm s) := by
  unfold execRemoteTimeout
  with_reducible repeat' first | assumption | apply Good.next | apply good_ite | apply State.post_ok | apply State.count_ok | apply State.setFlag_ok | exact fun _ => rfl | intro _ | split

theorem execRemoteOutputSend_ok (h : Ok q s) (rm) : Good q (execRemoteOutputSend rm s) := by
  unfold execRemoteOutputSend
  with_reducible repeat' first | assumption | apply Good.next | apply good_ite | apply State.modRmod_ok | exact fun _ => rfl | intro _ | split

theorem State.setStaging_ok (h : Ok q s) (m) (l) : Ok q (State.setStaging s m l) := by
  unfold State.setStaging
  with_reducible repeat' first | assumption | exact fun _ => rfl | ((first | apply Ok.mk' | apply Ok.mkFcp); first | assumption | exact fun _ => rfl) | exact rfl | intro _ | split

theorem execCfgStage_ok (h : Ok q s) (tag) : Good q (execCfgStage tag s) := by
  unfold execCfgStage
  with_reducible repeat' first | assumption | apply Good.next | apply good_ite | apply serve_ok | apply State.complete_ok | apply State.done_ok | apply State.setStaging_ok | exact fun _ => rfl | intro _ | split

theorem execCfgDiscard_ok (h : Ok q s) (tag) : Good q (execCfgDiscard tag s) := by
  unfold execCfgDiscard
  with_reducible repeat' first | assumption | apply Good.next | apply good_ite | apply serve_ok | apply State.done_ok | apply State.setStaging_ok | exact fun _ => rfl | intro _ | split

theorem State.writeCtx_ok (h : Ok q s) (i) (ws) (en) : Ok q (State.writeCtx s i ws en) := by
  unfold State.writeCtx
  with_reducible repeat' first | assumption | apply State.setCwords_ok | apply State.healCtx_ok | apply State.setCflag_ok | apply State.cond_ok | apply State.recold_ok | apply ok_ite | exact fun _ => rfl | intro _ | split | dsimp only

theorem State.setType_ok (h : Ok q s) (i) (ty) : Ok q (State.setType s i ty) := by
  unfold State.setType
  with_reducible repeat' first | assumption | apply State.writeCtx_ok | apply ok_ite | exact fun _ => rfl | intro _ | split | dsimp only

theorem State.applyReg_ok (h : Ok q s) (r) : Ok q (State.applyReg s r) := by
  unfold State.applyReg
  with_reducible repeat' first | assumption | apply State.setType_ok | apply State.setReg_ok | apply ok_ite | exact fun _ => rfl | intro _ | split | dsimp only

theorem State.applyBind_ok (h : Ok q s) (r) : Ok q (State.applyBind s r) := by
  unfold State.applyBind
  with_reducible repeat' first | assumption | apply State.modHlp_ok | exact fun _ => rfl | (apply Ok.mk'; first | assumption | apply State.modHlp_ok | exact fun _ => rfl) | exact rfl | intro _ | split

theorem State.applyRmod_ok (h : Ok q s) (r) : Ok q (State.applyRmod s r) := by
  unfold State.applyRmod
  with_reducible repeat' first | assumption | apply State.modRmod_ok | apply State.setFlag_ok | apply State.setFld_ok | exact fun _ => rfl | intro _ | split

theorem State.applyHost_ok (h : Ok q s) (r) : Ok q (State.applyHost s r) := by
  unfold State.applyHost
  with_reducible repeat' first | assumption | exact fun _ => rfl | ((first | apply Ok.mk' | apply Ok.mkFcp); first | assumption | exact fun _ => rfl) | exact rfl | intro _ | split

theorem State.applyNetif_ok (h : Ok q s) (r) : Ok q (State.applyNetif s r) := by
  unfold State.applyNetif
  with_reducible repeat' first | assumption | apply State.modMac_ok | apply State.setFlag_ok | apply State.setFld_ok | apply State.post_ok | apply ok_ite | exact fun _ => rfl | (apply Ok.mk'; first | assumption | apply State.modMac_ok | apply State.setFlag_ok | apply State.setFld_ok | apply State.post_ok | apply ok_ite | exact fun _ => rfl) | exact rfl | intro _ | split

theorem State.clearCtx_ok (h : Ok q s) (i) : Ok q (State.clearCtx s i) := by
  unfold State.clearCtx
  with_reducible repeat' first | assumption | apply State.setCwords_ok | apply State.setCf_ok | apply State.healCtx_ok | apply State.modCtx_ok | apply ok_ite | exact fun _ => rfl | intro _ | split | dsimp only

theorem State.putCtx_ok (h : Ok q s) (r) (i) : Ok q (State.putCtx s r i) := by
  unfold State.putCtx
  with_reducible repeat' first | assumption | apply State.writeCtx_ok | apply ok_ite | exact fun _ => rfl | intro _ | split

theorem State.addMember_ok (h : Ok q s) (named) (p) (base) (m) : Ok q (State.addMember s named p base m) := by
  unfold State.addMember
  with_reducible repeat' first | assumption | apply State.bump_ok | apply State.modPort_ok | apply State.writeCtx_ok | apply State.modCtx_ok | apply State.clearCtx_ok | apply ok_ite | exact fun _ => rfl | (apply Ok.mk'; first | assumption | apply State.bump_ok | apply State.modPort_ok | apply State.writeCtx_ok | apply State.modCtx_ok | apply State.clearCtx_ok | apply ok_ite | exact fun _ => rfl) | exact rfl | intro _ | split

theorem State.linkSat_ok (h : Ok q s) (p) : Ok q (State.linkSat s p) := by
  unfold State.linkSat
  with_reducible repeat' first | assumption | apply State.setCword_ok | apply ok_ite | exact fun _ => rfl | intro _ | split

theorem State.addFamily_ok (h : Ok q s) (named) (p) : Ok q (State.addFamily s named p) := by
  unfold State.addFamily
  with_reducible repeat' first | assumption | apply State.addMember_ok | apply State.bump_ok | apply State.linkSat_ok | apply State.govReset_ok | apply foldl_ok | apply ok_ite | exact fun _ => rfl | intro _ | split | dsimp only

theorem State.putPort_ok (h : Ok q s) (named) (r) : Ok q (State.putPort s named r) := by
  unfold State.putPort
  with_reducible repeat' first | assumption | apply State.modPort_ok | apply State.setFld_ok | apply State.addFamily_ok | apply State.cond_ok | apply State.govEnter_ok | apply ok_ite | exact fun _ => rfl | intro _ | split | dsimp only

theorem State.dropFamily_ok (h : Ok q s) (r) : Ok q (State.dropFamily s r) := by
  unfold State.dropFamily
  with_reducible repeat' first | assumption | apply State.clearCtx_ok | apply State.modPort_ok | apply foldl_ok | apply ok_ite | exact fun _ => rfl | (apply Ok.mk'; first | assumption | apply State.clearCtx_ok | apply State.modPort_ok | apply foldl_ok | apply ok_ite | exact fun _ => rfl) | exact rfl | intro _ | split

theorem State.applyRec_ok (named : List Nat) {x : State × List (Nat × Nat)} (h : Ok q x.1) (r : List Byte) :
    Ok q (State.applyRec named x r).1 := by
  unfold State.applyRec
  dsimp only
  split
  · exact applyReg_ok h _
  · exact putPort_ok h _ _
  · split
    · exact putCtx_ok (clearCtx_ok (bump_ok h) _) _ _
    · exact putCtx_ok h _ _
  · exact applyBind_ok h _
  · exact applyRmod_ok h _
  · exact applyHost_ok h _
  · exact applyNetif_ok h _

theorem State.makeCle_ok (h : Ok q s) (x) : Ok q (State.makeCle s x) := by
  unfold State.makeCle
  dsimp only
  split
  · exact bump_ok (setReg_ok h _ _ _)
  · exact h

theorem State.placeCle_ok (h : Ok q s)  : Ok q (State.placeCle s) := by
  unfold State.placeCle
  with_reducible repeat' first | assumption | apply State.forUnits_ok | apply State.setReg_ok | apply State.makeCle_ok | apply foldl_ok | apply ok_ite | exact fun _ => rfl | intro _ | split

theorem State.bindCmp_ok (h : Ok q s) (committed) : Ok q (State.bindCmp s committed) := by
  unfold State.bindCmp
  with_reducible repeat' first | assumption | apply State.forUnits_ok | apply State.setFlag_ok | apply State.setFld_ok | apply ok_ite | exact fun _ => rfl | intro _ | split | dsimp only

theorem State.setHorizon_ok (h : Ok q s) (k) : Ok q (State.setHorizon s k) := by
  unfold State.setHorizon
  with_reducible repeat' first | assumption | apply State.setFld_ok | exact fun _ => rfl | intro _ | split

theorem State.cfgApply_ok (h : Ok q s) (rs : List (List Byte)) : Ok q (s.cfgApply rs).1 := by
  have hf : ∀ (named : List Nat) (l : List (List Byte)) (x : State × List (Nat × Nat)), Ok q x.1 →
      Ok q (l.foldl (State.applyRec named) x).1 := by
    intro named l
    induction l with
    | nil => exact fun _ hx => hx
    | cons r l ih => exact fun x hx => ih _ (applyRec_ok named hx r)
  have h1 : Ok q (rs.foldl State.dropFamily s) := foldl_ok _ h fun _ _ ht => dropFamily_ok ht _
  unfold State.cfgApply
  dsimp only
  refine setReg_ok (setFld_ok (setFlag_ok (forUnits_ok (bindCmp_ok (placeCle_ok (hf _ _ (_, []) h1)) _) fun _ _ ht => setHorizon_ok ht _) _ _ _) _ _ _) _ _ _

theorem execCfgCommit_ok (h : Ok q s) (tag) : Good q (execCfgCommit tag s) := by
  unfold execCfgCommit
  with_reducible repeat' first | assumption | apply Good.next | apply good_ite | apply serve_ok | apply State.done_ok | apply State.complete_ok | apply State.setStaging_ok | apply State.start_ok | apply ok_ite | exact fun _ => rfl | (apply Ok.mk'; first | assumption | apply Good.next | apply good_ite | apply serve_ok | apply State.done_ok | apply State.complete_ok | apply State.setStaging_ok | apply State.start_ok | apply ok_ite | exact fun _ => rfl) | (apply Ok.mkFcp; first | assumption | apply Good.next | apply good_ite | apply serve_ok | apply State.done_ok | apply State.complete_ok | apply State.setStaging_ok | apply State.start_ok | apply ok_ite | exact fun _ => rfl) | exact rfl | intro _ | split | dsimp only

theorem State.cmpEffect_ok (h : Ok q s) (s0 : State) : Ok q (State.cmpEffect s0 s) := by
  unfold State.cmpEffect
  with_reducible repeat' first | assumption | apply State.forUnits_ok | apply State.staticThr_ok | apply State.ceilingThr_ok | apply State.markFresh_ok | apply State.setFlag_ok | apply ok_ite | exact fun _ => rfl | intro _ | split | dsimp only

theorem State.profEffect_ok (h : Ok q s) (s0 : State) : Ok q (State.profEffect s0 s) := by
  unfold State.profEffect
  with_reducible repeat' first | assumption | apply State.forUnits_ok | apply State.cond_ok | apply State.makeProf_ok | apply State.profFail_ok | apply ok_ite | exact fun _ => rfl | intro _ | split | dsimp only

theorem State.sdEffect_ok (h : Ok q s) (s0 : State) : Ok q (State.sdEffect s0 s) := by
  unfold State.sdEffect
  with_reducible repeat' first | assumption | apply State.profEffect_ok | apply State.forUnits_ok | apply State.sdRestart_ok | apply ok_ite | exact fun _ => rfl | intro _ | split | dsimp only

theorem State.legEffect_ok (h : Ok q s) (s0 : State) : Ok q (State.legEffect s0 s) := by
  unfold State.legEffect
  with_reducible repeat' first | assumption | apply State.forUnits_ok | apply State.modLeg_ok | apply ok_ite | exact fun _ => rfl | (apply Ok.mk'; first | assumption | apply State.forUnits_ok | apply State.modLeg_ok | apply ok_ite | exact fun _ => rfl) | exact rfl | intro _ | split

theorem State.filtEffect_ok (h : Ok q s)  : Ok q (State.filtEffect s) := by
  unfold State.filtEffect
  with_reducible repeat' first | assumption | apply foldl_ok | exact fun _ => rfl | (apply Ok.mk'; first | assumption | apply foldl_ok | exact fun _ => rfl) | exact rfl | intro _ | split

theorem State.pairEffect_ok (h : Ok q s) (s0 : State) : Ok q (State.pairEffect s0 s) := by
  unfold State.pairEffect
  with_reducible repeat' first | assumption | apply State.toPair_ok | apply State.forUnits_ok | apply State.goPort_ok | apply State.setReg_ok | apply State.setFlag_ok | apply State.setFld_ok | apply State.modPair_ok | apply ok_ite | exact fun _ => rfl | intro _ | split | dsimp only

theorem State.dueNew_ok (h : Ok q s) (s0 : State) (i) : Ok q (State.dueNew s0 s i) := by
  unfold State.dueNew
  with_reducible repeat' first | assumption | apply State.modCtx_ok | apply State.modCle_ok | apply ok_ite | exact fun _ => rfl | intro _ | split | dsimp only

theorem State.cfgEffect_ok (h : Ok q s) (s0 : State) : Ok q (State.cfgEffect s0 s) := by
  unfold State.cfgEffect
  with_reducible repeat' first | assumption | apply State.pairEffect_ok | apply State.legEffect_ok | apply State.sdEffect_ok | apply State.cmpEffect_ok | apply State.filtEffect_ok | apply State.cmpAfresh_ok | apply State.forUnits_ok | apply State.coreStat_ok | apply State.setFlag_ok | apply State.dueNew_ok | apply State.modCoef_ok | apply State.gdenCmd_ok | apply ok_ite | exact fun _ => rfl | intro _ | split | dsimp only

theorem execCommitTakesEffect_ok (h : Ok q s) : Good q (execCommitTakesEffect s) := by
  unfold execCommitTakesEffect
  refine .next ?_
  split
  · exact h
  · refine ok_ite (fun _ => h) fun _ => ?_
    dsimp only
    with_reducible apply State.complete_ok
    with_reducible refine Ok.mkFcp ?_ rfl rfl
    with_reducible refine State.cfgEffect_ok ?_ s
    with_reducible refine Ok.mk' ?_ rfl rfl
    with_reducible refine State.cfgApply_ok ?_ _
    with_reducible exact Ok.mk' h rfl rfl

theorem State.cfgAhead_ok (h : Ok q s) : Ok q (State.cfgAhead s) := by
  unfold State.cfgAhead
  with_reducible repeat' first | assumption | apply State.cfgApply_ok | apply ok_ite | exact fun _ => rfl | intro _ | split | dsimp only

theorem execGait_ok (h : Ok q s) (tag) : Good q (execGait tag s) := by
  unfold execGait
  with_reducible repeat' first | assumption | apply Good.next | apply good_ite | apply serve_ok | apply State.done_ok | apply State.setFlag_ok | apply State.setFld_ok | apply State.modClk_ok | apply State.start_ok | apply ok_ite | exact fun _ => rfl | intro _ | split | dsimp only

theorem execRate_ok (h : Ok q s) (tag) : Good q (execRate tag s) := by
  unfold execRate
  with_reducible repeat' first | assumption | apply Good.next | apply good_ite | apply serve_ok | apply State.done_ok | apply State.start_ok | apply State.stageRate_ok | apply ok_ite | exact fun _ => rfl | (apply Ok.mk'; first | assumption | apply Good.next | apply good_ite | apply serve_ok | apply State.done_ok | apply State.start_ok | apply State.stageRate_ok | apply ok_ite | exact fun _ => rfl) | exact rfl | intro _ | split | dsimp only

theorem execDlCalibration_ok (h : Ok q s) (equal) : Good q (execDlCalibration equal s) := by
  unfold execDlCalibration
  with_reducible repeat' first | assumption | apply Good.next | apply good_ite | apply State.setFlag_ok | apply State.setFld_ok | apply State.modPwm_ok | apply State.cond_ok | apply State.post_ok | apply ok_ite | exact fun _ => rfl | (apply Ok.mk'; first | assumption | apply Good.next | apply good_ite | apply State.setFlag_ok | apply State.setFld_ok | apply State.modPwm_ok | apply State.cond_ok | apply State.post_ok | apply ok_ite | exact fun _ => rfl) | exact rfl | intro _ | split

theorem State.carrierPass_ok (h : Ok q s) (n) : Ok q (State.carrierPass s n) := by
  unfold State.carrierPass
  with_reducible repeat' first | assumption | apply State.cond_ok | apply State.urgent_ok | apply State.modLeg_ok | apply State.modPwm_ok | apply State.post_ok | apply ok_ite | exact fun _ => rfl | intro _ | split | dsimp only

theorem execCarrierEvent_ok (h : Ok q s) (leg) : Good q (execCarrierEvent leg s) := by
  unfold execCarrierEvent
  with_reducible repeat' first | assumption | apply Good.next | apply good_ite | apply State.modLeg_ok | apply State.carrierPass_ok | apply ok_ite | exact fun _ => rfl | intro _ | split | dsimp only

theorem execComparatorCrossing_ok (h : Ok q s) (ain) (e) : Good q (execComparatorCrossing ain e s) := by
  unfold execComparatorCrossing
  with_reducible repeat' first | assumption | apply Good.next | apply good_ite | apply State.setVin_ok | apply State.cmpRise_ok | apply ok_ite | exact fun _ => rfl | intro _ | split | dsimp only

theorem execComparatorOutputFall_ok (h : Ok q s) (ain) (e) : Good q (execComparatorOutputFall ain e s) := by
  unfold execComparatorOutputFall
  with_reducible repeat' first | assumption | apply Good.next | apply good_ite | apply State.setVin_ok | apply State.setFlag_ok | apply State.refreshGroups_ok | apply ok_ite | exact fun _ => rfl | intro _ | split | dsimp only

theorem execTripPinActive_ok (h : Ok q s) (pin) : Good q (execTripPinActive pin s) := by
  unfold execTripPinActive
  with_reducible repeat' first | assumption | apply Good.next | apply good_ite | apply State.modPwm_ok | apply State.refreshGroups_ok | apply ok_ite | exact fun _ => rfl | intro _ | split | dsimp only

theorem execTripPinInactive_ok (h : Ok q s) (pin) : Good q (execTripPinInactive pin s) := by
  unfold execTripPinInactive
  with_reducible repeat' first | assumption | apply Good.next | apply good_ite | apply State.refreshGroups_ok | apply State.modPwm_ok | apply ok_ite | exact fun _ => rfl | (apply Ok.mk'; first | assumption | apply Good.next | apply good_ite | apply State.refreshGroups_ok | apply State.modPwm_ok | apply ok_ite | exact fun _ => rfl) | exact rfl | intro _ | split

theorem State.trip_ok (h : Ok q s) (g) (src) : Ok q (State.trip s g src) := by
  unfold State.trip
  with_reducible repeat' first | assumption | apply State.setFlag_ok | apply State.setFld_ok | apply State.count_ok | apply State.post_ok | apply State.takeEdges_ok | apply State.legOff_ok | apply State.modLeg_ok | apply State.raiseLeg_ok | apply State.haltLegs_ok | apply foldl_ok | apply ok_ite | exact fun _ => rfl | intro _ | split | dsimp only

theorem execTripGroupTrip_ok (h : Ok q s) (grp) : Good q (execTripGroupTrip grp s) := by
  unfold execTripGroupTrip
  with_reducible repeat' first | assumption | apply Good.next | apply good_ite | apply State.trip_ok | apply ok_ite | exact fun _ => rfl | intro _ | split | dsimp only

theorem execBlankingClose_ok (h : Ok q s) (wt) : Good q (execBlankingClose wt s) := by
  unfold execBlankingClose
  with_reducible repeat' first | assumption | apply Good.next | apply good_ite | apply State.modPwm_ok | apply State.cond_ok | apply State.crossingActs_ok | apply State.forUnits_ok | apply State.refreshGroups_ok | apply ok_ite | exact fun _ => rfl | intro _ | split | dsimp only

theorem execDeliveredEdge_ok (h : Ok q s) (leg) (top) (on) (instant) : Good q (execDeliveredEdge leg top on instant s) := by
  unfold execDeliveredEdge
  with_reducible repeat' first | assumption | apply Good.next | apply good_ite | apply State.takeEdges_ok | apply State.modLeg_ok | apply State.openBlanking_ok | apply ok_ite | exact fun _ => rfl | intro _ | split | dsimp only

theorem State.answer_ok (h : Ok q s) (tag) (res) (pay) : Ok q (State.answer s tag res pay) := by
  unfold State.answer
  with_reducible repeat' first | assumption | apply State.complete_ok | exact fun _ => rfl | intro _ | split

theorem execQResult_ok (h : Ok q s) (tag) : Good q (execQResult tag s) := by
  unfold execQResult
  with_reducible repeat' first | assumption | apply Good.next | apply good_ite | apply serve_ok | apply State.done_ok | apply State.answer_ok | apply ok_ite | exact fun _ => rfl | intro _ | split

theorem execQCtx_ok (h : Ok q s) (tag) : Good q (execQCtx tag s) := by
  unfold execQCtx
  with_reducible repeat' first | assumption | apply Good.next | apply good_ite | apply serve_ok | apply State.done_ok | apply State.answer_ok | apply ok_ite | exact fun _ => rfl | intro _ | split

theorem execQPort_ok (h : Ok q s) (tag) : Good q (execQPort tag s) := by
  unfold execQPort
  with_reducible repeat' first | assumption | apply Good.next | apply good_ite | apply serve_ok | apply State.done_ok | apply State.answer_ok | apply ok_ite | exact fun _ => rfl | intro _ | split | dsimp only

theorem execQObs_ok (h : Ok q s) (tag) : Good q (execQObs tag s) := by
  unfold execQObs
  with_reducible repeat' first | assumption | apply Good.next | apply good_ite | apply serve_ok | apply State.done_ok | apply State.answer_ok | apply ok_ite | exact fun _ => rfl | intro _ | split

theorem State.fencenRead_ok (h : Ok q s) (clear : Bool) (c i off : Nat) : Ok q (s.fencenRead clear c i off).2 := by
  unfold State.fencenRead
  split
  · dsimp only
    split
    · exact readClear_ok (readLatch_ok (modPath_ok h _ _) _ _ _ _ _) _ _ _
    · exact readLatch_ok (modPath_ok h _ _) _ _ _ _ _
  · exact count_ok h _ _

theorem execQReg_ok (h : Ok q s) (tag) : Good q (execQReg tag s) := by
  unfold execQReg
  refine serve_ok h fun e => ?_
  dsimp only
  split
  · exact State.done_ok h _ _
  · split
    · exact State.done_ok h _ _
    · refine State.answer_ok ?_ _ _ _
      suffices ∀ (l : List (Nat × Nat × Nat)) (a : List Word × State), Ok q a.2 →
          Ok q (l.foldl (fun (a : List Word × State) x =>
            (let y := a.2.fencenRead (e.a 1 == 1) x.1 x.2.1 x.2.2; (a.1 ++ [y.1], y.2))) a).2 from this _ _ h
      intro l
      induction l with
      | nil => exact fun _ ha => ha
      | cons x l ih => exact fun a ha => ih _ (State.fencenRead_ok ha _ _ _ _)

theorem execQEvents_ok (h : Ok q s) (tag) : Good q (execQEvents tag s) := by
  unfold execQEvents
  with_reducible repeat' first | assumption | apply Good.next | apply good_ite | apply serve_ok | apply State.answer_ok | exact fun _ => rfl | intro _ | split

end Sys2Proof.Machine
end

