-- ==== Sys2Proof/Laws/State.lean ====
section
/-!
SUPPORT. What each named update of the state leaves of every component, so that no proof unfolds a record update.
-/
namespace Sys2Proof.Machine.State

variable (s : State)

section
variable (r : Reg) (i : Nat) (w : Word)
@[simp] theorem setReg_pending : (s.setReg r i w).pending = s.pending := rfl
@[simp] theorem setReg_now : (s.setReg r i w).now = s.now := rfl
@[simp] theorem setReg_fresh : (s.setReg r i w).fresh = s.fresh := rfl
@[simp] theorem setReg_regs : (s.setReg r i w).regs = Memory.set resetWord s.regs (regKey r.cls i r.off) w := rfl
@[simp] theorem setReg_fcp : (s.setReg r i w).fcp = s.fcp := rfl
@[simp] theorem setReg_evq : (s.setReg r i w).evq = s.evq := rfl
@[simp] theorem setReg_win : (s.setReg r i w).win = s.win := rfl
@[simp] theorem setReg_cle : (s.setReg r i w).cle = s.cle := rfl
@[simp] theorem setReg_ports : (s.setReg r i w).ports = s.ports := rfl
@[simp] theorem setReg_pwm : (s.setReg r i w).pwm = s.pwm := rfl
@[simp] theorem setReg_coef : (s.setReg r i w).coef = s.coef := rfl
@[simp] theorem setReg_trace : (s.setReg r i w).trace = s.trace := rfl
@[simp] theorem setReg_obs : (s.setReg r i w).obs = s.obs := rfl
@[simp] theorem setReg_adc : (s.setReg r i w).adc = s.adc := rfl
@[simp] theorem setReg_sd : (s.setReg r i w).sd = s.sd := rfl
@[simp] theorem setReg_gl : (s.setReg r i w).gl = s.gl := rfl
@[simp] theorem setReg_pair : (s.setReg r i w).pair = s.pair := rfl
@[simp] theorem setReg_stw : (s.setReg r i w).stw = s.stw := rfl
@[simp] theorem setReg_hlp : (s.setReg r i w).hlp = s.hlp := rfl
@[simp] theorem setReg_fio : (s.setReg r i w).fio = s.fio := rfl
@[simp] theorem setReg_tb : (s.setReg r i w).tb = s.tb := rfl
@[simp] theorem setReg_macs : (s.setReg r i w).macs = s.macs := rfl
@[simp] theorem setReg_ptp : (s.setReg r i w).ptp = s.ptp := rfl
@[simp] theorem setReg_cap : (s.setReg r i w).cap = s.cap := rfl
@[simp] theorem setReg_recd : (s.setReg r i w).recd = s.recd := rfl
@[simp] theorem setReg_clk : (s.setReg r i w).clk = s.clk := rfl
@[simp] theorem setReg_spur : (s.setReg r i w).spur = s.spur := rfl
@[simp] theorem setReg_tack : (s.setReg r i w).tack = s.tack := rfl
@[simp] theorem setReg_boot : (s.setReg r i w).boot = s.boot := rfl
end

section
variable (f : Fld) (i v : Nat)
@[simp] theorem setFld_pending : (s.setFld f i v).pending = s.pending := rfl
@[simp] theorem setFld_now : (s.setFld f i v).now = s.now := rfl
@[simp] theorem setFld_fresh : (s.setFld f i v).fresh = s.fresh := rfl
@[simp] theorem setFld_fcp : (s.setFld f i v).fcp = s.fcp := rfl
@[simp] theorem setFld_evq : (s.setFld f i v).evq = s.evq := rfl
@[simp] theorem setFld_win : (s.setFld f i v).win = s.win := rfl
@[simp] theorem setFld_cle : (s.setFld f i v).cle = s.cle := rfl
@[simp] theorem setFld_ports : (s.setFld f i v).ports = s.ports := rfl
@[simp] theorem setFld_pwm : (s.setFld f i v).pwm = s.pwm := rfl
@[simp] theorem setFld_coef : (s.setFld f i v).coef = s.coef := rfl
@[simp] theorem setFld_trace : (s.setFld f i v).trace = s.trace := rfl
@[simp] theorem setFld_obs : (s.setFld f i v).obs = s.obs := rfl
@[simp] theorem setFld_adc : (s.setFld f i v).adc = s.adc := rfl
@[simp] theorem setFld_sd : (s.setFld f i v).sd = s.sd := rfl
@[simp] theorem setFld_gl : (s.setFld f i v).gl = s.gl := rfl
@[simp] theorem setFld_pair : (s.setFld f i v).pair = s.pair := rfl
@[simp] theorem setFld_stw : (s.setFld f i v).stw = s.stw := rfl
@[simp] theorem setFld_hlp : (s.setFld f i v).hlp = s.hlp := rfl
@[simp] theorem setFld_fio : (s.setFld f i v).fio = s.fio := rfl
@[simp] theorem setFld_tb : (s.setFld f i v).tb = s.tb := rfl
@[simp] theorem setFld_macs : (s.setFld f i v).macs = s.macs := rfl
@[simp] theorem setFld_ptp : (s.setFld f i v).ptp = s.ptp := rfl
@[simp] theorem setFld_cap : (s.setFld f i v).cap = s.cap := rfl
@[simp] theorem setFld_recd : (s.setFld f i v).recd = s.recd := rfl
@[simp] theorem setFld_clk : (s.setFld f i v).clk = s.clk := rfl
@[simp] theorem setFld_spur : (s.setFld f i v).spur = s.spur := rfl
@[simp] theorem setFld_tack : (s.setFld f i v).tack = s.tack := rfl
@[simp] theorem setFld_boot : (s.setFld f i v).boot = s.boot := rfl
end

section
variable (f : Fld) (i : Nat) (b : Bool)
@[simp] theorem setFlag_pending : (s.setFlag f i b).pending = s.pending := rfl
@[simp] theorem setFlag_now : (s.setFlag f i b).now = s.now := rfl
@[simp] theorem setFlag_fresh : (s.setFlag f i b).fresh = s.fresh := rfl
@[simp] theorem setFlag_fcp : (s.setFlag f i b).fcp = s.fcp := rfl
@[simp] theorem setFlag_evq : (s.setFlag f i b).evq = s.evq := rfl
@[simp] theorem setFlag_win : (s.setFlag f i b).win = s.win := rfl
@[simp] theorem setFlag_cle : (s.setFlag f i b).cle = s.cle := rfl
@[simp] theorem setFlag_ports : (s.setFlag f i b).ports = s.ports := rfl
@[simp] theorem setFlag_pwm : (s.setFlag f i b).pwm = s.pwm := rfl
@[simp] theorem setFlag_coef : (s.setFlag f i b).coef = s.coef := rfl
@[simp] theorem setFlag_trace : (s.setFlag f i b).trace = s.trace := rfl
@[simp] theorem setFlag_obs : (s.setFlag f i b).obs = s.obs := rfl
@[simp] theorem setFlag_adc : (s.setFlag f i b).adc = s.adc := rfl
@[simp] theorem setFlag_sd : (s.setFlag f i b).sd = s.sd := rfl
@[simp] theorem setFlag_gl : (s.setFlag f i b).gl = s.gl := rfl
@[simp] theorem setFlag_pair : (s.setFlag f i b).pair = s.pair := rfl
@[simp] theorem setFlag_stw : (s.setFlag f i b).stw = s.stw := rfl
@[simp] theorem setFlag_hlp : (s.setFlag f i b).hlp = s.hlp := rfl
@[simp] theorem setFlag_fio : (s.setFlag f i b).fio = s.fio := rfl
@[simp] theorem setFlag_tb : (s.setFlag f i b).tb = s.tb := rfl
@[simp] theorem setFlag_macs : (s.setFlag f i b).macs = s.macs := rfl
@[simp] theorem setFlag_ptp : (s.setFlag f i b).ptp = s.ptp := rfl
@[simp] theorem setFlag_cap : (s.setFlag f i b).cap = s.cap := rfl
@[simp] theorem setFlag_recd : (s.setFlag f i b).recd = s.recd := rfl
@[simp] theorem setFlag_clk : (s.setFlag f i b).clk = s.clk := rfl
@[simp] theorem setFlag_spur : (s.setFlag f i b).spur = s.spur := rfl
@[simp] theorem setFlag_tack : (s.setFlag f i b).tack = s.tack := rfl
@[simp] theorem setFlag_boot : (s.setFlag f i b).boot = s.boot := rfl
end

section
variable (f : Fld) (i k : Nat)
@[simp] theorem countN_pending : (s.countN f i k).pending = s.pending := rfl
@[simp] theorem countN_now : (s.countN f i k).now = s.now := rfl
@[simp] theorem countN_fresh : (s.countN f i k).fresh = s.fresh := rfl
@[simp] theorem countN_fcp : (s.countN f i k).fcp = s.fcp := rfl
@[simp] theorem countN_evq : (s.countN f i k).evq = s.evq := rfl
@[simp] theorem countN_win : (s.countN f i k).win = s.win := rfl
@[simp] theorem countN_cle : (s.countN f i k).cle = s.cle := rfl
@[simp] theorem countN_ports : (s.countN f i k).ports = s.ports := rfl
@[simp] theorem countN_pwm : (s.countN f i k).pwm = s.pwm := rfl
@[simp] theorem countN_coef : (s.countN f i k).coef = s.coef := rfl
@[simp] theorem countN_trace : (s.countN f i k).trace = s.trace := rfl
@[simp] theorem countN_obs : (s.countN f i k).obs = s.obs := rfl
@[simp] theorem countN_adc : (s.countN f i k).adc = s.adc := rfl
@[simp] theorem countN_sd : (s.countN f i k).sd = s.sd := rfl
@[simp] theorem countN_gl : (s.countN f i k).gl = s.gl := rfl
@[simp] theorem countN_pair : (s.countN f i k).pair = s.pair := rfl
@[simp] theorem countN_stw : (s.countN f i k).stw = s.stw := rfl
@[simp] theorem countN_hlp : (s.countN f i k).hlp = s.hlp := rfl
@[simp] theorem countN_fio : (s.countN f i k).fio = s.fio := rfl
@[simp] theorem countN_tb : (s.countN f i k).tb = s.tb := rfl
@[simp] theorem countN_macs : (s.countN f i k).macs = s.macs := rfl
@[simp] theorem countN_ptp : (s.countN f i k).ptp = s.ptp := rfl
@[simp] theorem countN_cap : (s.countN f i k).cap = s.cap := rfl
@[simp] theorem countN_recd : (s.countN f i k).recd = s.recd := rfl
@[simp] theorem countN_clk : (s.countN f i k).clk = s.clk := rfl
@[simp] theorem countN_spur : (s.countN f i k).spur = s.spur := rfl
@[simp] theorem countN_tack : (s.countN f i k).tack = s.tack := rfl
@[simp] theorem countN_boot : (s.countN f i k).boot = s.boot := rfl
end

section
variable (f : Fld) (i : Nat)
@[simp] theorem count_pending : (s.count f i).pending = s.pending := rfl
@[simp] theorem count_now : (s.count f i).now = s.now := rfl
@[simp] theorem count_fresh : (s.count f i).fresh = s.fresh := rfl
@[simp] theorem count_fcp : (s.count f i).fcp = s.fcp := rfl
@[simp] theorem count_evq : (s.count f i).evq = s.evq := rfl
@[simp] theorem count_win : (s.count f i).win = s.win := rfl
@[simp] theorem count_cle : (s.count f i).cle = s.cle := rfl
@[simp] theorem count_ports : (s.count f i).ports = s.ports := rfl
@[simp] theorem count_pwm : (s.count f i).pwm = s.pwm := rfl
@[simp] theorem count_coef : (s.count f i).coef = s.coef := rfl
@[simp] theorem count_trace : (s.count f i).trace = s.trace := rfl
@[simp] theorem count_obs : (s.count f i).obs = s.obs := rfl
@[simp] theorem count_adc : (s.count f i).adc = s.adc := rfl
@[simp] theorem count_sd : (s.count f i).sd = s.sd := rfl
@[simp] theorem count_gl : (s.count f i).gl = s.gl := rfl
@[simp] theorem count_pair : (s.count f i).pair = s.pair := rfl
@[simp] theorem count_stw : (s.count f i).stw = s.stw := rfl
@[simp] theorem count_hlp : (s.count f i).hlp = s.hlp := rfl
@[simp] theorem count_fio : (s.count f i).fio = s.fio := rfl
@[simp] theorem count_tb : (s.count f i).tb = s.tb := rfl
@[simp] theorem count_macs : (s.count f i).macs = s.macs := rfl
@[simp] theorem count_ptp : (s.count f i).ptp = s.ptp := rfl
@[simp] theorem count_cap : (s.count f i).cap = s.cap := rfl
@[simp] theorem count_recd : (s.count f i).recd = s.recd := rfl
@[simp] theorem count_clk : (s.count f i).clk = s.clk := rfl
@[simp] theorem count_spur : (s.count f i).spur = s.spur := rfl
@[simp] theorem count_tack : (s.count f i).tack = s.tack := rfl
@[simp] theorem count_boot : (s.count f i).boot = s.boot := rfl
end

section
@[simp] theorem bump_pending : (s.bump).pending = s.pending := rfl
@[simp] theorem bump_now : (s.bump).now = s.now := rfl
@[simp] theorem bump_fresh : (s.bump).fresh = s.fresh + 1 := rfl
@[simp] theorem bump_regs : (s.bump).regs = s.regs := rfl
@[simp] theorem bump_fcp : (s.bump).fcp = s.fcp := rfl
@[simp] theorem bump_evq : (s.bump).evq = s.evq := rfl
@[simp] theorem bump_win : (s.bump).win = s.win := rfl
@[simp] theorem bump_cle : (s.bump).cle = s.cle := rfl
@[simp] theorem bump_ports : (s.bump).ports = s.ports := rfl
@[simp] theorem bump_pwm : (s.bump).pwm = s.pwm := rfl
@[simp] theorem bump_coef : (s.bump).coef = s.coef := rfl
@[simp] theorem bump_trace : (s.bump).trace = s.trace := rfl
@[simp] theorem bump_obs : (s.bump).obs = s.obs := rfl
@[simp] theorem bump_adc : (s.bump).adc = s.adc := rfl
@[simp] theorem bump_sd : (s.bump).sd = s.sd := rfl
@[simp] theorem bump_gl : (s.bump).gl = s.gl := rfl
@[simp] theorem bump_pair : (s.bump).pair = s.pair := rfl
@[simp] theorem bump_stw : (s.bump).stw = s.stw := rfl
@[simp] theorem bump_hlp : (s.bump).hlp = s.hlp := rfl
@[simp] theorem bump_fio : (s.bump).fio = s.fio := rfl
@[simp] theorem bump_tb : (s.bump).tb = s.tb := rfl
@[simp] theorem bump_macs : (s.bump).macs = s.macs := rfl
@[simp] theorem bump_ptp : (s.bump).ptp = s.ptp := rfl
@[simp] theorem bump_cap : (s.bump).cap = s.cap := rfl
@[simp] theorem bump_recd : (s.bump).recd = s.recd := rfl
@[simp] theorem bump_clk : (s.bump).clk = s.clk := rfl
@[simp] theorem bump_spur : (s.bump).spur = s.spur := rfl
@[simp] theorem bump_tack : (s.bump).tack = s.tack := rfl
@[simp] theorem bump_boot : (s.bump).boot = s.boot := rfl
@[simp] theorem bump_fld (g : Fld) (j : Nat) : (s.bump).fld g j = s.fld g j := rfl
@[simp] theorem bump_flag (g : Fld) (j : Nat) : (s.bump).flag g j = s.flag g j := rfl
@[simp] theorem bump_reg (g : Reg) (j : Nat) : (s.bump).reg g j = s.reg g j := rfl
end

section
variable (d : Nat)
@[simp] theorem elapse_pending : (s.elapse d).pending = s.pending := rfl
@[simp] theorem elapse_now : (s.elapse d).now = s.now + d := rfl
@[simp] theorem elapse_fresh : (s.elapse d).fresh = s.fresh := rfl
@[simp] theorem elapse_regs : (s.elapse d).regs = s.regs := rfl
@[simp] theorem elapse_fcp : (s.elapse d).fcp = s.fcp := rfl
@[simp] theorem elapse_evq : (s.elapse d).evq = s.evq := rfl
@[simp] theorem elapse_win : (s.elapse d).win = s.win := rfl
@[simp] theorem elapse_cle : (s.elapse d).cle = s.cle := rfl
@[simp] theorem elapse_ports : (s.elapse d).ports = s.ports := rfl
@[simp] theorem elapse_pwm : (s.elapse d).pwm = s.pwm := rfl
@[simp] theorem elapse_coef : (s.elapse d).coef = s.coef := rfl
@[simp] theorem elapse_trace : (s.elapse d).trace = s.trace := rfl
@[simp] theorem elapse_obs : (s.elapse d).obs = s.obs := rfl
@[simp] theorem elapse_adc : (s.elapse d).adc = s.adc := rfl
@[simp] theorem elapse_sd : (s.elapse d).sd = s.sd := rfl
@[simp] theorem elapse_gl : (s.elapse d).gl = s.gl := rfl
@[simp] theorem elapse_pair : (s.elapse d).pair = s.pair := rfl
@[simp] theorem elapse_stw : (s.elapse d).stw = s.stw := rfl
@[simp] theorem elapse_hlp : (s.elapse d).hlp = s.hlp := rfl
@[simp] theorem elapse_fio : (s.elapse d).fio = s.fio := rfl
@[simp] theorem elapse_macs : (s.elapse d).macs = s.macs := rfl
@[simp] theorem elapse_ptp : (s.elapse d).ptp = s.ptp := rfl
@[simp] theorem elapse_cap : (s.elapse d).cap = s.cap := rfl
@[simp] theorem elapse_recd : (s.elapse d).recd = s.recd := rfl
@[simp] theorem elapse_clk : (s.elapse d).clk = s.clk := rfl
@[simp] theorem elapse_spur : (s.elapse d).spur = s.spur := rfl
@[simp] theorem elapse_tack : (s.elapse d).tack = s.tack := rfl
@[simp] theorem elapse_boot : (s.elapse d).boot = s.boot := rfl
@[simp] theorem elapse_fld (g : Fld) (j : Nat) : (s.elapse d).fld g j = s.fld g j := rfl
@[simp] theorem elapse_flag (g : Fld) (j : Nat) : (s.elapse d).flag g j = s.flag g j := rfl
@[simp] theorem elapse_reg (g : Reg) (j : Nat) : (s.elapse d).reg g j = s.reg g j := rfl
end

section
variable (m : Nat) (f : Mailbox → Mailbox)
@[simp] theorem box_pending : (s.box m f).pending = s.pending := rfl
@[simp] theorem box_now : (s.box m f).now = s.now := rfl
@[simp] theorem box_fresh : (s.box m f).fresh = s.fresh := rfl
@[simp] theorem box_regs : (s.box m f).regs = s.regs := rfl
@[simp] theorem box_evq : (s.box m f).evq = s.evq := rfl
@[simp] theorem box_win : (s.box m f).win = s.win := rfl
@[simp] theorem box_cle : (s.box m f).cle = s.cle := rfl
@[simp] theorem box_ports : (s.box m f).ports = s.ports := rfl
@[simp] theorem box_pwm : (s.box m f).pwm = s.pwm := rfl
@[simp] theorem box_coef : (s.box m f).coef = s.coef := rfl
@[simp] theorem box_trace : (s.box m f).trace = s.trace := rfl
@[simp] theorem box_obs : (s.box m f).obs = s.obs := rfl
@[simp] theorem box_adc : (s.box m f).adc = s.adc := rfl
@[simp] theorem box_sd : (s.box m f).sd = s.sd := rfl
@[simp] theorem box_gl : (s.box m f).gl = s.gl := rfl
@[simp] theorem box_pair : (s.box m f).pair = s.pair := rfl
@[simp] theorem box_stw : (s.box m f).stw = s.stw := rfl
@[simp] theorem box_hlp : (s.box m f).hlp = s.hlp := rfl
@[simp] theorem box_fio : (s.box m f).fio = s.fio := rfl
@[simp] theorem box_tb : (s.box m f).tb = s.tb := rfl
@[simp] theorem box_macs : (s.box m f).macs = s.macs := rfl
@[simp] theorem box_ptp : (s.box m f).ptp = s.ptp := rfl
@[simp] theorem box_cap : (s.box m f).cap = s.cap := rfl
@[simp] theorem box_recd : (s.box m f).recd = s.recd := rfl
@[simp] theorem box_clk : (s.box m f).clk = s.clk := rfl
@[simp] theorem box_spur : (s.box m f).spur = s.spur := rfl
@[simp] theorem box_tack : (s.box m f).tack = s.tack := rfl
@[simp] theorem box_boot : (s.box m f).boot = s.boot := rfl
@[simp] theorem box_fld (g : Fld) (j : Nat) : (s.box m f).fld g j = s.fld g j := rfl
@[simp] theorem box_flag (g : Fld) (j : Nat) : (s.box m f).flag g j = s.flag g j := rfl
@[simp] theorem box_reg (g : Reg) (j : Nat) : (s.box m f).reg g j = s.reg g j := rfl
end

section
variable (tag : Nat)
@[simp] theorem start_pending : (s.start tag).pending = s.pending := rfl
@[simp] theorem start_now : (s.start tag).now = s.now := rfl
@[simp] theorem start_fresh : (s.start tag).fresh = s.fresh := rfl
@[simp] theorem start_regs : (s.start tag).regs = s.regs := rfl
@[simp] theorem start_evq : (s.start tag).evq = s.evq := rfl
@[simp] theorem start_win : (s.start tag).win = s.win := rfl
@[simp] theorem start_cle : (s.start tag).cle = s.cle := rfl
@[simp] theorem start_ports : (s.start tag).ports = s.ports := rfl
@[simp] theorem start_pwm : (s.start tag).pwm = s.pwm := rfl
@[simp] theorem start_coef : (s.start tag).coef = s.coef := rfl
@[simp] theorem start_trace : (s.start tag).trace = s.trace := rfl
@[simp] theorem start_obs : (s.start tag).obs = s.obs := rfl
@[simp] theorem start_adc : (s.start tag).adc = s.adc := rfl
@[simp] theorem start_sd : (s.start tag).sd = s.sd := rfl
@[simp] theorem start_gl : (s.start tag).gl = s.gl := rfl
@[simp] theorem start_pair : (s.start tag).pair = s.pair := rfl
@[simp] theorem start_stw : (s.start tag).stw = s.stw := rfl
@[simp] theorem start_hlp : (s.start tag).hlp = s.hlp := rfl
@[simp] theorem start_fio : (s.start tag).fio = s.fio := rfl
@[simp] theorem start_tb : (s.start tag).tb = s.tb := rfl
@[simp] theorem start_macs : (s.start tag).macs = s.macs := rfl
@[simp] theorem start_ptp : (s.start tag).ptp = s.ptp := rfl
@[simp] theorem start_cap : (s.start tag).cap = s.cap := rfl
@[simp] theorem start_recd : (s.start tag).recd = s.recd := rfl
@[simp] theorem start_clk : (s.start tag).clk = s.clk := rfl
@[simp] theorem start_spur : (s.start tag).spur = s.spur := rfl
@[simp] theorem start_tack : (s.start tag).tack = s.tack := rfl
@[simp] theorem start_boot : (s.start tag).boot = s.boot := rfl
@[simp] theorem start_fld (g : Fld) (j : Nat) : (s.start tag).fld g j = s.fld g j := rfl
@[simp] theorem start_flag (g : Fld) (j : Nat) : (s.start tag).flag g j = s.flag g j := rfl
@[simp] theorem start_reg (g : Reg) (j : Nat) : (s.start tag).reg g j = s.reg g j := rfl
end

section
variable (p : Nat) (f : PortSt → PortSt)
@[simp] theorem modPort_pending : (s.modPort p f).pending = s.pending := rfl
@[simp] theorem modPort_now : (s.modPort p f).now = s.now := rfl
@[simp] theorem modPort_fresh : (s.modPort p f).fresh = s.fresh := rfl
@[simp] theorem modPort_regs : (s.modPort p f).regs = s.regs := rfl
@[simp] theorem modPort_fcp : (s.modPort p f).fcp = s.fcp := rfl
@[simp] theorem modPort_evq : (s.modPort p f).evq = s.evq := rfl
@[simp] theorem modPort_win : (s.modPort p f).win = s.win := rfl
@[simp] theorem modPort_cle : (s.modPort p f).cle = s.cle := rfl
@[simp] theorem modPort_ports : (s.modPort p f).ports = vmod s.ports p f := rfl
@[simp] theorem modPort_pwm : (s.modPort p f).pwm = s.pwm := rfl
@[simp] theorem modPort_coef : (s.modPort p f).coef = s.coef := rfl
@[simp] theorem modPort_trace : (s.modPort p f).trace = s.trace := rfl
@[simp] theorem modPort_obs : (s.modPort p f).obs = s.obs := rfl
@[simp] theorem modPort_adc : (s.modPort p f).adc = s.adc := rfl
@[simp] theorem modPort_sd : (s.modPort p f).sd = s.sd := rfl
@[simp] theorem modPort_gl : (s.modPort p f).gl = s.gl := rfl
@[simp] theorem modPort_pair : (s.modPort p f).pair = s.pair := rfl
@[simp] theorem modPort_stw : (s.modPort p f).stw = s.stw := rfl
@[simp] theorem modPort_hlp : (s.modPort p f).hlp = s.hlp := rfl
@[simp] theorem modPort_fio : (s.modPort p f).fio = s.fio := rfl
@[simp] theorem modPort_tb : (s.modPort p f).tb = s.tb := rfl
@[simp] theorem modPort_macs : (s.modPort p f).macs = s.macs := rfl
@[simp] theorem modPort_ptp : (s.modPort p f).ptp = s.ptp := rfl
@[simp] theorem modPort_cap : (s.modPort p f).cap = s.cap := rfl
@[simp] theorem modPort_recd : (s.modPort p f).recd = s.recd := rfl
@[simp] theorem modPort_clk : (s.modPort p f).clk = s.clk := rfl
@[simp] theorem modPort_spur : (s.modPort p f).spur = s.spur := rfl
@[simp] theorem modPort_tack : (s.modPort p f).tack = s.tack := rfl
@[simp] theorem modPort_boot : (s.modPort p f).boot = s.boot := rfl
@[simp] theorem modPort_fld (g : Fld) (j : Nat) : (s.modPort p f).fld g j = s.fld g j := rfl
@[simp] theorem modPort_flag (g : Fld) (j : Nat) : (s.modPort p f).flag g j = s.flag g j := rfl
@[simp] theorem modPort_reg (g : Reg) (j : Nat) : (s.modPort p f).reg g j = s.reg g j := rfl
end

section
variable (l : Nat) (f : LaneSt → LaneSt)
@[simp] theorem modLane_pending : (s.modLane l f).pending = s.pending := rfl
@[simp] theorem modLane_now : (s.modLane l f).now = s.now := rfl
@[simp] theorem modLane_fresh : (s.modLane l f).fresh = s.fresh := rfl
@[simp] theorem modLane_regs : (s.modLane l f).regs = s.regs := rfl
@[simp] theorem modLane_fcp : (s.modLane l f).fcp = s.fcp := rfl
@[simp] theorem modLane_evq : (s.modLane l f).evq = s.evq := rfl
@[simp] theorem modLane_win : (s.modLane l f).win = s.win := rfl
@[simp] theorem modLane_cle : (s.modLane l f).cle = s.cle := rfl
@[simp] theorem modLane_ports : (s.modLane l f).ports = s.ports := rfl
@[simp] theorem modLane_pwm : (s.modLane l f).pwm = s.pwm := rfl
@[simp] theorem modLane_coef : (s.modLane l f).coef = s.coef := rfl
@[simp] theorem modLane_trace : (s.modLane l f).trace = s.trace := rfl
@[simp] theorem modLane_obs : (s.modLane l f).obs = s.obs := rfl
@[simp] theorem modLane_adc : (s.modLane l f).adc = s.adc := rfl
@[simp] theorem modLane_sd : (s.modLane l f).sd = s.sd := rfl
@[simp] theorem modLane_pair : (s.modLane l f).pair = s.pair := rfl
@[simp] theorem modLane_stw : (s.modLane l f).stw = s.stw := rfl
@[simp] theorem modLane_hlp : (s.modLane l f).hlp = s.hlp := rfl
@[simp] theorem modLane_fio : (s.modLane l f).fio = s.fio := rfl
@[simp] theorem modLane_tb : (s.modLane l f).tb = s.tb := rfl
@[simp] theorem modLane_macs : (s.modLane l f).macs = s.macs := rfl
@[simp] theorem modLane_ptp : (s.modLane l f).ptp = s.ptp := rfl
@[simp] theorem modLane_cap : (s.modLane l f).cap = s.cap := rfl
@[simp] theorem modLane_recd : (s.modLane l f).recd = s.recd := rfl
@[simp] theorem modLane_clk : (s.modLane l f).clk = s.clk := rfl
@[simp] theorem modLane_spur : (s.modLane l f).spur = s.spur := rfl
@[simp] theorem modLane_tack : (s.modLane l f).tack = s.tack := rfl
@[simp] theorem modLane_boot : (s.modLane l f).boot = s.boot := rfl
@[simp] theorem modLane_fld (g : Fld) (j : Nat) : (s.modLane l f).fld g j = s.fld g j := rfl
@[simp] theorem modLane_flag (g : Fld) (j : Nat) : (s.modLane l f).flag g j = s.flag g j := rfl
@[simp] theorem modLane_reg (g : Reg) (j : Nat) : (s.modLane l f).reg g j = s.reg g j := rfl
end

section
variable (f : BootSt → BootSt)
@[simp] theorem modBoot_pending : (s.modBoot f).pending = s.pending := rfl
@[simp] theorem modBoot_now : (s.modBoot f).now = s.now := rfl
@[simp] theorem modBoot_fresh : (s.modBoot f).fresh = s.fresh := rfl
@[simp] theorem modBoot_regs : (s.modBoot f).regs = s.regs := rfl
@[simp] theorem modBoot_fcp : (s.modBoot f).fcp = s.fcp := rfl
@[simp] theorem modBoot_evq : (s.modBoot f).evq = s.evq := rfl
@[simp] theorem modBoot_win : (s.modBoot f).win = s.win := rfl
@[simp] theorem modBoot_cle : (s.modBoot f).cle = s.cle := rfl
@[simp] theorem modBoot_ports : (s.modBoot f).ports = s.ports := rfl
@[simp] theorem modBoot_pwm : (s.modBoot f).pwm = s.pwm := rfl
@[simp] theorem modBoot_coef : (s.modBoot f).coef = s.coef := rfl
@[simp] theorem modBoot_trace : (s.modBoot f).trace = s.trace := rfl
@[simp] theorem modBoot_obs : (s.modBoot f).obs = s.obs := rfl
@[simp] theorem modBoot_adc : (s.modBoot f).adc = s.adc := rfl
@[simp] theorem modBoot_sd : (s.modBoot f).sd = s.sd := rfl
@[simp] theorem modBoot_gl : (s.modBoot f).gl = s.gl := rfl
@[simp] theorem modBoot_pair : (s.modBoot f).pair = s.pair := rfl
@[simp] theorem modBoot_stw : (s.modBoot f).stw = s.stw := rfl
@[simp] theorem modBoot_hlp : (s.modBoot f).hlp = s.hlp := rfl
@[simp] theorem modBoot_fio : (s.modBoot f).fio = s.fio := rfl
@[simp] theorem modBoot_tb : (s.modBoot f).tb = s.tb := rfl
@[simp] theorem modBoot_macs : (s.modBoot f).macs = s.macs := rfl
@[simp] theorem modBoot_ptp : (s.modBoot f).ptp = s.ptp := rfl
@[simp] theorem modBoot_cap : (s.modBoot f).cap = s.cap := rfl
@[simp] theorem modBoot_recd : (s.modBoot f).recd = s.recd := rfl
@[simp] theorem modBoot_clk : (s.modBoot f).clk = s.clk := rfl
@[simp] theorem modBoot_spur : (s.modBoot f).spur = s.spur := rfl
@[simp] theorem modBoot_tack : (s.modBoot f).tack = s.tack := rfl
@[simp] theorem modBoot_boot : (s.modBoot f).boot = f s.boot := rfl
@[simp] theorem modBoot_fld (g : Fld) (j : Nat) : (s.modBoot f).fld g j = s.fld g j := rfl
@[simp] theorem modBoot_flag (g : Fld) (j : Nat) : (s.modBoot f).flag g j = s.flag g j := rfl
@[simp] theorem modBoot_reg (g : Reg) (j : Nat) : (s.modBoot f).reg g j = s.reg g j := rfl
end

section
variable (f : ClkSt → ClkSt)
@[simp] theorem modClk_pending : (s.modClk f).pending = s.pending := rfl
@[simp] theorem modClk_now : (s.modClk f).now = s.now := rfl
@[simp] theorem modClk_fresh : (s.modClk f).fresh = s.fresh := rfl
@[simp] theorem modClk_regs : (s.modClk f).regs = s.regs := rfl
@[simp] theorem modClk_fcp : (s.modClk f).fcp = s.fcp := rfl
@[simp] theorem modClk_evq : (s.modClk f).evq = s.evq := rfl
@[simp] theorem modClk_win : (s.modClk f).win = s.win := rfl
@[simp] theorem modClk_cle : (s.modClk f).cle = s.cle := rfl
@[simp] theorem modClk_ports : (s.modClk f).ports = s.ports := rfl
@[simp] theorem modClk_pwm : (s.modClk f).pwm = s.pwm := rfl
@[simp] theorem modClk_coef : (s.modClk f).coef = s.coef := rfl
@[simp] theorem modClk_trace : (s.modClk f).trace = s.trace := rfl
@[simp] theorem modClk_obs : (s.modClk f).obs = s.obs := rfl
@[simp] theorem modClk_adc : (s.modClk f).adc = s.adc := rfl
@[simp] theorem modClk_sd : (s.modClk f).sd = s.sd := rfl
@[simp] theorem modClk_gl : (s.modClk f).gl = s.gl := rfl
@[simp] theorem modClk_pair : (s.modClk f).pair = s.pair := rfl
@[simp] theorem modClk_stw : (s.modClk f).stw = s.stw := rfl
@[simp] theorem modClk_hlp : (s.modClk f).hlp = s.hlp := rfl
@[simp] theorem modClk_fio : (s.modClk f).fio = s.fio := rfl
@[simp] theorem modClk_tb : (s.modClk f).tb = s.tb := rfl
@[simp] theorem modClk_macs : (s.modClk f).macs = s.macs := rfl
@[simp] theorem modClk_ptp : (s.modClk f).ptp = s.ptp := rfl
@[simp] theorem modClk_cap : (s.modClk f).cap = s.cap := rfl
@[simp] theorem modClk_recd : (s.modClk f).recd = s.recd := rfl
@[simp] theorem modClk_clk : (s.modClk f).clk = f s.clk := rfl
@[simp] theorem modClk_spur : (s.modClk f).spur = s.spur := rfl
@[simp] theorem modClk_tack : (s.modClk f).tack = s.tack := rfl
@[simp] theorem modClk_boot : (s.modClk f).boot = s.boot := rfl
@[simp] theorem modClk_fld (g : Fld) (j : Nat) : (s.modClk f).fld g j = s.fld g j := rfl
@[simp] theorem modClk_flag (g : Fld) (j : Nat) : (s.modClk f).flag g j = s.flag g j := rfl
@[simp] theorem modClk_reg (g : Reg) (j : Nat) : (s.modClk f).reg g j = s.reg g j := rfl
end

section
variable (b : Nat) (f : TimeBase → TimeBase)
@[simp] theorem modTb_pending : (s.modTb b f).pending = s.pending := rfl
@[simp] theorem modTb_now : (s.modTb b f).now = s.now := rfl
@[simp] theorem modTb_fresh : (s.modTb b f).fresh = s.fresh := rfl
@[simp] theorem modTb_regs : (s.modTb b f).regs = s.regs := rfl
@[simp] theorem modTb_fcp : (s.modTb b f).fcp = s.fcp := rfl
@[simp] theorem modTb_evq : (s.modTb b f).evq = s.evq := rfl
@[simp] theorem modTb_win : (s.modTb b f).win = s.win := rfl
@[simp] theorem modTb_cle : (s.modTb b f).cle = s.cle := rfl
@[simp] theorem modTb_ports : (s.modTb b f).ports = s.ports := rfl
@[simp] theorem modTb_pwm : (s.modTb b f).pwm = s.pwm := rfl
@[simp] theorem modTb_coef : (s.modTb b f).coef = s.coef := rfl
@[simp] theorem modTb_trace : (s.modTb b f).trace = s.trace := rfl
@[simp] theorem modTb_obs : (s.modTb b f).obs = s.obs := rfl
@[simp] theorem modTb_adc : (s.modTb b f).adc = s.adc := rfl
@[simp] theorem modTb_sd : (s.modTb b f).sd = s.sd := rfl
@[simp] theorem modTb_gl : (s.modTb b f).gl = s.gl := rfl
@[simp] theorem modTb_pair : (s.modTb b f).pair = s.pair := rfl
@[simp] theorem modTb_stw : (s.modTb b f).stw = s.stw := rfl
@[simp] theorem modTb_hlp : (s.modTb b f).hlp = s.hlp := rfl
@[simp] theorem modTb_fio : (s.modTb b f).fio = s.fio := rfl
@[simp] theorem modTb_tb : (s.modTb b f).tb = vmod s.tb b f := rfl
@[simp] theorem modTb_macs : (s.modTb b f).macs = s.macs := rfl
@[simp] theorem modTb_ptp : (s.modTb b f).ptp = s.ptp := rfl
@[simp] theorem modTb_cap : (s.modTb b f).cap = s.cap := rfl
@[simp] theorem modTb_recd : (s.modTb b f).recd = s.recd := rfl
@[simp] theorem modTb_clk : (s.modTb b f).clk = s.clk := rfl
@[simp] theorem modTb_spur : (s.modTb b f).spur = s.spur := rfl
@[simp] theorem modTb_tack : (s.modTb b f).tack = s.tack := rfl
@[simp] theorem modTb_boot : (s.modTb b f).boot = s.boot := rfl
@[simp] theorem modTb_fld (g : Fld) (j : Nat) : (s.modTb b f).fld g j = s.fld g j := rfl
@[simp] theorem modTb_flag (g : Fld) (j : Nat) : (s.modTb b f).flag g j = s.flag g j := rfl
@[simp] theorem modTb_reg (g : Reg) (j : Nat) : (s.modTb b f).reg g j = s.reg g j := rfl
end

section
variable (f : PtpSt → PtpSt)
@[simp] theorem modPtp_pending : (s.modPtp f).pending = s.pending := rfl
@[simp] theorem modPtp_now : (s.modPtp f).now = s.now := rfl
@[simp] theorem modPtp_fresh : (s.modPtp f).fresh = s.fresh := rfl
@[simp] theorem modPtp_regs : (s.modPtp f).regs = s.regs := rfl
@[simp] theorem modPtp_fcp : (s.modPtp f).fcp = s.fcp := rfl
@[simp] theorem modPtp_evq : (s.modPtp f).evq = s.evq := rfl
@[simp] theorem modPtp_win : (s.modPtp f).win = s.win := rfl
@[simp] theorem modPtp_cle : (s.modPtp f).cle = s.cle := rfl
@[simp] theorem modPtp_ports : (s.modPtp f).ports = s.ports := rfl
@[simp] theorem modPtp_pwm : (s.modPtp f).pwm = s.pwm := rfl
@[simp] theorem modPtp_coef : (s.modPtp f).coef = s.coef := rfl
@[simp] theorem modPtp_trace : (s.modPtp f).trace = s.trace := rfl
@[simp] theorem modPtp_obs : (s.modPtp f).obs = s.obs := rfl
@[simp] theorem modPtp_adc : (s.modPtp f).adc = s.adc := rfl
@[simp] theorem modPtp_sd : (s.modPtp f).sd = s.sd := rfl
@[simp] theorem modPtp_gl : (s.modPtp f).gl = s.gl := rfl
@[simp] theorem modPtp_pair : (s.modPtp f).pair = s.pair := rfl
@[simp] theorem modPtp_stw : (s.modPtp f).stw = s.stw := rfl
@[simp] theorem modPtp_hlp : (s.modPtp f).hlp = s.hlp := rfl
@[simp] theorem modPtp_fio : (s.modPtp f).fio = s.fio := rfl
@[simp] theorem modPtp_tb : (s.modPtp f).tb = s.tb := rfl
@[simp] theorem modPtp_macs : (s.modPtp f).macs = s.macs := rfl
@[simp] theorem modPtp_ptp : (s.modPtp f).ptp = f s.ptp := rfl
@[simp] theorem modPtp_cap : (s.modPtp f).cap = s.cap := rfl
@[simp] theorem modPtp_recd : (s.modPtp f).recd = s.recd := rfl
@[simp] theorem modPtp_clk : (s.modPtp f).clk = s.clk := rfl
@[simp] theorem modPtp_spur : (s.modPtp f).spur = s.spur := rfl
@[simp] theorem modPtp_tack : (s.modPtp f).tack = s.tack := rfl
@[simp] theorem modPtp_boot : (s.modPtp f).boot = s.boot := rfl
@[simp] theorem modPtp_fld (g : Fld) (j : Nat) : (s.modPtp f).fld g j = s.fld g j := rfl
@[simp] theorem modPtp_flag (g : Fld) (j : Nat) : (s.modPtp f).flag g j = s.flag g j := rfl
@[simp] theorem modPtp_reg (g : Reg) (j : Nat) : (s.modPtp f).reg g j = s.reg g j := rfl
end

section
variable (f : StwSt → StwSt)
@[simp] theorem modStw_pending : (s.modStw f).pending = s.pending := rfl
@[simp] theorem modStw_now : (s.modStw f).now = s.now := rfl
@[simp] theorem modStw_fresh : (s.modStw f).fresh = s.fresh := rfl
@[simp] theorem modStw_regs : (s.modStw f).regs = s.regs := rfl
@[simp] theorem modStw_fcp : (s.modStw f).fcp = s.fcp := rfl
@[simp] theorem modStw_evq : (s.modStw f).evq = s.evq := rfl
@[simp] theorem modStw_win : (s.modStw f).win = s.win := rfl
@[simp] theorem modStw_cle : (s.modStw f).cle = s.cle := rfl
@[simp] theorem modStw_ports : (s.modStw f).ports = s.ports := rfl
@[simp] theorem modStw_pwm : (s.modStw f).pwm = s.pwm := rfl
@[simp] theorem modStw_coef : (s.modStw f).coef = s.coef := rfl
@[simp] theorem modStw_trace : (s.modStw f).trace = s.trace := rfl
@[simp] theorem modStw_obs : (s.modStw f).obs = s.obs := rfl
@[simp] theorem modStw_adc : (s.modStw f).adc = s.adc := rfl
@[simp] theorem modStw_sd : (s.modStw f).sd = s.sd := rfl
@[simp] theorem modStw_gl : (s.modStw f).gl = s.gl := rfl
@[simp] theorem modStw_pair : (s.modStw f).pair = s.pair := rfl
@[simp] theorem modStw_stw : (s.modStw f).stw = f s.stw := rfl
@[simp] theorem modStw_hlp : (s.modStw f).hlp = s.hlp := rfl
@[simp] theorem modStw_fio : (s.modStw f).fio = s.fio := rfl
@[simp] theorem modStw_tb : (s.modStw f).tb = s.tb := rfl
@[simp] theorem modStw_macs : (s.modStw f).macs = s.macs := rfl
@[simp] theorem modStw_ptp : (s.modStw f).ptp = s.ptp := rfl
@[simp] theorem modStw_cap : (s.modStw f).cap = s.cap := rfl
@[simp] theorem modStw_recd : (s.modStw f).recd = s.recd := rfl
@[simp] theorem modStw_clk : (s.modStw f).clk = s.clk := rfl
@[simp] theorem modStw_spur : (s.modStw f).spur = s.spur := rfl
@[simp] theorem modStw_tack : (s.modStw f).tack = s.tack := rfl
@[simp] theorem modStw_boot : (s.modStw f).boot = s.boot := rfl
@[simp] theorem modStw_fld (g : Fld) (j : Nat) : (s.modStw f).fld g j = s.fld g j := rfl
@[simp] theorem modStw_flag (g : Fld) (j : Nat) : (s.modStw f).flag g j = s.flag g j := rfl
@[simp] theorem modStw_reg (g : Reg) (j : Nat) : (s.modStw f).reg g j = s.reg g j := rfl
end

section
variable (c : Nat) (f : CoreSt → CoreSt)
@[simp] theorem modCore_pending : (s.modCore c f).pending = s.pending := rfl
@[simp] theorem modCore_now : (s.modCore c f).now = s.now := rfl
@[simp] theorem modCore_fresh : (s.modCore c f).fresh = s.fresh := rfl
@[simp] theorem modCore_regs : (s.modCore c f).regs = s.regs := rfl
@[simp] theorem modCore_fcp : (s.modCore c f).fcp = s.fcp := rfl
@[simp] theorem modCore_evq : (s.modCore c f).evq = s.evq := rfl
@[simp] theorem modCore_win : (s.modCore c f).win = s.win := rfl
@[simp] theorem modCore_cle : (s.modCore c f).cle = s.cle := rfl
@[simp] theorem modCore_ports : (s.modCore c f).ports = s.ports := rfl
@[simp] theorem modCore_pwm : (s.modCore c f).pwm = s.pwm := rfl
@[simp] theorem modCore_coef : (s.modCore c f).coef = s.coef := rfl
@[simp] theorem modCore_trace : (s.modCore c f).trace = s.trace := rfl
@[simp] theorem modCore_obs : (s.modCore c f).obs = s.obs := rfl
@[simp] theorem modCore_sd : (s.modCore c f).sd = s.sd := rfl
@[simp] theorem modCore_gl : (s.modCore c f).gl = s.gl := rfl
@[simp] theorem modCore_pair : (s.modCore c f).pair = s.pair := rfl
@[simp] theorem modCore_stw : (s.modCore c f).stw = s.stw := rfl
@[simp] theorem modCore_hlp : (s.modCore c f).hlp = s.hlp := rfl
@[simp] theorem modCore_fio : (s.modCore c f).fio = s.fio := rfl
@[simp] theorem modCore_tb : (s.modCore c f).tb = s.tb := rfl
@[simp] theorem modCore_macs : (s.modCore c f).macs = s.macs := rfl
@[simp] theorem modCore_ptp : (s.modCore c f).ptp = s.ptp := rfl
@[simp] theorem modCore_cap : (s.modCore c f).cap = s.cap := rfl
@[simp] theorem modCore_recd : (s.modCore c f).recd = s.recd := rfl
@[simp] theorem modCore_clk : (s.modCore c f).clk = s.clk := rfl
@[simp] theorem modCore_spur : (s.modCore c f).spur = s.spur := rfl
@[simp] theorem modCore_tack : (s.modCore c f).tack = s.tack := rfl
@[simp] theorem modCore_boot : (s.modCore c f).boot = s.boot := rfl
@[simp] theorem modCore_fld (g : Fld) (j : Nat) : (s.modCore c f).fld g j = s.fld g j := rfl
@[simp] theorem modCore_flag (g : Fld) (j : Nat) : (s.modCore c f).flag g j = s.flag g j := rfl
@[simp] theorem modCore_reg (g : Reg) (j : Nat) : (s.modCore c f).reg g j = s.reg g j := rfl
end

section
variable (k : Nat) (f : SdIn → SdIn)
@[simp] theorem modSd_pending : (s.modSd k f).pending = s.pending := rfl
@[simp] theorem modSd_now : (s.modSd k f).now = s.now := rfl
@[simp] theorem modSd_fresh : (s.modSd k f).fresh = s.fresh := rfl
@[simp] theorem modSd_regs : (s.modSd k f).regs = s.regs := rfl
@[simp] theorem modSd_fcp : (s.modSd k f).fcp = s.fcp := rfl
@[simp] theorem modSd_evq : (s.modSd k f).evq = s.evq := rfl
@[simp] theorem modSd_win : (s.modSd k f).win = s.win := rfl
@[simp] theorem modSd_cle : (s.modSd k f).cle = s.cle := rfl
@[simp] theorem modSd_ports : (s.modSd k f).ports = s.ports := rfl
@[simp] theorem modSd_pwm : (s.modSd k f).pwm = s.pwm := rfl
@[simp] theorem modSd_coef : (s.modSd k f).coef = s.coef := rfl
@[simp] theorem modSd_trace : (s.modSd k f).trace = s.trace := rfl
@[simp] theorem modSd_obs : (s.modSd k f).obs = s.obs := rfl
@[simp] theorem modSd_adc : (s.modSd k f).adc = s.adc := rfl
@[simp] theorem modSd_gl : (s.modSd k f).gl = s.gl := rfl
@[simp] theorem modSd_pair : (s.modSd k f).pair = s.pair := rfl
@[simp] theorem modSd_stw : (s.modSd k f).stw = s.stw := rfl
@[simp] theorem modSd_hlp : (s.modSd k f).hlp = s.hlp := rfl
@[simp] theorem modSd_fio : (s.modSd k f).fio = s.fio := rfl
@[simp] theorem modSd_tb : (s.modSd k f).tb = s.tb := rfl
@[simp] theorem modSd_macs : (s.modSd k f).macs = s.macs := rfl
@[simp] theorem modSd_ptp : (s.modSd k f).ptp = s.ptp := rfl
@[simp] theorem modSd_cap : (s.modSd k f).cap = s.cap := rfl
@[simp] theorem modSd_recd : (s.modSd k f).recd = s.recd := rfl
@[simp] theorem modSd_clk : (s.modSd k f).clk = s.clk := rfl
@[simp] theorem modSd_spur : (s.modSd k f).spur = s.spur := rfl
@[simp] theorem modSd_tack : (s.modSd k f).tack = s.tack := rfl
@[simp] theorem modSd_boot : (s.modSd k f).boot = s.boot := rfl
@[simp] theorem modSd_fld (g : Fld) (j : Nat) : (s.modSd k f).fld g j = s.fld g j := rfl
@[simp] theorem modSd_flag (g : Fld) (j : Nat) : (s.modSd k f).flag g j = s.flag g j := rfl
@[simp] theorem modSd_reg (g : Reg) (j : Nat) : (s.modSd k f).reg g j = s.reg g j := rfl
end

section
variable (n : Nat) (f : LegSt → LegSt)
@[simp] theorem modLeg_pending : (s.modLeg n f).pending = s.pending := rfl
@[simp] theorem modLeg_now : (s.modLeg n f).now = s.now := rfl
@[simp] theorem modLeg_fresh : (s.modLeg n f).fresh = s.fresh := rfl
@[simp] theorem modLeg_regs : (s.modLeg n f).regs = s.regs := rfl
@[simp] theorem modLeg_fcp : (s.modLeg n f).fcp = s.fcp := rfl
@[simp] theorem modLeg_evq : (s.modLeg n f).evq = s.evq := rfl
@[simp] theorem modLeg_win : (s.modLeg n f).win = s.win := rfl
@[simp] theorem modLeg_cle : (s.modLeg n f).cle = s.cle := rfl
@[simp] theorem modLeg_ports : (s.modLeg n f).ports = s.ports := rfl
@[simp] theorem modLeg_coef : (s.modLeg n f).coef = s.coef := rfl
@[simp] theorem modLeg_trace : (s.modLeg n f).trace = s.trace := rfl
@[simp] theorem modLeg_obs : (s.modLeg n f).obs = s.obs := rfl
@[simp] theorem modLeg_adc : (s.modLeg n f).adc = s.adc := rfl
@[simp] theorem modLeg_sd : (s.modLeg n f).sd = s.sd := rfl
@[simp] theorem modLeg_gl : (s.modLeg n f).gl = s.gl := rfl
@[simp] theorem modLeg_pair : (s.modLeg n f).pair = s.pair := rfl
@[simp] theorem modLeg_stw : (s.modLeg n f).stw = s.stw := rfl
@[simp] theorem modLeg_hlp : (s.modLeg n f).hlp = s.hlp := rfl
@[simp] theorem modLeg_fio : (s.modLeg n f).fio = s.fio := rfl
@[simp] theorem modLeg_tb : (s.modLeg n f).tb = s.tb := rfl
@[simp] theorem modLeg_macs : (s.modLeg n f).macs = s.macs := rfl
@[simp] theorem modLeg_ptp : (s.modLeg n f).ptp = s.ptp := rfl
@[simp] theorem modLeg_cap : (s.modLeg n f).cap = s.cap := rfl
@[simp] theorem modLeg_recd : (s.modLeg n f).recd = s.recd := rfl
@[simp] theorem modLeg_clk : (s.modLeg n f).clk = s.clk := rfl
@[simp] theorem modLeg_spur : (s.modLeg n f).spur = s.spur := rfl
@[simp] theorem modLeg_tack : (s.modLeg n f).tack = s.tack := rfl
@[simp] theorem modLeg_boot : (s.modLeg n f).boot = s.boot := rfl
@[simp] theorem modLeg_fld (g : Fld) (j : Nat) : (s.modLeg n f).fld g j = s.fld g j := rfl
@[simp] theorem modLeg_flag (g : Fld) (j : Nat) : (s.modLeg n f).flag g j = s.flag g j := rfl
@[simp] theorem modLeg_reg (g : Reg) (j : Nat) : (s.modLeg n f).reg g j = s.reg g j := rfl
end

section
variable (f : PwmSt → PwmSt)
@[simp] theorem modPwm_pending : (s.modPwm f).pending = s.pending := rfl
@[simp] theorem modPwm_now : (s.modPwm f).now = s.now := rfl
@[simp] theorem modPwm_fresh : (s.modPwm f).fresh = s.fresh := rfl
@[simp] theorem modPwm_regs : (s.modPwm f).regs = s.regs := rfl
@[simp] theorem modPwm_fcp : (s.modPwm f).fcp = s.fcp := rfl
@[simp] theorem modPwm_evq : (s.modPwm f).evq = s.evq := rfl
@[simp] theorem modPwm_win : (s.modPwm f).win = s.win := rfl
@[simp] theorem modPwm_cle : (s.modPwm f).cle = s.cle := rfl
@[simp] theorem modPwm_ports : (s.modPwm f).ports = s.ports := rfl
@[simp] theorem modPwm_pwm : (s.modPwm f).pwm = f s.pwm := rfl
@[simp] theorem modPwm_coef : (s.modPwm f).coef = s.coef := rfl
@[simp] theorem modPwm_trace : (s.modPwm f).trace = s.trace := rfl
@[simp] theorem modPwm_obs : (s.modPwm f).obs = s.obs := rfl
@[simp] theorem modPwm_adc : (s.modPwm f).adc = s.adc := rfl
@[simp] theorem modPwm_sd : (s.modPwm f).sd = s.sd := rfl
@[simp] theorem modPwm_gl : (s.modPwm f).gl = s.gl := rfl
@[simp] theorem modPwm_pair : (s.modPwm f).pair = s.pair := rfl
@[simp] theorem modPwm_stw : (s.modPwm f).stw = s.stw := rfl
@[simp] theorem modPwm_hlp : (s.modPwm f).hlp = s.hlp := rfl
@[simp] theorem modPwm_fio : (s.modPwm f).fio = s.fio := rfl
@[simp] theorem modPwm_tb : (s.modPwm f).tb = s.tb := rfl
@[simp] theorem modPwm_macs : (s.modPwm f).macs = s.macs := rfl
@[simp] theorem modPwm_ptp : (s.modPwm f).ptp = s.ptp := rfl
@[simp] theorem modPwm_cap : (s.modPwm f).cap = s.cap := rfl
@[simp] theorem modPwm_recd : (s.modPwm f).recd = s.recd := rfl
@[simp] theorem modPwm_clk : (s.modPwm f).clk = s.clk := rfl
@[simp] theorem modPwm_spur : (s.modPwm f).spur = s.spur := rfl
@[simp] theorem modPwm_tack : (s.modPwm f).tack = s.tack := rfl
@[simp] theorem modPwm_boot : (s.modPwm f).boot = s.boot := rfl
@[simp] theorem modPwm_fld (g : Fld) (j : Nat) : (s.modPwm f).fld g j = s.fld g j := rfl
@[simp] theorem modPwm_flag (g : Fld) (j : Nat) : (s.modPwm f).flag g j = s.flag g j := rfl
@[simp] theorem modPwm_reg (g : Reg) (j : Nat) : (s.modPwm f).reg g j = s.reg g j := rfl
end

section
variable (c : Nat) (f : TraceCh → TraceCh)
@[simp] theorem modTr_pending : (s.modTr c f).pending = s.pending := rfl
@[simp] theorem modTr_now : (s.modTr c f).now = s.now := rfl
@[simp] theorem modTr_fresh : (s.modTr c f).fresh = s.fresh := rfl
@[simp] theorem modTr_regs : (s.modTr c f).regs = s.regs := rfl
@[simp] theorem modTr_fcp : (s.modTr c f).fcp = s.fcp := rfl
@[simp] theorem modTr_evq : (s.modTr c f).evq = s.evq := rfl
@[simp] theorem modTr_win : (s.modTr c f).win = s.win := rfl
@[simp] theorem modTr_cle : (s.modTr c f).cle = s.cle := rfl
@[simp] theorem modTr_ports : (s.modTr c f).ports = s.ports := rfl
@[simp] theorem modTr_pwm : (s.modTr c f).pwm = s.pwm := rfl
@[simp] theorem modTr_coef : (s.modTr c f).coef = s.coef := rfl
@[simp] theorem modTr_trace : (s.modTr c f).trace = vmod s.trace c f := rfl
@[simp] theorem modTr_obs : (s.modTr c f).obs = s.obs := rfl
@[simp] theorem modTr_adc : (s.modTr c f).adc = s.adc := rfl
@[simp] theorem modTr_sd : (s.modTr c f).sd = s.sd := rfl
@[simp] theorem modTr_gl : (s.modTr c f).gl = s.gl := rfl
@[simp] theorem modTr_pair : (s.modTr c f).pair = s.pair := rfl
@[simp] theorem modTr_stw : (s.modTr c f).stw = s.stw := rfl
@[simp] theorem modTr_hlp : (s.modTr c f).hlp = s.hlp := rfl
@[simp] theorem modTr_fio : (s.modTr c f).fio = s.fio := rfl
@[simp] theorem modTr_tb : (s.modTr c f).tb = s.tb := rfl
@[simp] theorem modTr_macs : (s.modTr c f).macs = s.macs := rfl
@[simp] theorem modTr_ptp : (s.modTr c f).ptp = s.ptp := rfl
@[simp] theorem modTr_cap : (s.modTr c f).cap = s.cap := rfl
@[simp] theorem modTr_recd : (s.modTr c f).recd = s.recd := rfl
@[simp] theorem modTr_clk : (s.modTr c f).clk = s.clk := rfl
@[simp] theorem modTr_spur : (s.modTr c f).spur = s.spur := rfl
@[simp] theorem modTr_tack : (s.modTr c f).tack = s.tack := rfl
@[simp] theorem modTr_boot : (s.modTr c f).boot = s.boot := rfl
@[simp] theorem modTr_fld (g : Fld) (j : Nat) : (s.modTr c f).fld g j = s.fld g j := rfl
@[simp] theorem modTr_flag (g : Fld) (j : Nat) : (s.modTr c f).flag g j = s.flag g j := rfl
@[simp] theorem modTr_reg (g : Reg) (j : Nat) : (s.modTr c f).reg g j = s.reg g j := rfl
end

section
variable (f : CleSt → CleSt)
@[simp] theorem modCle_pending : (s.modCle f).pending = s.pending := rfl
@[simp] theorem modCle_now : (s.modCle f).now = s.now := rfl
@[simp] theorem modCle_fresh : (s.modCle f).fresh = s.fresh := rfl
@[simp] theorem modCle_regs : (s.modCle f).regs = s.regs := rfl
@[simp] theorem modCle_fcp : (s.modCle f).fcp = s.fcp := rfl
@[simp] theorem modCle_evq : (s.modCle f).evq = s.evq := rfl
@[simp] theorem modCle_win : (s.modCle f).win = s.win := rfl
@[simp] theorem modCle_cle : (s.modCle f).cle = f s.cle := rfl
@[simp] theorem modCle_ports : (s.modCle f).ports = s.ports := rfl
@[simp] theorem modCle_pwm : (s.modCle f).pwm = s.pwm := rfl
@[simp] theorem modCle_coef : (s.modCle f).coef = s.coef := rfl
@[simp] theorem modCle_trace : (s.modCle f).trace = s.trace := rfl
@[simp] theorem modCle_obs : (s.modCle f).obs = s.obs := rfl
@[simp] theorem modCle_adc : (s.modCle f).adc = s.adc := rfl
@[simp] theorem modCle_sd : (s.modCle f).sd = s.sd := rfl
@[simp] theorem modCle_gl : (s.modCle f).gl = s.gl := rfl
@[simp] theorem modCle_pair : (s.modCle f).pair = s.pair := rfl
@[simp] theorem modCle_stw : (s.modCle f).stw = s.stw := rfl
@[simp] theorem modCle_hlp : (s.modCle f).hlp = s.hlp := rfl
@[simp] theorem modCle_fio : (s.modCle f).fio = s.fio := rfl
@[simp] theorem modCle_tb : (s.modCle f).tb = s.tb := rfl
@[simp] theorem modCle_macs : (s.modCle f).macs = s.macs := rfl
@[simp] theorem modCle_ptp : (s.modCle f).ptp = s.ptp := rfl
@[simp] theorem modCle_cap : (s.modCle f).cap = s.cap := rfl
@[simp] theorem modCle_recd : (s.modCle f).recd = s.recd := rfl
@[simp] theorem modCle_clk : (s.modCle f).clk = s.clk := rfl
@[simp] theorem modCle_spur : (s.modCle f).spur = s.spur := rfl
@[simp] theorem modCle_tack : (s.modCle f).tack = s.tack := rfl
@[simp] theorem modCle_boot : (s.modCle f).boot = s.boot := rfl
@[simp] theorem modCle_fld (g : Fld) (j : Nat) : (s.modCle f).fld g j = s.fld g j := rfl
@[simp] theorem modCle_flag (g : Fld) (j : Nat) : (s.modCle f).flag g j = s.flag g j := rfl
@[simp] theorem modCle_reg (g : Reg) (j : Nat) : (s.modCle f).reg g j = s.reg g j := rfl
end

section
variable (k : Nat) (f : CtxSt → CtxSt)
@[simp] theorem modCtx_pending : (s.modCtx k f).pending = s.pending := rfl
@[simp] theorem modCtx_now : (s.modCtx k f).now = s.now := rfl
@[simp] theorem modCtx_fresh : (s.modCtx k f).fresh = s.fresh := rfl
@[simp] theorem modCtx_regs : (s.modCtx k f).regs = s.regs := rfl
@[simp] theorem modCtx_fcp : (s.modCtx k f).fcp = s.fcp := rfl
@[simp] theorem modCtx_evq : (s.modCtx k f).evq = s.evq := rfl
@[simp] theorem modCtx_win : (s.modCtx k f).win = s.win := rfl
@[simp] theorem modCtx_ports : (s.modCtx k f).ports = s.ports := rfl
@[simp] theorem modCtx_pwm : (s.modCtx k f).pwm = s.pwm := rfl
@[simp] theorem modCtx_coef : (s.modCtx k f).coef = s.coef := rfl
@[simp] theorem modCtx_trace : (s.modCtx k f).trace = s.trace := rfl
@[simp] theorem modCtx_obs : (s.modCtx k f).obs = s.obs := rfl
@[simp] theorem modCtx_adc : (s.modCtx k f).adc = s.adc := rfl
@[simp] theorem modCtx_sd : (s.modCtx k f).sd = s.sd := rfl
@[simp] theorem modCtx_gl : (s.modCtx k f).gl = s.gl := rfl
@[simp] theorem modCtx_pair : (s.modCtx k f).pair = s.pair := rfl
@[simp] theorem modCtx_stw : (s.modCtx k f).stw = s.stw := rfl
@[simp] theorem modCtx_hlp : (s.modCtx k f).hlp = s.hlp := rfl
@[simp] theorem modCtx_fio : (s.modCtx k f).fio = s.fio := rfl
@[simp] theorem modCtx_tb : (s.modCtx k f).tb = s.tb := rfl
@[simp] theorem modCtx_macs : (s.modCtx k f).macs = s.macs := rfl
@[simp] theorem modCtx_ptp : (s.modCtx k f).ptp = s.ptp := rfl
@[simp] theorem modCtx_cap : (s.modCtx k f).cap = s.cap := rfl
@[simp] theorem modCtx_recd : (s.modCtx k f).recd = s.recd := rfl
@[simp] theorem modCtx_clk : (s.modCtx k f).clk = s.clk := rfl
@[simp] theorem modCtx_spur : (s.modCtx k f).spur = s.spur := rfl
@[simp] theorem modCtx_tack : (s.modCtx k f).tack = s.tack := rfl
@[simp] theorem modCtx_boot : (s.modCtx k f).boot = s.boot := rfl
@[simp] theorem modCtx_fld (g : Fld) (j : Nat) : (s.modCtx k f).fld g j = s.fld g j := rfl
@[simp] theorem modCtx_flag (g : Fld) (j : Nat) : (s.modCtx k f).flag g j = s.flag g j := rfl
@[simp] theorem modCtx_reg (g : Reg) (j : Nat) : (s.modCtx k f).reg g j = s.reg g j := rfl
end

section
variable (f : CapSt → CapSt)
@[simp] theorem modCap_pending : (s.modCap f).pending = s.pending := rfl
@[simp] theorem modCap_now : (s.modCap f).now = s.now := rfl
@[simp] theorem modCap_fresh : (s.modCap f).fresh = s.fresh := rfl
@[simp] theorem modCap_regs : (s.modCap f).regs = s.regs := rfl
@[simp] theorem modCap_fcp : (s.modCap f).fcp = s.fcp := rfl
@[simp] theorem modCap_evq : (s.modCap f).evq = s.evq := rfl
@[simp] theorem modCap_win : (s.modCap f).win = s.win := rfl
@[simp] theorem modCap_cle : (s.modCap f).cle = s.cle := rfl
@[simp] theorem modCap_ports : (s.modCap f).ports = s.ports := rfl
@[simp] theorem modCap_pwm : (s.modCap f).pwm = s.pwm := rfl
@[simp] theorem modCap_coef : (s.modCap f).coef = s.coef := rfl
@[simp] theorem modCap_trace : (s.modCap f).trace = s.trace := rfl
@[simp] theorem modCap_obs : (s.modCap f).obs = s.obs := rfl
@[simp] theorem modCap_adc : (s.modCap f).adc = s.adc := rfl
@[simp] theorem modCap_sd : (s.modCap f).sd = s.sd := rfl
@[simp] theorem modCap_gl : (s.modCap f).gl = s.gl := rfl
@[simp] theorem modCap_pair : (s.modCap f).pair = s.pair := rfl
@[simp] theorem modCap_stw : (s.modCap f).stw = s.stw := rfl
@[simp] theorem modCap_hlp : (s.modCap f).hlp = s.hlp := rfl
@[simp] theorem modCap_fio : (s.modCap f).fio = s.fio := rfl
@[simp] theorem modCap_tb : (s.modCap f).tb = s.tb := rfl
@[simp] theorem modCap_macs : (s.modCap f).macs = s.macs := rfl
@[simp] theorem modCap_ptp : (s.modCap f).ptp = s.ptp := rfl
@[simp] theorem modCap_cap : (s.modCap f).cap = f s.cap := rfl
@[simp] theorem modCap_recd : (s.modCap f).recd = s.recd := rfl
@[simp] theorem modCap_clk : (s.modCap f).clk = s.clk := rfl
@[simp] theorem modCap_spur : (s.modCap f).spur = s.spur := rfl
@[simp] theorem modCap_tack : (s.modCap f).tack = s.tack := rfl
@[simp] theorem modCap_boot : (s.modCap f).boot = s.boot := rfl
@[simp] theorem modCap_fld (g : Fld) (j : Nat) : (s.modCap f).fld g j = s.fld g j := rfl
@[simp] theorem modCap_flag (g : Fld) (j : Nat) : (s.modCap f).flag g j = s.flag g j := rfl
@[simp] theorem modCap_reg (g : Reg) (j : Nat) : (s.modCap f).reg g j = s.reg g j := rfl
end

section
variable (f : HlpSt → HlpSt)
@[simp] theorem modHlp_pending : (s.modHlp f).pending = s.pending := rfl
@[simp] theorem modHlp_now : (s.modHlp f).now = s.now := rfl
@[simp] theorem modHlp_fresh : (s.modHlp f).fresh = s.fresh := rfl
@[simp] theorem modHlp_regs : (s.modHlp f).regs = s.regs := rfl
@[simp] theorem modHlp_fcp : (s.modHlp f).fcp = s.fcp := rfl
@[simp] theorem modHlp_evq : (s.modHlp f).evq = s.evq := rfl
@[simp] theorem modHlp_win : (s.modHlp f).win = s.win := rfl
@[simp] theorem modHlp_cle : (s.modHlp f).cle = s.cle := rfl
@[simp] theorem modHlp_ports : (s.modHlp f).ports = s.ports := rfl
@[simp] theorem modHlp_pwm : (s.modHlp f).pwm = s.pwm := rfl
@[simp] theorem modHlp_coef : (s.modHlp f).coef = s.coef := rfl
@[simp] theorem modHlp_trace : (s.modHlp f).trace = s.trace := rfl
@[simp] theorem modHlp_obs : (s.modHlp f).obs = s.obs := rfl
@[simp] theorem modHlp_adc : (s.modHlp f).adc = s.adc := rfl
@[simp] theorem modHlp_sd : (s.modHlp f).sd = s.sd := rfl
@[simp] theorem modHlp_gl : (s.modHlp f).gl = s.gl := rfl
@[simp] theorem modHlp_pair : (s.modHlp f).pair = s.pair := rfl
@[simp] theorem modHlp_stw : (s.modHlp f).stw = s.stw := rfl
@[simp] theorem modHlp_hlp : (s.modHlp f).hlp = f s.hlp := rfl
@[simp] theorem modHlp_fio : (s.modHlp f).fio = s.fio := rfl
@[simp] theorem modHlp_tb : (s.modHlp f).tb = s.tb := rfl
@[simp] theorem modHlp_macs : (s.modHlp f).macs = s.macs := rfl
@[simp] theorem modHlp_ptp : (s.modHlp f).ptp = s.ptp := rfl
@[simp] theorem modHlp_cap : (s.modHlp f).cap = s.cap := rfl
@[simp] theorem modHlp_recd : (s.modHlp f).recd = s.recd := rfl
@[simp] theorem modHlp_clk : (s.modHlp f).clk = s.clk := rfl
@[simp] theorem modHlp_spur : (s.modHlp f).spur = s.spur := rfl
@[simp] theorem modHlp_tack : (s.modHlp f).tack = s.tack := rfl
@[simp] theorem modHlp_boot : (s.modHlp f).boot = s.boot := rfl
@[simp] theorem modHlp_fld (g : Fld) (j : Nat) : (s.modHlp f).fld g j = s.fld g j := rfl
@[simp] theorem modHlp_flag (g : Fld) (j : Nat) : (s.modHlp f).flag g j = s.flag g j := rfl
@[simp] theorem modHlp_reg (g : Reg) (j : Nat) : (s.modHlp f).reg g j = s.reg g j := rfl
end

section
variable (p : Nat) (f : ObsSt → ObsSt)
@[simp] theorem modObs_pending : (s.modObs p f).pending = s.pending := rfl
@[simp] theorem modObs_now : (s.modObs p f).now = s.now := rfl
@[simp] theorem modObs_fresh : (s.modObs p f).fresh = s.fresh := rfl
@[simp] theorem modObs_regs : (s.modObs p f).regs = s.regs := rfl
@[simp] theorem modObs_fcp : (s.modObs p f).fcp = s.fcp := rfl
@[simp] theorem modObs_evq : (s.modObs p f).evq = s.evq := rfl
@[simp] theorem modObs_win : (s.modObs p f).win = s.win := rfl
@[simp] theorem modObs_cle : (s.modObs p f).cle = s.cle := rfl
@[simp] theorem modObs_ports : (s.modObs p f).ports = s.ports := rfl
@[simp] theorem modObs_pwm : (s.modObs p f).pwm = s.pwm := rfl
@[simp] theorem modObs_coef : (s.modObs p f).coef = s.coef := rfl
@[simp] theorem modObs_trace : (s.modObs p f).trace = s.trace := rfl
@[simp] theorem modObs_obs : (s.modObs p f).obs = vmod s.obs p f := rfl
@[simp] theorem modObs_adc : (s.modObs p f).adc = s.adc := rfl
@[simp] theorem modObs_sd : (s.modObs p f).sd = s.sd := rfl
@[simp] theorem modObs_gl : (s.modObs p f).gl = s.gl := rfl
@[simp] theorem modObs_pair : (s.modObs p f).pair = s.pair := rfl
@[simp] theorem modObs_stw : (s.modObs p f).stw = s.stw := rfl
@[simp] theorem modObs_hlp : (s.modObs p f).hlp = s.hlp := rfl
@[simp] theorem modObs_fio : (s.modObs p f).fio = s.fio := rfl
@[simp] theorem modObs_tb : (s.modObs p f).tb = s.tb := rfl
@[simp] theorem modObs_macs : (s.modObs p f).macs = s.macs := rfl
@[simp] theorem modObs_ptp : (s.modObs p f).ptp = s.ptp := rfl
@[simp] theorem modObs_cap : (s.modObs p f).cap = s.cap := rfl
@[simp] theorem modObs_recd : (s.modObs p f).recd = s.recd := rfl
@[simp] theorem modObs_clk : (s.modObs p f).clk = s.clk := rfl
@[simp] theorem modObs_spur : (s.modObs p f).spur = s.spur := rfl
@[simp] theorem modObs_tack : (s.modObs p f).tack = s.tack := rfl
@[simp] theorem modObs_boot : (s.modObs p f).boot = s.boot := rfl
@[simp] theorem modObs_fld (g : Fld) (j : Nat) : (s.modObs p f).fld g j = s.fld g j := rfl
@[simp] theorem modObs_flag (g : Fld) (j : Nat) : (s.modObs p f).flag g j = s.flag g j := rfl
@[simp] theorem modObs_reg (g : Reg) (j : Nat) : (s.modObs p f).reg g j = s.reg g j := rfl
end

section
variable (f : CoefSt → CoefSt)
@[simp] theorem modCoef_pending : (s.modCoef f).pending = s.pending := rfl
@[simp] theorem modCoef_now : (s.modCoef f).now = s.now := rfl
@[simp] theorem modCoef_fresh : (s.modCoef f).fresh = s.fresh := rfl
@[simp] theorem modCoef_regs : (s.modCoef f).regs = s.regs := rfl
@[simp] theorem modCoef_fcp : (s.modCoef f).fcp = s.fcp := rfl
@[simp] theorem modCoef_evq : (s.modCoef f).evq = s.evq := rfl
@[simp] theorem modCoef_win : (s.modCoef f).win = s.win := rfl
@[simp] theorem modCoef_cle : (s.modCoef f).cle = s.cle := rfl
@[simp] theorem modCoef_ports : (s.modCoef f).ports = s.ports := rfl
@[simp] theorem modCoef_pwm : (s.modCoef f).pwm = s.pwm := rfl
@[simp] theorem modCoef_coef : (s.modCoef f).coef = f s.coef := rfl
@[simp] theorem modCoef_trace : (s.modCoef f).trace = s.trace := rfl
@[simp] theorem modCoef_obs : (s.modCoef f).obs = s.obs := rfl
@[simp] theorem modCoef_adc : (s.modCoef f).adc = s.adc := rfl
@[simp] theorem modCoef_sd : (s.modCoef f).sd = s.sd := rfl
@[simp] theorem modCoef_gl : (s.modCoef f).gl = s.gl := rfl
@[simp] theorem modCoef_pair : (s.modCoef f).pair = s.pair := rfl
@[simp] theorem modCoef_stw : (s.modCoef f).stw = s.stw := rfl
@[simp] theorem modCoef_hlp : (s.modCoef f).hlp = s.hlp := rfl
@[simp] theorem modCoef_fio : (s.modCoef f).fio = s.fio := rfl
@[simp] theorem modCoef_tb : (s.modCoef f).tb = s.tb := rfl
@[simp] theorem modCoef_macs : (s.modCoef f).macs = s.macs := rfl
@[simp] theorem modCoef_ptp : (s.modCoef f).ptp = s.ptp := rfl
@[simp] theorem modCoef_cap : (s.modCoef f).cap = s.cap := rfl
@[simp] theorem modCoef_recd : (s.modCoef f).recd = s.recd := rfl
@[simp] theorem modCoef_clk : (s.modCoef f).clk = s.clk := rfl
@[simp] theorem modCoef_spur : (s.modCoef f).spur = s.spur := rfl
@[simp] theorem modCoef_tack : (s.modCoef f).tack = s.tack := rfl
@[simp] theorem modCoef_boot : (s.modCoef f).boot = s.boot := rfl
@[simp] theorem modCoef_fld (g : Fld) (j : Nat) : (s.modCoef f).fld g j = s.fld g j := rfl
@[simp] theorem modCoef_flag (g : Fld) (j : Nat) : (s.modCoef f).flag g j = s.flag g j := rfl
@[simp] theorem modCoef_reg (g : Reg) (j : Nat) : (s.modCoef f).reg g j = s.reg g j := rfl
end

section
variable (m : Nat) (f : MacSt → MacSt)
@[simp] theorem modMac_pending : (s.modMac m f).pending = s.pending := rfl
@[simp] theorem modMac_now : (s.modMac m f).now = s.now := rfl
@[simp] theorem modMac_fresh : (s.modMac m f).fresh = s.fresh := rfl
@[simp] theorem modMac_regs : (s.modMac m f).regs = s.regs := rfl
@[simp] theorem modMac_fcp : (s.modMac m f).fcp = s.fcp := rfl
@[simp] theorem modMac_evq : (s.modMac m f).evq = s.evq := rfl
@[simp] theorem modMac_win : (s.modMac m f).win = s.win := rfl
@[simp] theorem modMac_cle : (s.modMac m f).cle = s.cle := rfl
@[simp] theorem modMac_ports : (s.modMac m f).ports = s.ports := rfl
@[simp] theorem modMac_pwm : (s.modMac m f).pwm = s.pwm := rfl
@[simp] theorem modMac_coef : (s.modMac m f).coef = s.coef := rfl
@[simp] theorem modMac_trace : (s.modMac m f).trace = s.trace := rfl
@[simp] theorem modMac_obs : (s.modMac m f).obs = s.obs := rfl
@[simp] theorem modMac_adc : (s.modMac m f).adc = s.adc := rfl
@[simp] theorem modMac_sd : (s.modMac m f).sd = s.sd := rfl
@[simp] theorem modMac_gl : (s.modMac m f).gl = s.gl := rfl
@[simp] theorem modMac_pair : (s.modMac m f).pair = s.pair := rfl
@[simp] theorem modMac_stw : (s.modMac m f).stw = s.stw := rfl
@[simp] theorem modMac_hlp : (s.modMac m f).hlp = s.hlp := rfl
@[simp] theorem modMac_fio : (s.modMac m f).fio = s.fio := rfl
@[simp] theorem modMac_tb : (s.modMac m f).tb = s.tb := rfl
@[simp] theorem modMac_macs : (s.modMac m f).macs = vmod s.macs m f := rfl
@[simp] theorem modMac_ptp : (s.modMac m f).ptp = s.ptp := rfl
@[simp] theorem modMac_cap : (s.modMac m f).cap = s.cap := rfl
@[simp] theorem modMac_recd : (s.modMac m f).recd = s.recd := rfl
@[simp] theorem modMac_clk : (s.modMac m f).clk = s.clk := rfl
@[simp] theorem modMac_spur : (s.modMac m f).spur = s.spur := rfl
@[simp] theorem modMac_tack : (s.modMac m f).tack = s.tack := rfl
@[simp] theorem modMac_boot : (s.modMac m f).boot = s.boot := rfl
@[simp] theorem modMac_fld (g : Fld) (j : Nat) : (s.modMac m f).fld g j = s.fld g j := rfl
@[simp] theorem modMac_flag (g : Fld) (j : Nat) : (s.modMac m f).flag g j = s.flag g j := rfl
@[simp] theorem modMac_reg (g : Reg) (j : Nat) : (s.modMac m f).reg g j = s.reg g j := rfl
end

section
variable (f : PairSt → PairSt)
@[simp] theorem modPair_pending : (s.modPair f).pending = s.pending := rfl
@[simp] theorem modPair_now : (s.modPair f).now = s.now := rfl
@[simp] theorem modPair_fresh : (s.modPair f).fresh = s.fresh := rfl
@[simp] theorem modPair_regs : (s.modPair f).regs = s.regs := rfl
@[simp] theorem modPair_fcp : (s.modPair f).fcp = s.fcp := rfl
@[simp] theorem modPair_evq : (s.modPair f).evq = s.evq := rfl
@[simp] theorem modPair_win : (s.modPair f).win = s.win := rfl
@[simp] theorem modPair_cle : (s.modPair f).cle = s.cle := rfl
@[simp] theorem modPair_ports : (s.modPair f).ports = s.ports := rfl
@[simp] theorem modPair_pwm : (s.modPair f).pwm = s.pwm := rfl
@[simp] theorem modPair_coef : (s.modPair f).coef = s.coef := rfl
@[simp] theorem modPair_trace : (s.modPair f).trace = s.trace := rfl
@[simp] theorem modPair_obs : (s.modPair f).obs = s.obs := rfl
@[simp] theorem modPair_adc : (s.modPair f).adc = s.adc := rfl
@[simp] theorem modPair_sd : (s.modPair f).sd = s.sd := rfl
@[simp] theorem modPair_gl : (s.modPair f).gl = s.gl := rfl
@[simp] theorem modPair_pair : (s.modPair f).pair = f s.pair := rfl
@[simp] theorem modPair_stw : (s.modPair f).stw = s.stw := rfl
@[simp] theorem modPair_hlp : (s.modPair f).hlp = s.hlp := rfl
@[simp] theorem modPair_fio : (s.modPair f).fio = s.fio := rfl
@[simp] theorem modPair_tb : (s.modPair f).tb = s.tb := rfl
@[simp] theorem modPair_macs : (s.modPair f).macs = s.macs := rfl
@[simp] theorem modPair_ptp : (s.modPair f).ptp = s.ptp := rfl
@[simp] theorem modPair_cap : (s.modPair f).cap = s.cap := rfl
@[simp] theorem modPair_recd : (s.modPair f).recd = s.recd := rfl
@[simp] theorem modPair_clk : (s.modPair f).clk = s.clk := rfl
@[simp] theorem modPair_spur : (s.modPair f).spur = s.spur := rfl
@[simp] theorem modPair_tack : (s.modPair f).tack = s.tack := rfl
@[simp] theorem modPair_boot : (s.modPair f).boot = s.boot := rfl
@[simp] theorem modPair_fld (g : Fld) (j : Nat) : (s.modPair f).fld g j = s.fld g j := rfl
@[simp] theorem modPair_flag (g : Fld) (j : Nat) : (s.modPair f).flag g j = s.flag g j := rfl
@[simp] theorem modPair_reg (g : Reg) (j : Nat) : (s.modPair f).reg g j = s.reg g j := rfl
end

section
variable (p : Nat) (f : PathSt → PathSt)
@[simp] theorem modPath_pending : (s.modPath p f).pending = s.pending := rfl
@[simp] theorem modPath_now : (s.modPath p f).now = s.now := rfl
@[simp] theorem modPath_fresh : (s.modPath p f).fresh = s.fresh := rfl
@[simp] theorem modPath_regs : (s.modPath p f).regs = s.regs := rfl
@[simp] theorem modPath_fcp : (s.modPath p f).fcp = s.fcp := rfl
@[simp] theorem modPath_evq : (s.modPath p f).evq = s.evq := rfl
@[simp] theorem modPath_cle : (s.modPath p f).cle = s.cle := rfl
@[simp] theorem modPath_ports : (s.modPath p f).ports = s.ports := rfl
@[simp] theorem modPath_pwm : (s.modPath p f).pwm = s.pwm := rfl
@[simp] theorem modPath_coef : (s.modPath p f).coef = s.coef := rfl
@[simp] theorem modPath_trace : (s.modPath p f).trace = s.trace := rfl
@[simp] theorem modPath_obs : (s.modPath p f).obs = s.obs := rfl
@[simp] theorem modPath_adc : (s.modPath p f).adc = s.adc := rfl
@[simp] theorem modPath_sd : (s.modPath p f).sd = s.sd := rfl
@[simp] theorem modPath_gl : (s.modPath p f).gl = s.gl := rfl
@[simp] theorem modPath_pair : (s.modPath p f).pair = s.pair := rfl
@[simp] theorem modPath_stw : (s.modPath p f).stw = s.stw := rfl
@[simp] theorem modPath_hlp : (s.modPath p f).hlp = s.hlp := rfl
@[simp] theorem modPath_fio : (s.modPath p f).fio = s.fio := rfl
@[simp] theorem modPath_tb : (s.modPath p f).tb = s.tb := rfl
@[simp] theorem modPath_macs : (s.modPath p f).macs = s.macs := rfl
@[simp] theorem modPath_ptp : (s.modPath p f).ptp = s.ptp := rfl
@[simp] theorem modPath_cap : (s.modPath p f).cap = s.cap := rfl
@[simp] theorem modPath_recd : (s.modPath p f).recd = s.recd := rfl
@[simp] theorem modPath_clk : (s.modPath p f).clk = s.clk := rfl
@[simp] theorem modPath_spur : (s.modPath p f).spur = s.spur := rfl
@[simp] theorem modPath_tack : (s.modPath p f).tack = s.tack := rfl
@[simp] theorem modPath_boot : (s.modPath p f).boot = s.boot := rfl
@[simp] theorem modPath_fld (g : Fld) (j : Nat) : (s.modPath p f).fld g j = s.fld g j := rfl
@[simp] theorem modPath_flag (g : Fld) (j : Nat) : (s.modPath p f).flag g j = s.flag g j := rfl
@[simp] theorem modPath_reg (g : Reg) (j : Nat) : (s.modPath p f).reg g j = s.reg g j := rfl
end

end Sys2Proof.Machine.State
end

