-- ==== Sys2Proof/Laws/Reads.lean ====
section
/-!
SUPPORT. What reads give after the shared operations: fields after writes, events and completions; what a completion posts; what
an event queues.
-/
namespace Sys2Proof.Machine

variable {s : State}

/-! ### The register file stays canonical, and fields read as written -/

theorem State.Inv.canon (h : s.Inv) : s.Canon := h.regs

theorem canonAfterReg (h : s.Canon) (r : Reg) (i : Nat) (w : Word) : (s.setReg r i w).Canon := Memory.wf_set resetWord _ _ _ h

theorem canonAfterFld (h : s.Canon) (f : Fld) (i v : Nat) : (s.setFld f i v).Canon := Memory.wf_set resetWord _ _ _ h

theorem canonAfterFlag (h : s.Canon) (f : Fld) (i : Nat) (b : Bool) : (s.setFlag f i b).Canon := canonAfterFld h _ _ _

theorem canonAfterCount (h : s.Canon) (f : Fld) (i : Nat) : (s.count f i).Canon := canonAfterFld h _ _ _

theorem canonAfterCountN (h : s.Canon) (f : Fld) (i k : Nat) : (s.countN f i k).Canon := canonAfterFld h _ _ _

theorem canonAfterBump (h : s.Canon) : (s.bump).Canon := h

theorem canonAfterElapse (h : s.Canon) (d : Nat) : (s.elapse d).Canon := h

theorem canonAfterBox (h : s.Canon) (m : Nat) (f : Mailbox → Mailbox) : (s.box m f).Canon := h

theorem canonAfterStart (h : s.Canon) (tag : Nat) : (s.start tag).Canon := h

theorem canonAfterModPort (h : s.Canon) (p : Nat) (f : PortSt → PortSt) : (s.modPort p f).Canon := h

theorem canonAfterModLane (h : s.Canon) (l : Nat) (f : LaneSt → LaneSt) : (s.modLane l f).Canon := h

theorem canonAfterModBoot (h : s.Canon) (f : BootSt → BootSt) : (s.modBoot f).Canon := h

theorem canonAfterModClk (h : s.Canon) (f : ClkSt → ClkSt) : (s.modClk f).Canon := h

theorem canonAfterModTb (h : s.Canon) (b : Nat) (f : TimeBase → TimeBase) : (s.modTb b f).Canon := h

theorem canonAfterModPtp (h : s.Canon) (f : PtpSt → PtpSt) : (s.modPtp f).Canon := h

theorem canonAfterModStw (h : s.Canon) (f : StwSt → StwSt) : (s.modStw f).Canon := h

theorem canonAfterModCore (h : s.Canon) (c : Nat) (f : CoreSt → CoreSt) : (s.modCore c f).Canon := h

theorem canonAfterModSd (h : s.Canon) (k : Nat) (f : SdIn → SdIn) : (s.modSd k f).Canon := h

theorem canonAfterModLeg (h : s.Canon) (n : Nat) (f : LegSt → LegSt) : (s.modLeg n f).Canon := h

theorem canonAfterModPwm (h : s.Canon) (f : PwmSt → PwmSt) : (s.modPwm f).Canon := h

theorem canonAfterModTr (h : s.Canon) (c : Nat) (f : TraceCh → TraceCh) : (s.modTr c f).Canon := h

theorem canonAfterModCle (h : s.Canon) (f : CleSt → CleSt) : (s.modCle f).Canon := h

theorem canonAfterModCtx (h : s.Canon) (k : Nat) (f : CtxSt → CtxSt) : (s.modCtx k f).Canon := h

theorem canonAfterModCap (h : s.Canon) (f : CapSt → CapSt) : (s.modCap f).Canon := h

theorem canonAfterModHlp (h : s.Canon) (f : HlpSt → HlpSt) : (s.modHlp f).Canon := h

theorem canonAfterModObs (h : s.Canon) (p : Nat) (f : ObsSt → ObsSt) : (s.modObs p f).Canon := h

theorem canonAfterModCoef (h : s.Canon) (f : CoefSt → CoefSt) : (s.modCoef f).Canon := h

theorem canonAfterModMac (h : s.Canon) (m : Nat) (f : MacSt → MacSt) : (s.modMac m f).Canon := h

theorem canonAfterModPair (h : s.Canon) (f : PairSt → PairSt) : (s.modPair f).Canon := h

theorem canonAfterModPath (h : s.Canon) (p : Nat) (f : PathSt → PathSt) : (s.modPath p f).Canon := h

@[simp] theorem State.fld_setFlag_apart (hw : s.Canon) (f g : Fld) (i j : Nat) (b : Bool) (h : f.apart g = true) :
    (s.setFlag g j b).fld f i = s.fld f i := fld_setFld_apart hw f g i j _ h

@[simp] theorem State.fld_count_apart (hw : s.Canon) (f g : Fld) (i j : Nat) (h : f.apart g = true) :
    (s.count g j).fld f i = s.fld f i := fld_setFld_apart hw f g i j _ h

@[simp] theorem State.fld_countN_apart (hw : s.Canon) (f g : Fld) (i j k : Nat) (h : f.apart g = true) :
    (s.countN g j k).fld f i = s.fld f i := fld_setFld_apart hw f g i j _ h

@[simp] theorem State.flag_setFld_apart (hw : s.Canon) (f g : Fld) (i j v : Nat) (h : f.apart g = true) :
    (s.setFld g j v).flag f i = s.flag f i := by unfold State.flag; rw [fld_setFld_apart hw f g i j v h]

@[simp] theorem State.flag_setFlag_apart (hw : s.Canon) (f g : Fld) (i j : Nat) (b : Bool) (h : f.apart g = true) :
    (s.setFlag g j b).flag f i = s.flag f i := flag_setFld_apart hw f g i j _ h

@[simp] theorem State.flag_count_apart (hw : s.Canon) (f g : Fld) (i j : Nat) (h : f.apart g = true) :
    (s.count g j).flag f i = s.flag f i := flag_setFld_apart hw f g i j _ h

/-- A counter reads one more, or its maximum (R13). -/
@[simp] theorem State.fld_count_same (hw : s.Canon) (f : Fld) (i : Nat) (h : f.good = true) :
    (s.count f i).fld f i = satAdd (s.fld f i) 1 (2 ^ (f.hi + 1 - f.lo) - 1) := by
  unfold State.count State.countN
  rw [fld_setFld_same hw f i _ h, Nat.mod_eq_of_lt]
  have := Nat.two_pow_pos (f.hi + 1 - f.lo)
  unfold satAdd; split <;> omega

@[simp] theorem State.fld_countN_same (hw : s.Canon) (f : Fld) (i k : Nat) (h : f.good = true) :
    (s.countN f i k).fld f i = satAdd (s.fld f i) k (2 ^ (f.hi + 1 - f.lo) - 1) := by
  unfold State.countN
  rw [fld_setFld_same hw f i _ h, Nat.mod_eq_of_lt]
  have := Nat.two_pow_pos (f.hi + 1 - f.lo)
  unfold satAdd; split <;> omega

@[simp] theorem State.reg_setReg_same (hw : s.Canon) (r : Reg) (i : Nat) (w : Word) : (s.setReg r i w).reg r i = w := by
  unfold State.reg State.setReg
  simp only
  rw [Memory.get_set_same resetWord _ _ _ hw]

/-- A register of another offset reads as before. -/
@[simp] theorem State.reg_setReg_apart (hw : s.Canon) (r r' : Reg) (i j : Nat) (w : Word)
    (h : (r.off != r'.off && decide (r.off < 65536) && decide (r'.off < 65536)) = true) : (s.setReg r' j w).reg r i = s.reg r i := by
  simp only [Bool.and_eq_true, decide_eq_true_eq, bne_iff_ne, ne_eq] at h
  unfold State.reg State.setReg
  simp only
  rw [Memory.get_set_other resetWord _ _ _ _ hw (regKey_ne h.1.2 h.2 h.1.1)]

@[simp] theorem State.reg_setFld_apart (hw : s.Canon) (r : Reg) (g : Fld) (i j v : Nat)
    (h : (r.off != g.off && decide (r.off < 65536) && decide (g.off < 65536)) = true) : (s.setFld g j v).reg r i = s.reg r i := by
  simp only [Bool.and_eq_true, decide_eq_true_eq, bne_iff_ne, ne_eq] at h
  unfold State.reg State.setFld
  simp only
  rw [Memory.get_set_other resetWord _ _ _ _ hw (regKey_ne h.1.2 h.2 h.1.1)]

@[simp] theorem State.fld_setReg_apart (hw : s.Canon) (f : Fld) (r : Reg) (i j : Nat) (w : Word)
    (h : (f.off != r.off && decide (f.off < 65536) && decide (r.off < 65536)) = true) : (s.setReg r j w).fld f i = s.fld f i := by
  simp only [Bool.and_eq_true, decide_eq_true_eq, bne_iff_ne, ne_eq] at h
  unfold State.fld State.setReg
  simp only
  rw [Memory.get_set_other resetWord _ _ _ _ hw (regKey_ne h.1.2 h.2 h.1.1)]

/-! ### Completions -/

theorem slice_append_right (a b : List Byte) (o n : Nat) (h : a.length ≤ o) : slice (a ++ b) o n = slice b (o - a.length) n := by
  unfold slice
  refine List.map_congr_left fun i _ => ?_
  simp only [List.getD_eq_getElem?_getD]
  rw [List.getElem?_append_right (by omega), show o + i - a.length = o - a.length + i by omega]

theorem slice_append_left (a b : List Byte) (n : Nat) (h : n ≤ a.length) : slice (a ++ b) 0 n = slice a 0 n := by
  unfold slice
  refine List.map_congr_left fun i hi => ?_
  have := List.mem_range.mp hi
  simp only [List.getD_eq_getElem?_getD, Nat.zero_add]
  rw [List.getElem?_append_left (by omega)]

theorem slice_length (l : List Byte) (o n : Nat) : (slice l o n).length = n := by simp [slice]

theorem slice_slice (l : List Byte) (o n : Nat) : slice (slice l o n) 0 n = slice l o n := by
  have : ∀ a : List Byte, a.length = n → slice a 0 n = a := by
    intro a ha
    refine List.ext_getElem (by simp [slice, ha]) fun i h1 h2 => ?_
    simp [slice, List.getD_eq_getElem?_getD, h2]
  exact this _ (slice_length l o n)

theorem leBytes_length (n v : Nat) : (leBytes n v).length = n := by
  induction n generalizing v with
  | zero => rfl
  | succ n ih => rw [leBytes, List.length_cons, ih]

theorem header_status (op tag status pnum time epoch : Nat) (res pay : List Byte) (h : status < 65536) :
    leAt (completionHeader op tag status pnum time epoch res pay) 6 2 = status := by
  unfold leAt completionHeader
  simp only [leBytes, slice, List.cons_append, List.nil_append, List.append_assoc, List.range, List.range.loop, List.map_cons,
    List.map_nil, List.getD_eq_getElem?_getD, List.getElem?_cons_succ, List.getElem?_cons_zero, Option.getD_some, leNat,
    BitVec.toNat_ofNat, Nat.add_zero, Nat.reduceAdd]
  omega

theorem header_result (op tag status pnum time epoch : Nat) (res pay : List Byte) :
    slice (completionHeader op tag status pnum time epoch res pay) 32 28 = slice res 0 28 := by
  unfold completionHeader
  simp only
  rw [List.append_assoc, slice_append_right]
  · have e : ∀ n : Nat, 32 - n = 0 → n = 32 → slice (slice res 0 28 ++ leBytes 4
        (crc32c (leBytes 2 op ++ leBytes 1 tag ++ [0#8] ++ leBytes 2 pay.length ++ leBytes 2 status ++ leBytes 8 pnum
          ++ timeBytes time ++ leBytes 2 epoch ++ slice res 0 28 ++ pay)).toNat) (32 - n) 28 = slice res 0 28 := by
      intro n h1 _
      rw [h1, slice_append_left _ _ _ (by rw [slice_length]), slice_slice]
    simpa [leBytes_length, timeBytes] using e 32 rfl rfl
  · simp [leBytes_length, timeBytes]

theorem ready_found {op tag : Nat} {e : Entry} (h : s.ready op tag = some e) :
    s.svpRuns = true ∧ s.fcp.inflight.find? (fun x => x.tag == tag) = some e ∧ e.tag = tag ∧ e.op = op ∧ e.started = false := by
  unfold State.ready at h
  split at h
  · cases h
  · split at h
    · cases h
    · split at h
      · rename_i h1 _ e' h2 h3
        cases h
        simp only [Bool.and_eq_true, beq_iff_eq, Bool.not_eq_true'] at h3
        have := List.find?_some h2
        simp only [beq_iff_eq] at this
        exact ⟨by simpa using h1, h2, this, h3.1.1, h3.1.2⟩
      · cases h

/-- A message that leaves on a mailbox changes what was sent and what waits on the ordinary path, and nothing else. -/
theorem State.emit_eq (m : Nat) (msg : List Byte) :
    s.emit m msg = { s with fcp := (s.emit m msg).fcp, macs := (s.emit m msg).macs } := by
  unfold State.emit; split <;> rfl

theorem State.emit_posted (m k : Nat) (msg : List Byte) : (vget (s.emit m msg).fcp.boxes k).posted = (vget s.fcp.boxes k).posted := by
  unfold State.emit State.ordinary State.box
  split <;> (simp only [vget_vmod]; split <;> rfl)

theorem State.emit_inflight (m : Nat) (msg : List Byte) : (s.emit m msg).fcp.inflight = s.fcp.inflight := by
  unfold State.emit; split <;> rfl

/-- A completion posted stays while later ones follow. -/
theorem settle_keeps (n : Nat) {t : State} {m : Nat} {p : Posted} (h : p ∈ (vget t.fcp.boxes m).posted) :
    p ∈ (vget (State.settle n t).fcp.boxes m).posted := by
  induction n generalizing t with
  | zero => exact h
  | succ n ih =>
    rw [State.settle]; split
    · exact h
    · refine ih ?_
      unfold State.completeEntry State.place
      simp only
      split
      · simp only [State.box, vget_vmod]; split
        · exact List.mem_append_left _ h
        · exact h
      · rw [State.emit_posted]
        simp only [State.box, vget_vmod]
        split
        · exact List.mem_append_left _ h
        · exact h

theorem settle_inflight (n : Nat) {t : State} {e : Entry} (h : e ∈ (State.settle n t).fcp.inflight) : e ∈ t.fcp.inflight := by
  induction n generalizing t with
  | zero => exact h
  | succ n ih =>
    rw [State.settle] at h; split at h
    · exact h
    · have := ih h
      rw [completeEntry_inflight] at this
      exact (List.mem_filter.mp this).1

/-- The command with a tag, found by it: no two commands in flight share one (R374). -/
theorem State.Inv.find_tag (hi : s.Inv) {e : Entry} (hm : e ∈ s.fcp.inflight) : s.fcp.inflight.find? (fun x => x.tag == e.tag) = some e := by
  have hn := hi.rings.1
  generalize s.fcp.inflight = l at hm hn
  induction l with
  | nil => cases hm
  | cons a l ih =>
    rw [List.map_cons, List.nodup_cons] at hn
    rcases List.mem_cons.mp hm with rfl | hm
    · simp
    · have : a.tag ≠ e.tag := fun h => hn.1 (h ▸ List.mem_map_of_mem hm)
      rw [List.find?_cons_of_neg (by simp [this])]
      exact ih hm hn.2

/-- What completing a command in flight leaves (R375, R378). -/
theorem State.complete_held (hi : s.Inv) {tag : Fin 128} {e : Entry} (hm : e ∈ s.fcp.inflight)
    (h3 : e.tag = tag.val) {t : State} (hf : t.fcp = s.fcp) (hr : t.svpRuns = true) (status pnum : Nat) (res pay : List Byte) (hs : status < 65536) :
    (t.complete tag.val status pnum res pay).Answered tag status res pay := by
  simp only [State.svpRuns, Bool.and_eq_true, Option.isNone_iff_eq_none] at hr
  have h2 : s.fcp.inflight.find? (fun x => x.tag == tag.val) = some e := h3 ▸ hi.find_tag hm
  have hb : e.mb = tag.val / 16 := by rw [← hi.rings.2.1 e hm, h3]
  have h8 : tag.val / 16 < 8 := by omega
  unfold State.complete
  rw [show t.fcp.inflight = s.fcp.inflight by rw [hf], h2]
  simp only [hr.1, hr.2, Option.isSome_none, Bool.not_true, Bool.false_eq_true, if_false]
  refine ⟨?_, fun x hx => ?_⟩
  · refine ⟨⟨tag.val, (vget s.fcp.boxes e.mb).tail, completionHeader e.op e.tag status pnum (vget t.tb 1).ticks (t.fld F.FCP_EPOCH_ALL 0) res pay,
      pay⟩, settle_keeps _ ?_, rfl, header_status _ _ _ _ _ _ _ _ hs, header_result _ _ _ _ _ _ _ _, rfl⟩
    unfold State.completeEntry State.place
    simp only
    split
    · simp only [State.box, vget_vmod, hf, hb, h8, and_self, if_true, h3]
      exact List.mem_append_right _ (List.mem_singleton.mpr rfl)
    · rw [State.emit_posted]
      simp only [State.box, vget_vmod, hf, hb, h8, and_self, if_true, h3]
      exact List.mem_append_right _ (List.mem_singleton.mpr rfl)
  · have := settle_inflight _ hx
    rw [completeEntry_inflight] at this
    simpa [h3] using (List.mem_filter.mp this).2

/-- What completing the command with this tag leaves (R375, R378). -/
theorem State.complete_answered (hi : s.Inv) {op : Nat} {tag : Fin 128} {e : Entry} (hr : s.ready op tag.val = some e) {t : State}
    (hf : t.fcp = s.fcp) (hv : t.svpRuns = true) (status pnum : Nat) (res pay : List Byte) (hs : status < 65536) :
    (t.complete tag.val status pnum res pay).Answered tag status res pay := by
  obtain ⟨-, h2, h3, -, -⟩ := ready_found hr
  exact State.complete_held hi (List.mem_of_find?_eq_some h2) h3 hf hv _ _ _ _ hs

/-- A completion touches nothing but the mailboxes, and what waits on the ordinary paths of the MACs. -/
theorem completeEntry_eq (e : Entry) (status pnum : Nat) (res pay : List Byte) :
    s.completeEntry e status pnum res pay =
      { s with fcp := (s.completeEntry e status pnum res pay).fcp, macs := (s.completeEntry e status pnum res pay).macs } := by
  unfold State.completeEntry State.place
  simp only
  split
  · rfl
  · rw [State.emit_eq]; rfl

theorem settle_eq (n : Nat) : State.settle n s = { s with fcp := (State.settle n s).fcp, macs := (State.settle n s).macs } := by
  induction n generalizing s with
  | zero => rfl
  | succ n ih =>
    rw [State.settle]; split
    · rfl
    · rw [ih, completeEntry_eq]

theorem State.complete_eq (tag status pnum : Nat) (res pay : List Byte) :
    s.complete tag status pnum res pay =
      { s with fcp := (s.complete tag status pnum res pay).fcp, macs := (s.complete tag status pnum res pay).macs } := by
  unfold State.complete
  split
  · rfl
  · split
    · rfl
    · split
      · rfl
      · rw [settle_eq, completeEntry_eq]

section
variable (tag status pnum : Nat) (res pay : List Byte)
@[simp] theorem State.complete_pending : (s.complete tag status pnum res pay).pending = s.pending := by rw [complete_eq]
@[simp] theorem State.complete_now : (s.complete tag status pnum res pay).now = s.now := by rw [complete_eq]
@[simp] theorem State.complete_fresh : (s.complete tag status pnum res pay).fresh = s.fresh := by rw [complete_eq]
@[simp] theorem State.complete_regs : (s.complete tag status pnum res pay).regs = s.regs := by rw [complete_eq]
@[simp] theorem State.complete_evq : (s.complete tag status pnum res pay).evq = s.evq := by rw [complete_eq]
@[simp] theorem State.complete_win : (s.complete tag status pnum res pay).win = s.win := by rw [complete_eq]
@[simp] theorem State.complete_cle : (s.complete tag status pnum res pay).cle = s.cle := by rw [complete_eq]
@[simp] theorem State.complete_ports : (s.complete tag status pnum res pay).ports = s.ports := by rw [complete_eq]
@[simp] theorem State.complete_pwm : (s.complete tag status pnum res pay).pwm = s.pwm := by rw [complete_eq]
@[simp] theorem State.complete_coef : (s.complete tag status pnum res pay).coef = s.coef := by rw [complete_eq]
@[simp] theorem State.complete_trace : (s.complete tag status pnum res pay).trace = s.trace := by rw [complete_eq]
@[simp] theorem State.complete_obs : (s.complete tag status pnum res pay).obs = s.obs := by rw [complete_eq]
@[simp] theorem State.complete_adc : (s.complete tag status pnum res pay).adc = s.adc := by rw [complete_eq]
@[simp] theorem State.complete_sd : (s.complete tag status pnum res pay).sd = s.sd := by rw [complete_eq]
@[simp] theorem State.complete_gl : (s.complete tag status pnum res pay).gl = s.gl := by rw [complete_eq]
@[simp] theorem State.complete_pair : (s.complete tag status pnum res pay).pair = s.pair := by rw [complete_eq]
@[simp] theorem State.complete_stw : (s.complete tag status pnum res pay).stw = s.stw := by rw [complete_eq]
@[simp] theorem State.complete_hlp : (s.complete tag status pnum res pay).hlp = s.hlp := by rw [complete_eq]
@[simp] theorem State.complete_fio : (s.complete tag status pnum res pay).fio = s.fio := by rw [complete_eq]
@[simp] theorem State.complete_tb : (s.complete tag status pnum res pay).tb = s.tb := by rw [complete_eq]
@[simp] theorem State.complete_ptp : (s.complete tag status pnum res pay).ptp = s.ptp := by rw [complete_eq]
@[simp] theorem State.complete_cap : (s.complete tag status pnum res pay).cap = s.cap := by rw [complete_eq]
@[simp] theorem State.complete_recd : (s.complete tag status pnum res pay).recd = s.recd := by rw [complete_eq]
@[simp] theorem State.complete_clk : (s.complete tag status pnum res pay).clk = s.clk := by rw [complete_eq]
@[simp] theorem State.complete_spur : (s.complete tag status pnum res pay).spur = s.spur := by rw [complete_eq]
@[simp] theorem State.complete_tack : (s.complete tag status pnum res pay).tack = s.tack := by rw [complete_eq]
@[simp] theorem State.complete_boot : (s.complete tag status pnum res pay).boot = s.boot := by rw [complete_eq]
@[simp] theorem State.done_pending : (s.done tag status).pending = s.pending := complete_pending _ _ _ _ _
@[simp] theorem State.done_now : (s.done tag status).now = s.now := complete_now _ _ _ _ _
@[simp] theorem State.done_fresh : (s.done tag status).fresh = s.fresh := complete_fresh _ _ _ _ _
@[simp] theorem State.done_regs : (s.done tag status).regs = s.regs := complete_regs _ _ _ _ _
@[simp] theorem State.done_evq : (s.done tag status).evq = s.evq := complete_evq _ _ _ _ _
@[simp] theorem State.done_win : (s.done tag status).win = s.win := complete_win _ _ _ _ _
@[simp] theorem State.done_cle : (s.done tag status).cle = s.cle := complete_cle _ _ _ _ _
@[simp] theorem State.done_ports : (s.done tag status).ports = s.ports := complete_ports _ _ _ _ _
@[simp] theorem State.done_pwm : (s.done tag status).pwm = s.pwm := complete_pwm _ _ _ _ _
@[simp] theorem State.done_coef : (s.done tag status).coef = s.coef := complete_coef _ _ _ _ _
@[simp] theorem State.done_trace : (s.done tag status).trace = s.trace := complete_trace _ _ _ _ _
@[simp] theorem State.done_obs : (s.done tag status).obs = s.obs := complete_obs _ _ _ _ _
@[simp] theorem State.done_adc : (s.done tag status).adc = s.adc := complete_adc _ _ _ _ _
@[simp] theorem State.done_sd : (s.done tag status).sd = s.sd := complete_sd _ _ _ _ _
@[simp] theorem State.done_gl : (s.done tag status).gl = s.gl := complete_gl _ _ _ _ _
@[simp] theorem State.done_pair : (s.done tag status).pair = s.pair := complete_pair _ _ _ _ _
@[simp] theorem State.done_stw : (s.done tag status).stw = s.stw := complete_stw _ _ _ _ _
@[simp] theorem State.done_hlp : (s.done tag status).hlp = s.hlp := complete_hlp _ _ _ _ _
@[simp] theorem State.done_fio : (s.done tag status).fio = s.fio := complete_fio _ _ _ _ _
@[simp] theorem State.done_tb : (s.done tag status).tb = s.tb := complete_tb _ _ _ _ _
@[simp] theorem State.done_ptp : (s.done tag status).ptp = s.ptp := complete_ptp _ _ _ _ _
@[simp] theorem State.done_cap : (s.done tag status).cap = s.cap := complete_cap _ _ _ _ _
@[simp] theorem State.done_recd : (s.done tag status).recd = s.recd := complete_recd _ _ _ _ _
@[simp] theorem State.done_clk : (s.done tag status).clk = s.clk := complete_clk _ _ _ _ _
@[simp] theorem State.done_spur : (s.done tag status).spur = s.spur := complete_spur _ _ _ _ _
@[simp] theorem State.done_tack : (s.done tag status).tack = s.tack := complete_tack _ _ _ _ _
@[simp] theorem State.done_boot : (s.done tag status).boot = s.boot := complete_boot _ _ _ _ _
@[simp] theorem State.complete_fld (g : Fld) (j : Nat) : (s.complete tag status pnum res pay).fld g j = s.fld g j := by unfold State.fld; rw [complete_regs]
@[simp] theorem State.complete_flag (g : Fld) (j : Nat) : (s.complete tag status pnum res pay).flag g j = s.flag g j := by unfold State.flag State.fld; rw [complete_regs]
@[simp] theorem State.complete_reg (g : Reg) (j : Nat) : (s.complete tag status pnum res pay).reg g j = s.reg g j := by unfold State.reg; rw [complete_regs]
@[simp] theorem State.done_fld (g : Fld) (j : Nat) : (s.done tag status).fld g j = s.fld g j := by unfold State.fld; rw [done_regs]
@[simp] theorem State.done_flag (g : Fld) (j : Nat) : (s.done tag status).flag g j = s.flag g j := by unfold State.flag State.fld; rw [done_regs]
@[simp] theorem State.done_reg (g : Reg) (j : Nat) : (s.done tag status).reg g j = s.reg g j := by unfold State.reg; rw [done_regs]
theorem State.doneAt_eq : s.doneAt tag status = s.complete tag status s.pnumOut [] [] := rfl
end

theorem canonAfterComplete (h : s.Canon) (tag status pnum : Nat) (res pay : List Byte) : (s.complete tag status pnum res pay).Canon := by
  unfold State.Canon at *; rw [State.complete_regs]; exact h

theorem canonAfterDone (h : s.Canon) (tag status : Nat) : (s.done tag status).Canon := canonAfterComplete h _ _ _ _ _

/-- A command Fencen serves. -/
theorem serve_eq {op : Nat} {tag : Fin 128} {e : Entry} (h : s.Serves op tag e) (k : Entry → State) : serve op tag.val s k = .next (k e) := by
  unfold serve; rw [h.2.1]; simp only [h.2.2]

theorem State.Serves.tag_eq {op : Nat} {tag : Fin 128} {e : Entry} (h : s.Serves op tag e) : e.tag = tag.val := (ready_found h.2.1).2.2.1

theorem waiting_found {op tag : Nat} {e : Entry} (h : s.waiting op tag = some e) :
    s.fcp.restartSlot = none ∧ e ∈ s.fcp.inflight ∧ e.tag = tag ∧ e.op = op ∧ e.started = true := by
  unfold State.waiting at h
  split at h
  · cases h
  · rename_i h1
    have := List.find?_some h
    simp only [Bool.and_eq_true, beq_iff_eq] at this
    exact ⟨by simpa using h1, List.mem_of_find?_eq_some h, this.1.1, this.1.2, this.2⟩

theorem State.Due.tag_eq {op : Nat} {tag : Fin 128} {e : Entry} (h : s.Due op tag e) : e.tag = tag.val := (waiting_found h.2.2).2.2.1

theorem State.Due.mem {op : Nat} {tag : Fin 128} {e : Entry} (h : s.Due op tag e) : e ∈ s.fcp.inflight := (waiting_found h.2.2).2.1

/-- Fencen serves where a command is due. -/
theorem State.Due.runs {op : Nat} {tag : Fin 128} {e : Entry} (h : s.Due op tag e) : s.svpRuns = true := by
  simp [State.svpRuns, h.2.1, (waiting_found h.2.2).1]

/-- Completing a command that waits. -/
theorem State.Due.answered {op : Nat} {tag : Fin 128} {e : Entry} (h : s.Due op tag e) {t : State} (hf : t.fcp = s.fcp) (hv : t.svpRuns = true)
    (status pnum : Nat) (res pay : List Byte) (hs : status < 65536) :
    (t.complete tag.val status pnum res pay).Answered tag status res pay := State.complete_held h.1 h.mem h.tag_eq hf hv _ _ _ _ hs

/-- The command taken waits in flight. -/
theorem State.start_waits {op : Nat} {tag : Fin 128} {e : Entry} (hr : s.ready op tag.val = some e) {t : State} (hf : t.fcp = s.fcp)
    (hn : t.now = s.now) (hb : t.pwm.bnd = s.pwm.bnd) : s.Waits (t.start tag.val) tag := by
  obtain ⟨-, h2, h3, -, -⟩ := ready_found hr
  have hm := List.mem_of_find?_eq_some h2
  refine ⟨{ e with started := true, at0 := t.now, b0 := t.pwm.bnd }, ?_, h3, rfl, hn, hb⟩
  unfold State.start
  simp only [hf]
  exact List.mem_map.mpr ⟨e, hm, by simp [h3]⟩

/-! ### Triggers of trace channels (R122) -/

/-- What each unit in turn keeps, all of them keep. -/
theorem forUnits_keeps {P : State → Prop} {n : Nat} {f : State → Nat → State} (h0 : P s) (h : ∀ t i, i < n → P t → P (f t i)) :
    P (s.forUnits n f) := by
  unfold State.forUnits
  have : ∀ l : List Nat, (∀ i ∈ l, i < n) → ∀ t, P t → P (l.foldl f t) := by
    intro l
    induction l with
    | nil => intro _ t ht; exact ht
    | cons a l ih =>
      intro hl t ht
      exact ih (fun i hi => hl i (List.mem_cons_of_mem _ hi)) _ (h t a (hl a List.mem_cons_self) ht)
  exact this _ (fun i hi => List.mem_range.mp hi) s h0

/-- What the trigger of each channel keeps, firing keeps. -/
theorem trFire_keeps {P : State → Prop} (src : Nat) (ok : Nat → Bool) (h0 : P s)
    (h : ∀ t c, c < 8 → P t → P ((t.setFld F.TRACE_CTL_STATE c 2).modTr c fun x => { x with trigAt := some x.total })) :
    P (s.trFire src ok) := by
  unfold State.trFire
  refine forUnits_keeps h0 fun t c hc ht => ?_
  split
  · unfold State.trTrigger
    split
    · have := h t c hc ht
      exact this
    · exact ht
  · exact ht

/-- Firing changes the channels and their registers, and nothing else. -/
theorem State.trFire_eq (src : Nat) (ok : Nat → Bool) :
    s.trFire src ok = { s with regs := (s.trFire src ok).regs, trace := (s.trFire src ok).trace } :=
  trFire_keeps (P := fun t => t = { s with regs := t.regs, trace := t.trace }) src ok rfl fun t c _ ht => by rw [ht]; rfl

theorem canonAfterTrFire (h : s.Canon) (src : Nat) (ok : Nat → Bool) : (s.trFire src ok).Canon :=
  trFire_keeps src ok h fun t c _ ht => canonAfterFld (s := t) ht _ _ _

theorem State.fld_trFire (hw : s.Canon) (f : Fld) (i src : Nat) (ok : Nat → Bool) (h : f.apart F.TRACE_CTL_STATE = true) :
    (s.trFire src ok).fld f i = s.fld f i :=
  (trFire_keeps (P := fun t => t.Canon ∧ t.fld f i = s.fld f i) src ok ⟨hw, rfl⟩ fun t c _ ht =>
    ⟨canonAfterFld (s := t) ht.1 _ _ _, (fld_setFld_apart ht.1 _ _ _ _ _ h).trans ht.2⟩).2

/-! ### Register bits that stay -/

theorem State.RegsBut.refl (s : State) (l : List (Fld × Nat)) : State.RegsBut s s l := fun _ _ _ => rfl

/-- A field whose bits are outside the fields listed reads as before. -/
theorem State.RegsBut.fld {s t : State} {l : List (Fld × Nat)} (h : State.RegsBut s t l) (f : Fld) (i : Nat)
    (ha : l.all (fun x => f.apart x.1) = true) : t.fld f i = s.fld f i := by
  unfold State.fld fieldOf
  apply Nat.eq_of_testBit_eq
  intro n
  simp only [Nat.testBit_mod_two_pow, Nat.testBit_shiftRight]
  by_cases hn : n < f.hi + 1 - f.lo
  · simp only [hn, decide_true, Bool.true_and]
    refine h _ _ fun x hx hk => ?_
    have hp := List.all_eq_true.mp ha x hx
    simp only [Fld.apart, Fld.good, Bool.and_eq_true, decide_eq_true_eq, Bool.or_eq_true, bne_iff_ne, ne_eq] at hp
    unfold regKey at hk
    omega
  · simp [hn]

theorem State.RegsBut.flag {s t : State} {l : List (Fld × Nat)} (h : State.RegsBut s t l) (f : Fld) (i : Nat)
    (ha : l.all (fun x => f.apart x.1) = true) : t.flag f i = s.flag f i := by unfold State.flag; rw [h.fld f i ha]

theorem State.RegsBut.same {s t u : State} {l : List (Fld × Nat)} (h : State.RegsBut s t l) (e : u.regs = t.regs) : State.RegsBut s u l := by
  unfold State.RegsBut; rw [e]; exact h

theorem State.RegsBut.setFld {s t : State} {l : List (Fld × Nat)} (h : State.RegsBut s t l) (hw : t.Canon) (f : Fld) (i v : Nat)
    (hm : (f, i) ∈ l) (hf : f.good = true) : State.RegsBut s (t.setFld f i v) l := by
  intro k b hb
  rw [← h k b hb]
  simp only [Fld.good, Bool.and_eq_true, decide_eq_true_eq] at hf
  unfold State.setFld
  simp only
  by_cases hk : k = regKey f.cls i f.off
  · subst hk
    rw [Memory.get_set_same resetWord _ _ _ hw, ← BitVec.testBit_toNat, ← BitVec.testBit_toNat, putField_testBit _ _ _ _ _ hf.1.1 hf.1.2]
    rcases hb _ hm rfl with h1 | h1
    · rw [if_pos h1]
    · have h2 : f.hi < b := h1
      rw [if_neg (by omega), if_neg (by omega)]
  · rw [Memory.get_set_other resetWord _ _ _ _ hw hk]

theorem State.RegsBut.setFlag {s t : State} {l : List (Fld × Nat)} (h : State.RegsBut s t l) (hw : t.Canon) (f : Fld) (i : Nat) (b : Bool)
    (hm : (f, i) ∈ l) (hf : f.good = true) : State.RegsBut s (t.setFlag f i b) l := h.setFld hw f i _ hm hf

theorem State.RegsBut.countN {s t : State} {l : List (Fld × Nat)} (h : State.RegsBut s t l) (hw : t.Canon) (f : Fld) (i k : Nat)
    (hm : (f, i) ∈ l) (hf : f.good = true) : State.RegsBut s (t.countN f i k) l := h.setFld hw f i _ hm hf

theorem State.RegsBut.count {s t : State} {l : List (Fld × Nat)} (h : State.RegsBut s t l) (hw : t.Canon) (f : Fld) (i : Nat)
    (hm : (f, i) ∈ l) (hf : f.good = true) : State.RegsBut s (t.count f i) l := h.setFld hw f i _ hm hf

theorem State.RegsBut.setReg {s t : State} {l : List (Fld × Nat)} (h : State.RegsBut s t l) (hw : t.Canon) (r : Reg) (i : Nat) (w : Word)
    (hm : (⟨r.cls, r.off, 31, 0⟩, i) ∈ l) : State.RegsBut s (t.setReg r i w) l := by
  intro k b hb
  rw [← h k b hb]
  unfold State.setReg
  simp only
  by_cases hk : k = regKey r.cls i r.off
  · subst hk
    rcases hb _ hm rfl with h1 | h1
    · exact absurd h1 (Nat.not_lt_zero _)
    · rw [BitVec.getLsbD_of_ge _ _ h1, BitVec.getLsbD_of_ge _ _ h1]
  · rw [Memory.get_set_other resetWord _ _ _ _ hw hk]

/-! ### Events -/

/-- The event is queued with k later ones behind it. -/
def Recent (k : Nat) (r : EvRec) (t : State) : Prop := ∃ l m, t.evq.queue = l ++ r :: m ∧ m.length = k

theorem post_queue (code unit data : Nat) : (s.post code unit data).evq.queue =
    (if s.evq.queue.length ≥ 64 then s.evq.queue.drop 1 else s.evq.queue) ++ [{
      num := s.evq.next, code := code, unit := unit, flags := (if s.notActive then 2 else 0) + b2n (islandEvent code)
      sec := (vget s.tb 1).sec % 2 ^ 32, ns := (vget s.tb 1).ns, pnum := s.pnumOut % 2 ^ 32, data := data % 2 ^ 64 }] := by
  unfold State.post State.postAs State.cond
  simp only
  rw [State.trFire_eq]
  split <;> split <;> simp_all <;> rfl

theorem post_next (code unit data : Nat) : (s.post code unit data).evq.next = s.evq.next + 1 := by
  unfold State.post State.postAs State.cond
  simp only
  rw [State.trFire_eq]
  split <;> split <;> rfl

theorem Recent.post {k : Nat} {r : EvRec} (h : Recent k r s) (hk : k < 63) (code unit data : Nat) : Recent (k + 1) r (s.post code unit data) := by
  obtain ⟨l, m, e, hm⟩ := h
  rw [Recent, post_queue]
  simp only [e]
  generalize EvRec.mk _ _ _ _ _ _ _ _ = y
  split
  · rename_i hl
    cases l with
    | nil => simp only [List.nil_append, List.length_cons] at hl; omega
    | cons x l => exact ⟨l, m ++ [y], by simp, by simp [hm]⟩
  · exact ⟨l, m ++ [y], by simp, by simp [hm]⟩

/-- The event posted last. -/
theorem post_recent (code unit data : Nat) : ∃ r, Recent 0 r (s.post code unit data) ∧ r.num = s.evq.next ∧ r.code = code ∧ r.unit = unit ∧
    r.data = data % 2 ^ 64 := ⟨_, ⟨_, [], post_queue code unit data, rfl⟩, rfl, rfl, rfl, rfl⟩

theorem Recent.told {k : Nat} {r : EvRec} {s0 t : State} {code unit data : Nat} (h : Recent k r t)
    (hr : s0.evq.next ≤ r.num ∧ r.code = code ∧ r.unit = unit ∧ r.data = data % 2 ^ 64) : State.Told s0 t code unit data := by
  obtain ⟨l, m, e, -⟩ := h
  exact ⟨r, by rw [e]; simp, hr⟩

/-- A posted event is told. -/
theorem State.post_told {s0 : State} (h : s0.evq.next ≤ s.evq.next) (code unit data : Nat) :
    State.Told s0 (s.post code unit data) code unit data := by
  obtain ⟨r, h1, h2, h3⟩ := post_recent (s := s) code unit data
  exact h1.told ⟨h2 ▸ h, h3⟩

/-- Posting changes the queue, the recorder, the trace channels, and the registers of the queue and the channels. -/
theorem State.post_eq (code unit data : Nat) : s.post code unit data =
    { s with regs := (s.post code unit data).regs, evq := (s.post code unit data).evq, trace := (s.post code unit data).trace
             recd := (s.post code unit data).recd } := by
  unfold State.post State.postAs State.cond
  simp only
  rw [State.trFire_eq]
  split <;> split <;> rfl

section
variable (code unit data : Nat)
@[simp] theorem State.post_pending : (s.post code unit data).pending = s.pending := by rw [post_eq]
@[simp] theorem State.post_now : (s.post code unit data).now = s.now := by rw [post_eq]
@[simp] theorem State.post_fresh : (s.post code unit data).fresh = s.fresh := by rw [post_eq]
@[simp] theorem State.post_win : (s.post code unit data).win = s.win := by rw [post_eq]
@[simp] theorem State.post_cle : (s.post code unit data).cle = s.cle := by rw [post_eq]
@[simp] theorem State.post_ports : (s.post code unit data).ports = s.ports := by rw [post_eq]
@[simp] theorem State.post_pwm : (s.post code unit data).pwm = s.pwm := by rw [post_eq]
@[simp] theorem State.post_coef : (s.post code unit data).coef = s.coef := by rw [post_eq]
@[simp] theorem State.post_obs : (s.post code unit data).obs = s.obs := by rw [post_eq]
@[simp] theorem State.post_adc : (s.post code unit data).adc = s.adc := by rw [post_eq]
@[simp] theorem State.post_sd : (s.post code unit data).sd = s.sd := by rw [post_eq]
@[simp] theorem State.post_gl : (s.post code unit data).gl = s.gl := by rw [post_eq]
@[simp] theorem State.post_pair : (s.post code unit data).pair = s.pair := by rw [post_eq]
@[simp] theorem State.post_stw : (s.post code unit data).stw = s.stw := by rw [post_eq]
@[simp] theorem State.post_hlp : (s.post code unit data).hlp = s.hlp := by rw [post_eq]
@[simp] theorem State.post_fio : (s.post code unit data).fio = s.fio := by rw [post_eq]
@[simp] theorem State.post_tb : (s.post code unit data).tb = s.tb := by rw [post_eq]
@[simp] theorem State.post_macs : (s.post code unit data).macs = s.macs := by rw [post_eq]
@[simp] theorem State.post_ptp : (s.post code unit data).ptp = s.ptp := by rw [post_eq]
@[simp] theorem State.post_cap : (s.post code unit data).cap = s.cap := by rw [post_eq]
@[simp] theorem State.post_clk : (s.post code unit data).clk = s.clk := by rw [post_eq]
@[simp] theorem State.post_spur : (s.post code unit data).spur = s.spur := by rw [post_eq]
@[simp] theorem State.post_tack : (s.post code unit data).tack = s.tack := by rw [post_eq]
@[simp] theorem State.post_boot : (s.post code unit data).boot = s.boot := by rw [post_eq]
@[simp] theorem State.post_fcp : (s.post code unit data).fcp = s.fcp := by rw [post_eq]
end

/-- The registers before the triggers: the queue's fields. -/
theorem postAs_before (hw : s.Canon) (island : Bool) (code unit data : Nat) : ∃ t, s.postAs island code unit data =
    t.trFire 3 (fun l => l % 65536 == code) ∧ t.Canon ∧
    ∀ l : List (Fld × Nat), (F.EVQ_STAT_DEPTH, 0) ∈ l → (F.EVQ_STAT_DROP_CNT, 0) ∈ l → ∀ u : State, u.RegsBut s l → u.RegsBut t l := by
  refine ⟨_, rfl, ?_, ?_⟩
  · have e : ∀ t : State, t.regs = s.regs → t.Canon := fun t ht => by unfold State.Canon at *; rw [ht]; exact hw
    unfold State.cond
    split
    · refine canonAfterFld (canonAfterCount (e _ ?_) _ _) _ _ _; split <;> rfl
    · refine canonAfterFld (e _ ?_) _ _ _; split <;> rfl
  · intro l h1 h2 u h
    have e : ∀ t : State, t.regs = s.regs → t.Canon := fun t ht => by unfold State.Canon at *; rw [ht]; exact hw
    unfold State.cond
    split
    · refine State.RegsBut.setFld (State.RegsBut.setFld (h.same ?_) (e _ ?_) _ _ _ h2 (by decide)) (canonAfterFld (e _ ?_) _ _ _) _ _ _ h1
        (by decide) <;> (split <;> rfl)
    · refine State.RegsBut.setFld (h.same ?_) (e _ ?_) _ _ _ h1 (by decide) <;> (split <;> rfl)

theorem canonAfterPostAs (h : s.Canon) (island : Bool) (code unit data : Nat) : (s.postAs island code unit data).Canon := by
  obtain ⟨t, e, ht, -⟩ := postAs_before h island code unit data
  rw [e]; exact canonAfterTrFire ht _ _

/-- The frame of an event: the fields it may change. -/
theorem State.RegsBut.evq {s t : State} {l : List (Fld × Nat)} (h : State.RegsBut s t l) (hw : t.Canon) (island : Bool)
    (code unit data : Nat) (hm : ∀ x ∈ evqFlds, x ∈ l) : State.RegsBut s (t.postAs island code unit data) l := by
  obtain ⟨u, e, hu, hr⟩ := postAs_before hw island code unit data
  rw [e]
  refine (trFire_keeps (P := fun v => v.Canon ∧ s.RegsBut v l) _ _
    ⟨hu, hr l (hm _ (by simp [evqFlds])) (hm _ (by simp [evqFlds])) s h⟩ fun v c hc hv => ⟨canonAfterFld (s := v) hv.1 _ _ _, ?_⟩).2
  exact (State.RegsBut.setFld hv.2 hv.1 _ _ _ (hm _ (by simp [evqFlds, hc])) (by decide)).same rfl

@[simp] theorem State.fld_postAs (hw : s.Canon) (f : Fld) (i : Nat) (island : Bool) (code unit data : Nat)
    (h : evqFlds.all (fun x => f.apart x.1) = true) : (s.postAs island code unit data).fld f i = s.fld f i :=
  ((State.RegsBut.refl s evqFlds).evq hw island code unit data fun _ h => h).fld f i h

@[simp] theorem State.fld_post (hw : s.Canon) (f : Fld) (i code unit data : Nat) (h : evqFlds.all (fun x => f.apart x.1) = true) :
    (s.post code unit data).fld f i = s.fld f i := fld_postAs hw f i _ _ _ _ h

@[simp] theorem State.fld_postAct (hw : s.Canon) (f : Fld) (i : Nat) (up : Bool) (h : evqFlds.all (fun x => f.apart x.1) = true) :
    (s.postAct up).fld f i = s.fld f i := fld_postAs hw f i _ _ _ _ h

@[simp] theorem State.flag_post (hw : s.Canon) (f : Fld) (i code unit data : Nat) (h : evqFlds.all (fun x => f.apart x.1) = true) :
    (s.post code unit data).flag f i = s.flag f i := by unfold State.flag; rw [fld_post hw f i code unit data h]

theorem canonAfterPost (h : s.Canon) (code unit data : Nat) : (s.post code unit data).Canon := canonAfterPostAs h _ _ _ _

theorem canonAfterPostAct (h : s.Canon) (up : Bool) : (s.postAct up).Canon := canonAfterPostAs h _ _ _ _

/-! ### What stays under the operations -/

theorem State.RegsBut.post {s t : State} {l : List (Fld × Nat)} (h : State.RegsBut s t l) (hw : t.Canon) (code unit data : Nat)
    (hm : ∀ x ∈ evqFlds, x ∈ l) : State.RegsBut s (t.post code unit data) l := by
  exact h.evq hw _ _ _ _ hm

theorem State.RegsBut.postAct {s t : State} {l : List (Fld × Nat)} (h : State.RegsBut s t l) (hw : t.Canon) (up : Bool)
    (hm : ∀ x ∈ evqFlds, x ∈ l) : State.RegsBut s (t.postAct up) l :=
  h.evq hw _ _ _ _ hm

section
variable {t : State} {ks : List (Fld × Nat)}

theorem State.RegsBut.bump (h : s.RegsBut t ks) : s.RegsBut (t.bump) ks := h

theorem State.RegsBut.elapse (h : s.RegsBut t ks) (d : Nat) : s.RegsBut (t.elapse d) ks := h

theorem State.RegsBut.box (h : s.RegsBut t ks) (m : Nat) (f : Mailbox → Mailbox) : s.RegsBut (t.box m f) ks := h

theorem State.RegsBut.start (h : s.RegsBut t ks) (tag : Nat) : s.RegsBut (t.start tag) ks := h

theorem State.RegsBut.modPort (h : s.RegsBut t ks) (p : Nat) (f : PortSt → PortSt) : s.RegsBut (t.modPort p f) ks := h

theorem State.RegsBut.modLane (h : s.RegsBut t ks) (l : Nat) (f : LaneSt → LaneSt) : s.RegsBut (t.modLane l f) ks := h

theorem State.RegsBut.modBoot (h : s.RegsBut t ks) (f : BootSt → BootSt) : s.RegsBut (t.modBoot f) ks := h

theorem State.RegsBut.modClk (h : s.RegsBut t ks) (f : ClkSt → ClkSt) : s.RegsBut (t.modClk f) ks := h

theorem State.RegsBut.modTb (h : s.RegsBut t ks) (b : Nat) (f : TimeBase → TimeBase) : s.RegsBut (t.modTb b f) ks := h

theorem State.RegsBut.modPtp (h : s.RegsBut t ks) (f : PtpSt → PtpSt) : s.RegsBut (t.modPtp f) ks := h

theorem State.RegsBut.modStw (h : s.RegsBut t ks) (f : StwSt → StwSt) : s.RegsBut (t.modStw f) ks := h

theorem State.RegsBut.modCore (h : s.RegsBut t ks) (c : Nat) (f : CoreSt → CoreSt) : s.RegsBut (t.modCore c f) ks := h

theorem State.RegsBut.modSd (h : s.RegsBut t ks) (k : Nat) (f : SdIn → SdIn) : s.RegsBut (t.modSd k f) ks := h

theorem State.RegsBut.modLeg (h : s.RegsBut t ks) (n : Nat) (f : LegSt → LegSt) : s.RegsBut (t.modLeg n f) ks := h

theorem State.RegsBut.modPwm (h : s.RegsBut t ks) (f : PwmSt → PwmSt) : s.RegsBut (t.modPwm f) ks := h

theorem State.RegsBut.modTr (h : s.RegsBut t ks) (c : Nat) (f : TraceCh → TraceCh) : s.RegsBut (t.modTr c f) ks := h

theorem State.RegsBut.modCle (h : s.RegsBut t ks) (f : CleSt → CleSt) : s.RegsBut (t.modCle f) ks := h

theorem State.RegsBut.modCtx (h : s.RegsBut t ks) (k : Nat) (f : CtxSt → CtxSt) : s.RegsBut (t.modCtx k f) ks := h

theorem State.RegsBut.modCap (h : s.RegsBut t ks) (f : CapSt → CapSt) : s.RegsBut (t.modCap f) ks := h

theorem State.RegsBut.modHlp (h : s.RegsBut t ks) (f : HlpSt → HlpSt) : s.RegsBut (t.modHlp f) ks := h

theorem State.RegsBut.modObs (h : s.RegsBut t ks) (p : Nat) (f : ObsSt → ObsSt) : s.RegsBut (t.modObs p f) ks := h

theorem State.RegsBut.modCoef (h : s.RegsBut t ks) (f : CoefSt → CoefSt) : s.RegsBut (t.modCoef f) ks := h

theorem State.RegsBut.modMac (h : s.RegsBut t ks) (m : Nat) (f : MacSt → MacSt) : s.RegsBut (t.modMac m f) ks := h

theorem State.RegsBut.modPair (h : s.RegsBut t ks) (f : PairSt → PairSt) : s.RegsBut (t.modPair f) ks := h

theorem State.RegsBut.modPath (h : s.RegsBut t ks) (p : Nat) (f : PathSt → PathSt) : s.RegsBut (t.modPath p f) ks := h

theorem State.RegsBut.complete (h : s.RegsBut t ks) (tag status pnum : Nat) (res pay : List Byte) :
    s.RegsBut (t.complete tag status pnum res pay) ks := h.same (State.complete_regs _ _ _ _ _)

theorem State.RegsBut.done (h : s.RegsBut t ks) (tag status : Nat) : s.RegsBut (t.done tag status) ks := h.complete _ _ _ _ _

theorem State.RegsBut.doneAt (h : s.RegsBut t ks) (tag status : Nat) : s.RegsBut (t.doneAt tag status) ks := h.complete _ _ _ _ _

end

/-- A field no pass of a fold writes reads as before. -/
theorem fld_foldl {α : Type} (f : Fld) (i : Nat) {F : State → α → State}
    (h : ∀ t x, t.Canon → (F t x).Canon ∧ (F t x).fld f i = t.fld f i) (l : List α) (hw : s.Canon) :
    (l.foldl F s).Canon ∧ (l.foldl F s).fld f i = s.fld f i := by
  induction l generalizing s with
  | nil => exact ⟨hw, rfl⟩
  | cons x l ih =>
    obtain ⟨a, b⟩ := h s x hw
    obtain ⟨c, d⟩ := ih a
    exact ⟨c, d.trans b⟩

/-- A field no pass over the units writes reads as before. -/
theorem fld_forUnits (f : Fld) (i : Nat) {F : State → Nat → State}
    (h : ∀ t x, t.Canon → (F t x).Canon ∧ (F t x).fld f i = t.fld f i) (n : Nat) (hw : s.Canon) :
    (s.forUnits n F).Canon ∧ (s.forUnits n F).fld f i = s.fld f i := fld_foldl f i h _ hw

/-! ### Conditional updates and loops -/

@[simp] theorem State.fld_cond (b : Bool) (f : State → State) (g : Fld) (j : Nat) :
    (s.cond b f).fld g j = if b then (f s).fld g j else s.fld g j := by unfold State.cond; split <;> rfl

@[simp] theorem State.flag_cond (b : Bool) (f : State → State) (g : Fld) (j : Nat) :
    (s.cond b f).flag g j = if b then (f s).flag g j else s.flag g j := by unfold State.cond; split <;> rfl

theorem State.cond_true (f : State → State) : s.cond true f = f s := rfl

theorem State.cond_false (f : State → State) : s.cond false f = s := rfl

/-- A loop none of whose passes changes anything. -/
theorem State.forUnits_id {n : Nat} {f : State → Nat → State} (h : ∀ i, i < n → f s i = s) : s.forUnits n f = s := by
  unfold State.forUnits
  suffices ∀ l : List Nat, (∀ i ∈ l, i < n) → l.foldl f s = s from this _ fun i hi => List.mem_range.mp hi
  intro l
  induction l with
  | nil => exact fun _ => rfl
  | cons a l ih =>
    intro hl
    rw [List.foldl_cons, h a (hl a List.mem_cons_self)]
    exact ih fun i hi => hl i (List.mem_cons_of_mem _ hi)

/-! ### Units -/

theorem vget_same {α : Type} [Inhabited α] {n : Nat} (v : Vector α n) (i : Nat) (f : α → α) (h : i < n) : vget (vmod v i f) i = f (vget v i) := by
  rw [vget_vmod, if_pos ⟨rfl, h⟩]

theorem vget_other {α : Type} [Inhabited α] {n : Nat} (v : Vector α n) (i j : Nat) (f : α → α) (h : i ≠ j) : vget (vmod v i f) j = vget v j := by
  rw [vget_vmod, if_neg fun hh => h hh.1]

end Sys2Proof.Machine
end

