-- ==== Sys2Proof/WellFormed.lean ====
section
/-!
DEFINITION. Which commands the block's interfaces can deliver: unit numbers are bounded by the operand types (R14); what remains is the
shape of operands that are lists or plain numbers. A meaning does not rest on it: it answers for every command.
-/
namespace Sys2Proof

/-- A place of a memory error lies inside its memory: a coefficient bank has 16 tiles (R109), a trace channel 16 384 samples (R122). -/
def MemSite.wf : MemSite → Bool
  | .coef _ tile => decide (tile.val < 16)
  | .lpddrTrace _ i => decide (i < 16384)
  | _ => true

/-- Tiles of a store that can be checked (R109, R345, Table 18.7). -/
def TileStore.wf (t : TileStore) (tile : Fin 64) : Bool := match t with
  | .bankA => decide (tile.val < 16)
  | .bankB => decide (tile.val < 16)
  | .hlp => true
  | .sdProf => decide (tile.val < 4)
  | .safety => decide (tile.val = 0)
  | .config => decide (tile.val < 16)

/-- A verified mirror record has its four divisors, a slice index below 64 with its 128 bytes, and one section for each port and each
context (Table 09.6). -/
def MirrorRecord.wf (r : MirrorRecord) : Bool :=
  r.div.length == 4 && decide (r.slice < 64) && (r.hlp.isEmpty || r.hlp.length == 128) && decide (r.ports.map (·.port)).Nodup
    && decide (r.ctxs.map (·.ctx)).Nodup

/-- The command can arrive: 16 levels in a field-input sample (R359), 8 samples of MODE_STRAP (R488), 32 bytes of the option sector
(R487), a CAN frame of 2 to 8 or 64 bytes (R392), a register at a word boundary (R382), a block of bits (R180), an Ethernet frame that
carries its payload. -/
def Instr.wf : Instr → Bool
  | .diSample mv => mv.length == 16
  | .resetRelease strap => strap.length == 8
  | .optionSectorWrite bytes => bytes.length == 32
  | .canSegment _ fd bytes => decide (2 ≤ bytes.length) && decide (bytes.length ≤ if fd then 64 else 8)
  | .registerWrite _ addr _ => decide (addr.toNat % 4 = 0)
  | .decimatedOutput _ bits => !bits.isEmpty
  | .memoryError site => site.wf
  | .scrubTileCheck store tile _ => store.wf tile
  | .mirrorRecordApply r => r.wf
  | .ethernetFrameReceived _ f => (match f.kind with
    | .udp _ _ _ payload _ => decide (payload.length + 42 ≤ f.len)
    | .ptp msg => decide (msg.length + 14 ≤ f.len)
    | _ => true)
  | _ => true

end Sys2Proof
end

