-- ==== Sys2Proof/Tests/Slice0.lean ====
section
/-!
SUPPORT. The model's own tests. An ill-formed operand for each check of `Instr.wf`; a few values the manual works out; and for the
statements of `Certificates/Slice0/Obligations.lean` a state and operands that meet the hypotheses of each clause together, one
theorem for each statement (numbered parts where it is long), its clauses in the statement's order (a statement is named as the theorem is, after `meets_`).
-/
namespace Sys2Proof.Tests

open Sys2Proof Sys2Proof.Machine

set_option Elab.async false
set_option linter.unusedVariables false

/-! ### Helpers -/

/-- The state after reset with every clock domain fed and these fields written: (field, unit, value). -/
def mk (l : List (Fld × Nat × Nat)) : State :=
  l.foldl (fun s x => s.setFld x.1 x.2.1 x.2.2) (State.reset.setFld F.CLK_STAT_CLK_OK 0 0xFF)

/-- Bytes from numbers. -/
def by8 (l : List Nat) : List Byte := l.map (BitVec.ofNat 8)

/-- A command of mailbox 0 with tag 0: opcode, first bytes of ARGS (the others 0), payload. -/
def ent (op : Nat) (args : List Nat) (payload : List Byte) : Entry :=
  ⟨0, 0, op, false, true, 0, by8 (args ++ List.replicate (44 - args.length) 0), payload, false, 0, 0⟩

/-- The same command once it has been taken and waits. -/
def entW (op : Nat) (args : List Nat) (payload : List Byte) : Entry := { ent op args payload with started := true }

/-- s with this command alone in flight. -/
def inFlight (s : State) (e : Entry) : State := { s with fcp := { s.fcp with inflight := [e] } }

/-- A Running unit that has every clock. -/
def s1 : State := mk [(F.IDENT_STATE_DEV_STATE, 0, 2)]

/-- What `State.Inv` says, decided: on a state whose retained store is empty. -/
def invB (s : State) : Bool :=
  Memory.wf resetWord s.regs && decide (s.evq.queue.length ≤ 64)
    && decide ((s.fcp.inflight.map (·.tag)).Nodup) && decide (∀ e ∈ s.fcp.inflight, e.tag / 16 = e.mb)
    && decide (∀ m, m < 8 → (s.fcp.inflight.filter fun e => e.mb == m).length + (vget s.fcp.boxes m).posted.length ≤ 16 ∧
      ((vget s.fcp.boxes m).posted.map (·.tag)).Nodup ∧
      ∀ p ∈ (vget s.fcp.boxes m).posted, p.tag / 16 = m ∧ ∀ e ∈ s.fcp.inflight, e.tag ≠ p.tag)
    && Memory.wf ctxDflt s.cle.ram && Memory.wf (fun _ => 0#8) s.hlp.mem && Memory.wf (fun _ => 0#8) s.fcp.ram
    && decide (s.hlp.store = Vector.replicate 2 none)

theorem inv_of {s : State} (h : invB s = true) : s.Inv := by
  simp only [invB, Bool.and_eq_true, decide_eq_true_eq] at h
  obtain ⟨⟨⟨⟨⟨⟨⟨⟨h1, h2⟩, h3⟩, h4⟩, h5⟩, h6⟩, h7⟩, h8⟩, h9⟩ := h
  refine ⟨h1, h2, ⟨h3, h4, h5⟩, h6, h7, h8, ?_⟩
  intro k b hk
  rw [h9] at hk
  exfalso
  match k with
  | 0 => simp [vget] at hk
  | 1 => simp [vget] at hk
  | _ + 2 => simp [vget] at hk

theorem serves_of {s : State} {op : Nat} {tag : Fin 128} {e : Entry} (h : invB s = true)
    (h1 : s.ready op tag.val = some e) (h2 : shapeStatus e = none) : s.Serves op tag e := ⟨inv_of h, h1, h2⟩

theorem due_of {s : State} {op : Nat} {tag : Fin 128} {e : Entry} (h : invB s = true)
    (h1 : s.svpClock = true) (h2 : s.waiting op tag.val = some e) : s.Due op tag e := ⟨inv_of h, h1, h2⟩

theorem canon_of {s : State} (h : Memory.wf resetWord s.regs = true) : s.Canon := h

theorem portOpen_of {s : State} {e : Entry} (h0 : e.a 0 < 12) (h1 : s.roleBad = false) (h2 : (s.port (e.a 0)).cfg.configured = true)
    (h3 : hostFrom e.op (s.pstate (e.a 0)) (e.a 0) = true) (h4 : s.devState = 2) : s.PortOpen e := ⟨h0, h1, h2, h3, h4⟩

/-- A 64-byte command header without arguments and payload for mailbox m, its first tag, this opcode, with its CRC (Table 13.3). -/
def hdr (m op : Nat) : List Byte :=
  let h := leBytes 2 op ++ by8 [16 * m] ++ List.replicate 57 0#8
  h ++ leBytes 4 (crc32c h).toNat

/-- The same with the tag, and with this payload length. -/
def hdrL (tag len : Nat) : List Byte :=
  let h := [0#8, 0#8] ++ leBytes 1 tag ++ [0#8] ++ leBytes 2 len ++ List.replicate 54 0#8
  h ++ leBytes 4 (crc32c h).toNat

theorem none_of {α : Type} {o : Option α} {P : α → Prop} (h : o.isNone = true) : ∀ x, o = some x → P x := by
  intro x hx
  rw [hx] at h
  cases h

/-- A state with this record in the staging area of mailbox 0 and an HLP program with a cycle time of 250 us. -/
def stagedReg (r : List Nat) : State :=
  let s := s1.modHlp fun h => { h with prog := { h.prog with bytes := [(16, 1#8)] } }
  { s with fcp := { s.fcp with staging := vmod s.fcp.staging 0 fun _ => by8 r } }

/-- The entry (k, v) put in its place, whatever an unlisted k reads as. -/
def put : Memory Word → Nat → Word → Memory Word
  | [], k, v => [(k, v)]
  | (a, w) :: m, k, v => if k < a then (k, v) :: (a, w) :: m else if k = a then (k, v) :: m else (a, w) :: put m k v

/-- A written register is listed with its word or is not listed. -/
theorem set_either (P : Memory Word → Prop) (m : Memory Word) (k : Nat) (v : Word) (h0 : P (Memory.set resetWord m k (resetWord k)))
    (h1 : P (put m k v)) : P (Memory.set resetWord m k v) := by
  by_cases h : v = resetWord k
  · rw [h]
    exact h0
  · have e : ∀ m : Memory Word, Memory.set resetWord m k v = put m k v := by
      intro m
      induction m with
      | nil => simp [Memory.set, put, h]
      | cons x m ih => obtain ⟨a, w⟩ := x; simp [Memory.set, put, h, ih]
    rw [e]
    exact h1

/-- s after the staged records, and the contexts they were given. -/
def records (s : State) (rs : List (List Byte)) : State × List (Nat × Nat) :=
  rs.foldl (State.applyRec ((rs.filter fun r => rb r 0 == 3).map (rb · 4) ++ (rs.filter fun r => rb r 0 == 1 && rb r 4 == 3).map (rb · 5)))
    (rs.foldl State.dropFamily s, [])

/-- The same with its derived values, before CFG_DIGEST. -/
def derived (s : State) (rs : List (List Byte)) : State :=
  let t1 := ((records s rs).1.placeCle.bindCmp ((rs.filter fun r => rb r 0 == 2).map fun r => rb r 4)).forUnits 4 State.setHorizon
  let t2 := t1.setFlag F.GAIT_STATUS_GL_PRESENT 0 t1.anyGl
  t2.setFld F.PAIR_CFG_RECORD_BLKS 0 (if t2.flag F.PAIR_CFG_PAIR_EN 0 then min 31 t2.recordBlks else 0)

/-- Where CFG_DIGEST stands. -/
def digestKey : Nat := regKey 0 0 R.IDENT_CFG_DIGEST.off

/-- The derived configuration with CFG_DIGEST at its reset word, and with CFG_DIGEST listed. -/
def derived0 (s : State) (rs : List (List Byte)) : State :=
  { derived s rs with regs := Memory.set resetWord (derived s rs).regs digestKey (resetWord digestKey) }
def derived1 (s : State) (rs : List (List Byte)) : State :=
  { derived s rs with regs := put (derived s rs).regs digestKey (Config.cfgDigest (derived s rs).digestBytes) }

/-- A commit's verdict does not hang on what CFG_DIGEST comes out as. -/
theorem verdict_of (s : State) (rs : List (List Byte)) (v : Option (Nat × Nat))
    (h0 : s.cfgVerdict (derived0 s rs) (withCtx rs (records s rs).2) = v) (h1 : s.cfgVerdict (derived1 s rs) (withCtx rs (records s rs).2) = v) :
    s.cfgVerdict (s.cfgApply rs).1 (withCtx rs (s.cfgApply rs).2) = v :=
  set_either (fun r => s.cfgVerdict { derived s rs with regs := r } (withCtx rs (records s rs).2) = v) _ _ _ h0 h1

theorem verdict_at {s : State} {l : List Byte} {rs : List (List Byte)} {v : Option (Nat × Nat)} (h : recsOf l = rs)
    (hv : s.cfgVerdict (s.cfgApply rs).1 (withCtx rs (s.cfgApply rs).2) = v) :
    (let rs := recsOf l; s.cfgVerdict (s.cfgApply rs).1 (withCtx rs (s.cfgApply rs).2) = v) := by
  subst h
  exact hv

/-- Two commits with nothing staged, in order of admission: A0 = 0 on mailbox 0, A0 = 1 on mailbox 1. -/
def commit0 : Entry := ent 0x0102 [0] []
def commit1 : Entry := { ent 0x0102 [1] [] with mb := 1, tag := 16 }
def commits : State := { s1 with fcp := { s1.fcp with inflight := [commit0, commit1] } }

theorem commits_verdict : commits.cfgVerdict (commits.cfgApply []).1 (withCtx [] (commits.cfgApply []).2) = none :=
  verdict_of _ [] _ (by decide +kernel) (by decide +kernel)

/-- The second of them alone. -/
def second : State := inFlight s1 commit1

theorem second_verdict : second.cfgVerdict (second.cfgApply []).1 (withCtx [] (second.cfgApply []).2) = none :=
  verdict_of _ [] _ (by decide +kernel) (by decide +kernel)

/-- A commit with one record staged: a field-bank silence time of 1, too short for the HLP's cycle time. -/
def tooShort : List (List Byte) := [by8 [1, 0, 12, 0, 0, 0, 0xF0, 2, 1, 0, 0, 0]]
def badCommit : State := inFlight (stagedReg [1, 0, 12, 0, 0, 0, 0xF0, 2, 1, 0, 0, 0]) (ent 0x0102 [1] [])

theorem badCommit_verdict :
    badCommit.cfgVerdict (badCommit.cfgApply tooShort).1 (withCtx tooShort (badCommit.cfgApply tooShort).2) = some (FS.FS_PARAM, 0) :=
  verdict_of _ tooShort _ (by decide +kernel) (by decide +kernel)

/-- s with word w of coefficient bank A written. -/
def coefWord (s : State) (w : Nat) (v : Word) : State :=
  s.modCoef fun c => { c with bank := vmod c.bank 0 fun m => Memory.set (fun _ => 0#32) m w v }

/-- A Running unit whose DC port 11 is configured without sensors, its coefficient words at the lower limits of Table 02.10, its
window open, the Steward ARMED, and the HLP in RUN, normal mode. -/
def armable : State :=
  let s := mk [(F.IDENT_STATE_DEV_STATE, 0, 2), (F.STW_STATUS_STATE, 0, 2), (F.HLP_STATUS_STATE, 0, 2), (F.HLP_STATUS_MODE, 0, 1)]
  let s := s.modPort 11 fun p => { p with cfg := { p.cfg with configured := true }, window := some (0xC0000000#32, 0x40000000#32) }
  s.modCoef fun c => { c with
    bank := vmod c.bank 0 fun _ => (([0, 1].map fun w => (w, 0x3F800000#32)) ++ dcRows.map fun (r : CoefRow) => (r.word, r.lo)).foldl
      (fun m (x : Nat × Word) => Memory.set (fun _ => 0#32) m x.1 x.2) []
    verified := vmod c.verified 0 fun _ => true }

/-- Context 62 enabled, with a following-error time of 1 that its timer has reached. -/
def feDone : State := ((s1.setCflag F.CTX_STATUS_EN 62 true).setCf F.CTX_STATUS_FE_TIMER 62 1).setCword 62 11 1#32

/-- The fold with each value computed before the next. -/
def foldS (f : Word → Byte → Word) : List Byte → Word → Word
  | [], a => a
  | x :: l, a => if (f a x).toNat < 0 then a else foldS f l (f a x)

theorem foldS_eq (f : Word → Byte → Word) (l : List Byte) (a : Word) : foldS f l a = l.foldl f a := by
  induction l generalizing a with
  | nil => rfl
  | cons x l ih => simp [foldS, ih]

/-- The CRC-32C of 4 096 zero bytes. -/
theorem crc_zero_tile : crc32c (List.replicate (4 * 1024) 0#8) = zeroTileCrc := by
  unfold crc32c
  rw [← foldS_eq]
  decide +kernel

theorem zero_words (n : Nat) : (List.replicate n 0#32).flatMap (fun w => leBytes 4 w.toNat) = List.replicate (4 * n) 0#8 := by
  induction n with
  | zero => rfl
  | succ n ih => rw [List.replicate_succ, List.flatMap_cons, ih]; simp [leBytes, Nat.mul_add, List.replicate_succ]

theorem read_nothing (k n : Nat) : Memory.getMany (fun _ => 0#32) ([] : Memory Word) k n = List.replicate n 0#32 := by
  simp [Memory.getMany, Memory.get]

/-- A tile of a bank with nothing written verifies. -/
theorem zero_tile {s : State} {b : Nat} (hb : vget s.coef.bank b = []) (hd : vget s.coef.dir b = []) (hx : s.coef.badTiles = [])
    (t : Nat) : s.tileOk b t = true := by
  unfold State.tileOk State.tileBytes
  rw [hb, hd, hx, read_nothing, zero_words, crc_zero_tile]
  rfl

theorem zero_failing {s : State} {b : Nat} (hb : vget s.coef.bank b = []) (hd : vget s.coef.dir b = []) (hx : s.coef.badTiles = []) :
    s.failing b = 0 := by
  simp [State.failing, zero_tile hb hd hx]

/-- A safety PDU with all-zero data for the given network, sequence number n, with its CRC (R329). -/
def pdu (net n : Nat) : List Byte :=
  let b := by8 [1, 0x0A + net, 0, 0] ++ leBytes 4 n ++ List.replicate 32 0#8
  b ++ leBytes 4 (pduCrc net b)

theorem bytes_nothing (k n : Nat) : Memory.getMany (fun _ => 0#8) ([] : Memory Byte) k n = List.replicate n 0#8 := by
  simp [Memory.getMany, Memory.get]

/-- A self-test that every output path passes. -/
def passed : SelfTest := ⟨BitVec.allOnes 48, BitVec.allOnes 6, BitVec.allOnes 6, 0#6⟩

/-- With a committed tile of zeros an unpaired Steward whose self-test passes finds no reason against arming. -/
theorem tile_zero {s : State} (hc : s.stw.cfg = []) (hk : s.stw.cfgCrc = zeroTileCrc) (hb : s.coef.badTiles = [])
    (hs : s.stw.cfgSet = true) : s.tileVerifies = true := by
  unfold State.tileVerifies
  rw [hc, hk, hb, hs, bytes_nothing, show (4096 : Nat) = 4 * 1024 from rfl, crc_zero_tile]
  rfl

theorem first_zero {s : State} (hc : s.stw.cfg = []) (hk : s.stw.cfgCrc = zeroTileCrc) (hb : s.coef.badTiles = [])
    (hs : s.stw.cfgSet = true)
    (h : (s.anyCause || !s.inputsTested || (List.range 4).any (fun r => s.flag F.PDU_STAT_EN r && !s.rxAlive r)) = false) :
    s.armFirst = 0 := by
  have ht := tile_zero hc hk hb hs
  simp only [Bool.or_eq_false_iff] at h
  obtain ⟨⟨h1, h2⟩, h3⟩ := h
  simp [State.armFirst, ht, h1, h2, h3]

theorem arm_zero {s : State} {t : SelfTest} (hc : s.stw.cfg = []) (hk : s.stw.cfgCrc = zeroTileCrc) (hb : s.coef.badTiles = [])
    (hs : s.stw.cfgSet = true)
    (h : (s.anyCause || !s.inputsTested || (List.range 4).any (fun r => s.flag F.PDU_STAT_EN r && !s.rxAlive r)) = false)
    (h1 : (s.allOff && s.pathsPass t && gdenPass t) = true) : s.armWhy t = 0 := by
  simp only [Bool.and_eq_true] at h1
  obtain ⟨⟨ha, hp⟩, hg⟩ := h1
  simp [State.armWhy, first_zero hc hk hb hs h, ha, hp, hg]

theorem arm_bad {s : State} {t : SelfTest} (h : (s.allOff && s.pathsPass t && gdenPass t) = false) : s.armWhy t ≠ 0 := by
  unfold State.armWhy
  split
  · rename_i h1
    simpa using h1
  · cases ha : s.allOff <;> cases hp : s.pathsPass t <;> cases hg : gdenPass t <;> simp_all

/-- A committed tile of zeros. -/
def tileSet (s : State) : State := s.modStw fun w => { w with cfgSet := true, cfgCrc := zeroTileCrc }

/-- The HLP at instruction 0, of this OP and operand, in CYCLIC. -/
def fetching (op x : Nat) : State :=
  s1.modHlp fun h => { h with section_ := some 2, prog := { h.prog with bytes := Memory.setMany (fun _ => 0#8) [] 4096 (leBytes 4 (op * 2 ^ 24 + x)) } }

theorem guard_nothing {s t : State} {l : Nat} (h : (List.range 8).filterMap (s.slotLeg l) = []) : s.guardFrame t l = s := by
  unfold State.guardFrame
  rw [h]
  rfl

/-- Mirror block 1 of a record, with its CRC (Table 09.5). -/
def block1 : List Byte :=
  let b := by8 ([0, 0, 1] ++ List.replicate 129 0)
  b ++ leBytes 4 (foldS (crcByte 0x82F63B78#32) b 0xFFFFFFFF#32 ^^^ 0xFFFFFFFF#32).toNat

theorem block1_ok : mirrorOk block1 = true := by
  unfold mirrorOk crc32c
  rw [← foldS_eq]
  decide +kernel

/-- The least program: one tile of code whose instruction 0 is END, one of constants, T_cyc 1, all sections at 0 (Table 11.6). -/
def prog0 : HlpProg :=
  ⟨[(2, 1#8), (14, 1#8), (15, 1#8), (16, 1#8), (4099, 0x33#8)], [(0, 0x74465F7C#32), (1, 0x5C3F6E68#32), (2, 0x98F94189#32)], 3⟩

/-- A tile whose CRC-32C is listed verifies. -/
theorem tile_listed {p : HlpProg} {t : Nat} {f : Word}
    (h : (foldS (crcByte 0x82F63B78#32) (p.tile t) 0xFFFFFFFF#32 ^^^ 0xFFFFFFFF#32) = f) (hd : Memory.get (fun _ => 0#32) p.dir t = f) :
    p.tileOk t = true := by
  unfold HlpProg.tileOk crc32c
  rw [← foldS_eq, h, hd]
  simp

theorem prog0_tiles : (List.range 3).all prog0.tileOk = true := by
  have h0 : prog0.tileOk 0 = true := tile_listed (f := Memory.get (fun _ => 0#32) prog0.dir 0) (by decide +kernel) rfl
  have h1 : prog0.tileOk 1 = true := tile_listed (f := Memory.get (fun _ => 0#32) prog0.dir 1) (by decide +kernel) rfl
  have h2 : prog0.tileOk 2 = true := tile_listed (f := Memory.get (fun _ => 0#32) prog0.dir 2) (by decide +kernel) rfl
  simp [List.range, List.range.loop, h0, h1, h2]

/-- A slice of a tile, without walking the tile for each byte. -/
theorem slice_tile (p : HlpProg) (t o n : Nat) (h : o + n ≤ 4096) :
    slice (p.tile t) o n = (List.range n).map fun i => Memory.get (fun _ => 0#8) p.bytes (4096 * t + (o + i)) := by
  unfold slice HlpProg.tile Memory.getMany
  apply List.map_congr_left
  intro i hi
  rw [List.mem_range] at hi
  rw [List.getD_eq_getElem?_getD, List.getElem?_map, List.getElem?_range (by omega)]
  rfl

theorem prog0_ok : prog0.ok = true := by
  unfold HlpProg.ok HlpProg.headerOk
  rw [slice_tile _ _ _ _ (by decide)]
  decide +kernel

theorem prog0_load {s : State} (h : s.tmoOk prog0 = true) : s.loadCheck prog0 = FS.FS_OK := by
  unfold State.loadCheck
  rw [show (List.range prog0.count).all prog0.tileOk = true from prog0_tiles, prog0_ok, h]
  rfl

/-- With a silence time too short for it no program loads. -/
theorem load_bad {s : State} {p : HlpProg} (h : s.tmoOk p = false) : s.loadCheck p ≠ FS.FS_OK := by
  unfold State.loadCheck
  rw [h]
  split
  · decide
  · simp; decide

/-! ### Commands that cannot arrive -/

theorem refuses_diSample : (Instr.diSample (List.replicate 15 0)).wf = false := by decide

theorem refuses_resetRelease : (Instr.resetRelease (List.replicate 7 0)).wf = false := by decide

theorem refuses_optionSectorWrite : (Instr.optionSectorWrite (List.replicate 33 0#8)).wf = false := by decide

theorem refuses_canSegment : (Instr.canSegment 0 false [0#8]).wf = false ∧ (Instr.canSegment 0 false (List.replicate 9 0#8)).wf = false ∧
    (Instr.canSegment 0 true (List.replicate 65 0#8)).wf = false := by decide

theorem refuses_registerWrite : (Instr.registerWrite .qspi 0x202#16 0#32).wf = false := by decide

theorem refuses_decimatedOutput : (Instr.decimatedOutput 0 []).wf = false := by decide

theorem refuses_memoryError : (Instr.memoryError (.coef false 16)).wf = false ∧ (Instr.memoryError (.lpddrTrace 0 16384)).wf = false := by
  decide

theorem refuses_scrubTileCheck : (Instr.scrubTileCheck .bankA 16 false).wf = false ∧ (Instr.scrubTileCheck .bankB 16 false).wf = false ∧
    (Instr.scrubTileCheck .sdProf 4 false).wf = false ∧ (Instr.scrubTileCheck .safety 1 false).wf = false ∧
    (Instr.scrubTileCheck .config 16 false).wf = false := by decide

/-- A record with three divisors. -/
theorem refuses_mirrorRecordApply :
    (Instr.mirrorRecordApply ⟨0, 1, 12500, [1, 10, 100], 0, 0#32, [], none, 0, 0, 0, [], [], 0, 0, 0, 0, false, [], []⟩).wf = false := by decide

theorem refuses_ethernetFrameReceived : (Instr.ethernetFrameReceived 0 ⟨45, 0#48, .udp 0#32 0#16 0#16 (List.replicate 4 0#8) false, true⟩).wf = false := by
  decide

/-! ### Values the manual works out -/

/-- Chapter 05, worked example: the thresholds 961.195 A and 645.805 A at 2 500 / 32 768 A per code are DAC codes 2 836 and 2 577. -/
theorem test_dac_codes : dacCode 0x3D9C4000#32 0#32 0x44704C7B#32 true = 2836 ∧ dacCode 0x3D9C4000#32 0#32 0x44217385#32 false = 2577 := by
  decide +kernel

/-- Chapter 05, worked example: instants 380 ns apart pass R160 on core C4 at 500 kHz in Gallop, instants 148 ns apart do not. -/
theorem test_sequence_rule :
    (mk [(F.ADC_SEQ_EN.nth 0, 4, 1), (F.ADC_SEQ_EN.nth 1, 4, 1), (F.ADC_SEQ_INPUT.nth 1, 4, 1), (F.ADC_SEQ_OFFSET.nth 1, 4, 95)]).coreSeqOk
      (convOf Gait.gallop) 16000 4 = true ∧
    (mk [(F.ADC_SEQ_EN.nth 0, 4, 1), (F.ADC_SEQ_EN.nth 1, 4, 1), (F.ADC_SEQ_INPUT.nth 1, 4, 1), (F.ADC_SEQ_OFFSET.nth 1, 4, 37)]).coreSeqOk
      (convOf Gait.gallop) 16000 4 = false := by
  decide +kernel

/-- Chapter 06, worked example: DIV2 = 20, N = 3, M = 128 give J = 2. -/
theorem test_horizon :
    ((mk [(F.SD_CFG_EN, 5, 1), (F.SD_CFG_GRP, 5, 1), (F.SD_GRP_DIV2.nth 1, 0, 20), (F.SD_PROF_DECIM.nth 0, 0, 128),
      (F.SD_PROF_ORDER.nth 0, 0, 2)]).setHorizon 0).fld (F.SD_PROF_J.nth 0) 0 = 2 := by
  decide +kernel

/-- Chapter 07, worked example, leg L9 in an ordinary and in the forced period. -/
theorem test_leg_programs :
    shapeLeg ⟨32000, 28000, 2, 21845, 1600, 1600, 800, 0, false⟩ =
      ({ start := true, edges := [(8666, false), (14266, true)] }, { start := false, edges := [(10266, true), (12666, false)] }, 0) ∧
    forcedW 28000 32000 4000 1600 = 26400 ∧
    shapeLeg ⟨32000, 26400, 2, 21845, 1600, 1600, 800, 0, true⟩ =
      ({ start := true, edges := [(7866, false), (15066, true)] }, { start := false, edges := [(9466, true), (13466, false)] }, 0) := by
  decide +kernel

/-- Chapter 08, worked example: a round trip of 292 ns with 48 ns and 24 ns declared gives L = 158 ns. -/
theorem test_gate_link_delay :
    ({ rtts := [2336] } : LaneSt).meas (384, 192) = 1264 := by decide +kernel

/-- Chapter 16, worked example: six currents, three results with D = 9 and one free-running input stream 74 239 214 bytes/s; a second
free-running input with D = 1 makes it 95 447 079. -/
theorem test_stream_budget :
    capBytes (List.replicate 6 ⟨1, 0, 0, 0⟩ ++ List.replicate 3 ⟨3, 0, 0, 9⟩ ++ [⟨1, 1, 1, 0⟩]) 16000 = 74239214 ∧
    capBytes (List.replicate 6 ⟨1, 0, 0, 0⟩ ++ List.replicate 3 ⟨3, 0, 0, 9⟩ ++ [⟨1, 1, 1, 0⟩, ⟨1, 2, 1, 1⟩]) 16000 = 95447079 := by
  decide +kernel

/-! ### States and operands that meet the statements' hypotheses -/

theorem meets_MailboxCommandsComplete_1 :
    (∃ (s : State) (mb : Fin 4) (value : Word), s.access 0 (mbBase mb) true = 0 ∧ value.toNat % 2 = 1 ∧ vget s.fcp.busy mb.val = false ∧
      s.svpClock = true ∧ (vget s.fcp.boxes mb.val).isOpen = true ∧ s.admitCode mb (s.mbBytes (mbBase mb + 0x40) 64) (s.mbBytes (mbBase
      mb + 0x80) (min 1024 (leAt (s.mbBytes (mbBase mb + 0x40) 64) 4 2))) = 0) ∧
    (∃ (s : State) (mb : Fin 4) (value : Word) (n : Nat), s.access 0 (mbBase mb + 8) true = 0 ∧ n = (value.toNat % 16 + 16 - (vget
      s.fcp.boxes mb.val).head) % 16 ∧ 1 ≤ n ∧ n ≤ (vget s.fcp.boxes mb.val).posted.length) ∧
    (∃ (s : State) (mb : Fin 4) (bytes : List Byte), leAt bytes 0 1 = 1 ∧ leAt bytes 1 1 = 4 + mb.val ∧ s.mbHears (4 + mb) = true ∧
      s.hostBound (4 + mb) = true ∧ (vget s.fcp.boxes (4 + mb.val)).isOpen = true ∧ leAt bytes 2 2 = s.fld F.FCP_EPOCH_ALL 0 ∧ leAt bytes
      4 2 < 65536 ∧ (vget s.fcp.boxes (4 + mb.val)).cseq = leAt bytes 4 2 ∧ s.admitCode (4 + mb) (slice bytes 8 64) ((bytes.drop 72).take
      (leAt (slice bytes 8 64) 4 2)) = 0) ∧
    (∃ (s : State) (mb : Fin 4) (bytes : List Byte), leAt bytes 0 1 = 4 ∧ leAt bytes 1 1 = 4 + mb.val ∧ s.mbHears (4 + mb) = true ∧
      s.hostBound (4 + mb) = true) ∧
    (∃ (s : State) (mb : Fin 4), s.mbHears (4 + mb) = true ∧ s.hostBound (4 + mb) = true) :=
  ⟨
   ⟨{ s1.box 0 (fun b => { b with isOpen := true }) with win := { s1.win with ready := true }, fcp := { (s1.box 0 fun b => { b with isOpen := true }).fcp with ram := Memory.setMany (fun _ => 0#8) [] 0x1040 (hdr 0 0x0B01) } },
     0, 1#32, by decide +kernel, by decide +kernel, by decide +kernel, by decide +kernel, by decide +kernel, by decide +kernel⟩,
   ⟨{ s1.box 0 (fun b => { b with posted := [⟨0, 0, [], []⟩] }) with win := { s1.win with ready := true } }, 0, 1#32, 1,
     by decide +kernel, rfl, by decide +kernel, by decide +kernel⟩,
   ⟨{ s1.box 4 fun b => { b with isOpen := true } with fcp := { (s1.box 4 fun b => { b with isOpen := true }).fcp with hostSrc := vmod (s1.box 4 fun b => { b with isOpen := true }).fcp.hostSrc 0 fun _ => [0#8] } },
     0, by8 [1, 4, 0, 0, 0, 0, 0, 0] ++ hdr 4 0x0B01, by decide +kernel, by decide +kernel, by decide +kernel, by decide +kernel,
     by decide +kernel, by decide +kernel, by decide +kernel, by decide +kernel, by decide +kernel⟩,
   ⟨{ s1 with fcp := { (s1).fcp with hostSrc := vmod (s1).fcp.hostSrc 3 fun _ => [0#8] } }, 3, by8 [4, 7], by decide +kernel,
     by decide +kernel, by decide +kernel, by decide +kernel⟩,
   ⟨{ s1 with fcp := { (s1).fcp with hostSrc := vmod (s1).fcp.hostSrc 0 fun _ => [0#8] } }, 0, by decide +kernel, by decide +kernel⟩⟩

theorem meets_MailboxCommandsComplete_2 :
    (∃ (s : State) (tag : Fin 128) (p : Posted), 64 ≤ tag.val ∧ s.svpRuns = true ∧ (vget s.fcp.boxes (tag.val / 16)).posted.find? (fun x
      => x.tag == tag.val) = some p) ∧
    (∃ (s : State) (can : Fin 2) (bytes : List Byte), leAt bytes 0 1 = 0 ∧ leAt bytes 1 1 = 1 ∧ (vget s.fcp.boxes (6 + can.val)).segCount
      = 0 ∧ (vget s.fcp.boxes (6 + can.val)).segNext = 0 ∧ (vget s.fcp.boxes (6 + can.val)).segBytes = []) ∧
    (∃ (s : State) (can : Fin 2), (vget s.fcp.boxes (6 + can.val)).segCount ≠ 0) ∧
    (∃ (s : State) (can : Fin 2) (bytes : List Byte), leAt bytes 0 1 = 0 ∧ 2 ≤ leAt bytes 1 1 ∧ (vget s.fcp.boxes (6 + can.val)).segCount
      = 0 ∧ (vget s.fcp.boxes (6 + can.val)).segNext = 0 ∧ (vget s.fcp.boxes (6 + can.val)).segBytes = []) ∧
    (∃ (s : State) (can : Fin 2) (bytes : List Byte) (b : Mailbox), b = vget s.fcp.boxes (6 + can.val) ∧ 0 < b.segNext ∧ leAt bytes 0 1 =
      b.segNext ∧ leAt bytes 1 1 = b.segCount ∧ b.segCount ≠ 0 ∧ b.segNext + 1 ≠ b.segCount) :=
  ⟨
   ⟨s1.box 7 fun b => { b with posted := [⟨127, 0, [], []⟩] }, 127, ⟨127, 0, [], []⟩, by decide +kernel, by decide +kernel,
     by decide +kernel⟩,
   ⟨s1, 1, by8 [0, 1], by decide +kernel, by decide +kernel, by decide +kernel, by decide +kernel, by decide +kernel⟩,
   ⟨s1.box 7 fun b => { b with segCount := 2 }, 1, by decide +kernel⟩,
   ⟨s1, 1, by8 [0, 2], by decide +kernel, by decide +kernel, by decide +kernel, by decide +kernel, by decide +kernel⟩,
   ⟨(s1.box 7 fun b => { b with segCount := 3, segNext := 1 }), 1, by8 [1, 3], _, rfl, by decide +kernel, by decide +kernel,
     by decide +kernel, by decide +kernel, by decide +kernel⟩⟩

theorem meets_MailboxCommandsComplete_3 :
    (∃ (s : State) (can : Fin 2) (bytes all : List Byte) (b : Mailbox), b = vget s.fcp.boxes (6 + can.val) ∧ 0 < b.segNext ∧ leAt bytes 0
      1 = b.segNext ∧ leAt bytes 1 1 = b.segCount ∧ b.segCount ≠ 0 ∧ b.segNext + 1 = b.segCount ∧ all = b.segBytes ++ (bytes.drop 2).take
      62) ∧
    (∃ (s : State) (can : Fin 2) (bytes : List Byte) (b : Mailbox), b = vget s.fcp.boxes (6 + can.val) ∧ leAt bytes 0 1 ≠ 0 ∧ (b.segCount
      = 0 ∨ leAt bytes 0 1 ≠ b.segNext ∨ leAt bytes 1 1 ≠ b.segCount)) ∧
    (∃ (s : State) (mb : Fin 4) (bytes : List Byte), s.mbHears (4 + mb) = true ∧ s.hostBound (4 + mb) = false) ∧
    (∃ (s : State) (mb : Fin 4) (bytes : List Byte), s.mbHears (4 + mb) = false) :=
  ⟨
   ⟨(s1.box 7 fun b => { b with segCount := 2, segNext := 1, segBytes := by8 [9] }), 1, by8 [1, 2], _, _, rfl, by decide +kernel,
     by decide +kernel, by decide +kernel, by decide +kernel, by decide +kernel, rfl⟩,
   ⟨s1, 1, by8 [1, 2], _, rfl, by decide +kernel, by decide +kernel⟩,
   ⟨s1, 3, [], by decide +kernel, by decide +kernel⟩,
   ⟨s1.setFld F.CLK_STAT_CLK_OK 0 0x7F, 1, [], by decide +kernel⟩⟩

theorem meets_TraceCommandsComplete_1 :
    (∃ (s : State) (tag : Fin 128) (e : Entry), s.Serves 0x0501 tag e ∧ e.a 0 < 8 ∧ trArgsOk (e.af 4) (e.af 8) = true ∧ (s.tr (e.a
      0)).copying = false ∧ (s.trLive (e.a 0) = true → s.reg R.TRACE_CFG (e.a 0) = e.af 4)) ∧
    (∃ (s : State) (tag : Fin 128) (e : Entry), s.Serves 0x0502 tag e ∧ e.a 0 < 8 ∧ s.trState (e.a 0) = 1 ∧ s.fld F.TRACE_CTL_TRIG_SRC
      (e.a 0) = 0) ∧
    (∃ (s : State) (tag : Fin 128) (e : Entry), s.Serves 0x0503 tag e ∧ e.a 0 < 8 ∧ s.trLive (e.a 0) = true) ∧
    (∃ (s : State) (tag : Fin 128) (e : Entry), s.Serves 0x0504 tag e ∧ e.a 0 < 8 ∧ 1 ≤ e.a16 8 ∧ e.a16 8 ≤ 256 ∧ s.trLive (e.a 0) =
      false ∧ e.a32 4 + e.a16 8 ≤ s.trCount (e.a 0) ∧ (s.tr (e.a 0)).copying = true) :=
  ⟨
   ⟨inFlight s1 (ent 0x0501 [7] []), 0, (ent 0x0501 [7] []), serves_of (by decide +kernel) (by decide +kernel) (by decide +kernel),
     by decide +kernel, by decide +kernel, by decide +kernel, by decide +kernel⟩,
   ⟨inFlight (mk [(F.TRACE_CTL_STATE, 7, 1)]) (ent 0x0502 [7] []), 0, (ent 0x0502 [7] []), serves_of (by decide +kernel)
     (by decide +kernel) (by decide +kernel), by decide +kernel, by decide +kernel, by decide +kernel⟩,
   ⟨inFlight (mk [(F.TRACE_CTL_STATE, 7, 2)]) (ent 0x0503 [7] []), 0, (ent 0x0503 [7] []), serves_of (by decide +kernel)
     (by decide +kernel) (by decide +kernel), by decide +kernel, by decide +kernel⟩,
   ⟨inFlight (s1.modTr 7 fun c => { c with stopped := true, buf := [5#32], copying := true }) (ent 0x0504 [7, 0, 0, 0, 0, 0, 0, 0, 1]
     []), 0, (ent 0x0504 [7, 0, 0, 0, 0, 0, 0, 0, 1] []), serves_of (by decide +kernel) (by decide +kernel) (by decide +kernel),
     by decide +kernel, by decide +kernel, by decide +kernel, by decide +kernel, by decide +kernel, by decide +kernel⟩⟩

theorem meets_TraceCommandsComplete_2 :
    (∃ (s : State) (tag : Fin 128) (e : Entry), s.Serves 0x0504 tag e ∧ e.a 0 < 8 ∧ 1 ≤ e.a16 8 ∧ e.a16 8 ≤ 256 ∧ s.trLive (e.a 0) =
      false ∧ e.a32 4 + e.a16 8 ≤ s.trCount (e.a 0) ∧ (s.tr (e.a 0)).copying = false ∧ s.trHolds (e.a 0) = true) ∧
    (∃ (s : State) (tag : Fin 128) (e : Entry), s.Serves 0x0504 tag e ∧ e.a 0 < 8 ∧ 1 ≤ e.a16 8 ∧ e.a16 8 ≤ 256 ∧ s.trLive (e.a 0) =
      false ∧ e.a32 4 + e.a16 8 ≤ s.trCount (e.a 0) ∧ (s.tr (e.a 0)).copying = false ∧ s.trHolds (e.a 0) = false) ∧
    (∃ (s : State) (ch : Fin 8), s.Canon ∧ (s.tr ch).copying = true) ∧
    (∃ (s : State) (tag : Fin 128) (e : Entry), s.Serves 0x0503 tag e ∧ e.a 0 < 8 ∧ s.trLive (e.a 0) = false) :=
  ⟨
   ⟨inFlight (s1.modTr 7 fun c => { c with stopped := true, buf := [5#32] }) (ent 0x0504 [7, 0, 0, 0, 0, 0, 0, 0, 1] []), 0, (ent 0x0504
     [7, 0, 0, 0, 0, 0, 0, 0, 1] []), serves_of (by decide +kernel) (by decide +kernel) (by decide +kernel), by decide +kernel,
     by decide +kernel, by decide +kernel, by decide +kernel, by decide +kernel, by decide +kernel, by decide +kernel⟩,
   ⟨inFlight (s1.modTr 7 fun c => { c with copy := some [5#32] }) (ent 0x0504 [7, 0, 0, 0, 0, 0, 0, 0, 1] []), 0, (ent 0x0504 [7, 0, 0,
     0, 0, 0, 0, 0, 1] []), serves_of (by decide +kernel) (by decide +kernel) (by decide +kernel), by decide +kernel, by decide +kernel,
     by decide +kernel, by decide +kernel, by decide +kernel, by decide +kernel, by decide +kernel⟩,
   ⟨s1.modTr 7 fun c => { c with copying := true }, 7, canon_of (by decide +kernel), by decide +kernel⟩,
   ⟨inFlight s1 (ent 0x0503 [7] []), 0, (ent 0x0503 [7] []), serves_of (by decide +kernel) (by decide +kernel) (by decide +kernel),
     by decide +kernel, by decide +kernel⟩⟩

theorem meets_AdcCommandsComplete_1 :
    (∃ (s : State) (core : Fin 24) (entry : Fin 8) (nv : Int) (i n : Nat), s.Canon ∧ s.gait ≠ Gait.paddock ∧ s.seqDue core entry = true ∧
      s.genHeld = false ∧ s.clkOk 5 = true ∧ s.flag F.ADC_STATUS_CAL_DONE 0 = true ∧ (s.core core).conv = none ∧ 0 ≤ s.seqAt core entry ∧
      s.seqAt core entry < s.fineP ∧ i = s.seq F.ADC_SEQ_INPUT core entry ∧ n = s.seq F.ADC_SEQ_INT core entry) ∧
    (∃ (s : State) (core : Fin 24) (entry : Fin 8) (nv : Int), s.Canon ∧ s.gait ≠ Gait.paddock ∧ s.seqDue core entry = true ∧ s.genHeld =
      false ∧ s.clkOk 5 = true ∧ s.flag F.ADC_STATUS_CAL_DONE 0 = true ∧ ((s.core core).conv.isSome = true ∨ s.seqAt core entry < 0 ∨
      s.fineP ≤ s.seqAt core entry) ∧ s.seq F.ADC_SEQ_CLE core entry = 0) ∧
    (∃ (s : State) (core : Fin 24) (entry : Fin 8) (nv : Int), s.Canon ∧ s.gait ≠ Gait.paddock ∧ s.seqDue core entry = true ∧ s.genHeld =
      false ∧ s.clkOk 5 = true ∧ s.flag F.ADC_STATUS_CAL_DONE 0 = true ∧ ((s.core core).conv.isSome = true ∨ s.seqAt core entry < 0 ∨
      s.fineP ≤ s.seqAt core entry) ∧ s.seq F.ADC_SEQ_CLE core entry = 1) ∧
    (∃ (s : State) (core : Fin 24) (nv : Int) (u : Urgent), (s.core core).urg = some u ∧ (s.core core).conv = none ∧ s.clkOk 5 = true) :=
  ⟨
   ⟨(mk [(F.ADC_STATUS_CAL_DONE, 0, 1), (F.ADC_SEQ_EN.nth 7, 23, 1)]), 23, 7, 0, _, _, canon_of (by decide +kernel), by decide +kernel,
     by decide +kernel, by decide +kernel, by decide +kernel, by decide +kernel, by decide +kernel, by decide +kernel, by decide +kernel,
     rfl, rfl⟩,
   ⟨((mk [(F.ADC_STATUS_CAL_DONE, 0, 1), (F.ADC_SEQ_EN.nth 7, 23, 1)]).modCore 23 fun c => { c with conv := some default }), 23, 7, 0,
     canon_of (by decide +kernel), by decide +kernel, by decide +kernel, by decide +kernel, by decide +kernel, by decide +kernel,
     by decide +kernel, by decide +kernel⟩,
   ⟨((mk [(F.ADC_STATUS_CAL_DONE, 0, 1), (F.ADC_SEQ_EN.nth 7, 23, 1), (F.ADC_SEQ_CLE.nth 7, 23, 1)]).modCore 23 fun c =>
     { c with conv := some default }), 23, 7, 0, canon_of (by decide +kernel), by decide +kernel, by decide +kernel, by decide +kernel,
     by decide +kernel, by decide +kernel, by decide +kernel, by decide +kernel⟩,
   ⟨(s1.modCore 23 fun c => { c with urg := some ⟨2, 5, 2, 0⟩ }), 23, 0, ⟨2, 5, 2, 0⟩, by decide +kernel, by decide +kernel,
     by decide +kernel⟩⟩

theorem meets_AdcCommandsComplete_2 :
    (∃ (s : State), s.Canon ∧ s.flag F.ADC_STATUS_REF_EXT 0 = true ∧ s.flag F.ADC_STATUS_REF_FAULT 0 = false) ∧
    (∃ s : State, s.Canon) ∧
    (∃ (s : State) (core : Fin 24) (nv : Int) (v : Conv), (s.core core).conv = some v) ∧
    (∃ (s : State) (core : Fin 24) (nv : Int), (s.core core).conv = none) :=
  ⟨
   ⟨(mk [(F.ADC_STATUS_REF_EXT, 0, 1)]), canon_of (by decide +kernel), by decide +kernel, by decide +kernel⟩,
   ⟨s1, canon_of (by decide +kernel)⟩,
   ⟨s1.modCore 23 fun c => { c with conv := some default }, 23, 0, default, by decide +kernel⟩,
   ⟨s1, 23, 0, by decide +kernel⟩⟩

theorem meets_PwmEdgeCommandsComplete_1 :
    (∃ (s : State) (equal : Fin 1024) (c : Nat × Bool) (d : Nat), s.Canon ∧ s.gait ≠ Gait.paddock ∧ d = s.fld F.DL_STAT_DL_CODE 0 ∧ c =
      calStep (s.fld F.DL_STAT_CAL_CODE 0) equal (s.fld F.DL_CTRL_CODE_LO 0) (s.fld F.DL_CTRL_CODE_HI 0) ∧ d ≤ equal.val + 1 ∧ equal.val
      ≤ d + 1 ∧ 15 ≤ s.pwm.calIn) ∧
    (∃ (s : State) (equal : Fin 1024) (c : Nat × Bool) (d : Nat), s.Canon ∧ s.gait ≠ Gait.paddock ∧ d = s.fld F.DL_STAT_DL_CODE 0 ∧ c =
      calStep (s.fld F.DL_STAT_CAL_CODE 0) equal (s.fld F.DL_CTRL_CODE_LO 0) (s.fld F.DL_CTRL_CODE_HI 0) ∧ d ≤ equal.val + 1 ∧ equal.val
      ≤ d + 1 ∧ s.pwm.calIn < 15) ∧
    (∃ (s : State) (equal : Fin 1024) (c : Nat × Bool) (d : Nat), s.Canon ∧ s.gait ≠ Gait.paddock ∧ d = s.fld F.DL_STAT_DL_CODE 0 ∧ c =
      calStep (s.fld F.DL_STAT_CAL_CODE 0) equal (s.fld F.DL_CTRL_CODE_LO 0) (s.fld F.DL_CTRL_CODE_HI 0) ∧ (equal.val + 1 < d ∨ d + 1 <
      equal.val) ∧ 15 ≤ s.pwm.calOut) ∧
    (∃ (s : State) (equal : Fin 1024) (c : Nat × Bool) (d : Nat), s.Canon ∧ s.gait ≠ Gait.paddock ∧ d = s.fld F.DL_STAT_DL_CODE 0 ∧ c =
      calStep (s.fld F.DL_STAT_CAL_CODE 0) equal (s.fld F.DL_CTRL_CODE_LO 0) (s.fld F.DL_CTRL_CODE_HI 0) ∧ (equal.val + 1 < d ∨ d + 1 <
      equal.val) ∧ s.pwm.calOut < 15) ∧
    (∃ (s : State) (equal : Fin 1024) (c : Nat × Bool) (d : Nat), s.Canon ∧ s.gait ≠ Gait.paddock ∧ d = s.fld F.DL_STAT_DL_CODE 0 ∧ c =
      calStep (s.fld F.DL_STAT_CAL_CODE 0) equal (s.fld F.DL_CTRL_CODE_LO 0) (s.fld F.DL_CTRL_CODE_HI 0) ∧ (equal.val + 1 < d ∨ d + 1 <
      equal.val) ∧ 15 ≤ s.pwm.calOut ∧ s.flag F.DL_STAT_LOCK 0 = true) ∧
    (∃ (s : State) (leg : Fin 48), s.eventAt leg ((s.now - s.pwm.tk) / 32) = true ∧ s.pwm.frozenAt = none ∧ s.pwm.first = false ∧ s.gait
      ≠ Gait.paddock ∧ (s.leg leg).presc < s.fld F.LEG_EVT_PRESC leg) :=
  ⟨
   ⟨(s1.modPwm fun w => { w with calIn := 15 }), 513, _, _, canon_of (by decide +kernel), by decide +kernel, rfl, rfl, by decide +kernel,
     by decide +kernel, by decide +kernel⟩,
   ⟨s1, 511, _, _, canon_of (by decide +kernel), by decide +kernel, rfl, rfl, by decide +kernel, by decide +kernel, by decide +kernel⟩,
   ⟨(s1.modPwm fun w => { w with calOut := 15 }), 1023, _, _, canon_of (by decide +kernel), by decide +kernel, rfl, rfl,
     by decide +kernel, by decide +kernel⟩,
   ⟨s1, 0, _, _, canon_of (by decide +kernel), by decide +kernel, rfl, rfl, by decide +kernel, by decide +kernel⟩,
   ⟨((mk [(F.DL_STAT_LOCK, 0, 1)]).modPwm fun w => { w with calOut := 15 }), 514, _, _, canon_of (by decide +kernel), by decide +kernel,
     rfl, rfl, by decide +kernel, by decide +kernel, by decide +kernel⟩,
   ⟨((mk [(F.LEG_EVT_PRESC, 47, 1)]).modPwm fun w => { w with first := false }), 47, by decide +kernel, by decide +kernel,
     by decide +kernel, by decide +kernel, by decide +kernel⟩⟩

theorem meets_PwmEdgeCommandsComplete_2 :
    (∃ (s : State) (leg : Fin 48), s.Canon ∧ s.eventAt leg ((s.now - s.pwm.tk) / 32) = true ∧ s.pwm.frozenAt = none ∧ s.pwm.first = false
      ∧ s.gait ≠ Gait.paddock ∧ s.fld F.LEG_EVT_PRESC leg ≤ (s.leg leg).presc ∧ s.flag F.LEG_EVT_D_ADC leg = true) ∧
    (∃ (s : State) (leg : Fin 48), s.Canon ∧ s.eventAt leg ((s.now - s.pwm.tk) / 32) = true ∧ s.pwm.frozenAt = none ∧ s.pwm.first = false
      ∧ s.gait ≠ Gait.paddock ∧ s.fld F.LEG_EVT_PRESC leg ≤ (s.leg leg).presc ∧ s.flag F.LEG_EVT_D_HLP leg = true) ∧
    (∃ (s : State) (leg : Fin 48), s.Canon ∧ s.eventAt leg ((s.now - s.pwm.tk) / 32) = true ∧ s.pwm.frozenAt = none ∧ s.pwm.first = false
      ∧ s.gait ≠ Gait.paddock ∧ s.fld F.LEG_EVT_PRESC leg ≤ (s.leg leg).presc ∧ s.flag F.LEG_EVT_D_CAP leg = true) ∧
    (∃ (s : State) (leg : Fin 48), s.Canon ∧ s.eventAt leg ((s.now - s.pwm.tk) / 32) = true ∧ s.pwm.frozenAt = none ∧ s.pwm.first = false
      ∧ s.gait ≠ Gait.paddock ∧ s.fld F.LEG_EVT_PRESC leg ≤ (s.leg leg).presc ∧ s.flag F.LEG_EVT_D_EVQ leg = true) ∧
    (∃ (s : State) (leg : Fin 48), s.Canon ∧ s.eventAt leg ((s.now - s.pwm.tk) / 32) = true ∧ s.pwm.frozenAt = none ∧ s.pwm.first = false
      ∧ s.gait ≠ Gait.paddock ∧ s.fld F.LEG_EVT_PRESC leg ≤ (s.leg leg).presc ∧ s.flag F.LEG_EVT_D_ADC leg = false) ∧
    (∃ (s : State) (leg : Fin 48) (top on : Bool) (instant : Nat) (t : State), s.clkOk 4 = true ∧ s.pwm.frozenAt = none ∧ t = s.takeEdges
      leg (min instant s.fineP) ∧ t.outLevel leg top = on ∧ (if top then (s.leg leg).seenTop else (s.leg leg).seenBot) ≠ on) :=
  ⟨
   ⟨((mk [(F.LEG_EVT_D_ADC, 47, 1)]).modPwm fun w => { w with first := false }), 47, canon_of (by decide +kernel), by decide +kernel,
     by decide +kernel, by decide +kernel, by decide +kernel, by decide +kernel, by decide +kernel⟩,
   ⟨((mk [(F.LEG_EVT_D_HLP, 47, 1)]).modPwm fun w => { w with first := false }), 47, canon_of (by decide +kernel), by decide +kernel,
     by decide +kernel, by decide +kernel, by decide +kernel, by decide +kernel, by decide +kernel⟩,
   ⟨((mk [(F.LEG_EVT_D_CAP, 47, 1)]).modPwm fun w => { w with first := false }), 47, canon_of (by decide +kernel), by decide +kernel,
     by decide +kernel, by decide +kernel, by decide +kernel, by decide +kernel, by decide +kernel⟩,
   ⟨((mk [(F.LEG_EVT_D_EVQ, 47, 1)]).modPwm fun w => { w with first := false }), 47, canon_of (by decide +kernel), by decide +kernel,
     by decide +kernel, by decide +kernel, by decide +kernel, by decide +kernel, by decide +kernel⟩,
   ⟨(s1.modPwm fun w => { w with first := false }), 47, canon_of (by decide +kernel), by decide +kernel, by decide +kernel,
     by decide +kernel, by decide +kernel, by decide +kernel, by decide +kernel⟩,
   ⟨((mk [(F.CLK_STAT_CLK_OK, 0, 0xFF), (F.LEG_CFG_GL, 47, 1)]).modLeg 47 fun l => { l with topOn := true }), 47, true, true, 100, _,
     by decide +kernel, by decide +kernel, rfl, by decide +kernel, by decide +kernel⟩⟩

theorem meets_TripCommandsComplete :
    (∃ (s : State) (ain : Fin 48) (upper : Bool) (nv : Int), (s.setVin ain nv).cmpLive ain = true ∧ (s.setVin ain nv).beyond ain upper nv
      = true ∧ (s.setVin ain nv).flag (outOf upper) ain = false) ∧
    (∃ (s : State) (ain : Fin 48) (upper : Bool) (nv : Int), (s.setVin ain nv).cmpLive ain = true ∧ (s.setVin ain nv).passedBack ain
      upper nv = true) ∧
    (∃ (s : State) (pin : Fin 8), bitOf s.pwm.pins pin = true) ∧
    (∃ (s : State) (grp : Fin 8) (src : Nat) (l : List Nat), vget s.pwm.srcs grp.val ++ s.caughtPins grp = src :: l ∧ s.flag
      F.TG_STAT_TRIPPED grp = false ∧ s.clkOk 4 = true) ∧
    (∃ (s : State) (wt : Fin 8), bitOf s.pwm.blank wt = true) :=
  ⟨
   ⟨(mk [(F.CMP_CFG_EN, 47, 1), (F.CMP_STAT_THR_HI, 47, 2048)]), 47, true, 1000000000, by decide +kernel, by decide +kernel,
     by decide +kernel⟩,
   ⟨(mk [(F.CMP_CFG_EN, 47, 1), (F.CMP_STAT_OUT_HI, 47, 1), (F.CMP_STAT_THR_HI, 47, 2048)]), 47, true, -1000000000, by decide +kernel,
     by decide +kernel⟩,
   ⟨s1.modPwm fun w => { w with pins := 128 }, 7, by decide +kernel⟩,
   ⟨((mk [(F.CLK_STAT_CLK_OK, 0, 255)]).modPwm fun w => { w with srcs := vmod w.srcs 7 fun _ => [3] }), 7, 3, [], by decide +kernel,
     by decide +kernel, by decide +kernel⟩,
   ⟨(s1.modPwm fun w => { w with blank := 128 }), 7, by decide +kernel⟩⟩

theorem meets_SigmaDeltaCommandsComplete_1 :
    (∃ (s : State) (grp : Fin 8) (i : Nat), s.Canon ∧ s.gait ≠ Gait.paddock ∧ i < 32 ∧ s.flag F.SD_CFG_EN i = true ∧ s.fld F.SD_CFG_GRP i
      = grp ∧ s.flag F.SD_STAT_CLK_LOSS i = false) ∧
    (∃ (s : State) (grp : Fin 8) (i : Nat), s.Canon ∧ s.gait ≠ Gait.paddock ∧ i < 32 ∧ s.flag F.SD_CFG_EN i = true ∧ s.fld F.SD_CFG_GRP i
      = grp ∧ s.flag F.SD_STAT_CLK_FREQ i = false ∧ s.fld (F.SD_GRP_MODE.nth grp) 0 ≠ 1) ∧
    (∃ (s : State) (grp : Fin 8), s.gait ≠ Gait.paddock) ∧
    (∃ (s : State) (inp : Fin 32) (bits all : List Bool) (y : Int), s.Canon ∧ s.flag F.SD_CFG_EN inp = true ∧ s.gait ≠ Gait.paddock ∧
      s.sdClkErr inp = false ∧ bits.length = s.sdM inp ∧ all = bits.reverse ++ (s.sdIn inp).bits ∧ y = sincOut (s.sdM inp) (s.sdN inp)
      all ∧ isStep (s.fld (F.SD_PROF_STEP_THR.nth (s.sdProf inp)) 0) (s.sdM inp ^ s.sdN inp) y ((s.sdIn inp).outs.headD 0) = true) ∧
    (∃ (s : State) (inp : Fin 32) (bits all : List Bool) (y : Int), s.Canon ∧ s.flag F.SD_CFG_EN inp = true ∧ s.gait ≠ Gait.paddock ∧
      s.sdClkErr inp = false ∧ bits.length = s.sdM inp ∧ all = bits.reverse ++ (s.sdIn inp).bits ∧ y = sincOut (s.sdM inp) (s.sdN inp)
      all ∧ isStep (s.fld (F.SD_PROF_STEP_THR.nth (s.sdProf inp)) 0) (s.sdM inp ^ s.sdN inp) y ((s.sdIn inp).outs.headD 0) = false) ∧
    (∃ (s : State) (inp : Fin 32), s.Canon ∧ s.flag F.SD_CFG_EN inp = true ∧ s.gait ≠ Gait.paddock ∧ s.sdClkErr inp = true) :=
  ⟨
   ⟨(mk [(F.SD_CFG_EN, 31, 1), (F.SD_CFG_GRP, 31, 7)]), 7, 31, canon_of (by decide +kernel), by decide +kernel, by decide +kernel,
     by decide +kernel, by decide +kernel, by decide +kernel⟩,
   ⟨(mk [(F.SD_CFG_EN, 31, 1), (F.SD_CFG_GRP, 31, 7)]), 7, 31, canon_of (by decide +kernel), by decide +kernel, by decide +kernel,
     by decide +kernel, by decide +kernel, by decide +kernel, by decide +kernel⟩,
   ⟨s1, 7, by decide +kernel⟩,
   ⟨(mk [(F.SD_CFG_EN, 31, 1), (F.SD_PROF_STEP_THR.nth 0, 0, 1)]), 31, List.replicate ((mk [(F.SD_CFG_EN, 31, 1), (F.SD_PROF_STEP_THR.nth
     0, 0, 1)]).sdM 31) true, _, _, canon_of (by decide +kernel), by decide +kernel, by decide +kernel, by decide +kernel,
     by decide +kernel, rfl, rfl, by decide +kernel⟩,
   ⟨(mk [(F.SD_CFG_EN, 31, 1)]), 31, List.replicate (mk [(F.SD_CFG_EN, 31, 1)] |>.sdM 31) true, _, _, canon_of (by decide +kernel),
     by decide +kernel, by decide +kernel, by decide +kernel, by decide +kernel, rfl, rfl, by decide +kernel⟩,
   ⟨(mk [(F.SD_CFG_EN, 31, 1), (F.SD_STAT_CLK_LOSS, 31, 1)]), 31, canon_of (by decide +kernel), by decide +kernel, by decide +kernel,
     by decide +kernel⟩⟩

theorem meets_SigmaDeltaCommandsComplete_2 :
    (∃ (s : State), s.gait ≠ Gait.paddock ∧ (s.sdInUse = false ∨ s.flag F.SD_CTRL_PIN_FORCE 0 = true)) ∧
    (∃ (s : State), s.Canon ∧ s.gait ≠ Gait.paddock ∧ s.sdInUse = true ∧ s.flag F.SD_CTRL_PIN_FORCE 0 = false) ∧
    (∃ (s : State) (prof : Fin 4), bitOf s.sd.badProf prof = true) ∧
    (∃ (s : State) (prof : Fin 4), bitOf s.sd.badProf prof = false) ∧
    (∃ (s : State) (prof : Fin 4), vget s.sd.tiles prof ≠ []) ∧
    (∃ (s : State) (tag : Fin 128) (e : Entry), s.Serves 0x0108 tag e ∧ s.sdInUse = false) :=
  ⟨
   ⟨s1, by decide +kernel, by decide +kernel⟩,
   ⟨(mk [(F.SD_CFG_EN, 31, 1), (F.PORT_STATUS_STATE, 0, 5)]).modPort 0 fun p =>
     { p with cfg := { p.cfg with configured := true, sensors := [0x21F00000#32] } }, canon_of (by decide +kernel), by decide +kernel,
     by decide +kernel, by decide +kernel⟩,
   ⟨{ s1 with sd := { s1.sd with badProf := 8 } }, 3, by decide +kernel⟩,
   ⟨s1, 3, by decide +kernel⟩,
   ⟨{ s1 with sd := { s1.sd with tiles := Vector.replicate 4 [1#32] } }, 3, by decide +kernel⟩,
   ⟨inFlight s1 (ent 0x0108 [] []), 0, (ent 0x0108 [] []), serves_of (by decide +kernel) (by decide +kernel) (by decide +kernel),
     by decide +kernel⟩⟩

theorem meets_CaptureCommandsComplete_1 :
    (∃ (s : State), s.Canon ∧ s.cap.fifo ≠ [] ∧ s.netRuns = true ∧ s.flag F.MAC_STAT_LINK 2 = true ∧ s.serves 3 = true ∧ s.txHeld 2 =
      false) ∧
    (∃ (s : State), s.Canon ∧ s.capState = 2 ∧ s.cap.fifo = []) ∧
    (∃ (s : State), s.Canon ∧ s.capState = 2) ∧
    (∃ (s : State) (tag : Fin 128) (e : Entry), s.Serves 0x0601 tag e ∧ e.payload.length = 8 * e.a 8 ∧ e.a 0 ≤ 1 ∧ e.a 1 ≤ 5 ∧ e.a 8 ≠ 0
      ∧ e.a 8 ≤ 32 ∧ (∀ i < e.a 8, (capSrcAt e.payload (8 * i)).2 = true ∧ (capSrcAt e.payload (8 * i)).1.ok = true) ∧ s.capRuns = false
      ∧ capBytes ((List.range (e.a 8)).map fun i => (capSrcAt e.payload (8 * i)).1) s.fineP ≤ 100000000) ∧
    (∃ (s : State) (tag : Fin 128) (e : Entry), s.Serves 0x0602 tag e ∧ s.capState = 0 ∧ s.cap.startAt = none) :=
  ⟨
   ⟨{ mk [(F.CLK_STAT_CLK_OK, 0, 0xFF), (F.MAC_STAT_LINK, 2, 1)] with cap := { s1.cap with fifo := [default] } }, canon_of
     (by decide +kernel), by decide +kernel, by decide +kernel, by decide +kernel, by decide +kernel, by decide +kernel⟩,
   ⟨(mk [(F.CAP_STAT_STATE, 0, 2)]), canon_of (by decide +kernel), by decide +kernel, by decide +kernel⟩,
   ⟨(mk [(F.CAP_STAT_STATE, 0, 2)]), canon_of (by decide +kernel), by decide +kernel⟩,
   ⟨inFlight s1 (ent 0x0601 [1, 5, 0, 0, 0, 0, 0, 0, 1] (by8 [3, 62, 3, 0, 0, 0, 0, 0])), 0, (ent 0x0601 [1, 5, 0, 0, 0, 0, 0, 0, 1] (by8
     [3, 62, 3, 0, 0, 0, 0, 0])), serves_of (by decide +kernel) (by decide +kernel) (by decide +kernel), by decide +kernel,
     by decide +kernel, by decide +kernel, by decide +kernel, by decide +kernel, by decide +kernel, by decide +kernel, by decide +kernel⟩,
   ⟨inFlight s1 (ent 0x0602 [] []), 0, (ent 0x0602 [] []), serves_of (by decide +kernel) (by decide +kernel) (by decide +kernel),
     by decide +kernel, by decide +kernel⟩⟩

theorem meets_CaptureCommandsComplete_2 :
    (∃ (s : State) (tag : Fin 128) (e : Entry), s.Serves 0x0603 tag e ∧ s.capState = 1 ∧ s.cap.stopAt = none) ∧
    (∃ (s : State) (tag : Fin 128) (e : Entry), s.Serves 0x0604 tag e ∧ e.a 0 < 4 ∧ periodSrc (capSrcAt e.args 4) = true ∧ edgesOk (e.af
      12) (e.af 16) = true ∧ s.capRuns = false) ∧
    (∃ (s : State) (tag : Fin 128) (e : Entry), s.Serves 0x0605 tag e ∧ e.a 0 < 4 ∧ 1 ≤ e.a16 4 ∧ e.a16 4 ≤ 256 ∧ e.a16 2 + e.a16 4 ≤
      4096) ∧
    (∃ (s : State) (tag : Fin 128) (e : Entry), s.Serves 0x0606 tag e ∧ periodSrc (capSrcAt e.args 4) = true ∧ periodSrc (capSrcAt e.args
      12) = true ∧ edgesOk (e.af 20) (e.af 24) = true ∧ edgesOk (e.af 28) (e.af 32) = true ∧ s.capRuns = false) ∧
    (∃ (s : State) (tag : Fin 128) (e : Entry), s.Serves 0x0607 tag e ∧ 1 ≤ e.a 1 ∧ e.a 1 ≤ 2 ∧ e.a 0 + e.a 1 ≤ 256) :=
  ⟨
   ⟨inFlight (mk [(F.CAP_STAT_STATE, 0, 1)]) (ent 0x0603 [] []), 0, (ent 0x0603 [] []), serves_of (by decide +kernel) (by decide +kernel)
     (by decide +kernel), by decide +kernel, by decide +kernel⟩,
   ⟨inFlight s1 (ent 0x0604 [3, 0, 0, 0, 3, 62, 3, 0, 0, 0, 0, 0, 0, 0, 0, 0, 0, 0, 128, 63] []), 0, (ent 0x0604 [3, 0, 0, 0, 3, 62, 3,
     0, 0, 0, 0, 0, 0, 0, 0, 0, 0, 0, 128, 63] []), serves_of (by decide +kernel) (by decide +kernel) (by decide +kernel),
     by decide +kernel, by decide +kernel, by decide +kernel, by decide +kernel⟩,
   ⟨inFlight s1 (ent 0x0605 [3, 0, 0, 15, 0, 1] []), 0, (ent 0x0605 [3, 0, 0, 15, 0, 1] []), serves_of (by decide +kernel)
     (by decide +kernel) (by decide +kernel), by decide +kernel, by decide +kernel, by decide +kernel, by decide +kernel⟩,
   ⟨inFlight s1 (ent 0x0606 [0, 0, 0, 0, 3, 62, 3, 0, 0, 0, 0, 0, 3, 62, 3, 0, 0, 0, 0, 0, 0, 0, 0, 0, 0, 0, 128, 63, 0, 0, 0, 0, 0, 0,
     128, 63] []), 0, (ent 0x0606 [0, 0, 0, 0, 3, 62, 3, 0, 0, 0, 0, 0, 3, 62, 3, 0, 0, 0, 0, 0, 0, 0, 0, 0, 0, 0, 128, 63, 0, 0, 0, 0,
     0, 0, 128, 63] []), serves_of (by decide +kernel) (by decide +kernel) (by decide +kernel), by decide +kernel, by decide +kernel,
     by decide +kernel, by decide +kernel, by decide +kernel⟩,
   ⟨inFlight s1 (ent 0x0607 [254, 2] []), 0, (ent 0x0607 [254, 2] []), serves_of (by decide +kernel) (by decide +kernel)
     (by decide +kernel), by decide +kernel, by decide +kernel, by decide +kernel⟩⟩

theorem meets_CaptureCommandsComplete_3 :
    (∃ (s : State) (r : EvRec) (rest : List EvRec), s.Canon ∧ s.fencenRuns = true ∧ s.serves 6 = true ∧ s.evq.queue = r :: rest ∧
      (s.recd.island = [] ∨ s.recd.on = false) ∧ s.recd.on = true ∧ r.flags % 2 = 0) ∧
    (∃ (s : State) (r : EvRec) (rest : List EvRec), s.Canon ∧ s.fencenRuns = true ∧ s.serves 6 = true ∧ s.evq.queue = r :: rest ∧
      (s.recd.island = [] ∨ s.recd.on = false) ∧ (s.recd.on = false ∨ r.flags % 2 = 1)) ∧
    (∃ (s : State) (r : EvRec) (rest : List EvRec), s.recd.on = true ∧ s.gait ≠ Gait.paddock ∧ s.recd.island = r :: rest) ∧
    (∃ (s : State) (tag : Fin 128) (e : Entry), s.Serves 0x0602 tag e ∧ s.capState = 1) ∧
    (∃ (s : State) (tag : Fin 128) (e : Entry), s.Serves 0x0603 tag e ∧ s.capState = 0) :=
  ⟨
   ⟨{ s1 with evq := { s1.evq with queue := [default] }, boot := { s1.boot with held := [] }, recd := { s1.recd with on := true } },
     default, [], canon_of (by decide +kernel), by decide +kernel, by decide +kernel, by decide +kernel, by decide +kernel,
     by decide +kernel, by decide +kernel⟩,
   ⟨{ s1 with evq := { s1.evq with queue := [default] }, boot := { s1.boot with held := [] } }, default, [], canon_of
     (by decide +kernel), by decide +kernel, by decide +kernel, by decide +kernel, by decide +kernel, by decide +kernel⟩,
   ⟨{ s1 with recd := { s1.recd with on := true, island := [default] } }, default, [], by decide +kernel, by decide +kernel,
     by decide +kernel⟩,
   ⟨inFlight (mk [(F.CAP_STAT_STATE, 0, 1)]) (ent 0x0602 [] []), 0, (ent 0x0602 [] []), serves_of (by decide +kernel) (by decide +kernel)
     (by decide +kernel), by decide +kernel⟩,
   ⟨inFlight s1 (ent 0x0603 [] []), 0, (ent 0x0603 [] []), serves_of (by decide +kernel) (by decide +kernel) (by decide +kernel),
     by decide +kernel⟩⟩

theorem meets_PortConditionCommandsComplete_1 :
    (∃ (s : State) (p : Fin 4), ((s.pstate p = PS.blackstart ∧ (s.port p).switching = false) ∨ s.pstate p = PS.matching) ∧ s.flag
      F.PORT_STATUS_BKR_FB p = false) ∧
    (∃ (s : State) (p : Fin 4), s.pstate p = PS.presync) ∧
    (∃ (s : State) (p : Fin 4), s.pstate p = PS.presync ∧ s.windowFull p = true ∧ s.lockOk p = true) ∧
    (∃ (s : State) (p : Fin 4), s.pstate p = PS.presync ∧ s.windowFull p = true ∧ s.lockOk p = false) ∧
    (∃ (s : State) (p : Fin 4), s.windowFull p = false) :=
  ⟨
   ⟨(mk [(F.PORT_STATUS_STATE, 3, 4)]), 3, by decide +kernel, by decide +kernel⟩,
   ⟨(mk [(F.PORT_STATUS_STATE, 3, 3)]), 3, by decide +kernel⟩,
   ⟨(((coefWord ((mk [(F.PORT_STATUS_STATE, 3, 3)])) 2 0x42480000#32).modPort 3 fun p =>
     { p with cfg := { p.cfg with members := [(.pll, 0)] } }).modPort 3 fun p => { p with winPeriods := 1000000 }).warm 0, 3,
     by decide +kernel, by decide +kernel, by decide +kernel⟩,
   ⟨((coefWord ((mk [(F.PORT_STATUS_STATE, 3, 3)])) 2 0x42480000#32)).modPort 3 fun p => { p with winPeriods := 1000000 }, 3,
     by decide +kernel, by decide +kernel, by decide +kernel⟩,
   ⟨s1, 3, by decide +kernel⟩⟩

theorem meets_PortConditionCommandsComplete_2 :
    (∃ (s : State) (p : Fin 4), s.blackDone p = true) ∧
    (∃ (s : State) (p : Fin 4) (high : Bool), s.pstate p = PS.blackstart ∧ (s.port p).switching = true ∧ 0 < (if high then (s.port
      p).trkHigh else (s.port p).trkLow) ∧ s.lasts (if high then (s.port p).trkHigh else (s.port p).trkLow) (s.pw p 36) = true) ∧
    (∃ (s : State) (p : Fin 4), s.pstate p = PS.matching ∧ (s.port p).hlpBkr = true) ∧
    (∃ (s : State) (p : Fin 12), s.pstate p = PS.run ∧ s.envN p ≤ s.fld F.PORT_ENV_RUN_LEN p ∧ p.val < 4 ∧ s.clEn p = true) ∧
    (∃ (s : State) (p : Fin 12), (s.pstate p = PS.run ∨ 4 ≤ p.val ∧ s.pstate p = PS.rampdown) ∧ s.envN p ≤ s.fld F.PORT_ENV_RUN_LEN p ∧
      (4 ≤ p.val ∨ s.clEn p = false) ∧ (s.port p).persistPosted = false) :=
  ⟨
   ⟨(coefWord (coefWord (mk [(F.PORT_STATUS_STATE, 3, 2)]) 0 0x3F800000#32) 1 0x3F800000#32).modPort 3 fun p =>
     { p with switching := true, rampPeriods := some 1000000 }, 3, by decide +kernel⟩,
   ⟨(coefWord (coefWord (mk [(F.PORT_STATUS_STATE, 3, 2)]) 0 0x3F800000#32) 1 0x3F800000#32).modPort 3 fun p =>
     { p with switching := true, trkHigh := 1 }, 3, true, by decide +kernel, by decide +kernel, by decide +kernel, by decide +kernel⟩,
   ⟨(mk [(F.PORT_STATUS_STATE, 3, 4)]).modPort 3 fun p => { p with hlpBkr := true }, 3, by decide +kernel, by decide +kernel⟩,
   ⟨(mk [(F.PORT_STATUS_STATE, 3, 5), (F.PORT_ENV_RUN_LEN, 3, 255)]).modPort 3 fun p => { p with cfg := { p.cfg with flags := 4 } }, 3,
     by decide +kernel, by decide +kernel, by decide +kernel, by decide +kernel⟩,
   ⟨(mk [(F.PORT_STATUS_STATE, 11, 7), (F.PORT_ENV_RUN_LEN, 11, 255)]), 11, by decide +kernel, by decide +kernel, by decide +kernel,
     by decide +kernel⟩⟩

theorem meets_PortConditionCommandsComplete_3 :
    (∃ (s : State) (p : Fin 4) (k : Nat), s.pstate p = PS.curlim ∧ (s.port p).clRamp = some k ∧ s.lasts k (s.pw p 31) = true) ∧
    (∃ (s : State) (p : Fin 12), 4 ≤ p.val ∧ (s.pstate p = PS.run ∨ s.pstate p = PS.rampdown) ∧ s.vdcInside p = false) ∧
    (∃ (s : State) (p : Fin 12), s.pstate p = PS.rampdown ∧ (s.port p).rdSrs = false ∧ fIsZero (s.port p).scale = true) ∧
    (∃ (s : State) (p : Fin 12), s.pstate p = PS.rampdown ∧ (s.port p).rdSrs = true ∧ fIsZero (s.port p).scale = true) :=
  ⟨
   ⟨(mk [(F.PORT_STATUS_STATE, 3, 6)]).modPort 3 fun p => { p with clRamp := some 1000000 }, 3, 1000000, by decide +kernel,
     by decide +kernel, by decide +kernel⟩,
   ⟨(mk [(F.PORT_STATUS_STATE, 11, 7)]), 11, by decide +kernel, by decide +kernel, by decide +kernel⟩,
   ⟨(mk [(F.PORT_STATUS_STATE, 11, 7)]).modPort 11 fun p => { p with scale := 0#32 }, 11, by decide +kernel, by decide +kernel,
     by decide +kernel⟩,
   ⟨(mk [(F.PORT_STATUS_STATE, 11, 7)]).modPort 11 fun p => { p with scale := 0#32, rdSrs := true }, 11, by decide +kernel,
     by decide +kernel, by decide +kernel⟩⟩

theorem meets_CurlimAndPullCommandsComplete :
    (∃ (s : State) (p : Fin 4), s.Canon ∧ s.pstate p = PS.curlim ∧ (s.port p).clRamp = none ∧ ((s.port p).hit && (s.port p).counted) =
      false ∧ s.lasts (s.port p).quiet (s.pw p 30) = true ∧ fLt (s.port p).iStar (fMul 0x3F666666#32 (s.pw p 22)) = true) ∧
    (∃ (s : State) (p : Fin 4), s.Canon ∧ s.pstate p = PS.curlim ∧ fLt 0#32 (s.pw p 32) = true ∧ bitOf (s.port p).cfg.flags 4 = false) ∧
    (∃ (s : State) (p : Fin 4), s.pstate p = PS.curlim ∧ fLt 0#32 (s.pw p 32) = true ∧ bitOf (s.port p).cfg.flags 4 = true) ∧
    (∃ (s : State) (p : Fin 4) (k : Nat), s.Canon ∧ (s.port p).pull = some k) :=
  ⟨
   ⟨coefWord (mk [(F.PORT_STATUS_STATE, 3, 6)]) 22 0x3F800000#32, 3, canon_of (by decide +kernel), by decide +kernel, by decide +kernel,
     by decide +kernel, by decide +kernel, by decide +kernel⟩,
   ⟨coefWord (mk [(F.PORT_STATUS_STATE, 3, 6)]) 32 0x3F800000#32, 3, canon_of (by decide +kernel), by decide +kernel, by decide +kernel,
     by decide +kernel⟩,
   ⟨(coefWord (mk [(F.PORT_STATUS_STATE, 3, 6)]) 32 0x3F800000#32).modPort 3 fun p => { p with cfg := { p.cfg with flags := 16 } }, 3,
     by decide +kernel, by decide +kernel, by decide +kernel⟩,
   ⟨s1.modPort 3 fun p => { p with pull := some 7 }, 3, 7, canon_of (by decide +kernel), by decide +kernel⟩⟩

theorem meets_RunPortAndSetpointCommandsComplete_1 :
    (∃ (s : State) (tag : Fin 128) (e : Entry), s.Serves 0x0201 tag e ∧ s.devState = 1 ∧ s.fld F.RST_STAT_UNCLEAN 0 = 0 ∧
      (s.coef.found.any fun x => x.1 == 5) = false) ∧
    (∃ (s : State) (tag : Fin 128) (e : Entry), s.Serves 0x0202 tag e ∧ s.devState = 2 ∧ s.allOff = true) ∧
    (∃ (s : State) (tag : Fin 128) (e : Entry), s.Serves 0x0205 tag e ∧ s.PortOpen e ∧ s.armCheck (e.a 0) = none) ∧
    (∃ (s : State) (tag : Fin 128) (e : Entry), s.Serves 0x0206 tag e ∧ s.PortOpen e) ∧
    (∃ (s : State) (tag : Fin 128) (e : Entry) (n : Nat), s.Serves 0x0207 tag e ∧ s.PortOpen e ∧ e.a 1 ≤ 2 ∧ (e.a 0 < 4 ∨ e.a 1 = 0) ∧
      leAt e.args 10 4 < 1000000000 ∧ (∀ x, s.startTime e = some x → x ≤ (vget s.tb 0).ticks + 60 * 1000000000 * 65536) ∧ s.startTo (e.a
      0) (e.a 1) = .inl n) ∧
    (∃ (s : State) (tag : Fin 128) (e : Entry), s.Serves 0x0208 tag e ∧ s.PortOpen e ∧ (e.a32 4 = 0 ∨ 10 ≤ e.a32 4 ∧ e.a32 4 ≤ 60000)) :=
  ⟨
   ⟨inFlight (mk [(F.IDENT_STATE_DEV_STATE, 0, 1)]) (ent 0x0201 [] []), 0, (ent 0x0201 [] []), serves_of (by decide +kernel)
     (by decide +kernel) (by decide +kernel), by decide +kernel, by decide +kernel, by decide +kernel⟩,
   ⟨inFlight s1 (ent 0x0202 [] []), 0, (ent 0x0202 [] []), serves_of (by decide +kernel) (by decide +kernel) (by decide +kernel),
     by decide +kernel, by decide +kernel⟩,
   ⟨inFlight armable (ent 0x0205 [11] []), 0, (ent 0x0205 [11] []), serves_of (by decide +kernel) (by decide +kernel)
     (by decide +kernel), portOpen_of (by decide +kernel) (by decide +kernel) (by decide +kernel) (by decide +kernel)
     (by decide +kernel), by decide +kernel⟩,
   ⟨inFlight ((mk [(F.IDENT_STATE_DEV_STATE, 0, 2), (F.PORT_STATUS_STATE, 11, 1)]).modPort 11 fun p =>
     { p with cfg := { p.cfg with configured := true } }) (ent 0x0206 [11] []), 0, (ent 0x0206 [11] []), serves_of (by decide +kernel)
     (by decide +kernel) (by decide +kernel), portOpen_of (by decide +kernel) (by decide +kernel) (by decide +kernel) (by decide +kernel)
     (by decide +kernel)⟩,
   ⟨inFlight ((mk [(F.IDENT_STATE_DEV_STATE, 0, 2), (F.PORT_STATUS_STATE, 11, 1)]).modPort 11 fun p =>
     { p with cfg := { p.cfg with configured := true } }) (ent 0x0207 [11, 0] []), 0, (ent 0x0207 [11, 0] []), PS.run, serves_of
     (by decide +kernel) (by decide +kernel) (by decide +kernel), portOpen_of (by decide +kernel) (by decide +kernel) (by decide +kernel)
     (by decide +kernel) (by decide +kernel), by decide +kernel, by decide +kernel, by decide +kernel, none_of (by decide +kernel),
     by decide +kernel⟩,
   ⟨inFlight ((mk [(F.IDENT_STATE_DEV_STATE, 0, 2), (F.PORT_STATUS_STATE, 3, 5)]).modPort 3 fun p =>
     { p with cfg := { p.cfg with configured := true } }) (ent 0x0208 [3, 0, 0, 0, 96, 234] []), 0, (ent 0x0208 [3, 0, 0, 0, 96, 234]
     []), serves_of (by decide +kernel) (by decide +kernel) (by decide +kernel), portOpen_of (by decide +kernel) (by decide +kernel)
     (by decide +kernel) (by decide +kernel) (by decide +kernel), by decide +kernel⟩⟩

theorem meets_RunPortAndSetpointCommandsComplete_2 :
    (∃ (s : State) (tag : Fin 128) (e : Entry), s.Serves 0x0209 tag e ∧ s.PortOpen e ∧ s.portLatched (e.a 0) = false) ∧
    (∃ (s : State) (tag : Fin 128) (e : Entry), s.Serves 0x020A tag e ∧ s.PortOpen e) ∧
    (∃ (s : State) (tag : Fin 128) (e : Entry), s.Serves 0x020B tag e ∧ s.PortOpen e) ∧
    (∃ (s : State) (tag : Fin 128) (e : Entry), s.Serves 0x0301 tag e ∧ s.spAcOk e = true ∧ s.roleBad = false) ∧
    (∃ (s : State) (tag : Fin 128) (e : Entry), s.Serves 0x0302 tag e ∧ s.spDcOk e = true ∧ s.roleBad = false) ∧
    (∃ (s : State) (tag : Fin 128) (e : Entry), s.Serves 0x0303 tag e ∧ slewOk e = true ∧ s.roleBad = false) :=
  ⟨
   ⟨inFlight ((mk [(F.IDENT_STATE_DEV_STATE, 0, 2), (F.PORT_STATUS_STATE, 3, 8)]).modPort 3 fun p =>
     { p with cfg := { p.cfg with configured := true } }) (ent 0x0209 [3] []), 0, (ent 0x0209 [3] []), serves_of (by decide +kernel)
     (by decide +kernel) (by decide +kernel), portOpen_of (by decide +kernel) (by decide +kernel) (by decide +kernel) (by decide +kernel)
     (by decide +kernel), by decide +kernel⟩,
   ⟨inFlight ((mk [(F.IDENT_STATE_DEV_STATE, 0, 2), (F.PORT_STATUS_STATE, 3, 5)]).modPort 3 fun p =>
     { p with cfg := { p.cfg with configured := true } }) (ent 0x020A [3] []), 0, (ent 0x020A [3] []), serves_of (by decide +kernel)
     (by decide +kernel) (by decide +kernel), portOpen_of (by decide +kernel) (by decide +kernel) (by decide +kernel) (by decide +kernel)
     (by decide +kernel)⟩,
   ⟨inFlight ((mk [(F.IDENT_STATE_DEV_STATE, 0, 2), (F.PORT_STATUS_STATE, 3, 5)]).modPort 3 fun p =>
     { p with cfg := { p.cfg with configured := true } }) (ent 0x020B [3] []), 0, (ent 0x020B [3] []), serves_of (by decide +kernel)
     (by decide +kernel) (by decide +kernel), portOpen_of (by decide +kernel) (by decide +kernel) (by decide +kernel) (by decide +kernel)
     (by decide +kernel)⟩,
   ⟨inFlight s1 (ent 0x0301 [3, 3, 0, 0, 0, 0, 0, 64, 0, 0, 0, 192] []), 0, (ent 0x0301 [3, 3, 0, 0, 0, 0, 0, 64, 0, 0, 0, 192] []),
     serves_of (by decide +kernel) (by decide +kernel) (by decide +kernel), by decide +kernel, by decide +kernel⟩,
   ⟨inFlight (coefWord (coefWord s1 0 0x3F800000#32) 1 0x3F800000#32) (ent 0x0302 [11, 6, 0, 0, 0, 0, 0, 0, 0, 0, 128, 63, 0, 0, 128, 63]
     []), 0, (ent 0x0302 [11, 6, 0, 0, 0, 0, 0, 0, 0, 0, 128, 63, 0, 0, 128, 63] []), serves_of (by decide +kernel) (by decide +kernel)
     (by decide +kernel), by decide +kernel, by decide +kernel⟩,
   ⟨inFlight s1 (ent 0x0303 [3, 0, 0, 0, 0, 0, 128, 63, 10, 215, 35, 60, 0, 0, 128, 63] []), 0, (ent 0x0303 [3, 0, 0, 0, 0, 0, 128, 63,
     10, 215, 35, 60, 0, 0, 128, 63] []), serves_of (by decide +kernel) (by decide +kernel) (by decide +kernel), by decide +kernel,
     by decide +kernel⟩⟩

theorem meets_RunPortAndSetpointCommandsComplete_3 :
    (∃ (s : State) (tag : Fin 128) (e : Entry), s.Inv ∧ s.svpRuns = true ∧ (s.fcp.inflight.find? fun x => x.tag == tag.val && x.op / 256
      == 3 && x.started) = some e ∧ s.atBoundary e = true ∧ s.setpointTurn e = true) ∧
    (∃ (s : State) (e : Entry) (k : Nat), k < 4 ∧ e.op = 0x0301 ∧ e.a 0 < 12) ∧
    (∃ (s : State) (e : Entry), e.op = 0x0302 ∧ e.a 0 < 12) ∧
    (∃ (s : State) (e : Entry), e.op = 0x0303 ∧ e.a 0 < 12) :=
  ⟨
   ⟨inFlight (s1.modPwm fun w => { w with bnd := 1 }) (entW 0x0301 [] []), 0, entW 0x0301 [] [], inv_of (by decide +kernel),
     by decide +kernel, by decide +kernel, by decide +kernel, by decide +kernel⟩,
   ⟨s1, ent 0x0301 [11] [], 3, by decide +kernel, by decide +kernel, by decide +kernel⟩,
   ⟨s1, ent 0x0302 [11] [], by decide +kernel, by decide +kernel⟩,
   ⟨s1, ent 0x0303 [11] [], by decide +kernel, by decide +kernel⟩⟩

theorem meets_ResetSourceCommandsComplete_1 :
    (∃ s : State, s.boot.reach ≠ some 0) ∧
    (∃ s : State, s.boot.reach ≠ some 0) ∧
    (∃ s : State, bitOf (s.fld F.OPT_STAT_OPTIONS 0) 5 = true) ∧
    (∃ s : State, s.Canon ∧ bitOf (s.fld F.OPT_STAT_OPTIONS 0) 5 = false ∧ s.boot.reach = none ∧ s.fld F.STW_STATUS_STATE 0 = 0 ∧ s.fld
      F.PAIR_STATUS_STATE 0 = 0 ∧ s.flag F.PAIR_STATUS_ACT_OUT 0 = false) ∧
    (∃ s : State, s.Canon ∧ bitOf (s.fld F.OPT_STAT_OPTIONS 0) 5 = false ∧ s.boot.reach = none ∧ s.fld F.STW_STATUS_STATE 0 ≠ 0) :=
  ⟨
   ⟨s1, by decide +kernel⟩,
   ⟨s1, by decide +kernel⟩,
   ⟨(mk [(F.OPT_STAT_OPTIONS, 0, 32)]), by decide +kernel⟩,
   ⟨s1, canon_of (by decide +kernel), by decide +kernel, by decide +kernel, by decide +kernel, by decide +kernel, by decide +kernel⟩,
   ⟨(mk [(F.STW_STATUS_STATE, 0, 2)]), canon_of (by decide +kernel), by decide +kernel, by decide +kernel, by decide +kernel⟩⟩

theorem meets_ResetSourceCommandsComplete_2 :
    (∃ (s : State) (r : Nat), s.boot.reach = some r ∧ r ≤ 1) ∧
    (∃ s : State, s.boot.deferred = true ∧ s.boot.reach = none) ∧
    (∃ s : State, s.dbgOpen = true ∧ s.boot.reach = none) ∧
    (∃ s : State, s.dbgOpen = true) ∧
    (∃ (s : State) (src slot : Nat) (planned : Bool), s.boot.reach.isSome = true) :=
  ⟨
   ⟨s1.modBoot fun b => { b with reach := some 1 }, 1, by decide +kernel, by decide +kernel⟩,
   ⟨s1.modBoot fun b => { b with deferred := true }, by decide +kernel, by decide +kernel⟩,
   ⟨s1, by decide +kernel, by decide +kernel⟩,
   ⟨s1, by decide +kernel⟩,
   ⟨s1.modBoot fun b => { b with reach := some 1 }, 0, 1, true, by decide +kernel⟩⟩

theorem meets_ResetSourceCommandsComplete_3 :
    (∃ (s : State) (b : Fin 16), s.dbgOpen = true ∧ s.boot.reach.isSome = true) ∧
    (∃ (s : State) (b : Fin 16), s.Inv ∧ s.dbgOpen = true ∧ s.mayReset .debug b = true) ∧
    (∃ (s : State) (strap : List Nat) (r : Nat), s.Canon ∧ s.boot.reach = some r ∧ r < 4) :=
  ⟨
   ⟨s1.modBoot fun b => { b with reach := some 1 }, 7, by decide +kernel, by decide +kernel⟩,
   ⟨s1.modBoot fun b => { b with held := [] }, 15, inv_of (by decide +kernel), by decide +kernel, by decide +kernel⟩,
   ⟨s1.modBoot fun b => { b with reach := some 3 }, [], 3, canon_of (by decide +kernel), by decide +kernel, by decide +kernel⟩⟩

theorem meets_BlockResetAndBootCommandsComplete_1 :
    (∃ (s : State) (src : BlockSrc) (b : Fin 16), s.Inv ∧ s.mayReset src b = true) ∧
    (∃ (s : State) (src : BlockSrc) (b : Fin 16), s.Inv ∧ s.mayReset src b = true) ∧
    (∃ (s : State) (c : Fin 2), s.Inv ∧ s.mayReset .fencen (13 + c) = true) ∧
    (∃ (s : State) (b : Fin 16) (h : Nat × Bool), s.Canon ∧ (s.boot.held.find? fun x => x.1 == b.val) = some h ∧ s.dbgOpen = true ∧
      s.flag F.TACK_CTRL_TEST_EN 0 = true ∧ s.boot.reach = none) ∧
    (∃ (s : State) (ok : Bool), s.boot.reach = none ∧ s.boot.failed = false ∧ s.nextStep ≤ 10 ∧ (s.nextStep = 2 → s.fld F.CLK_STAT_CLK_OK
      0 = 0xFF) ∧ s.nextStep = 3 ∧ ok = false) :=
  ⟨
   ⟨(s1.modBoot fun b => { b with held := [] }).modHlp fun h => { h with wdtReq := true }, .hlpWdt, 0, inv_of (by decide +kernel),
     by decide +kernel⟩,
   ⟨s1.modBoot fun b => { b with held := [] }, .debug, 15, inv_of (by decide +kernel), by decide +kernel⟩,
   ⟨s1.modBoot fun b => { b with held := [] }, 1, inv_of (by decide +kernel), by decide +kernel⟩,
   ⟨(mk [(F.TACK_CTRL_TEST_EN, 0, 1)]), 15, (15, false), canon_of (by decide +kernel), by decide +kernel, by decide +kernel,
     by decide +kernel, by decide +kernel⟩,
   ⟨s1.modBoot fun b => { b with step := 2 }, false, by decide +kernel, by decide +kernel, by decide +kernel, by decide +kernel,
     by decide +kernel, rfl⟩⟩

theorem meets_BlockResetAndBootCommandsComplete_2 :
    (∃ (s : State) (ok : Bool), s.boot.reach = none ∧ s.boot.failed = false ∧ s.nextStep ≤ 10 ∧ (s.nextStep = 2 → s.fld F.CLK_STAT_CLK_OK
      0 = 0xFF) ∧ s.nextStep = 4) ∧
    (∃ (s : State) (ok : Bool) (a : Nat) (l : List Nat), s.boot.reach = none ∧ s.boot.failed = false ∧ s.nextStep = 5 ∧ s.slotOrder = a
      :: l ∧ s.slotFails a = 0 ∧ a < 2) ∧
    (∃ (s : State) (ok : Bool), s.boot.reach = none ∧ s.boot.failed = false ∧ s.nextStep ≤ 10 ∧ (s.nextStep = 2 → s.fld F.CLK_STAT_CLK_OK
      0 = 0xFF) ∧ s.nextStep = 7 ∧ s.compOk s.boot.runSlot 2 = true ∧ s.compOk s.boot.runSlot 3 = true ∧ s.Canon) ∧
    (∃ (s : State) (ok : Bool), s.boot.reach = none ∧ s.boot.failed = false ∧ s.nextStep ≤ 10 ∧ (s.nextStep = 2 → s.fld F.CLK_STAT_CLK_OK
      0 = 0xFF) ∧ s.nextStep = 10 ∧ s.Canon) ∧
    (∃ (s : State) (src : BlockSrc) (b : Fin 16), s.mayReset src b = true) :=
  ⟨
   ⟨s1.modBoot fun b => { b with step := 3 }, true, by decide +kernel, by decide +kernel, by decide +kernel, by decide +kernel,
     by decide +kernel⟩,
   ⟨s1.modBoot fun b => { b with step := 4, factory := 3, boot := 0 }, true, 0, [1], by decide +kernel, by decide +kernel,
     by decide +kernel, by decide +kernel, by decide +kernel, by decide +kernel⟩,
   ⟨s1.modBoot fun b => { b with step := 6, factory := 3, runSlot := 0 }, true, by decide +kernel, by decide +kernel, by decide +kernel,
     by decide +kernel, by decide +kernel, by decide +kernel, by decide +kernel, canon_of (by decide +kernel)⟩,
   ⟨s1.modBoot fun b => { b with step := 9 }, true, by decide +kernel, by decide +kernel, by decide +kernel, by decide +kernel,
     by decide +kernel, canon_of (by decide +kernel)⟩,
   ⟨s1.modBoot fun b => { b with held := [] }, .debug, 15, by decide +kernel⟩⟩

theorem meets_MemoryErrorAndBurnCommandsComplete_1 :
    (∃ s : State, s.Canon) ∧
    (∃ s : State, s.Canon) ∧
    (∃ (s : State) (n : Nat), s.Canon) ∧
    (∃ s : State, s.boot.reach = none) ∧
    (∃ (s : State) (m : Fin 9), s.Canon ∧ (m.val = 1 ∨ m.val = 3 ∨ m.val = 4 ∨ m.val = 5)) :=
  ⟨
   ⟨s1, canon_of (by decide +kernel)⟩,
   ⟨s1, canon_of (by decide +kernel)⟩,
   ⟨s1, 0, canon_of (by decide +kernel)⟩,
   ⟨s1, by decide +kernel⟩,
   ⟨s1, 5, canon_of (by decide +kernel), by decide +kernel⟩⟩

theorem meets_MemoryErrorAndBurnCommandsComplete_2 :
    (∃ (s : State) (bytes : List Byte), s.dbgUnlocked = true) ∧
    (∃ (s : State) (slh : Bool) (k : Fin 2), s.dbgUnlocked = true ∧ (if slh then 2 else 0) + k.val ∉ s.boot.revoked ∧ (if slh then 2 else
      0) + (1 - k.val) ∉ s.boot.revoked) ∧
    (∃ (s : State) (m : Fin 9), s.Canon) ∧
    (∃ s : State, s.Canon) :=
  ⟨
   ⟨s1, List.replicate 32 0#8, by decide +kernel⟩,
   ⟨s1, true, 1, by decide +kernel, by decide +kernel, by decide +kernel⟩,
   ⟨s1, 8, canon_of (by decide +kernel)⟩,
   ⟨s1, canon_of (by decide +kernel)⟩⟩

theorem meets_GaitAndRateCommandsComplete_1 :
    (∃ (s : State) (tag : Fin 128) (e : Entry), s.Serves 0x0203 tag e ∧ e.a 0 ≤ 5 ∧ s.gaitCheck (e.a 0) = FS.FS_OK) ∧
    (∃ (s : State) (tag : Fin 128) (e : Entry), s.Inv ∧ s.svpClock = true ∧ (s.gait ≠ Gait.limp ∨ s.locked 0 = true) ∧ s.waitingOp 0x0203
      = some e ∧ e.tag = tag.val ∧ s.flag F.GAIT_STATUS_PEND_VALID 0 = true ∧ s.atBoundary20 e = true ∧ s.fld F.GAIT_STATUS_GAIT_PEND 0 ≠
      Gait.paddock) ∧
    (∃ (s : State) (e : Entry), s.waitingOp 0x0203 = some e ∧ s.flag F.GAIT_STATUS_PEND_VALID 0 = true ∧ s.atBoundary20 e = true ∧ s.fld
      F.GAIT_STATUS_GAIT_PEND 0 = Gait.paddock ∧ (s.gait ≠ Gait.limp ∨ s.locked 0 = true)) ∧
    (∃ s : State, s.gait = Gait.limp ∧ s.locked 0 = false) :=
  ⟨
   ⟨inFlight s1 (ent 0x0203 [0] []), 0, (ent 0x0203 [0] []), serves_of (by decide +kernel) (by decide +kernel) (by decide +kernel),
     by decide +kernel, by decide +kernel⟩,
   ⟨inFlight (((mk [(F.GAIT_STATUS_PEND_VALID, 0, 1), (F.GAIT_STATUS_GAIT_PEND, 0, 2)])).modPwm fun w =>
     { w with bnd := 1, tk := 160000 }) (entW 0x0203 [2] []), 0, entW 0x0203 [2] [], inv_of (by decide +kernel), by decide +kernel,
     by decide +kernel, by decide +kernel, by decide +kernel, by decide +kernel, by decide +kernel, by decide +kernel⟩,
   ⟨inFlight (((mk [(F.GAIT_STATUS_PEND_VALID, 0, 1), (F.GAIT_STATUS_GAIT_PEND, 0, 0)])).modPwm fun w =>
     { w with bnd := 1, tk := 160000 }) (entW 0x0203 [0] []), entW 0x0203 [0] [], by decide +kernel, by decide +kernel,
     by decide +kernel, by decide +kernel, by decide +kernel⟩,
   ⟨(mk [(F.GAIT_STATUS_GAIT, 0, 5), (F.CLK_STAT_PLLM_LOCK, 0, 0)]), by decide +kernel, by decide +kernel⟩⟩

theorem meets_GaitAndRateCommandsComplete_2 :
    (∃ (s : State) (temp : Int), s.Canon ∧ s.flag F.GAIT_STATUS_VARIANT_H 0 = true ∧ s.gait = Gait.gallop ∧ 115 ≤ temp ∧ s.flag
      F.GAIT_STATUS_THERM_HOLD 0 = false) ∧
    (∃ (s : State) (tag : Fin 128) (e : Entry), s.Serves 0x0204 tag e ∧ rateParam e = true ∧ s.roleBad = false ∧ s.rateOk (if e.a32 0 = 0
      then s.fineP else 32 * e.a32 0) (s.rateDiv e) = true ∧ s.capOver (if e.a32 0 = 0 then s.fineP else 32 * e.a32 0) = false ∧
      s.prTooHigh (if e.a32 0 = 0 then s.fineP else 32 * e.a32 0) (s.rateDiv e) = false ∧ s.waitingOp 0x0204 = none ∧ s.isActive = false) ∧
    (∃ (s : State) (tag : Fin 128) (e : Entry), s.Serves 0x0204 tag e ∧ rateParam e = true ∧ s.roleBad = false ∧ s.rateOk (if e.a32 0 = 0
      then s.fineP else 32 * e.a32 0) (s.rateDiv e) = true ∧ s.capOver (if e.a32 0 = 0 then s.fineP else 32 * e.a32 0) = false ∧
      s.prTooHigh (if e.a32 0 = 0 then s.fineP else 32 * e.a32 0) (s.rateDiv e) = false ∧ s.waitingOp 0x0204 = none ∧ s.isActive = true) ∧
    (∃ (s : State) (tag : Fin 128) (e : Entry), s.Inv ∧ s.svpClock = true ∧ s.waitingOp 0x0204 = some e ∧ e.tag = tag.val ∧ s.atBoundary
      e = true ∧ (e.a32 0 = 0 ∨ e.a32 0 = s.period) ∧ s.cle.divNew = none ∧ s.cle.div = s.rateDiv e) :=
  ⟨
   ⟨(mk [(F.GAIT_STATUS_VARIANT_H, 0, 1), (F.GAIT_STATUS_GAIT, 0, 4)]), 115, canon_of (by decide +kernel), by decide +kernel,
     by decide +kernel, by decide +kernel, by decide +kernel⟩,
   ⟨inFlight s1 (ent 0x0204 [255, 255, 15, 0] []), 0, (ent 0x0204 [255, 255, 15, 0] []), serves_of (by decide +kernel)
     (by decide +kernel) (by decide +kernel), by decide +kernel, by decide +kernel, by decide +kernel, by decide +kernel,
     by decide +kernel, by decide +kernel, by decide +kernel⟩,
   ⟨inFlight (mk [(F.PAIR_STATUS_STATE, 0, 4)]) (ent 0x0204 [255, 255, 15, 0] []), 0, (ent 0x0204 [255, 255, 15, 0] []), serves_of
     (by decide +kernel) (by decide +kernel) (by decide +kernel), by decide +kernel, by decide +kernel, by decide +kernel,
     by decide +kernel, by decide +kernel, by decide +kernel, by decide +kernel⟩,
   ⟨inFlight (s1.modPwm fun w => { w with bnd := 1 }) (entW 0x0204 [] []), 0, entW 0x0204 [] [], inv_of (by decide +kernel),
     by decide +kernel, by decide +kernel, by decide +kernel, by decide +kernel, by decide +kernel, by decide +kernel, by decide +kernel⟩⟩

theorem meets_PllCommandsComplete_1 :
    (∃ s : State, s.Canon ∧ s.flag F.CLK_STAT_REF_OK 0 = true) ∧
    (∃ s : State, s.Canon ∧ s.flag F.CLK_STAT_REF_OK 0 = false ∧ (s.gait = Gait.paddock ∧ s.clk.wake = false ∨ s.boot.reach.isSome =
      true)) ∧
    (∃ s : State, s.Canon ∧ s.flag F.CLK_STAT_REF_OK 0 = false ∧ (s.gait ≠ Gait.paddock ∨ s.clk.wake = true) ∧ s.boot.reach = none ∧
      s.clk.attempt.length = 3 ∧ (∀ p < 3, s.locked p = false)) ∧
    (∃ (s : State) (p : Pll), s.locked (pllNo p) = true) ∧
    (∃ (s : State) (p : Pll), s.Canon ∧ s.locked (pllNo p) = false ∧ s.attempt (pllNo p) ≠ .idle ∧ s.attempt (pllNo p) ≠ .failed ∧ p = .m
      ∧ s.flag F.CLK_CFG_SYNC_EN 0 = false ∧ s.clk.grid = none) ∧
    (∃ (s : State) (p : Pll) (k : Nat), s.Canon ∧ s.attempt (pllNo p) = .hop k ∧ k < 8 ∧ pllNo p < s.clk.attempt.length) :=
  ⟨
   ⟨(mk [(F.CLK_STAT_REF_OK, 0, 1)]), canon_of (by decide +kernel), by decide +kernel⟩,
   ⟨(mk [(F.CLK_STAT_REF_OK, 0, 0)]).modBoot fun b => { b with reach := some 3 }, canon_of (by decide +kernel), by decide +kernel,
     by decide +kernel⟩,
   ⟨(mk [(F.CLK_STAT_REF_OK, 0, 0), (F.CLK_STAT_PLLM_LOCK, 0, 0)]), canon_of (by decide +kernel), by decide +kernel, by decide +kernel,
     by decide +kernel, by decide +kernel, by decide +kernel⟩,
   ⟨(mk [(F.CLK_STAT_PLLN_LOCK, 0, 1)]), .n, by decide +kernel⟩,
   ⟨s1.modClk fun c => { c with attempt := [.search, .idle, .idle] }, .m, canon_of (by decide +kernel), by decide +kernel,
     by decide +kernel, by decide +kernel, rfl, by decide +kernel, by decide +kernel⟩,
   ⟨s1.modClk fun c => { c with attempt := [.idle, .idle, .hop 7] }, .n, 7, canon_of (by decide +kernel), by decide +kernel,
     by decide +kernel, by decide +kernel⟩⟩

theorem meets_PllCommandsComplete_2 :
    (∃ (s : State) (p : Pll) (b : Fin 64) (temp : Byte) (k : Nat), s.Canon ∧ s.attempt (pllNo p) = .search ∧ k < 8 ∧ ((slotsOf (pllNo
      p)).find? fun j => !s.slotValid j) = some k ∧ pllNo p < s.clk.attempt.length ∧ s.locked (pllNo p) = false) ∧
    (∃ (s : State) (p : Pll) (temp : Byte), s.attempt (pllNo p) = .search ∧ pllNo p < s.clk.attempt.length) ∧
    (∃ (s : State) (p : Pll) (temp : Byte), s.attempt (pllNo p) = .failed) ∧
    (∃ (s : State) (p : Pll) (b : Fin 64) (temp : Byte) (k : Nat), s.Canon ∧ s.attempt (pllNo p) = .search ∧ k < 8 ∧ (∀ j ∈ slotsOf
      (pllNo p), s.slotValid j = true) ∧ s.nearest temp.toNat (slotsOf (pllNo p)) = some k) ∧
    (∃ (s : State) (p : Pll) (temp : Byte), s.Canon ∧ s.attempt (pllNo p) = .search ∧ s.clk.wake = true) :=
  ⟨
   ⟨s1.modClk fun c => { c with attempt := [.idle, .idle, .search] }, .n, 63, 25#8, 6, canon_of (by decide +kernel), by decide +kernel,
     by decide +kernel, by decide +kernel, by decide +kernel, by decide +kernel⟩,
   ⟨s1.modClk fun c => { c with attempt := [.idle, .idle, .search] }, .n, 25#8, by decide +kernel, by decide +kernel⟩,
   ⟨s1.modClk fun c => { c with attempt := [.idle, .idle, .failed] }, .n, 25#8, by decide +kernel⟩,
   ⟨((((s1.setFlag (slotFld F.PLL_SLOT_VALID 6) 0 true).setFlag (slotFld F.PLL_SLOT_VALID 7) 0 true)).modClk fun c =>
     { c with attempt := [.idle, .idle, .search] }), .n, 63, 25#8, 6, canon_of (by decide +kernel), by decide +kernel, by decide +kernel,
     by decide +kernel, by decide +kernel⟩,
   ⟨s1.modClk fun c => { c with wake := true, attempt := [.search, .idle, .idle] }, .m, 25#8, canon_of (by decide +kernel),
     by decide +kernel, by decide +kernel⟩⟩

theorem meets_ClockCommandsComplete_1 :
    (∃ (s : State) (d : Fin 8), s.Canon ∧ s.sourceOk d = true ∧ s.clkOk d = false) ∧
    (∃ (s : State) (d : Fin 8), d.val ≠ 0) ∧
    (∃ (s : State) (tap : Fin 64) (err : Int), s.Canon ∧ s.locked 0 = true ∧ s.flag F.CLK_STAT_PAIRCLK_OK 0 = true ∧ s.flag
      F.DLL_STAT_FROZEN 0 = false) ∧
    (∃ s : State, s.Canon) ∧
    (∃ s : State, s.Canon ∧ s.flag F.CLK_STAT_LIMP 0 = false) :=
  ⟨
   ⟨(mk [(F.CLK_STAT_CLK_OK, 0, 0), (F.CLK_STAT_PLLN_LOCK, 0, 1)]), 7, canon_of (by decide +kernel), by decide +kernel,
     by decide +kernel⟩,
   ⟨s1, 7, by decide +kernel⟩,
   ⟨(mk [(F.CLK_STAT_PLLM_LOCK, 0, 1), (F.CLK_STAT_PAIRCLK_OK, 0, 1)]), 63, 0, canon_of (by decide +kernel), by decide +kernel,
     by decide +kernel, by decide +kernel⟩,
   ⟨s1, canon_of (by decide +kernel)⟩,
   ⟨s1, canon_of (by decide +kernel), by decide +kernel⟩⟩

theorem meets_ClockCommandsComplete_2 :
    (∃ (s : State) (k : Fin 25), s.flag F.CLK_CFG_SYNC_EN 0 = true ∧ (s.clk.grid = none ∨ (s.pwm.ran = false ∧ s.clk.gridSync = false))) ∧
    (∃ (s : State) (k : Fin 25) (g : Nat), s.Canon ∧ s.flag F.CLK_CFG_SYNC_EN 0 = true ∧ s.clk.grid = some g ∧ g ≠ k.val ∧ (s.pwm.ran =
      true ∨ s.clk.gridSync = true)) ∧
    (∃ (s : State) (src : WakeSrc), s.Canon ∧ s.wakeReal src = true ∧ (s.wakeBit src).2 = true ∧ s.gait = Gait.paddock) ∧
    (∃ s : State, s.Canon ∧ s.gait = Gait.paddock ∧ s.clk.wake = true ∧ s.allLocked = true ∧ s.fld F.CLK_STAT_CLK_OK 0 = 0xFF) ∧
    (∃ s : State, s.Canon ∧ s.gait = Gait.paddock ∧ s.clk.wake = true ∧ s.allLocked = false) :=
  ⟨
   ⟨(mk [(F.CLK_CFG_SYNC_EN, 0, 1)]), 24, by decide +kernel, by decide +kernel⟩,
   ⟨(mk [(F.CLK_CFG_SYNC_EN, 0, 1)]).modClk fun c => { c with grid := some 3, gridSync := true }, 24, 3, canon_of (by decide +kernel),
     by decide +kernel, by decide +kernel, by decide +kernel, by decide +kernel⟩,
   ⟨(mk [(F.GAIT_STATUS_GAIT, 0, 0), (F.WAKE_CFG_EN_PIN, 0, 1)]), .pin, canon_of (by decide +kernel), by decide +kernel,
     by decide +kernel, by decide +kernel⟩,
   ⟨(mk [(F.GAIT_STATUS_GAIT, 0, 0), (F.CLK_STAT_CLK_OK, 0, 255), (F.CLK_STAT_PLLM_LOCK, 0, 1), (F.CLK_STAT_PLLL_LOCK, 0, 1),
     (F.CLK_STAT_PLLN_LOCK, 0, 1)]).modClk fun c => { c with wake := true }, canon_of (by decide +kernel), by decide +kernel,
     by decide +kernel, by decide +kernel, by decide +kernel⟩,
   ⟨(mk [(F.GAIT_STATUS_GAIT, 0, 0)]).modClk fun c => { c with wake := true }, canon_of (by decide +kernel), by decide +kernel,
     by decide +kernel, by decide +kernel⟩⟩

theorem meets_ClockCommandsComplete_3 :
    (∃ (s : State) (present : Bool), s.Canon) ∧
    (∃ s : State, s.flag F.CLK_STAT_LIMP 0 = true) ∧
    (∃ (s : State) (d : Fin 8), s.Canon ∧ d.val ≠ 0 ∧ s.clkOk d = true) :=
  ⟨
   ⟨s1, true, canon_of (by decide +kernel)⟩,
   ⟨(mk [(F.CLK_STAT_LIMP, 0, 1)]), by decide +kernel⟩,
   ⟨(mk [(F.CLK_STAT_CLK_OK, 0, 255)]), 7, canon_of (by decide +kernel), by decide +kernel, by decide +kernel⟩⟩

theorem meets_BoundaryCommandsComplete_1 :
    (∃ s : State, s.rg0Runs = true ∧ s.pwm.first = false) ∧
    (∃ s : State, s.rg0Runs = true ∧ s.pwm.first = true) ∧
    (∃ (s : State) (p : Nat), s.clk.grid = some p) ∧
    (∃ s : State, s.clk.grid = none) :=
  ⟨
   ⟨((mk [(F.CLK_STAT_CLK_OK, 0, 255)]).modBoot fun b => { b with held := [] }).modPwm fun w => { w with first := false },
     by decide +kernel, by decide +kernel⟩,
   ⟨(mk [(F.CLK_STAT_CLK_OK, 0, 255)]).modBoot fun b => { b with held := [] }, by decide +kernel, by decide +kernel⟩,
   ⟨s1.modClk fun c => { c with grid := some 24 }, 24, by decide +kernel⟩,
   ⟨s1, by decide +kernel⟩⟩

theorem meets_BoundaryCommandsComplete_2 :
    (∃ s : State, s.pwm.first = false ∧ s.flag F.PAIR_CFG_PAIR_EN 0 = false ∧ s.spurOn = false) ∧
    (∃ (s : State) (m : Memory Word), s.win.snapNew = some m) ∧
    (∃ (s : State) (p : Fin 12) (t : Nat) (legs : List Nat), s.glPort p = true ∧ s.rg0Runs = true ∧ s.pwm.ran = true ∧ t = s.pwm.tk +
      s.lPort p ∧ legs = (s.legsOf p).filter s.ownReload ∧ (∃ n ∈ legs, (s.leg n).at0 ≠ t)) :=
  ⟨
   ⟨s1.modPwm fun w => { w with first := false }, by decide +kernel, by decide +kernel, by decide +kernel⟩,
   ⟨{ s1 with win := { s1.win with snapNew := some [] } }, [], by decide +kernel⟩,
   ⟨(((mk [(F.LEG_CFG_GL, 47, 1)]).modBoot fun b => { b with held := [] }).modPort 11 fun p =>
     { p with cfg := { p.cfg with configured := true, legs := [47] } }).modPwm fun w => { w with ran := true, tk := 7 }, 11, _, _,
     by decide +kernel, by decide +kernel, by decide +kernel, rfl, rfl, by decide +kernel⟩⟩

theorem meets_SupervisorCommandsComplete :
    (∃ s : State, s.Canon ∧ s.svpWatched = true ∧ s.recentRestarts < 2 ∧ s.boot.reach = none ∧ s.restarting = false) ∧
    (∃ s : State, s.Canon ∧ s.svpWatched = true ∧ s.recentRestarts < 2 ∧ s.boot.reach = none ∧ s.restarting = true) ∧
    (∃ s : State, s.svpWatched = true ∧ 2 ≤ s.recentRestarts ∧ s.boot.reach = none) ∧
    (∃ (s : State) (r : Nat), s.svpWatched = true ∧ 2 ≤ s.recentRestarts ∧ s.boot.reach = some r ∧ r ≤ 1) ∧
    (∃ (s : State) (k : Nat), s.Canon ∧ s.fcp.restartSlot = some k ∧ s.svpClock = true) :=
  ⟨
   ⟨s1, canon_of (by decide +kernel), by decide +kernel, by decide +kernel, by decide +kernel, by decide +kernel⟩,
   ⟨{ s1 with fcp := { s1.fcp with restartSlot := some 1 } }, canon_of (by decide +kernel), by decide +kernel, by decide +kernel,
     by decide +kernel, by decide +kernel⟩,
   ⟨s1.modBoot fun b => { b with restarts := [0, 0] }, by decide +kernel, by decide +kernel, by decide +kernel⟩,
   ⟨s1.modBoot fun b => { b with restarts := [0, 0], reach := some 1 }, 1, by decide +kernel, by decide +kernel, by decide +kernel,
     by decide +kernel⟩,
   ⟨{ s1 with fcp := { s1.fcp with restartSlot := some 1 } }, 1, canon_of (by decide +kernel), by decide +kernel, by decide +kernel⟩⟩

theorem meets_UpdateCommandsComplete_1 :
    (∃ (s : State) (tag : Fin 128) (e : Entry), s.Serves 0x0701 tag e ∧ e.a 0 ≤ 1 ∧ imageLenOk (e.a32 4) = true ∧ s.boot.session = none ∧
      e.a 0 ≠ s.boot.runSlot ∧ e.a 0 ≠ s.boot.boot) ∧
    (∃ (s : State) (tag : Fin 128) (e : Entry) (k o : Nat), s.Serves 0x0702 tag e ∧ s.boot.session = some (k, o) ∧ k < 2 ∧ e.a32 0 = o ∧
      o < (s.slot k).len) ∧
    (∃ (s : State) (tag : Fin 128) (e : Entry) (k o f ver svn st : Nat), s.Serves 0x0703 tag e ∧ s.boot.session = some (k, o) ∧ k < 2 ∧ f
      = s.sigFails (s.slot k).image ∧ ver = leAt (s.slot k).image 8 4 ∧ svn = leAt (s.slot k).image 12 1 ∧ (st = (if o < (s.slot k).len ∨
      imageForm (s.slot k).image = false ∨ imageHashes (s.slot k).image = false then FS.FS_IMAGE else if f ≠ 0 then FS.FS_SIG else if svn
      < s.boot.counter then FS.FS_ROLLBACK else FS.FS_OK))) ∧
    (∃ (s : State) (tag : Fin 128) (e : Entry), s.Serves 0x0704 tag e ∧ e.a 0 ≤ 1 ∧ e.a 1 = 0 ∧ (s.slot (e.a 0)).st = 3) ∧
    (∃ (s : State) (tag : Fin 128) (e : Entry), s.Serves 0x0704 tag e ∧ e.a 0 ≤ 1 ∧ e.a 1 = 1 ∧ (s.slot (e.a 0)).st = 3 ∧ s.flag
      F.PAIR_STATUS_ACT_OUT 0 = false ∧ (s.fld F.PAIR_STATUS_STATE 0 ≠ 0 ∨ s.allOff = true)) ∧
    (∃ (s : State) (tag : Fin 128) (e : Entry), s.Serves 0x0705 tag e ∧ e.a 0 = 0xFF ∧ s.boot.runSlot ≤ 1 ∧ (s.slot s.boot.runSlot).st =
      3) :=
  ⟨
   ⟨inFlight s1 (ent 0x0701 [1, 0, 0, 0, 0, 0, 192, 1] []), 0, (ent 0x0701 [1, 0, 0, 0, 0, 0, 192, 1] []), serves_of (by decide +kernel)
     (by decide +kernel) (by decide +kernel), by decide +kernel, by decide +kernel, by decide +kernel, by decide +kernel,
     by decide +kernel⟩,
   ⟨inFlight (s1.modBoot fun b => { b with slots := #v[{ st := 3 }, { st := 3, len := 20480 }], session := some (1, 19456) }) (ent 0x0702
     [0, 76, 0, 0] (List.replicate 1024 0#8)), 0, (ent 0x0702 [0, 76, 0, 0] (List.replicate 1024 0#8)), 1, 19456, serves_of
     (by decide +kernel) (by decide +kernel) (by decide +kernel), by decide +kernel, by decide +kernel, by decide +kernel,
     by decide +kernel⟩,
   ⟨inFlight (s1.modBoot fun b => { b with slots := #v[{ st := 3 }, { st := 3, len := 20480 }], session := some (1, 19456) }) (ent 0x0703
     [] []), 0, (ent 0x0703 [] []), 1, 19456, _, _, _, _, serves_of (by decide +kernel) (by decide +kernel) (by decide +kernel),
     by decide +kernel, by decide +kernel, rfl, rfl, rfl, rfl⟩,
   ⟨inFlight (s1.modBoot fun b => { b with slots := #v[{ st := 3 }, { st := 3, len := 20480 }], session := some (1, 19456) }) (ent 0x0704
     [1, 0] []), 0, (ent 0x0704 [1, 0] []), serves_of (by decide +kernel) (by decide +kernel) (by decide +kernel), by decide +kernel,
     by decide +kernel, by decide +kernel⟩,
   ⟨inFlight ((mk [(F.PAIR_STATUS_STATE, 0, 2)]).modBoot fun b => { b with slots := #v[{ st := 3 }, { st := 3 }] }) (ent 0x0704 [1, 1]
     []), 0, (ent 0x0704 [1, 1] []), serves_of (by decide +kernel) (by decide +kernel) (by decide +kernel), by decide +kernel,
     by decide +kernel, by decide +kernel, by decide +kernel, by decide +kernel⟩,
   ⟨inFlight s1 (ent 0x0705 [255] []), 0, (ent 0x0705 [255] []), serves_of (by decide +kernel) (by decide +kernel) (by decide +kernel),
     by decide +kernel, by decide +kernel, by decide +kernel⟩⟩

theorem meets_UpdateCommandsComplete_2 :
    (∃ (s : State) (tag : Fin 128) (e : Entry), s.Serves 0x0706 tag e ∧ e.a 0 = s.slotSvn s.boot.runSlot ∧ s.boot.counter < e.a 0 ∧
      s.flag F.TACK_CTRL_SVN_BURN 0 = true) ∧
    (∃ (s : State) (tag : Fin 128) (e : Entry), s.Serves 0x0707 tag e ∧ e.a 0 ≤ 1) ∧
    (∃ (s : State) (tag : Fin 128) (e : Entry), s.Serves 0x0705 tag e ∧ e.a 0 ≤ 1 ∧ e.a 0 ≠ s.boot.runSlot ∧ (s.slot (e.a 0)).st = 3 ∧
      s.sameRest (e.a 0) = true) ∧
    (∃ (s : State) (tag : Fin 128) (e : Entry), s.Serves 0x0701 tag e ∧ e.a 0 ≤ 1 ∧ imageLenOk (e.a32 4) = true ∧ s.boot.session = none ∧
      e.a 0 ≠ s.boot.runSlot ∧ e.a 0 ≠ s.boot.boot) ∧
    (∃ (s : State) (tag : Fin 128) (e : Entry) (k o : Nat), s.Serves 0x0702 tag e ∧ s.boot.session = some (k, o) ∧ k < 2 ∧ e.a32 0 = o ∧
      o < (s.slot k).len) ∧
    (∃ (s : State) (tag : Fin 128) (e : Entry), s.Serves 0x0704 tag e ∧ e.a 0 ≤ 1 ∧ e.a 1 = 0 ∧ (s.slot (e.a 0)).st = 3) :=
  ⟨
   ⟨inFlight ((mk [(F.TACK_CTRL_SVN_BURN, 0, 1)]).modBoot fun b => { b with slots := #v[{ st := 3, svn := 255 }, {}], factory := 0 })
     (ent 0x0706 [255] []), 0, (ent 0x0706 [255] []), serves_of (by decide +kernel) (by decide +kernel) (by decide +kernel),
     by decide +kernel, by decide +kernel, by decide +kernel⟩,
   ⟨inFlight s1 (ent 0x0707 [1] []), 0, (ent 0x0707 [1] []), serves_of (by decide +kernel) (by decide +kernel) (by decide +kernel),
     by decide +kernel⟩,
   ⟨inFlight (s1.modBoot fun b => { b with slots := #v[{ st := 3 }, { st := 3 }], factory := 0, runSlot := 0 }) (ent 0x0705 [1] []), 0,
     (ent 0x0705 [1] []), serves_of (by decide +kernel) (by decide +kernel) (by decide +kernel), by decide +kernel, by decide +kernel,
     by decide +kernel, by decide +kernel⟩,
   ⟨inFlight s1 (ent 0x0701 [1, 0, 0, 0, 0, 0, 192, 1] []), 0, (ent 0x0701 [1, 0, 0, 0, 0, 0, 192, 1] []), serves_of (by decide +kernel)
     (by decide +kernel) (by decide +kernel), by decide +kernel, by decide +kernel, by decide +kernel, by decide +kernel,
     by decide +kernel⟩,
   ⟨inFlight (s1.modBoot fun b => { b with slots := #v[{ st := 3 }, { st := 3, len := 20480 }], session := some (1, 19456) }) (ent 0x0702
     [0, 76, 0, 0] (List.replicate 1024 0#8)), 0, (ent 0x0702 [0, 76, 0, 0] (List.replicate 1024 0#8)), 1, 19456, serves_of
     (by decide +kernel) (by decide +kernel) (by decide +kernel), by decide +kernel, by decide +kernel, by decide +kernel,
     by decide +kernel⟩,
   ⟨inFlight (s1.modBoot fun b => { b with slots := #v[{ st := 3 }, { st := 3, len := 20480 }], session := some (1, 19456) }) (ent 0x0704
     [1, 0] []), 0, (ent 0x0704 [1, 0] []), serves_of (by decide +kernel) (by decide +kernel) (by decide +kernel), by decide +kernel,
     by decide +kernel, by decide +kernel⟩⟩

theorem meets_AttestCommandsComplete :
    (∃ (s : State) (tag : Fin 128) (e : Entry), s.Serves 0x0C01 tag e ∧ s.boot.attNonce = none) ∧
    (∃ (s : State) (tag : Fin 128) (e : Entry) (n : List Byte), s.Inv ∧ s.boot.attNonce = some n ∧ s.fencenRuns = true ∧ s.waitingOp
      0x0C01 = some e ∧ e.tag = tag.val) ∧
    (∃ (s : State) (tag : Fin 128) (e : Entry) (f : List Byte), s.Serves 0x0C02 tag e ∧ s.boot.attReport = some f ∧ e.a32 0 % 1024 = 0 ∧
      e.a32 0 < f.length) ∧
    (∃ (s : State) (tag : Fin 128) (e : Entry), s.Serves 0x0C03 tag e ∧ e.a32 0 % 1024 = 0 ∧ e.a32 0 < s.statement.length) :=
  ⟨
   ⟨inFlight s1 (ent 0x0C01 [255, 255, 255, 255, 255, 255, 255, 255, 255, 255, 255, 255, 255, 255, 255, 255, 255, 255, 255, 255, 255,
     255, 255, 255, 255, 255, 255, 255, 255, 255, 255, 255] []), 0, (ent 0x0C01 [255, 255, 255, 255, 255, 255, 255, 255, 255, 255, 255,
     255, 255, 255, 255, 255, 255, 255, 255, 255, 255, 255, 255, 255, 255, 255, 255, 255, 255, 255, 255, 255] []), serves_of
     (by decide +kernel) (by decide +kernel) (by decide +kernel), by decide +kernel⟩,
   ⟨inFlight (s1.modBoot fun b => { b with attNonce := some [] }) (entW 0x0C01 [] []), 0, entW 0x0C01 [] [], [], inv_of
     (by decide +kernel), by decide +kernel, by decide +kernel, by decide +kernel, by decide +kernel⟩,
   ⟨inFlight (s1.modBoot fun b => { b with attReport := some [0#8] }) (ent 0x0C02 [0, 0, 0, 0] []), 0, (ent 0x0C02 [0, 0, 0, 0] []),
     [0#8], serves_of (by decide +kernel) (by decide +kernel) (by decide +kernel), by decide +kernel, by decide +kernel,
     by decide +kernel⟩,
   ⟨inFlight s1 (ent 0x0C03 [0, 64, 0, 0] []), 0, (ent 0x0C03 [0, 64, 0, 0] []), serves_of (by decide +kernel) (by decide +kernel)
     (by decide +kernel), by decide +kernel, by decide +kernel⟩⟩

theorem meets_ConfigCommandsComplete :
    (∃ (s : State) (tag : Fin 128) (e : Entry) (new rs : List (List Byte)), s.Serves 0x0101 tag e ∧ splitRecs e.payload.length 0
      e.payload = .inr new ∧ stageAll (recsOf (vget s.fcp.staging e.mb)) new 0 = .inr rs) ∧
    (∃ (s : State) (tag : Fin 128) (e : Entry), s.Serves 0x0103 tag e) ∧
    (∃ (s : State) (tag : Fin 128) (e : Entry), s.Serves 0x0102 tag e ∧ e.a 0 = 0 ∧ (let rs := recsOf (vget s.fcp.staging e.mb);
      s.cfgVerdict (s.cfgApply rs).1 (withCtx rs (s.cfgApply rs).2) = none)) ∧
    (∃ (s : State) (tag : Fin 128) (e : Entry), s.Serves 0x0102 tag e ∧ e.a 0 = 1 ∧ (let rs := recsOf (vget s.fcp.staging e.mb);
      s.cfgVerdict (s.cfgApply rs).1 (withCtx rs (s.cfgApply rs).2) = none)) ∧
    (∃ (s : State) (tag : Fin 128) (e : Entry) (st i : Nat), s.Serves 0x0102 tag e ∧ e.a 0 ≤ 1 ∧ st < 65536 ∧ (let rs := recsOf (vget
      s.fcp.staging e.mb); s.cfgVerdict (s.cfgApply rs).1 (withCtx rs (s.cfgApply rs).2) = some (st, i))) ∧
    (∃ (s : State) (e : Entry), s.waitingOp 0x0102 = some e ∧ s.atBoundary20 e = true) :=
  ⟨
   ⟨inFlight s1 (ent 0x0101 [] (by8 [1, 0, 12, 0, 0, 0, 0x10, 3, 0, 0, 0, 0])), 0, (ent 0x0101 [] (by8 [1, 0, 12, 0, 0, 0, 0x10, 3, 0, 0,
     0, 0])), [by8 [1, 0, 12, 0, 0, 0, 0x10, 3, 0, 0, 0, 0]], [by8 [1, 0, 12, 0, 0, 0, 0x10, 3, 0, 0, 0, 0]], serves_of
     (by decide +kernel) (by decide +kernel) (by decide +kernel), by decide +kernel, by decide +kernel⟩,
   ⟨inFlight s1 (ent 0x0103 [] []), 0, (ent 0x0103 [] []), serves_of (by decide +kernel) (by decide +kernel) (by decide +kernel)⟩,
   ⟨commits, 0, commit0, serves_of (by decide +kernel) (by decide +kernel) (by decide +kernel), by decide +kernel, verdict_at
     (by decide +kernel) commits_verdict⟩,
   ⟨second, 16, commit1, serves_of (by decide +kernel) (by decide +kernel) (by decide +kernel), by decide +kernel, verdict_at
     (by decide +kernel) second_verdict⟩,
   ⟨badCommit, 0, ent 0x0102 [1] [], FS.FS_PARAM, 0, serves_of (by decide +kernel) (by decide +kernel) (by decide +kernel),
     by decide +kernel, by decide +kernel, verdict_at (by decide +kernel) badCommit_verdict⟩,
   ⟨inFlight (s1.modPwm fun w => { w with bnd := 1, tk := 160000 }) (entW 0x0102 [] []), entW 0x0102 [] [], by decide +kernel,
     by decide +kernel⟩⟩

theorem meets_CleCommandsComplete_1 :
    (∃ (s s2 : State) (phase : Fin 2), s.cleRuns = true ∧ s.cle.phases = [phase == 1, false] ∧ s2 = (let s1 := s.modCle (fun c =>
      { c with phases := c.phases.set phase.val true }); (s1.scheduled ((s1.inGroup 0).filter fun i => s1.ctxGl i == (phase == 1))).foldl
      State.runCtx s1) ∧ s2.cle.halted = true) ∧
    (∃ (s s2 : State) (phase : Fin 2), s.cleRuns = true ∧ s.cle.phases = [phase == 1, false] ∧ s2 = (let s1 := s.modCle (fun c =>
      { c with phases := c.phases.set phase.val true }); (s1.scheduled ((s1.inGroup 0).filter fun i => s1.ctxGl i == (phase == 1))).foldl
      State.runCtx s1) ∧ s2.cle.halted = false) ∧
    (∃ (s s1 : State) (g : Fin 3), s.cleRuns = true ∧ vget s.cle.rgDue (g + 1) = true ∧ (∀ h, h ≤ g.val → 0 < h → vget s.cle.rgDue h =
      false) ∧ s1 = (s.scheduled ((s.inGroup (g + 1)).filter fun i => (s.ctx i).due)).foldl State.runCtx s ∧ s1.cle.halted = true) ∧
    (∃ (s s1 : State) (g : Fin 3), s.cleRuns = true ∧ vget s.cle.rgDue (g + 1) = true ∧ (∀ h, h ≤ g.val → 0 < h → vget s.cle.rgDue h =
      false) ∧ s1 = (s.scheduled ((s.inGroup (g + 1)).filter fun i => (s.ctx i).due)).foldl State.runCtx s ∧ s1.cle.halted = false) :=
  ⟨
   ⟨{ ((feDone).modPwm fun w => { w with bnd := 1, ran := true }) with spur := { feDone.spur with bad := [(0, 15872)] } }, _, 0,
     by decide +kernel, by decide +kernel, rfl, by decide +kernel⟩,
   ⟨(s1.modPwm fun w => { w with bnd := 1, ran := true }), _, 0, by decide +kernel, by decide +kernel, rfl, by decide +kernel⟩,
   ⟨{ (((feDone.setCf F.CTX_CFG_RG 62 1).modPwm fun w => { w with bnd := 1, ran := true }).modCle fun c => { c with rgDue := vmod c.rgDue 1 fun _ => true, ctx := vmod c.ctx 62 fun x => { x with due := true } }) with spur := { feDone.spur with bad := [(0, 15872)] } },
     _, 0, by decide +kernel, by decide +kernel, by decide +kernel, rfl, by decide +kernel⟩,
   ⟨((s1.modPwm fun w => { w with bnd := 1, ran := true }).modCle fun c => { c with rgDue := vmod c.rgDue 3 fun _ => true }), _, 2,
     by decide +kernel, by decide +kernel, by decide +kernel, rfl, by decide +kernel⟩⟩

theorem meets_CleCommandsComplete_2 :
    (∃ (s : State) (ports : BitVec 12) (new : List Nat), s.Canon ∧ s.pwm.ran = true ∧ new = ((List.range 12).filter fun p => bitOf
      ports.toNat p && !bitOf s.cle.missed p && (s.port p).cfg.configured) ∧ new ≠ []) ∧
    (∃ (s : State) (g : Fin 3), s.Canon ∧ vget s.cle.rgSkip (g + 1) = true) ∧
    (∃ (s : State) (i : Fin 63), s.feExpired i = true ∧ s.cflag F.CTX_STATUS_FE_LATCH i = false) ∧
    (∃ (s : State) (i : Fin 63), s.feExpired i = true ∧ s.cflag F.CTX_STATUS_FE_LATCH i = true) :=
  ⟨
   ⟨(s1.modPwm fun w => { w with bnd := 1, ran := true }).modPort 11 fun p => { p with cfg := { p.cfg with configured := true } },
     0x800#12, _, canon_of (by decide +kernel), by decide +kernel, rfl, by decide +kernel⟩,
   ⟨(s1.modCle fun c => { c with rgSkip := Vector.replicate 4 true }), 2, canon_of (by decide +kernel), by decide +kernel⟩,
   ⟨feDone, 62, by decide +kernel, by decide +kernel⟩,
   ⟨feDone.setCflag F.CTX_STATUS_FE_LATCH 62 true, 62, by decide +kernel, by decide +kernel⟩⟩

theorem meets_SpurAndDebugCommandsComplete_1 :
    (∃ (s : State) (b : Nat), s.Canon ∧ s.spur.req = some b ∧ b < s.pwm.bnd ∧ s.flag F.TACK_CTRL_TEST_EN 0 = true ∧ s.flag F.SPUR_CTRL_EN
      0 = true ∧ s.stwState = 1) ∧
    (∃ s : State, s.Canon ∧ s.spurMay = false ∧ s.flag F.SPUR_CTRL_ACTIVE 0 = true) ∧
    (∃ (s : State) (cpu : DbgCpu), s.Canon ∧ s.dbgOpen = true ∧ s.dbgIsHalted cpu = false ∧ cpu = .cle ∧ s.flag F.PWM_CTRL_DBG_FREEZE 0 =
      true) ∧
    (∃ s : State, s.dbgOpen = true ∧ s.fcp.svpHalted = true) :=
  ⟨
   ⟨{ mk [(F.TACK_CTRL_TEST_EN, 0, 1), (F.SPUR_CTRL_EN, 0, 1), (F.STW_STATUS_STATE, 0, 1)] with spur := { s1.spur with req := some 0 }, pwm := { s1.pwm with bnd := 1 } },
     0, canon_of (by decide +kernel), by decide +kernel, by decide +kernel, by decide +kernel, by decide +kernel, by decide +kernel⟩,
   ⟨(mk [(F.SPUR_CTRL_ACTIVE, 0, 1)]), canon_of (by decide +kernel), by decide +kernel, by decide +kernel⟩,
   ⟨(mk [(F.PWM_CTRL_DBG_FREEZE, 0, 1)]), .cle, canon_of (by decide +kernel), by decide +kernel, by decide +kernel, rfl,
     by decide +kernel⟩,
   ⟨{ s1 with fcp := { s1.fcp with svpHalted := true } }, by decide +kernel, by decide +kernel⟩⟩

theorem meets_SpurAndDebugCommandsComplete_2 :
    (∃ (s : State) (a : Nat), s.Canon ∧ s.dbgOpen = true ∧ s.cle.dbgHalted = true ∧ s.pwm.frozenAt = some a ∧ s.clkOk 4 = true) ∧
    (∃ s : State, s.Canon ∧ s.dbgOpen = true ∧ s.cle.dbgHalted = true ∧ (s.pwm.frozenAt = none ∨ s.clkOk 4 = false)) ∧
    (∃ s : State, s.dbgOpen = true ∧ s.hlp.dbgHalted = true) ∧
    (∃ (s : State) (pins : BitVec 48), s.flag F.TACK_CTRL_LOCK 0 = false) :=
  ⟨
   ⟨{ ((mk [(F.CLK_STAT_CLK_OK, 0, 255)]).modCle fun c => { c with dbgHalted := true }) with pwm := { s1.pwm with frozenAt := some 0 } },
     0, canon_of (by decide +kernel), by decide +kernel, by decide +kernel, by decide +kernel, by decide +kernel⟩,
   ⟨(s1.modCle fun c => { c with dbgHalted := true }), canon_of (by decide +kernel), by decide +kernel, by decide +kernel,
     by decide +kernel⟩,
   ⟨s1.modHlp fun h => { h with dbgHalted := true }, by decide +kernel, by decide +kernel⟩,
   ⟨s1, 1#48, by decide +kernel⟩⟩

theorem meets_QueryCommandsComplete :
    (∃ (s : State) (tag : Fin 128) (e : Entry), s.Serves 0x0401 tag e ∧ e.a 0 < 63) ∧
    (∃ (s : State) (tag : Fin 128) (e : Entry), s.Serves 0x0402 tag e ∧ e.a 0 < 63) ∧
    (∃ (s : State) (tag : Fin 128) (e : Entry), s.Serves 0x0403 tag e ∧ e.a 0 < 12) ∧
    (∃ (s : State) (tag : Fin 128) (e : Entry), s.Serves 0x0404 tag e ∧ e.a 0 < 4) ∧
    (∃ (s : State) (tag : Fin 128) (e : Entry), s.Serves 0x0405 tag e ∧ 1 ≤ e.a 0 ∧ e.a 0 ≤ 64 ∧ e.payload.length = 4 * e.a 0 ∧ e.a 1 ≤ 1
      ∧ (∀ k < e.a 0, leAt e.payload (4 * k + 2) 2 % 4 = 0)) ∧
    (∃ (s : State) (tag : Fin 128) (e : Entry), s.Serves 0x0406 tag e) :=
  ⟨
   ⟨inFlight s1 (ent 0x0401 [62] []), 0, (ent 0x0401 [62] []), serves_of (by decide +kernel) (by decide +kernel) (by decide +kernel),
     by decide +kernel⟩,
   ⟨inFlight s1 (ent 0x0402 [62] []), 0, (ent 0x0402 [62] []), serves_of (by decide +kernel) (by decide +kernel) (by decide +kernel),
     by decide +kernel⟩,
   ⟨inFlight s1 (ent 0x0403 [11] []), 0, (ent 0x0403 [11] []), serves_of (by decide +kernel) (by decide +kernel) (by decide +kernel),
     by decide +kernel⟩,
   ⟨inFlight s1 (ent 0x0404 [3] []), 0, (ent 0x0404 [3] []), serves_of (by decide +kernel) (by decide +kernel) (by decide +kernel),
     by decide +kernel⟩,
   ⟨inFlight s1 (ent 0x0405 [1, 1] (by8 [0, 0, 4, 0])), 0, (ent 0x0405 [1, 1] (by8 [0, 0, 4, 0])), serves_of (by decide +kernel)
     (by decide +kernel) (by decide +kernel), by decide +kernel, by decide +kernel, by decide +kernel, by decide +kernel,
     by decide +kernel⟩,
   ⟨inFlight s1 (ent 0x0406 [] []), 0, (ent 0x0406 [] []), serves_of (by decide +kernel) (by decide +kernel) (by decide +kernel)⟩⟩

theorem meets_CoefficientCommandsComplete_1 :
    (∃ (s : State) (tag : Fin 128) (e : Entry), s.Serves 0x0104 tag e ∧ e.a 0 ≤ 15 ∧ e.a 1 ≤ 3 ∧ s.flag F.COEF_STATUS_SWAP_PEND 0 = false
      ∧ s.bankNo ≤ 1) ∧
    (∃ (s : State) (tag : Fin 128) (e : Entry) (t1 : State), s.Serves 0x0105 tag e ∧ s.flag F.COEF_STATUS_SWAP_PEND 0 = false ∧ s.bankNo
      ≤ 1 ∧ t1 = (s.modCoef fun c =>
      { c with bank := vmod c.bank s.idle fun _ => vget c.bank s.bankNo, dir := vmod c.dir s.idle fun _ => vget c.dir s.bankNo, badTiles := (c.badTiles.filter fun x => x.1 != s.idle) ++ (c.badTiles.filter fun x => x.1 == s.bankNo).map fun x => (s.idle, x.2) })
      ∧ t1.failing s.idle = 0) ∧
    (∃ (s : State) (tag : Fin 128) (e : Entry), s.Serves 0x0106 tag e ∧ s.roleBad = false ∧ s.flag F.COEF_STATUS_SWAP_PEND 0 = false) ∧
    (∃ s : State, s.Canon ∧ s.flag F.COEF_STATUS_SWAP_PEND 0 = true ∧ s.coef.swapAt = none ∧ s.failing s.idle = 0 ∧ s.swapBlocksBad
      s.idle = false ∧ s.bankNo ≤ 1 ∧ s.isActive = false) :=
  ⟨
   ⟨inFlight s1 (ent 0x0104 [15, 3] (List.replicate 1024 0#8)), 0, (ent 0x0104 [15, 3] (List.replicate 1024 0#8)), serves_of
     (by decide +kernel) (by decide +kernel) (by decide +kernel), by decide +kernel, by decide +kernel, by decide +kernel,
     by decide +kernel⟩,
   ⟨inFlight s1 (ent 0x0105 [] []), 0, (ent 0x0105 [] []), _, serves_of (by decide +kernel) (by decide +kernel) (by decide +kernel),
     by decide +kernel, by decide +kernel, rfl, zero_failing (by decide +kernel) (by decide +kernel) (by decide +kernel)⟩,
   ⟨inFlight s1 (ent 0x0106 [] []), 0, (ent 0x0106 [] []), serves_of (by decide +kernel) (by decide +kernel) (by decide +kernel),
     by decide +kernel, by decide +kernel⟩,
   ⟨(mk [(F.COEF_STATUS_SWAP_PEND, 0, 1)]), canon_of (by decide +kernel), by decide +kernel, by decide +kernel, zero_failing
     (by decide +kernel) (by decide +kernel) (by decide +kernel), by decide +kernel, by decide +kernel, by decide +kernel⟩⟩

theorem meets_CoefficientCommandsComplete_2 :
    (∃ s : State, s.Canon ∧ s.flag F.COEF_STATUS_SWAP_PEND 0 = true ∧ s.coef.swapAt = none ∧ s.failing s.idle = 0 ∧ s.swapBlocksBad
      s.idle = false ∧ s.isActive = true) ∧
    (∃ s s3 s4 : State, s.swapDue = true ∧ s3 = (let s1 := s.unlock.setFld F.COEF_STATUS_ACTIVE_B 0 s.idle; let s2 :=
      { s1.showMark with pair := { s1.pair with sched := s1.pair.sched.filter fun x => x.kind != 1 } }; (s2.count F.COEF_STATUS_SWAP_CNT
      0).post EV.EV_COEF_SWAP noUnit s2.bankNo) ∧ s4 = (s3.forUnits 4 fun t p => if (t.port p).cfg.configured then t.obsSwap p
      (((List.range 4).map s.govMode).getD p 0) else t) ∧ s4.waitingOp 0x0106 = none) ∧
    (∃ s s3 s4 : State, s.swapDue = true ∧ s3 = (let s1 := s.unlock.setFld F.COEF_STATUS_ACTIVE_B 0 s.idle; let s2 :=
      { s1.showMark with pair := { s1.pair with sched := s1.pair.sched.filter fun x => x.kind != 1 } }; (s2.count F.COEF_STATUS_SWAP_CNT
      0).post EV.EV_COEF_SWAP noUnit s2.bankNo) ∧ s4 = (s3.forUnits 4 fun t p => if (t.port p).cfg.configured then t.obsSwap p
      (((List.range 4).map s.govMode).getD p 0) else t) ∧ ∃ e, s4.waitingOp 0x0106 = some e) :=
  ⟨
   ⟨(mk [(F.COEF_STATUS_SWAP_PEND, 0, 1), (F.PAIR_STATUS_STATE, 0, 4)]), canon_of (by decide +kernel), by decide +kernel,
     by decide +kernel, zero_failing (by decide +kernel) (by decide +kernel) (by decide +kernel), by decide +kernel, by decide +kernel⟩,
   ⟨(s1.modCoef fun c => { c with swapAt := some 0 }).modPwm fun w => { w with tk := 160000 }, _, _, by decide +kernel, rfl, rfl,
     by decide +kernel⟩,
   ⟨inFlight ((s1.modCoef fun c => { c with swapAt := some 0 }).modPwm fun w => { w with tk := 160000 }) (entW 0x0106 [] []), _, _,
     by decide +kernel, rfl, rfl, entW 0x0106 [] [], by decide +kernel⟩⟩

theorem meets_TilePresetAndObserverCommandsComplete_1 :
    (∃ (s : State) (t : Fin 64), t.val < 16 ∧ s.tileOk 0 t = true) ∧
    (∃ (s : State) (t : Fin 64), t.val < 16 ∧ s.tileOk 0 t = false) ∧
    (∃ (s : State) (t : Fin 64), t.val < 16 ∧ (5, t.val) ∉ s.coef.badTiles) ∧
    (∃ (s : State) (t : Fin 16), (5, t.val) ∈ s.coef.found) ∧
    (∃ (s : State) (tag : Fin 128) (e : Entry), s.Serves 0x0107 tag e ∧ e.a 0 ≤ 62 ∧ e.a 1 ≤ 15 ∧ e.a16 2 % 4 = 0 ∧ e.a16 2 ≤ 124 ∧ e.a16
      2 + e.payload.length ≤ 128 ∧ s.presetBad e = false ∧ s.presetOpen (e.a 0) = true) :=
  ⟨
   ⟨s1, 15, by decide +kernel, zero_tile (by decide +kernel) (by decide +kernel) (by decide +kernel) _⟩,
   ⟨s1.modCoef fun c => { c with badTiles := [(0, 15)] }, 15, by decide +kernel, by decide +kernel⟩,
   ⟨s1, 15, by decide +kernel, by decide +kernel⟩,
   ⟨s1.modCoef fun c => { c with found := [(5, 15)] }, 15, by decide +kernel⟩,
   ⟨inFlight s1 (ent 0x0107 [62, 15, 124, 0] (by8 [0, 0, 0, 0])), 0, (ent 0x0107 [62, 15, 124, 0] (by8 [0, 0, 0, 0])), serves_of
     (by decide +kernel) (by decide +kernel) (by decide +kernel), by decide +kernel, by decide +kernel, by decide +kernel,
     by decide +kernel, by decide +kernel, by decide +kernel, by decide +kernel⟩⟩

theorem meets_TilePresetAndObserverCommandsComplete_2 :
    (∃ (s : State) (tag : Fin 128) (e : Entry), s.Due 0x0107 tag e ∧ s.atBoundary e = true) ∧
    (∃ (s : State) (p : Fin 4) (s1 : State), s.Canon ∧ (s.port p).cfg.configured = true ∧ s1 = s.setFld F.OBS_STATUS_UPD_SEQ p (s.fld
      F.OBS_STATUS_UPD_SEQ p + 1) ∧ (s1.obsWhy p ≠ 0 ∨ (((s1.obsBins p).take 31).filter fun x => x.2.2.2).length < 4)) ∧
    (∃ (s : State) (p : Fin 4) (s1 : State), (s.port p).cfg.configured = true ∧ s1 = s.setFld F.OBS_STATUS_UPD_SEQ p (s.fld
      F.OBS_STATUS_UPD_SEQ p + 1) ∧ s1.obsWhy p = 0) ∧
    (∃ (s s1 : State) (store : TileStore) (t : Fin 64) (upset bad : Bool) (c : Nat), c = storeCode store ∧ t.val < storeTiles c ∧ (c = 2
      → t.val < s.hlp.prog.count) ∧ (s1 = (if upset = true ∧ (c, t.val) ∉ s.coef.badTiles then s.modCoef fun d =>
      { d with badTiles := d.badTiles ++ [(c, t.val)] } else s)) ∧ bad = (if c < 2 then !s1.tileOk c t else (c == 3 && !s1.profOk t) ||
      s1.coef.badTiles.contains (c, t.val) || (c == 2 && !s1.hlp.prog.tileOk t))) :=
  ⟨
   ⟨inFlight (s1.modPwm fun w => { w with bnd := 1 }) (entW 0x0107 [62, 15, 124, 0] []), 0, entW 0x0107 [62, 15, 124, 0] [], due_of
     (by decide +kernel) (by decide +kernel) (by decide +kernel), by decide +kernel⟩,
   ⟨s1.modPort 3 fun p => { p with cfg := { p.cfg with configured := true } }, 3, _, canon_of (by decide +kernel), by decide +kernel,
     rfl, by decide +kernel⟩,
   ⟨((coefWord (mk [(F.PORT_STATUS_STATE, 3, 5)]) 68 0x3F800000#32).modPort 3 fun p =>
     { p with cfg := { p.cfg with configured := true } }).modPwm fun w => { w with tk := 160000000000 }, 3, _, by decide +kernel, rfl,
     by decide +kernel⟩,
   ⟨s1, _, .safety, 0, true, _, 4, rfl, by decide +kernel, by decide +kernel, rfl, rfl⟩⟩

theorem meets_LaneCommandsComplete_1 :
    (∃ (s : State) (l : Fin 8) (on : Bool), s.Canon ∧ (¬ (l.val < 6 ∧ (s.laneState l = 3 ∨ s.laneState l = 4))) ∧ (on = true ∨ s.lnkRuns
      = true)) ∧
    (∃ (s : State) (l : Fin 8), s.Canon ∧ l.val < 6 ∧ (s.laneState l = 3 ∨ s.laneState l = 4)) ∧
    (∃ (s : State) (l : Fin 8), s.Canon ∧ s.laneState l ≠ 0 ∧ s.lnkRuns = true ∧ 15 ≤ vget s.gl.commas l) ∧
    (∃ (s : State) (l : Fin 8) (k : Fin 10), s.Canon ∧ s.laneState l ≠ 0 ∧ s.lnkRuns = true ∧ (k.val ≠ 0 ∨ vget s.gl.commas l < 15)) ∧
    (∃ (s : State) (l : Fin 8), s.Canon ∧ s.laneState l ≠ 0 ∧ (¬ (l.val < 6 ∧ (s.laneState l = 3 ∨ s.laneState l = 4)))) ∧
    (∃ (s : State) (l : Fin 8), s.laneState l = 0 ∧ s.flag F.LANE_CFG_EN l = true) :=
  ⟨
   ⟨s1, 7, true, canon_of (by decide +kernel), by decide +kernel, by decide +kernel⟩,
   ⟨(mk [(F.LANE_STAT_STATE, 5, 4)]), 5, canon_of (by decide +kernel), by decide +kernel, by decide +kernel⟩,
   ⟨{ mk [(F.LANE_STAT_STATE, 7, 1)] with gl := { s1.gl with commas := Vector.replicate 8 15 } }, 7, canon_of (by decide +kernel),
     by decide +kernel, by decide +kernel, by decide +kernel⟩,
   ⟨(mk [(F.LANE_STAT_STATE, 7, 1)]), 7, 9, canon_of (by decide +kernel), by decide +kernel, by decide +kernel, by decide +kernel⟩,
   ⟨(mk [(F.LANE_STAT_STATE, 7, 2)]), 7, canon_of (by decide +kernel), by decide +kernel, by decide +kernel⟩,
   ⟨(mk [(F.LANE_CFG_EN, 7, 1)]), 7, by decide +kernel, by decide +kernel⟩⟩

theorem meets_LaneCommandsComplete_2 :
    (∃ (s : State) (l : Fin 8), s.laneState l = 1 ∧ s.lnkRuns = true ∧ s.flag F.LANE_CFG_EN l = true ∧ s.flag F.LANE_STAT_LOS l = false ∧
      s.flag F.LANE_STAT_LOL l = false) ∧
    (∃ (s : State) (l : Fin 8), s.laneState l = 2 ∧ s.lnkRuns = true ∧ s.flag F.LANE_CFG_EN l = true ∧ s.flag F.LANE_STAT_ALIGNED l =
      true) ∧
    (∃ (s : State) (l : Fin 8), s.laneState l = 3 ∧ l.val < 6 ∧ s.lnkRuns = true ∧ s.flag F.LANE_CFG_EN l = true ∧ (s.lane l).measured =
      true) ∧
    (∃ (s : State) (l : Fin 6), (s.laneState l = 3 ∨ s.laneState l = 4) ∧ s.holdN + 2 ≤ (s.lane l).missing) ∧
    (∃ (s : State) (l : Fin 8), s.laneState l = 5) ∧
    (∃ (s : State) (l : Fin 8) (n : Nat), s.Canon ∧ n < 8) :=
  ⟨
   ⟨(mk [(F.LANE_STAT_STATE, 7, 1), (F.LANE_CFG_EN, 7, 1), (F.LANE_STAT_LOS, 7, 0), (F.LANE_STAT_LOL, 7, 0)]), 7, by decide +kernel,
     by decide +kernel, by decide +kernel, by decide +kernel, by decide +kernel⟩,
   ⟨(mk [(F.LANE_STAT_STATE, 7, 2), (F.LANE_CFG_EN, 7, 1), (F.LANE_STAT_ALIGNED, 7, 1)]), 7, by decide +kernel, by decide +kernel,
     by decide +kernel, by decide +kernel⟩,
   ⟨(mk [(F.LANE_STAT_STATE, 5, 3), (F.LANE_CFG_EN, 5, 1)]).modLane 5 fun l =>
     { l with rtts := List.replicate 64 1000, echoes := 64, written := (List.range 26).map fun a => (a, 0), echoed := (List.range 0x30).map fun a => (a, 0) },
     5, by decide +kernel, by decide +kernel, by decide +kernel, by decide +kernel, by decide +kernel⟩,
   ⟨(mk [(F.LANE_STAT_STATE, 5, 4)]).modLane 5 fun l => { l with missing := 100 }, 5, by decide +kernel, by decide +kernel⟩,
   ⟨(mk [(F.LANE_STAT_STATE, 7, 5)]), 7, by decide +kernel⟩,
   ⟨s1, 7, 7, canon_of (by decide +kernel), by decide +kernel⟩⟩

theorem meets_LaneCommandsComplete_3 :
    (∃ (s : State) (l : Fin 6), s.Canon ∧ s.slotMask l = 0) ∧
    (∃ (s : State) (l : Fin 6), s.slotMask l ≠ 0 ∧ (s.toLane l 5).slotMask l = s.slotMask l) ∧
    (∃ (s : State) (l : Fin 8), s.lnkRuns = true) ∧
    (∃ (s : State) (l : Fin 8), s.lnkRuns = false) ∧
    (∃ (s : State) (l : Fin 8), s.Canon ∧ l.val < 6 ∧ (s.laneState l = 3 ∨ s.laneState l = 4)) ∧
    (∃ (s : State) (l : Fin 8), s.laneState l ≠ 0 ∧ s.flag F.LANE_CFG_EN l = false) :=
  ⟨
   ⟨s1, 5, canon_of (by decide +kernel), by decide +kernel⟩,
   ⟨(mk [(F.LANE_STAT_STATE, 5, 4), (F.LEG_CFG_GL, 47, 1), (F.LEG_CFG_LANE, 47, 5), (F.LEG_CFG_SLOT, 47, 7)]), 5, by decide +kernel,
     by decide +kernel⟩,
   ⟨s1, 7, by decide +kernel⟩,
   ⟨s1.setFld F.CLK_STAT_CLK_OK 0 0xBF, 7, by decide +kernel⟩,
   ⟨(mk [(F.LANE_STAT_STATE, 5, 4)]), 5, canon_of (by decide +kernel), by decide +kernel, by decide +kernel⟩,
   ⟨(mk [(F.LANE_STAT_STATE, 7, 1)]), 7, by decide +kernel, by decide +kernel⟩⟩

theorem meets_GateLinkTrafficCommandsComplete_1 :
    (∃ (s : State) (l : Fin 8), s.pings l = true ∧ s.laneFree l = true) ∧
    (∃ (s : State) (l : Fin 8) (q : Byte) (rtt : Nat), s.pings l = true ∧ (s.lane l).pingOut = some q.toNat ∧ rtt ≤ 9600) ∧
    (∃ (s : State) (l m a : Nat), s.Canon ∧ l < 8 ∧ m = (s.lane l).meas (s.answers l) ∧ m < 65536 ∧ a = s.fld F.GL_DELAY_L_ACT l ∧ (6 ≤ l
      ∨ s.laneState l ≠ 4 ∨ m ≤ 4000 ∧ ((s.lane l).settled = false ∨ m ≤ a + 32 ∧ a ≤ m + 32))) ∧
    (∃ (s : State) (l : Fin 6) (a : Fin 26), s.pings l = true ∧ s.laneFree l = true) ∧
    (∃ (s : State) (l : Fin 8), s.laneFree l = false) :=
  ⟨
   ⟨(mk [(F.LANE_STAT_STATE, 5, 3)]), 5, by decide +kernel, by decide +kernel⟩,
   ⟨(mk [(F.LANE_STAT_STATE, 5, 3)]).modLane 5 fun l => { l with pingOut := some 255 }, 5, 255#8, 9600, by decide +kernel,
     by decide +kernel, by decide +kernel⟩,
   ⟨(mk [(F.LANE_STAT_STATE, 5, 3)]), 5, _, _, canon_of (by decide +kernel), by decide +kernel, rfl, by decide +kernel, rfl,
     by decide +kernel⟩,
   ⟨(mk [(F.LANE_STAT_STATE, 5, 3)]), 5, 25, by decide +kernel, by decide +kernel⟩,
   ⟨(s1.modLane 5 fun l => { l with sending := some (100, none) }), 5, by decide +kernel⟩⟩

theorem meets_GateLinkTrafficCommandsComplete_2 :
    (∃ (s : State) (l : Fin 6) (a : Fin 26), s.laneFree l = false) ∧
    (∃ (s : State) (l : Fin 6), (s.laneState l = 3 ∨ s.laneState l = 4 ∨ s.laneState l = 5) ∧ s.gait ≠ Gait.paddock ∧ s.lnkRuns = true ∧
      s.genHeld = false ∧ s.guardFrame s.nextPrograms l = s) ∧
    (∃ (s t : State) (l n : Nat), (List.range 8).filterMap (s.slotLeg l) = [n]) ∧
    (∃ (s : State) (l : Fin 6) (b : List Byte), s.Canon ∧ 3 ≤ s.laneState l ∧ statusOk b = false) ∧
    (∃ (s : State) (l : Fin 6) (b : List Byte), 3 ≤ s.laneState l ∧ statusOk b = true ∧ statusFaults b = 0 ∧ leAt b 3 1 < 0x24) :=
  ⟨
   ⟨(s1.modLane 5 fun l => { l with sending := some (100, none) }), 5, 25, by decide +kernel⟩,
   ⟨(mk [(F.LANE_STAT_STATE, 5, 4)]), 5, by decide +kernel, by decide +kernel, by decide +kernel, by decide +kernel, guard_nothing
     (by decide +kernel)⟩,
   ⟨(mk [(F.LEG_CFG_GL, 47, 1), (F.LEG_CFG_LANE, 47, 5), (F.LEG_CFG_SLOT, 47, 7)]), s1, 5, 47, by decide +kernel⟩,
   ⟨(mk [(F.LANE_STAT_STATE, 5, 3)]), 5, [], canon_of (by decide +kernel), by decide +kernel, by decide +kernel⟩,
   ⟨(mk [(F.LANE_STAT_STATE, 5, 3)]), 5, List.replicate 31 0#8 ++ leBytes 2 (crc16 (List.replicate 31 0#8)).toNat, by decide +kernel,
     by decide +kernel, by decide +kernel, by decide +kernel⟩⟩

theorem meets_GateLinkTrafficCommandsComplete_3 :
    (∃ (s : State) (l : Fin 6) (m c : Byte), 3 ≤ s.laneState l ∧ c = m ^^^ 0xFF#8) ∧
    (∃ (s : State) (l : Fin 6) (m c : Byte), c ≠ m ^^^ 0xFF#8) ∧
    (∃ (s s1 s2 s3 : State) (l : Fin 6) (b : List Byte), 3 ≤ s.laneState l ∧ statusOk b = true ∧ s1 = s.modLane l (fun x =>
      { x with fresh := true, missing := 0, portB := bitOf (leAt b 2 1) 0, gden := bitOf (leAt b 2 1) 6, clean := statusFaults b == 0 && !bitOf (leAt b 2 1) 5, echoed := (leAt b 3 1, leAt b 4 2) :: x.echoed.filter (·.1 != leAt b 3 1) })
      ∧ s2 = ((s1.setFlag F.LANE_STAT_DRV_OBEY l (bitOf (leAt b 2 1) 3)).forUnits 8 fun t k => t.takeSlot l k b) ∧ s3 = s2.remeasure l
      (leAt b 3 1) ∧ statusFaults b &&& s3.slotMask l = 0) ∧
    (∃ (s s1 s2 s3 : State) (l : Fin 6) (b : List Byte), 3 ≤ s.laneState l ∧ statusOk b = true ∧ s1 = s.modLane l (fun x =>
      { x with fresh := true, missing := 0, portB := bitOf (leAt b 2 1) 0, gden := bitOf (leAt b 2 1) 6, clean := statusFaults b == 0 && !bitOf (leAt b 2 1) 5, echoed := (leAt b 3 1, leAt b 4 2) :: x.echoed.filter (·.1 != leAt b 3 1) })
      ∧ s2 = ((s1.setFlag F.LANE_STAT_DRV_OBEY l (bitOf (leAt b 2 1) 3)).forUnits 8 fun t k => t.takeSlot l k b) ∧ s3 = s2.remeasure l
      (leAt b 3 1) ∧ statusFaults b &&& s3.slotMask l ≠ 0) :=
  ⟨
   ⟨(mk [(F.LANE_STAT_STATE, 5, 3)]), 5, 0xF0#8, 0x0F#8, by decide +kernel, rfl⟩,
   ⟨s1, 5, 0#8, 0#8, by decide +kernel⟩,
   ⟨(mk [(F.LANE_STAT_STATE, 5, 3)]), _, _, _, 5, List.replicate 31 0#8 ++ leBytes 2 (crc16 (List.replicate 31 0#8)).toNat,
     by decide +kernel, by decide +kernel, rfl, rfl, rfl, by decide +kernel⟩,
   ⟨(mk [(F.LANE_STAT_STATE, 5, 3), (F.LEG_CFG_GL, 47, 1), (F.LEG_CFG_LANE, 47, 5), (F.LEG_CFG_SLOT, 47, 7)]), _, _, _, 5, List.replicate
     29 0#8 ++ [0xFF#8, 0xFF#8] ++ leBytes 2 (crc16 (List.replicate 29 0#8 ++ [0xFF#8, 0xFF#8])).toNat, by decide +kernel,
     by decide +kernel, rfl, rfl, rfl, by decide +kernel⟩⟩

theorem meets_GateDriverCommandsComplete_1 :
    (∃ (s : State) (p : BitVec 6), s.Canon ∧ p.toNat = s.gdenDriven ∧ Cause.gdenReadback ∉ s.stw.active) ∧
    (∃ (s : State) (tag : Fin 128) (e : Entry), s.Serves 0x020C tag e ∧ e.a 0 ≤ 5 ∧ (e.a16 2 = 0 ∨ 10 ≤ e.a16 2 ∧ e.a16 2 ≤ 1000) ∧
      s.notActive = false ∧ s.isActive = false ∧ s.laneSwitching (e.a 0) = false ∧ (s.lane (e.a 0)).clear = 0 ∧ (∀ x ∈ s.pair.sched, 2 ≤
      x.kind → bitOf x.lanes (e.a 0) = false)) ∧
    (∃ (s : State) (tag : Fin 128) (e : Entry), s.Serves 0x020C tag e ∧ e.a 0 ≤ 5 ∧ (e.a16 2 = 0 ∨ 10 ≤ e.a16 2 ∧ e.a16 2 ≤ 1000) ∧
      s.notActive = false ∧ s.isActive = true ∧ s.laneSwitching (e.a 0) = false ∧ (s.lane (e.a 0)).clear = 0 ∧ (∀ x ∈ s.pair.sched, 2 ≤
      x.kind → bitOf x.lanes (e.a 0) = false)) ∧
    (∃ (s : State) (l : Nat), l < 6) ∧
    (∃ (s : State) (l : Fin 6), (s.lane l).clear = 1 ∧ s.notActive = false ∧ s.isActive = false) ∧
    (∃ (s : State) (l : Fin 6), (s.lane l).clear = 1 ∧ s.notActive = false ∧ s.isActive = true ∧ (s.lane l).gden = false ∧ (∀ x ∈
      s.pair.sched, x.kind = 3 → bitOf x.lanes l = false)) :=
  ⟨
   ⟨s1, BitVec.ofNat 6 s1.gdenDriven, canon_of (by decide +kernel), by decide +kernel, by decide +kernel⟩,
   ⟨inFlight s1 (ent 0x020C [5, 0, 232, 3] []), 0, (ent 0x020C [5, 0, 232, 3] []), serves_of (by decide +kernel) (by decide +kernel)
     (by decide +kernel), by decide +kernel, by decide +kernel, by decide +kernel, by decide +kernel, by decide +kernel,
     by decide +kernel, by decide +kernel⟩,
   ⟨inFlight (mk [(F.PAIR_STATUS_STATE, 0, 4)]) (ent 0x020C [5, 0, 10] []), 0, (ent 0x020C [5, 0, 10] []), serves_of (by decide +kernel)
     (by decide +kernel) (by decide +kernel), by decide +kernel, by decide +kernel, by decide +kernel, by decide +kernel,
     by decide +kernel, by decide +kernel, by decide +kernel⟩,
   ⟨s1, 5, by decide +kernel⟩,
   ⟨(s1.modLane 5 fun l => { l with clear := 1 }), 5, by decide +kernel, by decide +kernel, by decide +kernel⟩,
   ⟨((mk [(F.PAIR_STATUS_STATE, 0, 4)]).modLane 5 fun l => { l with clear := 1 }), 5, by decide +kernel, by decide +kernel,
     by decide +kernel, by decide +kernel, by decide +kernel⟩⟩

theorem meets_GateDriverCommandsComplete_2 :
    (∃ (s : State) (l : Fin 6) (tag : Fin 128) (e : Entry), s.Inv ∧ s.svpRuns = true ∧ (s.lane l).clear = 2 ∧ (s.lane l).clean = true ∧
      (s.fcp.inflight.find? fun e => e.op == 0x020C && e.started && e.a 0 == l.val) = some e ∧ e.tag = tag.val) ∧
    (∃ (s : State) (l : Fin 6) (tag : Fin 128) (e : Entry), s.Inv ∧ s.svpRuns = true ∧ (s.lane l).clear = 2 ∧ (s.lane l).clean = false ∧
      (s.fcp.inflight.find? fun e => e.op == 0x020C && e.started && e.a 0 == l.val) = some e ∧ e.tag = tag.val) ∧
    (∃ (s s1 : State) (p : BitVec 6), s1 = (((s.setFld F.GL_GDEN_PIN 0 p.toNat).modStw fun w =>
      { w with gdenLow := if p = 0#6 then min 2 (w.gdenLow + 1) else 0 }).forUnits 6 fun t g => t.gdenSample p.toNat g)) ∧
    (∃ (s : State) (p g : Nat), g < 6 ∧ bitOf p g ≠ bitOf s.gdenDriven g ∧ (s.lane g).rbBad = 1) ∧
    (∃ (s : State) (l : Fin 6), (s.lane l).clear = 2 ∧ (∀ e ∈ s.fcp.inflight, e.op ≠ 0x020C)) :=
  ⟨
   ⟨inFlight (s1.modLane 5 fun l => { l with clear := 2, clean := true }) (entW 0x020C [5] []), 5, 0, entW 0x020C [5] [], inv_of
     (by decide +kernel), by decide +kernel, by decide +kernel, by decide +kernel, by decide +kernel, by decide +kernel⟩,
   ⟨inFlight (s1.modLane 5 fun l => { l with clear := 2 }) (entW 0x020C [5] []), 5, 0, entW 0x020C [5] [], inv_of (by decide +kernel),
     by decide +kernel, by decide +kernel, by decide +kernel, by decide +kernel, by decide +kernel⟩,
   ⟨s1, _, 0x20#6, rfl⟩,
   ⟨(s1.modLane 5 fun l => { l with rbBad := 1 }), 32, 5, by decide +kernel, by decide +kernel, by decide +kernel⟩,
   ⟨(s1.modLane 5 fun l => { l with clear := 2 }), 5, by decide +kernel, by decide +kernel⟩⟩

theorem meets_BridleAndPairCommandsComplete_1 :
    (∃ s : State, s.pair.lowSince = none ∧ s.Canon) ∧
    (∃ (s : State) (k : Nat), s.pair.lowSince = some k ∧ s.flag F.PAIR_STATUS_ACT_OUT 0 = false ∧ s.Canon) ∧
    (∃ (s t : State) (k r : Nat), s.pair.lowSince = some k ∧ s.flag F.PAIR_STATUS_ACT_OUT 0 = true ∧ s.pair.roseAt = some r ∧ t =
      (((s.setFlag F.PAIR_STATUS_PARTNER_ACT 0 true).modPair fun p =>
      { p with lowSince := none, takeDue := false, gdenDrop := false }).gdenCmd) ∧ r + 16000 ≤ s.now) ∧
    (∃ (s t : State) (k r : Nat), s.pair.lowSince = some k ∧ s.flag F.PAIR_STATUS_ACT_OUT 0 = true ∧ s.pair.roseAt = some r ∧ t =
      (((s.setFlag F.PAIR_STATUS_PARTNER_ACT 0 true).modPair fun p =>
      { p with lowSince := none, takeDue := false, gdenDrop := false }).gdenCmd) ∧ s.now < r + 16000 ∧ s.flag F.PAIR_CFG_PRIO 0 = true) ∧
    (∃ (s t : State) (k r : Nat), s.pair.lowSince = some k ∧ s.flag F.PAIR_STATUS_ACT_OUT 0 = true ∧ s.pair.roseAt = some r ∧ t =
      (((s.setFlag F.PAIR_STATUS_PARTNER_ACT 0 true).modPair fun p =>
      { p with lowSince := none, takeDue := false, gdenDrop := false }).gdenCmd) ∧ s.now < r + 16000 ∧ s.flag F.PAIR_CFG_PRIO 0 = false) ∧
    (∃ s : State, s.Canon ∧ s.gait ≠ Gait.paddock ∧ s.flag F.PAIR_STATUS_ACT_OUT 0 = true) :=
  ⟨
   ⟨(s1.modPair fun p => { p with lowSince := none }), by decide +kernel, canon_of (by decide +kernel)⟩,
   ⟨s1, 0, by decide +kernel, by decide +kernel, canon_of (by decide +kernel)⟩,
   ⟨{ ((mk [(F.PAIR_STATUS_ACT_OUT, 0, 1)]).modPair fun p => { p with lowSince := some 100, roseAt := some 50 }) with now := 16050 }, _,
     100, 50, by decide +kernel, by decide +kernel, by decide +kernel, rfl, by decide +kernel⟩,
   ⟨{ ((mk [(F.PAIR_STATUS_ACT_OUT, 0, 1), (F.PAIR_CFG_PRIO, 0, 1)]).modPair fun p => { p with lowSince := some 100, roseAt := some 50 }) with now := 16049 },
     _, 100, 50, by decide +kernel, by decide +kernel, by decide +kernel, rfl, by decide +kernel, by decide +kernel⟩,
   ⟨{ ((mk [(F.PAIR_STATUS_ACT_OUT, 0, 1), (F.PAIR_CFG_PRIO, 0, 0)]).modPair fun p => { p with lowSince := some 100, roseAt := some 50 }) with now := 16049 },
     _, 100, 50, by decide +kernel, by decide +kernel, by decide +kernel, rfl, by decide +kernel, by decide +kernel⟩,
   ⟨(mk [(F.PAIR_STATUS_ACT_OUT, 0, 1)]), canon_of (by decide +kernel), by decide +kernel, by decide +kernel⟩⟩

theorem meets_BridleAndPairCommandsComplete_2 :
    (∃ s : State, (s.gait = Gait.paddock ∨ s.flag F.PAIR_STATUS_ACT_OUT 0 = false)) ∧
    (∃ s : State, s.flag F.STW_STATUS_REMOTE_SGR 0 = false) ∧
    (∃ s : State, s.flag F.STW_STATUS_REMOTE_SGR 0 = true) ∧
    (∃ s : State, s.flag F.STW_STATUS_REMOTE_SGR 0 = true ∧ s.flag F.PAIR_STATUS_SGR_IN 0 = false ∧ s.stw.sgr = true) ∧
    (∃ s : State, s.flag F.STW_STATUS_REMOTE_SGR 0 = true ∧ s.flag F.PAIR_STATUS_SGR_IN 0 = false ∧ s.stw.sgr = false) ∧
    (∃ s : State, s.pairState = 3 ∧ s.pair.takeDue = true ∧ s.actMayRise = true) :=
  ⟨
   ⟨(mk [(F.PAIR_STATUS_ACT_OUT, 0, 0)]), by decide +kernel⟩,
   ⟨(mk [(F.STW_STATUS_REMOTE_SGR, 0, 0)]), by decide +kernel⟩,
   ⟨(mk [(F.STW_STATUS_REMOTE_SGR, 0, 1)]), by decide +kernel⟩,
   ⟨(mk [(F.STW_STATUS_REMOTE_SGR, 0, 1)]).modStw fun w => { w with sgr := true }, by decide +kernel, by decide +kernel,
     by decide +kernel⟩,
   ⟨(mk [(F.STW_STATUS_REMOTE_SGR, 0, 1)]), by decide +kernel, by decide +kernel, by decide +kernel⟩,
   ⟨{ ((mk [(F.PAIR_STATUS_STATE, 0, 3), (F.TACK_CTRL_LOCK, 0, 1), (F.STW_STATUS_STATE, 0, 2)]).modPair fun p => { p with takeDue := true }) with pwm := { s1.pwm with tk := 16000 } },
     by decide +kernel, by decide +kernel, by decide +kernel⟩⟩

theorem meets_BridleAndPairCommandsComplete_3 :
    (∃ (s : State) (n : Nat), s.pair.handover = some n ∧ s.isActive = true ∧ n ≤ s.pnumOut ∧ s.flag F.PAIR_STATUS_ACT_OUT 0 = true) ∧
    (∃ (s : State) (k : Nat), s.Canon ∧ s.pair.lowSince = some k ∧ s.pairState = 3 ∧ k + 80000 + 2 * s.fineP ≤ s.now ∧ (∀ r,
      s.pair.roseAt = some r → r < k)) ∧
    (∃ (s : State) (k r : Nat), s.pair.lowSince = some k ∧ s.pair.roseAt = some r ∧ k ≤ r) ∧
    (∃ (s : State) (p : BitVec 6), (s.pairState = 3 ∨ s.pairState = 4 ∨ (s.pairState = 2 ∧ s.pair.appliedAt.isSome)) ∧ (s.fld
      F.PAIR_STATUS_PEER_STATE 0 = 3 ∨ s.fld F.PAIR_STATUS_PEER_STATE 0 = 4) ∧ s.safD 0x44 1 1 = 1 ∧ (vget s.tb 2).sec % 2 = b2n (s.flag
      F.PAIR_CFG_PRIO 0) ∧ 500000000 ≤ (vget s.tb 2).ns ∧ (vget s.tb 2).ns ≤ 500002000 ∧ s.gdenDriven &&& p.toNat ≠ 0) ∧
    (∃ (s : State) (p : BitVec 6), (s.gdenDriven &&& p.toNat = 0 ∨ s.safD 0x44 1 1 ≠ 1 ∨ (vget s.tb 2).sec % 2 ≠ b2n (s.flag
      F.PAIR_CFG_PRIO 0))) ∧
    (∃ (s : State) (tag : Fin 128) (e : Entry) (k : Nat), s.Serves 0x0901 tag e ∧ (s.pairState = 1 ∨ s.pairState = 2) ∧ s.pair.lowSince =
      some k ∧ k + 16000 ≤ s.now) :=
  ⟨
   ⟨((mk [(F.PAIR_STATUS_STATE, 0, 4), (F.PAIR_STATUS_ACT_OUT, 0, 1)]).modPair fun p => { p with handover := some 0 }), 0,
     by decide +kernel, by decide +kernel, by decide +kernel, by decide +kernel⟩,
   ⟨{ ((mk [(F.PAIR_STATUS_STATE, 0, 3), (F.PWM_PERIOD_ALL, 0, 12500)]).modPair fun p => { p with lowSince := some 16 }) with now := 880016 },
     16, canon_of (by decide +kernel), by decide +kernel, by decide +kernel, by decide +kernel, by decide +kernel⟩,
   ⟨(s1.modPair fun p => { p with lowSince := some 100, roseAt := some 100 }), 100, 100, by decide +kernel, by decide +kernel,
     by decide +kernel⟩,
   ⟨(((mk [(F.PAIR_STATUS_STATE, 0, 4), (F.PAIR_STATUS_PEER_STATE, 0, 3), (F.GL_GDEN_CMD, 0, 63), (F.GL_GDEN_STEW_LOW, 0, 0)])).modTb 2
     fun t => { t with ticks := 500002000 * 65536 }), 0x20#6, by decide +kernel, by decide +kernel, by decide +kernel, by decide +kernel,
     by decide +kernel, by decide +kernel, by decide +kernel⟩,
   ⟨s1, 0x20#6, by decide +kernel⟩,
   ⟨inFlight { mk [(F.PAIR_STATUS_STATE, 0, 2)] with now := 16000 } (ent 0x0901 [] []), 0, (ent 0x0901 [] []), 0, serves_of
     (by decide +kernel) (by decide +kernel) (by decide +kernel), by decide +kernel, by decide +kernel, by decide +kernel⟩⟩

theorem meets_BridleAndPairCommandsComplete_4 :
    (∃ (s : State) (tag : Fin 128) (e : Entry), s.Serves 0x0902 tag e ∧ s.isActive = true ∧ s.flag F.PAIR_STATUS_PARTNER_READY 0 = true ∧
      s.pair.handover = none) ∧
    (∃ (s : State) (n : Nat) (p : Option Nat) (d : Option (List Nat)), s.pair.sched = [⟨n, 0, p, d, 0⟩] ∧ n ≤ s.pnumOut + 1) ∧
    (∃ (s : State) (n l k : Nat), (k = 2 ∨ k = 3) ∧ s.pair.sched = [⟨n, k, none, none, l⟩] ∧ n ≤ s.pnumOut) ∧
    (∃ (s : State), s.pair.sched.filter s.changeDue = []) :=
  ⟨
   ⟨inFlight (mk [(F.PAIR_STATUS_STATE, 0, 4), (F.PAIR_STATUS_PARTNER_READY, 0, 1)]) (ent 0x0902 [] []), 0, (ent 0x0902 [] []), serves_of
     (by decide +kernel) (by decide +kernel) (by decide +kernel), by decide +kernel, by decide +kernel, by decide +kernel⟩,
   ⟨(s1.modPair fun p => { p with sched := [⟨1, 0, some 12500, some [1, 10, 100, 1000], 0⟩] }), 1, some 12500, some [1, 10, 100, 1000],
     by decide +kernel, by decide +kernel⟩,
   ⟨(s1.modPair fun p => { p with sched := [⟨0, 3, none, none, 32⟩] }), 0, 32, 3, by decide +kernel, by decide +kernel,
     by decide +kernel⟩,
   ⟨s1, by decide +kernel⟩⟩

theorem meets_MirrorCommandsComplete_1 :
    (∃ (s : State) (n b : Nat), s.Canon ∧ s.pair.recDue = some n ∧ s.isActive = true ∧ s.mirrorUp = true ∧ b = s.fld
      F.PAIR_CFG_RECORD_BLKS 0 ∧ b ≤ s.mirrorCredits) ∧
    (∃ (s : State) (n : Nat), s.Canon ∧ s.pair.recDue = some n ∧ s.isActive = true ∧ s.mirrorUp = true ∧ s.mirrorCredits < s.fld
      F.PAIR_CFG_RECORD_BLKS 0) ∧
    (∃ s : State, (s.isActive = false ∨ s.mirrorUp = false ∨ s.pair.recDue = none)) ∧
    (∃ (s : State) (l : Fin 2) (n c : Byte), s.isActive = true ∧ s.laneState (6 + l) = 4 ∧ c = n ^^^ 0xFF#8) ∧
    (∃ (s : State) (l : Fin 2) (n c : Byte), (c ≠ n ^^^ 0xFF#8 ∨ s.isActive = false ∨ s.laneState (6 + l) ≠ 4)) ∧
    (∃ (s : State) (l : Fin 2) (b : List Byte) (k : Int), s.Canon ∧ s.laneState (6 + l.val) = 4 ∧ mirrorOk b = false) :=
  ⟨
   ⟨((mk [(F.PAIR_STATUS_STATE, 0, 4), (F.LANE_STAT_STATE, 7, 4), (F.PAIR_CFG_RECORD_BLKS, 0, 31)]).modPair fun p =>
     { p with recDue := some 65535, credits := 31 }), 65535, _, canon_of (by decide +kernel), by decide +kernel, by decide +kernel,
     by decide +kernel, rfl, by decide +kernel⟩,
   ⟨((mk [(F.PAIR_STATUS_STATE, 0, 4), (F.LANE_STAT_STATE, 7, 4), (F.PAIR_CFG_RECORD_BLKS, 0, 31)]).modPair fun p =>
     { p with recDue := some 7, credits := 30 }), 7, canon_of (by decide +kernel), by decide +kernel, by decide +kernel,
     by decide +kernel, by decide +kernel⟩,
   ⟨s1, by decide +kernel⟩,
   ⟨(mk [(F.PAIR_STATUS_STATE, 0, 4), (F.LANE_STAT_STATE, 7, 4)]), 1, 0xF0#8, 0x0F#8, by decide +kernel, by decide +kernel, rfl⟩,
   ⟨s1, 1, 0xF0#8, 0x0F#8, by decide +kernel⟩,
   ⟨(mk [(F.PAIR_STATUS_STATE, 0, 3), (F.LANE_STAT_STATE, 7, 4)]), 1, [], 0, canon_of (by decide +kernel), by decide +kernel,
     by decide +kernel⟩⟩

theorem meets_MirrorCommandsComplete_2 :
    (∃ (s : State) (l : Fin 2) (b : List Byte) (k : Int), s.laneState (6 + l.val) = 4 ∧ mirrorOk b = true ∧ leAt b 2 1 ≠ 255 ∧
      s.pairState ≠ 0 ∧ s.isActive = false) ∧
    (∃ (s : State) (l : Fin 2) (b : List Byte) (k : Int), s.laneState (6 + l.val) = 4 ∧ mirrorOk b = true ∧ (leAt b 2 1 = 255 ∨
      s.pairState = 0 ∨ s.isActive = true)) ∧
    (∃ (s : State) (r : MirrorRecord) (b : Nat), (s.pairState = 2 ∨ s.pairState = 3) ∧ s.pair.rxDone = some (r.pnum % 65536, b) ∧
      s.pair.rxAt < s.pwm.bnd) ∧
    (∃ (s : State) (r : MirrorRecord), (s.pair.rxDone = none ∨ s.pwm.bnd ≤ s.pair.rxAt)) ∧
    (∃ s : State, (s.pairState = 2 ∨ s.pairState = 3) ∧ s.mirrorUp = true ∧ s.pair.statusDue = true) ∧
    (∃ (s : State) (p : PeerStatus), s.Canon ∧ s.pairState ≠ 0 ∧ s.mirrorUp = true ∧ p.state < 8 ∧ p.state ≠ 4) :=
  ⟨
   ⟨(mk [(F.PAIR_STATUS_STATE, 0, 3), (F.LANE_STAT_STATE, 7, 4)]), 1, block1, 0, by decide +kernel, block1_ok, by decide +kernel,
     by decide +kernel, by decide +kernel⟩,
   ⟨(mk [(F.PAIR_STATUS_STATE, 0, 4), (F.LANE_STAT_STATE, 7, 4)]), 1, block1, 0, by decide +kernel, block1_ok, by decide +kernel⟩,
   ⟨(((mk [(F.PAIR_STATUS_STATE, 0, 3)]).modPair fun p => { p with rxDone := some (65535, 16), rxAt := 4 }).modPwm fun w =>
     { w with bnd := 5 }), ⟨65535, 1, 12500, [1, 10, 100, 1000], 0, 0#32, [], none, 0, 0, 0, [], [], 0, 0, 0, 0, false, [], []⟩, 16,
     by decide +kernel, by decide +kernel, by decide +kernel⟩,
   ⟨s1, ⟨65535, 1, 12500, [1, 10, 100, 1000], 0, 0#32, [], none, 0, 0, 0, [], [], 0, 0, 0, 0, false, [], []⟩, by decide +kernel⟩,
   ⟨((mk [(F.PAIR_STATUS_STATE, 0, 2), (F.LANE_STAT_STATE, 7, 4)]).modPair fun p => { p with statusDue := true }), by decide +kernel,
     by decide +kernel, by decide +kernel⟩,
   ⟨(mk [(F.PAIR_STATUS_STATE, 0, 3), (F.LANE_STAT_STATE, 7, 4)]), ⟨7, 0xFF#8, 1, 0#32, 0⟩, canon_of (by decide +kernel),
     by decide +kernel, by decide +kernel, by decide +kernel, by decide +kernel⟩⟩

theorem meets_MirrorCommandsComplete_3 :
    (∃ (s : State) (p : PeerStatus), s.Canon ∧ s.pairState ≠ 0 ∧ s.mirrorUp = true ∧ p.state = 4) ∧
    (∃ (s : State) (l : Fin 2) (h : Hello), s.pairState ≠ 0 ∧ s.laneState (6 + l.val) = 3 ∧ h.fmtMajor = s.fld F.IDENT_BOOT_MIRROR_FMT 0
      ∧ h.unitId ≠ s.fld F.LANE_CFG_UNIT_ID (6 + l.val) ∧ h.prio ≠ s.flag F.PAIR_CFG_PRIO 0) ∧
    (∃ (s : State) (l : Fin 2) (h : Hello), s.pairState ≠ 0 ∧ s.laneState (6 + l.val) = 3 ∧ (h.fmtMajor ≠ s.fld F.IDENT_BOOT_MIRROR_FMT 0
      ∨ h.unitId = s.fld F.LANE_CFG_UNIT_ID (6 + l.val) ∨ h.prio = s.flag F.PAIR_CFG_PRIO 0)) ∧
    (∃ (s : State) (l : Fin 2), (s.laneState (6 + l.val) = 3 ∨ s.laneState (6 + l.val) = 4) ∧ (s.flag F.LANE_STAT_LOS (6 + l.val) = true
      ∨ s.flag F.LANE_STAT_LOL (6 + l.val) = true ∨ s.flag F.LANE_STAT_ALIGNED (6 + l.val) = false ∨ s.pair.blockAt.getD l 0 + 4 *
      s.divOf 1 < s.pwm.bnd)) ∧
    (∃ (s : State) (l : Fin 2), s.laneState (6 + l.val) ≠ 3 ∧ s.laneState (6 + l.val) ≠ 4) :=
  ⟨
   ⟨(mk [(F.PAIR_STATUS_STATE, 0, 3), (F.LANE_STAT_STATE, 7, 4)]), ⟨4, 0xFF#8, 1, 0#32, 0⟩, canon_of (by decide +kernel),
     by decide +kernel, by decide +kernel, by decide +kernel⟩,
   ⟨(mk [(F.PAIR_STATUS_STATE, 0, 3), (F.LANE_STAT_STATE, 7, 3)]), 1, ⟨(mk [(F.PAIR_STATUS_STATE, 0, 3)]).fld F.IDENT_BOOT_MIRROR_FMT 0,
     1, true, 0#32⟩, by decide +kernel, by decide +kernel, by decide +kernel, by decide +kernel, by decide +kernel⟩,
   ⟨(mk [(F.PAIR_STATUS_STATE, 0, 3), (F.LANE_STAT_STATE, 7, 3)]), 1, ⟨(mk [(F.PAIR_STATUS_STATE, 0, 3)]).fld F.IDENT_BOOT_MIRROR_FMT 0 +
     1, 1, true, 0#32⟩, by decide +kernel, by decide +kernel, by decide +kernel⟩,
   ⟨(((mk [(F.LANE_STAT_STATE, 7, 3), (F.LANE_STAT_ALIGNED, 7, 0)]))), 1, by decide +kernel, by decide +kernel⟩,
   ⟨(mk [(F.LANE_STAT_STATE, 7, 2)]), 1, by decide +kernel, by decide +kernel⟩⟩

theorem meets_SafetyInputCommandsComplete_1 :
    (∃ (s : State) (c : Fin 4), (s.siTp c = 0 ∨ s.stw.slot ≠ some (s.siTp c - 1))) ∧
    (∃ (s : State) (c : Fin 4), s.siTp c ≠ 0 ∧ s.stw.slot = some (s.siTp c - 1)) ∧
    (∃ (s : State) (i : Nat), i < 4 ∧ s.Canon) ∧
    (∃ (s : State) (i : Nat), i < 4 ∧ siPair i ∉ s.stw.dem) ∧
    (∃ (s : State) (i m : Nat), 4 ≤ i ∧ m = s.fld F.STW_IO_SI_DEM 0 ∧ bitOf m (2 * (siPair i - 2)) = false ∧ bitOf m (2 * (siPair i - 2)
      + 1) = false) :=
  ⟨
   ⟨(s1.modStw fun w => { w with cfg := [(2, 1#8), (15, 0#8)] }), 3, by decide +kernel⟩,
   ⟨((s1.modStw fun w => { w with cfg := [(2, 1#8), (15, 4#8)] }).modStw fun w => { w with slot := some 3 }), 3, by decide +kernel,
     by decide +kernel⟩,
   ⟨s1, 3, by decide +kernel, canon_of (by decide +kernel)⟩,
   ⟨s1, 3, by decide +kernel, by decide +kernel⟩,
   ⟨s1, 19, _, by decide +kernel, rfl, by decide +kernel, by decide +kernel⟩⟩

theorem meets_SafetyInputCommandsComplete_2 :
    (∃ (s : State) (i : Nat), i < 4 ∧ (if i % 2 = 0 then i + 1 else i - 1) ∉ s.stw.low ∧ siPair i ∉ s.stw.disc) ∧
    (∃ (s : State) (q : Fin 2), q.val ∈ s.stw.dem ∧ ((2 * q.val ∈ s.stw.low) ↔ (2 * q.val + 1 ∉ s.stw.low)) ∧ q.val ∉ s.stw.disc) ∧
    (∃ (s : State) (q : Fin 2), (q.val ∉ s.stw.dem ∨ ((2 * q.val ∈ s.stw.low) ↔ (2 * q.val + 1 ∈ s.stw.low)) ∨ q.val ∈ s.stw.disc)) ∧
    (∃ (s : State) (d : Fin 16), s.siUsed (d + 4) = true ∧ (s.siTp (d + 4) = 0 ∨ s.stw.slot ≠ some (s.siTp (d + 4) - 1))) ∧
    (∃ (s : State) (d : Fin 16), s.siUsed (d + 4) = true ∧ s.siTp (d + 4) ≠ 0 ∧ s.stw.slot = some (s.siTp (d + 4) - 1)) :=
  ⟨
   ⟨s1, 3, by decide +kernel, by decide +kernel, by decide +kernel⟩,
   ⟨(s1.modStw fun w => { w with dem := [1], low := [2] }), 1, by decide +kernel, by decide +kernel, by decide +kernel⟩,
   ⟨s1, 1, by decide +kernel⟩,
   ⟨(s1.modStw fun w => { w with cfg := [(2, 1#8), (36, 128#8)] }), 15, by decide +kernel, by decide +kernel⟩,
   ⟨((s1.modStw fun w => { w with cfg := [(2, 1#8), (31, 4#8), (36, 128#8)] }).modStw fun w => { w with slot := some 3 }), 15,
     by decide +kernel, by decide +kernel, by decide +kernel⟩⟩

theorem meets_SafetyInputCommandsComplete_3 :
    (∃ (s : State) (d : Fin 16), s.siUsed (d + 4) = false) ∧
    (∃ (s : State) (k : Fin 4) (l : BitVec 20), s.stw.slot = some k.val) ∧
    (∃ (s : State) (k : Fin 4) (a : Bool) (l : BitVec 20), s.stw.slot ≠ some k.val) ∧
    (∃ (s : State) (m : Fin 8) (p : BitVec 8), s.fio.pulse = none ∧ s.isSafeOut m = true ∧ s.doOn m = true) ∧
    (∃ (s : State) (m : Fin 8) (p : BitVec 8), (s.fio.pulse ≠ none ∨ s.isSafeOut m = false ∨ s.doOn m = false)) :=
  ⟨
   ⟨s1, 15, by decide +kernel⟩,
   ⟨(s1.modStw fun w => { w with slot := some 3 }), 3, 0#20, by decide +kernel⟩,
   ⟨s1, 3, true, 0#20, by decide +kernel⟩,
   ⟨((mk [(F.FIO_DO_APPLIED, 0, 255), (F.FIO_DO_STW_EN, 0, 255), (F.FIO_DO_PIN, 0, 255)]).modStw fun w =>
     { w with cfg := [(2, 1#8), (58, 128#8)] }), 7, 0xFF#8, by decide +kernel, by decide +kernel, by decide +kernel⟩,
   ⟨(mk [(F.FIO_DO_APPLIED, 0, 0)]), 7, 0#8, by decide +kernel⟩⟩

theorem meets_SafetyInputCommandsComplete_4 :
    (∃ (s : State) (m : Fin 8) (p : BitVec 8), s.fio.pulse = some m.val ∧ p.getLsbD m = false ∧ (∀ k, k < 8 → k ≠ m.val → s.isSafeOut k =
      true → s.doOn k = true → p.getLsbD k = true)) ∧
    (∃ (s : State) (m : Fin 8) (p : BitVec 8), s.fio.pulse = some m.val ∧ p.getLsbD m = true ∧ (∀ k, k < 8 → k ≠ m.val → s.isSafeOut k =
      true → s.doOn k = true → p.getLsbD k = true)) ∧
    (∃ (s : State) (m : Fin 8) (p : BitVec 8) (k : Nat), s.fio.pulse = some m.val ∧ k < 8 ∧ k ≠ m.val ∧ s.isSafeOut k = true ∧ s.doOn k =
      true ∧ p.getLsbD k = false ∧ (∀ j, j < 8 → j ≠ m.val → j ≠ k → p.getLsbD j = true)) ∧
    (∃ (s : State) (m : Fin 8) (p : BitVec 8), s.fio.pulse ≠ some m.val) ∧
    (∃ (s : State) (m : Nat), m < 8 ∧ (∀ k, k < 8 → k ≠ m → bitOf s.fio.on k = true → s.doOn k = true) ∧ s.isSafeOut m = true ∧ bitOf
      s.fio.on m = true ∧ s.doOn m = false ∧ bitOf s.fio.read m = true ∧ bitOf (s.fld F.FIO_DO_PIN 0) m = false ∧ vget s.fio.onAt m +
      8000000 ≤ s.now) :=
  ⟨
   ⟨({ (((mk [(F.FIO_DO_APPLIED, 0, 255), (F.FIO_DO_STW_EN, 0, 255), (F.FIO_DO_PIN, 0, 255)]).modStw fun w => { w with cfg := [(2, 1#8), (58, 128#8)] })) with fio := { (((mk [(F.FIO_DO_APPLIED, 0, 255), (F.FIO_DO_STW_EN, 0, 255), (F.FIO_DO_PIN, 0, 255)]).modStw fun w => { w with cfg := [(2, 1#8), (58, 128#8)] })).fio with pulse := some 7 } }),
     7, 0x7F#8, by decide +kernel, by decide +kernel, by decide +kernel⟩,
   ⟨({ (((mk [(F.FIO_DO_APPLIED, 0, 255), (F.FIO_DO_STW_EN, 0, 255), (F.FIO_DO_PIN, 0, 255)]).modStw fun w => { w with cfg := [(2, 1#8), (58, 128#8)] })) with fio := { (((mk [(F.FIO_DO_APPLIED, 0, 255), (F.FIO_DO_STW_EN, 0, 255), (F.FIO_DO_PIN, 0, 255)]).modStw fun w => { w with cfg := [(2, 1#8), (58, 128#8)] })).fio with pulse := some 7 } }),
     7, 0x80#8, by decide +kernel, by decide +kernel, by decide +kernel⟩,
   ⟨({ (((mk [(F.FIO_DO_APPLIED, 0, 255), (F.FIO_DO_STW_EN, 0, 255), (F.FIO_DO_PIN, 0, 255)]).modStw fun w => { w with cfg := [(2, 1#8), (58, 192#8)] })) with fio := { (((mk [(F.FIO_DO_APPLIED, 0, 255), (F.FIO_DO_STW_EN, 0, 255), (F.FIO_DO_PIN, 0, 255)]).modStw fun w => { w with cfg := [(2, 1#8), (58, 192#8)] })).fio with pulse := some 7 } }),
     7, 0xBF#8, 6, by decide +kernel, by decide +kernel, by decide +kernel, by decide +kernel, by decide +kernel, by decide +kernel,
     by decide +kernel⟩,
   ⟨s1, 7, 0#8, by decide +kernel⟩,
   ⟨({ ({ (((mk [(F.FIO_DO_APPLIED, 0, 0), (F.FIO_DO_STW_EN, 0, 255)]).modStw fun w => { w with cfg := [(2, 1#8), (58, 128#8)] })) with fio := { (((mk [(F.FIO_DO_APPLIED, 0, 0), (F.FIO_DO_STW_EN, 0, 255)]).modStw fun w => { w with cfg := [(2, 1#8), (58, 128#8)] })).fio with on := 128, read := 128 } }) with now := 8000000 }),
     7, by decide +kernel, by decide +kernel, by decide +kernel, by decide +kernel, by decide +kernel, by decide +kernel,
     by decide +kernel, by decide +kernel⟩⟩

theorem meets_StewardWatchCommandsComplete_1 :
    (∃ (s : State) (c : Fin 4), bitOf (s.mon c 13 1) 0 = true) ∧
    (∃ (s : State) (c : Fin 4), bitOf (s.mon c 13 1) 0 = true) ∧
    (∃ (s : State) (c : Fin 4) (on : Bool), bitOf (s.mon c 13 1) 0 = false) ∧
    (∃ (s : State) (c : Fin 4), bitOf (s.mon c 13 1) 1 = true) ∧
    (∃ (s : State) (c : Fin 4), bitOf (s.mon c 13 1) 1 = true) ∧
    (∃ (s : State) (c : Fin 4) (on : Bool), bitOf (s.mon c 13 1) 1 = false) :=
  ⟨
   ⟨(s1.modStw fun w => { w with cfg := [(2, 1#8), (1429, 1#8)] }), 3, by decide +kernel⟩,
   ⟨(s1.modStw fun w => { w with cfg := [(2, 1#8), (1429, 1#8)] }), 3, by decide +kernel⟩,
   ⟨s1, 3, true, by decide +kernel⟩,
   ⟨(s1.modStw fun w => { w with cfg := [(2, 1#8), (1429, 2#8)] }), 3, by decide +kernel⟩,
   ⟨(s1.modStw fun w => { w with cfg := [(2, 1#8), (1429, 2#8)] }), 3, by decide +kernel⟩,
   ⟨s1, 3, true, by decide +kernel⟩⟩

theorem meets_StewardWatchCommandsComplete_2 :
    (∃ s : State, s.safD 0x42 1 2 ≤ s.cle.missRun) ∧
    (∃ s : State, s.cle.missRun < s.safD 0x42 1 2) ∧
    (∃ s : State, s.gait ≠ Gait.paddock) ∧
    (∃ s : State, s.gait = Gait.paddock) ∧
    (∃ (s : State) (p : Fin 12), (s.stw.srs.any fun r => r.port == p.val) = true ∧ s.stwPort p = PS.rampdown) ∧
    (∃ (s : State) (p : Fin 12), ((s.stw.srs.any fun r => r.port == p.val) = false ∨ s.stwPort p ≠ PS.rampdown)) :=
  ⟨
   ⟨s1.modCle fun c => { c with missRun := 2 }, by decide +kernel⟩,
   ⟨(s1.modStw fun w => { w with cfg := [(2, 1#8), (66, 3#8)] }).modCle fun c => { c with missRun := 2 }, by decide +kernel⟩,
   ⟨s1, by decide +kernel⟩,
   ⟨(mk [(F.GAIT_STATUS_GAIT, 0, 0)]), by decide +kernel⟩,
   ⟨(s1.modStw fun w => { w with srs := [⟨11, false, 0#32⟩], view := List.replicate 12 (7, 0) }), 11, by decide +kernel,
     by decide +kernel⟩,
   ⟨s1, 11, by decide +kernel⟩⟩

theorem meets_StewardWatchCommandsComplete_3 :
    (∃ s : State, s.Canon ∧ s.sgrHeld = true ∧ s.sgrConfirmed = true) ∧
    (∃ s : State, (s.sgrHeld = false ∨ s.stw.gdenLow < 2 ∨ (s.flag F.PAIR_CFG_PAIR_EN 0 = true ∧ s.stw.sgr = false))) ∧
    (∃ (s : State) (u : BitVec 3), s.Canon ∧ s.sgrHeld = true ∧ s.flag F.STW_STATUS_SGR_DONE 0 = false ∧ u ≠ 0#3) ∧
    (∃ (s : State) (u : BitVec 3), (s.sgrHeld = false ∨ s.flag F.STW_STATUS_SGR_DONE 0 = true ∨ u = 0#3)) :=
  ⟨
   ⟨(s1.modStw fun w => { w with sgr := true, gdenLow := 2 }), canon_of (by decide +kernel), by decide +kernel, by decide +kernel⟩,
   ⟨s1, by decide +kernel⟩,
   ⟨(s1.modStw fun w => { w with sgr := true }), 4#3, canon_of (by decide +kernel), by decide +kernel, by decide +kernel,
     by decide +kernel⟩,
   ⟨s1, 0#3, by decide +kernel⟩⟩

theorem meets_SafetyPduCommandsComplete_1 :
    (∃ (s : State) (n : Fin 2) (c : Fin 4) (b : List Byte), s.hears n c ∧ s.pduValid n c b = false) ∧
    (∃ (s : State) (c : Fin 4) (b : List Byte), s.hears 0 c ∧ s.pduValid 0 c b = true ∧ (∀ x, (s.rx c).copyA = some x → seqNewer (leAt x
      4 4) (leAt b 4 4) = false)) ∧
    (∃ (s : State) (c : Fin 4) (b : List Byte), s.hears 1 c ∧ s.pduValid 1 c b = true ∧ (∀ x, (s.rx c).copyB = some x → seqNewer (leAt x
      4 4) (leAt b 4 4) = false)) ∧
    (∃ (s : State) (c : Fin 4) (a b : List Byte), s.hears 0 c ∧ s.pduValid 0 c b = true ∧ (s.rx c).copyA = some a ∧ seqNewer (leAt a 4 4)
      (leAt b 4 4) = true) ∧
    (∃ (s : State) (n : Fin 2) (c : Fin 4) (b : List Byte), (s.flag F.PDU_STAT_EN c = false ∨ s.netRuns = false ∨ s.flag F.MAC_STAT_LINK
      n = false)) ∧
    (∃ (s : State) (c : Nat), ((s.rx c).copyA = none ∨ (s.rx c).copyB = none)) :=
  ⟨
   ⟨(mk [(F.PDU_STAT_EN, 3, 1), (F.MAC_STAT_LINK, 0, 1), (F.MAC_STAT_LINK, 1, 1)]), 1, 3, [], ⟨by decide +kernel, by decide +kernel,
     by decide +kernel⟩, by decide +kernel⟩,
   ⟨(mk [(F.PDU_STAT_EN, 3, 1), (F.MAC_STAT_LINK, 0, 1), (F.MAC_STAT_LINK, 1, 1)]), 3, (pdu 0 5), ⟨by decide +kernel, by decide +kernel,
     by decide +kernel⟩, by decide +kernel, none_of (by decide +kernel)⟩,
   ⟨(mk [(F.PDU_STAT_EN, 3, 1), (F.MAC_STAT_LINK, 0, 1), (F.MAC_STAT_LINK, 1, 1)]), 3, (pdu 1 5), ⟨by decide +kernel, by decide +kernel,
     by decide +kernel⟩, by decide +kernel, none_of (by decide +kernel)⟩,
   ⟨((mk [(F.PDU_STAT_EN, 3, 1), (F.MAC_STAT_LINK, 0, 1), (F.MAC_STAT_LINK, 1, 1)]).modRx 3 fun r => { r with copyA := some (pdu 0 6) }),
     3, (pdu 0 6), (pdu 0 5), ⟨by decide +kernel, by decide +kernel, by decide +kernel⟩, by decide +kernel, by decide +kernel,
     by decide +kernel⟩,
   ⟨s1, 1, 3, [], by decide +kernel⟩,
   ⟨s1, 3, by decide +kernel⟩⟩

theorem meets_SafetyPduCommandsComplete_2 :
    (∃ (s : State) (c : Nat) (a b : List Byte), (s.rx c).copyA = some a ∧ (s.rx c).copyB = some b ∧ leAt a 4 4 = leAt b 4 4 ∧ slice a 2
      38 = slice b 2 38 ∧ (∀ l, (s.rx c).last = some l → l.2 < timeAt a 8)) ∧
    (∃ (s : State) (c : Nat) (a b : List Byte), (s.rx c).copyA = some a ∧ (s.rx c).copyB = some b ∧ leAt a 4 4 = leAt b 4 4 ∧ (slice a 2
      38 ≠ slice b 2 38 ∨ ∃ l, (s.rx c).last = some l ∧ timeAt a 8 ≤ l.2)) ∧
    (∃ (s : State) (c : Fin 4), s.flag F.PDU_STAT_EN c = true) ∧
    (∃ (s : State) (c : Fin 4) (n : Fin 2), s.flag F.PDU_STAT_EN c = false) ∧
    (∃ (s : State) (c : Nat) (a b : List Byte), (s.rx c).copyA = some a ∧ (s.rx c).copyB = some b ∧ leAt a 4 4 = leAt b 4 4 ∧ slice a 2
      38 = slice b 2 38 ∧ (∀ l, (s.rx c).last = some l → l.2 < timeAt a 8) ∧ leAt a 24 1 % 4 = 2) ∧
    (∃ (s : State) (c : Fin 2) (m : Nat), s.Canon ∧ s.flag F.PDU_STAT_EN (4 + c.val) = true ∧ s.netRuns = true ∧ (vget s.stw.tx c).at1 ≠
      some (s.launchTime c ((vget s.tb 1).ticks + 50000 * 65536)) ∧ m < 2) :=
  ⟨
   ⟨(s1.modRx 3 fun r => { r with copyA := some (pdu 0 5), copyB := some (pdu 1 5) }), 3, (pdu 0 5), (pdu 1 5), by decide +kernel,
     by decide +kernel, by decide +kernel, by decide +kernel, none_of (by decide +kernel)⟩,
   ⟨(s1.modRx 3 fun r => { r with copyA := some (pdu 0 5), copyB := some (pdu 1 5), last := some (4, 10 ^ 30) }), 3, (pdu 0 5), (pdu 1
     5), by decide +kernel, by decide +kernel, by decide +kernel, by decide +kernel⟩,
   ⟨(mk [(F.PDU_STAT_EN, 3, 1)]), 3, by decide +kernel⟩,
   ⟨(mk [(F.PDU_STAT_EN, 3, 0)]), 3, 1, by decide +kernel⟩,
   ⟨(s1.modRx 3 fun r =>
     { r with copyA := some (by8 (List.replicate 24 0 ++ [2] ++ List.replicate 19 0)), copyB := some (by8 (List.replicate 24 0 ++ [2] ++ List.replicate 19 0)) }),
     3, (by8 (List.replicate 24 0 ++ [2] ++ List.replicate 19 0)), (by8 (List.replicate 24 0 ++ [2] ++ List.replicate 19 0)),
     by decide +kernel, by decide +kernel, by decide +kernel, by decide +kernel, none_of (by decide +kernel), by decide +kernel⟩,
   ⟨(mk [(F.PDU_STAT_EN, 5, 1)]), 1, 1, canon_of (by decide +kernel), by decide +kernel, by decide +kernel, by decide +kernel,
     by decide +kernel⟩⟩

theorem meets_SafetyPduCommandsComplete_3 :
    (∃ (s : State) (c : Fin 2), (s.flag F.PDU_STAT_EN (4 + c.val) = false ∨ s.netRuns = false ∨ (vget s.stw.tx c).at1 = some
      (s.launchTime c ((vget s.tb 1).ticks + 50000 * 65536)))) ∧
    (∃ (s : State) (c t : Nat), c < 2 ∧ 0 < s.txCfg c 6 2) ∧
    (∃ (s : State) (m n : Nat), m < 2 ∧ s.flag F.MAC_STAT_LINK m = true) ∧
    (∃ (s : State) (m n : Nat), s.flag F.MAC_STAT_LINK m = false) :=
  ⟨
   ⟨(mk [(F.PDU_STAT_EN, 5, 0)]), 1, by decide +kernel⟩,
   ⟨(s1.modStw fun w => { w with cfg := [(2, 1#8), (1518, 1#8)] }), 1, 0, by decide +kernel, by decide +kernel⟩,
   ⟨(mk [(F.MAC_STAT_LINK, 1, 1)]), 1, 44, by decide +kernel, by decide +kernel⟩,
   ⟨(mk [(F.MAC_STAT_LINK, 1, 0)]), 1, 44, by decide +kernel⟩⟩

theorem meets_SafetyCommandsComplete_1 :
    (∃ (s : State) (tag : Fin 128) (e : Entry), s.Serves 0x0804 tag e ∧ e.a 0 ≤ 3 ∧ s.stwState = 1) ∧
    (∃ (s : State) (tag : Fin 128) (e : Entry), s.Serves 0x0806 tag e ∧ e.a 0 = 0 ∧ e.a 1 ≤ 3) ∧
    (∃ (s : State) (tag : Fin 128) (e : Entry), s.Serves 0x0806 tag e ∧ e.a 0 = 1 ∧ e.a 1 ≤ 3) ∧
    (∃ (s : State) (tag : Fin 128) (e : Entry), s.Serves 0x0801 tag e) ∧
    (∃ (s : State) (tag : Fin 128) (e : Entry), s.Serves 0x0802 tag e) :=
  ⟨
   ⟨inFlight (mk [(F.STW_STATUS_STATE, 0, 1)]) (ent 0x0804 [3] (List.replicate 1024 0#8)), 0, (ent 0x0804 [3] (List.replicate 1024 0#8)),
     serves_of (by decide +kernel) (by decide +kernel) (by decide +kernel), by decide +kernel, by decide +kernel⟩,
   ⟨inFlight s1 (ent 0x0806 [0, 3] []), 0, (ent 0x0806 [0, 3] []), serves_of (by decide +kernel) (by decide +kernel) (by decide +kernel),
     by decide +kernel, by decide +kernel⟩,
   ⟨inFlight s1 (ent 0x0806 [1, 3] []), 0, (ent 0x0806 [1, 3] []), serves_of (by decide +kernel) (by decide +kernel) (by decide +kernel),
     by decide +kernel, by decide +kernel⟩,
   ⟨inFlight s1 (ent 0x0801 [] []), 0, (ent 0x0801 [] []), serves_of (by decide +kernel) (by decide +kernel) (by decide +kernel)⟩,
   ⟨inFlight s1 (ent 0x0802 [] []), 0, (ent 0x0802 [] []), serves_of (by decide +kernel) (by decide +kernel) (by decide +kernel)⟩⟩

theorem meets_SafetyCommandsComplete_2 :
    (∃ (s : State) (tag : Fin 128) (e : Entry), s.Serves 0x0803 tag e) ∧
    (∃ (s : State) (tag : Fin 128) (e : Entry), s.Serves 0x0805 tag e) ∧
    (∃ (s : State) (op : Nat) (tag : Fin 128) (e : Entry) (l : List Nat), s.Serves op tag e ∧ s.stwState ∈ l ∧ s.fcp.prep = none) ∧
    (∃ (s : State) (op : Nat) (tag : Fin 128) (e : Entry) (l : List Nat), s.Serves op tag e ∧ s.stwState ∉ l) ∧
    (∃ (s : State) (op : Nat) (tag : Fin 128) (e : Entry) (l : List Nat), s.Serves op tag e ∧ s.stwState ∈ l ∧ s.fcp.prep.isSome) :=
  ⟨
   ⟨inFlight s1 (ent 0x0803 [] []), 0, (ent 0x0803 [] []), serves_of (by decide +kernel) (by decide +kernel) (by decide +kernel)⟩,
   ⟨inFlight s1 (ent 0x0805 [] []), 0, (ent 0x0805 [] []), serves_of (by decide +kernel) (by decide +kernel) (by decide +kernel)⟩,
   ⟨inFlight (mk [(F.STW_STATUS_STATE, 0, 1)]) (ent 0x0801 [] []), 0x0801, 0, ent 0x0801 [] [], [1], serves_of (by decide +kernel)
     (by decide +kernel) (by decide +kernel), by decide +kernel, by decide +kernel⟩,
   ⟨inFlight s1 (ent 0x0801 [] []), 0x0801, 0, (ent 0x0801 [] []), [1], serves_of (by decide +kernel) (by decide +kernel)
     (by decide +kernel), by decide +kernel⟩,
   ⟨inFlight ({ mk [(F.STW_STATUS_STATE, 0, 1)] with fcp := { s1.fcp with prep := some ⟨0, 0x0801, 0, 0, [], 0⟩ } }) (ent 0x0801 [] []),
     0x0801, 0, (ent 0x0801 [] []), [1], serves_of (by decide +kernel) (by decide +kernel) (by decide +kernel), by decide +kernel,
     by decide +kernel⟩⟩

theorem meets_SafetyCommandsComplete_3 :
    (∃ (s : State) (tag : Fin 128) (e : Entry) (st : SelfTest), s.Serves 0x0810 tag e ∧ s.confWhy e ≠ 0) ∧
    (∃ (s u : State) (tag : Fin 128) (e : Entry) (st : SelfTest), s.Serves 0x0810 tag e ∧ s.confWhy e = 0 ∧ u =
      ({ s with fcp := { s.fcp with prep := none } } : State) ∧ e.a16 0 = 0x0801) ∧
    (∃ (s u : State) (tag : Fin 128) (e : Entry) (st : SelfTest), s.Serves 0x0810 tag e ∧ s.confWhy e = 0 ∧ u =
      ({ s with fcp := { s.fcp with prep := none } } : State) ∧ e.a16 0 = 0x0802) ∧
    (∃ (s u : State) (tag : Fin 128) (e : Entry) (st : SelfTest), s.Serves 0x0810 tag e ∧ s.confWhy e = 0 ∧ u =
      ({ s with fcp := { s.fcp with prep := none } } : State) ∧ e.a16 0 = 0x0803) ∧
    (∃ (s u : State) (tag : Fin 128) (e : Entry) (st : SelfTest) (p : Prepared), s.Serves 0x0810 tag e ∧ s.confWhy e = 0 ∧ u =
      ({ s with fcp := { s.fcp with prep := none } } : State) ∧ s.fcp.prep = some p ∧ e.a16 0 = 0x0805) :=
  ⟨
   ⟨inFlight s1 (ent 0x0810 [1, 8] []), 0, (ent 0x0810 [1, 8] []), passed, serves_of (by decide +kernel) (by decide +kernel)
     (by decide +kernel), by decide +kernel⟩,
   ⟨inFlight ({ mk [(F.STW_STATUS_STATE, 0, 1)] with fcp := { s1.fcp with prep := some ⟨0, 0x0801, 0, 0, [], 0⟩ } }) (ent 0x0810 [1, 8]
     []), _, 0, (ent 0x0810 [1, 8] []), passed, serves_of (by decide +kernel) (by decide +kernel) (by decide +kernel), by decide +kernel,
     rfl, by decide +kernel⟩,
   ⟨inFlight ({ mk [(F.STW_STATUS_STATE, 0, 1)] with fcp := { s1.fcp with prep := some ⟨0, 0x0802, 0, 0, [], 0⟩ } }) (ent 0x0810 [2, 8]
     []), _, 0, (ent 0x0810 [2, 8] []), passed, serves_of (by decide +kernel) (by decide +kernel) (by decide +kernel), by decide +kernel,
     rfl, by decide +kernel⟩,
   ⟨inFlight ({ mk [(F.STW_STATUS_STATE, 0, 1)] with fcp := { s1.fcp with prep := some ⟨0, 0x0803, 0, 0, [], 0⟩ } }) (ent 0x0810 [3, 8]
     []), _, 0, (ent 0x0810 [3, 8] []), passed, serves_of (by decide +kernel) (by decide +kernel) (by decide +kernel), by decide +kernel,
     rfl, by decide +kernel⟩,
   ⟨inFlight ({ mk [(F.STW_STATUS_STATE, 0, 1)] with fcp := { s1.fcp with prep := some ⟨0, 0x0805, 0, 0, [], 0⟩ } }) (ent 0x0810 [5, 8]
     []), _, 0, (ent 0x0810 [5, 8] []), passed, ⟨0, 0x0805, 0, 0, [], 0⟩, serves_of (by decide +kernel) (by decide +kernel)
     (by decide +kernel), by decide +kernel, rfl, by decide +kernel, by decide +kernel⟩⟩

theorem meets_SafetyCommandsComplete_4 :
    (∃ (s : State) (tag : Nat) (st : SelfTest), s.stwState = 1 ∧ s.armWhy st = 0) ∧
    (∃ (s : State) (tag : Nat) (st : SelfTest), s.stwState = 1 ∧ s.armFirst ≠ 0) ∧
    (∃ (s : State) (tag : Nat) (st : SelfTest), s.stwState = 1 ∧ s.armFirst = 0 ∧ s.armWhy st ≠ 0) ∧
    (∃ (s : State) (st : SelfTest) (r : Nat), r < 4 ∧ s.flag F.PDU_STAT_EN r = true) ∧
    (∃ (s : State) (st : SelfTest), s.stw.cfgSet = false) :=
  ⟨
   ⟨tileSet (mk [(F.STW_STATUS_STATE, 0, 1)]), 0, passed, by decide +kernel, arm_zero (by decide +kernel) (by decide +kernel)
     (by decide +kernel) (by decide +kernel) (by decide +kernel) (by decide +kernel)⟩,
   ⟨(mk [(F.STW_STATUS_STATE, 0, 1)]), 0, passed, by decide +kernel, by decide +kernel⟩,
   ⟨tileSet (mk [(F.STW_STATUS_STATE, 0, 1)]), 0, { passed with low := 1#6 }, by decide +kernel, first_zero (by decide +kernel)
     (by decide +kernel) (by decide +kernel) (by decide +kernel) (by decide +kernel), arm_bad (by decide +kernel)⟩,
   ⟨(mk [(F.PDU_STAT_EN, 3, 1)]), passed, 3, by decide +kernel, by decide +kernel⟩,
   ⟨s1, passed, by decide +kernel⟩⟩

theorem meets_SafetyCommandsComplete_5 :
    (∃ (s : State) (st : SelfTest), s.Canon) ∧
    (∃ (s : State) (tag : Nat), s.stwState = 2 ∧ s.allOff = true ∧ s.flag F.PAIR_STATUS_ACT_OUT 0 = false) ∧
    (∃ (s : State) (tag : Nat) (st : SelfTest), (s.stwState = 3 ∨ s.stwState = 4) ∧ s.endDiscrepancies.anyCause = true) ∧
    (∃ (s s1 : State) (tag : Nat) (st : SelfTest), (s.stwState = 3 ∨ s.stwState = 4) ∧ s1 = s.endDiscrepancies ∧ s1.anyCause = false ∧ (∀
      i ∈ s1.stw.low, s1.siUsed i = false) ∧ (∀ r, r < 4 → s1.flag F.PDU_STAT_EN r = true → (s1.rx r).since = true)) ∧
    (∃ s : State, s.Canon ∧ s.stwState = 1) :=
  ⟨
   ⟨s1, passed, canon_of (by decide +kernel)⟩,
   ⟨(mk [(F.STW_STATUS_STATE, 0, 2), (F.PAIR_STATUS_ACT_OUT, 0, 0)]), 0, by decide +kernel, by decide +kernel, by decide +kernel⟩,
   ⟨((mk [(F.STW_STATUS_STATE, 0, 3)])).modStw fun w => { w with active := [9] }, 0, passed, by decide +kernel, by decide +kernel⟩,
   ⟨(mk [(F.STW_STATUS_STATE, 0, 4)]), (((mk [(F.STW_STATUS_STATE, 0, 4)])).endDiscrepancies), 0, passed, by decide +kernel, rfl,
     by decide +kernel, by decide +kernel, by decide +kernel⟩,
   ⟨(mk [(F.STW_STATUS_STATE, 0, 1)]), canon_of (by decide +kernel), by decide +kernel⟩⟩

theorem meets_FieldAndRemoteIoCommandsComplete_1 :
    (∃ (s s1 : State) (v : List Int), s1 = (s.setFld F.FIO_DI_RAW 0 ((List.range 16).map fun n => if s.diRaw n (v.getD n 0) then 2 ^ n
      else 0).sum).forUnits 16 (fun t n => t.diCount n (s.diRaw n (v.getD n 0)))) ∧
    (∃ (s : State) (n : Nat) (r : Bool), s.Canon ∧ n < 16) ∧
    (∃ (s : State) (n : Nat) (v : Int), (s.flag F.FIO_STAT_VF_UV 0 = true ∨ s.flag F.FIO_STAT_VF_OV 0 = true)) ∧
    (∃ (s : State) (p : BitVec 8) (c m : Nat), s.Canon ∧ s.outputsWell ∧ s.hlp.dbgHalted = false ∧ s.gait ≠ Gait.paddock ∧ c = (if s.fld
      F.HLP_STATUS_STATE 0 = 2 then s.hlp.doCmd else s.doSafe) ∧ c < 256 ∧ m < 8) ∧
    (∃ (s : State) (p : BitVec 8), (s.hlp.dbgHalted = true ∨ s.gait = Gait.paddock)) :=
  ⟨
   ⟨s1, _, List.replicate 16 0, rfl⟩,
   ⟨s1, 15, true, canon_of (by decide +kernel), by decide +kernel⟩,
   ⟨(mk [(F.FIO_STAT_VF_OV, 0, 1)]), 15, 0, by decide +kernel⟩,
   ⟨(mk [(F.HLP_STATUS_STATE, 0, 2)]), 0xFF#8, 0, 7, canon_of (by decide +kernel), (by unfold State.outputsWell; decide +kernel),
     by decide +kernel, by decide +kernel, rfl, by decide +kernel, by decide +kernel⟩,
   ⟨(s1.modHlp fun h => { h with dbgHalted := true }), 0xFF#8, by decide +kernel⟩⟩

theorem meets_FieldAndRemoteIoCommandsComplete_2 :
    (∃ (s t : State) (m : Nat), s.Canon ∧ s.outputsWell ∧ s.fio.held = false ∧ s.flag F.FIO_STAT_SILENT 0 = false ∧ exec .silenceTimeout
      s = .next t ∧ m < 8 ∧ t.doOn m = false ∧ bitOf s.fio.on m = true) ∧
    (∃ s : State, (s.fio.held = true ∨ s.flag F.FIO_STAT_SILENT 0 = true)) ∧
    (∃ (s : State) (m : Fin 8), s.Canon ∧ s.outputsWell ∧ s.doOn m = true ∧ bitOf s.fio.on m = true) ∧
    (∃ (s : State) (m : Fin 8), s.doOn m = false) ∧
    (∃ (s : State) (k : Fin 4), s.Canon ∧ s.tpOn k = true) :=
  ⟨
   ⟨({ ((mk [(F.FIO_DO_APPLIED, 0, 255), (F.FIO_DO_STW_EN, 0, 255), (F.FIO_DO_PIN, 0, 255)])) with fio := { ((mk [(F.FIO_DO_APPLIED, 0, 255), (F.FIO_DO_STW_EN, 0, 255), (F.FIO_DO_PIN, 0, 255)])).fio with on := 255, read := 255, held := false } }),
     _, 7, canon_of (by decide +kernel), (by unfold State.outputsWell; decide +kernel), by decide +kernel, by decide +kernel, rfl,
     by decide +kernel, by decide +kernel, by decide +kernel⟩,
   ⟨{ s1 with fio := { s1.fio with held := true } }, by decide +kernel⟩,
   ⟨({ ((mk [(F.FIO_DO_APPLIED, 0, 255), (F.FIO_DO_STW_EN, 0, 255), (F.FIO_DO_PIN, 0, 255)])) with fio := { ((mk [(F.FIO_DO_APPLIED, 0, 255), (F.FIO_DO_STW_EN, 0, 255), (F.FIO_DO_PIN, 0, 255)])).fio with on := 255, read := 255, held := false } }),
     7, canon_of (by decide +kernel), (by unfold State.outputsWell; decide +kernel), by decide +kernel, by decide +kernel⟩,
   ⟨(mk [(F.FIO_DO_APPLIED, 0, 0)]), 7, by decide +kernel⟩,
   ⟨s1, 3, canon_of (by decide +kernel), by decide +kernel⟩⟩

theorem meets_FieldAndRemoteIoCommandsComplete_3 :
    (∃ (s : State) (k : Fin 4), (s.flag F.FIO_STAT_VF_UV 0 = true ∨ s.flag F.FIO_STAT_VF_OV 0 = true ∨ s.stw.slot = some k.val)) ∧
    (∃ (s : State) (b : Bool) (m : Nat), s.Canon ∧ s.outputsWell ∧ s.flag F.FIO_STAT_VF_UV 0 ≠ b ∧ m < 8 ∧ b = true) ∧
    (∃ (s : State) (b : Bool) (m : Nat), s.Canon ∧ s.outputsWell ∧ s.flag F.FIO_STAT_VF_OV 0 ≠ b ∧ m < 8 ∧ b = true) ∧
    (∃ (s : State) (r : Fin 32) (b : List Byte), s.Canon ∧ s.flag F.RIO_STAT_EN r = true ∧ s.fencenRuns = true ∧ (b.length ≠ s.rioLen r
      (vget s.hlp.rmod r).inLen ∨ leAt b 3 1 ≠ (vget s.hlp.rmod r).inLen ∨ ((vget s.hlp.rmod r).seen = true ∧ leAt b 2 1 = s.fld
      F.RIO_STAT_RX_SEQ r))) ∧
    (∃ (s : State) (r : Fin 32) (b : List Byte), s.Canon ∧ s.flag F.RIO_STAT_EN r = true ∧ s.fencenRuns = true ∧ b.length = s.rioLen r
      (vget s.hlp.rmod r).inLen ∧ leAt b 3 1 = (vget s.hlp.rmod r).inLen ∧ ((vget s.hlp.rmod r).seen = false ∨ leAt b 2 1 ≠ s.fld
      F.RIO_STAT_RX_SEQ r)) :=
  ⟨
   ⟨(s1.modStw fun w => { w with slot := some 3 }), 3, by decide +kernel⟩,
   ⟨s1, true, 7, canon_of (by decide +kernel), (by unfold State.outputsWell; decide +kernel), by decide +kernel, by decide +kernel, rfl⟩,
   ⟨s1, true, 7, canon_of (by decide +kernel), (by unfold State.outputsWell; decide +kernel), by decide +kernel, by decide +kernel, rfl⟩,
   ⟨(mk [(F.RIO_STAT_EN, 31, 1), (F.IDENT_STATE_DEV_STATE, 0, 2)]), 31, [], canon_of (by decide +kernel), by decide +kernel,
     by decide +kernel, by decide +kernel⟩,
   ⟨(mk [(F.RIO_STAT_EN, 31, 1), (F.IDENT_STATE_DEV_STATE, 0, 2), (F.RIO_STAT_TRANSPORT, 31, 2)]), 31, [0#8, 0#8, 0#8, 0#8], canon_of
     (by decide +kernel), by decide +kernel, by decide +kernel, by decide +kernel, by decide +kernel, by decide +kernel⟩⟩

theorem meets_FieldAndRemoteIoCommandsComplete_4 :
    (∃ (s : State) (r : Fin 32) (b : List Byte), (s.flag F.RIO_STAT_EN r = false ∨ s.fencenRuns = false)) ∧
    (∃ (s : State) (r : Fin 32), s.Canon ∧ s.flag F.RIO_STAT_EN r = true ∧ s.flag F.RIO_STAT_FRESH r = true) ∧
    (∃ (s : State) (r : Fin 32), (s.flag F.RIO_STAT_EN r = false ∨ s.flag F.RIO_STAT_FRESH r = false)) ∧
    (∃ (s : State) (r : Fin 32), s.flag F.RIO_STAT_EN r = true ∧ s.fencenRuns = true ∧ s.sby = false ∧ s.hlp.ready = true) ∧
    (∃ (s : State) (r : Fin 32), (s.flag F.RIO_STAT_EN r = false ∨ s.fencenRuns = false ∨ s.sby = true ∨ s.hlp.ready = false)) :=
  ⟨
   ⟨(mk [(F.RIO_STAT_EN, 31, 0)]), 31, [], by decide +kernel⟩,
   ⟨(mk [(F.RIO_STAT_EN, 31, 1), (F.RIO_STAT_FRESH, 31, 1)]), 31, canon_of (by decide +kernel), by decide +kernel, by decide +kernel⟩,
   ⟨(mk [(F.RIO_STAT_EN, 31, 0)]), 31, by decide +kernel⟩,
   ⟨((mk [(F.RIO_STAT_EN, 31, 1), (F.IDENT_STATE_DEV_STATE, 0, 2)]).modHlp fun h => { h with ready := true }), 31, by decide +kernel,
     by decide +kernel, by decide +kernel, by decide +kernel⟩,
   ⟨(mk [(F.RIO_STAT_EN, 31, 0)]), 31, by decide +kernel⟩⟩

theorem meets_FrameCommandsComplete_1 :
    (∃ (s : State) (m : Fin 3) (f : RxFrame), s.netRuns = true ∧ s.flag F.MAC_STAT_LINK m = true ∧ f.len ≤ 1522 ∧ s.rxRow m f.kind f.dst
      ≠ 0 ∧ s.rxRow m f.kind f.dst ≠ 2 ∧ f.room = true) ∧
    (∃ (s : State) (m : Fin 3) (f : RxFrame), s.netRuns = true ∧ s.flag F.MAC_STAT_LINK m = true ∧ f.len ≤ 1522 ∧ s.rxRow m f.kind f.dst
      = 2 ∧ f.room = true) ∧
    (∃ (s : State) (m : Nat) (msg : List Byte), leAt msg 0 1 % 16 < 4) ∧
    (∃ (s : State) (m : Nat) (msg : List Byte), 4 ≤ leAt msg 0 1 % 16) ∧
    (∃ (s : State) (m : Fin 3) (f : RxFrame), s.Canon ∧ s.netRuns = true ∧ s.flag F.MAC_STAT_LINK m = true ∧ (1522 < f.len ∨ s.rxRow m
      f.kind f.dst = 0 ∨ f.room = false)) ∧
    (∃ (s : State) (m : Fin 3) (f : RxFrame), (s.netRuns = false ∨ s.flag F.MAC_STAT_LINK m = false)) :=
  ⟨
   ⟨(mk [(F.CLK_STAT_CLK_OK, 0, 255), (F.IDENT_STATE_DEV_STATE, 0, 2), (F.MAC_STAT_LINK, 2, 1)]), 2, ⟨1522, 0#48, .arp, true⟩,
     by decide +kernel, by decide +kernel, by decide +kernel, by decide +kernel, by decide +kernel, by decide +kernel⟩,
   ⟨((mk [(F.CLK_STAT_CLK_OK, 0, 255), (F.IDENT_STATE_DEV_STATE, 0, 2), (F.MAC_STAT_LINK, 2, 1)]).modPtp fun p =>
     { p with cfg := by8 [0, 4] ++ List.replicate 30 0#8 }), 2, ⟨1522, 0#48, .ptp [], true⟩, by decide +kernel, by decide +kernel,
     by decide +kernel, by decide +kernel, by decide +kernel⟩,
   ⟨s1, 2, [3#8], by decide +kernel⟩,
   ⟨s1, 2, [11#8], by decide +kernel⟩,
   ⟨(mk [(F.CLK_STAT_CLK_OK, 0, 255), (F.IDENT_STATE_DEV_STATE, 0, 2), (F.MAC_STAT_LINK, 2, 1)]), 2, ⟨1523, 0#48, .arp, true⟩, canon_of
     (by decide +kernel), by decide +kernel, by decide +kernel, by decide +kernel⟩,
   ⟨(mk [(F.GAIT_STATUS_GAIT, 0, 0)]), 2, ⟨64, 0#48, .arp, true⟩, by decide +kernel⟩⟩

theorem meets_FrameCommandsComplete_2 :
    (∃ (s : State) (m : Fin 3) (f : SchedFrame), s.netRuns = true ∧ (vget s.macs m).held = [] ∧ earliest (vget s.macs m).sched = some f ∧
      f.at1 ≤ (vget s.tb 1).ticks) ∧
    (∃ (s : State) (m : Fin 3) (k : Option (Fin 4)), s.netRuns = true ∧ (vget s.macs m).held = [] ∧ (∀ f ∈ (vget s.macs m).sched, (vget
      s.tb 1).ticks < f.at1) ∧ k = none) ∧
    (∃ (s : State) (m : Fin 3) (k : Option (Fin 4)) (n : Fin 4), s.netRuns = true ∧ (vget s.macs m).held = [] ∧ (∀ f ∈ (vget s.macs
      m).sched, (vget s.tb 1).ticks < f.at1) ∧ k = some n) ∧
    (∃ (s : State) (m : Fin 3), s.netRuns = true ∧ (vget s.macs m).held ≠ [] ∧ (∀ f ∈ (vget s.macs m).sched, (vget s.tb 1).ticks <
      f.at1)) ∧
    (∃ (s : State) (m : Nat) (l : List (List Byte)), m < 3 ∧ s.txHeld m = false) ∧
    (∃ (s : State) (m : Nat) (l : List (List Byte)), m < 3 ∧ s.txHeld m = true) :=
  ⟨
   ⟨(s1.modMac 2 fun x => { x with sched := [⟨0, 64⟩] }), 2, ⟨0, 64⟩, by decide +kernel, by decide +kernel, by decide +kernel,
     by decide +kernel⟩,
   ⟨s1, 2, none, by decide +kernel, by decide +kernel, by decide +kernel, rfl⟩,
   ⟨s1, 2, some 3, _, by decide +kernel, by decide +kernel, by decide +kernel, rfl⟩,
   ⟨(s1.modMac 2 fun x => { x with held := [[]] }), 2, by decide +kernel, by decide +kernel, by decide +kernel⟩,
   ⟨s1, 2, [[]], by decide +kernel, by decide +kernel⟩,
   ⟨(s1.modMac 2 fun x => { x with sched := [⟨0, 64⟩] }), 2, [[]], by decide +kernel, by decide +kernel⟩⟩

theorem meets_FrameCommandsComplete_3 :
    (∃ (l : List SchedFrame) (f : SchedFrame), earliest l = some f) ∧
    (∃ (s : State) (m : Fin 3) (k : Option (Fin 4)), s.netRuns = false) ∧
    (∃ (s : State) (m k : Fin 3) (up : Bool) (v : Nat), s.Canon ∧ s.netRuns = true ∧ v = (if up then k.val else 3) ∧ (s.flag
      F.MAC_STAT_LINK m ≠ up ∨ s.fld F.MAC_STAT_SPEED m ≠ v)) ∧
    (∃ (s : State) (m k : Fin 3) (up : Bool), (s.netRuns = false ∨ (s.flag F.MAC_STAT_LINK m = up ∧ s.fld F.MAC_STAT_SPEED m = (if up
      then k.val else 3)))) ∧
    (∃ (s : State) (m : Fin 3) (i : BitVec 16) (k : Fin 16) (o : Bool), s.Canon ∧ s.netRuns = true ∧ (o = false ∨ (k.val ≠ 0 ∧ k.val ≠
      3)) ∧ (vget s.macs m).tsq.length < 16) ∧
    (∃ (s : State) (m : Fin 3) (i : BitVec 16) (k : Fin 16), s.netRuns = true ∧ (k.val = 0 ∨ k.val = 3)) :=
  ⟨
   ⟨[⟨1, 0⟩, ⟨0, 0⟩], ⟨0, 0⟩, by decide +kernel⟩,
   ⟨(mk [(F.CLK_STAT_CLK_OK, 0, 0)]), 2, none, by decide +kernel⟩,
   ⟨(mk [(F.CLK_STAT_CLK_OK, 0, 255), (F.IDENT_STATE_DEV_STATE, 0, 2), (F.MAC_STAT_LINK, 2, 0)]), 2, 2, true, _, canon_of
     (by decide +kernel), by decide +kernel, rfl, by decide +kernel⟩,
   ⟨(mk [(F.GAIT_STATUS_GAIT, 0, 0)]), 2, 2, true, by decide +kernel⟩,
   ⟨((mk [(F.CLK_STAT_CLK_OK, 0, 255), (F.IDENT_STATE_DEV_STATE, 0, 2)]).modMac 2 fun x =>
     { x with tsq := List.replicate 15 ⟨0, 0, 0, 0⟩ }), 2, 0#16, 1, true, canon_of (by decide +kernel), by decide +kernel,
     by decide +kernel, by decide +kernel⟩,
   ⟨(mk [(F.CLK_STAT_CLK_OK, 0, 255), (F.IDENT_STATE_DEV_STATE, 0, 2)]), 2, 0#16, 3, by decide +kernel, by decide +kernel⟩⟩

theorem meets_FrameCommandsComplete_4 :
    (∃ (s : State) (m : Fin 3) (i : BitVec 16) (k : Fin 16) (o : Bool), s.Canon ∧ s.netRuns = true ∧ (o = false ∨ (k.val ≠ 0 ∧ k.val ≠
      3)) ∧ 16 ≤ (vget s.macs m).tsq.length) ∧
    (∃ (s : State) (m : Fin 3) (i : BitVec 16) (k : Fin 16) (o : Bool), s.netRuns = false) ∧
    (∃ (s : State) (m : Fin 3) (x : TsEntry) (l : List TsEntry), s.Canon ∧ s.fencenRuns = true ∧ s.serves 4 = true ∧ (vget s.macs m).tsq
      = x :: l ∧ l.length < 32) ∧
    (∃ (s : State) (m : Nat) (e : TsEntry), (e.id, e.type) ∉ (s.link m).sent) ∧
    (∃ (s : State) (m : Nat) (e : TsEntry), m < 3 ∧ s.netRuns = true ∧ (e.id, e.type) ∈ (s.link m).sent ∧ (e.type = 0 ∨ e.type = 3)) ∧
    (∃ (s : State) (m : Nat) (e : TsEntry) (r : DelaySt), m < 3 ∧ (e.id, e.type) ∈ (s.link m).sent ∧ (e.type = 1 ∨ e.type = 2) ∧ (s.link
      m).req = some r ∧ r.seq % 4096 = e.id % 4096 ∧ r.back = none) :=
  ⟨
   ⟨((mk [(F.CLK_STAT_CLK_OK, 0, 255), (F.IDENT_STATE_DEV_STATE, 0, 2)]).modMac 2 fun x =>
     { x with tsq := List.replicate 16 ⟨0, 0, 0, 0⟩ }), 2, 0#16, 1, true, canon_of (by decide +kernel), by decide +kernel,
     by decide +kernel, by decide +kernel⟩,
   ⟨(mk [(F.GAIT_STATUS_GAIT, 0, 0)]), 2, 0#16, 1, true, by decide +kernel⟩,
   ⟨((mk [(F.CLK_STAT_CLK_OK, 0, 255), (F.IDENT_STATE_DEV_STATE, 0, 2)]).modMac 2 fun x => { x with tsq := [⟨0, 0, 0, 0⟩] }), 2, ⟨0, 0,
     0, 0⟩, [], canon_of (by decide +kernel), by decide +kernel, by decide +kernel, by decide +kernel, by decide +kernel⟩,
   ⟨s1, 2, ⟨0, 0, 0, 0⟩, by decide +kernel⟩,
   ⟨(s1.modPtp fun p => { p with links := Vector.replicate 3 { sent := [(7, 3)] } }), 2, ⟨7, 3, 0, 0⟩, by decide +kernel,
     by decide +kernel, by decide +kernel, by decide +kernel⟩,
   ⟨(s1.modPtp fun p => { p with links := Vector.replicate 3 { sent := [(4095, 1)], req := some ⟨4095, none, none, none, none⟩ } }), 2,
     ⟨4095, 1, 0, 0⟩, ⟨4095, none, none, none, none⟩, by decide +kernel, by decide +kernel, by decide +kernel, by decide +kernel,
     by decide +kernel, by decide +kernel⟩⟩

theorem meets_FrameCommandsComplete_5 :
    (∃ (s : State) (m i k : Nat) (r : DelaySt), m < 3 ∧ (i, k) ∈ (s.link m).sent ∧ (k = 1 ∨ k = 2) ∧ (s.link m).req = some r ∧ r.seq %
      4096 = i % 4096) ∧
    (∃ (s : State) (m : Fin 3), (s.fencenRuns = false ∨ s.serves 4 = false ∨ (vget s.macs m).tsq = [])) :=
  ⟨
   ⟨(s1.modPtp fun p => { p with links := Vector.replicate 3 { sent := [(4095, 2)], req := some ⟨4095, none, none, none, none⟩ } }), 2,
     4095, 2, ⟨4095, none, none, none, none⟩, by decide +kernel, by decide +kernel, by decide +kernel, by decide +kernel,
     by decide +kernel⟩,
   ⟨(mk [(F.GAIT_STATUS_GAIT, 0, 0)]), 2, by decide +kernel⟩⟩

theorem meets_TimeCommandsComplete_1 :
    (∃ (s : State) (m : Nat) (d : Int), s.fencenRuns = true ∧ s.netRuns = true ∧ s.ptpOn = true ∧ s.flag F.TB_STAT_GM 0 = false ∧
      s.servoPort = some (m, d)) ∧
    (∃ s : State, (s.fencenRuns = false ∨ s.netRuns = false ∨ s.ptpOn = false ∨ s.flag F.TB_STAT_GM 0 = true ∨ s.servoPort = none)) ∧
    (∃ (s : State) (m : Nat) (d p : Int), m < 3 ∧ s.ptpCfg 1 1 = 2 ^ m ∧ (s.portIs m = 7 ∨ s.portIs m = 8) ∧ (s.link m).due = true ∧
      (s.link m).diff = some d ∧ (s.link m).delay = some p) ∧
    (∃ (s : State) (d : Int), d.natAbs ≤ s.ptpCfg 20 4 ∧ d.natAbs ≤ s.ptpCfg 16 4 ∧ s.ptp.good < 15) ∧
    (∃ (s : State) (d : Int), s.Canon ∧ s.ptpCfg 20 4 < d.natAbs) :=
  ⟨
   ⟨((mk [(F.IDENT_STATE_DEV_STATE, 0, 2), (F.TB_STAT_GM, 0, 0)]).modPtp fun p =>
     { p with cfg := by8 [1, 4] ++ List.replicate 30 0#8, port := Vector.replicate 3 8, links := Vector.replicate 3 { due := true, diff := some 0, delay := some 0 } }),
     2, 0, by decide +kernel, by decide +kernel, by decide +kernel, by decide +kernel, by decide +kernel⟩,
   ⟨s1, by decide +kernel⟩,
   ⟨((mk [(F.IDENT_STATE_DEV_STATE, 0, 2)]).modPtp fun p =>
     { p with cfg := by8 [1, 4] ++ List.replicate 30 0#8, port := Vector.replicate 3 8, links := Vector.replicate 3 { due := true, diff := some 0, delay := some 0 } }),
     2, 0, 0, by decide +kernel, by decide +kernel, by decide +kernel, by decide +kernel, by decide +kernel, by decide +kernel⟩,
   ⟨s1, 1000, by decide +kernel, by decide +kernel, by decide +kernel⟩,
   ⟨s1, -1000000001, canon_of (by decide +kernel), by decide +kernel⟩⟩

theorem meets_TimeCommandsComplete_2 :
    (∃ (t : TimeBase) (f d : Int), t.adj = some (f, d)) ∧
    (∃ t : TimeBase, t.adj = none ∧ t.freq = 0) ∧
    (∃ s : State, s.ptpOn = true ∧ s.flag F.TB_STAT_GM 0 = false) ∧
    (∃ s : State, (s.ptpOn = false ∨ s.flag F.TB_STAT_GM 0 = true)) ∧
    (∃ s : State, s.Canon) :=
  ⟨
   ⟨{ adj := some (500000000, -1) }, 500000000, -1, by decide +kernel⟩,
   ⟨{}, by decide +kernel, by decide +kernel⟩,
   ⟨((mk [(F.TB_STAT_GM, 0, 0)]).modPtp fun p => { p with cfg := by8 [1, 4] ++ List.replicate 30 0#8 }), by decide +kernel,
     by decide +kernel⟩,
   ⟨s1, by decide +kernel⟩,
   ⟨s1, canon_of (by decide +kernel)⟩⟩

theorem meets_TimeCommandsComplete_3 :
    (∃ (s : State) (m : Fin 3), s.fencenRuns = true ∧ s.netRuns = true ∧ s.ptpOn = true ∧ bitOf (s.ptpCfg 1 1) m = true) ∧
    (∃ (s : State) (m : Fin 3), (s.fencenRuns = false ∨ s.netRuns = false ∨ s.ptpOn = false ∨ bitOf (s.ptpCfg 1 1) m = false)) ∧
    (∃ (s t : State) (m : Nat), m < 3 ∧ s.Canon ∧ s.ptpOn = true ∧ s.ptpCfg 1 1 = 2 ^ m ∧ s.bestHeard = none ∧ s.ptpCfg 0 1 / 2 % 4 ≠ 0 ∧
      t = s.bestMaster (some m)) ∧
    (∃ (s t : State) (m : Nat) (x : Option Nat) (b : Announce), m < 3 ∧ s.Canon ∧ s.ptpOn = true ∧ s.ptpCfg 1 1 = 2 ^ m ∧ (s.link m).best
      = some b ∧ b.port = m ∧ s.ptpCfg 5 1 = 0 ∧ rank s.clockId s.ownData b = 0 ∧ t = s.bestMaster x ∧ s.ptp.gm ≠ some b.gm) ∧
    (∃ (s : State) (tag : Fin 128) (e : Entry), s.Serves 0x0B01 tag e) :=
  ⟨
   ⟨((mk [(F.IDENT_STATE_DEV_STATE, 0, 2)]).modPtp fun p => { p with cfg := by8 [1, 4] ++ List.replicate 30 0#8 }), 2, by decide +kernel,
     by decide +kernel, by decide +kernel, by decide +kernel⟩,
   ⟨s1, 2, by decide +kernel⟩,
   ⟨((mk [(F.IDENT_STATE_DEV_STATE, 0, 2)]).modPtp fun p => { p with cfg := by8 [3, 4] ++ List.replicate 30 0#8 }), _, 2,
     by decide +kernel, canon_of (by decide +kernel), by decide +kernel, by decide +kernel, by decide +kernel, by decide +kernel, rfl⟩,
   ⟨(((mk [(F.IDENT_STATE_DEV_STATE, 0, 2)]).modPtp fun p =>
     { p with cfg := by8 [1, 4] ++ List.replicate 30 0#8, links := Vector.replicate 3 { best := some ⟨0, 0, 0, 0, 0, 7, 0, 7, 1, 2⟩ } }).modMac
     0 fun x => { x with netif := by8 (List.replicate 5 0 ++ [16] ++ List.replicate 38 0) }), _, 2, none, ⟨0, 0, 0, 0, 0, 7, 0, 7, 1, 2⟩,
     by decide +kernel, canon_of (by decide +kernel), by decide +kernel, by decide +kernel, by decide +kernel, by decide +kernel,
     by decide +kernel, by decide +kernel, rfl, by decide +kernel⟩,
   ⟨inFlight s1 (ent 0x0B01 [] []), 0, (ent 0x0B01 [] []), serves_of (by decide +kernel) (by decide +kernel) (by decide +kernel)⟩⟩

theorem meets_TimeCommandsComplete_4 :
    (∃ (s : State) (tag : Fin 128) (e : Entry), s.Serves 0x0B02 tag e ∧ e.a 0 = 3 ∧ leAt e.args 12 4 < 1000000000 ∧ s.hostOwned 3 = true) ∧
    (∃ (s : State) (tag : Fin 128) (e : Entry), s.Serves 0x0B02 tag e ∧ e.a 0 = 0 ∧ leAt e.args 12 4 < 1000000000 ∧ s.hostOwned 0 = true) ∧
    (∃ (s : State) (tag : Fin 128) (e : Entry), s.Serves 0x0B02 tag e ∧ e.a 0 ≤ 3 ∧ leAt e.args 12 4 < 1000000000 ∧ s.hostOwned (e.a 0) =
      false) ∧
    (∃ (s : State) (b k : Nat), b < 4 ∧ k < 2 ^ 64 * (1000000000 * 65536)) ∧
    (∃ (s : State) (tag : Fin 128) (e : Entry), s.Serves 0x0B03 tag e ∧ e.a 0 ≤ 3 ∧ (signed 32 (e.a32 4)).natAbs ≤ 500000000 ∧ leAt
      e.args 16 4 < 1000000000 ∧ s.hostOwned (e.a 0) = true ∧ signedTimeAt e.args 8 = 0) :=
  ⟨
   ⟨inFlight s1 (ent 0x0B02 [3, 0, 0, 0, 0, 0, 0, 0, 0, 0, 0, 0, 255, 201, 154, 59] []), 0, (ent 0x0B02 [3, 0, 0, 0, 0, 0, 0, 0, 0, 0, 0,
     0, 255, 201, 154, 59] []), serves_of (by decide +kernel) (by decide +kernel) (by decide +kernel), by decide +kernel,
     by decide +kernel, by decide +kernel⟩,
   ⟨inFlight s1 (ent 0x0B02 [0, 0, 0, 0, 0, 0, 0, 0, 0, 0, 0, 0, 255, 201, 154, 59] []), 0, (ent 0x0B02 [0, 0, 0, 0, 0, 0, 0, 0, 0, 0, 0,
     0, 255, 201, 154, 59] []), serves_of (by decide +kernel) (by decide +kernel) (by decide +kernel), by decide +kernel,
     by decide +kernel, by decide +kernel⟩,
   ⟨inFlight s1 (ent 0x0B02 [1, 0, 0, 0, 0, 0, 0, 0, 0, 0, 0, 0, 255, 201, 154, 59] []), 0, (ent 0x0B02 [1, 0, 0, 0, 0, 0, 0, 0, 0, 0, 0,
     0, 255, 201, 154, 59] []), serves_of (by decide +kernel) (by decide +kernel) (by decide +kernel), by decide +kernel,
     by decide +kernel, by decide +kernel⟩,
   ⟨s1, 3, 2 ^ 64 * (1000000000 * 65536) - 1, by decide +kernel, by decide +kernel⟩,
   ⟨inFlight s1 (ent 0x0B03 [3, 0, 0, 0, 0, 101, 205, 29] []), 0, (ent 0x0B03 [3, 0, 0, 0, 0, 101, 205, 29] []), serves_of
     (by decide +kernel) (by decide +kernel) (by decide +kernel), by decide +kernel, by decide +kernel, by decide +kernel,
     by decide +kernel, by decide +kernel⟩⟩

theorem meets_TimeCommandsComplete_5 :
    (∃ (s : State) (tag : Fin 128) (e : Entry), s.Serves 0x0B03 tag e ∧ e.a 0 = 3 ∧ (signed 32 (e.a32 4)).natAbs ≤ 500000000 ∧ leAt
      e.args 16 4 < 1000000000 ∧ s.hostOwned 3 = true ∧ signedTimeAt e.args 8 ≠ 0) ∧
    (∃ (s : State) (tag : Fin 128) (e : Entry), s.Serves 0x0B03 tag e ∧ e.a 0 = 0 ∧ (signed 32 (e.a32 4)).natAbs ≤ 500000000 ∧ leAt
      e.args 16 4 < 1000000000 ∧ s.hostOwned 0 = true ∧ signedTimeAt e.args 8 ≠ 0) ∧
    (∃ (s : State) (tag : Fin 128) (e : Entry), s.Serves 0x0B03 tag e ∧ e.a 0 ≤ 3 ∧ (signed 32 (e.a32 4)).natAbs ≤ 500000000 ∧ leAt
      e.args 16 4 < 1000000000 ∧ s.hostOwned (e.a 0) = false) ∧
    (∃ (s : State) (tag : Fin 128) (e : Entry), s.Serves 0x0B04 tag e ∧ s.ptpOk e.payload = true) ∧
    (∃ (s : State) (tag : Fin 128) (e : Entry), s.Serves 0x0B04 tag e ∧ s.ptpOk e.payload = false) :=
  ⟨
   ⟨inFlight s1 (ent 0x0B03 [3, 0, 0, 0, 0, 101, 205, 29, 1] []), 0, (ent 0x0B03 [3, 0, 0, 0, 0, 101, 205, 29, 1] []), serves_of
     (by decide +kernel) (by decide +kernel) (by decide +kernel), by decide +kernel, by decide +kernel, by decide +kernel,
     by decide +kernel, by decide +kernel⟩,
   ⟨inFlight s1 (ent 0x0B03 [0, 0, 0, 0, 0, 101, 205, 29, 1] []), 0, (ent 0x0B03 [0, 0, 0, 0, 0, 101, 205, 29, 1] []), serves_of
     (by decide +kernel) (by decide +kernel) (by decide +kernel), by decide +kernel, by decide +kernel, by decide +kernel,
     by decide +kernel, by decide +kernel⟩,
   ⟨inFlight s1 (ent 0x0B03 [1, 0, 0, 0, 0, 101, 205, 29, 1] []), 0, (ent 0x0B03 [1, 0, 0, 0, 0, 101, 205, 29, 1] []), serves_of
     (by decide +kernel) (by decide +kernel) (by decide +kernel), by decide +kernel, by decide +kernel, by decide +kernel,
     by decide +kernel⟩,
   ⟨inFlight s1 (ent 0x0B04 [] (s1.ptp.cfg.set 1 4#8)), 0, (ent 0x0B04 [] (s1.ptp.cfg.set 1 4#8)), serves_of (by decide +kernel)
     (by decide +kernel) (by decide +kernel), by decide +kernel⟩,
   ⟨inFlight s1 (ent 0x0B04 [] (List.replicate 32 0xC0#8)), 0, (ent 0x0B04 [] (List.replicate 32 0xC0#8)), serves_of (by decide +kernel)
     (by decide +kernel) (by decide +kernel), by decide +kernel⟩⟩

theorem meets_HlpBitInstructionsComplete_1 :
    (∃ (s u : State), u = s.modHlp (fun h => { h with pc := h.pc + 1 }) ∧ s.fetches 0x00 0 = true) ∧
    (∃ (s u : State), u = s.modHlp (fun h => { h with pc := h.pc + 1 }) ∧ s.fetches 0x0B 0 = true) ∧
    (∃ (s u : State), u = s.modHlp (fun h => { h with pc := h.pc + 1 }) ∧ s.fetches 0x08 0 = true) ∧
    (∃ (s u : State) (p : Bool) (l : List Bool), u = s.modHlp (fun h => { h with pc := h.pc + 1 }) ∧ s.hlp.stack = p :: l) ∧
    (∃ (s u : State) (b : BitVec 20), u = s.modHlp (fun h => { h with pc := h.pc + 1 }) ∧ s.fetches 0x01 b.toNat = true) ∧
    (∃ (s u : State) (b : BitVec 20), u = s.modHlp (fun h => { h with pc := h.pc + 1 }) ∧ s.fetches 0x02 b.toNat = true) :=
  ⟨
   ⟨(fetching 0 0), _, rfl, by decide +kernel⟩,
   ⟨(fetching 11 0), _, rfl, by decide +kernel⟩,
   ⟨(fetching 8 0), _, rfl, by decide +kernel⟩,
   ⟨(s1.modHlp fun h => { h with stack := [true] }), _, true, [], rfl, by decide +kernel⟩,
   ⟨(fetching 0x01 0xFFFFF), _, 0xFFFFF#20, rfl, by decide +kernel⟩,
   ⟨(fetching 0x02 0xFFFFF), _, 0xFFFFF#20, rfl, by decide +kernel⟩⟩

theorem meets_HlpBitInstructionsComplete_2 :
    (∃ (s u : State) (b : BitVec 20), u = s.modHlp (fun h => { h with pc := h.pc + 1 }) ∧ s.fetches 0x03 b.toNat = true) ∧
    (∃ (s u : State) (b : BitVec 20), u = s.modHlp (fun h => { h with pc := h.pc + 1 }) ∧ s.fetches 0x04 b.toNat = true) ∧
    (∃ (s u : State) (b : BitVec 20), u = s.modHlp (fun h => { h with pc := h.pc + 1 }) ∧ s.fetches 0x05 b.toNat = true) ∧
    (∃ (s u : State) (b : BitVec 20), u = s.modHlp (fun h => { h with pc := h.pc + 1 }) ∧ s.fetches 0x06 b.toNat = true) ∧
    (∃ (s u : State) (b : BitVec 20), u = s.modHlp (fun h => { h with pc := h.pc + 1 }) ∧ s.fetches 0x07 b.toNat = true) ∧
    (∃ (s u : State) (b : BitVec 20), u = s.modHlp (fun h => { h with pc := h.pc + 1 }) ∧ s.fetches 0x0C b.toNat = true) :=
  ⟨
   ⟨(fetching 0x03 0xFFFFF), _, 0xFFFFF#20, rfl, by decide +kernel⟩,
   ⟨(fetching 0x04 0xFFFFF), _, 0xFFFFF#20, rfl, by decide +kernel⟩,
   ⟨(fetching 0x05 0xFFFFF), _, 0xFFFFF#20, rfl, by decide +kernel⟩,
   ⟨(fetching 0x06 0xFFFFF), _, 0xFFFFF#20, rfl, by decide +kernel⟩,
   ⟨(fetching 0x07 0xFFFFF), _, 0xFFFFF#20, rfl, by decide +kernel⟩,
   ⟨(fetching 0x0C 0xFFFFF), _, 0xFFFFF#20, rfl, by decide +kernel⟩⟩

theorem meets_HlpBitInstructionsComplete_3 :
    (∃ (s u : State) (b : BitVec 20), u = s.modHlp (fun h => { h with pc := h.pc + 1 }) ∧ s.fetches 0x0D b.toNat = true) ∧
    (∃ (s u : State) (b : BitVec 20), u = s.modHlp (fun h => { h with pc := h.pc + 1 }) ∧ s.fetches 0x0E b.toNat = true) ∧
    (∃ (s u : State) (b : BitVec 20), u = s.modHlp (fun h => { h with pc := h.pc + 1 }) ∧ s.fetches 0x0F b.toNat = true) ∧
    (∃ (s u : State) (b : BitVec 20), u = s.modHlp (fun h => { h with pc := h.pc + 1 }) ∧ s.fetches 0x10 b.toNat = true) ∧
    (∃ (s : State) (b : BitVec 20), s.fetches 0x00 0 = false) ∧
    (∃ (s : State) (b : BitVec 20), s.fetches 0x0B 0 = false) :=
  ⟨
   ⟨(fetching 0x0D 0xFFFFF), _, 0xFFFFF#20, rfl, by decide +kernel⟩,
   ⟨(fetching 0x0E 0xFFFFF), _, 0xFFFFF#20, rfl, by decide +kernel⟩,
   ⟨(fetching 0x0F 0xFFFFF), _, 0xFFFFF#20, rfl, by decide +kernel⟩,
   ⟨(fetching 0x10 0xFFFFF), _, 0xFFFFF#20, rfl, by decide +kernel⟩,
   ⟨s1, 0xFFFFF#20, by decide +kernel⟩,
   ⟨s1, 0xFFFFF#20, by decide +kernel⟩⟩

theorem meets_HlpBitInstructionsComplete_4 :
    (∃ (s : State) (b : BitVec 20), s.fetches 0x08 0 = false) ∧
    (∃ (s : State) (b : BitVec 20), s.fetches 0x09 0 = false) ∧
    (∃ (s : State) (b : BitVec 20), s.fetches 0x0A 0 = false) ∧
    (∃ (s : State) (b : BitVec 20), s.fetches 0x01 b.toNat = false) ∧
    (∃ (s : State) (b : BitVec 20), s.fetches 0x02 b.toNat = false) ∧
    (∃ (s : State) (b : BitVec 20), s.fetches 0x03 b.toNat = false) :=
  ⟨
   ⟨s1, 0xFFFFF#20, by decide +kernel⟩,
   ⟨s1, 0xFFFFF#20, by decide +kernel⟩,
   ⟨s1, 0xFFFFF#20, by decide +kernel⟩,
   ⟨s1, 0xFFFFF#20, by decide +kernel⟩,
   ⟨s1, 0xFFFFF#20, by decide +kernel⟩,
   ⟨s1, 0xFFFFF#20, by decide +kernel⟩⟩

theorem meets_HlpBitInstructionsComplete_5 :
    (∃ (s : State) (b : BitVec 20), s.fetches 0x04 b.toNat = false) ∧
    (∃ (s : State) (b : BitVec 20), s.fetches 0x05 b.toNat = false) ∧
    (∃ (s : State) (b : BitVec 20), s.fetches 0x06 b.toNat = false) ∧
    (∃ (s : State) (b : BitVec 20), s.fetches 0x07 b.toNat = false) ∧
    (∃ (s : State) (b : BitVec 20), s.fetches 0x0C b.toNat = false) ∧
    (∃ (s : State) (b : BitVec 20), s.fetches 0x0D b.toNat = false) :=
  ⟨
   ⟨s1, 0xFFFFF#20, by decide +kernel⟩,
   ⟨s1, 0xFFFFF#20, by decide +kernel⟩,
   ⟨s1, 0xFFFFF#20, by decide +kernel⟩,
   ⟨s1, 0xFFFFF#20, by decide +kernel⟩,
   ⟨s1, 0xFFFFF#20, by decide +kernel⟩,
   ⟨s1, 0xFFFFF#20, by decide +kernel⟩⟩

theorem meets_HlpBitInstructionsComplete_6 :
    (∃ (s : State) (b : BitVec 20), s.fetches 0x0E b.toNat = false) ∧
    (∃ (s : State) (b : BitVec 20), s.fetches 0x0F b.toNat = false) ∧
    (∃ (s : State) (b : BitVec 20), s.fetches 0x10 b.toNat = false) :=
  ⟨
   ⟨s1, 0xFFFFF#20, by decide +kernel⟩,
   ⟨s1, 0xFFFFF#20, by decide +kernel⟩,
   ⟨s1, 0xFFFFF#20, by decide +kernel⟩⟩

theorem meets_HlpWordInstructionsComplete_1 :
    (∃ (s u : State) (w : BitVec 24), u = s.modHlp (fun h => { h with pc := h.pc + 1 }) ∧ s.fetches 0x18 w.toNat = true) ∧
    (∃ (s u : State) (w : BitVec 24), u = s.modHlp (fun h => { h with pc := h.pc + 1 }) ∧ s.fetches 0x19 w.toNat = true) ∧
    (∃ (s u : State) (w : BitVec 24), u = s.modHlp (fun h => { h with pc := h.pc + 1 }) ∧ s.fetches 0x1A w.toNat = true) ∧
    (∃ (s u : State) (w : BitVec 24), u = s.modHlp (fun h => { h with pc := h.pc + 1 }) ∧ s.fetches 0x1C w.toNat = true) ∧
    (∃ (s u : State) (w : BitVec 24), u = s.modHlp (fun h => { h with pc := h.pc + 1 }) ∧ s.fetches 0x1D w.toNat = true) ∧
    (∃ (s u : State) (w : BitVec 24), u = s.modHlp (fun h => { h with pc := h.pc + 1 }) ∧ s.fetches 0x1E w.toNat = true) :=
  ⟨
   ⟨(fetching 0x18 0xFFFFFF), _, 0xFFFFFF#24, rfl, by decide +kernel⟩,
   ⟨(fetching 0x19 0xFFFFFF), _, 0xFFFFFF#24, rfl, by decide +kernel⟩,
   ⟨(fetching 0x1A 0xFFFFFF), _, 0xFFFFFF#24, rfl, by decide +kernel⟩,
   ⟨(fetching 0x1C 0xFFFFFF), _, 0xFFFFFF#24, rfl, by decide +kernel⟩,
   ⟨(fetching 0x1D 0xFFFFFF), _, 0xFFFFFF#24, rfl, by decide +kernel⟩,
   ⟨(fetching 0x1E 0xFFFFFF), _, 0xFFFFFF#24, rfl, by decide +kernel⟩⟩

theorem meets_HlpWordInstructionsComplete_2 :
    (∃ (s u : State) (w : BitVec 24), u = s.modHlp (fun h => { h with pc := h.pc + 1 }) ∧ s.fetches 0x20 w.toNat = true) ∧
    (∃ (s u : State) (w : BitVec 24), u = s.modHlp (fun h => { h with pc := h.pc + 1 }) ∧ s.fetches 0x22 w.toNat = true) ∧
    (∃ (s u : State) (w : BitVec 24), u = s.modHlp (fun h => { h with pc := h.pc + 1 }) ∧ s.fetches 0x23 w.toNat = true) ∧
    (∃ (s u : State) (w : BitVec 24), u = s.modHlp (fun h => { h with pc := h.pc + 1 }) ∧ s.fetches 0x24 w.toNat = true) ∧
    (∃ (s u : State) (w : BitVec 24), u = s.modHlp (fun h => { h with pc := h.pc + 1 }) ∧ s.fetches 0x25 w.toNat = true) ∧
    (∃ (s u : State) (w : BitVec 24), u = s.modHlp (fun h => { h with pc := h.pc + 1 }) ∧ s.fetches 0x26 w.toNat = true) :=
  ⟨
   ⟨(fetching 0x20 0xFFFFFF), _, 0xFFFFFF#24, rfl, by decide +kernel⟩,
   ⟨(fetching 0x22 0xFFFFFF), _, 0xFFFFFF#24, rfl, by decide +kernel⟩,
   ⟨(fetching 0x23 0xFFFFFF), _, 0xFFFFFF#24, rfl, by decide +kernel⟩,
   ⟨(fetching 0x24 0xFFFFFF), _, 0xFFFFFF#24, rfl, by decide +kernel⟩,
   ⟨(fetching 0x25 0xFFFFFF), _, 0xFFFFFF#24, rfl, by decide +kernel⟩,
   ⟨(fetching 0x26 0xFFFFFF), _, 0xFFFFFF#24, rfl, by decide +kernel⟩⟩

theorem meets_HlpWordInstructionsComplete_3 :
    (∃ (s u : State) (w : BitVec 24), u = s.modHlp (fun h => { h with pc := h.pc + 1 }) ∧ s.fetches 0x27 w.toNat = true) ∧
    (∃ (s u : State) (w : BitVec 24), u = s.modHlp (fun h => { h with pc := h.pc + 1 }) ∧ s.fetches 0x28 w.toNat = true) ∧
    (∃ (s u : State) (w : BitVec 24), u = s.modHlp (fun h => { h with pc := h.pc + 1 }) ∧ s.fetches 0x29 w.toNat = true) ∧
    (∃ (s u : State) (w : BitVec 24), u = s.modHlp (fun h => { h with pc := h.pc + 1 }) ∧ s.fetches 0x2A w.toNat = true) ∧
    (∃ (s u : State) (w : BitVec 24), u = s.modHlp (fun h => { h with pc := h.pc + 1 }) ∧ s.fetches 0x2B w.toNat = true) ∧
    (∃ (s u : State) (w : BitVec 24), u = s.modHlp (fun h => { h with pc := h.pc + 1 }) ∧ s.fetches 0x2C w.toNat = true) :=
  ⟨
   ⟨(fetching 0x27 0xFFFFFF), _, 0xFFFFFF#24, rfl, by decide +kernel⟩,
   ⟨(fetching 0x28 0xFFFFFF), _, 0xFFFFFF#24, rfl, by decide +kernel⟩,
   ⟨(fetching 0x29 0xFFFFFF), _, 0xFFFFFF#24, rfl, by decide +kernel⟩,
   ⟨(fetching 0x2A 0xFFFFFF), _, 0xFFFFFF#24, rfl, by decide +kernel⟩,
   ⟨(fetching 0x2B 0xFFFFFF), _, 0xFFFFFF#24, rfl, by decide +kernel⟩,
   ⟨(fetching 0x2C 0xFFFFFF), _, 0xFFFFFF#24, rfl, by decide +kernel⟩⟩

theorem meets_HlpWordInstructionsComplete_4 :
    (∃ (s u : State) (w : BitVec 24), u = s.modHlp (fun h => { h with pc := h.pc + 1 }) ∧ s.fetches 0x2D w.toNat = true) ∧
    (∃ (s u : State) (k : BitVec 12) (i : BitVec 16) (r : BitVec 13), u = s.modHlp (fun h => { h with pc := h.pc + 1 }) ∧ s.fetches 0x21
      k.toNat = true) ∧
    (∃ (s u : State) (k : BitVec 12) (i : BitVec 16) (r : BitVec 13), u = s.modHlp (fun h => { h with pc := h.pc + 1 }) ∧ s.fetches 0x30
      i.toNat = true) ∧
    (∃ (s u : State) (k : BitVec 12) (i : BitVec 16) (r : BitVec 13), u = s.modHlp (fun h => { h with pc := h.pc + 1 }) ∧ s.fetches 0x31
      i.toNat = true) ∧
    (∃ (s u : State) (k : BitVec 12) (i : BitVec 16) (r : BitVec 13), u = s.modHlp (fun h => { h with pc := h.pc + 1 }) ∧ s.fetches 0x32
      i.toNat = true) ∧
    (∃ (s u : State) (k : BitVec 12) (i : BitVec 16) (r : BitVec 13), u = s.modHlp (fun h => { h with pc := h.pc + 1 }) ∧ s.fetches 0x34
      r.toNat = true) :=
  ⟨
   ⟨(fetching 0x2D 0xFFFFFF), _, 0xFFFFFF#24, rfl, by decide +kernel⟩,
   ⟨(fetching 0x21 0xFFF), _, 0xFFF#12, 0xFFFF#16, 0x1FFF#13, rfl, by decide +kernel⟩,
   ⟨(fetching 0x30 0xFFFF), _, 0xFFF#12, 0xFFFF#16, 0x1FFF#13, rfl, by decide +kernel⟩,
   ⟨(fetching 0x31 0xFFFF), _, 0xFFF#12, 0xFFFF#16, 0x1FFF#13, rfl, by decide +kernel⟩,
   ⟨(fetching 0x32 0xFFFF), _, 0xFFF#12, 0xFFFF#16, 0x1FFF#13, rfl, by decide +kernel⟩,
   ⟨(fetching 0x34 0x1FFF), _, 0xFFF#12, 0xFFFF#16, 0x1FFF#13, rfl, by decide +kernel⟩⟩

theorem meets_HlpWordInstructionsComplete_5 :
    (∃ (s u : State) (k : BitVec 12) (i : BitVec 16) (r : BitVec 13), u = s.modHlp (fun h => { h with pc := h.pc + 1 }) ∧ s.fetches 0x33
      0 = true ∧ s.hlp.section_ = some 2) ∧
    (∃ (s u : State) (k : BitVec 12) (i : BitVec 16) (r : BitVec 13), u = s.modHlp (fun h => { h with pc := h.pc + 1 }) ∧ s.fetches 0x33
      0 = true ∧ s.hlp.section_ ≠ some 2) ∧
    (∃ (x y : F32), (fIsNan x = true ∨ fIsNan y = true)) ∧
    (∃ (s : State) (w : BitVec 24) (k : BitVec 12) (i : BitVec 16) (r : BitVec 13), s.fetches 0x18 w.toNat = false) ∧
    (∃ (s : State) (w : BitVec 24) (k : BitVec 12) (i : BitVec 16) (r : BitVec 13), s.fetches 0x19 w.toNat = false) ∧
    (∃ (s : State) (w : BitVec 24) (k : BitVec 12) (i : BitVec 16) (r : BitVec 13), s.fetches 0x1A w.toNat = false) :=
  ⟨
   ⟨(fetching 0x33 0), _, 0xFFF#12, 0xFFFF#16, 0x1FFF#13, rfl, by decide +kernel, by decide +kernel⟩,
   ⟨((fetching 0x33 0).modHlp fun h => { h with section_ := some 1 }), _, 0xFFF#12, 0xFFFF#16, 0x1FFF#13, rfl, by decide +kernel,
     by decide +kernel⟩,
   ⟨0x7FC00000#32, 0#32, by decide +kernel⟩,
   ⟨s1, 0xFFFFFF#24, 0xFFF#12, 0xFFFF#16, 0x1FFF#13, by decide +kernel⟩,
   ⟨s1, 0xFFFFFF#24, 0xFFF#12, 0xFFFF#16, 0x1FFF#13, by decide +kernel⟩,
   ⟨s1, 0xFFFFFF#24, 0xFFF#12, 0xFFFF#16, 0x1FFF#13, by decide +kernel⟩⟩

theorem meets_HlpWordInstructionsComplete_6 :
    (∃ (s : State) (w : BitVec 24) (k : BitVec 12) (i : BitVec 16) (r : BitVec 13), s.fetches 0x1C w.toNat = false) ∧
    (∃ (s : State) (w : BitVec 24) (k : BitVec 12) (i : BitVec 16) (r : BitVec 13), s.fetches 0x1D w.toNat = false) ∧
    (∃ (s : State) (w : BitVec 24) (k : BitVec 12) (i : BitVec 16) (r : BitVec 13), s.fetches 0x1E w.toNat = false) ∧
    (∃ (s : State) (w : BitVec 24) (k : BitVec 12) (i : BitVec 16) (r : BitVec 13), s.fetches 0x20 w.toNat = false) ∧
    (∃ (s : State) (w : BitVec 24) (k : BitVec 12) (i : BitVec 16) (r : BitVec 13), s.fetches 0x22 w.toNat = false) ∧
    (∃ (s : State) (w : BitVec 24) (k : BitVec 12) (i : BitVec 16) (r : BitVec 13), s.fetches 0x23 w.toNat = false) :=
  ⟨
   ⟨s1, 0xFFFFFF#24, 0xFFF#12, 0xFFFF#16, 0x1FFF#13, by decide +kernel⟩,
   ⟨s1, 0xFFFFFF#24, 0xFFF#12, 0xFFFF#16, 0x1FFF#13, by decide +kernel⟩,
   ⟨s1, 0xFFFFFF#24, 0xFFF#12, 0xFFFF#16, 0x1FFF#13, by decide +kernel⟩,
   ⟨s1, 0xFFFFFF#24, 0xFFF#12, 0xFFFF#16, 0x1FFF#13, by decide +kernel⟩,
   ⟨s1, 0xFFFFFF#24, 0xFFF#12, 0xFFFF#16, 0x1FFF#13, by decide +kernel⟩,
   ⟨s1, 0xFFFFFF#24, 0xFFF#12, 0xFFFF#16, 0x1FFF#13, by decide +kernel⟩⟩

theorem meets_HlpWordInstructionsComplete_7 :
    (∃ (s : State) (w : BitVec 24) (k : BitVec 12) (i : BitVec 16) (r : BitVec 13), s.fetches 0x24 w.toNat = false) ∧
    (∃ (s : State) (w : BitVec 24) (k : BitVec 12) (i : BitVec 16) (r : BitVec 13), s.fetches 0x25 w.toNat = false) ∧
    (∃ (s : State) (w : BitVec 24) (k : BitVec 12) (i : BitVec 16) (r : BitVec 13), s.fetches 0x26 w.toNat = false) ∧
    (∃ (s : State) (w : BitVec 24) (k : BitVec 12) (i : BitVec 16) (r : BitVec 13), s.fetches 0x27 w.toNat = false) ∧
    (∃ (s : State) (w : BitVec 24) (k : BitVec 12) (i : BitVec 16) (r : BitVec 13), s.fetches 0x28 w.toNat = false) ∧
    (∃ (s : State) (w : BitVec 24) (k : BitVec 12) (i : BitVec 16) (r : BitVec 13), s.fetches 0x29 w.toNat = false) :=
  ⟨
   ⟨s1, 0xFFFFFF#24, 0xFFF#12, 0xFFFF#16, 0x1FFF#13, by decide +kernel⟩,
   ⟨s1, 0xFFFFFF#24, 0xFFF#12, 0xFFFF#16, 0x1FFF#13, by decide +kernel⟩,
   ⟨s1, 0xFFFFFF#24, 0xFFF#12, 0xFFFF#16, 0x1FFF#13, by decide +kernel⟩,
   ⟨s1, 0xFFFFFF#24, 0xFFF#12, 0xFFFF#16, 0x1FFF#13, by decide +kernel⟩,
   ⟨s1, 0xFFFFFF#24, 0xFFF#12, 0xFFFF#16, 0x1FFF#13, by decide +kernel⟩,
   ⟨s1, 0xFFFFFF#24, 0xFFF#12, 0xFFFF#16, 0x1FFF#13, by decide +kernel⟩⟩

theorem meets_HlpWordInstructionsComplete_8 :
    (∃ (s : State) (w : BitVec 24) (k : BitVec 12) (i : BitVec 16) (r : BitVec 13), s.fetches 0x2A w.toNat = false) ∧
    (∃ (s : State) (w : BitVec 24) (k : BitVec 12) (i : BitVec 16) (r : BitVec 13), s.fetches 0x2B w.toNat = false) ∧
    (∃ (s : State) (w : BitVec 24) (k : BitVec 12) (i : BitVec 16) (r : BitVec 13), s.fetches 0x2C w.toNat = false) ∧
    (∃ (s : State) (w : BitVec 24) (k : BitVec 12) (i : BitVec 16) (r : BitVec 13), s.fetches 0x2D w.toNat = false) ∧
    (∃ (s : State) (w : BitVec 24) (k : BitVec 12) (i : BitVec 16) (r : BitVec 13), s.fetches 0x21 k.toNat = false) ∧
    (∃ (s : State) (w : BitVec 24) (k : BitVec 12) (i : BitVec 16) (r : BitVec 13), s.fetches 0x30 i.toNat = false) :=
  ⟨
   ⟨s1, 0xFFFFFF#24, 0xFFF#12, 0xFFFF#16, 0x1FFF#13, by decide +kernel⟩,
   ⟨s1, 0xFFFFFF#24, 0xFFF#12, 0xFFFF#16, 0x1FFF#13, by decide +kernel⟩,
   ⟨s1, 0xFFFFFF#24, 0xFFF#12, 0xFFFF#16, 0x1FFF#13, by decide +kernel⟩,
   ⟨s1, 0xFFFFFF#24, 0xFFF#12, 0xFFFF#16, 0x1FFF#13, by decide +kernel⟩,
   ⟨s1, 0xFFFFFF#24, 0xFFF#12, 0xFFFF#16, 0x1FFF#13, by decide +kernel⟩,
   ⟨s1, 0xFFFFFF#24, 0xFFF#12, 0xFFFF#16, 0x1FFF#13, by decide +kernel⟩⟩

theorem meets_HlpWordInstructionsComplete_9 :
    (∃ (s : State) (w : BitVec 24) (k : BitVec 12) (i : BitVec 16) (r : BitVec 13), s.fetches 0x31 i.toNat = false) ∧
    (∃ (s : State) (w : BitVec 24) (k : BitVec 12) (i : BitVec 16) (r : BitVec 13), s.fetches 0x32 i.toNat = false) ∧
    (∃ (s : State) (w : BitVec 24) (k : BitVec 12) (i : BitVec 16) (r : BitVec 13), s.fetches 0x34 r.toNat = false) ∧
    (∃ (s : State) (w : BitVec 24) (k : BitVec 12) (i : BitVec 16) (r : BitVec 13), s.fetches 0x33 0 = false) :=
  ⟨
   ⟨s1, 0xFFFFFF#24, 0xFFF#12, 0xFFFF#16, 0x1FFF#13, by decide +kernel⟩,
   ⟨s1, 0xFFFFFF#24, 0xFFF#12, 0xFFFF#16, 0x1FFF#13, by decide +kernel⟩,
   ⟨s1, 0xFFFFFF#24, 0xFFF#12, 0xFFFF#16, 0x1FFF#13, by decide +kernel⟩,
   ⟨s1, 0xFFFFFF#24, 0xFFF#12, 0xFFFF#16, 0x1FFF#13, by decide +kernel⟩⟩

theorem meets_HlpMemoryReadsBack :
    (∃ (s : State) (b c : Nat) (v : Bool), s.Inv ∧ hlpWritable (b / 8) = true) ∧
    (∃ (s : State) (b : Nat) (v : Bool), hlpWritable (b / 8) = false) ∧
    (∃ (s : State) (x : Nat) (w : Word), s.Inv ∧ hlpWritable x = true) ∧
    (∃ (s : State) (x y : Nat) (w : Word), s.Inv ∧ (y < x ∨ x + 4 ≤ y)) ∧
    (∃ (s : State) (x : Nat) (w : Word), hlpWritable x = false) :=
  ⟨
   ⟨s1, 8 * 0x117FF, 0, true, inv_of (by decide +kernel), by decide +kernel⟩,
   ⟨s1, 8 * 0x11800, true, by decide +kernel⟩,
   ⟨s1, 0xFFFF, 1#32, inv_of (by decide +kernel), by decide +kernel⟩,
   ⟨s1, 4, 0, 1#32, inv_of (by decide +kernel), by decide +kernel⟩,
   ⟨s1, 0x10000, 1#32, by decide +kernel⟩⟩

theorem meets_HlpCycleCommandsComplete_1 :
    (∃ s : State, s.hlp.dbgHalted = false ∧ s.hlpClock = true ∧ s.fld F.HLP_STATUS_STATE 0 = 2 ∧ s.hlp.busy = false) ∧
    (∃ s : State, s.hlp.dbgHalted = false ∧ s.hlpClock = true ∧ s.fld F.HLP_STATUS_STATE 0 = 2 ∧ s.hlp.busy = true) ∧
    (∃ s : State, (s.hlpRuns = false ∨ s.hlp.dbgHalted = true ∨ s.hlpClock = false)) ∧
    (∃ s u : State, u = s.hlpCapture.hlpApply.hlpOlc.hlpFixes.hlpModes ∧ (u.hlp.padStop = true ∨ (u.waitingOp 0x0A04).isSome)) ∧
    (∃ s u : State, u = s.hlpCapture.hlpApply.hlpOlc.hlpFixes.hlpModes ∧ u.hlp.padStop = false ∧ u.waitingOp 0x0A04 = none) ∧
    (∃ s : State, s.hlp.dbgHalted = false ∧ s.hlpClock = true ∧ s.fld F.HLP_STATUS_STATE 0 = 1 ∧ s.hlp.initDone = true) :=
  ⟨
   ⟨(mk [(F.HLP_STATUS_STATE, 0, 2)]), by decide +kernel, by decide +kernel, by decide +kernel, by decide +kernel⟩,
   ⟨((mk [(F.HLP_STATUS_STATE, 0, 2)]).modHlp fun h => { h with busy := true }), by decide +kernel, by decide +kernel, by decide +kernel,
     by decide +kernel⟩,
   ⟨s1, by decide +kernel⟩,
   ⟨((mk [(F.HLP_STATUS_STATE, 0, 2)]).modHlp fun h => { h with padStop := true }), _, rfl, by decide +kernel⟩,
   ⟨(mk [(F.HLP_STATUS_STATE, 0, 2)]), _, rfl, by decide +kernel, by decide +kernel⟩,
   ⟨((mk [(F.HLP_STATUS_STATE, 0, 1)]).modHlp fun h => { h with initDone := true }), by decide +kernel, by decide +kernel,
     by decide +kernel, by decide +kernel⟩⟩

theorem meets_HlpCycleCommandsComplete_2 :
    (∃ s : State, s.hlp.dbgHalted = false ∧ s.hlpClock = true ∧ s.fld F.HLP_STATUS_STATE 0 = 1 ∧ s.hlp.initDone = false) ∧
    (∃ (s t : State) (n k : Nat), s.inCycle = true ∧ k = min n 0xFFFF ∧ t = ((s.setFld F.HLP_TIME_EXEC_LAST 0 k).setFld
      F.HLP_TIME_EXEC_MAX 0 (max k (s.fld F.HLP_TIME_EXEC_MAX 0))).hlpOutput ∧ s.hlp.overran = false) ∧
    (∃ (s t : State) (n k : Nat), s.inCycle = true ∧ k = min n 0xFFFF ∧ t = ((s.setFld F.HLP_TIME_EXEC_LAST 0 k).setFld
      F.HLP_TIME_EXEC_MAX 0 (max k (s.fld F.HLP_TIME_EXEC_MAX 0))).hlpOutput ∧ s.hlp.overran = true) ∧
    (∃ (s : State) (n : Nat), s.inCycle = false) ∧
    (∃ s : State, (s.inCyclic = false ∨ s.hlp.overran = true)) ∧
    (∃ s : State, s.inCyclic = false) :=
  ⟨
   ⟨(mk [(F.HLP_STATUS_STATE, 0, 1)]), by decide +kernel, by decide +kernel, by decide +kernel, by decide +kernel⟩,
   ⟨((mk [(F.HLP_STATUS_STATE, 0, 2)]).modHlp fun h => { h with busy := true, overran := false }), _, 65536, _, by decide +kernel, rfl,
     rfl, by decide +kernel⟩,
   ⟨((mk [(F.HLP_STATUS_STATE, 0, 2)]).modHlp fun h => { h with busy := true, overran := true }), _, 65535, _, by decide +kernel, rfl,
     rfl, by decide +kernel⟩,
   ⟨s1, 65535, by decide +kernel⟩,
   ⟨s1, by decide +kernel⟩,
   ⟨s1, by decide +kernel⟩⟩

theorem meets_HlpCycleCommandsComplete_3 :
    (∃ s : State, s.fld F.HLP_STATUS_STATE 0 ≠ 1) ∧
    (∃ s : State, (s.hlp.section_ = none ∨ s.hlp.dbgHalted = true ∨ s.hlpClock = false)) ∧
    (∃ (s : State) (k : Fin 64), ((2, k.val) ∉ s.coef.found ∨ k.val ∈ s.hlp.fix)) ∧
    (∃ s : State, s.hlp.oldest < 2) ∧
    (∃ s : State, s.inCyclic = true ∧ s.hlp.overran = false ∧ s.fld F.HLP_STATUS_MODE 0 = 1) ∧
    (∃ s : State, s.Canon ∧ s.inCyclic = true ∧ s.hlp.overran = false ∧ s.fld F.HLP_STATUS_MODE 0 ≠ 1) :=
  ⟨
   ⟨s1, by decide +kernel⟩,
   ⟨s1, by decide +kernel⟩,
   ⟨s1, 63, by decide +kernel⟩,
   ⟨s1, by decide +kernel⟩,
   ⟨((mk [(F.HLP_STATUS_STATE, 0, 2), (F.HLP_STATUS_MODE, 0, 1)]).modHlp fun h => { h with busy := true, section_ := some 2 }),
     by decide +kernel, by decide +kernel, by decide +kernel⟩,
   ⟨((mk [(F.HLP_STATUS_STATE, 0, 2)]).modHlp fun h => { h with busy := true, section_ := some 2 }), canon_of (by decide +kernel),
     by decide +kernel, by decide +kernel, by decide +kernel⟩⟩

theorem meets_HlpCycleCommandsComplete_4 :
    (∃ s : State, s.inCyclic = true) ∧
    (∃ s : State, s.fld F.HLP_STATUS_STATE 0 = 1) ∧
    (∃ s : State, s.hlp.section_.isSome = true ∧ s.hlp.dbgHalted = false ∧ s.hlpClock = true) ∧
    (∃ (s : State) (k : Fin 64), (2, k.val) ∈ s.coef.found ∧ k.val ∉ s.hlp.fix ∧ s.hlpRuns = true) ∧
    (∃ (s : State) (k : Fin 64), (2, k.val) ∈ s.coef.found ∧ k.val ∉ s.hlp.fix ∧ s.hlpRuns = false) :=
  ⟨
   ⟨((mk [(F.HLP_STATUS_STATE, 0, 2)]).modHlp fun h => { h with busy := true, section_ := some 2 }), by decide +kernel⟩,
   ⟨(mk [(F.HLP_STATUS_STATE, 0, 1)]), by decide +kernel⟩,
   ⟨(s1.modHlp fun h => { h with section_ := some 2 }), by decide +kernel, by decide +kernel, by decide +kernel⟩,
   ⟨(mk [(F.HLP_STATUS_STATE, 0, 2)]).modCoef fun c => { c with found := [(2, 63)] }, 63, by decide +kernel, by decide +kernel,
     by decide +kernel⟩,
   ⟨s1.modCoef fun c => { c with found := [(2, 63)] }, 63, by decide +kernel, by decide +kernel, by decide +kernel⟩⟩

theorem meets_HlpHostCommandsComplete_1 :
    (∃ (s : State) (tag : Fin 128) (e : Entry), s.Serves 0x0A01 tag e ∧ e.a 0 ≤ 63 ∧ e.a 1 ≤ 3 ∧ s.hlpRuns = false) ∧
    (∃ (s : State) (tag : Fin 128) (e : Entry), s.Serves 0x0A02 tag e ∧ 3 ≤ e.a 0 ∧ e.a 0 ≤ 64 ∧ s.hlpRuns = false ∧ s.loadCheck
      { s.hlp.buf with count := e.a 0 } = FS.FS_OK) ∧
    (∃ (s : State) (p : HlpProg), s.Canon) ∧
    (∃ (s : State) (tag : Fin 128) (e : Entry) (st : Nat), s.Serves 0x0A02 tag e ∧ 3 ≤ e.a 0 ∧ e.a 0 ≤ 64 ∧ s.hlpRuns = false ∧ st =
      s.loadCheck { s.hlp.buf with count := e.a 0 } ∧ st ≠ FS.FS_OK) ∧
    (∃ (s : State) (tag : Fin 128) (e : Entry), s.Serves 0x0A03 tag e ∧ e.a 0 ≤ 1 ∧ e.a 1 ≤ 1 ∧ s.hlpRuns = false ∧ s.flag
      F.HLP_STATUS_PROG_OK 0 = true ∧ s.hlpTilesOk = true ∧ (e.a 0 = 0 → s.warmCheck = FS.FS_OK)) :=
  ⟨
   ⟨inFlight s1 (ent 0x0A01 [63, 3] (List.replicate 1024 0#8)), 0, (ent 0x0A01 [63, 3] (List.replicate 1024 0#8)), serves_of
     (by decide +kernel) (by decide +kernel) (by decide +kernel), by decide +kernel, by decide +kernel, by decide +kernel⟩,
   ⟨inFlight (((mk [(F.FIO_CFG_FIO_TMO, 0, 255)])).modHlp fun h => { h with buf := prog0 }) (ent 0x0A02 [3] []), 0, (ent 0x0A02 [3] []),
     serves_of (by decide +kernel) (by decide +kernel) (by decide +kernel), by decide +kernel, by decide +kernel, by decide +kernel,
     prog0_load (by decide +kernel)⟩,
   ⟨s1, {}, canon_of (by decide +kernel)⟩,
   ⟨inFlight (mk [(F.FIO_CFG_FIO_TMO, 0, 0)]) (ent 0x0A02 [64] []), 0, (ent 0x0A02 [64] []), _, serves_of (by decide +kernel)
     (by decide +kernel) (by decide +kernel), by decide +kernel, by decide +kernel, by decide +kernel, rfl, load_bad (by decide +kernel)⟩,
   ⟨inFlight (mk [(F.HLP_STATUS_PROG_OK, 0, 1)]) (ent 0x0A03 [1, 1] []), 0, (ent 0x0A03 [1, 1] []), serves_of (by decide +kernel)
     (by decide +kernel) (by decide +kernel), by decide +kernel, by decide +kernel, by decide +kernel, by decide +kernel,
     by decide +kernel, by decide +kernel⟩⟩

theorem meets_HlpHostCommandsComplete_2 :
    (∃ (s : State) (tag : Fin 128) (e : Entry), s.hlpRuns = true ∧ s.Serves 0x0A01 tag e ∧ e.a 0 ≤ 63 ∧ e.a 1 ≤ 3) ∧
    (∃ (s : State) (tag : Fin 128) (e : Entry), s.hlpRuns = true ∧ s.Serves 0x0A02 tag e ∧ 3 ≤ e.a 0 ∧ e.a 0 ≤ 64) ∧
    (∃ (s : State) (tag : Fin 128) (e : Entry), s.hlpRuns = true ∧ s.Serves 0x0A03 tag e ∧ e.a 0 ≤ 1 ∧ e.a 1 ≤ 1) ∧
    (∃ (s : State) (tag : Fin 128) (e : Entry), s.Serves 0x0A04 tag e ∧ s.hlpRuns = true) ∧
    (∃ (s : State) (tag : Fin 128) (e : Entry), s.Serves 0x0A04 tag e ∧ s.hlpRuns = false) :=
  ⟨
   ⟨inFlight (mk [(F.HLP_STATUS_STATE, 0, 2)]) (ent 0x0A01 [63, 3] (List.replicate 1024 0#8)), 0, (ent 0x0A01 [63, 3] (List.replicate
     1024 0#8)), by decide +kernel, serves_of (by decide +kernel) (by decide +kernel) (by decide +kernel), by decide +kernel,
     by decide +kernel⟩,
   ⟨inFlight (mk [(F.HLP_STATUS_STATE, 0, 2)]) (ent 0x0A02 [64] []), 0, (ent 0x0A02 [64] []), by decide +kernel, serves_of
     (by decide +kernel) (by decide +kernel) (by decide +kernel), by decide +kernel, by decide +kernel⟩,
   ⟨inFlight (mk [(F.HLP_STATUS_STATE, 0, 2)]) (ent 0x0A03 [1, 1] []), 0, (ent 0x0A03 [1, 1] []), by decide +kernel, serves_of
     (by decide +kernel) (by decide +kernel) (by decide +kernel), by decide +kernel, by decide +kernel⟩,
   ⟨inFlight (mk [(F.HLP_STATUS_STATE, 0, 2)]) (ent 0x0A04 [] []), 0, (ent 0x0A04 [] []), serves_of (by decide +kernel)
     (by decide +kernel) (by decide +kernel), by decide +kernel⟩,
   ⟨inFlight s1 (ent 0x0A04 [] []), 0, (ent 0x0A04 [] []), serves_of (by decide +kernel) (by decide +kernel) (by decide +kernel),
     by decide +kernel⟩⟩

theorem meets_HlpHostCommandsComplete_3 :
    (∃ (s : State) (tag : Fin 128) (e : Entry), s.Serves 0x0A05 tag e ∧ s.hlpRuns = true ∧ (e.a 0 = 1 ∨ ((e.a 0 = 2 ∨ e.a 0 = 3) ∧ s.fld
      F.HLP_STATUS_MODE 0 = 1 ∧ s.allOff = true))) ∧
    (∃ (s : State) (tag : Fin 128) (e : Entry), s.Serves 0x0A06 tag e ∧ 1 ≤ e.a 0 ∧ e.a 0 ≤ 32 ∧ e.payload.length = 16 * e.a 0 ∧
      (List.range (e.a 0)).all (s.olcItemOk e.payload) = true ∧ olcCrcOk e.payload (e.a 0) 0 s.hlp.prog = true ∧ s.waitingOp 0x0A06 =
      none ∧ s.hlpRuns = true) ∧
    (∃ (s : State) (tag : Fin 128) (e : Entry), s.Serves 0x0A06 tag e ∧ 1 ≤ e.a 0 ∧ e.a 0 ≤ 32 ∧ e.payload.length = 16 * e.a 0 ∧
      (List.range (e.a 0)).all (s.olcItemOk e.payload) = true ∧ olcCrcOk e.payload (e.a 0) 0 s.hlp.prog = true ∧ s.waitingOp 0x0A06 =
      none ∧ s.hlpRuns = false) :=
  ⟨
   ⟨inFlight (mk [(F.HLP_STATUS_STATE, 0, 2)]) (ent 0x0A05 [1] []), 0, (ent 0x0A05 [1] []), serves_of (by decide +kernel)
     (by decide +kernel) (by decide +kernel), by decide +kernel, by decide +kernel⟩,
   ⟨inFlight (mk [(F.HLP_STATUS_STATE, 0, 2)]) (ent 0x0A06 [1] (by8 ([1] ++ List.replicate 15 0))), 0, (ent 0x0A06 [1] (by8 ([1] ++
     List.replicate 15 0))), serves_of (by decide +kernel) (by decide +kernel) (by decide +kernel), by decide +kernel, by decide +kernel,
     by decide +kernel, by decide +kernel, by decide +kernel, by decide +kernel, by decide +kernel⟩,
   ⟨inFlight s1 (ent 0x0A06 [1] (by8 ([1] ++ List.replicate 15 0))), 0, (ent 0x0A06 [1] (by8 ([1] ++ List.replicate 15 0))), serves_of
     (by decide +kernel) (by decide +kernel) (by decide +kernel), by decide +kernel, by decide +kernel, by decide +kernel,
     by decide +kernel, by decide +kernel, by decide +kernel, by decide +kernel⟩⟩

theorem meets_WindowWritesComplete_1 :
    (∃ (s : State) (p : Path) (v : Word), s.access (pathNo p) 0x214 true = 0) ∧
    (∃ (s : State) (p : Path) (v : Word), s.access (pathNo p) 0x260 true = 0 ∧ v.toNat % 2 = 1) ∧
    (∃ (s : State) (p : Path) (v : Word), s.access (pathNo p) 0x260 true = 0 ∧ v.toNat % 2 = 0) ∧
    (∃ s : State, (s.allOff = false ∨ s.fld F.PWM_PERIOD_SH_ALL 0 < periodLo s.gait s.anyGl)) ∧
    (∃ s : State, s.allOff = true ∧ periodLo s.gait s.anyGl ≤ s.fld F.PWM_PERIOD_SH_ALL 0) ∧
    (∃ (s : State) (p : Path) (v : Word), s.access (pathNo p) 0x3CC true = 0 ∧ (s.pathSt (pathNo p)).cls = 7 ∧ (s.pathSt (pathNo
      p)).valid = true ∧ s.flag F.CMP_CFG_SRC (s.pathSt (pathNo p)).idx = false) :=
  ⟨
   ⟨s1, .debug, 0xFFFFFFFF#32, by decide +kernel⟩,
   ⟨s1, .debug, 1#32, by decide +kernel, by decide +kernel⟩,
   ⟨s1, .debug, 2#32, by decide +kernel, by decide +kernel⟩,
   ⟨(mk [(F.PORT_STATUS_STATE, 11, 5)]), by decide +kernel⟩,
   ⟨(mk [(F.PWM_PERIOD_SH_ALL, 0, 12500)]), by decide +kernel, by decide +kernel⟩,
   ⟨(s1.modPath 1 fun p => { p with cls := 7, idx := 63 }), .debug, 1#32, by decide +kernel, by decide +kernel, by decide +kernel,
     by decide +kernel⟩⟩

theorem meets_WindowWritesComplete_2 :
    (∃ (s : State) (p : Path) (v : Word), s.access (pathNo p) 0x3CC true = 0 ∧ (s.pathSt (pathNo p)).cls = 7 ∧ (s.pathSt (pathNo
      p)).valid = true ∧ s.flag F.CMP_CFG_SRC (s.pathSt (pathNo p)).idx = true) ∧
    (∃ (s : State) (p : Path) (v : Word), s.access (pathNo p) 0x3D8 true = 0 ∧ (s.pathSt (pathNo p)).cls = 1 ∧ (s.pathSt (pathNo
      p)).valid = true ∧ s.legSwitching (s.pathSt (pathNo p)).idx = false) ∧
    (∃ (s : State) (p : Path) (v : Word), s.access (pathNo p) 0x3D8 true = 0 ∧ (s.pathSt (pathNo p)).cls = 1 ∧ (s.pathSt (pathNo
      p)).valid = true ∧ s.legSwitching (s.pathSt (pathNo p)).idx = true) ∧
    (∃ (s : State) (p : Path) (v : Word), s.access (pathNo p) 0x3D4 true = 0 ∧ (s.pathSt (pathNo p)).cls = 2 ∧ (s.pathSt (pathNo
      p)).valid = true ∧ s.groupSources (s.pathSt (pathNo p)).idx false ≠ []) ∧
    (∃ (s : State) (p : Path) (v : Word), s.access (pathNo p) 0x3D4 true = 0 ∧ (s.pathSt (pathNo p)).cls = 2 ∧ (s.pathSt (pathNo
      p)).valid = true) ∧
    (∃ (s : State) (p : Path) (v : Word), s.access (pathNo p) 0x278 true = 0 ∧ (s.flag F.DL_CTRL_CAL_HOLD 0 = false ∨ bitOf v.toNat 31 =
      true)) :=
  ⟨
   ⟨((mk [(F.CMP_CFG_SRC, 63, 1)]).modPath 1 fun p => { p with cls := 7, idx := 63 }), .debug, 1#32, by decide +kernel,
     by decide +kernel, by decide +kernel, by decide +kernel⟩,
   ⟨(s1.modPath 1 fun p => { p with cls := 1, idx := 47 }), .debug, 1#32, by decide +kernel, by decide +kernel, by decide +kernel,
     by decide +kernel⟩,
   ⟨(((mk [(F.PORT_STATUS_STATE, 11, 5)]).modPort 11 fun p => { p with cfg := { p.cfg with legs := [47], configured := true } }).modPath
     1 fun p => { p with cls := 1, idx := 47 }), .debug, 1#32, by decide +kernel, by decide +kernel, by decide +kernel,
     by decide +kernel⟩,
   ⟨((((mk [(F.TG_CFG_EN, 7, 1), (F.TG_CFG_PIN_MASK, 7, 128)])).modPwm fun w => { w with pins := 128 }).modPath 1 fun p =>
     { p with cls := 2, idx := 7 }), .debug, 1#32, by decide +kernel, by decide +kernel, by decide +kernel, by decide +kernel⟩,
   ⟨(s1.modPath 1 fun p => { p with cls := 2, idx := 7 }), .debug, 1#32, by decide +kernel, by decide +kernel, by decide +kernel⟩,
   ⟨(mk [(F.DL_CTRL_CAL_HOLD, 0, 0)]), .debug, 1#32, by decide +kernel, by decide +kernel⟩⟩

theorem meets_WindowWritesComplete_3 :
    (∃ (s : State) (p : Path) (v : Word), s.access (pathNo p) 0x278 true = 0 ∧ s.flag F.DL_CTRL_CAL_HOLD 0 = true ∧ bitOf v.toNat 31 =
      false) ∧
    (∃ (s : State) (p : Path) (v : Word), (s.pathSt (pathNo p)).cls ≠ 1) ∧
    (∃ (s : State) (p : Path) (v : Word), (s.pathSt (pathNo p)).cls ≠ 2) ∧
    (∃ (s : State) (p : Path) (v : Word), (s.pathSt (pathNo p)).cls ≠ 5) ∧
    (∃ (s : State) (p : Path) (v : Word), (s.pathSt (pathNo p)).cls ≠ 7) ∧
    (∃ (s : State) (p : Path) (v : Word), (s.pathSt (pathNo p)).cls ≠ 9) :=
  ⟨
   ⟨(mk [(F.DL_CTRL_CAL_HOLD, 0, 1)]), .debug, 1#32, by decide +kernel, by decide +kernel, by decide +kernel⟩,
   ⟨(s1.modPath 1 fun p => { p with cls := 0, idx := 0 }), .debug, 1#32, by decide +kernel⟩,
   ⟨(s1.modPath 1 fun p => { p with cls := 0, idx := 0 }), .debug, 1#32, by decide +kernel⟩,
   ⟨(s1.modPath 1 fun p => { p with cls := 0, idx := 0 }), .debug, 1#32, by decide +kernel⟩,
   ⟨(s1.modPath 1 fun p => { p with cls := 0, idx := 0 }), .debug, 1#32, by decide +kernel⟩,
   ⟨(s1.modPath 1 fun p => { p with cls := 0, idx := 0 }), .debug, 1#32, by decide +kernel⟩⟩

theorem meets_WindowWritesComplete_4 :
    (∃ (s : State) (p : Path) (v : Word), s.Canon ∧ s.access (pathNo p) 0x3CC true = 0 ∧ (s.pathSt (pathNo p)).cls = 9 ∧ (s.pathSt
      (pathNo p)).valid = true ∧ v.toNat % 2 = 1) ∧
    (∃ (s : State) (p : Path) (v : Word), s.access (pathNo p) 0x100 true = 0) ∧
    (∃ (s : State) (p : Path) (v : Word), s.access (pathNo p) 0x3D0 true = 0 ∧ (s.pathSt (pathNo p)).cls = 5 ∧ (s.pathSt (pathNo
      p)).valid = true) ∧
    (∃ (s : State) (p : Path) (v : Word), s.access (pathNo p) 0x8000 true = 0) ∧
    (∃ (s : State) (p : Path) (v : Word), s.access (pathNo p) 0x8024 true = 0) ∧
    (∃ (s : State) (v : Word), bitOf v.toNat 31 = true ∧ s.spurOn = false) :=
  ⟨
   ⟨(s1.modPath 1 fun p => { p with cls := 9, idx := 7 }), .debug, 1#32, canon_of (by decide +kernel), by decide +kernel,
     by decide +kernel, by decide +kernel, by decide +kernel⟩,
   ⟨s1, .debug, 1#32, by decide +kernel⟩,
   ⟨(s1.modPath 1 fun p => { p with cls := 5, idx := 7 }), .debug, 1#32, by decide +kernel, by decide +kernel, by decide +kernel⟩,
   ⟨(mk [(F.TACK_CTRL_TEST_EN, 0, 1)]), .debug, 1#32, by decide +kernel⟩,
   ⟨(mk [(F.TACK_CTRL_TEST_EN, 0, 1)]), .debug, 1#32, by decide +kernel⟩,
   ⟨s1, 0x80000000#32, by decide +kernel, by decide +kernel⟩⟩

theorem meets_WindowWritesComplete_5 :
    (∃ (s : State) (p : Path) (a : BitVec 16) (v : Word), s.access (pathNo p) (a.toNat / 4 * 4) true = 0 ∧ (a.toNat / 4 * 4 < 0x1000 ∨
      0x8000 ≤ a.toNat / 4 * 4)) ∧
    (∃ (s : State) (p : Path) (a : BitVec 16) (v : Word), 2 ≤ s.access (pathNo p) (a.toNat / 4 * 4) true ∧ (a.toNat / 4 * 4 < 0x1000 ∨
      0x8000 ≤ a.toNat / 4 * 4)) ∧
    (∃ (s : State) (p : Path) (a : BitVec 16) (v : Word), s.access (pathNo p) (a.toNat / 4 * 4) true = 1 ∧ (a.toNat / 4 * 4 < 0x1000 ∨
      0x8000 ≤ a.toNat / 4 * 4)) ∧
    (∃ (s : State) (a : BitVec 16) (b : Byte), 0x1000 ≤ a.toNat ∧ a.toNat < 0x8000) ∧
    (∃ (s : State) (a : BitVec 16) (l : List Byte), a.toNat % 4 = 0 ∧ l.length = 4 ∧ (a.toNat < 0x1000 ∨ 0x8000 ≤ a.toNat)) ∧
    (∃ (s : State) (a : BitVec 16) (l : List Byte), a.toNat % 4 = 0 ∧ l.length < 4 ∧ (a.toNat < 0x1000 ∨ 0x8000 ≤ a.toNat)) :=
  ⟨
   ⟨s1, .debug, 0xFFF#16, 1#32, by decide +kernel, by decide +kernel⟩,
   ⟨s1, .debug, 0x8000#16, 1#32, by decide +kernel, by decide +kernel⟩,
   ⟨s1, .qspi, 0x8000#16, 1#32, by decide +kernel, by decide +kernel⟩,
   ⟨s1, 0x1000#16, 0#8, by decide +kernel, by decide +kernel⟩,
   ⟨s1, 0xFFC#16, [0#8, 0#8, 0#8, 0#8], by decide +kernel, by decide +kernel, by decide +kernel⟩,
   ⟨s1, 0xFFFC#16, [0#8, 0#8, 0#8], by decide +kernel, by decide +kernel, by decide +kernel⟩⟩

theorem meets_WindowReadsComplete_1 :
    (∃ (s : State) (p : Path), s.access (pathNo p) 0x3C8 false = 0 ∧ (s.pathSt (pathNo p)).cls = 3 ∧ (s.pathSt (pathNo p)).idx < 63) ∧
    (∃ (s : State) (p : Path), s.access (pathNo p) 0x400 false = 0) ∧
    (∃ (s : State) (p : Path), s.access (pathNo p) 0x264 false = 0) ∧
    (∃ (s : State) (p : Path), s.access (pathNo p) 0x32C false = 0) ∧
    (∃ (s : State) (p : Path), s.access (pathNo p) 0x800 false = 0) :=
  ⟨
   ⟨(s1.modPath 1 fun p => { p with cls := 3, idx := 62 }), .debug, by decide +kernel, by decide +kernel, by decide +kernel⟩,
   ⟨s1, .debug, by decide +kernel⟩,
   ⟨s1, .debug, by decide +kernel⟩,
   ⟨s1, .debug, by decide +kernel⟩,
   ⟨s1, .debug, by decide +kernel⟩⟩

theorem meets_WindowReadsComplete_2 :
    (∃ (s : State) (p : Path), s.access (pathNo p) 0x3C4 false = 0 ∧ (s.pathSt (pathNo p)).cls = 0xA ∧ (s.pathSt (pathNo p)).idx < 4) ∧
    (∃ (s : State) (a : BitVec 16), a.toNat % 4 = 0) ∧
    (∃ (s : State) (p : Path), (s.pathSt (pathNo p)).cls ≠ 3) ∧
    (∃ (s : State) (p : Path), (s.pathSt (pathNo p)).cls ≠ 0xA) ∧
    (∃ (s : State) (p : Path), s.access (pathNo p) 0x400 false = 1) :=
  ⟨
   ⟨(s1.modPath 1 fun p => { p with cls := 10, idx := 3 }), .debug, by decide +kernel, by decide +kernel, by decide +kernel⟩,
   ⟨s1, 0xFFFC#16, by decide +kernel⟩,
   ⟨(s1.modPath 1 fun p => { p with cls := 0, idx := 0 }), .debug, by decide +kernel⟩,
   ⟨(s1.modPath 1 fun p => { p with cls := 0, idx := 0 }), .debug, by decide +kernel⟩,
   ⟨s1, .qspi, by decide +kernel⟩⟩

theorem meets_AccessCodesHold :
    (∃ (s : State) (c i off : Nat) (v : Word) (r : RegRow) (b : Nat), s.Canon ∧ regRow? c off = some r ∧ b < 32) ∧
    (∃ (s : State) (c i off : Nat) (v : Word) (k : Nat), s.Canon ∧ k ≠ regKey c i off) ∧
    (∃ (s : State) (c i off : Nat) (r : RegRow) (b : Nat), s.Canon ∧ regRow? c off = some r ∧ b < 32) ∧
    (∃ (s : State) (c i off k : Nat), s.Canon ∧ k ≠ regKey c i off) :=
  ⟨
   ⟨s1, 0, 0, 0x200, 0#32, (regRow? 0 0x200).get (by decide +kernel), 31, canon_of (by decide +kernel), by decide +kernel,
     by decide +kernel⟩,
   ⟨s1, 0, 0, 0x200, 0#32, 0, canon_of (by decide +kernel), by decide +kernel⟩,
   ⟨s1, 0, 0, 0x200, (regRow? 0 0x200).get (by decide +kernel), 31, canon_of (by decide +kernel), by decide +kernel, by decide +kernel⟩,
   ⟨s1, 0, 0, 0x200, 0, canon_of (by decide +kernel), by decide +kernel⟩⟩

theorem meets_StepRunsTheFrontCommand :
    ∃ s : State, s.pending = [] :=
  ⟨s1, by decide +kernel⟩

theorem meets_EveryStepKeepsTheInvariant :
    ∃ s t : State, s.Inv ∧ step s = .next t :=
  ⟨s1, _, inv_of (by decide +kernel), rfl⟩

theorem meets_EveryCommandAnswers :
    ∃ (i : Instr) (s : State), s.Inv :=
  ⟨.vinPowerOn, s1, inv_of (by decide +kernel)⟩

theorem meets_StewardReactsByTheTable :
    (∃ (s : State) (c : Nat), s.stwState = 2 ∧ s.stw.srs = [] ∧ 0x01 ≤ c ∧ c ≤ 0x09) ∧
    (∃ (s : State) (c : Nat), s.stwState = 2 ∧ s.stw.srs = [] ∧ 0x13 ≤ c ∧ c ≤ 0x17) ∧
    (∃ (s : State) (c : Nat) (b : Bool), s.stwState ≠ 2 ∧ s.stwState ≠ 3 ∧ c ≠ 0x20 ∧ c ≠ 0x21 ∧ (c < 0x20 ∨ c = 0x30)) ∧
    (∃ (s : State) (c : Nat) (b : Bool), (s.stwState = 3 ∨ (s.stwState = 2 ∧ s.stw.srs ≠ [])) ∧ s.isActive = true ∧ s.flag
      F.PAIR_STATUS_PARTNER_READY 0 = true ∧ 0x10 ≤ c ∧ c ≤ 0x18) ∧
    (∃ (s : State) (c : Nat) (b : Bool), (s.stwState = 3 ∨ (s.stwState = 2 ∧ s.stw.srs ≠ [])) ∧ s.isActive = true ∧ s.flag
      F.PAIR_STATUS_PARTNER_READY 0 = true ∧ 1 ≤ c ∧ c ≤ 0x0A) ∧
    (∃ (s : State) (c mask : Nat) (srs cl : Bool), s.Canon ∧ s.reaction c srs = 0 ∧ 1 ≤ c ∧ c < 256) :=
  ⟨
   ⟨(mk [(F.STW_STATUS_STATE, 0, 2)]), 9, by decide +kernel, by decide +kernel, by decide +kernel, by decide +kernel⟩,
   ⟨(mk [(F.STW_STATUS_STATE, 0, 2)]), 0x17, by decide +kernel, by decide +kernel, by decide +kernel, by decide +kernel⟩,
   ⟨s1, 0x1F, true, by decide +kernel, by decide +kernel, by decide +kernel, by decide +kernel, by decide +kernel⟩,
   ⟨(mk [(F.STW_STATUS_STATE, 0, 3), (F.PAIR_STATUS_STATE, 0, 4), (F.PAIR_STATUS_PARTNER_READY, 0, 1)]), 0x18, true, by decide +kernel,
     by decide +kernel, by decide +kernel, by decide +kernel, by decide +kernel⟩,
   ⟨(mk [(F.STW_STATUS_STATE, 0, 3), (F.PAIR_STATUS_STATE, 0, 4), (F.PAIR_STATUS_PARTNER_READY, 0, 1)]), 0x0A, true, by decide +kernel,
     by decide +kernel, by decide +kernel, by decide +kernel, by decide +kernel⟩,
   ⟨s1, 255, 0, false, false, canon_of (by decide +kernel), by decide +kernel, by decide +kernel, by decide +kernel⟩⟩

theorem meets_MailboxAdmissionFollowsItsOrder_1 :
    (∃ (s : State) (m : Nat), s.Inv ∧ m < 8 ∧ (vget s.fcp.boxes m).isOpen = true) ∧
    (∃ (s : State) (m : Nat) (h p : List Byte), s.backPressure m = false ∧ s.credits m = 0) ∧
    (∃ (s : State) (m : Nat) (h p : List Byte), s.backPressure m = false ∧ 1 ≤ s.credits m ∧ headerCrcOk h p = false) ∧
    (∃ (s : State) (m : Nat) (h p : List Byte), s.backPressure m = false ∧ 1 ≤ s.credits m ∧ headerCrcOk h p = true ∧ 1024 < leAt h 4 2) :=
  ⟨
   ⟨s1.box 7 fun b => { b with isOpen := true }, 7, inv_of (by decide +kernel), by decide +kernel, by decide +kernel⟩,
   ⟨s1, 7, [], [], by decide +kernel, by decide +kernel⟩,
   ⟨(s1.box 7 fun b => { b with isOpen := true }), 7, [], [], by decide +kernel, by decide +kernel, by decide +kernel⟩,
   ⟨(s1.box 7 fun b => { b with isOpen := true }), 7, hdrL 127 1025, [], by decide +kernel, by decide +kernel, by decide +kernel,
     by decide +kernel⟩⟩

theorem meets_MailboxAdmissionFollowsItsOrder_2 :
    (∃ (s : State) (m : Nat) (h p : List Byte), s.backPressure m = false ∧ 1 ≤ s.credits m ∧ headerCrcOk h p = true ∧ leAt h 4 2 ≤ 1024 ∧
      (leAt h 2 1 % 128 / 16 ≠ m ∨ s.tagBusy (leAt h 2 1 % 128) = true)) ∧
    (∃ (s : State) (m : Nat) (h p : List Byte), s.backPressure m = false ∧ 1 ≤ s.credits m ∧ headerCrcOk h p = true ∧ leAt h 4 2 ≤ 1024 ∧
      leAt h 2 1 % 128 / 16 = m ∧ s.tagBusy (leAt h 2 1 % 128) = false) ∧
    (∃ (s : State) (mb : Fin 4) (value : Word) (c : Nat), s.Inv ∧ s.access 0 (mbBase mb) true = 0 ∧ value.toNat % 2 = 1 ∧ vget s.fcp.busy
      mb.val = false ∧ s.svpClock = true ∧ c = (if (vget s.fcp.boxes mb.val).isOpen = true then s.admitCode mb (s.mbBytes (mbBase mb +
      0x40) 64) (s.mbBytes (mbBase mb + 0x80) (min 1024 (leAt (s.mbBytes (mbBase mb + 0x40) 64) 4 2))) else 5) ∧ c ≠ 0) ∧
    (∃ (s : State) (e : Entry) (status pnum : Nat) (res pay : List Byte) (m : Nat), s.Inv ∧ s.svpRuns = true ∧ e ∈ s.fcp.inflight ∧ m <
      8) :=
  ⟨
   ⟨(s1.box 7 fun b => { b with isOpen := true }), 7, hdrL 111 0, [], by decide +kernel, by decide +kernel, by decide +kernel,
     by decide +kernel, by decide +kernel⟩,
   ⟨(s1.box 7 fun b => { b with isOpen := true }), 7, hdrL 127 1024, [], by decide +kernel, by decide +kernel, by decide +kernel,
     by decide +kernel, by decide +kernel, by decide +kernel⟩,
   ⟨{ s1 with win := { s1.win with ready := true } }, 3, 1#32, 5, inv_of (by decide +kernel), by decide +kernel, by decide +kernel,
     by decide +kernel, by decide +kernel, rfl, by decide +kernel⟩,
   ⟨inFlight s1 (ent 0x0103 [] []), ent 0x0103 [] [], 0, 0, [], [], 7, inv_of (by decide +kernel), by decide +kernel, by decide +kernel,
     by decide +kernel⟩⟩

theorem meets_EventsAreNumberedAndTheOldestDropped :
    ∃ (s : State) (code unit data : Nat), s.Inv :=
  ⟨{ s1 with evq := { s1.evq with queue := List.replicate 64 default } }, 1, 255, 0, inv_of (by decide +kernel)⟩

theorem meets_ResultStatusReadsLatchOnTheirPath :
    (∃ (s : State) (p : Path) (i : Nat), s.Inv ∧ s.access (pathNo p) 0x3C8 false = 0 ∧ (s.pathSt (pathNo p)).cls = 3 ∧ (s.pathSt (pathNo
      p)).idx = i ∧ i < 63) ∧
    (∃ (s : State) (p : Path) (k : Nat), k < 4 ∧ s.access (pathNo p) (0x3CC + 4 * k) false = 0 ∧ (s.pathSt (pathNo p)).cls = 3 ∧
      (s.pathSt (pathNo p)).idx < 63) ∧
    (∃ (s : State) (p q : Path) (off : Nat), (off ≠ 0x3C8 ∨ p ≠ q)) :=
  ⟨
   ⟨(s1.modPath 1 fun p => { p with cls := 3, idx := 62 }), .debug, 62, inv_of (by decide +kernel), by decide +kernel, by decide +kernel,
     by decide +kernel, by decide +kernel⟩,
   ⟨(s1.modPath 1 fun p => { p with cls := 3, idx := 62 }), .debug, 3, by decide +kernel, by decide +kernel, by decide +kernel,
     by decide +kernel⟩,
   ⟨s1, .debug, .qspi, 0x3C8, by decide +kernel⟩⟩

theorem meets_SafetyPduCopiesAreJudged :
    (∃ (s : State) (net : Fin 2) (r : Fin 4) (b : List Byte), s.hears net r ∧ s.pduValid net r b = false) ∧
    (∃ (s : State) (r : Fin 4) (b : List Byte) (x : List Byte), s.Canon ∧ s.hears 0 r ∧ (s.rx r).copyB = none ∧ s.pduValid 0 r b = true ∧
      (s.rx r).copyA = some x ∧ seqNewer (leAt x 4 4) (leAt b 4 4) = false) ∧
    (∃ (s : State) (r : Fin 4) (b : List Byte), s.Canon ∧ s.hears 1 r ∧ (s.rx r).copyA = none ∧ s.pduValid 1 r b = true ∧ (∀ x, (s.rx
      r).copyB = some x → seqNewer (leAt x 4 4) (leAt b 4 4) = false)) :=
  ⟨
   ⟨(mk [(F.PDU_STAT_EN, 3, 1), (F.MAC_STAT_LINK, 0, 1), (F.MAC_STAT_LINK, 1, 1)]), 1, 3, [], ⟨by decide +kernel, by decide +kernel,
     by decide +kernel⟩, by decide +kernel⟩,
   ⟨((mk [(F.PDU_STAT_EN, 3, 1), (F.MAC_STAT_LINK, 0, 1), (F.MAC_STAT_LINK, 1, 1)]).modRx 3 fun r => { r with copyA := some (pdu 0 4) }),
     3, (pdu 0 5), pdu 0 4, canon_of (by decide +kernel), ⟨by decide +kernel, by decide +kernel, by decide +kernel⟩, by decide +kernel,
     by decide +kernel, by decide +kernel, by decide +kernel⟩,
   ⟨(mk [(F.PDU_STAT_EN, 3, 1), (F.MAC_STAT_LINK, 0, 1), (F.MAC_STAT_LINK, 1, 1)]), 3, (pdu 1 5), canon_of (by decide +kernel),
     ⟨by decide +kernel, by decide +kernel, by decide +kernel⟩, by decide +kernel, by decide +kernel, none_of (by decide +kernel)⟩⟩

theorem meets_PtpProfilesAreRequired :
    (∃ (p : List Byte), leAt p 0 1 / 64 < 3) ∧
    (∃ (s : State) (tag : Fin 128) (e : Entry), s.Serves 0x0B04 tag e ∧ ptpProfile e.payload = false) :=
  ⟨
   ⟨by8 [0x80], by decide +kernel⟩,
   ⟨inFlight s1 (ent 0x0B04 [] (List.replicate 32 0x10#8)), 0, (ent 0x0B04 [] (List.replicate 32 0x10#8)), serves_of (by decide +kernel)
     (by decide +kernel) (by decide +kernel), by decide +kernel⟩⟩

theorem meets_TimersAndCountersHoldTheirLimits_1 :
    (∃ (pt et dt : Nat) (last fell inp : Bool), et ≤ pt) ∧
    (∃ (pt et dt : Nat) (last fell : Bool), et ≤ pt) ∧
    (∃ (pt et dt : Nat) (last fell : Bool), et ≤ pt ∧ (last = true ∨ fell = true ∨ 0 < et)) ∧
    (∃ (pt dt : Nat) (fell : Bool), 0 < pt) :=
  ⟨
   ⟨10, 10, 1, true, false, true, by decide +kernel⟩,
   ⟨10, 10, 1, true, false, by decide +kernel⟩,
   ⟨10, 10, 1, true, true, by decide +kernel, by decide +kernel⟩,
   ⟨1, 0, false, by decide +kernel⟩⟩

theorem meets_TimersAndCountersHoldTheirLimits_2 :
    (∃ (pt et dt : Nat) (last fell inp : Bool), 0 < et ∧ et < pt) ∧
    (∃ (s u : State) (w : BitVec 24), u = s.modHlp (fun h => { h with pc := h.pc + 1 }) ∧ s.fetches 0x18 w.toNat = true) ∧
    (∃ (s u : State) (w : BitVec 24), u = s.modHlp (fun h => { h with pc := h.pc + 1 }) ∧ s.fetches 0x19 w.toNat = true) ∧
    (∃ (s u : State) (w : BitVec 24), u = s.modHlp (fun h => { h with pc := h.pc + 1 }) ∧ s.fetches 0x1A w.toNat = true) :=
  ⟨
   ⟨10, 9, 1, true, false, false, by decide +kernel, by decide +kernel⟩,
   ⟨(fetching 0x18 0xFFFFFF), _, 0xFFFFFF#24, rfl, by decide +kernel⟩,
   ⟨(fetching 0x19 0xFFFFFF), _, 0xFFFFFF#24, rfl, by decide +kernel⟩,
   ⟨(fetching 0x1A 0xFFFFFF), _, 0xFFFFFF#24, rfl, by decide +kernel⟩⟩

theorem meets_ReferenceAngleIsExact :
    (∃ (fn w : F32) (sec ns frac : Nat), ns < 1000000000 ∧ frac < 65536) ∧
    (∃ (fn w : F32) (sec sec' ns : Nat), ns < 1000000000 ∧ turnRate fn w % 2 ^ 32 = 0) :=
  ⟨
   ⟨0x42480000#32, 0x3F800000#32, 1, 999999999, 65535, by decide +kernel, by decide +kernel⟩,
   ⟨0x42480000#32, 0x3F800000#32, 1, 2, 999999999, by decide +kernel, by decide +kernel⟩⟩

end Sys2Proof.Tests
end

section
/-!
PROOFS. The result latch of RES_STAT (R118): what an access path holds after an operation, what the words of a context's RAM read after
one of its fields is written, what a read through the window latches and clears, and the statement on reads of RES_STAT.
-/
namespace Sys2Proof.Machine

/-! ### What an access path holds of its own (R502) -/

namespace State

variable (s : State)

@[simp] theorem pathSt_modPath_same (p : Nat) (f : PathSt → PathSt) : (s.modPath p f).pathSt p = f (s.pathSt p) := by
  unfold pathSt modPath
  split_ifs <;> rfl

/-- The two host paths hold their state apart. -/
theorem pathSt_modPath_other {p q : Path} (h : q ≠ p) (f : PathSt → PathSt) :
    (s.modPath (pathNo p) f).pathSt (pathNo q) = s.pathSt (pathNo q) := by
  match p, q, h with
  | .qspi, .debug, _ | .debug, .qspi, _ => rfl
  | .qspi, .qspi, h | .debug, .debug, h => exact absurd rfl h

/-- A change of one path that keeps the result latch keeps it on every path. -/
theorem res_modPath (p q : Nat) {f : PathSt → PathSt} (hf : ∀ x, (f x).res = x.res) :
    ((s.modPath p f).pathSt q).res = (s.pathSt q).res := by
  unfold pathSt modPath
  split_ifs <;> simp [hf]

@[simp] theorem pathSt_setCf (f : Fld) (i v q : Nat) : (s.setCf f i v).pathSt q = s.pathSt q := rfl

@[simp] theorem pathSt_count (f : Fld) (i q : Nat) : (s.count f i).pathSt q = s.pathSt q := rfl

/-- A read's RC fields stand in the register file, so the paths' state and the context RAM stay. -/
theorem readClear_win_cle (c i off : Nat) : (s.readClear c i off).win = s.win ∧ (s.readClear c i off).cle = s.cle := by
  unfold readClear
  split
  · split <;> exact ⟨rfl, rfl⟩
  · exact ⟨rfl, rfl⟩

@[simp] theorem pathSt_readClear (c i off q : Nat) : (s.readClear c i off).pathSt q = s.pathSt q := by
  unfold pathSt
  rw [(s.readClear_win_cle c i off).1]

@[simp] theorem cword_readClear (c i off j w : Nat) : (s.readClear c i off).cword j w = s.cword j w := by
  unfold cword
  rw [(s.readClear_win_cle c i off).2]

@[simp] theorem cword_modPath (p : Nat) (f : PathSt → PathSt) (j w : Nat) : (s.modPath p f).cword j w = s.cword j w := rfl

/-! ### Context RAM after a field of it is written -/

variable {s}

theorem cword_setCf_same (hw : Memory.wf ctxDflt s.cle.ram = true) (f : Fld) (i v : Nat) :
    (s.setCf f i v).cword i (ctxRegWord f.off) = putField (s.cword i (ctxRegWord f.off)) f.hi f.lo v :=
  Memory.get_set_same ctxDflt _ _ _ hw

theorem cword_setCf_other (hw : Memory.wf ctxDflt s.cle.ram = true) (f : Fld) (i v j w : Nat)
    (h : 64 * j + w ≠ 64 * i + ctxRegWord f.off) : (s.setCf f i v).cword j w = s.cword j w :=
  Memory.get_set_other ctxDflt _ _ _ _ hw h

theorem cf_setCf_same (hw : Memory.wf ctxDflt s.cle.ram = true) (f : Fld) (i v : Nat) (hf : f.lo ≤ f.hi) (h32 : f.hi < 32) :
    (s.setCf f i v).cf f i = v % 2 ^ (f.hi + 1 - f.lo) := by
  unfold cf
  rw [cword_setCf_same hw, fieldOf_putField _ _ _ _ hf h32]

/-! ### Reads through the window -/

/-- A read that is taken returns what the path shows and acts on the unit that the offset addresses. Offset 0x400 is left out: a read
there first renews the path's view of the snapshot (R512). -/
theorem hostRead_taken {p off : Nat} (ha : s.access p off false = 0) (hoff : off ≠ 0x400) :
    s.hostRead p off = (s.peek p off, (s.readLatch p (s.unitAt p off).1 (s.unitAt p off).2 off true).readClear
      (s.unitAt p off).1 (s.unitAt p off).2 off) := by
  unfold hostRead
  simp only [ha, if_neg hoff]

/-- A selected context answers in the window's selected part (R118, R505). -/
theorem peek_unitAt_of_context {p off : Nat} (hc : (s.pathSt p).cls = 3) (hi : (s.pathSt p).idx < 63) (hlo : 0x3C0 ≤ off)
    (hhi : off < 0x400) :
    s.peek p off = s.regView (s.pathSt p) 3 (s.pathSt p).idx off ∧ s.unitAt p off = (3, (s.pathSt p).idx) := by
  have hv : (s.pathSt p).valid = true := by
    unfold PathSt.valid
    rw [hc]
    exact decide_eq_true hi
  have hram : ¬ 0x1000 ≤ off := by omega
  unfold peek unitAt
  simp [hv, hlo, hhi, hram, hc]

/-- Only a read of a context's RES_STAT fills a result latch, and only that of its own path (R118). -/
theorem res_readLatch (s : State) (p q : Path) (c i off : Nat) (count : Bool) (h : off ≠ 0x3C8 ∨ p ≠ q) :
    ((s.readLatch (pathNo p) c i off count).pathSt (pathNo q)).res = (s.pathSt (pathNo q)).res := by
  unfold readLatch
  split
  case h_5 =>
    have hq : q ≠ p := (h.resolve_left fun hne => hne rfl).symm
    split <;> simp [pathSt_modPath_other _ hq]
  case h_6 => rfl
  all_goals exact res_modPath _ _ _ fun _ => rfl

/-- A read of another register, or through another path, keeps a path's result latch. -/
theorem res_hostRead (s : State) (p q : Path) (off : Nat) (h : off ≠ 0x3C8 ∨ p ≠ q) :
    ((s.hostRead (pathNo p) off).2.pathSt (pathNo q)).res = (s.pathSt (pathNo q)).res := by
  unfold hostRead
  split
  · simp only [pathSt_readClear]
    rw [res_readLatch _ p q _ _ _ _ h]
    split
    · exact res_modPath _ _ _ fun _ => rfl
    · rfl
  · rfl
  · simp

/-- A write of WSEL keeps the result latches. -/
theorem res_hostWrite_wsel (s : State) (p q : Nat) (v : Word) :
    ((s.hostWrite p 0x100 v).pathSt q).res = (s.pathSt q).res := by
  unfold hostWrite guarded
  rw [if_neg (by decide)]
  split
  · exact res_modPath _ _ _ fun _ => rfl
  · rfl
  · simp

/-! ### A read of RES_STAT (R118) -/

/-- The state once path p has latched the results of context i and the read has been counted. -/
def resLatched (s : State) (p i : Nat) : State :=
  (s.modPath p fun q => { q with res := [s.cword i 49, s.cword i 50, s.cword i 51, s.cword i 52] }).setCf F.RES_STAT_RDCNT i
    (satAdd (s.cf F.RES_STAT_RDCNT i) 1 3)

theorem readLatch_resStat (s : State) (p i : Nat) : s.readLatch p 3 i 0x3C8 true = s.resLatched p i := rfl

theorem hostRead_resStat {p : Nat} (ha : s.access p 0x3C8 false = 0) (hc : (s.pathSt p).cls = 3) (hi : (s.pathSt p).idx < 63) :
    s.hostRead p 0x3C8 =
      (s.cword (s.pathSt p).idx 48, (s.resLatched p (s.pathSt p).idx).readClear 3 (s.pathSt p).idx 0x3C8) := by
  obtain ⟨hpeek, hunit⟩ := peek_unitAt_of_context hc hi (off := 0x3C8) (by omega) (by omega)
  rw [hostRead_taken ha (by omega), hunit, hpeek, readLatch_resStat]
  rfl

/-- A result register shows the latch of its path. -/
theorem hostRead_result {p k : Nat} (hk : k < 4) (ha : s.access p (0x3CC + 4 * k) false = 0) (hc : (s.pathSt p).cls = 3)
    (hi : (s.pathSt p).idx < 63) : (s.hostRead p (0x3CC + 4 * k)).1 = (s.pathSt p).res.getD k 0 := by
  obtain ⟨hpeek, -⟩ := peek_unitAt_of_context hc hi (off := 0x3CC + 4 * k) (by omega) (by omega)
  rw [hostRead_taken ha (by omega), hpeek]
  match k, hk with
  | 0, _ | 1, _ | 2, _ | 3, _ => rfl

theorem resLatched_path (s : State) (p i : Nat) :
    (s.resLatched p i).pathSt p = { s.pathSt p with res := [s.cword i 49, s.cword i 50, s.cword i 51, s.cword i 52] } := by
  simp [resLatched]

theorem resLatched_path_other (s : State) {p q : Path} (h : q ≠ p) (i : Nat) :
    (s.resLatched (pathNo p) i).pathSt (pathNo q) = s.pathSt (pathNo q) := by
  simp [resLatched, pathSt_modPath_other s h]

/-- RDCNT counts reads up to 3. -/
theorem resLatched_rdcnt (hw : Memory.wf ctxDflt s.cle.ram = true) (p i : Nat) :
    (s.resLatched p i).cf F.RES_STAT_RDCNT i = min 3 (s.cf F.RES_STAT_RDCNT i + 1) := by
  have hcount : satAdd (s.cf F.RES_STAT_RDCNT i) 1 3 = min 3 (s.cf F.RES_STAT_RDCNT i + 1) := by
    unfold satAdd
    split <;> omega
  rw [resLatched, cf_setCf_same (by exact hw) _ _ _ (by decide) (by decide), hcount]
  exact Nat.mod_eq_of_lt (Nat.lt_of_le_of_lt (Nat.min_le_left _ _) (by decide))

/-- Of the context RAM only the word of RES_STAT changes. -/
theorem resLatched_cword (hw : Memory.wf ctxDflt s.cle.ram = true) (p i j w : Nat) (h : 64 * j + w ≠ 64 * i + 48) :
    (s.resLatched p i).cword j w = s.cword j w := by
  rw [resLatched, cword_setCf_other (by exact hw) _ _ _ _ _ h, cword_modPath]

end State

theorem exec_resStatRead {s : State} {p : Path} (hc : (s.pathSt (pathNo p)).cls = 3) :
    exec (.resStatRead p) s = .next (s.readRow (pathNo p) 0x3C8) :=
  congrArg Host.Outcome.next (if_pos hc)

theorem exec_wselWrite (s : State) (p : Path) (v : Word) : exec (.wselWrite p v) s = .next (s.hostWrite (pathNo p) 0x100 v) := rfl

/-- RES_STAT_READ through a path that has selected a context (R118): the word it returns, the results it latches, the count, and what
it leaves as it was. -/
theorem readRow_resStat {s : State} {p : Path} {i : Nat} (hinv : s.Inv) (ha : s.access (pathNo p) 0x3C8 false = 0)
    (hc : (s.pathSt (pathNo p)).cls = 3) (hidx : (s.pathSt (pathNo p)).idx = i) (hi : i < 63) :
    let t := s.readRow (pathNo p) 0x3C8
    t.pathSt (pathNo p) = { s.pathSt (pathNo p) with
        res := [s.cword i 49, s.cword i 50, s.cword i 51, s.cword i 52], last := [s.cword i 48] } ∧
      t.cf F.RES_STAT_RDCNT i = min 3 (s.cf F.RES_STAT_RDCNT i + 1) ∧
      (∀ j w, 64 * j + w ≠ 64 * i + 48 → t.cword j w = s.cword j w) ∧
      ∀ q, q ≠ p → t.pathSt (pathNo q) = s.pathSt (pathNo q) := by
  obtain ⟨hram, -⟩ := hinv.stores
  subst hidx
  have ht : s.readRow (pathNo p) 0x3C8 =
      ((s.resLatched (pathNo p) (s.pathSt (pathNo p)).idx).readClear 3 (s.pathSt (pathNo p)).idx 0x3C8).modPath (pathNo p)
        fun q => { q with last := [s.cword (s.pathSt (pathNo p)).idx 48] } := by
    unfold State.readRow
    rw [State.hostRead_resStat ha hc hi]
  rw [ht]
  refine ⟨?_, ?_, fun j w h => ?_, fun q hq => ?_⟩
  · rw [State.pathSt_modPath_same, State.pathSt_readClear, State.resLatched_path]
  · rw [← State.resLatched_rdcnt hram (pathNo p)]
    simp [State.cf]
  · simp [State.resLatched_cword hram _ _ _ _ h]
  · simp [State.pathSt_modPath_other _ hq, State.resLatched_path_other s hq]

/-- Settles O56: by what RES_STAT_READ leaves on its path and in the context RAM (`readRow_resStat`), by the result registers, which show
the path's latch, and by a case split of `readLatch`, of whose reads this one alone writes a result latch. -/
theorem resultStatusReadsLatchOnTheirPath : Obligations.ResultStatusReadsLatchOnTheirPath := by
  unfold Obligations.ResultStatusReadsLatchOnTheirPath
  refine ⟨fun s p i hinv ha hc hidx hi => ?_, fun s p k hk ha hc hi => State.hostRead_result hk ha hc hi, State.res_hostRead,
    fun s p q v => ⟨_, exec_wselWrite s p v, State.res_hostWrite_wsel s _ _ v⟩, fun p => ?_⟩
  · obtain ⟨hpath, hcount, hwords, hother⟩ := readRow_resStat hinv ha hc hidx hi
    refine ⟨_, _, exec_resStatRead hc, by rw [hpath], rfl, rfl, hcount, fun k hk => ?_, fun j _ hji k hk => hwords j k (by omega),
      fun k hk hk48 => hwords i k (by omega), hother⟩
    rw [hpath]
    match k, hk with
    | 0, _ | 1, _ | 2, _ | 3, _ => rfl
  · cases p <;> rfl

end Sys2Proof.Machine
end

section
/-!
PROOFS. The profiles of PTP_CFG (R434): what each profile asks of a payload, what a command leaves that Fencen refuses by a status alone,
and the statement on the profiles.
-/
namespace Sys2Proof.Machine

/-! ### What each profile asks of a payload (Table 15.6, byte 0) -/

section
variable {p : List Byte}

theorem ptpProfile_delayRequest (h : leAt p 0 1 / 64 = 0) : ptpProfile p = true ↔ bitOf (leAt p 0 1) 4 = false := by
  unfold ptpProfile
  simp [h]

theorem ptpProfile_peerToPeer (h : leAt p 0 1 / 64 = 1) : ptpProfile p = true ↔ bitOf (leAt p 0 1) 4 = true := by
  unfold ptpProfile
  simp [h]

theorem ptpProfile_powerUtility (h : leAt p 0 1 / 64 = 2) :
    ptpProfile p = true ↔ leAt p 2 1 = 0 ∧ bitOf (leAt p 0 1) 4 = true ∧ bitOf (leAt p 0 1) 5 = false ∧ leAt p 10 1 = 0 ∧
      leAt p 11 1 = 0 ∧ leAt p 12 1 = 0 ∧ leAt p 13 1 = 3 := by
  unfold ptpProfile
  simp only [h, Bool.and_eq_true, beq_iff_eq, Bool.not_eq_true']
  tauto

end

/-! ### A command refused by a status alone (R375) -/

section
variable {s : State}

theorem State.done_only (tag status : Nat) : s.Only (s.done tag status) [.fcp, .macs] :=
  Within.only (State.done_in (Within.refl _ s) (by unfold Sub; decide) tag status)

theorem State.Serves.done_answered {op : Nat} {tag : Fin 128} {e : Entry} (h : s.Serves op tag e) {status : Nat} (hs : status < 65536) :
    (s.done e.tag status).Answered tag status [] [] := by
  obtain ⟨hinv, hready, -⟩ := h
  obtain ⟨hruns, -, htag, -, -⟩ := ready_found hready
  rw [htag]
  exact State.complete_answered hinv hready rfl hruns status 0 [] [] hs

end

/-! ### PTP_CFG -/

theorem State.ptpOk_eq_false_of_profile {s : State} {p : List Byte} (h : ptpProfile p = false) : s.ptpOk p = false := by
  simp [State.ptpOk, h]

/-- PTP_CFG refuses a payload that R433 does not accept. -/
theorem execPtpCfg_refused {s : State} {tag : Fin 128} {e : Entry} (hserves : s.Serves 0x0B04 tag e) (h : s.ptpOk e.payload = false) :
    execPtpCfg tag s = .next (s.done e.tag FS.FS_PARAM) := by
  unfold execPtpCfg
  rw [serve_eq hserves]
  simp [h]

/-- Settles O58: by a case split on PROFILE, each of whose values has its own requirement; a payload that misses it is not one that R433
accepts, so the command is answered with FS_PARAM and touches the mailbox's parts alone. -/
theorem ptpProfilesAreRequired : Obligations.PtpProfilesAreRequired := by
  unfold Obligations.PtpProfilesAreRequired
  refine ⟨fun p hp => ?_, fun s tag e hserves hprofile => ?_⟩
  · obtain h | h | h : leAt p 0 1 / 64 = 0 ∨ leAt p 0 1 / 64 = 1 ∨ leAt p 0 1 / 64 = 2 := by omega
    · rw [ptpProfile_delayRequest h]
      simp [h]
    · rw [ptpProfile_peerToPeer h]
      simp [h]
    · rw [ptpProfile_powerUtility h]
      simp [h]
  · exact ⟨_, execPtpCfg_refused hserves (State.ptpOk_eq_false_of_profile hprofile), hserves.done_answered (by decide),
      State.done_regs .., State.done_only _ _⟩

end Sys2Proof.Machine
end

section
/-!
PROOFS. Every command (the statements on all of them): each keeps the invariant and the queue's rest, and leaves every part outside its
reach as it was; what one step does, and what the state after reset holds.
-/
namespace Sys2Proof.Machine

variable {q : List Instr} {s : State}

/-- Every command keeps the invariant and the queue of waiting commands, one case for each meaning. -/
theorem exec_ok (h : Ok q s) (i : Instr) : Good q (exec i s) := match i with
  | .vinPowerOn => execVinPowerOn_ok h
  | .vinBrownOut => execVinBrownOut_ok h
  | .rstNPin => execRstNPin_ok h
  | .debugResetRequest what => execDebugResetRequest_ok h what
  | .resetRelease strap => execResetRelease_ok h strap
  | .forcedRelease block => execForcedRelease_ok h block
  | .blockReset src block => execBlockReset_ok h src block
  | .blockIdleTimeout src block => execBlockIdleTimeout_ok h src block
  | .bootStepComplete selfTest => execBootStepComplete_ok h selfTest
  | .supervisorWatchdogExpiry => execSupervisorWatchdogExpiry_ok h
  | .supervisorRestartReopen => execSupervisorRestartReopen_ok h
  | .memoryError site => execMemoryError_ok h site
  | .deferredSystemReset => execDeferredSystemReset_ok h
  | .refclkLoss => execRefclkLoss_ok h
  | .refclkRestored => execRefclkRestored_ok h
  | .pllLossOfLock p => execPllLossOfLock_ok h p
  | .pllLock p => execPllLock_ok h p
  | .pllHopTimeout p => execPllHopTimeout_ok h p
  | .bandSearchComplete p band temp => execBandSearchComplete_ok h p band temp
  | .bandSearchRetry p temp => execBandSearchRetry_ok h p temp
  | .clkOkChange dom ok => execClkOkChange_ok h dom ok
  | .dllTapUpdate tap errPs => execDllTapUpdate_ok h tap errPs
  | .pairclkOkChange ok => execPairclkOkChange_ok h ok
  | .syncInEdge refPhase => execSyncInEdge_ok h refPhase
  | .wakeSource src => execWakeSource_ok h src
  | .wakeComplete => execWakeComplete_ok h
  | .wakeFail => execWakeFail_ok h
  | .gaitChangeEffect => execGaitChangeEffect_ok h
  | .gaitThermal temp => execGaitThermal_ok h temp
  | .rg0Boundary => execRg0Boundary_ok h
  | .snapshotComplete => execSnapshotComplete_ok h
  | .rg0PhaseStart phase => execRg0PhaseStart_ok h phase
  | .rateGroupInstanceRun rg => execRateGroupInstanceRun_ok h rg
  | .traceCopyComplete ch => execTraceCopyComplete_ok h ch
  | .cleDeadlineMiss ports => execCleDeadlineMiss_ok h ports
  | .rgInstanceOverrun rg => execRgInstanceOverrun_ok h rg
  | .followingErrorExpiry ctx => execFollowingErrorExpiry_ok h ctx
  | .followingErrorClear ctx => execFollowingErrorClear_ok h ctx
  | .dlCalibration equal => execDlCalibration_ok h equal
  | .carrierEvent leg => execCarrierEvent_ok h leg
  | .comparatorCrossing ain e => execComparatorCrossing_ok h ain e
  | .tripPinActive pin => execTripPinActive_ok h pin
  | .tripGroupTrip grp => execTripGroupTrip_ok h grp
  | .blankingClose wt => execBlankingClose_ok h wt
  | .debugHalt cpu => execDebugHalt_ok h cpu
  | .debugResume cpu => execDebugResume_ok h cpu
  | .extest pins => execExtest_ok h pins
  | .holdEdge core entry nv => execHoldEdge_ok h core entry nv
  | .conversionComplete core nv => execConversionComplete_ok h core nv
  | .urgentHoldEdge core nv => execUrgentHoldEdge_ok h core nv
  | .refFault => execRefFault_ok h
  | .refFaultClear => execRefFaultClear_ok h
  | .offsetCalibrationDone => execOffsetCalibrationDone_ok h
  | .sdClockLoss grp => execSdClockLoss_ok h grp
  | .sdClockFreq grp => execSdClockFreq_ok h grp
  | .sdClockClear grp => execSdClockClear_ok h grp
  | .decimatedOutput inp bits => execDecimatedOutput_ok h inp bits
  | .sdsyncAccept => execSdsyncAccept_ok h
  | .resampleDelivery inp => execResampleDelivery_ok h inp
  | .profileTileRewrite prof => execProfileTileRewrite_ok h prof
  | .obsUpdate port => execObsUpdate_ok h port
  | .tCloseExpiry port => execTCloseExpiry_ok h port
  | .presyncTimeout port => execPresyncTimeout_ok h port
  | .presyncWindowEnd port => execPresyncWindowEnd_ok h port
  | .blackstartRampComplete port => execBlackstartRampComplete_ok h port
  | .blackstartTrackFault port high => execBlackstartTrackFault_ok h port high
  | .bkrFbSeen port => execBkrFbSeen_ok h port
  | .envelopeRunLimit port => execEnvelopeRunLimit_ok h port
  | .curlimExitStart port => execCurlimExitStart_ok h port
  | .curlimRampComplete port => execCurlimRampComplete_ok h port
  | .curlimTimeout port => execCurlimTimeout_ok h port
  | .pullWindowEnd port => execPullWindowEnd_ok h port
  | .dcRangeFault port => execDcRangeFault_ok h port
  | .stopRampComplete port => execStopRampComplete_ok h port
  | .srsRampComplete port => execSrsRampComplete_ok h port
  | .setpointTakesEffect tag => execSetpointTakesEffect_ok h tag
  | .commitTakesEffect => execCommitTakesEffect_ok h
  | .presetTakesEffect tag => execPresetTakesEffect_ok h tag
  | .rateChangeEffect => execRateChangeEffect_ok h
  | .swapVerifyComplete => execSwapVerifyComplete_ok h
  | .swapTakesEffect => execSwapTakesEffect_ok h
  | .scrubTileCheck store tile upset => execScrubTileCheck_ok h store tile upset
  | .configTileRewrite tile => execConfigTileRewrite_ok h tile
  | .hlpTileRewrite tile => execHlpTileRewrite_ok h tile
  | .frameSlotOpen lane => execFrameSlotOpen_ok h lane
  | .pingSend lane => execPingSend_ok h lane
  | .echoReceived lane seq rtt => execEchoReceived_ok h lane seq rtt
  | .echoLost lane => execEchoLost_ok h lane
  | .paramSend lane addr => execParamSend_ok h lane addr
  | .statusFrameReceived lane bytes => execStatusFrameReceived_ok h lane bytes
  | .alertReceived lane mask check => execAlertReceived_ok h lane mask check
  | .losChange lane on => execLosChange_ok h lane on
  | .lolChange lane on => execLolChange_ok h lane on
  | .commaReceived lane pos => execCommaReceived_ok h lane pos
  | .alignmentLoss lane => execAlignmentLoss_ok h lane
  | .laneStateChange lane => execLaneStateChange_ok h lane
  | .laneStatusTimeout lane => execLaneStatusTimeout_ok h lane
  | .laneLostTimeout lane => execLaneLostTimeout_ok h lane
  | .gdenReadbackSample pins => execGdenReadbackSample_ok h pins
  | .gdenLowEnd lane => execGdenLowEnd_ok h lane
  | .gdClearStatusWaitEnd lane => execGdClearStatusWaitEnd_ok h lane
  | .partnerActChange level => execPartnerActChange_ok h level
  | .actOutReadbackMismatch on => execActOutReadbackMismatch_ok h on
  | .missingRg0Boundary => execMissingRg0Boundary_ok h
  | .sgrInChange level => execSgrInChange_ok h level
  | .remoteSgrEnd => execRemoteSgrEnd_ok h
  | .takeover => execTakeover_ok h
  | .handoverRelease => execHandoverRelease_ok h
  | .scheduledPairChange => execScheduledPairChange_ok h
  | .standbyGdenDrop => execStandbyGdenDrop_ok h
  | .mirrorRecordSend => execMirrorRecordSend_ok h
  | .mirrorBlockReceived lane bytes sof => execMirrorBlockReceived_ok h lane bytes sof
  | .mirrorRecordApply rec => execMirrorRecordApply_ok h rec
  | .creditReceived lane n check => execCreditReceived_ok h lane n check
  | .standbyStatusSend => execStandbyStatusSend_ok h
  | .standbyStatusReceived st => execStandbyStatusReceived_ok h st
  | .helloReceived lane hello => execHelloReceived_ok h lane hello
  | .mirrorLaneLost lane => execMirrorLaneLost_ok h lane
  | .gdenPulseTest pins => execGdenPulseTest_ok h pins
  | .sdinDemand ch => execSdinDemand_ok h ch
  | .sdinDiscrepancy pair => execSdinDiscrepancy_ok h pair
  | .testPulseSlot tp => execTestPulseSlot_ok h tp
  | .testPulseCheck tp after low => execTestPulseCheck_ok h tp after low
  | .safetyDiDemand di => execSafetyDiDemand_ok h di
  | .outputOffPulse out ending pins => execOutputOffPulse_ok h out ending pins
  | .pduCopyReceived net conn bytes => execPduCopyReceived_ok h net conn bytes
  | .pduWatchdogExpiry conn net => execPduWatchdogExpiry_ok h conn net
  | .pduSend conn => execPduSend_ok h conn
  | .monitorAdcWindow ch on => execMonitorAdcWindow_ok h ch on
  | .monitorCrossCheck ch on => execMonitorCrossCheck_ok h ch on
  | .junctionOvertemp on => execJunctionOvertemp_ok h on
  | .clockCrossCheck on => execClockCrossCheck_ok h on
  | .islandSupplyFault => execIslandSupplyFault_ok h
  | .lockstepMismatch => execLockstepMismatch_ok h
  | .consecutiveMissLimit => execConsecutiveMissLimit_ok h
  | .timebaseWatchExpiry => execTimebaseWatchExpiry_ok h
  | .offPathReadbackFault on => execOffPathReadbackFault_ok h on
  | .srsRequest => execSrsRequest_ok h
  | .srsTimeLimit port => execSrsTimeLimit_ok h port
  | .sgrComplete => execSgrComplete_ok h
  | .sgrReadbackTimeout unconfirmed => execSgrReadbackTimeout_ok h unconfirmed
  | .hlpCycleStart => execHlpCycleStart_ok h
  | .hlpExecutionEnd execUs => execHlpExecutionEnd_ok h execUs
  | .hlpOverrun => execHlpOverrun_ok h
  | .hlpHardLimit => execHlpHardLimit_ok h
  | .hlpInitLimit => execHlpInitLimit_ok h
  | .hlpFetchParity => execHlpFetchParity_ok h
  | .hlpNop => execHlpNop_ok h
  | .hlpLd b => execHlpLd_ok h b
  | .hlpLdn b => execHlpLdn_ok h b
  | .hlpAnd b => execHlpAnd_ok h b
  | .hlpAndn b => execHlpAndn_ok h b
  | .hlpOr b => execHlpOr_ok h b
  | .hlpOrn b => execHlpOrn_ok h b
  | .hlpXor b => execHlpXor_ok h b
  | .hlpPush => execHlpPush_ok h
  | .hlpAndp => execHlpAndp_ok h
  | .hlpOrp => execHlpOrp_ok h
  | .hlpNot => execHlpNot_ok h
  | .hlpEdge b => execHlpEdge_ok h b
  | .hlpSt b => execHlpSt_ok h b
  | .hlpStn b => execHlpStn_ok h b
  | .hlpSet b => execHlpSet_ok h b
  | .hlpRst b => execHlpRst_ok h b
  | .hlpTon w => execHlpTon_ok h w
  | .hlpTof w => execHlpTof_ok h w
  | .hlpTp w => execHlpTp_ok h w
  | .hlpCtu w => execHlpCtu_ok h w
  | .hlpCtd w => execHlpCtd_ok h w
  | .hlpCrs w => execHlpCrs_ok h w
  | .hlpLw w => execHlpLw_ok h w
  | .hlpLk k => execHlpLk_ok h k
  | .hlpSw w => execHlpSw_ok h w
  | .hlpMov w => execHlpMov_ok h w
  | .hlpAdd w => execHlpAdd_ok h w
  | .hlpSub w => execHlpSub_ok h w
  | .hlpCeq w => execHlpCeq_ok h w
  | .hlpCne w => execHlpCne_ok h w
  | .hlpClt w => execHlpClt_ok h w
  | .hlpCle w => execHlpCle_ok h w
  | .hlpCgt w => execHlpCgt_ok h w
  | .hlpCge w => execHlpCge_ok h w
  | .hlpFlt w => execHlpFlt_ok h w
  | .hlpFgt w => execHlpFgt_ok h w
  | .hlpJmp dest => execHlpJmp_ok h dest
  | .hlpJc dest => execHlpJc_ok h dest
  | .hlpJnc dest => execHlpJnc_ok h dest
  | .hlpEnd => execHlpEnd_ok h
  | .hlpAdcr req => execHlpAdcr_ok h req
  | .remoteFrameReceived rm bytes => execRemoteFrameReceived_ok h rm bytes
  | .remoteTimeout rm => execRemoteTimeout_ok h rm
  | .remoteOutputSend rm => execRemoteOutputSend_ok h rm
  | .diSample mv => execDiSample_ok h mv
  | .doOverload out => execDoOverload_ok h out
  | .bankRefresh pins => execBankRefresh_ok h pins
  | .silenceTimeout => execSilenceTimeout_ok h
  | .vfieldUvChange on => execVfieldUvChange_ok h on
  | .vfieldOvChange on => execVfieldOvChange_ok h on
  | .tpOverload tp => execTpOverload_ok h tp
  | .qspiRead addr count => execQspiRead_ok h addr count
  | .qspiWrite addr bytes => execQspiWrite_ok h addr bytes
  | .qspiStatus => execQspiStatus_ok h
  | .mbDoorbell mb value => execMbDoorbell_ok h mb value
  | .mbCplHeadWrite mb value => execMbCplHeadWrite_ok h mb value
  | .cmd mb bytes => execCmd_ok h mb bytes
  | .cplAck mb bytes => execCplAck_ok h mb bytes
  | .probe mb => execProbe_ok h mb
  | .cplResend tag => execCplResend_ok h tag
  | .canSegment can fd bytes => execCanSegment_ok h can fd bytes
  | .canSegmentGap can => execCanSegmentGap_ok h can
  | .ethernetFrameReceived mac f => execEthernetFrameReceived_ok h mac f
  | .scheduledLaunch mac ptp => execScheduledLaunch_ok h mac ptp
  | .linkChange mac up speed => execLinkChange_ok h mac up speed
  | .txTimestamp mac id type oneStep => execTxTimestamp_ok h mac id type oneStep
  | .timestampDrain mac => execTimestampDrain_ok h mac
  | .ptpServoUpdate => execPtpServoUpdate_ok h
  | .holdMaxExpiry => execHoldMaxExpiry_ok h
  | .datagramClose => execDatagramClose_ok h
  | .flushComplete => execFlushComplete_ok h
  | .flushTimeout => execFlushTimeout_ok h
  | .eventDrain => execEventDrain_ok h
  | .islandRecordWrite => execIslandRecordWrite_ok h
  | .attReportBuilt => execAttReportBuilt_ok h
  | .spurSessionStart => execSpurSessionStart_ok h
  | .spurSessionStop => execSpurSessionStop_ok h
  | .adcUrgWrite path value => execAdcUrgWrite_ok h path value
  | .pwmCommitWrite path value => execPwmCommitWrite_ok h path value
  | .cmpStaticWrite path value => execCmpStaticWrite_ok h path value
  | .crossfireClear path value => execCrossfireClear_ok h path value
  | .trippedClear path value => execTrippedClear_ok h path value
  | .dlCtrlWrite path value => execDlCtrlWrite_ok h path value
  | .laneSlipWrite path value => execLaneSlipWrite_ok h path value
  | .wselWrite path value => execWselWrite_ok h path value
  | .resStatRead path => execResStatRead_ok h path
  | .snapPnumLoRead path => execSnapPnumLoRead_ok h path
  | .obsBinSelWrite path value => execObsBinSelWrite_ok h path value
  | .highWordLatchRead path which => execHighWordLatchRead_ok h path which
  | .spurCtrlWrite path value => execSpurCtrlWrite_ok h path value
  | .spurInjGo path value => execSpurInjGo_ok h path value
  | .registerWrite path addr value => execRegisterWrite_ok h path addr value
  | .cfgStage tag => execCfgStage_ok h tag
  | .cfgCommit tag => execCfgCommit_ok h tag
  | .cfgDiscard tag => execCfgDiscard_ok h tag
  | .coefWrite tag => execCoefWrite_ok h tag
  | .coefCopy tag => execCoefCopy_ok h tag
  | .coefSwap tag => execCoefSwap_ok h tag
  | .ctxPreset tag => execCtxPreset_ok h tag
  | .sdSync tag => execSdSync_ok h tag
  | .runGo tag => execRunGo_ok h tag
  | .runStall tag => execRunStall_ok h tag
  | .gait tag => execGait_ok h tag
  | .rate tag => execRate_ok h tag
  | .portArm tag => execPortArm_ok h tag
  | .portDisarm tag => execPortDisarm_ok h tag
  | .portStart tag => execPortStart_ok h tag
  | .portStop tag => execPortStop_ok h tag
  | .portClear tag => execPortClear_ok h tag
  | .reclosePrep tag => execReclosePrep_ok h tag
  | .recloseEnd tag => execRecloseEnd_ok h tag
  | .gdClear tag => execGdClear_ok h tag
  | .spAc tag => execSpAc_ok h tag
  | .spDc tag => execSpDc_ok h tag
  | .spSlew tag => execSpSlew_ok h tag
  | .qResult tag => execQResult_ok h tag
  | .qCtx tag => execQCtx_ok h tag
  | .qPort tag => execQPort_ok h tag
  | .qObs tag => execQObs_ok h tag
  | .qReg tag => execQReg_ok h tag
  | .qEvents tag => execQEvents_ok h tag
  | .trArm tag => execTrArm_ok h tag
  | .trTrig tag => execTrTrig_ok h tag
  | .trStop tag => execTrStop_ok h tag
  | .trRead tag => execTrRead_ok h tag
  | .capCfg tag => execCapCfg_ok h tag
  | .capStart tag => execCapStart_ok h tag
  | .capStop tag => execCapStop_ok h tag
  | .capHistCfg tag => execCapHistCfg_ok h tag
  | .capHistRead tag => execCapHistRead_ok h tag
  | .capPmapCfg tag => execCapPmapCfg_ok h tag
  | .capPmapRead tag => execCapPmapRead_ok h tag
  | .updBegin tag nvm => execUpdBegin_ok h tag nvm
  | .updWrite tag nvm => execUpdWrite_ok h tag nvm
  | .updVerify tag => execUpdVerify_ok h tag
  | .updActivate tag nvm => execUpdActivate_ok h tag nvm
  | .updRestart tag => execUpdRestart_ok h tag
  | .updSvn tag => execUpdSvn_ok h tag
  | .updInfo tag => execUpdInfo_ok h tag
  | .safArm tag => execSafArm_ok h tag
  | .safDisarm tag => execSafDisarm_ok h tag
  | .safReset tag => execSafReset_ok h tag
  | .safCfgStage tag => execSafCfgStage_ok h tag
  | .safCfgCommit tag => execSafCfgCommit_ok h tag
  | .safCfgRead tag => execSafCfgRead_ok h tag
  | .safConfirm tag test => execSafConfirm_ok h tag test
  | .safConfirmTimeout => execSafConfirmTimeout_ok h
  | .pairActivate tag => execPairActivate_ok h tag
  | .pairHandover tag => execPairHandover_ok h tag
  | .hlpLoad tag => execHlpLoad_ok h tag
  | .hlpLoadDone tag => execHlpLoadDone_ok h tag
  | .hlpStart tag => execHlpStart_ok h tag
  | .hlpStop tag => execHlpStop_ok h tag
  | .hlpMode tag => execHlpMode_ok h tag
  | .hlpOlc tag => execHlpOlc_ok h tag
  | .tbRead tag => execTbRead_ok h tag
  | .tbSet tag => execTbSet_ok h tag
  | .tbAdj tag => execTbAdj_ok h tag
  | .ptpCfg tag => execPtpCfg_ok h tag
  | .attReport tag => execAttReport_ok h tag
  | .attRead tag => execAttRead_ok h tag
  | .attIdentity tag => execAttIdentity_ok h tag
  | .comparatorOutputFall ain e => execComparatorOutputFall_ok h ain e
  | .tripPinInactive pin => execTripPinInactive_ok h pin
  | .sdinReturnHigh ch => execSdinReturnHigh_ok h ch
  | .bankPresenceChange bankB present => execBankPresenceChange_ok h bankB present
  | .busOff can => execBusOff_ok h can
  | .optionSectorWrite bytes => execOptionSectorWrite_ok h bytes
  | .revocationBurn slhDsa slot => execRevocationBurn_ok h slhDsa slot
  | .deliveredEdge leg top on instant => execDeliveredEdge_ok h leg top on instant
  | .portReload port => execPortReload_ok h port
  | .announceReceiptTimeout mac => execAnnounceReceiptTimeout_ok h mac
  | .singleBitError mem => execSingleBitError_ok h mem

/-- Every command changes no part outside its reach, one case for each meaning. -/
theorem exec_in (i : Instr) (s : State) : Nexts (Part.mask (reach i)) s (exec i s) := by
  have h := Within.refl (Part.mask (reach i)) s
  cases i <;> simp only [reach] at h ⊢
  case vinPowerOn => exact execVinPowerOn_in h rfl
  case vinBrownOut => exact execVinBrownOut_in h rfl
  case rstNPin => exact execRstNPin_in h rfl
  case debugResetRequest => exact execDebugResetRequest_in h rfl _
  case resetRelease => exact execResetRelease_in h rfl _
  case forcedRelease => exact execForcedRelease_in h rfl _
  case blockReset => exact execBlockReset_in h rfl _ _
  case blockIdleTimeout => exact execBlockIdleTimeout_in h rfl _ _
  case bootStepComplete => exact execBootStepComplete_in h rfl _
  case supervisorWatchdogExpiry => exact execSupervisorWatchdogExpiry_in h rfl
  case supervisorRestartReopen => exact execSupervisorRestartReopen_in h rfl
  case memoryError => exact execMemoryError_in h rfl _
  case deferredSystemReset => exact execDeferredSystemReset_in h rfl
  case refclkLoss => exact execRefclkLoss_in h rfl
  case refclkRestored => exact execRefclkRestored_in h rfl
  case pllLossOfLock => exact execPllLossOfLock_in h rfl _
  case pllLock => exact execPllLock_in h rfl _
  case pllHopTimeout => exact execPllHopTimeout_in h rfl _
  case bandSearchComplete => exact execBandSearchComplete_in h rfl _ _ _
  case bandSearchRetry => exact execBandSearchRetry_in h rfl _ _
  case clkOkChange => exact execClkOkChange_in h rfl _ _
  case dllTapUpdate => exact execDllTapUpdate_in h rfl _ _
  case pairclkOkChange => exact execPairclkOkChange_in h rfl _
  case syncInEdge => exact execSyncInEdge_in h rfl _
  case wakeSource => exact execWakeSource_in h rfl _
  case wakeComplete => exact execWakeComplete_in h rfl
  case wakeFail => exact execWakeFail_in h rfl
  case gaitChangeEffect => exact execGaitChangeEffect_in h rfl
  case gaitThermal => exact execGaitThermal_in h rfl _
  case rg0Boundary => exact execRg0Boundary_in h rfl
  case snapshotComplete => exact execSnapshotComplete_in h rfl
  case rg0PhaseStart => exact execRg0PhaseStart_in h rfl _
  case rateGroupInstanceRun => exact execRateGroupInstanceRun_in h rfl _
  case traceCopyComplete => exact execTraceCopyComplete_in h rfl _
  case cleDeadlineMiss => exact execCleDeadlineMiss_in h rfl _
  case rgInstanceOverrun => exact execRgInstanceOverrun_in h rfl _
  case followingErrorExpiry => exact execFollowingErrorExpiry_in h rfl _
  case followingErrorClear => exact execFollowingErrorClear_in h rfl _
  case dlCalibration => exact execDlCalibration_in h rfl _
  case carrierEvent => exact execCarrierEvent_in h rfl _
  case comparatorCrossing => exact execComparatorCrossing_in h rfl _ _
  case tripPinActive => exact execTripPinActive_in h rfl _
  case tripGroupTrip => exact execTripGroupTrip_in h rfl _
  case blankingClose => exact execBlankingClose_in h rfl _
  case debugHalt => exact execDebugHalt_in h rfl _
  case debugResume => exact execDebugResume_in h rfl _
  case extest => exact execExtest_in h rfl _
  case holdEdge => exact execHoldEdge_in h rfl _ _ _
  case conversionComplete => exact execConversionComplete_in h rfl _ _
  case urgentHoldEdge => exact execUrgentHoldEdge_in h rfl _ _
  case refFault => exact execRefFault_in h rfl
  case refFaultClear => exact execRefFaultClear_in h rfl
  case offsetCalibrationDone => exact execOffsetCalibrationDone_in h rfl
  case sdClockLoss => exact execSdClockLoss_in h rfl _
  case sdClockFreq => exact execSdClockFreq_in h rfl _
  case sdClockClear => exact execSdClockClear_in h rfl _
  case decimatedOutput => exact execDecimatedOutput_in h rfl _ _
  case sdsyncAccept => exact execSdsyncAccept_in h rfl
  case resampleDelivery => exact execResampleDelivery_in h rfl _
  case profileTileRewrite => exact execProfileTileRewrite_in h rfl _
  case obsUpdate => exact execObsUpdate_in h rfl _
  case tCloseExpiry => exact execTCloseExpiry_in h rfl _
  case presyncTimeout => exact execPresyncTimeout_in h rfl _
  case presyncWindowEnd => exact execPresyncWindowEnd_in h rfl _
  case blackstartRampComplete => exact execBlackstartRampComplete_in h rfl _
  case blackstartTrackFault => exact execBlackstartTrackFault_in h rfl _ _
  case bkrFbSeen => exact execBkrFbSeen_in h rfl _
  case envelopeRunLimit => exact execEnvelopeRunLimit_in h rfl _
  case curlimExitStart => exact execCurlimExitStart_in h rfl _
  case curlimRampComplete => exact execCurlimRampComplete_in h rfl _
  case curlimTimeout => exact execCurlimTimeout_in h rfl _
  case pullWindowEnd => exact execPullWindowEnd_in h rfl _
  case dcRangeFault => exact execDcRangeFault_in h rfl _
  case stopRampComplete => exact execStopRampComplete_in h rfl _
  case srsRampComplete => exact execSrsRampComplete_in h rfl _
  case setpointTakesEffect => exact execSetpointTakesEffect_in h rfl _
  case commitTakesEffect => exact execCommitTakesEffect_in h rfl
  case presetTakesEffect => exact execPresetTakesEffect_in h rfl _
  case rateChangeEffect => exact execRateChangeEffect_in h rfl
  case swapVerifyComplete => exact execSwapVerifyComplete_in h rfl
  case swapTakesEffect => exact execSwapTakesEffect_in h rfl
  case scrubTileCheck => exact execScrubTileCheck_in h rfl _ _ _
  case configTileRewrite => exact execConfigTileRewrite_in h rfl _
  case hlpTileRewrite => exact execHlpTileRewrite_in h rfl _
  case frameSlotOpen => exact execFrameSlotOpen_in h rfl _
  case pingSend => exact execPingSend_in h rfl _
  case echoReceived => exact execEchoReceived_in h rfl _ _ _
  case echoLost => exact execEchoLost_in h rfl _
  case paramSend => exact execParamSend_in h rfl _ _
  case statusFrameReceived => exact execStatusFrameReceived_in h rfl _ _
  case alertReceived => exact execAlertReceived_in h rfl _ _ _
  case losChange => exact execLosChange_in h rfl _ _
  case lolChange => exact execLolChange_in h rfl _ _
  case commaReceived => exact execCommaReceived_in h rfl _ _
  case alignmentLoss => exact execAlignmentLoss_in h rfl _
  case laneStateChange => exact execLaneStateChange_in h rfl _
  case laneStatusTimeout => exact execLaneStatusTimeout_in h rfl _
  case laneLostTimeout => exact execLaneLostTimeout_in h rfl _
  case gdenReadbackSample => exact execGdenReadbackSample_in h rfl _
  case gdenLowEnd => exact execGdenLowEnd_in h rfl _
  case gdClearStatusWaitEnd => exact execGdClearStatusWaitEnd_in h rfl _
  case partnerActChange => exact execPartnerActChange_in h rfl _
  case actOutReadbackMismatch => exact execActOutReadbackMismatch_in h rfl _
  case missingRg0Boundary => exact execMissingRg0Boundary_in h rfl
  case sgrInChange => exact execSgrInChange_in h rfl _
  case remoteSgrEnd => exact execRemoteSgrEnd_in h rfl
  case takeover => exact execTakeover_in h rfl
  case handoverRelease => exact execHandoverRelease_in h rfl
  case scheduledPairChange => exact execScheduledPairChange_in h rfl
  case standbyGdenDrop => exact execStandbyGdenDrop_in h rfl
  case mirrorRecordSend => exact execMirrorRecordSend_in h rfl
  case mirrorBlockReceived => exact execMirrorBlockReceived_in h rfl _ _ _
  case mirrorRecordApply => exact execMirrorRecordApply_in h rfl _
  case creditReceived => exact execCreditReceived_in h rfl _ _ _
  case standbyStatusSend => exact execStandbyStatusSend_in h rfl
  case standbyStatusReceived => exact execStandbyStatusReceived_in h rfl _
  case helloReceived => exact execHelloReceived_in h rfl _ _
  case mirrorLaneLost => exact execMirrorLaneLost_in h rfl _
  case gdenPulseTest => exact execGdenPulseTest_in h rfl _
  case sdinDemand => exact execSdinDemand_in h rfl _
  case sdinDiscrepancy => exact execSdinDiscrepancy_in h rfl _
  case testPulseSlot => exact execTestPulseSlot_in h rfl _
  case testPulseCheck => exact execTestPulseCheck_in h rfl _ _ _
  case safetyDiDemand => exact execSafetyDiDemand_in h rfl _
  case outputOffPulse => exact execOutputOffPulse_in h rfl _ _ _
  case pduCopyReceived => exact execPduCopyReceived_in h rfl _ _ _
  case pduWatchdogExpiry => exact execPduWatchdogExpiry_in h rfl _ _
  case pduSend => exact execPduSend_in h rfl _
  case monitorAdcWindow => exact execMonitorAdcWindow_in h rfl _ _
  case monitorCrossCheck => exact execMonitorCrossCheck_in h rfl _ _
  case junctionOvertemp => exact execJunctionOvertemp_in h rfl _
  case clockCrossCheck => exact execClockCrossCheck_in h rfl _
  case islandSupplyFault => exact execIslandSupplyFault_in h rfl
  case lockstepMismatch => exact execLockstepMismatch_in h rfl
  case consecutiveMissLimit => exact execConsecutiveMissLimit_in h rfl
  case timebaseWatchExpiry => exact execTimebaseWatchExpiry_in h rfl
  case offPathReadbackFault => exact execOffPathReadbackFault_in h rfl _
  case srsRequest => exact execSrsRequest_in h rfl
  case srsTimeLimit => exact execSrsTimeLimit_in h rfl _
  case sgrComplete => exact execSgrComplete_in h rfl
  case sgrReadbackTimeout => exact execSgrReadbackTimeout_in h rfl _
  case hlpCycleStart => exact execHlpCycleStart_in h rfl
  case hlpExecutionEnd => exact execHlpExecutionEnd_in h rfl _
  case hlpOverrun => exact execHlpOverrun_in h rfl
  case hlpHardLimit => exact execHlpHardLimit_in h rfl
  case hlpInitLimit => exact execHlpInitLimit_in h rfl
  case hlpFetchParity => exact execHlpFetchParity_in h rfl
  case hlpNop => exact execHlpNop_in h rfl
  case hlpLd => exact execHlpLd_in h rfl _
  case hlpLdn => exact execHlpLdn_in h rfl _
  case hlpAnd => exact execHlpAnd_in h rfl _
  case hlpAndn => exact execHlpAndn_in h rfl _
  case hlpOr => exact execHlpOr_in h rfl _
  case hlpOrn => exact execHlpOrn_in h rfl _
  case hlpXor => exact execHlpXor_in h rfl _
  case hlpPush => exact execHlpPush_in h rfl
  case hlpAndp => exact execHlpAndp_in h rfl
  case hlpOrp => exact execHlpOrp_in h rfl
  case hlpNot => exact execHlpNot_in h rfl
  case hlpEdge => exact execHlpEdge_in h rfl _
  case hlpSt => exact execHlpSt_in h rfl _
  case hlpStn => exact execHlpStn_in h rfl _
  case hlpSet => exact execHlpSet_in h rfl _
  case hlpRst => exact execHlpRst_in h rfl _
  case hlpTon => exact execHlpTon_in h rfl _
  case hlpTof => exact execHlpTof_in h rfl _
  case hlpTp => exact execHlpTp_in h rfl _
  case hlpCtu => exact execHlpCtu_in h rfl _
  case hlpCtd => exact execHlpCtd_in h rfl _
  case hlpCrs => exact execHlpCrs_in h rfl _
  case hlpLw => exact execHlpLw_in h rfl _
  case hlpLk => exact execHlpLk_in h rfl _
  case hlpSw => exact execHlpSw_in h rfl _
  case hlpMov => exact execHlpMov_in h rfl _
  case hlpAdd => exact execHlpAdd_in h rfl _
  case hlpSub => exact execHlpSub_in h rfl _
  case hlpCeq => exact execHlpCeq_in h rfl _
  case hlpCne => exact execHlpCne_in h rfl _
  case hlpClt => exact execHlpClt_in h rfl _
  case hlpCle => exact execHlpCle_in h rfl _
  case hlpCgt => exact execHlpCgt_in h rfl _
  case hlpCge => exact execHlpCge_in h rfl _
  case hlpFlt => exact execHlpFlt_in h rfl _
  case hlpFgt => exact execHlpFgt_in h rfl _
  case hlpJmp => exact execHlpJmp_in h rfl _
  case hlpJc => exact execHlpJc_in h rfl _
  case hlpJnc => exact execHlpJnc_in h rfl _
  case hlpEnd => exact execHlpEnd_in h rfl
  case hlpAdcr => exact execHlpAdcr_in h rfl _
  case remoteFrameReceived => exact execRemoteFrameReceived_in h rfl _ _
  case remoteTimeout => exact execRemoteTimeout_in h rfl _
  case remoteOutputSend => exact execRemoteOutputSend_in h rfl _
  case diSample => exact execDiSample_in h rfl _
  case doOverload => exact execDoOverload_in h rfl _
  case bankRefresh => exact execBankRefresh_in h rfl _
  case silenceTimeout => exact execSilenceTimeout_in h rfl
  case vfieldUvChange => exact execVfieldUvChange_in h rfl _
  case vfieldOvChange => exact execVfieldOvChange_in h rfl _
  case tpOverload => exact execTpOverload_in h rfl _
  case qspiRead => exact execQspiRead_in h rfl _ _
  case qspiWrite => exact execQspiWrite_in h rfl _ _
  case qspiStatus => exact execQspiStatus_in h rfl
  case mbDoorbell => exact execMbDoorbell_in h rfl _ _
  case mbCplHeadWrite => exact execMbCplHeadWrite_in h rfl _ _
  case cmd => exact execCmd_in h rfl _ _
  case cplAck => exact execCplAck_in h rfl _ _
  case probe => exact execProbe_in h rfl _
  case cplResend => exact execCplResend_in h rfl _
  case canSegment => exact execCanSegment_in h rfl _ _ _
  case canSegmentGap => exact execCanSegmentGap_in h rfl _
  case ethernetFrameReceived => exact execEthernetFrameReceived_in h rfl _ _
  case scheduledLaunch => exact execScheduledLaunch_in h rfl _ _
  case linkChange => exact execLinkChange_in h rfl _ _ _
  case txTimestamp => exact execTxTimestamp_in h rfl _ _ _ _
  case timestampDrain => exact execTimestampDrain_in h rfl _
  case ptpServoUpdate => exact execPtpServoUpdate_in h rfl
  case holdMaxExpiry => exact execHoldMaxExpiry_in h rfl
  case datagramClose => exact execDatagramClose_in h rfl
  case flushComplete => exact execFlushComplete_in h rfl
  case flushTimeout => exact execFlushTimeout_in h rfl
  case eventDrain => exact execEventDrain_in h rfl
  case islandRecordWrite => exact execIslandRecordWrite_in h rfl
  case attReportBuilt => exact execAttReportBuilt_in h rfl
  case spurSessionStart => exact execSpurSessionStart_in h rfl
  case spurSessionStop => exact execSpurSessionStop_in h rfl
  case adcUrgWrite => exact execAdcUrgWrite_in h rfl _ _
  case pwmCommitWrite => exact execPwmCommitWrite_in h rfl _ _
  case cmpStaticWrite => exact execCmpStaticWrite_in h rfl _ _
  case crossfireClear => exact execCrossfireClear_in h rfl _ _
  case trippedClear => exact execTrippedClear_in h rfl _ _
  case dlCtrlWrite => exact execDlCtrlWrite_in h rfl _ _
  case laneSlipWrite => exact execLaneSlipWrite_in h rfl _ _
  case wselWrite => exact execWselWrite_in h rfl _ _
  case resStatRead => exact execResStatRead_in h rfl _
  case snapPnumLoRead => exact execSnapPnumLoRead_in h rfl _
  case obsBinSelWrite => exact execObsBinSelWrite_in h rfl _ _
  case highWordLatchRead => exact execHighWordLatchRead_in h rfl _ _
  case spurCtrlWrite => exact execSpurCtrlWrite_in h rfl _ _
  case spurInjGo => exact execSpurInjGo_in h rfl _ _
  case registerWrite => exact execRegisterWrite_in h rfl _ _ _
  case cfgStage => exact execCfgStage_in h rfl _
  case cfgCommit => exact execCfgCommit_in h rfl _
  case cfgDiscard => exact execCfgDiscard_in h rfl _
  case coefWrite => exact execCoefWrite_in h rfl _
  case coefCopy => exact execCoefCopy_in h rfl _
  case coefSwap => exact execCoefSwap_in h rfl _
  case ctxPreset => exact execCtxPreset_in h rfl _
  case sdSync => exact execSdSync_in h rfl _
  case runGo => exact execRunGo_in h rfl _
  case runStall => exact execRunStall_in h rfl _
  case gait => exact execGait_in h rfl _
  case rate => exact execRate_in h rfl _
  case portArm => exact execPortArm_in h rfl _
  case portDisarm => exact execPortDisarm_in h rfl _
  case portStart => exact execPortStart_in h rfl _
  case portStop => exact execPortStop_in h rfl _
  case portClear => exact execPortClear_in h rfl _
  case reclosePrep => exact execReclosePrep_in h rfl _
  case recloseEnd => exact execRecloseEnd_in h rfl _
  case gdClear => exact execGdClear_in h rfl _
  case spAc => exact execSpAc_in h rfl _
  case spDc => exact execSpDc_in h rfl _
  case spSlew => exact execSpSlew_in h rfl _
  case qResult => exact execQResult_in h rfl _
  case qCtx => exact execQCtx_in h rfl _
  case qPort => exact execQPort_in h rfl _
  case qObs => exact execQObs_in h rfl _
  case qReg => exact execQReg_in h rfl _
  case qEvents => exact execQEvents_in h rfl _
  case trArm => exact execTrArm_in h rfl _
  case trTrig => exact execTrTrig_in h rfl _
  case trStop => exact execTrStop_in h rfl _
  case trRead => exact execTrRead_in h rfl _
  case capCfg => exact execCapCfg_in h rfl _
  case capStart => exact execCapStart_in h rfl _
  case capStop => exact execCapStop_in h rfl _
  case capHistCfg => exact execCapHistCfg_in h rfl _
  case capHistRead => exact execCapHistRead_in h rfl _
  case capPmapCfg => exact execCapPmapCfg_in h rfl _
  case capPmapRead => exact execCapPmapRead_in h rfl _
  case updBegin => exact execUpdBegin_in h rfl _ _
  case updWrite => exact execUpdWrite_in h rfl _ _
  case updVerify => exact execUpdVerify_in h rfl _
  case updActivate => exact execUpdActivate_in h rfl _ _
  case updRestart => exact execUpdRestart_in h rfl _
  case updSvn => exact execUpdSvn_in h rfl _
  case updInfo => exact execUpdInfo_in h rfl _
  case safArm => exact execSafArm_in h rfl _
  case safDisarm => exact execSafDisarm_in h rfl _
  case safReset => exact execSafReset_in h rfl _
  case safCfgStage => exact execSafCfgStage_in h rfl _
  case safCfgCommit => exact execSafCfgCommit_in h rfl _
  case safCfgRead => exact execSafCfgRead_in h rfl _
  case safConfirm => exact execSafConfirm_in h rfl _ _
  case safConfirmTimeout => exact execSafConfirmTimeout_in h rfl
  case pairActivate => exact execPairActivate_in h rfl _
  case pairHandover => exact execPairHandover_in h rfl _
  case hlpLoad => exact execHlpLoad_in h rfl _
  case hlpLoadDone => exact execHlpLoadDone_in h rfl _
  case hlpStart => exact execHlpStart_in h rfl _
  case hlpStop => exact execHlpStop_in h rfl _
  case hlpMode => exact execHlpMode_in h rfl _
  case hlpOlc => exact execHlpOlc_in h rfl _
  case tbRead => exact execTbRead_in h rfl _
  case tbSet => exact execTbSet_in h rfl _
  case tbAdj => exact execTbAdj_in h rfl _
  case ptpCfg => exact execPtpCfg_in h rfl _
  case attReport => exact execAttReport_in h rfl _
  case attRead => exact execAttRead_in h rfl _
  case attIdentity => exact execAttIdentity_in h rfl _
  case comparatorOutputFall => exact execComparatorOutputFall_in h rfl _ _
  case tripPinInactive => exact execTripPinInactive_in h rfl _
  case sdinReturnHigh => exact execSdinReturnHigh_in h rfl _
  case bankPresenceChange => exact execBankPresenceChange_in h rfl _ _
  case busOff => exact execBusOff_in h rfl _
  case optionSectorWrite => exact execOptionSectorWrite_in h rfl _
  case revocationBurn => exact execRevocationBurn_in h rfl _ _
  case deliveredEdge => exact execDeliveredEdge_in h rfl _ _ _ _
  case portReload => exact execPortReload_in h rfl _
  case announceReceiptTimeout => exact execAnnounceReceiptTimeout_in h rfl _
  case singleBitError => exact execSingleBitError_in h rfl _

/-- A step on an empty queue lets one NET clock pass. -/
theorem step_of_pending_nil (h : s.pending = []) : step s = .next (s.elapse 64) := by
  unfold step
  rw [h]

/-- A step carries out the front command on the state with the queue's rest. -/
theorem step_of_pending_cons {c : Instr} {rest : List Instr} (h : s.pending = c :: rest) : step s = exec c { s with pending := rest } := by
  unfold step
  rw [h]

/-- Taking a command off the queue touches nothing that the invariant reads. -/
theorem State.Inv.pending (h : s.Inv) (rest : List Instr) : Ok rest { s with pending := rest } :=
  ⟨⟨h.regs, h.depth, h.rings, h.stores⟩, rfl⟩

/-- One step from a state that keeps the invariant leads to one that keeps it. -/
theorem step_ok (h : s.Inv) : ∃ t, step s = .next t ∧ t.Inv := by
  match hq : s.pending with
  | [] => exact ⟨_, step_of_pending_nil hq, (State.elapse_ok ⟨h, rfl⟩ 64).inv⟩
  | c :: rest =>
    obtain ⟨t, ht, hok⟩ := exec_ok (h.pending rest) c
    exact ⟨t, (step_of_pending_cons hq).trans ht, hok.inv⟩

/-- Settles O49: the queue is empty or has a front command (`step_ok`), and every command keeps the invariant (`exec_ok`). -/
theorem everyStepKeepsTheInvariant : Obligations.EveryStepKeepsTheInvariant := by
  unfold Obligations.EveryStepKeepsTheInvariant
  intro s t hinv hstep
  obtain ⟨u, hu, hinv'⟩ := step_ok hinv
  rw [hstep] at hu
  cases hu
  exact hinv'

/-- Settles O50: each meaning answers a next state and keeps the invariant and the queue (`exec_ok`). -/
theorem everyCommandAnswers : Obligations.EveryCommandAnswers := by
  unfold Obligations.EveryCommandAnswers
  intro i s hinv
  obtain ⟨t, ht, hok⟩ := exec_ok ⟨hinv, rfl⟩ i
  exact ⟨t, ht, hok.inv, hok.queue⟩

/-- Settles O51: each meaning stays within the parts of its reach (`exec_in`). -/
theorem everyCommandHasItsFrame : Obligations.EveryCommandHasItsFrame := by
  unfold Obligations.EveryCommandHasItsFrame
  intro i s
  obtain ⟨t, ht, hwithin⟩ := exec_in i s
  exact ⟨t, ht, hwithin.only⟩

/-- Settles O47: by the two cases of `step`; no row of the table has bits, so no word decodes. -/
theorem stepRunsTheFrontCommand : Obligations.StepRunsTheFrontCommand := by
  unfold Obligations.StepRunsTheFrontCommand
  exact ⟨fun _ _ => step_of_pending_cons rfl, fun _ h => step_of_pending_nil h, fun _ _ _ => ⟨rfl, rfl⟩⟩

/-- The state after reset keeps the invariant: its registers are at reset, nothing is queued, and its stores are empty. -/
theorem reset_inv : State.reset.Inv :=
  ⟨rfl, Nat.zero_le _, fresh_rings, rfl, rfl, rfl, by
    intro k b hb
    rw [show vget State.reset.hlp.store k = none by rcases k with _ | _ | k <;> rfl] at hb
    cases hb⟩

/-- Settles O48. -/
theorem invariantHoldsAtReset : Obligations.InvariantHoldsAtReset := by
  unfold Obligations.InvariantHoldsAtReset
  exact ⟨reset_inv, rfl⟩

/-- After reset a register reads its reset word: nothing has been written. -/
theorem reset_reg (r : Reg) (i : Nat) : State.reset.reg r i = resetWord (regKey r.cls i r.off) := rfl

/-- Settles O52: the registers read their reset words, which the tables list for finitely many registers and units. -/
theorem registersReadTheirResetValues : Obligations.RegistersReadTheirResetValues := by
  unfold Obligations.RegistersReadTheirResetValues
  simp only [reset_reg]
  exact ⟨by decide, by decide, by decide, by decide, by decide, by decide, by decide, by decide, by decide⟩

end Sys2Proof.Machine
end

section
/-!
PROOFS. Mailboxes (R373, R374): the credits of a mailbox and what a completion leaves of them, the order of the admission checks, and what
a doorbell leaves that is refused.
-/
namespace Sys2Proof.Machine

variable {s : State}

/-! ### Credits -/

/-- With e gone from the ring of commands, its mailbox has exactly one command less: no two commands share a tag (R374). -/
theorem inflight_without {l : List Entry} {e : Entry} (hn : (l.map (·.tag)).Nodup) (he : e ∈ l) (k : Nat) :
    ((l.filter fun x => x.tag != e.tag).filter fun x => x.mb == k).length + (if e.mb = k then 1 else 0) =
      (l.filter fun x => x.mb == k).length := by
  induction l with
  | nil => cases he
  | cons a l ih =>
    rw [List.map_cons, List.nodup_cons] at hn
    obtain ⟨ha, hl⟩ := hn
    rcases List.mem_cons.mp he with rfl | hm
    · have hrest : l.filter (fun x => x.tag != e.tag) = l := List.filter_eq_self.mpr fun x hx => by
        have : x.tag ≠ e.tag := fun h => ha (h ▸ List.mem_map_of_mem hx)
        simp [this]
      rw [List.filter_cons_of_neg (by simp), hrest, List.filter_cons]
      simp only [beq_iff_eq]
      split <;> simp
    · have hne : a.tag ≠ e.tag := fun h => ha (h ▸ List.mem_map_of_mem hm)
      have := ih hl hm
      rw [List.filter_cons_of_pos (by simpa using hne), List.filter_cons, List.filter_cons]
      split
      · simp only [List.length_cons]
        omega
      · exact this

/-- A message that leaves changes what a mailbox has sent and nothing else of it. -/
theorem emit_isOpen (m k : Nat) (msg : List Byte) : (vget (s.emit m msg).fcp.boxes k).isOpen = (vget s.fcp.boxes k).isOpen := by
  unfold State.emit State.ordinary State.box
  split <;> (simp only [vget_vmod]; split <;> rfl)

/-- Placing a completion leaves the commands in flight and opens or closes no mailbox. -/
theorem place_inflight (e : Entry) (h pay : List Byte) : (s.place e h pay).fcp.inflight = s.fcp.inflight := by
  unfold State.place
  simp only
  split
  · rfl
  · rw [State.emit_inflight]
    rfl

theorem place_isOpen (e : Entry) (h pay : List Byte) (k : Nat) :
    (vget (s.place e h pay).fcp.boxes k).isOpen = (vget s.fcp.boxes k).isOpen := by
  unfold State.place
  simp only
  split
  · simp only [State.box, vget_vmod]
    split <;> rfl
  · rw [emit_isOpen]
    simp only [State.box, vget_vmod]
    split <;> rfl

/-- Placing a completion adds it to its own mailbox. -/
theorem place_posted_length (e : Entry) (h pay : List Byte) {k : Nat} (hk : k < 8) :
    (vget (s.place e h pay).fcp.boxes k).posted.length = (vget s.fcp.boxes k).posted.length + if e.mb = k then 1 else 0 := by
  have hbox : ∀ p : Mailbox → Posted, (vget (vmod s.fcp.boxes e.mb fun b => { b with
      posted := b.posted ++ [p b], tail := (b.tail + 1) % 16 }) k).posted.length =
        (vget s.fcp.boxes k).posted.length + if e.mb = k then 1 else 0 := by
    intro p
    rw [vget_vmod]
    by_cases hek : e.mb = k
    · rw [if_pos ⟨hek, hek ▸ hk⟩, if_pos hek, List.length_append, List.length_singleton]
    · rw [if_neg fun hh => hek hh.1, if_neg hek, Nat.add_zero]
  unfold State.place
  simp only
  split
  · exact hbox fun b => ⟨e.tag, _, h, pay⟩
  · rw [State.emit_posted]
    exact hbox fun b => ⟨e.tag, _, h, pay⟩

/-- The credits of an open mailbox, its commands in flight and its completions are its 16 entries (R373). -/
theorem State.Inv.credits_add (hi : s.Inv) {m : Nat} (hm : m < 8) (ho : (vget s.fcp.boxes m).isOpen = true) :
    s.credits m + s.inflightOf m + (vget s.fcp.boxes m).posted.length = 16 := by
  obtain ⟨hle, -, -⟩ := hi.rings.2.2 m hm
  unfold State.credits State.inflightOf
  simp only [ho, if_true]
  omega

/-- Posting a completion leaves the credits: the ring entry of the command becomes that of its completion (R375). -/
theorem completeEntry_credits (hi : s.Inv) {e : Entry} (he : e ∈ s.fcp.inflight) {m : Nat} (hm : m < 8) (status pnum : Nat)
    (res pay : List Byte) : (s.completeEntry e status pnum res pay).credits m = s.credits m := by
  have hless := inflight_without hi.rings.1 he m
  unfold State.completeEntry State.credits State.inflightOf
  simp only [place_isOpen, place_inflight, place_posted_length _ _ _ hm]
  split
  · omega
  · rfl

/-- Completing the commands of opcodes that the manual does not list leaves the credits. -/
theorem settle_credits (n : Nat) (hi : s.Inv) {m : Nat} (hm : m < 8) : (State.settle n s).credits m = s.credits m := by
  induction n generalizing s with
  | zero => rfl
  | succ n ih =>
    rw [State.settle]
    split
    · rfl
    · rename_i e he
      have hmem := List.mem_of_find?_eq_some he
      rw [ih (State.completeEntry_ok ⟨hi, rfl⟩ e hmem _ _ _ _).inv, completeEntry_credits hi hmem hm]

/-- Completing a command in flight leaves the credits of every mailbox. -/
theorem complete_credits (hi : s.Inv) (hr : s.svpRuns = true) {e : Entry} (he : e ∈ s.fcp.inflight) {m : Nat} (hm : m < 8)
    (status pnum : Nat) (res pay : List Byte) : (s.complete e.tag status pnum res pay).credits m = s.credits m := by
  simp only [State.svpRuns, Bool.and_eq_true, Option.isNone_iff_eq_none] at hr
  obtain ⟨hclock, hslot⟩ := hr
  unfold State.complete
  rw [hi.find_tag he]
  simp only [hslot, hclock, Option.isSome_none, Bool.not_true, Bool.false_eq_true, if_false]
  rw [settle_credits _ (State.completeEntry_ok ⟨hi, rfl⟩ e he _ _ _ _).inv hm, completeEntry_credits hi he hm]

/-! ### The doorbell -/

/-- An access that its path's rights take acts. -/
theorem State.guarded_taken {p off : Nat} {wr : Bool} (h : s.access p off wr = 0) (f : State → State) : s.guarded p off wr f = f s := by
  unfold State.guarded
  simp only [h]

/-- A doorbell of an idle mailbox is served while the SVP has its clock (R385). -/
theorem State.bell_served {m value : Nat} (hv : value % 2 = 1) (hb : vget s.fcp.busy m = false) (hc : s.svpClock = true) :
    s.bell m value = s.doorbell m := by
  unfold State.bell
  simp [hv, hb, hc]

theorem execMbDoorbell_served {mb : Fin 4} {value : Word} (ha : s.access 0 (mbBase mb) true = 0) (hv : value.toNat % 2 = 1)
    (hb : vget s.fcp.busy mb.val = false) (hc : s.svpClock = true) : exec (.mbDoorbell mb value) s = .next (s.doorbell mb) := by
  show execMbDoorbell mb value s = _
  rw [execMbDoorbell, State.guarded_taken ha, State.bell_served hv hb hc]

/-- A refused doorbell records its code, and is counted (R385). -/
theorem State.doorbell_refused {m c : Nat} (hc : c = if (vget s.fcp.boxes m).isOpen = true then
      s.admitCode m (s.mbBytes (mbBase m + 0x40) 64) (s.mbBytes (mbBase m + 0x80) (min 1024 (leAt (s.mbBytes (mbBase m + 0x40) 64) 4 2)))
      else 5) (h0 : c ≠ 0) :
    s.doorbell m = (s.box m fun b => { b with refuse := c }).count F.MB_STAT_REFUSE_CNT m := by
  unfold State.doorbell
  simp only [show Refuse.closed = 5 from rfl, ← hc, if_neg h0]

theorem State.credits_refuse (m k c : Nat) : (s.box m fun b => { b with refuse := c }).credits k = s.credits k := by
  unfold State.credits State.inflightOf State.box
  simp only [vget_vmod]
  split <;> rfl

theorem State.credits_count (f : Fld) (i k : Nat) : (s.count f i).credits k = s.credits k := rfl

/-- What a refused doorbell leaves. -/
theorem State.refused_leaves (hi : s.Inv) {m : Nat} (hm : m < 8) (c : Nat) {t : State}
    (ht : t = (s.box m fun b => { b with refuse := c }).count F.MB_STAT_REFUSE_CNT m) :
    t.fcp.inflight = s.fcp.inflight ∧ (vget t.fcp.boxes m).refuse = c ∧ (vget t.fcp.boxes m).posted = (vget s.fcp.boxes m).posted ∧
      t.credits m = s.credits m ∧ s.RegsBut t [(F.MB_STAT_REFUSE_CNT, m)] ∧ s.Only t [.regs, .fcp] := by
  subst ht
  have hbox : vget (s.box m fun b => { b with refuse := c }).fcp.boxes m = { vget s.fcp.boxes m with refuse := c } := vget_same _ _ _ hm
  refine ⟨rfl, by rw [count_fcp, hbox], by rw [count_fcp, hbox], by rw [State.credits_count, State.credits_refuse], ?_, ?_⟩
  · exact ((State.RegsBut.refl s _).box m _).count (canonAfterBox hi.canon _ _) _ _ (by simp) (by decide)
  · exact (State.count_in (State.box_in (Within.refl (Part.mask [.regs, .fcp]) s) rfl m _) rfl _ _).only

/-- Settles O54: the credits by the mailboxes' rings of the invariant, the order of the checks by the branches of `admitCode`, the refused
doorbell by what it writes, and a completion by the ring entry that passes from the command to it. -/
theorem mailboxAdmissionFollowsItsOrder : Obligations.MailboxAdmissionFollowsItsOrder := by
  unfold Obligations.MailboxAdmissionFollowsItsOrder
  refine ⟨fun s m hi hm ho => hi.credits_add hm ho, fun s m h p hbp => ?_, fun s mb value hi ha hv hb hc c hcode h0 => ?_,
    fun s e status pnum res pay m hi hr he hm => complete_credits hi hr he hm _ _ _ _⟩
  · unfold State.admitCode
    refine ⟨fun h1 => ?_, fun h1 h2 => ?_, fun h1 h2 h3 => ?_, fun h1 h2 h3 h4 => ?_, fun h1 h2 h3 h4 h5 => ?_⟩
    · simp [h1, hbp]
      rfl
    · simp [Nat.ne_of_gt h1, hbp, h2]
      rfl
    · simp [Nat.ne_of_gt h1, hbp, h2, h3]
      rfl
    · simp [Nat.ne_of_gt h1, hbp, h2, Nat.not_lt.mpr h3, h4]
      rfl
    · simp [Nat.ne_of_gt h1, hbp, h2, Nat.not_lt.mpr h3, h4, h5]
  · obtain ⟨hfl, hrefuse, hposted, hcredits, hregs, honly⟩ := s.refused_leaves hi (by omega : mb.val < 8) c (State.doorbell_refused hcode h0)
    exact ⟨_, execMbDoorbell_served ha hv hb hc, hfl, hrefuse, hposted, hcredits, hregs, honly⟩

end Sys2Proof.Machine
end

section
/-!
PROOFS. The Harness Logic Processor's memory (R338) and its timers and counters (R343): what a read gives after a program's write, and what
each timer shows and holds after it is executed.
-/
namespace Sys2Proof.Machine

variable {s : State}

/-! ### Memory (R338) -/

/-- The number that the bytes of a number spell. -/
theorem leNat_leBytes (n v : Nat) : leNat (leBytes n v) = v % 256 ^ n := by
  induction n generalizing v with
  | zero => simp [leBytes, leNat, Nat.mod_one]
  | succ n ih =>
    rw [leBytes, leNat, ih, BitVec.toNat_ofNat, Nat.pow_succ' (n := n), Nat.mod_mul]

theorem hlpWritable_iff (x : Nat) : hlpWritable x = true ↔ x < 0x10000 ∨ 0x11000 ≤ x ∧ x < 0x11800 := by
  simp [hlpWritable]

theorem State.setHb_of_not_writable {a : Nat} (h : hlpWritable a = false) (v : Byte) : s.setHb a v = s := by
  unfold State.setHb
  rw [h]
  exact if_neg (by decide)

theorem State.setHword_of_not_writable {x : Nat} (h : hlpWritable x = false) (w : Word) : s.setHword x w = s := by
  unfold State.setHword
  rw [h]
  exact if_neg (by decide)

/-- A byte of V or Q reads as it was written. -/
theorem State.hb_setHb (hi : s.Inv) {a : Nat} (h : hlpWritable a = true) (v : Byte) (c : Nat) :
    (s.setHb a v).hb c = if c = a then v else s.hb c := by
  obtain ⟨-, hmem, -, -⟩ := hi.stores
  unfold State.setHb State.hb State.modHlp
  rw [if_pos h]
  split
  · next hc => rw [hc, Memory.get_set_same _ _ _ _ hmem]
  · next hc => exact Memory.get_set_other _ _ _ _ _ hmem hc

/-- A bit of V or Q reads as it was written, and every other bit as before. -/
theorem State.hbit_setHbit (hi : s.Inv) {b : Nat} (h : hlpWritable (b / 8) = true) (c : Nat) (v : Bool) :
    (s.setHbit b v).hbit c = if c = b then v else s.hbit c := by
  unfold State.setHbit State.hbit
  simp only
  rw [State.hb_setHb hi h]
  have hb : b % 8 < 8 := Nat.mod_lt _ (by decide)
  have hc : c % 8 < 8 := Nat.mod_lt _ (by decide)
  by_cases hbyte : c / 8 = b / 8
  · rw [if_pos hbyte, hbyte]
    by_cases hbit : c % 8 = b % 8
    · have : c = b := by omega
      rw [if_pos this, hbit]
      cases v <;> simp [hb]
    · have hne : c ≠ b := fun h => hbit (h ▸ rfl)
      rw [if_neg hne]
      have hmask : ∀ n, n < 8 → ∀ k, k < 8 → n ≠ k → (1#8 <<< k).getLsbD n = false := by decide
      have hmask := hmask _ hc _ hb hbit
      cases v
      · rw [if_neg (by decide), BitVec.getLsbD_and, BitVec.getLsbD_not, hmask]
        simp [hc]
      · rw [if_pos rfl, BitVec.getLsbD_or, hmask, Bool.or_false]
  · have hne : c ≠ b := fun h => hbyte (h ▸ rfl)
    rw [if_neg hbyte, if_neg hne]

/-- A word of V or Q reads as it was written. -/
theorem State.hword_setHword (hi : s.Inv) {x : Nat} (h : hlpWritable x = true) (w : Word) : (s.setHword x w).hword x = w := by
  obtain ⟨-, hmem, -, -⟩ := hi.stores
  unfold State.setHword State.hword State.modHlp
  rw [if_pos h]
  have hrun : Memory.getMany (fun _ => 0#8) (Memory.setMany (fun _ => 0#8) s.hlp.mem x (leBytes 4 w.toNat)) x 4 = leBytes 4 w.toNat := by
    unfold Memory.getMany
    refine List.ext_getElem (by simp [leBytes_length]) fun i h1 h2 => ?_
    rw [List.getElem_map, List.getElem_range]
    exact Memory.get_setMany_in _ _ _ _ _ hmem h2
  simp only [hrun, leNat_leBytes]
  exact BitVec.eq_of_toNat_eq (by simp [Nat.mod_eq_of_lt w.isLt])

/-- A byte outside the word written reads as before. -/
theorem State.hb_setHword (hi : s.Inv) {x y : Nat} (h : y < x ∨ x + 4 ≤ y) (w : Word) : (s.setHword x w).hb y = s.hb y := by
  obtain ⟨-, hmem, -, -⟩ := hi.stores
  cases hx : hlpWritable x with
  | false => rw [State.setHword_of_not_writable hx]
  | true =>
    unfold State.setHword State.hb State.modHlp
    rw [if_pos hx]
    exact Memory.get_setMany_out _ _ _ _ _ hmem (by rwa [leBytes_length])

/-- Settles O41. -/
theorem hlpMemoryReadsBack : Obligations.HlpMemoryReadsBack := by
  unfold Obligations.HlpMemoryReadsBack
  exact ⟨fun s b c v hi h => State.hbit_setHbit hi h c v, fun s b v h => State.setHb_of_not_writable h _,
    fun s x w hi h => State.hword_setHword hi h w, fun s x y w hi h => State.hb_setHword hi h w,
    fun s x w h => State.setHword_of_not_writable h w, hlpWritable_iff⟩

/-! ### Timers and counters (R343) -/

/-- The HLP executes the instruction that it fetched, behind its index. -/
theorem State.insn_fetched {op x : Nat} (h : s.fetches op x = true) (f : State → State) :
    s.insn op x f = .next (f (s.modHlp fun h => { h with pc := h.pc + 1 })) :=
  congrArg Host.Outcome.next (if_pos h)

theorem tofNext_timing {pt et dt : Nat} {last fell : Bool} (h : last = true ∨ fell = true ∨ 0 < et) :
    tofNext pt et last fell false dt = (min (et + dt) pt, decide (min (et + dt) pt < pt)) := by
  have hrun : (last || fell || decide (0 < et)) = true := by simpa [or_assoc] using h
  simp [tofNext, hrun]

theorem tpNext_begins {pt dt : Nat} (fell : Bool) : tpNext pt 0 false fell true dt = (min dt pt, decide (min dt pt < pt)) := by
  simp [tpNext]

theorem tpNext_running {pt et dt : Nat} (last fell inp : Bool) (h0 : 0 < et) (hpt : et < pt) :
    tpNext pt et last fell inp dt =
      (if min (et + dt) pt = pt ∧ inp = false then 0 else min (et + dt) pt, decide (min (et + dt) pt < pt)) := by
  simp [tpNext, h0, hpt]

/-- ET never passes PT. -/
theorem tonNext_le (pt et dt : Nat) (last fell inp : Bool) : (tonNext pt et last fell inp dt).1 ≤ pt := by
  unfold tonNext
  cases inp
  · exact Nat.zero_le _
  · exact Nat.min_le_right _ _

theorem tofNext_le {pt et : Nat} (h : et ≤ pt) (dt : Nat) (last fell inp : Bool) : (tofNext pt et last fell inp dt).1 ≤ pt := by
  unfold tofNext
  cases inp
  · simp only [Bool.false_eq_true, if_false]
    split
    · exact Nat.min_le_right _ _
    · exact h
  · exact Nat.zero_le _

theorem tpNext_le {pt et : Nat} (h : et ≤ pt) (dt : Nat) (last fell inp : Bool) : (tpNext pt et last fell inp dt).1 ≤ pt := by
  have hle : ∀ b : Bool, (if b = true then min (et + dt) pt else et) ≤ pt := fun b => by
    cases b
    · exact h
    · exact Nat.min_le_right _ _
  have hend : ∀ e ≤ pt, (if e = pt ∧ (!inp) = true then 0 else e) ≤ pt := fun e he => by
    split
    · exact Nat.zero_le _
    · exact he
  exact hend _ (hle _)

/-- A saturated word is the nearest signed 32-bit value. -/
theorem satWord_toInt (v : Int) :
    (satWord v).toInt = if v < -2147483648 then -2147483648 else if 2147483647 < v then 2147483647 else v := by
  have hrange : ∀ w : Int, -2147483648 ≤ w → w ≤ 2147483647 → (BitVec.ofInt 32 w).toInt = w := fun w hlo hhi => by
    rw [BitVec.toInt_ofInt]
    exact Int.bmod_eq_of_le (by omega) (by omega)
  unfold satWord clampInt
  by_cases hlo : v < -2147483648
  · rw [if_pos hlo]
    exact hrange _ (by decide) (by decide)
  · rw [if_neg hlo]
    by_cases hhi : v > 2147483647
    · rw [if_pos hhi]
      exact hrange _ (by decide) (by decide)
    · rw [if_neg hhi]
      exact hrange _ (by omega) (by omega)

/-- Settles O59: by the closed form that each timer has in each of its phases. -/
theorem timersAndCountersHoldTheirLimits : Obligations.TimersAndCountersHoldTheirLimits := by
  unfold Obligations.TimersAndCountersHoldTheirLimits
  refine ⟨fun pt et dt last fell inp h => ⟨tonNext_le .., tofNext_le h .., tpNext_le h ..⟩, fun _ _ _ _ _ => rfl,
    fun pt et dt last fell _ => ⟨rfl, ?_⟩, fun _ _ _ _ _ => rfl, fun pt et dt last fell _ hrun => ?_, fun _ _ => rfl,
    fun pt dt fell _ => ?_, fun pt et dt last fell inp h0 hpt => ?_, fun s u w hu => ?_, satWord_toInt⟩
  · simp [tonNext]
  · rw [tofNext_timing hrun]
    exact ⟨rfl, by simp only [decide_eq_true_eq]; omega⟩
  · rw [tpNext_begins]
    exact ⟨rfl, by simp only [decide_eq_true_eq]; omega⟩
  · rw [tpNext_running _ _ _ h0 hpt]
    exact ⟨by simp only [decide_eq_true_eq]; omega, by simp only [min_eq_right_iff]⟩
  · subst hu
    exact ⟨fun h => State.insn_fetched h fun t => t.timer w.toNat tonNext, fun h => State.insn_fetched h fun t => t.timer w.toNat tofNext,
      fun h => State.insn_fetched h fun t => t.timer w.toNat tpNext⟩

end Sys2Proof.Machine
end

section
/-!
PROOFS. Registers by their access codes (R11), events as they are posted (R43, R514), and the reference angle of R439.
-/
namespace Sys2Proof.Machine

variable {s : State}

/-! ### Access codes (R11, Table 00.3) -/

/-- Bit b of a write by the access codes. -/
theorem State.writeMasked_bit (hw : s.Canon) {c i off : Nat} {v : Word} {r : RegRow} {b : Nat} (hr : regRow? c off = some r) (hb : b < 32) :
    (Memory.get resetWord (s.writeMasked c i off v).regs (regKey c i off)).getLsbD b =
      (if r.w1c.testBit b ∧ v.getLsbD b = true then false
       else if r.rw.testBit b ∨ (r.rwl.testBit b ∧ s.flag F.TACK_CTRL_LOCK 0 = false) then v.getLsbD b
       else (Memory.get resetWord s.regs (regKey c i off)).getLsbD b) := by
  unfold State.writeMasked
  simp only [hr]
  rw [Memory.get_set_same _ _ _ _ hw]
  have hmask : ∀ m : Nat, (BitVec.ofNat 32 m).getLsbD b = m.testBit b := fun m => by rw [BitVec.getLsbD_ofNat, decide_eq_true hb, Bool.true_and]
  have hbits : ∀ m w1c old x : Bool, ((old && !m || x && m) && !(x && w1c)) =
      if w1c = true ∧ x = true then false else if m = true then x else old := by decide
  simp only [BitVec.getLsbD_and, BitVec.getLsbD_or, BitVec.getLsbD_not, hmask, hb, decide_true, Bool.true_and]
  rw [hbits]
  cases s.flag F.TACK_CTRL_LOCK 0 <;> simp [Nat.testBit_or]

theorem State.writeMasked_other (hw : s.Canon) (c i off : Nat) (v : Word) {k : Nat} (hk : k ≠ regKey c i off) :
    Memory.get resetWord (s.writeMasked c i off v).regs k = Memory.get resetWord s.regs k := by
  unfold State.writeMasked
  split
  · exact Memory.get_set_other _ _ _ _ _ hw hk
  · rfl

/-- Bit b of a register after a read by the window: an RC bit clears. -/
theorem State.readClear_bit (hw : s.Canon) {c i off : Nat} {r : RegRow} {b : Nat} (hr : regRow? c off = some r) (hb : b < 32) :
    (Memory.get resetWord (s.readClear c i off).regs (regKey c i off)).getLsbD b =
      ((Memory.get resetWord s.regs (regKey c i off)).getLsbD b && !r.rc.testBit b) := by
  unfold State.readClear
  simp only [hr]
  split
  · next h0 => simp [h0]
  · rw [Memory.get_set_same _ _ _ _ hw]
    rw [BitVec.getLsbD_and, BitVec.getLsbD_not, BitVec.getLsbD_ofNat, decide_eq_true hb, Bool.true_and, Bool.true_and]

theorem State.readClear_other (hw : s.Canon) (c i off : Nat) {k : Nat} (hk : k ≠ regKey c i off) :
    Memory.get resetWord (s.readClear c i off).regs k = Memory.get resetWord s.regs k := by
  unfold State.readClear
  split
  · split
    · rfl
    · exact Memory.get_set_other _ _ _ _ _ hw hk
  · rfl

/-- Settles O46: bit by bit. -/
theorem accessCodesHold : Obligations.AccessCodesHold := by
  unfold Obligations.AccessCodesHold
  exact ⟨fun s c i off v r b hw hr hb => State.writeMasked_bit hw hr hb, fun s c i off v k hw hk => State.writeMasked_other hw c i off v hk,
    fun s c i off v => (State.writeMasked_in (Within.refl (Part.mask [.regs]) s) rfl c i off v).only,
    fun s c i off r b hw hr hb => State.readClear_bit hw hr hb, fun s c i off k hw hk => State.readClear_other hw c i off hk⟩

/-! ### Events (R43, R514) -/

/-- A 16-bit counter counts one and stays at its maximum (R13). -/
theorem satAdd_one_16 (n : Nat) : satAdd n 1 0xFFFF = min 0xFFFF (n + 1) := by
  unfold satAdd
  split <;> omega

/-- An 8-bit counter counts one and stays at its maximum (R13). -/
theorem satAdd_one_8 (n : Nat) : satAdd n 1 0xFF = min 0xFF (n + 1) := by
  unfold satAdd
  split <;> omega

/-- The event posted takes the next number and the last place; a full queue drops its oldest entry. -/
theorem post_appends (code unit data : Nat) : ∃ r, (s.post code unit data).evq.queue =
    (if 64 ≤ s.evq.queue.length then s.evq.queue.drop 1 else s.evq.queue) ++ [r] ∧ r.num = s.evq.next ∧ r.code = code ∧ r.unit = unit ∧
      r.data = data % 2 ^ 64 := ⟨_, post_queue code unit data, rfl, rfl, rfl, rfl⟩

/-- The event block keeps its slots until a drain. -/
theorem post_slots (code unit data : Nat) : (s.post code unit data).evq.slots = s.evq.slots := by
  unfold State.post State.postAs State.cond
  simp only
  rw [State.trFire_eq]
  split <;> split <;> rfl

/-- What a posted event leaves of the registers: the count of a dropped entry, the number of entries, and the triggers of trace channels. -/
theorem post_shape (code unit data : Nat) : ∃ u : State, u.regs = s.regs ∧ s.post code unit data =
    ((u.cond (decide (64 ≤ s.evq.queue.length)) fun t => t.count F.EVQ_STAT_DROP_CNT 0).setFld F.EVQ_STAT_DEPTH 0
      (s.post code unit data).evq.queue.length).trFire 3 fun l => l % 65536 == code := by
  rw [post_queue]
  unfold State.post State.postAs
  simp only [decide_eq_true_eq, ge_iff_le]
  refine ⟨_, ?_, rfl⟩
  unfold State.cond
  split <;> rfl

/-- The queue never holds more than its 64 entries. -/
theorem post_queue_length_le (hi : s.Inv) (code unit data : Nat) : (s.post code unit data).evq.queue.length ≤ 64 :=
  (State.post_ok ⟨hi, rfl⟩ code unit data).inv.depth

/-- DEPTH is the number of entries. -/
theorem post_depth (hi : s.Inv) (code unit data : Nat) :
    (s.post code unit data).fld F.EVQ_STAT_DEPTH 0 = (s.post code unit data).evq.queue.length := by
  have hle := post_queue_length_le hi code unit data
  obtain ⟨u, hu, hshape⟩ := post_shape (s := s) code unit data
  generalize (s.post code unit data).evq.queue.length = n at hle hshape ⊢
  have hc : u.Canon := by unfold State.Canon; rw [hu]; exact hi.canon
  have hd : (u.cond (decide (64 ≤ s.evq.queue.length)) fun t => t.count F.EVQ_STAT_DROP_CNT 0).Canon := by
    unfold State.cond
    split
    · exact canonAfterCount hc _ _
    · exact hc
  rw [hshape, State.fld_trFire (canonAfterFld hd _ _ _) _ _ _ _ (by decide), State.fld_setFld_same hd _ _ _ (by decide)]
  exact Nat.mod_eq_of_lt (Nat.lt_of_le_of_lt hle (by decide))

/-- A full queue counts the entry it drops. -/
theorem post_dropCount (hi : s.Inv) (code unit data : Nat) : (s.post code unit data).fld F.EVQ_STAT_DROP_CNT 0 =
    if 64 ≤ s.evq.queue.length then min 0xFFFF (s.fld F.EVQ_STAT_DROP_CNT 0 + 1) else s.fld F.EVQ_STAT_DROP_CNT 0 := by
  obtain ⟨u, hu, hshape⟩ := post_shape (s := s) code unit data
  have hc : u.Canon := by unfold State.Canon; rw [hu]; exact hi.canon
  have hf : u.fld F.EVQ_STAT_DROP_CNT 0 = s.fld F.EVQ_STAT_DROP_CNT 0 := by unfold State.fld; rw [hu]
  have hd : (u.cond (decide (64 ≤ s.evq.queue.length)) fun t => t.count F.EVQ_STAT_DROP_CNT 0).Canon := by
    unfold State.cond
    split
    · exact canonAfterCount hc _ _
    · exact hc
  rw [hshape, State.fld_trFire (canonAfterFld hd _ _ _) _ _ _ _ (by decide), State.fld_setFld_apart hd _ _ _ _ _ (by decide),
    State.fld_cond, State.fld_count_same hc _ _ (by decide), hf]
  rw [show 2 ^ (F.EVQ_STAT_DROP_CNT.hi + 1 - F.EVQ_STAT_DROP_CNT.lo) - 1 = 0xFFFF from rfl, satAdd_one_16]
  simp only [decide_eq_true_eq]

/-- Settles O55: by what `post` leaves in the queue, the counters and the registers. -/
theorem eventsAreNumberedAndTheOldestDropped : Obligations.EventsAreNumberedAndTheOldestDropped := by
  unfold Obligations.EventsAreNumberedAndTheOldestDropped
  intro s code unit data hi
  have hdepth := hi.depth
  have hfull : (64 ≤ s.evq.queue.length) = (s.evq.queue.length = 64) := propext ⟨fun h => by omega, fun h => by omega⟩
  obtain ⟨r, hqueue, hnum, hcode, hunit, hdata⟩ := post_appends (s := s) code unit data
  have hdrop := post_dropCount hi code unit data
  simp only [hfull] at hqueue hdrop
  exact ⟨_, r, rfl, hqueue, hnum, hcode, hunit, hdata, post_next .., post_depth hi .., hdrop, post_slots ..,
    (State.RegsBut.refl s _).post hi.canon _ _ _ fun _ h => h,
    (State.post_in (Within.refl (Part.mask [.regs, .evq, .trace, .recd]) s) rfl _ _ _).only⟩

/-! ### The reference angle (R439) -/

/-- The seconds, nanoseconds and fraction of a time in units of 2^-16 ns. -/
theorem thetaRef_split (fn w : F32) (sec ns frac : Nat) (hns : ns < 1000000000) (hfrac : frac < 65536) :
    thetaRef fn w ((sec * 1000000000 + ns) * 65536 + frac) =
      (turnRate fn w * sec * 2 ^ 32 + turnRate fn w * ns * 2 ^ 32 / 1000000000) % 2 ^ 64 := by
  unfold thetaRef
  have hsec : ((sec * 1000000000 + ns) * 65536 + frac) / (65536 * 1000000000) = sec := by omega
  have hrest : ((sec * 1000000000 + ns) * 65536 + frac) / 65536 % 1000000000 = ns := by omega
  simp only [hsec, hrest]

/-- Where f_n is a whole number of turns per second, whole seconds drop out. -/
theorem thetaRef_whole {fn w : F32} (h : turnRate fn w % 2 ^ 32 = 0) (sec ns : Nat) (hns : ns < 1000000000) :
    thetaRef fn w ((sec * 1000000000 + ns) * 65536) = turnRate fn w * ns * 2 ^ 32 / 1000000000 % 2 ^ 64 := by
  have hsplit := thetaRef_split fn w sec ns 0 hns (by decide)
  rw [Nat.add_zero] at hsplit
  obtain ⟨k, hk⟩ := Nat.dvd_of_mod_eq_zero h
  have hturns : turnRate fn w * sec * 2 ^ 32 = 2 ^ 64 * (k * sec) := by
    rw [hk]
    ring
  rw [hsplit, hturns, Nat.mul_add_mod]

/-- 50 Hz with a factor of one is 50 turns per second. -/
theorem turnRate_fifty : turnRate 0x42480000#32 0x3F800000#32 = 214748364800 := by decide

/-- Settles O60. -/
theorem referenceAngleIsExact : Obligations.ReferenceAngleIsExact := by
  unfold Obligations.ReferenceAngleIsExact
  refine ⟨thetaRef_split, fun fn w sec sec' ns hns h => ?_, turnRate_fifty, fun sec => ?_⟩
  · rw [thetaRef_whole h sec ns hns, thetaRef_whole h sec' ns hns]
  · rw [thetaRef_whole (by rw [turnRate_fifty]; decide) sec _ (by decide), turnRate_fifty]
    decide

end Sys2Proof.Machine
end

section
/-!
PROOFS. The Steward's reactions (10, Tables 10.2 to 10.4): the reaction by the class of a cause, and what a cause leaves that is only recorded.
-/
namespace Sys2Proof.Machine

variable {s : State}

/-! ### The reaction by class and role (Table 10.4) -/

/-- Causes 0x01 to 0x09 are of class P. -/
theorem causeClass_process {c : Nat} (h : c ≤ 0x09) : causeClass c = 0 := by
  unfold causeClass
  rw [if_neg (by omega), if_neg (by omega), if_pos (by omega)]

/-- Causes 0x13 to 0x17 are of class U. -/
theorem causeClass_unit {c : Nat} (hlo : 0x13 ≤ c) (hhi : c ≤ 0x17) : causeClass c = 2 := by
  unfold causeClass
  rw [if_neg (by omega), if_neg (by omega), if_neg (by omega), if_neg (by omega), if_pos (by omega)]

/-- Causes 0x10 to 0x18 are of class U or U*. -/
theorem causeClass_unit_or_star {c : Nat} (hlo : 0x10 ≤ c) (hhi : c ≤ 0x18) : causeClass c = 2 ∨ causeClass c = 3 := by
  unfold causeClass
  rw [if_neg (by omega), if_neg (by omega), if_neg (by omega)]
  split
  · exact .inr rfl
  · rw [if_pos (by omega)]
    exact .inl rfl

/-- Only causes 0x20 to 0x2F are of class F. -/
theorem causeClass_ne_fatal {c : Nat} (h : c < 0x20 ∨ c = 0x30) : causeClass c ≠ 4 := by
  unfold causeClass
  split_ifs <;> omega

/-- Only causes from 0x30 on are of class A. -/
theorem causeClass_ne_event {c : Nat} (h : c < 0x30) : causeClass c ≠ 5 := by
  unfold causeClass
  split_ifs <;> omega

theorem otherPaired_iff : s.otherPaired = true ↔ s.flag F.PAIR_CFG_PAIR_EN 0 = true ∧ s.isActive = false := by
  simp [State.otherPaired]

theorem withPartner_iff : s.withPartner = true ↔ s.isActive = true ∧ s.flag F.PAIR_STATUS_PARTNER_READY 0 = true := by
  simp [State.withPartner]

theorem reactionOf_process {c : Nat} (hc : causeClass c = 0) (srs : Bool) :
    s.reactionOf c srs = if srs then (if s.otherPaired then 0 else 3) else 4 := by
  unfold State.reactionOf
  cases srs <;> simp [hc]

theorem reactionOf_request {c : Nat} (hc : causeClass c = 1) (srs : Bool) : s.reactionOf c srs = if s.otherPaired then 0 else 3 := by
  unfold State.reactionOf
  simp [hc]

theorem reactionOf_unit {c : Nat} (hc : causeClass c = 2) (srs : Bool) :
    s.reactionOf c srs = if s.withPartner then 2 else if s.otherPaired then 1 else 3 := by
  unfold State.reactionOf
  simp [hc]

theorem reactionOf_star {c : Nat} (hc : causeClass c = 3) (srs : Bool) :
    s.reactionOf c srs = if s.withPartner then 2 else if s.otherPaired then 1 else 4 := by
  unfold State.reactionOf
  simp [hc]

/-- In ARMED without a Safe Ramp Stop the reaction by class governs. -/
theorem reaction_armed (h2 : s.stwState = 2) (hs : s.stw.srs = []) {c : Nat} (h4 : causeClass c ≠ 4) (h5 : causeClass c ≠ 5) (srs : Bool) :
    s.reaction c srs = s.reactionOf c srs := by
  unfold State.reaction
  simp [h2, hs, h4, h5]

/-- Class F leads to FATAL in every state (R319). -/
theorem reaction_fatal {c : Nat} (hc : causeClass c = 4) (srs : Bool) : s.reaction c srs = 5 := by
  unfold State.reaction
  rw [if_pos hc]

/-- A cause of class A is only recorded. -/
theorem reaction_recorded {c : Nat} (hc : causeClass c = 5) (srs : Bool) : s.reaction c srs = 0 := by
  unfold State.reaction
  simp [hc]

/-- Outside ARMED and INHIBIT a cause is only recorded (Table 10.2). -/
theorem reaction_elsewhere (h2 : s.stwState ≠ 2) (h3 : s.stwState ≠ 3) {c : Nat} (hc : causeClass c ≠ 4) (srs : Bool) :
    s.reaction c srs = 0 := by
  unfold State.reaction
  simp [h2, h3, hc]

/-- Over a local inhibit, or while a Safe Ramp Stop runs, an inhibit is only recorded and every other reaction governs (R309). -/
theorem reaction_over (h : s.stwState = 3 ∨ s.stwState = 2 ∧ s.stw.srs ≠ []) {c : Nat} (h4 : causeClass c ≠ 4) (h5 : causeClass c ≠ 5) (srs : Bool) :
    s.reaction c srs = if s.reactionOf c srs = 1 ∨ s.reactionOf c srs = 2 then 0 else s.reactionOf c srs := by
  unfold State.reaction
  rcases h with h3 | ⟨h2, hs⟩
  · simp [h3, h4, h5]
  · simp [h2, hs, h4, h5]

/-! ### A cause that is only recorded -/

/-- The registers that a cause writes before its event. -/
def State.causeNoted (s : State) (c : Nat) : State :=
  (((s.cond (s.fld F.STW_CAUSE_FIRST 0 == 0 || (s.stw.firstAt == some s.safClock && decide (c < s.fld F.STW_CAUSE_FIRST 0))) fun t =>
    ((t.setFld F.STW_CAUSE_FIRST 0 c).setFld F.STW_CAUSE_PNUM 0 (t.pwm.pnum % 65536)).modStw fun w =>
      { w with firstAt := some t.safClock }).setFld F.STW_CAUSE_LAST 0 c).count F.STW_CNT_CAUSE_CNT 0)

/-- A cause is noted and posted, and reacts. -/
theorem causeWith_eq (c : Nat) (srs : Bool) (mask : Nat) (cl : Bool) : s.causeWith c srs mask cl =
    (((s.causeNoted c).needPairs.post EV.EV_STW_CAUSE noUnit (c + 256 * s.reaction c srs)).react (s.reaction c srs)
      (if causeClass c = 2 then 0xFFF else mask) cl) := rfl

/-- One whose reaction is 0 does nothing more. -/
theorem causeWith_recorded {c : Nat} {srs : Bool} (h : s.reaction c srs = 0) (mask : Nat) (cl : Bool) :
    s.causeWith c srs mask cl = (s.causeNoted c).needPairs.post EV.EV_STW_CAUSE noUnit c := by
  rw [causeWith_eq, h]
  rfl

theorem causeNoted_evq (c : Nat) : (s.causeNoted c).evq = s.evq := by
  unfold State.causeNoted State.cond
  split <;> rfl

theorem needPairs_evq : s.needPairs.evq = s.evq := rfl

theorem needPairs_fld (f : Fld) (i : Nat) : s.needPairs.fld f i = s.fld f i := rfl

/-- A cause that is latched as the first. -/
theorem causeFirst_fields (hw : s.Canon) {c : Nat} (hc : c < 256) (n : Nat) :
    ((s.setFld F.STW_CAUSE_FIRST 0 c).setFld F.STW_CAUSE_PNUM 0 n).Canon ∧
      ((s.setFld F.STW_CAUSE_FIRST 0 c).setFld F.STW_CAUSE_PNUM 0 n).fld F.STW_CAUSE_FIRST 0 = c ∧
      ((s.setFld F.STW_CAUSE_FIRST 0 c).setFld F.STW_CAUSE_PNUM 0 n).fld F.STW_CNT_CAUSE_CNT 0 = s.fld F.STW_CNT_CAUSE_CNT 0 := by
  have h1 := canonAfterFld hw F.STW_CAUSE_FIRST 0 c
  refine ⟨canonAfterFld h1 _ _ _, ?_, ?_⟩
  · rw [State.fld_setFld_apart h1 _ _ _ _ _ (by decide), State.fld_setFld_same hw _ _ _ (by decide)]
    exact Nat.mod_eq_of_lt hc
  · rw [State.fld_setFld_apart h1 _ _ _ _ _ (by decide), State.fld_setFld_apart hw _ _ _ _ _ (by decide)]

/-- Every cause is shown as the last one and counted. -/
theorem causeLast_fields (hw : s.Canon) {c : Nat} (hc : c < 256) :
    ((s.setFld F.STW_CAUSE_LAST 0 c).count F.STW_CNT_CAUSE_CNT 0).Canon ∧
      ((s.setFld F.STW_CAUSE_LAST 0 c).count F.STW_CNT_CAUSE_CNT 0).fld F.STW_CAUSE_LAST 0 = c ∧
      ((s.setFld F.STW_CAUSE_LAST 0 c).count F.STW_CNT_CAUSE_CNT 0).fld F.STW_CAUSE_FIRST 0 = s.fld F.STW_CAUSE_FIRST 0 ∧
      ((s.setFld F.STW_CAUSE_LAST 0 c).count F.STW_CNT_CAUSE_CNT 0).fld F.STW_CNT_CAUSE_CNT 0 = min 255 (s.fld F.STW_CNT_CAUSE_CNT 0 + 1) := by
  have h1 := canonAfterFld hw F.STW_CAUSE_LAST 0 c
  refine ⟨canonAfterCount h1 _ _, ?_, ?_, ?_⟩
  · rw [State.fld_count_apart h1 _ _ _ _ (by decide), State.fld_setFld_same hw _ _ _ (by decide)]
    exact Nat.mod_eq_of_lt hc
  · rw [State.fld_count_apart h1 _ _ _ _ (by decide), State.fld_setFld_apart hw _ _ _ _ _ (by decide)]
  · rw [State.fld_count_same h1 _ _ (by decide), State.fld_setFld_apart hw _ _ _ _ _ (by decide)]
    exact satAdd_one_8 _

/-- STW_CAUSE as a cause leaves it: FIRST is the cause where none was latched or where it is the lowest of its SAF clock (R307). -/
theorem causeNoted_fields (hw : s.Canon) {c : Nat} (hc : c < 256) :
    (s.causeNoted c).Canon ∧ (s.causeNoted c).fld F.STW_CAUSE_LAST 0 = c ∧
      (s.causeNoted c).fld F.STW_CAUSE_FIRST 0 = (if s.fld F.STW_CAUSE_FIRST 0 = 0 ∨ (s.stw.firstAt = some s.safClock ∧
        c < s.fld F.STW_CAUSE_FIRST 0) then c else s.fld F.STW_CAUSE_FIRST 0) ∧
      (s.causeNoted c).fld F.STW_CNT_CAUSE_CNT 0 = min 255 (s.fld F.STW_CNT_CAUSE_CNT 0 + 1) := by
  unfold State.causeNoted State.cond
  simp only [Bool.or_eq_true, beq_iff_eq, Bool.and_eq_true, decide_eq_true_eq]
  by_cases hcond : s.fld F.STW_CAUSE_FIRST 0 = 0 ∨ s.stw.firstAt = some s.safClock ∧ c < s.fld F.STW_CAUSE_FIRST 0
  · obtain ⟨hcanon, hfirst, hcount⟩ := causeFirst_fields hw hc (s.pwm.pnum % 65536)
    have hlast := causeLast_fields (canonAfterModStw hcanon fun w => { w with firstAt := some s.safClock }) hc
    simp only [State.modStw_fld, hfirst, hcount] at hlast
    rw [if_pos hcond, if_pos hcond]
    exact hlast
  · rw [if_neg hcond, if_neg hcond]
    exact causeLast_fields hw hc

theorem causeNoted_in (c : Nat) : Within (Part.mask [.regs, .evq, .trace, .stw, .recd]) s (s.causeNoted c) := by
  have h := Within.refl (Part.mask [.regs, .evq, .trace, .stw, .recd]) s
  unfold State.causeNoted
  refine State.count_in (State.setFld_in (State.cond_in h rfl fun t ht => ?_) rfl _ _ _) rfl _ _
  exact State.modStw_in (State.setFld_in (State.setFld_in ht rfl _ _ _) rfl _ _ _) rfl _

/-- Settles O53: the reaction by the class of the cause and the role of the unit, and a recorded cause by what it writes. -/
theorem stewardReactsByTheTable : Obligations.StewardReactsByTheTable := by
  unfold Obligations.StewardReactsByTheTable
  refine ⟨fun s h2 hs => ⟨fun c hlo hhi => ?_, fun b => ?_, fun c b hlo hhi => ?_, fun c hc b => ?_⟩,
    fun s b => ⟨reaction_fatal rfl b, reaction_fatal rfl b⟩, fun s c b h2 h3 _ _ hc => reaction_elsewhere h2 h3 (causeClass_ne_fatal hc) b,
    fun s c b h hactive hready => ⟨fun hlo hhi => ?_, fun hlo hhi => ?_⟩, fun s c mask srs cl hw h0 _ hc => ?_⟩
  · have hk := causeClass_process hhi
    rw [reaction_armed h2 hs (by omega) (by omega), reaction_armed h2 hs (by omega) (by omega), reactionOf_process hk, reactionOf_process hk]
    simp [otherPaired_iff]
  · rw [reaction_armed h2 hs (by decide) (by decide), reaction_recorded rfl, reaction_armed h2 hs (by decide) (by decide), reactionOf_request (c := 0x0B) rfl]
    simp [otherPaired_iff, State.reactionOf, causeClass]
  · have hk := causeClass_unit hlo hhi
    rw [reaction_armed h2 hs (by omega) (by omega), reactionOf_unit hk]
    simp only [withPartner_iff, otherPaired_iff]
  · have hk : causeClass c = 3 := by revert c; decide
    rw [reaction_armed h2 hs (by omega) (by omega), reactionOf_star hk]
    simp only [withPartner_iff, otherPaired_iff]
  · have hp : s.withPartner = true := withPartner_iff.mpr ⟨hactive, hready⟩
    rcases causeClass_unit_or_star hlo hhi with hk | hk
    · rw [reaction_over h (by omega) (by omega), reactionOf_unit hk, hp]
      rfl
    · rw [reaction_over h (by omega) (by omega), reactionOf_star hk, hp]
      rfl
  · have hk : s.reactionOf c false = 4 := by
      rcases Nat.lt_or_ge c 0x0A with hlt | hge
      · rw [reactionOf_process (causeClass_process (by omega))]
        rfl
      · rw [show c = 0x0A by omega]
        rfl
    rw [reaction_over h (causeClass_ne_fatal (by omega)) (causeClass_ne_event (by omega)), hk]
    rfl
  · obtain ⟨hcanon, hlast, hfirst, hcount⟩ := causeNoted_fields hw hc
    have hcanon : (s.causeNoted c).needPairs.Canon := hcanon
    refine ⟨_, rfl, ?_⟩
    rw [causeWith_recorded h0]
    refine ⟨State.post_told (by rw [needPairs_evq, causeNoted_evq]) _ _ _, ?_, ?_, ?_, ?_⟩
    · rw [State.fld_post hcanon _ _ _ _ _ (by decide), needPairs_fld, hlast]
    · rw [State.fld_post hcanon _ _ _ _ _ (by decide), needPairs_fld, hfirst]
    · rw [State.fld_post hcanon _ _ _ _ _ (by decide), needPairs_fld, hcount]
    · exact (State.post_in (State.needPairs_in (causeNoted_in c) rfl) rfl _ _ _).only

end Sys2Proof.Machine
end

section
/-!
PROOFS. What every command of Fencen's service leaves (R375, R380): its completion after an operation that touches neither the mailboxes nor
what the SVP runs by, and the parts that answering, taking and completing a command touch.
-/
namespace Sys2Proof.Machine

variable {s t : State} {op : Nat} {tag : Fin 128} {e : Entry}

/-! ### What the SVP runs by -/

theorem State.svpClock_congr (hf : t.fcp.svpHalted = s.fcp.svpHalted) (hg : t.fld F.GAIT_STATUS_GAIT 0 = s.fld F.GAIT_STATUS_GAIT 0)
    (hc : t.fld F.CLK_STAT_CLK_OK 0 = s.fld F.CLK_STAT_CLK_OK 0) : t.svpClock = s.svpClock := by
  unfold State.svpClock State.gait State.clkOk
  rw [hf, hg, hc]

theorem State.svpRuns_congr (hf : t.fcp = s.fcp) (hg : t.fld F.GAIT_STATUS_GAIT 0 = s.fld F.GAIT_STATUS_GAIT 0)
    (hc : t.fld F.CLK_STAT_CLK_OK 0 = s.fld F.CLK_STAT_CLK_OK 0) : t.svpRuns = s.svpRuns := by
  unfold State.svpRuns
  rw [State.svpClock_congr (by rw [hf]) hg hc, hf]

/-- An operation whose fields are neither GAIT nor CLK_OK leaves Fencen running as it was. -/
theorem State.RegsBut.svpRuns {l : List (Fld × Nat)} (h : s.RegsBut t l) (hf : t.fcp = s.fcp)
    (hg : l.all (fun x => F.GAIT_STATUS_GAIT.apart x.1) = true) (hc : l.all (fun x => F.CLK_STAT_CLK_OK.apart x.1) = true) :
    t.svpRuns = s.svpRuns := State.svpRuns_congr hf (h.fld _ _ hg) (h.fld _ _ hc)

/-- One that touches no register does so too. -/
theorem State.svpRuns_of_regs (hf : t.fcp = s.fcp) (hr : t.regs = s.regs) : t.svpRuns = s.svpRuns :=
  State.svpRuns_congr hf (by unfold State.fld; rw [hr]) (by unfold State.fld; rw [hr])

/-! ### Commands that Fencen serves -/

theorem State.Serves.inv (h : s.Serves op tag e) : s.Inv := h.1

theorem State.Serves.canon (h : s.Serves op tag e) : s.Canon := h.1.canon

theorem State.Serves.runs (h : s.Serves op tag e) : s.svpRuns = true := (ready_found h.2.1).1

/-- The completion that the command leaves behind an operation outside the mailboxes. -/
theorem State.Serves.complete_answered (h : s.Serves op tag e) (hv : t.svpRuns = s.svpRuns) (hf : t.fcp = s.fcp) {status : Nat}
    (pnum : Nat) (res pay : List Byte) (hs : status < 65536) : (t.complete e.tag status pnum res pay).Answered tag status res pay := by
  rw [h.tag_eq]
  exact State.complete_answered h.1 h.2.1 hf (hv.trans h.runs) _ _ _ _ hs

theorem State.Serves.done_after (h : s.Serves op tag e) (hv : t.svpRuns = s.svpRuns) (hf : t.fcp = s.fcp) {status : Nat}
    (hs : status < 65536) : (t.done e.tag status).Answered tag status [] [] := h.complete_answered hv hf _ _ _ hs

theorem State.Serves.completed (h : s.Serves op tag e) {status : Nat} (pnum : Nat) (res pay : List Byte) (hs : status < 65536) :
    (s.complete e.tag status pnum res pay).Answered tag status res pay := h.complete_answered rfl rfl pnum res pay hs

/-- The command waits in flight behind an operation outside the mailboxes. -/
theorem State.Serves.waits (h : s.Serves op tag e) (hf : t.fcp = s.fcp) (hn : t.now = s.now) (hb : t.pwm.bnd = s.pwm.bnd) :
    s.Waits (t.start e.tag) tag := by
  rw [h.tag_eq]
  exact State.start_waits h.2.1 hf hn hb

theorem State.complete_only (tag status pnum : Nat) (res pay : List Byte) : s.Only (s.complete tag status pnum res pay) [.fcp, .macs] :=
  (State.complete_in (Within.refl (Part.mask [.fcp, .macs]) s) rfl _ _ _ _ _).only

theorem State.start_only (tag : Nat) : s.Only (s.start tag) [.fcp] :=
  (State.start_in (Within.refl (Part.mask [.fcp]) s) rfl tag).only

end Sys2Proof.Machine
end

section
/-!
PROOFS. The TRACE commands (R121 to R123, R405): what each leaves in its channel, and the copy of a buffer.
-/
namespace Sys2Proof.Machine

variable {s t : State} {tag : Fin 128} {e : Entry}

theorem State.tr_modTr {c : Nat} (hc : c < 8) (f : TraceCh → TraceCh) : (s.modTr c f).tr c = f (s.tr c) := vget_same _ _ _ hc

theorem State.done_tr (tag status c : Nat) : (s.done tag status).tr c = s.tr c := by
  unfold State.tr
  rw [State.done_trace]

theorem State.done_trState (tag status c : Nat) : (s.done tag status).trState c = s.trState c := State.done_fld _ _ _ _

/-- A channel as TR_ARM configures it. -/
def State.armed (s : State) (c : Nat) (cfg ctl level : Word) : State :=
  ((((s.setReg R.TRACE_CFG c cfg).setReg R.TRACE_CTL c ctl).setReg R.TRACE_LEVEL c level).setFld F.TRACE_CTL_STATE c 1).modTr c fun _ => {}

theorem execTrArm_taken (h : s.Serves 0x0501 tag e) (hc : e.a 0 < 8) (hargs : trArgsOk (e.af 4) (e.af 8) = true)
    (hcopy : (s.tr (e.a 0)).copying = false) (hlive : s.trLive (e.a 0) = true → s.reg R.TRACE_CFG (e.a 0) = e.af 4) :
    exec (.trArm tag) s = .next ((s.armed (e.a 0) (e.af 4) (e.af 8) (e.af 12)).done e.tag FS.FS_OK) := by
  refine (serve_eq h _).trans (congrArg _ ?_)
  have hbusy : (s.trLive (e.a 0) && s.reg R.TRACE_CFG (e.a 0) != e.af 4) = false := by
    cases hl : s.trLive (e.a 0)
    · rfl
    · rw [hlive hl]
      simp
  simp only [Nat.not_lt.mpr (Nat.le_of_lt_succ hc), hargs, hcopy, hbusy, decide_false, Bool.not_true, Bool.or_false, Bool.false_eq_true, if_false]
  rfl

/-- What arming leaves in the registers and in the channel. -/
theorem armed_leaves (hw : s.Canon) {c : Nat} (hc : c < 8) (cfg ctl level : Word) :
    (s.armed c cfg ctl level).trState c = 1 ∧ (s.armed c cfg ctl level).reg R.TRACE_CFG c = cfg ∧
      (s.armed c cfg ctl level).reg R.TRACE_LEVEL c = level ∧ (s.armed c cfg ctl level).tr c = {} ∧
      (s.armed c cfg ctl level).svpRuns = s.svpRuns := by
  have h1 := canonAfterReg hw R.TRACE_CFG c cfg
  have h2 := canonAfterReg h1 R.TRACE_CTL c ctl
  have h3 := canonAfterReg h2 R.TRACE_LEVEL c level
  unfold State.armed State.trState
  refine ⟨?_, ?_, ?_, State.tr_modTr hc _, ?_⟩
  · rw [State.modTr_fld, State.fld_setFld_same h3 _ _ _ (by decide)]
    rfl
  · rw [State.modTr_reg, State.reg_setFld_apart h3 _ _ _ _ _ (by decide), State.reg_setReg_apart h2 _ _ _ _ _ (by decide),
      State.reg_setReg_apart h1 _ _ _ _ _ (by decide), State.reg_setReg_same hw]
  · rw [State.modTr_reg, State.reg_setFld_apart h3 _ _ _ _ _ (by decide), State.reg_setReg_same h2]
  · have hregs : s.RegsBut (((((s.setReg R.TRACE_CFG c cfg).setReg R.TRACE_CTL c ctl).setReg R.TRACE_LEVEL c level).setFld F.TRACE_CTL_STATE c 1))
        [(R.TRACE_CFG.whole, c), (R.TRACE_CTL.whole, c), (R.TRACE_LEVEL.whole, c), (F.TRACE_CTL_STATE, c)] :=
      ((((State.RegsBut.refl s _).setReg hw _ _ _ (by simp [Reg.whole])).setReg h1 _ _ _ (by simp [Reg.whole])).setReg h2 _ _ _
        (by simp [Reg.whole])).setFld h3 _ _ _ (by simp) (by decide)
    exact (hregs.modTr c _).svpRuns rfl rfl rfl

/-- The trigger of an armed channel. -/
theorem trTrigger_armed {c : Nat} (h : s.trState c = 1) :
    s.trTrigger c = (s.setFld F.TRACE_CTL_STATE c 2).modTr c fun t => { t with trigAt := some t.total } := if_pos h

theorem execTrTrig_taken (h : s.Serves 0x0502 tag e) (hc : e.a 0 < 8) (harmed : s.trState (e.a 0) = 1)
    (hsrc : s.fld F.TRACE_CTL_TRIG_SRC (e.a 0) = 0) : exec (.trTrig tag) s = .next ((s.trTrigger (e.a 0)).done e.tag FS.FS_OK) := by
  refine (serve_eq h _).trans (congrArg _ ?_)
  simp [Nat.not_lt.mpr (Nat.le_of_lt_succ hc), harmed, hsrc]

/-- A channel that TR_STOP stops. -/
def State.trStopped (s : State) (c : Nat) : State := (s.setFld F.TRACE_CTL_STATE c 0).modTr c fun x => { x with stopped := true }

theorem execTrStop_live (h : s.Serves 0x0503 tag e) (hc : e.a 0 < 8) (hlive : s.trLive (e.a 0) = true) :
    exec (.trStop tag) s = .next ((s.trStopped (e.a 0)).done e.tag FS.FS_OK) := by
  refine (serve_eq h _).trans (congrArg _ ?_)
  simp only [Nat.not_lt.mpr (Nat.le_of_lt_succ hc), if_false, hlive, State.cond_true]
  rfl

theorem execTrStop_idle (h : s.Serves 0x0503 tag e) (hc : e.a 0 < 8) (hlive : s.trLive (e.a 0) = false) :
    exec (.trStop tag) s = .next (s.done e.tag FS.FS_OK) := by
  refine (serve_eq h _).trans (congrArg _ ?_)
  simp only [Nat.not_lt.mpr (Nat.le_of_lt_succ hc), if_false, hlive, State.cond_false]

/-- STATE of a channel, written with a change of its record. -/
theorem trState_moves (hw : s.Canon) {c n : Nat} (hc : c < 8) (hn : n < 4) (f : TraceCh → TraceCh) :
    ((s.setFld F.TRACE_CTL_STATE c n).modTr c f).trState c = n ∧ ((s.setFld F.TRACE_CTL_STATE c n).modTr c f).tr c = f (s.tr c) ∧
      s.RegsBut ((s.setFld F.TRACE_CTL_STATE c n).modTr c f) [(F.TRACE_CTL_STATE, c)] := by
  refine ⟨?_, State.tr_modTr hc f, ((State.RegsBut.refl s _).setFld hw _ _ _ (by simp) (by decide)).modTr c f⟩
  unfold State.trState
  rw [State.modTr_fld, State.fld_setFld_same hw _ _ _ (by decide)]
  exact Nat.mod_eq_of_lt hn

/-- TR_READ within the samples that the channel offers. -/
theorem execTrRead_taken (h : s.Serves 0x0504 tag e) (hc : e.a 0 < 8) (h1 : 1 ≤ e.a16 8) (h256 : e.a16 8 ≤ 256)
    (hlive : s.trLive (e.a 0) = false) (hcount : e.a32 4 + e.a16 8 ≤ s.trCount (e.a 0)) :
    exec (.trRead tag) s = .next (if (s.tr (e.a 0)).copying then s.start e.tag
      else if s.trHolds (e.a 0) then (s.start e.tag).modTr (e.a 0) fun t => { t with copying := true } else s.trAnswer e) := by
  refine (serve_eq h _).trans (congrArg _ ?_)
  have h0 : ¬ e.a16 8 = 0 := by omega
  simp [Nat.not_lt.mpr (Nat.le_of_lt_succ hc), h0, Nat.not_lt.mpr h256, hlive, Nat.not_lt.mpr hcount]

/-- Answering the reads that wait touches the mailboxes and what leaves on the MACs alone. -/
theorem trAnswer_foldl (l : List Entry) : ∀ s : State, (l.foldl State.trAnswer s).regs = s.regs ∧ (l.foldl State.trAnswer s).trace = s.trace := by
  induction l with
  | nil => exact fun s => ⟨rfl, rfl⟩
  | cons x l ih =>
    intro s
    obtain ⟨hregs, htrace⟩ := ih (s.trAnswer x)
    exact ⟨hregs.trans (State.complete_regs ..), htrace.trans (State.complete_trace ..)⟩

/-- The channel at the end of its copy (R123). -/
def TraceCh.copied (t : TraceCh) : TraceCh := { t with
  copying := false, stopped := false, copy := some t.buf
  copyP := t.pnum0 + t.dropped * t.stepP, copyT := t.time0 + t.dropped * t.stepT
  copyTrig := match t.trigAt with
    | some a => a - t.dropped
    | none => 0xFFFF }

theorem execTraceCopyComplete_copying (ch : Fin 8) (h : (s.tr ch).copying = true) : ∃ l : List Entry, exec (.traceCopyComplete ch) s =
    .next (l.foldl State.trAnswer ((s.setFld F.TRACE_CTL_STATE ch 0).modTr ch TraceCh.copied)) := by
  refine ⟨_, congrArg Host.Outcome.next (if_neg ?_)⟩
  rw [h]
  decide

/-- Settles O2: each command by the branch that its hypotheses choose, and by what that branch writes in the channel. -/
theorem traceCommandsComplete : Obligations.TraceCommandsComplete := by
  unfold Obligations.TraceCommandsComplete
  refine ⟨fun s tag e h hc hargs hcopy hlive => ?_, fun s tag e h hc harmed hsrc => ?_, fun s tag e h hc hlive => ?_,
    fun s tag e h hc h1 h256 hlive hcount => ?_, fun s ch hw hcopy => ?_, fun s tag e h hc hlive => ?_⟩
  · obtain ⟨hstate, hcfg, hlevel, htr, hruns⟩ := armed_leaves h.canon hc (e.af 4) (e.af 8) (e.af 12)
    exact ⟨_, execTrArm_taken h hc hargs hcopy hlive, (State.done_trState ..).trans hstate, (State.done_reg ..).trans hcfg,
      (State.done_reg ..).trans hlevel, (State.done_tr ..).trans htr, h.done_after hruns rfl (by decide)⟩
  · have hexec := execTrTrig_taken h hc harmed hsrc
    rw [trTrigger_armed harmed] at hexec
    obtain ⟨hstate, htr, hregs⟩ := trState_moves h.canon hc (by decide : 2 < 4) fun t => { t with trigAt := some t.total }
    exact ⟨_, hexec, (State.done_trState ..).trans hstate, by rw [State.done_tr, htr], by rw [State.done_tr, htr], hregs.done _ _,
      h.done_after (hregs.svpRuns rfl rfl rfl) rfl (by decide)⟩
  · obtain ⟨hstate, htr, hregs⟩ := trState_moves h.canon hc (by decide : 0 < 4) fun t => { t with stopped := true }
    exact ⟨_, execTrStop_live h hc hlive, (State.done_trState ..).trans hstate, (congrArg TraceCh.buf ((State.done_tr ..).trans htr)).trans rfl,
      hregs.done _ _, h.done_after (hregs.svpRuns rfl rfl rfl) rfl (by decide)⟩
  · refine ⟨_, execTrRead_taken h hc h1 h256 hlive hcount, fun hcopy => ?_, fun hcopy hholds => ?_, fun hcopy hholds => ?_⟩
    · rw [if_pos hcopy]
      exact ⟨h.waits rfl rfl rfl, State.start_only _⟩
    · rw [if_neg (by rw [hcopy]; decide), if_pos hholds]
      exact ⟨h.waits rfl rfl rfl, congrArg TraceCh.copying (State.tr_modTr hc _)⟩
    · rw [if_neg (by rw [hcopy]; decide), if_neg (by rw [hholds]; decide)]
      exact h.completed _ _ _ (by decide)
  · obtain ⟨l, hexec⟩ := execTraceCopyComplete_copying ch hcopy
    obtain ⟨hregs', htrace'⟩ := trAnswer_foldl l ((s.setFld F.TRACE_CTL_STATE ch 0).modTr ch TraceCh.copied)
    obtain ⟨hstate, htr, hregs⟩ := trState_moves hw ch.isLt (by decide : 0 < 4) TraceCh.copied
    refine ⟨_, hexec, ?_, ?_, ?_, hregs.same hregs'⟩
    · rwa [State.trState, State.fld, hregs']
    · rw [State.tr, htrace', ← State.tr, htr]
      rfl
    · rw [State.tr, htrace', ← State.tr, htr]
      rfl
  · exact ⟨_, execTrStop_idle h hc hlive, h.completed _ _ _ (by decide), State.done_only _ _⟩

end Sys2Proof.Machine
end

section
/-!
PROOFS. The ADC's commands (R149 to R163): the hold edges, the end of a conversion, and the reference and its calibration.
-/
namespace Sys2Proof.Machine

variable {s : State}

theorem State.core_modCore {c : Nat} (hc : c < 24) (f : CoreSt → CoreSt) : (s.modCore c f).core c = f (s.core c) := vget_same _ _ _ hc

/-- The status bits of a core lie outside the record of its conversion. -/
theorem State.core_coreStat (c k : Nat) : (s.coreStat c).core k = s.core k := rfl

theorem State.cond_adc {b : Bool} {f : State → State} (hf : (f s).adc.cores = s.adc.cores) (k : Nat) : (s.cond b f).core k = s.core k := by
  cases b
  · rfl
  · exact congrArg (fun v => vget v k) hf

/-- What a hold edge starts. -/
def State.holds (s : State) (c input int src : Nat) (cle : Bool) (nv : Int) : Conv := {
  input := input, int := int, src := src, cle := cle, code := if input = 2 then internalCode int nv else codeOf nv
  ovr := input != 2 && ovrOf (ainOf c input int) nv, startup := s.gait == Gait.walk, pnum := s.pwm.pnum
  ofs := s.now - s.pwm.tk, ends := s.now + s.tConv }

theorem State.hold_core {c : Nat} (hc : c < 24) (input int src : Nat) (cle : Bool) (nv : Int) :
    (s.hold c input int src cle nv).core c = { s.core c with conv := some (s.holds c input int src cle nv) } := by
  unfold State.hold
  rw [State.core_coreStat, State.core_modCore hc, State.cond_adc rfl]
  rfl

/-- BUSY shows whether the core converts. -/
theorem State.coreStat_busy (hw : s.Canon) (c : Nat) : (s.coreStat c).flag F.ADC_CORE_STAT_BUSY c = (s.core c).conv.isSome := by
  unfold State.coreStat
  have h1 := canonAfterFlag hw F.ADC_CORE_STAT_BUSY c (s.core c).conv.isSome
  rw [State.flag_setFlag_apart (canonAfterFlag h1 _ _ _) _ _ _ _ _ (by decide), State.flag_setFlag_apart h1 _ _ _ _ _ (by decide),
    State.flag_setFlag_same hw _ _ _ (by decide)]

theorem State.hold_busy (hw : s.Canon) {c : Nat} (hc : c < 24) (input int src : Nat) (cle : Bool) (nv : Int) :
    (s.hold c input int src cle nv).flag F.ADC_CORE_STAT_BUSY c = true := by
  unfold State.hold
  rw [State.coreStat_busy, State.core_modCore hc]
  · rfl
  · refine canonAfterModCore ?_ _ _
    cases input != 2
    · exact hw
    · exact hw

/-- A timed instant acts outside Paddock, while the generator counts and the ADC, calibrated, has its clock. -/
theorem execHoldEdge_due {core : Fin 24} {entry : Fin 8} (hg : s.gait ≠ Gait.paddock) (hd : s.seqDue core entry = true)
    (hh : s.genHeld = false) (hc : s.clkOk 5 = true) (hcal : s.flag F.ADC_STATUS_CAL_DONE 0 = true) (nv : Int) :
    exec (.holdEdge core entry nv) s = .next (
      if (s.core core).conv.isSome || decide (s.seqAt core entry < 0) || decide ((s.fineP : Int) ≤ s.seqAt core entry)
      then s.seqMiss core entry
      else s.hold core (s.seq F.ADC_SEQ_INPUT core entry) (s.seq F.ADC_SEQ_INT core entry) 0 (s.seq F.ADC_SEQ_CLE core entry == 1) nv) := by
  refine congrArg Host.Outcome.next (if_neg ?_)
  simp [hg, hd, hh, hc, hcal]

/-- A missed instant: counted, posted, and shown in the input's sample where it was a CLE entry's. -/
theorem seqMiss_only (c e : Nat) : s.Only (s.seqMiss c e) [.regs, .evq, .trace, .recd] :=
  (State.seqMiss_in (Within.refl (Part.mask [.regs, .evq, .trace, .recd]) s) rfl c e).only

theorem seqMiss_counted (hw : s.Canon) (c e : Nat) : (s.seqMiss c e).fld F.ADC_CORE_STAT_SEQ_MISS c =
    satAdd (s.fld F.ADC_CORE_STAT_SEQ_MISS c) 1 (2 ^ (F.ADC_CORE_STAT_SEQ_MISS.hi + 1 - F.ADC_CORE_STAT_SEQ_MISS.lo) - 1) := by
  have hcount := canonAfterCount hw F.ADC_CORE_STAT_SEQ_MISS c
  have hpost := (State.fld_post hcount F.ADC_CORE_STAT_SEQ_MISS c EV.EV_ADC_SEQ_MISS c e (by decide)).trans
    (State.fld_count_same hw F.ADC_CORE_STAT_SEQ_MISS c (by decide))
  unfold State.seqMiss State.cond
  split
  · rw [State.fld_setFlag_apart (canonAfterPost hcount _ _ _) _ _ _ _ _ (by decide), hpost]
  · exact hpost

theorem seqMiss_told (c e : Nat) : s.Told (s.seqMiss c e) EV.EV_ADC_SEQ_MISS c e := by
  obtain ⟨r, hr, h⟩ := State.post_told (s0 := s) (s := s.count F.ADC_CORE_STAT_SEQ_MISS c) (Nat.le_refl _) EV.EV_ADC_SEQ_MISS c e
  refine ⟨r, ?_, h⟩
  unfold State.seqMiss State.cond
  split
  · exact hr
  · exact hr

theorem seqMiss_host (hw : s.Canon) {c e : Nat} (h : s.seq F.ADC_SEQ_CLE c e = 0) :
    s.RegsBut (s.seqMiss c e) ((F.ADC_CORE_STAT_SEQ_MISS, c) :: evqFlds) := by
  have hmiss : s.seqMiss c e = (s.count F.ADC_CORE_STAT_SEQ_MISS c).post EV.EV_ADC_SEQ_MISS c e := by
    unfold State.seqMiss
    rw [h]
    rfl
  rw [hmiss]
  exact ((State.RegsBut.refl s _).count hw _ _ (by simp) (by decide)).post (canonAfterCount hw _ _) _ _ _ fun x hx => List.mem_cons_of_mem _ hx

theorem seqMiss_cle (hw : s.Canon) {c e : Nat} (h : s.seq F.ADC_SEQ_CLE c e = 1) :
    (s.seqMiss c e).flag F.AIN_SAMP_MISSED (ainOf c (s.seq F.ADC_SEQ_INPUT c e) (s.seq F.ADC_SEQ_INT c e)) = true := by
  unfold State.seqMiss
  rw [h]
  exact State.flag_setFlag_same (canonAfterPost (canonAfterCount hw _ _) _ _ _) _ _ _ (by decide)

theorem execUrgentHoldEdge_taken {core : Fin 24} {u : Urgent} (hu : (s.core core).urg = some u) (hconv : (s.core core).conv = none)
    (hc : s.clkOk 5 = true) (nv : Int) :
    exec (.urgentHoldEdge core nv) s = .next ((s.modCore core fun k => { k with urg := none }).hold core u.input u.int 1 false nv) := by
  show execUrgentHoldEdge core nv s = _
  unfold execUrgentHoldEdge
  simp [hu, hconv, hc]

/-- A due instant of a core that does not convert starts the conversion of its entry. -/
theorem holdEdge_starts {core : Fin 24} {entry : Fin 8} {i n : Nat} (hw : s.Canon) (hg : s.gait ≠ Gait.paddock) (hd : s.seqDue core entry = true)
    (hh : s.genHeld = false) (hc : s.clkOk 5 = true) (hcal : s.flag F.ADC_STATUS_CAL_DONE 0 = true) (hconv : (s.core core).conv = none)
    (h0 : 0 ≤ s.seqAt core entry) (hP : s.seqAt core entry < s.fineP) (hi : i = s.seq F.ADC_SEQ_INPUT core entry)
    (hn : n = s.seq F.ADC_SEQ_INT core entry) (nv : Int) :
    ∃ t, exec (.holdEdge core entry nv) s = .next t ∧
      (t.core core).conv = some (s.holds core i n 0 (s.seq F.ADC_SEQ_CLE core entry == 1) nv) ∧ t.flag F.ADC_CORE_STAT_BUSY core = true := by
  refine ⟨_, execHoldEdge_due hg hd hh hc hcal nv, ?_⟩
  rw [if_neg (by simp [hconv, h0, hP]), hi, hn]
  exact ⟨congrArg CoreSt.conv (State.hold_core core.isLt ..), State.hold_busy hw core.isLt ..⟩

/-- Settles O3: the hold edges start the conversion that their entry or request names, or count a miss; the other commands are their own
definition where their condition holds. -/
theorem adcCommandsComplete : Obligations.AdcCommandsComplete := by
  unfold Obligations.AdcCommandsComplete
  refine ⟨fun s core entry nv i n hw hg hd hh hc hcal hconv h0 hP hi hn => holdEdge_starts hw hg hd hh hc hcal hconv h0 hP hi hn nv,
    fun s core entry nv hw hg hd hh hc hcal hmiss => ?_, fun s core nv u hu hconv hc => ?_, fun s _ hext hfault => ?_, fun s => rfl,
    fun s hw => ?_, fun s core nv v hv => ?_, fun s core nv hv => ?_⟩
  · refine ⟨_, execHoldEdge_due hg hd hh hc hcal nv, ?_⟩
    rw [if_pos (by simpa [or_assoc] using hmiss)]
    exact ⟨seqMiss_told .., seqMiss_only _ _, seqMiss_counted hw .., seqMiss_host hw, seqMiss_cle hw⟩
  · refine ⟨_, execUrgentHoldEdge_taken hu hconv hc nv, ?_, ?_⟩
    · rw [State.hold_core core.isLt, State.core_modCore core.isLt]
    · rw [State.hold_core core.isLt]
      rfl
  · refine congrArg Host.Outcome.next (if_pos ?_)
    rw [hext, hfault]
    rfl
  · exact ⟨_, rfl, State.flag_setFlag_same hw _ _ _ (by decide), (State.RegsBut.refl s _).setFlag hw _ _ _ (by simp) (by decide),
      (State.setFlag_in (Within.refl (Part.mask [.regs]) s) rfl _ _ _).only⟩
  · show execConversionComplete core nv s = _
    unfold execConversionComplete
    rw [hv]
  · show execConversionComplete core nv s = _
    unfold execConversionComplete
    rw [hv]

end Sys2Proof.Machine
end

section
/-!
PROOFS. The PWM generator's edge commands (R198, R199, R225, R230, R231): the calibration of the delay line, the carrier events and the
delivered edges.
-/
namespace Sys2Proof.Machine

variable {s : State}

/-! ### Calibration -/

/-- LOCK after a measurement: the counts of measurements within and outside 1 of equality decide it at 16. -/
def lockAfter (was near : Bool) (calIn calOut : Nat) : Bool :=
  if (if near then min 16 (calIn + 1) else 0) = 16 then true
  else if (if near then 0 else min 16 (calOut + 1)) = 16 then false else was

theorem lockAfter_near (was : Bool) (calIn calOut : Nat) : lockAfter was true calIn calOut = if 15 ≤ calIn then true else was := by
  unfold lockAfter
  have h : min 16 (calIn + 1) = 16 ↔ 15 ≤ calIn := by omega
  simp [h]

theorem lockAfter_far (was : Bool) (calIn calOut : Nat) : lockAfter was false calIn calOut = if 15 ≤ calOut then false else was := by
  unfold lockAfter
  have h : min 16 (calOut + 1) = 16 ↔ 15 ≤ calOut := by omega
  simp [h]

/-- The delay line's status and the generator's counts after a measurement. -/
def State.measured (s : State) (c : Nat × Bool) (lock : Bool) (f : PwmSt → PwmSt) : State :=
  (((s.setFld F.DL_STAT_CAL_CODE 0 c.1).setFlag F.DL_STAT_CAL_SAT 0 c.2).setFlag F.DL_STAT_LOCK 0 lock).modPwm f

theorem measured_canon (hw : s.Canon) (c : Nat × Bool) (lock : Bool) (f : PwmSt → PwmSt) : (s.measured c lock f).Canon :=
  canonAfterFlag (canonAfterFlag (canonAfterFld hw _ _ _) _ _ _) _ _ _

theorem measured_shows (hw : s.Canon) (c : Nat × Bool) (lock : Bool) (f : PwmSt → PwmSt) :
    (s.measured c lock f).fld F.DL_STAT_CAL_CODE 0 = c.1 % 2 ^ (F.DL_STAT_CAL_CODE.hi + 1 - F.DL_STAT_CAL_CODE.lo) ∧
      (s.measured c lock f).flag F.DL_STAT_CAL_SAT 0 = c.2 ∧ (s.measured c lock f).flag F.DL_STAT_LOCK 0 = lock := by
  have hcode := canonAfterFld hw F.DL_STAT_CAL_CODE 0 c.1
  have hsat := canonAfterFlag hcode F.DL_STAT_CAL_SAT 0 c.2
  unfold State.measured
  simp +decide [hw, hcode, hsat]

/-- The generator's counts of measurements after one that follows those of v. -/
def PwmSt.measured (v w : PwmSt) (near lock : Bool) : PwmSt := { w with
  calIn := if near then min 16 (v.calIn + 1) else 0, calOut := if near then 0 else min 16 (v.calOut + 1), everLocked := w.everLocked || lock }

/-- One measurement, outside Paddock; a lock that is lost is posted. -/
theorem execDlCalibration_runs (hg : s.gait ≠ Gait.paddock) {equal : Fin 1024} {c : Nat × Bool} {d : Nat} {near lock : Bool}
    (hd : d = s.fld F.DL_STAT_DL_CODE 0)
    (hc : c = calStep (s.fld F.DL_STAT_CAL_CODE 0) equal (s.fld F.DL_CTRL_CODE_LO 0) (s.fld F.DL_CTRL_CODE_HI 0))
    (hnear : near = decide (d ≤ equal.val + 1 ∧ equal.val ≤ d + 1))
    (hlock : lock = lockAfter (s.flag F.DL_STAT_LOCK 0) near s.pwm.calIn s.pwm.calOut) :
    exec (.dlCalibration equal) s = .next ((s.measured c lock fun w => s.pwm.measured w near lock).cond (s.flag F.DL_STAT_LOCK 0 && !lock) fun t =>
      t.post EV.EV_DL_UNLOCK noUnit d) := by
  subst hd hc hnear hlock
  show execDlCalibration equal s = _
  simp only [execDlCalibration, beq_iff_eq, hg, if_false]
  rfl

/-- An event leaves what the fields apart from it show. -/
theorem cond_post_fld (hw : s.Canon) (b : Bool) (f : Fld) (i code unit data : Nat) (h : evqFlds.all (fun x => f.apart x.1) = true) :
    (s.cond b fun t => t.post code unit data).fld f i = s.fld f i := by
  rw [State.fld_cond, State.fld_post hw _ _ _ _ _ h, ite_self]

theorem cond_post_flag (hw : s.Canon) (b : Bool) (f : Fld) (i code unit data : Nat) (h : evqFlds.all (fun x => f.apart x.1) = true) :
    (s.cond b fun t => t.post code unit data).flag f i = s.flag f i := by
  unfold State.flag
  rw [cond_post_fld hw b f i code unit data h]

/-- What a measurement shows. -/
theorem dlCalibration_shows (hw : s.Canon) (hg : s.gait ≠ Gait.paddock) {equal : Fin 1024} {c : Nat × Bool} {d : Nat} {near lock : Bool}
    (hd : d = s.fld F.DL_STAT_DL_CODE 0)
    (hc : c = calStep (s.fld F.DL_STAT_CAL_CODE 0) equal (s.fld F.DL_CTRL_CODE_LO 0) (s.fld F.DL_CTRL_CODE_HI 0))
    (hnear : near = decide (d ≤ equal.val + 1 ∧ equal.val ≤ d + 1))
    (hlock : lock = lockAfter (s.flag F.DL_STAT_LOCK 0) near s.pwm.calIn s.pwm.calOut) : ∃ t, exec (.dlCalibration equal) s = .next t ∧
      t.fld F.DL_STAT_CAL_CODE 0 = c.1 % 2 ^ (F.DL_STAT_CAL_CODE.hi + 1 - F.DL_STAT_CAL_CODE.lo) ∧ t.flag F.DL_STAT_CAL_SAT 0 = c.2 ∧
      t.flag F.DL_STAT_LOCK 0 = lock ∧ (s.flag F.DL_STAT_LOCK 0 = true → lock = false → s.Told t EV.EV_DL_UNLOCK noUnit d) := by
  have hcanon := measured_canon hw c lock fun w => s.pwm.measured w near lock
  obtain ⟨hcode, hsat, hshown⟩ := measured_shows hw c lock fun w => s.pwm.measured w near lock
  have hevq : (s.measured c lock fun w => s.pwm.measured w near lock).evq = s.evq := rfl
  have hexec := execDlCalibration_runs hg hd hc hnear hlock
  generalize s.measured c lock _ = u at *
  refine ⟨_, hexec, (cond_post_fld hcanon _ _ _ _ _ _ (by decide)).trans hcode,
    (cond_post_flag hcanon _ _ _ _ _ _ (by decide)).trans hsat, (cond_post_flag hcanon _ _ _ _ _ _ (by decide)).trans hshown,
    fun hwas hnow => ?_⟩
  rw [hwas, hnow, Bool.not_false, Bool.and_true, State.cond_true]
  exact State.post_told (hevq ▸ Nat.le_refl _) _ _ _

/-! ### Carrier events -/

theorem State.leg_modLeg {n : Nat} (hn : n < 48) (f : LegSt → LegSt) : (s.modLeg n f).leg n = f (s.leg n) := vget_same _ _ _ hn

/-- The destinations before the event queue: the ADC, the HLP's latch and the capture trigger. -/
def State.carrierSent (s : State) (n : Nat) : State :=
  ((s.cond (s.flag F.LEG_EVT_D_ADC n) fun t =>
    t.urgent (t.fld F.LEG_EVT_ADC_CORE n) (t.fld F.LEG_EVT_ADC_INPUT n) (t.fld F.LEG_EVT_ADC_INT n) 0).cond (s.flag F.LEG_EVT_D_HLP n) fun t =>
      t.modLeg n fun l => { l with evLatch := true }).cond (s.flag F.LEG_EVT_D_CAP n) fun t =>
        t.modPwm fun w => { w with capTrig := some (w.capTrig.getD t.now) }

theorem carrierPass_eq (n : Nat) :
    s.carrierPass n = (s.carrierSent n).cond (s.flag F.LEG_EVT_D_EVQ n) fun t => t.post EV.EV_PWM_TICK n 0 := rfl


/-- An urgent request touches its core's record and its counter of drops; it asks nothing of the legs. -/
theorem urgent_only (c input int src : Nat) : s.Only (s.urgent c input int src) [.regs, .adc] :=
  (State.urgent_in (Within.refl (Part.mask [.regs, .adc]) s) rfl c input int src).only

theorem urgentTaken_modLeg (n : Nat) (f : LegSt → LegSt) (c : Nat) : (s.modLeg n f).urgentTaken c = s.urgentTaken c := rfl

theorem urgentEdge_modLeg (n : Nat) (f : LegSt → LegSt) : (s.modLeg n f).urgentEdge = s.urgentEdge := rfl

theorem core_modLeg (n : Nat) (f : LegSt → LegSt) (c : Nat) : (s.modLeg n f).core c = s.core c := rfl

theorem urgent_modLeg_adc (n : Nat) (f : LegSt → LegSt) (c input int src : Nat) :
    ((s.modLeg n f).urgent c input int src).adc = (s.urgent c input int src).adc := by
  have hcore := core_modLeg (s := s) n f c
  have hedge := urgentEdge_modLeg (s := s) n f
  have htaken := urgentTaken_modLeg (s := s) n f c
  by_cases h24 : c ≥ 24
  · simp only [State.urgent, h24, if_true]
    rfl
  cases hok : urgentOk c input int
  · simp only [State.urgent, h24, hok, Bool.not_false, if_true, if_false]
    rfl
  cases hu : (s.core c).urg with
  | none =>
    cases ht : s.urgentTaken c <;>
      simp only [State.urgent, h24, hok, hcore, hu, htaken, hedge, ht, Bool.not_true, Bool.false_eq_true, if_true, if_false] <;> rfl
  | some u =>
    by_cases ht : u.tr = s.urgentEdge ∧ src < u.src <;>
      simp only [State.urgent, h24, hok, hcore, hu, hedge, ht, Bool.not_true, Bool.false_eq_true, if_true, if_false] <;> rfl

/-- What the destinations before the event queue leave. -/
theorem carrierSent_leaves {n : Nat} (hn : n < 48) : (s.carrierSent n).evq = s.evq ∧ ((s.carrierSent n).leg n).presc = (s.leg n).presc ∧
    (s.flag F.LEG_EVT_D_HLP n = true → ((s.carrierSent n).leg n).evLatch = true) ∧
    (s.flag F.LEG_EVT_D_CAP n = true → (s.carrierSent n).pwm.capTrig.isSome = true) := by
  have hadc : s.Only (s.cond (s.flag F.LEG_EVT_D_ADC n) fun t =>
      t.urgent (t.fld F.LEG_EVT_ADC_CORE n) (t.fld F.LEG_EVT_ADC_INPUT n) (t.fld F.LEG_EVT_ADC_INT n) 0) [.regs, .adc] := by
    cases s.flag F.LEG_EVT_D_ADC n
    · exact fun p _ => by cases p <;> rfl
    · exact urgent_only _ _ _ _
  have hevq := hadc .evq (by decide)
  have hpwm := hadc .pwm (by decide)
  unfold State.carrierSent
  generalize s.cond (s.flag F.LEG_EVT_D_ADC n) _ = t at hevq hpwm
  have hleg : t.leg n = s.leg n := congrArg (fun w : PwmSt => vget w.legs n) hpwm
  cases s.flag F.LEG_EVT_D_HLP n <;> cases s.flag F.LEG_EVT_D_CAP n
  · exact ⟨hevq, congrArg LegSt.presc hleg, nofun, nofun⟩
  · exact ⟨hevq, congrArg LegSt.presc hleg, nofun, fun _ => rfl⟩
  · have hset := State.leg_modLeg (s := t) hn fun l => { l with evLatch := true }
    exact ⟨hevq, by rw [State.cond_true, State.cond_false, hset, hleg], fun _ => by rw [State.cond_true, State.cond_false, hset], nofun⟩
  · have hset := State.leg_modLeg (s := t) hn fun l => { l with evLatch := true }
    exact ⟨hevq, (congrArg LegSt.presc hset).trans (congrArg (fun l : LegSt => l.presc) hleg :), fun _ => congrArg LegSt.evLatch hset, fun _ => rfl⟩

theorem carrierSent_adc {n : Nat} (h : s.flag F.LEG_EVT_D_ADC n = true) : (s.carrierSent n).adc =
    (s.urgent (s.fld F.LEG_EVT_ADC_CORE n) (s.fld F.LEG_EVT_ADC_INPUT n) (s.fld F.LEG_EVT_ADC_INT n) 0).adc := by
  unfold State.carrierSent
  rw [h, State.cond_true]
  cases s.flag F.LEG_EVT_D_HLP n <;> cases s.flag F.LEG_EVT_D_CAP n <;> rfl

theorem carrierSent_regs {n : Nat} (h : s.flag F.LEG_EVT_D_ADC n = false) : (s.carrierSent n).regs = s.regs := by
  unfold State.carrierSent
  rw [h, State.cond_false]
  cases s.flag F.LEG_EVT_D_HLP n <;> cases s.flag F.LEG_EVT_D_CAP n <;> rfl

/-- The source instant, while the generator counts. -/
theorem execCarrierEvent_eq {leg : Fin 48} (he : s.eventAt leg ((s.now - s.pwm.tk) / 32) = true) (hz : s.pwm.frozenAt = none)
    (hf : s.pwm.first = false) (hg : s.gait ≠ Gait.paddock) : exec (.carrierEvent leg) s = .next (
      if (s.leg leg).presc < s.fld F.LEG_EVT_PRESC leg then s.modLeg leg fun l => { l with presc := (s.leg leg).presc + 1 }
      else (s.modLeg leg fun l => { l with presc := 0 }).carrierPass leg) := by
  refine congrArg Host.Outcome.next (if_neg ?_)
  simp [he, hz, hf, hg]

/-- A change of the leg's record before the event is passed on shows in no register. -/
theorem carrierPass_leaves {n : Nat} (hn : n < 48) (hw : s.Canon) : ((s.carrierPass n).leg n).presc = (s.leg n).presc ∧
    (s.flag F.LEG_EVT_D_ADC n = true → (s.carrierPass n).adc =
      (s.urgent (s.fld F.LEG_EVT_ADC_CORE n) (s.fld F.LEG_EVT_ADC_INPUT n) (s.fld F.LEG_EVT_ADC_INT n) 0).adc) ∧
    (s.flag F.LEG_EVT_D_HLP n = true → ((s.carrierPass n).leg n).evLatch = true) ∧
    (s.flag F.LEG_EVT_D_CAP n = true → (s.carrierPass n).pwm.capTrig.isSome = true) ∧
    (s.flag F.LEG_EVT_D_EVQ n = true → s.Told (s.carrierPass n) EV.EV_PWM_TICK n 0) ∧
    (s.flag F.LEG_EVT_D_ADC n = false → s.RegsBut (s.carrierPass n) evqFlds) := by
  obtain ⟨hevq, hpresc, hlatch, hcap⟩ := carrierSent_leaves (s := s) hn
  have hpwm : (s.carrierPass n).pwm = (s.carrierSent n).pwm := by
    rw [carrierPass_eq]
    cases s.flag F.LEG_EVT_D_EVQ n
    · rfl
    · rw [State.cond_true, State.post_pwm]
  have hadc : (s.carrierPass n).adc = (s.carrierSent n).adc := by
    rw [carrierPass_eq]
    cases s.flag F.LEG_EVT_D_EVQ n
    · rfl
    · rw [State.cond_true, State.post_adc]
  have hleg : (s.carrierPass n).leg n = (s.carrierSent n).leg n := congrArg (fun w : PwmSt => vget w.legs n) hpwm
  refine ⟨hleg ▸ hpresc, fun h => hadc.trans (carrierSent_adc h), fun h => hleg ▸ hlatch h, fun h => hpwm ▸ hcap h, fun h => ?_, fun h => ?_⟩
  · rw [carrierPass_eq, h, State.cond_true]
    exact State.post_told (Nat.le_of_eq (congrArg EvqSt.next hevq).symm) _ _ _
  · have hregs := carrierSent_regs h
    have hsent : s.RegsBut (s.carrierSent n) evqFlds := (State.RegsBut.refl s _).same hregs
    rw [carrierPass_eq]
    cases s.flag F.LEG_EVT_D_EVQ n
    · rwa [State.cond_false]
    · rw [State.cond_true]
      exact hsent.post (by unfold State.Canon; rw [hregs]; exact hw) _ _ _ fun _ hx => hx

/-- Settles O4: LOCK by the counts of measurements, and each carrier event by what its destinations leave. -/
theorem pwmEdgeCommandsComplete : Obligations.PwmEdgeCommandsComplete := by
  unfold Obligations.PwmEdgeCommandsComplete
  refine ⟨fun s equal c d hw hg hd hc => ?_, fun s leg he hz hf hg hp => ?_, fun s leg hw he hz hf hg hp => ?_,
    fun s leg top on instant t hclk hz ht hlvl hseen => ?_⟩
  · obtain ⟨t, hexec, hcode, hsat, hlock, htold⟩ := dlCalibration_shows hw hg hd hc rfl rfl
    refine ⟨t, hexec, hcode, hsat, fun h1 h2 h => ?_, fun h1 h2 h => ?_, fun h1 h => ?_, fun h1 h => ?_, fun h1 h hwas => htold hwas ?_⟩
    · rw [hlock, decide_eq_true ⟨h1, h2⟩, lockAfter_near, if_pos h]
    · rw [hlock, decide_eq_true ⟨h1, h2⟩, lockAfter_near, if_neg (Nat.not_le.mpr h)]
    · rw [hlock, decide_eq_false (by omega), lockAfter_far, if_pos h]
    · rw [hlock, decide_eq_false (by omega), lockAfter_far, if_neg (Nat.not_le.mpr h)]
    · rw [decide_eq_false (by omega), lockAfter_far, if_pos h]
  · rw [execCarrierEvent_eq he hz hf hg, if_pos hp]
  · obtain ⟨hpresc, hadc, hrest⟩ := carrierPass_leaves (s := s.modLeg leg fun l => { l with presc := 0 }) leg.isLt (canonAfterModLeg hw _ _)
    refine ⟨_, (execCarrierEvent_eq he hz hf hg).trans (congrArg _ (if_neg (Nat.not_lt.mpr hp))), ?_, fun h => ?_, hrest⟩
    · rw [hpresc, State.leg_modLeg leg.isLt]
    · exact (hadc h).trans (urgent_modLeg_adc ..)
  · subst ht
    refine congrArg Host.Outcome.next ((if_neg ?_).trans ?_)
    · simpa [hclk, hz, hlvl] using hseen
    · simp [hz]

end Sys2Proof.Machine
end

section
/-!
PROOFS. The comparators, the trip pins, the trip groups and the blanking (R171, R175, R224 to R227): each command by the branch that its
condition chooses.
-/
namespace Sys2Proof.Machine

variable {s : State}

theorem execComparatorCrossing_rises {ain : Fin 48} {upper : Bool} {nv : Int} (hlive : (s.setVin ain nv).cmpLive ain = true)
    (hbeyond : (s.setVin ain nv).beyond ain upper nv = true) (hout : (s.setVin ain nv).flag (outOf upper) ain = false) :
    exec (.comparatorCrossing ain ⟨upper, nv⟩) s = .next ((s.setVin ain nv).cmpRise ain upper) := by
  refine congrArg Host.Outcome.next (if_neg ?_)
  simp [hlive, hbeyond, hout]

theorem execComparatorOutputFall_falls {ain : Fin 48} {upper : Bool} {nv : Int} (hlive : (s.setVin ain nv).cmpLive ain = true)
    (hback : (s.setVin ain nv).passedBack ain upper nv = true) :
    exec (.comparatorOutputFall ain ⟨upper, nv⟩) s = .next ((s.setVin ain nv).setFlag (outOf upper) ain false).refreshGroups := by
  refine congrArg Host.Outcome.next (if_neg ?_)
  simp [hlive, hback]

theorem execTripPinInactive_known {pin : Fin 8} (h : bitOf s.pwm.pins pin = true) :
    exec (.tripPinInactive pin) s = .next (s.modPwm fun w => { w with pins := s.pwm.pins - 2 ^ pin.val }).refreshGroups := by
  have hpins : (if bitOf s.pwm.pins pin then s.pwm.pins - 2 ^ pin.val else s.pwm.pins) = s.pwm.pins - 2 ^ pin.val := if_pos h
  rw [← hpins]
  rfl

theorem execTripGroupTrip_trips {grp : Fin 8} {src : Nat} {l : List Nat} (hsrc : vget s.pwm.srcs grp.val ++ s.caughtPins grp = src :: l)
    (htrip : s.flag F.TG_STAT_TRIPPED grp = false) (hclk : s.clkOk 4 = true) : exec (.tripGroupTrip grp) s = .next (s.trip grp src) := by
  show execTripGroupTrip grp s = _
  unfold execTripGroupTrip
  rw [hsrc]
  simp [htrip, hclk]

/-- Settles O5. -/
theorem tripCommandsComplete : Obligations.TripCommandsComplete := by
  unfold Obligations.TripCommandsComplete
  refine ⟨fun s ain upper nv hlive hbeyond hout => ⟨_, rfl, execComparatorCrossing_rises hlive hbeyond hout⟩,
    fun s ain upper nv hlive hback => execComparatorOutputFall_falls hlive hback, fun s pin => rfl, fun s pin h => execTripPinInactive_known h,
    fun s grp src l hsrc htrip hclk => execTripGroupTrip_trips hsrc htrip hclk, fun s wt h => ?_⟩
  refine congrArg Host.Outcome.next (if_neg ?_)
  simp [h]

end Sys2Proof.Machine
end

section
/-!
PROOFS. The sigma-delta commands (R178 to R191): the clock flags of a group, the decimated outputs, the deliveries and the restarts.
-/
namespace Sys2Proof.Machine

variable {s : State}

/-- An event behind a counter is told. -/
theorem State.count_told (f : Fld) (i code unit data : Nat) : s.Told ((s.count f i).post code unit data) code unit data :=
  State.post_told (s := s.count f i) (Nat.le_refl _) _ _ _

/-! ### Clock flags -/

/-- A flag of another unit reads as before. -/
theorem State.flag_setFlag_unit (hw : s.Canon) {f : Fld} (hf : f.off < 65536) {i j : Nat} (hi : i < 256) (hj : j < 256) (h : i ≠ j) (b : Bool) :
    (s.setFlag f j b).flag f i = s.flag f i := by
  unfold State.flag State.setFlag
  rw [State.fld_setFld_unit hw _ _ _ _ _ fun hk => h (regKey_inj hi hj hf hf hk).2.1]

/-- A flag set on every unit of a list. -/
theorem flag_foldl_setFlag {f : Fld} (hgood : f.good = true) {i : Nat} (hi : i < 256) (l : List Nat) (hw : s.Canon) (hl : ∀ j ∈ l, j < 256)
    (h : i ∈ l ∨ s.flag f i = true) : (l.foldl (fun t j => t.setFlag f j true) s).flag f i = true := by
  have hoff : f.off < 65536 := by
    simp only [Fld.good, Bool.and_eq_true, decide_eq_true_eq] at hgood
    exact hgood.2
  induction l generalizing s with
  | nil => exact h.resolve_left List.not_mem_nil
  | cons j l ih =>
    refine ih (canonAfterFlag hw _ _ _) (fun k hk => hl k (List.mem_cons_of_mem _ hk)) ?_
    by_cases hij : i = j
    · exact .inr (hij ▸ State.flag_setFlag_same hw _ _ _ hgood)
    · refine (h.imp (fun h => (List.mem_cons.mp h).resolve_left hij) fun h => ?_)
      rw [State.flag_setFlag_unit hw hoff hi (hl j List.mem_cons_self) hij, h]

theorem foldl_setFlag_evq (f : Fld) : ∀ (l : List Nat) (s : State), (l.foldl (fun t j => t.setFlag f j true) s).evq = s.evq
  | [], _ => rfl
  | _ :: l, s => foldl_setFlag_evq f l (s.setFlag f _ true)

theorem foldl_setFlag_canon (f : Fld) : ∀ (l : List Nat) (s : State), s.Canon → (l.foldl (fun t j => t.setFlag f j true) s).Canon
  | [], _, hw => hw
  | _ :: l, _, hw => foldl_setFlag_canon f l _ (canonAfterFlag hw f _ true)

/-- The rising edge of a clock flag of an enabled input of the group: the flag is set and the event posted. -/
theorem sdClkFlag_rises (hw : s.Canon) {f : Fld} (hf : f.good = true) (hevq : evqFlds.all (fun x => f.apart x.1) = true) {g i : Nat} (hi : i < 32)
    (hen : s.flag F.SD_CFG_EN i = true) (hg : s.fld F.SD_CFG_GRP i = g) (hlow : s.flag f i = false) (bits : Nat) :
    s.Told (s.sdClkFlag f g bits) EV.EV_SD_CLK g bits ∧ (s.sdClkFlag f g bits).flag f i = true := by
  have hmem : i ∈ (List.range 32).filter fun i => s.flag F.SD_CFG_EN i && s.fld F.SD_CFG_GRP i == g :=
    List.mem_filter.mpr ⟨List.mem_range.mpr hi, by simp [hen, hg]⟩
  have hlt : ∀ j ∈ (List.range 32).filter fun i => s.flag F.SD_CFG_EN i && s.fld F.SD_CFG_GRP i == g, j < 256 := fun j hj => by
    have := List.mem_range.mp (List.mem_filter.mp hj).1
    omega
  unfold State.sdClkFlag
  simp only
  rw [if_pos (List.any_eq_true.mpr ⟨i, hmem, by rw [hlow]; rfl⟩)]
  refine ⟨State.post_told (by rw [foldl_setFlag_evq]) _ _ _, ?_⟩
  rw [State.flag_post (foldl_setFlag_canon f _ s hw) _ _ _ _ _ hevq]
  exact flag_foldl_setFlag hf (by omega) _ hw hlt (.inl hmem)

/-! ### Decimation -/

theorem State.sdIn_modSd {i : Nat} (hi : i < 32) (f : SdIn → SdIn) : (s.modSd i f).sdIn i = f (s.sdIn i) := vget_same _ _ _ hi

/-- An input after block k: the output y, the bits that the next one uses, and whether y is a step. -/
def SdIn.decimated (d : SdIn) (k : Nat) (y : Int) (bits : List Bool) (edge : Nat) (step : Bool) : SdIn := { d with
  outs := (y :: d.outs).take 40, n := k, e := if step then k else d.e, bits := bits
  runs := (maxRun bits :: d.runs).take 40, close := (edge :: d.close).take 40 }

theorem execDecimatedOutput_taken {inp : Fin 32} {bits all : List Bool} {y : Int} (hen : s.flag F.SD_CFG_EN inp = true) (hg : s.gait ≠ Gait.paddock)
    (herr : s.sdClkErr inp = false) (hlen : bits.length = s.sdM inp) (hall : all = bits.reverse ++ (s.sdIn inp).bits)
    (hy : y = sincOut (s.sdM inp) (s.sdN inp) all) {step : Bool}
    (hstep : step = isStep (s.fld (F.SD_PROF_STEP_THR.nth (s.sdProf inp)) 0) (s.sdM inp ^ s.sdN inp) y ((s.sdIn inp).outs.headD 0)) :
    exec (.decimatedOutput inp bits) s = .next ((s.modSd inp fun d => d.decimated ((s.sdIn inp).n + 1) y
      (all.take (s.sdN inp * (s.sdM inp - 1) + 1)) (s.sdEdge inp) step).cond step fun t => t.count F.SD_STAT_STEP_CNT inp) := by
  subst hstep hy hall
  refine congrArg Host.Outcome.next (if_neg ?_)
  simp [hen, hg, herr, hlen]

theorem sdIn_count (f : Fld) (i j : Nat) : (s.count f i).sdIn j = s.sdIn j := rfl

/-! ### Deliveries -/

/-- A delivery: the flags and the code of the input's result register. -/
def State.sdShown (s : State) (i : Nat) (ovr uns err : Bool) (pnum code : Nat) : State :=
  (((((s.setFlag F.SD_RES_OVR i ovr).setFlag F.SD_RES_UNSETTLED i uns).setFlag F.SD_RES_CLKERR i err).setFlag
    F.SD_RES_EMPTY i false).setFld F.SD_RES_PERIOD i pnum).setFld F.SD_RES_CODE i code

theorem sdShown_shows (hw : s.Canon) (i : Nat) (ovr uns err : Bool) (pnum code : Nat) :
    (s.sdShown i ovr uns err pnum code).flag F.SD_RES_EMPTY i = false ∧
      (s.sdShown i ovr uns err pnum code).fld F.SD_RES_PERIOD i = pnum % 2 ^ (F.SD_RES_PERIOD.hi + 1 - F.SD_RES_PERIOD.lo) ∧
      (s.sdShown i ovr uns err pnum code).flag F.SD_RES_CLKERR i = err ∧ (s.sdShown i ovr uns err pnum code).flag F.SD_RES_UNSETTLED i = uns := by
  have hovr := canonAfterFlag hw F.SD_RES_OVR i ovr
  have huns := canonAfterFlag hovr F.SD_RES_UNSETTLED i uns
  have herr := canonAfterFlag huns F.SD_RES_CLKERR i err
  have hempty := canonAfterFlag herr F.SD_RES_EMPTY i false
  have hper := canonAfterFld hempty F.SD_RES_PERIOD i pnum
  unfold State.sdShown
  simp +decide [hovr, huns, herr, hempty, hper]

/-- A clock error makes the delivery unsettled. -/
theorem sdDeliver_shape (i : Nat) : ∃ ovr uns code, s.sdDeliver i = s.sdShown i ovr (uns || s.sdClkErr i) (s.sdClkErr i) s.pwm.pnum code :=
  ⟨_, _, _, rfl⟩

/-! ### Synchronisation and tiles -/

theorem execSdsyncAccept_ignored (hg : s.gait ≠ Gait.paddock) (huse : s.sdInUse = true) (hforce : s.flag F.SD_CTRL_PIN_FORCE 0 = false) :
    exec .sdsyncAccept s = .next ((s.count F.SD_CTRL_SYNC_IGN 0).post EV.EV_SD_SYNC_IGN noUnit 0) := by
  show execSdsyncAccept s = _
  unfold execSdsyncAccept
  simp [hg, huse, hforce]

theorem execSdsyncAccept_taken (hg : s.gait ≠ Gait.paddock) (h : s.sdInUse = false ∨ s.flag F.SD_CTRL_PIN_FORCE 0 = true) :
    exec .sdsyncAccept s = .next (s.sdRestartAll s.now) := by
  show execSdsyncAccept s = _
  unfold execSdsyncAccept
  rcases h with h | h <;> simp [hg, h]

/-- A profile's tile after its rewrite. -/
def State.profileRewritten (s : State) (prof : Fin 4) : State :=
  let s := s.cond (!(vget s.sd.tiles prof).isEmpty) fun t => t.makeProf prof
  { s with
    sd := { s.sd with badProf := s.sd.badProf - (if bitOf s.sd.badProf prof then 2 ^ prof.val else 0) }
    coef := { s.coef with badTiles := s.coef.badTiles.filter fun x => x != (3, prof.val) } }

theorem profileRewritten_badTiles (prof : Fin 4) : (3, prof.val) ∉ (s.profileRewritten prof).coef.badTiles := fun h => by
  have := (List.mem_filter.mp h).2
  simp at this

theorem profileRewritten_badProf (prof : Fin 4) : (s.profileRewritten prof).sd.badProf =
    s.sd.badProf - (if bitOf s.sd.badProf prof then 2 ^ prof.val else 0) := by
  unfold State.profileRewritten
  cases !(vget s.sd.tiles prof).isEmpty <;> rfl

theorem profileRewritten_bad {prof : Fin 4} (h : bitOf s.sd.badProf prof = true) :
    (s.profileRewritten prof).sd.badProf = s.sd.badProf - 2 ^ prof.val := by
  rw [profileRewritten_badProf, if_pos h]

theorem profileRewritten_good {prof : Fin 4} (h : bitOf s.sd.badProf prof = false) : (s.profileRewritten prof).sd.badProf = s.sd.badProf := by
  rw [profileRewritten_badProf, if_neg (by rw [h]; decide), Nat.sub_zero]

theorem makeProf_tile {k : Nat} (hk : k < 4) : vget (s.makeProf k).sd.tiles k = profTile (s.fld (F.SD_PROF_J.nth k) 0) := by
  unfold State.makeProf
  simp only
  rw [vget_same _ _ _ hk]

theorem profileRewritten_tile {prof : Fin 4} (h : vget s.sd.tiles prof ≠ []) :
    vget (s.profileRewritten prof).sd.tiles prof = profTile (s.fld (F.SD_PROF_J.nth prof) 0) := by
  have hne : (!(vget s.sd.tiles prof).isEmpty) = true := by simpa using h
  unfold State.profileRewritten
  rw [hne]
  exact makeProf_tile prof.isLt

/-- What a command leaves lies within its reach. -/
theorem exec_only {i : Instr} {t : State} (h : exec i s = .next t) : s.Only t (reach i) := by
  obtain ⟨u, hu, honly⟩ := everyCommandHasItsFrame i s
  exact Host.Outcome.next.inj (hu.symm.trans h) ▸ honly

/-- Settles O6. -/
theorem sigmaDeltaCommandsComplete : Obligations.SigmaDeltaCommandsComplete := by
  unfold Obligations.SigmaDeltaCommandsComplete
  refine ⟨fun s grp i hw hg hi hen hgrp hlow => ?_, fun s grp i hw hg hi hen hgrp hlow hmode => ?_, fun s grp hg => ?_,
    fun s inp bits all y hw hen hg herr hlen hall hy => ?_, fun s inp hw hen hg => ?_, fun s hg h => execSdsyncAccept_taken hg h,
    fun s hw hg huse hforce => ?_, fun s prof => ?_, fun s tag e h huse => ?_⟩
  · obtain ⟨htold, hflag⟩ := sdClkFlag_rises hw (by decide : F.SD_STAT_CLK_LOSS.good = true) (by decide) hi hen hgrp hlow
      (1 + 2 * b2n ((List.range 32).any fun i => s.fld F.SD_CFG_GRP i == grp.val && s.flag F.SD_STAT_CLK_FREQ i))
    refine ⟨_, _, congrArg Host.Outcome.next (if_neg ?_), htold, by omega, hflag⟩
    simpa using hg
  · obtain ⟨htold, hflag⟩ := sdClkFlag_rises hw (by decide : F.SD_STAT_CLK_FREQ.good = true) (by decide) hi hen hgrp hlow
      (2 + b2n ((List.range 32).any fun i => s.fld F.SD_CFG_GRP i == grp.val && s.flag F.SD_STAT_CLK_LOSS i))
    refine ⟨_, _, congrArg Host.Outcome.next (if_neg ?_), htold, by omega, hflag⟩
    simp [hg, hmode]
  · refine congrArg Host.Outcome.next (if_neg ?_)
    simpa using hg
  · have hexec := execDecimatedOutput_taken hen hg herr hlen hall hy rfl
    generalize isStep _ _ _ _ = step at *
    have hin := State.sdIn_modSd (s := s) inp.isLt fun d => d.decimated ((s.sdIn inp).n + 1) y
      (all.take (s.sdN inp * (s.sdM inp - 1) + 1)) (s.sdEdge inp) step
    cases step
    · refine ⟨_, hexec, ?_⟩
      rw [State.cond_false, hin]
      exact ⟨rfl, rfl, rfl, rfl, nofun, fun _ => ⟨rfl, (State.modSd_in (Within.refl (Part.mask [.sd]) s) rfl _ _).only⟩⟩
    · refine ⟨_, hexec, ?_⟩
      rw [State.cond_true, sdIn_count, hin]
      exact ⟨rfl, rfl, rfl, rfl, fun _ => ⟨rfl, ((State.RegsBut.refl s _).modSd _ _).count (canonAfterModSd hw _ _) _ _ (by simp) (by decide)⟩, nofun⟩
  · obtain ⟨ovr, uns, code, hshape⟩ := sdDeliver_shape (s := s) inp
    obtain ⟨hempty, hper, herr, huns⟩ := sdShown_shows hw inp ovr (uns || s.sdClkErr inp) (s.sdClkErr inp) s.pwm.pnum code
    refine ⟨_, congrArg Host.Outcome.next (if_pos ?_), ?_⟩
    · simp [hen, hg]
    · refine ⟨hshape ▸ hempty, hshape ▸ hper, hshape ▸ herr, fun h => hshape ▸ huns.trans (by rw [h, Bool.or_true]),
        (State.sdDeliver_in (Within.refl (Part.mask [.regs]) s) rfl _).only⟩
  · refine ⟨_, execSdsyncAccept_ignored hg huse hforce, State.count_told _ _ _ _ _, ?_, ?_⟩
    · rw [State.fld_post (canonAfterCount hw _ _) _ _ _ _ _ (by decide), State.fld_count_same hw _ _ (by decide)]
    · exact ((State.RegsBut.refl s _).count hw _ _ (by simp) (by decide)).post (canonAfterCount hw _ _) _ _ _ fun _ hx =>
        List.mem_cons_of_mem _ hx
  · exact ⟨_, rfl, profileRewritten_badTiles prof, exec_only (i := .profileTileRewrite prof) rfl, profileRewritten_bad, profileRewritten_good,
      profileRewritten_tile⟩
  · refine ⟨_, (serve_eq h _).trans (congrArg _ (if_neg (by rw [huse]; decide))), State.start_waits h.2.1 rfl rfl rfl, State.start_only _⟩

end Sys2Proof.Machine
end

section
/-!
PROOFS. The capture engine's commands (R406, R443 to R452), the event drain and the recorder (R43, R454, R455, R514).
-/
namespace Sys2Proof.Machine

variable {s : State} {tag : Fin 128} {e : Entry}

theorem capLevel_eq : s.capLevel = s.setFld F.CAP_LEVEL_ALL 0 s.cap.fifo.length := rfl

theorem capAnswer_regs (op n : Nat) : (s.capAnswer op n).regs = s.regs := by
  unfold State.capAnswer
  split
  · exact State.complete_regs ..
  · rfl

theorem capAnswer_cap (op n : Nat) : (s.capAnswer op n).cap = s.cap := by
  unfold State.capAnswer
  split
  · exact State.complete_cap ..
  · rfl

theorem capAnswer_fld (op n : Nat) (f : Fld) (i : Nat) : (s.capAnswer op n).fld f i = s.fld f i := by
  unfold State.fld
  rw [capAnswer_regs]

/-! ### Datagrams and the flush -/

/-- The engine after a datagram. -/
def State.datagramLeft (s : State) : State :=
  (s.modCap fun c => { c with
    fifo := c.fifo.drop 178
    sent := s.capHeader (s.cap.fifo.take 178) (s.capState == 2 && decide (s.cap.fifo.length ≤ 178)) ++ (s.cap.fifo.take 178).flatMap (·.bytes)
    seq := (c.seq + 1) % 65536, opening := false }).capLevel

theorem execDatagramClose_sends (hfifo : s.cap.fifo ≠ []) (hnet : s.netRuns = true) (hlink : s.flag F.MAC_STAT_LINK 2 = true)
    (hserves : s.serves 3 = true) (hheld : s.txHeld 2 = false) : exec .datagramClose s = .next s.datagramLeft := by
  refine congrArg Host.Outcome.next (if_neg ?_)
  simp [hfifo, hnet, hlink, hserves, hheld]

theorem datagramLeft_only : s.Only s.datagramLeft [.regs, .cap] :=
  (State.capLevel_in (State.modCap_in (Within.refl (Part.mask [.regs, .cap]) s) rfl _) rfl).only

theorem execFlushComplete_ends (hstate : s.capState = 2) (hfifo : s.cap.fifo = []) : exec .flushComplete s = .next s.capEnd := by
  refine congrArg Host.Outcome.next (if_pos ?_)
  simp [hstate, hfifo]

theorem capEnd_regsBut (hw : s.Canon) : s.RegsBut s.capEnd [(F.CAP_STAT_STATE, 0)] :=
  ((State.RegsBut.refl s _).setFld hw _ _ _ (by simp) (by decide)).same (capAnswer_regs ..)

theorem capEnd_state (hw : s.Canon) : s.capEnd.capState = 0 :=
  (capAnswer_fld ..).trans (State.fld_setFld_same hw _ _ _ (by decide))

theorem capEnd_cap : s.capEnd.cap = s.cap := capAnswer_cap ..

theorem execFlushTimeout_ends (hstate : s.capState = 2) : exec .flushTimeout s =
    .next (((s.countN F.CAP_STAT_CAP_LOST 0 s.cap.fifo.length).modCap fun c => { c with fifo := [], gap := 0 }).capLevel).capEnd := by
  refine congrArg Host.Outcome.next (if_neg ?_)
  simp [hstate]

/-! ### CAPTURE commands -/

/-- The configuration that CAP_CFG puts in force. -/
def State.capTaken (s : State) (e : Entry) (srcs : List CapSrc) : State :=
  ((s.modCap fun c => { c with
    single := e.a 0 == 1, trig := e.a 1, level := e.af 4, srcs := srcs, counts := srcs.map fun _ => 0 }).capRate).setFlag
      F.CAP_STAT_SINGLE 0 (e.a 0 == 1)

theorem execCapCfg_taken (h : s.Serves 0x0601 tag e) (hlen : e.payload.length = 8 * e.a 8) (hmode : e.a 0 ≤ 1) (htrig : e.a 1 ≤ 5)
    (h0 : e.a 8 ≠ 0) (h32 : e.a 8 ≤ 32)
    (hsrc : ∀ i < e.a 8, (capSrcAt e.payload (8 * i)).2 = true ∧ (capSrcAt e.payload (8 * i)).1.ok = true) (hruns : s.capRuns = false)
    {srcs : List CapSrc} (hsrcs : srcs = (List.range (e.a 8)).map fun i => (capSrcAt e.payload (8 * i)).1)
    (hrate : capBytes srcs s.fineP ≤ 100000000) : exec (.capCfg tag) s = .next ((s.capTaken e srcs).done e.tag FS.FS_OK) := by
  have hmap : ((List.range (e.a 8)).map fun i => capSrcAt e.payload (8 * i)).map (·.1) = srcs := by
    rw [hsrcs, List.map_map]
    rfl
  have hall : (((List.range (e.a 8)).map fun i => capSrcAt e.payload (8 * i)).all fun x => x.2 && x.1.ok) = true := by
    rw [List.all_map, List.all_eq_true]
    intro i hi
    obtain ⟨hclean, hok⟩ := hsrc i (List.mem_range.mp hi)
    simp [hclean, hok]
  refine (serve_eq h _).trans (congrArg _ ?_)
  have hparam : ¬(1 < e.a 0 ∨ 5 < e.a 1 ∨ e.a 8 = 0 ∨ 32 < e.a 8 ∨
      (!((List.range (e.a 8)).map fun i => capSrcAt e.payload (8 * i)).all fun x => x.2 && x.1.ok) = true) := by
    rw [hall]
    simp only [Bool.not_true, Bool.false_eq_true, or_false]
    omega
  simp only [hlen, ne_eq, not_true_eq_false, if_false, hparam, hruns, hmap, Bool.false_eq_true, Nat.not_lt.mpr hrate]
  rfl

/-- The registers that CAP_CFG writes. -/
theorem capTaken_regsBut (hw : s.Canon) (e : Entry) (srcs : List CapSrc) :
    s.RegsBut (s.capTaken e srcs) [(F.CAP_RATE_ALL, 0), (F.CAP_STAT_SINGLE, 0)] :=
  (((State.RegsBut.refl s _).modCap _).setFld (canonAfterModCap hw _) _ _ _ (by simp) (by decide)).setFlag
    (canonAfterFld (canonAfterModCap hw _) _ _ _) _ _ _ (by simp) (by decide)

theorem capTaken_single (hw : s.Canon) (e : Entry) (srcs : List CapSrc) : (s.capTaken e srcs).flag F.CAP_STAT_SINGLE 0 = (e.a 0 == 1) :=
  State.flag_setFlag_same (canonAfterFld (canonAfterModCap hw _) _ _ _) _ _ _ (by decide)

theorem execCapStart_starts (h : s.Serves 0x0602 tag e) (hstate : s.capState = 0) (hat : s.cap.startAt = none) :
    exec (.capStart tag) s = .next ((s.modCap fun c => { c with startAt := some s.pwm.bnd }).start e.tag) := by
  refine (serve_eq h _).trans (congrArg _ ?_)
  simp [hstate, State.capRuns, hat]

theorem execCapStart_rearms (h : s.Serves 0x0602 tag e) (hstate : s.capState = 1) :
    exec (.capStart tag) s = .next ((s.setFlag F.CAP_STAT_ARMED 0 true).done e.tag FS.FS_OK) :=
  (serve_eq h _).trans (congrArg _ (if_pos hstate))

theorem execCapStop_stops (h : s.Serves 0x0603 tag e) (hstate : s.capState = 1) (hat : s.cap.stopAt = none) :
    exec (.capStop tag) s = .next ((s.modCap fun c => { c with stopAt := some s.pwm.bnd }).start e.tag) := by
  refine (serve_eq h _).trans (congrArg _ ?_)
  simp [hstate, State.capStops, hat]

/-- A start or stop that waits lies in the engine's record and in flight alone. -/
theorem modCap_start_only (f : CapSt → CapSt) (n : Nat) : s.Only ((s.modCap f).start n) [.fcp, .cap] :=
  (State.start_in (State.modCap_in (Within.refl (Part.mask [.fcp, .cap]) s) rfl _) rfl n).only

/-- A histogram that CAP_HIST_CFG configures. -/
def State.histTaken (s : State) (u : Nat) (h : HistSt) : State :=
  (s.modCap fun x => { x with hist := vmod x.hist u fun _ => h }).setFld (F.HIST_OUT_ALL.nth u) 0 0

theorem execCapHistCfg_taken (h : s.Serves 0x0604 tag e) (hu : e.a 0 < 4) (hsrc : periodSrc (capSrcAt e.args 4) = true)
    (hedges : edgesOk (e.af 12) (e.af 16) = true) (hruns : s.capRuns = false) : exec (.capHistCfg tag) s =
    .next ((s.histTaken (e.a 0) { src := (capSrcAt e.args 4).1, on := true, b0 := s.pwm.bnd, lo := e.af 12, hi := e.af 16 }).done
      e.tag FS.FS_OK) := by
  refine (serve_eq h _).trans (congrArg _ ?_)
  simp [Nat.not_lt.mpr (Nat.le_of_lt_succ hu), hsrc, hedges, hruns, State.histTaken]

theorem histTaken_hist {u : Nat} (hu : u < 4) (h : HistSt) : vget (s.histTaken u h).cap.hist u = h := vget_same _ _ _ hu

theorem histTaken_out (hw : s.Canon) {u : Nat} (hu : u < 4) (h : HistSt) : (s.histTaken u h).fld (F.HIST_OUT_ALL.nth u) 0 = 0 := by
  have hgood : (F.HIST_OUT_ALL.nth u).good = true := by interval_cases u <;> rfl
  unfold State.histTaken
  rw [State.fld_setFld_same (canonAfterModCap hw _) _ _ _ hgood]
  exact Nat.zero_mod _

theorem histTaken_regsBut (hw : s.Canon) {u : Nat} (hu : u < 4) (h : HistSt) : s.RegsBut (s.histTaken u h) [(F.HIST_OUT_ALL.nth u, 0)] := by
  have hgood : (F.HIST_OUT_ALL.nth u).good = true := by interval_cases u <;> rfl
  exact ((State.RegsBut.refl s _).modCap _).setFld (canonAfterModCap hw _) _ _ _ (by simp) hgood

theorem histTaken_runs (hw : s.Canon) {u : Nat} (hu : u < 4) (h : HistSt) : (s.histTaken u h).svpRuns = s.svpRuns := by
  refine (histTaken_regsBut hw hu h).svpRuns rfl ?_ ?_
  · interval_cases u <;> rfl
  · interval_cases u <;> rfl

theorem execCapHistRead_taken (h : s.Serves 0x0605 tag e) (hu : e.a 0 < 4) (h1 : 1 ≤ e.a16 4) (h256 : e.a16 4 ≤ 256)
    (hend : e.a16 2 + e.a16 4 ≤ 4096) : exec (.capHistRead tag) s = .next (s.complete e.tag FS.FS_OK 0 []
      ((Memory.getMany (fun _ => 0) (vget s.cap.hist (e.a 0)).bins (e.a16 2) (e.a16 4)).flatMap (leBytes 4))) := by
  refine (serve_eq h _).trans (congrArg _ (if_neg ?_))
  omega

theorem execCapPmapCfg_taken (h : s.Serves 0x0606 tag e) (hx : periodSrc (capSrcAt e.args 4) = true)
    (hy : periodSrc (capSrcAt e.args 12) = true) (hxe : edgesOk (e.af 20) (e.af 24) = true) (hye : edgesOk (e.af 28) (e.af 32) = true)
    (hruns : s.capRuns = false) : exec (.capPmapCfg tag) s = .next ((s.modCap fun c => { c with
      px := (capSrcAt e.args 4).1, py := (capSrcAt e.args 12).1, pOn := true, pB0 := s.pwm.bnd, pCount := 0, cells := []
      pEdges := [e.af 20, e.af 24, e.af 28, e.af 32] }).done e.tag FS.FS_OK) := by
  refine (serve_eq h _).trans (congrArg _ ?_)
  simp [hx, hy, hxe, hye, hruns]

theorem execCapPmapRead_taken (h : s.Serves 0x0607 tag e) (h1 : 1 ≤ e.a 1) (h2 : e.a 1 ≤ 2) (hend : e.a 0 + e.a 1 ≤ 256) :
    exec (.capPmapRead tag) s = .next (s.complete e.tag FS.FS_OK 0 []
      ((Memory.getMany (fun _ => 0) s.cap.cells (256 * e.a 0) (256 * e.a 1)).flatMap (leBytes 2))) := by
  refine (serve_eq h _).trans (congrArg _ (if_neg ?_))
  omega

/-! ### Events -/

/-- The event block after it has taken event r. -/
def State.drained (s : State) (r : EvRec) (rest : List EvRec) : State :=
  { s with evq := { s.evq with queue := rest, slots := vmod s.evq.slots (r.num % 32) fun _ => some r, blockNext := r.num + 1 } }.setFld
    F.EVQ_STAT_DEPTH 0 rest.length

theorem execEventDrain_takes {r : EvRec} {rest : List EvRec} (hruns : s.fencenRuns = true) (hserves : s.serves 6 = true)
    (hq : s.evq.queue = r :: rest) (hisland : s.recd.island = [] ∨ s.recd.on = false) :
    exec .eventDrain s = .next ((s.drained r rest).cond (s.recd.on && r.flags % 2 == 0) fun t => t.ringPut r) := by
  have hturn : (s.fencenRuns && s.serves 6 && (s.recd.island.isEmpty || !s.recd.on)) = true := by
    rcases hisland with h | h <;> simp [hruns, hserves, h]
  show execEventDrain s = _
  unfold execEventDrain
  rw [hturn, hq]
  rfl

theorem cond_ringPut_evq (b : Bool) (r : EvRec) : (s.cond b fun t => t.ringPut r).evq = s.evq := by
  cases b
  · rfl
  · exact (State.ringPut_in (Within.refl (Part.mask [.recd]) s) rfl r).only .evq (by decide)

theorem execIslandRecordWrite_takes {r : EvRec} {rest : List EvRec} (hon : s.recd.on = true) (hg : s.gait ≠ Gait.paddock)
    (hisland : s.recd.island = r :: rest) :
    exec .islandRecordWrite s = .next (State.ringPut { s with recd := { s.recd with island := rest } } r) := by
  have hturn : (s.recd.on && s.gait != Gait.paddock) = true := by simp [hon, hg]
  show execIslandRecordWrite s = _
  unfold execIslandRecordWrite
  rw [hturn, hisland]

/-- Settles O7. -/
theorem captureCommandsComplete : Obligations.CaptureCommandsComplete := by
  unfold Obligations.CaptureCommandsComplete
  refine ⟨fun s hw hfifo hnet hlink hserves hheld => ?_, fun s hw hstate hfifo => ?_, fun s hw hstate => ?_,
    fun s tag e h hlen hmode htrig h0 h32 hsrc hruns hrate => ?_, fun s tag e h hstate hat => ?_, fun s tag e h hstate hat => ?_,
    fun s tag e h hu hsrc hedges hruns => ?_, fun s tag e h hu h1 h256 hend => ?_, fun s tag e h hx hy hxe hye hruns => ?_,
    fun s tag e h h1 h2 hend => ?_, fun s r rest hw hruns hserves hq hisland => ?_,
    fun s r rest hon hg hisland => execIslandRecordWrite_takes hon hg hisland, fun s tag e h hstate => ?_, fun s tag e h hstate => ?_⟩
  · exact ⟨_, execDatagramClose_sends hfifo hnet hlink hserves hheld, rfl, rfl, rfl,
      ((State.RegsBut.refl s _).modCap _).setFld (canonAfterModCap hw _) _ _ _ (by simp) (by decide), datagramLeft_only⟩
  · exact ⟨_, execFlushComplete_ends hstate hfifo, capEnd_state hw, capEnd_regsBut hw⟩
  · have hlost := canonAfterCountN hw F.CAP_STAT_CAP_LOST 0 s.cap.fifo.length
    have hempty := canonAfterModCap hlost fun c => { c with fifo := [], gap := 0 }
    refine ⟨_, execFlushTimeout_ends hstate, capEnd_state (canonAfterFld hempty _ _ _), congrArg CapSt.fifo capEnd_cap, ?_⟩
    rw [capLevel_eq, (capEnd_regsBut (canonAfterFld hempty _ _ _)).fld _ _ (by decide), State.fld_setFld_apart hempty _ _ _ _ _ (by decide),
      State.modCap_fld, State.fld_countN_same hw _ _ _ (by decide)]
  · have hregs := capTaken_regsBut h.canon e ((List.range (e.a 8)).map fun i => (capSrcAt e.payload (8 * i)).1)
    have hsingle := capTaken_single h.canon e ((List.range (e.a 8)).map fun i => (capSrcAt e.payload (8 * i)).1)
    refine ⟨_, execCapCfg_taken h hlen hmode htrig h0 h32 hsrc hruns rfl hrate, ?_⟩
    rw [State.done_cap, State.done_flag]
    exact ⟨rfl, rfl, rfl, hsingle, h.done_after (hregs.svpRuns rfl rfl rfl) rfl (by decide)⟩
  · exact ⟨_, execCapStart_starts h hstate hat, rfl, h.waits rfl rfl rfl, modCap_start_only _ _⟩
  · exact ⟨_, execCapStop_stops h hstate hat, rfl, h.waits rfl rfl rfl, modCap_start_only _ _⟩
  · refine ⟨_, execCapHistCfg_taken h hu hsrc hedges hruns, ?_⟩
    rw [State.done_cap, State.done_fld, histTaken_hist hu, histTaken_out h.canon hu]
    exact ⟨rfl, rfl, h.done_after (histTaken_runs h.canon hu _) rfl (by decide)⟩
  · exact ⟨_, execCapHistRead_taken h hu h1 h256 hend, h.completed _ _ _ (by decide), State.complete_only _ _ _ _ _⟩
  · refine ⟨_, execCapPmapCfg_taken h hx hy hxe hye hruns, ?_⟩
    rw [State.done_cap]
    exact ⟨rfl, rfl, rfl, rfl, h.done_after (t := s.modCap _) (State.svpRuns_of_regs rfl rfl) rfl (by decide)⟩
  · exact ⟨_, execCapPmapRead_taken h h1 h2 hend, h.completed _ _ _ (by decide), State.complete_only _ _ _ _ _⟩
  · refine ⟨_, execEventDrain_takes hruns hserves hq hisland, ?_⟩
    rw [cond_ringPut_evq]
    refine ⟨rfl, rfl, vget_same _ _ _ (Nat.mod_lt _ (by decide)), fun hon hflag => ?_, fun h => ?_⟩
    · simp only [hon, hflag, BEq.rfl, Bool.and_true, State.cond_true]
      rfl
    · have hskip : (s.recd.on && r.flags % 2 == 0) = false := by rcases h with h | h <;> simp [h]
      rw [hskip]
      rfl
  · refine ⟨_, execCapStart_rearms h hstate, ?_⟩
    have hregs : s.RegsBut (s.setFlag F.CAP_STAT_ARMED 0 true) [(F.CAP_STAT_ARMED, 0)] :=
      (State.RegsBut.refl s _).setFlag h.canon _ _ _ (by simp) (by decide)
    rw [State.done_flag, State.flag_setFlag_same h.canon _ _ _ (by decide)]
    exact ⟨rfl, h.done_after (hregs.svpRuns rfl rfl rfl) rfl (by decide), hregs.done _ _,
      (State.done_in (State.setFlag_in (Within.refl (Part.mask [.regs, .fcp, .macs]) s) rfl _ _ _) rfl _ _).only⟩
  · exact ⟨_, (serve_eq h _).trans (congrArg _ (if_pos hstate)), h.completed _ _ _ (by decide), State.done_only _ _⟩

end Sys2Proof.Machine
end

section
/-!
PROOFS. The conditions of the ports (R61 to R85), each raised on its port alone, and the ends of CURLIM and of a pull window (R79 to R84).
-/
namespace Sys2Proof.Machine

variable {s : State}

/-- An event behind operations that leave the queue alone is told. -/
theorem State.told_of_evq {t : State} (h : t.evq = s.evq) (code unit data : Nat) : s.Told (t.post code unit data) code unit data :=
  State.post_told (h ▸ Nat.le_refl _) code unit data

theorem State.port_modPort {p : Nat} (hp : p < 12) (f : PortSt → PortSt) : (s.modPort p f).port p = f (s.port p) := vget_same _ _ _ hp

/-- A condition raised: it stands behind those of its port, and nothing else changed. -/
theorem raise_raised {p : Nat} (hp : p < 12) (c : PortCond) : ((s.raise p c).port p).conds = (s.port p).conds ++ [c] ∧ s.Only (s.raise p c) [.ports] :=
  ⟨congrArg PortSt.conds (State.port_modPort hp _), (State.raise_in (Within.refl (Part.mask [.ports]) s) rfl p c).only⟩

/-- A command whose condition holds raises it. -/
theorem raised_of_if {c : Prop} [Decidable c] (h : c) {p : Nat} (hp : p < 12) (x : PortCond) : ∃ t, (Host.Outcome.next (if c then s.raise p x else s) :
    Host.Outcome State Fault Refusal) = .next t ∧ (t.port p).conds = (s.port p).conds ++ [x] ∧ s.Only t [.ports] :=
  ⟨_, congrArg Host.Outcome.next (if_pos h), raise_raised hp x⟩

theorem execPresyncWindowEnd_full {p : Fin 4} (hstate : s.pstate p = PS.presync) (hfull : s.windowFull p = true) :
    exec (.presyncWindowEnd p) s = .next (if s.lockOk p then s.raise p .presyncOk
      else s.modPort p fun q => { q with wLow := 0x7F7FFFFF#32, wHigh := 0#32, wAmp := 0#32, winPeriods := 0 }) := by
  refine congrArg Host.Outcome.next (if_neg ?_)
  simp [hstate, hfull]

theorem execCurlimRampComplete_done {p : Fin 4} {k : Nat} (hstate : s.pstate p = PS.curlim) (hramp : (s.port p).clRamp = some k)
    (hlast : s.lasts k (s.pw p 31) = true) : exec (.curlimRampComplete p) s = .next (s.raise p .curlimDone) := by
  show execCurlimRampComplete p s = _
  unfold execCurlimRampComplete
  simp [hramp, hstate, hlast]

theorem execEnvelopeRunLimit_raises {p : Fin 12} (hstate : s.pstate p = PS.run) (hrun : s.envN p ≤ s.fld F.PORT_ENV_RUN_LEN p) (hp : p.val < 4)
    (hcl : s.clEn p = true) : exec (.envelopeRunLimit p) s = .next (s.raise p .envRun) := by
  show execEnvelopeRunLimit p s = _
  unfold execEnvelopeRunLimit
  simp [hstate, Nat.not_lt.mpr hrun, hp, hcl]

theorem execEnvelopeRunLimit_posts {p : Fin 12} (hstate : s.pstate p = PS.run ∨ 4 ≤ p.val ∧ s.pstate p = PS.rampdown)
    (hrun : s.envN p ≤ s.fld F.PORT_ENV_RUN_LEN p) (hcl : 4 ≤ p.val ∨ s.clEn p = false) (hpost : (s.port p).persistPosted = false) :
    exec (.envelopeRunLimit p) s = .next ((s.modPort p fun q => { q with persistPosted := true }).post EV.EV_ENV_PERSIST p
      (s.fld F.PORT_ENV_RUN_LEN p)) := by
  have hcond : ¬((!(s.pstate p == PS.run || (decide (4 ≤ p.val) && s.pstate p == PS.rampdown)) ||
      decide (s.fld F.PORT_ENV_RUN_LEN p < s.envN p)) = true) := by
    rcases hstate with h | h <;> simp [h, Nat.not_lt.mpr hrun]
  have hac : ¬(p.val < 4 ∧ s.clEn p = true) := by
    rintro ⟨h4, hen⟩
    rcases hcl with h | h
    · omega
    · simp [hen] at h
  refine congrArg Host.Outcome.next ((if_neg hcond).trans ((if_neg hac).trans (if_neg ?_)))
  rw [hpost]
  decide

/-- Settles O8: each command's condition is the one under which it raises. -/
theorem portConditionCommandsComplete : Obligations.PortConditionCommandsComplete := by
  unfold Obligations.PortConditionCommandsComplete
  refine ⟨fun s p hstate hbkr => raised_of_if ?_ (by omega) _, fun s p hstate => raised_of_if hstate (by omega) _, fun s p hstate hfull => ?_,
    fun s p hfull => ?_, fun s p hdone => raised_of_if hdone (by omega) _, fun s p high hstate hsw hpos hlast => raised_of_if ?_ (by omega) _,
    fun s p hstate hbkr => raised_of_if ⟨hstate, hbkr⟩ (by omega) _,
    fun s p hstate hrun hp hcl => ⟨_, execEnvelopeRunLimit_raises hstate hrun hp hcl, raise_raised p.isLt _⟩,
    fun s p hstate hrun hcl hpost => ?_, fun s p k hstate hramp hlast => ⟨_, execCurlimRampComplete_done hstate hramp hlast, raise_raised (by omega) _⟩,
    fun s p h4 hstate hout => raised_of_if ⟨h4, hstate, by rw [hout]; rfl⟩ p.isLt _,
    fun s p hstate hsrs hzero => raised_of_if ⟨hstate, by rw [hsrs]; rfl, hzero⟩ p.isLt _,
    fun s p hstate hsrs hzero => raised_of_if ⟨hstate, hsrs, hzero⟩ p.isLt _⟩
  · rcases hstate with ⟨hstate, hsw⟩ | hstate
    · simp [hstate, hsw, hbkr]
    · simp [hstate, hbkr]
  · refine ⟨_, execPresyncWindowEnd_full hstate hfull, ?_⟩
    cases s.lockOk p
    · have hport := State.port_modPort (s := s) (p := p) (by omega) fun q =>
        { q with wLow := 0x7F7FFFFF#32, wHigh := 0#32, wAmp := 0#32, winPeriods := 0 }
      exact ⟨(State.modPort_in (Within.refl (Part.mask [.ports]) s) rfl _ _).only, nofun,
        fun _ => by rw [if_neg Bool.false_ne_true, hport]; exact ⟨rfl, rfl⟩⟩
    · obtain ⟨hconds, honly⟩ := raise_raised (s := s) (p := p) (by omega) .presyncOk
      exact ⟨honly, fun _ => hconds, nofun⟩
  · refine congrArg Host.Outcome.next (if_pos ?_)
    simp [hfull]
  · exact ⟨hstate, hsw, hpos, hlast⟩
  · refine ⟨_, execEnvelopeRunLimit_posts hstate hrun hcl hpost, ?_, State.told_of_evq (State.modPort_evq _ _ _) _ _ _⟩
    unfold State.port
    rw [State.post_ports]
    exact congrArg PortSt.persistPosted (State.port_modPort p.isLt _)

/-! ### CURLIM and the pull window -/

theorem execCurlimTimeout_posts {p : Fin 4} (hstate : s.pstate p = PS.curlim) (hmax : fLt 0#32 (s.pw p 32) = true) {act : Bool}
    (hact : bitOf (s.port p).cfg.flags 4 = act) : exec (.curlimTimeout p) s =
      .next ((s.post EV.EV_CURLIM_TIMEOUT p (b2n act)).cond act fun t => t.srsRequest (2 ^ p.val) true) := by
  subst hact
  exact congrArg Host.Outcome.next (if_pos ⟨hstate, hmax⟩)

/-- A flag of a port's status, set behind a change of its record. -/
theorem portFlag_set (hw : s.Canon) (p : Nat) (f : PortSt → PortSt) {g : Fld} (hg : g.good = true) (b : Bool) :
    ((s.modPort p f).setFlag g p b).flag g p = b ∧ s.RegsBut ((s.modPort p f).setFlag g p b) [(g, p)] ∧
      s.Only ((s.modPort p f).setFlag g p b) [.regs, .ports] :=
  ⟨State.flag_setFlag_same (canonAfterModPort hw _ _) _ _ _ hg,
    ((State.RegsBut.refl s _).modPort _ _).setFlag (canonAfterModPort hw _ _) _ _ _ (by simp) hg,
    (State.setFlag_in (State.modPort_in (Within.refl (Part.mask [.regs, .ports]) s) rfl _ _) rfl _ _ _).only⟩

/-- Settles O9. -/
theorem curlimAndPullCommandsComplete : Obligations.CurlimAndPullCommandsComplete := by
  unfold Obligations.CurlimAndPullCommandsComplete
  refine ⟨fun s p hw hstate hramp hhit hquiet hcur => ?_, fun s p hw hstate hmax hact => ?_, fun s p hstate hmax hact => ?_,
    fun s p k hw hpull => ?_⟩
  · exact ⟨_, congrArg Host.Outcome.next (if_pos ⟨hstate, hramp, hhit, hquiet, hcur⟩),
      congrArg PortSt.clRamp (State.port_modPort (Nat.lt_trans p.isLt (by decide)) _), portFlag_set hw _ _ (by decide) _⟩
  · refine ⟨_, execCurlimTimeout_posts hstate hmax hact, ?_⟩
    rw [State.cond_false]
    exact ⟨State.told_of_evq rfl _ _ _, (State.RegsBut.refl s _).post hw _ _ _ fun _ hx => hx⟩
  · exact execCurlimTimeout_posts hstate hmax hact
  · refine ⟨_, congrArg Host.Outcome.next (if_neg (by rw [hpull]; exact nofun)), ?_, ?_, portFlag_set hw _ _ (by decide) _⟩
    · exact congrArg PortSt.pull (State.port_modPort (Nat.lt_trans p.isLt (by decide)) _)
    · exact congrArg PortSt.wPrime (State.port_modPort (Nat.lt_trans p.isLt (by decide)) _)

end Sys2Proof.Machine
end

section
/-!
PROOFS. RUN, the port commands and the setpoints (R60, R85, R380, R399, R402, R403).
-/
namespace Sys2Proof.Machine

variable {s : State} {tag : Fin 128} {e : Entry} {op : Nat}

/-! ### RUN -/

/-- DEV_STATE written, and the command completed. -/
theorem devState_done (h : s.Serves op tag e) {n : Nat} (hn : n < 4) : ∃ t, t = (s.setFld F.IDENT_STATE_DEV_STATE 0 n).done e.tag FS.FS_OK ∧
    t.devState = n ∧ t.Answered tag FS.FS_OK [] [] ∧ s.RegsBut t [(F.IDENT_STATE_DEV_STATE, 0)] ∧ s.Only t [.regs, .fcp, .macs] := by
  have hregs : s.RegsBut (s.setFld F.IDENT_STATE_DEV_STATE 0 n) [(F.IDENT_STATE_DEV_STATE, 0)] :=
    (State.RegsBut.refl s _).setFld h.canon _ _ _ (by simp) (by decide)
  refine ⟨_, rfl, ?_, h.done_after (hregs.svpRuns rfl rfl rfl) rfl (by decide), hregs.done _ _,
    (State.done_in (State.setFld_in (Within.refl (Part.mask [.regs, .fcp, .macs]) s) rfl _ _ _) rfl _ _).only⟩
  exact (State.done_fld ..).trans ((State.fld_setFld_same h.canon _ _ _ (by decide)).trans (Nat.mod_eq_of_lt hn))

theorem execRunGo_taken (h : s.Serves 0x0201 tag e) (hdev : s.devState = 1) (hclean : s.fld F.RST_STAT_UNCLEAN 0 = 0)
    (htile : (s.coef.found.any fun x => x.1 == 5) = false) :
    exec (.runGo tag) s = .next ((s.setFld F.IDENT_STATE_DEV_STATE 0 2).done e.tag FS.FS_OK) := by
  refine (serve_eq h _).trans (congrArg _ ?_)
  simp [hdev, hclean, htile]

theorem execRunStall_taken (h : s.Serves 0x0202 tag e) (hdev : s.devState = 2) (hoff : s.allOff = true) :
    exec (.runStall tag) s = .next ((s.setFld F.IDENT_STATE_DEV_STATE 0 1).done e.tag FS.FS_OK) := by
  refine (serve_eq h _).trans (congrArg _ ?_)
  simp [hdev, hoff]

/-! ### Port commands -/

/-- A command for a port that is open to it passes the checks that all port commands share. -/
theorem portCheck_open (h : s.PortOpen e) (needRun : Bool) : s.portCheck e false needRun = none := by
  obtain ⟨hp, hrole, hcfg, hfrom, hdev⟩ := h
  unfold State.portCheck
  simp [Nat.not_le.mpr hp, hrole, hdev, hfrom, hcfg]

theorem waitPort_waits (h : s.Serves op tag e) (hp : e.a 0 < 12) : s.PortWaits (s.waitPort e) tag (e.a 0) := by
  refine ⟨?_, ?_, (State.modPort_in (State.start_in (Within.refl (Part.mask [.fcp, .ports]) s) rfl _) rfl _ _).only⟩
  · exact h.waits rfl rfl rfl
  · rw [← h.tag_eq]
    exact congrArg PortSt.waits (State.port_modPort hp _)

/-- A port command that passes its checks waits at its port. -/
theorem portGo_waits (h : s.Serves op tag e) (hopen : s.PortOpen e) {i : Instr} {c : Entry → Option Nat}
    (hexec : exec i s = serve op tag.val s fun e => s.portGo e (c e)) (hc : c e = none) :
    ∃ t, exec i s = .next t ∧ s.PortWaits t tag (e.a 0) := by
  refine ⟨_, hexec.trans (serve_eq h _), ?_⟩
  rw [hc]
  exact waitPort_waits h hopen.1

theorem firstOf_none {b : Option Nat} : firstOf none b = b := rfl

/-- The checks of PORT_START that its mode, its time and the bus pass. -/
theorem portStart_checks (hopen : s.PortOpen e) {n : Nat} (hmode : e.a 1 ≤ 2) (hdc : e.a 0 < 4 ∨ e.a 1 = 0) (hns : leAt e.args 10 4 < 1000000000)
    (hfar : ∀ x, s.startTime e = some x → x ≤ (vget s.tb 0).ticks + 60 * 1000000000 * 65536) (hto : s.startTo (e.a 0) (e.a 1) = .inl n) :
    firstOf (s.portCheck e (decide (2 < e.a 1) || (decide (4 ≤ e.a 0) && e.a 1 != 0) || (match s.startTime e with
      | some t => decide ((vget s.tb 0).ticks + 60 * 1000000000 * 65536 < t)
      | none => false) || decide (1000000000 ≤ leAt e.args 10 4)) true) (match s.startTo (e.a 0) (e.a 1) with
      | .inl _ => none
      | .inr f => some f) = none := by
  have hsoon : (match s.startTime e with
      | some t => decide ((vget s.tb 0).ticks + 60 * 1000000000 * 65536 < t)
      | none => false) = false := by
    cases hx : s.startTime e with
    | none => rfl
    | some x => exact decide_eq_false (Nat.not_lt.mpr (hfar x hx))
  have hacdc : (decide (4 ≤ e.a 0) && e.a 1 != 0) = false := by
    rcases hdc with h | h
    · simp [Nat.not_le.mpr h]
    · simp [h]
  rw [hsoon, hacdc, decide_eq_false (Nat.not_lt.mpr hmode), decide_eq_false (Nat.not_le.mpr hns), hto]
  exact congrArg (firstOf · none) (portCheck_open hopen true)

/-! ### Setpoints -/

theorem execSpAc_taken (h : s.Serves 0x0301 tag e) (hok : s.spAcOk e = true) (hrole : s.roleBad = false) :
    exec (.spAc tag) s = .next (s.start e.tag) := by
  refine (serve_eq h _).trans (congrArg _ ?_)
  simp [hok, hrole]

theorem execSpDc_taken (h : s.Serves 0x0302 tag e) (hok : s.spDcOk e = true) (hrole : s.roleBad = false) :
    exec (.spDc tag) s = .next (s.start e.tag) := by
  refine (serve_eq h _).trans (congrArg _ ?_)
  simp [hok, hrole]

theorem execSpSlew_taken (h : s.Serves 0x0303 tag e) (hok : slewOk e = true) (hrole : s.roleBad = false) :
    exec (.spSlew tag) s = .next (s.start e.tag) := by
  refine (serve_eq h _).trans (congrArg _ ?_)
  simp [hok, hrole]

/-- A setpoint acts on its port's record alone. -/
theorem applySetpoint_only (e : Entry) : s.Only (s.applySetpoint e) [.ports] :=
  (State.applySetpoint_in (Within.refl (Part.mask [.ports]) s) rfl e).only

theorem execSetpointTakesEffect_due (hruns : s.svpRuns = true)
    (hfind : (s.fcp.inflight.find? fun x => x.tag == tag.val && x.op / 256 == 3 && x.started) = some e) (hat : s.atBoundary e = true)
    (hturn : s.setpointTurn e = true) : exec (.setpointTakesEffect tag) s = .next ((s.applySetpoint e).doneAt e.tag FS.FS_OK) := by
  have hslot : s.fcp.restartSlot.isNone = true := by
    unfold State.svpRuns at hruns
    exact (Bool.and_eq_true_iff.mp hruns).2
  show execSetpointTakesEffect tag s = _
  unfold execSetpointTakesEffect
  simp only [hslot, Bool.and_true, hfind, hat, hturn, if_true]

/-- A setpoint that takes effect completes its command. -/
theorem setpoint_answered (hi : s.Inv) (hruns : s.svpRuns = true)
    (hfind : (s.fcp.inflight.find? fun x => x.tag == tag.val && x.op / 256 == 3 && x.started) = some e) :
    ((s.applySetpoint e).doneAt e.tag FS.FS_OK).Answered tag FS.FS_OK [] [] := by
  have hsome := List.find?_some hfind
  simp only [Bool.and_eq_true, beq_iff_eq] at hsome
  have hfcp : (s.applySetpoint e).fcp = s.fcp := applySetpoint_only e .fcp (by decide)
  have hregs : (s.applySetpoint e).regs = s.regs := applySetpoint_only e .regs (by decide)
  rw [hsome.1.1]
  exact State.complete_held hi (List.mem_of_find?_eq_some hfind) hsome.1.1 hfcp ((State.svpRuns_of_regs hfcp hregs).trans hruns) _ _ _ _ (by decide)

theorem applySetpoint_ac (hop : e.op = 0x0301) : s.applySetpoint e = s.modPort (e.a 0) fun q => { q with
    target := (List.range 4).map fun k => if bitOf (e.a 1) k then e.af (4 + 4 * k) else q.target.getD k 0#32 } := by
  unfold State.applySetpoint
  simp only [hop]

/-- DC values apply whole. -/
theorem applySetpoint_dc (hop : e.op = 0x0302) (hp : e.a 0 < 12) : ((s.applySetpoint e).port (e.a 0)).target = (s.spDcNew e).1 ++ [0#32] ∧
    ((s.applySetpoint e).port (e.a 0)).slewed = (s.spDcNew e).1 ++ [0#32] := by
  unfold State.applySetpoint
  simp only [hop]
  rw [State.port_modPort hp]
  exact ⟨rfl, rfl⟩

theorem applySetpoint_slew (hop : e.op = 0x0303) :
    s.applySetpoint e = s.modPort (e.a 0) fun q => { q with slew := [e.af 4, e.af 8, e.af 12] } := by
  unfold State.applySetpoint
  simp only [hop]

/-- Settles O10: each command passes its checks under its hypotheses, and a setpoint takes effect by what its opcode writes. -/
theorem runPortAndSetpointCommandsComplete : Obligations.RunPortAndSetpointCommandsComplete := by
  unfold Obligations.RunPortAndSetpointCommandsComplete
  refine ⟨fun s tag e h hdev hclean htile => ?_, fun s tag e h hdev hoff => ?_,
    fun s tag e h hopen harm => portGo_waits h hopen rfl (by rw [portCheck_open hopen, firstOf_none, harm]),
    fun s tag e h hopen => portGo_waits h hopen rfl (portCheck_open hopen _),
    fun s tag e n h hopen hmode hdc hns hfar hto => portGo_waits h hopen rfl (portStart_checks hopen hmode hdc hns hfar hto),
    fun s tag e h hopen htime => portGo_waits h hopen rfl ?_, fun s tag e h hopen hlatch => portGo_waits h hopen rfl ?_,
    fun s tag e h hopen => portGo_waits h hopen rfl (portCheck_open hopen _),
    fun s tag e h hopen => portGo_waits h hopen rfl (portCheck_open hopen _),
    fun s tag e h hok hrole => ⟨_, execSpAc_taken h hok hrole, h.waits rfl rfl rfl, State.start_only _⟩,
    fun s tag e h hok hrole => ⟨_, execSpDc_taken h hok hrole, h.waits rfl rfl rfl, State.start_only _⟩,
    fun s tag e h hok hrole => ⟨_, execSpSlew_taken h hok hrole, h.waits rfl rfl rfl, State.start_only _⟩,
    fun s tag e hi hruns hfind hat hturn => ?_, fun s e hop hp k hk => ?_, fun s e hop hp => ?_, fun s e hop hp => ?_⟩
  · obtain ⟨t, ht, hstate⟩ := devState_done h (n := 2) (by decide)
    exact ⟨t, ht ▸ execRunGo_taken h hdev hclean htile, hstate⟩
  · obtain ⟨t, ht, hstate⟩ := devState_done h (n := 1) (by decide)
    exact ⟨t, ht ▸ execRunStall_taken h hdev hoff, hstate⟩
  · have hrange : (e.a32 4 != 0 && (decide (e.a32 4 < 10) || decide (60000 < e.a32 4))) = false := by
      rcases htime with h | ⟨h10, hmax⟩
      · simp [h]
      · simp [Nat.not_lt.mpr h10, Nat.not_lt.mpr hmax]
    simp only [hrange]
    exact portCheck_open hopen _
  · rw [portCheck_open hopen, firstOf_none, hlatch]
    rfl
  · exact ⟨_, execSetpointTakesEffect_due hruns hfind hat hturn, setpoint_answered hi hruns hfind, State.complete_ports ..,
      (State.doneAt_in (State.applySetpoint_in (Within.refl (Part.mask [.fcp, .ports, .macs]) s) rfl e) rfl _ _).only⟩
  · rw [applySetpoint_ac hop, State.port_modPort hp]
    interval_cases k <;> rfl
  · exact applySetpoint_dc hop hp
  · rw [applySetpoint_slew hop, State.port_modPort hp]

end Sys2Proof.Machine
end

section
/-!
PROOFS. Resets (R477 to R482, R485): the register file that a reset keeps, what the events of a reset leave, and each source's effect.
-/
namespace Sys2Proof.Machine

variable {s : State}

/-! ### The register file that a reset keeps -/

theorem keepRegs_foldl (r : Memory Word) (k : Nat) (keys : List Nat) : ∀ m : Memory Word, Memory.wf resetWord m = true →
    Memory.wf resetWord (keys.foldl (fun m k => Memory.set resetWord m k (Memory.get resetWord r k)) m) = true ∧
      Memory.get resetWord (keys.foldl (fun m k => Memory.set resetWord m k (Memory.get resetWord r k)) m) k =
        if k ∈ keys then Memory.get resetWord r k else Memory.get resetWord m k := by
  induction keys with
  | nil => exact fun m hm => ⟨hm, (if_neg List.not_mem_nil).symm⟩
  | cons k0 keys ih =>
    intro m hm
    obtain ⟨hwf, hget⟩ := ih _ (Memory.wf_set (d := resetWord) m k0 (Memory.get resetWord r k0) hm)
    refine ⟨hwf, hget.trans ?_⟩
    by_cases hk : k = k0
    · subst hk
      rw [Memory.get_set_same (d := resetWord) m k _ hm, ite_self, if_pos List.mem_cons_self]
    · rw [Memory.get_set_other (d := resetWord) m k0 k _ hm hk]
      simp [hk]

theorem keepRegs_get (keys : List Nat) (k : Nat) :
    Memory.get resetWord (s.keepRegs keys) k = if k ∈ keys then Memory.get resetWord s.regs k else resetWord k :=
  (keepRegs_foldl s.regs k keys [] rfl).2

/-- A field whose register is not kept reads as at reset. -/
theorem keepRegs_fld {t : State} {keys : List Nat} (h : t.regs = s.keepRegs keys) {f : Fld} {i : Nat} (hk : regKey f.cls i f.off ∉ keys) :
    t.fld f i = State.reset.fld f i := by
  unfold State.fld
  rw [h, keepRegs_get, if_neg hk]
  rfl

/-- A field that copies of others do not touch. -/
theorem foldl_copy_fld {f : Fld} (i : Nat) (v : Fld → Nat) : ∀ (l : List Fld) (t : State), t.Canon → l.all (fun q => f.apart q) = true →
    (l.foldl (fun t q => t.setFld q 0 (v q)) t).Canon ∧ (l.foldl (fun t q => t.setFld q 0 (v q)) t).fld f i = t.fld f i := by
  intro l
  induction l with
  | nil => exact fun t ht _ => ⟨ht, rfl⟩
  | cons q l ih =>
    intro t ht hl
    rw [List.all_cons, Bool.and_eq_true] at hl
    obtain ⟨hc, hf⟩ := ih (t.setFld q 0 (v q)) (canonAfterFld ht _ _ _) hl.2
    exact ⟨hc, hf.trans (State.fld_setFld_apart ht _ _ _ _ _ hl.1)⟩

/-! ### A Cold reset -/

/-- What a Cold reset leaves at reset. -/
theorem coldReset_parts : s.coldReset.fcp = State.reset.fcp ∧ s.coldReset.evq = State.reset.evq ∧ s.coldReset.ports = State.reset.ports ∧
    s.coldReset.recd = State.reset.recd ∧ s.coldReset.tack = State.reset.tack ∧ s.coldReset.pending = s.pending :=
  ⟨rfl, rfl, rfl, rfl, rfl, rfl⟩

/-- A register file kept from s shows the fields of the other registers at reset. -/
theorem kept_devState {t : State} {keys : List Nat} (ht : t.regs = s.keepRegs keys) (hk : regKey F.IDENT_STATE_DEV_STATE.cls 0 F.IDENT_STATE_DEV_STATE.off ∉ keys) :
    t.Canon ∧ t.fld F.IDENT_STATE_DEV_STATE 0 = 0 :=
  ⟨by unfold State.Canon; rw [ht]; exact keepRegs_wf _, (keepRegs_fld ht hk).trans (by decide)⟩

theorem coldReset_devState : s.coldReset.devState = 0 := by
  unfold State.devState State.coldReset
  refine (State.fld_setFlag_apart (canonAfterFlag (kept_devState (s := s) (keys := partRegs) rfl (by decide)).1 _ _ _) _ _ _ _ _ (by decide)).trans
    ((State.fld_setFlag_apart (kept_devState (s := s) (keys := partRegs) rfl (by decide)).1 _ _ _ _ _ (by decide)).trans ?_)
  exact (kept_devState (s := s) (keys := partRegs) rfl (by decide)).2

/-! ### A System reset -/

/-- What a System reset keeps of a trace channel: its copy in LPDDR. -/
def TraceCh.kept (t : TraceCh) : TraceCh := { ({} : TraceCh) with
  copy := t.copy, copyP := t.copyP, copyT := t.copyT, copyTrig := t.copyTrig, stepP := t.stepP, stepT := t.stepT }

/-- What a System reset leaves before it copies the fields of AON. -/
def State.systemBase (s : State) : State :=
  { s.coldReset with
    regs := s.keepRegs (partRegs ++ aonRegs), tb := vmod s.coldReset.tb 1 (fun _ => vget s.tb 1)
    recd := { s.recd with on := false, lost := s.evq.queue.length }
    hlp := { s.coldReset.hlp with store := s.hlp.store, oldest := s.hlp.oldest }, tack := s.tack
    clk := { s.coldReset.clk with grid := s.clk.grid, gridSync := s.clk.gridSync }, trace := s.trace.map TraceCh.kept
    boot := { s.coldReset.boot with cold := false, tackKept := s.boot.tackKept, skip := s.boot.skip } }

/-- The fields of AON. -/
def aonFlds : List Fld := [F.IDENT_ID_VARIANT_H, F.GAIT_STATUS_VARIANT_H, F.CLK_STAT_REF_OK, F.CLK_STAT_AON_RC, F.PAIR_CFG_PRIO,
  F.CLK_CFG_REF_EXT, F.ADC_STATUS_REF_EXT, F.BOOT_STAT_FAIL_A, F.BOOT_STAT_FAIL_B, F.HLP_STATUS_RETAIN_VALID]

theorem systemReset_eq : s.systemReset = aonFlds.foldl (fun t q => t.setFld q 0 (s.fld q 0)) (s.systemBase.setFlag F.TB_STAT_AON_CARRIED 1 true) := rfl

/-- Behind the copied fields and the flag of TB1 stands the base. -/
theorem systemReset_only : s.systemBase.Only s.systemReset [.regs] := by
  rw [systemReset_eq]
  exact (foldl_in aonFlds (State.setFlag_in (Within.refl (Part.mask [.regs]) s.systemBase) rfl F.TB_STAT_AON_CARRIED 1 true) fun _ _ h =>
    State.setFld_in h rfl _ _ _).only

theorem systemBase_parts : s.systemBase.fcp = State.reset.fcp ∧ s.systemBase.evq = State.reset.evq ∧ s.systemBase.ports = State.reset.ports ∧
    s.systemBase.tack = s.tack ∧ s.systemBase.recd = { s.recd with on := false, lost := s.evq.queue.length } ∧
    s.systemBase.hlp.store = s.hlp.store ∧ s.systemBase.trace = s.trace.map TraceCh.kept ∧
    s.systemBase.regs = s.keepRegs (partRegs ++ aonRegs) := by
  obtain ⟨hfcp, hevq, hports, -⟩ := coldReset_parts (s := s)
  simp only [State.systemBase, hfcp, hevq, hports, and_self]

/-- What a System reset leaves at reset, and what it keeps. -/
theorem systemReset_parts : s.systemReset.fcp = State.reset.fcp ∧ s.systemReset.evq = State.reset.evq ∧ s.systemReset.ports = State.reset.ports ∧
    s.systemReset.tack = s.tack ∧ s.systemReset.recd = { s.recd with on := false, lost := s.evq.queue.length } ∧
    s.systemReset.hlp.store = s.hlp.store ∧ s.systemReset.trace = s.trace.map TraceCh.kept := by
  obtain ⟨hfcp, hevq, hports, htack, hrecd, hstore, htrace, -⟩ := systemBase_parts (s := s)
  exact ⟨(systemReset_only .fcp (by decide)).trans hfcp, (systemReset_only .evq (by decide)).trans hevq,
    (systemReset_only .ports (by decide)).trans hports, (systemReset_only .tack (by decide)).trans htack,
    (systemReset_only .recd (by decide)).trans hrecd, (congrArg HlpSt.store (systemReset_only .hlp (by decide))).trans hstore,
    (systemReset_only .trace (by decide)).trans htrace⟩

theorem vget_map {α β : Type} [Inhabited α] [Inhabited β] {n : Nat} (v : Vector α n) (f : α → β) {i : Nat} (hi : i < n) :
    vget (v.map f) i = f (vget v i) := by
  unfold vget
  rw [Vector.toList_map, List.getD_eq_getElem _ _ (by simpa using hi), List.getD_eq_getElem _ _ (by simpa using hi), List.getElem_map]

theorem systemReset_copy {c : Nat} (hc : c < 8) : (s.systemReset.tr c).copy = (s.tr c).copy := by
  obtain ⟨-, -, -, -, -, -, htrace⟩ := systemReset_parts (s := s)
  unfold State.tr
  rw [htrace, vget_map _ _ hc]
  rfl

theorem systemReset_devState : s.systemReset.Canon ∧ s.systemReset.devState = 0 := by
  obtain ⟨-, -, -, -, -, -, -, hregs⟩ := systemBase_parts (s := s)
  obtain ⟨hbase, hzero⟩ := kept_devState (s := s) hregs (by decide)
  obtain ⟨hc, hf⟩ := foldl_copy_fld (f := F.IDENT_STATE_DEV_STATE) 0 (fun q => s.fld q 0) aonFlds _
    (canonAfterFlag hbase F.TB_STAT_AON_CARRIED 1 true) (by decide)
  rw [systemReset_eq]
  exact ⟨hc, hf.trans ((State.fld_setFlag_apart hbase _ _ _ _ _ (by decide)).trans hzero)⟩

/-! ### The events of a reset -/

/-- What the events of a reset leave: they move only the queue, the buffer of island records and the triggers of the trace. -/
structure EventsOnly (s t : State) : Prop where
  within : Within (Part.mask [.regs, .evq, .trace, .recd]) s t
  ring : t.recd.ring = s.recd.ring
  copy : ∀ c < 8, (t.tr c).copy = (s.tr c).copy
  regs : s.Canon → t.Canon ∧ s.RegsBut t evqFlds

theorem EventsOnly.refl (s : State) : EventsOnly s s := ⟨Within.refl _ s, rfl, fun _ _ => rfl, fun hw => ⟨hw, State.RegsBut.refl s _⟩⟩

theorem trFire_copy (src : Nat) (ok : Nat → Bool) {c : Nat} (hc : c < 8) : ((s.trFire src ok).tr c).copy = (s.tr c).copy := by
  refine trFire_keeps (P := fun t => (t.tr c).copy = (s.tr c).copy) _ _ rfl fun t k _ ht => Eq.trans ?_ ht
  by_cases hk : k = c
  · subst hk
    rw [State.tr_modTr hc]
    rfl
  · exact congrArg TraceCh.copy (vget_other t.trace k c _ hk)

/-- Behind the triggers that an event fires stands a state with its recorder and its trace. -/
theorem postAs_shape (island : Bool) (code unit data : Nat) : ∃ t : State, s.postAs island code unit data = t.trFire 3 (fun l => l % 65536 == code) ∧
    t.recd.ring = s.recd.ring ∧ t.trace = s.trace := by
  refine ⟨_, rfl, ?_, ?_⟩ <;> unfold State.cond <;> split <;> split <;> rfl

theorem EventsOnly.postAs {t : State} (h : EventsOnly s t) (island : Bool) (code unit data : Nat) :
    EventsOnly s (t.postAs island code unit data) := by
  obtain ⟨u, hu, hring, htrace⟩ := postAs_shape (s := t) island code unit data
  refine ⟨State.postAs_in h.within rfl _ _ _ _, ?_, fun c hc => ?_, fun hw => ?_⟩
  · rw [hu, State.trFire_eq]
    exact hring.trans h.ring
  · rw [hu, trFire_copy _ _ hc]
    unfold State.tr
    rw [htrace]
    exact h.copy c hc
  · obtain ⟨hc, hregs⟩ := h.regs hw
    exact ⟨canonAfterPostAs hc _ _ _ _, hregs.evq hc _ _ _ _ fun _ hx => hx⟩

theorem EventsOnly.cond {t : State} (h : EventsOnly s t) {b : Bool} {f : State → State} (hf : EventsOnly s (f t)) : EventsOnly s (t.cond b f) := by
  cases b
  · exact h
  · exact hf

/-- What a System reset ends of the state is posted. -/
theorem islandFalls_events (was : State) : EventsOnly s (s.islandFalls was) := by
  unfold State.islandFalls
  have hact : EventsOnly s (s.cond (was.flag F.PAIR_STATUS_ACT_OUT 0) fun t => t.postAct false) :=
    (EventsOnly.refl s).cond ((EventsOnly.refl s).postAs _ _ _ _)
  exact (hact.cond (hact.postAs _ _ _ _)).cond ((hact.cond (hact.postAs _ _ _ _)).postAs _ _ _ _)

/-- Without ACT_OUT, a Steward out of BOOT and a pair, a System reset ends nothing. -/
theorem islandFalls_quiet {was : State} (hact : was.flag F.PAIR_STATUS_ACT_OUT 0 = false) (hstw : was.fld F.STW_STATUS_STATE 0 = 0)
    (hpair : was.fld F.PAIR_STATUS_STATE 0 = 0) : s.islandFalls was = s := by
  unfold State.islandFalls
  simp only [hact, hstw, hpair]
  rfl

/-- The Steward's state before a System reset is posted. -/
theorem islandFalls_steward {was : State} (h : was.fld F.STW_STATUS_STATE 0 ≠ 0) : ∃ r ∈ (s.islandFalls was).evq.queue, r.code = EV.EV_STW_STATE ∧
    r.data = was.fld F.STW_STATUS_STATE 0 % 2 ^ 64 := by
  have hne : (was.fld F.STW_STATUS_STATE 0 != 0) = true := by simpa using h
  unfold State.islandFalls
  simp only [hne, State.cond_true]
  generalize s.cond (was.flag F.PAIR_STATUS_ACT_OUT 0) _ = t
  obtain ⟨r, hr, -, hcode, -, hdata⟩ := post_recent (s := t) EV.EV_STW_STATE noUnit (was.fld F.STW_STATUS_STATE 0)
  have hmem : ∀ {k : Nat} {u : State}, Recent k r u → r ∈ u.evq.queue := fun ⟨l, m, hq, _⟩ => by rw [hq]; simp
  refine ⟨r, ?_, hcode, hdata⟩
  unfold State.cond
  split
  · exact hmem (hr.post (by decide) _ _ _)
  · exact hmem hr

/-! ### Sources -/

/-- The fields that the end of a Spur session clears. -/
def spurFlds : List Fld := [F.SPUR_CTRL_ACTIVE, F.SPUR_CLE_DLY, F.SPUR_ADC_DLY, F.SPUR_GL_DLY, F.SPUR_BP_MB_MASK, F.SPUR_BP_MIRROR,
  F.SPUR_SHIFT_SAMP, F.SPUR_SHIFT_RELOAD]

theorem State.RegsBut.mono {t : State} {l k : List (Fld × Nat)} (h : s.RegsBut t l) (hl : ∀ x ∈ l, x ∈ k) : s.RegsBut t k :=
  fun r b hb => h r b fun x hx => hb x (hl x hx)

theorem State.RegsBut.trans {t u : State} {l k : List (Fld × Nat)} (h : s.RegsBut t l) (h' : t.RegsBut u k) : s.RegsBut u (l ++ k) :=
  fun r b hb => (h' r b fun x hx => hb x (List.mem_append_right _ hx)).trans (h r b fun x hx => hb x (List.mem_append_left _ hx))

/-- Between s and t only these fields were written, and t's register file is in canonical form. -/
structure State.Writes (s t : State) (l : List (Fld × Nat)) : Prop where
  canon : t.Canon
  but : s.RegsBut t l

section
variable {t u : State} {l k : List (Fld × Nat)}

theorem State.Writes.refl (hw : s.Canon) (l : List (Fld × Nat)) : s.Writes s l := ⟨hw, State.RegsBut.refl s l⟩

theorem State.Writes.setFld (h : s.Writes t l) (f : Fld) (i v : Nat) (hm : (f, i) ∈ l) (hf : f.good = true) : s.Writes (t.setFld f i v) l :=
  ⟨canonAfterFld h.canon _ _ _, h.but.setFld h.canon _ _ _ hm hf⟩

theorem State.Writes.setFlag (h : s.Writes t l) (f : Fld) (i : Nat) (b : Bool) (hm : (f, i) ∈ l) (hf : f.good = true) :
    s.Writes (t.setFlag f i b) l := h.setFld f i _ hm hf

theorem State.Writes.count (h : s.Writes t l) (f : Fld) (i : Nat) (hm : (f, i) ∈ l) (hf : f.good = true) : s.Writes (t.count f i) l :=
  h.setFld f i _ hm hf

theorem State.Writes.setReg (h : s.Writes t l) (r : Reg) (i : Nat) (w : Word) (hm : (r.whole, i) ∈ l) : s.Writes (t.setReg r i w) l :=
  ⟨canonAfterReg h.canon _ _ _, h.but.setReg h.canon _ _ _ hm⟩

theorem State.Writes.post (h : s.Writes t l) (code unit data : Nat) (hm : ∀ x ∈ evqFlds, x ∈ l) : s.Writes (t.post code unit data) l :=
  ⟨canonAfterPost h.canon _ _ _, h.but.post h.canon _ _ _ hm⟩

theorem State.Writes.same (h : s.Writes t l) (e : u.regs = t.regs) : s.Writes u l :=
  ⟨by unfold State.Canon; rw [e]; exact h.canon, h.but.same e⟩

theorem State.Writes.trans (h : s.Writes t l) (h' : t.Writes u k) : s.Writes u (l ++ k) := ⟨h'.canon, h.but.trans h'.but⟩

theorem State.Writes.mono (h : s.Writes t l) (hl : ∀ x ∈ l, x ∈ k) : s.Writes t k := ⟨h.canon, h.but.mono hl⟩

theorem State.Writes.modPort (h : s.Writes t l) (p : Nat) (f : PortSt → PortSt) : s.Writes (t.modPort p f) l := ⟨h.canon, h.but⟩

theorem State.Writes.modLane (h : s.Writes t l) (i : Nat) (f : LaneSt → LaneSt) : s.Writes (t.modLane i f) l := ⟨h.canon, h.but⟩

theorem State.Writes.modBoot (h : s.Writes t l) (f : BootSt → BootSt) : s.Writes (t.modBoot f) l := ⟨h.canon, h.but⟩

theorem State.Writes.modClk (h : s.Writes t l) (f : ClkSt → ClkSt) : s.Writes (t.modClk f) l := ⟨h.canon, h.but⟩

theorem State.Writes.modStw (h : s.Writes t l) (f : StwSt → StwSt) : s.Writes (t.modStw f) l := ⟨h.canon, h.but⟩

theorem State.Writes.modLeg (h : s.Writes t l) (n : Nat) (f : LegSt → LegSt) : s.Writes (t.modLeg n f) l := ⟨h.canon, h.but⟩

theorem State.Writes.modPwm (h : s.Writes t l) (f : PwmSt → PwmSt) : s.Writes (t.modPwm f) l := ⟨h.canon, h.but⟩

theorem State.Writes.modCle (h : s.Writes t l) (f : CleSt → CleSt) : s.Writes (t.modCle f) l := ⟨h.canon, h.but⟩

theorem State.Writes.modCap (h : s.Writes t l) (f : CapSt → CapSt) : s.Writes (t.modCap f) l := ⟨h.canon, h.but⟩

theorem State.Writes.modHlp (h : s.Writes t l) (f : HlpSt → HlpSt) : s.Writes (t.modHlp f) l := ⟨h.canon, h.but⟩

theorem State.Writes.modCoef (h : s.Writes t l) (f : CoefSt → CoefSt) : s.Writes (t.modCoef f) l := ⟨h.canon, h.but⟩

theorem State.Writes.modMac (h : s.Writes t l) (m : Nat) (f : MacSt → MacSt) : s.Writes (t.modMac m f) l := ⟨h.canon, h.but⟩

theorem State.Writes.modPair (h : s.Writes t l) (f : PairSt → PairSt) : s.Writes (t.modPair f) l := ⟨h.canon, h.but⟩

theorem State.Writes.modObs (h : s.Writes t l) (p : Nat) (f : ObsSt → ObsSt) : s.Writes (t.modObs p f) l := ⟨h.canon, h.but⟩

theorem State.Writes.modCtx (h : s.Writes t l) (i : Nat) (f : CtxSt → CtxSt) : s.Writes (t.modCtx i f) l := ⟨h.canon, h.but⟩

theorem State.Writes.modTb (h : s.Writes t l) (b : Nat) (f : TimeBase → TimeBase) : s.Writes (t.modTb b f) l := ⟨h.canon, h.but⟩

theorem State.Writes.modPtp (h : s.Writes t l) (f : PtpSt → PtpSt) : s.Writes (t.modPtp f) l := ⟨h.canon, h.but⟩

theorem State.Writes.done (h : s.Writes t l) (tag status : Nat) : s.Writes (t.done tag status) l := h.same (State.done_regs _ _)

theorem State.Writes.cond (h : s.Writes t l) {b : Bool} {f : State → State} (hf : s.Writes (f t) l) : s.Writes (t.cond b f) l := by
  cases b
  · exact h
  · exact hf

end

/-- Fields cleared in turn. -/
theorem foldl_zero {k : List (Fld × Nat)} : ∀ (l : List Fld) (t : State), t.Canon → s.RegsBut t k → (∀ q ∈ l, (q, 0) ∈ k ∧ q.good = true) →
    (l.foldl (fun t f => t.setFld f 0 0) t).Canon ∧ s.RegsBut (l.foldl (fun t f => t.setFld f 0 0) t) k := by
  intro l
  induction l with
  | nil => exact fun t hw h _ => ⟨hw, h⟩
  | cons q l ih =>
    intro t hw h hl
    obtain ⟨hmem, hgood⟩ := hl q List.mem_cons_self
    exact ih _ (canonAfterFld hw q 0 0) (h.setFld hw q 0 0 hmem hgood) fun x hx => hl x (List.mem_cons_of_mem _ hx)

/-- What the end of a Spur session leaves. -/
theorem spurStop_only (reason : Nat) : s.Only (s.spurStop reason) [.regs, .evq, .trace, .recd, .spur] :=
  (State.spurStop_in (Within.refl (Part.mask [.regs, .evq, .trace, .recd, .spur]) s) rfl _).only

theorem spurStop_boot (reason : Nat) : (s.spurStop reason).boot = s.boot := spurStop_only reason .boot (by decide)

theorem spurStop_leaves (hw : s.Canon) (reason : Nat) : (s.spurStop reason).Canon ∧
    s.RegsBut (s.spurStop reason) (evqFlds ++ spurFlds.map fun f => (f, 0)) := by
  unfold State.spurStop
  split
  · obtain ⟨hc, hregs⟩ := foldl_zero (s := s) (k := evqFlds ++ spurFlds.map fun f => (f, 0)) spurFlds
      { s with spur := { s.spur with req := none } } hw (State.RegsBut.refl s _) (by decide)
    exact ⟨canonAfterPost hc _ _ _, hregs.post hc _ _ _ fun x hx => List.mem_append_left _ hx⟩
  · exact ⟨hw, State.RegsBut.refl s _⟩

theorem spurStop_records (reason : Nat) : (s.spurStop reason).recd.ring = s.recd.ring ∧
    ∀ c < 8, ((s.spurStop reason).tr c).copy = (s.tr c).copy := by
  unfold State.spurStop
  split
  · have hzero : ∀ (l : List Fld) (t : State), (l.foldl (fun t f => t.setFld f 0 0) t).recd = t.recd ∧
        (l.foldl (fun t f => t.setFld f 0 0) t).trace = t.trace := fun l => by
      induction l with
      | nil => exact fun t => ⟨rfl, rfl⟩
      | cons q l ih => exact fun t => ih (t.setFld q 0 0)
    obtain ⟨hrecd, htrace⟩ := hzero spurFlds { s with spur := { s.spur with req := none } }
    have hpost := (EventsOnly.refl (spurFlds.foldl (fun t f => t.setFld f 0 0) { s with spur := { s.spur with req := none } })).postAs
      (islandEvent EV.EV_SPUR_STOP) EV.EV_SPUR_STOP noUnit reason
    refine ⟨hpost.ring.trans (congrArg RecSt.ring hrecd), fun c hc => (hpost.copy c hc).trans ?_⟩
    unfold State.tr
    rw [htrace]
  · exact ⟨rfl, fun _ _ => rfl⟩

end Sys2Proof.Machine
end

section
/-!
PROOFS. The sources of a reset (R478 to R482), the Block resets of the debug port (R485) and the release.
-/
namespace Sys2Proof.Machine

variable {s : State}

/-! ### Sources of Cold and System reach -/

theorem assertReset_cold (h : s.boot.reach = none) (src : Nat) :
    s.assertReset 0 src = (s.spurStop 3).coldReset.modBoot fun b => { b with reach := some 0, srcs := [src] } := by
  unfold State.assertReset
  simp only [spurStop_boot, h]
  rfl

theorem assertReset_system (h : s.boot.reach = none) (src : Nat) : s.assertReset 1 src =
    ((s.spurStop 3).systemReset.islandFalls (s.spurStop 3)).modBoot fun b => { b with reach := some 1, srcs := [src] } := by
  unfold State.assertReset
  simp only [spurStop_boot, h]
  rfl

/-- A source that joins a reset in progress: it stands among the sources, and so do those before it. -/
theorem noteSrc_mem (src : Nat) : src ∈ (s.noteSrc src).boot.srcs ∧ ∀ k ∈ s.boot.srcs, k ∈ (s.noteSrc src).boot.srcs := by
  unfold State.noteSrc State.modBoot
  simp only
  split
  · exact ⟨List.contains_iff_mem.mp ‹_›, fun _ hk => hk⟩
  · exact ⟨by simp, fun _ hk => List.mem_append_left _ hk⟩

/-- A wider source while a reset is in progress. -/
theorem assertReset_widens {r reach : Nat} (h : s.boot.reach = some r) (hr : reach < r) (src : Nat) : s.assertReset reach src =
    ((s.spurStop 3).coldReset.modBoot fun b => { b with reach := some 0, srcs := s.boot.srcs }).noteSrc src := by
  unfold State.assertReset
  simp only [spurStop_boot, h, hr, if_true]

/-- Another source while a reset is in progress. -/
theorem assertReset_joins {r reach : Nat} (h : s.boot.reach = some r) (hr : ¬reach < r) (src : Nat) : s.assertReset reach src =
    ((s.spurStop 3).modBoot fun b => { b with reach := some r, srcs := s.boot.srcs }).noteSrc src := by
  unfold State.assertReset
  simp only [spurStop_boot, h, hr, if_false]

/-- The sources of a reset in progress stand on. -/
theorem assertReset_srcs {r : Nat} (h : s.boot.reach = some r) (reach src : Nat) :
    (s.assertReset reach src).boot.reach = some (if reach < r then 0 else r) ∧ src ∈ (s.assertReset reach src).boot.srcs ∧
      ∀ k ∈ s.boot.srcs, k ∈ (s.assertReset reach src).boot.srcs := by
  by_cases hr : reach < r
  · rw [assertReset_widens h hr, if_pos hr]
    exact ⟨rfl, noteSrc_mem src⟩
  · rw [assertReset_joins h hr, if_neg hr]
    exact ⟨rfl, noteSrc_mem src⟩

/-- What a Cold reset leaves, whatever it records. -/
theorem coldReset_leaves (f : BootSt → BootSt) : ((s.spurStop 3).coldReset.modBoot f).pending = s.pending ∧
    ((s.spurStop 3).coldReset.modBoot f).fcp = State.reset.fcp ∧ ((s.spurStop 3).coldReset.modBoot f).evq.queue = [] ∧
    ((s.spurStop 3).coldReset.modBoot f).ports = State.reset.ports ∧ ((s.spurStop 3).coldReset.modBoot f).recd = State.reset.recd ∧
    ((s.spurStop 3).coldReset.modBoot f).tack = State.reset.tack ∧ ((s.spurStop 3).coldReset.modBoot f).devState = 0 := by
  obtain ⟨hfcp, hevq, hports, hrecd, htack, hpend⟩ := coldReset_parts (s := s.spurStop 3)
  exact ⟨hpend.trans (spurStop_only 3 .pending (by decide)), hfcp, congrArg EvqSt.queue hevq, hports, hrecd, htack,
    (State.modBoot_fld _ _ _ _).trans coldReset_devState⟩

/-- A source of Cold reach. -/
theorem assertReset_coldReach (src : Nat) : (s.assertReset 0 src).boot.reach = some 0 ∧ src ∈ (s.assertReset 0 src).boot.srcs ∧
    (s.assertReset 0 src).pending = s.pending ∧ (s.boot.reach ≠ some 0 → (s.assertReset 0 src).fcp = State.reset.fcp ∧
      (s.assertReset 0 src).evq.queue = [] ∧ (s.assertReset 0 src).ports = State.reset.ports ∧
      (s.assertReset 0 src).recd = State.reset.recd ∧ (s.assertReset 0 src).tack = State.reset.tack ∧ (s.assertReset 0 src).devState = 0) := by
  cases h : s.boot.reach with
  | none =>
    rw [assertReset_cold h]
    obtain ⟨hpend, hrest⟩ := coldReset_leaves (s := s) fun b => { b with reach := some 0, srcs := [src] }
    exact ⟨rfl, List.mem_singleton.mpr rfl, hpend, fun _ => hrest⟩
  | some r =>
    obtain ⟨hreach, hsrc, -⟩ := assertReset_srcs h 0 src
    have hzero : (if 0 < r then 0 else r) = 0 := by split <;> omega
    refine ⟨hreach.trans (congrArg some hzero), hsrc, ?_⟩
    by_cases hr : 0 < r
    · rw [assertReset_widens h hr]
      obtain ⟨hpend, hrest⟩ := coldReset_leaves (s := s) fun b => { b with reach := some 0, srcs := s.boot.srcs }
      exact ⟨hpend, fun _ => hrest⟩
    · rw [assertReset_joins h hr]
      refine ⟨(State.modBoot_pending _ _).trans (spurStop_only 3 .pending (by decide)), fun hne => absurd ?_ hne⟩
      rw [Nat.eq_zero_of_not_pos hr]

/-- A source of System reach, outside a reset. -/
theorem assertReset_systemReach (h : s.boot.reach = none) (src : Nat) : (s.assertReset 1 src).boot.reach = some 1 ∧
    (s.assertReset 1 src).boot.srcs = [src] ∧ (s.assertReset 1 src).fcp = State.reset.fcp ∧ (s.assertReset 1 src).ports = State.reset.ports ∧
    (s.assertReset 1 src).recd.ring = s.recd.ring ∧ (s.assertReset 1 src).tack = s.tack := by
  obtain ⟨hfcp, -, hports, htack, hrecd, -, -⟩ := systemReset_parts (s := s.spurStop 3)
  have hfalls := islandFalls_events (s := (s.spurStop 3).systemReset) (s.spurStop 3)
  have honly := hfalls.within.only
  rw [assertReset_system h]
  exact ⟨rfl, rfl, (honly .fcp (by decide)).trans hfcp, (honly .ports (by decide)).trans hports,
    hfalls.ring.trans ((congrArg RecSt.ring hrecd).trans (spurStop_records 3).1),
    (honly .tack (by decide)).trans (htack.trans (spurStop_only 3 .tack (by decide)))⟩

/-- What else a System reset leaves: the HLP's retained store, the trace copies, and the events of what it ends. -/
theorem assertReset_systemKeeps (hw : s.Canon) (h : s.boot.reach = none) (src : Nat) :
    (s.assertReset 1 src).hlp.store = s.hlp.store ∧ (s.assertReset 1 src).devState = 0 ∧
    (∀ c < 8, ((s.assertReset 1 src).tr c).copy = (s.tr c).copy) ∧
    (s.fld F.STW_STATUS_STATE 0 = 0 → s.fld F.PAIR_STATUS_STATE 0 = 0 → s.flag F.PAIR_STATUS_ACT_OUT 0 = false →
      (s.assertReset 1 src).evq.queue = []) ∧
    (s.fld F.STW_STATUS_STATE 0 ≠ 0 → ∃ r ∈ (s.assertReset 1 src).evq.queue, r.code = EV.EV_STW_STATE ∧ r.data = s.fld F.STW_STATUS_STATE 0) := by
  obtain ⟨-, hevq, -, -, -, hstore, -⟩ := systemReset_parts (s := s.spurStop 3)
  have hfalls := islandFalls_events (s := (s.spurStop 3).systemReset) (s.spurStop 3)
  obtain ⟨hcanon, hdev⟩ := systemReset_devState (s := s.spurStop 3)
  obtain ⟨-, hspur⟩ := spurStop_leaves hw 3
  have hstw : (s.spurStop 3).fld F.STW_STATUS_STATE 0 = s.fld F.STW_STATUS_STATE 0 := hspur.fld _ _ (by decide)
  have hpair : (s.spurStop 3).fld F.PAIR_STATUS_STATE 0 = s.fld F.PAIR_STATUS_STATE 0 := hspur.fld _ _ (by decide)
  have hact : (s.spurStop 3).flag F.PAIR_STATUS_ACT_OUT 0 = s.flag F.PAIR_STATUS_ACT_OUT 0 := hspur.flag _ _ (by decide)
  rw [assertReset_system h]
  refine ⟨(congrArg HlpSt.store (hfalls.within.only .hlp (by decide))).trans (hstore.trans (congrArg HlpSt.store (spurStop_only 3 .hlp (by decide)))),
    ((hfalls.regs hcanon).2.fld _ _ (by decide)).trans hdev,
    fun c hc => (hfalls.copy c hc).trans ((systemReset_copy hc).trans ((spurStop_records 3).2 c hc)), fun h1 h2 h3 => ?_, fun h1 => ?_⟩
  · rw [State.modBoot_evq, islandFalls_quiet (hact.trans h3) (hstw.trans h1) (hpair.trans h2), hevq]
    rfl
  · obtain ⟨r, hr, hcode, hdata⟩ := islandFalls_steward (s := (s.spurStop 3).systemReset) (hstw ▸ h1)
    refine ⟨r, hr, hcode, ?_⟩
    rw [hdata, hstw]
    exact Nat.mod_eq_of_lt (Nat.lt_trans (fieldOf_lt _ _ _) (by decide))

/-! ### Block resets -/

/-- UNCLEAN lies outside RST_CAUSE and IDLE_OK. -/
theorem setUnclean_regsBut {t : State} {l : List (Fld × Nat)} (h : s.RegsBut t l) (hw : t.Canon) (hm : (F.RST_STAT_UNCLEAN, 0) ∈ l) (b : Nat) (on : Bool) :
    (t.setUnclean b on).Canon ∧ s.RegsBut (t.setUnclean b on) l :=
  ⟨canonAfterFld hw _ _ _, h.setFld hw _ _ _ hm (by decide)⟩

/-- A release moves UNCLEAN, and the queue where it posts. -/
theorem releaseBlock_regsBut (hw : s.Canon) (b : Nat) (ev : Bool) :
    (s.releaseBlock b ev).Canon ∧ s.RegsBut (s.releaseBlock b ev) ((F.RST_STAT_UNCLEAN, 0) :: evqFlds) := by
  obtain ⟨hc, hregs⟩ := setUnclean_regsBut (State.RegsBut.refl s ((F.RST_STAT_UNCLEAN, 0) :: evqFlds)) hw (by simp) b false
  unfold State.releaseBlock
  generalize s.setUnclean b false = t at *
  cases ev
  · rw [State.cond_false]
    exact ⟨hc, hregs⟩
  · rw [State.cond_true]
    exact ⟨canonAfterPost hc _ _ _, hregs.post hc _ _ _ fun x hx => List.mem_cons_of_mem _ hx⟩

theorem cond_count_regsBut (hw : s.Canon) (b : Bool) {f : Fld} (hf : f.good = true) (i : Nat) :
    (s.cond b fun t => t.count f i).Canon ∧ s.RegsBut (s.cond b fun t => t.count f i) [(f, i)] := by
  cases b
  · exact ⟨hw, State.RegsBut.refl s _⟩
  · exact ⟨canonAfterCount hw _ _, (State.RegsBut.refl s _).count hw _ _ (by simp) hf⟩

/-- RST_CAUSE and IDLE_OK as a Block reset writes them. -/
def State.blockCaused (s : State) (b : Nat) (idle : Bool) (src : Nat) : State :=
  (((s.setFld F.RST_CAUSE_REACH 0 3).setFld F.RST_CAUSE_BLOCK 0 b).setFlag F.RST_STAT_IDLE_OK 0 idle).setFld F.RST_CAUSE_SRC 0 src

theorem blockCaused_shows (hw : s.Canon) {b src : Nat} (hb : b < 16) (idle : Bool) (hsrc : src < 2 ^ 11) :
    (s.blockCaused b idle src).Canon ∧ (s.blockCaused b idle src).fld F.RST_CAUSE_REACH 0 = 3 ∧
      (s.blockCaused b idle src).fld F.RST_CAUSE_BLOCK 0 = b ∧ (s.blockCaused b idle src).fld F.RST_CAUSE_SRC 0 = src ∧
      (s.blockCaused b idle src).flag F.RST_STAT_IDLE_OK 0 = idle := by
  have hreach := canonAfterFld hw F.RST_CAUSE_REACH 0 3
  have hblock := canonAfterFld hreach F.RST_CAUSE_BLOCK 0 b
  have hidle := canonAfterFlag hblock F.RST_STAT_IDLE_OK 0 idle
  unfold State.blockCaused
  refine ⟨canonAfterFld hidle _ _ _, ?_, ?_, ?_, ?_⟩
  · simp +decide [hw, hreach, hblock, hidle]
  · simp +decide only [hidle, hblock, hreach, State.fld_setFld_apart, State.fld_setFlag_apart, State.fld_setFld_same]
    exact Nat.mod_eq_of_lt hb
  · rw [State.fld_setFld_same hidle _ _ _ (by decide)]
    exact Nat.mod_eq_of_lt hsrc
  · simp +decide [hblock, hidle]

/-- Behind RST_CAUSE and IDLE_OK the block releases at once, or waits for its clock. -/
theorem blockDone_eq (b : Nat) (idle : Bool) (src : Option Nat) : ∃ u, u = ((s.blockCaused b idle ((src.map fun k => 2 ^ k).getD 0)).cond (!idle)
    fun t => t.count F.RST_STAT_IDLE_TMO_CNT 0) ∧ s.blockDone b idle src = (if bitOf (u.fld F.CLK_STAT_CLK_OK 0) (blockDomain b)
      then u.releaseBlock b true else (u.modBoot fun x => { x with held := x.held ++ [(b, true)] }).waitClk) := ⟨_, rfl, rfl⟩

theorem blockDone_regsBut {b src : Nat} {idle : Bool} {o : Option Nat} (hsrc : src = (o.map fun k => 2 ^ k).getD 0)
    (hc : (s.blockCaused b idle src).Canon) : (s.blockCaused b idle src).RegsBut (s.blockDone b idle o)
      ([(F.RST_STAT_IDLE_TMO_CNT, 0)] ++ ((F.RST_STAT_WAIT_CLK, 0) :: (F.RST_STAT_UNCLEAN, 0) :: evqFlds)) := by
  subst hsrc
  obtain ⟨u, hu, hdone⟩ := blockDone_eq (s := s) b idle o
  obtain ⟨hc', hcount⟩ := cond_count_regsBut hc (!idle) (f := F.RST_STAT_IDLE_TMO_CNT) (by decide) 0
  rw [← hu] at hc' hcount
  rw [hdone]
  refine hcount.trans ?_
  split
  · exact (releaseBlock_regsBut hc' b true).2.mono fun x hx => List.mem_cons_of_mem _ hx
  · exact ((State.RegsBut.refl u _).modBoot _).setFlag (canonAfterModBoot hc' _) _ _ _ (by simp) (by decide)

/-- What a Block reset shows. -/
theorem blockDone_shows (hw : s.Canon) {b : Nat} (hb : b < 16) (idle : Bool) {src : Option Nat} (hsrc : (src.map fun k => 2 ^ k).getD 0 < 2 ^ 11) :
    (s.blockDone b idle src).fld F.RST_CAUSE_REACH 0 = 3 ∧ (s.blockDone b idle src).fld F.RST_CAUSE_BLOCK 0 = b ∧
      (s.blockDone b idle src).fld F.RST_CAUSE_SRC 0 = (src.map fun k => 2 ^ k).getD 0 ∧
      (s.blockDone b idle src).flag F.RST_STAT_IDLE_OK 0 = idle := by
  obtain ⟨hc, hreach, hblock, hcause, hidle⟩ := blockCaused_shows hw hb idle hsrc
  have hregs := blockDone_regsBut rfl hc
  exact ⟨(hregs.fld _ _ (by decide)).trans hreach, (hregs.fld _ _ (by decide)).trans hblock, (hregs.fld _ _ (by decide)).trans hcause,
    (hregs.flag _ _ (by decide)).trans hidle⟩

/-- A Block reset that Table 18.4 allows. -/
theorem blockReset_allowed {src : BlockSrc} {b : Nat} (h : s.mayReset src b = true) (idle : Bool) :
    s.blockReset src b idle = (s.blockClear b).blockDone b idle (blockSrcBit src) := by
  have hnone : s.boot.reach.isSome = false := by
    unfold State.mayReset at h
    simp only [Bool.and_eq_true] at h
    simpa using h.1.1
  unfold State.blockReset
  rw [hnone, h]
  rfl

theorem blockReset_shows (hi : s.Inv) {src : BlockSrc} {b : Nat} (hb : b < 16) (h : s.mayReset src b = true) (idle : Bool) :
    (s.blockReset src b idle).fld F.RST_CAUSE_REACH 0 = 3 ∧ (s.blockReset src b idle).fld F.RST_CAUSE_BLOCK 0 = b ∧
      (s.blockReset src b idle).fld F.RST_CAUSE_SRC 0 = ((blockSrcBit src).map fun k => 2 ^ k).getD 0 ∧
      (s.blockReset src b idle).flag F.RST_STAT_IDLE_OK 0 = idle := by
  have hok : Ok s.pending (s.blockClear b) := State.blockClear_ok ⟨hi, rfl⟩ b
  rw [blockReset_allowed h]
  exact blockDone_shows hok.inv.canon hb idle (by cases src <;> decide)

/-- A debug request during a Cold or System reset is only recorded. -/
theorem blockReset_noted (h : s.boot.reach.isSome = true) (hdbg : s.dbgOpen = true) (b : Nat) (idle : Bool) :
    s.blockReset .debug b idle = s.noteSrc 9 := by
  unfold State.blockReset
  rw [h, hdbg]
  rfl

theorem svpRestart_noted (h : s.boot.reach.isSome = true) (planned : Bool) (src slot : Nat) : s.svpRestart planned src slot = s.noteSrc src := by
  unfold State.svpRestart
  rw [if_pos h]

theorem execDebugResetRequest_open (h : s.dbgOpen = true) (what : DbgReset) : exec (.debugResetRequest what) s = .next (match what with
    | .system => s.assertReset 1 9
    | .supervisor => s.svpRestart false 9 s.boot.runSlot
    | .block b => s.blockReset .debug b true) := by
  refine congrArg Host.Outcome.next (if_neg ?_)
  rw [h]
  decide

/-! ### The release -/

/-- The fields that the options are latched in. -/
def optionFlds : List (Fld × Nat) := [(F.OPT_STAT_OPT_ERR, 0), (F.OPT_STAT_STRAP_ERR, 0), (F.OPT_STAT_STRAP_GOV, 0), (F.OPT_STAT_BAND, 0),
  (F.OPT_STAT_OPTIONS, 0), (F.CLK_CFG_REF_EXT, 0), (F.ADC_STATUS_REF_EXT, 0), (F.PAIR_CFG_PRIO, 0)]

theorem readOptions_writes (hw : s.Canon) (l : List Nat) : s.Writes (s.readOptions l) optionFlds := by
  unfold State.readOptions
  exact (((((((State.Writes.refl hw optionFlds).setFlag F.OPT_STAT_OPT_ERR 0 _ (by decide) (by decide)).setFlag F.OPT_STAT_STRAP_ERR 0 _
    (by decide) (by decide)).setFlag F.OPT_STAT_STRAP_GOV 0 _ (by decide) (by decide)).setFld F.OPT_STAT_BAND 0 _ (by decide)
    (by decide)).setFld F.OPT_STAT_OPTIONS 0 _ (by decide) (by decide)).setFld F.CLK_CFG_REF_EXT 0 _ (by decide) (by decide)).setFld
    F.ADC_STATUS_REF_EXT 0 _ (by decide) (by decide) |>.setFld F.PAIR_CFG_PRIO 0 _ (by decide) (by decide)

theorem startPlls_only : s.Only s.startPlls [.clk] := (State.startPlls_in (Within.refl (Part.mask [.clk]) s) rfl).only

/-- The state behind the release of a reset, before the PLLs start. -/
def State.resetOver (s : State) (r : Nat) (strap : List Nat) : State :=
  let src := s.boot.srcs.foldl (fun m k => m ||| 2 ^ k) 0
  let s1 := (s.setFld F.RST_CAUSE_REACH 0 r).setFld F.RST_CAUSE_SRC 0 src
  (({ s1 with recd := { s1.recd with cause := r + 256 * src } }.cond (r == 0) fun t => t.readOptions strap).modBoot fun b =>
    { b with reach := none, srcs := [], step := 0 }).waitClk

theorem execResetRelease_releases {r : Nat} (h : s.boot.reach = some r) (strap : List Nat) : exec (.resetRelease strap) s =
    .next ((s.resetOver r strap).cond (s.flag F.CLK_STAT_REF_OK 0) fun t => t.startPlls) := by
  show execResetRelease strap s = _
  unfold execResetRelease
  rw [h]
  rfl

theorem resetOver_boot (r : Nat) (strap : List Nat) : (s.resetOver r strap).boot.reach = none ∧ (s.resetOver r strap).boot.step = 0 := ⟨rfl, rfl⟩

theorem resetOver_cause (hw : s.Canon) {r : Nat} (hr : r < 4) (strap : List Nat) : (s.resetOver r strap).fld F.RST_CAUSE_REACH 0 = r ∧
    (s.resetOver r strap).fld F.RST_CAUSE_SRC 0 = s.boot.srcs.foldl (fun m k => m ||| 2 ^ k) 0 % 2 ^ 11 := by
  unfold State.resetOver
  generalize s.boot.srcs.foldl (fun m k => m ||| 2 ^ k) 0 = src
  have hreach := canonAfterFld hw F.RST_CAUSE_REACH 0 r
  have hsrc := canonAfterFld hreach F.RST_CAUSE_SRC 0 src
  have hshow : ((s.setFld F.RST_CAUSE_REACH 0 r).setFld F.RST_CAUSE_SRC 0 src).fld F.RST_CAUSE_REACH 0 = r := by
    rw [State.fld_setFld_apart hreach _ _ _ _ _ (by decide), State.fld_setFld_same hw _ _ _ (by decide)]
    exact Nat.mod_eq_of_lt hr
  have hcause : ((s.setFld F.RST_CAUSE_REACH 0 r).setFld F.RST_CAUSE_SRC 0 src).fld F.RST_CAUSE_SRC 0 = src % 2 ^ 11 :=
    State.fld_setFld_same hreach _ _ _ (by decide)
  simp only
  generalize (s.setFld F.RST_CAUSE_REACH 0 r).setFld F.RST_CAUSE_SRC 0 src = t at *
  have hrec : t.Writes { t with recd := { t.recd with cause := r + 256 * src } } [] := ⟨hsrc, State.RegsBut.refl t _⟩
  have hopt := hrec.trans ((State.Writes.refl hrec.canon optionFlds).cond (b := r == 0) (f := fun t => t.readOptions strap)
    (readOptions_writes hrec.canon strap))
  generalize State.cond { t with recd := { t.recd with cause := r + 256 * src } } (r == 0) _ = u at hopt ⊢
  have hwait : u.Writes (u.modBoot fun b => { b with reach := none, srcs := [], step := 0 }).waitClk [(F.RST_STAT_WAIT_CLK, 0)] :=
    ((State.Writes.refl hopt.canon _).modBoot _).setFlag F.RST_STAT_WAIT_CLK 0 _ (by simp) (by decide)
  have hall := (hopt.trans hwait).but
  exact ⟨(hall.fld _ _ (by decide)).trans hshow, (hall.fld _ _ (by decide)).trans hcause⟩

/-- Settles O11: each source by what `assertReset` leaves in a reset of its reach, and a Block reset by what it shows. -/
theorem resetSourceCommandsComplete : Obligations.ResetSourceCommandsComplete := by
  unfold Obligations.ResetSourceCommandsComplete
  refine ⟨fun s => ⟨_, rfl, assertReset_coldReach 0⟩, fun s => ⟨_, rfl, assertReset_coldReach 1⟩, fun s hopt => ?_, fun s hw hopt h => ?_,
    fun s r h hr => ?_, fun s hdef h => ?_, fun s hdbg h => ?_, fun s hdbg => execDebugResetRequest_open hdbg .supervisor,
    fun s src slot planned h => ?_, fun s b hdbg h => ?_, fun s b hi hdbg hmay => ?_, fun s strap r hw h hr => ?_⟩
  · obtain ⟨hreach, hsrc, -⟩ := assertReset_coldReach (s := s) 2
    exact ⟨_, congrArg (fun r => Host.Outcome.next (s.assertReset r 2)) (if_pos hopt), hreach, hsrc⟩
  · obtain ⟨hreach, hsrc, hfcp, hports, hring, htack⟩ := assertReset_systemReach h 2
    obtain ⟨hstore, hdev, hcopy, hquiet, hstw⟩ := assertReset_systemKeeps hw h 2
    refine ⟨_, congrArg (fun r => Host.Outcome.next (s.assertReset r 2)) (if_neg (by rw [hopt]; decide)), hreach, hsrc, hfcp, hquiet, hstw, hports, hring,
      htack, hstore, hdev, hcopy⟩
  · obtain ⟨hreach, hsrc, hkeep⟩ := assertReset_srcs h (if bitOf (s.fld F.OPT_STAT_OPTIONS 0) 5 then 0 else 1) 2
    refine ⟨_, rfl, hsrc, hkeep, hreach.trans (congrArg some ?_)⟩
    cases bitOf (s.fld F.OPT_STAT_OPTIONS 0) 5
    · exact if_neg (by simp; omega)
    · simp only [if_true]
      split <;> omega
  · obtain ⟨hreach, hsrc, hfcp, hports, hring, htack⟩ := assertReset_systemReach h 7
    exact ⟨_, congrArg Host.Outcome.next (if_pos hdef), hreach, hsrc, hfcp, hports, hring, htack⟩
  · obtain ⟨hreach, hsrc, hfcp, hports, hring, htack⟩ := assertReset_systemReach h 9
    exact ⟨_, execDebugResetRequest_open hdbg .system, hreach, hsrc, hfcp, hports, hring, htack⟩
  · rw [svpRestart_noted h]
    exact noteSrc_mem src
  · refine ⟨_, (execDebugResetRequest_open hdbg (.block b)).trans (congrArg _ (blockReset_noted h hdbg b true)), (noteSrc_mem 9).1, (noteSrc_mem 9).2,
      (State.noteSrc_in (Within.refl (Part.mask [.boot]) s) rfl 9).only⟩
  · exact ⟨_, execDebugResetRequest_open hdbg (.block b), blockReset_shows hi b.isLt hmay true⟩
  · obtain ⟨hreach, hstep⟩ := resetOver_boot (s := s) r strap
    obtain ⟨hcause, hsrc⟩ := resetOver_cause hw hr strap
    refine ⟨_, execResetRelease_releases h strap, ?_⟩
    generalize s.resetOver r strap = t at *
    cases s.flag F.CLK_STAT_REF_OK 0
    · exact ⟨hreach, hstep, hcause, hsrc⟩
    · have honly := startPlls_only (s := t)
      have hboot : t.startPlls.boot = t.boot := honly .boot (by decide)
      have hfld : ∀ f, t.startPlls.fld f 0 = t.fld f 0 := fun f => by
        unfold State.fld
        rw [honly .regs (by decide)]
      rw [State.cond_true, hboot, hfld, hfld]
      exact ⟨hreach, hstep, hcause, hsrc⟩

end Sys2Proof.Machine
end

section
/-!
PROOFS. The Block resets of Fencen and the HLP (R485), the forced release (R484) and the steps of the boot (R489).
-/
namespace Sys2Proof.Machine

variable {s : State}

/-! ### Block resets -/

/-- Of the mailboxes, a Block reset touches what its clear touches. -/
theorem blockDone_fcp (b : Nat) (idle : Bool) (src : Option Nat) : (s.blockDone b idle src).fcp = s.fcp :=
  (State.blockDone_in (Within.refl (Part.mask [.regs, .evq, .trace, .recd, .boot]) s) rfl b idle src).only .fcp (by decide)

/-- The reset of a CAN channel leaves no segment of an incomplete message (R392). -/
theorem blockClear_can {c : Nat} (hc : c < 2) : (vget (s.blockClear (13 + c)).fcp.boxes (6 + c)).segCount = 0 := by
  have hclear : s.blockClear (13 + c) = if (vget s.fcp.boxes (6 + c)).segCount = 0 then s else s.segDrop (6 + c) := by
    interval_cases c <;> rfl
  rw [hclear]
  split
  case isTrue h => exact h
  case isFalse =>
    have hbox : vget (s.segDrop (6 + c)).fcp.boxes (6 + c) =
        { vget s.fcp.boxes (6 + c) with segBytes := [], segNext := 0, segCount := 0 } := vget_same _ _ _ (by omega)
    rw [hbox]

/-- The reset of the generator leaves the pins' state and the number of the period. -/
theorem blockClear_pwm : (s.blockClear 1).pwm = { ({} : PwmSt) with pins := s.pwm.pins, bnd := s.pwm.bnd } := by
  have hpwm : s.releaseAct.pwm = s.pwm :=
    (State.releaseAct_in (Within.refl (Part.mask [.regs, .evq, .trace, .recd, .pair]) s) rfl).only .pwm (by decide)
  exact congrArg (fun p : PwmSt => { ({} : PwmSt) with pins := p.pins, bnd := p.bnd }) hpwm

/-- The reset of a MAC leaves how its interface is set. -/
theorem blockClear_mac {m : Nat} (hm : m < 3) : vget (s.blockClear (10 + m)).macs m = { ({} : MacSt) with netif := (vget s.macs m).netif } := by
  have hmacs : (s.linkDown m).macs = s.macs :=
    (State.linkDown_in (Within.refl (Part.mask [.regs, .evq, .trace, .recd]) s) rfl m).only .macs (by decide)
  have hclear : (s.blockClear (10 + m)).macs = vmod (s.linkDown m).macs m fun x => { ({} : MacSt) with netif := x.netif } := by
    interval_cases m <;> rfl
  rw [hclear, hmacs, vget_same _ _ _ hm]

/-! ### The forced release -/

/-- UNCLEAN of a block shows what it is set to. -/
theorem bitOf_setUnclean (hw : s.Canon) {b : Nat} (hb : b < 16) : bitOf ((s.setUnclean b true).fld F.RST_STAT_UNCLEAN 0) b = true := by
  unfold State.setUnclean
  rw [State.fld_setFld_same hw _ _ _ (by decide)]
  show Nat.testBit (_ % 2 ^ 16) b = true
  rw [Nat.testBit_mod_two_pow]
  simp only [hb, decide_true, Bool.true_and]
  split
  case isTrue h => exact h
  case isFalse h => simpa [bitOf, Nat.add_comm, Nat.testBit_two_pow_add_eq] using h

/-- A release leaves which blocks are held. -/
theorem releaseBlock_boot (b : Nat) (ev : Bool) : (s.releaseBlock b ev).boot = s.boot :=
  (State.releaseBlock_in (Within.refl (Part.mask [.regs, .evq, .trace, .recd]) s) rfl b ev).only .boot (by decide)

/-! ### The steps of the boot -/

/-- Step 4: the ring comes into service. -/
theorem ringOn_serves (cold : Bool) : (s.ringOn cold).recd.on = true ∧ s.RegsBut (s.ringOn cold) [] :=
  ⟨rfl, (State.RegsBut.refl s []).same ((State.ringOn_in (Within.refl (Part.mask [.recd]) s) rfl cold).only .regs (by decide))⟩

/-- Step 5: a first slot that passes every check is taken. -/
theorem trySlots_taken {a : Nat} {l : List Nat} (h : s.slotFails a = 0) : s.trySlots (a :: l) =
    ((((s.setFld (failFld a) 0 (s.slotFails a)).setFld F.BOOT_STAT_STAGE 0 1).setFld F.BOOT_STAT_SLOT 0 a).setFlag F.BOOT_STAT_FALLBACK 0
      (a != if bitOf (s.fld F.OPT_STAT_OPTIONS 0) 4 then 1 - s.boot.boot else s.boot.boot)).modBoot
        fun b => { b with runSlot := a, skip := none } := by
  unfold State.trySlots
  exact if_pos h

theorem trySlots_shows {a : Nat} {l : List Nat} (h : s.slotFails a = 0) : (s.trySlots (a :: l)).boot.runSlot = a ∧
    (s.Canon → (s.trySlots (a :: l)).fld F.BOOT_STAT_STAGE 0 = 1) := by
  rw [trySlots_taken h]
  refine ⟨rfl, fun hw => ?_⟩
  have hfail := canonAfterFld hw (failFld a) 0 (s.slotFails a)
  have hstage := canonAfterFld hfail F.BOOT_STAT_STAGE 0 1
  have hslot := canonAfterFld hstage F.BOOT_STAT_SLOT 0 a
  rw [State.modBoot_fld, State.fld_setFlag_apart hslot _ _ _ _ _ (by decide), State.fld_setFld_apart hstage _ _ _ _ _ (by decide)]
  exact State.fld_setFld_same hfail _ _ _ (by decide)

/-- The fields of IDENT that Fencen writes (Table 19.2). -/
def identFlds : List (Fld × Nat) := ([F.IDENT_FW_FW_MAJ, F.IDENT_FW_FW_MIN, F.IDENT_FW_FW_BUILD, F.IDENT_FCP_FCP_MAJ, F.IDENT_FCP_FCP_MIN,
  R.IDENT_CLE_VER.whole, R.IDENT_STW_VER.whole, F.IDENT_BOOT_MIRROR_FMT, F.IDENT_BOOT_SLOT, F.IDENT_BOOT_SVN, F.IDENT_BOOT_ARB_CNT,
  F.IDENT_BOOT_FALLBACK].map fun f => (f, 0))

theorem showIdent_writes (hw : s.Canon) : s.Writes s.showIdent identFlds := by
  unfold State.showIdent
  refine State.Writes.setFlag ?_ _ _ _ (by decide) (by decide)
  iterate 4 refine State.Writes.setFld ?_ _ _ _ (by decide) (by decide)
  refine ((State.Writes.setReg ?_ _ _ _ (by decide)).setReg _ _ _ (by decide))
  iterate 5 refine State.Writes.setFld ?_ _ _ _ (by decide) (by decide)
  exact State.Writes.refl hw _

/-- Every mailbox open. -/
def State.openBoxes (s : State) : State := s.forUnits 8 fun t m => t.box m fun b => { b with isOpen := true }

theorem openBoxes_leaves : s.openBoxes.regs = s.regs ∧ s.openBoxes.win = s.win :=
  forUnits_keeps (P := fun t => t.regs = s.regs ∧ t.win = s.win) ⟨rfl, rfl⟩ fun _ _ _ h => h

/-- A function over one unit more. -/
theorem State.forUnits_succ (n : Nat) (f : State → Nat → State) : s.forUnits (n + 1) f = f (s.forUnits n f) n := by
  unfold State.forUnits
  rw [List.range_succ, List.foldl_append]
  rfl

theorem openBoxes_open {m : Nat} (hm : m < 8) : (vget s.openBoxes.fcp.boxes m).isOpen = true := by
  have hall : ∀ n ≤ 8, ∀ k < n, (vget (s.forUnits n fun t m => t.box m fun b => { b with isOpen := true }).fcp.boxes k).isOpen = true := by
    intro n
    induction n with
    | zero => exact fun _ k hk => absurd hk (Nat.not_lt_zero k)
    | succ n ih =>
      intro hn k hk
      rw [State.forUnits_succ]
      by_cases h : n = k
      · subst h
        exact congrArg Mailbox.isOpen (vget_same _ n _ (by omega))
      · exact (congrArg Mailbox.isOpen (vget_other _ _ _ _ h)).trans (ih (by omega) k (by omega))
  exact hall 8 (Nat.le_refl 8) m hm

/-- Step 10: Stalled, the window and the mailboxes open. -/
theorem bootDone_shows (hw : s.Canon) : s.bootDone.devState = 1 ∧ s.bootDone.win.ready = true ∧ s.bootDone.fld F.BOOT_STAT_STAGE 0 = 3 ∧
    ∀ m < 8, (vget s.bootDone.fcp.boxes m).isOpen = true := by
  have hstage := canonAfterFld hw F.BOOT_STAT_STAGE 0 3
  have hdev := canonAfterFld hstage F.IDENT_STATE_DEV_STATE 0 1
  have hfld : ((s.setFld F.BOOT_STAT_STAGE 0 3).setFld F.IDENT_STATE_DEV_STATE 0 1).fld F.BOOT_STAT_STAGE 0 = 3 :=
    (State.fld_setFld_apart hstage _ _ _ _ _ (by decide)).trans (State.fld_setFld_same hw _ _ _ (by decide))
  have hstate : ((s.setFld F.BOOT_STAT_STAGE 0 3).setFld F.IDENT_STATE_DEV_STATE 0 1).fld F.IDENT_STATE_DEV_STATE 0 = 1 :=
    State.fld_setFld_same hstage _ _ _ (by decide)
  unfold State.bootDone State.devState
  simp only
  generalize (s.setFld F.BOOT_STAT_STAGE 0 3).setFld F.IDENT_STATE_DEV_STATE 0 1 = t at *
  have hident := showIdent_writes hdev
  generalize t.showIdent = u at hident ⊢
  obtain ⟨hregs, hwin⟩ := openBoxes_leaves (s := { u with win := { u.win with ready := true } })
  have hopen : ∀ m < 8, _ := fun m hm => openBoxes_open (s := { u with win := { u.win with ready := true } }) (m := m) hm
  have hboxes := hident.same hregs
  show State.fld (State.cond (State.openBoxes _) _ _) _ _ = 1 ∧ (State.cond (State.openBoxes _) _ _).win.ready = true ∧
    State.fld (State.cond (State.openBoxes _) _ _) _ _ = 3 ∧ ∀ m < 8, (vget (State.cond (State.openBoxes _) _ _).fcp.boxes m).isOpen = true
  generalize State.openBoxes { u with win := { u.win with ready := true } } = v at *
  have hready : v.win.ready = true := congrArg WinSt.ready hwin
  cases s.flag F.BOOT_STAT_FALLBACK 0
  · rw [State.cond_false]
    exact ⟨(hboxes.but.fld _ _ (by decide)).trans hstate, hready, (hboxes.but.fld _ _ (by decide)).trans hfld, hopen⟩
  · rw [State.cond_true]
    have hpost := hboxes.trans ((State.Writes.refl hboxes.canon evqFlds).post EV.EV_BOOT_FALLBACK noUnit
      (v.boot.runSlot + 256 * v.fld (failFld (1 - v.boot.runSlot)) 0) fun _ h => h)
    refine ⟨(hpost.but.fld _ _ (by decide)).trans hstate, ?_, (hpost.but.fld _ _ (by decide)).trans hfld, ?_⟩
    · rw [State.post_win]
      exact hready
    · rw [State.post_fcp]
      exact hopen

/-- BOOT_STEP_COMPLETE with its step due. -/
theorem execBootStepComplete_steps (hreach : s.boot.reach = none) (hfail : s.boot.failed = false) (hn : s.nextStep ≤ 10)
    (hclk : s.nextStep = 2 → s.fld F.CLK_STAT_CLK_OK 0 = 0xFF) (ok : Bool) : exec (.bootStepComplete ok) s =
      .next ((s.modBoot fun b => { b with step := s.nextStep }).bootStep s.nextStep ok) := by
  refine congrArg Host.Outcome.next (if_neg ?_)
  simp only [hreach, hfail, Option.isSome_none, Bool.false_or, Bool.or_eq_true, decide_eq_true_eq, Bool.and_eq_true, beq_iff_eq, bne_iff_ne]
  rintro (h | ⟨h, hne⟩)
  · omega
  · exact hne (hclk h)

/-- Settles O12: a Block reset by what it shows and what its clear leaves, a release by UNCLEAN, each step of the boot by its own rule. -/
theorem blockResetAndBootCommandsComplete : Obligations.BlockResetAndBootCommandsComplete := by
  unfold Obligations.BlockResetAndBootCommandsComplete
  refine ⟨fun s src b hi h => ⟨_, rfl, blockReset_shows hi b.isLt h true⟩, fun s src b hi h => ⟨_, rfl, blockReset_shows hi b.isLt h false⟩,
    fun s c hi h => ?_, fun s b h hw hheld hdbg htest hreach => ?_, fun s ok hreach hfail hn hclk => ?_,
    fun s src b h => ⟨congrArg _ (blockReset_allowed h true), congrArg _ (blockReset_allowed h false)⟩,
    fun s => ⟨blockClear_pwm, rfl, fun m hm => blockClear_mac hm⟩⟩
  · obtain ⟨hreach, hblock, hcause, -⟩ := blockReset_shows hi (b := 13 + c) (by omega) h true
    refine ⟨_, rfl, hreach, hblock, hcause, ?_⟩
    rw [blockReset_allowed h, blockDone_fcp]
    exact blockClear_can c.isLt
  · have hexec : exec (.forcedRelease b) s = .next ((((s.modBoot fun x => { x with held := x.held.filter fun y => y.1 != b.val }).waitClk).releaseBlock
        b h.2).setUnclean b true) := by
      show execForcedRelease b s = _
      simp [execForcedRelease, hheld, hdbg, htest, hreach]
    have hwait : ((s.modBoot fun x => { x with held := x.held.filter fun y => y.1 != b.val }).waitClk).Canon := canonAfterFld (canonAfterModBoot hw _) _ _ _
    refine ⟨_, hexec, ?_, bitOf_setUnclean (releaseBlock_regsBut hwait b h.2).1 b.isLt⟩
    show (State.releaseBlock _ _ _).boot.held = _
    rw [releaseBlock_boot]
    rfl
  · refine ⟨_, execBootStepComplete_steps hreach hfail hn hclk ok, rfl, fun h3 hok => ?_, fun h4 => ?_, fun h5 a l horder hslot ha => ?_,
      fun h7 h2 h3 hw => ?_, fun h10 hw => ?_⟩
    · rw [h3, hok]
      exact ⟨rfl, fun hw => State.fld_setFld_same (canonAfterModBoot hw _) _ _ _ (by decide)⟩
    · rw [h4]
      exact ringOn_serves true
    · rw [h5]
      have hbody : (s.modBoot fun b => { b with step := 5 }).bootStep 5 ok = (s.modBoot fun b => { b with step := 5 }).trySlots s.slotOrder := rfl
      rw [hbody, horder]
      obtain ⟨hrun, hstage⟩ := trySlots_shows (s := s.modBoot fun b => { b with step := 5 }) (l := l) (show State.slotFails _ a = 0 from hslot)
      exact ⟨hrun, fun hw => hstage (canonAfterModBoot hw _)⟩
    · rw [h7]
      have hbody : (s.modBoot fun b => { b with step := 7 }).bootStep 7 ok = (s.modBoot fun b => { b with step := 7 }).setFld F.BOOT_STAT_STAGE 0 2 :=
        if_pos (show (s.compOk s.boot.runSlot 2 && s.compOk s.boot.runSlot 3) = true by rw [h2, h3]; rfl)
      rw [hbody]
      exact State.fld_setFld_same (canonAfterModBoot hw _) _ _ _ (by decide)
    · rw [h10]
      exact bootDone_shows (canonAfterModBoot hw _)

end Sys2Proof.Machine
end

section
/-!
PROOFS. Memory errors (R499, Table 18.8), the option sectors (R487) and the revocations (R495).
-/
namespace Sys2Proof.Machine

variable {s : State}

/-! ### An error of a memory -/

/-- It is counted, named and posted. -/
theorem memErr_shows (hw : s.Canon) {m : Nat} (hm : m < 2 ^ (F.ECC_STAT_LAST_MEM.hi + 1 - F.ECC_STAT_LAST_MEM.lo)) :
    s.Told (s.memErr m) EV.EV_MEM_ERR m 0 ∧ (s.memErr m).fld F.ECC_STAT_LAST_MEM 0 = m ∧
      (s.memErr m).fld F.ECC_STAT_UNCORR_CNT 0 = satAdd (s.fld F.ECC_STAT_UNCORR_CNT 0) 1
        (2 ^ (F.ECC_STAT_UNCORR_CNT.hi + 1 - F.ECC_STAT_UNCORR_CNT.lo) - 1) := by
  have hcount := canonAfterCount hw F.ECC_STAT_UNCORR_CNT 0
  have hlast := canonAfterFld hcount F.ECC_STAT_LAST_MEM 0 m
  unfold State.memErr
  refine ⟨State.told_of_evq (by simp only [State.setFld_evq, State.count_evq]) _ _ _, ?_, ?_⟩
  · rw [State.fld_post hlast _ _ _ _ _ (by decide), State.fld_setFld_same hcount _ _ _ (by decide)]
    exact Nat.mod_eq_of_lt hm
  · rw [State.fld_post hlast _ _ _ _ _ (by decide), State.fld_setFld_apart hcount _ _ _ _ _ (by decide), State.fld_count_same hw _ _ (by decide)]

theorem memErr_told (m : Nat) : s.Told (s.memErr m) EV.EV_MEM_ERR m 0 := by
  unfold State.memErr
  exact State.told_of_evq (by simp only [State.setFld_evq, State.count_evq]) _ _ _

/-- Counters, the queue and what it triggers apart, an error of a memory changes nothing by itself. -/
theorem memErr_only (m : Nat) : s.Only (s.memErr m) [.regs, .evq, .trace, .recd] :=
  (State.memErr_in (Within.refl (Part.mask [.regs, .evq, .trace, .recd]) s) rfl m).only

theorem postAs_bad (island : Bool) (code unit data : Nat) : (s.postAs island code unit data).recd.bad = s.recd.bad := by
  have hshape : ∃ t : State, s.postAs island code unit data = t.trFire 3 (fun l => l % 65536 == code) ∧ t.recd.bad = s.recd.bad := by
    refine ⟨_, rfl, ?_⟩
    unfold State.cond
    split <;> split <;> rfl
  obtain ⟨t, ht, hbad⟩ := hshape
  rw [ht, State.trFire_eq]
  exact hbad

/-- The recorder's marks do not move with an error. -/
theorem memErr_bad (m : Nat) : (s.memErr m).recd.bad = s.recd.bad := by
  unfold State.memErr
  show (State.postAs _ _ _ _ _).recd.bad = _
  rw [postAs_bad, State.setFld_recd, State.count_recd]

/-- A parity error of the CLE's RAM acts by whether its context is enabled. -/
theorem cleParity_eq (i off : Nat) : s.cleParity i off = if s.ctxEn i then
    ((((s.memErr 0).deferReset).setCflag F.CTX_STATUS_PERR i true).modCle fun c => { c with halted := true }).post EV.EV_CLE_PARITY i off
    else (s.memErr 0).deferReset := by
  have hen : ((s.memErr 0).deferReset).ctxEn i = s.ctxEn i := by
    have hcle : ((s.memErr 0).deferReset).cle = s.cle := memErr_only 0 .cle (by decide)
    unfold State.ctxEn State.cflag State.cf State.cword
    rw [hcle]
  unfold State.cleParity
  simp only
  rw [hen]

/-- An error of the always-on store is a Cold reset. -/
theorem memErr_aon (h : s.boot.reach = none) :
    (((s.found .aon).memErr 7).assertReset 0 7).boot.reach = some 0 ∧ (((s.found .aon).memErr 7).assertReset 0 7).boot.srcs = [7] := by
  have hboot : ((s.found .aon).memErr 7).boot = s.boot := memErr_only 7 .boot (by decide)
  rw [assertReset_cold (hboot.symm ▸ h)]
  exact ⟨rfl, rfl⟩

/-- The copy of a trace channel does not move with an error. -/
theorem memErr_copy (m : Nat) {c : Nat} (hc : c < 8) : ((s.memErr m).tr c).copy = (s.tr c).copy := by
  have htrace : ((s.count F.ECC_STAT_UNCORR_CNT 0).setFld F.ECC_STAT_LAST_MEM 0 m).trace = s.trace := by
    rw [State.setFld_trace, State.count_trace]
  unfold State.memErr
  generalize (s.count F.ECC_STAT_UNCORR_CNT 0).setFld F.ECC_STAT_LAST_MEM 0 m = t at *
  refine (((EventsOnly.refl t).postAs _ _ _ _).copy c hc).trans ?_
  unfold State.tr
  rw [htrace]

/-- The stream loses its oldest record. -/
def State.streamLoss (s : State) : State := { s with cap := { s.cap with fifo := s.cap.fifo.drop 1 } }

theorem execMemoryError_stream : exec (.memoryError .lpddrStream) s = .next ((((s.found .lpddrStream).memErr 5).count F.CAP_STAT_CAP_LOST 0).cond
    (!s.cap.fifo.isEmpty) State.streamLoss) := rfl

/-- A loss is counted; with no record there is none to drop. -/
theorem streamLoss_shows {u : State} (hw : u.Canon) (hf : u.cap.fifo = s.cap.fifo) :
    ((u.count F.CAP_STAT_CAP_LOST 0).cond (!s.cap.fifo.isEmpty) State.streamLoss).cap.fifo = s.cap.fifo.drop 1 ∧
      ((u.count F.CAP_STAT_CAP_LOST 0).cond (!s.cap.fifo.isEmpty) State.streamLoss).evq = u.evq ∧
      ((u.count F.CAP_STAT_CAP_LOST 0).cond (!s.cap.fifo.isEmpty) State.streamLoss).fld F.CAP_STAT_CAP_LOST 0 =
        satAdd (u.fld F.CAP_STAT_CAP_LOST 0) 1 (2 ^ (F.CAP_STAT_CAP_LOST.hi + 1 - F.CAP_STAT_CAP_LOST.lo) - 1) := by
  cases hb : s.cap.fifo.isEmpty
  · exact ⟨congrArg (List.drop 1) hf, rfl, State.fld_count_same hw _ _ (by decide)⟩
  · have hnil : s.cap.fifo = [] := List.isEmpty_iff.mp hb
    exact ⟨hf.trans (by rw [hnil]; rfl), rfl, State.fld_count_same hw _ _ (by decide)⟩

/-- The fields that an error of a memory moves. -/
theorem memErr_writes (hw : s.Canon) (m : Nat) :
    s.Writes (s.memErr m) ((F.ECC_STAT_UNCORR_CNT, 0) :: (F.ECC_STAT_LAST_MEM, 0) :: evqFlds) := by
  unfold State.memErr
  exact (((State.Writes.refl hw _).count _ _ (by simp) (by decide)).setFld _ _ _ (by simp) (by decide)).post _ _ _ fun x hx =>
    List.mem_cons_of_mem _ (List.mem_cons_of_mem _ hx)

/-- Settles O13: an error of a memory by `memErr`, and what its row adds. -/
theorem memoryErrorAndBurnCommandsComplete : Obligations.MemoryErrorAndBurnCommandsComplete := by
  unfold Obligations.MemoryErrorAndBurnCommandsComplete
  refine ⟨fun s hw => ?_, fun s hw => ?_, fun s n hw => ?_, fun s h => ⟨_, rfl, memErr_aon h⟩, fun s m hw hm => ?_,
    fun s bytes h => ⟨_, congrArg Host.Outcome.next (if_pos h), rfl, fun p hp => ?_⟩, fun s slh k h hk hother => ?_,
    fun s m hw => memErr_shows hw (Nat.lt_trans m.isLt (by decide)),
    fun s i o => ⟨_, rfl, congrArg Host.Outcome.next (cleParity_eq _ _)⟩, fun s b k => ?_, fun s => rfl, fun s => rfl, fun s => rfl,
    fun s hw => ?_, fun s ch i => ?_, fun s => rfl, fun s => rfl, fun s => rfl⟩
  · obtain ⟨htold, hlast, -⟩ := memErr_shows (s := s.found .pwmCfg) hw (m := 6) (by decide)
    exact ⟨_, rfl, rfl, htold, hlast⟩
  · obtain ⟨htold, hlast, -⟩ := memErr_shows (s := s.found .hlpVar) hw (m := 3) (by decide)
    exact ⟨_, rfl, rfl, htold, hlast⟩
  · obtain ⟨htold, hlast, -⟩ := memErr_shows (s := s.found (.lpddrRec n)) hw (m := 5) (by decide)
    exact ⟨_, rfl, congrArg (· ++ [n]) (memErr_bad (s := s.found (.lpddrRec n)) 5), htold, hlast⟩
  · refine ⟨s.count F.ECC_STAT_CORR_CNT 0, congrArg Host.Outcome.next (if_pos ?_), State.fld_count_same hw _ _ (by decide),
      (State.RegsBut.refl s _).count hw _ _ (by simp) (by decide), (State.count_in (Within.refl (Part.mask [.regs]) s) rfl _ _).only⟩
    rcases hm with h | h | h | h <;> rw [h] <;> rfl
  · cases p <;> first | rfl | exact absurd hp (by decide)
  · refine ⟨_, congrArg Host.Outcome.next (if_pos ?_), rfl, (State.modBoot_in (Within.refl (Part.mask [.boot]) s) rfl _).only⟩
    simp [h, hk, hother]
  · refine congrArg Host.Outcome.next ?_
    by_cases hk : k.val < 16
    · rw [if_pos hk]
      exact if_neg (Nat.not_le_of_lt hk)
    · rw [if_neg hk]
      exact if_pos (Nat.le_of_not_lt hk)
  · have hw' : (s.found .lpddrStream).Canon := hw
    have hall := memErr_writes hw' 5
    have hfifo : ((s.found .lpddrStream).memErr 5).cap.fifo = s.cap.fifo := congrArg CapSt.fifo (memErr_only 5 .cap (by decide))
    obtain ⟨hdrop, hevq, hlost⟩ := streamLoss_shows (s := s) hall.canon hfifo
    refine ⟨_, execMemoryError_stream, hdrop, ?_, hlost.trans ?_⟩
    · unfold State.Told
      rw [hevq]
      exact memErr_told (s := s.found .lpddrStream) 5
    · rw [hall.but.fld _ _ (by decide)]
      rfl
  · refine ⟨_, rfl, memErr_told (s := s.found (.lpddrTrace ch i)) 5, ?_⟩
    have hcopy := memErr_copy (s := s.found (.lpddrTrace ch i)) 5 ch.isLt
    exact (congrArg TraceCh.copy (vget_same _ _ _ ch.isLt)).trans (congrArg (Option.map fun l => l.set i traceMarker) hcopy)

end Sys2Proof.Machine
end

section
/-!
PROOFS. Changes of gait (R36 to R39) and of rate (R104, R196, R281).
-/
namespace Sys2Proof.Machine

variable {s : State}

/-! ### Commands that wait -/

/-- The first command of an opcode that waits is in flight. -/
theorem waitingOp_found {op : Nat} {e : Entry} (h : s.waitingOp op = some e) : s.fcp.restartSlot = none ∧ e ∈ s.fcp.inflight := by
  unfold State.waitingOp at h
  split at h
  case isTrue => exact absurd h nofun
  case isFalse hr => exact ⟨by simpa using hr, List.mem_of_find?_eq_some h⟩

/-- While such a command waits and the SVP executes, Fencen serves. -/
theorem waitingOp_runs {op : Nat} {e : Entry} (h : s.waitingOp op = some e) (hclk : s.svpClock = true) : s.svpRuns = true := by
  unfold State.svpRuns
  rw [hclk, (waitingOp_found h).1]
  rfl

/-- A pass over the units, each of which writes only listed fields. -/
theorem State.Writes.forUnits {t : State} {l : List (Fld × Nat)} (h : s.Writes t l) {n : Nat} {f : State → Nat → State}
    (hf : ∀ u i, i < n → s.Writes u l → s.Writes (f u i) l) : s.Writes (t.forUnits n f) l := forUnits_keeps h hf

/-! ### GAIT -/

/-- GAIT pends where Table 01.7 passes. -/
theorem execGait_pends {tag : Fin 128} {e : Entry} (h : s.Serves 0x0203 tag e) (hg : e.a 0 ≤ 5) (hok : s.gaitCheck (e.a 0) = FS.FS_OK) :
    exec (.gait tag) s = .next ((((s.setFlag F.GAIT_STATUS_PEND_VALID 0 true).setFld F.GAIT_STATUS_GAIT_PEND 0 (e.a 0)).modClk
      fun c => { c with wakeEarly := false }).start e.tag) := by
  refine (serve_eq h _).trans (congrArg _ ?_)
  simp only [if_neg (Nat.not_lt.mpr hg), hok]
  rfl

/-- What the cores show of the gait (Tables 05.2, 05.8). -/
def coreFlds : List (Fld × Nat) :=
  (List.range 24).flatMap fun c => [(F.ADC_CORE_STAT_BUSY, c), (F.ADC_CORE_STAT_POWERED, c), (F.ADC_CORE_STAT_CONT_ACT, c)]

theorem coreStat_writes {t : State} {l : List (Fld × Nat)} (h : s.Writes t l) {c : Nat} (hc : c < 24) (hl : ∀ x ∈ coreFlds, x ∈ l) :
    s.Writes (t.coreStat c) l := by
  have hm : ∀ f ∈ [F.ADC_CORE_STAT_BUSY, F.ADC_CORE_STAT_POWERED, F.ADC_CORE_STAT_CONT_ACT], (f, c) ∈ l := fun f hf =>
    hl _ (List.mem_flatMap.mpr ⟨c, List.mem_range.mpr hc, by simpa using hf⟩)
  unfold State.coreStat
  exact ((h.setFlag _ _ _ (hm _ (by simp)) (by decide)).setFlag _ _ _ (hm _ (by simp)) (by decide)).setFlag _ _ _ (hm _ (by simp)) (by decide)

/-- The gait in force is the one set, and nothing but what shows the gait changes. -/
theorem setGait_writes (hw : s.Canon) (g : Nat) : (s.setFld F.GAIT_STATUS_GAIT 0 g).Writes (s.setGait g)
    ((F.GAIT_STATUS_CONT_OVERRIDDEN, 0) :: (F.GAIT_STATUS_THERM_HOLD, 0) :: coreFlds) := by
  have hgait := canonAfterFld hw F.GAIT_STATUS_GAIT 0 g
  unfold State.setGait
  simp only
  generalize s.setFld F.GAIT_STATUS_GAIT 0 g = t at *
  have hcores : t.Writes (t.forUnits 24 fun t c => t.coreStat c)
      ((F.GAIT_STATUS_CONT_OVERRIDDEN, 0) :: (F.GAIT_STATUS_THERM_HOLD, 0) :: coreFlds) :=
    (State.Writes.refl hgait _).forUnits fun u c hc hu => coreStat_writes hu hc fun x hx => List.mem_cons_of_mem _ (List.mem_cons_of_mem _ hx)
  exact (hcores.setFlag _ _ _ (by simp) (by decide)).setFlag _ _ _ (by simp) (by decide)

theorem setGait_gait (hw : s.Canon) {g : Nat} (hg : g < 8) : (s.setGait g).gait = g := by
  unfold State.gait
  rw [(setGait_writes hw g).but.fld _ _ (by decide), State.fld_setFld_same hw _ _ _ (by decide)]
  exact Nat.mod_eq_of_lt hg

theorem setGait_only (g : Nat) : s.Only (s.setGait g) [.regs] := (State.setGait_in (Within.refl (Part.mask [.regs]) s) rfl g).only

/-- GAIT_CHANGE_EFFECT before the change of gait itself: nothing pends, the event is posted, the command answers, and Limp is left. -/
def State.gaitDue (s : State) (e : Entry) : State :=
  ((((s.setFlag F.GAIT_STATUS_PEND_VALID 0 false).setFld F.GAIT_STATUS_GAIT_PEND 0 0).post EV.EV_GAIT_CHANGE noUnit
    (s.gait + 256 * s.fld F.GAIT_STATUS_GAIT_PEND 0)).doneAt e.tag FS.FS_OK).cond (s.gait == Gait.limp) State.leaveLimp

theorem execGaitChangeEffect_due {e : Entry} (h : s.waitingOp 0x0203 = some e) (hpend : s.flag F.GAIT_STATUS_PEND_VALID 0 = true)
    (hat : s.atBoundary20 e = true) (hlimp : s.gait ≠ Gait.limp ∨ s.locked 0 = true) : exec .gaitChangeEffect s = .next (
      if s.fld F.GAIT_STATUS_GAIT_PEND 0 = Gait.paddock then (s.gaitDue e).enterPaddock
      else (s.gaitDue e).setGait (s.fld F.GAIT_STATUS_GAIT_PEND 0)) := by
  show execGaitChangeEffect s = _
  unfold execGaitChangeEffect
  simp only [h, hpend, hat]
  refine congrArg _ (if_neg ?_)
  rcases hlimp with hlimp | hlimp <;> simp [hlimp]

/-- The fields that GAIT_CHANGE_EFFECT writes before the change itself. -/
def gaitDueFlds : List (Fld × Nat) := [(F.GAIT_STATUS_PEND_VALID, 0), (F.GAIT_STATUS_GAIT_PEND, 0)] ++ evqFlds

/-- With the change the command is answered and the event is in the queue. -/
theorem gaitDue_shows (hi : s.Inv) {e : Entry} (h : s.waitingOp 0x0203 = some e) (hclk : s.svpClock = true) {tag : Fin 128} (htag : e.tag = tag.val) :
    (s.gaitDue e).Canon ∧ (s.gaitDue e).flag F.GAIT_STATUS_PEND_VALID 0 = false ∧
      s.Told (s.gaitDue e) EV.EV_GAIT_CHANGE noUnit (s.gait + 256 * s.fld F.GAIT_STATUS_GAIT_PEND 0) ∧ (s.gaitDue e).Answered tag FS.FS_OK [] [] := by
  have hvalid := canonAfterFlag hi.canon F.GAIT_STATUS_PEND_VALID 0 false
  have hwr := ((((State.Writes.refl hi.canon gaitDueFlds).setFlag F.GAIT_STATUS_PEND_VALID 0 false (by decide) (by decide)).setFld
    F.GAIT_STATUS_GAIT_PEND 0 0 (by decide) (by decide)).post EV.EV_GAIT_CHANGE noUnit (s.gait + 256 * s.fld F.GAIT_STATUS_GAIT_PEND 0)
      fun x hx => List.mem_append_right _ hx)
  have htold : s.Told _ EV.EV_GAIT_CHANGE noUnit (s.gait + 256 * s.fld F.GAIT_STATUS_GAIT_PEND 0) :=
    State.told_of_evq (t := (s.setFlag F.GAIT_STATUS_PEND_VALID 0 false).setFld F.GAIT_STATUS_GAIT_PEND 0 0) rfl _ _ _
  have hflag : (((s.setFlag F.GAIT_STATUS_PEND_VALID 0 false).setFld F.GAIT_STATUS_GAIT_PEND 0 0).post EV.EV_GAIT_CHANGE noUnit
      (s.gait + 256 * s.fld F.GAIT_STATUS_GAIT_PEND 0)).flag F.GAIT_STATUS_PEND_VALID 0 = false := by
    rw [State.flag_post (canonAfterFld hvalid _ _ _) _ _ _ _ _ (by decide), State.flag_setFld_apart hvalid _ _ _ _ _ (by decide),
      State.flag_setFlag_same hi.canon _ _ _ (by decide)]
  have hfcp : (((s.setFlag F.GAIT_STATUS_PEND_VALID 0 false).setFld F.GAIT_STATUS_GAIT_PEND 0 0).post EV.EV_GAIT_CHANGE noUnit
      (s.gait + 256 * s.fld F.GAIT_STATUS_GAIT_PEND 0)).fcp = s.fcp := by rw [State.post_fcp, State.setFld_fcp, State.setFlag_fcp]
  unfold State.gaitDue
  generalize ((s.setFlag F.GAIT_STATUS_PEND_VALID 0 false).setFld F.GAIT_STATUS_GAIT_PEND 0 0).post EV.EV_GAIT_CHANGE noUnit
    (s.gait + 256 * s.fld F.GAIT_STATUS_GAIT_PEND 0) = t at *
  have hruns : t.svpRuns = true := (hwr.but.svpRuns hfcp (by decide) (by decide)).trans (waitingOp_runs h hclk)
  have hans : (t.doneAt e.tag FS.FS_OK).Answered tag FS.FS_OK [] [] := by
    rw [htag]
    exact State.complete_held hi (waitingOp_found h).2 htag hfcp hruns _ _ _ _ (by decide)
  have hdone : t.Writes (t.doneAt e.tag FS.FS_OK) [] := (State.Writes.refl hwr.canon []).same (State.complete_regs _ _ _ _ _)
  have hevq : (t.doneAt e.tag FS.FS_OK).evq = t.evq := State.complete_only _ _ _ _ _ .evq (by decide)
  generalize t.doneAt e.tag FS.FS_OK = u at *
  cases s.gait == Gait.limp
  · refine ⟨hdone.canon, (hdone.but.flag _ _ (by decide)).trans hflag, ?_, hans⟩
    unfold State.Told
    rw [State.cond_false, hevq]
    exact htold
  · have hleave : u.Writes u.leaveLimp [(F.CLK_STAT_LIMP, 0), (F.DLL_STAT_FROZEN, 0)] :=
      ((State.Writes.refl hdone.canon _).setFlag _ _ _ (by simp) (by decide)).setFlag _ _ _ (by simp) (by decide)
    have honly : u.Only u.leaveLimp [.regs] := (State.leaveLimp_in (Within.refl (Part.mask [.regs]) u) rfl).only
    rw [State.cond_true]
    refine ⟨hleave.canon, ((hleave.but.flag _ _ (by decide)).trans (hdone.but.flag _ _ (by decide))).trans hflag, ?_, ?_⟩
    · unfold State.Told
      rw [honly .evq (by decide), hevq]
      exact htold
    · unfold State.Answered
      rw [honly .fcp (by decide)]
      exact hans

/-! ### The junction's temperature -/

theorem gaitThermal_shows (hw : s.Canon) (temp : Int) : ∃ t, exec (.gaitThermal temp) s = .next t ∧ t.clk.tj = temp ∧
    t.flag F.GAIT_STATUS_THERM_HOLD 0 = (s.flag F.GAIT_STATUS_VARIANT_H 0 && s.gait == Gait.gallop && decide (115 ≤ temp)) ∧
    (s.flag F.GAIT_STATUS_VARIANT_H 0 = true → s.gait = Gait.gallop → 115 ≤ temp → s.flag F.GAIT_STATUS_THERM_HOLD 0 = false →
      s.Told t EV.EV_GAIT_THERMAL noUnit (clampInt 0 255 (temp + 55)).toNat) := by
  have hw' : ({ s with clk := { s.clk with tj := temp } } : State).Canon := hw
  have hflag : ∀ b, (State.setFlag { s with clk := { s.clk with tj := temp } } F.GAIT_STATUS_THERM_HOLD 0 b).flag F.GAIT_STATUS_THERM_HOLD 0 = b :=
    fun b => State.flag_setFlag_same hw' _ _ _ (by decide)
  have hset : ∀ b, (State.setFlag { s with clk := { s.clk with tj := temp } } F.GAIT_STATUS_THERM_HOLD 0 b).Canon :=
    fun b => canonAfterFlag hw' _ _ _
  refine ⟨_, rfl, ?_, ?_, fun hvar hgait htemp hwas => ?_⟩
  · unfold State.cond
    split
    · rw [State.post_clk]
      rfl
    · rfl
  · rw [cond_post_flag (hset _) _ _ _ _ _ _ (by decide), hflag]
  · rw [hvar, hgait, decide_eq_true htemp, hwas]
    simp only [beq_self_eq_true, Bool.and_self, Bool.not_false, State.cond_true]
    exact State.told_of_evq (by rw [State.setFlag_evq]) _ _ _

/-! ### RATE -/

/-- RATE in range, with no other that waits, is taken. -/
theorem execRate_taken {tag : Fin 128} {e : Entry} (h : s.Serves 0x0204 tag e) (hparam : rateParam e = true) (hrole : s.roleBad = false)
    (hok : s.rateOk (if e.a32 0 = 0 then s.fineP else 32 * e.a32 0) (s.rateDiv e) = true)
    (hcap : s.capOver (if e.a32 0 = 0 then s.fineP else 32 * e.a32 0) = false)
    (hpr : s.prTooHigh (if e.a32 0 = 0 then s.fineP else 32 * e.a32 0) (s.rateDiv e) = false) (hnone : s.waitingOp 0x0204 = none) :
    exec (.rate tag) s = .next (if s.isActive then { s.start e.tag with pair := { s.pair with
        sched := s.pair.sched ++ [⟨s.pnumOut + 2 * s.divOf 1 + 2, 0, if e.a32 0 = 0 then none else some (e.a32 0), some (s.rateDiv e), 0⟩] } }
      else (s.start e.tag).stageRate (if e.a32 0 = 0 then none else some (e.a32 0)) (some (s.rateDiv e))) := by
  refine (serve_eq h _).trans (congrArg _ ?_)
  simp only [hparam, hrole, hok, hcap, hpr, hnone]
  rfl

/-- RATE_CHANGE_EFFECT with its period and divisors in force. -/
theorem execRateChangeEffect_completes {e : Entry} (h : s.waitingOp 0x0204 = some e) (hat : s.atBoundary e = true)
    (hper : e.a32 0 = 0 ∨ e.a32 0 = s.period) (hnew : s.cle.divNew = none) (hdiv : s.cle.div = s.rateDiv e) :
    exec .rateChangeEffect s = .next (s.complete e.tag FS.FS_OK s.pnumOut [BitVec.ofNat 8 (b2n s.pwm.skew)] []) := by
  show execRateChangeEffect s = _
  unfold execRateChangeEffect
  simp only [h]
  refine congrArg _ (if_pos ?_)
  simp [hat, hnew, hdiv, hper]

/-- Settles O14: each command by what it writes, with the cores' status as one frame. -/
theorem gaitAndRateCommandsComplete : Obligations.GaitAndRateCommandsComplete := by
  unfold Obligations.GaitAndRateCommandsComplete
  refine ⟨fun s tag e h hg hok => ?_, fun s tag e hi hclk hlimp h htag hpend hat hpad => ?_, fun s e h hpend hat hpad hlimp => ?_,
    fun s hlimp hlock => ?_, fun s temp hw => gaitThermal_shows hw temp,
    fun s tag e h hparam hrole hok hcap hpr hnone hact => ?_, fun s tag e h hparam hrole hok hcap hpr hnone hact => ?_,
    fun s tag e hi hclk h htag hat hper hnew hdiv => ?_⟩
  · have hw := h.canon
    have hvalid := canonAfterFlag hw F.GAIT_STATUS_PEND_VALID 0 true
    refine ⟨_, execGait_pends h hg hok, h.waits rfl rfl rfl, ?_, ?_, rfl, ?_, fun p hp => ?_⟩
    · show (State.setFld _ _ _ _).flag _ _ = true
      rw [State.flag_setFld_apart hvalid _ _ _ _ _ (by decide), State.flag_setFlag_same hw _ _ _ (by decide)]
    · show (State.setFld _ _ _ _).fld _ _ = _
      rw [State.fld_setFld_same hvalid _ _ _ (by decide)]
      exact Nat.mod_eq_of_lt (Nat.lt_of_le_of_lt hg (by decide))
    · exact ((State.RegsBut.refl s _).setFlag hw _ _ _ (by simp) (by decide)).setFld hvalid _ _ _ (by simp) (by decide)
    · cases p <;> first | rfl | exact absurd hp (by decide)
  · obtain ⟨hcanon, hflag, htold, hans⟩ := gaitDue_shows hi h hclk htag
    have honly := setGait_only (s := s.gaitDue e) (s.fld F.GAIT_STATUS_GAIT_PEND 0)
    have hlt : s.fld F.GAIT_STATUS_GAIT_PEND 0 < 8 := fieldOf_lt _ _ _
    have hset := canonAfterFld hcanon F.GAIT_STATUS_GAIT 0 (s.fld F.GAIT_STATUS_GAIT_PEND 0)
    refine ⟨_, (execGaitChangeEffect_due h hpend hat hlimp).trans (congrArg _ (if_neg hpad)), setGait_gait hcanon hlt, ?_, ?_, ?_⟩
    · rw [(setGait_writes hcanon _).but.flag _ _ (by decide), State.flag_setFld_apart hcanon _ _ _ _ _ (by decide)]
      exact hflag
    · unfold State.Told
      rw [honly .evq (by decide)]
      exact htold
    · unfold State.Answered
      rw [honly .fcp (by decide)]
      exact hans
  · refine (execGaitChangeEffect_due h hpend hat hlimp).trans (congrArg _ ((if_pos hpad).trans ?_))
    unfold State.gaitDue
    rw [hpad]
  · show execGaitChangeEffect s = _
    unfold execGaitChangeEffect
    refine congrArg _ ?_
    split
    · rfl
    · exact if_pos (by simp [hlimp, hlock])
  · refine ⟨_, (execRate_taken h hparam hrole hok hcap hpr hnone).trans (congrArg _ (if_neg (by rw [hact]; exact nofun))), h.waits rfl rfl rfl, rfl, ?_,
      fun p hp => ?_⟩
    · show (if _ then _ else _) = _
      split <;> simp_all
    · cases p <;> first | rfl | exact absurd hp (by decide)
  · refine ⟨_, (execRate_taken h hparam hrole hok hcap hpr hnone).trans (congrArg _ (if_pos hact)), h.waits rfl rfl rfl, fun p hp => ?_, rfl⟩
    cases p <;> first | rfl | exact absurd hp (by decide)
  · refine ⟨_, execRateChangeEffect_completes h hat hper hnew hdiv, ?_, State.complete_only _ _ _ _ _⟩
    rw [htag]
    exact State.complete_held hi (waitingOp_found h).2 htag rfl (waitingOp_runs h hclk) _ _ _ _ (by decide)

end Sys2Proof.Machine
end

section
/-!
PROOFS. The reference and the PLLs: locks, attempts and band slots (R458, R462 to R467).
-/
namespace Sys2Proof.Machine

variable {s : State}

/-! ### Lock flags and attempts -/

theorem pllNo_lt (p : Pll) : pllNo p < 3 := by cases p <;> decide

theorem lockFld_good (p : Nat) : (lockFld p).good = true := by
  unfold lockFld
  split
  · decide
  · split <;> decide

/-- The flag of a PLL's lock shows what is written; the PLLs' flags are fields of their own. -/
theorem locked_setLock (hw : s.Canon) {p q : Nat} (hp : p < 3) (hq : q < 3) (b : Bool) :
    (s.setFlag (lockFld p) 0 b).locked q = if p = q then b else s.locked q := by
  unfold State.locked
  split
  case isTrue h =>
    subst h
    exact State.flag_setFlag_same hw _ _ _ (lockFld_good p)
  case isFalse h =>
    refine State.flag_setFlag_apart hw _ _ _ _ _ ?_
    interval_cases p <;> interval_cases q <;> first | exact absurd rfl h | decide

theorem attempt_setAttempt {p : Nat} (h : p < s.clk.attempt.length) (a : Attempt) : (s.setAttempt p a).attempt p = a := by
  unfold State.attempt State.setAttempt State.modClk
  simp [h]

theorem attempt_setAttempt_other {p q : Nat} (h : p ≠ q) (a : Attempt) : (s.setAttempt p a).attempt q = s.attempt q := by
  unfold State.attempt State.setAttempt State.modClk
  simp [List.getD_eq_getElem?_getD, List.getElem?_set_ne h]

/-- A lock attempt is a search, or a hop on a slot. -/
theorem startAttempt_sets (p temp : Nat) : ∃ a, (a = .search ∨ ∃ k, a = .hop k) ∧ s.startAttempt p temp = s.setAttempt p a := by
  unfold State.startAttempt
  split
  · exact ⟨_, .inr ⟨_, rfl⟩, rfl⟩
  · exact ⟨_, .inl rfl, rfl⟩

/-! ### The reference -/

/-- With the PLLs stopped none is locked. -/
theorem stopPlls_unlocked (hw : s.Canon) {p : Nat} (hp : p < 3) : s.stopPlls.locked p = false := by
  have hall : ∀ n ≤ 3, (s.forUnits n fun t p => t.setFlag (lockFld p) 0 false).Canon ∧
      ∀ q < n, (s.forUnits n fun t p => t.setFlag (lockFld p) 0 false).locked q = false := by
    intro n
    induction n with
    | zero => exact fun _ => ⟨hw, fun q hq => absurd hq (Nat.not_lt_zero q)⟩
    | succ n ih =>
      intro hn
      obtain ⟨hc, hlock⟩ := ih (by omega)
      rw [State.forUnits_succ]
      refine ⟨canonAfterFlag hc _ _ _, fun q hq => ?_⟩
      rw [locked_setLock hc (by omega) (by omega)]
      split
      case isTrue => rfl
      case isFalse h => exact hlock q (by omega)
  have hlock := (hall 3 (Nat.le_refl 3)).2 p hp
  unfold State.locked State.stopPlls at *
  rw [State.modClk_flag]
  exact hlock

theorem stopPlls_attempt : s.stopPlls.clk.attempt = [.idle, .idle, .idle] := by
  unfold State.stopPlls
  generalize s.forUnits 3 _ = t
  rfl

/-- Stopping the PLLs writes their locks. -/
theorem stopPlls_writes (hw : s.Canon) : s.Writes s.stopPlls [(lockFld 0, 0), (lockFld 1, 0), (lockFld 2, 0)] := by
  unfold State.stopPlls
  refine State.Writes.modClk ((State.Writes.refl hw _).forUnits fun u p hp hu => hu.setFlag _ _ _ ?_ (lockFld_good p)) _
  interval_cases p <;> simp

/-- The state in which the reference has just been lost. -/
def State.refLost (s : State) : State := ((s.setFlag F.CLK_STAT_REF_OK 0 false).setFlag F.CLK_STAT_AON_RC 0 true).post EV.EV_CLK_LOSS 0 0

theorem refLost_shows (hw : s.Canon) : s.refLost.Canon ∧ s.refLost.flag F.CLK_STAT_REF_OK 0 = false ∧ s.Told s.refLost EV.EV_CLK_LOSS 0 0 := by
  have hok := canonAfterFlag hw F.CLK_STAT_REF_OK 0 false
  have hrc := canonAfterFlag hok F.CLK_STAT_AON_RC 0 true
  unfold State.refLost
  refine ⟨canonAfterPost hrc _ _ _, ?_, State.told_of_evq (by rw [State.setFlag_evq, State.setFlag_evq]) _ _ _⟩
  rw [State.flag_post hrc _ _ _ _ _ (by decide), State.flag_setFlag_apart hok _ _ _ _ _ (by decide), State.flag_setFlag_same hw _ _ _ (by decide)]

/-- The reference lost, and the PLLs stopped. -/
theorem refLost_stopped (hw : s.Canon) : s.refLost.stopPlls.flag F.CLK_STAT_REF_OK 0 = false ∧ (∀ p < 3, s.refLost.stopPlls.locked p = false) ∧
    s.refLost.stopPlls.clk.attempt = [.idle, .idle, .idle] ∧ s.Told s.refLost.stopPlls EV.EV_CLK_LOSS 0 0 := by
  obtain ⟨hc, hflag, htold⟩ := refLost_shows hw
  have honly : s.refLost.Only s.refLost.stopPlls [.regs, .clk] := (State.stopPlls_in (Within.refl (Part.mask [.regs, .clk]) _) rfl).only
  refine ⟨((stopPlls_writes hc).but.flag _ _ (by decide)).trans hflag, fun p hp => stopPlls_unlocked hc hp, stopPlls_attempt, ?_⟩
  unfold State.Told
  rw [honly .evq (by decide)]
  exact htold

theorem execRefclkLoss_stops (href : s.flag F.CLK_STAT_REF_OK 0 = true) : exec .refclkLoss s =
    .next ([0, 1, 2].foldl (fun (t : State) p => if s.locked p then t.losePll p else t) s.refLost.stopPlls) := by
  show execRefclkLoss s = _
  unfold execRefclkLoss State.refLost
  rw [href]
  rfl

/-- After a pass over the first n PLLs those that are not locked are in an attempt. -/
theorem startSome_attempts (hlen : s.clk.attempt.length = 3) : ∀ n ≤ 3, ∀ t, t = (s.forUnits n fun t p =>
    if t.locked p then t else t.startAttempt p t.tempNow) → t.clk.attempt.length = 3 ∧ t.regs = s.regs ∧
      ∀ p < n, s.locked p = false → t.attempt p = .search ∨ ∃ k, t.attempt p = .hop k := by
  intro n
  induction n with
  | zero =>
    rintro - t rfl
    exact ⟨hlen, rfl, fun p hp => absurd hp (Nat.not_lt_zero p)⟩
  | succ n ih =>
    intro hn t ht
    rw [State.forUnits_succ] at ht
    obtain ⟨hl, hregs, hatt⟩ := ih (by omega) _ rfl
    generalize s.forUnits n (fun t p => if t.locked p then t else t.startAttempt p t.tempNow) = u at *
    have hlock : u.locked n = s.locked n := by
      unfold State.locked State.flag State.fld
      rw [hregs]
    obtain ⟨a, ha, hset⟩ := startAttempt_sets (s := u) n u.tempNow
    rw [hset, hlock] at ht
    subst ht
    split
    case isTrue h =>
      refine ⟨hl, hregs, fun p hp hfree => hatt p ?_ hfree⟩
      rcases Nat.lt_succ_iff_lt_or_eq.mp hp with h' | rfl
      · exact h'
      · exact absurd (h.symm.trans hfree) nofun
    case isFalse h =>
      refine ⟨(List.length_set ..).trans hl, hregs, fun p hp hfree => ?_⟩
      rcases Nat.lt_succ_iff_lt_or_eq.mp hp with h' | rfl
      · rw [attempt_setAttempt_other (by omega)]
        exact hatt p h' hfree
      · rw [attempt_setAttempt (by omega)]
        exact ha

/-- Every PLL that is not locked is in an attempt. -/
theorem startPlls_attempts (hlen : s.clk.attempt.length = 3) {p : Nat} (hp : p < 3) (hfree : s.locked p = false) :
    s.startPlls.attempt p = .search ∨ ∃ k, s.startPlls.attempt p = .hop k :=
  (startSome_attempts hlen 3 (Nat.le_refl 3) _ rfl).2.2 p hp hfree

/-- The state in which the reference is back. -/
def State.refBack (s : State) : State := (s.setFlag F.CLK_STAT_REF_OK 0 true).setFlag F.CLK_STAT_AON_RC 0 false

theorem refBack_shows (hw : s.Canon) : s.refBack.flag F.CLK_STAT_REF_OK 0 = true ∧ s.refBack.flag F.CLK_STAT_AON_RC 0 = false ∧
    s.Writes s.refBack [(F.CLK_STAT_REF_OK, 0), (F.CLK_STAT_AON_RC, 0)] := by
  have hok := canonAfterFlag hw F.CLK_STAT_REF_OK 0 true
  unfold State.refBack
  refine ⟨?_, State.flag_setFlag_same hok _ _ _ (by decide),
    ((State.Writes.refl hw _).setFlag _ _ _ (by simp) (by decide)).setFlag _ _ _ (by simp) (by decide)⟩
  rw [State.flag_setFlag_apart hok _ _ _ _ _ (by decide), State.flag_setFlag_same hw _ _ _ (by decide)]

theorem execRefclkRestored_restores (h : s.flag F.CLK_STAT_REF_OK 0 = false) : exec .refclkRestored s =
    .next (if (s.gait = Gait.paddock ∧ !s.clk.wake) ∨ s.boot.reach.isSome then s.refBack else s.refBack.startPlls) :=
  congrArg Host.Outcome.next (if_neg (by rw [h]; exact nofun))

/-- Starting the PLLs touches no register. -/
theorem startPlls_flag (f : Fld) (i : Nat) : s.startPlls.flag f i = s.flag f i := by
  unfold State.flag State.fld
  rw [startPlls_only .regs (by decide)]

/-! ### A lock, and an attempt that ends -/

/-- PLL_LOCK in an attempt. -/
theorem execPllLock_locks {p : Pll} (hfree : s.locked (pllNo p) = false) (hidle : s.attempt (pllNo p) ≠ .idle) (hfail : s.attempt (pllNo p) ≠ .failed) :
    exec (.pllLock p) s = .next (
      if pllNo p = 0 ∧ !s.flag F.CLK_CFG_SYNC_EN 0 ∧ s.clk.grid.isNone then
        ((s.setFlag (lockFld (pllNo p)) 0 true).setAttempt (pllNo p) (if s.attempt (pllNo p) = .search then .search else .idle)).modClk fun c =>
          { c with grid := some ((s.now + 319) / 320 % 25) }
      else (s.setFlag (lockFld (pllNo p)) 0 true).setAttempt (pllNo p) (if s.attempt (pllNo p) = .search then .search else .idle)) :=
  congrArg Host.Outcome.next (if_neg (by simp [hfree, hidle, hfail]))

/-- Fields of the slots are fields of their own (R466). -/
theorem slotFld_good {k : Nat} (hk : k < 8) : (slotFld F.PLL_SLOT_VALID k).good = true ∧ (slotFld F.PLL_SLOT_BAND k).good = true ∧
    (slotFld F.PLL_SLOT_TEMP k).good = true := by
  interval_cases k <;> decide

/-- A slot written shows its band and its temperature. -/
theorem writeSlot_shows (hw : s.Canon) {k band temp : Nat} (hk : k < 8) (hb : band < 64) (ht : temp < 256) :
    (s.writeSlot k band temp).slotValid k = true ∧ (s.writeSlot k band temp).fld (slotFld F.PLL_SLOT_BAND k) 0 = band ∧
      (s.writeSlot k band temp).fld (slotFld F.PLL_SLOT_TEMP k) 0 = temp := by
  obtain ⟨hvalid, hband, htemp⟩ := slotFld_good hk
  have hv := canonAfterFlag hw (slotFld F.PLL_SLOT_VALID k) 0 true
  have hbd := canonAfterFld hv (slotFld F.PLL_SLOT_BAND k) 0 band
  unfold State.writeSlot State.slotValid
  refine ⟨?_, ?_, ?_⟩
  · rw [State.flag_setFld_apart hbd _ _ _ _ _ (by interval_cases k <;> decide), State.flag_setFld_apart hv _ _ _ _ _ (by interval_cases k <;> decide),
      State.flag_setFlag_same hw _ _ _ hvalid]
  · rw [State.fld_setFld_apart hbd _ _ _ _ _ (by interval_cases k <;> decide), State.fld_setFld_same hv _ _ _ hband]
    exact Nat.mod_eq_of_lt hb
  · rw [State.fld_setFld_same hbd _ _ _ htemp]
    exact Nat.mod_eq_of_lt ht

/-- BAND_SEARCH_COMPLETE with a band: it goes into an invalid slot, or into the nearest where every slot is valid. -/
theorem execBandSearchComplete_found {p : Pll} {k : Nat} (hatt : s.attempt (pllNo p) = .search) (b : Fin 64) (temp : Byte)
    (hslot : ((slotsOf (pllNo p)).find? fun j => !s.slotValid j) = some k ∨
      (((slotsOf (pllNo p)).find? fun j => !s.slotValid j) = none ∧ s.nearest temp.toNat (slotsOf (pllNo p)) = some k)) :
    exec (.bandSearchComplete p (some b) temp) s = .next (((s.count F.CLK_CNT_SEARCH_CNT 0).writeSlot k b temp.toNat).setAttempt (pllNo p)
      (if s.locked (pllNo p) then .idle else .found)) := by
  show execBandSearchComplete p (some b) temp s = _
  unfold execBandSearchComplete
  rcases hslot with h | ⟨h, hnear⟩
  · simp only [hatt, h]
    rfl
  · simp only [hatt, h, hnear]
    rfl

/-- BAND_SEARCH_COMPLETE without a band. -/
theorem execBandSearchComplete_fails {p : Pll} (hatt : s.attempt (pllNo p) = .search) (temp : Byte) :
    exec (.bandSearchComplete p none temp) s = .next (((s.count F.CLK_CNT_SEARCH_CNT 0).setAttempt (pllNo p) .failed).cond s.clk.wake
      fun t => t.setFlag F.CLK_STAT_WAKE_FAIL 0 true) := by
  show execBandSearchComplete p none temp s = _
  unfold execBandSearchComplete
  simp only [hatt]
  rfl

/-- A band found shows in its slot. -/
theorem bandFound_shows (hw : s.Canon) {p : Pll} {k : Nat} (hk : k < 8) (b : Fin 64) (temp : Byte) (a : Attempt) :
    (((s.count F.CLK_CNT_SEARCH_CNT 0).writeSlot k b temp.toNat).setAttempt (pllNo p) a).slotValid k = true ∧
      (((s.count F.CLK_CNT_SEARCH_CNT 0).writeSlot k b temp.toNat).setAttempt (pllNo p) a).fld (slotFld F.PLL_SLOT_BAND k) 0 = b ∧
      (((s.count F.CLK_CNT_SEARCH_CNT 0).writeSlot k b temp.toNat).setAttempt (pllNo p) a).fld (slotFld F.PLL_SLOT_TEMP k) 0 = temp.toNat :=
  writeSlot_shows (canonAfterCount hw F.CLK_CNT_SEARCH_CNT 0) hk b.isLt temp.isLt

/-- Settles O15: the PLLs by their locks and attempts, the slots by their fields. -/
theorem pllCommandsComplete : Obligations.PllCommandsComplete := by
  unfold Obligations.PllCommandsComplete
  refine ⟨fun s hw href => ?_, fun s hw href => ?_, fun s p h => congrArg Host.Outcome.next (if_neg (by rw [h]; exact nofun)),
    fun s p hw hfree hidle hfail => ?_, fun s p k hw hatt hk hp => ?_, fun s p b temp k hw hatt hk hslot hp => ?_, fun s p temp hatt hp => ?_,
    fun s p temp hatt => congrArg Host.Outcome.next (if_pos hatt), fun s p b temp k hw hatt hk hall hnear => ?_, fun s p temp hw hatt hwake => ?_⟩
  · obtain ⟨hok, hunlocked, hattempt, htold⟩ := refLost_stopped hw
    exact ⟨_, rfl, hok, hunlocked, hattempt, htold, execRefclkLoss_stops href⟩
  · obtain ⟨hok, hrc, hwr⟩ := refBack_shows hw
    refine ⟨_, execRefclkRestored_restores href, ?_⟩
    split
    case isTrue hstay =>
      refine ⟨hok, hrc, hwr.but, (exec_only ((execRefclkRestored_restores href).trans (congrArg _ (if_pos hstay))) : _), fun _ => rfl, fun h1 h2 => ?_⟩
      simp_all
    case isFalse hstart =>
      refine ⟨(startPlls_flag _ _).trans hok, (startPlls_flag _ _).trans hrc, hwr.but.same (startPlls_only .regs (by decide)),
        (exec_only ((execRefclkRestored_restores href).trans (congrArg _ (if_neg hstart))) : _), fun h => absurd ?_ hstart, fun _ _ hlen p hp hfree => ?_⟩
      · simpa using h
      · exact startPlls_attempts (s := s.refBack) hlen hp ((hwr.but.flag (lockFld p) 0 (by interval_cases p <;> decide)).trans hfree)
  · have hset := locked_setLock hw (pllNo_lt p) (pllNo_lt p) true
    have hregs := (State.RegsBut.refl s [(lockFld (pllNo p), 0)]).setFlag hw (lockFld (pllNo p)) 0 true (by simp) (lockFld_good _)
    rw [if_pos rfl] at hset
    have hexec := execPllLock_locks hfree hidle hfail
    refine ⟨_, hexec, ?_, ?_, exec_only hexec, ?_⟩
    · split <;> exact hset
    · split <;> exact hregs
    · rintro rfl hsync hgrid
      rw [if_pos ⟨rfl, by rw [hsync]; rfl, by rw [hgrid]; rfl⟩]
      rfl
  · have hexec : exec (.pllHopTimeout p) s = .next ((s.setFlag (slotFld F.PLL_SLOT_VALID k) 0 false).setAttempt (pllNo p) .search) := by
      show execPllHopTimeout p s = _
      unfold execPllHopTimeout
      simp only [hatt]
    exact ⟨_, hexec, State.flag_setFlag_same hw _ _ _ (slotFld_good hk).1, attempt_setAttempt (s := s.setFlag _ 0 false) hp _, exec_only hexec⟩
  · have hexec := execBandSearchComplete_found hatt b temp (.inl hslot)
    obtain ⟨hvalid, hband, htemp⟩ := bandFound_shows hw (p := p) hk b temp (if s.locked (pllNo p) then .idle else .found)
    refine ⟨_, hexec, hvalid, hband, htemp, exec_only hexec, fun hfree => ?_⟩
    rw [attempt_setAttempt (s := (s.count F.CLK_CNT_SEARCH_CNT 0).writeSlot k b temp.toNat) hp, hfree]
    rfl
  · have hexec := execBandSearchComplete_fails hatt temp
    have hfailed : ((s.count F.CLK_CNT_SEARCH_CNT 0).setAttempt (pllNo p) .failed).attempt (pllNo p) = .failed :=
      attempt_setAttempt (s := s.count F.CLK_CNT_SEARCH_CNT 0) hp _
    refine ⟨_, hexec, ?_, exec_only hexec⟩
    cases s.clk.wake
    · exact hfailed
    · rw [State.cond_true]
      unfold State.attempt at *
      rw [State.setFlag_clk]
      exact hfailed
  · have hnone : ((slotsOf (pllNo p)).find? fun j => !s.slotValid j) = none := by
      rw [List.find?_eq_none]
      intro j hj
      rw [hall j hj]
      exact nofun
    have hexec := execBandSearchComplete_found hatt b temp (.inr ⟨hnone, hnear⟩)
    obtain ⟨hvalid, hband, htemp⟩ := bandFound_shows hw (p := p) hk b temp (if s.locked (pllNo p) then .idle else .found)
    exact ⟨_, hexec, hvalid, hband, htemp, exec_only hexec⟩
  · refine ⟨_, execBandSearchComplete_fails hatt temp, ?_⟩
    rw [hwake]
    exact State.flag_setFlag_same (canonAfterModClk (canonAfterCount hw _ _) _) _ _ _ (by decide)

end Sys2Proof.Machine
end

section
/-!
PROOFS. What Fencen's resumption leaves of the mailboxes: completions held back and doorbells served open and close none (R385, R523).
-/
namespace Sys2Proof.Machine

variable {s t : State}

/-- A field of another class of registers reads as before. -/
theorem State.RegsBut.fld_class {l : List (Fld × Nat)} (h : s.RegsBut t l) (f : Fld) {i : Nat} (hi : i < 256) (hf : f.off < 65536)
    (hl : l.all (fun x => x.1.cls != f.cls && decide (x.2 < 256) && decide (x.1.off < 65536)) = true) : t.fld f i = s.fld f i := by
  unfold State.fld fieldOf
  refine congrArg (· % _) (Nat.eq_of_testBit_eq fun n => ?_)
  rw [Nat.testBit_shiftRight, Nat.testBit_shiftRight]
  refine h _ _ fun x hx hk => ?_
  have hp := List.all_eq_true.mp hl x hx
  simp only [Bool.and_eq_true, bne_iff_ne, decide_eq_true_eq] at hp
  exact absurd (regKey_inj hi hp.1.2 hf hp.2 hk).1.symm hp.1.1

theorem State.RegsBut.flag_class {l : List (Fld × Nat)} (h : s.RegsBut t l) (f : Fld) {i : Nat} (hi : i < 256) (hf : f.off < 65536)
    (hl : l.all (fun x => x.1.cls != f.cls && decide (x.2 < 256) && decide (x.1.off < 65536)) = true) : t.flag f i = s.flag f i := by
  unfold State.flag
  rw [h.fld_class f hi hf hl]

/-- A fold, each of whose steps writes only listed fields. -/
theorem State.Writes.foldl {α : Type} {l : List (Fld × Nat)} {f : State → α → State} (hf : ∀ u x, s.Writes u l → s.Writes (f u x) l) :
    ∀ (xs : List α) {t : State}, s.Writes t l → s.Writes (xs.foldl f t) l
  | [], _, h => h
  | x :: xs, _, h => State.Writes.foldl hf xs (hf _ x h)

theorem vget_box (m k : Nat) (f : Mailbox → Mailbox) : vget (s.box m f).fcp.boxes k =
    if m = k ∧ m < 8 then f (vget s.fcp.boxes k) else vget s.fcp.boxes k := vget_vmod _ _ _ _

/-- One change made in every mailbox. -/
theorem vget_forBoxes (f : Mailbox → Mailbox) {k : Nat} (hk : k < 8) :
    vget (s.forUnits 8 fun t m => t.box m f).fcp.boxes k = f (vget s.fcp.boxes k) := by
  have hall : ∀ n ≤ 8, vget (s.forUnits n fun t m => t.box m f).fcp.boxes k = if k < n then f (vget s.fcp.boxes k) else vget s.fcp.boxes k := by
    intro n
    induction n with
    | zero => exact fun _ => rfl
    | succ n ih =>
      intro hn
      rw [State.forUnits_succ, vget_box, ih (by omega)]
      by_cases h : n = k
      · rw [if_pos ⟨h, by omega⟩, if_neg (by omega), if_pos (by omega)]
      · rw [if_neg fun hh => h hh.1]
        by_cases hlt : k < n
        · rw [if_pos hlt, if_pos (by omega)]
        · rw [if_neg hlt, if_neg (by omega)]
  rw [hall 8 (Nat.le_refl 8), if_pos hk]

/-- What a mailbox shows of its link with the host: open or closed, in a restart, after one, and the CSEQ expected. -/
def Mailbox.gate (b : Mailbox) : Bool × Bool × Bool × Nat := (b.isOpen, b.restarting, b.rstSeen, b.cseq)

/-- The counts a mailbox keeps: its refusals, and the completions sent again. -/
def mailFlds : List (Fld × Nat) := (List.range 8).flatMap fun m => [(F.MB_STAT_REFUSE_CNT, m), (F.MB_STAT_RESEND_CNT, m)]

theorem mem_mailFlds {m : Nat} (hm : m < 8) : (F.MB_STAT_REFUSE_CNT, m) ∈ mailFlds ∧ (F.MB_STAT_RESEND_CNT, m) ∈ mailFlds := by
  constructor <;> exact List.mem_flatMap.mpr ⟨m, List.mem_range.mpr hm, by simp⟩

/-- Between s and t no mailbox opened, closed, restarted or moved its CSEQ, no supervisor restart began or ended, and no register but the
mailboxes' counts changed. -/
structure GatesKept (s t : State) : Prop where
  gate : ∀ k, (vget t.fcp.boxes k).gate = (vget s.fcp.boxes k).gate
  slot : t.fcp.restartSlot = s.fcp.restartSlot
  writes : s.Canon → s.Writes t mailFlds

theorem GatesKept.refl (s : State) : GatesKept s s := ⟨fun _ => rfl, rfl, fun hw => State.Writes.refl hw _⟩

/-- One that leaves the registers, the gates and the restart. -/
theorem GatesKept.same {u : State} (h : GatesKept s t) (hr : u.regs = t.regs)
    (hg : ∀ k, (vget u.fcp.boxes k).gate = (vget t.fcp.boxes k).gate) (hs : u.fcp.restartSlot = t.fcp.restartSlot) : GatesKept s u :=
  ⟨fun k => (hg k).trans (h.gate k), hs.trans h.slot, fun hw => (h.writes hw).same hr⟩

theorem GatesKept.count (h : GatesKept s t) {f : Fld} {m : Nat} (hm : (f, m) ∈ mailFlds) (hf : f.good = true) : GatesKept s (t.count f m) :=
  ⟨h.gate, h.slot, fun hw => (h.writes hw).count _ _ hm hf⟩

/-- A change of a mailbox that leaves its gate. -/
theorem box_gate {f : Mailbox → Mailbox} (hf : ∀ b, (f b).gate = b.gate) (m k : Nat) :
    (vget (s.box m f).fcp.boxes k).gate = (vget s.fcp.boxes k).gate := by
  unfold State.box
  simp only [vget_vmod]
  split
  · exact hf _
  · rfl

theorem emit_gate (m k : Nat) (msg : List Byte) : (vget (s.emit m msg).fcp.boxes k).gate = (vget s.fcp.boxes k).gate := by
  unfold State.emit State.ordinary State.box
  split <;> (simp only [vget_vmod]; split <;> rfl)

theorem emit_slot (m : Nat) (msg : List Byte) : (s.emit m msg).fcp.restartSlot = s.fcp.restartSlot := by
  unfold State.emit State.ordinary State.box
  split <;> rfl

theorem emit_regs (m : Nat) (msg : List Byte) : (s.emit m msg).regs = s.regs := by
  unfold State.emit State.ordinary State.box
  split <;> rfl

/-- A transport message that leaves. -/
theorem GatesKept.send (h : GatesKept s t) (m type cseq credits code : Nat) (msg : List Byte) : GatesKept s (t.send m type cseq credits code msg) :=
  h.same (emit_regs _ _) (fun k => emit_gate _ k _) (emit_slot _ _)

/-- A completion sent again. -/
theorem GatesKept.resend (h : GatesKept s t) {m : Nat} (hm : m < 8) (p : Posted) : GatesKept s (t.resend m p) :=
  (h.send _ _ _ _ _ _).count (mem_mailFlds hm).2 (by decide)

theorem GatesKept.notice (h : GatesKept s t) (m : Nat) : GatesKept s (t.notice m) := h.send _ _ _ _ _ _

theorem place_slot (e : Entry) (h pay : List Byte) : (s.place e h pay).fcp.restartSlot = s.fcp.restartSlot := by
  unfold State.place
  simp only
  split
  · rfl
  · rw [emit_slot]
    rfl

theorem place_regs (e : Entry) (h pay : List Byte) : (s.place e h pay).regs = s.regs := by
  unfold State.place
  simp only
  split
  · rfl
  · rw [emit_regs]
    rfl

theorem place_gate (e : Entry) (h pay : List Byte) (k : Nat) : (vget (s.place e h pay).fcp.boxes k).gate = (vget s.fcp.boxes k).gate := by
  unfold State.place
  simp only
  split
  · simp only [State.box, vget_vmod]
    split <;> rfl
  · rw [emit_gate]
    simp only [State.box, vget_vmod]
    split <;> rfl

theorem completeEntry_gate (e : Entry) (status pnum : Nat) (res pay : List Byte) (k : Nat) :
    (vget (s.completeEntry e status pnum res pay).fcp.boxes k).gate = (vget s.fcp.boxes k).gate := by
  unfold State.completeEntry
  exact place_gate _ _ _ _

/-- A command that completes. -/
theorem GatesKept.completeEntry (h : GatesKept s t) (e : Entry) (status pnum : Nat) (res pay : List Byte) :
    GatesKept s (t.completeEntry e status pnum res pay) :=
  h.same (place_regs _ _ _) (completeEntry_gate _ _ _ _ _) (place_slot _ _ _)

theorem GatesKept.settle (n : Nat) : ∀ {t : State}, GatesKept s t → GatesKept s (State.settle n t) := by
  induction n with
  | zero => exact fun h => h
  | succ n ih =>
    intro t h
    unfold State.settle
    split
    · exact h
    · exact ih (h.completeEntry _ _ _ _ _)

theorem GatesKept.complete (h : GatesKept s t) (tag status pnum : Nat) (res pay : List Byte) : GatesKept s (t.complete tag status pnum res pay) := by
  unfold State.complete
  split
  · exact h
  · split
    · exact h
    · split
      · exact h.same rfl (fun _ => rfl) rfl
      · exact (h.completeEntry _ _ _ _ _).settle _

/-- A command taken. -/
theorem GatesKept.takeCmd (h : GatesKept s t) (m : Nat) (hdr payload : List Byte) : GatesKept s (t.takeCmd m hdr payload) := by
  have hadd : GatesKept s { t with fcp := { t.fcp with inflight := t.fcp.inflight ++ [parseCommand m hdr payload] } } :=
    h.same rfl (fun _ => rfl) rfl
  exact hadd.settle _

/-- A doorbell served: a command is taken, or refused and counted. -/
theorem GatesKept.doorbell (h : GatesKept s t) {m : Nat} (hm : m < 8) : GatesKept s (t.doorbell m) := by
  unfold State.doorbell
  simp only
  generalize (if (vget t.fcp.boxes m).isOpen = true then _ else _ : Nat) = code
  have hbox : GatesKept s (t.box m fun b => { b with refuse := code }) :=
    h.same rfl (box_gate (f := fun b => { b with refuse := code }) (fun _ => rfl) m) rfl
  split
  · exact hbox.takeCmd _ _ _
  · exact hbox.count (mem_mailFlds hm).1 (by decide)

/-- Fencen resumes: what it posts and serves leaves the gates. -/
theorem svpResume_gates (s : State) : GatesKept s s.svpResume := by
  unfold State.svpResume
  split
  · exact GatesKept.refl s
  · have hclear : GatesKept s { s with fcp := { s.fcp with deferred := [], busy := Vector.replicate 4 false } } := (GatesKept.refl s).same rfl (fun _ => rfl) rfl
    simp only
    generalize ({ s with fcp := { s.fcp with deferred := [], busy := Vector.replicate 4 false } } : State) = t at *
    refine forUnits_keeps (P := GatesKept s) ?_ fun u m hm hu => ?_
    · generalize s.fcp.deferred = l
      induction l generalizing t with
      | nil => exact hclear
      | cons x l ih => exact ih _ (hclear.complete _ _ _ _ _)
    · split
      · exact hu.doorbell (by omega)
      · exact hu

theorem svpResume_only : s.Only s.svpResume [.regs, .fcp, .macs] := (State.svpResume_in (Within.refl (Part.mask [.regs, .fcp, .macs]) s) rfl).only

end Sys2Proof.Machine
end

section
/-!
PROOFS. Clock monitors, SYNC_IN, the wake from Paddock and the banks' supplies (R464 to R475, R530, R531).
-/
namespace Sys2Proof.Machine

variable {s : State}

/-! ### CLK_OK -/

/-- A bit written shows what is written. -/
theorem bitOf_written (w d : Nat) (on : Bool) : bitOf (if bitOf w d == on then w else if on then w + 2 ^ d else w - 2 ^ d) d = on := by
  unfold bitOf
  cases on
  · cases h : w.testBit d
    · exact h
    · have hge := Nat.ge_two_pow_of_testBit h
      have hsum := Nat.testBit_two_pow_add_eq (w - 2 ^ d) d
      rw [Nat.add_sub_cancel' hge, h] at hsum
      simpa using hsum.symm
  · cases h : w.testBit d
    · have hsum := Nat.testBit_two_pow_add_eq w d
      rw [h, Nat.add_comm] at hsum
      exact hsum
    · exact h

theorem clkOk_clkBit (hw : s.Canon) {d : Nat} (hd : d < 8) (on : Bool) : (s.clkBit d on).clkOk d = on := by
  have hbit := bitOf_written (s.fld F.CLK_STAT_CLK_OK 0) d on
  unfold State.clkOk State.clkBit
  simp only
  rw [State.fld_setFld_same hw _ _ _ (by decide)]
  show Nat.testBit (_ % 2 ^ 8) d = on
  rw [Nat.testBit_mod_two_pow, decide_eq_true hd, Bool.true_and]
  exact hbit

/-- What the return of a clock writes beside CLK_OK. -/
def clkBackFlds : List (Fld × Nat) :=
  [(F.RST_STAT_UNCLEAN, 0), (F.RST_STAT_WAIT_CLK, 0)] ++ evqFlds ++ mailFlds ++ (List.range 4).map fun b => (F.TB_STAT_AON_CARRIED, b)

/-- The blocks that a clock held are released. -/
def State.clkReleased (s : State) (d : Nat) : State :=
  (((s.boot.held.filter fun b => blockDomain b.1 == d).foldl (fun t b => t.releaseBlock b.1 b.2)
    (s.modBoot fun b => { b with held := b.held.filter fun x => blockDomain x.1 != d })).waitClk)

theorem setClk_eq (d : Nat) : s.setClk d = if d = 2 then ((s.clkBit d true).clkReleased d).svpResume
    else if d = 4 then ((s.clkBit d true).clkReleased d).genGo
    else if d = 7 then ((s.clkBit d true).clkReleased d).forUnits 4 fun t b => t.setFlag F.TB_STAT_AON_CARRIED b false
    else (s.clkBit d true).clkReleased d := rfl

theorem foldl_release_boot (l : List (Nat × Bool)) : ∀ s : State, (l.foldl (fun t b => t.releaseBlock b.1 b.2) s).boot = s.boot := by
  induction l with
  | nil => exact fun _ => rfl
  | cons x l ih => exact fun s => (ih _).trans (releaseBlock_boot _ _)

theorem clkReleased_shows (hw : s.Canon) (d : Nat) : s.Writes (s.clkReleased d) clkBackFlds ∧
    (s.clkReleased d).boot.held = s.boot.held.filter fun x => blockDomain x.1 != d := by
  have hrel : ∀ u (x : Nat × Bool), s.Writes u clkBackFlds → s.Writes (u.releaseBlock x.1 x.2) clkBackFlds := fun u x hu =>
    ((hu.trans ⟨(releaseBlock_regsBut hu.canon x.1 x.2).1, (releaseBlock_regsBut hu.canon x.1 x.2).2⟩).mono fun y hy => by
      simp only [clkBackFlds, List.mem_append, List.mem_cons] at *
      tauto)
  have hfold := State.Writes.foldl hrel (s.boot.held.filter fun b => blockDomain b.1 == d)
    ((State.Writes.refl hw clkBackFlds).modBoot fun b => { b with held := b.held.filter fun x => blockDomain x.1 != d })
  have hboot := foldl_release_boot (s.boot.held.filter fun b => blockDomain b.1 == d)
    (s.modBoot fun b => { b with held := b.held.filter fun x => blockDomain x.1 != d })
  unfold State.clkReleased
  generalize (List.filter _ _).foldl _ _ = t at *
  refine ⟨hfold.setFlag _ _ _ (by simp [clkBackFlds]) (by decide), ?_⟩
  show t.boot.held = _
  rw [hboot]
  rfl

/-- A clock that returns: its bit is set and its blocks are released. -/
theorem setClk_shows (hw : s.Canon) {d : Nat} (hd : d < 8) : (s.setClk d).clkOk d = true ∧
    (s.setClk d).boot.held = s.boot.held.filter fun x => blockDomain x.1 != d := by
  have hbit := clkOk_clkBit hw hd true
  have hheld : (s.clkBit d true).boot.held = s.boot.held := rfl
  have hc : (s.clkBit d true).Canon := canonAfterFld hw _ _ _
  rw [setClk_eq]
  generalize s.clkBit d true = t at *
  obtain ⟨hwr, hrel⟩ := clkReleased_shows hc d
  rw [hheld] at hrel
  generalize t.clkReleased d = u at *
  have hshow : ∀ v : State, u.Writes v clkBackFlds → v.boot = u.boot → v.clkOk d = true ∧
      v.boot.held = s.boot.held.filter fun x => blockDomain x.1 != d := fun v hv hb => by
    refine ⟨?_, hb ▸ hrel⟩
    unfold State.clkOk at *
    rw [hv.but.fld _ _ (by decide), hwr.but.fld _ _ (by decide)]
    exact hbit
  split
  · exact hshow _ (((svpResume_gates u).writes hwr.canon).mono fun x hx => by simp only [clkBackFlds, List.mem_append]; tauto)
      (svpResume_only .boot (by decide))
  · split
    · have hgo := (State.genGo_in (Within.refl (Part.mask [.pwm]) u) rfl).only
      exact hshow _ ((State.Writes.refl hwr.canon _).same (hgo .regs (by decide))) (hgo .boot (by decide))
    · split
      · refine hshow _ ((State.Writes.refl hwr.canon _).forUnits fun v b hb hv => hv.setFlag _ _ _ ?_ (by decide))
          ((State.forUnits_in (Within.refl (Part.mask [.regs]) u) rfl fun _ _ h => State.setFlag_in h rfl _ _ _).only .boot (by decide))
        simp only [clkBackFlds, List.mem_append, List.mem_map, List.mem_range]
        exact .inr ⟨b, hb, rfl⟩
      · exact hshow _ (State.Writes.refl hwr.canon _) rfl

/-! ### Wake sources -/

/-- A wake source is latched. -/
theorem bitOf_latched (hw : s.Canon) {b : Nat} (hb : b < 6) : bitOf ((s.setFld F.WAKE_STAT_LATCHED 0 (if bitOf (s.fld F.WAKE_STAT_LATCHED 0) b
    then s.fld F.WAKE_STAT_LATCHED 0 else s.fld F.WAKE_STAT_LATCHED 0 + 2 ^ b)).fld F.WAKE_STAT_LATCHED 0) b = true := by
  have hbit := bitOf_written (s.fld F.WAKE_STAT_LATCHED 0) b true
  rw [State.fld_setFld_same hw _ _ _ (by decide)]
  show Nat.testBit (_ % 2 ^ 6) b = true
  rw [Nat.testBit_mod_two_pow, decide_eq_true hb, Bool.true_and]
  rw [beq_true] at hbit
  exact hbit

theorem wakeBit_lt (src : WakeSrc) : (s.wakeBit src).1 < 6 := by cases src <;> exact Nat.lt_of_lt_of_le (Nat.lt_succ_self _) (by simp [State.wakeBit])

/-- Starting a wake starts PLLs and touches no register. -/
theorem startWake_shows : s.startWake.regs = s.regs ∧ s.startWake.clk.wake = true := by
  have hstart : ∀ t : State, t.clk.wake = true → t.startPlls.clk.wake = true := fun t ht =>
    forUnits_keeps (P := fun t => t.clk.wake = true) ht fun u p _ hu => by
      obtain ⟨a, -, hset⟩ := startAttempt_sets (s := u) p u.tempNow
      split
      · exact hu
      · rw [hset]
        exact hu
  unfold State.startWake
  cases s.flag F.CLK_STAT_REF_OK 0
  · exact ⟨rfl, rfl⟩
  · rw [State.cond_true]
    exact ⟨startPlls_only (s := s.modClk fun c => { c with wake := true, wakeEarly := false }) .regs (by decide), hstart _ rfl⟩

theorem execWakeSource_latches (hw : s.Canon) {src : WakeSrc} (hreal : s.wakeReal src = true) : ∃ t, exec (.wakeSource src) s = .next t ∧
    bitOf (t.fld F.WAKE_STAT_LATCHED 0) (s.wakeBit src).1 = true ∧ ((s.wakeBit src).2 = true → s.gait = Gait.paddock → t.clk.wake = true) := by
  have hbit := bitOf_latched hw (wakeBit_lt (s := s) src)
  refine ⟨_, congrArg Host.Outcome.next (if_neg (by rw [hreal]; exact nofun)), ?_⟩
  have hwake : ∀ v, (s.setFld F.WAKE_STAT_LATCHED 0 v).clk = s.clk := fun _ => rfl
  generalize hs : s.setFld F.WAKE_STAT_LATCHED 0 _ = t at hbit ⊢
  have hclk : t.clk = s.clk := hs ▸ hwake _
  split
  case isTrue hdis => exact ⟨hbit, fun hen => absurd hdis (by rw [hen]; exact nofun)⟩
  case isFalse =>
    split
    case isTrue =>
      split
      case isTrue hon => exact ⟨hbit, fun _ _ => hclk ▸ hon⟩
      case isFalse =>
        obtain ⟨hregs, hon⟩ := startWake_shows (s := t)
        refine ⟨?_, fun _ _ => hon⟩
        unfold State.fld at *
        rw [hregs]
        exact hbit
    case isFalse hgait => split <;> exact ⟨hbit, fun _ h => absurd h hgait⟩

/-! ### The end of a wake -/

/-- Walk, and the events of the wake. -/
def State.wakeEvents (s : State) : State :=
  (((s.modClk fun c => { c with wake := false, wakeEarly := false }).setGait Gait.walk).post EV.EV_GAIT_CHANGE noUnit
    (Gait.paddock + 256 * Gait.walk)).post EV.EV_WAKE noUnit (s.fld F.WAKE_STAT_LATCHED 0)

theorem wakeEvents_shows (hw : s.Canon) : s.wakeEvents.Canon ∧ s.wakeEvents.gait = Gait.walk ∧ s.wakeEvents.clk.wake = false ∧
    s.Told s.wakeEvents EV.EV_WAKE noUnit (s.fld F.WAKE_STAT_LATCHED 0) ∧ s.wakeEvents.fcp = s.fcp := by
  have hmod : (s.modClk fun c => { c with wake := false, wakeEarly := false }).Canon := canonAfterModClk hw _
  have hset := setGait_writes hmod Gait.walk
  have hgait := setGait_gait hmod (g := Gait.walk) (by decide)
  have honly := setGait_only (s := s.modClk fun c => { c with wake := false, wakeEarly := false }) Gait.walk
  have hwake : ((s.modClk fun c => { c with wake := false, wakeEarly := false }).setGait Gait.walk).clk.wake = false :=
    congrArg ClkSt.wake (honly .clk (by decide))
  have hevq : ((s.modClk fun c => { c with wake := false, wakeEarly := false }).setGait Gait.walk).evq = s.evq := honly .evq (by decide)
  have hfcp : ((s.modClk fun c => { c with wake := false, wakeEarly := false }).setGait Gait.walk).fcp = s.fcp := honly .fcp (by decide)
  unfold State.wakeEvents State.gait at *
  generalize (s.modClk fun c => { c with wake := false, wakeEarly := false }).setGait Gait.walk = t at *
  have hpost := canonAfterPost hset.canon EV.EV_GAIT_CHANGE noUnit (Gait.paddock + 256 * Gait.walk)
  refine ⟨canonAfterPost hpost _ _ _, ?_, ?_, State.post_told ?_ _ _ _, ?_⟩
  · rw [State.fld_post hpost _ _ _ _ _ (by decide), State.fld_post hset.canon _ _ _ _ _ (by decide)]
    exact hgait
  · rw [State.post_clk, State.post_clk]
    exact hwake
  · rw [post_next, hevq]
    exact Nat.le_succ _
  · rw [State.post_fcp, State.post_fcp]
    exact hfcp

/-- AIN_SAMP of every input reads EMPTY, code 0 (R475). -/
def State.ainEmptied (s : State) : State := s.forUnits 64 fun t n => (t.setFlag F.AIN_SAMP_EMPTY n true).setFld F.AIN_SAMP_CODE n 0

/-- The fields of AIN_SAMP that it writes. -/
def ainFlds : List (Fld × Nat) := (List.range 64).flatMap fun n => [(F.AIN_SAMP_EMPTY, n), (F.AIN_SAMP_CODE, n)]

theorem ainEmptied_shows (hw : s.Canon) : s.Writes s.ainEmptied ainFlds ∧ ∀ n < 64, s.ainEmptied.flag F.AIN_SAMP_EMPTY n = true := by
  have hall : ∀ k ≤ 64, ∀ t, t = (s.forUnits k fun t n => (t.setFlag F.AIN_SAMP_EMPTY n true).setFld F.AIN_SAMP_CODE n 0) →
      s.Writes t ainFlds ∧ ∀ n < k, t.flag F.AIN_SAMP_EMPTY n = true := by
    intro k
    induction k with
    | zero =>
      rintro - t rfl
      exact ⟨State.Writes.refl hw _, fun n hn => absurd hn (Nat.not_lt_zero n)⟩
    | succ k ih =>
      intro hk t ht
      rw [State.forUnits_succ] at ht
      obtain ⟨hwr, hempty⟩ := ih (by omega) _ rfl
      generalize s.forUnits k (fun t n => (t.setFlag F.AIN_SAMP_EMPTY n true).setFld F.AIN_SAMP_CODE n 0) = u at *
      have hset := canonAfterFlag hwr.canon F.AIN_SAMP_EMPTY k true
      have hmem : ∀ f ∈ [F.AIN_SAMP_EMPTY, F.AIN_SAMP_CODE], (f, k) ∈ ainFlds := fun f hf =>
        List.mem_flatMap.mpr ⟨k, List.mem_range.mpr (by omega), by simpa using hf⟩
      subst ht
      refine ⟨(hwr.setFlag _ _ _ (hmem _ (by simp)) (by decide)).setFld _ _ _ (hmem _ (by simp)) (by decide), fun n hn => ?_⟩
      rw [State.flag_setFld_apart hset _ _ _ _ _ (by decide)]
      rcases Nat.lt_succ_iff_lt_or_eq.mp hn with h | rfl
      · rw [State.flag_setFlag_unit hwr.canon (by decide) (by omega) (by omega) (by omega)]
        exact hempty n h
      · exact State.flag_setFlag_same hwr.canon _ _ _ (by decide)
  exact hall 64 (Nat.le_refl 64) _ rfl

/-- The fields that a restart of sigma-delta inputs writes. -/
def sdRestartFlds : List (Fld × Nat) := (List.range 32).map fun i => (F.SD_STAT_RESTART_CNT, i)

theorem sdRestartAll_writes (hw : s.Canon) (t0 : Nat) : s.Writes (s.sdRestartAll t0) sdRestartFlds := by
  unfold State.sdRestartAll
  refine (State.Writes.refl hw _).forUnits fun u i hi hu => ?_
  split
  · unfold State.sdRestart
    simp only
    have hmod : s.Writes (u.modSd i fun _ => { t0 := some t0 }) sdRestartFlds := hu.same rfl
    refine State.Writes.cond (hmod.cond (hmod.same rfl)) (State.Writes.count (hmod.cond (hmod.same rfl)) _ _ ?_ (by decide))
    exact List.mem_map.mpr ⟨i, List.mem_range.mpr hi, rfl⟩
  · exact hu

/-- Every mailbox opens that no restart holds closed. -/
def State.reopenBoxes (s : State) : State := s.forUnits 8 fun t m => t.box m fun b => { b with isOpen := !b.restarting }

theorem reopenBoxes_open {m : Nat} (hm : m < 8) : (vget s.reopenBoxes.fcp.boxes m).isOpen = !(vget s.fcp.boxes m).restarting := by
  unfold State.reopenBoxes
  rw [vget_forBoxes _ hm]

theorem reopenBoxes_leaves : s.reopenBoxes.regs = s.regs ∧ s.reopenBoxes.win = s.win ∧ s.reopenBoxes.clk = s.clk ∧ s.reopenBoxes.evq = s.evq :=
  forUnits_keeps (P := fun t => t.regs = s.regs ∧ t.win = s.win ∧ t.clk = s.clk ∧ t.evq = s.evq) ⟨rfl, rfl, rfl, rfl⟩ fun _ _ _ h => h

/-- The window is open. -/
def State.winReady (s : State) : State := { s with win := { s.win with ready := true } }

/-- The rest of the wake: the inputs restart, the window and the mailboxes open, and Fencen resumes. -/
def State.wakeOpened (s : State) : State :=
  ((((s.setFlag F.CLK_STAT_WAKE_FAIL 0 false).count F.WAKE_STAT_WAKE_CNT 0).ainEmptied.sdRestartAll
    ((s.setFlag F.CLK_STAT_WAKE_FAIL 0 false).count F.WAKE_STAT_WAKE_CNT 0).now).winReady.reopenBoxes).svpResume

theorem execWakeComplete_wakes (hgait : s.gait = Gait.paddock) (hwake : s.clk.wake = true) (hlock : s.allLocked = true)
    (hclk : s.fld F.CLK_STAT_CLK_OK 0 = 0xFF) : exec .wakeComplete s = .next s.wakeEvents.wakeOpened.hlpWake := by
  refine congrArg Host.Outcome.next (if_neg ?_)
  simp [hgait, hwake, hlock, hclk]

theorem wakeOpened_shows (hw : s.Canon) : s.wakeOpened.gait = s.gait ∧ s.wakeOpened.clk = s.clk ∧ s.wakeOpened.win.ready = true ∧
    s.wakeOpened.evq = s.evq ∧ (∀ n < 64, s.wakeOpened.flag F.AIN_SAMP_EMPTY n = true) ∧
    ∀ m < 8, (vget s.wakeOpened.fcp.boxes m).isOpen = !(vget s.fcp.boxes m).restarting := by
  have hstart : s.Writes ((s.setFlag F.CLK_STAT_WAKE_FAIL 0 false).count F.WAKE_STAT_WAKE_CNT 0)
      [(F.CLK_STAT_WAKE_FAIL, 0), (F.WAKE_STAT_WAKE_CNT, 0)] :=
    ((State.Writes.refl hw _).setFlag _ _ _ (by simp) (by decide)).count _ _ (by simp) (by decide)
  have hstartOnly : s.Only ((s.setFlag F.CLK_STAT_WAKE_FAIL 0 false).count F.WAKE_STAT_WAKE_CNT 0) [.regs] :=
    (State.count_in (State.setFlag_in (Within.refl (Part.mask [.regs]) s) rfl _ _ _) rfl _ _).only
  unfold State.wakeOpened
  generalize (s.setFlag F.CLK_STAT_WAKE_FAIL 0 false).count F.WAKE_STAT_WAKE_CNT 0 = t at *
  obtain ⟨hain, hempty⟩ := ainEmptied_shows hstart.canon
  have hainOnly : t.Only t.ainEmptied [.regs] :=
    (State.forUnits_in (Within.refl (Part.mask [.regs]) t) rfl fun _ _ h => State.setFld_in (State.setFlag_in h rfl _ _ _) rfl _ _ _).only
  generalize t.ainEmptied = u at *
  have hsd := sdRestartAll_writes hain.canon t.now
  have hsdOnly : u.Only (u.sdRestartAll t.now) [.regs, .sd] := (State.sdRestartAll_in (Within.refl (Part.mask [.regs, .sd]) u) rfl _).only
  generalize u.sdRestartAll t.now = v at *
  obtain ⟨hregs, hwin, hclk, hevq⟩ := reopenBoxes_leaves (s := v.winReady)
  have hopen := fun m (hm : m < 8) => reopenBoxes_open (s := v.winReady) hm
  generalize v.winReady.reopenBoxes = x at *
  have hx : v.Writes x [] := (State.Writes.refl hsd.canon []).same hregs
  have hgates := svpResume_gates x
  have hres := hgates.writes hx.canon
  have honly := svpResume_only (s := x)
  generalize x.svpResume = y at *
  refine ⟨?_, ?_, ?_, ?_, fun n hn => ?_, fun m hm => ?_⟩
  · unfold State.gait
    rw [hres.but.fld _ _ (by decide), hx.but.fld _ _ (by decide), hsd.but.fld _ _ (by decide), hain.but.fld _ _ (by decide),
      hstart.but.fld _ _ (by decide)]
  · exact (honly .clk (by decide)).trans (hclk.trans ((hsdOnly .clk (by decide)).trans ((hainOnly .clk (by decide)).trans (hstartOnly .clk (by decide)))))
  · rw [show y.win = x.win from honly .win (by decide), hwin]
    rfl
  · exact (honly .evq (by decide)).trans (hevq.trans ((hsdOnly .evq (by decide)).trans ((hainOnly .evq (by decide)).trans (hstartOnly .evq (by decide)))))
  · rw [hres.but.flag_class _ (by omega) (by decide) (by decide), hx.but.flag _ _ (by decide), hsd.but.flag _ _ (by decide)]
    exact hempty n hn
  · have hfcp : v.winReady.fcp = s.fcp :=
      (hsdOnly .fcp (by decide)).trans ((hainOnly .fcp (by decide)).trans (hstartOnly .fcp (by decide)))
    rw [← hfcp, ← hopen m hm]
    exact congrArg Prod.fst (hgates.gate m)

/-- Settles O16: the clocks by CLK_OK and what returns with it, the wake by its stages, the others by the fields they write. -/
theorem clockCommandsComplete : Obligations.ClockCommandsComplete := by
  unfold Obligations.ClockCommandsComplete
  refine ⟨fun s d hw hsrc hoff => ?_, fun s d hd => congrArg Host.Outcome.next (if_neg hd), fun s tap err hw hlock hpair hfrozen => ?_,
    fun s hw => ?_, fun s hw hlimp => ?_, fun s k hen hfree => ?_, fun s k g hw hen hgrid hne hrun => ?_,
    fun s src hw hreal => execWakeSource_latches hw hreal, fun s hw hgait hwake hlock hclk => ?_, fun s hw hgait hwake hlock => ?_,
    fun s present hw => ?_, fun s present => ⟨_, rfl, rfl, (State.modClk_in (Within.refl (Part.mask [.clk]) s) rfl _).only⟩,
    fun s hlimp => congrArg Host.Outcome.next (if_pos hlimp), fun s d hw hd hon => ⟨clkOk_clkBit hw d.isLt false, ?_⟩⟩
  · have hcond : (s.sourceOk d && !s.clkOk d) = true := by rw [hsrc, hoff]; rfl
    exact ⟨s.setClk d, congrArg Host.Outcome.next ((if_pos rfl).trans (if_pos hcond)), setClk_shows hw d.isLt⟩
  · have htap := canonAfterFld hw F.DLL_STAT_TAP 0 tap
    have hexec : exec (.dllTapUpdate tap err) s =
        .next ((s.setFld F.DLL_STAT_TAP 0 tap).setFlag F.CLK_STAT_DLL_LOCK 0 (decide (err.natAbs ≤ 100))) :=
      congrArg Host.Outcome.next (if_pos (by rw [hlock, hpair, hfrozen]; rfl))
    refine ⟨_, hexec, ?_, State.flag_setFlag_same htap _ _ _ (by decide),
      ((State.RegsBut.refl s _).setFld hw _ _ _ (by simp) (by decide)).setFlag htap _ _ _ (by simp) (by decide), exec_only hexec⟩
    rw [State.fld_setFlag_apart htap _ _ _ _ _ (by decide), State.fld_setFld_same hw _ _ _ (by decide)]
    exact Nat.mod_eq_of_lt tap.isLt
  · exact ⟨_, rfl, State.flag_setFlag_same hw _ _ _ (by decide), (State.RegsBut.refl s _).setFlag hw _ _ _ (by simp) (by decide),
      (State.setFlag_in (Within.refl (Part.mask [.regs]) s) rfl _ _ _).only⟩
  · have hpair := canonAfterFlag hw F.CLK_STAT_PAIRCLK_OK 0 false
    have hexec : exec (.pairclkOkChange false) s =
        .next ((s.setFlag F.CLK_STAT_PAIRCLK_OK 0 false).setFlag F.CLK_STAT_DLL_LOCK 0 false) :=
      congrArg Host.Outcome.next ((if_neg nofun).trans (if_neg (by rw [hlimp]; exact nofun)))
    refine ⟨_, hexec, ?_, State.flag_setFlag_same hpair _ _ _ (by decide),
      ((State.RegsBut.refl s _).setFlag hw _ _ _ (by simp) (by decide)).setFlag hpair _ _ _ (by simp) (by decide),
      (State.setFlag_in (State.setFlag_in (Within.refl (Part.mask [.regs]) s) rfl _ _ _) rfl _ _ _).only⟩
    rw [State.flag_setFlag_apart hpair _ _ _ _ _ (by decide), State.flag_setFlag_same hw _ _ _ (by decide)]
  · have hexec : exec (.syncInEdge k) s = .next (s.modClk fun c => { c with grid := some k.val, gridSync := true }) := by
      refine congrArg Host.Outcome.next ((if_neg (by rw [hen]; exact nofun)).trans (if_pos ?_))
      rcases hfree with h | ⟨h1, h2⟩
      · rw [h]; rfl
      · simp [h1, h2]
    exact ⟨_, hexec, rfl, rfl, (State.modClk_in (Within.refl (Part.mask [.clk]) s) rfl _).only⟩
  · have hexec : exec (.syncInEdge k) s = .next ((s.setFlag F.CLK_STAT_SYNC_ERR 0 true).post EV.EV_SYNC_ERR noUnit 0) := by
      refine congrArg Host.Outcome.next ((if_neg (by rw [hen]; exact nofun)).trans ((if_neg ?_).trans (if_neg ?_)))
      · rcases hrun with h | h <;> simp [hgrid, h]
      · rw [hgrid]
        exact fun h => hne (Option.some.inj h)
    have herr := canonAfterFlag hw F.CLK_STAT_SYNC_ERR 0 true
    refine ⟨_, hexec, ?_, State.told_of_evq (by rw [State.setFlag_evq]) _ _ _,
      ((State.RegsBut.refl s _).setFlag hw _ _ _ (by simp) (by decide)).post herr _ _ _ fun x hx => List.mem_cons_of_mem _ hx⟩
    rw [State.flag_post herr _ _ _ _ _ (by decide), State.flag_setFlag_same hw _ _ _ (by decide)]
  · obtain ⟨hc, hwalk, hoff, htold, hfcp⟩ := wakeEvents_shows hw
    obtain ⟨hg, hclk', hready, hevq, hempty, hopen⟩ := wakeOpened_shows hc
    refine ⟨_, execWakeComplete_wakes hgait hwake hlock hclk, hg.trans hwalk, (congrArg ClkSt.wake hclk').trans hoff, hready, ?_, hempty, fun m hm => ?_⟩
    · unfold State.Told
      rw [hevq]
      exact htold
    · rw [hopen m hm, hfcp]
  · exact ⟨_, congrArg Host.Outcome.next (if_pos (by rw [hgait, hwake, hlock]; rfl)), State.flag_setFlag_same hw _ _ _ (by decide),
      (State.RegsBut.refl s _).setFlag hw _ _ _ (by simp) (by decide), (State.setFlag_in (Within.refl (Part.mask [.regs]) s) rfl _ _ _).only⟩
  · have hmod : (s.modClk fun c => { c with bankA := present }).Canon := canonAfterModClk hw _
    refine ⟨_, rfl, rfl, (State.fld_setFld_same hmod _ _ _ (by decide)).trans ?_,
      ((State.RegsBut.refl s _).modClk _).setFld hmod _ _ _ (by simp) (by decide),
      (State.setFld_in (State.modClk_in (Within.refl (Part.mask [.regs, .clk]) s) rfl _) rfl _ _ _).only⟩
    cases present
    · simp
    · simp
  · obtain ⟨d, hd8⟩ := d
    unfold State.clearClk
    rw [if_neg (by rw [hon]; exact nofun)]
    interval_cases d <;> rfl

end Sys2Proof.Machine
end

section
/-!
PROOFS. The RG0 boundary, the results snapshot and the reload of a Gate Link port (R195, R464, R512, R250).
-/
namespace Sys2Proof.Machine

variable {s : State}

/-! ### The instant of a boundary -/

/-- The next point of the grid lies ahead, less than 1 us away, and on the grid. -/
theorem gridPoint_next {p : Nat} (h : s.clk.grid = some p) :
    s.now ≤ s.gridPoint ∧ s.gridPoint < s.now + 8000 ∧ s.gridPoint % 8000 = 320 * p % 8000 := by
  unfold State.gridPoint
  rw [h]
  simp only
  omega

/-- A boundary that nothing steers or shifts comes one period after the last. -/
theorem nextTk_plain (hfirst : s.pwm.first = false) (hpair : s.flag F.PAIR_CFG_PAIR_EN 0 = false) (hspur : s.spurOn = false) :
    s.nextTk = s.pwm.tk + 32 * s.period := by
  have hsteer : s.steer = 0 := by
    unfold State.steer
    rw [hpair]
    rfl
  have hshift : s.reloadShift = 0 := by
    unfold State.reloadShift
    rw [hspur]
    rfl
  unfold State.nextTk State.reloadSpan
  rw [hfirst, hsteer, hshift]
  simp only [Bool.false_eq_true, if_false, State.fineP]
  omega

/-- The boundary in its order: the period that ends, the one that starts, and what acts at it. -/
theorem execRg0Boundary_runs (h : s.rg0Runs = true) : exec .rg0Boundary s = .next ((((((if s.pwm.first then s.elapse (s.nextTk - s.now)
    else (s.elapse (s.nextTk - s.now)).endPeriod s.nextTk).startPeriod s.nextTk).capStopNow.capStartNow.limpEntry.manualLegs.reload.releases).spurBoundary
      (!s.pwm.first && s.spurOn)).actBoundary s.nextTk (if s.pwm.first then 0 else s.steer))) :=
  congrArg Host.Outcome.next (if_neg (by rw [h]; exact nofun))

/-! ### The period that starts -/

/-- The new period's number, its boundary and its instant. -/
def State.numbered (s : State) (t : Nat) : State := s.modPwm fun w => { w with
  pnum := if w.ran then w.pnum + 1 else 0, ran := true, bnd := w.bnd + 1, tk := t, first := false }

/-- Behind its number, the start of a period touches neither the generator nor what the queue holds. -/
theorem startPeriod_leaves (t : Nat) : (s.startPeriod t).pwm = (s.numbered t).pwm ∧ (s.startPeriod t).evq.queue = s.evq.queue := by
  have hcle : (s.numbered t).Only ((s.numbered t).modCle fun c => { c with
      missRun := if c.missed = 0 then 0 else c.missRun + 1, missed := 0, phases := [false, false] }) [.cle] :=
    (State.modCle_in (Within.refl (Part.mask [.cle]) _) rfl _).only
  unfold State.startPeriod
  simp only
  change State.Only _ (State.modCle (s.modPwm _) _) _ at hcle
  generalize State.modCle (s.modPwm _) _ = u at *
  have hports : u.Only (u.forUnits 12 fun u p => let gl := u.glPort p; u.modPort p fun q => { q with counted := gl && q.counted, countedNext := false })
      [.ports] := (State.forUnits_in (Within.refl (Part.mask [.ports]) u) rfl fun _ _ h => State.modPort_in h rfl _ _).only
  simp only at hports
  generalize u.forUnits 12 _ = v at *
  have hwatch : State.Only { v with ptp := { v.ptp with latch := (vget v.tb 0).latched } }
      (State.watchBoundary { v with ptp := { v.ptp with latch := (vget v.tb 0).latched } }) [.stw] :=
    (State.watchBoundary_in (Within.refl (Part.mask [.stw]) _) rfl).only
  generalize State.watchBoundary _ = x at *
  have hpwm : x.pwm = (s.numbered t).pwm := (hwatch .pwm (by decide)).trans ((hports .pwm (by decide)).trans (hcle .pwm (by decide)))
  have hevq : x.evq = s.evq := (hwatch .evq (by decide)).trans ((hports .evq (by decide)).trans (hcle .evq (by decide)))
  cases s.pwm.first
  · exact ⟨hpwm, congrArg EvqSt.queue hevq⟩
  · exact ⟨hpwm, (rfl : _ = x.evq.queue).trans (congrArg EvqSt.queue hevq)⟩

/-- Settles O17: the boundary by its order, its instant by the grid and the period, the start of a period by what it numbers. -/
theorem boundaryCommandsComplete : Obligations.BoundaryCommandsComplete := by
  unfold Obligations.BoundaryCommandsComplete
  refine ⟨fun s hrun hfirst => ?_, fun s hrun hfirst => ?_, fun s p h => gridPoint_next h, fun s h => ?_,
    fun s hfirst hpair hspur => nextTk_plain hfirst hpair hspur, fun s t => ?_, fun s m h => ?_, fun s p t legs hgl hrun hran ht hlegs hne => ?_⟩
  · rw [execRg0Boundary_runs hrun, hfirst]
    rfl
  · have hnext : s.nextTk = s.gridPoint := if_pos hfirst
    rw [execRg0Boundary_runs hrun, hfirst, hnext]
    rfl
  · unfold State.gridPoint
    rw [h]
  · obtain ⟨hpwm, hqueue⟩ := startPeriod_leaves (s := s) t
    rw [hpwm]
    exact ⟨rfl, rfl, rfl, rfl, hqueue⟩
  · have hexec : exec .snapshotComplete s = .next { s with win := { s.win with snap := m, snapNew := none, ports := s.win.portsNew } } := by
      show execSnapshotComplete s = _
      unfold execSnapshotComplete
      rw [h]
    exact ⟨_, hexec, rfl, rfl, rfl, exec_only hexec⟩
  · subst ht hlegs
    refine congrArg Host.Outcome.next (if_pos ?_)
    obtain ⟨n, hn, hat⟩ := hne
    rw [hgl, hrun, hran, Bool.true_and, Bool.true_and, Bool.true_and, List.any_eq_true]
    exact ⟨n, hn, by simpa using hat⟩

end Sys2Proof.Machine
end

section
/-!
PROOFS. The supervisor's watchdog and its restart (R393, R480).
-/
namespace Sys2Proof.Machine

variable {s t : State}

/-! ### An unplanned restart -/

/-- The fields that what is dropped at a restart writes. -/
def dropFlds : List (Fld × Nat) := [(F.GAIT_STATUS_PEND_VALID, 0), (F.GAIT_STATUS_GAIT_PEND, 0), (F.COEF_STATUS_SWAP_PEND, 0)]

/-- What commands wait for is dropped, and the commands stay. -/
theorem dropPending_leaves (hw : s.Canon) : s.Writes s.dropPending dropFlds ∧ s.dropPending.fcp = { s.fcp with cfgPend := [] } ∧
    s.dropPending.boot = s.boot := by
  have hports : s.Only (s.forUnits 12 fun t p => t.modPort p fun q => { q with waits := [] }) [.ports] :=
    (State.forUnits_in (Within.refl (Part.mask [.ports]) s) rfl fun _ _ h => State.modPort_in h rfl _ _).only
  unfold State.dropPending State.unlock
  generalize s.forUnits 12 _ = t at *
  have ht : s.Writes t dropFlds := (State.Writes.refl hw _).same (hports .regs (by decide))
  have hset : s.Writes ((t.setFlag F.GAIT_STATUS_PEND_VALID 0 false).setFld F.GAIT_STATUS_GAIT_PEND 0 0) dropFlds :=
    (ht.setFlag _ _ _ (by decide) (by decide)).setFld _ _ _ (by decide) (by decide)
  have hfcp : ((t.setFlag F.GAIT_STATUS_PEND_VALID 0 false).setFld F.GAIT_STATUS_GAIT_PEND 0 0).fcp = s.fcp := hports .fcp (by decide)
  have hboot : ((t.setFlag F.GAIT_STATUS_PEND_VALID 0 false).setFld F.GAIT_STATUS_GAIT_PEND 0 0).boot = s.boot := hports .boot (by decide)
  simp only
  generalize (t.setFlag F.GAIT_STATUS_PEND_VALID 0 false).setFld F.GAIT_STATUS_GAIT_PEND 0 0 = u at *
  have hunlock := (hset.modCoef fun c => { c with swapAt := none }).setFlag F.COEF_STATUS_SWAP_PEND 0 false (by decide) (by decide)
  exact ⟨hunlock.same rfl, by rw [hfcp], hboot⟩

/-- The sources a restart shows: its own, joined to those of the one in progress. -/
def State.restartSrcs (s : State) (src : Nat) : Nat := (if s.restarting then s.fld F.RST_CAUSE_SRC 0 else 0) ||| 2 ^ src

theorem restartSrcs_lt {src : Nat} (h : src < 11) : s.restartSrcs src < 2 ^ 11 := by
  unfold State.restartSrcs
  refine Nat.or_lt_two_pow ?_ (Nat.pow_lt_pow_right (by decide) h)
  split
  · exact fieldOf_lt _ _ _
  · decide

/-- The mailboxes closed for a restart. -/
def State.closeBoxes (s : State) : State := s.forUnits 8 fun t m => t.box m fun b => { b with isOpen := false, restarting := true }

theorem closeBoxes_leaves : s.closeBoxes.regs = s.regs ∧ s.closeBoxes.boot = s.boot ∧ s.closeBoxes.fcp.inflight = s.fcp.inflight :=
  forUnits_keeps (P := fun t => t.regs = s.regs ∧ t.boot = s.boot ∧ t.fcp.inflight = s.fcp.inflight) ⟨rfl, rfl, rfl⟩ fun _ _ _ h => h

/-- RST_CAUSE of a restart, its mailboxes closed and what waits dropped. -/
def State.restartShown (s : State) (src : Nat) : State :=
  ((s.setFld F.RST_CAUSE_REACH 0 2).setFld F.RST_CAUSE_SRC 0 (s.restartSrcs src)).closeBoxes.dropPending

theorem restartShown_shows (hw : s.Canon) {src : Nat} (hsrc : src < 11) : (s.restartShown src).Canon ∧
    (s.restartShown src).fld F.RST_CAUSE_REACH 0 = 2 ∧ (s.restartShown src).fld F.RST_CAUSE_SRC 0 = s.restartSrcs src ∧
    (s.restartShown src).boot = s.boot ∧ (s.restartShown src).fcp.inflight = s.fcp.inflight ∧
    ∀ m < 8, (vget (s.restartShown src).fcp.boxes m).isOpen = false ∧ (vget (s.restartShown src).fcp.boxes m).restarting = true := by
  have hreach := canonAfterFld hw F.RST_CAUSE_REACH 0 2
  have hcause := canonAfterFld hreach F.RST_CAUSE_SRC 0 (s.restartSrcs src)
  have hshow : ((s.setFld F.RST_CAUSE_REACH 0 2).setFld F.RST_CAUSE_SRC 0 (s.restartSrcs src)).fld F.RST_CAUSE_REACH 0 = 2 :=
    (State.fld_setFld_apart hreach _ _ _ _ _ (by decide)).trans (State.fld_setFld_same hw _ _ _ (by decide))
  have hsrcs : ((s.setFld F.RST_CAUSE_REACH 0 2).setFld F.RST_CAUSE_SRC 0 (s.restartSrcs src)).fld F.RST_CAUSE_SRC 0 = s.restartSrcs src :=
    (State.fld_setFld_same hreach _ _ _ (by decide)).trans (Nat.mod_eq_of_lt (restartSrcs_lt hsrc))
  have hboot : ((s.setFld F.RST_CAUSE_REACH 0 2).setFld F.RST_CAUSE_SRC 0 (s.restartSrcs src)).boot = s.boot := rfl
  have hinfl : ((s.setFld F.RST_CAUSE_REACH 0 2).setFld F.RST_CAUSE_SRC 0 (s.restartSrcs src)).fcp.inflight = s.fcp.inflight := rfl
  unfold State.restartShown
  generalize (s.setFld F.RST_CAUSE_REACH 0 2).setFld F.RST_CAUSE_SRC 0 (s.restartSrcs src) = t at *
  obtain ⟨hregs, hb, hi⟩ := closeBoxes_leaves (s := t)
  have hclose : t.Writes t.closeBoxes [] := (State.Writes.refl hcause []).same hregs
  have hboxes : ∀ m < 8, vget t.closeBoxes.fcp.boxes m = { vget t.fcp.boxes m with isOpen := false, restarting := true } := fun m hm =>
    vget_forBoxes _ hm
  generalize t.closeBoxes = u at *
  obtain ⟨hdrop, hfcp, hdboot⟩ := dropPending_leaves hclose.canon
  refine ⟨hdrop.canon, ?_, ?_, hdboot.trans (hb.trans hboot), ?_, fun m hm => ?_⟩
  · rw [hdrop.but.fld _ _ (by decide), hclose.but.fld _ _ (by decide), hshow]
  · rw [hdrop.but.fld _ _ (by decide), hclose.but.fld _ _ (by decide), hsrcs]
  · rw [hfcp]
    exact hi.trans hinfl
  · rw [hfcp]
    show (vget u.fcp.boxes m).isOpen = false ∧ (vget u.fcp.boxes m).restarting = true
    rw [hboxes m hm]
    exact ⟨rfl, rfl⟩

/-- What an unplanned restart remembers, and when it began. -/
def State.restartKept (t : State) (slot was lost cause began : Nat) : State := { t with
  fcp := { t.fcp with restartSlot := some slot, planned := false, deferred := [], devWas := was }
  recd := { t.recd with lost := lost, cause := cause }
  ptp := { t.ptp with links := t.ptp.links.map fun (x : PtpLink) => { x with sync := none, due := false, req := none, delay := none, sent := [] } }
  boot := { t.boot with attNonce := none, restarts := t.boot.restarts ++ [began] } }

theorem restartKept_shows (slot was lost cause began : Nat) : (t.restartKept slot was lost cause began).regs = t.regs ∧
    (t.restartKept slot was lost cause began).boot.restarts = t.boot.restarts ++ [began] ∧
    (t.restartKept slot was lost cause began).fcp = { t.fcp with restartSlot := some slot, planned := false, deferred := [], devWas := was } :=
  ⟨rfl, rfl, rfl⟩

theorem svpRestart_unplanned (h : s.boot.reach = none) (hrun : s.fld F.IDENT_STATE_DEV_STATE 0 ≠ 0 ∨ s.restarting = true) (src slot : Nat) :
    s.svpRestart false src slot = ((s.restartShown src).restartKept slot (if s.restarting then s.fcp.devWas else s.fld F.IDENT_STATE_DEV_STATE 0)
      s.evq.queue.length (2 + 256 * s.restartSrcs src) s.now).setFld F.IDENT_STATE_DEV_STATE 0 0 := by
  unfold State.svpRestart
  rw [h]
  have hnot : ¬(s.fld F.IDENT_STATE_DEV_STATE 0 = 0 ∧ (!s.restarting) = true) := by
    rintro ⟨hdev, hres⟩
    rcases hrun with h | h
    · exact h hdev
    · rw [h] at hres
      exact absurd hres nofun
  simp only [Option.isSome_none, Bool.false_eq_true, if_false, if_neg hnot]
  unfold State.restartKept State.restartShown State.closeBoxes State.restartSrcs
  rfl

theorem svpRestart_shows (hw : s.Canon) (h : s.boot.reach = none) (hrun : s.fld F.IDENT_STATE_DEV_STATE 0 ≠ 0 ∨ s.restarting = true)
    {src : Nat} (hsrc : src < 11) (slot : Nat) : (s.svpRestart false src slot).fcp.restartSlot = some slot ∧
    (s.svpRestart false src slot).boot.restarts = s.boot.restarts ++ [s.now] ∧ (s.svpRestart false src slot).fcp.planned = false ∧
    (s.svpRestart false src slot).fcp.inflight = s.fcp.inflight ∧ (s.svpRestart false src slot).devState = 0 ∧
    (s.svpRestart false src slot).fld F.RST_CAUSE_REACH 0 = 2 ∧ (s.svpRestart false src slot).fld F.RST_CAUSE_SRC 0 = s.restartSrcs src ∧
    (s.restarting = true → (s.svpRestart false src slot).fcp.devWas = s.fcp.devWas) ∧
    ∀ m < 8, (vget (s.svpRestart false src slot).fcp.boxes m).isOpen = false ∧ (vget (s.svpRestart false src slot).fcp.boxes m).restarting = true := by
  obtain ⟨hc, hreach, hcause, hboot, hinfl, hboxes⟩ := restartShown_shows hw hsrc
  rw [svpRestart_unplanned h hrun]
  generalize s.restartShown src = t at *
  obtain ⟨hregs, hrest, hfcp⟩ := restartKept_shows (t := t) slot (if s.restarting then s.fcp.devWas else s.fld F.IDENT_STATE_DEV_STATE 0)
    s.evq.queue.length (2 + 256 * s.restartSrcs src) s.now
  generalize t.restartKept slot _ s.evq.queue.length _ s.now = u at *
  have hkept : t.Writes u [] := (State.Writes.refl hc []).same hregs
  rw [State.setFld_fcp, State.setFld_boot, State.fld_setFld_apart hkept.canon _ _ _ _ _ (by decide),
    State.fld_setFld_apart hkept.canon _ _ _ _ _ (by decide), hkept.but.fld _ _ (by decide), hkept.but.fld _ _ (by decide), hfcp]
  exact ⟨rfl, hrest.trans (by rw [hboot]), rfl, hinfl, State.fld_setFld_same hkept.canon _ _ _ (by decide), hreach, hcause, fun hr => if_pos hr, hboxes⟩

/-- SUPERVISOR_WATCHDOG_EXPIRY: an unplanned restart, or the third of them. -/
theorem execSupervisorWatchdogExpiry_acts (h : s.svpWatched = true) : exec .supervisorWatchdogExpiry s =
    .next (if 2 ≤ s.recentRestarts then s.assertReset 1 4 else s.svpRestart false 3 s.boot.runSlot) :=
  congrArg Host.Outcome.next (if_neg (by rw [h]; exact nofun))

/-- The supervisor is watched while Fencen runs or restarts. -/
theorem svpWatched_runs (h : s.svpWatched = true) : s.fld F.IDENT_STATE_DEV_STATE 0 ≠ 0 ∨ s.restarting = true := by
  unfold State.svpWatched at h
  simp only [Bool.and_eq_true, Bool.or_eq_true, bne_iff_ne] at h
  exact h.1.1

/-! ### The mailboxes reopen -/

/-- Commands that complete in turn leave the ring. -/
theorem foldl_complete_inflight (status : Nat) (l : List Entry) : ∀ t : State, ∀ x ∈ (l.foldl (fun t e => t.completeEntry e status 0 [] []) t).fcp.inflight,
    x ∈ t.fcp.inflight ∧ ∀ e ∈ l, x.tag ≠ e.tag := by
  induction l with
  | nil => exact fun t x hx => ⟨hx, nofun⟩
  | cons e l ih =>
    intro t x hx
    obtain ⟨hmem, hne⟩ := ih _ x hx
    have hfilter : (t.completeEntry e status 0 [] []).fcp.inflight = t.fcp.inflight.filter fun x => x.tag != e.tag := place_inflight _ _ _
    rw [hfilter] at hmem
    obtain ⟨hin, htag⟩ := List.mem_filter.mp hmem
    refine ⟨hin, fun y hy => ?_⟩
    rcases List.mem_cons.mp hy with rfl | h
    · simpa using htag
    · exact hne y h

/-- With every command completed none is in flight. -/
theorem flush_inflight (status : Nat) : (s.flush status).fcp.inflight = [] := by
  refine List.eq_nil_iff_forall_not_mem.mpr fun x hx => ?_
  obtain ⟨hmem, hne⟩ := foldl_complete_inflight status s.fcp.inflight s x hx
  exact hne x hmem rfl

theorem GatesKept.foldl {α : Type} {f : State → α → State} {l : List α} (hf : ∀ u, ∀ x ∈ l, GatesKept s u → GatesKept s (f u x)) :
    ∀ {t : State}, GatesKept s t → GatesKept s (l.foldl f t) := by
  induction l with
  | nil => exact fun h => h
  | cons x l ih =>
    intro t h
    exact ih (fun u y hy => hf u y (List.mem_cons_of_mem _ hy)) (hf t x List.mem_cons_self h)

theorem GatesKept.flush (h : GatesKept s t) (status : Nat) : GatesKept s (t.flush status) :=
  GatesKept.foldl (fun _ _ _ hu => hu.completeEntry _ _ _ _ _) h

theorem GatesKept.resendAll (h : GatesKept s t) (was : State) : GatesKept s (was.resendAll t) :=
  GatesKept.foldl (fun _ m hm hu => GatesKept.foldl (fun _ p _ hv => hv.resend (by simp at hm; omega) p) hu) h

theorem GatesKept.noticeAll (h : GatesKept s t) : GatesKept s t.noticeAll := GatesKept.foldl (fun _ m _ hu => hu.notice m) h

/-- Messages sent leave the commands in flight. -/
theorem foldl_send_inflight {α : Type} {f : State → α → State} (hf : ∀ u x, (f u x).fcp.inflight = u.fcp.inflight) (l : List α) :
    ∀ t : State, (l.foldl f t).fcp.inflight = t.fcp.inflight := by
  induction l with
  | nil => exact fun _ => rfl
  | cons x l ih => exact fun t => (ih _).trans (hf t x)

theorem resendAll_inflight (was : State) : (was.resendAll t).fcp.inflight = t.fcp.inflight :=
  foldl_send_inflight (fun u m => foldl_send_inflight (f := fun v p => v.resend m p) (fun v _ => State.emit_inflight (s := v) m _) _ u) _ t

theorem noticeAll_inflight : t.noticeAll.fcp.inflight = t.fcp.inflight := foldl_send_inflight (fun u m => State.emit_inflight (s := u) m _) _ t

/-- The epoch advanced and the new slot shown. -/
def State.reopenShown (s : State) (k : Nat) : State :=
  ((((s.setFld F.FCP_EPOCH_ALL 0 ((s.fld F.FCP_EPOCH_ALL 0 + 1) % 65536)).modBoot fun b => { b with runSlot := k }).setFld
    F.IDENT_STATE_DEV_STATE 0 s.fcp.devWas).showIdent)

theorem reopenShown_shows (hw : s.Canon) (k : Nat) : (s.reopenShown k).Canon ∧ (s.reopenShown k).boot.runSlot = k ∧
    (s.reopenShown k).fld F.FCP_EPOCH_ALL 0 = (s.fld F.FCP_EPOCH_ALL 0 + 1) % 65536 ∧ (s.reopenShown k).evq = s.evq := by
  have hep := canonAfterFld hw F.FCP_EPOCH_ALL 0 ((s.fld F.FCP_EPOCH_ALL 0 + 1) % 65536)
  have hmod := canonAfterModBoot hep fun b => { b with runSlot := k }
  have hdev := canonAfterFld hmod F.IDENT_STATE_DEV_STATE 0 s.fcp.devWas
  have hshow : (((s.setFld F.FCP_EPOCH_ALL 0 ((s.fld F.FCP_EPOCH_ALL 0 + 1) % 65536)).modBoot fun b => { b with runSlot := k }).setFld
      F.IDENT_STATE_DEV_STATE 0 s.fcp.devWas).fld F.FCP_EPOCH_ALL 0 = (s.fld F.FCP_EPOCH_ALL 0 + 1) % 65536 := by
    rw [State.fld_setFld_apart hmod _ _ _ _ _ (by decide), State.modBoot_fld, State.fld_setFld_same hw _ _ _ (by decide)]
    exact Nat.mod_eq_of_lt (Nat.mod_lt _ (by decide))
  unfold State.reopenShown
  have hslot : (((s.setFld F.FCP_EPOCH_ALL 0 ((s.fld F.FCP_EPOCH_ALL 0 + 1) % 65536)).modBoot fun b => { b with runSlot := k }).setFld
      F.IDENT_STATE_DEV_STATE 0 s.fcp.devWas).boot.runSlot = k := rfl
  have hevq : (((s.setFld F.FCP_EPOCH_ALL 0 ((s.fld F.FCP_EPOCH_ALL 0 + 1) % 65536)).modBoot fun b => { b with runSlot := k }).setFld
      F.IDENT_STATE_DEV_STATE 0 s.fcp.devWas).evq = s.evq := by rw [State.setFld_evq, State.modBoot_evq, State.setFld_evq]
  generalize ((s.setFld F.FCP_EPOCH_ALL 0 ((s.fld F.FCP_EPOCH_ALL 0 + 1) % 65536)).modBoot fun b => { b with runSlot := k }).setFld
    F.IDENT_STATE_DEV_STATE 0 s.fcp.devWas = t at *
  have hident := showIdent_writes hdev
  have honly : t.Only t.showIdent [.regs] := (State.showIdent_in (Within.refl (Part.mask [.regs]) t) rfl).only
  exact ⟨hident.canon, (congrArg BootSt.runSlot (honly .boot (by decide))).trans hslot, (hident.but.fld _ _ (by decide)).trans hshow,
    (honly .evq (by decide)).trans hevq⟩

/-- No restart any more. -/
def State.restartOver (s : State) : State :=
  { s with fcp := { s.fcp with restartSlot := none, prep := none, staging := Vector.replicate 8 [], busy := Vector.replicate 4 false } }

/-- Every mailbox open, with RST_SEEN and CSEQ 0. -/
def State.seenBoxes (s : State) : State := s.forUnits 8 fun t m => t.box m fun b =>
  { b with isOpen := true, restarting := false, rstSeen := true, cseq := 0, admits := [] }

theorem seenBoxes_leaves : s.seenBoxes.regs = s.regs ∧ s.seenBoxes.boot = s.boot ∧ s.seenBoxes.evq = s.evq ∧
    s.seenBoxes.fcp.restartSlot = s.fcp.restartSlot :=
  forUnits_keeps (P := fun t => t.regs = s.regs ∧ t.boot = s.boot ∧ t.evq = s.evq ∧ t.fcp.restartSlot = s.fcp.restartSlot)
    ⟨rfl, rfl, rfl, rfl⟩ fun _ _ _ h => h

theorem seenBoxes_gate {m : Nat} (hm : m < 8) : (vget s.seenBoxes.fcp.boxes m).gate = (true, false, true, 0) := by
  unfold State.seenBoxes
  rw [vget_forBoxes _ hm]
  rfl

/-- What is said at the reopening: completions of the commands in flight, those posted before again, and a NOTICE. -/
def State.reopenSaid (s t : State) : State := (s.resendAll (t.flush FS.FS_RESTART_UNK)).noticeAll

theorem reopenSaid_leaves (was : State) : GatesKept s (was.reopenSaid s) ∧ (was.reopenSaid s).fcp.inflight = [] ∧
    s.Only (was.reopenSaid s) [.regs, .fcp, .macs] := by
  refine ⟨(((GatesKept.refl s).flush _).resendAll was).noticeAll, ?_, ?_⟩
  · exact noticeAll_inflight.trans ((resendAll_inflight was).trans (flush_inflight _))
  · exact (State.noticeAll_in (State.resendAll_in (State.flush_in (Within.refl (Part.mask [.regs, .fcp, .macs]) s) rfl _) rfl was) rfl).only

theorem execSupervisorRestartReopen_reopens {k : Nat} (h : s.fcp.restartSlot = some k) (hclk : s.svpClock = true) :
    exec .supervisorRestartReopen s = .next (((s.reopenSaid (s.reopenShown k).restartOver.seenBoxes).post EV.EV_FCP_RESTART noUnit
      ((s.fld F.FCP_EPOCH_ALL 0 + 1) % 65536 + 65536 * b2n (!s.fcp.planned))).cond
        ((s.reopenSaid (s.reopenShown k).restartOver.seenBoxes).post EV.EV_FCP_RESTART noUnit
          ((s.fld F.FCP_EPOCH_ALL 0 + 1) % 65536 + 65536 * b2n (!s.fcp.planned))).recd.on
        fun t => t.ringPut (t.selfRecord EV.EV_REC_RESUME t.resumeData)) := by
  show execSupervisorRestartReopen s = _
  unfold execSupervisorRestartReopen
  rw [h]
  exact congrArg Host.Outcome.next (if_neg (by rw [hclk]; exact nofun))

/-- The restart's record in the ring leaves all else. -/
theorem cond_ringPut_only (b : Bool) (f : State → EvRec) : s.Only (s.cond b fun t => t.ringPut (f t)) [.recd] := by
  cases b
  · exact (Within.refl (Part.mask [.recd]) s).only
  · exact (State.ringPut_in (Within.refl (Part.mask [.recd]) s) rfl _).only

theorem reopen_shows (hw : s.Canon) (k : Nat) : ∃ u, u = s.reopenSaid (s.reopenShown k).restartOver.seenBoxes ∧ u.Canon ∧ u.boot.runSlot = k ∧
    u.fcp.restartSlot = none ∧ u.fcp.inflight = [] ∧ u.fld F.FCP_EPOCH_ALL 0 = (s.fld F.FCP_EPOCH_ALL 0 + 1) % 65536 ∧ u.evq = s.evq ∧
    ∀ m < 8, (vget u.fcp.boxes m).gate = (true, false, true, 0) := by
  obtain ⟨hc, hslot, hep, hevq⟩ := reopenShown_shows hw k
  generalize s.reopenShown k = t at *
  have hover : t.restartOver.Canon := hc
  have hoverRegs : t.restartOver.regs = t.regs := rfl
  have hoverEvq : t.restartOver.evq = t.evq := rfl
  have hoverBoot : t.restartOver.boot = t.boot := rfl
  have hoverSlot : t.restartOver.fcp.restartSlot = none := rfl
  generalize t.restartOver = v at *
  obtain ⟨hregs, hboot, hevq', hnone⟩ := seenBoxes_leaves (s := v)
  have hgate := fun m (hm : m < 8) => seenBoxes_gate (s := v) hm
  have hx : t.Writes v.seenBoxes [] := (State.Writes.refl hc []).same (hregs.trans hoverRegs)
  generalize v.seenBoxes = x at *
  obtain ⟨hgates, hinfl, honly⟩ := reopenSaid_leaves (s := x) s
  have hwr := hgates.writes hx.canon
  refine ⟨_, rfl, hwr.canon, ?_, hgates.slot.trans (hnone.trans hoverSlot), hinfl, ?_, ?_, fun m hm => (hgates.gate m).trans (hgate m hm)⟩
  · rw [show (s.reopenSaid x).boot = x.boot from honly .boot (by decide), hboot, hoverBoot, hslot]
  · rw [hwr.but.fld_class _ (by decide) (by decide) (by decide), hx.but.fld _ _ (by decide), hep]
  · exact (honly .evq (by decide)).trans (hevq'.trans (hoverEvq.trans hevq))

/-- Settles O18: the restart by what it closes and keeps, the reopening by what it shows, says and opens. -/
theorem supervisorCommandsComplete : Obligations.SupervisorCommandsComplete := by
  unfold Obligations.SupervisorCommandsComplete
  refine ⟨fun s hw hwatch hfew hreach => ?_, fun s hwatch hmany hreach => ?_, fun s r hwatch hmany hreach hr => ?_, fun s k hw hslot hclk => ?_⟩
  · obtain ⟨h1, h2, h3, h4, h5, h6, hsrc, hwas, hboxes⟩ := svpRestart_shows hw hreach (svpWatched_runs hwatch) (src := 3) (by decide) s.boot.runSlot
    refine ⟨_, (execSupervisorWatchdogExpiry_acts hwatch).trans (congrArg _ (if_neg (Nat.not_le.mpr hfew))), h1, h2, h3, h4, h5, h6, fun hr => ?_,
      fun hr => ⟨?_, hwas hr⟩, hboxes⟩
    · rw [hsrc]
      unfold State.restartSrcs
      rw [hr]
      exact Nat.zero_or _
    · rw [hsrc]
      unfold State.restartSrcs
      rw [hr]
      rfl
  · obtain ⟨h1, h2, h3, h4, -, -⟩ := assertReset_systemReach hreach 4
    exact ⟨_, (execSupervisorWatchdogExpiry_acts hwatch).trans (congrArg _ (if_pos hmany)), h1, h2, h3, h4⟩
  · obtain ⟨hreach', hmem, -⟩ := assertReset_srcs hreach 1 4
    exact ⟨_, (execSupervisorWatchdogExpiry_acts hwatch).trans (congrArg _ (if_pos hmany)),
      hreach'.trans (congrArg some (if_neg (Nat.not_lt.mpr hr))), hmem⟩
  · obtain ⟨u, hu, hc, hrun, hnone, hinfl, hep, hevq, hgate⟩ := reopen_shows hw k
    have hexec := execSupervisorRestartReopen_reopens hslot hclk
    rw [← hu] at hexec
    have htold : s.Told (u.post EV.EV_FCP_RESTART noUnit ((s.fld F.FCP_EPOCH_ALL 0 + 1) % 65536 + 65536 * b2n (!s.fcp.planned)))
      EV.EV_FCP_RESTART noUnit ((s.fld F.FCP_EPOCH_ALL 0 + 1) % 65536 + 65536 * b2n (!s.fcp.planned)) := State.told_of_evq hevq _ _ _
    have hfld := State.fld_post hc F.FCP_EPOCH_ALL 0 EV.EV_FCP_RESTART noUnit ((s.fld F.FCP_EPOCH_ALL 0 + 1) % 65536 + 65536 * b2n (!s.fcp.planned))
      (by decide)
    have hboot := State.post_boot (s := u) EV.EV_FCP_RESTART noUnit ((s.fld F.FCP_EPOCH_ALL 0 + 1) % 65536 + 65536 * b2n (!s.fcp.planned))
    have hfcp := State.post_fcp (s := u) EV.EV_FCP_RESTART noUnit ((s.fld F.FCP_EPOCH_ALL 0 + 1) % 65536 + 65536 * b2n (!s.fcp.planned))
    generalize u.post EV.EV_FCP_RESTART noUnit ((s.fld F.FCP_EPOCH_ALL 0 + 1) % 65536 + 65536 * b2n (!s.fcp.planned)) = v at *
    have honly := cond_ringPut_only (s := v) v.recd.on fun t => t.selfRecord EV.EV_REC_RESUME t.resumeData
    generalize v.cond v.recd.on _ = x at *
    have hxfcp : x.fcp = u.fcp := (honly .fcp (by decide)).trans hfcp
    refine ⟨x, hexec, ?_, by rw [hxfcp]; exact hnone, by rw [hxfcp]; exact hinfl, ?_, ?_, fun m hm => ?_⟩
    · rw [show x.boot = v.boot from honly .boot (by decide), hboot]
      exact hrun
    · unfold State.fld at *
      rw [show x.regs = v.regs from honly .regs (by decide), hfld, hep]
    · unfold State.Told
      rw [show x.evq = v.evq from honly .evq (by decide)]
      exact htold
    · rw [hxfcp]
      have hg := hgate m hm
      unfold Mailbox.gate at hg
      simp only [Prod.mk.injEq] at hg
      exact hg

end Sys2Proof.Machine
end

section
/-!
PROOFS. UPDATE (R393, R409 to R411): UPD_RESTART of the running slot is refused where what runs is no longer what the slot holds.
-/
namespace Sys2Proof.Machine

/-- UPD_RESTART with SLOT = 0xFF, as the first command of mailbox 0. -/
def restartSelf : Entry := {
  mb := 0, tag := 0, op := 0x0705, fence := false, clean := true, conf := 0, args := 0xFF#8 :: List.replicate 43 0#8, payload := []
  started := false, at0 := 0 }

/-- A Running unit that booted slot 0, a VALID slot whose image lists one component, an HLP program (type 5); no HLP program is in use, as
after reset. -/
def programGone : State :=
  let s := (State.reset.setFld F.CLK_STAT_CLK_OK 0 0xFF).setFld F.IDENT_STATE_DEV_STATE 0 2
  { s with
    boot := { s.boot with
      factory := 0, runSlot := 0, slots := vmod s.boot.slots 0 fun _ => { st := 3, len := 128, bytes := [(14, 1#8), (64, 5#8)] } }
    fcp := { s.fcp with inflight := [restartSelf] } }

theorem programGone_inv : programGone.Inv := by
  obtain ⟨⟨-, -, -, -, -, -, hstore⟩, -⟩ := invariantHoldsAtReset
  refine ⟨by decide +kernel, by decide +kernel, ⟨by decide +kernel, by decide +kernel, by decide +kernel⟩, by decide +kernel, by decide +kernel,
    by decide +kernel, fun k b hb => hstore k b ?_⟩
  rw [← hb]
  rfl

theorem programGone_serves : programGone.Serves 0x0705 0 restartSelf := ⟨programGone_inv, by decide +kernel, by decide +kernel⟩

/-- The command is refused with FS_IMAGE, by R410. -/
theorem programGone_refused : exec (.updRestart 0) programGone = .next (programGone.done 0 FS.FS_IMAGE) := by
  show execUpdRestart 0 programGone = _
  unfold execUpdRestart
  rw [serve_eq programGone_serves]
  have hrun : programGone.sameRest 0 = false := by decide +kernel
  have harg : restartSelf.a 0 = 0xFF := by decide +kernel
  have hslot : programGone.boot.runSlot = 0 := by decide +kernel
  have hst : (programGone.slot 0).st = 3 := by decide +kernel
  simp only [harg, hslot, if_true, hst, hrun, Bool.not_false, ne_eq, not_true_eq_false, if_false, Nat.not_lt_zero]
  rfl

/-- Whether an outcome's state is in a supervisor restart. -/
def outcomeRestarts : Host.Outcome State Fault Refusal → Bool
  | .next t => t.fcp.restartSlot.isSome
  | _ => false

/-- Refutes O19: on `programGone`, UPD_RESTART with SLOT = 0xFF completes with FS_IMAGE, since the image of the running slot holds an HLP
program and none is in use (`State.sameRest`, R410), where the clause on the running slot claims a planned restart. -/
theorem not_updateCommandsComplete : ¬ Obligations.UpdateCommandsComplete := by
  unfold Obligations.UpdateCommandsComplete
  intro h
  obtain ⟨-, -, -, -, -, hself, -⟩ := h
  have hclaim := hself programGone 0 restartSelf programGone_serves (by decide +kernel) (by decide +kernel) (by decide +kernel)
  rw [programGone_refused] at hclaim
  exact absurd (congrArg outcomeRestarts hclaim) (by decide +kernel)

end Sys2Proof.Machine
end

section
/-!
PROOFS. ATTEST (R416, R417).
-/
namespace Sys2Proof.Machine

variable {s : State}

/-- A read at an offset within the file answers with up to 1 024 bytes of it. -/
theorem readFile_reads {op : Nat} {tag : Fin 128} {e : Entry} (h : s.Serves op tag e) {file : List Byte} (hal : e.a32 0 % 1024 = 0)
    (hin : e.a32 0 < file.length) : (s.readFile e file).Answered tag FS.FS_OK [] ((file.drop (e.a32 0)).take 1024) ∧
      s.Only (s.readFile e file) [.fcp, .macs] := by
  have hread : s.readFile e file = s.complete e.tag FS.FS_OK 0 [] ((file.drop (e.a32 0)).take 1024) :=
    if_neg (by simp [hal, hin])
  rw [hread]
  exact ⟨h.completed _ _ _ (by decide), State.complete_only _ _ _ _ _⟩

/-- A report over the nonce n, with its signatures. -/
def State.reportSigned (s : State) (n : List Byte) : List Byte :=
  s.reportBody n ++ slice (Config.rsaSign (s.reportBody n)) 0 384 ++ slice (Config.slhSign (s.reportBody n)) 0 16224

/-- The report kept, with no nonce any more. -/
def State.reportKept (s : State) (n : List Byte) : State :=
  s.modBoot fun x => { x with attNonce := none, attReport := some (s.reportSigned n) }

theorem execAttReportBuilt_answers {n : List Byte} {e : Entry} (hn : s.boot.attNonce = some n) (hruns : s.fencenRuns = true)
    (hw : s.waitingOp 0x0C01 = some e) : exec .attReportBuilt s = .next ((s.reportKept n).complete e.tag FS.FS_OK 0 (leBytes 4 16976) []) := by
  have hwait : (s.reportKept n).waitingOp 0x0C01 = some e := hw
  show execAttReportBuilt s = _
  unfold execAttReportBuilt State.reportKept State.reportSigned at *
  simp only [hn, hruns, hwait]
  rfl

/-- Settles O20: the reads by their offset, a report by what it keeps and answers. -/
theorem attestCommandsComplete : Obligations.AttestCommandsComplete := by
  unfold Obligations.AttestCommandsComplete
  refine ⟨fun s tag e h hnone => ?_, fun s tag e n hi hn hruns hw htag => ?_, fun s tag e f h hf hal hin => ?_,
    fun s tag e h hal hin => ⟨_, serve_eq h _, readFile_reads h hal hin⟩⟩
  · refine ⟨_, (serve_eq h _).trans (congrArg _ (if_neg (by rw [hnone]; exact nofun))), rfl, rfl, h.waits rfl rfl rfl, fun p hp => ?_⟩
    cases p <;> first | rfl | exact absurd hp (by decide)
  · have hsvp : s.svpRuns = true := by
      unfold State.fencenRuns at hruns
      exact (Bool.and_eq_true_iff.mp hruns).2
    have hkept : s.Only (s.reportKept n) [.boot] := (State.modBoot_in (Within.refl (Part.mask [.boot]) s) rfl _).only
    have hfcp : (s.reportKept n).fcp = s.fcp := rfl
    have hran : (s.reportKept n).svpRuns = true := (State.svpRuns_of_regs (t := s.reportKept n) rfl rfl).trans hsvp
    have hnonce : (s.reportKept n).boot.attNonce = none := rfl
    have hreport : (s.reportKept n).boot.attReport = some (s.reportSigned n) := rfl
    have hexec := execAttReportBuilt_answers hn hruns hw
    generalize s.reportKept n = t at *
    refine ⟨_, hexec, ?_, ?_, ?_, exec_only hexec⟩
    · rw [State.complete_boot, hnonce]
    · rw [State.complete_boot, hreport]
      rfl
    · rw [htag]
      exact State.complete_held hi (waitingOp_found hw).2 htag hfcp hran _ _ _ _ (by decide)
  · have hget : s.boot.attReport.getD [] = f := by rw [hf]; rfl
    refine ⟨_, (serve_eq h _).trans (congrArg (fun g => Host.Outcome.next (s.readFile e g)) hget), readFile_reads h hal hin⟩

end Sys2Proof.Machine
end

section
/-!
PROOFS. CONFIG (R400, R401).
-/
namespace Sys2Proof.Machine

variable {s t : State}

/-! ### What a completion leaves of Fencen's own state -/

/-- Fencen's state but for mailboxes, commands in flight and completions. -/
def FcpSt.rest (f : FcpSt) : FcpSt := { f with boxes := Vector.replicate 8 {}, inflight := [], ram := [], deferred := [] }

theorem emit_rest (m : Nat) (msg : List Byte) : (s.emit m msg).fcp.rest = s.fcp.rest := by
  unfold State.emit State.ordinary State.box
  split <;> rfl

theorem place_rest (e : Entry) (h pay : List Byte) : (s.place e h pay).fcp.rest = s.fcp.rest := by
  unfold State.place
  simp only
  split
  · rfl
  · rw [emit_rest]
    rfl

theorem settle_rest (n : Nat) : ∀ s : State, (State.settle n s).fcp.rest = s.fcp.rest := by
  induction n with
  | zero => exact fun _ => rfl
  | succ n ih =>
    intro s
    unfold State.settle
    split
    · rfl
    · exact (ih _).trans (place_rest _ _ _)

theorem complete_rest (tag status pnum : Nat) (res pay : List Byte) : (s.complete tag status pnum res pay).fcp.rest = s.fcp.rest := by
  unfold State.complete
  split
  · rfl
  · split
    · rfl
    · split
      · rfl
      · exact (settle_rest _ _).trans (place_rest _ _ _)

theorem complete_staging (tag status pnum : Nat) (res pay : List Byte) :
    (s.complete tag status pnum res pay).fcp.staging = s.fcp.staging := by
  show (s.complete tag status pnum res pay).fcp.rest.staging = s.fcp.rest.staging
  rw [complete_rest]

/-! ### The commands -/

theorem State.Serves.mb_lt {op : Nat} {tag : Fin 128} {e : Entry} (h : s.Serves op tag e) : e.mb < 8 := by
  have hmem := List.mem_of_find?_eq_some (ready_found h.2.1).2.1
  have hmb := h.1.rings.2.1 e hmem
  have htag := h.tag_eq
  omega

/-- A command that answers behind a change of its staging area alone. -/
theorem staged_answers {op : Nat} {tag : Fin 128} {e : Entry} (h : s.Serves op tag e) (l : List Byte) :
    vget ((s.setStaging e.mb l).done tag FS.FS_OK).fcp.staging e.mb = l ∧ ((s.setStaging e.mb l).done tag FS.FS_OK).Answered tag FS.FS_OK [] [] ∧
      s.Only ((s.setStaging e.mb l).done tag FS.FS_OK) [.fcp, .macs] := by
  have hok : Ok s.pending (s.setStaging e.mb l) := State.setStaging_ok ⟨h.inv, rfl⟩ _ _
  have hstaged : vget (s.setStaging e.mb l).fcp.staging e.mb = l := vget_same _ _ _ h.mb_lt
  have hruns : (s.setStaging e.mb l).svpRuns = true := h.runs
  have hmem : e ∈ (s.setStaging e.mb l).fcp.inflight := List.mem_of_find?_eq_some (ready_found h.2.1).2.1
  have honly : s.Only (s.setStaging e.mb l) [.fcp] := (State.setStaging_in (Within.refl (Part.mask [.fcp]) s) rfl _ _).only
  generalize s.setStaging e.mb l = t at *
  refine ⟨?_, State.complete_held hok.inv hmem h.tag_eq rfl hruns _ _ _ _ (by decide), fun p hp => ?_⟩
  · unfold State.done
    rw [complete_staging]
    exact hstaged
  · have hdone := State.complete_only (s := t) tag FS.FS_OK 0 [] [] p hp
    have hset := honly p fun h => hp (by simp only [List.mem_cons, List.not_mem_nil, or_false] at *; exact .inl h)
    exact Part.same_trans hset hdone

/-- CFG_COMMIT with a verdict. -/
theorem execCfgCommit_verdict {tag : Fin 128} {e : Entry} (h : s.Serves 0x0102 tag e) (ha : e.a 0 ≤ 1) {st i : Nat}
    (hv : s.cfgVerdict (s.cfgApply (recsOf (vget s.fcp.staging e.mb))).1 (withCtx (recsOf (vget s.fcp.staging e.mb))
      (s.cfgApply (recsOf (vget s.fcp.staging e.mb))).2) = some (st, i)) :
    exec (.cfgCommit tag) s = .next (s.complete tag st 0 (leBytes 2 i) []) := by
  refine (serve_eq h _).trans (congrArg _ ((if_neg (Nat.not_lt.mpr ha)).trans ?_))
  rw [hv]

/-- CFG_COMMIT that passes. -/
theorem execCfgCommit_passes {tag : Fin 128} {e : Entry} (h : s.Serves 0x0102 tag e) (ha : e.a 0 ≤ 1)
    (hv : s.cfgVerdict (s.cfgApply (recsOf (vget s.fcp.staging e.mb))).1 (withCtx (recsOf (vget s.fcp.staging e.mb))
      (s.cfgApply (recsOf (vget s.fcp.staging e.mb))).2) = none) :
    exec (.cfgCommit tag) s = .next (if e.a 0 = 1 then s.done tag FS.FS_OK else { (s.setStaging e.mb []).start tag with
      fcp := { ((s.setStaging e.mb []).start tag).fcp with cfgPend := (recsOf (vget s.fcp.staging e.mb)).flatten, cfgSeed := s.fresh } }) := by
  refine (serve_eq h _).trans (congrArg _ ((if_neg (Nat.not_lt.mpr ha)).trans ?_))
  rw [hv]

/-- Settles O21: staging by what it leaves in the mailbox's area, a commit by its verdict. -/
theorem configCommandsComplete : Obligations.ConfigCommandsComplete := by
  unfold Obligations.ConfigCommandsComplete
  refine ⟨fun s tag e new rs h hsplit hstage => ?_, fun s tag e h => ⟨_, serve_eq h _, staged_answers h []⟩, fun s tag e h ha hv => ?_,
    fun s tag e h ha hv => ?_, fun s tag e st i h ha hst hv => ?_, fun s e hw hat => ?_⟩
  · refine ⟨_, (serve_eq h _).trans (congrArg Host.Outcome.next ?_), staged_answers h rs.flatten⟩
    rw [hsplit]
    simp only
    rw [hstage]
  · have hexec := (execCfgCommit_passes h (by omega) hv).trans (congrArg _ (if_neg (by omega)))
    refine ⟨_, hexec, ?_, rfl, rfl, State.start_waits (t := s) h.2.1 rfl rfl rfl, fun p hp => ?_⟩
    · exact vget_same _ _ _ h.mb_lt
    · cases p <;> first | rfl | exact absurd hp (by decide)
  · exact ⟨_, (execCfgCommit_passes h (by omega) hv).trans (congrArg _ (if_pos ha)),
      State.complete_answered h.inv h.2.1 rfl h.runs _ _ _ _ (by decide), State.done_only _ _⟩
  · exact ⟨_, execCfgCommit_verdict h ha hv, State.complete_answered h.inv h.2.1 rfl h.runs _ _ _ _ hst, State.complete_only _ _ _ _ _⟩
  · show execCommitTakesEffect s = _
    unfold execCommitTakesEffect
    rw [hw]
    exact congrArg Host.Outcome.next (if_neg (by rw [hat]; exact nofun))

end Sys2Proof.Machine
end

section
/-!
PROOFS. The CLE's schedule: phases, rate groups, missed deadlines and following errors (R27, R30, R105, R107, R115).
-/
namespace Sys2Proof.Machine

variable {s : State}

/-- RG0_PHASE_START of a phase that has not run, behind the first where it is the second. -/
theorem execRg0PhaseStart_runs (phase : Fin 2) (hruns : s.cleRuns = true) (hph : s.cle.phases = [phase == 1, false]) :
    ∃ (s1 s2 : State) (l ports : List Nat), s1 = s.modCle (fun c => { c with phases := c.phases.set phase.val true }) ∧
      l = s1.scheduled ((s1.inGroup 0).filter fun i => s1.ctxGl i == (phase == 1)) ∧ s2 = l.foldl State.runCtx s1 ∧
      ports = ((List.range 12).filter fun p => (s.port p).cfg.configured && s.glPort p == (phase == 1)) ∧
      exec (.rg0PhaseStart phase) s = .next (if s2.cle.halted then s2 else
        if phase == 1 then ports.foldl State.commitPort (s2.missPorts (ports.filter fun p =>
          !bitOf s.cle.missed p && s1.tooLate (s1.costTo l p) (s1.bundleLimit p)))
        else (ports.foldl State.commitPort (s2.missPorts (ports.filter fun p =>
          !bitOf s.cle.missed p && s1.tooLate (s1.costTo l p) (s1.bundleLimit p)))).commitPeriod
            (s1.tooLate (s1.costOf l) (s1.reloadSpan - 64))) := by
  have hgl : (phase.val == 1) = (phase == 1) := by
    clear hph
    revert phase
    decide
  have hran : (s.cle.phases.getD phase.val true || ((phase == 1) && !s.cle.phases.getD 0 false)) = false := by
    rw [hph]
    clear hph hgl
    revert phase
    decide
  refine ⟨_, _, _, _, rfl, rfl, rfl, rfl, ?_⟩
  show execRg0PhaseStart phase s = _
  unfold execRg0PhaseStart
  rw [hgl]
  exact congrArg Host.Outcome.next (if_neg (by rw [hruns, hran]; exact nofun))

/-- RATE_GROUP_INSTANCE_RUN of a released run that no higher group holds back. -/
theorem execRateGroupInstanceRun_runs (g : Fin 3) (hruns : s.cleRuns = true) (hdue : vget s.cle.rgDue (g + 1) = true)
    (hhigher : ∀ h, h ≤ g.val → 0 < h → vget s.cle.rgDue h = false) : ∃ s1, s1 = (s.scheduled ((s.inGroup (g + 1)).filter fun i =>
      (s.ctx i).due)).foldl State.runCtx s ∧ exec (.rateGroupInstanceRun g) s = .next (if s1.cle.halted then s1 else
        if g.val + 1 = 1 then (s1.modCle fun c => { c with rgDue := vmod c.rgDue (g.val + 1) fun _ => false }).rg1Complete
        else s1.modCle fun c => { c with rgDue := vmod c.rgDue (g.val + 1) fun _ => false }) := by
  refine ⟨_, rfl, congrArg Host.Outcome.next (if_neg ?_)⟩
  have hnone : (((List.range (g.val + 1)).drop 1).any fun h => vget s.cle.rgDue h) = false := by
    rw [List.any_eq_false]
    intro h hh
    obtain ⟨n, hn, rfl⟩ := List.mem_iff_getElem.mp hh
    simp only [List.length_drop, List.length_range] at hn
    rw [List.getElem_drop, List.getElem_range, hhigher _ (by omega) (by omega)]
    exact nofun
  rw [hruns, hdue, hnone]
  exact nofun

/-- A run that has ended is due no more, and one of RG1 makes its record due. -/
theorem instanceRun_shows {g : Nat} (hg : g < 3) : ∃ t, t = (if g + 1 = 1 then
      (s.modCle fun c => { c with rgDue := vmod c.rgDue (g + 1) fun _ => false }).rg1Complete
      else s.modCle fun c => { c with rgDue := vmod c.rgDue (g + 1) fun _ => false }) ∧
    vget t.cle.rgDue (g + 1) = false ∧ t.cle.ram = s.cle.ram ∧ (g = 0 → s.cle.rg1Late = none → t.cle.rg1Done = true) ∧
      ∀ n, g = 0 → s.cle.rg1Late = some n → t.pair.recDue = some n ∧ t.cle.rg1Late = none := by
  have hdue : vget (s.modCle fun c => { c with rgDue := vmod c.rgDue (g + 1) fun _ => false }).cle.rgDue (g + 1) = false :=
    vget_same s.cle.rgDue (g + 1) _ (by omega)
  have hram : (s.modCle fun c => { c with rgDue := vmod c.rgDue (g + 1) fun _ => false }).cle.ram = s.cle.ram := rfl
  have hlate : (s.modCle fun c => { c with rgDue := vmod c.rgDue (g + 1) fun _ => false }).cle.rg1Late = s.cle.rg1Late := rfl
  generalize s.modCle (fun c => { c with rgDue := vmod c.rgDue (g + 1) fun _ => false }) = u at *
  refine ⟨_, rfl, ?_⟩
  split
  case isTrue h =>
    unfold State.rg1Complete
    rw [hlate]
    cases s.cle.rg1Late with
    | none => exact ⟨hdue, hram, fun _ _ => rfl, fun _ _ h => absurd h nofun⟩
    | some n => exact ⟨hdue, hram, fun _ h => absurd h nofun, fun _ _ h => ⟨h, rfl⟩⟩
  case isFalse h => exact ⟨hdue, hram, fun h0 => absurd (by omega) h, fun _ h0 => absurd (by omega) h⟩

/-- A bundle of a port that is late. -/
def State.lateBundles (t : State) (p : Nat) : State :=
  (t.modPwm fun w => { w with bundles := w.bundles.map fun b =>
    if b.unit == p && b.stamp == w.pnum then { b with late := true } else b }).cond
      (t.pwm.bundles.any fun b => b.unit == p && b.stamp == t.pwm.pnum) fun u => u.markLate p

theorem missPorts_eq {new : List Nat} (h : new ≠ []) : s.missPorts new = new.foldl State.lateBundles
    (((s.cond (s.cle.missed == 0) fun t => t.count F.PERIOD_MON_DEADLINE_MISS 0).modCle fun c =>
      { c with missed := c.missed + (new.map (2 ^ ·)).sum }).post EV.EV_CLE_DEADLINE noUnit (new.map (2 ^ ·)).sum) := by
  unfold State.missPorts
  exact if_neg (by simpa using h)

/-- Marking bundles late touches the generator and the legs' flags. -/
theorem foldl_late_only (l : List Nat) : s.Only (l.foldl State.lateBundles s) [.regs, .pwm] :=
  (foldl_in l (Within.refl (Part.mask [.regs, .pwm]) s) fun _ _ h =>
    State.cond_in (State.modPwm_in h rfl _) rfl fun _ h => State.markLate_in h rfl _).only

theorem missPorts_shows {new : List Nat} (h : new ≠ []) : (s.missPorts new).cle.missed = s.cle.missed + (new.map (2 ^ ·)).sum ∧
    s.Told (s.missPorts new) EV.EV_CLE_DEADLINE noUnit (new.map (2 ^ ·)).sum := by
  have hcount : s.Only (s.cond (s.cle.missed == 0) fun t => t.count F.PERIOD_MON_DEADLINE_MISS 0) [.regs] :=
    (State.cond_in (Within.refl (Part.mask [.regs]) s) rfl fun _ h => State.count_in h rfl _ _).only
  rw [missPorts_eq h]
  generalize s.cond (s.cle.missed == 0) _ = t at *
  have hcle : t.cle = s.cle := hcount .cle (by decide)
  have hmissed : (t.modCle fun c => { c with missed := c.missed + (new.map (2 ^ ·)).sum }).cle.missed = s.cle.missed + (new.map (2 ^ ·)).sum := by
    show t.cle.missed + _ = _
    rw [hcle]
  have hevq : (t.modCle fun c => { c with missed := c.missed + (new.map (2 ^ ·)).sum }).evq = s.evq := hcount .evq (by decide)
  generalize t.modCle _ = u at *
  have htold : s.Told (u.post EV.EV_CLE_DEADLINE noUnit (new.map (2 ^ ·)).sum) EV.EV_CLE_DEADLINE noUnit (new.map (2 ^ ·)).sum :=
    State.told_of_evq hevq _ _ _
  have hpost := State.post_cle (s := u) EV.EV_CLE_DEADLINE noUnit (new.map (2 ^ ·)).sum
  generalize u.post EV.EV_CLE_DEADLINE noUnit (new.map (2 ^ ·)).sum = v at *
  have hlate := foldl_late_only (s := v) new
  refine ⟨?_, ?_⟩
  · rw [show (new.foldl State.lateBundles v).cle = v.cle from hlate .cle (by decide), hpost, hmissed]
  · unfold State.Told
    rw [show (new.foldl State.lateBundles v).evq = v.evq from hlate .evq (by decide)]
    exact htold

theorem skipCnt_good (g : Nat) : (skipCnt g).good = true := by
  unfold skipCnt
  split
  · decide
  · split <;> decide

/-- Settles O22: the schedule by what runs in each phase and group, the misses by what they count and post. -/
theorem cleCommandsComplete : Obligations.CleCommandsComplete := by
  unfold Obligations.CleCommandsComplete
  refine ⟨fun s phase hruns hph => ?_, fun s s1 g hruns hdue hhigher hs1 => ?_, fun s ports new hw hran hnew hne => ?_, fun s g hw hskip => ?_,
    fun s i hfe hlatch => congrArg Host.Outcome.next (if_neg (by rw [hfe, hlatch]; exact nofun)),
    fun s i hfe hlatch => congrArg Host.Outcome.next (if_neg (by rw [hfe, hlatch]; exact nofun))⟩
  · obtain ⟨s1, s2, l, ports, h1, hl, h2, hports, hexec⟩ := execRg0PhaseStart_runs phase hruns hph
    refine ⟨s1, s2, l, ports, h1, hl, h2, hports, fun hh => hexec.trans (congrArg _ (if_pos hh)), fun hh => ⟨_, rfl, fun hp => ?_, fun hp => ?_⟩⟩
    · subst hp
      exact hexec.trans (congrArg _ ((if_neg (by rw [hh]; exact nofun)).trans (if_neg nofun)))
    · subst hp
      exact hexec.trans (congrArg _ ((if_neg (by rw [hh]; exact nofun)).trans (if_pos rfl)))
  · obtain ⟨u, hu, hexec⟩ := execRateGroupInstanceRun_runs g hruns hdue hhigher
    rw [← hs1] at hu
    subst hu
    obtain ⟨t, ht, hshows⟩ := instanceRun_shows (s := u) g.isLt
    refine ⟨_, hexec, fun hh => if_pos hh, fun hh => ?_⟩
    rw [if_neg (by rw [hh]; exact nofun), ← ht]
    exact hshows
  · subst hnew
    have hexec : exec (.cleDeadlineMiss ports) s = .next (s.missPorts _) := congrArg Host.Outcome.next (if_pos hran)
    obtain ⟨hmissed, htold⟩ := missPorts_shows (s := s) hne
    exact ⟨_, hexec, hmissed, htold, exec_only hexec⟩
  · have hmod : (s.modCle fun c => { c with rgSkip := vmod c.rgSkip (g.val + 1) fun _ => false }).Canon := hw
    have hclear : vget (s.modCle fun c => { c with rgSkip := vmod c.rgSkip (g.val + 1) fun _ => false }).cle.rgSkip (g.val + 1) = false :=
      vget_same s.cle.rgSkip (g.val + 1) _ (by omega)
    have hevq : ((s.modCle fun c => { c with rgSkip := vmod c.rgSkip (g.val + 1) fun _ => false }).count (skipCnt (g.val + 1)) 0).evq = s.evq := by
      rw [State.count_evq, State.modCle_evq]
    have hwr := ((State.Writes.refl hw ((skipCnt (g.val + 1), 0) :: evqFlds)).modCle fun c =>
      { c with rgSkip := vmod c.rgSkip (g.val + 1) fun _ => false }).count (skipCnt (g.val + 1)) 0 (by simp) (skipCnt_good _)
    refine ⟨_, congrArg Host.Outcome.next (if_neg (by rw [hskip]; exact nofun)), ?_, State.told_of_evq hevq _ _ _,
      (hwr.post _ _ _ fun x hx => List.mem_cons_of_mem _ hx).but⟩
    rw [State.post_cle, State.count_cle]
    exact hclear

end Sys2Proof.Machine
end

section
/-!
PROOFS. Debug (R232, R523): a halt that freezes a generator whose clock has already stopped keeps the instant at which it stopped.
-/
namespace Sys2Proof.Machine

/-- A unit with DBG_FREEZE = 1 whose generator stopped at the instant 0, as with the loss of its clock, 8 fine steps ago. -/
def stoppedEarlier : State := { (State.reset.setFlag F.PWM_CTRL_DBG_FREEZE 0 true).genStop with now := 8 }

/-- The instant at which the generator of an outcome's state stands frozen. -/
def outcomeFrozenAt : Host.Outcome State Fault Refusal → Option Nat
  | .next t => t.pwm.frozenAt
  | _ => none

/-- The halt leaves the instant at which the generator stopped. -/
theorem stoppedEarlier_keeps : outcomeFrozenAt (exec (.debugHalt .cle) stoppedEarlier) = some 0 := by decide +kernel

/-- Refutes O23: on `stoppedEarlier`, DEBUG_HALT of the CLE leaves the generator frozen at 0, where it stopped (`State.genStop`), and not at
the present instant 8. -/
theorem not_spurAndDebugCommandsComplete : ¬ Obligations.SpurAndDebugCommandsComplete := by
  unfold Obligations.SpurAndDebugCommandsComplete
  intro h
  obtain ⟨-, -, hhalt, -⟩ := h
  have hcanon : stoppedEarlier.Canon := by
    show Memory.wf resetWord stoppedEarlier.regs = true
    decide +kernel
  obtain ⟨t, hexec, -, -, hfreeze⟩ := hhalt stoppedEarlier .cle hcanon (by decide +kernel) (by decide +kernel)
  obtain ⟨-, hat⟩ := hfreeze rfl (by decide +kernel)
  have hkeeps := stoppedEarlier_keeps
  rw [hexec] at hkeeps
  have hclash : some 8 = some 0 := hat.symm.trans hkeeps
  exact absurd hclash (by decide)

end Sys2Proof.Machine
end

section
/-!
PROOFS. The coefficient banks: writing, copying, verifying and swapping (R109, R111, R281, R547).
-/
namespace Sys2Proof.Machine

variable {s : State}

/-! ### The mark of a bank -/

theorem idle_lt : s.idle < 2 := by
  unfold State.idle
  omega

theorem setMark_writes (hw : s.Canon) (b : Nat) (v : Bool) : s.Writes (s.setMark b v) [(F.COEF_STATUS_INACT_VERIFIED, 0)] := by
  unfold State.setMark State.showMark
  exact ((State.Writes.refl hw _).modCoef _).setFlag _ _ _ (by simp) (by decide)

theorem setMark_verified {b : Nat} (hb : b < 2) (v : Bool) : vget (s.setMark b v).coef.verified b = v := vget_same _ _ _ hb

/-- A command that answers behind a change of the banks with its mark. -/
theorem marked_answers {op : Nat} {tag : Fin 128} {e : Entry} (h : s.Serves op tag e) (f : CoefSt → CoefSt) (v : Bool) :
    (((s.modCoef f).setMark s.idle v).done e.tag FS.FS_OK).coef = { f s.coef with verified := vmod (f s.coef).verified s.idle fun _ => v } ∧
      (((s.modCoef f).setMark s.idle v).done e.tag FS.FS_OK).Answered tag FS.FS_OK [] [] ∧
      s.RegsBut (((s.modCoef f).setMark s.idle v).done e.tag FS.FS_OK) [(F.COEF_STATUS_INACT_VERIFIED, 0)] ∧
      s.Only (((s.modCoef f).setMark s.idle v).done e.tag FS.FS_OK) [.regs, .fcp, .coef, .macs] := by
  have hmod : (s.modCoef f).Canon := h.canon
  have hwr := setMark_writes hmod s.idle v
  have hcoef : ((s.modCoef f).setMark s.idle v).coef = { f s.coef with verified := vmod (f s.coef).verified s.idle fun _ => v } := rfl
  have hfcp : ((s.modCoef f).setMark s.idle v).fcp = s.fcp := rfl
  have hbut : s.RegsBut ((s.modCoef f).setMark s.idle v) [(F.COEF_STATUS_INACT_VERIFIED, 0)] := hwr.but
  have honly : Within (Part.mask [.regs, .fcp, .coef, .macs]) s ((s.modCoef f).setMark s.idle v) :=
    State.setMark_in (State.modCoef_in (Within.refl (Part.mask [.regs, .fcp, .coef, .macs]) s) rfl f) rfl _ _
  generalize (s.modCoef f).setMark s.idle v = t at *
  exact ⟨(State.done_coef _ _).trans hcoef, h.done_after (hbut.svpRuns hfcp (by decide) (by decide)) hfcp (by decide), hbut.done _ _,
    (State.done_in honly rfl _ _).only⟩

/-- A quarter of a tile of bank b written, with the tile's CRC. -/
def CoefSt.written (c : CoefSt) (b tile off : Nat) (words : List Word) (crc : Word) : CoefSt := { c with
  bank := vmod c.bank b fun m => Memory.setMany (fun _ => 0#32) m off words
  dir := vmod c.dir b fun m => Memory.set (fun _ => zeroTileCrc) m tile crc
  badTiles := c.badTiles.filter fun x => x != (b, tile) }

theorem written_shows (c : CoefSt) {a b : Nat} (hb : b < 2) (hne : b ≠ a) (tile off : Nat) (words : List Word) (crc : Word) :
    vget (c.written b tile off words crc).bank b = Memory.setMany (fun _ => 0#32) (vget c.bank b) off words ∧
      vget (c.written b tile off words crc).dir b = Memory.set (fun _ => zeroTileCrc) (vget c.dir b) tile crc ∧
      vget (c.written b tile off words crc).bank a = vget c.bank a ∧ vget (c.written b tile off words crc).dir a = vget c.dir a :=
  ⟨vget_same _ _ _ hb, vget_same _ _ _ hb, vget_other _ _ _ _ hne, vget_other _ _ _ _ hne⟩

/-- Bank b copied from bank a, with what the scrubber knows of it. -/
def CoefSt.copied (c : CoefSt) (a b : Nat) : CoefSt := { c with
  bank := vmod c.bank b fun _ => vget c.bank a, dir := vmod c.dir b fun _ => vget c.dir a
  badTiles := (c.badTiles.filter fun x => x.1 != b) ++ (c.badTiles.filter fun x => x.1 == a).map fun x => (b, x.2) }

theorem copied_shows (c : CoefSt) {a b : Nat} (hb : b < 2) : vget (c.copied a b).bank b = vget c.bank a ∧ vget (c.copied a b).dir b = vget c.dir a :=
  ⟨vget_same _ _ _ hb, vget_same _ _ _ hb⟩

/-! ### The swap -/

/-- SWAP_VERIFY_COMPLETE where the inactive bank passes. -/
theorem execSwapVerifyComplete_passes (hpend : s.flag F.COEF_STATUS_SWAP_PEND 0 = true) (hat : s.coef.swapAt = none) (hok : s.failing s.idle = 0)
    (hblocks : s.swapBlocksBad s.idle = false) : exec .swapVerifyComplete s = .next (
      if ((s.setMark s.idle true).modCoef fun c => { c with swapAt := some s.now }).isActive then
        { (s.setMark s.idle true).modCoef fun c => { c with swapAt := some s.now } with
          pair := { ((s.setMark s.idle true).modCoef fun c => { c with swapAt := some s.now }).pair with
            sched := ((s.setMark s.idle true).modCoef fun c => { c with swapAt := some s.now }).pair.sched ++
              [⟨((s.setMark s.idle true).modCoef fun c => { c with swapAt := some s.now }).swapPeriod, 1, none, none, 0⟩] } }
      else (s.setMark s.idle true).modCoef fun c => { c with swapAt := some s.now }) := by
  refine congrArg Host.Outcome.next ((if_neg (by rw [hpend, hat]; exact nofun)).trans ((if_neg (by rw [hok]; exact nofun)).trans
    (if_neg (by rw [hblocks]; exact nofun))))

/-- A mark leaves the pair's state. -/
theorem setMark_isActive (hw : s.Canon) (b : Nat) (v : Bool) (f : CoefSt → CoefSt) : ((s.setMark b v).modCoef f).isActive = s.isActive := by
  unfold State.isActive
  rw [((setMark_writes hw b v).modCoef f).but.fld _ _ (by decide)]

/-- The state once the banks have changed places. -/
def State.swapped (s : State) : State :=
  let s1 := s.unlock.setFld F.COEF_STATUS_ACTIVE_B 0 s.idle
  let s2 := { s1.showMark with pair := { s1.pair with sched := s1.pair.sched.filter fun x => x.kind != 1 } }
  (s2.count F.COEF_STATUS_SWAP_CNT 0).post EV.EV_COEF_SWAP noUnit s2.bankNo

/-- The command that a swap completes. -/
def State.swapAnswered (t : State) : State := match t.waitingOp 0x0106 with
  | some e => t.doneAt e.tag FS.FS_OK
  | none => t

theorem execSwapTakesEffect_due (h : s.swapDue = true) : exec .swapTakesEffect s = .next (s.swapped.forUnits 4 fun t p =>
    if (t.port p).cfg.configured then t.obsSwap p (((List.range 4).map s.govMode).getD p 0) else t).swapAnswered := by
  show execSwapTakesEffect s = _
  unfold execSwapTakesEffect
  rw [h]
  rfl

/-- Settles O25: each command by what it leaves of the banks and their mark. -/
theorem coefficientCommandsComplete : Obligations.CoefficientCommandsComplete := by
  unfold Obligations.CoefficientCommandsComplete
  refine ⟨fun s tag e h ht hq hpend hb => ?_, fun s tag e t1 h hpend hb ht1 hok => ?_, fun s tag e h hrole hpend => ?_,
    fun s hw hpend hat hok hblocks hb hact => ?_, fun s hw hpend hat hok hblocks hact => ?_, fun s s3 s4 hdue h3 h4 => ?_⟩
  · have hexec : exec (.coefWrite tag) s = .next (((s.modCoef fun c => c.written s.idle (e.a 0) (1024 * e.a 0 + 256 * e.a 1)
        ((List.range 256).map fun i => BitVec.ofNat 32 (leAt e.payload (4 * i) 4)) (BitVec.ofNat 32 (e.a32 4))).setMark s.idle false).done
          e.tag FS.FS_OK) :=
      (serve_eq h _).trans (congrArg _ ((if_neg (by omega)).trans (if_neg (by rw [hpend]; exact nofun))))
    have hne : s.idle ≠ s.bankNo := by
      unfold State.idle
      omega
    generalize ((List.range 256).map fun i => BitVec.ofNat 32 (leAt e.payload (4 * i) 4)) = words at *
    obtain ⟨hcoef, hans, hregs, honly⟩ := marked_answers h (fun c => c.written s.idle (e.a 0) (1024 * e.a 0 + 256 * e.a 1)
      words (BitVec.ofNat 32 (e.a32 4))) false
    obtain ⟨hbank, hdir, hbank', hdir'⟩ := written_shows s.coef idle_lt hne (e.a 0) (1024 * e.a 0 + 256 * e.a 1) words (BitVec.ofNat 32 (e.a32 4))
    refine ⟨_, hexec, ?_, ?_, ?_, ?_, ?_, hans, hregs, honly⟩ <;> rw [hcoef]
    · exact hbank
    · exact hdir
    · exact hbank'
    · exact hdir'
    · exact vget_same _ _ _ idle_lt
  · have hcopy : t1 = s.modCoef fun c => c.copied s.bankNo s.idle := ht1
    obtain ⟨hcoef, hans, hregs, honly⟩ := marked_answers h (fun c => c.copied s.bankNo s.idle) true
    obtain ⟨hbank, hdir⟩ := copied_shows s.coef (a := s.bankNo) (idle_lt (s := s))
    have hexec : exec (.coefCopy tag) s = .next ((t1.setMark s.idle true).done e.tag FS.FS_OK) := by
      subst ht1
      exact (serve_eq h _).trans (congrArg _ ((if_neg (by rw [hpend]; exact nofun)).trans (if_pos hok)))
    rw [← hcopy] at hcoef hans hregs honly
    refine ⟨_, hexec, ?_, ?_, ?_, hans, hregs, honly⟩ <;> rw [hcoef]
    · exact hbank
    · exact hdir
    · exact vget_same _ _ _ idle_lt
  · have hexec : exec (.coefSwap tag) s = .next ((s.start e.tag).setFlag F.COEF_STATUS_SWAP_PEND 0 true) :=
      (serve_eq h _).trans (congrArg _ ((if_neg (by rw [hrole]; exact nofun)).trans (if_neg (by rw [hpend]; exact nofun))))
    have hstart : (s.start e.tag).Canon := h.canon
    refine ⟨_, hexec, State.flag_setFlag_same hstart _ _ _ (by decide), h.waits rfl rfl rfl, ?_,
      (State.setFlag_in (State.start_in (Within.refl (Part.mask [.regs, .fcp]) s) rfl _) rfl _ _ _).only⟩
    exact ((State.RegsBut.refl s _).same (u := s.start e.tag) rfl).setFlag hstart _ _ _ (by simp) (by decide)
  · have hpassive := setMark_isActive hw s.idle true fun c => { c with swapAt := some s.now }
    have hexec := (execSwapVerifyComplete_passes hpend hat hok hblocks).trans (congrArg _ (if_neg (by rw [hpassive, hact]; exact nofun)))
    have hmark := setMark_verified (s := s) (idle_lt (s := s)) true
    have honly : Within (Part.mask [.regs, .coef]) s (s.setMark s.idle true) := State.setMark_in (Within.refl (Part.mask [.regs, .coef]) s) rfl _ _
    generalize s.setMark s.idle true = t at *
    exact ⟨_, hexec, hmark, rfl, (State.modCoef_in honly rfl _).only⟩
  · have hactive := setMark_isActive hw s.idle true fun c => { c with swapAt := some s.now }
    exact (execSwapVerifyComplete_passes hpend hat hok hblocks).trans (congrArg _ (if_pos (by rw [hactive, hact])))
  · have hexec := execSwapTakesEffect_due hdue
    have hs3 : s3 = s.swapped := h3
    rw [← hs3, ← h4] at hexec
    unfold State.swapAnswered at hexec
    refine ⟨fun hnone => ?_, fun e he => ?_⟩
    · rw [hexec, hnone]
    · rw [hexec, he]

end Sys2Proof.Machine
end

section
/-!
PROOFS. The scrubber's tiles, presets of contexts and the observers' updates (R112 to R114, R133, R498).
-/
namespace Sys2Proof.Machine

variable {s : State}

/-! ### The scrubber -/

/-- SCRUB_TILE_CHECK before it looks at the tile: an upset is noted. -/
def State.upsetTile (s : State) (c t : Nat) (upset : Bool) : State :=
  if upset && !s.coef.badTiles.contains (c, t) then s.modCoef fun d => { d with badTiles := d.badTiles ++ [(c, t)] } else s

/-- Tile t of store c does not check. -/
def State.tileBad (s : State) (c t : Nat) : Bool :=
  if c < 2 then !s.tileOk c t else (c == 3 && !s.profOk t) || s.coef.badTiles.contains (c, t) || (c == 2 && !s.hlp.prog.tileOk t)

theorem upsetTile_eq (c t : Nat) (upset : Bool) : s.upsetTile c t upset =
    if upset = true ∧ (c, t) ∉ s.coef.badTiles then s.modCoef fun d => { d with badTiles := d.badTiles ++ [(c, t)] } else s := by
  unfold State.upsetTile
  exact if_congr (by simp) rfl rfl

theorem execScrubTileCheck_eq (store : TileStore) (t : Fin 64) (upset : Bool) (ht : t.val < storeTiles (storeCode store))
    (hp : storeCode store = 2 → t.val < s.hlp.prog.count) : exec (.scrubTileCheck store t upset) s =
      .next (if (s.upsetTile (storeCode store) t upset).tileBad (storeCode store) t = true ∧ (storeCode store = 4 → s.stwState = 2) then
        (s.upsetTile (storeCode store) t upset).tileFail (storeCode store) t else s.upsetTile (storeCode store) t upset) := by
  refine congrArg Host.Outcome.next ((if_neg fun h => ?_).trans ?_)
  · obtain h | ⟨h, h'⟩ := h
    · exact absurd ht (Nat.not_lt.mpr h)
    · exact absurd (hp h) (Nat.not_lt.mpr h')
  · show (if (!(s.upsetTile (storeCode store) t upset).tileBad (storeCode store) t || storeCode store == 4 && s.stwState != 2) = true then
        s.upsetTile (storeCode store) t upset else (s.upsetTile (storeCode store) t upset).tileFail (storeCode store) t) = _
    generalize (s.upsetTile (storeCode store) t upset).tileBad (storeCode store) t = bad
    generalize s.upsetTile (storeCode store) t upset = u
    generalize u.tileFail (storeCode store) t = v
    by_cases h4 : storeCode store = 4 <;> by_cases h2 : s.stwState = 2 <;> cases bad <;> simp [h4, h2]

/-- A tile of the committed configuration that fails: it is posted and noted for Fencen. -/
theorem tileFail_config (t : Nat) : s.tileFail 5 t = (s.post EV.EV_TILE_CRC t 5).modCoef fun d =>
    { d with found := if d.found.contains (5, t) then d.found else d.found ++ [(5, t)] } := rfl

/-! ### Presets -/

/-- A preset touches the context RAM and the contexts alone. -/
theorem preset_only (e : Entry) : s.Only (s.preset e) [.cle] := (State.preset_in (Within.refl (Part.mask [.cle]) s) rfl e).only

/-! ### The observers -/

theorem obsInvalid_shows (hw : s.Canon) (p why : Nat) :
    (s.obsInvalid p why).flag F.OBS_STATUS_EST_VALID p = false ∧ (s.obsInvalid p why).fld F.OBS_STATUS_RES_BIN p = 0xFF ∧
      (s.obsInvalid p why).fld F.OBS_STATUS_VALID_BINS p = 0 ∧
      (s.obsInvalid p why).fld F.OBS_STATUS_UPD_SEQ p = s.fld F.OBS_STATUS_UPD_SEQ p ∧
      (s.obsInvalid p why).fld F.OBS_STATUS_INVAL_WHY p = why % 2 ^ (F.OBS_STATUS_INVAL_WHY.hi + 1 - F.OBS_STATUS_INVAL_WHY.lo) := by
  have h1 := canonAfterFlag hw F.OBS_STATUS_EST_VALID p false
  have h2 := canonAfterFld h1 F.OBS_STATUS_INVAL_WHY p why
  have h3 := canonAfterFld h2 F.OBS_STATUS_RES_BIN p 0xFF
  unfold State.obsInvalid
  refine ⟨?_, ?_, ?_, ?_, ?_⟩
  · rw [State.flag_setFld_apart h3 _ _ _ _ _ (by decide), State.flag_setFld_apart h2 _ _ _ _ _ (by decide),
      State.flag_setFld_apart h1 _ _ _ _ _ (by decide), State.flag_setFlag_same hw _ _ _ (by decide)]
  · rw [State.fld_setFld_apart h3 _ _ _ _ _ (by decide), State.fld_setFld_same h2 _ _ _ (by decide)]
    rfl
  · rw [State.fld_setFld_same h3 _ _ _ (by decide)]
    rfl
  · rw [State.fld_setFld_apart h3 _ _ _ _ _ (by decide), State.fld_setFld_apart h2 _ _ _ _ _ (by decide),
      State.fld_setFld_apart h1 _ _ _ _ _ (by decide), State.fld_setFlag_apart hw _ _ _ _ _ (by decide)]
  · rw [State.fld_setFld_apart h3 _ _ _ _ _ (by decide), State.fld_setFld_apart h2 _ _ _ _ _ (by decide),
      State.fld_setFld_same h1 _ _ _ (by decide)]

/-- OBS_UPDATE on a configured port: the update is counted, and without a usable window its reason shown. -/
theorem execObsUpdate_configured (p : Fin 4) {s1 : State} (hc : (s.port p).cfg.configured = true)
    (h1 : s1 = s.setFld F.OBS_STATUS_UPD_SEQ p (s.fld F.OBS_STATUS_UPD_SEQ p + 1)) :
    exec (.obsUpdate p) s = .next (if s1.obsWhy p ≠ 0 then s1.obsInvalid p (s1.obsWhy p)
      else if (((s1.obsBins p).take 31).filter fun x => x.2.2.2).length < 4 then s1.obsInvalid p 3
      else s1.obsValid p (s1.obsBins p) (reduce (s1.pw p 2) (s1.obsBins p))) := by
  subst h1
  exact congrArg Host.Outcome.next ((if_neg (by rw [hc]; exact nofun)).trans (if_congr (by simp) rfl rfl))

/-- Settles O26: the scrubber by the tile's state, the preset by its boundary, the update by its window and its bins. -/
theorem tilePresetAndObserverCommandsComplete : Obligations.TilePresetAndObserverCommandsComplete := by
  unfold Obligations.TilePresetAndObserverCommandsComplete
  refine ⟨fun s t ht hok => ?_, fun s t ht hok => ?_, fun s t ht hnew => ?_, fun s t hf => ?_, fun s tag e h h0 h1 h2 h3 h4 hb ho => ?_,
    fun s tag e h hat => ?_, fun s p s1 hw hc h1 hbad => ?_, fun s p s1 hc h1 hwhy => ?_, fun s s1 store t upset bad c hc ht hp h1 hb => ?_⟩
  · rw [execScrubTileCheck_eq .bankA t false ht nofun]
    exact congrArg Host.Outcome.next (if_neg fun h => absurd (h.1.symm.trans (congrArg Bool.not hok)) nofun)
  · rw [execScrubTileCheck_eq .bankA t false ht nofun]
    exact congrArg Host.Outcome.next (if_pos ⟨congrArg Bool.not hok, nofun⟩)
  · have hup : s.upsetTile 5 t true = s.modCoef fun d => { d with badTiles := d.badTiles ++ [(5, t.val)] } :=
      (upsetTile_eq 5 t true).trans (if_pos ⟨rfl, hnew⟩)
    have hmem : (5, t.val) ∈ (s.upsetTile 5 t true).coef.badTiles := by
      rw [hup]
      exact List.mem_append_right s.coef.badTiles (List.mem_cons_self (a := (5, t.val)) (l := []))
    have hbad : (s.upsetTile 5 t true).tileBad 5 t = true := by
      unfold State.tileBad
      simp [hmem]
    have hevq : (s.upsetTile 5 t true).evq = s.evq := by rw [hup]; rfl
    have hexec : exec (.scrubTileCheck .config t true) s = .next ((s.upsetTile 5 t true).tileFail 5 t) :=
      (execScrubTileCheck_eq (s := s) .config t true ht nofun).trans (congrArg _ (if_pos ⟨hbad, nofun⟩))
    rw [tileFail_config] at hexec
    generalize s.upsetTile 5 t true = u at *
    refine ⟨_, hexec, ?_, ?_, State.told_of_evq hevq _ _ _⟩
    · show _ ∈ (if (u.post EV.EV_TILE_CRC t 5).coef.found.contains (5, t.val) then _ else _)
      split
      · next h => exact List.contains_iff_mem.mp h
      · exact List.mem_append_right _ List.mem_cons_self
    · show _ ∈ (u.post EV.EV_TILE_CRC t 5).coef.badTiles
      rw [State.post_coef]
      exact hmem
  · refine ⟨_, congrArg Host.Outcome.next (if_pos (List.contains_iff_mem.mpr hf)), ?_, ?_,
      (State.modCoef_in (Within.refl (Part.mask [.coef]) s) rfl _).only⟩
    · exact fun h => absurd (List.mem_filter.mp h).2 (by simp)
    · exact fun h => absurd (List.mem_filter.mp h).2 (by simp)
  · refine ⟨_, (serve_eq h _).trans (congrArg _ ((if_neg (by omega)).trans ((if_neg ?_).trans (if_neg (by rw [ho]; exact nofun))))),
      h.waits rfl rfl rfl, State.start_only _⟩
    rw [hb]
    simp only [Bool.false_eq_true, or_false]
    omega
  · have hpre := preset_only (s := s) e
    have hfcp : (s.preset e).fcp = s.fcp := hpre .fcp (by decide)
    have hruns : (s.preset e).svpRuns = true := (State.svpRuns_of_regs (t := s.preset e) hfcp (hpre .regs (by decide))).trans h.runs
    have hexec : exec (.presetTakesEffect tag) s = .next ((s.preset e).doneAt e.tag FS.FS_OK) := by
      show execPresetTakesEffect _ s = _
      unfold execPresetTakesEffect
      simp only [h.2.2, hat, if_true]
    have honly := (State.doneAt_in (State.preset_in (Within.refl (Part.mask [.fcp, .cle, .macs]) s) rfl e) rfl e.tag FS.FS_OK).only
    rw [h.tag_eq] at hexec honly
    exact ⟨_, hexec, h.answered hfcp hruns _ _ _ _ (by decide), State.complete_cle _ _ _ _ _, honly⟩
  · have hcanon : s1.Canon := by rw [h1]; exact canonAfterFld hw _ _ _
    have hexec := execObsUpdate_configured p hc h1
    have hwhy : exec (.obsUpdate p) s = .next (s1.obsInvalid p (if s1.obsWhy p = 0 then 3 else s1.obsWhy p)) := by
      rw [hexec]
      by_cases h0 : s1.obsWhy p = 0
      · rw [if_neg (not_not.mpr h0), if_pos (hbad.resolve_left (not_not.mpr h0)), if_pos h0]
      · rw [if_pos h0, if_neg h0]
    obtain ⟨hvalid, hbin, hbins, hseq, hshown⟩ := obsInvalid_shows hcanon p (if s1.obsWhy p = 0 then 3 else s1.obsWhy p)
    refine ⟨_, hwhy, hvalid, hbin, hbins, hseq, hshown, ?_⟩
    generalize (if s1.obsWhy p = 0 then 3 else s1.obsWhy p) = why
    subst h1
    exact (State.obsInvalid_in (State.setFld_in (Within.refl (Part.mask [.regs]) s) rfl _ _ _) rfl p why).only
  · rw [execObsUpdate_configured p hc h1, if_neg (not_not.mpr hwhy)]
  · subst hc
    rw [execScrubTileCheck_eq store t upset ht hp]
    have hup : s.upsetTile (storeCode store) t upset = s1 := (upsetTile_eq _ _ _).trans h1.symm
    rw [hup]
    subst hb
    rfl

end Sys2Proof.Machine
end

section
/-!
PROOFS. The lane layer: light, clock, commas and the lane states (R239, R240, R266, R286, Table 08.8).
-/
namespace Sys2Proof.Machine

variable {s : State}

/-! ### A lane moves to another state -/

/-- What a new lane state writes beside the state. -/
def laneFlds : List (Fld × Nat) := (F.GL_GDEN_CMD, 0) :: (F.PAIR_STATUS_ONE_LANE, 0) :: evqFlds

theorem mirrorLane_writes {t : State} {l : List (Fld × Nat)} (h : s.Writes t l) (hm : (F.PAIR_STATUS_ONE_LANE, 0) ∈ l) (i : Nat) :
    s.Writes (t.mirrorLane i) l := by
  have hone := h.setFlag F.PAIR_STATUS_ONE_LANE 0 ((t.laneState 6 == 4) != (t.laneState 7 == 4)) hm (by decide)
  have hsay : s.Writes (t.oneLane.sayHello i) l := by
    unfold State.sayHello
    split
    · exact hone.same rfl
    · exact hone
  unfold State.mirrorLane
  by_cases hi : i < 6
  · rw [if_pos hi]
    exact h
  · rw [if_neg hi]
    show s.Writes (if t.oneLane.laneState i = 3 then _ else _) l
    split
    · exact hsay.modPair _
    · exact hone.same rfl

/-- Behind the state's field and the event stand a mirror lane's effects and Fencen's GDEN commands. -/
theorem toLane_writes (hw : s.Canon) (l n : Nat) : (s.setFld F.LANE_STAT_STATE l n).Writes (s.toLane l n) laneFlds := by
  unfold State.toLane State.gdenCmd
  refine (mirrorLane_writes ((State.Writes.refl (canonAfterFld hw _ _ _) laneFlds).post _ _ _ fun x hx => ?_) ?_ l).setFld _ _ _ ?_ (by decide)
  · exact List.mem_cons_of_mem _ (List.mem_cons_of_mem _ hx)
  · exact List.mem_cons_of_mem _ List.mem_cons_self
  · exact List.mem_cons_self

theorem toLane_but (hw : s.Canon) (l n : Nat) : s.RegsBut (s.toLane l n) ((F.LANE_STAT_STATE, l) :: laneFlds) :=
  (((State.Writes.refl hw [(F.LANE_STAT_STATE, l)]).setFld _ _ n List.mem_cons_self (by decide)).trans (toLane_writes hw l n)).but

theorem toLane_state (hw : s.Canon) {l n : Nat} (hl : l < 256) (hn : n < 8) : (s.toLane l n).laneState l = n :=
  ((toLane_writes hw l n).but.fld_class _ hl (by decide) (by decide)).trans
    ((State.fld_setFld_same hw _ _ _ (by decide)).trans (Nat.mod_eq_of_lt (by exact hn)))

theorem toLane_told (l n : Nat) : s.Told (s.toLane l n) EV.EV_LANE_STATE l (s.laneState l + 256 * n) := by
  have hevq : (s.toLane l n).evq = ((s.setFld F.LANE_STAT_STATE l n).post EV.EV_LANE_STATE l (s.laneState l + 256 * n)).evq :=
    (State.gdenCmd_in (State.mirrorLane_in (Within.refl (Part.mask [.regs, .pair]) _) rfl l) rfl).only .evq (by decide)
  unfold State.Told
  rw [hevq]
  exact State.told_of_evq (by rw [State.setFld_evq]) _ _ _

/-- A new lane state leaves the legs' slots. -/
theorem toLane_slotLeg (hw : s.Canon) (l n i k : Nat) : (s.toLane l n).slotLeg i k = s.slotLeg i k := by
  have hbut := toLane_but hw l n
  unfold State.slotLeg
  simp only [hbut.flag F.LEG_CFG_GL _ rfl, hbut.fld F.LEG_CFG_LANE _ rfl, hbut.fld F.LEG_CFG_SLOT _ rfl]

theorem toLane_slotMask (hw : s.Canon) (l n i : Nat) : (s.toLane l n).slotMask i = s.slotMask i := by
  unfold State.slotMask
  simp only [toLane_slotLeg hw]

/-! ### Light, clock and alignment -/

/-- A Gate Link lane in MEASURE or UP. -/
def State.onLink (s : State) (l : Nat) : Prop := l < 6 ∧ (s.laneState l = 3 ∨ s.laneState l = 4)

theorem checkLoss_idle {l : Nat} (h : ¬ s.onLink l) : s.checkLoss l = s := by
  unfold State.onLink at h
  unfold State.checkLoss State.cond
  refine if_neg fun hc => h ?_
  simp only [Bool.and_eq_true, Bool.or_eq_true, decide_eq_true_eq, beq_iff_eq] at hc
  exact hc.1

theorem checkLoss_loses {l : Nat} (h : s.onLink l)
    (hbad : s.flag F.LANE_STAT_LOS l = true ∨ s.flag F.LANE_STAT_LOL l = true ∨ s.flag F.LANE_STAT_ALIGNED l = false) :
    s.checkLoss l = s.loseLane l := by
  unfold State.checkLoss State.cond
  refine if_pos ?_
  simp only [Bool.and_eq_true, Bool.or_eq_true, decide_eq_true_eq, beq_iff_eq, Bool.not_eq_true', or_assoc]
  exact ⟨h, hbad⟩

/-- A field of another kind leaves the lane's state. -/
theorem onLink_setFlag (hw : s.Canon) (f : Fld) (i l : Nat) (b : Bool) (hf : F.LANE_STAT_STATE.apart f = true) :
    (s.setFlag f i b).onLink l ↔ s.onLink l := by
  unfold State.onLink State.laneState
  rw [State.fld_setFlag_apart hw _ _ _ _ _ hf]

/-! ### Commas -/

/-- The commas in a row on lane l. -/
def State.setCommas (s : State) (l n : Nat) : State := { s with gl := { s.gl with commas := vmod s.gl.commas l fun _ => n } }

theorem setCommas_only (l n : Nat) : s.Only (s.setCommas l n) [.gl] := fun p hp => by
  cases p <;> first | rfl | exact absurd hp (by decide)

/-- A comma before ALIGNED is judged. -/
def State.comma (s : State) (l n pos : Nat) : State :=
  ((s.setCommas l n).setFlag F.LANE_STAT_COMMA_SEEN l true).setFld F.LANE_STAT_COMMA_POS l pos

theorem execCommaReceived_eq (l : Fin 8) (k : Fin 10) {n : Nat} (hst : s.laneState l ≠ 0) (hlnk : s.lnkRuns = true)
    (hn : (if k.val = 0 then min 16 (vget s.gl.commas l + 1) else 0) = n) :
    exec (.commaReceived l k) s = .next ((s.comma l n k).cond (n == 16) fun t => t.setFlag F.LANE_STAT_ALIGNED l true) := by
  subst hn
  exact congrArg Host.Outcome.next (if_neg (by simp [hst, hlnk]))

theorem comma_only (l n pos : Nat) : s.Only (s.comma l n pos) [.regs, .gl] := fun p hp =>
  Part.same_trans (setCommas_only l n p fun h => hp (List.mem_cons_of_mem _ h))
    ((State.setFld_in (State.setFlag_in (Within.refl (Part.mask [.regs, .gl]) (s.setCommas l n)) rfl _ _ _) rfl _ _ _).only p hp)

theorem comma_commas {l : Nat} (hl : l < 8) (n pos : Nat) : vget (s.comma l n pos).gl.commas l = n := vget_same _ _ _ hl

theorem comma_writes (hw : s.Canon) (l n pos : Nat) :
    s.Writes (s.comma l n pos) [(F.LANE_STAT_COMMA_SEEN, l), (F.LANE_STAT_COMMA_POS, l)] :=
  ((((State.Writes.refl hw _).same (u := s.setCommas l n) rfl).setFlag _ _ _ (by simp) (by decide)).setFld _ _ _ (by simp) (by decide))

theorem comma_shows (hw : s.Canon) (l n : Nat) {pos : Nat} (hp : pos < 10) :
    (s.comma l n pos).flag F.LANE_STAT_COMMA_SEEN l = true ∧ (s.comma l n pos).fld F.LANE_STAT_COMMA_POS l = pos := by
  have hset : (s.setCommas l n).Canon := hw
  have hflag := canonAfterFlag hset F.LANE_STAT_COMMA_SEEN l true
  refine ⟨(State.flag_setFld_apart hflag _ _ _ _ _ (by decide)).trans (State.flag_setFlag_same hset _ _ _ (by decide)),
    (State.fld_setFld_same hflag _ _ _ (by decide)).trans (Nat.mod_eq_of_lt ?_)⟩
  exact Nat.lt_trans hp (by decide)

/-! ### The loss of alignment -/

/-- ALIGNMENT_LOSS before the lane's state is judged. -/
def State.misaligned (s : State) (l : Nat) : State :=
  ((s.setCommas l 0).countN F.LANE_CNT_CODE_ERR l 8).setFlag F.LANE_STAT_ALIGNED l false

theorem execAlignmentLoss_eq (l : Fin 8) (hst : s.laneState l ≠ 0) : exec (.alignmentLoss l) s = .next ((s.misaligned l).checkLoss l) :=
  congrArg Host.Outcome.next (if_neg hst)

theorem misaligned_writes (hw : s.Canon) (l : Nat) : s.Writes (s.misaligned l) [(F.LANE_STAT_ALIGNED, l), (F.LANE_CNT_CODE_ERR, l)] :=
  (((State.Writes.refl hw _).same (u := s.setCommas l 0) rfl).setFld _ _ _ (by simp) (by decide)).setFlag _ _ _ (by simp) (by decide)

theorem misaligned_shows (hw : s.Canon) (l : Nat) : (s.misaligned l).flag F.LANE_STAT_ALIGNED l = false ∧
    (s.misaligned l).fld F.LANE_CNT_CODE_ERR l = min 65535 (s.fld F.LANE_CNT_CODE_ERR l + 8) := by
  have hset : (s.setCommas l 0).Canon := hw
  have hcount : ((s.setCommas l 0).countN F.LANE_CNT_CODE_ERR l 8).Canon := canonAfterFld hset _ _ _
  refine ⟨State.flag_setFlag_same hcount _ _ _ (by decide), (State.fld_setFlag_apart hcount _ _ _ _ _ (by decide)).trans
    ((State.fld_countN_same hset _ _ _ (by decide)).trans ?_)⟩
  show satAdd (s.fld F.LANE_CNT_CODE_ERR l) 8 65535 = _
  unfold satAdd
  split <;> omega

theorem misaligned_onLink (hw : s.Canon) (l : Nat) : (s.misaligned l).onLink l ↔ s.onLink l := by
  unfold State.onLink State.laneState
  rw [(misaligned_writes hw l).but.fld F.LANE_STAT_STATE _ rfl]

theorem misaligned_only (l : Nat) : s.Only (s.misaligned l) [.regs, .gl] := fun p hp =>
  Part.same_trans (setCommas_only l 0 p fun h => hp (List.mem_cons_of_mem _ h))
    ((State.setFlag_in (State.countN_in (Within.refl (Part.mask [.regs, .gl]) (s.setCommas l 0)) rfl _ _ _) rfl _ _ _).only p hp)

/-- Settles O27: each transition of Table 08.8 by the state it starts from; a new state is one operation with its own laws. -/
theorem laneCommandsComplete : Obligations.LaneCommandsComplete := by
  unfold Obligations.LaneCommandsComplete
  refine ⟨fun s l on hw hidle hon => ?_, fun s l hw hl hst => ?_, fun s l hw hst hlnk hc => ?_, fun s l k hw hst hlnk hk => ?_,
    fun s l hw hst hidle => ?_, fun s l hst hen => ?_, fun s l hst hlnk hen hlos hlol => ?_, fun s l hst hlnk hen hal => ?_,
    fun s l hst hl hlnk hen hm => ?_, fun s l hst hmiss => ?_, fun s l hst => ?_, fun s l n hw hn => ?_, fun s l hw hmask => ?_,
    fun s l hmask hsame => ?_, fun s l => ⟨rfl, fun hlnk => ?_, fun hlnk => ?_⟩, fun s l hw hl hst => ?_, fun s l hst hen => ?_⟩
  · have hlos := checkLoss_idle (mt (onLink_setFlag hw F.LANE_STAT_LOS l l on (by decide)).mp hidle)
    have hlol := checkLoss_idle (mt (onLink_setFlag hw F.LANE_STAT_LOL l l on (by decide)).mp hidle)
    refine ⟨congrArg Host.Outcome.next hlos, congrArg Host.Outcome.next ((if_neg ?_).trans hlol)⟩
    obtain h | h := hon <;> simp [h]
  · have hlos := checkLoss_loses ((onLink_setFlag hw F.LANE_STAT_LOS l l true (by decide)).mpr ⟨hl, hst⟩)
      (.inl (State.flag_setFlag_same hw _ _ _ (by decide)))
    have hlol := checkLoss_loses ((onLink_setFlag hw F.LANE_STAT_LOL l l true (by decide)).mpr ⟨hl, hst⟩)
      (.inr (.inl (State.flag_setFlag_same hw _ _ _ (by decide))))
    exact ⟨congrArg Host.Outcome.next hlos, congrArg Host.Outcome.next hlol⟩
  · have hexec : exec (.commaReceived l 0) s = .next ((s.comma l 16 0).setFlag F.LANE_STAT_ALIGNED l true) :=
      execCommaReceived_eq l 0 (n := 16) hst hlnk ((if_pos rfl).trans (by omega))
    obtain ⟨hseen, hpos⟩ := comma_shows hw l 16 (pos := 0) (by decide)
    have hwr := comma_writes hw l 16 0
    have honly := exec_only hexec
    refine ⟨_, hexec, State.flag_setFlag_same hwr.canon _ _ _ (by decide), (State.flag_setFlag_apart hwr.canon _ _ _ _ _ (by decide)).trans hseen,
      (State.fld_setFlag_apart hwr.canon _ _ _ _ _ (by decide)).trans hpos, comma_commas l.isLt 16 0, ?_, honly⟩
    exact ((hwr.mono (k := [(F.LANE_STAT_ALIGNED, l.val), (F.LANE_STAT_COMMA_SEEN, l.val), (F.LANE_STAT_COMMA_POS, l.val)])
      fun x hx => List.mem_cons_of_mem _ hx).setFlag _ _ _ List.mem_cons_self (by decide)).but
  · have hn : (if k.val = 0 then min 16 (vget s.gl.commas l + 1) else 0) = if k.val = 0 then vget s.gl.commas l + 1 else 0 := by
      split <;> omega
    have hne : (if k.val = 0 then vget s.gl.commas l + 1 else 0) ≠ 16 := by split <;> omega
    have hexec := execCommaReceived_eq l k hst hlnk hn
    generalize (if k.val = 0 then vget s.gl.commas l + 1 else 0) = n at *
    have hwr := comma_writes hw l n k
    have hexec' : exec (.commaReceived l k) s = .next (s.comma l n k) :=
      hexec.trans (congrArg Host.Outcome.next (if_neg (by simp [hne])))
    exact ⟨_, hexec', hwr.but.flag _ _ rfl, (comma_shows hw l n k.isLt).2, comma_commas l.isLt n k, hwr.but, comma_only l n k⟩
  · have hexec := (execAlignmentLoss_eq l hst).trans (congrArg _ (checkLoss_idle (mt (misaligned_onLink hw l).mp hidle)))
    obtain ⟨hal, hcnt⟩ := misaligned_shows hw l
    exact ⟨_, hexec, hal, hcnt, vget_same _ _ _ l.isLt, (misaligned_writes hw l).but, misaligned_only l⟩
  · show execLaneStateChange l s = _
    unfold execLaneStateChange
    simp only [hst, hen, if_true]
  · show execLaneStateChange l s = _
    unfold execLaneStateChange
    simp [hst, hen, hlnk, hlos, hlol]
  · show execLaneStateChange l s = _
    unfold execLaneStateChange
    simp [hst, hen, hlnk, hal]
  · show execLaneStateChange l s = _
    unfold execLaneStateChange
    simp [hst, hen, hlnk, hl, hm]
  · refine congrArg Host.Outcome.next (if_pos ?_)
    have hl := l.isLt
    unfold State.pings
    obtain h | h := hst <;> simp [h, hmiss]
  · exact congrArg Host.Outcome.next (if_pos hst)
  · exact ⟨toLane_state hw (Nat.lt_trans l.isLt (by decide)) hn, toLane_told l n, toLane_but hw l n⟩
  · unfold State.loseLane State.cond
    simp only [toLane_slotMask hw, hmask]
    rfl
  · unfold State.loseLane State.cond
    simp only [hsame]
    exact if_pos (bne_iff_ne.mpr hmask)
  · exact congrArg Host.Outcome.next (if_neg (by simp [hlnk]))
  · exact congrArg Host.Outcome.next (if_pos (by simp [hlnk]))
  · have h0 : s.laneState l ≠ 0 := by omega
    have hloss := checkLoss_loses ((misaligned_onLink hw l).mpr ⟨hl, hst⟩) (.inr (.inr (misaligned_shows hw l).1))
    exact (execAlignmentLoss_eq l h0).trans (congrArg _ hloss)
  · show execLaneStateChange l s = _
    unfold execLaneStateChange
    obtain ⟨n, hn⟩ : ∃ n, s.laneState l = n + 1 := ⟨s.laneState l - 1, by omega⟩
    simp [hn, hen]

end Sys2Proof.Machine
end

section
/-!
PROOFS. The traffic of the Gate Link: PING and ECHO, PARAM, frames, status frames and alerts (R241 to R262).
-/
namespace Sys2Proof.Machine

variable {s : State}

/-! ### A lane's component -/

theorem lane_modLane {l : Nat} (hl : l < 8) (f : LaneSt → LaneSt) : (s.modLane l f).lane l = f (s.lane l) := vget_same _ _ _ hl

theorem modLane_only (l : Nat) (f : LaneSt → LaneSt) : s.Only (s.modLane l f) [.gl] :=
  (State.modLane_in (Within.refl (Part.mask [.gl]) s) rfl l f).only

theorem lane_of_gl {t : State} (h : t.gl = s.gl) (l : Nat) : t.lane l = s.lane l := congrArg (fun g : GlSt => vget g.lanes l) h

/-! ### PARAM -/

theorem write_keeps {x : LaneSt} {a v : Nat} {w : Nat × Nat} (h : w ∈ x.written) (hw : w.1 ≠ a) : w ∈ (x.write a v).written :=
  List.mem_cons_of_mem _ (List.mem_filter.mpr ⟨h, bne_iff_ne.mpr hw⟩)

theorem writes_keep : ∀ (d : List (Nat × Nat)) (x : LaneSt) {w : Nat × Nat}, w ∈ x.written → w.1 ∉ d.map (·.1) →
    w ∈ (d.foldl (fun x w => x.write w.1 w.2) x).written
  | [], _, _, h, _ => h
  | e :: d, x, _, h, hw => writes_keep d (x.write e.1 e.2)
      (write_keeps h fun he => hw (he ▸ List.mem_cons_self)) fun hd => hw (List.mem_cons_of_mem _ hd)

/-- Values written to different addresses all stand. -/
theorem writes_hold : ∀ (d : List (Nat × Nat)) (x : LaneSt), (d.map (·.1)).Nodup →
    ∀ w ∈ d, w ∈ (d.foldl (fun x w => x.write w.1 w.2) x).written
  | [], _, _, _, hw => absurd hw List.not_mem_nil
  | e :: d, x, hd, w, hw => by
    obtain ⟨hnot, hrest⟩ := List.nodup_cons.mp hd
    rcases List.mem_cons.mp hw with rfl | hw
    · exact writes_keep d _ List.mem_cons_self hnot
    · exact writes_hold d _ hrest w hw

theorem newDeltas_nodup (t : State) (l : Nat) : ((s.newDeltas t l).map (·.1)).Nodup := by
  have hall : (((List.range 8).map fun k => (16 + k, t.paramVal l (16 + k))).map (·.1)).Nodup := by
    rw [List.map_map]
    show ((List.range 8).map fun k => 16 + k).Nodup
    decide
  unfold State.newDeltas
  exact hall.sublist (List.filter_sublist.map _)

/-! ### Status frames -/

theorem takeSlot_gl (l k : Nat) (b : List Byte) : (s.takeSlot l k b).gl = s.gl :=
  (State.takeSlot_in (Within.refl (Part.mask [.regs]) s) rfl l k b).only .gl (by decide)

/-- What a valid status frame tells of its lane. -/
def LaneSt.heard (x : LaneSt) (b : List Byte) : LaneSt := { x with
  fresh := true, missing := 0, portB := bitOf (leAt b 2 1) 0, gden := bitOf (leAt b 2 1) 6
  clean := statusFaults b == 0 && !bitOf (leAt b 2 1) 5
  echoed := (leAt b 3 1, leAt b 4 2) :: x.echoed.filter (·.1 != leAt b 3 1) }

/-- A valid status frame taken: the lane, DRV_OBEY and the fields of the slots. -/
def State.takeStatus (s : State) (l : Nat) (b : List Byte) : State :=
  ((s.modLane l fun x => x.heard b).setFlag F.LANE_STAT_DRV_OBEY l (bitOf (leAt b 2 1) 3)).forUnits 8 fun t k => t.takeSlot l k b

theorem takeStatus_lane {l : Nat} (hl : l < 8) (b : List Byte) : (s.takeStatus l b).lane l = (s.lane l).heard b := by
  have hflag : ((s.modLane l fun x => x.heard b).setFlag F.LANE_STAT_DRV_OBEY l (bitOf (leAt b 2 1) 3)).gl = (s.modLane l fun x => x.heard b).gl :=
    State.setFlag_gl _ _ _ _
  have hgl : (s.takeStatus l b).gl = (s.modLane l fun x => x.heard b).gl :=
    forUnits_keeps (P := fun t => t.gl = (s.modLane l fun x => x.heard b).gl) hflag fun _ _ _ h => (takeSlot_gl l _ b).trans h
  exact (lane_of_gl hgl l).trans (lane_modLane hl _)

theorem takeStatus_only (l : Nat) (b : List Byte) : s.Only (s.takeStatus l b) [.regs, .gl] :=
  (State.forUnits_in (State.setFlag_in (State.modLane_in (Within.refl (Part.mask [.regs, .gl]) s) rfl l _) rfl _ _ _) rfl
    fun _ _ h => State.takeSlot_in h rfl _ _ _).only

theorem execStatusFrameReceived_valid (l : Fin 6) {b : List Byte} (hst : 3 ≤ s.laneState l) (hok : statusOk b = true) :
    exec (.statusFrameReceived l b) s = .next (if statusFaults b &&& ((s.takeStatus l b).remeasure l (leAt b 3 1)).slotMask l != 0 then
      ((s.takeStatus l b).remeasure l (leAt b 3 1)).faultSlots l (statusFaults b) else (s.takeStatus l b).remeasure l (leAt b 3 1)) :=
  congrArg Host.Outcome.next ((if_neg (by omega)).trans (if_neg (by rw [hok]; exact nofun)))

/-- An echo of an address below D_RX and T_TA leaves the link latency. -/
theorem remeasure_low {l a : Nat} (ha : a < 0x24) : s.remeasure l a = s := by
  unfold State.remeasure
  refine if_neg fun h => ?_
  simp only [Bool.and_eq_true, Bool.or_eq_true, beq_iff_eq] at h
  omega

/-! ### The link latency -/

/-- L_MEAS that stays within its bounds moves nothing else. -/
theorem measure_within {l m : Nat} (hm : m = (s.lane l).meas (s.answers l))
    (h : 6 ≤ l ∨ s.laneState l ≠ 4 ∨ m ≤ 4000 ∧ ((s.lane l).settled = false ∨ m ≤ s.fld F.GL_DELAY_L_ACT l + 32 ∧ s.fld F.GL_DELAY_L_ACT l ≤ m + 32)) :
    s.measure l = s.setFld F.GL_DELAY_L_MEAS l m := by
  subst hm
  unfold State.measure State.cond
  refine if_neg fun hc => ?_
  simp only [Bool.and_eq_true, Bool.or_eq_true, decide_eq_true_eq, beq_iff_eq] at hc
  obtain ⟨⟨hl, hst⟩, hbad⟩ := hc
  obtain h | h | ⟨hmax, h⟩ := h
  · omega
  · exact h hst
  · obtain hbad | ⟨hset, hbad⟩ := hbad
    · omega
    · obtain h | h := h
      · exact absurd (h.symm.trans hset) nofun
      · omega

/-! ### Frames -/

theorem execFrameSlotOpen_sent (l : Fin 6) (hst : s.laneState l = 3 ∨ s.laneState l = 4 ∨ s.laneState l = 5) (hg : s.gait ≠ Gait.paddock)
    (hlnk : s.lnkRuns = true) (hgen : s.genHeld = false) : exec (.frameSlotOpen l) s = .next ((s.guardFrame s.nextPrograms l).modLane l fun x =>
      { ((s.newDeltas s.nextPrograms l).foldl (fun x w => x.write w.1 w.2) x) with
        frame := glFrame (s.pnumOut + 1) s.nextPrograms.period (s.flag F.PAIR_STATUS_ACT_OUT 0)
          ((s.lane l).apply || !(s.newDeltas s.nextPrograms l).isEmpty) (s.fld F.LANE_CFG_UNIT_ID l) (s.frameChans s.nextPrograms l)
        inFrame := some (0, s.now + 110 * s.symbol l), apply := false }) := by
  refine congrArg Host.Outcome.next (if_neg ?_)
  simp only [hlnk, hgen, Bool.or_eq_true, beq_iff_eq, hg, Bool.not_true, Bool.false_eq_true, or_false, Bool.not_eq_true']
  obtain h | h | h := hst <;> rw [h] <;> decide

/-- Settles O28: what is sent, by the state of its lane; what arrives, by the checks it passes. -/
theorem gateLinkTrafficCommandsComplete : Obligations.GateLinkTrafficCommandsComplete := by
  unfold Obligations.GateLinkTrafficCommandsComplete
  refine ⟨fun s l hp hf => ?_, fun s l q rtt hp hout hr => ?_, fun s l m a hw hl hm hsmall ha h => ?_, fun s l => ?_, fun s l a hp hf => ?_,
    fun s l hf => ?_, fun s l a hf => ?_, fun s l hst hg hlnk hgen => ?_, fun s t l n hn => ?_, fun s l b hw hst hok => ?_,
    fun s l b hst hok hfault hecho => ?_, fun s l m c hst hc => ?_, fun s l m c hc => ?_, fun s s1 s2 s3 l b hst hok h1 h2 h3 => ?_⟩
  · refine ⟨_, congrArg Host.Outcome.next (if_pos (by rw [hp, hf]; rfl)), ?_, ?_, ?_, modLane_only _ _⟩ <;> rw [lane_modLane l.isLt]
  · exact congrArg Host.Outcome.next (if_pos (by simp [hp, hout, hr]))
  · subst ha
    have heq := measure_within hm h
    rw [heq]
    exact ⟨(State.fld_setFld_same hw _ _ _ (by decide)).trans (Nat.mod_eq_of_lt (by exact hsmall)),
      ((State.Writes.refl hw _).setFld _ _ _ List.mem_cons_self (by decide)).but,
      (State.setFld_in (Within.refl (Part.mask [.regs]) s) rfl _ _ _).only⟩
  · refine ⟨_, rfl, ?_, modLane_only _ _⟩
    rw [lane_modLane l.isLt]
  · have hl : l.val < 8 := Nat.lt_trans l.isLt (by decide)
    refine ⟨_, congrArg Host.Outcome.next (if_pos (by rw [hp, hf]; rfl)), ?_, ?_, ?_, ?_, ?_, modLane_only _ _⟩ <;> rw [lane_modLane hl]
    · exact List.mem_cons_self
    · exact fun h => absurd (List.mem_filter.mp h).2 (by simp)
    · rfl
  · exact congrArg Host.Outcome.next (if_neg (by simp [hf]))
  · exact congrArg Host.Outcome.next (if_neg (by simp [hf]))
  · have hexec := execFrameSlotOpen_sent l hst hg hlnk hgen
    have hnodup := newDeltas_nodup (s := s) s.nextPrograms l
    have hl : l.val < 8 := Nat.lt_trans l.isLt (by decide)
    refine ⟨_, hexec, ?_, ?_, ?_, fun w hw => ?_, fun hguard => ?_⟩
    · rw [lane_modLane hl]
    · rw [lane_modLane hl]
    · rw [lane_modLane hl]
    · rw [lane_modLane hl]
      exact writes_hold _ _ hnodup w hw
    · rw [hguard]
      exact modLane_only _ _
  · unfold State.guardFrame
    rw [hn]
    exact if_congr (by simp) rfl rfl
  · have hexec : exec (.statusFrameReceived l b) s = .next (s.count F.LANE_CNT_CRC_ERR l) :=
      congrArg Host.Outcome.next ((if_neg (by omega)).trans (if_pos (by rw [hok]; rfl)))
    refine ⟨_, hexec, (State.fld_count_same hw _ _ (by decide)).trans ?_, ((State.Writes.refl hw _).count _ _ List.mem_cons_self (by decide)).but,
      (State.count_in (Within.refl (Part.mask [.regs]) s) rfl _ _).only⟩
    show satAdd (s.fld F.LANE_CNT_CRC_ERR l) 1 255 = _
    unfold satAdd
    split <;> omega
  · have hexec : exec (.statusFrameReceived l b) s = .next (s.takeStatus l b) := by
      rw [execStatusFrameReceived_valid l hst hok, hfault, remeasure_low hecho]
      exact congrArg Host.Outcome.next (if_neg (by simp))
    refine ⟨_, hexec, ?_, ?_, ?_, ?_, takeStatus_only _ _⟩ <;> rw [takeStatus_lane (Nat.lt_trans l.isLt (by decide))]
    · rfl
    · rfl
    · rfl
    · exact List.mem_cons_self
  · exact congrArg Host.Outcome.next (if_pos ⟨hst, hc⟩)
  · exact congrArg Host.Outcome.next (if_neg fun h => hc h.2)
  · have hexec := execStatusFrameReceived_valid l hst hok
    have htake : s2 = s.takeStatus l b := by rw [h2, h1]; rfl
    rw [← htake, ← h3] at hexec
    exact ⟨fun h => hexec.trans (congrArg _ (if_neg (by simp [h]))), fun h => hexec.trans (congrArg _ (if_pos (bne_iff_ne.mpr h)))⟩

end Sys2Proof.Machine
end

section
/-!
PROOFS. The gate-driver end: the GDEN pins and the clear of a lane's faults (R264, R265, R280, R281).
-/
namespace Sys2Proof.Machine

variable {s : State}

/-! ### Lanes of a mask -/

/-- The lanes of a mask change, each on its own. -/
theorem forUnits_modLane (mask : Nat) (f : LaneSt → LaneSt) (l : Nat) : ∀ n ≤ 8,
    (s.forUnits n fun t i => if bitOf mask i then t.modLane i f else t).lane l =
      if l < n ∧ bitOf mask l = true then f (s.lane l) else s.lane l := by
  intro n
  induction n with
  | zero => exact fun _ => (if_neg fun h => absurd h.1 (Nat.not_lt_zero l)).symm
  | succ n ih =>
    intro hn
    have hlt : n < 8 := hn
    rw [State.forUnits_succ]
    have hrest := ih (Nat.le_of_lt hlt)
    generalize (s.forUnits n fun t i => if bitOf mask i then t.modLane i f else t) = t at *
    by_cases hl : l = n
    · subst hl
      by_cases hb : bitOf mask l = true
      · rw [if_pos hb, if_pos ⟨Nat.lt_succ_self l, hb⟩, lane_modLane hlt, hrest, if_neg fun h => absurd h.1 (Nat.lt_irrefl l)]
      · rw [if_neg hb, hrest, if_neg fun h => hb h.2, if_neg fun h => hb h.2]
    · have hother : (if bitOf mask n = true then t.modLane n f else t).lane l = t.lane l := by
        split
        · exact vget_other _ _ _ _ (Ne.symm hl)
        · rfl
      rw [hother, hrest]
      exact if_congr (and_congr_left' (by omega)) rfl rfl

theorem bitOf_two_pow (l : Nat) : bitOf (2 ^ l) l = true := Nat.testBit_two_pow_self

/-- Fencen's GDEN commands are registers. -/
theorem gdenCmd_gl : s.gdenCmd.gl = s.gl := (State.gdenCmd_in (Within.refl (Part.mask [.regs]) s) rfl).only .gl (by decide)

theorem clearLanes_lane {l : Nat} (hl : l < 6) (phase : Nat) :
    (s.clearLanes (2 ^ l) phase).lane l = { s.lane l with clear := phase, clean := false } := by
  unfold State.clearLanes
  rw [lane_of_gl gdenCmd_gl, forUnits_modLane _ _ _ 6 (by decide), if_pos ⟨hl, bitOf_two_pow l⟩]

theorem clearLanes_only (mask phase : Nat) : s.Only (s.clearLanes mask phase) [.regs, .gl] :=
  (State.clearLanes_in (Within.refl (Part.mask [.regs, .gl]) s) rfl mask phase).only

/-! ### The pins read back -/

/-- A pin that reads as it is driven. -/
theorem gdenSample_driven {p g : Nat} (h : bitOf p g = bitOf s.gdenDriven g) : s.gdenSample p g = s.modLane g fun x => { x with rbBad := 0 } := by
  unfold State.gdenSample
  rw [if_pos (beq_iff_eq.mpr h)]
  rfl

/-- The second sample in a row that differs. -/
theorem gdenSample_second {p g : Nat} (h : bitOf p g ≠ bitOf s.gdenDriven g) (h1 : (s.lane g).rbBad = 1) :
    s.gdenSample p g = ((((s.modLane g fun x => { x with rbBad := 2 }).setFld F.GL_GDEN_RB_ERR 0 (s.fld F.GL_GDEN_RB_ERR 0 ||| 2 ^ g)).post
      EV.EV_GDEN_RB noUnit (s.fld F.GL_GDEN_RB_ERR 0 ||| 2 ^ g)).cause Cause.gdenReadback) := by
  unfold State.gdenSample
  rw [if_neg fun hb => h (beq_iff_eq.mp hb), h1]
  rfl

/-- Samples that all read as driven, in turn. -/
theorem forUnits_driven (p : Nat) (hp : p = s.gdenDriven) : ∀ n, (s.forUnits n fun t g => t.gdenSample p g) =
    (s.forUnits n fun t g => t.modLane g fun x => { x with rbBad := 0 }) ∧ (s.forUnits n fun t g => t.gdenSample p g).gdenDriven = s.gdenDriven := by
  intro n
  induction n with
  | zero => exact ⟨rfl, rfl⟩
  | succ n ih =>
    obtain ⟨heq, hdriven⟩ := ih
    rw [State.forUnits_succ, State.forUnits_succ, ← heq]
    generalize (s.forUnits n fun t g => t.gdenSample p g) = t at *
    have hstep := gdenSample_driven (s := t) (p := p) (g := n) (by rw [hp, hdriven])
    exact ⟨hstep, by rw [hstep]; exact hdriven⟩

theorem forUnits_rbBad (l : Nat) : ∀ n ≤ 8, l < n → ((s.forUnits n fun t g => t.modLane g fun x => { x with rbBad := 0 }).lane l).rbBad = 0 := by
  intro n
  induction n with
  | zero => exact fun _ hl => absurd hl (Nat.not_lt_zero l)
  | succ n ih =>
    intro hn hl
    have hlt : n < 8 := hn
    rw [State.forUnits_succ]
    by_cases hln : l = n
    · subst hln
      rw [lane_modLane hlt]
    · have hrest := ih (Nat.le_of_lt hlt) (by omega)
      generalize (s.forUnits n fun t g => t.modLane g fun x => { x with rbBad := 0 }) = t at *
      exact (congrArg LaneSt.rbBad (vget_other t.gl.lanes n l _ (Ne.symm hln))).trans hrest

/-! ### The end of a clear -/

/-- The faults of a lane whose driver has answered cleanly. -/
def State.faultsCleared (s : State) (l : Nat) : State := s.forUnits 8 fun t k => match t.slotLeg l k with
  | some n => t.setFlag F.GL_LEG_STAT_FAULT n false
  | none => t

theorem faultsCleared_only (l : Nat) : s.Only (s.faultsCleared l) [.regs] :=
  (State.forUnits_in (Within.refl (Part.mask [.regs]) s) rfl fun t k h => by
    split
    · exact State.setFlag_in h rfl _ _ _
    · exact h).only

/-- Fencen runs as before. -/
theorem faultsCleared_runs (hw : s.Canon) (l : Nat) : (s.faultsCleared l).svpRuns = s.svpRuns := by
  have hkeeps : ∀ f : Fld, f.apart F.GL_LEG_STAT_FAULT = true → (s.faultsCleared l).fld f 0 = s.fld f 0 := fun f hf =>
    (forUnits_keeps (P := fun t => t.Canon ∧ t.fld f 0 = s.fld f 0) ⟨hw, rfl⟩ fun t k _ ht => by
      split
      · exact ⟨canonAfterFlag ht.1 _ _ _, (State.fld_setFlag_apart ht.1 _ _ _ _ _ hf).trans ht.2⟩
      · exact ht).2
  exact State.svpRuns_congr (faultsCleared_only l .fcp (by decide)) (hkeeps _ (by decide)) (hkeeps _ (by decide))

/-- GD_CLEAR_STATUS_WAIT_END before the command answers. -/
def State.clearEnded (s : State) (l : Nat) : State :=
  if (s.lane l).clean then (s.modLane l fun x => { x with clear := 0 }).faultsCleared l else s.modLane l fun x => { x with clear := 0 }

theorem clearEnded_only (l : Nat) : s.Only (s.clearEnded l) [.regs, .gl] := by
  unfold State.clearEnded
  split
  · exact fun p hp => Part.same_trans (modLane_only l _ p fun h => hp (List.mem_cons_of_mem _ h))
      (faultsCleared_only l p fun h => hp (List.mem_singleton.mp h ▸ List.mem_cons_self))
  · exact fun p hp => modLane_only l _ p fun h => hp (List.mem_cons_of_mem _ h)

theorem clearEnded_clear {l : Nat} (hl : l < 8) : ((s.clearEnded l).lane l).clear = 0 := by
  unfold State.clearEnded
  split
  · rw [lane_of_gl (faultsCleared_only l .gl (by decide)), lane_modLane hl]
  · rw [lane_modLane hl]

theorem clearEnded_runs (hw : s.Canon) (l : Nat) : (s.clearEnded l).svpRuns = s.svpRuns := by
  unfold State.clearEnded
  split
  · exact (faultsCleared_runs (s := s.modLane l fun x => { x with clear := 0 }) hw l).trans rfl
  · rfl

theorem execGdClearStatusWaitEnd_eq (l : Fin 6) (h : (s.lane l).clear = 2) :
    exec (.gdClearStatusWaitEnd l) s = .next (match s.fcp.inflight.find? fun e => e.op == 0x020C && e.started && e.a 0 == l.val with
      | some e => (s.clearEnded l).done e.tag (if (s.lane l).clean then FS.FS_OK else FS.FS_GD_FAULT)
      | none => s.clearEnded l) := by
  have hfcp : (s.clearEnded l).fcp = s.fcp := clearEnded_only l .fcp (by decide)
  rw [← hfcp]
  exact congrArg Host.Outcome.next (if_neg (not_not.mpr h))

theorem clearEnded_answers (l : Fin 6) {tag : Fin 128} {e : Entry} (hi : s.Inv) (hruns : s.svpRuns = true) (hclear : (s.lane l).clear = 2)
    (hfind : (s.fcp.inflight.find? fun e => e.op == 0x020C && e.started && e.a 0 == l.val) = some e) (htag : e.tag = tag.val) {status : Nat}
    (hst : (if (s.lane l).clean then FS.FS_OK else FS.FS_GD_FAULT) = status) (hs : status < 65536) :
    exec (.gdClearStatusWaitEnd l) s = .next ((s.clearEnded l).done e.tag status) ∧
      (((s.clearEnded l).done e.tag status).lane l).clear = 0 ∧ ((s.clearEnded l).done e.tag status).Answered tag status [] [] := by
  have hexec := execGdClearStatusWaitEnd_eq l hclear
  rw [hfind, hst] at hexec
  refine ⟨hexec, ?_, ?_⟩
  · rw [lane_of_gl (State.done_gl _ _)]
    exact clearEnded_clear (Nat.lt_trans l.isLt (by decide))
  · rw [htag]
    exact State.complete_held hi (List.mem_of_find?_eq_some hfind) htag (clearEnded_only l .fcp (by decide))
      ((clearEnded_runs hi.canon l).trans hruns) _ _ _ _ hs

theorem gdClear_passes {tag : Fin 128} {e : Entry} (h : s.Serves 0x020C tag e) (hl : e.a 0 ≤ 5)
    (ht : e.a16 2 = 0 ∨ 10 ≤ e.a16 2 ∧ e.a16 2 ≤ 1000) (hrole : s.notActive = false) (hsw : s.laneSwitching (e.a 0) = false)
    (hclear : (s.lane (e.a 0)).clear = 0) (hsched : ∀ x ∈ s.pair.sched, 2 ≤ x.kind → bitOf x.lanes (e.a 0) = false) :
    exec (.gdClear tag) s = .next (if s.isActive then { s.start e.tag with pair := { (s.start e.tag).pair with
      sched := (s.start e.tag).pair.sched ++ [⟨s.pairAhead, 2, none, none, 2 ^ e.a 0⟩] } } else (s.start e.tag).clearLanes (2 ^ e.a 0) 1) := by
  refine (serve_eq h _).trans (congrArg _ ((if_neg (by omega)).trans ((if_neg (by rw [hrole]; exact nofun)).trans
    ((if_neg (by rw [hsw]; exact nofun)).trans (if_neg ?_)))))
  rintro (hc | hany)
  · exact hc hclear
  · obtain ⟨x, hx, hbit⟩ := List.any_eq_true.mp hany
    rw [Bool.and_eq_true, decide_eq_true_eq] at hbit
    exact absurd (hsched x hx hbit.1 ▸ hbit.2) nofun

/-- Settles O29: the sampled pins by their driven levels, the clear by the unit's role, its end by the lane's status. -/
theorem gateDriverCommandsComplete : Obligations.GateDriverCommandsComplete := by
  unfold Obligations.GateDriverCommandsComplete
  refine ⟨fun s p hw hp hoff => ?_, fun s tag e h hl ht hrole hact hsw hclear hsched => ?_,
    fun s tag e h hl ht hrole hact hsw hclear hsched => ?_, fun s l hl => ?_, fun s l hclear hrole hact => ?_,
    fun s l hclear hrole hact hgden hsched => ?_, fun s l tag e hi hruns hclear hclean hfind htag => ?_,
    fun s l tag e hi hruns hclear hclean hfind htag => ?_, fun s s1 p h1 => ?_, fun s p g hg hne hbad => ?_, fun s l hclear hnone => ?_⟩
  · have hdriven : ((s.setFld F.GL_GDEN_PIN 0 p.toNat).modStw fun w =>
        { w with gdenLow := if p = 0#6 then min 2 (w.gdenLow + 1) else 0 }).gdenDriven = s.gdenDriven := by
      unfold State.gdenDriven State.gdenTested
      rw [State.modStw_fld, State.modStw_fld, State.fld_setFld_apart hw _ _ _ _ _ (by decide), State.fld_setFld_apart hw _ _ _ _ _ (by decide)]
      rfl
    have hactive : ((s.setFld F.GL_GDEN_PIN 0 p.toNat).modStw fun w =>
        { w with gdenLow := if p = 0#6 then min 2 (w.gdenLow + 1) else 0 }).stw.active = s.stw.active := rfl
    refine congrArg Host.Outcome.next ?_
    show ((State.forUnits _ 6 _).setActive _ _) = _
    generalize ((s.setFld F.GL_GDEN_PIN 0 p.toNat).modStw fun w =>
        { w with gdenLow := if p = 0#6 then min 2 (w.gdenLow + 1) else 0 }) = t at *
    rw [(forUnits_driven (s := t) p.toNat (hp.trans hdriven.symm) 6).1]
    have hgood : ((List.range 6).any fun g => decide (2 ≤ ((t.forUnits 6 fun t g => t.modLane g fun x => { x with rbBad := 0 }).lane g).rbBad)) = false := by
      refine List.any_eq_false.mpr fun g hg => ?_
      rw [forUnits_rbBad g 6 (by decide) (List.mem_range.mp hg)]
      decide
    have hstw : (t.forUnits 6 fun t g => t.modLane g fun x => { x with rbBad := 0 }).stw = t.stw :=
      forUnits_keeps (P := fun u => u.stw = t.stw) rfl fun _ _ _ h => h
    rw [hgood]
    unfold State.setActive
    refine if_pos ?_
    rw [hstw, hactive, beq_iff_eq]
    exact Bool.eq_false_iff.mpr fun h => hoff (List.contains_iff_mem.mp h)
  · rw [gdClear_passes h hl ht hrole hsw hclear hsched, if_neg (by rw [hact]; exact nofun), h.tag_eq]
  · have hexec := (gdClear_passes h hl ht hrole hsw hclear hsched).trans (congrArg _ (if_pos hact))
    have hstart := State.start_only (s := s) e.tag
    have hwaits := h.waits (t := s) rfl rfl rfl
    refine ⟨_, hexec, rfl, hwaits, fun p hp => ?_⟩
    exact Part.same_trans (hstart p fun h => hp (List.mem_singleton.mp h ▸ List.mem_cons_self))
      (by cases p <;> first | rfl | exact absurd hp (by decide))
  · have hlane := clearLanes_lane (s := s) hl 1
    exact ⟨by rw [hlane], by rw [hlane], clearLanes_only _ _⟩
  · exact congrArg Host.Outcome.next ((if_neg (by simp [hclear, hrole])).trans (if_neg (by rw [hact]; exact nofun)))
  · have hfree : s.pair.sched.any (fun x => x.kind == 3 && bitOf x.lanes l) = false := by
      refine List.any_eq_false.mpr fun x hx hbit => ?_
      rw [Bool.and_eq_true, beq_iff_eq] at hbit
      exact absurd (hsched x hx hbit.1 ▸ hbit.2) nofun
    have hexec : exec (.gdenLowEnd l) s = .next { s with pair := { s.pair with sched := s.pair.sched ++ [⟨s.pairAhead, 3, none, none, 2 ^ l.val⟩] } } :=
      congrArg Host.Outcome.next ((if_neg (by simp [hclear, hrole])).trans ((if_pos hact).trans (if_neg (by rw [hgden, hfree]; exact nofun))))
    exact ⟨_, hexec, rfl, fun p hp => by cases p <;> first | rfl | exact absurd hp (by decide)⟩
  · obtain ⟨hexec, hshown, hans⟩ := clearEnded_answers l hi hruns hclear hfind htag (if_pos hclean) (by decide)
    exact ⟨_, hexec, hshown, hans, exec_only hexec⟩
  · obtain ⟨hexec, hshown, hans⟩ := clearEnded_answers l hi hruns hclear hfind htag (if_neg (by rw [hclean]; exact nofun)) (by decide)
    have hmod : s.clearEnded l = s.modLane l fun x => { x with clear := 0 } := if_neg (by rw [hclean]; exact nofun)
    rw [hmod] at hexec hshown hans
    exact ⟨_, hexec, hshown, hans, (State.done_in (State.modLane_in (Within.refl (Part.mask [.fcp, .gl, .macs]) s) rfl l _) rfl _ _).only⟩
  · subst h1
    rfl
  · exact ⟨_, _, rfl, rfl, gdenSample_second hne hbad⟩
  · have hexec := execGdClearStatusWaitEnd_eq l hclear
    rw [List.find?_eq_none.mpr fun e he => by simp [hnone e he]] at hexec
    exact ⟨_, hexec, clearEnded_clear (Nat.lt_trans l.isLt (by decide)), clearEnded_only l⟩

end Sys2Proof.Machine
end

section
/-!
PROOFS. The Bridle, switch-over and handover (R272 to R295, R315, R326).
-/
namespace Sys2Proof.Machine

variable {s : State}

/-! ### ACT_OUT and PARTNER_ACT -/

theorem releaseAct_low (h : s.flag F.PAIR_STATUS_ACT_OUT 0 = false) : s.releaseAct = s := if_neg (by rw [h]; exact nofun)

theorem releaseAct_falls (hw : s.Canon) (h : s.flag F.PAIR_STATUS_ACT_OUT 0 = true) :
    s.releaseAct.flag F.PAIR_STATUS_ACT_OUT 0 = false ∧ s.releaseAct.pair.actFall = true := by
  have hset : ({ s with pair := { s.pair with actFall := true } } : State).Canon := hw
  have hflag := canonAfterFlag hset F.PAIR_STATUS_ACT_OUT 0 false
  have heq : s.releaseAct = (({ s with pair := { s.pair with actFall := true } } : State).setFlag F.PAIR_STATUS_ACT_OUT 0 false).postAct false := if_pos h
  have hlow := State.flag_setFlag_same hset F.PAIR_STATUS_ACT_OUT 0 false (by decide)
  have hpair : (({ s with pair := { s.pair with actFall := true } } : State).setFlag F.PAIR_STATUS_ACT_OUT 0 false).pair.actFall = true := by
    rw [State.setFlag_pair]
  rw [heq]
  generalize (({ s with pair := { s.pair with actFall := true } } : State).setFlag F.PAIR_STATUS_ACT_OUT 0 false) = t at *
  have hpost : (t.postAct false).pair = t.pair :=
    (State.postAct_in (Within.refl (Part.mask [.regs, .evq, .trace, .recd]) t) rfl false).only .pair (by decide)
  refine ⟨?_, by rw [hpost]; exact hpair⟩
  unfold State.flag at hlow ⊢
  rw [State.fld_postAct hflag _ _ _ (by decide)]
  exact hlow

/-- PARTNER_ACT counts as high: what a takeover waited for is over, and the GDEN pins follow. -/
def State.partnerUp (s : State) : State :=
  ((s.setFlag F.PAIR_STATUS_PARTNER_ACT 0 true).modPair fun p => { p with lowSince := none, takeDue := false, gdenDrop := false }).gdenCmd

theorem gdenCmd_pair : s.gdenCmd.pair = s.pair := (State.gdenCmd_in (Within.refl (Part.mask [.regs]) s) rfl).only .pair (by decide)

theorem gdenCmd_writes {t : State} {l : List (Fld × Nat)} (h : s.Writes t l) (hm : (F.GL_GDEN_CMD, 0) ∈ l) : s.Writes t.gdenCmd l :=
  h.setFld _ _ _ hm (by decide)

theorem partnerUp_writes (hw : s.Canon) : s.Writes s.partnerUp [(F.PAIR_STATUS_PARTNER_ACT, 0), (F.GL_GDEN_CMD, 0)] :=
  gdenCmd_writes (((State.Writes.refl hw _).setFlag _ _ _ (by simp) (by decide)).modPair _) (by simp)

theorem partnerUp_flag (hw : s.Canon) : s.partnerUp.flag F.PAIR_STATUS_PARTNER_ACT 0 = true :=
  (State.flag_setFld_apart (canonAfterModPair (canonAfterFlag hw _ _ _) _) _ _ _ _ _ (by decide)).trans
    (State.flag_setFlag_same hw F.PAIR_STATUS_PARTNER_ACT 0 true (by decide))

theorem partnerUp_pair : s.partnerUp.pair = { s.pair with lowSince := none, takeDue := false, gdenDrop := false } := by
  unfold State.partnerUp
  rw [gdenCmd_pair]
  show ({ (s.setFlag F.PAIR_STATUS_PARTNER_ACT 0 true).pair with lowSince := none, takeDue := false, gdenDrop := false } : PairSt) = _
  rw [State.setFlag_pair]

theorem partnerUp_only : s.Only s.partnerUp [.regs, .pair] :=
  (State.gdenCmd_in (State.modPair_in (State.setFlag_in (Within.refl (Part.mask [.regs, .pair]) s) rfl _ _ _) rfl _) rfl).only

/-- PARTNER_ACT_CHANGE to high behind a low level, by ACT_OUT and the instant it rose. -/
theorem execPartnerActChange_high {k : Nat} (h : s.pair.lowSince = some k) : exec (.partnerActChange true) s = .next (
    if !s.flag F.PAIR_STATUS_ACT_OUT 0 then s.partnerUp else match s.pair.roseAt with
      | some t => if s.now < t + 16000 then (if s.flag F.PAIR_CFG_PRIO 0 then s.partnerUp.releaseAct else s.partnerUp) else s.partnerUp.conflict
      | none => s.partnerUp.conflict) := by
  refine congrArg Host.Outcome.next ((if_neg ?_).trans (if_pos rfl))
  rw [h]
  simp

/-! ### Scheduled changes -/

theorem execScheduledPairChange_one {c : PairSched} (h : s.pair.sched = [c]) (hdue : s.changeDue c = true) :
    exec .scheduledPairChange s = .next ((s.modPair fun q => { q with sched := [] }).pairChange c) := by
  have hrest : (s.modPair fun p => { p with sched := p.sched.filter fun c => !s.changeDue c }) = s.modPair fun q => { q with sched := [] } := by
    unfold State.modPair
    simp only [h, List.filter_cons, hdue, Bool.not_true, Bool.false_eq_true, if_false, List.filter_nil]
  show Host.Outcome.next ((s.pair.sched.filter s.changeDue).foldl State.pairChange _) = _
  rw [hrest, h, List.filter_cons, if_pos hdue]
  rfl

/-- A command of the pair that waits with a change of the pair's record. -/
theorem start_modPair_only (tag : Nat) (f : PairSt → PairSt) : s.Only ((s.start tag).modPair f) [.fcp, .pair] :=
  (State.modPair_in (State.start_in (Within.refl (Part.mask [.fcp, .pair]) s) rfl tag) rfl f).only

theorem execStandbyGdenDrop_due {k : Nat} (hlow : s.pair.lowSince = some k) (hst : s.pairState = 3) (hk : k + 80000 + 2 * s.fineP ≤ s.now)
    (hrose : ∀ r, s.pair.roseAt = some r → r < k) :
    exec .standbyGdenDrop s = .next ((s.modPair fun p => { p with gdenDrop := true }).gdenCmd) := by
  show execStandbyGdenDrop s = _
  unfold execStandbyGdenDrop
  rw [hlow]
  refine congrArg Host.Outcome.next (if_pos ?_)
  rw [hst, decide_eq_true hk]
  show (!_) = true
  split
  · next r hr => rw [Bool.not_eq_true', decide_eq_false_iff_not, Nat.not_le]; exact hrose r hr
  · rfl

/-- Settles O30: the Bridle's levels by the unit's own, switch-over by the pair's state, changes by the period they name. -/
theorem bridleAndPairCommandsComplete : Obligations.BridleAndPairCommandsComplete := by
  unfold Obligations.BridleAndPairCommandsComplete
  refine ⟨fun s hlow => ?_, fun s k hlow hact hw => ?_, fun s t k r hlow hact hrose ht => ?_, fun s on => rfl, fun s hw hg hact => ?_,
    fun s h => ?_, fun s h => ?_, fun s h => ?_, fun s => ?_, fun s hrem hin hsgr => ?_, fun s hrem hin hsgr => ?_, fun s hst hdue hmay => ?_,
    fun s n hho hact hn hout => ?_, fun s k hw hlow hst hk hrose => ?_, fun s k r hlow hrose hkr => ?_,
    fun s p hst hpeer hsaf hsec hlo hhi hpin => ?_, fun s p h => ?_, fun s tag e k h hst hlow hk => ?_, fun s tag e h hact hready hnone => ?_,
    fun s n p d hs hn => ?_, fun s n l k hk hs hn => ?_, fun s hnone => ?_⟩
  · have hexec : exec (.partnerActChange false) s = .next ((s.setFlag F.PAIR_STATUS_PARTNER_ACT 0 false).modPair fun p => { p with
        lowSince := some s.now
        takeDue := decide (s.pairState = 3) && (s.flag F.PAIR_CFG_TAKEOVER_EN 0 || p.handover.isSome) }) :=
      congrArg Host.Outcome.next ((if_neg (by rw [hlow]; simp)).trans (if_neg nofun))
    refine ⟨_, hexec, rfl, ?_, fun hw => ⟨State.flag_setFlag_same hw _ _ _ (by decide),
      (((State.Writes.refl hw _).setFlag _ _ _ List.mem_cons_self (by decide)).modPair _).but⟩⟩
    show (decide (s.pairState = 3) && (_ || s.pair.handover.isSome)) = true ↔ _
    simp only [Bool.and_eq_true, Bool.or_eq_true, decide_eq_true_eq]
  · have hexec := (execPartnerActChange_high hlow).trans (congrArg _ (if_pos (by rw [hact]; rfl)))
    have hpair := partnerUp_pair (s := s)
    exact ⟨_, hexec, by rw [hpair], by rw [hpair], by rw [hpair], partnerUp_flag hw, (partnerUp_writes hw).but, partnerUp_only⟩
  · have hexec := (execPartnerActChange_high hlow).trans (congrArg _ (if_neg (by rw [hact]; exact nofun)))
    have hup : t = s.partnerUp := ht
    rw [hrose, ← hup] at hexec
    exact ⟨fun h => hexec.trans (congrArg _ (if_neg (by omega))), fun h hp => hexec.trans (congrArg _ ((if_pos h).trans (if_pos hp))),
      fun h hp => hexec.trans (congrArg _ ((if_pos h).trans (if_neg (by rw [hp]; exact nofun))))⟩
  · obtain ⟨hflag, hfall⟩ := releaseAct_falls hw hact
    exact ⟨_, congrArg Host.Outcome.next (if_neg hg), hflag, hfall⟩
  · refine congrArg Host.Outcome.next ?_
    split
    · rfl
    · next hg => exact releaseAct_low (h.resolve_left hg)
  · exact congrArg Host.Outcome.next (if_pos (by rw [h]; rfl))
  · exact congrArg Host.Outcome.next (if_neg (by rw [h]; exact nofun))
  · exact congrArg Host.Outcome.next (if_neg nofun)
  · exact congrArg Host.Outcome.next ((if_pos (by rw [hrem, hin]; rfl)).trans (by rw [hsgr]; rfl))
  · exact congrArg Host.Outcome.next ((if_pos (by rw [hrem, hin]; rfl)).trans (by rw [hsgr]; rfl))
  · exact congrArg Host.Outcome.next (if_pos (by rw [hst, hdue, hmay]; rfl))
  · show execHandoverRelease s = _
    unfold execHandoverRelease
    rw [hho]
    exact congrArg Host.Outcome.next (if_pos (by rw [hact, hout, decide_eq_true hn]; rfl))
  · have hexec := execStandbyGdenDrop_due hlow hst hk hrose
    refine ⟨_, hexec, by rw [gdenCmd_pair]; rfl, ?_, (gdenCmd_writes ((State.Writes.refl hw _).modPair _) List.mem_cons_self).but⟩
    exact (State.gdenCmd_in (State.modPair_in (Within.refl (Part.mask [.regs, .pair]) s) rfl _) rfl).only
  · show execStandbyGdenDrop s = _
    unfold execStandbyGdenDrop
    rw [hlow, hrose]
    exact congrArg Host.Outcome.next (if_neg (by simp [hkr]))
  · refine congrArg Host.Outcome.next (if_pos ?_)
    have htime : s.pulseTime = true := by
      unfold State.pulseTime
      simp only [hsaf, hsec, hlo, hhi, beq_self_eq_true, decide_true, Bool.and_true]
    simp only [htime, Bool.and_eq_true, Bool.or_eq_true, beq_iff_eq, bne_iff_ne, true_and]
    exact ⟨⟨or_assoc.mpr hst, hpeer⟩, hpin⟩
  · refine congrArg Host.Outcome.next (if_neg fun hc => ?_)
    unfold State.pulseTime at hc
    simp only [Bool.and_eq_true, Bool.or_eq_true, beq_iff_eq, bne_iff_ne, decide_eq_true_eq] at hc
    obtain ⟨⟨⟨⟨⟨⟨hsaf, hsec⟩, -⟩, -⟩, -⟩, -⟩, hpin⟩ := hc
    obtain h | h | h := h
    · exact hpin h
    · exact h hsaf
    · exact h hsec
  · have hexec : exec (.pairActivate tag) s = .next ((s.start e.tag).modPair fun p => { p with wantAct := true }) := by
      refine (serve_eq h _).trans (congrArg _ (if_neg ?_))
      simp only [hlow, hk]
      obtain hst | hst := hst <;> rw [hst] <;> decide
    exact ⟨_, hexec, rfl, h.waits (t := s) rfl rfl rfl, start_modPair_only _ _⟩
  · have hexec : exec (.pairHandover tag) s = .next ((s.start e.tag).modPair fun p => { p with handover := some s.pairAhead }) :=
      (serve_eq h _).trans (congrArg _ ((if_neg (by rw [hact]; exact nofun)).trans ((if_neg (by rw [hready]; exact nofun)).trans
        (if_neg (by rw [hnone]; exact nofun)))))
    exact ⟨_, hexec, rfl, h.waits (t := s) rfl rfl rfl, start_modPair_only _ _⟩
  · exact execScheduledPairChange_one hs (decide_eq_true hn)
  · have hdue : s.changeDue ⟨n, k, none, none, l⟩ = true := by
      unfold State.changeDue
      obtain rfl | rfl := hk <;> simp [hn]
    rw [execScheduledPairChange_one hs hdue]
    obtain rfl | rfl := hk <;> rfl
  · have hkeep : (s.pair.sched.filter fun c => !s.changeDue c) = s.pair.sched :=
      List.filter_eq_self.mpr fun c hc => by rw [Bool.not_eq_true']; exact Bool.eq_false_iff.mpr (List.filter_eq_nil_iff.mp hnone c hc)
    have hexec : exec .scheduledPairChange s = .next (s.modPair fun p => { p with sched := p.sched.filter fun c => !s.changeDue c }) := by
      show Host.Outcome.next ((s.pair.sched.filter s.changeDue).foldl State.pairChange _) = _
      rw [hnone]
      rfl
    exact ⟨_, hexec, hkeep, (State.modPair_in (Within.refl (Part.mask [.pair]) s) rfl _).only⟩

end Sys2Proof.Machine
end

section
/-!
PROOFS. The mirror link: records, credits, blocks, status and HELLO (R31, R279, R285 to R289).
-/
namespace Sys2Proof.Machine

variable {s : State}

/-! ### Records -/

/-- A record leaves in its blocks, for its credits. -/
def PairSt.sent (p : PairSt) (r : MirrorRecord) (b : Nat) : PairSt :=
  { p with recDue := none, sentRec := some r, sentBlocks := recordBlocks r b, credits := p.credits - b }

/-- The state behind a record that has left. -/
def State.recordSent (s : State) (r : MirrorRecord) (b n : Nat) : State :=
  ((s.modPair fun p => p.sent r b).modHlp fun h => { h with slice := min 64 (h.slice + 1) }).setFld F.MIRROR_STAT_LAST_PNUM 0 (n % 65536)

theorem recordSent_shows (hw : s.Canon) (r : MirrorRecord) (b n : Nat) :
    (s.recordSent r b n).pair = s.pair.sent r b ∧ (s.recordSent r b n).hlp.slice = min 64 (s.hlp.slice + 1) ∧
      (s.recordSent r b n).fld F.MIRROR_STAT_LAST_PNUM 0 = n % 65536 ∧ s.RegsBut (s.recordSent r b n) [(F.MIRROR_STAT_LAST_PNUM, 0)] ∧
      s.Only (s.recordSent r b n) [.regs, .pair, .hlp] := by
  refine ⟨State.setFld_pair _ _ _ _, congrArg HlpSt.slice (State.setFld_hlp _ _ _ _), ?_, ?_, ?_⟩
  · exact (State.fld_setFld_same (canonAfterModHlp (canonAfterModPair hw _) _) _ _ _ (by decide)).trans (Nat.mod_mod_of_dvd _ (by decide))
  · exact ((((State.Writes.refl hw _).modPair _).modHlp _).setFld _ _ _ List.mem_cons_self (by decide)).but
  · exact (State.setFld_in (State.modHlp_in (State.modPair_in (Within.refl (Part.mask [.regs, .pair, .hlp]) s) rfl _) rfl _) rfl _ _ _).only

/-- MIRROR_RECORD_SEND with a record that is due. -/
theorem execMirrorRecordSend_due {n : Nat} (h : s.pair.recDue = some n) : exec .mirrorRecordSend s = .next (
    if !s.isActive || !s.mirrorUp then s.modPair fun p => { p with recDue := none }
    else if s.fld F.PAIR_CFG_RECORD_BLKS 0 ≤ s.mirrorCredits then s.recordSent (s.mirrorRecord n) (s.fld F.PAIR_CFG_RECORD_BLKS 0) n
    else (s.modPair fun p => { p with recDue := none }).count F.MIRROR_STAT_MIRROR_MISS 0) := by
  show execMirrorRecordSend s = _
  unfold execMirrorRecordSend
  rw [h]
  rfl

/-- An event counted in an 8-bit counter. -/
theorem count_shows8 (hw : s.Canon) {f : Fld} (hf : f.good = true) (h8 : f.hi + 1 - f.lo = 8) :
    (s.count f 0).fld f 0 = min 255 (s.fld f 0 + 1) := by
  rw [State.fld_count_same hw _ _ hf, h8]
  show satAdd (s.fld f 0) 1 255 = _
  unfold satAdd
  split <;> omega

/-! ### What the partner says -/

theorem handoverEnd_regs : s.handoverEnd.regs = s.regs :=
  (State.handoverEnd_in (Within.refl (Part.mask [.fcp, .pair, .macs]) s) rfl).only .regs (by decide)

theorem handoverEnd_pair : ∃ h, s.handoverEnd.pair = { s.pair with handover := h } := by
  unfold State.handoverEnd
  split
  · split
    · exact ⟨s.pair.handover, rfl⟩
    · exact ⟨none, State.complete_pair _ _ _ _ _⟩
  · exact ⟨s.pair.handover, rfl⟩

theorem peerSays_pair (st gait : Nat) (digest : Word) :
    ∃ h, (s.peerSays st gait digest).pair = { s.pair with peerGait := gait, peerDigest := digest, handover := h } := by
  have hbase : ((s.setFld F.PAIR_STATUS_PEER_STATE 0 st).modPair fun p => { p with peerGait := gait, peerDigest := digest }).pair =
      { s.pair with peerGait := gait, peerDigest := digest } := by
    rw [State.modPair_pair, State.setFld_pair]
  unfold State.peerSays
  generalize (s.setFld F.PAIR_STATUS_PEER_STATE 0 st).modPair (fun p => { p with peerGait := gait, peerDigest := digest }) = t at *
  by_cases h : st = 4
  · obtain ⟨k, hk⟩ := handoverEnd_pair (s := t)
    exact ⟨k, (congrArg State.pair (if_pos h)).trans (by rw [hk, hbase])⟩
  · exact ⟨s.pair.handover, (congrArg State.pair (if_neg h)).trans hbase⟩

theorem peerSays_regs (st gait : Nat) (digest : Word) : (s.peerSays st gait digest).regs = (s.setFld F.PAIR_STATUS_PEER_STATE 0 st).regs := by
  unfold State.peerSays
  split
  · exact handoverEnd_regs
  · rfl

theorem peerSays_writes (hw : s.Canon) (st gait : Nat) (digest : Word) : s.Writes (s.peerSays st gait digest) [(F.PAIR_STATUS_PEER_STATE, 0)] :=
  ((State.Writes.refl hw _).setFld _ _ st List.mem_cons_self (by decide)).same (peerSays_regs st gait digest)

/-- Short of ACTIVE the partner's word ends no handover. -/
theorem peerSays_only {st : Nat} (h : st ≠ 4) (gait : Nat) (digest : Word) : s.Only (s.peerSays st gait digest) [.regs, .pair] := by
  unfold State.peerSays
  rw [if_neg h]
  exact (State.modPair_in (State.setFld_in (Within.refl (Part.mask [.regs, .pair]) s) rfl _ _ _) rfl _).only

/-- STANDBY_STATUS_RECEIVED on a paired unit with a mirror lane. -/
def State.peerHeard (s : State) (p : PeerStatus) : State :=
  ((s.peerSays (p.state % 8) p.gait p.cfgDigest).modPair fun q => { q with peerAt := some s.pwm.bnd }).setFlag F.PAIR_STATUS_PARTNER_READY 0
    (decide (p.state = 3))

theorem execStandbyStatusReceived_heard {p : PeerStatus} (hst : s.pairState ≠ 0) (hup : s.mirrorUp = true) :
    exec (.standbyStatusReceived p) s = .next (s.peerHeard p) :=
  congrArg Host.Outcome.next (if_neg (by rw [hup]; simp [hst]))

theorem peerHeard_shows (hw : s.Canon) {p : PeerStatus} (hp : p.state < 8) : (s.peerHeard p).fld F.PAIR_STATUS_PEER_STATE 0 = p.state ∧
    (s.peerHeard p).pair.peerGait = p.gait ∧ (s.peerHeard p).pair.peerDigest = p.cfgDigest ∧ (s.peerHeard p).pair.peerAt = some s.pwm.bnd ∧
    (s.peerHeard p).flag F.PAIR_STATUS_PARTNER_READY 0 = decide (p.state = 3) ∧
    s.RegsBut (s.peerHeard p) [(F.PAIR_STATUS_PEER_STATE, 0), (F.PAIR_STATUS_PARTNER_READY, 0)] := by
  have hwr := peerSays_writes hw (p.state % 8) p.gait p.cfgDigest
  have hregs := peerSays_regs (s := s) (p.state % 8) p.gait p.cfgDigest
  obtain ⟨k, hpair⟩ := peerSays_pair (s := s) (p.state % 8) p.gait p.cfgDigest
  unfold State.peerHeard
  generalize s.peerSays (p.state % 8) p.gait p.cfgDigest = t at *
  have hmod : (t.modPair fun q => { q with peerAt := some s.pwm.bnd }).Canon := hwr.canon
  refine ⟨?_, ?_, ?_, ?_, State.flag_setFlag_same hmod _ _ _ (by decide), ?_⟩
  · rw [State.fld_setFlag_apart hmod _ _ _ _ _ (by decide), State.modPair_fld]
    refine (congrArg (fun r => fieldOf (Memory.get resetWord r _) _ _) hregs).trans ((State.fld_setFld_same hw _ _ _ (by decide)).trans ?_)
    show p.state % 8 % 8 = p.state
    omega
  · rw [State.setFlag_pair, State.modPair_pair, hpair]
  · rw [State.setFlag_pair, State.modPair_pair, hpair]
  · rw [State.setFlag_pair, State.modPair_pair]
  · exact (((hwr.mono (k := [(F.PAIR_STATUS_PEER_STATE, 0), (F.PAIR_STATUS_PARTNER_READY, 0)]) (by simp)).modPair _).setFlag _ _ _ (by simp)
      (by decide)).but

/-! ### A record applied -/

theorem sendCredits_pair : ∃ f c, s.sendCredits.pair = { s.pair with freed := f, sentCredits := c } := by
  unfold State.sendCredits
  simp only
  split
  · exact ⟨s.pair.freed, s.pair.sentCredits, rfl⟩
  · exact ⟨0, _, rfl⟩

theorem freeSlots_pair (n : Nat) : ∃ f c, (s.freeSlots n).pair = { s.pair with freed := f, sentCredits := c } := by
  unfold State.freeSlots
  obtain ⟨f, c, h⟩ := sendCredits_pair (s := s.modPair fun p => { p with freed := p.freed + n })
  exact ⟨f, c, h⟩

/-- What the last step of applying a record leaves of the pair. -/
def PairSt.applied (p : PairSt) (at_ : Nat) (r : MirrorRecord) : PairSt :=
  { p with rxDone := none, appliedAt := some at_, alarms := r.alarms, handover := r.handover }

/-- The end of applying a record: the partner's word, the pair's record, LAST_PNUM and the freed slots. -/
def State.recordEnd (s : State) (r : MirrorRecord) (at_ b : Nat) : State :=
  ((((s.peerSays 4 r.gait r.cfgDigest).modPair fun p => p.applied at_ r).setFld F.MIRROR_STAT_LAST_PNUM 0 (r.pnum % 65536)).freeSlots b)

theorem recordEnd_pair (r : MirrorRecord) (at_ b : Nat) : (s.recordEnd r at_ b).pair.rxDone = none ∧
    (s.recordEnd r at_ b).pair.appliedAt = some at_ ∧ (s.recordEnd r at_ b).pair.alarms = r.alarms ∧
    (s.recordEnd r at_ b).pair.handover = r.handover ∧ (s.recordEnd r at_ b).pair.peerGait = r.gait ∧
    (s.recordEnd r at_ b).pair.peerDigest = r.cfgDigest := by
  obtain ⟨k, hpeer⟩ := peerSays_pair (s := s) 4 r.gait r.cfgDigest
  unfold State.recordEnd
  generalize s.peerSays 4 r.gait r.cfgDigest = t at *
  have hset : ((t.modPair fun p => p.applied at_ r).setFld F.MIRROR_STAT_LAST_PNUM 0 (r.pnum % 65536)).pair = t.pair.applied at_ r := State.setFld_pair _ _ _ _
  generalize (t.modPair fun p => p.applied at_ r).setFld F.MIRROR_STAT_LAST_PNUM 0 (r.pnum % 65536) = u at *
  obtain ⟨f, c, hfree⟩ := freeSlots_pair (s := u) b
  rw [hfree, hset, hpeer]
  exact ⟨rfl, rfl, rfl, rfl, rfl, rfl⟩

/-- The parts of a record applied in their order, before its end. -/
def State.recordParts (s : State) (r : MirrorRecord) : State :=
  (r.changes.foldl State.applyChange ((r.ctxs.foldl State.applyCtx (r.ports.foldl
    (fun t q => t.applyPort ((s.fixOffset r).pnumOut - r.pnum) q) (s.fixOffset r))).applyTime r)).applySlice r

theorem execMirrorRecordApply_waits {r : MirrorRecord} {num b : Nat} (h : s.pair.rxDone = some (num, b)) : exec (.mirrorRecordApply r) s = .next (
    if !(s.pairState == 2 || s.pairState == 3) || num != r.pnum % 65536 || decide (s.pwm.bnd ≤ s.pair.rxAt) then s
    else (s.recordParts r).recordEnd r s.pwm.bnd b) := by
  show execMirrorRecordApply r s = _
  unfold execMirrorRecordApply
  rw [h]
  rfl

/-! ### HELLO -/

/-- HELLO_RECEIVED by what the block says. -/
theorem execHelloReceived_heard {l : Fin 2} {h : Hello} (hp : s.pairState ≠ 0) (hst : s.laneState (6 + l.val) = 3) {ok : Bool}
    (hok : (h.fmtMajor == s.fld F.IDENT_BOOT_MIRROR_FMT 0 && h.unitId != s.fld F.LANE_CFG_UNIT_ID (6 + l.val) &&
      h.prio != s.flag F.PAIR_CFG_PRIO 0) = ok) :
    exec (.helloReceived l h) s = .next (if ok then ((s.modPair fun p => { p with
        helloBad := p.helloBad.set l (!ok), peerDigest := h.cfgDigest, peerId := some h.unitId,
        blockAt := p.blockAt.set l s.pwm.bnd }).toLane (6 + l.val) 4).sendCredits
      else s.modPair fun p => { p with
        helloBad := p.helloBad.set l (!ok), peerDigest := h.cfgDigest, peerId := some h.unitId, blockAt := p.blockAt.set l s.pwm.bnd }) := by
  subst hok
  exact congrArg Host.Outcome.next (if_neg (by simp [hst, hp]))

/-- Settles O31: what leaves by its credits and its lanes, what arrives by its checks and the unit's state. -/
theorem mirrorCommandsComplete : Obligations.MirrorCommandsComplete := by
  unfold Obligations.MirrorCommandsComplete
  refine ⟨fun s n b hw hdue hact hup hb hcred => ?_, fun s n hw hdue hact hup hcred => ?_, fun s h => ?_, fun s l n c hact hst hc => ?_,
    fun s l n c h => ?_, fun s l b k hw hst hbad => ?_, fun s l b k hst hok hidx hp hact => ?_, fun s l b k hst hok h => ?_,
    fun s r b hst hdone hat => ?_, fun s r h => ?_, fun s hst hup hdue => ?_, fun s p hw hst hup hp h4 => ?_, fun s p hw hst hup h4 => ?_,
    fun s l h hp hst hfmt hid hprio => ?_, fun s l h hp hst hbad => ?_, fun s l hst hbad => ?_, fun s l h3 h4 => ?_⟩
  · subst hb
    obtain ⟨hpair, hslice, hnum, hbut, honly⟩ := recordSent_shows hw (s.mirrorRecord n) (s.fld F.PAIR_CFG_RECORD_BLKS 0) n
    have hexec := (execMirrorRecordSend_due hdue).trans (congrArg _ ((if_neg (by rw [hact, hup]; exact nofun)).trans (if_pos hcred)))
    generalize s.recordSent (s.mirrorRecord n) (s.fld F.PAIR_CFG_RECORD_BLKS 0) n = t at *
    exact ⟨t, hexec, by rw [hpair]; rfl, by rw [hpair]; rfl, by rw [hpair]; rfl, by rw [hpair]; rfl, hnum, hslice, hbut, honly⟩
  · have hmod : (s.modPair fun p => { p with recDue := none }).Canon := hw
    have hexec := (execMirrorRecordSend_due hdue).trans (congrArg _ ((if_neg (by rw [hact, hup]; exact nofun)).trans (if_neg (by omega))))
    have hpair : ((s.modPair fun p => { p with recDue := none }).count F.MIRROR_STAT_MIRROR_MISS 0).pair = { s.pair with recDue := none } :=
      State.count_pair _ _ _
    exact ⟨_, hexec, by rw [hpair], by rw [hpair], count_shows8 hmod (by decide) rfl,
      (((State.Writes.refl hw _).modPair _).count _ _ List.mem_cons_self (by decide)).but,
      (State.count_in (State.modPair_in (Within.refl (Part.mask [.regs, .pair]) s) rfl _) rfl _ _).only⟩
  · have hkeep := (State.modPair_in (Within.refl (Part.mask [.pair]) s) rfl fun p => { p with recDue := none }).only
    by_cases hnone : s.pair.recDue = none
    · refine ⟨s, ?_, hnone, rfl, fun p _ => by cases p <;> rfl⟩
      show execMirrorRecordSend s = _
      unfold execMirrorRecordSend
      rw [hnone]
    · obtain ⟨n, hn⟩ := Option.ne_none_iff_exists'.mp hnone
      refine ⟨_, (execMirrorRecordSend_due hn).trans (congrArg _ (if_pos ?_)), rfl, rfl, hkeep⟩
      obtain h | h | h := h
      · rw [h]; rfl
      · rw [h]; simp
      · exact absurd h hnone
  · exact ⟨_, congrArg Host.Outcome.next (if_pos (by rw [hact, hst, hc]; simp)), rfl,
      (State.modPair_in (Within.refl (Part.mask [.pair]) s) rfl _).only⟩
  · refine congrArg Host.Outcome.next (if_neg fun hc => ?_)
    simp only [Bool.and_eq_true, beq_iff_eq] at hc
    obtain h | h | h := h
    · exact h hc.2
    · exact absurd (h.symm.trans hc.1.1) nofun
    · exact h hc.1.2
  · have hexec : exec (.mirrorBlockReceived l b k) s = .next (s.count F.MIRROR_STAT_BLK_ERR 0) :=
      congrArg Host.Outcome.next ((if_neg (by rw [hst]; exact nofun)).trans (if_pos (by rw [hbad]; rfl)))
    exact ⟨_, hexec, count_shows8 hw (by decide) rfl, ((State.Writes.refl hw _).count _ _ List.mem_cons_self (by decide)).but,
      (State.count_in (Within.refl (Part.mask [.regs]) s) rfl _ _).only⟩
  · exact congrArg Host.Outcome.next ((if_neg (by rw [hst]; exact nofun)).trans ((if_neg (by rw [hok]; exact nofun)).trans
      (if_neg (by rw [hact]; simp [hidx, hp]))))
  · exact congrArg Host.Outcome.next ((if_neg (by rw [hst]; exact nofun)).trans ((if_neg (by rw [hok]; exact nofun)).trans (if_pos h)))
  · have hexec := (execMirrorRecordApply_waits (r := r) hdone).trans (congrArg _ (if_neg (by
      obtain h | h := hst <;> simp [h, Nat.not_le.mpr hat])))
    exact ⟨_, hexec, recordEnd_pair r _ _⟩
  · cases hdone : s.pair.rxDone with
    | none =>
      show execMirrorRecordApply r s = _
      unfold execMirrorRecordApply
      rw [hdone]
    | some d =>
      have hat := h.resolve_left (by rw [hdone]; exact nofun)
      exact (execMirrorRecordApply_waits (num := d.1) (b := d.2) hdone).trans (congrArg _ (if_pos (by simp [hat])))
  · have hexec : exec .standbyStatusSend s = .next (s.modPair fun p => { p with
        sentStatus := some s.statusBlock, statusDue := false, sentStatusBlock := statusBytes s.statusBlock (s.cle.rgAt.getD 1 (0, 0)).1 }) :=
      congrArg Host.Outcome.next (if_pos (by rw [hup, hdue]; obtain h | h := hst <;> rw [h] <;> rfl))
    exact ⟨_, hexec, rfl, rfl, rfl, (State.modPair_in (Within.refl (Part.mask [.pair]) s) rfl _).only⟩
  · obtain ⟨hstate, hgait, hdig, hat, hready, hbut⟩ := peerHeard_shows hw hp
    refine ⟨_, execStandbyStatusReceived_heard hst hup, hstate, hgait, hdig, hat, hready, hbut, fun q hq => ?_⟩
    exact Part.same_trans (peerSays_only (by omega) _ _ q hq)
      ((State.setFlag_in (State.modPair_in (Within.refl (Part.mask [.regs, .pair]) _) rfl _) rfl _ _ _).only q hq)
  · obtain ⟨hstate, hgait, hdig, hat, hready, -⟩ := peerHeard_shows hw (p := p) (by omega)
    exact ⟨_, execStandbyStatusReceived_heard hst hup, hstate.trans h4, hgait, hdig, hat, hready.trans (by rw [h4]; rfl)⟩
  · exact execHelloReceived_heard hp hst (ok := true) (by simp [hfmt, hid, hprio])
  · refine execHelloReceived_heard hp hst (ok := false) (Bool.eq_false_iff.mpr fun hc => ?_)
    simp only [Bool.and_eq_true, beq_iff_eq, bne_iff_ne] at hc
    obtain hbad | hbad | hbad := hbad
    · exact hbad hc.1.1
    · exact hc.1.2 hbad
    · exact hc.2 hbad
  · have hstate : (s.laneState (6 + l.val) == 3 || s.laneState (6 + l.val) == 4) = true := by
      rw [Bool.or_eq_true, beq_iff_eq, beq_iff_eq]
      exact hst
    have hlost : (s.flag F.LANE_STAT_LOS (6 + l.val) || s.flag F.LANE_STAT_LOL (6 + l.val) || !s.flag F.LANE_STAT_ALIGNED (6 + l.val) ||
        decide (s.pair.blockAt.getD l 0 + 4 * s.divOf 1 < s.pwm.bnd)) = true := by
      rw [Bool.or_eq_true, Bool.or_eq_true, Bool.or_eq_true, Bool.not_eq_true', decide_eq_true_eq, or_assoc, or_assoc]
      exact hbad
    show execMirrorLaneLost l s = _
    unfold execMirrorLaneLost
    simp only [hstate, hlost, Bool.and_self, if_true]
  · exact congrArg Host.Outcome.next (if_neg (by simp [h3, h4]))

end Sys2Proof.Machine
end

section
/-!
PROOFS. The Steward's inputs and the safety outputs' tests (R321 to R325).
-/
namespace Sys2Proof.Machine

variable {s : State}

/-! ### What the active conditions leave -/

theorem setActive_inputs (c : Nat) (b : Bool) : (s.setActive c b).stw.low = s.stw.low ∧ (s.setActive c b).stw.dem = s.stw.dem := by
  unfold State.setActive
  split <;> exact ⟨rfl, rfl⟩

/-- The conditions of the input causes leave the channels and the demands. -/
theorem inputActive_inputs : s.inputActive.stw.low = s.stw.low ∧ s.inputActive.stw.dem = s.stw.dem := by
  unfold State.inputActive
  simp only
  refine ⟨?_, ?_⟩
  · rw [(setActive_inputs _ _).1, (setActive_inputs _ _).1, (setActive_inputs _ _).1, (setActive_inputs _ _).1]
  · rw [(setActive_inputs _ _).2, (setActive_inputs _ _).2, (setActive_inputs _ _).2, (setActive_inputs _ _).2]

/-! ### A channel reads low -/

/-- Channel i among those that read low. -/
def State.addLow (s : State) (i : Nat) : State := s.modStw fun w => { w with low := if w.low.contains i then w.low else w.low ++ [i] }

theorem siLow_channel {i : Nat} (hi : i < 4) :
    s.siLow i = (s.addLow i).setFld F.STW_IO_SDIN 0 (s.fld F.STW_IO_SDIN 0 &&& (15 - 2 ^ i)) := by
  unfold State.siLow State.cond
  rw [decide_eq_true hi]
  rfl

theorem siLow_field {i : Nat} (hi : 4 ≤ i) : s.siLow i = s.addLow i := by
  unfold State.siLow State.cond
  rw [decide_eq_false (Nat.not_lt.mpr hi)]
  rfl

theorem addLow_mem (i : Nat) : i ∈ (s.addLow i).stw.low := by
  show i ∈ if s.stw.low.contains i then s.stw.low else s.stw.low ++ [i]
  split
  · next h => exact List.contains_iff_mem.mp h
  · exact List.mem_append_right _ List.mem_cons_self

theorem siDemand_channel {i : Nat} (hi : i < 4) (hq : siPair i ∉ s.stw.dem) : s.siDemand i =
    (((s.siLow i).modStw fun w => { w with dem := w.dem ++ [siPair i] }).pairCause (1 + siPair i) (siPair i)).inputActive := by
  have hdem : (s.siLow i).stw.dem = s.stw.dem := by
    rw [siLow_channel hi, State.setFld_stw]
    rfl
  unfold State.siDemand
  refine (if_pos hi).trans (if_neg fun h => hq ?_)
  rw [hdem] at h
  exact List.contains_iff_mem.mp h

theorem siDemand_field {i : Nat} (hi : 4 ≤ i) (h0 : bitOf (s.fld F.STW_IO_SI_DEM 0) (2 * (siPair i - 2)) = false)
    (h1 : bitOf (s.fld F.STW_IO_SI_DEM 0) (2 * (siPair i - 2) + 1) = false) : s.siDemand i =
      (((s.siLow i).setFld F.STW_IO_SI_DEM 0 (s.fld F.STW_IO_SI_DEM 0 ||| 2 ^ (i - 4))).pairCause Cause.fieldIn (siPair i)).inputActive := by
  have hfld : (s.siLow i).fld F.STW_IO_SI_DEM 0 = s.fld F.STW_IO_SI_DEM 0 := by
    rw [siLow_field hi]
    rfl
  unfold State.siDemand
  simp only [hfld, h0, h1, Bool.or_self, Bool.false_eq_true, if_false]
  exact if_neg (Nat.not_lt.mpr hi)

/-! ### A channel reads high again -/

/-- The demands left once channel i of a pair reads high: the pair's own goes when it is clear. -/
theorem siHigh_channel {i : Nat} (hi : i < 4) : i ∉ (s.siHigh i).stw.low ∧ ((if i % 2 = 0 then i + 1 else i - 1) ∉ s.stw.low →
    siPair i ∉ s.stw.disc → siPair i ∉ (s.siHigh i).stw.dem) := by
  have hstw : (((s.modStw fun w => { w with low := w.low.filter (· != i) }).cond (decide (i < 4)) fun t =>
      t.setFld F.STW_IO_SDIN 0 (t.fld F.STW_IO_SDIN 0 ||| 2 ^ i))).stw = { s.stw with low := s.stw.low.filter (· != i) } := by
    unfold State.cond
    rw [decide_eq_true hi]
    exact State.setFld_stw _ _ _ _
  unfold State.siHigh
  simp only
  generalize ((s.modStw fun w => { w with low := w.low.filter (· != i) }).cond (decide (i < 4)) fun t =>
      t.setFld F.STW_IO_SDIN 0 (t.fld F.STW_IO_SDIN 0 ||| 2 ^ i)) = u at *
  rw [if_pos hi]
  obtain ⟨hlow, hdem⟩ := inputActive_inputs (s := u.cond (!u.stw.low.contains (if i % 2 = 0 then i + 1 else i - 1) &&
    !u.stw.disc.contains (siPair i)) fun t => t.modStw fun w => { w with dem := w.dem.filter (· != siPair i) })
  rw [hlow, hdem, hstw]
  refine ⟨?_, fun hother hdisc => ?_⟩
  · have hkept : (u.cond (!(s.stw.low.filter (· != i)).contains (if i % 2 = 0 then i + 1 else i - 1) && !s.stw.disc.contains (siPair i)) fun t =>
        t.modStw fun w => { w with dem := w.dem.filter (· != siPair i) }).stw.low = s.stw.low.filter (· != i) := by
      generalize (!(s.stw.low.filter (· != i)).contains (if i % 2 = 0 then i + 1 else i - 1) && !s.stw.disc.contains (siPair i)) = c
      cases c
      · exact congrArg StwSt.low hstw
      · exact congrArg StwSt.low hstw
    rw [hkept]
    exact fun h => absurd (List.mem_filter.mp h).2 (by simp)
  · have hclear : (!(s.stw.low.filter (· != i)).contains (if i % 2 = 0 then i + 1 else i - 1) && !s.stw.disc.contains (siPair i)) = true := by
      rw [Bool.and_eq_true, Bool.not_eq_true', Bool.not_eq_true']
      exact ⟨Bool.eq_false_iff.mpr fun h => hother (List.mem_filter.mp (List.contains_iff_mem.mp h)).1,
        Bool.eq_false_iff.mpr fun h => hdisc (List.contains_iff_mem.mp h)⟩
    rw [hclear]
    show siPair i ∉ u.stw.dem.filter (· != siPair i)
    exact fun h => absurd (List.mem_filter.mp h).2 (by simp)

/-! ### The outputs -/

/-- One output alone satisfies a condition. -/
theorem filter_range_one {f : Nat → Bool} {n k : Nat} (hk : k < n) (h : ∀ j, j < n → (f j = true ↔ j = k)) : (List.range n).filter f = [k] := by
  have hsame : (List.range n).filter f = (List.range n).filter (· == k) :=
    List.filter_congr fun j hj => Bool.eq_iff_iff.mpr ((h j (List.mem_range.mp hj)).trans beq_iff_eq.symm)
  rw [hsame, List.filter_beq, List.count_eq_one_of_mem List.nodup_range (List.mem_range.mpr hk)]
  rfl

/-- The readbacks are taken and the off-pulse is over. -/
def State.pulseOver (s : State) (pins : Nat) : State := { s.readPins pins with fio := { (s.readPins pins).fio with pulse := none } }

/-- The other safety outputs that are on and read low as an off-pulse of output m ends. -/
def State.lowOthers (s : State) (m pins : Nat) : List Nat :=
  (List.range 8).filter fun k => k != m && s.isSafeOut k && s.doOn k && !bitOf pins k

theorem execOutputOffPulse_end {m : Fin 8} (h : s.fio.pulse = some m.val) (p : BitVec 8) : exec (.outputOffPulse m true p) s =
    .next (((if bitOf p.toNat m || !(s.lowOthers m p.toNat).isEmpty then [m.val] else []) ++ s.lowOthers m p.toNat).foldl State.soFail
      (s.pulseOver p.toNat).doNote) := congrArg Host.Outcome.next ((if_pos rfl).trans (if_pos h))

theorem lowOthers_none {m : Fin 8} {p : BitVec 8}
    (h : ∀ k, k < 8 → k ≠ m.val → s.isSafeOut k = true → s.doOn k = true → p.getLsbD k = true) : s.lowOthers m p.toNat = [] := by
  refine List.filter_eq_nil_iff.mpr fun k hk hc => ?_
  simp only [Bool.and_eq_true, bne_iff_ne, Bool.not_eq_true'] at hc
  obtain ⟨⟨⟨hne, hsafe⟩, hon⟩, hlow⟩ := hc
  exact absurd ((h k (List.mem_range.mp hk) hne hsafe hon).symm.trans hlow) nofun

theorem lowOthers_one {m : Fin 8} {p : BitVec 8} {k : Nat} (hk : k < 8) (hne : k ≠ m.val) (hsafe : s.isSafeOut k = true) (hon : s.doOn k = true)
    (hlow : p.getLsbD k = false) (hrest : ∀ j, j < 8 → j ≠ m.val → j ≠ k → p.getLsbD j = true) : s.lowOthers m p.toNat = [k] := by
  refine filter_range_one hk fun j hj => ⟨fun hc => ?_, fun hj => ?_⟩
  · simp only [Bool.and_eq_true, bne_iff_ne, Bool.not_eq_true'] at hc
    by_contra hjk
    exact absurd ((hrest j hj hc.1.1.1 hjk).symm.trans hc.2) nofun
  · subst hj
    have hbit : bitOf p.toNat j = false := hlow
    simp [hne, hsafe, hon, hbit]

/-- Settles O32: a channel by the slot its test runs in, an output by its readbacks at the end of its pulse. -/
theorem safetyInputCommandsComplete : Obligations.SafetyInputCommandsComplete := by
  unfold Obligations.SafetyInputCommandsComplete
  refine ⟨fun s c h => ?_, fun s c htp hslot => ?_, fun s i hi hw => ?_, fun s i hi hq => siDemand_channel hi hq,
    fun s i m hi hm h0 h1 => ?_, fun s c => rfl, fun s i hi => siHigh_channel hi, fun s q hdem hone hdisc => ?_, fun s q h => ?_,
    fun s d hu h => ?_, fun s d hu htp hslot => ?_, fun s d hu => ?_, fun s k => ?_, fun s k l hslot => ?_, fun s k a l hslot => ?_,
    fun s m p hnone hsafe hon => ?_, fun s m p h => ?_, fun s m p hp hlow hothers => ?_, fun s m p hp hhigh hothers => ?_,
    fun s m p k hp hk hne hsafe hon hlow hrest => ?_, fun s m p hp => ?_, fun s m hm hothers hsafe hon hoff hread hpin hat => ?_⟩
  · refine congrArg Host.Outcome.next (if_neg fun hc => ?_)
    rw [Bool.and_eq_true, bne_iff_ne, beq_iff_eq] at hc
    exact h.elim hc.1 (fun h => h hc.2)
  · exact congrArg Host.Outcome.next (if_pos (by rw [Bool.and_eq_true, bne_iff_ne, beq_iff_eq]; exact ⟨htp, hslot⟩))
  · have hadd : (s.addLow i).Canon := hw
    rw [siLow_channel hi]
    refine ⟨?_, (State.fld_setFld_same hadd _ _ _ (by decide)).trans (Nat.mod_eq_of_lt ?_), ?_, ?_⟩
    · rw [State.setFld_stw]
      exact addLow_mem i
    · exact Nat.lt_of_le_of_lt Nat.and_le_right (Nat.lt_of_le_of_lt (Nat.sub_le 15 (2 ^ i)) (by decide))
    · exact (((State.Writes.refl hw _).modStw _).setFld _ _ _ List.mem_cons_self (by decide)).but
    · exact (State.setFld_in (State.modStw_in (Within.refl (Part.mask [.regs, .stw]) s) rfl _) rfl _ _ _).only
  · subst hm
    exact siDemand_field hi h0 h1
  · have hne : (s.stw.low.contains (2 * q.val) != s.stw.low.contains (2 * q.val + 1)) = true := by
      rw [bne_iff_ne]
      intro heq
      have := List.contains_iff_mem (as := s.stw.low) (a := 2 * q.val)
      rw [heq, List.contains_iff_mem] at this
      tauto
    refine congrArg Host.Outcome.next ((if_pos (by rw [hne, List.contains_iff_mem.mpr hdem]; rfl)).trans (if_neg fun h => hdisc ?_))
    exact List.contains_iff_mem.mp h
  · refine congrArg Host.Outcome.next ?_
    show (if (s.stw.dem.contains q.val && s.stw.low.contains (2 * q.val) != s.stw.low.contains (2 * q.val + 1)) = true then s.discrepancy q else s) = s
    split
    · next hc =>
      rw [Bool.and_eq_true, bne_iff_ne, List.contains_iff_mem] at hc
      obtain h | h | h := h
      · exact absurd hc.1 h
      · refine absurd (Bool.eq_iff_iff.mpr ?_) hc.2
        rw [List.contains_iff_mem, List.contains_iff_mem]
        exact h
      · exact if_pos (List.contains_iff_mem.mpr h)
    · rfl
  · refine congrArg Host.Outcome.next ((if_neg (by rw [hu]; exact nofun)).trans (if_neg fun hc => ?_))
    rw [Bool.and_eq_true, bne_iff_ne, beq_iff_eq] at hc
    exact h.elim hc.1 (fun h => h hc.2)
  · exact congrArg Host.Outcome.next ((if_neg (by rw [hu]; exact nofun)).trans
      (if_pos (by rw [Bool.and_eq_true, bne_iff_ne, beq_iff_eq]; exact ⟨htp, hslot⟩)))
  · exact congrArg Host.Outcome.next (if_pos (by rw [hu]; rfl))
  · exact ⟨_, rfl, rfl, (State.modStw_in (Within.refl (Part.mask [.stw]) s) rfl _).only⟩
  · exact ⟨congrArg Host.Outcome.next ((if_pos hslot).trans (if_neg nofun)), congrArg Host.Outcome.next ((if_pos hslot).trans (if_pos rfl))⟩
  · exact congrArg Host.Outcome.next (if_neg hslot)
  · exact congrArg Host.Outcome.next ((if_neg nofun).trans (if_neg (by rw [hnone, hsafe, hon]; exact nofun)))
  · refine congrArg Host.Outcome.next ((if_neg nofun).trans (if_pos ?_))
    rw [Bool.or_eq_true, Bool.or_eq_true, Bool.not_eq_true', Bool.not_eq_true', or_assoc]
    exact h.imp_left Option.isSome_iff_ne_none.mpr
  · have hbit : bitOf p.toNat m = false := hlow
    rw [execOutputOffPulse_end hp, lowOthers_none hothers, hbit]
    rfl
  · have hbit : bitOf p.toNat m = true := hhigh
    rw [execOutputOffPulse_end hp, lowOthers_none hothers, hbit]
    rfl
  · rw [execOutputOffPulse_end hp, lowOthers_one hk hne hsafe hon hlow hrest]
    show Host.Outcome.next (List.foldl State.soFail _ ((if (_ || true) = true then _ else _) ++ [k])) = _
    rw [Bool.or_true, if_pos rfl]
    rfl
  · exact congrArg Host.Outcome.next ((if_pos rfl).trans (if_neg hp))
  · have hone : ((List.range 8).filter fun m => bitOf s.fio.on m && !s.doOn m && s.shortedOut m) = [m] := by
      refine filter_range_one hm fun j hj => ⟨fun hc => ?_, fun hj => ?_⟩
      · simp only [Bool.and_eq_true, Bool.not_eq_true'] at hc
        by_contra hjm
        exact absurd ((hothers j hj hjm hc.1.1).symm.trans hc.1.2) nofun
      · subst hj
        unfold State.shortedOut
        simp only [hon, hoff, hsafe, hread, hpin, hat, decide_true, Bool.not_false, Bool.and_self]
    unfold State.doSync
    rw [hone]
    rfl

end Sys2Proof.Machine
end

section
/-!
PROOFS. The Steward's monitors and watches, and the end of a removal (R300, R307 to R319, R333, R334).
-/
namespace Sys2Proof.Machine

variable {s : State}

theorem withChan_on (l : List Nat) (c : Nat) : (withChan l c true).isEmpty = false := by
  unfold withChan
  cases h : l.contains c
  · simp
  · rw [List.isEmpty_eq_false_iff]
    intro he
    subst he
    exact absurd h nofun

theorem setActive_contains (c : Nat) (b : Bool) : (s.setActive c b).stw.active.contains c = b := by
  unfold State.setActive
  split
  · next h => exact beq_iff_eq.mp h
  · cases b
    · show (s.stw.active.filter (· != c)).contains c = false
      exact Bool.eq_false_iff.mpr fun h => absurd (List.mem_filter.mp (List.contains_iff_mem.mp h)).2 (by simp)
    · show (s.stw.active ++ [c]).contains c = true
      exact List.contains_iff_mem.mpr (List.mem_append_right _ List.mem_cons_self)

/-- What a removal that is not confirmed lacks (R314). -/
theorem sgrConfirmed_lacks (h : s.stw.gdenLow < 2 ∨ (s.flag F.PAIR_CFG_PAIR_EN 0 = true ∧ s.stw.sgr = false)) : s.sgrConfirmed = false := by
  unfold State.sgrConfirmed
  obtain h | ⟨hpair, hsgr⟩ := h
  · rw [decide_eq_false (Nat.not_le.mpr h)]
    rfl
  · unfold State.sgrOut
    rw [hpair, hsgr]
    simp

/-- Settles O33: each watch by the condition its cause has. -/
theorem stewardWatchCommandsComplete : Obligations.StewardWatchCommandsComplete := by
  unfold Obligations.StewardWatchCommandsComplete
  refine ⟨fun s c h => ?_, fun s c h => congrArg Host.Outcome.next (if_pos h), fun s c on h => ?_, fun s c h => ?_,
    fun s c h => congrArg Host.Outcome.next (if_pos h), fun s c on h => ?_, fun s on => rfl, fun s on => rfl,
    fun s k => ⟨setActive_contains k true, setActive_contains k false⟩, fun s => rfl, fun s => rfl,
    fun s h => congrArg Host.Outcome.next (if_pos h), fun s h => congrArg Host.Outcome.next (if_neg (Nat.not_le.mpr h)),
    fun s h => congrArg Host.Outcome.next (if_neg h), fun s h => congrArg Host.Outcome.next (if_pos h), fun s on => rfl, fun s => rfl,
    fun s p hrun hst => ?_, fun s p h => ?_, fun s hw hheld hconf => ?_, fun s h => ?_, fun s u hw hheld hdone hu => ?_, fun s u h => ?_⟩
  · refine congrArg Host.Outcome.next ((if_pos h).trans ?_)
    rw [withChan_on]
    rfl
  · exact congrArg Host.Outcome.next (if_neg (by rw [h]; exact nofun))
  · refine congrArg Host.Outcome.next ((if_pos h).trans ?_)
    rw [withChan_on]
    rfl
  · exact congrArg Host.Outcome.next (if_neg (by rw [h]; exact nofun))
  · exact congrArg Host.Outcome.next (if_pos (by rw [hrun, hst]; rfl))
  · refine congrArg Host.Outcome.next (if_neg fun hc => ?_)
    rw [Bool.and_eq_true, beq_iff_eq] at hc
    obtain h | h := h
    · exact absurd (h.symm.trans hc.1) nofun
    · exact h hc.2
  · exact ⟨_, congrArg Host.Outcome.next (if_pos (by rw [hheld, hconf]; rfl)), State.flag_setFlag_same hw _ _ _ (by decide),
      ((State.Writes.refl hw _).setFlag _ _ _ List.mem_cons_self (by decide)).but,
      (State.setFlag_in (Within.refl (Part.mask [.regs]) s) rfl _ _ _).only⟩
  · refine congrArg Host.Outcome.next (if_neg ?_)
    obtain h | h := h
    · rw [h]
      exact nofun
    · rw [sgrConfirmed_lacks h, Bool.and_false]
      exact nofun
  · have hset := canonAfterFlag hw F.STW_STATUS_SGR_RB_ERR 0 true
    have hshown := State.flag_setFlag_same hw F.STW_STATUS_SGR_RB_ERR 0 true (by decide)
    refine ⟨_, congrArg Host.Outcome.next (if_pos ?_), ?_, State.told_of_evq (by rw [State.setFlag_evq]) _ _ _, ?_,
      (State.post_in (State.setFlag_in (Within.refl (Part.mask [.regs, .evq, .trace, .recd]) s) rfl _ _ _) rfl _ _ _).only⟩
    · rw [hheld, hdone, bne_iff_ne.mpr hu]
      rfl
    · exact (((State.Writes.refl hset evqFlds).post _ _ _ fun _ h => h).but.flag _ _ (by decide)).trans hshown
    · exact (((State.Writes.refl hw _).setFlag _ _ _ List.mem_cons_self (by decide)).post _ _ _ fun _ h => List.mem_cons_of_mem _ h).but
  · refine congrArg Host.Outcome.next (if_neg ?_)
    obtain h | h | h := h <;> simp [h]

end Sys2Proof.Machine
end

section
/-!
PROOFS. Safety PDUs: the copies of the two networks, their pair, and what a connection sends (R330 to R332, R422, R423).
-/
namespace Sys2Proof.Machine

variable {s : State}

/-! ### Receive connections -/

theorem vmod_congr {α : Type} [Inhabited α] {n : Nat} (v : Vector α n) {i : Nat} {f g : α → α} (h : f (vget v i) = g (vget v i)) :
    vmod v i f = vmod v i g := by
  unfold vmod
  split
  · next hi =>
    have hget : vget v i = v[i] := by
      unfold vget
      rw [List.getD_eq_getElem _ _ (by simpa using hi), Vector.getElem_toList]
    rw [hget] at h
    rw [h]
  · rfl

theorem vmod_self {α : Type} {n : Nat} (v : Vector α n) (i : Nat) : vmod v i (fun x => x) = v := by
  unfold vmod
  split
  · exact Vector.set_getElem_self _
  · rfl

theorem modRx_congr {r : Nat} {f g : PduRx → PduRx} (h : f (s.rx r) = g (s.rx r)) : s.modRx r f = s.modRx r g :=
  congrArg (fun v => s.modStw fun w => { w with rx := v }) (vmod_congr s.stw.rx h)

theorem modRx_same {r : Nat} {f : PduRx → PduRx} (h : f (s.rx r) = s.rx r) : s.modRx r f = s :=
  (modRx_congr (g := fun x => x) h).trans (congrArg (fun v => s.modStw fun w => { w with rx := v }) (vmod_self s.stw.rx r))

/-- A network's copy beside one that arrives: the newer stays. -/
def newerCopy (bytes : List Byte) : Option (List Byte) → Option (List Byte)
  | none => some bytes
  | some x => if seqNewer (leAt x 4 4) (leAt bytes 4 4) then some x else some bytes

theorem newerCopy_arrives {o : Option (List Byte)} {b : List Byte} (h : ∀ x, o = some x → seqNewer (leAt x 4 4) (leAt b 4 4) = false) :
    newerCopy b o = some b := by
  cases o with
  | none => rfl
  | some x => exact if_neg (by rw [h x rfl]; exact nofun)

theorem newerCopy_held {a b : List Byte} (h : seqNewer (leAt a 4 4) (leAt b 4 4) = true) : newerCopy b (some a) = some a := if_pos h

/-- PDU_COPY_RECEIVED with a valid copy. -/
theorem execPduCopyReceived_valid {n : Fin 2} {c : Fin 4} {b : List Byte} (h : s.hears n c) (hv : s.pduValid n c b = true) :
    exec (.pduCopyReceived n c b) s = .next ((((s.modRx c fun x => if n = 0 then { x with copyA := newerCopy b x.copyA } else
      { x with copyB := newerCopy b x.copyB }).setFlag (if n = 0 then F.PDU_STAT_WD_A else F.PDU_STAT_WD_B) c false).wdActive).pduPair c) := by
  obtain ⟨hen, hnet, hlink⟩ := h
  exact congrArg Host.Outcome.next ((if_neg (by rw [hen, hnet, hlink]; exact nofun)).trans (if_neg (by rw [hv]; exact nofun)))

/-! ### The pair -/

/-- Equal copies with a later TSTAMP. -/
theorem pduPair_accepts {c : Nat} {a b : List Byte} (ha : (s.rx c).copyA = some a) (hb : (s.rx c).copyB = some b) (hseq : leAt a 4 4 = leAt b 4 4)
    (hsame : slice a 2 38 = slice b 2 38) (hlast : ∀ l, (s.rx c).last = some l → l.2 < timeAt a 8) : s.pduPair c = s.pduAccept c a := by
  unfold State.pduPair
  rw [ha, hb]
  refine (if_neg (by rw [hseq]; simp)).trans (if_pos ?_)
  rw [hsame, beq_self_eq_true, Bool.true_and]
  split
  · rfl
  · next l hl => exact decide_eq_true (hlast l hl)

theorem pduPair_differs {c : Nat} {a b : List Byte} (ha : (s.rx c).copyA = some a) (hb : (s.rx c).copyB = some b) (hseq : leAt a 4 4 = leAt b 4 4)
    (h : slice a 2 38 ≠ slice b 2 38 ∨ ∃ l, (s.rx c).last = some l ∧ timeAt a 8 ≤ l.2) : s.pduPair c =
      ((((s.modRx c fun x => { x with copyA := none, copyB := none }).setFlag F.PDU_STAT_MISMATCH c true).pduCause 0x05 c).setActive 0x05 true) := by
  unfold State.pduPair
  rw [ha, hb]
  refine (if_neg (by rw [hseq]; simp)).trans (if_neg fun hc => ?_)
  rw [Bool.and_eq_true, beq_iff_eq] at hc
  obtain h | ⟨l, hl, hle⟩ := h
  · exact h hc.1
  · rw [hl] at hc
    exact absurd (of_decide_eq_true hc.2) (Nat.not_lt.mpr hle)

/-- SAFE_DATA with RUN_OK set and PERMIT clear demands for the connection's ports. -/
theorem pduAccept_permit {c : Nat} {a : List Byte} (h : leAt a 24 1 % 4 = 2) : s.pduAccept c a =
    ((((((s.modRx c fun _ => ⟨none, none, some (leAt a 4 4, timeAt a 8), slice a 24 16, true, some s.now⟩).setFld
      F.PDU_STAT_SEQ_LO c (leAt a 4 2)).pduCauseFor Cause.pduDemand c (s.rxCfg c 8 2 % 4096))).setActive Cause.pduMismatch false).demandActive) := by
  have hdata : leAt (slice a 24 16) 0 1 = leAt a 24 1 := rfl
  have hmask : s.demandMask c (slice a 24 16) = s.rxCfg c 8 2 % 4096 := by
    unfold State.demandMask
    rw [hdata]
    exact if_neg (by omega)
  unfold State.pduAccept State.cond
  simp only [h, hmask]
  rfl

/-! ### Sending -/

theorem mac_modMac {m : Nat} (hm : m < 2) (f : MacSt → MacSt) : vget (s.modMac m f).macs m = f (vget s.macs m) :=
  vget_same _ _ _ (Nat.lt_succ_of_lt hm)

/-- The length of a frame depends on the MAC's NETIF record alone. -/
theorem frameLen_congr {t : State} {m : Nat} (h : (vget t.macs m).netif = (vget s.macs m).netif) (n : Nat) : t.frameLen m n = s.frameLen m n := by
  unfold State.frameLen State.netif
  rw [h]

/-- Both copies handed over for one launch time. -/
theorem handOver_both {m : Nat} (hm : m < 2) (at1 : Nat) : (vget ((s.handOver 0 at1).handOver 1 at1).macs m).sched =
    (vget s.macs m).sched ++ [⟨at1, s.frameLen m 72⟩] := by
  unfold State.handOver
  match m, hm with
  | 0, _ =>
    refine (congrArg MacSt.sched (vget_other _ 1 0 _ (by decide))).trans ?_
    exact congrArg MacSt.sched (mac_modMac (by decide) _)
  | 1, _ =>
    have hother := vget_other s.macs 0 1 (fun x => { x with sched := x.sched ++ [⟨at1, s.frameLen 0 72⟩] }) (by decide)
    refine (congrArg MacSt.sched (mac_modMac (by decide) _)).trans ?_
    rw [frameLen_congr (s := s) (m := 1) (congrArg MacSt.netif hother)]
    exact congrArg (· ++ _) (congrArg MacSt.sched hother)

/-- Connection c has sent a PDU: the next SEQ without INIT, its copies and its launch time. -/
def State.pduSent (s : State) (c : Nat) (x : PduTx) (at1 : Nat) : State :=
  (((s.modStw fun w => { w with tx := vmod w.tx c fun _ => x }).setFld F.PDU_STAT_SEQ_LO (4 + c) ((vget s.stw.tx c).seq % 65536)).handOver 0 at1).handOver
    1 at1

theorem pduSent_shows (hw : s.Canon) {c : Nat} (hc : c < 2) (x : PduTx) (at1 : Nat) :
    vget (s.pduSent c x at1).stw.tx c = x ∧
      (∀ m, m < 2 → (vget (s.pduSent c x at1).macs m).sched = (vget s.macs m).sched ++ [⟨at1, s.frameLen m 72⟩]) ∧
      (s.pduSent c x at1).fld F.PDU_STAT_SEQ_LO (4 + c) = (vget s.stw.tx c).seq % 65536 ∧
      s.RegsBut (s.pduSent c x at1) [(F.PDU_STAT_SEQ_LO, 4 + c)] ∧ s.Only (s.pduSent c x at1) [.regs, .stw, .macs] := by
  have hmod : (s.modStw fun w => { w with tx := vmod w.tx c fun _ => x }).Canon := hw
  have hseq := State.fld_setFld_same hmod F.PDU_STAT_SEQ_LO (4 + c) ((vget s.stw.tx c).seq % 65536) (by decide)
  have hbut := (((State.Writes.refl hw [(F.PDU_STAT_SEQ_LO, 4 + c)]).modStw fun w => { w with tx := vmod w.tx c fun _ => x }).setFld
    F.PDU_STAT_SEQ_LO (4 + c) ((vget s.stw.tx c).seq % 65536) List.mem_cons_self (by decide)).but
  have hstw : ((s.modStw fun w => { w with tx := vmod w.tx c fun _ => x }).setFld F.PDU_STAT_SEQ_LO (4 + c) ((vget s.stw.tx c).seq % 65536)).stw =
    { s.stw with tx := vmod s.stw.tx c fun _ => x } := State.setFld_stw _ _ _ _
  have hmacs : ((s.modStw fun w => { w with tx := vmod w.tx c fun _ => x }).setFld F.PDU_STAT_SEQ_LO (4 + c) ((vget s.stw.tx c).seq % 65536)).macs =
    s.macs := State.setFld_macs _ _ _ _
  have honly := State.setFld_in (State.modStw_in (Within.refl (Part.mask [.regs, .stw, .macs]) s) rfl fun w => { w with tx := vmod w.tx c fun _ => x }) rfl
    F.PDU_STAT_SEQ_LO (4 + c) ((vget s.stw.tx c).seq % 65536)
  unfold State.pduSent
  generalize (s.modStw fun w => { w with tx := vmod w.tx c fun _ => x }).setFld F.PDU_STAT_SEQ_LO (4 + c) ((vget s.stw.tx c).seq % 65536) = t at *
  refine ⟨?_, fun m hm => ?_, ?_, hbut, (State.modMac_in (State.modMac_in honly rfl _ _) rfl _ _).only⟩
  · show vget t.stw.tx c = x
    rw [hstw]
    exact vget_same _ _ _ hc
  · rw [handOver_both hm, frameLen_congr (s := s) (by rw [hmacs]), hmacs]
  · exact hseq.trans (Nat.mod_mod_of_dvd _ (by decide))

theorem execPduSend_sends {c : Fin 2} (hen : s.flag F.PDU_STAT_EN (4 + c.val) = true) (hnet : s.netRuns = true)
    (hat : (vget s.stw.tx c).at1 ≠ some (s.launchTime c ((vget s.tb 1).ticks + 50000 * 65536))) : ∃ x : PduTx,
      exec (.pduSend c) s = .next (s.pduSent c x (s.launchTime c ((vget s.tb 1).ticks + 50000 * 65536))) ∧
      x.seq = ((vget s.stw.tx c).seq + 1) % 2 ^ 32 ∧ x.init = false ∧ x.at1 = some (s.launchTime c ((vget s.tb 1).ticks + 50000 * 65536)) :=
  ⟨_, congrArg Host.Outcome.next (if_neg (by rw [hen, hnet, beq_eq_false_iff_ne.mpr hat]; exact nofun)), rfl, rfl, rfl⟩

/-- A launch time is no earlier than asked, and a whole number of cycles behind the connection's offset. -/
theorem launchTime_spec {c : Nat} (t : Nat) (hcyc : 0 < s.txCfg c 6 2) (hc : c < 2) : t ≤ s.launchTime c t ∧
    s.launchTime c t % (s.txCfg c 6 2 * 65536000000) = c * (s.txCfg c 6 2 * 65536000000 / 2) := by
  have hpos : 0 < s.txCfg c 6 2 * 65536000000 := Nat.mul_pos hcyc (by decide)
  unfold State.launchTime
  simp only [Nat.reduceMul]
  generalize s.txCfg c 6 2 * 65536000000 = cyc at *
  have hoff : c * (cyc / 2) < cyc := by
    obtain rfl | rfl : c = 0 ∨ c = 1 := by omega
    · omega
    · omega
  generalize c * (cyc / 2) = off at *
  split
  · next h => exact ⟨h, Nat.mod_eq_of_lt hoff⟩
  · next h =>
    refine ⟨?_, ?_⟩
    · have hdiv := Nat.div_add_mod (t - off + cyc - 1) cyc
      have hmod := Nat.mod_lt (t - off + cyc - 1) hpos
      rw [Nat.mul_comm] at hdiv
      omega
    · rw [Nat.add_mul_mod_self_right]
      exact Nat.mod_eq_of_lt hoff

/-- Settles O34: a copy by its checks and the copy its network holds, the pair by the two copies, a PDU by its launch time. -/
theorem safetyPduCommandsComplete : Obligations.SafetyPduCommandsComplete := by
  unfold Obligations.SafetyPduCommandsComplete
  refine ⟨fun s n c b h hbad => ?_, fun s c b h hv hnew => ?_, fun s c b h hv hnew => ?_, fun s c a b h hv ha hold => ?_,
    fun s n c b h => ?_, fun s c h => ?_, fun s c a b ha hb hseq hsame hlast => pduPair_accepts ha hb hseq hsame hlast,
    fun s c a b ha hb hseq h => pduPair_differs ha hb hseq h, fun s c hen => ?_, fun s c n hen => ?_,
    fun s c a b ha hb hseq hsame hlast hdem => ?_, fun s c hw hen hnet hat => ?_, fun s c h => ?_, fun s c t hc hcyc => launchTime_spec t hcyc hc,
    fun s m n hm hlink => ?_, fun s m n hlink => ?_⟩
  · obtain ⟨hen, hnet, hlink⟩ := h
    exact congrArg Host.Outcome.next ((if_neg (by rw [hen, hnet, hlink]; exact nofun)).trans (if_pos (by rw [hbad]; rfl)))
  · have hmod : (s.modRx c fun x => if (0 : Fin 2) = 0 then { x with copyA := newerCopy b x.copyA } else { x with copyB := newerCopy b x.copyB }) =
        s.modRx c fun x => { x with copyA := some b } := modRx_congr (by rw [if_pos rfl, newerCopy_arrives hnew])
    rw [execPduCopyReceived_valid (n := 0) h hv, hmod]
    rfl
  · have hmod : (s.modRx c fun x => if (1 : Fin 2) = 0 then { x with copyA := newerCopy b x.copyA } else { x with copyB := newerCopy b x.copyB }) =
        s.modRx c fun x => { x with copyB := some b } := modRx_congr (by rw [if_neg (by decide), newerCopy_arrives hnew])
    rw [execPduCopyReceived_valid (n := 1) h hv, hmod]
    rfl
  · have hkeep : (if (0 : Fin 2) = 0 then { s.rx c with copyA := newerCopy b (s.rx c).copyA } else
        { s.rx c with copyB := newerCopy b (s.rx c).copyB }) = s.rx c := by
      rw [if_pos rfl, ha, newerCopy_held hold, ← ha]
    rw [execPduCopyReceived_valid (n := 0) h hv, modRx_same hkeep]
    rfl
  · refine congrArg Host.Outcome.next (if_pos ?_)
    obtain h | h | h := h <;> simp [h]
  · unfold State.pduPair
    obtain h | h := h
    · rw [h]
    · rw [h]
      split <;> first | rfl | contradiction
  · exact ⟨congrArg Host.Outcome.next (if_pos hen), congrArg Host.Outcome.next (if_pos hen)⟩
  · exact congrArg Host.Outcome.next (if_neg (by rw [hen]; exact nofun))
  · exact (pduPair_accepts ha hb hseq hsame hlast).trans (pduAccept_permit hdem)
  · obtain ⟨x, hexec, hxs, hxi, hxa⟩ := execPduSend_sends hen hnet hat
    obtain ⟨htx, hmacs, hlo, hbut, honly⟩ := pduSent_shows hw c.isLt x (s.launchTime c ((vget s.tb 1).ticks + 50000 * 65536))
    exact ⟨_, hexec, by rw [htx, hxs], by rw [htx, hxi], by rw [htx, hxa], hmacs, hlo, hbut, honly⟩
  · refine congrArg Host.Outcome.next (if_pos ?_)
    obtain h | h | h := h
    · simp [h]
    · simp [h]
    · rw [h]
      simp
  · have hexec : s.launchOn m n = s.modMac m fun x => { x with
        launch := some ((max s.now (vget s.macs m).freeAt + 63) / 64 * 64)
        freeAt := (max s.now (vget s.macs m).freeAt + 63) / 64 * 64 + 8 * s.byteNs m * (n + 20) } := if_pos hlink
    refine ⟨_, rfl, ?_, ?_, ?_⟩ <;> rw [hexec]
    · rw [mac_modMac hm]
    · rw [mac_modMac hm]
    · exact (State.modMac_in (Within.refl (Part.mask [.macs]) s) rfl _ _).only
  · exact if_neg (by rw [hlink]; exact nofun)

end Sys2Proof.Machine
end

section
/-!
PROOFS. The safety commands and their two-step confirmation (R304 to R306, R317, R322, R335, R412, R413).
-/
namespace Sys2Proof.Machine

variable {s : State}

/-! ### Step 1 -/

/-- The prepared action recorded, with the free value of its token taken. -/
def State.prepared (s : State) (p : Option Prepared) : State := { s with fcp := { s.fcp with prep := p } }

/-- The record of a prepared action touches neither the mailboxes nor the commands in flight. -/
theorem State.Serves.prepared {op : Nat} {tag : Fin 128} {e : Entry} (h : s.Serves op tag e) (p : Option Prepared) :
    (s.prepared p).Serves op tag e := by
  obtain ⟨hinv, hready, hshape⟩ := h
  exact ⟨⟨hinv.regs, hinv.depth, hinv.rings, hinv.stores⟩, hready, hshape⟩

theorem State.Serves.bump {op : Nat} {tag : Fin 128} {e : Entry} (h : s.Serves op tag e) : s.bump.Serves op tag e := by
  obtain ⟨hinv, hready, hshape⟩ := h
  exact ⟨⟨hinv.regs, hinv.depth, hinv.rings, hinv.stores⟩, hready, hshape⟩

theorem prepared_only (p : Option Prepared) : s.Only (s.prepared p) [.fcp] := fun q hq => by
  cases q <;> first | rfl | exact absurd hq (by decide)

theorem complete_prep (tag status pnum : Nat) (res pay : List Byte) : (s.complete tag status pnum res pay).fcp.prep = s.fcp.prep := by
  show (s.complete tag status pnum res pay).fcp.rest.prep = s.fcp.rest.prep
  rw [complete_rest]

/-- A command answered behind a change of the prepared action. -/
theorem prepared_answers {op : Nat} {tag : Fin 128} {e : Entry} (h : s.Serves op tag e) (p : Option Prepared) {status : Nat} (res : List Byte)
    (hs : status < 65536) : ((s.prepared p).complete e.tag status 0 res []).fcp.prep = p ∧
      ((s.prepared p).complete e.tag status 0 res []).Answered tag status res [] ∧
      s.Only ((s.prepared p).complete e.tag status 0 res []) [.fcp, .macs] := by
  have hserves := h.prepared p
  have hset := prepared_only (s := s) p
  have hprep : (s.prepared p).fcp.prep = p := rfl
  generalize s.prepared p = t at *
  exact ⟨(complete_prep _ _ _ _ _).trans hprep, hserves.completed 0 res [] hs, fun q hq =>
    Part.same_trans (hset q fun h => hq (List.mem_singleton.mp h ▸ List.mem_cons_self)) (State.complete_only e.tag status 0 res [] q hq)⟩

/-- Step 1 where the state allows it and nothing is prepared. -/
theorem prepare_passes {e : Entry} {l : List Nat} (hst : s.stwState ∈ l) (hnone : s.fcp.prep = none) : s.prepare e l =
    ((s.prepared (some ⟨e.mb, e.op, max 1 (Config.freeWord s.fresh).toNat, e.digest, e.args, s.now⟩)).bump).complete e.tag FS.FS_CONF_REQ 0
      (leBytes 4 (max 1 (Config.freeWord s.fresh).toNat) ++ leBytes 4 e.digest) [] :=
  (if_neg (by rw [List.contains_iff_mem.mpr hst]; exact nofun)).trans (if_neg (by rw [hnone]; exact nofun))

theorem prepare_elsewhere {e : Entry} {l : List Nat} (hst : s.stwState ∉ l) : s.prepare e l = s.done e.tag FS.FS_STW_STATE :=
  if_pos (by rw [Bool.eq_false_iff.mpr fun h => hst (List.contains_iff_mem.mp h)]; rfl)

theorem prepare_busy {e : Entry} {l : List Nat} (hst : s.stwState ∈ l) (hsome : s.fcp.prep.isSome = true) :
    s.prepare e l = s.done e.tag FS.FS_BUSY :=
  (if_neg (by rw [List.contains_iff_mem.mpr hst]; exact nofun)).trans (if_pos hsome)

/-! ### The self-test -/

theorem haltStarts_canon (hw : s.Canon) (l tag codes start : Nat) : (s.haltStarts l tag codes start).Canon := by
  unfold State.haltStarts
  simp only
  split
  · exact hw
  · split
    · exact hw
    · split
      · exact hw
      · refine canonAfterPost (canonAfterCount ?_ _ _) _ _ _
        exact hw

theorem haltLane_canon (hw : s.Canon) (l tag codes : Nat) : (s.haltLane l tag codes).Canon := by
  unfold State.haltLane
  simp only
  split
  · exact canonAfterModLane (haltStarts_canon hw _ _ _ _) _ _
  · split
    · exact hw
    · split
      · exact hw
      · exact canonAfterModLane (haltStarts_canon hw _ _ _ _) _ _

theorem haltAll_canon (hw : s.Canon) : s.haltAll.Canon :=
  forUnits_keeps (P := State.Canon) hw fun t l _ ht => by
    split
    · exact ht
    · exact haltLane_canon ht _ _ _

theorem haltAll_now : s.haltAll.now = s.now :=
  (State.haltAll_in (Within.refl (Part.mask [.regs, .evq, .trace, .gl, .recd]) s) rfl).only .now (by decide)

theorem runTest_drives (hw : s.Canon) (st : SelfTest) :
    (s.runTest st true).stw.test = some s.now ∧ (s.runTest st true).fld F.GL_GDEN_PIN 0 = st.low.toNat := by
  have hcanon := haltAll_canon hw
  have hnow := haltAll_now (s := s)
  unfold State.runTest
  generalize s.haltAll = t at *
  refine ⟨?_, ?_⟩
  · show ((t.modStw fun w => { w with test := some t.now }).setFld F.GL_GDEN_PIN 0 st.low.toNat).stw.test = _
    rw [State.setFld_stw, ← hnow]
    rfl
  · exact (State.fld_setFld_same (canonAfterModStw hcanon _) _ _ _ (by decide)).trans (Nat.mod_eq_of_lt (by exact st.low.isLt))

/-! ### The conditions of arming (R304) -/

theorem armFirst_zero : s.armFirst = 0 ↔ s.tileVerifies = true ∧ s.anyCause = false ∧ s.inputsTested = true ∧
    ∀ r, r < 4 → s.flag F.PDU_STAT_EN r = true → s.rxAlive r = true := by
  unfold State.armFirst
  cases htile : s.tileVerifies <;> cases hcause : s.anyCause <;> cases hin : s.inputsTested <;> simp

theorem armWhy_zero (st : SelfTest) : s.armWhy st = 0 ↔ s.armFirst = 0 ∧ s.pathsPass st = true ∧ gdenPass st = true ∧ s.allOff = true := by
  unfold State.armWhy
  by_cases h0 : s.armFirst = 0
  · cases hpaths : s.pathsPass st <;> cases hgden : gdenPass st <;> cases hoff : s.allOff <;> simp [h0]
  · simp [h0]

theorem armNow_unarmed (tag : Nat) (st : SelfTest) (h : s.stwState = 1) : s.armNow tag st =
    if s.armWhy st != 0 then ((s.cond (s.armFirst == 0) fun t => t.runTest st t.allOff).setFld F.STW_STATUS_ARM_WHY 0 (s.armWhy st)).complete tag
      FS.FS_STW_STATE 0 (leBytes 1 (s.armWhy st)) []
    else ((s.cond (s.armFirst == 0) fun t => t.runTest st t.allOff).setFld F.STW_STATUS_ARM_WHY 0 (s.armWhy st)).toArmed.done tag FS.FS_OK :=
  if_neg (by rw [h]; exact nofun)

/-! ### Reset -/

theorem resetNow_judged (tag : Nat) (st : SelfTest) (h : s.stwState = 3 ∨ s.stwState = 4) {s1 : State} (h1 : s1 = s.endDiscrepancies) :
    s.resetNow tag st = if s1.anyCause || s1.stw.low.any s1.siUsed
        || (List.range 4).any (fun r => s1.flag F.PDU_STAT_EN r && !(s1.rx r).since) then s.done tag FS.FS_STW_STATE
      else (((((s1.runTest st s1.noneSwitching).modStw fun w => { w with sgr := false, inhibit := false }).setFlag
        F.STW_STATUS_SGR_DONE 0 false).cond (s1.noneSwitching && s1.pathsPass st && gdenPass st) fun t => t.setFlag
        F.STW_STATUS_SGR_RB_ERR 0 false).toArmed).done tag FS.FS_OK := by
  subst h1
  exact if_neg (by obtain h | h := h <;> rw [h] <;> decide)

/-! ### ARMED -/

/-- What ARMED starts anew: STW_CAUSE, and INIT of the next sent PDU. -/
def State.causesAnew (s : State) : State :=
  (((s.setFld F.STW_CAUSE_FIRST 0 0).setFld F.STW_CAUSE_LAST 0 0).setFld F.STW_CAUSE_PNUM 0 0).modStw fun w =>
    { w with tx := vmod (vmod w.tx 0 fun t => { t with init := true }) 1 fun t => { t with init := true } }

theorem causesAnew_shows (hw : s.Canon) : s.causesAnew.Canon ∧ s.causesAnew.stwState = s.stwState ∧ s.causesAnew.fld F.STW_CAUSE_FIRST 0 = 0 := by
  have hwr : s.Writes s.causesAnew [(F.STW_CAUSE_FIRST, 0), (F.STW_CAUSE_LAST, 0), (F.STW_CAUSE_PNUM, 0)] :=
    ((((State.Writes.refl hw _).setFld _ _ _ (by simp) (by decide)).setFld _ _ _ (by simp) (by decide)).setFld _ _ _ (by simp) (by decide)).modStw _
  have h1 := canonAfterFld hw F.STW_CAUSE_FIRST 0 0
  refine ⟨hwr.canon, hwr.but.fld _ _ (by decide), ?_⟩
  refine (State.fld_setFld_apart (canonAfterFld h1 F.STW_CAUSE_LAST 0 0) _ _ _ _ _ (by decide)).trans
    ((State.fld_setFld_apart h1 _ _ _ _ _ (by decide)).trans ?_)
  rw [State.fld_setFld_same hw _ _ _ (by decide), Nat.zero_mod]

/-- The Steward leaves UNARMED for state n. -/
theorem toStw_unarmed (hw : s.Canon) (h : s.stwState = 1) {n : Nat} (hn : n < 8) (h1 : n ≠ 1) :
    (s.toStw n).stwState = n ∧ (s.toStw n).fld F.STW_CAUSE_FIRST 0 = s.fld F.STW_CAUSE_FIRST 0 := by
  obtain ⟨hstop, hbut⟩ := spurStop_leaves hw 2
  have heq : s.toStw n = (((s.spurStop 2).setFld F.STW_STATUS_STATE 0 n).post EV.EV_STW_STATE noUnit (1 + 256 * n)).applyRelease := by
    unfold State.toStw
    simp only [h]
    exact if_neg h1.symm
  have hset := State.fld_setFld_same hstop F.STW_STATUS_STATE 0 n (by decide)
  have hcause : ((s.spurStop 2).setFld F.STW_STATUS_STATE 0 n).fld F.STW_CAUSE_FIRST 0 = s.fld F.STW_CAUSE_FIRST 0 :=
    (State.fld_setFld_apart hstop _ _ _ _ _ (by decide)).trans (hbut.fld _ _ (by decide))
  have hcanon := canonAfterFld hstop F.STW_STATUS_STATE 0 n
  rw [heq]
  generalize (s.spurStop 2).setFld F.STW_STATUS_STATE 0 n = t at *
  have hrest : t.Writes (t.post EV.EV_STW_STATE noUnit (1 + 256 * n)).applyRelease ((F.GL_GDEN_STEW_LOW, 0) :: evqFlds) :=
    ((State.Writes.refl hcanon _).post _ _ _ fun x hx => List.mem_cons_of_mem _ hx).setFld _ _ _ List.mem_cons_self (by decide)
  exact ⟨(hrest.but.fld _ _ (by decide)).trans (hset.trans (Nat.mod_eq_of_lt (by exact hn))), (hrest.but.fld _ _ (by decide)).trans hcause⟩

theorem safConfirm_carries {tag : Fin 128} {e : Entry} {st : SelfTest} (h : s.Serves 0x0810 tag e) (hwhy : s.confWhy e = 0) :
    exec (.safConfirm tag st) s = .next (if e.a16 0 = 0x0801 then (s.prepared none).armNow e.tag st
      else if e.a16 0 = 0x0802 then (s.prepared none).disarmNow e.tag else if e.a16 0 = 0x0803 then (s.prepared none).resetNow e.tag st
      else (s.prepared none).commitTile e.tag (match s.fcp.prep with
        | some p => leAt p.args 0 4
        | none => 0)) :=
  (serve_eq h _).trans (congrArg _ (if_neg (by rw [hwhy]; exact nofun)))

/-- Settles O35: step 1 by the Steward's state, step 2 by the prepared action it names and by the conditions of R304, R305 and R317. -/
theorem safetyCommandsComplete : Obligations.SafetyCommandsComplete := by
  unfold Obligations.SafetyCommandsComplete
  refine ⟨fun s tag e h ha hst => ?_, fun s tag e h h0 h1 => ?_, fun s tag e h h0 h1 => ?_,
    fun s tag e => ⟨fun h => serve_eq h _, fun h => serve_eq h _, fun h => serve_eq h _, fun h => serve_eq h _⟩,
    fun s op tag e l h hst hnone => ?_, fun s op tag e l h hst => ?_, fun s op tag e l h hst hsome => ?_, fun s tag e st h hwhy => ?_,
    fun s u tag e st h hwhy hu => ?_, fun s tag st h hwhy => ?_, fun s tag st h hfirst => ?_, fun s tag st h hfirst hwhy => ?_,
    fun s st => ?_, fun s st hset => ?_, fun s st hw => ⟨(runTest_drives hw st).1, (runTest_drives hw st).2, rfl⟩, fun s tag h hoff hact => ?_,
    fun s tag st h hc => ?_, fun s s1 tag st h h1 hc hlow hrx => ?_, fun s hw h => ?_, fun s => ?_⟩
  · have hexec : exec (.safCfgStage tag) s = .next ((s.modStw fun w =>
        { w with staged := Memory.setMany (fun _ => 0#8) w.staged (1024 * e.a 0) e.payload }).done e.tag FS.FS_OK) :=
      (serve_eq h _).trans (congrArg _ ((if_neg (Nat.not_lt.mpr ha)).trans (if_neg (by rw [hst]; exact nofun))))
    have hans := h.done_after (t := s.modStw fun w => { w with staged := Memory.setMany (fun _ => 0#8) w.staged (1024 * e.a 0) e.payload })
      (status := FS.FS_OK) rfl rfl (by decide)
    have hstw := State.done_stw (s := s.modStw fun w => { w with staged := Memory.setMany (fun _ => 0#8) w.staged (1024 * e.a 0) e.payload })
      e.tag FS.FS_OK
    exact ⟨_, hexec, by rw [hstw]; rfl, by rw [hstw]; rfl, hans,
      (State.done_in (State.modStw_in (Within.refl (Part.mask [.fcp, .stw, .macs]) s) rfl _) rfl _ _).only⟩
  · refine ⟨_, (serve_eq h _).trans (congrArg _ (if_neg (by omega))), ?_, State.complete_only _ _ _ _ _⟩
    rw [if_pos h0]
    exact h.completed _ _ _ (by decide)
  · refine ⟨_, (serve_eq h _).trans (congrArg _ (if_neg (by omega))), ?_, State.complete_only _ _ _ _ _⟩
    rw [if_neg (by omega)]
    exact h.completed _ _ _ (by decide)
  · rw [prepare_passes hst hnone]
    have hpos : 0 < max 1 (Config.freeWord s.fresh).toNat := Nat.lt_of_lt_of_le Nat.zero_lt_one (Nat.le_max_left _ _)
    generalize max 1 (Config.freeWord s.fresh).toNat = k at *
    have hserves := (h.prepared (some ⟨e.mb, e.op, k, e.digest, e.args, s.now⟩)).bump
    have hset : s.Only (s.prepared (some ⟨e.mb, e.op, k, e.digest, e.args, s.now⟩)).bump [.fcp, .fresh] := fun p hp => by
      cases p <;> first | rfl | exact absurd hp (by decide)
    have hprep : (s.prepared (some ⟨e.mb, e.op, k, e.digest, e.args, s.now⟩)).bump.fcp.prep = some ⟨e.mb, e.op, k, e.digest, e.args, s.now⟩ := rfl
    generalize (s.prepared (some ⟨e.mb, e.op, k, e.digest, e.args, s.now⟩)).bump = t at *
    refine ⟨k, hpos, hserves.completed 0 _ [] (by decide), (complete_prep _ _ _ _ _).trans hprep, fun p hp => ?_⟩
    simp only [List.mem_cons, List.not_mem_nil, or_false, not_or] at hp
    exact Part.same_trans (hset p (by simp [hp])) (State.complete_only e.tag FS.FS_CONF_REQ 0 _ [] p (by simp [hp]))
  · rw [prepare_elsewhere hst]
    exact ⟨h.completed _ _ _ (by decide), complete_prep _ _ _ _ _, State.done_only _ _⟩
  · rw [prepare_busy hst hsome]
    exact ⟨h.completed _ _ _ (by decide), complete_prep _ _ _ _ _, State.done_only _ _⟩
  · have hexec : exec (.safConfirm tag st) s = .next ((s.prepared none).complete e.tag FS.FS_CONF 0 (leBytes 1 (s.confWhy e)) []) :=
      (serve_eq h _).trans (congrArg _ (if_pos (bne_iff_ne.mpr hwhy)))
    exact ⟨_, hexec, prepared_answers h none (leBytes 1 (s.confWhy e)) (by decide)⟩
  · have hexec := safConfirm_carries (st := st) h hwhy
    have hprep : u = s.prepared none := hu
    rw [← hprep, h.tag_eq] at hexec
    refine ⟨fun ha => hexec.trans ?_, fun ha => hexec.trans ?_, fun ha => hexec.trans ?_, fun p hp ha => hexec.trans ?_⟩ <;>
      simp only [ha, Nat.reduceEqDiff, if_true, if_false]
    rw [hp]
  · obtain ⟨hfirst, -, -, hoff⟩ := (armWhy_zero st).mp hwhy
    rw [armNow_unarmed tag st h, hwhy, hfirst]
    show ((s.runTest st s.allOff).setFld F.STW_STATUS_ARM_WHY 0 0).toArmed.done tag FS.FS_OK = _
    rw [hoff]
  · have hwhy : s.armWhy st = s.armFirst := if_pos (bne_iff_ne.mpr hfirst)
    rw [armNow_unarmed tag st h, hwhy, if_pos (bne_iff_ne.mpr hfirst), beq_eq_false_iff_ne.mpr hfirst]
    rfl
  · rw [armNow_unarmed tag st h, if_pos (bne_iff_ne.mpr hwhy), hfirst]
    rfl
  · rw [armWhy_zero, armFirst_zero]
    simp only [and_assoc]
  · have htile : s.tileVerifies = false := by
      unfold State.tileVerifies
      rw [hset]
      rfl
    have hfirst : s.armFirst = 1 := if_pos (by rw [htile]; rfl)
    exact (if_pos (by rw [hfirst]; rfl)).trans hfirst
  · exact (if_neg (by rw [h]; exact nofun)).trans (if_neg (by rw [hoff, hact]; exact nofun))
  · rw [resetNow_judged tag st h rfl, if_pos (by rw [hc]; rfl)]
  · refine (resetNow_judged tag st h h1).trans (if_neg fun hbad => ?_)
    rw [Bool.or_eq_true, Bool.or_eq_true, hc] at hbad
    obtain (hbad | hbad) | hbad := hbad
    · exact absurd hbad nofun
    · obtain ⟨i, hi, hused⟩ := List.any_eq_true.mp hbad
      exact absurd ((hlow i hi).symm.trans hused) nofun
    · obtain ⟨r, hr, hsince⟩ := List.any_eq_true.mp hbad
      rw [Bool.and_eq_true, Bool.not_eq_true'] at hsince
      exact absurd ((hrx r (List.mem_range.mp hr) hsince.1).symm.trans hsince.2) nofun
  · obtain ⟨hcanon, hst, hfirst⟩ := causesAnew_shows hw
    obtain ⟨hstate, hcause⟩ := toStw_unarmed hcanon (hst.trans h) (n := 2) (by decide) (by decide)
    exact ⟨hstate, hcause.trans hfirst⟩
  · exact ⟨_, rfl, rfl, rfl, prepared_only none⟩

end Sys2Proof.Machine
end

section
/-!
PROOFS. The field outputs: what drives them and what their readbacks show (R325, R363 to R366, R370).
-/
namespace Sys2Proof.Machine

variable {s t : State}

/-! ### Bits of a set of units -/

theorem bits_sum (f : Nat → Bool) : ∀ n, (((List.range n).filter f).map (2 ^ ·)).sum < 2 ^ n ∧
    ∀ m, m < n → (((List.range n).filter f).map (2 ^ ·)).sum.testBit m = f m := by
  intro n
  induction n with
  | zero => exact ⟨Nat.zero_lt_one, fun m hm => absurd hm (Nat.not_lt_zero m)⟩
  | succ n ih =>
    obtain ⟨hlt, hbit⟩ := ih
    have hsum : (((List.range (n + 1)).filter f).map (2 ^ ·)).sum = (if f n then 2 ^ n else 0) + (((List.range n).filter f).map (2 ^ ·)).sum := by
      rw [List.range_succ, List.filter_append, List.map_append, List.sum_append, Nat.add_comm]
      cases h : f n <;> simp [h]
    rw [hsum]
    generalize (((List.range n).filter f).map (2 ^ ·)).sum = k at *
    refine ⟨?_, fun m hm => ?_⟩
    · rw [Nat.pow_succ]
      split <;> omega
    · by_cases hmn : m = n
      · subst hmn
        cases h : f m
        · rw [if_neg nofun, Nat.zero_add]
          exact Nat.testBit_lt_two_pow hlt
        · rw [if_pos rfl, Nat.testBit_two_pow_add_eq, Nat.testBit_lt_two_pow hlt]
          rfl
      · have hlt' : m < n := by omega
        cases f n
        · rw [if_neg nofun, Nat.zero_add]
          exact hbit m hlt'
        · rw [if_pos rfl, Nat.testBit_two_pow_add_gt hlt']
          exact hbit m hlt'

theorem bitOf_outBits (f : Nat → Bool) {m : Nat} (hm : m < 8) : bitOf (outBits f) m = f m := (bits_sum f 8).2 m hm

theorem outBits_lt (f : Nat → Bool) : outBits f < 256 := (bits_sum f 8).1

theorem bitOf_and (a b m : Nat) : bitOf (a &&& b) m = (bitOf a m && bitOf b m) := Nat.testBit_and a b m

/-! ### What turns an output on -/

/-- The fields that turn an output on or off. -/
def doFlds : List Fld := [F.FIO_DO_APPLIED, F.FIO_DO_STW_EN, F.FIO_STAT_OVL, F.FIO_STAT_VF_UV, F.FIO_STAT_VF_OV]

/-- Other fields leave the outputs. -/
theorem doOn_of_but {l : List (Fld × Nat)} (h : s.RegsBut t l) (hl : doFlds.all (fun f => l.all fun x => f.apart x.1) = true)
    (hp : t.fio.pulse = s.fio.pulse) (m : Nat) : t.doOn m = s.doOn m := by
  have hf : ∀ f ∈ doFlds, l.all (fun x => f.apart x.1) = true := fun f hf => List.all_eq_true.mp hl f hf
  unfold State.doOn
  rw [h.fld F.FIO_DO_APPLIED 0 (hf _ (by decide)), h.fld F.FIO_DO_STW_EN 0 (hf _ (by decide)), h.fld F.FIO_STAT_OVL 0 (hf _ (by decide)),
    h.flag F.FIO_STAT_VF_UV 0 (hf _ (by decide)), h.flag F.FIO_STAT_VF_OV 0 (hf _ (by decide)), hp]

theorem doOn_undervoltage (h : s.flag F.FIO_STAT_VF_UV 0 = true) (m : Nat) : s.doOn m = false := by
  unfold State.doOn
  rw [h]
  simp

theorem doOn_overvoltage (h : s.flag F.FIO_STAT_VF_OV 0 = true) (m : Nat) : s.doOn m = false := by
  unfold State.doOn
  rw [h]
  simp

theorem doOn_overload {m : Nat} (h : bitOf (s.fld F.FIO_STAT_OVL 0) m = true) : s.doOn m = false := by
  unfold State.doOn
  rw [h]
  simp

/-! ### The outputs follow -/

/-- Readbacks that show no shorted output stay so where the pins, their readings and the tile stay. -/
theorem outputsWell_of (h : s.outputsWell) (hpin : t.fld F.FIO_DO_PIN 0 = s.fld F.FIO_DO_PIN 0) (hread : t.fio.read = s.fio.read)
    (hstw : t.stw = s.stw) : t.outputsWell := by
  intro m hm hsafe hbit
  have hsame : t.isSafeOut m = s.isSafeOut m := by
    unfold State.isSafeOut State.safD State.saf
    rw [hstw]
  rw [hpin]
  exact h m hm (hsame ▸ hsafe) (hread ▸ hbit)

/-- With such readbacks no output is latched off. -/
theorem doSync_well (h : s.outputsWell) : s.doSync = s.doNote := by
  have hnone : ((List.range 8).filter fun m => bitOf s.fio.on m && !s.doOn m && s.shortedOut m) = [] := by
    refine List.filter_eq_nil_iff.mpr fun m hm hc => ?_
    unfold State.shortedOut at hc
    simp only [Bool.and_eq_true, Bool.not_eq_true'] at hc
    obtain ⟨-, ⟨⟨hsafe, hread⟩, hpin⟩, -⟩ := hc
    exact absurd ((h m (List.mem_range.mp hm) hsafe hread).symm.trans hpin) nofun
  unfold State.doSync
  rw [hnone]
  rfl

theorem doNote_fio : s.doNote.fio.on = outBits s.doOn ∧ s.doNote.fio.pulse = s.fio.pulse ∧ s.doNote.fio.held = s.fio.held :=
  ⟨rfl, rfl, rfl⟩

theorem doNote_writes {l : List (Fld × Nat)} (h : s.Writes t l) (hm : (F.FIO_DO_PIN, 0) ∈ l) : s.Writes t.doNote l :=
  (h.setFld F.FIO_DO_PIN 0 _ hm (by decide)).same rfl

theorem doNote_only : s.Only s.doNote [.regs, .fio] := (State.doNote_in (Within.refl (Part.mask [.regs, .fio]) s) rfl).only

/-- The readback of an output that turns off is 0; the others stay (R365). -/
theorem doNote_pin (hw : s.Canon) {m : Nat} (hm : m < 8) : bitOf (s.doNote.fld F.FIO_DO_PIN 0) m =
    (bitOf (s.fld F.FIO_DO_PIN 0) m && !(bitOf s.fio.on m && !s.doOn m)) := by
  have hset : s.doNote.fld F.FIO_DO_PIN 0 =
      s.fld F.FIO_DO_PIN 0 &&& outBits fun m => !(bitOf s.fio.on m && !bitOf (outBits s.doOn) m) :=
    (State.fld_setFld_same hw _ _ _ (by decide)).trans
      (Nat.mod_eq_of_lt (Nat.lt_of_le_of_lt Nat.and_le_right (outBits_lt _)))
  rw [hset, bitOf_and, bitOf_outBits _ hm, bitOf_outBits _ hm]

/-- A flag or a field of FIO changes, no output being shorted: what the outputs show. -/
theorem sync_shows {u : State} {l : List (Fld × Nat)} (hu : s.Writes u l) (hw : s.outputsWell)
    (hl : l.all (fun x => F.FIO_DO_PIN.apart x.1) = true) (hfio : u.fio.on = s.fio.on ∧ u.fio.read = s.fio.read) (hstw : u.stw = s.stw) :
    u.Writes u.doSync [(F.FIO_DO_PIN, 0)] ∧ s.Writes u.doSync ((F.FIO_DO_PIN, 0) :: l) ∧ (∀ m, u.doSync.doOn m = u.doOn m) ∧
      ∀ m, m < 8 → bitOf (u.doSync.fld F.FIO_DO_PIN 0) m = (bitOf (s.fld F.FIO_DO_PIN 0) m && !(bitOf s.fio.on m && !u.doSync.doOn m)) := by
  have hpin := hu.but.fld F.FIO_DO_PIN 0 hl
  rw [doSync_well (outputsWell_of hw hpin hfio.2 hstw)]
  have hnote := doNote_writes (State.Writes.refl hu.canon [(F.FIO_DO_PIN, 0)]) List.mem_cons_self
  have hon := doOn_of_but hnote.but (by decide) (doNote_fio (s := u)).2.1
  refine ⟨hnote, (hu.trans hnote).mono fun x hx => ?_, hon, fun m hm => ?_⟩
  · exact (List.mem_append.mp hx).elim (List.mem_cons_of_mem _) fun h => List.mem_singleton.mp h ▸ List.mem_cons_self
  · rw [doNote_pin hu.canon hm, hpin, hfio.1, hon m]

/-- VFIELD leaves or enters its range. -/
theorem vfield_changes (hw : s.Canon) (hwell : s.outputsWell) {f : Fld} {b : Bool} (hne : s.flag f 0 ≠ b) (hf : f.good = true)
    (hpin : F.FIO_DO_PIN.apart f = true) (hfp : f.apart F.FIO_DO_PIN = true) (hevq : evqFlds.all (fun x => f.apart x.1) = true) :
    ∃ u : State, s.vfield f b = u.post EV.EV_VFIELD noUnit (b2n (u.flag F.FIO_STAT_VF_UV 0) + 2 * b2n (u.flag F.FIO_STAT_VF_OV 0)) ∧
      u.flag f 0 = b ∧ (s.vfield f b).flag f 0 = b ∧ s.Writes u [(F.FIO_DO_PIN, 0), (f, 0)] ∧ u.evq = s.evq ∧
      s.RegsBut (s.vfield f b) ((f, 0) :: (F.FIO_DO_PIN, 0) :: evqFlds) := by
  have hset : s.Writes (s.setFlag f 0 b) [(f, 0)] := (State.Writes.refl hw _).setFlag _ _ _ List.mem_cons_self hf
  obtain ⟨hwr, hall, -, -⟩ := sync_shows hset hwell (by simp [hpin]) (by rw [State.setFlag_fio]; exact ⟨rfl, rfl⟩) (State.setFlag_stw _ _ _ _)
  have hevq' : (s.setFlag f 0 b).doSync.evq = s.evq := by
    rw [doSync_well (outputsWell_of hwell (hset.but.fld _ _ (by simp [hpin])) (by rw [State.setFlag_fio]) (State.setFlag_stw _ _ _ _))]
    exact (doNote_only .evq (by decide)).trans (State.setFlag_evq _ _ _ _)
  have heq : s.vfield f b = (s.setFlag f 0 b).doSync.post EV.EV_VFIELD noUnit
      (b2n ((s.setFlag f 0 b).doSync.flag F.FIO_STAT_VF_UV 0) + 2 * b2n ((s.setFlag f 0 b).doSync.flag F.FIO_STAT_VF_OV 0)) := if_neg hne
  have hflag : (s.setFlag f 0 b).doSync.flag f 0 = b :=
    (hwr.but.flag _ _ (by simp [hfp])).trans (State.flag_setFlag_same hw _ _ _ hf)
  rw [heq]
  generalize (s.setFlag f 0 b).doSync = u at *
  refine ⟨u, rfl, hflag, ?_, hall, hevq', ?_⟩
  · exact (((State.Writes.refl hall.canon evqFlds).post _ _ _ fun _ h => h).but.flag _ _ hevq).trans hflag
  · refine ((hall.mono fun x hx => ?_).post _ _ _ fun x hx => List.mem_cons_of_mem _ (List.mem_cons_of_mem _ hx)).but
    simp only [List.mem_cons, List.not_mem_nil, or_false] at hx ⊢
    exact hx.elim (fun h => .inr (.inl h)) .inl

end Sys2Proof.Machine
end

section
/-!
PROOFS. Field and remote I/O (R356 to R370).
-/
namespace Sys2Proof.Machine

variable {s : State}

/-! ### Inputs -/

/-- The counter of input n after a sample (R361). -/
def State.diNext (s : State) (n : Nat) (raw : Bool) : Nat :=
  if raw then min (min (vget s.fio.cnt n) (s.diN n) + 1) (s.diN n) else min (vget s.fio.cnt n) (s.diN n) - 1

theorem diCount_shows (hw : s.Canon) {n : Nat} (hn : n < 16) (raw : Bool) : vget (s.diCount n raw).fio.cnt n = s.diNext n raw ∧
    s.RegsBut (s.diCount n raw) [(F.FIO_DI_FILT, 0)] ∧ s.Only (s.diCount n raw) [.regs, .fio] := by
  have hset : ({ s with fio := { s.fio with cnt := vmod s.fio.cnt n fun _ => s.diNext n raw } } : State).Canon := hw
  refine ⟨?_, ?_, (State.diCount_in (Within.refl (Part.mask [.regs, .fio]) s) rfl n raw).only⟩
  · unfold State.diCount
    simp only
    rw [State.setFld_fio]
    exact vget_same _ _ _ hn
  · exact (((State.Writes.refl hw _).same (u := { s with fio := { s.fio with cnt := vmod s.fio.cnt n fun _ => s.diNext n raw } }) rfl).setFld _ _ _
      List.mem_cons_self (by decide)).but

theorem diRaw_unsupplied (h : s.flag F.FIO_STAT_VF_UV 0 = true ∨ s.flag F.FIO_STAT_VF_OV 0 = true) (n : Nat) (v : Int) : s.diRaw n v = false :=
  if_pos ((Bool.or_eq_true _ _).mpr h)

/-! ### The refresh -/

/-- BANK_REFRESH before the outputs follow: the command stands, silence is over, an overload of an output commanded off is forgotten. -/
def State.refreshed (s : State) (c : Nat) : State :=
  let s2 := ({ s with fio := { s.fio with held := false } }.setFld F.FIO_DO_APPLIED 0 c).setFlag F.FIO_STAT_SILENT 0 false
  s2.setFld F.FIO_STAT_OVL 0 (s2.fld F.FIO_STAT_OVL 0 &&& c)

theorem refreshed_writes (hw : s.Canon) (c : Nat) :
    s.Writes (s.refreshed c) [(F.FIO_DO_APPLIED, 0), (F.FIO_STAT_SILENT, 0), (F.FIO_STAT_OVL, 0)] :=
  ((((State.Writes.refl hw _).same (u := { s with fio := { s.fio with held := false } }) rfl).setFld _ _ _ (by simp) (by decide)).setFlag _ _ _
    (by simp) (by decide)).setFld _ _ _ (by simp) (by decide)

theorem refreshed_shows (hw : s.Canon) {c : Nat} (hc : c < 256) : (s.refreshed c).fld F.FIO_DO_APPLIED 0 = c ∧
    (s.refreshed c).fld F.FIO_STAT_OVL 0 = s.fld F.FIO_STAT_OVL 0 &&& c ∧ (s.refreshed c).flag F.FIO_STAT_SILENT 0 = false := by
  have h0 : ({ s with fio := { s.fio with held := false } } : State).Canon := hw
  have h1 := canonAfterFld h0 F.FIO_DO_APPLIED 0 c
  have h2 := canonAfterFlag h1 F.FIO_STAT_SILENT 0 false
  have hovl : ((({ s with fio := { s.fio with held := false } } : State).setFld F.FIO_DO_APPLIED 0 c).setFlag F.FIO_STAT_SILENT 0 false).fld
      F.FIO_STAT_OVL 0 = s.fld F.FIO_STAT_OVL 0 :=
    (State.fld_setFlag_apart h1 _ _ _ _ _ (by decide)).trans (State.fld_setFld_apart h0 _ _ _ _ _ (by decide))
  refine ⟨?_, ?_, ?_⟩
  · refine (State.fld_setFld_apart h2 _ _ _ _ _ (by decide)).trans ((State.fld_setFlag_apart h1 _ _ _ _ _ (by decide)).trans
      ((State.fld_setFld_same h0 _ _ _ (by decide)).trans (Nat.mod_eq_of_lt (by exact hc))))
  · refine (State.fld_setFld_same h2 _ _ _ (by decide)).trans ?_
    rw [hovl]
    exact Nat.mod_eq_of_lt (Nat.lt_of_le_of_lt Nat.and_le_right hc)
  · exact (State.flag_setFld_apart h2 _ _ _ _ _ (by decide)).trans (State.flag_setFlag_same h1 _ _ _ (by decide))

theorem refreshed_parts (c : Nat) : (s.refreshed c).fio = { s.fio with held := false } ∧ (s.refreshed c).stw = s.stw := by
  unfold State.refreshed
  simp only
  rw [State.setFld_fio, State.setFlag_fio, State.setFld_fio, State.setFld_stw, State.setFlag_stw, State.setFld_stw]
  exact ⟨rfl, rfl⟩

theorem readPins_writes {t : State} {l : List (Fld × Nat)} (h : s.Writes t l) (hm : (F.FIO_DO_PIN, 0) ∈ l) (pins : Nat) :
    s.Writes (t.readPins pins) l := (h.setFld F.FIO_DO_PIN 0 pins hm (by decide)).same rfl

/-- The readbacks taken behind a switch: the outputs stay, and the pins read as they are given. -/
theorem readPins_shows (hw : s.Canon) {pins : Nat} (hp : pins < 256) :
    s.Writes (s.doNote.readPins pins) [(F.FIO_DO_PIN, 0)] ∧ (s.doNote.readPins pins).fld F.FIO_DO_PIN 0 = pins ∧
    (s.doNote.readPins pins).fio.held = s.fio.held ∧ (∀ m, (s.doNote.readPins pins).doOn m = s.doOn m) ∧
    s.Only (s.doNote.readPins pins) [.regs, .fio] := by
  have hnote := doNote_writes (State.Writes.refl hw [(F.FIO_DO_PIN, 0)]) List.mem_cons_self
  have hread := readPins_writes hnote List.mem_cons_self pins
  exact ⟨hread,
    (State.fld_setFld_same hnote.canon _ _ _ (by decide)).trans (Nat.mod_eq_of_lt (by exact hp)), rfl, doOn_of_but hread.but (by decide) rfl,
    (State.readPins_in (State.doNote_in (Within.refl (Part.mask [.regs, .fio]) s) rfl) rfl _).only⟩

theorem execBankRefresh_runs (hdbg : s.hlp.dbgHalted = false) (hg : s.gait ≠ Gait.paddock) (p : BitVec 8) {c : Nat}
    (hc : c = if s.fld F.HLP_STATUS_STATE 0 = 2 then s.hlp.doCmd else s.doSafe) : exec (.bankRefresh p) s =
      .next ((s.refreshed c).doSync.readPins (p.toNat &&& outBits fun m => !(bitOf s.fio.on m && !bitOf (s.refreshed c).doSync.fio.on m))) := by
  subst hc
  exact congrArg Host.Outcome.next (if_neg (by rw [hdbg, beq_eq_false_iff_ne.mpr hg]; exact nofun))

/-! ### An event of the outputs -/

/-- The outputs follow, and the event is counted and posted. -/
theorem syncPost_shows {u : State} {l : List (Fld × Nat)} {cnt : Fld} (code unit data : Nat) (hu : s.Writes u l) (hwell : s.outputsWell)
    (hl : l.all (fun x => F.FIO_DO_PIN.apart x.1) = true) (hfio : u.fio = s.fio) (hstw : u.stw = s.stw) (hevq : u.evq = s.evq)
    (hc : cnt.good = true) (h8 : cnt.hi + 1 - cnt.lo = 8)
    (hcnt : ((F.FIO_DO_PIN, 0) :: evqFlds).all (fun x => cnt.apart x.1) = true)
    (hdo : doFlds.all (fun f => ((F.FIO_DO_PIN, 0) :: (cnt, 0) :: evqFlds).all fun x => f.apart x.1) = true)
    (hpin : ((cnt, 0) :: evqFlds).all (fun x => F.FIO_DO_PIN.apart x.1) = true) :
    u.Writes ((u.doSync.count cnt 0).post code unit data) ((F.FIO_DO_PIN, 0) :: (cnt, 0) :: evqFlds) ∧
      (∀ m, ((u.doSync.count cnt 0).post code unit data).doOn m = u.doOn m) ∧
      (∀ m, m < 8 → u.doOn m = false → bitOf s.fio.on m = true →
        bitOf (((u.doSync.count cnt 0).post code unit data).fld F.FIO_DO_PIN 0) m = false) ∧
      ((u.doSync.count cnt 0).post code unit data).fld cnt 0 = min 255 (u.fld cnt 0 + 1) ∧
      s.Told ((u.doSync.count cnt 0).post code unit data) code unit data := by
  obtain ⟨hsync, -, hon, hshown⟩ := sync_shows hu hwell hl (by rw [hfio]; exact ⟨rfl, rfl⟩) hstw
  have hnote : u.doSync = u.doNote := doSync_well (outputsWell_of hwell (hu.but.fld _ _ hl) (by rw [hfio]) hstw)
  have hparts : u.doSync.evq = s.evq ∧ u.doSync.fio.pulse = u.fio.pulse := by
    rw [hnote]
    exact ⟨(doNote_only .evq (by decide)).trans hevq, doNote_fio.2.1⟩
  obtain ⟨hevq', hpulse⟩ := hparts
  generalize u.doSync = v at *
  have hrest : v.Writes ((v.count cnt 0).post code unit data) ((cnt, 0) :: evqFlds) :=
    ((State.Writes.refl hsync.canon _).count _ _ List.mem_cons_self hc).post _ _ _ fun x hx => List.mem_cons_of_mem _ hx
  have hall : u.Writes ((v.count cnt 0).post code unit data) ((F.FIO_DO_PIN, 0) :: (cnt, 0) :: evqFlds) := hsync.trans hrest
  have hcount := canonAfterCount hsync.canon cnt 0
  have hposted : ((v.count cnt 0).post code unit data).fld cnt 0 = (v.count cnt 0).fld cnt 0 :=
    ((State.Writes.refl hcount evqFlds).post _ _ _ fun _ h => h).but.fld _ _ (by
      rw [List.all_cons, Bool.and_eq_true] at hcnt
      exact hcnt.2)
  refine ⟨hall, doOn_of_but hall.but hdo ?_, fun m hm hoff hwas => ?_, ?_, State.told_of_evq (by rw [State.count_evq]; exact hevq') _ _ _⟩
  · rw [State.post_fio, State.count_fio]
    exact hpulse
  · rw [hrest.but.fld _ _ hpin, hshown m hm, hon, hoff, hwas]
    simp
  · rw [hposted, count_shows8 hsync.canon hc h8, hsync.but.fld cnt 0 (by
      rw [List.all_cons, Bool.and_eq_true] at hcnt
      simp [hcnt.1])]

/-! ### Remote modules -/

theorem rmod_modRmod {r : Nat} (hr : r < 32) (f : RmodSt → RmodSt) : vget (s.modRmod r f).hlp.rmod r = f (vget s.hlp.rmod r) := vget_same _ _ _ hr

theorem modRmod_canon (hw : s.Canon) (r : Nat) (f : RmodSt → RmodSt) : (s.modRmod r f).Canon := hw

theorem leAt_one_lt (l : List Byte) (o : Nat) : leAt l o 1 < 256 := by
  show (l.getD (o + 0) 0#8).toNat + 256 * 0 < 256
  have := (l.getD (o + 0) 0#8).isLt
  omega

/-- Settles O36: inputs by VFIELD, outputs by what commands and latches them, modules by their frames. -/
theorem fieldAndRemoteIoCommandsComplete : Obligations.FieldAndRemoteIoCommandsComplete := by
  unfold Obligations.FieldAndRemoteIoCommandsComplete
  refine ⟨fun s s1 v h1 => ?_, fun s n r hw hn => diCount_shows hw hn r, fun s n v h => diRaw_unsupplied h n v,
    fun s p c hw hwell hdbg hg hc hlt => ?_, fun s p h => ?_, fun s hw hwell hheld hsil => ?_, fun s h => ?_, fun s m hw hwell hon => ?_,
    fun s m h => ?_, fun s k hw hon => ?_, fun s k h => ?_, fun s b hw hwell hne => ?_, fun s b hw hwell hne => ?_, fun s => ⟨?_, ?_⟩,
    fun s r b hw hen hrun hbad => ?_, fun s r b hw hen hrun hlen hin hnew => ?_, fun s r b h => ?_, fun s r hw hen hfresh => ?_, fun s r h => ?_,
    fun s r hen hrun hsby hready => ?_, fun s r h => ?_⟩
  · subst h1
    rfl
  · have hexec := execBankRefresh_runs hdbg hg p hc
    have hwr := refreshed_writes hw c
    obtain ⟨happ, hovl, hsilent⟩ := refreshed_shows hw hlt
    obtain ⟨hfio, hstw⟩ := refreshed_parts (s := s) c
    have honly : s.Only (s.refreshed c) [.regs, .fio] := fun q hq => Part.same_trans
      (show q.same s { s with fio := { s.fio with held := false } } by cases q <;> first | rfl | exact absurd hq (by decide))
      ((State.setFld_in (State.setFlag_in (State.setFld_in (Within.refl (Part.mask [.regs, .fio]) _) rfl _ _ _) rfl _ _ _) rfl _ _ _).only q hq)
    have hsync : (s.refreshed c).doSync = (s.refreshed c).doNote :=
      doSync_well (outputsWell_of hwell (hwr.but.fld _ _ (by decide)) (by rw [hfio]) hstw)
    rw [hsync] at hexec
    generalize s.refreshed c = u at *
    rw [doNote_fio.1] at hexec
    have hbits : ∀ m, m < 8 → bitOf (p.toNat &&& outBits fun m => !(bitOf s.fio.on m && !bitOf (outBits u.doOn) m)) m =
        (p.getLsbD m && !(bitOf s.fio.on m && !u.doOn m)) := fun m hm => by
      rw [bitOf_and, bitOf_outBits _ hm, bitOf_outBits _ hm]
      rfl
    have hlt' : (p.toNat &&& outBits fun m => !(bitOf s.fio.on m && !bitOf (outBits u.doOn) m)) < 256 :=
      Nat.lt_of_le_of_lt Nat.and_le_right (outBits_lt _)
    generalize (p.toNat &&& outBits fun m => !(bitOf s.fio.on m && !bitOf (outBits u.doOn) m)) = pins at *
    obtain ⟨hread, hpin, hheld, hdo, hrest⟩ := readPins_shows hwr.canon hlt'
    generalize u.doNote.readPins pins = t at *
    refine ⟨t, hexec, (hread.but.fld _ _ (by decide)).trans happ, fun m hm => ?_, (hread.but.fld _ _ (by decide)).trans hovl,
      (hread.but.flag _ _ (by decide)).trans hsilent, ?_, ((hwr.trans hread).mono (by simp)).but, fun q hq => ?_⟩
    · rw [hpin, hdo, hbits m hm]
    · rw [hheld, hfio]
    · exact Part.same_trans (honly q hq) (hrest q hq)
  · exact congrArg Host.Outcome.next (if_pos (by obtain h | h := h <;> simp [h]))
  · have hset : s.Writes ((s.setFlag F.FIO_STAT_SILENT 0 true).setFld F.FIO_DO_APPLIED 0 (s.fld F.FIO_CFG_FIO_SAFE 0))
        [(F.FIO_STAT_SILENT, 0), (F.FIO_DO_APPLIED, 0)] :=
      ((State.Writes.refl hw _).setFlag _ _ _ (by simp) (by decide)).setFld _ _ _ (by simp) (by decide)
    have hflag := canonAfterFlag hw F.FIO_STAT_SILENT 0 true
    have hsilent := (State.flag_setFld_apart hflag F.FIO_STAT_SILENT F.FIO_DO_APPLIED 0 0 (s.fld F.FIO_CFG_FIO_SAFE 0) (by decide)).trans
      (State.flag_setFlag_same hw _ _ _ (by decide))
    have happ := (State.fld_setFld_same hflag F.FIO_DO_APPLIED 0 (s.fld F.FIO_CFG_FIO_SAFE 0) (by decide)).trans
      (Nat.mod_eq_of_lt (Nat.mod_lt _ (by decide)))
    have hparts : ((s.setFlag F.FIO_STAT_SILENT 0 true).setFld F.FIO_DO_APPLIED 0 (s.fld F.FIO_CFG_FIO_SAFE 0)).evq = s.evq ∧
        ((s.setFlag F.FIO_STAT_SILENT 0 true).setFld F.FIO_DO_APPLIED 0 (s.fld F.FIO_CFG_FIO_SAFE 0)).fio = s.fio ∧
        ((s.setFlag F.FIO_STAT_SILENT 0 true).setFld F.FIO_DO_APPLIED 0 (s.fld F.FIO_CFG_FIO_SAFE 0)).stw = s.stw := by
      rw [State.setFld_evq, State.setFlag_evq, State.setFld_fio, State.setFlag_fio, State.setFld_stw, State.setFlag_stw]
      exact ⟨rfl, rfl, rfl⟩
    have hexec : exec .silenceTimeout s = .next (((((s.setFlag F.FIO_STAT_SILENT 0 true).setFld F.FIO_DO_APPLIED 0
        (s.fld F.FIO_CFG_FIO_SAFE 0)).doSync).count F.FIO_STAT_SILENT_CNT 0).post EV.EV_FIO_SILENT noUnit 0) :=
      congrArg Host.Outcome.next (if_neg (by rw [hheld, hsil]; exact nofun))
    obtain ⟨hevq, hfio, hstw⟩ := hparts
    generalize (s.setFlag F.FIO_STAT_SILENT 0 true).setFld F.FIO_DO_APPLIED 0 (s.fld F.FIO_CFG_FIO_SAFE 0) = u at *
    obtain ⟨hall, hdo, hpin, hcnt, htold⟩ := syncPost_shows (cnt := F.FIO_STAT_SILENT_CNT) EV.EV_FIO_SILENT noUnit 0 hset hwell (by decide) hfio hstw
      hevq (by decide) (by decide) (by decide) (by decide) (by decide)
    refine ⟨_, hexec, (hall.but.flag _ _ (by decide)).trans hsilent, (hall.but.fld _ _ (by decide)).trans happ,
      fun m hm hoff hwas => hpin m hm ((hdo m).symm.trans hoff) hwas, ?_, htold, (hset.trans hall).but⟩
    rw [hcnt, hset.but.fld _ _ (by decide)]
  · exact congrArg Host.Outcome.next (if_pos (by obtain h | h := h <;> simp [h]))
  · have hset : s.Writes (s.setFld F.FIO_STAT_OVL 0 (s.fld F.FIO_STAT_OVL 0 ||| 2 ^ m.val)) [(F.FIO_STAT_OVL, 0)] :=
      (State.Writes.refl hw _).setFld _ _ _ List.mem_cons_self (by decide)
    have hovl : (s.setFld F.FIO_STAT_OVL 0 (s.fld F.FIO_STAT_OVL 0 ||| 2 ^ m.val)).fld F.FIO_STAT_OVL 0 = s.fld F.FIO_STAT_OVL 0 ||| 2 ^ m.val :=
      (State.fld_setFld_same hw _ _ _ (by decide)).trans (Nat.mod_eq_of_lt
        (Nat.or_lt_two_pow (n := 8) (Nat.mod_lt _ (by decide)) (Nat.pow_lt_pow_right (by decide) m.isLt)))
    have hparts : (s.setFld F.FIO_STAT_OVL 0 (s.fld F.FIO_STAT_OVL 0 ||| 2 ^ m.val)).evq = s.evq ∧
        (s.setFld F.FIO_STAT_OVL 0 (s.fld F.FIO_STAT_OVL 0 ||| 2 ^ m.val)).fio = s.fio ∧
        (s.setFld F.FIO_STAT_OVL 0 (s.fld F.FIO_STAT_OVL 0 ||| 2 ^ m.val)).stw = s.stw := by
      rw [State.setFld_evq, State.setFld_fio, State.setFld_stw]
      exact ⟨rfl, rfl, rfl⟩
    have hexec : exec (.doOverload m) s = .next (((s.setFld F.FIO_STAT_OVL 0 (s.fld F.FIO_STAT_OVL 0 ||| 2 ^ m.val)).doSync.count
        F.FIO_STAT_OVL_CNT 0).post EV.EV_FIO_OVL m 0) := congrArg Host.Outcome.next (if_pos hon)
    obtain ⟨hevq, hfio, hstw⟩ := hparts
    generalize s.setFld F.FIO_STAT_OVL 0 (s.fld F.FIO_STAT_OVL 0 ||| 2 ^ m.val) = u at *
    obtain ⟨hall, hdo, hpin, hcnt, htold⟩ := syncPost_shows (cnt := F.FIO_STAT_OVL_CNT) EV.EV_FIO_OVL m.val 0 hset hwell (by decide) hfio hstw
      hevq (by decide) (by decide) (by decide) (by decide) (by decide)
    have hoff : u.doOn m = false := doOn_overload (by
      rw [hovl]
      exact (Nat.testBit_or _ _ _).trans (by rw [Nat.testBit_two_pow_self, Bool.or_true]))
    refine ⟨_, hexec, (hall.but.fld _ _ (by decide)).trans hovl, ?_, (hdo m).trans hoff, hpin m m.isLt hoff, htold, (hset.trans hall).but⟩
    rw [hcnt, hset.but.fld _ _ (by decide)]
  · exact congrArg Host.Outcome.next (if_neg (by rw [h]; exact nofun))
  · refine ⟨_, congrArg Host.Outcome.next (if_neg (by rw [hon]; exact nofun)), (State.fld_setFld_same hw _ _ _ (by decide)).trans ?_,
      ((State.Writes.refl hw _).setFld _ _ _ List.mem_cons_self (by decide)).but,
      (State.setFld_in (Within.refl (Part.mask [.regs]) s) rfl _ _ _).only⟩
    refine Nat.mod_eq_of_lt (Nat.or_lt_two_pow (n := 4) (Nat.mod_lt _ (by decide)) ?_)
    exact Nat.pow_lt_pow_right (by decide) k.isLt
  · refine congrArg Host.Outcome.next (if_pos ?_)
    unfold State.tpOn
    obtain h | h | h := h <;> simp [h]
  · obtain ⟨u, heq, hflag, hshown, hwr, hevq, hbut⟩ := vfield_changes hw hwell hne (by decide) (by decide) (by decide) (by decide)
    refine ⟨_, rfl, hshown, fun m hm hb => doOn_undervoltage (hshown.trans hb) m, ?_, hbut⟩
    rw [heq, hflag, hwr.but.flag F.FIO_STAT_VF_OV _ (by decide)]
    exact State.told_of_evq hevq _ _ _
  · obtain ⟨u, heq, hflag, hshown, hwr, hevq, hbut⟩ := vfield_changes hw hwell hne (by decide) (by decide) (by decide) (by decide)
    refine ⟨_, rfl, hshown, fun m hm hb => doOn_overvoltage (hshown.trans hb) m, ?_, hbut⟩
    rw [heq, hflag, hwr.but.flag F.FIO_STAT_VF_UV _ (by decide)]
    exact State.told_of_evq hevq _ _ _
  · exact congrArg Host.Outcome.next (if_pos rfl)
  · exact congrArg Host.Outcome.next (if_pos rfl)
  · have hexec : exec (.remoteFrameReceived r b) s = .next (s.count F.RIO_STAT_ERR_CNT r) := by
      refine congrArg Host.Outcome.next ((if_neg (by rw [hen, hrun]; exact nofun)).trans (if_pos ?_))
      rw [Bool.or_eq_true, Bool.or_eq_true, bne_iff_ne, bne_iff_ne, Bool.and_eq_true, beq_iff_eq, or_assoc]
      exact hbad
    refine ⟨_, hexec, (State.fld_count_same hw _ _ (by decide)).trans ?_, ((State.Writes.refl hw _).count _ _ List.mem_cons_self (by decide)).but,
      (State.count_in (Within.refl (Part.mask [.regs]) s) rfl _ _).only⟩
    show satAdd (s.fld F.RIO_STAT_ERR_CNT r) 1 255 = _
    unfold satAdd
    split <;> omega
  · have hexec : exec (.remoteFrameReceived r b) s = .next (((s.modRmod r fun x => { x with seen := true, input := slice b 4 (vget s.hlp.rmod r).inLen }).setFld
        F.RIO_STAT_RX_SEQ r (leAt b 2 1)).setFlag F.RIO_STAT_FRESH r true) := by
      refine congrArg Host.Outcome.next ((if_neg (by rw [hen, hrun]; exact nofun)).trans (if_neg ?_))
      rw [hlen, hin]
      obtain h | h := hnew <;> simp [h]
    have hmod := modRmod_canon hw r fun x => { x with seen := true, input := slice b 4 (vget s.hlp.rmod r).inLen }
    have hrmod := rmod_modRmod (s := s) r.isLt fun x => { x with seen := true, input := slice b 4 (vget s.hlp.rmod r).inLen }
    have honly := State.modRmod_in (Within.refl (Part.mask [.regs, .hlp]) s) rfl r fun x => { x with seen := true, input := slice b 4 (vget s.hlp.rmod r).inLen }
    have hregs : (s.modRmod r fun x => { x with seen := true, input := slice b 4 (vget s.hlp.rmod r).inLen }).regs = s.regs := rfl
    generalize (s.modRmod r fun x => { x with seen := true, input := slice b 4 (vget s.hlp.rmod r).inLen }) = u at *
    have hset := canonAfterFld hmod F.RIO_STAT_RX_SEQ r (leAt b 2 1)
    have hhlp : ((u.setFld F.RIO_STAT_RX_SEQ r (leAt b 2 1)).setFlag F.RIO_STAT_FRESH r true).hlp = u.hlp := by
      rw [State.setFlag_hlp, State.setFld_hlp]
    refine ⟨_, hexec, by rw [hhlp, hrmod], by rw [hhlp, hrmod], ?_, State.flag_setFlag_same hset _ _ _ (by decide), ?_,
      (State.setFlag_in (State.setFld_in honly rfl _ _ _) rfl _ _ _).only⟩
    · exact (State.fld_setFlag_apart hset _ _ _ _ _ (by decide)).trans ((State.fld_setFld_same hmod _ _ _ (by decide)).trans
        (Nat.mod_eq_of_lt (leAt_one_lt b 2)))
    · exact ((((State.Writes.refl hw _).same hregs).setFld _ _ _ (by simp) (by decide)).setFlag _ _ _ (by simp) (by decide)).but
  · exact congrArg Host.Outcome.next (if_pos (by obtain h | h := h <;> simp [h]))
  · have hset := canonAfterFlag hw F.RIO_STAT_FRESH r false
    have hcanon := canonAfterCount hset F.RIO_STAT_TMO_CNT r
    have hfresh' := State.flag_setFlag_same hw F.RIO_STAT_FRESH r false (by decide)
    have hcnt : ((s.setFlag F.RIO_STAT_FRESH r false).count F.RIO_STAT_TMO_CNT r).fld F.RIO_STAT_TMO_CNT r =
        min 255 (s.fld F.RIO_STAT_TMO_CNT r + 1) := by
      rw [State.fld_count_same hset _ _ (by decide), State.fld_setFlag_apart hw _ _ _ _ _ (by decide)]
      show satAdd (s.fld F.RIO_STAT_TMO_CNT r) 1 255 = _
      unfold satAdd
      split <;> omega
    have hkept := (State.flag_count_apart hset F.RIO_STAT_FRESH F.RIO_STAT_TMO_CNT r r (by decide)).trans hfresh'
    have hparts : ((s.setFlag F.RIO_STAT_FRESH r false).count F.RIO_STAT_TMO_CNT r).hlp = s.hlp ∧
        ((s.setFlag F.RIO_STAT_FRESH r false).count F.RIO_STAT_TMO_CNT r).evq = s.evq := by
      rw [State.count_hlp, State.setFlag_hlp, State.count_evq, State.setFlag_evq]
      exact ⟨rfl, rfl⟩
    have hwr : s.Writes ((s.setFlag F.RIO_STAT_FRESH r false).count F.RIO_STAT_TMO_CNT r)
        ((F.RIO_STAT_FRESH, r.val) :: (F.RIO_STAT_TMO_CNT, r.val) :: evqFlds) :=
      ((State.Writes.refl hw _).setFlag _ _ _ List.mem_cons_self (by decide)).count _ _ (List.mem_cons_of_mem _ List.mem_cons_self) (by decide)
    have hexec : exec (.remoteTimeout r) s = .next (((s.setFlag F.RIO_STAT_FRESH r false).count F.RIO_STAT_TMO_CNT r).post EV.EV_RIO_TIMEOUT r 0) :=
      congrArg Host.Outcome.next (if_pos (by rw [hen, hfresh]; rfl))
    generalize (s.setFlag F.RIO_STAT_FRESH r false).count F.RIO_STAT_TMO_CNT r = u at *
    have hpost := (State.Writes.refl hwr.canon evqFlds).post EV.EV_RIO_TIMEOUT r.val 0 fun _ h => h
    have hr : r.val < 256 := Nat.lt_trans r.isLt (by decide)
    exact ⟨_, hexec, (hpost.but.flag_class _ hr (by decide) (by decide)).trans hkept, State.told_of_evq hparts.2 _ _ _,
      (State.post_hlp _ _ _).trans hparts.1, (hpost.but.fld_class _ hr (by decide) (by decide)).trans hcnt,
      (hwr.post _ _ _ fun x hx => List.mem_cons_of_mem _ (List.mem_cons_of_mem _ hx)).but⟩
  · exact congrArg Host.Outcome.next (if_neg (by obtain h | h := h <;> simp [h]))
  · refine ⟨_, congrArg Host.Outcome.next (if_neg (by rw [hen, hrun, hsby, hready]; exact nofun)), ?_, ?_,
      (State.modRmod_in (Within.refl (Part.mask [.hlp]) s) rfl r _).only⟩
    · rw [rmod_modRmod r.isLt]
    · rw [rmod_modRmod r.isLt]
  · exact congrArg Host.Outcome.next (if_pos (by obtain h | h | h | h := h <;> simp [h]))

end Sys2Proof.Machine
end

section
/-!
PROOFS. Frames, launches and transmit timestamps (R418 to R431).
-/
namespace Sys2Proof.Machine

variable {s : State}

/-! ### MACs and PTP ports as components -/

theorem mac_modMac_lt {m : Nat} (hm : m < 3) (f : MacSt → MacSt) : vget (s.modMac m f).macs m = f (vget s.macs m) := vget_same _ _ _ hm

theorem modMac_only (m : Nat) (f : MacSt → MacSt) : s.Only (s.modMac m f) [.macs] :=
  (State.modMac_in (Within.refl (Part.mask [.macs]) s) rfl m f).only

theorem modMac_congr {m : Nat} {f g : MacSt → MacSt} (h : f (vget s.macs m) = g (vget s.macs m)) : s.modMac m f = s.modMac m g :=
  congrArg (fun v => ({ s with macs := v } : State)) (vmod_congr s.macs h)

theorem ptpSend_mac {m : Nat} (hm : m < 3) (k : Nat) :
    vget (s.ptpSend m k).macs m = { vget s.macs m with ptpSent := some (ptpStamp k) } := mac_modMac_lt hm _

theorem link_modLink {m : Nat} (hm : m < 3) (f : PtpLink → PtpLink) : (s.modLink m f).link m = f (s.link m) := vget_same _ _ _ hm

theorem modLink_macs (m : Nat) (f : PtpLink → PtpLink) : (s.modLink m f).macs = s.macs := rfl

/-- A 16-bit counter. -/
theorem count_shows16 (hw : s.Canon) {f : Fld} {i : Nat} (hf : f.good = true) (h16 : f.hi + 1 - f.lo = 16) :
    (s.count f i).fld f i = min 65535 (s.fld f i + 1) := by
  rw [State.fld_count_same hw _ _ hf, h16]
  show satAdd (s.fld f i) 1 65535 = _
  unfold satAdd
  split <;> omega

/-! ### Received frames -/

theorem execEthernetFrameReceived_taken {m : Fin 3} {f : RxFrame} (hnet : s.netRuns = true) (hlink : s.flag F.MAC_STAT_LINK m = true)
    (hlen : f.len ≤ 1522) (hrow : s.rxRow m f.kind f.dst ≠ 0) (hroom : f.room = true) : exec (.ethernetFrameReceived m f) s =
      .next ((s.modMac m fun x => { x with dest := s.rxRow m f.kind f.dst, rxStamp := none }).cond (s.rxRow m f.kind f.dst == 2) fun t =>
        t.ptpFrame m f.kind) :=
  congrArg Host.Outcome.next ((if_neg (by rw [hnet, hlink]; exact nofun)).trans (if_neg (by simp [Nat.not_lt.mpr hlen, hrow, hroom])))

/-- A frame discarded: counted, and as a foreign host's where it came from one (R387, R418). -/
def State.frameDropped (s : State) (m : Nat) (foreign : Bool) : State :=
  ((s.modMac m fun x => { x with dest := 0, rxStamp := none }).count F.MAC_STAT_RX_DROP m).cond foreign fun t => t.count F.MB_STAT_SRC_CNT (4 + m)

theorem frameDropped_shows (hw : s.Canon) {m : Nat} (hm : m < 3) (foreign : Bool) : (vget (s.frameDropped m foreign).macs m).dest = 0 ∧
    (s.frameDropped m foreign).fld F.MAC_STAT_RX_DROP m = min 65535 (s.fld F.MAC_STAT_RX_DROP m + 1) ∧
    s.RegsBut (s.frameDropped m foreign) [(F.MAC_STAT_RX_DROP, m), (F.MB_STAT_SRC_CNT, 4 + m)] ∧
    s.Only (s.frameDropped m foreign) [.regs, .macs] := by
  have hmod : (s.modMac m fun x => { x with dest := 0, rxStamp := none }).Canon := hw
  have hcnt := count_shows16 (i := m) hmod (f := F.MAC_STAT_RX_DROP) (by decide) rfl
  have hwr : s.Writes ((s.modMac m fun x => { x with dest := 0, rxStamp := none }).count F.MAC_STAT_RX_DROP m)
      [(F.MAC_STAT_RX_DROP, m), (F.MB_STAT_SRC_CNT, 4 + m)] := ((State.Writes.refl hw _).modMac _ _).count _ _ List.mem_cons_self (by decide)
  have hmacs : vget ((s.modMac m fun x => { x with dest := 0, rxStamp := none }).count F.MAC_STAT_RX_DROP m).macs m =
      { vget s.macs m with dest := 0, rxStamp := none } := by
    rw [State.count_macs]
    exact mac_modMac_lt hm _
  have honly := State.count_in (State.modMac_in (Within.refl (Part.mask [.regs, .macs]) s) rfl m fun x => { x with dest := 0, rxStamp := none }) rfl
    F.MAC_STAT_RX_DROP m
  unfold State.frameDropped
  generalize (s.modMac m fun x => { x with dest := 0, rxStamp := none }).count F.MAC_STAT_RX_DROP m = t at *
  cases foreign
  · exact ⟨by rw [show (t.cond false fun t => t.count F.MB_STAT_SRC_CNT (4 + m)) = t from rfl, hmacs], hcnt, hwr.but, honly.only⟩
  · have hlast : (t.count F.MB_STAT_SRC_CNT (4 + m)).fld F.MAC_STAT_RX_DROP m = t.fld F.MAC_STAT_RX_DROP m :=
      State.fld_setFld_unit hwr.canon _ _ _ _ _ fun h => absurd (State.regKey_inj (by omega) (by omega) (by decide) (by decide) h).1 (by decide)
    show (vget (t.count F.MB_STAT_SRC_CNT (4 + m)).macs m).dest = 0 ∧ (t.count F.MB_STAT_SRC_CNT (4 + m)).fld F.MAC_STAT_RX_DROP m = _ ∧
      s.RegsBut (t.count F.MB_STAT_SRC_CNT (4 + m)) _ ∧ s.Only (t.count F.MB_STAT_SRC_CNT (4 + m)) _
    exact ⟨by rw [State.count_macs, hmacs], hlast.trans hcnt, (hwr.count _ _ (List.mem_cons_of_mem _ List.mem_cons_self) (by decide)).but,
      (State.count_in honly rfl _ _).only⟩

/-! ### Launches -/

/-- The earliest frame is one of the list, and none is earlier. -/
theorem earliest_spec : ∀ (l : List SchedFrame) {f : SchedFrame}, earliest l = some f → f ∈ l ∧ ∀ g ∈ l, f.at1 ≤ g.at1
  | [], _, h => absurd h nofun
  | a :: l, f, h => by
    cases hl : earliest l with
    | none =>
      have hf : a = f := by
        unfold earliest at h
        rw [hl] at h
        exact Option.some.inj h
      have hnil : l = [] := by
        cases l with
        | nil => rfl
        | cons b l =>
          unfold earliest at hl
          split at hl <;> exact absurd hl nofun
      subst hf hnil
      exact ⟨List.mem_cons_self, fun g hg => Nat.le_of_eq (congrArg SchedFrame.at1 (List.mem_singleton.mp hg).symm)⟩
    | some b =>
      have hf : (if b.at1 < a.at1 then b else a) = f := by
        unfold earliest at h
        rw [hl] at h
        exact Option.some.inj h
      obtain ⟨hmem, hmin⟩ := earliest_spec l hl
      subst hf
      split
      · next hlt =>
        refine ⟨List.mem_cons_of_mem _ hmem, fun g hg => ?_⟩
        rcases List.mem_cons.mp hg with rfl | hg
        · exact Nat.le_of_lt hlt
        · exact hmin g hg
      · next hge =>
        refine ⟨List.mem_cons_self, fun g hg => ?_⟩
        rcases List.mem_cons.mp hg with rfl | hg
        · exact Nat.le_refl _
        · exact Nat.le_trans (Nat.not_lt.mp hge) (hmin g hg)

theorem launchPdu_waits {m : Nat} (h : ∀ f ∈ (vget s.macs m).sched, (vget s.tb 1).ticks < f.at1) : s.launchPdu m = s := by
  unfold State.launchPdu
  split
  · next f hf => exact if_pos (h f (earliest_spec _ hf).1)
  · rfl

theorem launchPdu_due {m : Nat} {f : SchedFrame} (hf : earliest (vget s.macs m).sched = some f) (h : f.at1 ≤ (vget s.tb 1).ticks) :
    s.launchPdu m = (s.modMac m fun x => { x with sched := (vget s.macs m).sched.erase f }).launchOn m f.len := by
  have hmod : (s.modMac m fun x => { x with sched := x.sched.erase f }) = s.modMac m fun x => { x with sched := (vget s.macs m).sched.erase f } :=
    modMac_congr rfl
  unfold State.launchPdu
  rw [hf, ← hmod]
  exact if_neg (Nat.not_lt.mpr h)

/-- A launch leaves what the guard holds. -/
theorem launchOn_held {m : Nat} (hm : m < 3) (n : Nat) : (vget (s.launchOn m n).macs m).held = (vget s.macs m).held := by
  unfold State.launchOn
  simp only
  split
  · rw [mac_modMac_lt hm]
  · rw [State.count_macs]

theorem ptpLaunch_held {m : Nat} (hm : m < 3) (k : Nat) : (vget (s.ptpLaunch m k).macs m).held = (vget s.macs m).held := by
  unfold State.ptpLaunch
  split
  · rfl
  · simp only
    split
    · exact launchOn_held hm _
    · exact launchOn_held hm _

theorem ordinary_passes {m : Nat} (hm : m < 3) (h : s.txHeld m = false) (l : List (List Byte)) : (vget (s.ordinary m l).macs m).held = [] ∧
    (vget (s.ordinary m l).fcp.boxes (4 + m)).sent = (vget s.fcp.boxes (4 + m)).sent ++ ((vget s.macs m).held ++ l) := by
  unfold State.ordinary
  simp only [h]
  refine ⟨?_, ?_⟩
  · exact congrArg MacSt.held (vget_same s.macs m _ hm)
  · exact congrArg Mailbox.sent (vget_same s.fcp.boxes (4 + m) _ (by omega))

theorem ordinary_waits {m : Nat} (hm : m < 3) (h : s.txHeld m = true) (l : List (List Byte)) :
    (vget (s.ordinary m l).macs m).held = (vget s.macs m).held ++ l ∧
    (vget (s.ordinary m l).fcp.boxes (4 + m)).sent = (vget s.fcp.boxes (4 + m)).sent := by
  unfold State.ordinary
  simp only [h]
  refine ⟨?_, ?_⟩
  · exact congrArg MacSt.held (vget_same s.macs m _ hm)
  · exact congrArg Mailbox.sent (vget_same s.fcp.boxes (4 + m) _ (by omega))

/-- SCHEDULED_LAUNCH by what a PTP launch adds. -/
theorem execScheduledLaunch_runs (m : Fin 3) (k : Option (Fin 4)) (h : s.netRuns = true) {u : State}
    (hu : (match k with
      | some n => (s.launchPdu m).ptpLaunch m n
      | none => s.launchPdu m) = u) :
    exec (.scheduledLaunch m k) s = .next (if (vget u.macs m).held.isEmpty then u else u.ordinary m []) := by
  subst hu
  exact congrArg Host.Outcome.next (if_neg (by rw [h]; exact nofun))

/-! ### Timestamps -/

/-- The queue's entry of a message stands for Fencen; the exchange it belongs to goes on without it. -/
theorem ptpGone_macs (m id k : Nat) : (s.ptpGone m id k).macs = s.macs := rfl

theorem ptpGone_only (m id k : Nat) : s.Only (s.ptpGone m id k) [.ptp] :=
  (State.ptpGone_in (Within.refl (Part.mask [.ptp]) s) rfl m id k).only

theorem exchange_only (m seq : Nat) (f : DelaySt → DelaySt) : s.Only (s.exchange m seq f) [.ptp] :=
  (State.exchange_in (Within.refl (Part.mask [.ptp]) s) rfl m seq f).only

/-- A delay exchange without the time that comes back stays open. -/
theorem exchange_open {m : Nat} (hm : m < 3) {r : DelaySt} {f : DelaySt → DelaySt} (hr : (s.link m).req = some r) (hb : (f r).back = none) :
    ((s.exchange m r.seq f).link m).req = some (f r) := by
  have hreq : ((s.modLink m fun x => { x with req := x.req.map fun q => if q.seq = r.seq then f q else q }).link m).req = some (f r) := by
    rw [link_modLink hm, hr]
    exact congrArg some (if_pos rfl)
  unfold State.exchange State.settleDelay
  generalize (s.modLink m fun x => { x with req := x.req.map fun q => if q.seq = r.seq then f q else q }) = t at *
  rw [link_modLink hm, hreq]
  simp only [hb]
  generalize (f r).left = a
  cases a <;> exact hreq

theorem useStamp_known {m : Nat} {e : TsEntry} (h : (e.id, e.type) ∈ (s.link m).sent) : s.useStamp m e =
    if e.type = 0 ∨ e.type = 3 then
      (if s.netRuns then (s.modLink m fun x => { x with sent := x.sent.erase (e.id, e.type) }).ptpSend m e.time
        else s.modLink m fun x => { x with sent := x.sent.erase (e.id, e.type) })
    else match (s.link m).req with
      | some r => if r.seq % 4096 = e.id % 4096 then (s.modLink m fun x => { x with sent := x.sent.erase (e.id, e.type) }).exchange m r.seq fun r =>
          { r with left := some (e.time : Int) } else s.modLink m fun x => { x with sent := x.sent.erase (e.id, e.type) }
      | none => s.modLink m fun x => { x with sent := x.sent.erase (e.id, e.type) } :=
  if_neg (by rw [List.contains_iff_mem.mpr h]; exact nofun)

theorem useStamp_unknown {m : Nat} {e : TsEntry} (h : (e.id, e.type) ∉ (s.link m).sent) : s.useStamp m e = s :=
  if_pos (by rw [Bool.eq_false_iff.mpr fun hc => h (List.contains_iff_mem.mp hc)]; rfl)

/-- What Fencen does with a stamp leaves the queue. -/
theorem useStamp_tsq {m : Nat} (hm : m < 3) (e : TsEntry) : (vget (s.useStamp m e).macs m).tsq = (vget s.macs m).tsq := by
  by_cases h : (e.id, e.type) ∈ (s.link m).sent
  · rw [useStamp_known h]
    split
    · split
      · rw [ptpSend_mac hm, modLink_macs]
      · rfl
    · split
      · split
        · exact congrArg (fun v => (vget v m).tsq) (exchange_only m _ _ .macs (by decide))
        · rfl
      · rfl
  · rw [useStamp_unknown h]

theorem useStamp_only (m : Nat) (e : TsEntry) : s.Only (s.useStamp m e) [.macs, .ptp] :=
  (State.useStamp_in (Within.refl (Part.mask [.macs, .ptp]) s) rfl m e).only

/-- A queue from which the oldest entry has been taken. -/
def State.tsqTaken (s : State) (m : Nat) (q : List TsEntry) : State :=
  (s.modMac m fun x => { x with tsq := q, dropped := x.dropped && !q.isEmpty }).setFld F.TSQ_STAT_DEPTH m q.length

theorem execTimestampDrain_takes {m : Fin 3} {e : TsEntry} {q : List TsEntry} (hf : s.fencenRuns = true) (h4 : s.serves 4 = true)
    (hq : (vget s.macs m).tsq = e :: q) : exec (.timestampDrain m) s = .next (
      if e.at1 + 65536 * 1000000000 < (vget s.tb 1).ticks then (s.tsqTaken m q).ptpGone m e.id e.type else (s.tsqTaken m q).useStamp m e) := by
  show execTimestampDrain m s = _
  unfold execTimestampDrain
  rw [hf, h4, hq]
  rfl

theorem tsqTaken_shows (hw : s.Canon) {m : Nat} (hm : m < 3) {q : List TsEntry} (hq : q.length < 32) : (vget (s.tsqTaken m q).macs m).tsq = q ∧
    (s.tsqTaken m q).fld F.TSQ_STAT_DEPTH m = q.length ∧ s.RegsBut (s.tsqTaken m q) [(F.TSQ_STAT_DEPTH, m)] ∧
    s.Only (s.tsqTaken m q) [.regs, .macs] := by
  have hmod : (s.modMac m fun x => { x with tsq := q, dropped := x.dropped && !q.isEmpty }).Canon := hw
  refine ⟨?_, (State.fld_setFld_same hmod _ _ _ (by decide)).trans (Nat.mod_eq_of_lt (by exact hq)), ?_, ?_⟩
  · unfold State.tsqTaken
    rw [State.setFld_macs, mac_modMac_lt hm]
  · exact (((State.Writes.refl hw _).modMac _ _).setFld _ _ _ List.mem_cons_self (by decide)).but
  · exact (State.setFld_in (State.modMac_in (Within.refl (Part.mask [.regs, .macs]) s) rfl _ _) rfl _ _ _).only

/-- A stamp that no queue holds: its message goes without it, and the drop is counted and posted once. -/
def State.stampDropped (s : State) (m : Nat) : State :=
  ((s.modMac m fun y => { y with dropped := true }).count F.TSQ_STAT_DROP_CNT m).cond (!(vget s.macs m).dropped) fun t => t.post EV.EV_TSQ_DROP m 0

theorem stampDropped_shows (hw : s.Canon) {m : Nat} (hm : m < 3) :
    vget (s.stampDropped m).macs m = { vget s.macs m with dropped := true } ∧
      (s.stampDropped m).fld F.TSQ_STAT_DROP_CNT m = min 65535 (s.fld F.TSQ_STAT_DROP_CNT m + 1) ∧
      s.RegsBut (s.stampDropped m) ((F.TSQ_STAT_DROP_CNT, m) :: evqFlds) := by
  have hmod : (s.modMac m fun y => { y with dropped := true }).Canon := hw
  have hcnt := count_shows16 (i := m) hmod (f := F.TSQ_STAT_DROP_CNT) (by decide) rfl
  have hwr : s.Writes ((s.modMac m fun y => { y with dropped := true }).count F.TSQ_STAT_DROP_CNT m) ((F.TSQ_STAT_DROP_CNT, m) :: evqFlds) :=
    ((State.Writes.refl hw _).modMac _ _).count _ _ List.mem_cons_self (by decide)
  have hmacs : vget ((s.modMac m fun y => { y with dropped := true }).count F.TSQ_STAT_DROP_CNT m).macs m = { vget s.macs m with dropped := true } := by
    rw [State.count_macs]
    exact mac_modMac_lt hm _
  unfold State.stampDropped
  generalize (s.modMac m fun y => { y with dropped := true }).count F.TSQ_STAT_DROP_CNT m = t at *
  generalize (!(vget s.macs m).dropped) = b
  cases b
  · exact ⟨hmacs, hcnt, hwr.but⟩
  · have hpost := (State.Writes.refl hwr.canon evqFlds).post EV.EV_TSQ_DROP m 0 fun _ h => h
    have hsame : (t.cond true fun t => t.post EV.EV_TSQ_DROP m 0) = t.post EV.EV_TSQ_DROP m 0 := rfl
    rw [hsame]
    exact ⟨by rw [State.post_macs, hmacs], (hpost.but.fld _ _ (by decide)).trans hcnt, (hwr.post _ _ _ fun x hx => List.mem_cons_of_mem _ hx).but⟩

/-- TX_TIMESTAMP, by the room in the queue and by what carries its time itself. -/
theorem execTxTimestamp_eq (m : Fin 3) (i : BitVec 16) (k : Fin 16) (o : Bool) (h : s.netRuns = true) : exec (.txTimestamp m i k o) s = .next (
    if o && (k.val == 0 || k.val == 3) then (s.ptpSend m (s.txStamp m)).ptpGone m i.toNat k
    else if (vget s.macs m).tsq.length < 16 then
      (s.modMac m fun y => { y with tsq := y.tsq ++ [⟨i.toNat, k, s.txStamp m, (vget s.tb 1).ticks⟩] }).setFld
        F.TSQ_STAT_DEPTH m ((vget s.macs m).tsq.length + 1)
    else (s.stampDropped m).ptpGone m i.toNat k) := congrArg Host.Outcome.next (if_neg (by rw [h]; exact nofun))

theorem not_oneStep {o : Bool} {k : Nat} (h : o = false ∨ (k ≠ 0 ∧ k ≠ 3)) : ¬ (o && (k == 0 || k == 3)) = true := by
  obtain h | ⟨h0, h3⟩ := h
  · simp [h]
  · simp [h0, h3]

/-- Settles O37: a frame by its row, a launch by its time, a stamp by its queue and its message. -/
theorem frameCommandsComplete : Obligations.FrameCommandsComplete := by
  unfold Obligations.FrameCommandsComplete
  refine ⟨fun s m f hnet hlink hlen hrow h2 hroom => ?_, fun s m f hnet hlink hlen hrow hroom => ?_, fun s m msg h => ?_, fun s m msg h => ?_,
    fun s m f hw hnet hlink hbad => ?_, fun s m f h => ?_, fun s m f hnet hheld hf hat => ?_, fun s m k hnet hheld hlate => ?_,
    fun s m hnet hheld hlate => ?_, fun s m l hm h => ordinary_passes hm h l, fun s m l hm h => ordinary_waits hm h l, fun l f h => earliest_spec l h,
    fun s m k h => ?_, fun s m k up v hw hnet hv hne => ?_, fun s m k up h => ?_, fun s m i k o hw hnet ho hlen => ?_, fun s m i k hnet hk => ?_,
    fun s m i k o hw hnet ho hfull => ?_, fun s m i k o h => ?_, fun s m x l hw hf h4 hq hl => ?_, fun s m e h => useStamp_unknown h,
    fun s m e hm hnet hsent hk => ?_, fun s m e r hm hsent hk hreq hseq hback => ?_, fun s m i k r hm hsent hk hreq hseq => ?_, fun s m h => ?_⟩
  · have hexec := (execEthernetFrameReceived_taken hnet hlink hlen hrow hroom).trans (congrArg Host.Outcome.next (if_neg (by simp [h2])))
    exact ⟨_, hexec, by rw [mac_modMac_lt m.isLt], modMac_only _ _⟩
  · rw [execEthernetFrameReceived_taken hnet hlink hlen (by omega) hroom, hrow]
    rfl
  · unfold State.ptpFrame
    simp only [ptpMsg, h, decide_true, Bool.and_self, if_true]
  · unfold State.ptpFrame
    simp only [ptpMsg, decide_eq_false (Nat.not_lt.mpr h), Bool.and_false, Bool.false_eq_true, if_false]
  · have hexec : exec (.ethernetFrameReceived m f) s = .next (s.frameDropped m
        (decide (f.len ≤ 1522) && s.rxRow m f.kind f.dst == 0 && s.foreign m f.kind)) :=
      congrArg Host.Outcome.next ((if_neg (by rw [hnet, hlink]; exact nofun)).trans (if_pos (by
        obtain h | h | h := hbad
        · exact .inl h
        · exact .inr (.inl h)
        · exact .inr (.inr (by rw [h]; rfl)))))
    exact ⟨_, hexec, frameDropped_shows hw m.isLt _⟩
  · exact congrArg Host.Outcome.next (if_pos (by obtain h | h := h <;> simp [h]))
  · have hexec := execScheduledLaunch_runs m none hnet (launchPdu_due hf hat)
    refine hexec.trans (congrArg _ (if_pos ?_))
    rw [launchOn_held m.isLt, mac_modMac_lt m.isLt, hheld]
    rfl
  · have hwaits := launchPdu_waits hlate
    cases k with
    | none =>
      refine ⟨s, (execScheduledLaunch_runs m none hnet hwaits).trans (congrArg _ (if_pos (by rw [hheld]; rfl))), fun _ => rfl, fun n h => absurd h nofun⟩
    | some n =>
      refine ⟨s.ptpLaunch m n, (execScheduledLaunch_runs m (some n) hnet (u := s.ptpLaunch m n) (by rw [hwaits])).trans
        (congrArg _ (if_pos (by rw [ptpLaunch_held m.isLt, hheld]; rfl))), fun h => absurd h nofun, fun j h => by rw [Option.some.inj h]⟩
  · refine (execScheduledLaunch_runs m none hnet (launchPdu_waits hlate)).trans (congrArg _ (if_neg ?_))
    rw [List.isEmpty_iff]
    exact hheld
  · exact congrArg Host.Outcome.next (if_pos (by rw [h]; rfl))
  · subst hv
    have hup := canonAfterFlag hw F.MAC_STAT_LINK m up
    have hsp : (if up then k.val else 3) < 4 := by
      have := k.isLt
      split <;> omega
    have hexec : exec (.linkChange m up k) s = .next (((s.setFlag F.MAC_STAT_LINK m up).setFld F.MAC_STAT_SPEED m (if up then k.val else 3)).post
        EV.EV_LINK m (b2n up + 256 * if up then k.val else 3)) := by
      refine congrArg Host.Outcome.next (if_neg fun hc => ?_)
      simp only [hnet, Bool.not_true, Bool.false_or, Bool.and_eq_true, beq_iff_eq] at hc
      exact hne.elim (fun h => h hc.1) fun h => h hc.2
    generalize (if up then k.val else 3) = v at *
    have hlink := (State.flag_setFld_apart hup F.MAC_STAT_LINK F.MAC_STAT_SPEED m m v (by decide)).trans
      (State.flag_setFlag_same hw F.MAC_STAT_LINK m up (by decide))
    have hspeed := (State.fld_setFld_same hup F.MAC_STAT_SPEED m v (by decide)).trans (Nat.mod_eq_of_lt (by exact hsp))
    have hwr : s.Writes ((s.setFlag F.MAC_STAT_LINK m up).setFld F.MAC_STAT_SPEED m v)
        ((F.MAC_STAT_LINK, m.val) :: (F.MAC_STAT_SPEED, m.val) :: evqFlds) :=
      ((State.Writes.refl hw _).setFlag _ _ _ List.mem_cons_self (by decide)).setFld _ _ _ (List.mem_cons_of_mem _ List.mem_cons_self) (by decide)
    have hevq : ((s.setFlag F.MAC_STAT_LINK m up).setFld F.MAC_STAT_SPEED m v).evq = s.evq := by rw [State.setFld_evq, State.setFlag_evq]
    generalize (s.setFlag F.MAC_STAT_LINK m up).setFld F.MAC_STAT_SPEED m v = u at *
    have hpost := (State.Writes.refl hwr.canon evqFlds).post EV.EV_LINK m.val (b2n up + 256 * v) fun _ h => h
    exact ⟨_, hexec, (hpost.but.flag _ _ (by decide)).trans hlink, (hpost.but.fld _ _ (by decide)).trans hspeed, State.told_of_evq hevq _ _ _,
      (hwr.post _ _ _ fun x hx => List.mem_cons_of_mem _ (List.mem_cons_of_mem _ hx)).but⟩
  · refine congrArg Host.Outcome.next (if_pos ?_)
    obtain h | ⟨hl, hs⟩ := h
    · simp [h]
    · simp [hl, hs]
  · have hexec := (execTxTimestamp_eq m i k o hnet).trans (congrArg _ ((if_neg (not_oneStep ho)).trans (if_pos hlen)))
    have hmod : (s.modMac m fun y => { y with tsq := y.tsq ++ [⟨i.toNat, k, s.txStamp m, (vget s.tb 1).ticks⟩] }).Canon := hw
    refine ⟨_, hexec, ?_, (State.fld_setFld_same hmod _ _ _ (by decide)).trans (Nat.mod_eq_of_lt ?_),
      (((State.Writes.refl hw _).modMac _ _).setFld _ _ _ List.mem_cons_self (by decide)).but,
      (State.setFld_in (State.modMac_in (Within.refl (Part.mask [.regs, .macs]) s) rfl _ _) rfl _ _ _).only⟩
    · rw [State.setFld_macs, mac_modMac_lt m.isLt]
    · show _ < 32
      omega
  · have hexec := (execTxTimestamp_eq m i k true hnet).trans (congrArg _ (if_pos (by obtain h | h := hk <;> rw [h] <;> rfl)))
    refine ⟨_, hexec, ?_, ?_, (State.ptpGone_in (State.ptpSend_in (Within.refl (Part.mask [.macs, .ptp]) s) rfl _ _) rfl _ _ _).only⟩
    · rw [ptpGone_macs, ptpSend_mac m.isLt]
    · rw [ptpGone_macs, ptpSend_mac m.isLt]
  · have hexec := (execTxTimestamp_eq m i k o hnet).trans
      (congrArg _ ((if_neg (not_oneStep ho)).trans (if_neg (Nat.not_lt.mpr hfull))))
    obtain ⟨hmacs, hcnt, hbut⟩ := stampDropped_shows hw m.isLt
    generalize s.stampDropped m = u at *
    exact ⟨_, hexec, by rw [ptpGone_macs, hmacs], by rw [ptpGone_macs, hmacs], hcnt, hbut⟩
  · exact congrArg Host.Outcome.next (if_pos (by rw [h]; rfl))
  · have hexec := execTimestampDrain_takes hf h4 hq
    obtain ⟨htsq, hdepth, hbut, honly⟩ := tsqTaken_shows hw m.isLt hl
    generalize s.tsqTaken m l = u at *
    have hwide : s.Only u [.regs, .macs, .ptp] := fun p hp => honly p fun h => hp (by simp at h ⊢; tauto)
    by_cases hold : x.at1 + 65536 * 1000000000 < (vget s.tb 1).ticks
    · rw [if_pos hold] at hexec
      have hgone := ptpGone_only (s := u) m x.id x.type
      have hfld : (u.ptpGone m x.id x.type).fld F.TSQ_STAT_DEPTH m = u.fld F.TSQ_STAT_DEPTH m := rfl
      exact ⟨_, hexec, by rw [ptpGone_macs, htsq], hfld.trans hdepth, hbut.same (hgone .regs (by decide)), fun p hp =>
        Part.same_trans (hwide p hp) (hgone p fun h => hp (by simp at h ⊢; tauto))⟩
    · rw [if_neg hold] at hexec
      have huse := useStamp_only (s := u) m x
      have hregs : (u.useStamp m x).regs = u.regs := huse .regs (by decide)
      have hfld : (u.useStamp m x).fld F.TSQ_STAT_DEPTH m = u.fld F.TSQ_STAT_DEPTH m := by
        unfold State.fld
        rw [hregs]
      exact ⟨_, hexec, by rw [useStamp_tsq m.isLt, htsq], hfld.trans hdepth, hbut.same hregs, fun p hp =>
        Part.same_trans (hwide p hp) (huse p fun h => hp (by simp at h ⊢; tauto))⟩
  · refine ⟨?_, useStamp_only m e⟩
    rw [useStamp_known hsent, if_pos hk, if_pos hnet, ptpSend_mac hm]
  · have hkind : ¬ (e.type = 0 ∨ e.type = 3) := by omega
    have huse : s.useStamp m e = (s.modLink m fun x => { x with sent := x.sent.erase (e.id, e.type) }).exchange m r.seq fun r =>
        { r with left := some (e.time : Int) } := by
      rw [useStamp_known hsent, if_neg hkind, hreq]
      exact if_pos hseq
    have hlink : ((s.modLink m fun x => { x with sent := x.sent.erase (e.id, e.type) }).link m).req = some r := by
      rw [link_modLink hm]
      exact hreq
    have hset : s.Only (s.modLink m fun x => { x with sent := x.sent.erase (e.id, e.type) }) [.ptp] :=
      (State.modLink_in (Within.refl (Part.mask [.ptp]) s) rfl m _).only
    rw [huse]
    generalize (s.modLink m fun x => { x with sent := x.sent.erase (e.id, e.type) }) = u at *
    exact ⟨exchange_open (f := fun r => { r with left := some (e.time : Int) }) hm hlink hback,
      fun p hp => Part.same_trans (hset p hp) (exchange_only m r.seq _ p hp)⟩
  · unfold State.ptpGone
    rw [link_modLink hm]
    simp only [hk, List.contains_iff_mem.mpr hsent, and_self, if_true, hreq]
    simp [Option.filter, hseq]
  · show execTimestampDrain m s = _
    unfold execTimestampDrain
    obtain h | h | h := h
    · rw [h]
      rfl
    · rw [h, Bool.and_false]
    · rw [h]
      split
      · next heq => exact absurd heq nofun
      · rfl

end Sys2Proof.Machine
end

section
/-!
PROOFS. Time bases, the servo and the best master algorithm (R424 to R437).
-/
namespace Sys2Proof.Machine

variable {s : State}

/-! ### Time bases -/

theorem tb_modTb {b : Nat} (hb : b < 4) (f : TimeBase → TimeBase) : vget (s.modTb b f).tb b = f (vget s.tb b) := vget_same _ _ _ hb

theorem showStep_tb (b : Nat) (d : Int) : (s.showStep b d).tb = s.tb := State.post_tb _ _ _

theorem cond_showStep_tb (c : Bool) (b : Nat) (d : Int) : (s.cond c fun t => t.showStep b d).tb = s.tb := by
  unfold State.cond
  split
  · exact showStep_tb b d
  · rfl

/-- The change that waits: the rate is the new one, and steps add up. -/
theorem adjTb_adj {b : Nat} (hb : b < 4) (f d : Int) : (vget (s.adjTb b f d).tb b).adj = some (f, d + ((vget s.tb b).adj.map (·.2)).getD 0) ∧
    (vget (s.adjTb b f d).tb b).ticks = (vget s.tb b).ticks := by
  have htb : (s.adjTb b f d).tb = (s.modTb b fun t => { t with adj := some (f, d + ((t.adj.map (·.2)).getD 0)) }).tb := cond_showStep_tb _ b d
  rw [htb, tb_modTb hb]
  exact ⟨rfl, rfl⟩

/-- Without a step nothing shows. -/
theorem adjTb_rate (b : Nat) (f : Int) : s.adjTb b f 0 = s.modTb b fun t => { t with adj := some (f, 0 + ((t.adj.map (·.2)).getD 0)) } := rfl

theorem adjTb_rate_in {z : State} {m : Nat} (h : Within m z s) (hm : Sub 1048576 m) (b : Nat) (f : Int) : Within m z (s.adjTb b f 0) := by
  rw [adjTb_rate]
  exact State.modTb_in h hm b _

theorem showStep_canon (hw : s.Canon) (b : Nat) (d : Int) : (s.showStep b d).Canon := canonAfterPost (canonAfterFlag hw _ _ _) _ _ _

theorem adjTb_canon (hw : s.Canon) (b : Nat) (f d : Int) : (s.adjTb b f d).Canon := by
  have hmod := canonAfterModTb hw b fun t => { t with adj := some (f, d + ((t.adj.map (·.2)).getD 0)) }
  unfold State.adjTb State.cond
  split
  · exact showStep_canon hmod b d
  · exact hmod

/-- A time base that is set shows the time it is set to. -/
theorem stepTb_ticks {b k : Nat} (hb : b < 4) (hk : k < 2 ^ 64 * (1000000000 * 65536)) :
    (vget (s.stepTb b ((k : Int) - (vget s.tb b).ticks)).tb b).ticks = k := by
  unfold State.stepTb
  rw [showStep_tb, tb_modTb hb]
  show ((((vget s.tb b).ticks : Int) + ((k : Int) - (vget s.tb b).ticks)) % (2 ^ 64 * (1000000000 * 65536) : Nat)).toNat = k
  omega

theorem count_sub (t : TimeBase) (n : Nat) : (t.count n).sub < 2 ^ 24 := Nat.mod_lt _ (by decide)

/-- No clock adds nothing to the visible time. -/
theorem count_zero_ticks {t : TimeBase} (h : t.sub < 2 ^ 24) : (t.count 0).ticks = t.ticks := by
  show t.ticks + (t.sub + 0 * _) / 2 ^ 24 = t.ticks
  omega

theorem clocks_one_adj {t : TimeBase} {f d : Int} (h : t.adj = some (f, d)) : (t.clocks 1).freq = f ∧ (t.clocks 1).adj = none ∧
    (t.clocks 1).ticks = ((t.count 1).step d).ticks ∧ (t.clocks 1).jumped = d := by
  unfold TimeBase.clocks
  rw [if_neg (by decide), h]
  exact ⟨rfl, rfl, count_zero_ticks (t := { (t.count 1).step d with freq := f, adj := none }) (count_sub t 1), rfl⟩

theorem clocks_one_free {t : TimeBase} (h : t.adj = none) (hf : t.freq = 0) : (t.clocks 1).ticks = t.ticks + 8 * 65536 + t.sub / 2 ^ 24 := by
  unfold TimeBase.clocks
  rw [if_neg (by decide), h]
  show t.ticks + (t.sub + 1 * (8796093022208 * (1000000000000 + t.freq) / 1000000000000).toNat) / 2 ^ 24 = _
  rw [hf, show (8796093022208 * (1000000000000 + (0 : Int)) / 1000000000000).toNat = 8 * 2 ^ 40 from by decide]
  omega

/-! ### The lock -/

theorem setTbLock_canon (hw : s.Canon) (on : Bool) : (s.setTbLock on).Canon := by
  unfold State.setTbLock
  split
  · exact hw
  · exact canonAfterPost (canonAfterFlag hw _ _ _) _ _ _

theorem setTbLock_shows (hw : s.Canon) (on : Bool) : (s.setTbLock on).flag F.TB_STAT_LOCKED 0 = on := by
  unfold State.setTbLock
  split
  · next h => exact eq_of_beq h
  · rw [State.flag_post (canonAfterFlag hw _ _ _) _ _ _ _ _ (by decide)]
    exact State.flag_setFlag_same hw _ _ _ (by decide)

theorem setTbLock_ptp (on : Bool) : (s.setTbLock on).ptp = s.ptp := by
  unfold State.setTbLock
  split
  · rfl
  · exact State.post_ptp _ _ _

theorem setTbLock_tb (on : Bool) : (s.setTbLock on).tb = s.tb := by
  unfold State.setTbLock
  split
  · rfl
  · exact State.post_tb _ _ _

theorem setTbLock_flag (hw : s.Canon) (on : Bool) {f : Fld} (hf : f.apart F.TB_STAT_LOCKED = true)
    (he : evqFlds.all (fun x => f.apart x.1) = true) : (s.setTbLock on).flag f 0 = s.flag f 0 := by
  unfold State.setTbLock
  split
  · rfl
  · rw [State.flag_post (canonAfterFlag hw _ _ _) _ _ _ _ _ he]
    exact State.flag_setFlag_apart hw _ _ _ _ _ hf

theorem dropLock_locked (hw : s.Canon) : s.dropLock.flag F.TB_STAT_LOCKED 0 = false :=
  setTbLock_shows (s := s.modPtp fun p => { p with good := 0, bad := 0 }) hw false

theorem dropLock_ptp : s.dropLock.ptp = { s.ptp with good := 0, bad := 0 } := setTbLock_ptp false

theorem dropLock_canon (hw : s.Canon) : s.dropLock.Canon :=
  setTbLock_canon (s := s.modPtp fun p => { p with good := 0, bad := 0 }) hw false

theorem dropLock_flag (hw : s.Canon) {f : Fld} (hf : f.apart F.TB_STAT_LOCKED = true) (he : evqFlds.all (fun x => f.apart x.1) = true) :
    s.dropLock.flag f 0 = s.flag f 0 := setTbLock_flag (s := s.modPtp fun p => { p with good := 0, bad := 0 }) hw false hf he

/-! ### The servo -/

theorem clampInt_bounds {n : Nat} (v : Int) : (clampInt (-n) n v).natAbs ≤ n := by
  unfold clampInt
  split
  · omega
  · split <;> omega

/-- An update within the thresholds. -/
theorem servo_within {d : Int} (h1 : d.natAbs ≤ s.ptpCfg 20 4) (h2 : d.natAbs ≤ s.ptpCfg 16 4) (hg : s.ptp.good < 15) : s.servo d =
    (s.adjTb 0 (freeTrim s.fresh) 0).bump.modPtp fun p => { p with base := d.natAbs, updAt := some s.tb1Ns, good := s.ptp.good + 1, bad := 0 } := by
  have hgood : min 16 (s.ptp.good + 1) = s.ptp.good + 1 := by omega
  have hnone : ¬ (4 * s.ptpCfg 16 4 < d.natAbs ∨ (0 : Nat) = 4) := by omega
  have hlock : ¬ (s.ptp.good + 1 = 16 ∧ s.ptpPort 8 = true) := fun h => absurd h.1 (by omega)
  unfold State.servo
  simp only [decide_eq_false (Nat.not_lt.mpr h1), if_neg (Nat.not_lt.mpr h2), h2, true_and, hgood, Bool.not_false, if_true, if_neg hnone, if_neg hlock,
    Bool.false_eq_true, if_false]

/-- The state after a step of the servo, before its lock follows. -/
def State.servoStepped (s : State) (d : Int) (bad : Nat) : State :=
  ((s.adjTb 0 (vget s.tb 0).freq ((s.ptpTarget d : Nat) - ((vget s.tb 0).ticks : Int))).setTbLock false).modPtp fun p =>
    { p with base := d.natAbs, updAt := some s.tb1Ns, good := 0, bad := bad }

/-- An update beyond the step threshold. -/
theorem servo_beyond {d : Int} (h : s.ptpCfg 20 4 < d.natAbs) : ∃ bad, s.servo d = s.servoStepped d bad ∨
    s.servo d = (s.servoStepped d bad).setTbLock false := by
  refine ⟨if s.ptpCfg 16 4 < d.natAbs then min 4 (s.ptp.bad + 1) else 0, ?_⟩
  have hgood : (0 : Nat) ≠ 16 := by decide
  unfold State.servo State.servoStepped
  simp only [decide_eq_true h, Bool.not_true, Bool.false_eq_true, and_false, if_false, if_true, hgood, false_and]
  exact (ite_eq_or_eq _ _ _).symm

theorem servoStepped_shows (hw : s.Canon) (d : Int) (bad : Nat) : (s.servoStepped d bad).Canon ∧
    (vget (s.servoStepped d bad).tb 0).adj = some ((vget s.tb 0).freq,
      (s.ptpTarget d : Int) - (vget s.tb 0).ticks + ((vget s.tb 0).adj.map (·.2)).getD 0) ∧
    (s.servoStepped d bad).flag F.TB_STAT_LOCKED 0 = false ∧ (s.servoStepped d bad).ptp.good = 0 := by
  have hadj := adjTb_adj (s := s) (b := 0) (by decide) (vget s.tb 0).freq ((s.ptpTarget d : Nat) - ((vget s.tb 0).ticks : Int))
  have hcanon := adjTb_canon hw 0 (vget s.tb 0).freq ((s.ptpTarget d : Nat) - ((vget s.tb 0).ticks : Int))
  unfold State.servoStepped
  generalize s.adjTb 0 (vget s.tb 0).freq ((s.ptpTarget d : Nat) - ((vget s.tb 0).ticks : Int)) = t at *
  refine ⟨setTbLock_canon hcanon false, ?_, setTbLock_shows hcanon false, rfl⟩
  show (vget (t.setTbLock false).tb 0).adj = _
  rw [setTbLock_tb]
  exact hadj.1

theorem servo_steps (hw : s.Canon) {d : Int} (h : s.ptpCfg 20 4 < d.natAbs) : (vget (s.servo d).tb 0).adj = some ((vget s.tb 0).freq,
      (s.ptpTarget d : Int) - (vget s.tb 0).ticks + ((vget s.tb 0).adj.map (·.2)).getD 0) ∧
    (s.servo d).flag F.TB_STAT_LOCKED 0 = false ∧ (s.servo d).ptp.good = 0 := by
  obtain ⟨bad, hs⟩ := servo_beyond h
  obtain ⟨hcanon, hadj, hlock, hgood⟩ := servoStepped_shows hw d bad
  rcases hs with hs | hs
  · rw [hs]
    exact ⟨hadj, hlock, hgood⟩
  · rw [hs]
    exact ⟨by rw [setTbLock_tb]; exact hadj, setTbLock_shows hcanon false, by rw [setTbLock_ptp]; exact hgood⟩

/-- The only port of a clock whose mask is one bit. -/
theorem ptpMask_single {m n : Nat} (h : s.ptpCfg 1 1 = 2 ^ m) : s.ptpMask n = decide (m = n) := by
  unfold State.ptpMask bitOf
  rw [h, Nat.testBit_two_pow]

theorem findSome?_single {α : Type} {m : Nat} (hm : m < 3) {f : Nat → Option α} (h : ∀ n, n ≠ m → f n = none) : (List.range 3).findSome? f = f m := by
  rw [show List.range 3 = [0, 1, 2] from rfl]
  rcases (by omega : m = 0 ∨ m = 1 ∨ m = 2) with rfl | rfl | rfl
  · cases hf : f 0 <;> simp [List.findSome?, h 1, h 2, hf]
  · cases hf : f 1 <;> simp [List.findSome?, h 0, h 2, hf]
  · cases hf : f 2 <;> simp [List.findSome?, h 0, h 1, hf]

theorem servoPort_single {m : Nat} {d p : Int} (hm : m < 3) (hmask : s.ptpCfg 1 1 = 2 ^ m) (hport : s.portIs m = 7 ∨ s.portIs m = 8)
    (hdue : (s.link m).due = true) (hd : (s.link m).diff = some d) (hp : (s.link m).delay = some p) :
    s.servoPort = some (m, (d - p) / 65536) := by
  have hstate : (s.portIs m == 7 || s.portIs m == 8) = true := by
    rcases hport with h | h <;> rw [h] <;> rfl
  unfold State.servoPort
  rw [findSome?_single hm fun n hn => by rw [ptpMask_single hmask, decide_eq_false (Ne.symm hn)]; rfl]
  rw [ptpMask_single hmask, decide_eq_true rfl, hstate, hdue, hd, hp]
  rfl

/-! ### The best master algorithm -/

/-- The port states and the grandmaster take effect: GM, the lock and what TB_STAT shows follow. -/
def State.mastered (s : State) (port : Vector Nat 3) (gm : Bool) (id : Option Nat) : State :=
  let s1 := ((s.modPtp fun p => { p with port := port, gm := id }).setFlag F.TB_STAT_GM 0 gm).showPtp
  let s2 := s1.cond (id != s.ptp.gm) fun t => t.dropLock
  if gm then (s2.modPtp fun p => { p with fromPeer := false }).setTbLock (s.ptpCfg 14 1 % 2 == 1) else s2

/-- The next states of the three ports. -/
def State.nextPorts (s : State) (x : Option Nat) : Vector Nat 3 :=
  #v[if s.ptpMask 0 then s.nextPort x 0 else 2, if s.ptpMask 1 then s.nextPort x 1 else 2, if s.ptpMask 2 then s.nextPort x 2 else 2]

theorem bestMaster_eq (x : Option Nat) : s.bestMaster x = s.mastered (s.nextPorts x)
    (s.ownBest && ((List.range 3).filter s.ptpMask).all fun m => vget (s.nextPorts x) m == 5)
    (if ((List.range 3).filter s.ptpMask).any fun m => vget (s.nextPorts x) m == 7 || vget (s.nextPorts x) m == 8 then s.bestHeard.map (·.gm)
      else some s.clockId) := rfl

theorem nextPorts_at {m : Nat} (hm : m < 3) (x : Option Nat) : vget (s.nextPorts x) m = if s.ptpMask m then s.nextPort x m else 2 := by
  rcases (by omega : m = 0 ∨ m = 1 ∨ m = 2) with rfl | rfl | rfl <;> rfl

theorem showPtp_shows (hw : s.Canon) : s.showPtp.Canon ∧ s.showPtp.ptp = s.ptp ∧ s.showPtp.flag F.TB_STAT_GM 0 = s.flag F.TB_STAT_GM 0 :=
  ⟨canonAfterFld hw _ _ _, rfl, State.flag_setFld_apart hw _ _ _ _ _ (by decide)⟩

/-- A new grandmaster drops the lock, and nothing else. -/
theorem cond_dropLock_shows (hw : s.Canon) (b : Bool) : (s.cond b fun t => t.dropLock).Canon ∧
    (s.cond b fun t => t.dropLock).ptp.port = s.ptp.port ∧ (s.cond b fun t => t.dropLock).ptp.gm = s.ptp.gm ∧
    (s.cond b fun t => t.dropLock).flag F.TB_STAT_GM 0 = s.flag F.TB_STAT_GM 0 ∧
    (b = true → (s.cond b fun t => t.dropLock).flag F.TB_STAT_LOCKED 0 = false) := by
  unfold State.cond
  split
  · exact ⟨dropLock_canon hw, by rw [dropLock_ptp], by rw [dropLock_ptp], dropLock_flag hw (by decide) (by decide), fun _ => dropLock_locked hw⟩
  · next h => exact ⟨hw, rfl, rfl, rfl, fun hb => absurd hb h⟩

theorem mastered_shows (hw : s.Canon) (port : Vector Nat 3) (gm : Bool) (id : Option Nat) :
    (s.mastered port gm id).ptp.port = port ∧ (s.mastered port gm id).ptp.gm = id ∧ (s.mastered port gm id).flag F.TB_STAT_GM 0 = gm ∧
    (gm = true → (s.mastered port gm id).flag F.TB_STAT_LOCKED 0 = (s.ptpCfg 14 1 % 2 == 1)) ∧
    (gm = false → s.ptp.gm ≠ id → (s.mastered port gm id).flag F.TB_STAT_LOCKED 0 = false) := by
  have hmod : (s.modPtp fun p => { p with port := port, gm := id }).Canon := hw
  obtain ⟨hcanon, hptp, hflag⟩ := showPtp_shows (canonAfterFlag hmod F.TB_STAT_GM 0 gm)
  rw [State.flag_setFlag_same hmod _ _ _ (by decide)] at hflag
  have hport := congrArg PtpSt.port hptp
  have hid := congrArg PtpSt.gm hptp
  clear hptp
  unfold State.mastered
  generalize ((s.modPtp fun p => { p with port := port, gm := id }).setFlag F.TB_STAT_GM 0 gm).showPtp = t at *
  obtain ⟨hc, hp, hg, hf, hl⟩ := cond_dropLock_shows hcanon (id != s.ptp.gm)
  simp only
  generalize t.cond (id != s.ptp.gm) (fun t => t.dropLock) = u at *
  cases gm with
  | true =>
    have hm : (u.modPtp fun p => { p with fromPeer := false }).Canon := hc
    refine ⟨?_, ?_, ?_, fun _ => setTbLock_shows hm _, nofun⟩
    · rw [if_pos rfl, setTbLock_ptp]
      exact hp.trans hport
    · rw [if_pos rfl, setTbLock_ptp]
      exact hg.trans hid
    · rw [if_pos rfl, setTbLock_flag hm _ (by decide) (by decide)]
      exact hf.trans hflag
  | false => exact ⟨hp.trans hport, hg.trans hid, hf.trans hflag, nofun, fun _ h => hl (bne_iff_ne.mpr h.symm)⟩

theorem filter_mask_single {m : Nat} (hm : m < 3) (hmask : s.ptpCfg 1 1 = 2 ^ m) : (List.range 3).filter s.ptpMask = [m] := by
  rw [show s.ptpMask = fun n => decide (m = n) from funext fun n => ptpMask_single hmask]
  rcases (by omega : m = 0 ∨ m = 1 ∨ m = 2) with rfl | rfl | rfl <;> rfl

/-- With one port in the mask, what it has heard best is the best heard. -/
theorem bestHeard_single {m : Nat} (hm : m < 3) (hmask : s.ptpCfg 1 1 = 2 ^ m) : s.bestHeard = (s.link m).best := by
  unfold State.bestHeard
  rw [show (fun m => if s.ptpMask m then (s.link m).best else none) = fun n => if m = n then (s.link m).best else none from funext fun n => by
    rw [ptpMask_single hmask]
    by_cases h : m = n
    · subst h
      simp
    · simp [h]]
  rcases (by omega : m = 0 ∨ m = 1 ∨ m = 2) with rfl | rfl | rfl <;> cases (s.link _).best <;> rfl

/-- The algorithm on a clock with one port. -/
theorem bestMaster_single {m : Nat} (hm : m < 3) (hmask : s.ptpCfg 1 1 = 2 ^ m) (x : Option Nat) : ∃ v, vget v m = s.nextPort x m ∧
    s.bestMaster x = s.mastered v (s.ownBest && s.nextPort x m == 5)
      (if s.nextPort x m == 7 || s.nextPort x m == 8 then (s.link m).best.map (·.gm) else some s.clockId) := by
  have hat : vget (s.nextPorts x) m = s.nextPort x m := by rw [nextPorts_at hm, ptpMask_single hmask, decide_eq_true rfl, if_pos rfl]
  refine ⟨s.nextPorts x, hat, ?_⟩
  rw [bestMaster_eq, filter_mask_single hm hmask, bestHeard_single hm hmask]
  simp only [List.all_cons, List.all_nil, List.any_cons, List.any_nil, hat, Bool.and_true, Bool.or_false]

/-- Alone, the port becomes a master. -/
theorem nextPort_alone {m : Nat} (hm : m < 3) (hmask : s.ptpCfg 1 1 = 2 ^ m) (hb : s.bestHeard = none) (hrole : s.ptpCfg 0 1 / 2 % 4 ≠ 0) :
    s.nextPort (some m) m = 5 := by
  have hbest : (s.link m).best = none := (bestHeard_single hm hmask).symm.trans hb
  have hrec : s.recommended m = 5 := by
    unfold State.recommended
    rw [hbest, hb]
    exact ite_self _
  unfold State.nextPort
  rw [hrec]
  simp [hrole]

/-- A better master heard by a clock of class 0 makes it follow. -/
theorem nextPort_follows {m : Nat} {b : Announce} (hm : m < 3) (hmask : s.ptpCfg 1 1 = 2 ^ m) (hb : (s.link m).best = some b) (hbm : b.port = m)
    (hcls : s.ptpCfg 5 1 = 0) (hrank : rank s.clockId s.ownData b = 0) (x : Option Nat) : s.nextPort x m = 7 ∨ s.nextPort x m = 8 := by
  have hheard : s.bestHeard = some b := (bestHeard_single hm hmask).trans hb
  have hown : s.ownBest = false := by
    unfold State.ownBest
    rw [hheard]
    simp [hrank]
  have hrec : s.recommended m = 8 := by
    unfold State.recommended
    rw [hcls, hheard, hown]
    simp [hbm]
  unfold State.nextPort
  rw [hrec, hb]
  simp only [Option.isNone_some, Bool.false_eq_true, false_and, and_false, if_false]
  split
  · next h => exact h
  · exact .inl rfl

theorem bestMaster_alone (hw : s.Canon) {m : Nat} (hm : m < 3) (hmask : s.ptpCfg 1 1 = 2 ^ m) (hb : s.bestHeard = none)
    (hrole : s.ptpCfg 0 1 / 2 % 4 ≠ 0) : (s.bestMaster (some m)).portIs m = 5 ∧ (s.bestMaster (some m)).flag F.TB_STAT_GM 0 = true ∧
    (s.bestMaster (some m)).ptp.gm = some s.clockId ∧ (s.bestMaster (some m)).flag F.TB_STAT_LOCKED 0 = (s.ptpCfg 14 1 % 2 == 1) := by
  obtain ⟨v, hv, heq⟩ := bestMaster_single hm hmask (some m)
  have hown : s.ownBest = true := by
    unfold State.ownBest
    rw [hb]
  rw [nextPort_alone hm hmask hb hrole] at hv heq
  rw [heq, hown]
  obtain ⟨hport, hid, hgm, hlock, -⟩ := mastered_shows hw v (true && (5 : Nat) == 5) (some s.clockId)
  exact ⟨(congrArg (vget · m) hport).trans hv, hgm, hid, hlock rfl⟩

theorem bestMaster_follows (hw : s.Canon) {m : Nat} {b : Announce} (hm : m < 3) (hmask : s.ptpCfg 1 1 = 2 ^ m) (hb : (s.link m).best = some b)
    (hbm : b.port = m) (hcls : s.ptpCfg 5 1 = 0) (hrank : rank s.clockId s.ownData b = 0) (x : Option Nat) :
    ((s.bestMaster x).portIs m = 7 ∨ (s.bestMaster x).portIs m = 8) ∧ (s.bestMaster x).flag F.TB_STAT_GM 0 = false ∧
    (s.bestMaster x).ptp.gm = some b.gm ∧ (s.ptp.gm ≠ some b.gm → (s.bestMaster x).flag F.TB_STAT_LOCKED 0 = false) := by
  obtain ⟨v, hv, heq⟩ := bestMaster_single hm hmask x
  have hnext := nextPort_follows hm hmask hb hbm hcls hrank x
  have hgm : (s.ownBest && s.nextPort x m == 5) = false := by
    rcases hnext with h | h <;> rw [h] <;> exact Bool.and_false _
  have hid : (if s.nextPort x m == 7 || s.nextPort x m == 8 then (s.link m).best.map (·.gm) else some s.clockId) = some b.gm := by
    rw [hb]
    rcases hnext with h | h <;> rw [h] <;> rfl
  rw [heq, hgm, hid]
  obtain ⟨hport, hgid, hflag, -, hlock⟩ := mastered_shows hw v false (some b.gm)
  have hat : (s.mastered v false (some b.gm)).portIs m = s.nextPort x m := (congrArg (vget · m) hport).trans hv
  exact ⟨by rw [hat]; exact hnext, hflag, hgid, hlock rfl⟩

/-! ### The commands -/

theorem execPtpServoUpdate_runs {m : Nat} {d : Int} (hfcp : s.fencenRuns = true) (hnet : s.netRuns = true) (hon : s.ptpOn = true)
    (hgm : s.flag F.TB_STAT_GM 0 = false) (hp : s.servoPort = some (m, d)) :
    exec .ptpServoUpdate s = .next (((s.modLink m fun x => { x with due := false }).servo d).calibrated m d) := by
  show execPtpServoUpdate s = _
  unfold execPtpServoUpdate
  simp only [hfcp, hnet, hon, hgm, hp]
  rfl

theorem execPtpServoUpdate_idle (h : s.fencenRuns = false ∨ s.netRuns = false ∨ s.ptpOn = false ∨ s.flag F.TB_STAT_GM 0 = true ∨
    s.servoPort = none) : exec .ptpServoUpdate s = .next s := by
  show execPtpServoUpdate s = _
  unfold execPtpServoUpdate
  split
  · next m d hon hp =>
    rw [Bool.and_eq_true, Bool.and_eq_true, Bool.and_eq_true, Bool.not_eq_true'] at hon
    obtain ⟨⟨⟨hfcp, hnet⟩, hptp⟩, hgm⟩ := hon
    rw [hfcp, hnet, hptp, hgm, hp] at h
    simp at h
  · rfl

/-- A rate and a time step of a time base that the host owns. -/
theorem execTbAdj_taken {tag : Fin 128} {e : Entry} (h : s.Serves 0x0B03 tag e) (hb : e.a 0 ≤ 3) (hf : (signed 32 (e.a32 4)).natAbs ≤ 500000000)
    (hns : leAt e.args 16 4 < 1000000000) (hown : s.hostOwned (e.a 0) = true) : exec (.tbAdj tag) s =
      .next (((s.adjTb (e.a 0) (signed 32 (e.a32 4)) (signedTimeAt e.args 8)).cond (decide (signedTimeAt e.args 8 ≠ 0 ∧ e.a 0 = 0)) fun u =>
        u.dropLock).done e.tag FS.FS_OK) := by
  refine (serve_eq h _).trans (congrArg _ ?_)
  exact (if_neg (by omega)).trans (if_neg (by rw [hown]; exact nofun))

theorem execTbSet_taken {tag : Fin 128} {e : Entry} (h : s.Serves 0x0B02 tag e) (hb : e.a 0 ≤ 3) (hns : leAt e.args 12 4 < 1000000000)
    (hown : s.hostOwned (e.a 0) = true) : exec (.tbSet tag) s =
      .next (((s.stepTb (e.a 0) ((timeAt e.args 4 : Nat) - ((vget s.tb (e.a 0)).ticks : Int))).cond (e.a 0 == 0) fun t => t.dropLock).done
        e.tag FS.FS_OK) := by
  refine (serve_eq h _).trans (congrArg _ ?_)
  exact (if_neg (by omega)).trans (if_neg (by rw [hown]; exact nofun))

/-- The PTP clock with a new configuration (R433). -/
def State.ptpRestarted (s : State) (p : List Byte) : State :=
  ((s.modPtp fun x => { x with
        cfg := p, good := 0, bad := 0, fromPeer := false, links := Vector.replicate 3 {}, heard := [], gm := none
        port := (List.range 3).foldl (fun v m => vmod v m fun _ => if leAt p 0 1 % 2 == 1 && bitOf (leAt p 1 1) m then 0 else 2) x.port }).setFlag
    F.TB_STAT_GM 0 false).showPtp

theorem ptpRestarted_shows (hw : s.Canon) (p : List Byte) : (s.ptpRestarted p).Canon ∧ (s.ptpRestarted p).ptp.cfg = p ∧
    (s.ptpRestarted p).ptp.good = 0 ∧ (s.ptpRestarted p).ptp.bad = 0 ∧ (s.ptpRestarted p).ptp.fromPeer = false :=
  ⟨(showPtp_shows (canonAfterFlag (s := s.modPtp _) hw F.TB_STAT_GM 0 false)).1, rfl, rfl, rfl, rfl⟩

theorem execPtpCfg_taken {tag : Fin 128} {e : Entry} (h : s.Serves 0x0B04 tag e) (hok : s.ptpOk e.payload = true) :
    exec (.ptpCfg tag) s = .next (((s.ptpRestarted e.payload).setTbLock false).done e.tag FS.FS_OK) :=
  (serve_eq h _).trans (congrArg _ (if_neg (by rw [hok]; exact nofun)))

theorem done_setTbLock_ptp (on : Bool) (tag status : Nat) : ((s.setTbLock on).done tag status).ptp = s.ptp :=
  (State.done_ptp _ _).trans (setTbLock_ptp on)

/-- Settles O38: the servo's updates, the best master algorithm on one port, and the commands on the time bases. -/
theorem timeCommandsComplete : Obligations.TimeCommandsComplete := by
  unfold Obligations.TimeCommandsComplete
  refine ⟨?_, ?_, ?_, ?_, ?_, ?_, ?_, ?_, ?_, ?_, ?_, ?_, ?_, ?_, ?_, ?_, ?_, ?_, ?_, ?_, ?_, ?_, ?_, ?_, ?_⟩
  · intro s m d hfcp hnet hon hgm hp
    exact execPtpServoUpdate_runs hfcp hnet hon hgm hp
  · intro s h
    exact execPtpServoUpdate_idle h
  · intro s m d p hm hmask hport hdue hd hp
    exact servoPort_single hm hmask hport hdue hd hp
  · intro s d h1 h2 hg
    have hadj := adjTb_adj (s := s) (b := 0) (by decide) (freeTrim s.fresh) 0
    rw [servo_within h1 h2 hg]
    refine ⟨rfl, rfl, rfl, ⟨freeTrim s.fresh, ?_, clampInt_bounds _⟩, hadj.2, ?_⟩
    · show (vget (s.adjTb 0 (freeTrim s.fresh) 0).tb 0).adj = _
      rw [hadj.1, Int.zero_add]
    · have hadjust := adjTb_rate_in (Within.refl (Part.mask [.fresh, .tb, .ptp]) s) rfl 0 (freeTrim s.fresh)
      generalize s.adjTb 0 (freeTrim s.fresh) 0 = t at *
      exact (State.modPtp_in (State.bump_in hadjust rfl) rfl _).only
  · intro s d hw h
    exact servo_steps hw h
  · intro t f d h
    exact clocks_one_adj h
  · intro t h hf
    exact clocks_one_free h hf
  · intro s hon hgm
    exact congrArg Host.Outcome.next (if_pos (by rw [hon, hgm]; rfl))
  · intro s h
    refine congrArg Host.Outcome.next (if_neg ?_)
    rcases h with h | h <;> rw [h] <;> simp
  · intro s hw
    exact ⟨dropLock_locked hw, by rw [dropLock_ptp]⟩
  · intro s m hfcp hnet hon hbit
    exact congrArg Host.Outcome.next (if_neg (by rw [hfcp, hnet, hon, hbit]; exact nofun))
  · intro s m h
    refine congrArg Host.Outcome.next (if_pos ?_)
    rcases h with h | h | h | h <;> rw [h] <;> simp
  · intro s t m hm hw _ hmask hb hrole ht
    rw [ht]
    exact bestMaster_alone hw hm hmask hb hrole
  · intro s t m x b hm hw _ hmask hb hbm hcls hrank ht
    rw [ht]
    exact bestMaster_follows hw hm hmask hb hbm hcls hrank x
  · intro s tag e h
    exact ⟨_, serve_eq h _, h.completed _ _ _ (by decide), State.complete_only _ _ _ _ _⟩
  · intro s tag e h hb hns hown
    rw [execTbSet_taken h (by omega) hns (by rw [hb]; exact hown), hb, h.tag_eq]
    rfl
  · intro s tag e h hb hns hown
    rw [execTbSet_taken h (by omega) hns (by rw [hb]; exact hown), hb, h.tag_eq]
    rfl
  · intro s tag e h hb hns hown
    exact ⟨_, (serve_eq h _).trans (congrArg _ ((if_neg (by omega)).trans (if_pos (by rw [hown]; rfl)))), h.done_after rfl rfl (by decide),
      State.done_only _ _⟩
  · intro s b k hb hk
    exact stepTb_ticks hb hk
  · intro s tag e h hb hf hns hown hd
    have hadj := adjTb_adj (s := s) (b := e.a 0) (by omega) (signed 32 (e.a32 4)) 0
    have hin := adjTb_rate_in (Within.refl (Part.mask [.fcp, .tb, .macs]) s) rfl (e.a 0) (signed 32 (e.a32 4))
    refine ⟨_, execTbAdj_taken h hb hf hns hown, ?_⟩
    rw [hd, decide_eq_false (fun hc => hc.1 rfl), State.cond_false, State.done_tb]
    refine ⟨by rw [hadj.1, Int.zero_add], hadj.2, h.done_after (t := s.adjTb (e.a 0) (signed 32 (e.a32 4)) 0) rfl rfl (by decide), ?_⟩
    generalize s.adjTb (e.a 0) (signed 32 (e.a32 4)) 0 = t at *
    exact (State.done_in hin rfl _ _).only
  · intro s tag e h hb hf hns hown hd
    rw [execTbAdj_taken h (by omega) hf hns (by rw [hb]; exact hown), hb, h.tag_eq, decide_eq_false (fun hc => absurd hc.2 (by decide)), State.cond_false]
  · intro s tag e h hb hf hns hown hd
    rw [execTbAdj_taken h (by omega) hf hns (by rw [hb]; exact hown), hb, h.tag_eq, decide_eq_true ⟨hd, rfl⟩, State.cond_true]
  · intro s tag e h hb hf hns hown
    exact ⟨_, (serve_eq h _).trans (congrArg _ ((if_neg (by omega)).trans (if_pos (by rw [hown]; rfl)))), h.done_after rfl rfl (by decide),
      State.done_only _ _⟩
  · intro s tag e h hok
    have hexec := execPtpCfg_taken h hok
    have hsub : [Part.regs, .fcp, .evq, .trace, .macs, .ptp, .recd] ⊆ [Part.regs, .fcp, .evq, .trace, .ptp, .recd, .macs] := by decide
    obtain ⟨hw, hcfg, hgood, hbad, hpeer⟩ := ptpRestarted_shows h.canon e.payload
    refine ⟨_, hexec, ?_, ?_, ?_, ?_, ?_, fun p hp => exec_only hexec p fun hm => hp (hsub hm)⟩
    · rw [done_setTbLock_ptp, hcfg]
    · rw [done_setTbLock_ptp, hgood]
    · rw [done_setTbLock_ptp, hbad]
    · rw [State.done_flag, setTbLock_shows hw]
    · rw [done_setTbLock_ptp, hpeer]
  · intro s tag e h hok
    exact ⟨_, (serve_eq h _).trans (congrArg _ (if_pos (by rw [hok]; rfl))), h.done_after rfl rfl (by decide), State.done_only _ _⟩

end Sys2Proof.Machine
end

section
/-!
PROOFS. The HLP's cycle (R347 to R352), its program, its restarts and its host commands (R344 to R354).
-/
namespace Sys2Proof.Machine

variable {s : State}

/-! ### Cycle boundaries -/

theorem hlpRuns_iff : s.hlpRuns = true ↔ s.fld F.HLP_STATUS_STATE 0 = 1 ∨ s.fld F.HLP_STATUS_STATE 0 = 2 := by
  unfold State.hlpRuns
  rw [Bool.or_eq_true, beq_iff_eq, beq_iff_eq]

/-- The start of a cycle in RUN or INIT, by the state the HLP is in. -/
theorem execHlpCycleStart_runs (hdbg : s.hlp.dbgHalted = false) (hclk : s.hlpClock = true) (hruns : s.hlpRuns = true) :
    exec .hlpCycleStart s = .next (if s.fld F.HLP_STATUS_STATE 0 = 1 then (if s.hlp.initDone then s.hlpBoundary else s)
      else if s.hlp.busy then s.modHlp fun h => { h with skips := h.skips + 1 } else s.hlpBoundary) :=
  congrArg Host.Outcome.next (if_neg (by rw [hdbg, hclk, hruns]; exact nofun))

theorem execHlpCycleStart_run (hdbg : s.hlp.dbgHalted = false) (hclk : s.hlpClock = true) (hst : s.fld F.HLP_STATUS_STATE 0 = 2) :
    exec .hlpCycleStart s = .next (if s.hlp.busy then s.modHlp fun h => { h with skips := h.skips + 1 } else s.hlpBoundary) := by
  rw [execHlpCycleStart_runs hdbg hclk (hlpRuns_iff.mpr (.inr hst)), hst]
  rfl

theorem execHlpCycleStart_init (hdbg : s.hlp.dbgHalted = false) (hclk : s.hlpClock = true) (hst : s.fld F.HLP_STATUS_STATE 0 = 1) :
    exec .hlpCycleStart s = .next (if s.hlp.initDone then s.hlpBoundary else s) := by
  rw [execHlpCycleStart_runs hdbg hclk (hlpRuns_iff.mpr (.inl hst)), hst]
  rfl

theorem execHlpCycleStart_idle (h : s.hlpRuns = false ∨ s.hlp.dbgHalted = true ∨ s.hlpClock = false) : exec .hlpCycleStart s = .next s := by
  refine congrArg Host.Outcome.next (if_pos ?_)
  rcases h with h | h | h <;> rw [h] <;> simp

theorem modHlp_only (f : HlpSt → HlpSt) : s.Only (s.modHlp f) [.hlp] := (State.modHlp_in (Within.refl (Part.mask [.hlp]) s) rfl f).only

/-! ### The output phase -/

/-- Giving the ports their levels leaves the HLP and the event queue. -/
theorem hlpBkrs_keeps (f : Nat → PortSt → PortSt) (n : Nat) : (s.forUnits n fun t p => t.modPort p (f p)).hlp = s.hlp ∧
    (s.forUnits n fun t p => t.modPort p (f p)).evq = s.evq ∧ (s.forUnits n fun t p => t.modPort p (f p)).regs = s.regs :=
  forUnits_keeps (P := fun t => t.hlp = s.hlp ∧ t.evq = s.evq ∧ t.regs = s.regs) ⟨rfl, rfl, rfl⟩ fun _ _ _ ht => ht

/-- The retained area is committed to the older buffer. -/
theorem commitRetained_shows : s.commitRetained.hlp.doCmd = s.hlp.doCmd ∧ s.commitRetained.hlp.ready = s.hlp.ready ∧
    s.commitRetained.evq = s.evq ∧ s.commitRetained.hlp.oldest = 1 - s.hlp.oldest := ⟨rfl, rfl, rfl, rfl⟩

/-- What the buffer written last holds. -/
def State.retBuf (s : State) : RetBuf := ⟨below s.hlp.mem 0x2000, s.fld F.HLP_CYCNUM_CYCNUM 0, s.hlp.prog.hdr 4 4,
  retCrc (below s.hlp.mem 0x2000) (s.fld F.HLP_CYCNUM_CYCNUM 0) (s.hlp.prog.hdr 4 4)⟩

theorem commitRetained_store (h : s.hlp.oldest < 2) : vget s.commitRetained.hlp.store s.hlp.oldest = some s.retBuf := vget_same _ _ _ h

/-- The outputs and the send data of the output phase, before the retained area is committed. -/
def State.hlpOut (s : State) : State :=
  (s.modHlp fun h => { h with
    doCmd := s.hlpDo, qOut := (s.hlp.mem.filter fun x => decide (0x11000 ≤ x.1)).map fun x => (x.1 - 0x11000, x.2), ready := true
    go := s.hbit (8 * 0x11000) }).forUnits 12 fun t p => t.modPort p fun x => { x with hlpBkr := s.hbit (8 * (0x11010 + 4 * p)) }

theorem hlpOutput_eq : s.hlpOutput = s.hlpOut.commitRetained := rfl

/-- The HLP's part of the output phase. -/
def State.outPhase (s : State) (h : HlpSt) : HlpSt := { h with
  doCmd := s.hlpDo, qOut := (s.hlp.mem.filter fun x => decide (0x11000 ≤ x.1)).map fun x => (x.1 - 0x11000, x.2), ready := true
  go := s.hbit (8 * 0x11000) }

theorem hlpOut_hlp : s.hlpOut.hlp = s.outPhase s.hlp := (hlpBkrs_keeps _ 12).1

theorem hlpOut_evq : s.hlpOut.evq = s.evq := (hlpBkrs_keeps _ 12).2.1

theorem hlpOut_fld (f : Fld) (i : Nat) : s.hlpOut.fld f i = s.fld f i :=
  congrArg (fun r => fieldOf (Memory.get resetWord r (regKey f.cls i f.off)) f.hi f.lo) (hlpBkrs_keeps _ 12).2.2

theorem hlpOutput_shows : s.hlpOutput.hlp.doCmd = s.hlpDo ∧ s.hlpOutput.hlp.ready = true ∧ s.hlpOutput.evq = s.evq := by
  obtain ⟨hdo, hready, hevq, -⟩ := commitRetained_shows (s := s.hlpOut)
  rw [hlpOutput_eq, hdo, hready, hevq, hlpOut_hlp]
  exact ⟨rfl, rfl, hlpOut_evq⟩

theorem hlpOutput_retains (h : s.hlp.oldest < 2) : ∃ b, vget s.hlpOutput.hlp.store s.hlp.oldest = some b ∧
    b.cycle = s.fld F.HLP_CYCNUM_CYCNUM 0 ∧ b.area = below s.hlp.mem 0x2000 ∧ b.retainId = s.hlp.prog.hdr 4 4 ∧
    s.hlpOutput.hlp.oldest = 1 - s.hlp.oldest := by
  have hold : s.hlpOut.hlp.oldest = s.hlp.oldest := by
    rw [hlpOut_hlp]
    rfl
  have hstore := commitRetained_store (s := s.hlpOut) (by rw [hold]; exact h)
  rw [hold] at hstore
  rw [hlpOutput_eq]
  have hmem : s.hlpOut.hlp.mem = s.hlp.mem := by
    rw [hlpOut_hlp]
    rfl
  have hprog : s.hlpOut.hlp.prog = s.hlp.prog := by
    rw [hlpOut_hlp]
    rfl
  refine ⟨s.hlpOut.retBuf, hstore, hlpOut_fld _ _, congrArg (below · 0x2000) hmem, congrArg (·.hdr 4 4) hprog, ?_⟩
  rw [commitRetained_shows.2.2.2, hold]

/-- The end of an execution, in a cycle: the output phase, and what an overrun leaves. -/
theorem execHlpExecutionEnd_taken {n : Nat} (h : s.inCycle = true) : exec (.hlpExecutionEnd n) s =
    .next ((((s.setFld F.HLP_TIME_EXEC_LAST 0 (min n 0xFFFF)).setFld F.HLP_TIME_EXEC_MAX 0
      (max (min n 0xFFFF) (s.fld F.HLP_TIME_EXEC_MAX 0))).hlpOutput.cond s.hlp.overran fun t => t.hlpOverEnd).modHlp fun h =>
        { h with section_ := none, busy := false, overran := false, skips := 0 }) :=
  congrArg Host.Outcome.next (if_neg (by rw [h]; exact nofun))

/-! ### Limits and tiles -/

theorem execHlpOverrun_counted (hc : s.inCyclic = true) (ho : s.hlp.overran = false) (hm : s.fld F.HLP_STATUS_MODE 0 ≠ 1) :
    exec .hlpOverrun s = .next ((s.modHlp fun h => { h with overran := true }).count F.HLP_CNT_OVR_CNT 0) :=
  congrArg Host.Outcome.next ((if_neg (by rw [hc, ho]; exact nofun)).trans (if_neg hm))

theorem execHlpTileRewrite_fixes {k : Fin 64} (hbad : (2, k.val) ∈ s.coef.found) (hfix : k.val ∉ s.hlp.fix) : exec (.hlpTileRewrite k) s =
    .next (if s.hlpRuns then s.modHlp fun h => { h with fix := h.fix ++ [k.val] } else s.hlpFix k) :=
  congrArg Host.Outcome.next (if_neg (by simp [hbad, hfix]))

/-- Settles O42: the starts, ends and overruns of cycles, the limits, and the rewritten tiles. -/
theorem hlpCycleCommandsComplete : Obligations.HlpCycleCommandsComplete := by
  unfold Obligations.HlpCycleCommandsComplete
  refine ⟨?_, ?_, ?_, ?_, ?_, ?_, ?_, ?_, ?_, ?_, ?_, ?_, ?_, ?_, ?_, ?_, ?_, ?_, ?_, ?_, ?_, ?_⟩
  · intro s hdbg hclk hst hbusy
    rw [execHlpCycleStart_run hdbg hclk hst, hbusy]
    rfl
  · intro s hdbg hclk hst hbusy
    refine ⟨_, (execHlpCycleStart_run hdbg hclk hst).trans (congrArg _ (if_pos hbusy)), rfl, modHlp_only _⟩
  · intro s h
    exact execHlpCycleStart_idle h
  · intro s u hu h
    subst hu
    refine if_pos ?_
    rcases h with h | h <;> rw [h] <;> simp
  · intro s u hu hpad hwait
    subst hu
    exact if_neg (by rw [hpad, hwait]; exact nofun)
  · intro s hdbg hclk hst
    refine ⟨fun hdone => ?_, fun hdone => ?_⟩ <;> rw [execHlpCycleStart_init hdbg hclk hst, hdone] <;> rfl
  · intro s t n k hc hk ht
    subst hk ht
    refine ⟨fun ho => ?_, fun ho => ?_⟩ <;> rw [execHlpExecutionEnd_taken hc, ho]
    · rw [State.cond_false]
    · rw [State.cond_true]
  · intro s n h
    exact congrArg Host.Outcome.next (if_pos (by rw [h]; rfl))
  · intro s h
    refine congrArg Host.Outcome.next (if_pos ?_)
    rcases h with h | h <;> rw [h] <;> simp
  · intro s h
    exact congrArg Host.Outcome.next (if_neg (by rw [h]; exact nofun))
  · intro s h
    exact congrArg Host.Outcome.next (if_neg h)
  · intro s h
    refine congrArg Host.Outcome.next (if_neg ?_)
    rcases h with h | h | h <;> rw [h] <;> simp
  · intro s k h
    refine congrArg Host.Outcome.next (if_pos ?_)
    rcases h with h | h <;> simp [h]
  · intro s
    exact hlpOutput_shows
  · intro s h
    exact hlpOutput_retains h
  · intro s hc ho hm
    exact congrArg Host.Outcome.next ((if_neg (by rw [hc, ho]; exact nofun)).trans (if_pos hm))
  · intro s hw hc ho hm
    have hmod : (s.modHlp fun h => { h with overran := true }).Canon := hw
    refine ⟨_, execHlpOverrun_counted hc ho hm, by rw [State.count_hlp]; rfl, State.fld_count_same hmod _ _ (by decide),
      (((State.RegsBut.refl s _).modHlp _).count hmod _ _ List.mem_cons_self (by decide)),
      (State.count_in (State.modHlp_in (Within.refl (Part.mask [.regs, .hlp]) s) rfl _) rfl _ _).only⟩
  · intro s hc
    exact congrArg Host.Outcome.next (if_pos hc)
  · intro s hst
    exact congrArg Host.Outcome.next (if_pos hst)
  · intro s hsec hdbg hclk
    exact congrArg Host.Outcome.next (if_pos (by rw [hsec, hdbg, hclk]; rfl))
  · intro s k hbad hfix hruns
    exact ⟨_, (execHlpTileRewrite_fixes hbad hfix).trans (congrArg _ (if_pos hruns)), rfl, rfl, modHlp_only _⟩
  · intro s k hbad hfix hruns
    exact (execHlpTileRewrite_fixes hbad hfix).trans (congrArg _ (if_neg (by rw [hruns]; exact nofun)))

/-! ### Host commands -/

/-- The state with program p in the HLP and its failed tiles forgotten. -/
def State.progTaken (s : State) (p : HlpProg) : State :=
  let s1 := { s with coef := { s.coef with
    badTiles := s.coef.badTiles.filter (·.1 != 2), found := s.coef.found.filter (·.1 != 2) } }
  s1.modHlp fun h => { h with prog := p, nvm := p, fix := [] }

theorem installProg_eq (p : HlpProg) : s.installProg p = (((s.progTaken p).setFlag F.HLP_STATUS_PROG_OK 0 true).setFld F.FIO_CFG_FIO_SAFE 0
    (p.hdr 18 1)).setFld F.IDENT_HLP_VER_ALL 0 (p.hdr 24 4) := rfl

/-- A program in use: PROG_OK stands beside the fields that follow the program. -/
theorem installProg_shows (hw : s.Canon) (p : HlpProg) : (s.installProg p).hlp.prog = p ∧ (s.installProg p).flag F.HLP_STATUS_PROG_OK 0 = true := by
  refine ⟨rfl, ?_⟩
  have hmod : (s.progTaken p).Canon := hw
  have hset := canonAfterFlag hmod F.HLP_STATUS_PROG_OK 0 true
  rw [installProg_eq, State.flag_setFld_apart (canonAfterFld hset _ _ _) _ _ _ _ _ (by decide), State.flag_setFld_apart hset _ _ _ _ _ (by decide)]
  exact State.flag_setFlag_same hmod _ _ _ (by decide)

/-- A program with the quarter tile and the directory entry of a load command. -/
def HlpProg.quarter (b : HlpProg) (e : Entry) : HlpProg := { b with
  bytes := Memory.setMany (fun _ => 0#8) b.bytes (4096 * e.a 0 + 1024 * e.a 1) (slice e.payload 0 1024)
  dir := Memory.set (fun _ => 0#32) b.dir (e.a 0) (BitVec.ofNat 32 (e.a32 4)) }

/-- The state with a quarter tile in the load buffer. -/
def State.quarterLoaded (s : State) (e : Entry) : State := s.modHlp fun h => { h with buf := s.hlp.buf.quarter e }

theorem execHlpLoad_taken {tag : Fin 128} {e : Entry} (h : s.Serves 0x0A01 tag e) (h0 : e.a 0 ≤ 63) (h1 : e.a 1 ≤ 3)
    (hruns : s.hlpRuns = false) : exec (.hlpLoad tag) s = .next ((s.quarterLoaded e).done e.tag FS.FS_OK) :=
  (serve_eq h _).trans (congrArg _ ((if_neg (by omega)).trans (if_neg (by rw [hruns]; exact nofun))))

/-- The end of a load, of a count in range and with the HLP stopped, by what the check of the program gives. -/
theorem execHlpLoadDone_checked {tag : Fin 128} {e : Entry} (h : s.Serves 0x0A02 tag e) (hlo : 3 ≤ e.a 0) (hhi : e.a 0 ≤ 64)
    (hruns : s.hlpRuns = false) : exec (.hlpLoadDone tag) s =
      .next (if s.loadCheck { s.hlp.buf with count := e.a 0 } = FS.FS_OK then
          (s.installProg { s.hlp.buf with count := e.a 0 }).done e.tag (s.loadCheck { s.hlp.buf with count := e.a 0 })
        else (s.setFlag F.HLP_STATUS_PROG_OK 0 false).done e.tag (s.loadCheck { s.hlp.buf with count := e.a 0 })) :=
  (serve_eq h _).trans (congrArg _ ((if_neg (by omega)).trans (if_neg (by rw [hruns]; exact nofun))))

/-- An online change whose items hold, with none waiting. -/
theorem execHlpOlc_taken {tag : Fin 128} {e : Entry} (h : s.Serves 0x0A06 tag e) (hlo : 1 ≤ e.a 0) (hhi : e.a 0 ≤ 32)
    (hlen : e.payload.length = 16 * e.a 0) (hitems : (List.range (e.a 0)).all (s.olcItemOk e.payload) = true)
    (hcrc : olcCrcOk e.payload (e.a 0) 0 s.hlp.prog = true) (hwait : s.waitingOp 0x0A06 = none) : exec (.hlpOlc tag) s =
      .next (if s.hlpRuns then s.start e.tag else s.olcEnd e) := by
  refine (serve_eq h _).trans (congrArg _ ?_)
  have hrange : ¬ (e.a 0 = 0 ∨ 32 < e.a 0 ∨ (!(List.range (e.a 0)).all (s.olcItemOk e.payload)) = true) := by
    rw [hitems]
    simp
    omega
  exact (if_neg (fun hne => hne hlen)).trans ((if_neg hrange).trans ((if_neg (by rw [hcrc]; exact nofun)).trans
    (if_neg (by rw [hwait]; exact nofun))))

/-- A mode the HLP may take waits. -/
theorem execHlpMode_taken {tag : Fin 128} {e : Entry} (h : s.Serves 0x0A05 tag e) (hruns : s.hlpRuns = true)
    (hm : e.a 0 = 1 ∨ ((e.a 0 = 2 ∨ e.a 0 = 3) ∧ s.fld F.HLP_STATUS_MODE 0 = 1 ∧ s.allOff = true)) :
    exec (.hlpMode tag) s = .next (s.start e.tag) := by
  refine (serve_eq h _).trans (congrArg _ ?_)
  rcases hm with hm | ⟨hm, hmode, hoff⟩
  · exact (if_neg (by omega)).trans ((if_neg (by rw [hruns, hm]; exact nofun)).trans (if_neg (by rw [hm]; exact fun hc => hc.1 rfl)))
  · exact (if_neg (by omega)).trans ((if_neg (by rw [hruns, hmode]; simp)).trans (if_neg (by rw [hoff]; exact fun hc => absurd hc.2 nofun)))

/-- Settles O43: loads, starts and stops of the HLP's program, its modes and its online changes. -/
theorem hlpHostCommandsComplete : Obligations.HlpHostCommandsComplete := by
  unfold Obligations.HlpHostCommandsComplete
  refine ⟨?_, ?_, ?_, ?_, ?_, ?_, ?_, ?_, ?_, ?_, ?_⟩
  · intro s tag e h h0 h1 hruns
    have hexec := execHlpLoad_taken h h0 h1 hruns
    have hfcp : (s.quarterLoaded e).fcp = s.fcp := State.modHlp_fcp _ _
    have hhlp : ((s.quarterLoaded e).done e.tag FS.FS_OK).hlp = { s.hlp with buf := s.hlp.buf.quarter e } := State.done_hlp _ _
    refine ⟨_, hexec, h.done_after (State.svpRuns_of_regs hfcp ((State.modHlp_regs _ _))) hfcp (by decide), ?_, ?_, ?_,
      (State.done_in (State.modHlp_in (Within.refl (Part.mask [.fcp, .hlp, .macs]) s) rfl _) rfl _ _).only⟩ <;> rw [hhlp]
    · rw [HlpProg.quarter]
    · rw [HlpProg.quarter]
  · intro s tag e h hlo hhi hruns hok
    rw [execHlpLoadDone_checked h hlo hhi hruns, if_pos hok, hok, h.tag_eq]
  · intro s p hw
    exact installProg_shows hw p
  · intro s tag e st h hlo hhi hruns hst hne
    rw [execHlpLoadDone_checked h hlo hhi hruns, ← hst, if_neg hne, h.tag_eq]
  · intro s tag e h h0 h1 hruns hprog htiles hwarm
    refine (serve_eq h _).trans (congrArg _ ?_)
    rw [if_neg (by omega), if_neg (by rw [hruns]; exact nofun), if_neg (by rw [hprog, htiles]; exact nofun),
      if_neg (fun hc => hc.2 (hwarm hc.1)), h.tag_eq]
  · intro s tag e hruns
    refine ⟨fun h h0 h1 => ?_, fun h h0 h1 => ?_, fun h h0 h1 => ?_⟩ <;>
      exact (serve_eq h _).trans (congrArg _ ((if_neg (by omega)).trans ((if_pos hruns).trans (by rw [h.tag_eq]))))
  · intro s tag e h hruns
    exact ⟨_, (serve_eq h _).trans (congrArg _ (if_pos hruns)), h.waits rfl rfl rfl, State.start_only _⟩
  · intro s tag e h hruns
    exact ⟨_, (serve_eq h _).trans (congrArg _ (if_neg (by rw [hruns]; exact nofun))), h.done_after rfl rfl (by decide), State.done_only _ _⟩
  · intro s tag e h hruns hm
    exact ⟨_, execHlpMode_taken h hruns hm, h.waits rfl rfl rfl, State.start_only _⟩
  · intro s tag e h hlo hhi hlen hitems hcrc hwait hruns
    exact ⟨_, (execHlpOlc_taken h hlo hhi hlen hitems hcrc hwait).trans (congrArg _ (if_pos hruns)), h.waits rfl rfl rfl, State.start_only _⟩
  · intro s tag e h hlo hhi hlen hitems hcrc hwait hruns
    exact (execHlpOlc_taken h hlo hhi hlen hitems hcrc hwait).trans (congrArg _ (if_neg (by rw [hruns]; exact nofun)))

end Sys2Proof.Machine
end

section
/-!
PROOFS. Reads through the window (R118, R382, R502, R512).
-/
namespace Sys2Proof.Machine

variable {s : State}

/-! ### Paths -/

theorem pathNo_lt (p : Path) : pathNo p < 2 := by cases p <;> decide

theorem pathNo_other (p : Path) : 1 - pathNo p ≠ pathNo p := by cases p <;> decide

/-- A change of a host path leaves the others. -/
theorem pathSt_modPath_apart {p q : Nat} (hp : p < 2) (h : q ≠ p) (f : PathSt → PathSt) : (s.modPath p f).pathSt q = s.pathSt q := by
  unfold State.pathSt State.modPath
  rcases (by omega : p = 0 ∨ p = 1) with rfl | rfl
  · rw [if_neg h, if_neg h]
    rfl
  · split <;> rfl

theorem pathSt_fencen (p : Path) (f : PathSt → PathSt) : (s.modPath (pathNo p) f).pathSt 2 = s.pathSt 2 :=
  pathSt_modPath_apart (pathNo_lt p) (by cases p <;> decide) f

/-! ### Read rows -/

/-- A path that has latched with f, after the clear of the register's RC fields, and with the word it returned. -/
def State.rowRead (s : State) (p c i off : Nat) (w : Word) (f : PathSt → PathSt) : State :=
  ((s.modPath p f).readClear c i off).modPath p fun q => { q with last := [w] }

theorem rowRead_path (p c i off : Nat) (w : Word) (f : PathSt → PathSt) :
    (s.rowRead p c i off w f).pathSt p = { f (s.pathSt p) with last := [w] } := by
  unfold State.rowRead
  rw [State.pathSt_modPath_same, State.pathSt_readClear, State.pathSt_modPath_same]

theorem rowRead_other (p : Path) (c i off : Nat) (w : Word) (f : PathSt → PathSt) :
    (s.rowRead (pathNo p) c i off w f).pathSt (1 - pathNo p) = s.pathSt (1 - pathNo p) := by
  unfold State.rowRead
  rw [pathSt_modPath_apart (pathNo_lt p) (pathNo_other p), State.pathSt_readClear, pathSt_modPath_apart (pathNo_lt p) (pathNo_other p)]

theorem rowRead_only (p c i off : Nat) (w : Word) (f : PathSt → PathSt) : s.Only (s.rowRead p c i off w f) [.regs, .win] :=
  (State.modPath_in (State.readClear_in (State.modPath_in (Within.refl (Part.mask [.regs, .win]) s) rfl p f) rfl c i off) rfl p _).only

/-- A taken read of a register whose read fills only latches of its own path. -/
theorem readRow_latches {p c i off : Nat} {w : Word} {f : PathSt → PathSt} (ha : s.access p off false = 0) (hoff : off ≠ 0x400)
    (hunit : s.unitAt p off = (c, i)) (hpeek : s.peek p off = w) (hlatch : s.readLatch p c i off true = s.modPath p f) :
    s.readRow p off = s.rowRead p c i off w f := by
  unfold State.readRow
  rw [State.hostRead_taken ha hoff, hunit, hpeek, hlatch]
  rfl

/-- The latches of the global registers. -/
theorem readRow_global {p off : Nat} {w : Word} {f : PathSt → PathSt} (ha : s.access p off false = 0) (hoff : off < 0x3C0 ∨ off = 0x800)
    (hview : s.regView (s.pathSt p) 0 0 off = w) (hlatch : s.readLatch p 0 0 off true = s.modPath p f) :
    s.readRow p off = s.rowRead p 0 0 off w f := by
  have hsel : (decide (0x3C0 ≤ off) && decide (off < 0x400)) = false := by
    rw [Bool.and_eq_false_iff, decide_eq_false_iff_not, decide_eq_false_iff_not]
    omega
  have hram : (decide (0x1000 ≤ off) && decide (off < 0x8000)) = false := by
    rw [Bool.and_eq_false_iff, decide_eq_false_iff_not, decide_eq_false_iff_not]
    omega
  refine readRow_latches ha (by omega) ?_ ?_ hlatch
  · unfold State.unitAt
    rw [hsel]
    rfl
  · unfold State.peek
    rw [hsel, hram]
    exact hview

/-- The unit that a path has selected answers in the window's selected part. -/
theorem peek_selected {p off : Nat} (hv : (s.pathSt p).valid = true) (hlo : 0x3C0 ≤ off) (hhi : off < 0x400) :
    s.peek p off = s.regView (s.pathSt p) (s.pathSt p).cls (s.pathSt p).idx off ∧ s.unitAt p off = ((s.pathSt p).cls, (s.pathSt p).idx) := by
  have hram : ¬ 0x1000 ≤ off := by omega
  unfold State.peek State.unitAt
  simp [hv, hlo, hhi, hram]

theorem valid_timeBase {q : PathSt} (hc : q.cls = 0xA) (hi : q.idx < 4) : q.valid = true := by
  unfold PathSt.valid
  rw [hc]
  exact decide_eq_true hi

/-- A time base's nanoseconds latch the rest of its time. -/
theorem readRow_timeBase {p : Nat} (ha : s.access p 0x3C4 false = 0) (hc : (s.pathSt p).cls = 0xA) (hi : (s.pathSt p).idx < 4) :
    s.readRow p 0x3C4 = s.rowRead p 0xA (s.pathSt p).idx 0x3C4 (lo32 (vget s.tb (s.pathSt p).idx).ns) fun q => { q with
      secLo := lo32 (vget s.tb (s.pathSt p).idx).sec, secHi := hi32 (vget s.tb (s.pathSt p).idx).sec
      frac := lo32 ((vget s.tb (s.pathSt p).idx).ticks % 65536) } := by
  obtain ⟨hpeek, hunit⟩ := peek_selected (valid_timeBase hc hi) (by decide : 0x3C0 ≤ 0x3C4) (by decide)
  rw [hc] at hpeek hunit
  exact readRow_latches ha (by decide) hunit hpeek rfl

/-- The state whose path p views the snapshot taken last. -/
def State.viewed (s : State) (p : Nat) : State := s.modPath p fun q => { q with view := s.win.snap }

theorem no_row_of_snapshot : regRow? 0 0x400 = none := by decide +kernel

/-- A read of SNAP_PNUM_LO renews the view. -/
theorem readRow_snapshot {p : Nat} (ha : s.access p 0x400 false = 0) :
    s.readRow p 0x400 = (s.viewed p).modPath p fun q => { q with last := [Memory.get (fun _ => 0#32) s.win.snap 0x400] } := by
  have hread : s.hostRead p 0x400 = ((s.viewed p).peek p 0x400, (s.viewed p).readClear 0 0 0x400) := by
    unfold State.hostRead
    rw [ha]
    rfl
  have hclear : (s.viewed p).readClear 0 0 0x400 = s.viewed p := by
    unfold State.readClear
    rw [no_row_of_snapshot]
  have hview : ((s.viewed p).pathSt p).view = s.win.snap := by
    unfold State.viewed
    rw [State.pathSt_modPath_same]
  have hpeek : (s.viewed p).peek p 0x400 = Memory.get (fun _ => 0#32) s.win.snap 0x400 := by
    rw [← hview]
    show (s.viewed p).regView ((s.viewed p).pathSt p) 0 0 0x400 = _
    generalize s.viewed p = t
    unfold State.regView
    rw [no_row_of_snapshot]
    rfl
  unfold State.readRow
  rw [hread, hclear, hpeek]

/-- A read on a closed path returns 0 and latches nothing. -/
theorem readRow_closed {p off : Nat} (ha : s.access p off false = 1) : s.readRow p off = s.modPath p fun q => { q with last := [0] } := by
  unfold State.readRow State.hostRead
  rw [ha]
  rfl

/-! ### The quad-SPI -/

/-- A READ of one aligned word latches it once and shifts out its four bytes. -/
theorem execQspiRead_word (a : BitVec 16) (h : a.toNat % 4 = 0) : exec (.qspiRead a 4) s =
    .next { ((s.hostRead 0 a.toNat).2.modPath 0 fun q => { q with last := [(s.hostRead 0 a.toNat).1] }) with
      win := { ((s.hostRead 0 a.toNat).2.modPath 0 fun q => { q with last := [(s.hostRead 0 a.toNat).1] }).win with
        shifted := leBytes 4 (s.hostRead 0 a.toNat).1.toNat } } := by
  have hlt := a.isLt
  have h0 : (a.toNat + 0) % 65536 = a.toNat := by omega
  have h1 : (a.toNat + 1) % 65536 = a.toNat + 1 := by omega
  have h2 : (a.toNat + 2) % 65536 = a.toNat + 2 := by omega
  have h3 : (a.toNat + 3) % 65536 = a.toNat + 3 := by omega
  have m1 : (a.toNat + 1) % 4 = 1 := by omega
  have m2 : (a.toNat + 2) % 4 = 2 := by omega
  have m3 : (a.toNat + 3) % 4 = 3 := by omega
  have hword : a.toNat / 4 * 4 = a.toNat := by omega
  show execQspiRead a 4 s = _
  unfold execQspiRead
  simp only [show List.range 4 = [0, 1, 2, 3] from rfl, List.foldl_cons, List.foldl_nil, Shift.byte, h0, h1, h2, h3, h, m1, m2, m3, hword,
    if_true, Nat.reduceEqDiff, OfNat.ofNat_ne_zero, or_self, if_false]
  rfl

/-- Settles O45: each row by what its read latches on its path. -/
theorem windowReadsComplete : Obligations.WindowReadsComplete := by
  unfold Obligations.WindowReadsComplete
  refine ⟨?_, ?_, ?_, ?_, ?_, ?_, ?_, ?_, ?_, ?_⟩
  · intro s p ha hc hi
    have hexec := exec_resStatRead hc
    have hrow : s.readRow (pathNo p) 0x3C8 =
        ((s.resLatched (pathNo p) (s.pathSt (pathNo p)).idx).readClear 3 (s.pathSt (pathNo p)).idx 0x3C8).modPath (pathNo p)
          fun q => { q with last := [s.cword (s.pathSt (pathNo p)).idx 48] } := by
      unfold State.readRow
      rw [State.hostRead_resStat ha hc hi]
    have hpath : (s.readRow (pathNo p) 0x3C8).pathSt (pathNo p) = { s.pathSt (pathNo p) with
        res := [s.cword (s.pathSt (pathNo p)).idx 49, s.cword (s.pathSt (pathNo p)).idx 50, s.cword (s.pathSt (pathNo p)).idx 51,
          s.cword (s.pathSt (pathNo p)).idx 52], last := [s.cword (s.pathSt (pathNo p)).idx 48] } := by
      rw [hrow, State.pathSt_modPath_same, State.pathSt_readClear, State.resLatched_path]
    have hkeep : ∀ q, q ≠ pathNo p → (s.readRow (pathNo p) 0x3C8).pathSt q = s.pathSt q := fun q hq => by
      rw [hrow, pathSt_modPath_apart (pathNo_lt p) hq, State.pathSt_readClear, State.resLatched, State.pathSt_setCf,
        pathSt_modPath_apart (pathNo_lt p) hq]
    exact ⟨_, hexec, by rw [hpath], by rw [hpath], hkeep _ (pathNo_other p), hkeep _ (by cases p <;> decide), exec_only hexec⟩
  · intro s p ha
    refine ⟨_, congrArg Host.Outcome.next (readRow_snapshot ha), ?_, ?_, ?_, ?_⟩
    · rw [State.pathSt_modPath_same, State.viewed, State.pathSt_modPath_same]
    · rw [State.pathSt_modPath_same]
    · rw [pathSt_modPath_apart (pathNo_lt p) (pathNo_other p)]
      exact pathSt_modPath_apart (pathNo_lt p) (pathNo_other p) _
    · exact (State.modPath_in (State.modPath_in (Within.refl (Part.mask [.regs, .win]) s) rfl _ _) rfl _ _).only
  · intro s p ha
    have hrow := readRow_global (f := fun q => { q with pnumHi := hi32 s.pwm.pnum }) ha (.inl (by decide)) rfl rfl
    exact ⟨_, congrArg Host.Outcome.next hrow, by rw [rowRead_path]; rfl, by rw [rowRead_path]; rfl, rowRead_other _ _ _ _ _ _, rowRead_only _ _ _ _ _ _⟩
  · intro s p ha
    have hrow := readRow_global (f := fun q => { q with recHi := hi32 s.recd.next }) ha (.inl (by decide)) rfl rfl
    exact ⟨_, congrArg Host.Outcome.next hrow, by rw [rowRead_path]; rfl, by rw [rowRead_path]; rfl, rowRead_only _ _ _ _ _ _⟩
  · intro s p ha
    have hrow := readRow_global (f := fun q => { q with evbHi := hi32 s.evq.blockNext }) ha (.inr rfl) rfl rfl
    exact ⟨_, congrArg Host.Outcome.next hrow, by rw [rowRead_path]; rfl, by rw [rowRead_path]; rfl, rowRead_only _ _ _ _ _ _⟩
  · intro s p ha hc hi
    have hrow := readRow_timeBase ha hc hi
    have hexec : exec (.highWordLatchRead p .tb) s = .next (s.readRow (pathNo p) 0x3C4) :=
      congrArg Host.Outcome.next (if_neg (by rw [hc]; exact nofun))
    exact ⟨_, hexec.trans (congrArg _ hrow), by rw [rowRead_path]; rfl, by rw [rowRead_path]; rfl, rowRead_only _ _ _ _ _ _⟩
  · intro s a h
    refine ⟨_, execQspiRead_word a h, rfl, ?_⟩
    generalize s.hostRead 0 a.toNat = r
    rfl
  · intro s
    rfl
  · intro s p
    exact ⟨fun hc => congrArg Host.Outcome.next (if_neg hc), fun hc => congrArg Host.Outcome.next (if_pos (by rw [bne_iff_ne.mpr hc]; rfl))⟩
  · intro s p ha
    refine ⟨_, congrArg Host.Outcome.next (readRow_closed ha), ?_, ?_, (State.modPath_in (Within.refl (Part.mask [.win]) s) rfl _ _).only⟩ <;>
      rw [State.pathSt_modPath_same]

end Sys2Proof.Machine
end

section
/-!
PROOFS. Writes through the window (R11, R162, R172, R199, R204, R223, R227, R240, R381, R382, R501, R505, R517, R521).
-/
namespace Sys2Proof.Machine

variable {s : State}

/-! ### Offsets outside the mailboxes -/

/-- A write outside the mailboxes is judged once. -/
theorem hostWrite_word {p off : Nat} (hoff : off < 0x1000 ∨ 0x8000 ≤ off) (v : Word) :
    s.hostWrite p off v = s.guarded p off true fun t => t.writeReg p (t.unitAt p off).1 (t.unitAt p off).2 off v := by
  have hram : (decide (0x1000 ≤ off) && decide (off < 0x8000)) = false := by
    rw [Bool.and_eq_false_iff, decide_eq_false_iff_not, decide_eq_false_iff_not]
    omega
  unfold State.hostWrite
  rw [hram]
  rfl

theorem hostWrite_taken {p off : Nat} (ha : s.access p off true = 0) (hoff : off < 0x1000 ∨ 0x8000 ≤ off) (v : Word) :
    s.hostWrite p off v = s.writeReg p (s.unitAt p off).1 (s.unitAt p off).2 off v := by
  rw [hostWrite_word hoff]
  unfold State.guarded
  rw [ha]
  rfl

theorem hostWrite_closed {p off : Nat} (ha : s.access p off true = 1) (hoff : off < 0x1000 ∨ 0x8000 ≤ off) (v : Word) : s.hostWrite p off v = s := by
  rw [hostWrite_word hoff]
  unfold State.guarded
  rw [ha]
  rfl

theorem hostWrite_denied {p off : Nat} (ha : 2 ≤ s.access p off true) (hoff : off < 0x1000 ∨ 0x8000 ≤ off) (v : Word) :
    s.hostWrite p off v = s.count F.DRW_STAT_DENY_CNT 0 := by
  rw [hostWrite_word hoff]
  unfold State.guarded
  split
  · next h => exact absurd h (by omega)
  · next h => exact absurd h (by omega)
  · rfl

/-- A write of a selected unit's register, through a path that has its class selected. -/
theorem selWrite_taken {p : Path} {c off : Nat} (ha : s.access (pathNo p) off true = 0) (hc : (s.pathSt (pathNo p)).cls = c)
    (hv : (s.pathSt (pathNo p)).valid = true) (hlo : 0x3C0 ≤ off) (hhi : off < 0x400) (v : Word) :
    s.selWrite p c off v = s.writeReg (pathNo p) c (s.pathSt (pathNo p)).idx off v := by
  unfold State.selWrite
  rw [if_pos hc, hostWrite_taken ha (.inl (by omega)), (peek_selected hv hlo hhi).2, hc]

theorem selWrite_other {p : Path} {c off : Nat} (hc : (s.pathSt (pathNo p)).cls ≠ c) (v : Word) : s.selWrite p c off v = s := if_neg hc

/-! ### Manual bundles -/

/-- The bundle of a manual commit (R205). -/
def State.manBundle (s : State) : Bundle := {
  unit := 13, stamp := s.pwm.pnum, ws := s.pwm.manSet.map fun n => (n, s.fld F.LEG_CMP_ALL n), env := []
  period := if s.pwm.manPeriod then some (s.fld F.PWM_PERIOD_SH_ALL 0) else none
  late := decide (s.pwm.tk + s.reloadSpan < s.now + max 64 s.manFrame), gl := false }

theorem manCommit_rejected (h : s.allOff = false ∨ s.fld F.PWM_PERIOD_SH_ALL 0 < periodLo s.gait s.anyGl) :
    s.manCommit = s.setFlag F.PWM_GSTAT_MAN_REJ 0 true := by
  refine if_pos ?_
  rcases h with h | h
  · rw [h]
    rfl
  · rw [decide_eq_true h]
    exact Bool.or_true _

theorem manCommit_taken (hoff : s.allOff = true) (hp : periodLo s.gait s.anyGl ≤ s.fld F.PWM_PERIOD_SH_ALL 0) :
    s.manCommit = (s.modPwm fun w => { w with bundles := w.bundles ++ [s.manBundle], manSet := [], manPeriod := false }).cond s.manBundle.late
      fun t => t.lateLegs s.pwm.manSet := by
  have hgate : ¬ ((!s.allOff || decide (s.fld F.PWM_PERIOD_SH_ALL 0 < periodLo s.gait s.anyGl)) = true) := by
    rw [hoff, decide_eq_false (Nat.not_lt.mpr hp)]
    exact nofun
  unfold State.manCommit
  simp only [if_neg hgate]
  rfl

theorem cond_lateLegs_pwm (b : Bool) (l : List Nat) : (s.cond b fun t => t.lateLegs l).pwm = s.pwm := by
  unfold State.cond
  split
  · exact (State.lateLegs_in (Within.refl (Part.mask [.regs]) s) rfl l).only .pwm (by decide)
  · rfl

theorem manCommit_bundle (hoff : s.allOff = true) (hp : periodLo s.gait s.anyGl ≤ s.fld F.PWM_PERIOD_SH_ALL 0) :
    s.manCommit.pwm.bundles = s.pwm.bundles ++ [s.manBundle] ∧ s.manCommit.pwm.manSet = [] := by
  rw [manCommit_taken hoff hp, cond_lateLegs_pwm]
  exact ⟨rfl, rfl⟩

/-! ### Effects of a write -/

/-- With a source of the group active a clear of TRIPPED does nothing. -/
theorem tgStat_held {g : Nat} (h : s.groupSources g false ≠ []) (v : Word) : s.tgStat g v = s := by
  refine if_pos ?_
  rw [show (s.groupSources g false).isEmpty = false from by simpa using h]
  simp

theorem dlCtrl_kept {v : Word} (h : s.flag F.DL_CTRL_CAL_HOLD 0 = false ∨ bitOf v.toNat 31 = true) : s.dlCtrl v = s.writeMasked 0 0 0x278 v := by
  have hback : (s.flag F.DL_CTRL_CAL_HOLD 0 && !bitOf v.toNat 31) = false := by
    rcases h with h | h <;> rw [h] <;> simp
  unfold State.dlCtrl
  rw [hback]
  rfl

theorem dlCtrl_back {v : Word} (hold : s.flag F.DL_CTRL_CAL_HOLD 0 = true) (hv : bitOf v.toNat 31 = false) :
    s.dlCtrl v = (s.setFld F.DL_STAT_CAL_CODE 0 (s.fld F.DL_STAT_DL_CODE 0)).writeMasked 0 0 0x278 v := by
  unfold State.dlCtrl
  rw [hold, hv]
  rfl

/-- A slip of the word boundary on lane l. -/
def State.slipped (s : State) (l : Nat) : State :=
  let s1 := s.setFld F.LANE_STAT_COMMA_POS l ((s.fld F.LANE_STAT_COMMA_POS l + 9) % 10)
  { s1 with gl := { s1.gl with commas := vmod s1.gl.commas l fun _ => 0 } }

theorem laneSlip_odd {l : Nat} {v : Word} (h : v.toNat % 2 = 1) : s.laneSlip l v = s.slipped l := if_neg (by omega)

theorem slipped_shows (hw : s.Canon) (l : Nat) : (s.slipped l).fld F.LANE_STAT_COMMA_POS l = (s.fld F.LANE_STAT_COMMA_POS l + 9) % 10 ∧
    s.RegsBut (s.slipped l) [(F.LANE_STAT_COMMA_POS, l)] ∧ s.Only (s.slipped l) [.regs, .gl] := by
  have hset : (s.slipped l).fld F.LANE_STAT_COMMA_POS l = ((s.fld F.LANE_STAT_COMMA_POS l + 9) % 10) % 16 :=
    State.fld_setFld_same hw _ _ _ (by decide)
  refine ⟨by omega, (State.RegsBut.refl s _).setFld hw _ _ _ List.mem_cons_self (by decide), fun p hp => ?_⟩
  cases p <;> first | rfl | exact absurd hp (by decide)

theorem spurInj_rejected {v : Word} (hgo : bitOf v.toNat 31 = true) (hoff : s.spurOn = false) : s.spurInj v =
    ((s.setReg R.SPUR_INJ 0 (v &&& 0x7FFFFFFF#32)).count F.SPUR_STAT_REJ_CNT 0).post EV.EV_SPUR_REJECT (fieldOf v 29 26)
      (b2n (bitOf v.toNat 30)) := by
  unfold State.spurInj
  rw [hgo, hoff]
  rfl

/-! ### The quad-SPI -/

theorem wordOf_four : ∀ {l : List Byte}, l.length = 4 → wordOf (slice l 0 4) = wordOf l
  | [_, _, _, _], _ => rfl

/-- A byte of a WRITE outside the mailboxes that completes no word does nothing. -/
theorem shiftIn_part {a i : Nat} {l : List Byte} (h : a % 4 = 0) (hi : i < 3) (ha : a < 0x1000 ∨ 0x8000 ≤ a) (hlt : a < 65536) :
    s.shiftIn a l i = s := by
  have hram : (decide (0x1000 ≤ (a + i) % 65536) && decide ((a + i) % 65536 < 0x8000)) = false := by
    rw [Bool.and_eq_false_iff, decide_eq_false_iff_not, decide_eq_false_iff_not]
    omega
  unfold State.shiftIn
  simp only [hram, Bool.false_eq_true, if_false]
  exact if_neg (by omega)

theorem shiftIn_word {a : Nat} {l : List Byte} (h : a % 4 = 0) (hl : l.length = 4) (ha : a < 0x1000 ∨ 0x8000 ≤ a) (hlt : a < 65536) :
    s.shiftIn a l 3 = s.hostWrite 0 a (wordOf l) := by
  have hoff : (a + 3) % 65536 = a + 3 := by omega
  have hram : (decide (0x1000 ≤ a + 3) && decide (a + 3 < 0x8000)) = false := by
    rw [Bool.and_eq_false_iff, decide_eq_false_iff_not, decide_eq_false_iff_not]
    omega
  unfold State.shiftIn
  simp only [hoff, hram, Bool.false_eq_true, if_false]
  refine (if_pos ⟨by omega, Nat.le_refl _⟩).trans ?_
  rw [show a + 3 - 3 = a from by omega, show 3 - 3 = 0 from rfl, wordOf_four hl]

/-- Fewer than four bytes from an aligned address complete no word. -/
theorem foldl_shiftIn_part {a n : Nat} {l : List Byte} (h : a % 4 = 0) (hn : n ≤ 3) (ha : a < 0x1000 ∨ 0x8000 ≤ a) (hlt : a < 65536) :
    (List.range n).foldl (State.shiftIn a l) s = s := by
  induction n with
  | zero => rfl
  | succ n ih => rw [List.range_succ, List.foldl_append, ih (by omega), List.foldl_cons, List.foldl_nil, shiftIn_part h (by omega) ha hlt]

theorem shiftIn_byte {a : Nat} {b : Byte} (hlo : 0x1000 ≤ a) (hhi : a < 0x8000) : s.shiftIn a [b] 0 = s.ramWrite 0 a b := by
  have hoff : (a + 0) % 65536 = a := by omega
  unfold State.shiftIn
  simp only [hoff, decide_eq_true hlo, decide_eq_true hhi]
  rfl

/-- Settles O44: each write by the register it reaches. -/
theorem windowWritesComplete : Obligations.WindowWritesComplete := by
  unfold Obligations.WindowWritesComplete
  refine ⟨?_, ?_, ?_, ?_, ?_, ?_, ?_, ?_, ?_, ?_, ?_, ?_, ?_, ?_, ?_, ?_, ?_, ?_, ?_, ?_, ?_, ?_, ?_, ?_, ?_⟩
  · intro s p v ha
    exact congrArg Host.Outcome.next (hostWrite_taken ha (.inl (by decide)) v)
  · intro s p v ha hv
    exact congrArg Host.Outcome.next ((hostWrite_taken ha (.inl (by decide)) v).trans (if_pos hv))
  · intro s p v ha hv
    exact congrArg Host.Outcome.next ((hostWrite_taken ha (.inl (by decide)) v).trans (if_neg (by omega)))
  · intro s h
    exact manCommit_rejected h
  · intro s hoff hp
    obtain ⟨hb, hset⟩ := manCommit_bundle hoff hp
    exact ⟨s.manBundle, hb, rfl, rfl, decide_eq_true_iff, hset, (State.manCommit_in (Within.refl (Part.mask [.regs, .pwm]) s) rfl).only⟩
  · intro s p v ha hc hv hsrc
    exact ⟨_, rfl, congrArg Host.Outcome.next ((selWrite_taken ha hc hv (by decide) (by decide) v).trans (if_neg (by rw [hsrc]; exact nofun)))⟩
  · intro s p v ha hc hv hsrc
    exact congrArg Host.Outcome.next ((selWrite_taken ha hc hv (by decide) (by decide) v).trans (if_pos hsrc))
  · intro s p v ha hc hv
    have hexec : exec (.crossfireClear p v) s = .next (s.legStat (s.pathSt (pathNo p)).idx v) :=
      congrArg Host.Outcome.next (selWrite_taken ha hc hv (by decide) (by decide) v)
    refine ⟨fun hsw => ?_, fun hsw => ?_⟩ <;> rw [hexec, State.legStat, hsw] <;> rfl
  · intro s p v ha hc hv hsrc
    exact congrArg Host.Outcome.next ((selWrite_taken ha hc hv (by decide) (by decide) v).trans (tgStat_held hsrc v))
  · intro s p v ha hc hv
    exact congrArg Host.Outcome.next (selWrite_taken ha hc hv (by decide) (by decide) v)
  · intro s p v ha h
    exact congrArg Host.Outcome.next ((hostWrite_taken ha (.inl (by decide)) v).trans (dlCtrl_kept h))
  · intro s p v ha hold hv
    exact congrArg Host.Outcome.next ((hostWrite_taken ha (.inl (by decide)) v).trans (dlCtrl_back hold hv))
  · intro s p v
    exact ⟨fun hc => congrArg Host.Outcome.next (selWrite_other hc v), fun hc => congrArg Host.Outcome.next (selWrite_other hc v),
      fun hc => congrArg Host.Outcome.next (selWrite_other hc v), fun hc => congrArg Host.Outcome.next (selWrite_other hc v),
      fun hc => congrArg Host.Outcome.next (selWrite_other hc v)⟩
  · intro s p v hw ha hc hv hodd
    have hexec : exec (.laneSlipWrite p v) s = .next (s.slipped (s.pathSt (pathNo p)).idx) :=
      congrArg Host.Outcome.next ((selWrite_taken ha hc hv (by decide) (by decide) v).trans (laneSlip_odd hodd))
    exact ⟨_, hexec, slipped_shows hw _⟩
  · intro s p v ha
    refine ⟨_, congrArg Host.Outcome.next (hostWrite_taken ha (.inl (by decide)) v), ?_, ?_, pathSt_modPath_apart (pathNo_lt p) (pathNo_other p) _,
      pathSt_fencen p _, (State.modPath_in (Within.refl (Part.mask [.win]) s) rfl _ _).only⟩
    · exact congrArg PathSt.cls (State.pathSt_modPath_same s _ _)
    · exact congrArg PathSt.idx (State.pathSt_modPath_same s _ _)
  · intro s p v ha hc hv
    exact congrArg Host.Outcome.next (selWrite_taken ha hc hv (by decide) (by decide) v)
  · intro s p v ha
    exact congrArg Host.Outcome.next (hostWrite_taken ha (.inr (by decide)) v)
  · intro s p v ha
    exact congrArg Host.Outcome.next (hostWrite_taken ha (.inr (by decide)) v)
  · intro s v hgo hoff
    refine ⟨_, spurInj_rejected hgo hoff, ?_, ?_, ?_⟩
    · exact State.count_told (s := s.setReg R.SPUR_INJ 0 (v &&& 0x7FFFFFFF#32)) _ _ _ _ _
    · rw [State.post_spur, State.count_spur]
      rfl
    · rw [State.post_coef, State.count_coef]
      rfl
  · intro s p a v ha hoff
    exact congrArg Host.Outcome.next (hostWrite_taken ha hoff v)
  · intro s p a v ha hoff
    exact congrArg Host.Outcome.next (hostWrite_denied ha hoff v)
  · intro s p a v ha hoff
    exact congrArg Host.Outcome.next (hostWrite_closed ha hoff v)
  · intro s a b hlo hhi
    exact congrArg Host.Outcome.next (shiftIn_byte hlo hhi)
  · intro s a l h hl ha
    refine congrArg Host.Outcome.next ?_
    rw [hl, List.range_succ, List.foldl_append, foldl_shiftIn_part h (Nat.le_refl _) ha a.isLt]
    exact shiftIn_word h hl ha a.isLt
  · intro s a l h hl ha
    exact congrArg Host.Outcome.next (foldl_shiftIn_part h (by omega) ha a.isLt)

end Sys2Proof.Machine
end

section
/-!
PROOFS. The instructions of the Harness Logic Processor (R342, R343, Table 11.4).
-/
namespace Sys2Proof.Machine

variable {s : State}

/-! ### Fetched instructions -/

/-- The state with the instruction index at the next instruction. -/
def State.nextInsn (s : State) : State := s.modHlp fun h => { h with pc := h.pc + 1 }

theorem fetches_iff (op x : Nat) : s.fetches op x = true ↔ s.hlp.section_.isSome = true ∧ s.hlp.dbgHalted = false ∧
    (s.clkOk 2 = true ∨ s.hlp.padStop = true) ∧ s.hlp.prog.insn s.hlp.pc = op * 2 ^ 24 + x := by
  unfold State.fetches State.hlpClock
  rw [Bool.and_eq_true, Bool.and_eq_true, Bool.and_eq_true, Bool.or_eq_true, Bool.not_eq_true', beq_iff_eq]
  exact ⟨fun ⟨⟨⟨h1, h2⟩, h3⟩, h4⟩ => ⟨h1, h2, h3, h4⟩, fun ⟨h1, h2, h3, h4⟩ => ⟨⟨⟨h1, h2⟩, h3⟩, h4⟩⟩

theorem insn_runs {op x : Nat} (h : s.fetches op x = true) (f : State → State) : s.insn op x f = .next (f s.nextInsn) :=
  State.insn_fetched h f

/-- Moving the index leaves A. -/
theorem nextInsn_a : s.nextInsn.hlp.a = s.hlp.a := rfl

/-- An instruction on the popped bit, with a bit on the stack. -/
theorem popInsn_runs {op : Nat} {p : Bool} {l : List Bool} (hst : s.hlp.stack = p :: l) (h : s.fetches op 0 = true) (f : Bool → Bool → Bool) :
    s.popInsn op f = .next (s.nextInsn.modHlp fun h => { h with a := f s.hlp.a p, stack := l }) := by
  have hpop : (s.nextInsn.modHlp fun h => { h with a := f h.a (h.stack.headD false), stack := h.stack.tail }) =
      s.nextInsn.modHlp fun h => { h with a := f s.hlp.a (s.hlp.stack.headD false), stack := s.hlp.stack.tail } := rfl
  unfold State.popInsn
  rw [insn_runs h, hpop, hst]
  rfl

/-- Settles O39: each bit instruction by its row. -/
theorem hlpBitInstructionsComplete : Obligations.HlpBitInstructionsComplete := by
  unfold Obligations.HlpBitInstructionsComplete
  refine ⟨fun s op x => fetches_iff op x, ?_, ?_, ?_⟩
  · intro s u hu
    subst hu
    refine ⟨?_, ?_, ?_, fun p l hst => ⟨fun h => popInsn_runs hst h _, fun h => popInsn_runs hst h _⟩⟩ <;>
      exact fun h => congrArg Host.Outcome.next (if_pos h)
  · intro s u b hu
    subst hu
    and_intros <;> exact fun h => congrArg Host.Outcome.next (if_pos h)
  · intro s b
    and_intros <;> exact fun h => congrArg Host.Outcome.next (if_neg (Bool.eq_false_iff.mp h))

/-! ### Word instructions -/

/-- A value saturated to the signed 32-bit range. -/
theorem satWord_eq (v : Int) : satWord v = BitVec.ofInt 32 (max (-2 ^ 31) (min (2 ^ 31 - 1) v)) := by
  unfold satWord clampInt
  congr 1
  split
  · omega
  · split <;> omega

theorem decide_toInt_eq (x y : Word) : decide (x.toInt = y.toInt) = (x == y) := by
  rw [Bool.beq_eq_decide_eq]
  exact decide_eq_decide.mpr BitVec.toInt_inj

theorem decide_toInt_ne (x y : Word) : decide (x.toInt ≠ y.toInt) = (x != y) := by
  rw [bne, ← decide_toInt_eq]
  exact decide_not

/-- A comparison with a word ANDs into A. -/
theorem cmpInsn_runs {op w : Nat} (h : s.fetches op w = true) {f : Word → Word → Bool} {b : Bool} (hf : f s.hlp.w (s.hword w) = b) :
    s.cmpInsn op w f = .next (s.nextInsn.modHlp fun h => { h with a := s.hlp.a && b }) := by
  subst hf
  exact insn_runs h _

/-- Arithmetic saturates. -/
theorem satInsn_runs {op w : Nat} (h : s.fetches op w = true) {v : State → Int} (hv : v s.nextInsn = v s) :
    s.insn op w (fun t => t.setW (satWord (v t))) =
      .next (s.nextInsn.modHlp fun h => { h with w := BitVec.ofInt 32 (max (-2 ^ 31) (min (2 ^ 31 - 1) (v s))) }) := by
  rw [insn_runs h, hv, satWord_eq]
  rfl

theorem insn_unless {op x : Nat} (h : s.fetches op x = true) (f : State → State) :
    s.insn op x (fun t => t.cond (!t.hlp.a) f) = .next (if s.hlp.a then s.nextInsn else f s.nextInsn) := by
  rw [insn_runs h, nextInsn_a]
  cases s.hlp.a <;> rfl

/-- END of CYCLIC ends the section; END of another section also ends the start. -/
theorem execHlpEnd_runs (h : s.fetches 0x33 0 = true) : exec .hlpEnd s =
    .next (s.nextInsn.modHlp fun h => { h with section_ := none, initDone := h.initDone || s.hlp.section_ != some 2 }) :=
  congrArg Host.Outcome.next (if_pos h)

/-- END of CYCLIC. -/
theorem execHlpEnd_cyclic (h : s.fetches 0x33 0 = true) (hs : s.hlp.section_ = some 2) :
    exec .hlpEnd s = .next (s.nextInsn.modHlp fun h => { h with section_ := none }) := by
  rw [execHlpEnd_runs h, hs]
  exact congrArg (fun b => Host.Outcome.next (s.nextInsn.modHlp fun h => { h with section_ := none, initDone := b }))
    (Bool.or_false s.hlp.initDone)

/-- END of COLD or WARM. -/
theorem execHlpEnd_init (h : s.fetches 0x33 0 = true) (hs : s.hlp.section_ ≠ some 2) :
    exec .hlpEnd s = .next (s.nextInsn.modHlp fun h => { h with section_ := none, initDone := true }) := by
  rw [execHlpEnd_runs h, bne_iff_ne.mpr hs]
  exact congrArg (fun b => Host.Outcome.next (s.nextInsn.modHlp fun h => { h with section_ := none, initDone := b }))
    (Bool.or_true s.hlp.initDone)

theorem fpLt_nan {x y : F32} (h : fIsNan x = true ∨ fIsNan y = true) : fpLt x y = false := by
  unfold fpLt
  rcases h with h | h <;> simp only [h, Bool.not_true, Bool.false_and, Bool.and_false]

/-- Settles O40: each word instruction by its row. -/
theorem hlpWordInstructionsComplete : Obligations.HlpWordInstructionsComplete := by
  unfold Obligations.HlpWordInstructionsComplete
  refine ⟨?_, ?_, fun x y h => fpLt_nan h, ?_⟩
  · intro s u w hu
    subst hu
    refine ⟨?_, ?_, ?_, ?_, ?_, ?_, ?_, ?_, ?_, fun h => satInsn_runs (v := fun t => t.hlp.w.toInt + (t.hword w.toNat).toInt) h rfl,
      fun h => satInsn_runs (v := fun t => t.hlp.w.toInt - (t.hword w.toNat).toInt) h rfl,
      fun h => cmpInsn_runs (f := fun x y => decide (x.toInt = y.toInt)) h (decide_toInt_eq _ _),
      fun h => cmpInsn_runs (f := fun x y => decide (x.toInt ≠ y.toInt)) h (decide_toInt_ne _ _), ?_, ?_, ?_, ?_, ?_, ?_⟩ <;>
      exact fun h => congrArg Host.Outcome.next (if_pos h)
  · intro s u k i r hu
    subst hu
    refine ⟨?_, ?_, ?_, fun h => insn_unless h _, ?_, execHlpEnd_cyclic, execHlpEnd_init⟩ <;>
      exact fun h => congrArg Host.Outcome.next (if_pos h)
  · intro s w k i r
    and_intros <;> exact fun h => congrArg Host.Outcome.next (if_neg (Bool.eq_false_iff.mp h))

end Sys2Proof.Machine
end

section
/-!
PROOFS. QUERY: what each command returns (R120, R404, R456, Table 14.7).
-/
namespace Sys2Proof.Machine

variable {s : State} {op : Nat} {tag : Fin 128} {e : Entry}

/-- A command that Fencen answers at once. -/
theorem State.Serves.answer (h : s.Serves op tag e) (res pay : List Byte) : (s.answer tag res pay).Answered tag FS.FS_OK res pay := by
  have hdone := h.completed (status := FS.FS_OK) 0 res pay (by decide)
  rw [h.tag_eq] at hdone
  exact hdone

theorem answer_only (k : Nat) (res pay : List Byte) : s.Only (s.answer k res pay) [.fcp, .macs] := State.complete_only _ _ _ _ _

/-- The registers that Q_REG names: class, index and offset of each entry. -/
def Entry.regsNamed (e : Entry) : List (Nat × Nat × Nat) :=
  (List.range (e.a 0)).map fun k => (leAt e.payload (4 * k) 1, leAt e.payload (4 * k + 1) 1, leAt e.payload (4 * k + 2) 2)

theorem regsNamed_aligned (h : ∀ k < e.a 0, leAt e.payload (4 * k + 2) 2 % 4 = 0) : (e.regsNamed.any fun x => x.2.2 % 4 != 0) = false := by
  rw [Entry.regsNamed, List.any_map, List.any_eq_false]
  intro k hk
  simp [h k (List.mem_range.mp hk)]

/-- Q_REG with a payload in order reads the registers one after another. -/
theorem execQReg_taken (h : s.Serves 0x0405 tag e) (hlo : 1 ≤ e.a 0) (hhi : e.a 0 ≤ 64) (hlen : e.payload.length = 4 * e.a 0)
    (hclr : e.a 1 ≤ 1) (hal : ∀ k < e.a 0, leAt e.payload (4 * k + 2) 2 % 4 = 0) {r : List Word × State}
    (hr : e.regsNamed.foldl (fun (a : List Word × State) x =>
      (a.1 ++ [(a.2.fencenRead (e.a 1 == 1) x.1 x.2.1 x.2.2).1], (a.2.fencenRead (e.a 1 == 1) x.1 x.2.1 x.2.2).2)) ([], s) = r) :
    exec (.qReg tag) s = .next (r.2.answer tag [] (wordBytes r.1)) := by
  subst hr
  have hpar : ¬ ((decide (e.a 0 = 0) || decide (64 < e.a 0) || decide (1 < e.a 1) || e.regsNamed.any fun x => x.2.2 % 4 != 0) = true) := by
    rw [regsNamed_aligned hal, decide_eq_false (by omega), decide_eq_false (by omega), decide_eq_false (by omega)]
    exact nofun
  exact (serve_eq h _).trans (congrArg _ ((if_neg (by rw [hlen]; simp)).trans (if_neg hpar)))

/-- Settles O24: each command by what it answers with. -/
theorem queryCommandsComplete : Obligations.QueryCommandsComplete := by
  unfold Obligations.QueryCommandsComplete
  refine ⟨?_, ?_, ?_, ?_, ?_, ?_⟩
  · intro s tag e h hi
    exact ⟨_, (serve_eq h _).trans (congrArg _ (if_neg (Nat.not_le.mpr hi))), h.answer _ _, answer_only _ _ _⟩
  · intro s tag e h hi
    exact ⟨_, (serve_eq h _).trans (congrArg _ (if_neg (Nat.not_le.mpr hi))), h.answer _ _, answer_only _ _ _⟩
  · intro s tag e h hi
    exact ⟨_, (serve_eq h _).trans (congrArg _ (if_neg (Nat.not_le.mpr hi))), h.answer _ _, answer_only _ _ _⟩
  · intro s tag e h hi
    exact ⟨_, (serve_eq h _).trans (congrArg _ (if_neg (Nat.not_le.mpr hi))), h.answer _ _, answer_only _ _ _⟩
  · intro s tag e h hlo hhi hlen hclr hal
    exact execQReg_taken h hlo hhi hlen hclr hal List.foldl_map
  · intro s tag e h
    refine ⟨_, serve_eq h _, answer_only _ _ _, fun l hl => ?_⟩
    subst hl
    exact h.answer _ _

end Sys2Proof.Machine
end

section
/-!
PROOFS. Mailboxes and their host bindings (R373 to R392).
-/
namespace Sys2Proof.Machine

variable {s : State}

/-- Two changes of a mailbox that agree on what it holds. -/
theorem box_congr {m : Nat} {f g : Mailbox → Mailbox} (h : f (vget s.fcp.boxes m) = g (vget s.fcp.boxes m)) : s.box m f = s.box m g :=
  congrArg (fun v => ({ s with fcp := { s.fcp with boxes := v } } : State)) (vmod_congr s.fcp.boxes h)

theorem guarded_taken {p off : Nat} (ha : s.access p off true = 0) (f : State → State) : s.guarded p off true f = f s := by
  unfold State.guarded
  rw [ha]
  rfl

/-! ### The quad-SPI mailboxes -/

theorem bell_serves {m v : Nat} (hv : v % 2 = 1) (hb : vget s.fcp.busy m = false) (hc : s.svpClock = true) : s.bell m v = s.doorbell m :=
  (if_neg (by rw [hb, hv]; exact nofun)).trans (if_neg (by rw [hc]; exact nofun))

/-- A command in the window that Table 13.2 admits. -/
theorem doorbell_admits {m : Nat} (ho : (vget s.fcp.boxes m).isOpen = true) {hdr pay : List Byte} (hh : s.mbBytes (mbBase m + 0x40) 64 = hdr)
    (hp : s.mbBytes (mbBase m + 0x80) (min 1024 (leAt hdr 4 2)) = pay) (hcode : s.admitCode m hdr pay = 0) :
    s.doorbell m = (s.box m fun b => { b with refuse := 0 }).takeCmd m hdr pay := by
  subst hh
  subst hp
  unfold State.doorbell
  simp only [ho, if_true, hcode]

theorem headWrite_consumes {m v n : Nat} (hn : n = (v % 16 + 16 - (vget s.fcp.boxes m).head) % 16) (hlo : 1 ≤ n)
    (hhi : n ≤ (vget s.fcp.boxes m).posted.length) :
    s.headWrite m v = s.box m fun b => { b with head := v % 16, posted := b.posted.drop n } := by
  subst hn
  exact (if_neg (by omega)).trans (if_pos hhi)

/-! ### Transport messages -/

theorem message_deaf {m : Nat} (h : s.mbHears m = false) (msg : List Byte) : s.message m msg = s := if_pos (by rw [h]; rfl)

theorem message_unbound {m : Nat} (hh : s.mbHears m = true) (hb : s.hostBound m = false) (msg : List Byte) :
    s.message m msg = s.count F.MB_STAT_SRC_CNT m := (if_neg (by rw [hh]; exact nofun)).trans (if_pos (by rw [hb]; rfl))

/-- A message of a bound host for a mailbox that hears is served by its type. -/
theorem message_served {m : Nat} {msg : List Byte} (hh : s.mbHears m = true) (hb : s.hostBound m = true) (hm : leAt msg 1 1 = m) :
    s.message m msg = match leAt msg 0 1 with
      | 1 => s.cmdMessage m msg
      | 4 => s.ackMessage m msg
      | 6 => s.notice m
      | _ => s :=
  (if_neg (by rw [hh]; exact nofun)).trans ((if_neg (by rw [hb]; exact nofun)).trans (if_neg (by rw [hm]; simp)))

/-- A command with the expected number that Table 13.2 admits. -/
theorem cmdMessage_admits {m : Nat} {msg : List Byte} (ho : (vget s.fcp.boxes m).isOpen = true) (hep : leAt msg 2 2 = s.fld F.FCP_EPOCH_ALL 0)
    (hseq : (vget s.fcp.boxes m).cseq = leAt msg 4 2)
    (hcode : s.admitCode m (slice msg 8 64) ((msg.drop 72).take (leAt (slice msg 8 64) 4 2)) = 0) {t : State}
    (ht : t = s.takeCmd m (slice msg 8 64) ((msg.drop 72).take (leAt (slice msg 8 64) 4 2))) :
    s.cmdMessage m msg = (t.box m fun b => { b with
      cseq := (b.cseq + 1) % 65536, admits := ((0, t.credits m) :: b.admits).take 16 }).sendAdmit m (leAt msg 4 2) 0 := by
  subst ht
  have hback : ((vget s.fcp.boxes m).cseq + 65536 - leAt msg 4 2) % 65536 = 0 := by omega
  exact (if_neg (by rw [ho]; exact nofun)).trans ((if_neg (by rw [hep]; simp)).trans ((if_pos hback).trans (if_pos hcode)))

/-! ### Segments -/

/-- A segment whose place is the last completes the message. -/
theorem segTake_last {m : Nat} {bytes all : List Byte} (hn : (vget s.fcp.boxes m).segNext + 1 = leAt bytes 1 1)
    (hall : (vget s.fcp.boxes m).segBytes ++ (bytes.drop 2).take 62 = all) :
    s.segTake m bytes = (s.box m fun b => { b with segBytes := [], segNext := 0, segCount := 0 }).message m (all.take (messageLength all)) := by
  subst hall
  exact if_pos hn

/-- A segment in its turn is added. -/
theorem segTake_more {m : Nat} {bytes : List Byte} (hn : (vget s.fcp.boxes m).segNext + 1 ≠ leAt bytes 1 1) :
    s.segTake m bytes = s.box m fun b => { b with
      segBytes := (vget s.fcp.boxes m).segBytes ++ (bytes.drop 2).take 62, segNext := b.segNext + 1, segCount := leAt bytes 1 1 } := if_neg hn

theorem execCanSegment_first {can : Fin 2} {bytes : List Byte} (h0 : leAt bytes 0 1 = 0) (hn : 1 ≤ leAt bytes 1 1)
    (hc : (vget s.fcp.boxes (6 + can.val)).segCount = 0) : exec (.canSegment can true bytes) s = .next (s.segTake (6 + can) bytes) := by
  refine congrArg Host.Outcome.next ((if_neg nofun).trans ((if_pos h0).trans ((if_neg (by omega)).trans ?_)))
  rw [if_pos hc]

theorem execCanSegment_inTurn {can : Fin 2} {bytes : List Byte} {b : Mailbox} (hb : b = vget s.fcp.boxes (6 + can.val)) (hlo : 0 < b.segNext)
    (hi : leAt bytes 0 1 = b.segNext) (hn : leAt bytes 1 1 = b.segCount) (hc : b.segCount ≠ 0) :
    exec (.canSegment can true bytes) s = .next (s.segTake (6 + can) bytes) := by
  subst hb
  refine congrArg Host.Outcome.next ((if_neg nofun).trans ((if_neg (by omega)).trans (if_neg ?_)))
  rw [hi, hn, decide_eq_false hc]
  simp

theorem execCanSegment_outOfTurn {can : Fin 2} {bytes : List Byte} {b : Mailbox} (hb : b = vget s.fcp.boxes (6 + can.val))
    (h0 : leAt bytes 0 1 ≠ 0) (h : b.segCount = 0 ∨ leAt bytes 0 1 ≠ b.segNext ∨ leAt bytes 1 1 ≠ b.segCount) :
    exec (.canSegment can true bytes) s = .next (s.segDrop (6 + can)) := by
  subst hb
  refine congrArg Host.Outcome.next ((if_neg nofun).trans ((if_neg h0).trans (if_pos ?_)))
  rcases h with h | h | h
  · rw [decide_eq_true h]
    rfl
  · rw [bne_iff_ne.mpr h]
    simp
  · rw [bne_iff_ne.mpr h]
    simp

/-- Settles O1: the quad-SPI mailboxes, the transport messages and their segments. -/
theorem mailboxCommandsComplete : Obligations.MailboxCommandsComplete := by
  unfold Obligations.MailboxCommandsComplete
  refine ⟨?_, ?_, ?_, ?_, ?_, ?_, ?_, ?_, ?_, ?_, ?_, ?_, ?_, ?_, ?_⟩
  · intro s mb value ha hv hbusy hclk hopen hcode
    exact congrArg Host.Outcome.next ((guarded_taken ha _).trans ((bell_serves hv hbusy hclk).trans (doorbell_admits hopen rfl rfl hcode)))
  · intro s mb value n ha hn hlo hhi
    exact congrArg Host.Outcome.next ((guarded_taken ha _).trans (headWrite_consumes hn hlo hhi))
  · intro s mb bytes h1 hm hh hb hopen hep _ hseq hcode
    have hserve := message_served hh hb hm
    rw [h1] at hserve
    exact ⟨_, rfl, congrArg Host.Outcome.next ((if_pos h1).trans (hserve.trans (cmdMessage_admits hopen hep hseq hcode rfl)))⟩
  · intro s mb bytes h4 hm hh hb
    have hserve := message_served hh hb hm
    rw [h4] at hserve
    exact congrArg Host.Outcome.next ((if_pos h4).trans hserve)
  · intro s mb hh hb
    exact congrArg Host.Outcome.next ((if_neg (by rw [hh]; exact nofun)).trans (if_neg (by rw [hb]; exact nofun)))
  · intro s tag p htag hruns hp
    refine congrArg Host.Outcome.next ((if_neg ?_).trans ?_)
    · rw [hruns, decide_eq_false (by omega)]
      exact nofun
    · rw [hp]
      rfl
  · intro s can bytes h0 hn hc hnext hbytes
    rw [execCanSegment_first h0 (Nat.le_of_eq hn.symm) hc, segTake_last (all := (bytes.drop 2).take 62) (by rw [hnext, hn]) (by rw [hbytes]; rfl)]
  · intro s can hc
    exact congrArg Host.Outcome.next (if_neg hc)
  · intro s can bytes h0 hn hc hnext hbytes
    rw [execCanSegment_first h0 (by omega) hc, segTake_more (by rw [hnext]; omega)]
    exact congrArg Host.Outcome.next (box_congr (by rw [hnext, hbytes]; rfl))
  · intro s can bytes b hb hlo hi hn hc hmore
    rw [execCanSegment_inTurn hb hlo hi hn hc, segTake_more (by rw [← hb, hn]; exact hmore)]
    exact congrArg Host.Outcome.next (box_congr (by rw [← hb, hn]))
  · intro s can bytes all b hb hlo hi hn hc hlast hall
    rw [execCanSegment_inTurn hb hlo hi hn hc, segTake_last (all := all) (by rw [← hb, hn]; exact hlast) (by rw [← hb]; exact hall.symm)]
  · intro s can bytes b hb h0 h
    exact execCanSegment_outOfTurn hb h0 h
  · intro s can bytes
    rfl
  · intro s mb bytes hh hb
    exact message_unbound hh hb bytes
  · intro s mb bytes hh
    exact message_deaf hh bytes

end Sys2Proof.Machine
end
